-- ==== Sys2Proof/Word.lean ====
section
/-!
DEFINITION. The word types of the device and the plain arithmetic on them: the bit fields of a register word
(00_scope.md, R11 and the convention `name[hi:lo]`), saturating counters and half-open ranges.
-/
namespace Sys2Proof

/-- One byte of device memory. -/
abbrev Byte := BitVec 8
/-- A 32-bit CSR or a 32-bit lane. -/
abbrev W32 := BitVec 32
/-- A 64-bit CSR, a scalar register, a handle seed. -/
abbrev W64 := BitVec 64

/-- Whether bit `i` of a natural number is one. -/
def natBit (x i : Nat) : Bool := x.testBit i

/-- Field `[lo + len - 1 : lo]` of a number, right-aligned. -/
def natFld (x lo len : Nat) : Nat := (x >>> lo) % 2 ^ len

/-- Field `name[hi:lo]` of a 64-bit word, as a number. -/
def fld (w : W64) (hi lo : Nat) : Nat := natFld w.toNat lo (hi + 1 - lo)

/-- The word whose bits `hi` to `lo` are one. -/
def fldMask (hi lo : Nat) : W64 := BitVec.ofNat 64 ((2 ^ (hi + 1 - lo) - 1) <<< lo)

/-- A 64-bit word with field `[hi:lo]` replaced by the low bits of `x`. -/
def setFld (w : W64) (hi lo x : Nat) : W64 :=
  (w &&& ~~~ fldMask hi lo) ||| (BitVec.ofNat 64 (x <<< lo) &&& fldMask hi lo)

/-- Bit `i` of a word. -/
def bitOf (w : W64) (i : Nat) : Bool := w.getLsbD i

/-- A word with bit `i` set to `b`. -/
def setBit (w : W64) (i : Nat) (b : Bool) : W64 := setFld w i i b.toNat

/-- A Boolean as the number 0 or 1. -/
def b2n (b : Bool) : Nat := if b then 1 else 0

/-- Addition that stops at `top` (the saturating counters of the register tables). -/
def satAdd (top x n : Nat) : Nat := min top (x + n)

/-- The number of one bits among bits 0 to `n - 1`. -/
def popCount (x : Nat) : Nat → Nat
  | 0 => 0
  | n + 1 => popCount x n + b2n (natBit x n)

/-- The numbers below `n` whose bit is one in `x`, ascending. -/
def bitsSet (x n : Nat) : List Nat := (List.range n).filter (natBit x)

/-- The lowest one bit of `x` among bits 0 to `n - 1`. -/
def lowestBit (x n : Nat) : Option Nat := (List.range n).find? (natBit x)

/-- A number from bytes in little-endian order (R11). -/
def leNat : List Byte → Nat
  | [] => 0
  | b :: bs => b.toNat + 256 * leNat bs

/-- `n` bytes of a number in little-endian order (R11). -/
def leBytes : Nat → Nat → List Byte
  | 0, _ => []
  | n + 1, x => BitVec.ofNat 8 x :: leBytes n (x / 256)

/-- Rounding a length up to a whole number of units. -/
def ceilDiv (x y : Nat) : Nat := (x + y - 1) / y

/-- A list cut into pieces of `n` elements; the fuel is an upper bound on the number of pieces. -/
def chunksOf {α : Type} (n : Nat) : Nat → List α → List (List α)
  | 0, _ => []
  | _ + 1, [] => []
  | fuel + 1, l => l.take n :: chunksOf n fuel (l.drop n)

/-- `l` with element `i` replaced through `f`; unchanged when `i` is out of range. -/
def updAt {α : Type} (l : List α) (i : Nat) (f : α → α) : List α := l.modify i f

/-- The distance from `b` up to `a`, modulo 2^32. -/
def sub32 (a b : Nat) : Nat := (BitVec.ofNat 32 a - BitVec.ofNat 32 b).toNat

end Sys2Proof
end

