-- ==== Sys2Proof/Types.lean ====
section
/-!
DEFINITION. The plain types that commands and state share: agents and their numbers (R24), events (R660), power
domains (R50) and the causes and outcomes that arrive from outside the device with a command.
-/
namespace Sys2Proof

/-- The agents that hardware names (R24). Host function 0 is PF0 and function `m` is VF`m`. -/
inductive Agent where
  | none | sec | pmc | sch | fab
  | ccc (c : Fin 64)
  | bdc (n : Fin 12)
  | host (h : Fin 2) (f : Fin 5)
deriving DecidableEq, Repr, Inhabited

/-- The 8-bit agent number of R24. -/
def Agent.num : Agent → Nat
  | .none => 0x00
  | .sec => 0x01
  | .pmc => 0x02
  | .sch => 0x03
  | .fab => 0x04
  | .ccc c => 0x10 + c.val
  | .bdc n => 0x50 + n.val
  | .host h f => 0x60 + 8 * h.val + f.val

/-- Whether an agent number is one that hardware may stamp (R25). -/
def agentListed (a : Nat) : Bool :=
  decide (1 ≤ a ∧ a ≤ 4) || decide (0x10 ≤ a ∧ a ≤ 0x4F) || decide (0x50 ≤ a ∧ a ≤ 0x5B)
    || decide (0x60 ≤ a ∧ a ≤ 0x64) || decide (0x68 ≤ a ∧ a ≤ 0x6C)

/-- Firmware cores, as against the host functions. -/
def Agent.isFirmware : Agent → Bool
  | .none => false
  | .host _ _ => false
  | _ => true

/-- Whether an agent is the physical function of a host port. -/
def Agent.isPf0 : Agent → Bool
  | .host _ f => f.val == 0
  | _ => false

/-- The unit field of an event record, R660 word 1: kind in bits 15:12 and index in bits 11:0. -/
inductive EvUnit where
  | none
  | port (p : Nat)
  | stack (n : Nat)
  | cluster (c : Nat)
  | router
  | hostPort (h : Nat)
  | domain (i : Nat)
  | sensor (j : Nat)
  | component (k : Nat)
deriving DecidableEq, Repr, Inhabited

/-- The 16-bit coding of the unit field (R660). -/
def EvUnit.code : EvUnit → Nat
  | .none => 0
  | .port p => 0x1000 + p % 4096
  | .stack n => 0x2000 + n % 4096
  | .cluster c => 0x3000 + c % 4096
  | .router => 0x4000
  | .hostPort h => 0x5000 + h % 4096
  | .domain i => 0x6000 + i % 4096
  | .sensor j => 0x7000 + j % 4096
  | .component k => 0x8000 + k % 4096

/-- An event as it reaches the recorder: the fields of R660 that identify it (R662). `name` is the three-digit name
of R659, class in bits 11:8 and number in bits 7:0. -/
structure Event where
  name : Nat
  agent : Nat := 0
  part : Option Nat := none
  unit : EvUnit := .none
  detail : W64 := 0
deriving DecidableEq, Repr, Inhabited

/-- The stored 16-bit code of an event name: 0xcNN becomes 0xc0NN (R659). -/
def Event.code (e : Event) : Nat := (e.name / 256) * 4096 + e.name % 256

/-- What brings a cold reset about (R609), beside a request in PMC_RESET. -/
inductive ColdCause where
  | auxPower | resetPin
deriving DecidableEq, Repr, Inhabited

/-- What wakes the device from Doze (R625): a captured write or a doorbell of a function, a management-bus write to PMC_STATE_REQ,
a packet on VC M, or a request-class packet. -/
inductive WakeSource where
  | hostWrite | busWrite | vcM | request
deriving DecidableEq, Repr, Inhabited

/-- What the budget controller sees and does for a partition at a tick (R628, R640): its 100 ms average power in W, and the move of its
stretch, at most 16. -/
structure BudgetMove where
  part : Fin 4
  watts : Fin 2048
  raise : Bool
  amount : Fin 17
deriving DecidableEq, Repr, Inhabited

/-- A transfer on the management bus (R633). -/
inductive BusTransfer where
  | read (index : Nat)
  | write (index : Nat) (data : List Byte)
deriving DecidableEq, Repr, Inhabited

/-- A packet of the fabric (R342, R389, R398): header words N1 and N2, payload and the two piece checks. -/
structure Packet where
  dst : Nat := 0
  domain : Nat := 0
  src : Nat := 0
  cls : Nat := 0
  hops : Nat := 0
  cmark : Bool := false
  fence : Bool := false
  mcast : Bool := false
  seq : Nat := 0
  op : Nat := 0
  xid : Nat := 0
  payload : List Byte := []
  check0 : W32 := 0
  check1 : W32 := 0
deriving DecidableEq, Repr, Inhabited

/-- plen of a packet. -/
def Packet.plen (p : Packet) : Nat := p.payload.length

/-- Who asked for a transaction: a stream-engine transfer (lead, token), a collective engine, a sealed-weight load (slot), or
firmware. -/
inductive JobOwner where
  | dmx (q tok : Nat)
  | clx (q : Nat)
  | seal (slot : Nat)
  | firmware
deriving DecidableEq, Repr, Inhabited

/-- A transaction that a source is to make (R399): operation of its first packet, remote handle and offset, length, the
local store of its bytes, and what the operation carries. -/
structure NetJob where
  owner : JobOwner
  op : Nat
  domain : Nat
  handle : Nat := 0
  offset : Nat := 0
  len : Nat := 0
  store : Nat := 0
  /-- aop of an ATOMIC, signal of a DBELL -/
  sub : Nat := 0
  operand1 : W64 := 0
  operand2 : W64 := 0
  notify : Option Nat := none
  /-- the last packet is a heel -/
  fence : Bool := false
  payload : List Byte := []
  /-- direction, consumer selection and expected hop values of a multicast (R416) -/
  mcast : Option (Nat × Nat × Nat × Nat) := none
deriving DecidableEq, Repr, Inhabited

/-- The link word N0 of a frame (R342). `mbz` holds bits 63:55. -/
structure LinkWord where
  lsn : Nat := 0
  ackLsn : Nat := 0
  ackV : Bool := false
  nak : Bool := false
  vc : Nat := 0
  crV : Bool := false
  crVc : Nat := 0
  crUnits : Nat := 0
  ftype : Nat := 0
  mbz : Nat := 0
deriving DecidableEq, Repr, Inhabited

/-- The bits of N0 (R342). -/
def LinkWord.bits (l : LinkWord) : Nat :=
  l.lsn % 2 ^ 16 + l.ackLsn % 2 ^ 16 * 2 ^ 16 + b2n l.ackV * 2 ^ 32 + b2n l.nak * 2 ^ 33 + l.vc % 8 * 2 ^ 34 + b2n l.crV * 2 ^ 37
    + l.crVc % 8 * 2 ^ 38 + l.crUnits % 2 ^ 12 * 2 ^ 41 + l.ftype % 4 * 2 ^ 53 + l.mbz % 2 ^ 9 * 2 ^ 55

/-- N0 from its bits (R342). -/
def LinkWord.ofBits (w : Nat) : LinkWord :=
  { lsn := natFld w 0 16, ackLsn := natFld w 16 16, ackV := natBit w 32, nak := natBit w 33, vc := natFld w 34 3,
    crV := natBit w 37, crVc := natFld w 38 3, crUnits := natFld w 41 12, ftype := natFld w 53 2, mbz := natFld w 55 9 }

/-- The bits of N1 (R342). -/
def Packet.n1 (p : Packet) : Nat :=
  p.dst % 2 ^ 20 + p.domain % 2 ^ 12 * 2 ^ 20 + p.src % 2 ^ 20 * 2 ^ 32 + p.cls % 8 * 2 ^ 52 + p.hops % 2 ^ 6 * 2 ^ 55
    + b2n p.cmark * 2 ^ 61 + b2n p.fence * 2 ^ 62 + b2n p.mcast * 2 ^ 63

/-- The bits of N2 (R342). -/
def Packet.n2 (p : Packet) : Nat :=
  p.seq % 2 ^ 32 + p.op % 2 ^ 6 * 2 ^ 32 + p.plen % 2 ^ 14 * 2 ^ 38 + p.xid % 2 ^ 12 * 2 ^ 52

/-- A fabric-mode frame after its Ethernet header (R340): three header words, payload and trailer. A link control frame has
its code and argument in n1 and n2 (R344). -/
structure Frame where
  link : LinkWord := {}
  n1 : Nat := 0
  n2 : Nat := 0
  payload : List Byte := []
  check0 : W32 := 0
  check1 : W32 := 0
deriving DecidableEq, Repr, Inhabited

/-- plen as the header gives it. -/
def Frame.plen (f : Frame) : Nat := natFld f.n2 38 14

/-- The packet of a data frame (R342). -/
def Frame.packet (f : Frame) : Packet :=
  { dst := natFld f.n1 0 20, domain := natFld f.n1 20 12, src := natFld f.n1 32 20, cls := natFld f.n1 52 3,
    hops := natFld f.n1 55 6, cmark := natBit f.n1 61, fence := natBit f.n1 62, mcast := natBit f.n1 63,
    seq := natFld f.n2 0 32, op := natFld f.n2 32 6, xid := natFld f.n2 52 12,
    payload := f.payload, check0 := f.check0, check1 := f.check1 }

/-- The frame that carries a packet. -/
def Packet.frame (p : Packet) (l : LinkWord) : Frame :=
  { link := l, n1 := p.n1, n2 := p.n2, payload := p.payload, check0 := p.check0, check1 := p.check1 }

/-- Bytes of a frame with this plen, without its FCS (R340). -/
def frameLen (plen : Nat) : Nat := max 60 (38 + plen + (if 0 < plen then 8 else 0))

/-- A 48-bit address register as bytes: its first transmitted byte in bits 7:0 (R371). -/
def macBytes (m : Nat) : List Byte := leBytes 6 m

/-- The bytes of a frame from its destination address to its padding; the FCS follows them on the link (R340). -/
def Frame.bytes (f : Frame) (dst src etype : Nat) : List Byte :=
  let b := macBytes dst ++ macBytes src ++ [BitVec.ofNat 8 (etype / 256), BitVec.ofNat 8 etype]
    ++ leBytes 8 f.link.bits ++ leBytes 8 f.n1 ++ leBytes 8 f.n2 ++ f.payload
    ++ (if f.payload.isEmpty then [] else leBytes 4 f.check0.toNat ++ leBytes 4 f.check1.toNat)
  b ++ List.replicate (60 - b.length) 0

/-- A frame from the bytes that follow its Ethernet header. -/
def Frame.ofBytes (b : List Byte) : Frame :=
  let n2 := leNat ((b.drop 30).take 8)
  let n := natFld n2 38 14
  let t := b.drop (38 + n)
  { link := LinkWord.ofBits (leNat ((b.drop 14).take 8)), n1 := leNat ((b.drop 22).take 8), n2 := n2,
    payload := (b.drop 38).take n,
    check0 := if 0 < n then BitVec.ofNat 32 (leNat (t.take 4)) else 0,
    check1 := if 0 < n then BitVec.ofNat 32 (leNat ((t.drop 4).take 4)) else 0 }

/-- A frame as a port receives it (R343): whether its FCS and its codewords are good, and its bytes without the FCS. -/
structure Arrival where
  good : Bool
  bytes : List Byte
  /-- uncorrectable codewords, and corrected bits of each lane, among the codewords that carried it (R372) -/
  ucw : Nat := 0
  cbits : List Nat := []
deriving DecidableEq, Repr, Inhabited

/-- The contents of an LLDP frame of the device's own kind (R360): Chassis ID, Port ID, Time To Live and the node, port,
fabric and echo TLVs; `fabric` is false on a host-network port, which sends neither of the last two (R365). -/
structure Lldp where
  chassis : Nat
  portId : Nat
  ttl : Nat := 4
  node : Nat
  hubId : Nat
  serial : W64
  port : Nat
  entry : Nat
  lanePass : Nat
  width : Nat
  quiet : Bool
  quietAllow : Bool
  fabric : Bool := true
  fmRole : Bool := false
  fmNode : Nat := 0xFFFFF
  machine : W64 := 0
  epoch : Bool := false
  echoMac : Nat := 0
  echoPort : Nat := 0
deriving DecidableEq, Repr, Inhabited

/-- A Noreo frame in host-network form (R362), with the fields of its Ethernet, 802.1Q, IPv6 and UDP headers. -/
structure HnFrame where
  mac : Nat
  vid : Nat
  pcp : Nat
  dscp : Nat := 0
  ecn : Nat := 2
  label : Nat := 0
  extHeader : Bool := false
  hopLimit : Nat := 64
  srcAddr : BitVec 128
  dstAddr : BitVec 128
  srcPort : Nat
  dstPort : Nat
  vc : Nat
  pkt : Packet
deriving DecidableEq, Repr, Inhabited

/-- What arrives on a host-network port (R362 to R365). -/
inductive HnArrival where
  /-- a UDP frame, and whether its FCS and its UDP checksum are good and it is at most 9,216 bytes long -/
  | udp (f : HnFrame) (good : Bool)
  /-- a Neighbor Solicitation for an address -/
  | solicit (target : BitVec 128)
  /-- a Neighbor Advertisement of the gateway's address -/
  | advert (mac : Nat)
  | lldp (f : Lldp)
  | other
deriving DecidableEq, Repr, Inhabited

/-- What a port puts on its link. -/
inductive WireOut where
  | frame (port : Nat) (bytes : List Byte)
  | lldp (port : Nat) (f : Lldp)
  | hn (port : Nat) (f : HnFrame)
  | pfc (port prio : Nat) (pause : Bool)
  | advert (port : Nat) (target : BitVec 128)
deriving DecidableEq, Repr, Inhabited

/-- What the device puts on a host link by itself: a write of host memory as a function, or an MSI-X vector. -/
inductive HostOut where
  | write (h f : Nat) (addr : W64) (bytes : List Byte)
  | vector (h f v : Nat)
deriving DecidableEq, Repr, Inhabited

/-- A request to a function's configuration space (R487, R488, R614): a read of its identity, its bus-master enable, or SR-IOV control. -/
inductive CfgReq where
  | identity
  | busMaster (on : Bool)
  | sriov (enable : Bool) (numVfs : Nat)
deriving DecidableEq, Repr, Inhabited

/-- What an access answers to its requester, and what a command sends out of the link ports or to the host. -/
inductive Answer where
  | none
  | data (v : W64)
  | bytes (bs : List Byte)
  /-- bytes of a tile that is delivered as one that fails its check (R243, R649) -/
  | failing (bs : List Byte)
  | addressError
  | abort
  | retry
  | nack
  | wire (l : List WireOut)
  | host (l : List HostOut)
deriving DecidableEq, Repr, Inhabited

/-- How a training phase ends (R350, R351): begun; PMA trained; lanes aligned, and whether a retrain changed the width; link check over, with the corrected bits of
each lane and the uncorrectable codewords; discovery over. -/
inductive TrainStep where
  | start
  | pma
  | aligned (changed : Bool)
  | checked (cbits : List Nat) (ucw : Nat)
  | discovered
deriving DecidableEq, Repr, Inhabited

/-- An error that the arrays show while a command runs, from the world outside the model: the DPA of the store word, of the stack line or of
the protected register (R255, R643), whether it cannot be corrected (R208, R243), and whether it lies in the stored check of the store tile at that DPA and not in
the word. -/
structure MemUpset where
  dpa : Nat
  fatal : Bool
  check : Bool := false
deriving DecidableEq, Repr, Inhabited

/-- The selection of engine instances in word 0 of a slot (R161 to R163). -/
structure Sel where
  gmode : Fin 4
  gsel : Fin 64
  csel : Fin 32
deriving DecidableEq, Repr, Inhabited

/-- The program index, token and first argument register of a trigger (R193). -/
structure Trigger where
  token : BitVec 8
  index : BitVec 16
  rsArg : Fin 32
deriving DecidableEq, Repr, Inhabited

/-- The fields of a DMX slot beside its selection (R192). -/
structure DmxFields where
  cell : Fin 16
  split : Bool
  fan : Bool
  token : BitVec 8
  rsH : Fin 32
  rsO : Fin 32
  rsX : Fin 32
  store : BitVec 16
  count : BitVec 12
deriving DecidableEq, Repr, Inhabited

/-- Who uses a handle (R251, R256): the partition's own engines, its host function, a remote requester, or firmware and the
router, which may use system handles. -/
inductive HandleUser where
  | engine (p : Nat)
  | host (p : Nat)
  | remote (p : Nat)
  | system
deriving DecidableEq, Repr, Inhabited

/-- The partition whose handles a user may name; firmware may name any. -/
def HandleUser.part : HandleUser → Option Nat
  | .engine p => some p
  | .host p => some p
  | .remote p => some p
  | .system => none

/-- A stack request (R246): a read or a write of one 64-byte line of a handle, by clusters of a die or through the hub. -/
structure LineAccess where
  user : HandleUser
  handle : BitVec 24
  off : Nat
  /-- the die whose clusters made the request; none for link ports, host ports, collective engines and firmware -/
  die : Option (Fin 4)
  /-- the bytes of a write -/
  data : Option (List Byte)
deriving DecidableEq, Repr, Inhabited

/-- What the host answers to one instance of a transfer with host memory (R514): whether it completed, and the bytes of a read. -/
structure HostData where
  ok : Bool
  /-- a failure is a poisoned completion, not an error completion (R671) -/
  poisoned : Bool := false
  data : List Byte
deriving DecidableEq, Repr, Inhabited

/-- The reason of a failed transfer as 0x90A gives it (R671). -/
def HostData.reason (d : HostData) : Nat := if d.poisoned then 2 else 1

end Sys2Proof

namespace Sys2Proof.Machine

/-- A hop of a circuit (R410, R424): node, input port (16: injection), output port (16: local delivery), share group and class at the
output, and those of the input. -/
structure FmHop where
  node : Nat
  inp : Nat
  out : Nat
  grp : Nat
  dl : Nat
  inGrp : Nat
  inDl : Nat
deriving DecidableEq, Repr, Inhabited

/-- A circuit of a job (R410, R483, R484): its ID, the number of its group in the job, the rank that sends on it and whether it goes up, the
CLXs at its ends, the units it holds at each output, and its hops. -/
structure FmCircuit where
  id : Nat
  group : Nat
  rank : Nat
  up : Bool
  srcClx : Nat
  dstClx : Nat
  units : Nat
  hops : List FmHop
deriving DecidableEq, Repr, Inhabited

/-- A group of a job (R483): its index at every CLX, its axis (4: an explicit order), its members in rank order, and whether it has a
wrap link. -/
structure FmGroup where
  index : Nat
  axis : Nat
  members : List (Nat × Nat)
  wrap : Bool
deriving DecidableEq, Repr, Inhabited

/-- A job that the primary has carved (R481): its tag, its members as node and partition, the axes and the explicit order asked for,
units by axis, groups and circuits. -/
structure FmJob where
  tag : Nat
  members : List (Nat × Nat)
  /-- bits 0 to 3: axes; bit 4: explicit order; bit 5: wrap -/
  axes : Nat := 0
  units : List Nat := []
  groups : List FmGroup := []
  circuits : List FmCircuit := []
deriving DecidableEq, Repr, Inhabited

end Sys2Proof.Machine
end

