-- ==== Sys2Proof/Syntax.lean ====
section
/-!
DEFINITION. The commands of the block: one constructor per row of spec/opcode_table.json, in the table's order, with the
operands the command carries. The table gives its rows no operands and no bits: the operands are what the row's rule says
the command names (a unit, an address, a value), and what only the world outside the device knows at that moment (a
temperature, the outcome of a test, the bytes of an arriving packet).
-/
namespace Sys2Proof

/-- The commands of the device, one per row of the table. -/
inductive Instr where
  /-- REGISTER_WRITE (R14): A write to a register with no row of its own takes effect by its access code (RW, W1C, W1S, WO, RSV). -/
  | registerWrite (ag : Agent) (a : BitVec 48) (wide : Bool) (v : W64)
  /-- RC_READ (R15): A read of an RC field returns its value and clears it, with a hardware set in the same cycle winning. -/
  | rcRead (ag : Agent) (a : BitVec 48) (wide : Bool)
  /-- CP_REGISTER_WRITE (R17): A write to a complement-protected register places a pending value owned by the writing agent. -/
  | cpRegisterWrite (ag : Agent) (a : BitVec 48) (wide : Bool) (v : W64)
  /-- CP_COMPANION_WRITE (R17): A companion write that matches the owner's pending value makes it take effect; otherwise the pending value is discarded. -/
  | cpCompanionWrite (ag : Agent) (a : BitVec 48) (wide : Bool) (v : W64)
  /-- COMPLEMENT_REWRITE (R643): The owner rewrites an unusable protected value from its own copy, making it usable again. -/
  | complementRewrite (a : BitVec 48) (own : Bool)
  /-- COLD_RESET (R609): VAUX_3V3 coming within limits or MOD_RESET_N held low 1 ms restarts every core and clears every register and breadbox. -/
  | coldReset (cause : ColdCause) (boot : Fin 4) (addr : Fin 8)
  /-- VAUX_LOSS (R623): Removal of VAUX_3V3 puts the device in Off at once. -/
  | vauxLoss
  /-- STARTER (R585): The SEC ROM starter reads fuses, builds the fuse-map image, chooses and verifies a slot, measures the SEC, derives keys and locks the UDS. -/
  | starter (held : Bool)
  /-- PMC_BRINGUP (R611): Once MOD_PGOOD is high the PMC switches on H.R, the hub domains, stacks, uncores and quadrants. -/
  | pmcBringup (dead : BitVec 38)
  /-- CORE_START (R611): When H.F is on the SEC starts SCH and FAB, and the SCH applies the fuse map to the floor plan. -/
  | coreStart
  /-- STACK_TRAIN (R611): Each BDC trains its stack when its stack domain comes on. -/
  | stackTrain (n : Fin 12)
  /-- SELF_TEST (R611): Every CCC runs cell and engine self-test after the SCH multicasts the CCC image. -/
  | selfTest (tests : List (Nat × Nat))
  /-- MEMORY_TEST (R612): Each BDC runs the native or compatibility memory test of the boot mode on its stack. -/
  | memoryTest (n : Fin 12) (fails : W64)
  /-- LINK_GATE (R611): Boot waits until every present port is up, down or retired, or its 10 s bound passes. -/
  | linkGate
  /-- FUSE_TEST_RECONCILE (R615): Fuse and test results are reconciled, discrepancies recorded as 0xA03, and the floor plan published. -/
  | fuseTestReconcile
  /-- BOOT_READY (R611): The SEC forms the default partitions, the SCH clears trial, and PMC_BOOT reads ready. -/
  | bootReady (elapsed : W32)
  /-- BOOT_STEP_OVERRUN (R613): A boot step that overruns its bound ends with its results, retries or fails the boot, and records 0xA06. -/
  | bootStepOverrun (k : Fin 11) (unit : Fin 12) (silent : W64) (elapsed : W32)
  /-- POWER_ON (R610): MOD_PWR_EN and MOD_PGOOD high in Crust starts steps 3 to 10 of the boot. -/
  | powerOn
  /-- CRUST_ENTRY (R610): MOD_PWR_EN low, MOD_PGOOD low or a thermal trip drops every domain except H.A and takes the links down. -/
  | crustEntry (good : Bool) (vin : BitVec 10)
  /-- THERMAL_TRIP (R631): A junction reaching 110 °C drives THERM_TRIP_N, records 0x205 and enters Crust. -/
  | thermalTrip (j : Fin 17) (temp : BitVec 8) (vin : BitVec 10)
  /-- JUNCTION_THROTTLE (R629): Each 10 µs tick raises, holds or lowers a partition's junction demand by its die and stack junction temperatures. -/
  | junctionThrottle (temps : List (BitVec 8)) (cool : BitVec 4)
  /-- DROOP_DETECT (R147): A die's droop detector firing stretches every die of its partition within 5 ns for 1 µs. -/
  | droopDetect (d : Fin 4)
  /-- BUDGET_TICK (R628): Every 10 µs the budget controller moves each partition's stretch so that its 100 ms average stays within budget. -/
  | budgetTick (avg : Fin 2048) (peak : Fin 2048) (vin : BitVec 10) (moves : List BudgetMove) (bad : Bool)
  /-- EMERGENCY_BEGIN (R631): A power or thermal emergency raises every partition's emergency demand to 192, sets PMC_EMERG, alerts and informs the SCH. -/
  | emergencyBegin (thermal : Bool) (cause : BitVec 4)
  /-- EMERGENCY_ESCALATE (R631): Each 10 ms an emergency persists raises the emergency demand by 192, up to 960. -/
  | emergencyEscalate
  /-- EMERGENCY_END (R630): An emergency ends after its hold period and the demand decays by 64 per tick. -/
  | emergencyEnd (thermal : Bool)
  /-- DOMAIN_SWITCH_ON (R52): The PMC switches a domain on, refusing while a prerequisite is off. -/
  | domainSwitchOn (i : Fin 38)
  /-- DOMAIN_SWITCH_OFF (R48): The PMC switches a domain off once its crossings are empty, refusing while a dependant is on. -/
  | domainSwitchOff (i : Fin 38) (empty : Bool)
  /-- ACTIVE_REQUEST (R623): PMC_STATE_REQ go with req 0 returns the device from Doze to Active. -/
  | activeRequest (cycles : Nat) (binds : List (Nat × List (List Nat)))
  /-- DOZE_REQUEST (R624): PMC_STATE_REQ go with req 1 stops fetching, asks for context saves and aborts migrations. -/
  | dozeRequest
  /-- DOZE_ENTER (R624): Once every running partition is saved the PMC quiets ports, switches off quadrants and H.Q, and self-refreshes stacks. -/
  | dozeEnter
  /-- DOZE_QUIESCE_TIMEOUT (R624): A partition not at a commit point within 1 s keeps the device Active, restores saved contexts and records 0x107. -/
  | dozeQuiesceTimeout
  /-- DOZE_WAKE (R625): An enabled wake source in Doze brings back stacks, H.Q, quadrants and ports and restores contexts. -/
  | dozeWake (w : WakeSource) (cycles : Nat) (binds : List (Nat × List (List Nat)))
  /-- PMC_RESET_COLD (R609): PMC_RESET type 1 with go causes a cold reset. -/
  | pmcResetCold
  /-- PMC_RESET_WARM (R618): PMC_RESET type 2 runs the warm device reset: functions reset, partitions released, H.Q and H.F cycled, router state discarded. -/
  | pmcResetWarm (elapsed : W32) (tests : List (Nat × Nat))
  /-- PMC_RESET_PARTITION (R619): PMC_RESET type 3 runs a partition reset of the target partition. -/
  | pmcResetPartition (tests : List (Nat × Nat))
  /-- PMC_RESET_CLUSTER (R620): PMC_RESET type 4 restarts the target cluster's CCC and self-test, or is refused. -/
  | pmcResetCluster (low : BitVec 27)
  /-- PMC_RESET_PORT (R617): PMC_RESET type 5 resets the target link port. -/
  | pmcResetPort
  /-- MGMT_BUS_TRANSFER (R633): An I3C or I2C transfer reads a PMC_ word or HUB_ID, or writes an allowed PMC_ register, else is NACKed. -/
  | mgmtBusTransfer (t : BusTransfer)
  /-- FLOOR_PLAN_UPDATE (R63): The SCH makes gen odd, writes changed floor-plan registers and digest, makes gen even, and records usability events. -/
  | floorPlanUpdate
  /-- RECIPE_START (R153): SEQ_CTRL.start starts the loaded recipe at step 0. -/
  | recipeStart (q : Fin 4)
  /-- SEQ_HOLD_REQ (R120): Setting or clearing SEQ_CTRL.hold_req requests or releases a hold at the commit point. -/
  | seqHoldReq (q : Fin 4) (on : Bool)
  /-- SEQ_ABORT (R153): SEQ_CTRL.abort stops the recipe with fault 0x08 at the current step. -/
  | seqAbort (q : Fin 4)
  /-- SEQ_VBIND_WRITE (R141): An SCH write of a die's binding takes effect, or is ignored with a class 0x8 event while the partition runs. -/
  | seqVbindWrite (ag : Agent) (d : Fin 4) (v : W64)
  /-- STEP (R98): Each CK_C cycle of a running partition is a step that advances the counter and every synchronous engine, or a frozen cycle. -/
  | step (q : Fin 4) (ecc : List MemUpset)
  /-- BUNDLE_ISSUE (R102): The sequencer handles the next bundle in the order of R197 and issues all its slots at one step. -/
  | bundleIssue (q : Fin 4) (ecc : List MemUpset)
  /-- PAGE_LOADED (R132): A page load completes and the bundle issues, or a failed tile check stops the recipe with fault 0x07. -/
  | pageLoaded (q : Fin 4) (ecc : List MemUpset)
  /-- WAITING_SLOT_ISSUE (R109): A waiting operation slot issues at its engine's first ready step, in bundle order. -/
  | waitingSlotIssue (q : Fin 4) (cls : Nat) (u : Nat) (k : Nat) (ecc : List MemUpset)
  /-- WAIT_RELEASE (R115): When the last pending token of a WAIT completes the bundle issues, or stops with fault 0x03 on a failed token. -/
  | waitRelease (q : Fin 4) (ecc : List MemUpset)
  /-- TOKEN_REUSE_RELEASE (R113): A bundle frozen on a still-pending token issues when that token leaves pending. -/
  | tokenReuseRelease (q : Fin 4) (ecc : List MemUpset)
  /-- COMMIT_QUIESCE (R119): When no token is pending a COMMIT checks quiescence, reaching a commit point or stopping with fault 0x03 or 0x04. -/
  | commitQuiesce (q : Fin 4) (ecc : List MemUpset)
  /-- CONTEXT_SAVE (R123): The SCH saves each die's share of a held context into its context-save region. -/
  | contextSave (q : Fin 4) (cycles : Nat)
  /-- CONTEXT_RESTORE (R124): The SCH restores a saved context into its partition, possibly rebinding, and the COMMIT bundle issues. -/
  | contextRestore (q : Fin 4) (cycles : Nat) (binds : List (List Nat))
  /-- END_DRAIN (R126): An END issues once no token is pending, ends the recipe after its idle steps, or stops with fault 0x03. -/
  | endDrain (q : Fin 4) (ecc : List MemUpset)
  /-- LI (R170): Load a sign-extended 32-bit immediate into a scalar register. -/
  | li (q : Fin 4) (rd : Fin 32) (imm : W32)
  /-- LIH (R170): Load the high 32 bits of a scalar register. -/
  | lih (q : Fin 4) (rd : Fin 32) (imm : W32)
  /-- LI64 (R170): Load a 64-bit immediate. -/
  | li64 (q : Fin 4) (rd : Fin 32) (imm : W64)
  /-- ADD (R170): Scalar add modulo 2^64. -/
  | add (q : Fin 4) (rd : Fin 32) (rs1 : Fin 32) (rs2 : Fin 32)
  /-- SUB (R170): Scalar subtract. -/
  | sub (q : Fin 4) (rd : Fin 32) (rs1 : Fin 32) (rs2 : Fin 32)
  /-- MUL (R170): Scalar multiply, low 64 bits. -/
  | mul (q : Fin 4) (rd : Fin 32) (rs1 : Fin 32) (rs2 : Fin 32)
  /-- AND (R170): Scalar bitwise and. -/
  | and (q : Fin 4) (rd : Fin 32) (rs1 : Fin 32) (rs2 : Fin 32)
  /-- OR (R170): Scalar bitwise or. -/
  | or (q : Fin 4) (rd : Fin 32) (rs1 : Fin 32) (rs2 : Fin 32)
  /-- XOR (R170): Scalar bitwise exclusive or. -/
  | xor (q : Fin 4) (rd : Fin 32) (rs1 : Fin 32) (rs2 : Fin 32)
  /-- SHL (R170): Scalar shift left by register. -/
  | shl (q : Fin 4) (rd : Fin 32) (rs1 : Fin 32) (rs2 : Fin 32)
  /-- SHR (R170): Scalar logical right shift by register. -/
  | shr (q : Fin 4) (rd : Fin 32) (rs1 : Fin 32) (rs2 : Fin 32)
  /-- SAR (R170): Scalar arithmetic right shift by register. -/
  | sar (q : Fin 4) (rd : Fin 32) (rs1 : Fin 32) (rs2 : Fin 32)
  /-- SLT (R170): Set if signed less than. -/
  | slt (q : Fin 4) (rd : Fin 32) (rs1 : Fin 32) (rs2 : Fin 32)
  /-- SLTU (R170): Set if unsigned less than. -/
  | sltu (q : Fin 4) (rd : Fin 32) (rs1 : Fin 32) (rs2 : Fin 32)
  /-- ADDI (R170): Scalar add immediate. -/
  | addi (q : Fin 4) (rd : Fin 32) (rs1 : Fin 32) (imm : W32)
  /-- ANDI (R170): Scalar and immediate. -/
  | andi (q : Fin 4) (rd : Fin 32) (rs1 : Fin 32) (imm : W32)
  /-- ORI (R170): Scalar or immediate. -/
  | ori (q : Fin 4) (rd : Fin 32) (rs1 : Fin 32) (imm : W32)
  /-- SHLI (R170): Scalar shift left by immediate. -/
  | shli (q : Fin 4) (rd : Fin 32) (rs1 : Fin 32) (sh : Fin 64)
  /-- SHRI (R170): Scalar logical right shift by immediate. -/
  | shri (q : Fin 4) (rd : Fin 32) (rs1 : Fin 32) (sh : Fin 64)
  /-- SARI (R170): Scalar arithmetic right shift by immediate. -/
  | sari (q : Fin 4) (rd : Fin 32) (rs1 : Fin 32) (sh : Fin 64)
  /-- GRPI (R170): Write a 64-bit immediate mask into a group register. -/
  | grpi (q : Fin 4) (gr : Fin 32) (mask : W64)
  /-- GRP (R170): Write a scalar register into a group register. -/
  | grp (q : Fin 4) (gr : Fin 32) (rs1 : Fin 32)
  /-- JMP (R171): Jump by a signed offset at a cost of one step. -/
  | jmp (q : Fin 4) (off : W32)
  /-- BEQ (R171): Branch when equal. -/
  | beq (q : Fin 4) (rs1 : Fin 32) (rs2 : Fin 32) (off : W32)
  /-- BNE (R171): Branch when not equal. -/
  | bne (q : Fin 4) (rs1 : Fin 32) (rs2 : Fin 32) (off : W32)
  /-- BLT (R171): Branch when signed less than. -/
  | blt (q : Fin 4) (rs1 : Fin 32) (rs2 : Fin 32) (off : W32)
  /-- BGE (R171): Branch when signed greater or equal. -/
  | bge (q : Fin 4) (rs1 : Fin 32) (rs2 : Fin 32) (off : W32)
  /-- BLTU (R171): Branch when unsigned less than. -/
  | bltu (q : Fin 4) (rs1 : Fin 32) (rs2 : Fin 32) (off : W32)
  /-- BGEU (R171): Branch when unsigned greater or equal. -/
  | bgeu (q : Fin 4) (rs1 : Fin 32) (rs2 : Fin 32) (off : W32)
  /-- LOOP (R173): Start a counted loop over the following bundles up to its exit. -/
  | loop (q : Fin 4) (rs1 : Fin 32) (off : W32)
  /-- COMMIT (R119): Freeze with cause 8 until no token is pending and then seek a commit point. -/
  | commit (q : Fin 4)
  /-- END (R126): End the recipe once no token is pending. -/
  | recipeEnd (q : Fin 4)
  /-- WAITM (R174): Wait on a masked set of tokens within a group of 64. -/
  | waitm (q : Fin 4) (tg : Fin 4) (mask : W64)
  /-- WAITR (R174): Wait on a range of tokens. -/
  | waitr (q : Fin 4) (first : BitVec 8) (last : BitVec 8)
  /-- PREF (R175): Prefetch an immediate page into its frame on a token. -/
  | pref (q : Fin 4) (page : BitVec 16) (tok : BitVec 8)
  /-- PREFR (R175): Prefetch the page named by a register on a token. -/
  | prefr (q : Fin 4) (rs1 : Fin 32) (tok : BitVec 8)
  /-- PREFETCH_DONE (R133): A prefetch load completes, making its token done or failed on a tile-check failure. -/
  | prefetchDone (q : Fin 4) (tok : BitVec 8) (ecc : List MemUpset)
  /-- SOLD (R178): Load a whole standing order from a checked order record, optionally starting it. -/
  | sold (q : Fin 4) (cls : Fin 16) (sel : Sel) (start : Bool) (rec : W32)
  /-- SOSTART (R109): Start a standing order, resetting pointer, loop counts and generator indices. -/
  | sostart (q : Fin 4) (cls : Fin 16) (sel : Sel)
  /-- SOSTOP (R109): Stop a standing order. -/
  | sostop (q : Fin 4) (cls : Fin 16) (sel : Sel)
  /-- SOGEN (R176): Set a generator's base from a register. -/
  | sogen (q : Fin 4) (cls : Fin 16) (sel : Sel) (g : Fin 4) (rs : Fin 32)
  /-- SOLOOP (R176): Set a loop's count and remaining from a register. -/
  | soloop (q : Fin 4) (cls : Fin 16) (sel : Sel) (l : Fin 4) (rs : Fin 32)
  /-- MCFG (R180): Configure MXE formats, rounding, saturation, output shift and scale displacements. -/
  | mcfg (q : Fin 4) (sel : Sel) (w1 : W32) (w2 : W32) (ecc : List MemUpset)
  /-- MMS (R182): Start an accumulation chain, discarding any open chain. -/
  | mms (q : Fin 4) (sel : Sel) (a : BitVec 16) (b : BitVec 16) (ecc : List MemUpset)
  /-- MMC (R182): Continue the open chain with one operation's block contributions. -/
  | mmc (q : Fin 4) (sel : Sel) (a : BitVec 16) (b : BitVec 16) (ecc : List MemUpset)
  /-- MME (R94): Add, end the chain, round once and write the output tile. -/
  | mme (q : Fin 4) (sel : Sel) (a : BitVec 16) (b : BitVec 16) (c : BitVec 16) (ecc : List MemUpset)
  /-- MMSE (R211): Start, add and end a chain in one operation and write the output. -/
  | mmse (q : Fin 4) (sel : Sel) (a : BitVec 16) (b : BitVec 16) (c : BitVec 16) (ecc : List MemUpset)
  /-- MMSS (R91): Start a chain seeded exactly from a seed tile. -/
  | mmss (q : Fin 4) (sel : Sel) (a : BitVec 16) (b : BitVec 16) (c : BitVec 16) (ecc : List MemUpset)
  /-- VCFG (R183): Configure VXE formats and rounding. -/
  | vcfg (q : Fin 4) (sel : Sel) (w1 : W32) (ecc : List MemUpset)
  /-- VADD (R214): Elementwise add of 1,024T elements. -/
  | vadd (q : Fin 4) (sel : Sel) (mod : Fin 128) (a : BitVec 16) (b : BitVec 16) (d : BitVec 16) (ecc : List MemUpset)
  /-- VMUL (R214): Elementwise multiply. -/
  | vmul (q : Fin 4) (sel : Sel) (mod : Fin 128) (a : BitVec 16) (b : BitVec 16) (d : BitVec 16) (ecc : List MemUpset)
  /-- VFMA (R214): Elementwise fused multiply-add rounded once. -/
  | vfma (q : Fin 4) (sel : Sel) (mod : Fin 128) (a : BitVec 16) (b : BitVec 16) (d : BitVec 16) (e : BitVec 16) (ecc : List MemUpset)
  /-- VMAX (R214): Elementwise maximum. -/
  | vmax (q : Fin 4) (sel : Sel) (mod : Fin 128) (a : BitVec 16) (b : BitVec 16) (d : BitVec 16) (ecc : List MemUpset)
  /-- VMIN (R214): Elementwise minimum. -/
  | vmin (q : Fin 4) (sel : Sel) (mod : Fin 128) (a : BitVec 16) (b : BitVec 16) (d : BitVec 16) (ecc : List MemUpset)
  /-- VSCL (R214): Multiply by a scalar register value read at issue. -/
  | vscl (q : Fin 4) (sel : Sel) (mod : Fin 128) (a : BitVec 16) (d : BitVec 16) (rs : Fin 32) (ecc : List MemUpset)
  /-- VRED (R215): Sum the elements in the fixed tree and write one value. -/
  | vred (q : Fin 4) (sel : Sel) (mod : Fin 128) (a : BitVec 16) (d : BitVec 16) (ecc : List MemUpset)
  /-- VCVT (R183): Convert elements between VXE formats. -/
  | vcvt (q : Fin 4) (sel : Sel) (mod : Fin 128) (a : BitVec 16) (d : BitVec 16) (ecc : List MemUpset)
  /-- KCOPY (R217): Copy N bytes in the cluster store. -/
  | kcopy (q : Fin 4) (sel : Sel) (mod : Fin 128) (a : BitVec 16) (d : BitVec 16) (ecc : List MemUpset)
  /-- KTRANS (R217): Transpose a row-major matrix. -/
  | ktrans (q : Fin 4) (sel : Sel) (mod : Fin 128) (a : BitVec 16) (d : BitVec 16) (param : BitVec 16) (ecc : List MemUpset)
  /-- KPERM (R218): Permute elements by an index list, zeroing out-of-range indices. -/
  | kperm (q : Fin 4) (sel : Sel) (mod : Fin 128) (a : BitVec 16) (b : BitVec 16) (d : BitVec 16) (param : BitVec 16) (ecc : List MemUpset)
  /-- KGATH (R218): Gather rows by index, faulting 0x05 on a row outside the store. -/
  | kgath (q : Fin 4) (sel : Sel) (mod : Fin 128) (a : BitVec 16) (b : BitVec 16) (d : BitVec 16) (param : BitVec 16) (ecc : List MemUpset)
  /-- KSCAT (R218): Scatter rows by index in ascending order. -/
  | kscat (q : Fin 4) (sel : Sel) (mod : Fin 128) (a : BitVec 16) (b : BitVec 16) (d : BitVec 16) (param : BitVec 16) (ecc : List MemUpset)
  /-- FCFG (R185): Configure the FMX formats, rounding, saturation and seed registers. -/
  | fcfg (q : Fin 4) (sel : Sel) (w1 : W32) (w2 : W32) (ecc : List MemUpset)
  /-- FCVT (R219): Convert 1,024T elements with scales, stochastic rounding keyed per element. -/
  | fcvt (q : Fin 4) (sel : Sel) (mod : Fin 128) (a : BitVec 16) (b : BitVec 16) (d : BitVec 16) (e : BitVec 16) (ecc : List MemUpset)
  /-- FSCALE (R220): Write only target block scales. -/
  | fscale (q : Fin 4) (sel : Sel) (mod : Fin 128) (a : BitVec 16) (b : BitVec 16) (e : BitVec 16) (ecc : List MemUpset)
  /-- TCFG (R186): Configure TRX format and rounding. -/
  | tcfg (q : Fin 4) (sel : Sel) (w1 : W32) (ecc : List MemUpset)
  /-- TEXP (R221): Exponential. -/
  | texp (q : Fin 4) (sel : Sel) (mod : Fin 128) (a : BitVec 16) (d : BitVec 16) (ecc : List MemUpset)
  /-- TLOG (R221): Natural logarithm. -/
  | tlog (q : Fin 4) (sel : Sel) (mod : Fin 128) (a : BitVec 16) (d : BitVec 16) (ecc : List MemUpset)
  /-- TRCP (R221): Reciprocal. -/
  | trcp (q : Fin 4) (sel : Sel) (mod : Fin 128) (a : BitVec 16) (d : BitVec 16) (ecc : List MemUpset)
  /-- TRSQ (R221): Reciprocal square root. -/
  | trsq (q : Fin 4) (sel : Sel) (mod : Fin 128) (a : BitVec 16) (d : BitVec 16) (ecc : List MemUpset)
  /-- TTANH (R221): Hyperbolic tangent. -/
  | ttanh (q : Fin 4) (sel : Sel) (mod : Fin 128) (a : BitVec 16) (d : BitVec 16) (ecc : List MemUpset)
  /-- TSIGM (R221): Logistic sigmoid. -/
  | tsigm (q : Fin 4) (sel : Sel) (mod : Fin 128) (a : BitVec 16) (d : BitVec 16) (ecc : List MemUpset)
  /-- TSIN (R221): Sine. -/
  | tsin (q : Fin 4) (sel : Sel) (mod : Fin 128) (a : BitVec 16) (d : BitVec 16) (ecc : List MemUpset)
  /-- TCOS (R221): Cosine. -/
  | tcos (q : Fin 4) (sel : Sel) (mod : Fin 128) (a : BitVec 16) (d : BitVec 16) (ecc : List MemUpset)
  /-- SCFG (R187): Configure SSX key format, order and k. -/
  | scfg (q : Fin 4) (sel : Sel) (w1 : W32) (ecc : List MemUpset)
  /-- SSORT (R223): Stable sort of keys with values. -/
  | ssort (q : Fin 4) (sel : Sel) (mod : Fin 128) (a : BitVec 16) (b : BitVec 16) (d : BitVec 16) (e : BitVec 16) (ecc : List MemUpset)
  /-- STOPK (R223): Write the first k keys and values of the order. -/
  | stopk (q : Fin 4) (sel : Sel) (mod : Fin 128) (a : BitVec 16) (b : BitVec 16) (d : BitVec 16) (e : BitVec 16) (ecc : List MemUpset)
  /-- ICFG (R188): Configure IXX bin count. -/
  | icfg (q : Fin 4) (sel : Sel) (w1 : W32) (ecc : List MemUpset)
  /-- IHIST (R224): Histogram INT32 values. -/
  | ihist (q : Fin 4) (sel : Sel) (mod : Fin 128) (a : BitVec 16) (d : BitVec 16) (ecc : List MemUpset)
  /-- IPSUM (R224): Exclusive prefix sum. -/
  | ipsum (q : Fin 4) (sel : Sel) (mod : Fin 128) (a : BitVec 16) (d : BitVec 16) (ecc : List MemUpset)
  /-- ICOMP (R224): Compact values by a mask with a count. -/
  | icomp (q : Fin 4) (sel : Sel) (mod : Fin 128) (a : BitVec 16) (b : BitVec 16) (d : BitVec 16) (e : BitVec 16) (ecc : List MemUpset)
  /-- IROUTE (R224): Group token indices by expert with counts. -/
  | iroute (q : Fin 4) (sel : Sel) (mod : Fin 128) (a : BitVec 16) (d : BitVec 16) (e : BitVec 16) (ecc : List MemUpset)
  /-- CCOMP (R226): Compress tiles into a header and line-class stream, or store them unchanged. -/
  | ccomp (q : Fin 4) (sel : Sel) (mod : Fin 128) (a : BitVec 16) (d : BitVec 16) (ecc : List MemUpset)
  /-- CDEC (R227): Decompress a region, failing as a tile check when malformed. -/
  | cdec (q : Fin 4) (sel : Sel) (mod : Fin 128) (a : BitVec 16) (d : BitVec 16) (ecc : List MemUpset)
  /-- RGEN (R228): Fill tiles with Philox output in the chosen distribution. -/
  | rgen (q : Fin 4) (sel : Sel) (mod : Fin 128) (d : BitVec 16) (rsKey : Fin 32) (rsCtr : Fin 32) (dist : Fin 4) (rsHi : Fin 32) (ecc : List MemUpset)
  /-- RCFG (R191): Configure cluster-ring format and rounding. -/
  | rcfg (q : Fin 4) (sel : Sel) (w1 : W32) (ecc : List MemUpset)
  /-- RRED (R216): Reduce the sixteen cells' tiles into the cluster store in order. -/
  | rred (q : Fin 4) (sel : Sel) (mod : Fin 128) (a : BitVec 16) (d : BitVec 16) (ecc : List MemUpset)
  /-- RBCAST (R216): Copy cluster-store tiles to every cell store. -/
  | rbcast (q : Fin 4) (sel : Sel) (mod : Fin 128) (a : BitVec 16) (d : BitVec 16) (ecc : List MemUpset)
  /-- RCAT (R216): Concatenate cell tiles into the cluster store. -/
  | rcat (q : Fin 4) (sel : Sel) (mod : Fin 128) (a : BitVec 16) (d : BitVec 16) (ecc : List MemUpset)
  /-- DLD (R231): Asynchronous transfer from an own handle to a store, checked at issue. -/
  | dld (q : Fin 4) (sel : Sel) (f : DmxFields)
  /-- DST (R231): Asynchronous transfer from a store to an own handle. -/
  | dst (q : Fin 4) (sel : Sel) (f : DmxFields)
  /-- DRGET (R192): Read a remote partition's handle into a store as read transactions. -/
  | drget (q : Fin 4) (sel : Sel) (f : DmxFields)
  /-- DRPUT (R192): Write a store to a remote handle as write transactions. -/
  | drput (q : Fin 4) (sel : Sel) (f : DmxFields)
  /-- DRPUTH (R192): Remote write whose last packet is a heel. -/
  | drputh (q : Fin 4) (sel : Sel) (f : DmxFields)
  /-- DHRD (R192): Transfer from host memory to a store. -/
  | dhrd (q : Fin 4) (sel : Sel) (f : DmxFields)
  /-- DHWR (R192): Transfer from a store to host memory. -/
  | dhwr (q : Fin 4) (sel : Sel) (f : DmxFields)
  /-- DMX_TRANSFER_DONE (R231): All instances of a DMX transfer finish, making its token done, or failed on any error. -/
  | dmxTransferDone (q : Fin 4) (tok : BitVec 8) (host : List HostData) (ecc : List MemUpset)
  /-- CTRIG (R428): Append a collective instance to the lead CLX's queue on a token. -/
  | ctrig (q : Fin 4) (t : Trigger)
  /-- BTRIG (R300): Check and dispatch a base call to the stacks of its mask on a token. -/
  | btrig (q : Fin 4) (mask : BitVec 12) (t : Trigger)
  /-- BSIG (R546): OR a bit into the partition's pending-signal accumulator. -/
  | bsig (q : Fin 4) (sig : Fin 64)
  /-- CLU_COUNTER_CLEAR (R234): CLU_CNT_CTRL.clear zeroes the cluster's exception and ECC counters and CLU_ECC_LAST. -/
  | cluCounterClear (ag : Agent) (c : Fin 64)
  /-- CCC_SELF_TEST (R555): CLU_CCC_CMD 0x01 runs self-test and reports the HUB_FP_CLU low bits. -/
  | cccSelfTest (c : Fin 64) (low : BitVec 27)
  /-- CCC_START_IMAGE (R555): CLU_CCC_CMD 0x02 starts the loaded CCC image. -/
  | cccStartImage (c : Fin 64)
  /-- CCC_STOP (R555): CLU_CCC_CMD 0x03 stops the CCC. -/
  | cccStop (c : Fin 64)
  /-- STACK_REQUEST (R246): A 64-byte line read or write is served by a stack using a tracker entry. -/
  | stackRequest (r : LineAccess) (ecc : List MemUpset) (bad : List Nat)
  /-- TRACKER_ENTRY_FREE (R247): A request waiting at its source enters the stack when a tracker entry frees. -/
  | trackerEntryFree (n : Fin 12) (i : Nat)
  /-- PATROL (R245): The BDC reads each line once per 24 operating hours and handles errors as R243. -/
  | patrol (n : Fin 12) (line : BitVec 30) (ecc : List MemUpset)
  /-- DESCRIPTOR_WRITE (R253): An SCH write of a descriptor word takes effect, or is ignored with an event when valid forbids it. -/
  | descriptorWrite (ag : Agent) (x : BitVec 16) (j : Fin 4) (v : W64)
  /-- HANDLE_DRAINED (R261): When no request through a destroyed handle is outstanding its migrations abort and its frames begin clearing. -/
  | handleDrained (x : BitVec 16)
  /-- FRAME_CLEAR_DONE (R262): A BDC finishes zeroing a frame and the frame becomes free. -/
  | frameClearDone (n : Fin 12) (f : BitVec 15)
  /-- HEAT_WINDOW_END (R268): A base die snapshots and clears its heat counters and increments STK_HEAT_GEN. -/
  | heatWindowEnd (n : Fin 12)
  /-- MIGRATION_START (R273): When a slot is free the placer sets a destination copying-to and the slab entry copying. -/
  | migrationStart (y : BitVec 19) (picks : List Nat)
  /-- MIGRATION_PASS_END (R273): A copy pass ends and another pass over dirty tiles starts, or the switch begins. -/
  | migrationPassEnd (y : BitVec 19) (late : List Nat) (dstFail : Bool) (ecc : List MemUpset)
  /-- MIGRATION_SWITCH (R273): When the source frame has no outstanding request the last dirty tiles copy and the entry switches to the destination. -/
  | migrationSwitch (y : BitVec 19) (ecc : List MemUpset)
  /-- PC_RETIRED (R277): When no frame of a draining pseudo-channel is held it becomes retired and its frames lost. -/
  | pcRetired (n : Fin 12) (p : Fin 64)
  /-- DRAIN_RETRY (R278): Once a stranded tile is rewritten or its handle destroyed the placer retries the drain. -/
  | drainRetry (n : Fin 12) (p : Fin 64)
  /-- CALL_START (R301): A stack starts the next queued call when the previous one finishes. -/
  | callStart (n : Fin 12)
  /-- WORK_ITEM_START (R306): A unit stages the work item's read-slot tiles and starts it with initial registers. -/
  | workItemStart (n : Fin 12) (v : Fin 128) (ecc : List MemUpset)
  /-- BASE_CALL_DONE (R301): Every named stack finishes a call and its token becomes done or failed. -/
  | baseCallDone (n : Fin 12)
  /-- INSTRUCTION_LIMIT (R313): A work item exceeding 1,048,576 instructions fails with code 0x4. -/
  | instructionLimit (n : Fin 12) (v : Fin 128)
  /-- BASE_VADD (R309): Base vector binary32 add. -/
  | baseVadd (n : Fin 12) (v : Fin 128) (ecc : List MemUpset)
  /-- BASE_VSUB (R309): Base vector subtract. -/
  | baseVsub (n : Fin 12) (v : Fin 128) (ecc : List MemUpset)
  /-- BASE_VMUL (R309): Base vector multiply. -/
  | baseVmul (n : Fin 12) (v : Fin 128) (ecc : List MemUpset)
  /-- BASE_VFMA (R309): Base vector fused multiply-add. -/
  | baseVfma (n : Fin 12) (v : Fin 128) (ecc : List MemUpset)
  /-- BASE_VMAX (R309): Base vector maximum. -/
  | baseVmax (n : Fin 12) (v : Fin 128) (ecc : List MemUpset)
  /-- BASE_VMIN (R309): Base vector minimum. -/
  | baseVmin (n : Fin 12) (v : Fin 128) (ecc : List MemUpset)
  /-- VDIV (R309): Correctly rounded vector divide. -/
  | vdiv (n : Fin 12) (v : Fin 128) (ecc : List MemUpset)
  /-- VSQRT (R309): Correctly rounded vector square root. -/
  | vsqrt (n : Fin 12) (v : Fin 128) (ecc : List MemUpset)
  /-- VABS (R309): Vector absolute value. -/
  | vabs (n : Fin 12) (v : Fin 128) (ecc : List MemUpset)
  /-- VSEL (R309): Select lanes by mask. -/
  | vsel (n : Fin 12) (v : Fin 128) (ecc : List MemUpset)
  /-- VCMPLT (R309): Compare less-than into a mask register. -/
  | vcmplt (n : Fin 12) (v : Fin 128) (ecc : List MemUpset)
  /-- VCMPLE (R309): Compare less-or-equal into a mask register. -/
  | vcmple (n : Fin 12) (v : Fin 128) (ecc : List MemUpset)
  /-- VCMPEQ (R309): Compare equal into a mask register. -/
  | vcmpeq (n : Fin 12) (v : Fin 128) (ecc : List MemUpset)
  /-- VSUM (R314): Sum 32 lanes in a fixed pairwise tree. -/
  | vsum (n : Fin 12) (v : Fin 128) (ecc : List MemUpset)
  /-- VIADD (R309): INT32 add. -/
  | viadd (n : Fin 12) (v : Fin 128) (ecc : List MemUpset)
  /-- VISUB (R309): INT32 subtract. -/
  | visub (n : Fin 12) (v : Fin 128) (ecc : List MemUpset)
  /-- VIMUL (R309): INT32 multiply. -/
  | vimul (n : Fin 12) (v : Fin 128) (ecc : List MemUpset)
  /-- VIAND (R309): INT32 and. -/
  | viand (n : Fin 12) (v : Fin 128) (ecc : List MemUpset)
  /-- VIOR (R309): INT32 or. -/
  | vior (n : Fin 12) (v : Fin 128) (ecc : List MemUpset)
  /-- VIXOR (R309): INT32 exclusive or. -/
  | vixor (n : Fin 12) (v : Fin 128) (ecc : List MemUpset)
  /-- VISHL (R309): INT32 shift left. -/
  | vishl (n : Fin 12) (v : Fin 128) (ecc : List MemUpset)
  /-- VISHR (R309): INT32 logical shift right. -/
  | vishr (n : Fin 12) (v : Fin 128) (ecc : List MemUpset)
  /-- VCVTFI (R309): Convert FP32 to INT32, saturating. -/
  | vcvtfi (n : Fin 12) (v : Fin 128) (ecc : List MemUpset)
  /-- VCVTIF (R309): Convert INT32 to FP32. -/
  | vcvtif (n : Fin 12) (v : Fin 128) (ecc : List MemUpset)
  /-- VIDX (R309): Lane index plus a scalar. -/
  | vidx (n : Fin 12) (v : Fin 128) (ecc : List MemUpset)
  /-- VBCX (R309): Broadcast a scalar register's low word. -/
  | vbcx (n : Fin 12) (v : Fin 128) (ecc : List MemUpset)
  /-- VBCI (R309): Broadcast an immediate word. -/
  | vbci (n : Fin 12) (v : Fin 128) (ecc : List MemUpset)
  /-- VBCC (R309): Broadcast a call-entry constant. -/
  | vbcc (n : Fin 12) (v : Fin 128) (ecc : List MemUpset)
  /-- VLD (R311): Load 32 elements of a slot, converted, locally or by remote access. -/
  | vld (n : Fin 12) (v : Fin 128) (ecc : List MemUpset)
  /-- VST (R312): Store 32 lanes into the stage buffer, converted, with block scales. -/
  | vst (n : Fin 12) (v : Fin 128) (ecc : List MemUpset)
  /-- XADD (R309): Base scalar add. -/
  | xadd (n : Fin 12) (v : Fin 128) (ecc : List MemUpset)
  /-- XSUB (R309): Base scalar subtract. -/
  | xsub (n : Fin 12) (v : Fin 128) (ecc : List MemUpset)
  /-- XMUL (R309): Base scalar multiply. -/
  | xmul (n : Fin 12) (v : Fin 128) (ecc : List MemUpset)
  /-- XAND (R309): Base scalar and. -/
  | xand (n : Fin 12) (v : Fin 128) (ecc : List MemUpset)
  /-- BASE_XOR (R309): Base scalar or (op 0x44). -/
  | baseXor (n : Fin 12) (v : Fin 128) (ecc : List MemUpset)
  /-- XSHL (R309): Base scalar shift left. -/
  | xshl (n : Fin 12) (v : Fin 128) (ecc : List MemUpset)
  /-- XSHR (R309): Base scalar shift right. -/
  | xshr (n : Fin 12) (v : Fin 128) (ecc : List MemUpset)
  /-- XADDI (R309): Base scalar add immediate. -/
  | xaddi (n : Fin 12) (v : Fin 128) (ecc : List MemUpset)
  /-- XLI (R309): Base scalar load immediate. -/
  | xli (n : Fin 12) (v : Fin 128) (ecc : List MemUpset)
  /-- BASE_JMP (R309): Base program jump. -/
  | baseJmp (n : Fin 12) (v : Fin 128) (ecc : List MemUpset)
  /-- BASE_BEQ (R309): Base branch when equal. -/
  | baseBeq (n : Fin 12) (v : Fin 128) (ecc : List MemUpset)
  /-- BASE_BNE (R309): Base branch when not equal. -/
  | baseBne (n : Fin 12) (v : Fin 128) (ecc : List MemUpset)
  /-- BASE_BLT (R309): Base branch when signed less. -/
  | baseBlt (n : Fin 12) (v : Fin 128) (ecc : List MemUpset)
  /-- BASE_BGE (R309): Base branch when signed greater or equal. -/
  | baseBge (n : Fin 12) (v : Fin 128) (ecc : List MemUpset)
  /-- BASE_END (R307): End the work item and write back exactly the stored bytes with updated checks. -/
  | baseEnd (n : Fin 12) (v : Fin 128) (ecc : List MemUpset)
  /-- BADAMW (R318): Built-in AdamW update over each element of the span. -/
  | badamw (n : Fin 12) (v : Fin 128) (ecc : List MemUpset)
  /-- BCVT (R318): Built-in conversion identical to FCVT. -/
  | bcvt (n : Fin 12) (v : Fin 128) (ecc : List MemUpset)
  /-- BGATH (R319): Built-in gather of table rows by index inside each stack. -/
  | bgath (n : Fin 12) (v : Fin 128) (ecc : List MemUpset)
  /-- BSCAT (R319): Built-in scatter, set or add, of rows by index. -/
  | bscat (n : Fin 12) (v : Fin 128) (ecc : List MemUpset)
  /-- BRED (R318): Built-in ordered sum of up to seven inputs. -/
  | bred (n : Fin 12) (v : Fin 128) (ecc : List MemUpset)
  /-- BSQN (R318): Built-in sum of squares of the span. -/
  | bsqn (n : Fin 12) (v : Fin 128) (ecc : List MemUpset)
  /-- BCHK (R320): Built-in verify or regenerate of tile checks. -/
  | bchk (n : Fin 12) (v : Fin 128) (ecc : List MemUpset)
  /-- BASE_CODE_WRITE (R325): An SCH write to base code memory or a call entry takes effect only when idle, else is refused with an event. -/
  | baseCodeWrite (ag : Agent) (n : Fin 12) (call : Bool) (i : BitVec 14) (v : W64)
  /-- BDC_CLEAR_FRAMES (R556): BDC request 0x0101 zeroes the given frames when no call is running. -/
  | bdcClearFrames (n : Fin 12)
  /-- BDC_SCRUB (R321): BDC request 0x0102 clears every non-lost frame of the stack. -/
  | bdcScrub (n : Fin 12)
  /-- BDC_TEST_NATIVE (R321): BDC request 0x0103 runs March C- on four pseudo-channels, then scrub, and reports failures. -/
  | bdcTestNative (n : Fin 12) (fails : W64)
  /-- BDC_TEST_COMPAT (R321): BDC request 0x0104 runs the full March C-, retention test and scrub. -/
  | bdcTestCompat (n : Fin 12) (fails : W64)
  /-- BDC_START_IMAGE (R556): BDC request 0x0105 starts the BDC image. -/
  | bdcStartImage (n : Fin 12)
  /-- FRAME_RECEIVE (R343): A port checks an arriving frame in order, drops failures, NAKs where required and accepts the rest. -/
  | frameReceive (p : Fin 16) (now : Nat) (a : Arrival)
  /-- DATA_FRAME_SEND (R345): A data frame takes the next lsn and replay-buffer space and is sent when its VC has credit. -/
  | dataFrameSend (p : Fin 16) (below : List Nat)
  /-- NAK_RECEIVE (R347): A received NAK starts replay from ack_lsn + 1 after the frame in progress. -/
  | nakReceive (p : Fin 16) (now : Nat) (l : LinkWord)
  /-- REPLAY_TIMEOUT (R347): The oldest unacknowledged frame waiting past timeout_ns starts a replay. -/
  | replayTimeout (p : Fin 16) (now : Nat)
  /-- HOLD_DISCARD (R348): A frame reaching hold_us discards the unacknowledged frames, hands flows over, sends RESYNC and records 0x409. -/
  | holdDiscard (p : Fin 16)
  /-- IDLE_SEND (R344): A port with nothing else to send sends IDLE at least once per µs. -/
  | idleSend (p : Fin 16)
  /-- IDLE (R344): A received IDLE carries acknowledgements and credits only. -/
  | idle (p : Fin 16) (now : Nat) (l : LinkWord)
  /-- QUIET_REQ (R357): A received QUIET_REQ is accepted or refused with QUIET_ACK. -/
  | quietReq (p : Fin 16) (now : Nat) (l : LinkWord)
  /-- QUIET_ACK (R357): An accepting QUIET_ACK switches the port to lane 0 after its next frame. -/
  | quietAck (p : Fin 16) (now : Nat) (l : LinkWord) (accept : Bool)
  /-- WAKE_REQ (R358): A WAKE_REQ unparks lanes 1-7, realigns and answers WAKE_ACK. -/
  | wakeReq (p : Fin 16) (now : Nat) (l : LinkWord)
  /-- WAKE_ACK (R358): After both WAKE_ACKs each end returns to the negotiated width. -/
  | wakeAck (p : Fin 16) (now : Nat) (l : LinkWord)
  /-- RESYNC (R348): The receiver takes the given lsn as the next it expects. -/
  | resync (p : Fin 16) (now : Nat) (l : LinkWord) (lsn : BitVec 16)
  /-- WIDTH (R352): Exchange of lane_pass masks chooses the widest passing width or retires the port. -/
  | width (p : Fin 16) (now : Nat) (l : LinkWord) (mask : BitVec 8)
  /-- RETIRING (R344): A received RETIRING tells that the peer retires the port. -/
  | retiring (p : Fin 16) (now : Nat) (l : LinkWord)
  /-- PRESENT_DEASSERT (R335): LNKp_PRESENT_N going high takes the port down at once with event 0x405. -/
  | presentDeassert (p : Fin 16)
  /-- PRESENT_SETTLED (R335): LNKp_PRESENT_N low for 100 ms starts training again. -/
  | presentSettled (p : Fin 16)
  /-- MODULE_INTERRUPT (R334): A falling edge of LNKp_INT_N records event 0x40A. -/
  | moduleInterrupt (p : Fin 16)
  /-- PORT_TRAIN (R350): A port runs PMA, alignment, link check, width and discovery phases. -/
  | portTrain (p : Fin 16) (o : TrainStep)
  /-- TRAIN_PHASE_TIMEOUT (R350): A training phase overrunning its limit leaves the port down. -/
  | trainPhaseTimeout (p : Fin 16)
  /-- ALIGNMENT_LOSS (R353): Loss of PCS alignment starts a retrain. -/
  | alignmentLoss (p : Fin 16)
  /-- RX_SILENCE (R353): No frame for 20 µs starts a retrain. -/
  | rxSilence (p : Fin 16)
  /-- RETRAIN_TIMEOUT (R353): A retrain not done within 2 ms fails and records 0x404. -/
  | retrainTimeout (p : Fin 16)
  /-- PORT_DOWN_TIMEOUT (R652): A port down more than 10 ms retires with cause 4. -/
  | portDownTimeout (p : Fin 16)
  /-- PRT_RETRAIN (R368): PRT_CTRL.retrain retrains the port now. -/
  | prtRetrain (ag : Agent) (p : Fin 16)
  /-- PRT_PORT_RESET (R355): PRT_CTRL.port_reset retrains the port with a link check, optionally unretiring it. -/
  | prtPortReset (ag : Agent) (p : Fin 16) (unretire : Bool)
  /-- PRT_CTRL_QUIET_REQ (R359): Writing quiet_req requests quiet (1) or wake (0) on the port. -/
  | prtCtrlQuietReq (ag : Agent) (p : Fin 16) (v : Bool)
  /-- QUIET_AUTO (R359): After idle_us without data an automatic-quiet port requests quiet. -/
  | quietAuto (p : Fin 16)
  /-- QUIET_AUTO_WAKE (R359): An automatic-quiet port requests wake when its output queues exceed 64 KiB. -/
  | quietAutoWake (p : Fin 16)
  /-- LLDP_SEND (R360): An up port sends LLDP once per second and whenever a TLV changes. -/
  | lldpSend (p : Fin 16)
  /-- LLDP_RECEIVE (R361): A received LLDP frame records the peer, sets peer_ok, or reports a changed neighbour. -/
  | lldpReceive (p : Fin 16) (f : Lldp)
  /-- LLDP_TTL_EXPIRE (R361): A peer not heard within its TTL clears peer_ok. -/
  | lldpTtlExpire (p : Fin 16)
  /-- HN_FRAME_RECEIVE (R362): A host-network port accepts Noreo over UDP to udp_port, passes ND and LLDP to FAB, drops and counts the rest. -/
  | hnFrameReceive (p : Fin 16) (a : HnArrival)
  /-- PFC_FRAME (R363): A received priority flow control frame pauses or resumes the request or reply priority. -/
  | pfcFrame (p : Fin 16) (prio : Fin 8) (pause : Bool)
  /-- PORT_PLAN_NEXT_WRITE (R339): A write to HUB_PORT_PLAN_NEXT is stored in the configuration record for the next cold boot. -/
  | portPlanNextWrite (ag : Agent) (v : W64)
  /-- PACKET_ROUTE (R378): At each hop the router looks up dst and delivers, forwards or drops the packet. -/
  | packetRoute (src : Fin 17) (i : Nat) (bad : Bool)
  /-- PACKET_WAIT_RETRY (R384): A packet with no adaptive or escape credit is tried again in each CK_F cycle. -/
  | packetWaitRetry (src : Fin 17) (i : Nat)
  /-- ROUTE_ENTRY_WRITE (R377): A FAB write to a routing entry of the inactive bank is taken; of the active bank it is ignored with 0x501. -/
  | routeEntryWrite (ag : Agent) (b : Fin 2) (n : Fin 131072) (v : W64)
  /-- RTR_BANK_FLIP (R377): Writing RTR_RT_EPOCH.bank changes the active bank between two routing decisions. -/
  | rtrBankFlip (ag : Agent) (b : Fin 2)
  /-- RTR_NODE_WRITE (R375): FAB writes the device's node ID and valid, changing which traffic it sends, accepts and forwards. -/
  | rtrNodeWrite (ag : Agent) (node : BitVec 20) (valid : Bool)
  /-- PACKET_SEND (R391): A source sends the next packet of a flow with the next seq once window and rate allow. -/
  | packetSend (dst : BitVec 20) (cls : Fin 8) (ask : List NetJob)
  /-- ACK_TIMER (R394): An ACK with the cumulative seq is sent 2 µs after the first unacknowledged delivery. -/
  | ackTimer (src : BitVec 20) (cls : Fin 8)
  /-- E2E_TIMEOUT (R395): A flow's timeout retransmits its unacknowledged packets, failing and resetting the flow after retx_max. -/
  | e2eTimeout (dst : BitVec 20) (cls : Fin 8)
  /-- NACK_BUSY_RETRY (R401): 10 µs after NACK busy the source retransmits, failing after reset_wait. -/
  | nackBusyRetry (dst : BitVec 20) (cls : Fin 8) (late : Bool)
  /-- RESET_RETRY (R407): Every 100 µs a held flow retransmits its oldest NACKed packet. -/
  | resetRetry (dst : BitVec 20) (cls : Fin 8)
  /-- RESET_WAIT_EXPIRE (R407): When reset_wait elapses every outstanding transaction of the flow fails. -/
  | resetWaitExpire (dst : BitVec 20) (cls : Fin 8)
  /-- CONTEXT_RECLAIM (R390): A receive context idle for 1 s with nothing outstanding is reclaimed. -/
  | contextReclaim (src : BitVec 20) (cls : Fin 8)
  /-- CC_TICK (R415): Each 10 µs tick without echo decays alpha and raises the flow's rate. -/
  | ccTick (dst : BitVec 20) (cls : Fin 8)
  /-- WRDESC (R399): A write descriptor packet passes the endpoint checks and opens a write transaction. -/
  | wrdesc (bad : Bool)
  /-- WRDATA (R399): A write data packet is applied, or held in the early store until its WRDESC is delivered. -/
  | wrdata (bad : Bool)
  /-- RDREQ (R399): A read request is checked and answered with RDDATA. -/
  | rdreq (bad : Bool)
  /-- RDDATA (R393): Read reply data lands in space the requester reserved. -/
  | rddata
  /-- ATOMIC (R402): An ADD64, SWAP64 or CAS64 is applied at most once and its reply cached. -/
  | atomic (bad : Bool)
  /-- ATOMRSP (R399): An atomic reply delivers the old value to the requester. -/
  | atomrsp
  /-- DBELL (R402): A doorbell sets a remote signal once and its reply is cached. -/
  | dbell (bad : Bool)
  /-- DBACK (R398): A doorbell reply completes its transaction. -/
  | dback
  /-- CONTRIB (R448): A packet-mode collective tile is applied once and answered with a cached CONTRIBRSP. -/
  | contrib (bad : Bool)
  /-- CONTRIBRSP (R448): A collective tile acknowledgement advances the sender's next expected chunk. -/
  | contribrsp
  /-- ACK (R394): An ACK completes packets up to its seq and carries scorch-mark echoes into the rate update. -/
  | ack
  /-- NACK (R401): A NACK makes the source fail, retry or reset the flow by its reason. -/
  | nack
  /-- LOSS (R396): A LOSS notice makes the source retransmit the named packet at once. -/
  | loss
  /-- RACK (R403): A RACK frees the flow's reply-cache entries at or below its seq. -/
  | rack
  /-- FLOWRESET (R392): A FLOWRESET creates or replaces the receive context and is ACKed, or NACKed. -/
  | flowreset
  /-- MACK (R417): A multicast consumer acknowledgement counts towards completion of the transaction. -/
  | mack
  /-- CDATA (R410): A circuit frame is forwarded by its circuit entry or delivered to the named CLX. -/
  | cdata (src : Fin 17) (i : Nat)
  /-- CDOWN (R450): A circuit-down notice clears the circuit's valid bit and continues the instance degraded in packet mode. -/
  | cdown
  /-- MGMT (R463): A management packet is relayed by its hop list or handled by FAB. -/
  | mgmt
  /-- HEEL_APPLY (R404): A held heel or early WRDATA is applied once its predecessors are delivered. -/
  | heelApply (src : BitVec 20) (cls : Fin 8) (final : Option (BitVec 20))
  /-- MULTICAST_TIMEOUT (R417): A multicast transaction not acknowledged in time is sent again. -/
  | multicastTimeout (dst : BitVec 20)
  /-- SHARE_GROUP_WRITE (R409): A share-group write is taken, or ignored with 0x504 when units would exceed 64. -/
  | shareGroupWrite (ag : Agent) (p : Fin 16) (g : Fin 64) (v : W64)
  /-- CIRCUIT_ENTRY_WRITE (R424): A circuit-table entry write installs or removes a hop. -/
  | circuitEntryWrite (ag : Agent) (t : Fin 17) (id : BitVec 12) (v : W64)
  /-- TELEMETRY_WINDOW_END (R425): The router snapshots its counters and increments RTR_TELEM_GEN. -/
  | telemetryWindowEnd
  /-- INSTANCE_START (R429): The CLX checks the next queued instance and starts it, or fails its token. -/
  | instanceStart (q : Fin 4)
  /-- CHUNK_SEND (R445): A CLX sends a chunk's tiles in order within the unacknowledged-chunk limit. -/
  | chunkSend (m : Fin 4) (peer : Fin 64) (down : Bool)
  /-- TILE_READBACK_SEND (R447): A tile written without credit is read back and sent when credit returns. -/
  | tileReadbackSend (m : Fin 4) (peer : Fin 64) (down : Bool)
  /-- CLX_INSTANCE_DONE (R428): When every member finishes and writes are visible the token is done. -/
  | clxInstanceDone (q : Fin 4)
  /-- CLX_PROGRESS_TIMEOUT (R451): No chunk progress for timeout_ms fails the instance with code 0x7. -/
  | clxProgressTimeout (q : Fin 4)
  /-- GROUP_ENTRY_WRITE (R431): A FAB group write reserves staging or is refused with 0x6C3, deferred while an instance names it. -/
  | groupEntryWrite (ag : Agent) (m : Fin 4) (g : Fin 8) (i : Fin 72) (v : W64)
  /-- GROUP_WRITE_APPLY (R432): A deferred group write takes effect once no instance names the group. -/
  | groupWriteApply (m : Fin 4) (g : Fin 8)
  /-- CLX_PROGRAM_WRITE (R458): An SCH program-entry write takes effect only when idle, else is refused with an event. -/
  | clxProgramWrite (ag : Agent) (m : Fin 4) (x : Fin 1024) (i : Fin 8) (v : W64)
  /-- MGMT_RETRANSMIT (R465): A request without response after 2 ms is resent, failing after eight with 0xB09. -/
  | mgmtRetransmit (mseq : BitVec 32)
  /-- ELECT_TIMER (R466): Every 100 ms a device sends ELECT on each fabric-enabled port. -/
  | electTimer
  /-- CANDIDATE_EXPIRE (R466): A candidate not heard for 1 s is forgotten. -/
  | candidateExpire (serial : BitVec 64) (p : Fin 16)
  /-- ELECTION_STABLE (R466): Best and second unchanged for 1 s set stable; a self-best device becomes primary with a new term. -/
  | electionStable
  /-- BEAT_TIMER (R467): The primary sends BEAT every 10 ms. -/
  | beatTimer
  /-- STANDBY_TAKEOVER (R467): A standby without BEAT for 100 ms becomes primary and resends unlogged requests. -/
  | standbyTakeover
  /-- ELECT (R466): An ELECT updates the known best and second candidates and the highest term. -/
  | elect
  /-- BEAT (R467): A BEAT tells the standby the primary lives. -/
  | beat
  /-- REPLICATE (R467): A log record is replicated to the standby and acknowledged. -/
  | replicate
  /-- QUERY (R464): An agent answers with its identity, plan and port states. -/
  | query (net : Bool)
  /-- ASSIGN (R470): An agent writes its node ID into RTR_NODE. -/
  | assign
  /-- PORT_EN (R464): An agent sets or clears fabric_en on the named ports. -/
  | portEn
  /-- PLAN (R471): An agent receives a route-plan fragment. -/
  | plan
  /-- EXPAND (R472): An agent expands the plan into every entry of the inactive bank and reports counts. -/
  | expand
  /-- ENTRY (R473): An agent writes single inactive-bank entries. -/
  | entry
  /-- FM_HOLD (R478): An agent writes the hold map and sets hold_en. -/
  | fmHold
  /-- DRAIN (R477): An agent answers with its count of held flows still open. -/
  | drain
  /-- FLIP (R477): An agent switches to the new routing bank. -/
  | flip
  /-- RESUME (R477): An agent clears hold_en and the map. -/
  | resume
  /-- DOMAIN (R608): The SEC assigns or releases a partition's job domain in RTR_DOMAIN after its checks. -/
  | domain
  /-- GROUP (R430): An agent writes a CLX group entry. -/
  | group
  /-- CIRCUIT (R464): An agent writes circuit entries or share groups. -/
  | circuit
  /-- TABLES (R464): An agent writes multicast or host-network entries. -/
  | tables
  /-- REPORT (R464): The primary receives an agent's event report and answers. -/
  | report
  /-- REPORT_REPEAT (R465): An unanswered REPORT is repeated every 2 ms. -/
  | reportRepeat
  /-- DRAIN_SETTLE (R477): 500 µs after all agents drain to zero the primary sends FLIP. -/
  | drainSettle
  /-- DRAIN_OVERRUN (R479): A drain not done within 50 ms aborts the swap with RESUME and 0xB07. -/
  | drainOverrun
  /-- SWAP_RETRY (R479): 1 s after an abort the primary retries the swap, reporting after three aborts. -/
  | swapRetry
  /-- TAG_REUSE_TIMER (R482): A released domain tag becomes reusable 100 ms after the last release. -/
  | tagReuseTimer (tag : BitVec 12)
  /-- IMG_OFFER (R571): A bundle offer reaches a device for network boot and is forwarded along the tree. -/
  | imgOffer
  /-- IMG_DATA (R572): An image fragment is stored if asked for and forwarded along the spanning tree. -/
  | imgData
  /-- IMG_DONE (R570): The bundle is complete; the SEC verifies it and bring-up continues with 0x80A. -/
  | imgDone
  /-- BAR0_WRITE (R491): A BAR0 write becomes a capture-ring entry, or is discarded over quota or bad alignment. -/
  | bar0Write (h : Fin 2) (f : Fin 5) (off : BitVec 16) (wide : Bool) (v : W64)
  /-- CAPTURE_CONSUME (R553): The SCH applies a captured write and updates the shadow. -/
  | captureConsume (h : Fin 2)
  /-- HIF_CAP_CONS_WRITE (R553): Advancing HIF_CAP_CONS updates done indices and pending counts and releases held doorbells. -/
  | hifCapConsWrite (ag : Agent) (h : Fin 2) (v : W32)
  /-- DOORBELL (R495): A BAR2 doorbell is tagged and held until its function's tagged write is consumed. -/
  | doorbell (h : Fin 2) (f : Fin 5) (q : Fin 16) (head : Bool) (v : W32)
  /-- HEARTBEAT (R501): A heartbeat write counts as a beat on arrival. -/
  | heartbeat (h : Fin 2) (f : Fin 5)
  /-- HEARTBEAT_WINDOW_END (R515): A window without a beat increments missed; three make the function orphaned. -/
  | heartbeatWindowEnd (h : Fin 2) (f : Fin 5)
  /-- ORPHAN_KEEP_EXPIRE (R519): orphan_keep passing without ADOPT or DISCARD acts as DISCARD. -/
  | orphanKeepExpire (h : Fin 2) (f : Fin 5)
  /-- QUEUE_CREATE (R502): QCTRL.enable set creates a queue pair. -/
  | queueCreate (h : Fin 2) (f : Fin 5) (q : Fin 16) (v : W32)
  /-- QUEUE_DELETE (R502): QCTRL.enable cleared deletes a queue pair. -/
  | queueDelete (h : Fin 2) (f : Fin 5) (q : Fin 16) (v : W32)
  /-- WINDOW_SET (R500): A BAR4 window write is put in force or refused. -/
  | windowSet (h : Fin 2) (f : Fin 5) (w : Fin 32) (v : W64)
  /-- SUBMISSION_FETCH (R502): The SCH fetches a submission entry and starts its command, or stops a bad queue. -/
  | submissionFetch (h : Fin 2) (f : Fin 5) (q : Fin 16) (host : HostData) (bad : Bool)
  /-- FENCED_COMMAND_START (R505): A fenced command starts when every earlier command of its queue completes. -/
  | fencedCommandStart (h : Fin 2) (f : Fin 5) (q : Fin 16)
  /-- COMPLETION_POST (R504): A completed command's entry is written with phase and the vector raised, or buffered if full. -/
  | completionPost (h : Fin 2) (f : Fin 5)
  /-- BAR4_ACCESS (R512): A BAR4 access is translated through its window to a handle or CSR, or aborted. -/
  | bar4Access (h : Fin 2) (f : Fin 5) (off : BitVec 36) (n : Nat) (data : Option (List Byte)) (ecc : List MemUpset)
  /-- HOST_COMPLETION_TIMEOUT (R514): A device-initiated host access without completion for 50 ms fails its transfer. -/
  | hostCompletionTimeout (h : Fin 2) (f : Fin 5) (tok : Option (BitVec 8))
  /-- PCIE_CONFIG_REQUEST (R614): A configuration request is answered, or completed with Request Retry Status before ready. -/
  | pcieConfigRequest (h : Fin 2) (f : Fin 5) (r : CfgReq)
  /-- NEGOTIATE (R523): A go accepts or refuses the interface major and features, limiting PF0 on a security mismatch. -/
  | negotiate (h : Fin 2) (f : Fin 5)
  /-- FLR (R520): An FLR of a VF resets the function, discards its captured writes and sets fstate 3. -/
  | flr (h : Fin 2) (m : Fin 4)
  /-- FLR_QUIESCE (R521): At quiescence a latched go negotiates and held captured writes are consumed. -/
  | flrQuiesce (h : Fin 2) (f : Fin 5)
  /-- PF0_FLR (R522): An FLR of PF0 resets it, clears VF Enable and orphans each VF. -/
  | pf0Flr (h : Fin 2)
  /-- PORT_LINK_RESET (R522): Link-down, hot reset or PERST acts on every function of the port as an FLR. -/
  | portLinkReset (h : Fin 2) (kind : Fin 4)
  /-- IDENTIFY (R507): Return HUB_ID and HUB_FP_SUMMARY. -/
  | identify (h : Fin 2) (f : Fin 5)
  /-- HCREATE (R260): Create a handle, allocating and placing its slabs. -/
  | hcreate (h : Fin 2) (f : Fin 5) (x : BitVec 16) (base : BitVec 19) (picks : List Nat)
  /-- HDESTROY (R261): Invalidate a handle and start its teardown. -/
  | hdestroy (h : Fin 2) (f : Fin 5)
  /-- HSEED (R253): Write a handle's rounding seed. -/
  | hseed (h : Fin 2) (f : Fin 5)
  /-- HCOPY (R514): Copy between host memory and a handle. -/
  | hcopy (h : Fin 2) (f : Fin 5) (host : HostData) (ecc : List MemUpset)
  /-- LOAD (R510): Check and bind a recipe package, leaving the state loaded. -/
  | load (h : Fin 2) (f : Fin 5) (ecc : List MemUpset)
  /-- RUN (R507): Set the arguments and start the recipe, completing when it ends or stops. -/
  | run (h : Fin 2) (f : Fin 5) (host : HostData)
  /-- HOLD (R507): Set hold_req and complete once held at a commit point. -/
  | hold (h : Fin 2) (f : Fin 5)
  /-- RELEASE (R507): Clear hold_req. -/
  | release (h : Fin 2) (f : Fin 5)
  /-- ABORT (R507): Abort the recipe with fault 0x08. -/
  | abort (h : Fin 2) (f : Fin 5)
  /-- ORPHAN_READ (R519): Copy the orphan record to host memory. -/
  | orphanRead (h : Fin 2) (f : Fin 5) (host : HostData)
  /-- ADOPT (R519): Deliver buffered completions, clear the hold and return to ready. -/
  | adopt (h : Fin 2) (f : Fin 5)
  /-- DISCARD (R519): Abort the recipe, discard buffered completions and return to ready. -/
  | discard (h : Fin 2) (f : Fin 5)
  /-- PARTITION_CREATE (R579): Form a partition from clean dies and make its VF present. -/
  | partitionCreate (h : Fin 2)
  /-- PARTITION_RELEASE (R580): Stop, unmap, forget, power-cycle, scrub and restore a partition's dies, then remove it. -/
  | partitionRelease (h : Fin 2) (tests : List (Nat × Nat))
  /-- RELEASE_STOP_BOUND (R580): At the 100 ms bound of a release's stop step outstanding transfers are abandoned. -/
  | releaseStopBound (p : Fin 4) (tests : List (Nat × Nat))
  /-- PARTITION_STORE_MAP (R578): Store the current map as the default in the configuration record. -/
  | partitionStoreMap (h : Fin 2)
  /-- PARTITION_RESET (R619): Reset a partition through steps 1 and 3-7 of release, keeping its domain. -/
  | partitionReset (h : Fin 2) (tests : List (Nat × Nat))
  /-- JOB_CARVE (R481): Carve a job domain over member partitions, or refuse it. -/
  | jobCarve (h : Fin 2) (host : HostData)
  /-- JOB_RELEASE (R482): Tear down a job's circuits and groups and release its domain. -/
  | jobRelease (h : Fin 2)
  /-- POLICY (R507): Set abort_on_flr and orphan_keep of a partition. -/
  | policy (h : Fin 2)
  /-- FW_STAGE (R561): Write a bundle into the inactive slot and verify it. -/
  | fwStage (h : Fin 2) (host : HostData)
  /-- STAGING_VERIFIED (R562): Staging ends as staged or failed with 0x801. -/
  | stagingVerified
  /-- FW_ACTIVATE (R562): Start activation, pending while an emergency lasts. -/
  | fwActivate (h : Fin 2)
  /-- HANDOVER (R563): A component's old image writes a levain record and the new image starts and adopts it. -/
  | handover (k : Fin 7) (payload : List Byte) (comes : Bool)
  /-- ADOPT_TIMEOUT (R565): A new image not adopting within 2 s is rolled back, or stopped if the old fails. -/
  | adoptTimeout (starts : Bool)
  /-- PMC_HANDOVER_START (R566): After 60 s without emergency the PMC's handover starts. -/
  | pmcHandoverStart
  /-- UNIT_IMAGE_TAKE (R564): A CCC or BDC takes a new image when its unit is idle. -/
  | unitImageTake (bdc : Bool) (i : Fin 64)
  /-- FW_STATUS (R561): Return HUB_FW_UPD. -/
  | fwStatus (h : Fin 2)
  /-- CONFIG (R561): Store role_en and prio, machine identifier or origin serial in the configuration record. -/
  | config (h : Fin 2)
  /-- CCC_MCAST_WRITE (R560): A code write is copied into every cluster of HUB_CCC_MCAST. -/
  | cccMcastWrite (ag : Agent) (i : Fin 32768) (v : W64)
  /-- ATTEST (R588): Generate an ephemeral key and write a signed attestation report with certificates. -/
  | attest (h : Fin 2) (f : Fin 5) (host : HostData)
  /-- KEY_IMPORT (R593): Decapsulate and unwrap a tenant key into a slot bound to a handle. -/
  | keyImport (h : Fin 2) (f : Fin 5) (host : HostData) (bad : List Nat)
  /-- SEAL_LOAD (R595): Move sealed chunks and decrypt them into the handle. -/
  | sealLoad (h : Fin 2) (f : Fin 5) (bad : List Nat)
  /-- SEAL_CHUNK_DONE (R596): A chunk completes verified, or fails, zeroing its range and failing the slot. -/
  | sealChunkDone (h : Fin 2) (f : Fin 5) (host : HostData)
  /-- KEY_CLEAR (R597): Empty a key slot and erase its key. -/
  | keyClear (h : Fin 2) (f : Fin 5)
  /-- SVN_COMMIT (R599): Raise the fused SVN floor. -/
  | svnCommit (h : Fin 2)
  /-- OWNER_ENROLL (R600): Enroll a new owner key. -/
  | ownerEnroll (h : Fin 2) (host : HostData)
  /-- IDE_KEY_PROGRAM (R598): IDE_KM over PF0's DOE programs an IDE stream key. -/
  | ideKeyProgram (h : Fin 2) (stream : Fin 6)
  /-- AGENT_START (R528): An agent's start increments its incarnation and marks stale messages and releases its peels. -/
  | agentStart (ag : Agent)
  /-- BBX_DATA_WRITE (R536): A permitted sender writes message data, else the write is refused with 0x808. -/
  | bbxDataWrite (ag : Agent) (b : Fin 64) (i : Fin 16) (v : W32)
  /-- BBX_SEND (R538): Hardware stamps and protects the header, sets go and releases the peel. -/
  | bbxSend (ag : Agent) (b : Fin 64) (v : W32)
  /-- BBX_RECEIVE_CLEAR (R539): The receiver writes go to empty the breadbox, clearing stale and hdr_err. -/
  | bbxReceiveClear (ag : Agent) (b : Fin 64) (v : W32)
  /-- BBX_LOCK_READ (R540): A read of the peel acquires it when free and returns the owner otherwise. -/
  | bbxLockRead (ag : Agent) (b : Fin 64)
  /-- BBX_LOCK_RELEASE (R540): The owner writes 0x00 to release the peel. -/
  | bbxLockRelease (ag : Agent) (b : Fin 64) (v : W32)
  /-- BBX_HDR_READ (R543): A header read whose complement fails sets hdr_err and records 0x809. -/
  | bbxHdrRead (ag : Agent) (b : Fin 64) (bad : Bool)
  /-- SIGNAL_POST (R546): When a signal breadbox is empty and an accumulator non-zero, hardware posts both sets and clears them. -/
  | signalPost (p : Fin 4)
  /-- SIGNAL_DELIVER (R547): The SCH delivers each non-zero set as a kind-1 completion and clears go. -/
  | signalDeliver (p : Fin 4)
  /-- SAVE_TIMEOUT (R549): A partition not at a commit point within 1 s of a save request is reported not quiescent. -/
  | saveTimeout (p : Fin 4)
  /-- EVENT_RECORD (R662): The recorder writes a new record or increments repeat on an identical last record. -/
  | eventRecord
  /-- LOST_EVENTS_REPORT (R663): When the queue has room the recorder writes event 0xA0E. -/
  | lostEventsReport
  /-- RECORD_FLASH_SYNC (R662): The flash copy of the last record follows its change within 10 ms. -/
  | recordFlashSync
  /-- FAULT_HISTORY_WRITE (R653): The SEC writes the fault history copy within 10 ms of an occurrence. -/
  | faultHistoryWrite
  /-- OPERATING_HOUR_MARK (R658): Each 3,600 s without another record writes event 0xA0D. -/
  | operatingHourMark
  /-- REC_CURSOR_WRITE (R664): Writing a cursor positions the reader's eight-record window. -/
  | recCursorWrite (ag : Agent) (w : Fin 6) (v : W32)
  /-- RECORDER_CLEAR_REQUEST (R666): PF0's clear request is authorised, refused or answered busy. -/
  | recorderClearRequest (h : Fin 2) (host : HostData)
  /-- VIN_48_REMOVED (R37): Removal of VIN_48 releases THERM_TRIP_N, which has stayed low since a thermal trip. -/
  | vin48Removed
deriving DecidableEq, Repr

end Sys2Proof
end

