-- ==== Sys2Proof/Machine/Keccak.lean ====
section
/-!
DEFINITION. The digests that the manual names by their standard: SHA3-512 (R62, R583, R586, R653) and SHAKE256 (R584). PRESUMED: the
manual gives no algorithm; this is FIPS 202.
-/
namespace Sys2Proof

/-- Round constants of the permutation. -/
def keccakRound : List W64 :=
  [0x0000000000000001, 0x0000000000008082, 0x800000000000808A, 0x8000000080008000, 0x000000000000808B, 0x0000000080000001,
   0x8000000080008081, 0x8000000000008009, 0x000000000000008A, 0x0000000000000088, 0x0000000080008009, 0x000000008000000A,
   0x000000008000808B, 0x800000000000008B, 0x8000000000008089, 0x8000000000008003, 0x8000000000008002, 0x8000000000000080,
   0x000000000000800A, 0x800000008000000A, 0x8000000080008081, 0x8000000000008080, 0x0000000080000001, 0x8000000080008008]

/-- Rotations of the lanes, lane (x, y) at 5 y + x. -/
def keccakTurns : List Nat :=
  [0, 1, 62, 28, 27, 36, 44, 6, 55, 20, 3, 10, 43, 25, 39, 41, 45, 15, 21, 8, 18, 2, 61, 56, 14]

/-- Lane (x, y) of a state of 25 lanes, indices modulo 5. -/
def keccakLane (a : List W64) (x y : Nat) : W64 := a[5 * (y % 5) + x % 5]?.getD 0

/-- A state from a function of its lanes. -/
def keccakMake (f : Nat → Nat → W64) : List W64 := (List.range 25).map (fun i => f (i % 5) (i / 5))

/-- One round. -/
def keccakStep (a : List W64) (rc : W64) : List W64 :=
  let col := (List.range 5).map (fun x => (List.range 5).foldl (fun v y => v ^^^ keccakLane a x y) 0)
  let par := fun (x : Nat) => col[x % 5]?.getD 0
  let b := keccakMake (fun x y => keccakLane a x y ^^^ par (x + 4) ^^^ (par (x + 1)).rotateLeft 1)
  let c := keccakMake (fun x y =>
    let u := x + 3 * y
    (keccakLane b u x).rotateLeft (keccakTurns[5 * (x % 5) + u % 5]?.getD 0))
  keccakMake (fun x y =>
    let v := keccakLane c x y ^^^ (~~~ keccakLane c (x + 1) y &&& keccakLane c (x + 2) y)
    if x = 0 ∧ y = 0 then v ^^^ rc else v)

/-- The permutation of 24 rounds. -/
def keccakPermute (a : List W64) : List W64 := keccakRound.foldl keccakStep a

/-- A block of bytes enters a state. -/
def keccakAbsorb (a : List W64) (block : List Byte) : List W64 :=
  keccakPermute (a.zipIdx.map (fun x => x.1 ^^^ BitVec.ofNat 64 (leNat ((block.drop (8 * x.2)).take 8))))

/-- The sponge with a rate in bytes and a domain suffix, of which the first `n` bytes of output are at most one block. -/
def keccakSponge (rate suffix n : Nat) (m : List Byte) : List Byte :=
  let gap := rate - m.length % rate
  let pad := (List.range gap).map (fun i => BitVec.ofNat 8 ((if i = 0 then suffix else 0) ^^^ (if i + 1 = gap then 0x80 else 0)))
  let a := (chunksOf rate (m.length / rate + 1) (m ++ pad)).foldl keccakAbsorb (List.replicate 25 0)
  (a.flatMap (fun w => leBytes 8 w.toNat)).take n

/-- SHA3-512; byte 0 of the digest is the lowest byte. -/
@[irreducible]
def sha3_512 (m : List Byte) : BitVec 512 := BitVec.ofNat 512 (leNat (keccakSponge 72 0x06 64 m))

/-- SHAKE256 with 32 bytes of output. -/
@[irreducible]
def shake256 (m : List Byte) : List Byte := keccakSponge 136 0x1F 32 m

end Sys2Proof
end

