-- ==== Sys2Proof/Config.lean ====
section
/-!
DEFINITION. What an implementation fixes and the manual leaves open: constants and functions with no body. Nothing can
evaluate them, so a statement that mentions one holds whatever it is.
-/
namespace Sys2Proof.Config

/-- ML-DSA-87 verification of a signature (public key, message, signature), R558, R599, R600, R666. -/
opaque mldsaVerify : List Byte → List Byte → List Byte → Bool

/-- The unique device secret (R583). -/
opaque uds : List Byte

/-- ML-DSA-87 signature with the key pair of a seed over a message, with the signer's randomness (R584, R588). -/
opaque mldsaSign : List Byte → List Byte → W64 → List Byte

/-- The certificate of the IDK, in the manufacture record, and that of the AK, by the seeds of both keys and the SEC measurement
(R584, R591). -/
opaque idkCert : List Byte

@[inherit_doc idkCert]
opaque akCert : List Byte → List Byte → List Byte → List Byte

/-- The starter's own digest, fixed in ROM (R586). -/
opaque starterDigest : BitVec 512

/-- The encapsulation key of the ML-KEM-1024 key pair made from a draw, and the shared secret that its decapsulation key gives for a
ciphertext (R588, R593). -/
opaque mlkemKey : W64 → List Byte

@[inherit_doc mlkemKey]
opaque mlkemDecap : W64 → List Byte → List Byte

/-- AES-256-GCM: the plaintext of a ciphertext by key, IV, additional authenticated data and tag; none when the tag does not verify
(R593, R596). -/
opaque gcmOpen : List Byte → List Byte → List Byte → List Byte → List Byte → Option (List Byte)

/-- Wealia's firmware key (R559). -/
opaque firmwareKey : List Byte

/-- Fresh random words (SEC_NONCE of R606, keys of R588): the n-th draw of the device. -/
opaque freshWord : Nat → W64

/-- The binary32 result of a TRX function by its operation code, its binary32 input, fmt and rmode (R221): the manual gives
error bounds, not bits; trxValue keeps it within them. -/
opaque trx : Nat → Nat → Nat → Nat → Nat

/-- The bytes of a route plan before its lost links, from sizes, open flags and excluded nodes; and what bytes of a plan say: sizes, open
flags, excluded nodes, and the number of bytes before the lost links (R471): the manual lays out only the lost links. -/
opaque planHead : List Nat → List Bool → List Nat → List Byte

@[inherit_doc planHead]
opaque planRead : List Byte → List Nat × List Bool × List Nat × Nat

/-- The bytes of one committed change in REPLICATE (R464, R467), for the destination's node, the message that applies it and the jobs of
the record as they then stand; and what such bytes say: the manual gives no layout. -/
opaque changeBytes : Nat → List Byte → List Machine.FmJob → List Byte

@[inherit_doc changeBytes]
opaque changeRead : List Byte → Nat × List Byte × List Machine.FmJob

/-- The first byte of a CIRCUIT write of a share group of an output port (R464): the manual does not say how it differs from that of a
circuit table. -/
opaque shareByte : Nat → BitVec 8

/-- The register word that the first byte and the index of a TABLES write name (R464): whether it is a host-network entry, its index, and
its word; none for no such register. -/
opaque tablesWord : Nat → Nat → Option (Bool × Nat × Nat)

/-- The flow hash of a host-network flow, by source node, destination node and class (R362): named, not defined. -/
opaque flowHash : Nat → Nat → Nat → BitVec 32

/-- The IPv6 flow label that a flow hash gives (R362). -/
opaque flowLabel : BitVec 32 → BitVec 20

/-- The features that firmware offers a function at negotiation (R523). -/
opaque offered : Nat → W64

/-- Wealia's PCI Express vendor ID (R488): named, its number not given. -/
opaque vendorId : BitVec 16

end Sys2Proof.Config
end

