-- ==== Sys2Proof/Machine/Table.lean ====
section
/-!
DEFINITION. Sparse tables: the one representation of memories, register files, queues by number and per-unit state.
A table is a list of (key, value) pairs in ONE canonical form: keys strictly rising, and no entry equal to the value an
unlisted key reads as (`default`). Memory is such a table of `Host.Cell`.
-/
namespace Sys2Proof.Machine

/-- A sparse table from natural-number keys. -/
abbrev Tbl (α : Type) := List (Nat × α)

/-- The value at a key: the first entry with that key, or the default value of the type. -/
def Tbl.get {α : Type} [Inhabited α] : Tbl α → Nat → α
  | [], _ => default
  | (k, v) :: m, i => if k = i then v else Tbl.get m i

/-- The entries with keys below `lo`, then `mid`, then the entries with keys from `hi` on. -/
def Tbl.splice {α : Type} (m : Tbl α) (lo hi : Nat) (mid : Tbl α) : Tbl α :=
  m.filter (fun e => e.1 < lo) ++ mid ++ m.filter (fun e => hi ≤ e.1)

/-- Writing one key. Writing the default value removes the entry, so equal tables are equal lists. -/
def Tbl.set {α : Type} [Inhabited α] [DecidableEq α] (m : Tbl α) (i : Nat) (v : α) : Tbl α :=
  m.splice i (i + 1) (if v = default then [] else [(i, v)])

/-- Changing the value at one key through a function. -/
def Tbl.upd {α : Type} [Inhabited α] [DecidableEq α] (m : Tbl α) (i : Nat) (f : α → α) : Tbl α :=
  m.set i (f (m.get i))

/-- The entries that a run of values makes from key `i` on, without the default values. -/
def Tbl.run {α : Type} [Inhabited α] [DecidableEq α] : Nat → List α → Tbl α
  | _, [] => []
  | i, v :: vs => if v = default then Tbl.run (i + 1) vs else (i, v) :: Tbl.run (i + 1) vs

/-- Writing consecutive keys from `i` on. -/
def Tbl.setRun {α : Type} [Inhabited α] [DecidableEq α] (m : Tbl α) (i : Nat) (vs : List α) : Tbl α :=
  m.splice i (i + vs.length) (Tbl.run i vs)

/-- Reading `n` consecutive keys from `i` on. -/
def Tbl.getRun {α : Type} [Inhabited α] (m : Tbl α) (i n : Nat) : List α :=
  (List.range n).map (fun j => m.get (i + j))

/-- Entries written one after another. -/
def Tbl.addAll {α : Type} [Inhabited α] [DecidableEq α] (m : Tbl α) (l : List (Nat × α)) : Tbl α := l.foldl (fun m e => m.set e.1 e.2) m

/-- Forgetting a half-open range of keys: each reads as the default value. -/
def Tbl.clear {α : Type} (m : Tbl α) (lo hi : Nat) : Tbl α := m.splice lo hi []

/-- The canonical form: keys strictly rising and no entry that equals the default value. -/
def Tbl.wf {α : Type} [Inhabited α] [DecidableEq α] : Tbl α → Bool
  | [] => true
  | [(_, v)] => decide (v ≠ default)
  | (k, v) :: (k', v') :: m => decide (v ≠ default) && decide (k < k') && Tbl.wf ((k', v') :: m)

/-- The first of `fuel` numbers from `i` on that satisfies `p`. -/
def firstFrom (p : Nat → Bool) : Nat → Nat → Option Nat
  | 0, _ => none
  | fuel + 1, i => if p i then some i else firstFrom p fuel (i + 1)

/-- The keys a table lists. -/
def Tbl.keys {α : Type} (m : Tbl α) : List Nat := m.map Prod.fst

end Sys2Proof.Machine
end

