-- ==== Sys2Proof/Machine/BaseState.lean ====
section
/-!
DEFINITION. The state of the base engines (07_base_programs.md R296, R301, R306, R307, R310) and of the queues of the collective
engines (10_collectives.md R428) that no register holds. Code memory, call tables and the STK_BE registers are in the
register store.
-/
namespace Sys2Proof.Machine

/-- A dispatched call (R300, R301): the recipe's lead, call-table entry, token, stack mask and the four argument values. -/
structure BaseCall where
  lead : Nat
  entry : Nat
  token : Nat
  mask : Nat
  args : List W64
deriving DecidableEq, Repr, Inhabited

/-- A work item on a vector unit (R303, R310). -/
structure WorkItem where
  /-- slot-0 tile j -/
  tile : Nat
  pc : Nat := 0
  /-- instructions executed (R313) -/
  executed : Nat := 0
  /-- x0 to x15 -/
  sregs : Tbl W64 := []
  /-- lane l of vector register r at key 32 r + l -/
  vregs : Tbl W32 := []
  /-- k1 to k3 -/
  masks : Tbl W32 := []
  /-- bytes stored so far, by slot * 2^44 + offset in the slot's handle (R307) -/
  stores : Tbl (Option Byte) := []
deriving DecidableEq, Repr, Inhabited

/-- The call that a stack runs: work items not started, and whether one has failed (R301, R315). -/
structure BaseRun where
  call : BaseCall
  items : List Nat
  failed : Bool := false
deriving DecidableEq, Repr, Inhabited

/-- A stack's base engine. -/
structure BaseStack where
  queue : List BaseCall := []
  run : Option BaseRun := none
  /-- running work items by vector unit -/
  units : Tbl (Option WorkItem) := []
  /-- entries of the call table (R299) -/
  entries : Nat := 0
deriving DecidableEq, Repr, Inhabited

end Sys2Proof.Machine
end

