-- ==== Sys2Proof/Machine/ClxState.lean ====
section
/-!
DEFINITION. The state of the collective engines (10_collectives.md R428, R433, R445 to R450) that no register holds.
-/
namespace Sys2Proof.Machine

/-- A queued instance (R428, R437): its lead, program index, token and the four CTRIG arguments. -/
structure ClxInst where
  lead : Nat
  program : Nat
  token : Nat
  args : List W64
deriving DecidableEq, Repr, Inhabited

/-- An arriving tile (R445, R448): the member CLX and the group it reached, the sender's rank, whether it travels down, its
instance number, phase, chunk and tile, its bytes and its check; for a CONTRIB, the header of the packet to answer. -/
structure ClxTile where
  member : Nat
  group : Nat
  peer : Nat
  down : Bool
  number : Nat
  phase : Nat
  chunk : Nat
  tile : Nat
  bytes : List Byte
  check : W32
  reply : Option Packet := none
deriving DecidableEq, Repr, Inhabited

/-- What a member has received of a lane (R449): the next expected chunk, and the tile masks of chunks from it on. -/
structure ClxIn where
  next : Nat := 0
  masks : Tbl Nat := []
deriving DecidableEq, Repr, Inhabited

/-- What a member has sent of a lane (R445, R446): the next tile to send, and the peer's next expected chunk. -/
structure ClxOut where
  chunk : Nat := 0
  tile : Nat := 0
  acked : Nat := 0
deriving DecidableEq, Repr, Inhabited

/-- The running instance of a gang, held by its lead: phase, range, lanes by member and peer, the members' directions that
run in packet mode, and the chunks that each member has applied. -/
structure ClxRun where
  inst : ClxInst
  phase : Nat := 0
  lo : Nat := 0
  len : Nat := 0
  ins : Tbl ClxIn := []
  outs : Tbl ClxOut := []
  packet : List Nat := []
  degraded : Bool := false
  /-- every phase is complete -/
  finished : Bool := false
deriving DecidableEq, Repr, Inhabited

/-- A collective engine. The lead's queue, counters, run and staged tiles serve the whole gang. -/
structure Clx where
  queue : List ClxInst := []
  /-- instance counters by group (R433) -/
  counters : Tbl Nat := []
  /-- number + 1 of the last instance of a group, when it failed (R451) -/
  failedNo : Tbl Nat := []
  run : Option ClxRun := none
  /-- tiles of a later phase or of the next instance, in staging (R433) -/
  staged : List ClxTile := []
  /-- group writes that wait until no instance names the group: register and value (R432) -/
  deferred : List (Nat × W64) := []
  /-- staging slots in use (R431): slot i holds 1 + 2 * group, plus 1 for the direction from above -/
  slots : Tbl Nat := []
deriving DecidableEq, Repr, Inhabited

end Sys2Proof.Machine
end

