-- ==== Sys2Proof/Machine/FirmState.lean ====
section
/-!
DEFINITION. The state of firmware images and updates (13_firmware_mailboxes.md R557 to R572) and of the security core
(14_security_partitions.md R583 to R600) that no register holds.
-/
namespace Sys2Proof.Machine

/-- The firmware images in flash and their handovers. -/
structure Firmware where
  /-- the bytes of image slots A and B -/
  slotA : List Byte := []
  slotB : List Byte := []
  /-- the latest levain record, the record in the other half of the levain area (R567), and the sequence number of the next -/
  levain : List Byte := []
  levainBack : List Byte := []
  levainSeq : Nat := 0
  /-- a component whose new image has started and not adopted (R565) -/
  starting : Option Nat := none
  /-- units that still wait for their image (R564): bit c for cluster c, bit n for stack n -/
  cccWait : Nat := 0
  bdcWait : Nat := 0
  /-- the slot that those units take their image from -/
  unitSlot : Nat := 0
  /-- a bundle that network boot receives: version, length, digest, and its bytes by offset (R570, R571) -/
  netBoot : Bool := false
  netVersion : Nat := 0
  netLength : Nat := 0
  netDigest : List Byte := []
  netBytes : Tbl Byte := []
deriving DecidableEq, Repr, Inhabited

/-- The ephemeral key of an ATTEST (R588): the draw that made it, its nonce and the package digest it was reported with. -/
structure EphKey where
  draw : W64
  nonce : List Byte
  digest : BitVec 512
deriving DecidableEq, Repr, Inhabited

/-- The key material of a keyed slot (R593, R596): key and nonce prefix. -/
structure KeyMat where
  key : List Byte
  pre : List Byte
deriving DecidableEq, Repr, Inhabited

/-- A SEAL_LOAD under way (R595): function, queue, command entry, and the next chunk. -/
structure SealLoad where
  fn : Nat
  entry : List Byte
  next : Nat
deriving DecidableEq, Repr, Inhabited

/-- A release or a reset of a partition under way (R580, R619): which of the two, and the fstate that its function had. -/
structure PartStop where
  reset : Bool
  fstate : Nat
deriving DecidableEq, Repr, Inhabited

/-- What the SEC holds. -/
structure Security where
  /-- ephemeral keys, by partition -/
  eph : Tbl (Option EphKey) := []
  /-- keys, by slot 4 P + j -/
  keys : Tbl (Option KeyMat) := []
  /-- plaintext digests of verified chunks, by slot, ascending chunk index (R590) -/
  chunks : Tbl (List (Nat × BitVec 512)) := []
  /-- package digest of the loaded package, by partition (R589) -/
  packages : Tbl (BitVec 512) := []
  /-- the bytes of base sections and collective tables of the loaded packages, by partition (R589) -/
  baseDigests : Tbl (BitVec 512) := []
  clxDigests : Tbl (BitVec 512) := []
  /-- a sealed-weight load, by slot -/
  loads : Tbl (Option SealLoad) := []
  /-- releases and resets under way, by partition -/
  stopping : Tbl (Option PartStop) := []
  /-- key programmings of the IDE streams (R598): 8 h + stream, 0 the link, 1 PF0, m + 2 VF m + 1 -/
  ideKeys : Tbl Nat := []
  /-- the UDS is locked (R584) -/
  udsLocked : Bool := false
  /-- dies that are clean (R579) -/
  clean : Nat := 0
  /-- the SEC's own copy of SEC_PART_MAP (R576) -/
  map : W64 := 0x00010F00
  /-- draws of the random source that SEC_NONCE holds: 8 of them from this number on (R606) -/
  nonceAt : Nat := 0
deriving DecidableEq, Repr, Inhabited

end Sys2Proof.Machine
end

