-- ==== Sys2Proof/Machine/FlashState.lean ====
section
/-!
DEFINITION. The configuration record in flash and the fuses (13_firmware_mailboxes.md R530 to R533;
14_security_partitions.md R583, R601).
-/
namespace Sys2Proof.Machine

/-- A configuration record (R531, R601). The magic and the digest of a copy are right exactly when the copy is there. -/
structure ConfigRecord where
  seqNo : Nat := 0
  /-- the active image slot: 0 A, 1 B -/
  slot : Nat := 0
  trial : Bool := false
  attempts : Nat := 0
  /-- port plan for the next cold boot -/
  plan : W64 := 0x7766554433221100
  roleEn : Bool := false
  prio : Nat := 0
  machine : W64 := 0
  /-- serial number of the origin device; 0: none -/
  origin : W64 := 0
  /-- default partition map in the layout of SEC_PART_MAP -/
  partMap : W32 := 0x00010F00
  ownerEnrolled : Bool := false
  ownerDigest : BitVec 512 := 0
deriving DecidableEq, Repr, Inhabited

/-- The two copies of the record; none: the copy is not valid. -/
structure ConfigFlash where
  copy0 : Option ConfigRecord := none
  copy1 : Option ConfigRecord := none
deriving DecidableEq, Repr, Inhabited

/-- The copy in use, when there is one (R531). -/
def ConfigFlash.inUse (c : ConfigFlash) : Option ConfigRecord :=
  match c.copy0, c.copy1 with
  | some a, some b => if a.seqNo < b.seqNo then some b else some a
  | some a, none => some a
  | none, b => b

/-- The record in use, or the defaults of R532. -/
def ConfigFlash.record (c : ConfigFlash) : ConfigRecord := c.inUse.getD {}

/-- A new record goes to the other copy with the next sequence number (R531). -/
def ConfigFlash.store (c : ConfigFlash) (f : ConfigRecord → ConfigRecord) : ConfigFlash :=
  let r := c.record
  let n : ConfigRecord := { f r with seqNo := (r.seqNo + 1) % 2 ^ 32 }
  match c.copy0, c.copy1 with
  | some a, some b => if a.seqNo < b.seqNo then { c with copy0 := some n } else { c with copy1 := some n }
  | some _, none => { c with copy1 := some n }
  | none, _ => { c with copy0 := some n }

/-- The fuses that the fuse-map image shows (R583): serial number, lifecycle, firmware SVN floor, and what they disable: bit
c for a cluster, bit 8 p + l for a lane, bit p of stack n for a pseudo-channel; the stepping as 16 major + minor. -/
structure Fuses where
  serial : W64 := 0
  lifecycle : Nat := 1
  svnFloor : Nat := 0
  clusterOff : Nat := 0
  laneOff : Nat := 0
  pcOff : Tbl Nat := []
  stepping : Nat := 0
deriving DecidableEq, Repr, Inhabited

end Sys2Proof.Machine
end

