-- ==== Sys2Proof/Machine/FmState.lean ====
section
/-!
DEFINITION. The state of the fabric agent and the fabric manager on FAB that no register holds (11_fabric_management.md R463 to
R485), and the form of management messages.
-/
namespace Sys2Proof.Machine

/-- A route plan (R471): version, sizes and open flags of W, X, Y, Z (size 1 for a dimension not present), excluded node IDs,
lost links as node and + direction code. -/
structure RoutePlan where
  version : Nat := 0
  sizes : List Nat := [1, 1, 1, 1]
  openAxes : List Bool := [false, false, false, false]
  excluded : List Nat := []
  lost : List (Nat × Nat) := []
deriving DecidableEq, Repr, Inhabited

/-- A management message (R463). -/
structure Mgmt where
  type : Nat := 0
  flags : Nat := 0
  hops : List Nat := []
  hptr : Nat := 0
  term : Nat := 0
  mseq : Nat := 0
  status : Nat := 0
  body : List Byte := []
  machine : Nat := 0
deriving DecidableEq, Repr, Inhabited

/-- How a message is sent: to a node through the routing table, or out of a port with dst 0xF_FFFF (R375, R463). -/
inductive MgmtPath where
  | node (n : Nat)
  | link (port : Nat)
deriving DecidableEq, Repr, Inhabited

/-- A request or report that waits for its response (R465). -/
structure MgmtReq where
  path : MgmtPath
  msg : Mgmt
  sends : Nat := 1
deriving DecidableEq, Repr, Inhabited

/-- A candidate for the manager's role as a neighbour's ELECT names it (R466); the port it came through, 16 for this device itself. -/
structure FmCand where
  prio : Nat
  serial : W64
  dist : Nat
  port : Nat
deriving DecidableEq, Repr, Inhabited

/-- A port of a device as its QUERY response shows it (R464, R468): PRT_STATUS, the peer's serial number and port. -/
structure FmPort where
  status : W64
  serial : W64
  port : Nat
deriving DecidableEq, Repr, Inhabited

/-- A device as the primary has discovered it (R464, R468): the ports that lead to it from the primary, none for the primary itself;
its identity, its port plan, its partition dies, its ports, and its coordinates, none while it has no place in the machine. -/
structure FmDevice where
  route : List Nat
  serial : W64
  hubId : Nat
  plan : W64
  dies : Nat
  ports : List FmPort
  coords : Option (List Nat) := none
deriving DecidableEq, Repr, Inhabited

/-- A drain-and-swap in progress (R477): its number, its step (1 plan, 2 hold, 3 drain, 4 settle, 5 flip, 6 resume, 7 aborted and
waiting for its retry), its plan, batches of the step not yet sent, the affected set and bank, and how often it has been aborted. -/
structure FmSwap where
  number : Nat
  step : Nat
  plan : RoutePlan
  batches : List (List MgmtReq) := []
  affected : List Nat
  bank : Nat
  /-- an agent has answered the DRAIN in progress with flows open -/
  open_ : Bool := false
  aborting : Bool := false
  aborts : Nat := 0
deriving DecidableEq, Repr, Inhabited

/-- What the primary does next, one after another: requests to different agents, a change of routes, and the ends of JOB_CARVE and
JOB_RELEASE for a submission entry of PF0 of a host port. -/
inductive FmStage where
  | send (l : List MgmtReq)
  | swap (pl : RoutePlan)
  | carved (h : Nat) (entry : List Byte) (tag : Nat)
  | released (h : Nat) (entry : List Byte) (tag : Nat)
deriving DecidableEq, Repr, Inhabited

/-- A report to PF0 that needs action: the change of a swap aborted three times, as the plan it would have installed (R479), or a job
whose members no longer all reach one another (R485). -/
inductive FmNotice where
  | swapAborted (pl : RoutePlan)
  | jobSplit (tag : Nat)
deriving DecidableEq, Repr, Inhabited

/-- The agent and the manager. -/
structure Fm where
  /-- messages for this device that FAB has taken from its ring: arrival port, source node, message -/
  inbox : List (Nat × Nat × Mgmt) := []
  nextMseq : Nat := 0
  /-- requests that wait because their agent has one unanswered, and requests sent -/
  queue : List MgmtReq := []
  reqs : List MgmtReq := []
  reports : List MgmtReq := []
  /-- the last 64 responses given to each sender: sender node (arrival port + 2^20 for a relay), mseq, response -/
  kept : List (Nat × Nat × Mgmt) := []
  /-- candidates heard, the best and second-best known -/
  cands : List FmCand := []
  best : Option FmCand := none
  second : Option FmCand := none
  /-- fragments of the plan being received by index, its version and their number, and the agent's plan (R471) -/
  fragments : Tbl (List Byte) := []
  fragVersion : Nat := 0
  fragCount : Nat := 0
  plan : Option RoutePlan := none
  /-- this device's coordinates and the sizes, as ASSIGN gave them -/
  coords : List Nat := []
  sizes : List Nat := []
  /-- serial number named as the origin by the configuration record (R470, R532) -/
  origin : W64 := 0
  /-- discovery runs; serial numbers asked for (R468) -/
  discovering : Bool := false
  asked : List W64 := []
  devices : List FmDevice := []
  /-- serial numbers of devices that report network boot (R571) -/
  netBoots : List W64 := []
  /-- the route plan in force, as the primary's record holds it; none before the first -/
  master : Option RoutePlan := none
  jobs : List FmJob := []
  /-- tags released and not yet reusable (R482) -/
  retiredTags : List Nat := []
  todo : List FmStage := []
  /-- a request of the job being carved has failed or been refused -/
  failed : Bool := false
  swap : Option FmSwap := none
  nextSwap : Nat := 1
  /-- number of the last log record; changes held for the standby's acknowledgement, the first of them replicated now (R467) -/
  logNo : Nat := 0
  held : List MgmtReq := []
  replicating : Bool := false
  /-- replicated changes whose answer is not known, by the mseq of their REPLICATE, and the mseq that BEAT names -/
  log : List (Nat × MgmtReq) := []
  answered : Nat := 0
  noStandbyTold : Bool := false
  /-- what PF0 of the device has been told and needs action, the oldest first (R479, R485) -/
  notices : List FmNotice := []
deriving DecidableEq, Repr, Inhabited

/-- A number in little-endian bytes at an offset of a body. -/
def bodyNat (b : List Byte) (off n : Nat) : Nat := leNat ((b.drop off).take n)

/-- A message from its payload (R463). -/
def Mgmt.ofBytes (b : List Byte) : Mgmt :=
  let hlen := bodyNat b 3 1
  { type := bodyNat b 0 2, flags := bodyNat b 2 1, hops := ((b.drop 32).take hlen).map BitVec.toNat, hptr := bodyNat b 4 1,
    term := bodyNat b 8 4, mseq := bodyNat b 12 4, status := bodyNat b 16 4,
    body := (b.drop (32 + hlen)).take (bodyNat b 20 4), machine := bodyNat b 24 8 }

/-- The payload of a message (R463), filled up with zero bytes to a multiple of 8 (R341). -/
def Mgmt.toBytes (m : Mgmt) : List Byte :=
  let bs := leBytes 2 m.type ++ leBytes 1 m.flags ++ leBytes 1 m.hops.length ++ leBytes 1 m.hptr ++ leBytes 3 0
    ++ leBytes 4 m.term ++ leBytes 4 m.mseq ++ leBytes 4 m.status ++ leBytes 4 m.body.length ++ leBytes 8 m.machine
    ++ m.hops.flatMap (leBytes 1) ++ m.body
  bs ++ List.replicate ((8 - bs.length % 8) % 8) 0

end Sys2Proof.Machine
end

