-- ==== Sys2Proof/Machine/HostState.lean ====
section
/-!
DEFINITION. The state of the host interface that no register holds (12_host_interface.md R489 to R525): PCI Express ports, functions,
queue pairs, fetched commands, buffered completions and orphan records.
-/
namespace Sys2Proof.Machine

/-- How far a fetched command has come (R505): waiting behind a fence; started; carried out and not yet complete; complete with a
status and a result. -/
inductive CmdStage where
  | waiting
  | started
  | running
  | done (status : Nat) (result : W64)
deriving DecidableEq, Repr, Inhabited

/-- A fetched command (R503): its queue, its 64-byte entry, how far it is, and whether it is of an orphaned driver (R517). -/
structure HostCmd where
  q : Nat
  entry : List Byte
  stage : CmdStage := .waiting
  old : Bool := false
deriving DecidableEq, Repr, Inhabited

/-- A completion (R504): the command's queue, command ID, kind, status and result. -/
structure Completion where
  q : Nat
  id : Nat
  kind : Nat := 0
  status : Nat
  result : W64
deriving DecidableEq, Repr, Inhabited

/-- A live queue pair (R499, R502, R504). The fetch index is in a register; `next` is the next completion
entry to write and `phase` the phase it is written with; `tail` and `head` are the doorbells the SCH has taken. -/
structure HostQueue where
  live : Bool := false
  error : Bool := false
  sqLog : Nat := 0
  cqLog : Nat := 0
  vector : Nat := 0
  irq : Bool := false
  sqBase : W64 := 0
  cqBase : W64 := 0
  next : Nat := 0
  phase : Bool := true
  tail : Nat := 0
  head : Nat := 0
deriving DecidableEq, Repr, Inhabited

/-- A doorbell that waits for its captured write (R495): queue, whether it is a completion head, value, tag. -/
structure HeldBell where
  q : Nat
  head : Bool
  value : Nat
  tag : Nat
deriving DecidableEq, Repr, Inhabited

/-- The orphan record's own fields (R518). -/
structure OrphanRec where
  cause : Nat := 0
  count : Nat := 0
  time : Nat := 0
  discarded : Nat := 0
  live : Nat := 0
deriving DecidableEq, Repr, Inhabited

/-- A host function. -/
structure HostFn where
  queues : Tbl HostQueue := []
  bells : List HeldBell := []
  /-- captured writes set aside until quiescence (R521): capture index, offset, width 64, value -/
  parked : List (Nat × Nat × Bool × W64) := []
  cmds : List HostCmd := []
  /-- buffered completions in fetch order (R506), and those of an orphaned driver (R517) -/
  buffer : List Completion := []
  orphaned : List Completion := []
  /-- negotiation is pending until ready (R614) -/
  asked : Bool := false
  /-- the function has been reset and not negotiated since: device-initiated requests are held (R520, R521) -/
  resetHeld : Bool := false
  /-- beat windows run, and HIF_HB_COUNT at the last window end (R515) -/
  beating : Bool := false
  beats : Nat := 0
  /-- the function is orphaned, or its orphaned work has not been adopted or discarded (R519) -/
  orphan : Bool := false
  /-- an FLR of PF0 has cleared VF Enable: the steps of R520 are due when it is set again (R522) -/
  flrDue : Bool := false
  record : OrphanRec := {}
deriving DecidableEq, Repr, Inhabited

/-- A host port: PERST released and link up, SR-IOV control and the functions' bus-master enables. -/
structure HostPort where
  up : Bool := false
  vfEnable : Bool := false
  numVfs : Nat := 0
  master : Tbl Bool := []
deriving DecidableEq, Repr, Inhabited

/-- POLICY of a partition (R507); the defaults are those at reset. -/
structure Policy where
  abortOnFlr : Bool := false
  orphanKeep : Nat := 600
deriving DecidableEq, Repr, Inhabited

/-- The host interface. -/
structure HostSide where
  /-- functions by 8 h + f -/
  fns : Tbl HostFn := []
  ports : Tbl HostPort := []
  policies : Tbl Policy := []
  /-- the SCH fetches no submission entry: a Doze entry, or a handover of the SCH (R563, R624) -/
  stopped : Bool := false
deriving DecidableEq, Repr, Inhabited

end Sys2Proof.Machine
end

