-- ==== Sys2Proof/Machine/MemState.lean ====
section
/-!
DEFINITION. The state of the stacks and of the placer that no register holds (06_memory_and_placement.md R246, R247, R259,
R267 to R273): frame states, tracked and waiting requests, live heat counters, migrations.
-/
namespace Sys2Proof.Machine

/-- The state of a frame (R259). -/
inductive FrameState where
  | free | resident | copyingTo | clearing | system | lost
deriving DecidableEq, Repr, Inhabited

/-- A request that holds a tracker entry (R246): in a shared entry or in one reserved to its kind, the handle it was
translated through, and its frame. -/
structure Tracked where
  own : Bool
  shared : Bool
  handle : Nat
  frame : Nat
deriving DecidableEq, Repr, Inhabited

/-- One slab's part of a migration (R273): slab entry, handle, source and destination frames (stack * 32768 + frame). -/
structure SlabMove where
  slab : Nat
  handle : Nat
  src : Nat
  dst : Nat
  /-- tiles written since the current pass began -/
  written : List Nat := []
  /-- tiles that the current pass copies -/
  todo : List Nat := List.range 512
deriving DecidableEq, Repr, Inhabited

/-- A migration: the moves of one slab of every handle of an alignment group (R266), its pass, and whether it is at its
switch (R273). -/
structure Migration where
  moves : List SlabMove
  drain : Bool
  pass : Nat := 1
  switching : Bool := false
deriving DecidableEq, Repr, Inhabited

/-- A candidate of R270 (to a die) or R271 (within its stack). -/
structure Candidate where
  slab : Nat
  die : Option Nat
deriving DecidableEq, Repr, Inhabited

/-- A tile that blocks a drain (R278): its handle, its slab entry, its DPA, and whether a write of the whole tile has replaced it since. -/
structure Stranded where
  handle : Nat
  slab : Nat
  dpa : Nat
  rewritten : Bool := false
deriving DecidableEq, Repr, Inhabited

/-- What the SCH reports of a drain: a stranded tile to the partition's host function (R278: partition, handle, tile), or a shortfall of
frames to PF0 and to the partition's host function (R279). -/
inductive StackReport where
  | stranded (part handle tile : Nat)
  | shortfall (part : Nat)
deriving DecidableEq, Repr, Inhabited

/-- The stacks and the placer. -/
structure Stacks where
  /-- frame states, by stack * 32768 + frame -/
  frames : Tbl FrameState := []
  /-- tracked requests, by stack (R246) -/
  tracked : Tbl (List Tracked) := []
  /-- requests that wait at their source for an entry, by stack, oldest first (R247) -/
  waiting : Tbl (List LineAccess) := []
  /-- translations held by a switch (R273) -/
  held : List LineAccess := []
  /-- live heat counters, by frame, in the layout of STK_HEAT (R267) -/
  heat : Tbl W64 := []
  /-- the snapshot before the one in STK_HEAT (R270) -/
  heatBefore : Tbl W64 := []
  migs : List Migration := []
  candidates : List Candidate := []
  /-- destroyed handles whose frames are not yet clearing (R261) -/
  dying : List Nat := []
  /-- tiles that block a drain, by stack * 64 + pseudo-channel (R278) -/
  stranded : Tbl (List Stranded) := []
  /-- reports of the SCH on drains, oldest first (R278, R279); the manual gives them no form -/
  reports : List StackReport := []
  /-- descriptor indices of sealed handles (R594) -/
  sealed : List Nat := []
deriving DecidableEq, Repr, Inhabited

/-- A write of `n` bytes at DPA `a` as a migration sees it (R273). -/
def SlabMove.noteWrite (a n : Nat) (m : SlabMove) : SlabMove :=
  let base := m.src / 32768 * 0x1000000000 + m.src % 32768 * 0x200000
  if a < base + 0x200000 ∧ base < a + n then
    let lo := (max a base - base) / 4096
    let hi := (min (a + n) (base + 0x200000) - base + 4095) / 4096
    { m with written := ((List.range (hi - lo)).map (· + lo)).foldl (fun l t => if l.contains t then l else t :: l) m.written }
  else m

/-- A write of `n` bytes at DPA `a` as a stranded tile sees it: one that covers the whole tile frees the drain (R278). -/
def Stranded.noteWrite (a n : Nat) (t : Stranded) : Stranded :=
  if a ≤ t.dpa ∧ t.dpa + 4096 ≤ a + n then { t with rewritten := true } else t

/-- A write of `n` bytes at DPA `a` as the migrations and the stranded tiles see it (R273, R278). -/
def Stacks.noteWrite (k : Stacks) (a n : Nat) : Stacks :=
  { k with
    migs := k.migs.map (fun g => { g with moves := g.moves.map (SlabMove.noteWrite a n) })
    stranded := k.stranded.map (fun e => (e.1, e.2.map (Stranded.noteWrite a n))) }

end Sys2Proof.Machine
end

