-- ==== Sys2Proof/Machine/NetState.lean ====
section
/-!
DEFINITION. The state of the link ports, the router and the end-to-end layer that no register holds (08_links.md R342 to R365;
09_routing_delivery.md R381 to R417).
-/
namespace Sys2Proof.Machine

/-- A packet in a queue: its virtual channel, and for VC C its share group and dateline class (R381, R411). -/
structure QPkt where
  vc : Nat
  grp : Nat := 0
  dl : Nat := 0
  pkt : Packet
deriving DecidableEq, Repr, Inhabited

/-- The credit account of a virtual channel: 0 to 6, and for VC C one for each share group and class (R381, R411). -/
def QPkt.account (x : QPkt) : Nat := if x.vc = 7 then 8 + 2 * x.grp + x.dl else x.vc

/-- A frame in the replay buffer (R345): its lsn, and the times in ns of its replays (R652). -/
structure SentFrame where
  lsn : Nat
  q : QPkt
  replays : List Nat := []
deriving DecidableEq, Repr, Inhabited

/-- A link port. -/
structure Port where
  /-- LNKp_PRESENT_N is low -/
  present : Bool := false
  /-- it has been low for 100 ms (R335) -/
  settled : Bool := false
  /-- training phase: 0 none, 1 PMA, 2 alignment, 3 link check, 4 width, 5 discovery (R350) -/
  phase : Nat := 0
  /-- the training in progress includes the link check (R351) -/
  checkDue : Bool := true
  /-- the link check is being repeated (R351) -/
  checkAgain : Bool := false
  /-- the training in progress ends with RESYNC (R353) -/
  resyncDue : Bool := false
  /-- the training in progress returns a retired port to service (R354) -/
  unretire : Bool := false
  /-- the port has been down or retired since it was last up (0x40C) -/
  wasDown : Bool := false
  /-- the down time of R653 runs -/
  downRuns : Bool := false
  /-- the peer's lane_pass mask, from its WIDTH (R352) -/
  peerMask : Option Nat := none
  /-- the AND of the two lane_pass masks (R352) -/
  laneOk : Nat := 0
  /-- lanes disabled by fuse that passed the last link check (R615) -/
  fusedPass : Nat := 0
  /-- the peer has sent RETIRING since the port was last up (R344) -/
  peerRetired : Bool := false
  /-- lsn of the next data frame to send, and the next expected from the peer (R345) -/
  txLsn : Nat := 0
  rxLsn : Nat := 0
  /-- a frame has been accepted, so that ack_lsn is valid -/
  rxAny : Bool := false
  /-- when the NAK was sent that suppresses further NAKs, in ns (R346) -/
  nakAt : Option Nat := none
  replay : List SentFrame := []
  /-- times of this port's replays, in ns (R652) -/
  replays : List Nat := []
  /-- units of the peer's buffer that frames sent hold, and units of the own buffer in use, by account (R349) -/
  owed : Tbl Nat := []
  used : Tbl Nat := []
  /-- credit returns not yet sent: account, units -/
  returns : List (Nat × Nat) := []
  /-- accepted packets that the router has not taken, in order -/
  input : List QPkt := []
  /-- packets the router has queued for this port, in order -/
  out : List QPkt := []
  /-- the reply group sent last (R382) -/
  replyLast : Bool := false
  /-- a quiet request of this end waits for its answer (R357) -/
  quietAsked : Bool := false
  /-- a wake is in progress; this end has sent its WAKE_ACK, and has received the peer's (R358) -/
  waking : Bool := false
  wakeSent : Bool := false
  wakeGot : Bool := false
  /-- the switch due at the end of the next frame sent: 0 none, 1 to lane 0, 2 to the negotiated width (R357, R358) -/
  switchDue : Nat := 0
  /-- a WAKE_REQ arrived during quiet entry (R358) -/
  wakeLate : Bool := false
  /-- this end wants to wake once its quiet entry is over (R359) -/
  wakeWanted : Bool := false
  /-- the training in progress is a retrain (R353, R369) -/
  retraining : Bool := false
  /-- the last LLDP frame received (R361) -/
  neighbour : Option Lldp := none
  /-- the link is one-way or its direction does not match (R338, R361) -/
  barred : Bool := false
  /-- the request or reply priority is paused by the peer's PFC, or by this port's (R363) -/
  pausedReq : Bool := false
  pausedRsp : Bool := false
  pausesReq : Bool := false
  pausesRsp : Bool := false
deriving DecidableEq, Repr, Inhabited

/-- An open transaction (R399): all its packets and those not yet sent, the seq of its first packet, the pieces of its reply
that have come, and the hop values from which a MACK has come (R417). -/
structure Txn where
  job : NetJob
  xid : Nat
  firstSeq : Nat := 0
  all : List Packet
  pkts : List Packet
  got : List Nat := []
  macks : Nat := 0
deriving DecidableEq, Repr, Inhabited

/-- An unacknowledged packet: how often it has been sent, and the reason of its NACK (R395, R401). -/
structure SentPkt where
  pkt : Packet
  charge : Nat
  sends : Nat := 1
  nack : Nat := 0
deriving DecidableEq, Repr, Inhabited

/-- The phase of a send context: its FLOWRESET not sent, sent, acknowledged; held by NACK resetting (R392, R407). -/
inductive FlowPhase where
  | closed | opening | opened | held
deriving DecidableEq, Repr, Inhabited

/-- A send context (R390 to R395, R407, R415); alpha is alphaNum / 2^alphaExp. -/
structure SendCtx where
  phase : FlowPhase := .closed
  nextSeq : Nat := 0
  nextXid : Nat := 0
  resetSeq : Nat := 0
  queue : List NetJob := []
  txns : List Txn := []
  unacked : List SentPkt := []
  rate : Nat := 1024
  alphaNum : Nat := 1
  alphaExp : Nat := 0
  echo : Bool := false
  /-- the FLOWRESET not yet acknowledged, and how often it has been sent (R392, R395) -/
  opener : Option SentPkt := none
  /-- hop values from which a multicast FLOWRESET has been acknowledged -/
  openMacks : Nat := 0
  /-- the partition that owns the context, and for multicast the direction, selection, hops and expected hop values that every packet of
  the flow has (R390, R417) -/
  part : Option Nat := none
  mcast : Option (Nat × Nat × Nat × Nat) := none
deriving DecidableEq, Repr, Inhabited

/-- A write transaction that a destination has open: its WRDESC, and the seqs of its data packets delivered (R399). -/
structure WriteOpen where
  seq : Nat
  handle : Nat
  offset : Nat
  len : Nat
  packets : Nat
  notify : Option Nat
  part : Nat
  left : Nat
deriving DecidableEq, Repr, Inhabited

/-- A receive context (R390, R397, R404). -/
structure RecvCtx where
  cum : Nat := 0
  above : List Nat := []
  writes : List WriteOpen := []
  /-- early WRDATA and heels in the early store, in arrival order (R400, R404) -/
  held : List Packet := []
  /-- the last write transaction of a multicast flow delivered in full: its last seq (R417) -/
  doneSeq : Option Nat := none
  /-- deliveries since the last ACK, and the seqs delivered marked that no ACK has covered (R394, R414) -/
  unacked : Nat := 0
  marks : List Nat := []
  part : Nat := 0
deriving DecidableEq, Repr, Inhabited

/-- The router and the end-to-end layer. -/
structure Router where
  /-- packets delivered to this device's endpoint, in order of arrival -/
  arrived : List Packet := []
  /-- packets that local sources and endpoints inject, in order -/
  inject : List QPkt := []
  /-- the management ring of FAB: arrival port (16: injected locally) and packet (R383) -/
  ring : List (Nat × Packet) := []
  /-- send contexts by destination node * 8 + class -/
  sends : Tbl (Option SendCtx) := []
  /-- receive contexts by source node * 8 + class -/
  recvs : Tbl (Option RecvCtx) := []
  /-- contexts in the hub cache, most recent first: key * 2, plus 1 for a receive context (R390) -/
  cache : List Nat := []
  /-- the reply cache: flow key, seq, reply (R402) -/
  replies : List (Nat × Nat × Packet) := []
  /-- partitions in reset (R407) -/
  resetting : List Nat := []
  /-- results of firmware's own transactions: send key, xid, whether it succeeded, the old value of an ATOMIC -/
  results : List (Nat × Nat × Bool × W64) := []
  /-- the reply areas of firmware's reads (R393): send key, xid, offset in the reply, bytes -/
  replyArea : List (Nat × Nat × Nat × List Byte) := []
  /-- bytes that reads for sealed-weight loads have brought: key slot, offset in the chunk records, bytes (R595) -/
  sealData : List (Nat × Nat × List Byte) := []
  /-- key slots whose remote read has failed (R595, R596) -/
  sealFailed : List Nat := []
deriving DecidableEq, Repr, Inhabited

end Sys2Proof.Machine
end

