-- ==== Sys2Proof/Machine/PowerState.lean ====
section
/-!
DEFINITION. The state of power, bring-up and reset that no register holds (15_bringup_reset_power.md R609 to R634): pins and straps,
boot progress, and what each partition's clock stretch is asked for.
-/
namespace Sys2Proof.Machine

/-- The demands on a partition's stretch (R628 to R631), and the junction cooling of R629. -/
structure Demand where
  budget : Nat := 0
  junction : Nat := 0
  droop : Nat := 0
deriving DecidableEq, Repr, Inhabited

/-- Power and bring-up. -/
structure Power where
  /-- VAUX_3V3 is within limits -/
  vaux : Bool := true
  /-- MOD_PWR_EN and MOD_PGOOD are high -/
  pwrEn : Bool := false
  pgood : Bool := false
  /-- THERM_TRIP_N and THERM_WARN_N are driven low (R37) -/
  tripLow : Bool := false
  warnLow : Bool := false
  /-- straps as sampled (R36) -/
  bootSel : Nat := 0
  modAddr : Nat := 0
  /-- steps of R611 that are done, bit k for step k of 2, 3, 4, 6, 8 and 9; the stacks trained (5b) and tested (7) -/
  steps : Nat := 0
  trained : Nat := 0
  tested : Nat := 0
  /-- a bring-up or a power-on runs (R611); the device has been ready since its cold reset, so that the next one is a power-on -/
  booting : Bool := false
  again : Bool := false
  /-- components that the SEC has retried in step 4 (R613): bit k for component k -/
  retried : Nat := 0
  /-- fused pseudo-channels that passed the memory test, by stack (R615) -/
  passed : Tbl Nat := []
  /-- a warm device reset runs (R618) -/
  warm : Bool := false
  demands : Tbl Demand := []
  /-- the emergency demand (R631) -/
  emergency : Nat := 0
  /-- a limit that takes effect at the next tick (R627) -/
  limitNext : Option Nat := none
  /-- partitions asked to save for Doze and not yet reported (R624), and of all partitions those that were asked to hold already -/
  saving : Nat := 0
  heldBefore : Nat := 0
  /-- partitions reported as not quiescent since (R549) -/
  notQuiet : Nat := 0
deriving DecidableEq, Repr, Inhabited

end Sys2Proof.Machine
end

