-- ==== Sys2Proof/Machine/RecorderState.lean ====
section
/-!
DEFINITION. The state of the event recorder, of the fault history and of the field-retire fuses
(16_integrity_faults_recorder.md, R653, R655, R658 to R667).
-/
namespace Sys2Proof.Machine

/-- An event waiting in the recorder's queue, with its operating time on arrival. -/
structure QueuedEvent where
  ev : Event
  time : Nat
deriving DecidableEq, Repr, Inhabited

/-- A record of the ring (R660): the event with its repeat count, times and sequence number. -/
structure Record where
  ev : Event
  repeats : Nat := 0
  time : Nat := 0
  cycle : Nat := 0
  seq : Nat := 0
deriving DecidableEq, Repr, Inhabited

/-- One of the two flash copies of the fault history (R653): a sequence number (0: no valid copy) and the times. -/
structure HistoryCopy where
  seq : Nat := 0
  times : Tbl (Option Nat) := []
deriving DecidableEq, Repr, Inhabited

/-- The recorder, the fault history and the field-retire fuses. -/
structure Recorder where
  /-- the ring in flash, oldest first (R663) -/
  flash : List Record := []
  /-- the last record written, held in the crust (R662) -/
  crust : Option Record := none
  /-- the queue of at most 256 events, in arrival order (R663) -/
  queue : List QueuedEvent := []
  /-- sequence number of the next record (R662) -/
  nextSeq : Nat := 0
  /-- events lost since cold reset (R663) -/
  lost : Nat := 0
  /-- events lost since the previous 0xA0E (R663) -/
  lostSince : Nat := 0
  /-- operating time in seconds, 40 bits (R658) -/
  opTime : Nat := 0
  /-- operating time at which the last record was written (R658) -/
  lastWrite : Nat := 0
  /-- power-cycle count, 24 bits (R612, R658) -/
  cycles : Nat := 0
  /-- host port whose clear is running (R666) -/
  clearing : Option Nat := none
  /-- seq of the 0x701 record of each partition's present incarnation (R665) -/
  partStart : Tbl (Option Nat) := []
  /-- operating time of the last counted occurrence: key c for cluster c, 64 + 64 n + p for a pseudo-channel (R653) -/
  history : Tbl (Option Nat) := []
  /-- the two flash copies of the history (R653) -/
  copyA : HistoryCopy := {}
  copyB : HistoryCopy := {}
  /-- field-retire fuses of clusters, bit c (R655) -/
  fuseClusters : Nat := 0
  /-- field-retire fuses of pseudo-channels: stack n, bit p (R655) -/
  fusePcs : Tbl Nat := []
deriving DecidableEq, Repr, Inhabited

end Sys2Proof.Machine
end

