-- ==== Sys2Proof/Machine/RegMap.lean ====
section
/-!
DEFINITION. The control and status registers (CSRs): every register table of the manual as data (R21 for the blocks),
one row per register, with its place, its width, its instances, its access codes (R14) and its reset value.
Reset values that the manual gives as "from flash", "fuse map", "firmware", "random" or "per R..." are 0 here and are
set where the rule that gives them is modelled.
-/
namespace Sys2Proof.Machine

/-- Access codes of R14. -/
inductive Acc where
  | ro | rw | w1c | w1s | rc | wo
deriving DecidableEq, Repr

/-- Kinds of agent to which a register's rule may restrict writes. -/
inductive WriterKind where
  | sec | pmc | sch | fab | pf0
deriving DecidableEq, Repr

/-- A field of a register. Bits that no field covers are RSV (R14). -/
structure Fld where
  hi : Nat
  lo : Nat
  acc : Acc
  reset : Nat
deriving DecidableEq, Repr

/-- A register or a regular family of registers: `base` is the DPA of the first instance, `dims` the instances
(count, stride) from the outermost in, `cp` marks a complement-protected register (R17), `writers` the only agents
whose writes take effect (empty: the rule names none). -/
structure RegDef where
  name : String
  base : Nat
  width : Nat
  dims : List (Nat × Nat)
  cp : Bool
  writers : List WriterKind
  flds : List Fld
deriving DecidableEq, Repr

namespace Blk

/-- Base of the HUB_ block (R21). -/
def hub : Nat := 0x020000000000
/-- Base of the SEC_ block (R21). -/
def sec : Nat := 0x020001000000
/-- Base of the PMC_ block (R21). -/
def pmc : Nat := 0x020001100000
/-- Base of the BBX_ block (R21). -/
def bbx : Nat := 0x020001200000
/-- Base of the REC_ block (R21). -/
def rec : Nat := 0x020001300000
/-- Base of the RTR_ block (R21). -/
def rtr : Nat := 0x020002000000
/-- Base of the PRT_ block (R21). -/
def prt : Nat := 0x020003000000
/-- Base of the HIF_ block (R21). -/
def hif : Nat := 0x020004000000
/-- Base of the SEQ_ block (R21). -/
def seq : Nat := 0x020005000000
/-- Base of the CLU_ block (R21). -/
def clu : Nat := 0x020010000000
/-- Base of the STK_ block (R21). -/
def stk : Nat := 0x020020000000
end Blk

/-- Registers of the HUB_ block: hub general, floor plan, handle map. -/
def regsHub : List RegDef := [
  -- R23
  ⟨"HUB_ID", Blk.hub + 0x0, 32, [], false, [],
    [⟨23, 20, .ro, 0x0⟩, ⟨19, 16, .ro, 0x0⟩, ⟨15, 0, .ro, 0x4810⟩]⟩,
  -- R55
  ⟨"HUB_FP_GEN", Blk.hub + 0x10000, 64, [], false, [],
    [⟨63, 0, .ro, 0x0⟩]⟩,
  -- R56
  ⟨"HUB_FP_SUMMARY", Blk.hub + 0x10008, 32, [], false, [],
    [⟨6, 0, .ro, 0x0⟩, ⟨14, 8, .ro, 0x0⟩, ⟨19, 16, .ro, 0x0⟩, ⟨31, 20, .ro, 0x0⟩]⟩,
  -- R57
  ⟨"HUB_FP_CLU", Blk.hub + 0x10100, 64, [(64, 0x8)], false, [],
    [⟨15, 0, .ro, 0x0⟩, ⟨16, 16, .ro, 0x0⟩, ⟨17, 17, .ro, 0x0⟩, ⟨18, 18, .ro, 0x0⟩, ⟨19, 19, .ro, 0x0⟩, ⟨20, 20, .ro, 0x0⟩, ⟨21, 21, .ro, 0x0⟩, ⟨22, 22, .ro, 0x0⟩, ⟨23, 23, .ro, 0x0⟩, ⟨24, 24, .ro, 0x0⟩, ⟨25, 25, .ro, 0x0⟩, ⟨26, 26, .ro, 0x0⟩, ⟨34, 32, .ro, 0x3⟩, ⟨35, 35, .ro, 0x0⟩, ⟨36, 36, .ro, 0x0⟩, ⟨37, 37, .ro, 0x0⟩, ⟨45, 40, .ro, 0x3F⟩, ⟨47, 46, .ro, 0x0⟩]⟩,
  -- R60
  ⟨"HUB_FP_STK_CH", Blk.hub + 0x10400, 64, [(12, 0x8)], false, [],
    [⟨63, 0, .ro, 0x0⟩]⟩,
  -- R61
  ⟨"HUB_FP_PORT", Blk.hub + 0x10500, 32, [(16, 0x4)], false, [],
    [⟨7, 0, .ro, 0x0⟩, ⟨10, 8, .ro, 0x3⟩, ⟨11, 11, .ro, 0x0⟩, ⟨15, 12, .ro, 0xF⟩]⟩,
  -- R62
  ⟨"HUB_FP_DIGEST", Blk.hub + 0x10600, 64, [(8, 0x8)], false, [],
    [⟨63, 0, .ro, 0x0⟩]⟩,
  -- R283
  ⟨"HUB_PLACE_CTRL", Blk.hub + 0x20000, 32, [], false, [.pf0, .sch],
    [⟨0, 0, .rw, 0x1⟩, ⟨27, 16, .rw, 0x100⟩]⟩,
  -- R284
  ⟨"HUB_MIG_STARTED", Blk.hub + 0x20008, 64, [], false, [],
    [⟨63, 0, .ro, 0x0⟩]⟩,
  -- R284
  ⟨"HUB_MIG_DONE", Blk.hub + 0x20010, 64, [], false, [],
    [⟨63, 0, .ro, 0x0⟩]⟩,
  -- R284
  ⟨"HUB_MIG_ABORTED", Blk.hub + 0x20018, 64, [], false, [],
    [⟨63, 0, .ro, 0x0⟩]⟩,
  -- R285
  ⟨"HUB_HMAP_ERR", Blk.hub + 0x20020, 64, [], false, [],
    [⟨18, 0, .ro, 0x0⟩, ⟨19, 19, .ro, 0x0⟩, ⟨21, 20, .ro, 0x0⟩, ⟨31, 31, .w1c, 0x0⟩, ⟨63, 32, .ro, 0x0⟩]⟩,
  -- R286
  ⟨"HUB_PART_FRAMES", Blk.hub + 0x20040, 64, [(4, 0x8)], false, [],
    [⟨18, 0, .ro, 0x0⟩, ⟨50, 32, .ro, 0x0⟩]⟩,
  -- R339
  ⟨"HUB_PORT_PLAN", Blk.hub + 0x30000, 64, [], false, [],
    [⟨63, 0, .ro, 0x7766554433221100⟩]⟩,
  -- R339
  ⟨"HUB_PORT_PLAN_NEXT", Blk.hub + 0x30008, 64, [], false, [.pf0, .fab],
    [⟨63, 0, .rw, 0x0⟩]⟩,
  -- R461
  ⟨"HUB_FM_CTRL", Blk.hub + 0x31000, 32, [], false, [.fab, .pf0],
    [⟨0, 0, .rw, 0x0⟩, ⟨15, 8, .rw, 0x0⟩]⟩,
  -- R461
  ⟨"HUB_FM_STATUS", Blk.hub + 0x31004, 32, [], false, [.fab],
    [⟨1, 0, .ro, 0x0⟩, ⟨2, 2, .ro, 0x0⟩]⟩,
  -- R461
  ⟨"HUB_FM_MACHINE", Blk.hub + 0x31008, 64, [], false, [.fab, .pf0],
    [⟨63, 0, .rw, 0x0⟩]⟩,
  -- R461
  ⟨"HUB_FM_TERM", Blk.hub + 0x31010, 64, [], false, [.fab],
    [⟨63, 0, .ro, 0x0⟩]⟩,
  -- R461
  ⟨"HUB_FM_PEERS", Blk.hub + 0x31018, 64, [], false, [.fab],
    [⟨19, 0, .ro, 0xFFFFF⟩, ⟨51, 32, .ro, 0xFFFFF⟩, ⟨62, 62, .ro, 0x0⟩, ⟨63, 63, .ro, 0x0⟩]⟩,
  -- R461
  ⟨"HUB_FM_HOLD_CTRL", Blk.hub + 0x31020, 32, [], false, [.fab],
    [⟨0, 0, .rw, 0x0⟩, ⟨1, 1, .rw, 0x0⟩]⟩,
  -- R461
  ⟨"HUB_FM_HOLD_OPEN", Blk.hub + 0x31028, 64, [], false, [.fab],
    [⟨63, 0, .ro, 0x0⟩]⟩,
  -- R461
  ⟨"HUB_FM_HOLD_MAP", Blk.hub + 0x34000, 64, [(2048, 0x8)], false, [.fab],
    [⟨63, 0, .rw, 0x0⟩]⟩,
  -- R569
  ⟨"HUB_FW_UPD", Blk.hub + 0x38000, 64, [], false, [.sec, .sch],
    [⟨3, 0, .ro, 0x0⟩, ⟨9, 4, .ro, 0x0⟩, ⟨15, 10, .ro, 0x0⟩, ⟨21, 16, .ro, 0x0⟩, ⟨22, 22, .ro, 0x0⟩, ⟨63, 32, .ro, 0x0⟩]⟩,
  -- R569
  ⟨"HUB_FW_COMP", Blk.hub + 0x38008, 64, [(6, 0x8)], false, [.sec, .sch],
    [⟨31, 0, .ro, 0x0⟩, ⟨32, 32, .ro, 0x0⟩, ⟨35, 33, .ro, 0x0⟩, ⟨42, 36, .ro, 0x0⟩]⟩,
  -- R569
  ⟨"HUB_CCC_MCAST", Blk.hub + 0x38040, 64, [], false, [.sch],
    [⟨63, 0, .rw, 0x0⟩]⟩,
  -- R252
  ⟨"HUB_DESC_W0", Blk.hub + 0x400000, 64, [(65536, 0x40)], true, [.sch],
    [⟨0, 0, .rw, 0x0⟩, ⟨1, 1, .rw, 0x0⟩, ⟨3, 2, .rw, 0x0⟩, ⟨11, 4, .rw, 0x0⟩, ⟨12, 12, .rw, 0x0⟩, ⟨13, 13, .rw, 0x0⟩, ⟨14, 14, .rw, 0x0⟩, ⟨15, 15, .rw, 0x0⟩, ⟨16, 16, .rw, 0x0⟩, ⟨17, 17, .rw, 0x0⟩, ⟨20, 18, .rw, 0x0⟩, ⟨31, 24, .rw, 0x0⟩, ⟨50, 32, .rw, 0x0⟩]⟩,
  -- R252
  ⟨"HUB_DESC_W1", Blk.hub + 0x400010, 64, [(65536, 0x40)], true, [.sch],
    [⟨63, 0, .rw, 0x0⟩]⟩,
  -- R252
  ⟨"HUB_DESC_W2", Blk.hub + 0x400020, 64, [(65536, 0x40)], true, [.sch],
    [⟨18, 0, .rw, 0x0⟩, ⟨25, 24, .rw, 0x0⟩]⟩,
  -- R252
  ⟨"HUB_DESC_W3", Blk.hub + 0x400030, 64, [(65536, 0x40)], true, [.sch],
    [⟨31, 0, .rw, 0x0⟩, ⟨32, 32, .rw, 0x0⟩]⟩,
  -- R254
  ⟨"HUB_SLAB", Blk.hub + 0x800000, 64, [(393216, 0x10)], true, [.sch],
    [⟨0, 0, .rw, 0x0⟩, ⟨4, 1, .rw, 0x0⟩, ⟨19, 5, .rw, 0x0⟩, ⟨21, 20, .rw, 0x0⟩, ⟨25, 22, .rw, 0x0⟩, ⟨40, 26, .rw, 0x0⟩]⟩]

/-- Registers of the SEC_ block: security core. -/
def regsSec : List RegDef := [
  -- R606
  ⟨"SEC_NONCE", Blk.sec + 0x40, 64, [(8, 0x8)], false, [.sec],
    [⟨63, 0, .ro, 0x0⟩]⟩,
  -- R575
  ⟨"SEC_PART_MAP", Blk.sec + 0x100, 64, [], true, [.sec],
    [⟨7, 0, .rw, 0x0⟩, ⟨11, 8, .rw, 0x0⟩, ⟨15, 12, .rw, 0x0⟩, ⟨19, 16, .rw, 0x0⟩, ⟨63, 32, .rw, 0x0⟩]⟩,
  -- R577
  ⟨"SEC_PART_STATE", Blk.sec + 0x110, 64, [(4, 0x8)], false, [.sec],
    [⟨2, 0, .ro, 0x0⟩, ⟨3, 3, .ro, 0x0⟩, ⟨15, 4, .ro, 0x0⟩, ⟨19, 16, .ro, 0x0⟩, ⟨63, 32, .ro, 0x0⟩]⟩,
  -- R605
  ⟨"SEC_KSLOT", Blk.sec + 0x200, 64, [(16, 0x10)], true, [.sec],
    [⟨1, 0, .rw, 0x0⟩, ⟨31, 8, .rw, 0x0⟩, ⟨63, 32, .rw, 0x0⟩]⟩,
  -- R606
  ⟨"SEC_MEAS", Blk.sec + 0x1000, 64, [(7, 0x40), (8, 0x8)], false, [.sec],
    [⟨63, 0, .ro, 0x0⟩]⟩,
  -- R583
  ⟨"SEC_FUSE_MAP", Blk.sec + 0x2000, 64, [(32, 0x8)], false, [.sec],
    [⟨63, 0, .ro, 0x0⟩]⟩]

/-- Registers of the PMC_ block: power core. -/
def regsPmc : List RegDef := [
  -- R636
  ⟨"PMC_STATE", Blk.pmc + 0x0, 32, [], false, [],
    [⟨1, 0, .ro, 0x2⟩, ⟨2, 2, .ro, 0x0⟩, ⟨4, 3, .ro, 0x2⟩, ⟨5, 5, .w1c, 0x0⟩]⟩,
  -- R636
  ⟨"PMC_STATE_REQ", Blk.pmc + 0x4, 32, [], false, [],
    [⟨1, 0, .rw, 0x0⟩, ⟨2, 2, .w1s, 0x0⟩, ⟨3, 3, .rw, 0x1⟩, ⟨4, 4, .rw, 0x1⟩]⟩,
  -- R637
  ⟨"PMC_DOM_STATE", Blk.pmc + 0x8, 64, [], false, [],
    [⟨37, 0, .ro, 0x0⟩]⟩,
  -- R637
  ⟨"PMC_LIMIT", Blk.pmc + 0x10, 32, [], true, [],
    [⟨10, 0, .rw, 0x5DC⟩]⟩,
  -- R637
  ⟨"PMC_RESET", Blk.pmc + 0x18, 32, [], false, [],
    [⟨2, 0, .rw, 0x0⟩, ⟨13, 8, .rw, 0x0⟩, ⟨30, 30, .w1c, 0x0⟩, ⟨31, 31, .w1s, 0x0⟩]⟩,
  -- R637
  ⟨"PMC_BOOT_CTRL", Blk.pmc + 0x1C, 32, [], false, [],
    [⟨0, 0, .rw, 0x0⟩]⟩,
  -- R638
  ⟨"PMC_BOOT", Blk.pmc + 0x20, 64, [], false, [],
    [⟨3, 0, .ro, 0x1⟩, ⟨5, 4, .ro, 0x0⟩, ⟨6, 6, .ro, 0x0⟩, ⟨63, 32, .ro, 0x0⟩]⟩,
  -- R639
  ⟨"PMC_EMERG", Blk.pmc + 0x30, 32, [], false, [],
    [⟨0, 0, .ro, 0x0⟩, ⟨1, 1, .ro, 0x0⟩, ⟨6, 2, .ro, 0x0⟩, ⟨31, 16, .ro, 0x0⟩]⟩,
  -- R639
  ⟨"PMC_ALERT", Blk.pmc + 0x34, 32, [], false, [],
    [⟨0, 0, .rc, 0x0⟩, ⟨1, 1, .rc, 0x0⟩, ⟨2, 2, .rc, 0x0⟩, ⟨3, 3, .rc, 0x0⟩]⟩,
  -- R639
  ⟨"PMC_PWR_IN", Blk.pmc + 0x40, 64, [], false, [],
    [⟨10, 0, .ro, 0x0⟩, ⟨26, 16, .rc, 0x0⟩, ⟨41, 32, .ro, 0x0⟩]⟩,
  -- R640
  ⟨"PMC_PART_W0", Blk.pmc + 0x100, 64, [(4, 0x10)], false, [],
    [⟨10, 0, .ro, 0x0⟩, ⟨26, 16, .ro, 0x0⟩, ⟨41, 32, .ro, 0x0⟩, ⟨43, 42, .ro, 0x0⟩]⟩,
  -- R640
  ⟨"PMC_PART_W1", Blk.pmc + 0x108, 64, [(4, 0x10)], false, [],
    [⟨63, 0, .ro, 0x0⟩]⟩,
  -- R641
  ⟨"PMC_THERM", Blk.pmc + 0x200, 32, [(17, 0x4)], false, [],
    [⟨7, 0, .ro, 0x0⟩, ⟨15, 8, .rc, 0x0⟩]⟩]

/-- Registers of the BBX_ block: breadboxes and agent registers. -/
def regsBbx : List RegDef := [
  -- R536
  ⟨"BBX_DATA", Blk.bbx + 0x0, 32, [(64, 0x100), (16, 0x4)], false, [],
    [⟨31, 0, .rw, 0x0⟩]⟩,
  -- R536
  ⟨"BBX_HDR", Blk.bbx + 0x40, 64, [(64, 0x100)], true, [],
    [⟨7, 0, .ro, 0x0⟩, ⟨23, 8, .ro, 0x0⟩, ⟨28, 24, .ro, 0x0⟩, ⟨47, 32, .ro, 0x0⟩]⟩,
  -- R536
  ⟨"BBX_SEND", Blk.bbx + 0x50, 32, [(64, 0x100)], false, [],
    [⟨0, 0, .wo, 0x0⟩, ⟨5, 1, .wo, 0x0⟩, ⟨31, 16, .wo, 0x0⟩]⟩,
  -- R536
  ⟨"BBX_STATUS", Blk.bbx + 0x54, 32, [(64, 0x100)], false, [],
    [⟨0, 0, .w1c, 0x0⟩, ⟨1, 1, .ro, 0x0⟩, ⟨2, 2, .ro, 0x0⟩, ⟨15, 8, .ro, 0x0⟩]⟩,
  -- R536
  ⟨"BBX_LOCK", Blk.bbx + 0x58, 32, [(64, 0x100)], false, [],
    [⟨7, 0, .rw, 0x0⟩]⟩,
  -- R536
  ⟨"BBX_CFG", Blk.bbx + 0x5C, 32, [(64, 0x100)], false, [],
    [⟨7, 0, .ro, 0x0⟩, ⟨15, 8, .ro, 0x0⟩, ⟨17, 16, .ro, 0x0⟩]⟩,
  -- R537
  ⟨"BBX_INC", Blk.bbx + 0x4000, 32, [(256, 0x4)], false, [],
    [⟨15, 0, .ro, 0x0⟩]⟩,
  -- R537
  ⟨"BBX_WAIT", Blk.bbx + 0x5000, 64, [(256, 0x8)], false, [],
    [⟨63, 0, .rw, 0x0⟩]⟩,
  -- R537
  ⟨"BBX_PEND", Blk.bbx + 0x6000, 64, [(256, 0x8)], false, [],
    [⟨63, 0, .ro, 0x0⟩]⟩,
  -- R537
  ⟨"BBX_SIG_ACC_LOCAL", Blk.bbx + 0x7000, 64, [(4, 0x10)], false, [],
    [⟨63, 0, .ro, 0x0⟩]⟩,
  -- R537
  ⟨"BBX_SIG_ACC_REMOTE", Blk.bbx + 0x7008, 64, [(4, 0x10)], false, [],
    [⟨63, 0, .ro, 0x0⟩]⟩]

/-- Registers of the REC_ block: event recorder. -/
def regsRec : List RegDef := [
  -- R669
  ⟨"REC_STATUS", Blk.rec + 0x0, 64, [], false, [],
    [⟨14, 0, .ro, 0x0⟩, ⟨16, 16, .ro, 0x0⟩, ⟨17, 17, .ro, 0x0⟩, ⟨63, 32, .ro, 0x0⟩]⟩,
  -- R669
  ⟨"REC_OLDEST", Blk.rec + 0x8, 64, [], false, [],
    [⟨31, 0, .ro, 0x0⟩, ⟨63, 32, .ro, 0x0⟩]⟩,
  -- R669
  ⟨"REC_OPTIME", Blk.rec + 0x10, 64, [], false, [],
    [⟨39, 0, .ro, 0x0⟩, ⟨63, 40, .ro, 0x0⟩]⟩,
  -- R669
  ⟨"REC_CURSOR", Blk.rec + 0x1000, 32, [(6, 0x200)], false, [],
    [⟨31, 0, .rw, 0xFFFFFFFF⟩]⟩,
  -- R669
  ⟨"REC_WIN", Blk.rec + 0x1100, 64, [(6, 0x200), (32, 0x8)], false, [],
    [⟨63, 0, .ro, 0x0⟩]⟩]

/-- Registers of the RTR_ block: router. -/
def regsRtr : List RegDef := [
  -- R421
  ⟨"RTR_RT_EPOCH", Blk.rtr + 0x0, 32, [], false, [.fab],
    [⟨0, 0, .rw, 0x0⟩, ⟨31, 16, .ro, 0x0⟩]⟩,
  -- R421
  ⟨"RTR_NODE", Blk.rtr + 0x8, 64, [], false, [.fab],
    [⟨19, 0, .rw, 0xFFFFF⟩, ⟨63, 63, .rw, 0x0⟩]⟩,
  -- R421
  ⟨"RTR_RT_ERR", Blk.rtr + 0x18, 64, [], false, [.fab],
    [⟨16, 0, .ro, 0x0⟩, ⟨17, 17, .ro, 0x0⟩, ⟨31, 31, .w1c, 0x0⟩, ⟨63, 32, .ro, 0x0⟩]⟩,
  -- R422
  ⟨"RTR_E2E", Blk.rtr + 0x10, 32, [], false, [.fab, .pf0],
    [⟨8, 0, .rw, 0x10⟩, ⟨23, 16, .rw, 0x64⟩, ⟨27, 24, .rw, 0x8⟩]⟩,
  -- R422
  ⟨"RTR_CC", Blk.rtr + 0x14, 32, [], false, [.fab, .pf0],
    [⟨7, 0, .rw, 0x8⟩, ⟨11, 8, .rw, 0x4⟩, ⟨19, 12, .rw, 0x10⟩, ⟨20, 20, .rw, 0x1⟩]⟩,
  -- R425
  ⟨"RTR_TELEM_CTRL", Blk.rtr + 0x20, 32, [], false, [.fab, .pf0],
    [⟨16, 0, .rw, 0x3E8⟩]⟩,
  -- R425
  ⟨"RTR_TELEM_GEN", Blk.rtr + 0x28, 64, [], false, [],
    [⟨63, 0, .ro, 0x0⟩]⟩,
  -- R423
  ⟨"RTR_DOMAIN", Blk.rtr + 0x40, 32, [(4, 0x8)], true, [.sec],
    [⟨11, 0, .rw, 0x0⟩, ⟨31, 31, .rw, 0x0⟩]⟩,
  -- R423
  ⟨"RTR_MCAST_W0", Blk.rtr + 0x200, 64, [(64, 0x10)], false, [.fab],
    [⟨0, 0, .rw, 0x0⟩, ⟨3, 1, .rw, 0x0⟩, ⟨31, 12, .rw, 0xFFFFF⟩]⟩,
  -- R423
  ⟨"RTR_MCAST_W1", Blk.rtr + 0x208, 64, [(64, 0x10)], false, [.fab],
    [⟨63, 0, .rw, 0x0⟩]⟩,
  -- R425
  ⟨"RTR_OUT_BYTES", Blk.rtr + 0x1000, 64, [(16, 0x8)], false, [],
    [⟨63, 0, .ro, 0x0⟩]⟩,
  -- R425
  ⟨"RTR_OUT_MARKS", Blk.rtr + 0x1080, 64, [(16, 0x8)], false, [],
    [⟨63, 0, .ro, 0x0⟩]⟩,
  -- R425
  ⟨"RTR_OUT_QPEAK", Blk.rtr + 0x1100, 64, [(16, 0x8)], false, [],
    [⟨63, 0, .rc, 0x0⟩]⟩,
  -- R425
  ⟨"RTR_DROP", Blk.rtr + 0x1180, 64, [(8, 0x8)], false, [],
    [⟨63, 0, .ro, 0x0⟩]⟩,
  -- R425
  ⟨"RTR_NACK_TX", Blk.rtr + 0x11C0, 64, [(8, 0x8)], false, [],
    [⟨63, 0, .ro, 0x0⟩]⟩,
  -- R425
  ⟨"RTR_RETX", Blk.rtr + 0x1200, 64, [], false, [],
    [⟨63, 0, .ro, 0x0⟩]⟩,
  -- R425
  ⟨"RTR_LOSS_TX", Blk.rtr + 0x1208, 64, [], false, [],
    [⟨63, 0, .ro, 0x0⟩]⟩,
  -- R425
  ⟨"RTR_FC_HIT", Blk.rtr + 0x1210, 64, [], false, [],
    [⟨63, 0, .ro, 0x0⟩]⟩,
  -- R425
  ⟨"RTR_FC_MISS", Blk.rtr + 0x1218, 64, [], false, [],
    [⟨63, 0, .ro, 0x0⟩]⟩,
  -- R425
  ⟨"RTR_FC_USED", Blk.rtr + 0x1220, 64, [], false, [],
    [⟨63, 0, .ro, 0x0⟩]⟩,
  -- R425
  ⟨"RTR_RC_USED", Blk.rtr + 0x1228, 64, [], false, [],
    [⟨63, 0, .ro, 0x0⟩]⟩,
  -- R425
  ⟨"RTR_TXN_USED", Blk.rtr + 0x1230, 64, [], false, [],
    [⟨63, 0, .ro, 0x0⟩]⟩,
  -- R425
  ⟨"RTR_SNAPSHOT", Blk.rtr + 0x2000, 64, [(71, 0x8)], false, [],
    [⟨63, 0, .ro, 0x0⟩]⟩,
  -- R376
  ⟨"RTR_ROUTE", Blk.rtr + 0x100000, 64, [(2, 0x200000), (131072, 0x10)], true, [.fab],
    [⟨15, 0, .rw, 0x0⟩, ⟨19, 16, .rw, 0x0⟩, ⟨20, 20, .rw, 0x0⟩, ⟨22, 21, .rw, 0x0⟩, ⟨31, 24, .rw, 0x0⟩]⟩,
  -- R424
  ⟨"RTR_CIRCUIT", Blk.rtr + 0x800000, 64, [(17, 0x8000), (4096, 0x8)], false, [.fab],
    [⟨0, 0, .rw, 0x0⟩, ⟨5, 1, .rw, 0x0⟩, ⟨11, 6, .rw, 0x0⟩, ⟨12, 12, .rw, 0x0⟩, ⟨14, 13, .rw, 0x0⟩, ⟨20, 15, .rw, 0x0⟩, ⟨21, 21, .rw, 0x0⟩, ⟨43, 24, .rw, 0x0⟩, ⟨63, 44, .rw, 0x0⟩]⟩,
  -- R424
  ⟨"RTR_SHARE", Blk.rtr + 0x900000, 64, [(16, 0x200), (64, 0x8)], false, [.fab],
    [⟨6, 0, .rw, 0x0⟩, ⟨19, 8, .rw, 0x0⟩]⟩,
  -- R424
  ⟨"RTR_HN_W0", Blk.rtr + 0xA00000, 64, [(4096, 0x20)], false, [.fab],
    [⟨19, 0, .rw, 0x0⟩, ⟨47, 32, .rw, 0x0⟩, ⟨63, 63, .rw, 0x0⟩]⟩,
  -- R424
  ⟨"RTR_HN_ADDR", Blk.rtr + 0xA00008, 64, [(4096, 0x20), (2, 0x8)], false, [.fab],
    [⟨63, 0, .rw, 0x0⟩]⟩]

/-- Registers of the PRT_ block: link ports. -/
def regsPrt : List RegDef := [
  -- R368
  ⟨"PRT_CTRL", Blk.prt + 0x0, 32, [(16, 0x10000)], false, [.fab, .pf0, .pmc],
    [⟨0, 0, .rw, 0x0⟩, ⟨1, 1, .rw, 0x0⟩, ⟨2, 2, .rw, 0x1⟩, ⟨3, 3, .rw, 0x0⟩, ⟨4, 4, .w1s, 0x0⟩, ⟨5, 5, .w1s, 0x0⟩, ⟨6, 6, .w1s, 0x0⟩]⟩,
  -- R369
  ⟨"PRT_STATUS", Blk.prt + 0x4, 32, [(16, 0x10000)], false, [],
    [⟨2, 0, .ro, 0x0⟩, ⟨4, 3, .ro, 0x3⟩, ⟨5, 5, .ro, 0x0⟩, ⟨6, 6, .ro, 0x0⟩, ⟨7, 7, .ro, 0x0⟩, ⟨15, 8, .ro, 0x0⟩, ⟨19, 16, .ro, 0x0⟩]⟩,
  -- R370
  ⟨"PRT_RETRY", Blk.prt + 0x8, 32, [(16, 0x10000)], false, [.fab, .pf0],
    [⟨15, 0, .rw, 0xFA0⟩, ⟨23, 16, .rw, 0x64⟩]⟩,
  -- R370
  ⟨"PRT_QUIET", Blk.prt + 0xC, 32, [(16, 0x10000)], false, [.fab, .pf0],
    [⟨0, 0, .rw, 0x0⟩, ⟨31, 16, .rw, 0x64⟩]⟩,
  -- R370
  ⟨"PRT_ETYPE", Blk.prt + 0x10, 32, [(16, 0x10000)], false, [.fab, .pf0],
    [⟨15, 0, .rw, 0x88B5⟩]⟩,
  -- R371
  ⟨"PRT_MAC", Blk.prt + 0x18, 64, [(16, 0x10000)], false, [],
    [⟨47, 0, .ro, 0x0⟩]⟩,
  -- R371
  ⟨"PRT_PEER", Blk.prt + 0x20, 64, [(16, 0x10000)], false, [],
    [⟨19, 0, .ro, 0xFFFFF⟩, ⟨23, 20, .ro, 0x0⟩, ⟨27, 24, .ro, 0xF⟩, ⟨63, 63, .ro, 0x0⟩]⟩,
  -- R371
  ⟨"PRT_PEER_MAC", Blk.prt + 0x28, 64, [(16, 0x10000)], false, [],
    [⟨47, 0, .ro, 0x0⟩]⟩,
  -- R372
  ⟨"PRT_TX_FRAMES", Blk.prt + 0x100, 64, [(16, 0x10000)], false, [],
    [⟨63, 0, .ro, 0x0⟩]⟩,
  -- R372
  ⟨"PRT_RX_FRAMES", Blk.prt + 0x108, 64, [(16, 0x10000)], false, [],
    [⟨63, 0, .ro, 0x0⟩]⟩,
  -- R372
  ⟨"PRT_RX_DROP", Blk.prt + 0x110, 64, [(16, 0x10000)], false, [],
    [⟨63, 0, .ro, 0x0⟩]⟩,
  -- R372
  ⟨"PRT_REPLAYS", Blk.prt + 0x118, 64, [(16, 0x10000)], false, [],
    [⟨63, 0, .ro, 0x0⟩]⟩,
  -- R372
  ⟨"PRT_NAKS", Blk.prt + 0x120, 64, [(16, 0x10000)], false, [],
    [⟨63, 0, .ro, 0x0⟩]⟩,
  -- R372
  ⟨"PRT_HOLD_DISCARD", Blk.prt + 0x128, 64, [(16, 0x10000)], false, [],
    [⟨63, 0, .ro, 0x0⟩]⟩,
  -- R372
  ⟨"PRT_FEC_UCW", Blk.prt + 0x130, 64, [(16, 0x10000)], false, [],
    [⟨63, 0, .ro, 0x0⟩]⟩,
  -- R372
  ⟨"PRT_LANE_CBITS", Blk.prt + 0x140, 64, [(16, 0x10000), (8, 0x8)], false, [],
    [⟨63, 0, .ro, 0x0⟩]⟩,
  -- R373
  ⟨"PRT_HN_CTRL", Blk.prt + 0x200, 32, [(16, 0x10000)], false, [.fab, .pf0],
    [⟨15, 0, .rw, 0x0⟩, ⟨18, 16, .rw, 0x3⟩, ⟨21, 19, .rw, 0x4⟩, ⟨22, 22, .rw, 0x1⟩]⟩,
  -- R373
  ⟨"PRT_HN_VLAN", Blk.prt + 0x204, 32, [(16, 0x10000)], false, [.fab, .pf0],
    [⟨11, 0, .rw, 0x0⟩]⟩,
  -- R373
  ⟨"PRT_HN_MTU", Blk.prt + 0x208, 32, [(16, 0x10000)], false, [.fab, .pf0],
    [⟨13, 0, .rw, 0x2328⟩]⟩,
  -- R373
  ⟨"PRT_HN_GW", Blk.prt + 0x210, 64, [(16, 0x10000)], false, [.fab, .pf0],
    [⟨47, 0, .rw, 0x0⟩, ⟨63, 63, .rw, 0x0⟩]⟩,
  -- R373
  ⟨"PRT_HN_ADDR", Blk.prt + 0x220, 64, [(16, 0x10000), (2, 0x8)], false, [.fab, .pf0],
    [⟨63, 0, .rw, 0x0⟩]⟩]

/-- Registers of the HIF_ block: host ports. -/
def regsHif : List RegDef := [
  -- R551
  ⟨"HIF_CAP_PROD", Blk.hif + 0x0, 32, [(2, 0x100000)], false, [],
    [⟨31, 0, .ro, 0x0⟩]⟩,
  -- R551
  ⟨"HIF_CAP_CONS", Blk.hif + 0x4, 32, [(2, 0x100000)], false, [.sch],
    [⟨31, 0, .rw, 0x0⟩]⟩,
  -- R551
  ⟨"HIF_CAP_CTRL", Blk.hif + 0x8, 32, [(2, 0x100000)], false, [.sch],
    [⟨0, 0, .rw, 0x1⟩, ⟨12, 8, .w1c, 0x0⟩]⟩,
  -- R551
  ⟨"HIF_CAP_PEND", Blk.hif + 0x10, 32, [(2, 0x100000), (5, 0x4)], false, [],
    [⟨9, 0, .ro, 0x0⟩]⟩,
  -- R551
  ⟨"HIF_FN_LAST", Blk.hif + 0x40, 32, [(2, 0x100000), (5, 0x4)], false, [],
    [⟨31, 0, .ro, 0x0⟩]⟩,
  -- R551
  ⟨"HIF_FN_DONE", Blk.hif + 0x60, 32, [(2, 0x100000), (5, 0x4)], false, [],
    [⟨31, 0, .ro, 0x0⟩]⟩,
  -- R551
  ⟨"HIF_HB_COUNT", Blk.hif + 0x80, 32, [(2, 0x100000), (5, 0x4)], false, [],
    [⟨31, 0, .ro, 0x0⟩]⟩,
  -- R551
  ⟨"HIF_DB_SQ", Blk.hif + 0x100, 32, [(2, 0x100000), (5, 0x80), (16, 0x8)], false, [],
    [⟨31, 0, .ro, 0x0⟩]⟩,
  -- R551
  ⟨"HIF_DB_CQ", Blk.hif + 0x104, 32, [(2, 0x100000), (5, 0x80), (16, 0x8)], false, [],
    [⟨31, 0, .ro, 0x0⟩]⟩,
  -- R552
  ⟨"HIF_CAP_ENTRY", Blk.hif + 0x10000, 64, [(2, 0x100000), (4096, 0x10), (2, 0x8)], false, [],
    [⟨63, 0, .ro, 0x0⟩]⟩,
  -- R497
  ⟨"HIF_EMU_FWVER", Blk.hif + 0x20040, 32, [(2, 0x100000), (5, 0x10000)], false, [.sch],
    [⟨7, 0, .ro, 0x0⟩, ⟨15, 8, .ro, 0x0⟩, ⟨23, 16, .ro, 0x0⟩]⟩,
  -- R497
  ⟨"HIF_EMU_DRVVER", Blk.hif + 0x20044, 32, [(2, 0x100000), (5, 0x10000)], false, [.sch],
    [⟨7, 0, .rw, 0x0⟩, ⟨15, 8, .rw, 0x0⟩, ⟨23, 16, .rw, 0x0⟩, ⟨31, 31, .w1s, 0x0⟩]⟩,
  -- R497
  ⟨"HIF_EMU_DRVFEAT", Blk.hif + 0x20048, 64, [(2, 0x100000), (5, 0x10000)], false, [.sch],
    [⟨63, 0, .rw, 0x0⟩]⟩,
  -- R497
  ⟨"HIF_EMU_ACCFEAT", Blk.hif + 0x20050, 64, [(2, 0x100000), (5, 0x10000)], false, [.sch],
    [⟨63, 0, .ro, 0x0⟩]⟩,
  -- R497
  ⟨"HIF_EMU_NEGSTAT", Blk.hif + 0x20058, 32, [(2, 0x100000), (5, 0x10000)], false, [.sch],
    [⟨1, 0, .ro, 0x0⟩, ⟨2, 2, .ro, 0x0⟩, ⟨15, 8, .ro, 0x0⟩]⟩,
  -- R498
  ⟨"HIF_EMU_STATUS", Blk.hif + 0x20080, 32, [(2, 0x100000), (5, 0x10000)], false, [.sch],
    [⟨2, 0, .ro, 0x0⟩, ⟨3, 3, .w1c, 0x0⟩, ⟨4, 4, .ro, 0x0⟩, ⟨31, 16, .ro, 0x0⟩]⟩,
  -- R498
  ⟨"HIF_EMU_CAPSEQ", Blk.hif + 0x20084, 32, [(2, 0x100000), (5, 0x10000)], false, [.sch],
    [⟨31, 0, .ro, 0x0⟩]⟩,
  -- R498
  ⟨"HIF_EMU_HB", Blk.hif + 0x20100, 32, [(2, 0x100000), (5, 0x10000)], false, [.sch],
    [⟨15, 0, .rw, 0x3E8⟩, ⟨18, 16, .ro, 0x0⟩]⟩,
  -- R499
  ⟨"HIF_EMU_SQ_BASE", Blk.hif + 0x20200, 64, [(2, 0x100000), (5, 0x10000), (16, 0x40)], false, [.sch],
    [⟨63, 0, .rw, 0x0⟩]⟩,
  -- R499
  ⟨"HIF_EMU_CQ_BASE", Blk.hif + 0x20208, 64, [(2, 0x100000), (5, 0x10000), (16, 0x40)], false, [.sch],
    [⟨63, 0, .rw, 0x0⟩]⟩,
  -- R499
  ⟨"HIF_EMU_QCTRL", Blk.hif + 0x20210, 32, [(2, 0x100000), (5, 0x10000), (16, 0x40)], false, [.sch],
    [⟨3, 0, .rw, 0x0⟩, ⟨7, 4, .rw, 0x0⟩, ⟨13, 8, .rw, 0x0⟩, ⟨14, 14, .rw, 0x0⟩, ⟨15, 15, .rw, 0x0⟩]⟩,
  -- R499
  ⟨"HIF_EMU_QSTAT", Blk.hif + 0x20214, 32, [(2, 0x100000), (5, 0x10000), (16, 0x40)], false, [.sch],
    [⟨0, 0, .ro, 0x0⟩, ⟨1, 1, .ro, 0x0⟩, ⟨31, 16, .ro, 0x0⟩]⟩,
  -- R500
  ⟨"HIF_EMU_WIN", Blk.hif + 0x20800, 64, [(2, 0x100000), (5, 0x10000), (32, 0x10)], false, [.sch],
    [⟨23, 0, .rw, 0x0⟩, ⟨25, 24, .rw, 0x0⟩, ⟨26, 26, .rw, 0x0⟩, ⟨27, 27, .rw, 0x0⟩, ⟨63, 32, .rw, 0x0⟩]⟩,
  -- R500
  ⟨"HIF_EMU_WIN_STAT", Blk.hif + 0x20808, 32, [(2, 0x100000), (5, 0x10000), (32, 0x10)], false, [.sch],
    [⟨1, 0, .ro, 0x0⟩]⟩,
  -- R496
  ⟨"HIF_EMU_VCLU_SEL", Blk.hif + 0x24000, 64, [(2, 0x100000), (5, 0x10000)], false, [.sch],
    [⟨63, 0, .rw, 0x0⟩]⟩,
  -- R496
  ⟨"HIF_EMU_STK_SEL", Blk.hif + 0x25FF8, 32, [(2, 0x100000), (5, 0x10000)], false, [.sch],
    [⟨31, 0, .rw, 0x0⟩]⟩,
  -- R665
  ⟨"HIF_EMU_REC_CURSOR", Blk.hif + 0x28000, 32, [(2, 0x100000), (5, 0x10000)], false, [.sch],
    [⟨31, 0, .rw, 0xFFFFFFFF⟩]⟩,
  -- R518
  ⟨"HIF_EMU_ORPHAN", Blk.hif + 0x2C000, 64, [(2, 0x100000), (5, 0x10000), (8, 0x8)], false, [.sch],
    [⟨63, 0, .ro, 0x0⟩]⟩]

/-- Registers of the SEQ_ block: sequencers and collective engines. -/
def regsSeq : List RegDef := [
  -- R153
  ⟨"SEQ_CTRL", Blk.seq + 0x0, 32, [(4, 0x1000000)], false, [.sch],
    [⟨0, 0, .w1s, 0x0⟩, ⟨1, 1, .rw, 0x0⟩, ⟨2, 2, .w1s, 0x0⟩]⟩,
  -- R154
  ⟨"SEQ_STATUS", Blk.seq + 0x4, 32, [(4, 0x1000000)], false, [],
    [⟨3, 0, .ro, 0x0⟩, ⟨11, 8, .ro, 0x0⟩, ⟨13, 12, .ro, 0x0⟩, ⟨19, 16, .ro, 0x0⟩]⟩,
  -- R155
  ⟨"SEQ_FAULT", Blk.seq + 0x8, 64, [(4, 0x1000000)], false, [],
    [⟨7, 0, .ro, 0x0⟩, ⟨11, 8, .ro, 0x0⟩, ⟨21, 16, .ro, 0x0⟩, ⟨27, 24, .ro, 0x0⟩, ⟨31, 31, .ro, 0x0⟩, ⟨39, 32, .ro, 0x0⟩]⟩,
  -- R156
  ⟨"SEQ_STEP", Blk.seq + 0x10, 64, [(4, 0x1000000)], false, [],
    [⟨63, 0, .ro, 0x0⟩]⟩,
  -- R156
  ⟨"SEQ_PC", Blk.seq + 0x18, 64, [(4, 0x1000000)], false, [],
    [⟨63, 0, .ro, 0x0⟩]⟩,
  -- R156
  ⟨"SEQ_COMMITS", Blk.seq + 0x20, 64, [(4, 0x1000000)], false, [],
    [⟨63, 0, .ro, 0x0⟩]⟩,
  -- R156
  ⟨"SEQ_FAULT_STEP", Blk.seq + 0x28, 64, [(4, 0x1000000)], false, [],
    [⟨63, 0, .ro, 0x0⟩]⟩,
  -- R156
  ⟨"SEQ_FAULT_PC", Blk.seq + 0x30, 64, [(4, 0x1000000)], false, [],
    [⟨63, 0, .ro, 0x0⟩]⟩,
  -- R140
  ⟨"SEQ_VBIND", Blk.seq + 0x38, 64, [(4, 0x1000000)], false, [.sch],
    [⟨59, 0, .rw, 0x0⟩, ⟨63, 63, .rw, 0x0⟩]⟩,
  -- R152
  ⟨"SEQ_STALL", Blk.seq + 0x100, 64, [(4, 0x1000000), (11, 0x8)], false, [],
    [⟨63, 0, .ro, 0x0⟩]⟩,
  -- R454
  ⟨"CLX_CTRL", Blk.seq + 0x1000, 32, [(4, 0x1000000)], false, [.sch, .pf0],
    [⟨15, 0, .rw, 0x7D0⟩]⟩,
  -- R455
  ⟨"CLX_STATUS", Blk.seq + 0x1004, 32, [(4, 0x1000000)], false, [],
    [⟨1, 0, .ro, 0x0⟩, ⟨16, 8, .ro, 0x0⟩, ⟨31, 24, .ro, 0x0⟩]⟩,
  -- R456
  ⟨"CLX_INST", Blk.seq + 0x1008, 64, [(4, 0x1000000)], false, [],
    [⟨9, 0, .ro, 0x0⟩, ⟨23, 16, .ro, 0x0⟩, ⟨31, 24, .ro, 0x0⟩, ⟨34, 32, .ro, 0x0⟩, ⟨35, 35, .ro, 0x0⟩, ⟨36, 36, .ro, 0x0⟩, ⟨57, 40, .ro, 0x0⟩]⟩,
  -- R456
  ⟨"CLX_LAST", Blk.seq + 0x1010, 64, [(4, 0x1000000)], false, [],
    [⟨9, 0, .ro, 0x0⟩, ⟨23, 16, .ro, 0x0⟩, ⟨31, 24, .ro, 0x0⟩, ⟨32, 32, .ro, 0x0⟩, ⟨33, 33, .ro, 0x0⟩, ⟨34, 34, .ro, 0x0⟩, ⟨39, 36, .ro, 0x0⟩]⟩,
  -- R457
  ⟨"CLX_TX_BYTES", Blk.seq + 0x1018, 64, [(4, 0x1000000)], false, [],
    [⟨63, 0, .ro, 0x0⟩]⟩,
  -- R457
  ⟨"CLX_RX_BYTES", Blk.seq + 0x1020, 64, [(4, 0x1000000)], false, [],
    [⟨63, 0, .ro, 0x0⟩]⟩,
  -- R457
  ⟨"CLX_DUP_TILES", Blk.seq + 0x1028, 64, [(4, 0x1000000)], false, [],
    [⟨63, 0, .ro, 0x0⟩]⟩,
  -- R457
  ⟨"CLX_DEGRADED", Blk.seq + 0x1030, 64, [(4, 0x1000000)], false, [],
    [⟨63, 0, .ro, 0x0⟩]⟩,
  -- R457
  ⟨"CLX_FAILED", Blk.seq + 0x1038, 64, [(4, 0x1000000)], false, [],
    [⟨63, 0, .ro, 0x0⟩]⟩,
  -- R457
  ⟨"CLX_EXC", Blk.seq + 0x1040, 64, [(4, 0x1000000), (4, 0x8)], false, [],
    [⟨63, 0, .ro, 0x0⟩]⟩,
  -- R430
  ⟨"CLX_GROUP_W0", Blk.seq + 0x2000, 64, [(4, 0x1000000), (8, 0x200)], false, [.fab],
    [⟨0, 0, .rw, 0x0⟩, ⟨6, 1, .rw, 0x0⟩, ⟨12, 7, .rw, 0x0⟩, ⟨13, 13, .rw, 0x0⟩, ⟨14, 14, .rw, 0x0⟩, ⟨15, 15, .rw, 0x0⟩, ⟨27, 16, .rw, 0x0⟩, ⟨39, 28, .rw, 0x0⟩, ⟨51, 40, .rw, 0x0⟩]⟩,
  -- R430
  ⟨"CLX_GROUP_W1", Blk.seq + 0x2008, 64, [(4, 0x1000000), (8, 0x200)], false, [.fab],
    [⟨11, 0, .rw, 0x0⟩, ⟨23, 12, .rw, 0x0⟩, ⟨24, 24, .rw, 0x0⟩, ⟨25, 25, .rw, 0x0⟩, ⟨31, 26, .rw, 0x0⟩, ⟨37, 32, .rw, 0x0⟩]⟩,
  -- R430
  ⟨"CLX_GROUP_PEER", Blk.seq + 0x2040, 32, [(4, 0x1000000), (8, 0x200), (64, 0x4)], false, [.fab],
    [⟨19, 0, .rw, 0x0⟩]⟩,
  -- R435
  ⟨"CLX_PROGRAM", Blk.seq + 0x10000, 64, [(4, 0x1000000), (1024, 0x40), (8, 0x8)], false, [.sch],
    [⟨63, 0, .rw, 0x0⟩]⟩]

/-- Registers of the CLU_ block: clusters. -/
def regsClu : List RegDef := [
  -- R234
  ⟨"CLU_CNT_CTRL", Blk.clu + 0x0, 32, [(64, 0x100000)], false, [],
    [⟨0, 0, .w1s, 0x0⟩]⟩,
  -- R235
  ⟨"CLU_ECC_CE", Blk.clu + 0x8, 64, [(64, 0x100000)], false, [],
    [⟨63, 0, .ro, 0x0⟩]⟩,
  -- R235
  ⟨"CLU_ECC_UE", Blk.clu + 0x10, 64, [(64, 0x100000)], false, [],
    [⟨63, 0, .ro, 0x0⟩]⟩,
  -- R236
  ⟨"CLU_ECC_LAST", Blk.clu + 0x18, 64, [(64, 0x100000)], false, [],
    [⟨22, 0, .ro, 0x0⟩, ⟨27, 24, .ro, 0x0⟩, ⟨28, 28, .ro, 0x0⟩, ⟨31, 31, .ro, 0x0⟩]⟩,
  -- R235
  ⟨"CLU_EXC", Blk.clu + 0x100, 64, [(64, 0x100000), (16, 0x8)], false, [],
    [⟨63, 0, .ro, 0x0⟩]⟩,
  -- R235
  ⟨"CLU_CELL_EXC", Blk.clu + 0x1000, 64, [(64, 0x100000), (16, 0x80), (12, 0x8)], false, [],
    [⟨63, 0, .ro, 0x0⟩]⟩,
  -- R555
  ⟨"CLU_CCC_STATUS", Blk.clu + 0x2000, 32, [(64, 0x100000)], false, [.sch],
    [⟨2, 0, .ro, 0x0⟩]⟩,
  -- R555
  ⟨"CLU_CCC_CMD", Blk.clu + 0x2004, 32, [(64, 0x100000)], false, [.sch],
    [⟨0, 0, .w1s, 0x0⟩, ⟨15, 8, .rw, 0x0⟩]⟩,
  -- R555
  ⟨"CLU_CCC_ARG", Blk.clu + 0x2008, 64, [(64, 0x100000)], false, [.sch],
    [⟨63, 0, .rw, 0x0⟩]⟩,
  -- R555
  ⟨"CLU_CCC_CODE", Blk.clu + 0x80000, 64, [(64, 0x100000), (32768, 0x8)], false, [.sch],
    [⟨63, 0, .rw, 0x0⟩]⟩]

/-- Registers of the STK_ block: stacks and base engines. -/
def regsStk : List RegDef := [
  -- R288
  ⟨"STK_STATUS", Blk.stk + 0x0, 32, [(12, 0x1000000)], false, [],
    [⟨2, 0, .ro, 0x0⟩, ⟨14, 8, .ro, 0x0⟩, ⟨22, 16, .ro, 0x0⟩]⟩,
  -- R289
  ⟨"STK_REQ", Blk.stk + 0x8, 64, [(12, 0x1000000)], false, [],
    [⟨14, 0, .ro, 0x0⟩, ⟨46, 32, .rc, 0x0⟩]⟩,
  -- R290
  ⟨"STK_HEAT_CTRL", Blk.stk + 0x10, 32, [(12, 0x1000000)], false, [],
    [⟨16, 0, .rw, 0x3E8⟩]⟩,
  -- R290
  ⟨"STK_HEAT_GEN", Blk.stk + 0x18, 64, [(12, 0x1000000)], false, [],
    [⟨63, 0, .ro, 0x0⟩]⟩,
  -- R291
  ⟨"STK_PC_STATE", Blk.stk + 0x100, 32, [(12, 0x1000000), (64, 0x20)], false, [],
    [⟨1, 0, .ro, 0x0⟩, ⟨2, 2, .ro, 0x0⟩, ⟨25, 16, .ro, 0x0⟩]⟩,
  -- R292
  ⟨"STK_PC_CE", Blk.stk + 0x108, 64, [(12, 0x1000000), (64, 0x20)], false, [],
    [⟨63, 0, .ro, 0x0⟩]⟩,
  -- R292
  ⟨"STK_PC_UE", Blk.stk + 0x110, 64, [(12, 0x1000000), (64, 0x20)], false, [],
    [⟨63, 0, .ro, 0x0⟩]⟩,
  -- R293
  ⟨"STK_PC_UE_LAST", Blk.stk + 0x118, 64, [(12, 0x1000000), (64, 0x20)], false, [],
    [⟨29, 0, .ro, 0x0⟩, ⟨30, 30, .ro, 0x0⟩, ⟨31, 31, .w1c, 0x0⟩, ⟨63, 32, .ro, 0x0⟩]⟩,
  -- R294
  ⟨"STK_HEAT", Blk.stk + 0x100000, 64, [(12, 0x1000000), (32768, 0x8)], false, [],
    [⟨11, 0, .ro, 0x0⟩, ⟨23, 12, .ro, 0x0⟩, ⟨35, 24, .ro, 0x0⟩, ⟨47, 36, .ro, 0x0⟩, ⟨59, 48, .ro, 0x0⟩]⟩,
  -- R326
  ⟨"STK_BE_STATUS", Blk.stk + 0x800000, 32, [(12, 0x1000000)], false, [],
    [⟨2, 0, .ro, 0x0⟩, ⟨16, 8, .ro, 0x0⟩]⟩,
  -- R327
  ⟨"STK_BE_CUR", Blk.stk + 0x800008, 64, [(12, 0x1000000)], false, [],
    [⟨9, 0, .ro, 0x0⟩, ⟨23, 16, .ro, 0x0⟩, ⟨63, 32, .ro, 0x0⟩]⟩,
  -- R328
  ⟨"STK_BE_ERR", Blk.stk + 0x800010, 64, [(12, 0x1000000)], false, [],
    [⟨3, 0, .ro, 0x0⟩, ⟨7, 4, .ro, 0x0⟩, ⟨14, 8, .ro, 0x0⟩, ⟨29, 16, .ro, 0x0⟩, ⟨31, 31, .w1c, 0x0⟩, ⟨63, 32, .ro, 0x0⟩]⟩,
  -- R329
  ⟨"STK_BE_ITEMS", Blk.stk + 0x800018, 64, [(12, 0x1000000)], false, [],
    [⟨63, 0, .ro, 0x0⟩]⟩,
  -- R329
  ⟨"STK_BE_REMOTE", Blk.stk + 0x800020, 64, [(12, 0x1000000)], false, [],
    [⟨63, 0, .ro, 0x0⟩]⟩,
  -- R329
  ⟨"STK_BE_EXC", Blk.stk + 0x800100, 64, [(12, 0x1000000), (8, 0x8)], false, [],
    [⟨63, 0, .ro, 0x0⟩]⟩,
  -- R325
  ⟨"STK_BE_CODE", Blk.stk + 0x900000, 64, [(12, 0x1000000), (8192, 0x8)], false, [.sch],
    [⟨63, 0, .rw, 0x0⟩]⟩,
  -- R325
  ⟨"STK_BE_CALL", Blk.stk + 0xA00000, 64, [(12, 0x1000000), (1024, 0x80), (16, 0x8)], false, [.sch],
    [⟨63, 0, .rw, 0x0⟩]⟩]

/-- Every register of the device. -/
def allRegs : List RegDef :=
  regsHub ++ regsSec ++ regsPmc ++ regsBbx ++ regsRec ++ regsRtr ++ regsPrt ++ regsHif ++ regsSeq ++ regsClu ++ regsStk

/-- Bytes a register occupies; the companion of a -CP register doubles them (R17). -/
def RegDef.bytes (d : RegDef) : Nat := d.width / 8 * (if d.cp then 2 else 1)

/-- The start of the instance that holds offset `rel`, and the offset within it; `none` in a gap. -/
def RegDef.locate : List (Nat × Nat) → Nat → Nat → Option (Nat × Nat)
  | [], start, rel => some (start, rel)
  | (n, st) :: ds, start, rel =>
    if rel / st < n then RegDef.locate ds (start + rel / st * st) (rel % st) else none

/-- Where a register's row holds DPA `a`: the register's own address and the byte offset of `a` in it. -/
def RegDef.find (d : RegDef) (a : Nat) : Option (Nat × Nat) :=
  if a < d.base then none
  else match RegDef.locate d.dims d.base (a - d.base) with
    | some (start, off) => if off < d.bytes then some (start, off) else none
    | none => none

/-- The row, register address and byte offset at a DPA; `none` where no register lies (RSV under R14). -/
def findReg (a : Nat) : Option (RegDef × Nat × Nat) :=
  allRegs.findSome? (fun d => (d.find a).map (fun p => (d, p.1, p.2)))

/-- The reset value of a register from its fields. -/
def RegDef.resetValue (d : RegDef) : W64 :=
  d.flds.foldl (fun w f => setFld w f.hi f.lo f.reset) 0

end Sys2Proof.Machine
end

