-- ==== Sys2Proof/Machine/RegAddr.lean ====
section
/-!
DEFINITION. The address of every register instance, by the register's name in the manual (offsets as in the register maps; the blocks of R21).
An argument is the index of an instance, from the block's instance (port, stack, cluster, sequencer) inwards.
-/
namespace Sys2Proof.Machine.Reg

/-- Address of HUB_ID (R23). -/
def hubId : Nat := 0x20000000000
/-- Address of HUB_FP_GEN (R55). -/
def hubFpGen : Nat := 0x20000010000
/-- Address of HUB_FP_SUMMARY (R56). -/
def hubFpSummary : Nat := 0x20000010008
/-- Address of HUB_FP_CLU (R57). -/
def hubFpClu (i : Nat) : Nat := 0x20000010100 + 0x8 * i
/-- Address of HUB_FP_STK_CH (R60). -/
def hubFpStkCh (i : Nat) : Nat := 0x20000010400 + 0x8 * i
/-- Address of HUB_FP_PORT (R61). -/
def hubFpPort (i : Nat) : Nat := 0x20000010500 + 0x4 * i
/-- Address of HUB_FP_DIGEST (R62). -/
def hubFpDigest (i : Nat) : Nat := 0x20000010600 + 0x8 * i
/-- Address of HUB_PLACE_CTRL (R283). -/
def hubPlaceCtrl : Nat := 0x20000020000
/-- Address of HUB_MIG_STARTED (R284). -/
def hubMigStarted : Nat := 0x20000020008
/-- Address of HUB_MIG_DONE (R284). -/
def hubMigDone : Nat := 0x20000020010
/-- Address of HUB_MIG_ABORTED (R284). -/
def hubMigAborted : Nat := 0x20000020018
/-- Address of HUB_HMAP_ERR (R285). -/
def hubHmapErr : Nat := 0x20000020020
/-- Address of HUB_PART_FRAMES (R286). -/
def hubPartFrames (i : Nat) : Nat := 0x20000020040 + 0x8 * i
/-- Address of HUB_PORT_PLAN (R339). -/
def hubPortPlan : Nat := 0x20000030000
/-- Address of HUB_PORT_PLAN_NEXT (R339). -/
def hubPortPlanNext : Nat := 0x20000030008
/-- Address of HUB_FM_CTRL (R461). -/
def hubFmCtrl : Nat := 0x20000031000
/-- Address of HUB_FM_STATUS (R461). -/
def hubFmStatus : Nat := 0x20000031004
/-- Address of HUB_FM_MACHINE (R461). -/
def hubFmMachine : Nat := 0x20000031008
/-- Address of HUB_FM_TERM (R461). -/
def hubFmTerm : Nat := 0x20000031010
/-- Address of HUB_FM_PEERS (R461). -/
def hubFmPeers : Nat := 0x20000031018
/-- Address of HUB_FM_HOLD_CTRL (R461). -/
def hubFmHoldCtrl : Nat := 0x20000031020
/-- Address of HUB_FM_HOLD_OPEN (R461). -/
def hubFmHoldOpen : Nat := 0x20000031028
/-- Address of HUB_FM_HOLD_MAP (R461). -/
def hubFmHoldMap (i : Nat) : Nat := 0x20000034000 + 0x8 * i
/-- Address of HUB_FW_UPD (R569). -/
def hubFwUpd : Nat := 0x20000038000
/-- Address of HUB_FW_COMP (R569). -/
def hubFwComp (i : Nat) : Nat := 0x20000038008 + 0x8 * i
/-- Address of HUB_CCC_MCAST (R569). -/
def hubCccMcast : Nat := 0x20000038040
/-- Address of HUB_DESC_W0 (R252). -/
def hubDescW0 (i : Nat) : Nat := 0x20000400000 + 0x40 * i
/-- Address of HUB_DESC_W1 (R252). -/
def hubDescW1 (i : Nat) : Nat := 0x20000400010 + 0x40 * i
/-- Address of HUB_DESC_W2 (R252). -/
def hubDescW2 (i : Nat) : Nat := 0x20000400020 + 0x40 * i
/-- Address of HUB_DESC_W3 (R252). -/
def hubDescW3 (i : Nat) : Nat := 0x20000400030 + 0x40 * i
/-- Address of HUB_SLAB (R254). -/
def hubSlab (i : Nat) : Nat := 0x20000800000 + 0x10 * i
/-- Address of SEC_NONCE (R606). -/
def secNonce (i : Nat) : Nat := 0x20001000040 + 0x8 * i
/-- Address of SEC_PART_MAP (R575). -/
def secPartMap : Nat := 0x20001000100
/-- Address of SEC_PART_STATE (R577). -/
def secPartState (i : Nat) : Nat := 0x20001000110 + 0x8 * i
/-- Address of SEC_KSLOT (R605). -/
def secKslot (i : Nat) : Nat := 0x20001000200 + 0x10 * i
/-- Address of SEC_MEAS (R606). -/
def secMeas (i j : Nat) : Nat := 0x20001001000 + 0x40 * i + 0x8 * j
/-- Address of SEC_FUSE_MAP (R583). -/
def secFuseMap (i : Nat) : Nat := 0x20001002000 + 0x8 * i
/-- Address of PMC_STATE (R636). -/
def pmcState : Nat := 0x20001100000
/-- Address of PMC_STATE_REQ (R636). -/
def pmcStateReq : Nat := 0x20001100004
/-- Address of PMC_DOM_STATE (R637). -/
def pmcDomState : Nat := 0x20001100008
/-- Address of PMC_LIMIT (R637). -/
def pmcLimit : Nat := 0x20001100010
/-- Address of PMC_RESET (R637). -/
def pmcReset : Nat := 0x20001100018
/-- Address of PMC_BOOT_CTRL (R637). -/
def pmcBootCtrl : Nat := 0x2000110001c
/-- Address of PMC_BOOT (R638). -/
def pmcBoot : Nat := 0x20001100020
/-- Address of PMC_EMERG (R639). -/
def pmcEmerg : Nat := 0x20001100030
/-- Address of PMC_ALERT (R639). -/
def pmcAlert : Nat := 0x20001100034
/-- Address of PMC_PWR_IN (R639). -/
def pmcPwrIn : Nat := 0x20001100040
/-- Address of PMC_PART_W0 (R640). -/
def pmcPartW0 (i : Nat) : Nat := 0x20001100100 + 0x10 * i
/-- Address of PMC_PART_W1 (R640). -/
def pmcPartW1 (i : Nat) : Nat := 0x20001100108 + 0x10 * i
/-- Address of PMC_THERM (R641). -/
def pmcTherm (i : Nat) : Nat := 0x20001100200 + 0x4 * i
/-- Address of BBX_DATA (R536). -/
def bbxData (i j : Nat) : Nat := 0x20001200000 + 0x100 * i + 0x4 * j
/-- Address of BBX_HDR (R536). -/
def bbxHdr (i : Nat) : Nat := 0x20001200040 + 0x100 * i
/-- Address of BBX_SEND (R536). -/
def bbxSend (i : Nat) : Nat := 0x20001200050 + 0x100 * i
/-- Address of BBX_STATUS (R536). -/
def bbxStatus (i : Nat) : Nat := 0x20001200054 + 0x100 * i
/-- Address of BBX_LOCK (R536). -/
def bbxLock (i : Nat) : Nat := 0x20001200058 + 0x100 * i
/-- Address of BBX_CFG (R536). -/
def bbxCfg (i : Nat) : Nat := 0x2000120005c + 0x100 * i
/-- Address of BBX_INC (R537). -/
def bbxInc (i : Nat) : Nat := 0x20001204000 + 0x4 * i
/-- Address of BBX_WAIT (R537). -/
def bbxWait (i : Nat) : Nat := 0x20001205000 + 0x8 * i
/-- Address of BBX_PEND (R537). -/
def bbxPend (i : Nat) : Nat := 0x20001206000 + 0x8 * i
/-- Address of BBX_SIG_ACC_LOCAL (R537). -/
def bbxSigAccLocal (i : Nat) : Nat := 0x20001207000 + 0x10 * i
/-- Address of BBX_SIG_ACC_REMOTE (R537). -/
def bbxSigAccRemote (i : Nat) : Nat := 0x20001207008 + 0x10 * i
/-- Address of REC_STATUS (R669). -/
def recStatus : Nat := 0x20001300000
/-- Address of REC_OLDEST (R669). -/
def recOldest : Nat := 0x20001300008
/-- Address of REC_OPTIME (R669). -/
def recOptime : Nat := 0x20001300010
/-- Address of REC_CURSOR (R669). -/
def recCursor (i : Nat) : Nat := 0x20001301000 + 0x200 * i
/-- Address of REC_WIN (R669). -/
def recWin (i j : Nat) : Nat := 0x20001301100 + 0x200 * i + 0x8 * j
/-- Address of RTR_RT_EPOCH (R421). -/
def rtrRtEpoch : Nat := 0x20002000000
/-- Address of RTR_NODE (R421). -/
def rtrNode : Nat := 0x20002000008
/-- Address of RTR_RT_ERR (R421). -/
def rtrRtErr : Nat := 0x20002000018
/-- Address of RTR_E2E (R422). -/
def rtrE2e : Nat := 0x20002000010
/-- Address of RTR_CC (R422). -/
def rtrCc : Nat := 0x20002000014
/-- Address of RTR_TELEM_CTRL (R425). -/
def rtrTelemCtrl : Nat := 0x20002000020
/-- Address of RTR_TELEM_GEN (R425). -/
def rtrTelemGen : Nat := 0x20002000028
/-- Address of RTR_DOMAIN (R423). -/
def rtrDomain (i : Nat) : Nat := 0x20002000040 + 0x8 * i
/-- Address of RTR_MCAST_W0 (R423). -/
def rtrMcastW0 (i : Nat) : Nat := 0x20002000200 + 0x10 * i
/-- Address of RTR_MCAST_W1 (R423). -/
def rtrMcastW1 (i : Nat) : Nat := 0x20002000208 + 0x10 * i
/-- Address of RTR_OUT_BYTES (R425). -/
def rtrOutBytes (i : Nat) : Nat := 0x20002001000 + 0x8 * i
/-- Address of RTR_OUT_MARKS (R425). -/
def rtrOutMarks (i : Nat) : Nat := 0x20002001080 + 0x8 * i
/-- Address of RTR_OUT_QPEAK (R425). -/
def rtrOutQpeak (i : Nat) : Nat := 0x20002001100 + 0x8 * i
/-- Address of RTR_DROP (R425). -/
def rtrDrop (i : Nat) : Nat := 0x20002001180 + 0x8 * i
/-- Address of RTR_NACK_TX (R425). -/
def rtrNackTx (i : Nat) : Nat := 0x200020011c0 + 0x8 * i
/-- Address of RTR_RETX (R425). -/
def rtrRetx : Nat := 0x20002001200
/-- Address of RTR_LOSS_TX (R425). -/
def rtrLossTx : Nat := 0x20002001208
/-- Address of RTR_FC_HIT (R425). -/
def rtrFcHit : Nat := 0x20002001210
/-- Address of RTR_FC_MISS (R425). -/
def rtrFcMiss : Nat := 0x20002001218
/-- Address of RTR_FC_USED (R425). -/
def rtrFcUsed : Nat := 0x20002001220
/-- Address of RTR_RC_USED (R425). -/
def rtrRcUsed : Nat := 0x20002001228
/-- Address of RTR_TXN_USED (R425). -/
def rtrTxnUsed : Nat := 0x20002001230
/-- Address of RTR_SNAPSHOT (R425). -/
def rtrSnapshot (i : Nat) : Nat := 0x20002002000 + 0x8 * i
/-- Address of RTR_ROUTE (R376). -/
def rtrRoute (i j : Nat) : Nat := 0x20002100000 + 0x200000 * i + 0x10 * j
/-- Address of RTR_CIRCUIT (R424). -/
def rtrCircuit (i j : Nat) : Nat := 0x20002800000 + 0x8000 * i + 0x8 * j
/-- Address of RTR_SHARE (R424). -/
def rtrShare (i j : Nat) : Nat := 0x20002900000 + 0x200 * i + 0x8 * j
/-- Address of RTR_HN_W0 (R424). -/
def rtrHnW0 (i : Nat) : Nat := 0x20002a00000 + 0x20 * i
/-- Address of RTR_HN_ADDR (R424). -/
def rtrHnAddr (i j : Nat) : Nat := 0x20002a00008 + 0x20 * i + 0x8 * j
/-- Address of PRT_CTRL (R368). -/
def prtCtrl (i : Nat) : Nat := 0x20003000000 + 0x10000 * i
/-- Address of PRT_STATUS (R369). -/
def prtStatus (i : Nat) : Nat := 0x20003000004 + 0x10000 * i
/-- Address of PRT_RETRY (R370). -/
def prtRetry (i : Nat) : Nat := 0x20003000008 + 0x10000 * i
/-- Address of PRT_QUIET (R370). -/
def prtQuiet (i : Nat) : Nat := 0x2000300000c + 0x10000 * i
/-- Address of PRT_ETYPE (R370). -/
def prtEtype (i : Nat) : Nat := 0x20003000010 + 0x10000 * i
/-- Address of PRT_MAC (R371). -/
def prtMac (i : Nat) : Nat := 0x20003000018 + 0x10000 * i
/-- Address of PRT_PEER (R371). -/
def prtPeer (i : Nat) : Nat := 0x20003000020 + 0x10000 * i
/-- Address of PRT_PEER_MAC (R371). -/
def prtPeerMac (i : Nat) : Nat := 0x20003000028 + 0x10000 * i
/-- Address of PRT_TX_FRAMES (R372). -/
def prtTxFrames (i : Nat) : Nat := 0x20003000100 + 0x10000 * i
/-- Address of PRT_RX_FRAMES (R372). -/
def prtRxFrames (i : Nat) : Nat := 0x20003000108 + 0x10000 * i
/-- Address of PRT_RX_DROP (R372). -/
def prtRxDrop (i : Nat) : Nat := 0x20003000110 + 0x10000 * i
/-- Address of PRT_REPLAYS (R372). -/
def prtReplays (i : Nat) : Nat := 0x20003000118 + 0x10000 * i
/-- Address of PRT_NAKS (R372). -/
def prtNaks (i : Nat) : Nat := 0x20003000120 + 0x10000 * i
/-- Address of PRT_HOLD_DISCARD (R372). -/
def prtHoldDiscard (i : Nat) : Nat := 0x20003000128 + 0x10000 * i
/-- Address of PRT_FEC_UCW (R372). -/
def prtFecUcw (i : Nat) : Nat := 0x20003000130 + 0x10000 * i
/-- Address of PRT_LANE_CBITS (R372). -/
def prtLaneCbits (i j : Nat) : Nat := 0x20003000140 + 0x10000 * i + 0x8 * j
/-- Address of PRT_HN_CTRL (R373). -/
def prtHnCtrl (i : Nat) : Nat := 0x20003000200 + 0x10000 * i
/-- Address of PRT_HN_VLAN (R373). -/
def prtHnVlan (i : Nat) : Nat := 0x20003000204 + 0x10000 * i
/-- Address of PRT_HN_MTU (R373). -/
def prtHnMtu (i : Nat) : Nat := 0x20003000208 + 0x10000 * i
/-- Address of PRT_HN_GW (R373). -/
def prtHnGw (i : Nat) : Nat := 0x20003000210 + 0x10000 * i
/-- Address of PRT_HN_ADDR (R373). -/
def prtHnAddr (i j : Nat) : Nat := 0x20003000220 + 0x10000 * i + 0x8 * j
/-- Address of HIF_CAP_PROD (R551). -/
def hifCapProd (i : Nat) : Nat := 0x20004000000 + 0x100000 * i
/-- Address of HIF_CAP_CONS (R551). -/
def hifCapCons (i : Nat) : Nat := 0x20004000004 + 0x100000 * i
/-- Address of HIF_CAP_CTRL (R551). -/
def hifCapCtrl (i : Nat) : Nat := 0x20004000008 + 0x100000 * i
/-- Address of HIF_CAP_PEND (R551). -/
def hifCapPend (i j : Nat) : Nat := 0x20004000010 + 0x100000 * i + 0x4 * j
/-- Address of HIF_FN_LAST (R551). -/
def hifFnLast (i j : Nat) : Nat := 0x20004000040 + 0x100000 * i + 0x4 * j
/-- Address of HIF_FN_DONE (R551). -/
def hifFnDone (i j : Nat) : Nat := 0x20004000060 + 0x100000 * i + 0x4 * j
/-- Address of HIF_HB_COUNT (R551). -/
def hifHbCount (i j : Nat) : Nat := 0x20004000080 + 0x100000 * i + 0x4 * j
/-- Address of HIF_DB_SQ (R551). -/
def hifDbSq (i j k : Nat) : Nat := 0x20004000100 + 0x100000 * i + 0x80 * j + 0x8 * k
/-- Address of HIF_DB_CQ (R551). -/
def hifDbCq (i j k : Nat) : Nat := 0x20004000104 + 0x100000 * i + 0x80 * j + 0x8 * k
/-- Address of HIF_CAP_ENTRY (R552). -/
def hifCapEntry (i j k : Nat) : Nat := 0x20004010000 + 0x100000 * i + 0x10 * j + 0x8 * k
/-- Address of HIF_EMU_FWVER (R497). -/
def hifEmuFwver (i j : Nat) : Nat := 0x20004020040 + 0x100000 * i + 0x10000 * j
/-- Address of HIF_EMU_DRVVER (R497). -/
def hifEmuDrvver (i j : Nat) : Nat := 0x20004020044 + 0x100000 * i + 0x10000 * j
/-- Address of HIF_EMU_DRVFEAT (R497). -/
def hifEmuDrvfeat (i j : Nat) : Nat := 0x20004020048 + 0x100000 * i + 0x10000 * j
/-- Address of HIF_EMU_ACCFEAT (R497). -/
def hifEmuAccfeat (i j : Nat) : Nat := 0x20004020050 + 0x100000 * i + 0x10000 * j
/-- Address of HIF_EMU_NEGSTAT (R497). -/
def hifEmuNegstat (i j : Nat) : Nat := 0x20004020058 + 0x100000 * i + 0x10000 * j
/-- Address of HIF_EMU_STATUS (R498). -/
def hifEmuStatus (i j : Nat) : Nat := 0x20004020080 + 0x100000 * i + 0x10000 * j
/-- Address of HIF_EMU_CAPSEQ (R498). -/
def hifEmuCapseq (i j : Nat) : Nat := 0x20004020084 + 0x100000 * i + 0x10000 * j
/-- Address of HIF_EMU_HB (R498). -/
def hifEmuHb (i j : Nat) : Nat := 0x20004020100 + 0x100000 * i + 0x10000 * j
/-- Address of HIF_EMU_SQ_BASE (R499). -/
def hifEmuSqBase (i j k : Nat) : Nat := 0x20004020200 + 0x100000 * i + 0x10000 * j + 0x40 * k
/-- Address of HIF_EMU_CQ_BASE (R499). -/
def hifEmuCqBase (i j k : Nat) : Nat := 0x20004020208 + 0x100000 * i + 0x10000 * j + 0x40 * k
/-- Address of HIF_EMU_QCTRL (R499). -/
def hifEmuQctrl (i j k : Nat) : Nat := 0x20004020210 + 0x100000 * i + 0x10000 * j + 0x40 * k
/-- Address of HIF_EMU_QSTAT (R499). -/
def hifEmuQstat (i j k : Nat) : Nat := 0x20004020214 + 0x100000 * i + 0x10000 * j + 0x40 * k
/-- Address of HIF_EMU_WIN (R500). -/
def hifEmuWin (i j k : Nat) : Nat := 0x20004020800 + 0x100000 * i + 0x10000 * j + 0x10 * k
/-- Address of HIF_EMU_WIN_STAT (R500). -/
def hifEmuWinStat (i j k : Nat) : Nat := 0x20004020808 + 0x100000 * i + 0x10000 * j + 0x10 * k
/-- Address of HIF_EMU_VCLU_SEL (R496). -/
def hifEmuVcluSel (i j : Nat) : Nat := 0x20004024000 + 0x100000 * i + 0x10000 * j
/-- Address of HIF_EMU_STK_SEL (R496). -/
def hifEmuStkSel (i j : Nat) : Nat := 0x20004025ff8 + 0x100000 * i + 0x10000 * j
/-- Address of HIF_EMU_REC_CURSOR (R665). -/
def hifEmuRecCursor (i j : Nat) : Nat := 0x20004028000 + 0x100000 * i + 0x10000 * j
/-- Address of HIF_EMU_ORPHAN (R518). -/
def hifEmuOrphan (i j k : Nat) : Nat := 0x2000402c000 + 0x100000 * i + 0x10000 * j + 0x8 * k
/-- Address of SEQ_CTRL (R153). -/
def seqCtrl (i : Nat) : Nat := 0x20005000000 + 0x1000000 * i
/-- Address of SEQ_STATUS (R154). -/
def seqStatus (i : Nat) : Nat := 0x20005000004 + 0x1000000 * i
/-- Address of SEQ_FAULT (R155). -/
def seqFault (i : Nat) : Nat := 0x20005000008 + 0x1000000 * i
/-- Address of SEQ_STEP (R156). -/
def seqStep (i : Nat) : Nat := 0x20005000010 + 0x1000000 * i
/-- Address of SEQ_PC (R156). -/
def seqPc (i : Nat) : Nat := 0x20005000018 + 0x1000000 * i
/-- Address of SEQ_COMMITS (R156). -/
def seqCommits (i : Nat) : Nat := 0x20005000020 + 0x1000000 * i
/-- Address of SEQ_FAULT_STEP (R156). -/
def seqFaultStep (i : Nat) : Nat := 0x20005000028 + 0x1000000 * i
/-- Address of SEQ_FAULT_PC (R156). -/
def seqFaultPc (i : Nat) : Nat := 0x20005000030 + 0x1000000 * i
/-- Address of SEQ_VBIND (R140). -/
def seqVbind (i : Nat) : Nat := 0x20005000038 + 0x1000000 * i
/-- Address of SEQ_STALL (R152). -/
def seqStall (i j : Nat) : Nat := 0x20005000100 + 0x1000000 * i + 0x8 * j
/-- Address of CLX_CTRL (R454). -/
def clxCtrl (i : Nat) : Nat := 0x20005001000 + 0x1000000 * i
/-- Address of CLX_STATUS (R455). -/
def clxStatus (i : Nat) : Nat := 0x20005001004 + 0x1000000 * i
/-- Address of CLX_INST (R456). -/
def clxInst (i : Nat) : Nat := 0x20005001008 + 0x1000000 * i
/-- Address of CLX_LAST (R456). -/
def clxLast (i : Nat) : Nat := 0x20005001010 + 0x1000000 * i
/-- Address of CLX_TX_BYTES (R457). -/
def clxTxBytes (i : Nat) : Nat := 0x20005001018 + 0x1000000 * i
/-- Address of CLX_RX_BYTES (R457). -/
def clxRxBytes (i : Nat) : Nat := 0x20005001020 + 0x1000000 * i
/-- Address of CLX_DUP_TILES (R457). -/
def clxDupTiles (i : Nat) : Nat := 0x20005001028 + 0x1000000 * i
/-- Address of CLX_DEGRADED (R457). -/
def clxDegraded (i : Nat) : Nat := 0x20005001030 + 0x1000000 * i
/-- Address of CLX_FAILED (R457). -/
def clxFailed (i : Nat) : Nat := 0x20005001038 + 0x1000000 * i
/-- Address of CLX_EXC (R457). -/
def clxExc (i j : Nat) : Nat := 0x20005001040 + 0x1000000 * i + 0x8 * j
/-- Address of CLX_GROUP_W0 (R430). -/
def clxGroupW0 (i j : Nat) : Nat := 0x20005002000 + 0x1000000 * i + 0x200 * j
/-- Address of CLX_GROUP_W1 (R430). -/
def clxGroupW1 (i j : Nat) : Nat := 0x20005002008 + 0x1000000 * i + 0x200 * j
/-- Address of CLX_GROUP_PEER (R430). -/
def clxGroupPeer (i j k : Nat) : Nat := 0x20005002040 + 0x1000000 * i + 0x200 * j + 0x4 * k
/-- Address of CLX_PROGRAM (R435). -/
def clxProgram (i j k : Nat) : Nat := 0x20005010000 + 0x1000000 * i + 0x40 * j + 0x8 * k
/-- Address of CLU_CNT_CTRL (R234). -/
def cluCntCtrl (i : Nat) : Nat := 0x20010000000 + 0x100000 * i
/-- Address of CLU_ECC_CE (R235). -/
def cluEccCe (i : Nat) : Nat := 0x20010000008 + 0x100000 * i
/-- Address of CLU_ECC_UE (R235). -/
def cluEccUe (i : Nat) : Nat := 0x20010000010 + 0x100000 * i
/-- Address of CLU_ECC_LAST (R236). -/
def cluEccLast (i : Nat) : Nat := 0x20010000018 + 0x100000 * i
/-- Address of CLU_EXC (R235). -/
def cluExc (i j : Nat) : Nat := 0x20010000100 + 0x100000 * i + 0x8 * j
/-- Address of CLU_CELL_EXC (R235). -/
def cluCellExc (i j k : Nat) : Nat := 0x20010001000 + 0x100000 * i + 0x80 * j + 0x8 * k
/-- Address of CLU_CCC_STATUS (R555). -/
def cluCccStatus (i : Nat) : Nat := 0x20010002000 + 0x100000 * i
/-- Address of CLU_CCC_CMD (R555). -/
def cluCccCmd (i : Nat) : Nat := 0x20010002004 + 0x100000 * i
/-- Address of CLU_CCC_ARG (R555). -/
def cluCccArg (i : Nat) : Nat := 0x20010002008 + 0x100000 * i
/-- Address of CLU_CCC_CODE (R555). -/
def cluCccCode (i j : Nat) : Nat := 0x20010080000 + 0x100000 * i + 0x8 * j
/-- Address of STK_STATUS (R288). -/
def stkStatus (i : Nat) : Nat := 0x20020000000 + 0x1000000 * i
/-- Address of STK_REQ (R289). -/
def stkReq (i : Nat) : Nat := 0x20020000008 + 0x1000000 * i
/-- Address of STK_HEAT_CTRL (R290). -/
def stkHeatCtrl (i : Nat) : Nat := 0x20020000010 + 0x1000000 * i
/-- Address of STK_HEAT_GEN (R290). -/
def stkHeatGen (i : Nat) : Nat := 0x20020000018 + 0x1000000 * i
/-- Address of STK_PC_STATE (R291). -/
def stkPcState (i j : Nat) : Nat := 0x20020000100 + 0x1000000 * i + 0x20 * j
/-- Address of STK_PC_CE (R292). -/
def stkPcCe (i j : Nat) : Nat := 0x20020000108 + 0x1000000 * i + 0x20 * j
/-- Address of STK_PC_UE (R292). -/
def stkPcUe (i j : Nat) : Nat := 0x20020000110 + 0x1000000 * i + 0x20 * j
/-- Address of STK_PC_UE_LAST (R293). -/
def stkPcUeLast (i j : Nat) : Nat := 0x20020000118 + 0x1000000 * i + 0x20 * j
/-- Address of STK_HEAT (R294). -/
def stkHeat (i j : Nat) : Nat := 0x20020100000 + 0x1000000 * i + 0x8 * j
/-- Address of STK_BE_STATUS (R326). -/
def stkBeStatus (i : Nat) : Nat := 0x20020800000 + 0x1000000 * i
/-- Address of STK_BE_CUR (R327). -/
def stkBeCur (i : Nat) : Nat := 0x20020800008 + 0x1000000 * i
/-- Address of STK_BE_ERR (R328). -/
def stkBeErr (i : Nat) : Nat := 0x20020800010 + 0x1000000 * i
/-- Address of STK_BE_ITEMS (R329). -/
def stkBeItems (i : Nat) : Nat := 0x20020800018 + 0x1000000 * i
/-- Address of STK_BE_REMOTE (R329). -/
def stkBeRemote (i : Nat) : Nat := 0x20020800020 + 0x1000000 * i
/-- Address of STK_BE_EXC (R329). -/
def stkBeExc (i j : Nat) : Nat := 0x20020800100 + 0x1000000 * i + 0x8 * j
/-- Address of STK_BE_CODE (R325). -/
def stkBeCode (i j : Nat) : Nat := 0x20020900000 + 0x1000000 * i + 0x8 * j
/-- Address of STK_BE_CALL (R325). -/
def stkBeCall (i j k : Nat) : Nat := 0x20020a00000 + 0x1000000 * i + 0x80 * j + 0x8 * k

end Sys2Proof.Machine.Reg
end

