-- ==== Sys2Proof/Machine/ResetValues.lean ====
section
/-!
DEFINITION. The registers whose value right after reset is not zero, in ascending address, and the assignment of the breadboxes that
BBX_CFG reports (R534). A register that the manual resets "from flash" takes the default of R532 and R601.
-/
namespace Sys2Proof.Machine

/-! ### The assignment of the breadboxes (R534) -/

/-- Receiver, sole sender (0: none) and kind (0 dedicated, 1 shared, 2 signal) of a breadbox, by agent number. -/
def boxRow (b : Nat) : Nat × Nat × Nat :=
  if b < 16 then (if b % 5 = 0 then (b / 4 + 1, 0, 1) else (b / 4 + 1, b % 4 + 1, 0))
  else if b < 20 then (3, 0, 2)
  else if b < 32 then (3, 0x50 + (b - 20), 0)
  else if b < 48 then (3, 0, 1)
  else if b < 52 then (if b % 2 = 0 then (1, 0x60 + 8 * ((b - 48) / 2), 0) else (0x60 + 8 * ((b - 48) / 2), 1, 0))
  else (0x50 + (b - 52), 0, 1)

/-- The value of BBX_CFG (R536). -/
def boxCfg (b : Nat) : W64 :=
  let r := boxRow b
  BitVec.ofNat 64 (r.1 + r.2.1 * 2 ^ 8 + r.2.2 * 2 ^ 16)

/-! ### Reset values -/

/-- Reset values of the hub block (R23, R57, R61, R281, R366, R461), the security core, the power core and the breadboxes. -/
def resetHub : Tbl W64 :=
  [(Reg.hubId, 0x4810)] ++ (List.range 64).map (fun c => (Reg.hubFpClu c, 0x3F0300000000))
    ++ (List.range 16).map (fun p => (Reg.hubFpPort p, 0xF300))
    ++ [(Reg.hubPlaceCtrl, 0x1000001), (Reg.hubPortPlan, 0x7766554433221100), (Reg.hubPortPlanNext, 0x7766554433221100),
        (Reg.hubFmPeers, 0xFFFFF000FFFFF)]

@[inherit_doc resetHub]
def resetCrust : Tbl W64 :=
  [(Reg.secPartMap, 0x10F00), (Reg.pmcState, 0x12), (Reg.pmcStateReq, 0x18), (Reg.pmcDomState, 0x10000), (Reg.pmcLimit, 0x5DC),
   (Reg.pmcBoot, 1)] ++ (List.range 64).map (fun b => (Reg.bbxCfg b, boxCfg b))
    ++ (List.range 6).map (fun w => (Reg.recCursor w, 0xFFFFFFFF))

/-- Reset values of the router and of the link ports (R369 to R372, R422 to R424); PRT_MAC is that of R356 with serial number 0. -/
def resetFabric : Tbl W64 :=
  [(Reg.rtrNode, 0xFFFFF), (Reg.rtrE2e, 0x8640010), (Reg.rtrCc, 0x110408), (Reg.rtrTelemCtrl, 0x3E8)]
    ++ (List.range 64).map (fun m => (Reg.rtrMcastW0 m, 0xFFFFF000))
    ++ (List.range 16).flatMap (fun p =>
      [(Reg.prtCtrl p, 0x4), (Reg.prtStatus p, 0x18), (Reg.prtRetry p, 0x640FA0), (Reg.prtQuiet p, 0x640000),
       (Reg.prtEtype p, 0x88B5), (Reg.prtMac p, 0x6), (Reg.prtPeer p, 0xF0FFFFF), (Reg.prtHnCtrl p, 0x630000), (Reg.prtHnMtu p, 0x2328)])

/-- Reset values of the host ports, the sequencers with their collective engines, and the stacks (R154, R290, R454, R498, R551). -/
def resetEngines : Tbl W64 :=
  (List.range 2).flatMap (fun h => (Reg.hifCapCtrl h, 1) :: (List.range 5).flatMap (fun f =>
      [(Reg.hifEmuHb h f, 0x3E8), (Reg.hifEmuRecCursor h f, 0xFFFFFFFF)]))
    ++ (List.range 4).flatMap (fun q => [(Reg.seqStatus q, BitVec.ofNat 64 (q * 2 ^ 12 + 2 ^ (16 + q))), (Reg.clxCtrl q, 0x7D0)])
    ++ (List.range 12).map (fun n => (Reg.stkHeatCtrl n, 0x3E8))

/-- The registers whose reset value is not zero. -/
def resetCsr : Tbl W64 := (resetHub ++ resetCrust ++ (resetFabric ++ resetEngines)).filter (fun e => e.2 ≠ 0)

/-- The reset value of the register at a DPA. -/
def resetOf (a : Nat) : W64 := resetCsr.get a

end Sys2Proof.Machine
end

