-- ==== Sys2Proof/Machine/Num.lean ====
section
/-!
DEFINITION. Number formats, rounding, conversion and the exact accumulator (02_number_formats.md, R66 to R95). Every value
is exact: a finite value is a fraction times a power of two, and is rounded once.
-/
namespace Sys2Proof.Machine

/-- An exact value: NaN, an infinity, or (-1)^neg * n / d * 2^e with d at least 1. A zero keeps its sign. -/
inductive Val where
  | nan
  | inf (neg : Bool)
  | fin (neg : Bool) (n d : Nat) (e : Int)
deriving DecidableEq, Repr, Inhabited

/-- What a rounding or an operation did that R89 counts. -/
structure Exc where
  nan : Bool := false
  inf : Bool := false
  overflow : Bool := false
  saturated : Bool := false
  underflow : Bool := false
deriving DecidableEq, Repr, Inhabited

/-! ### Element formats (R66 to R71) -/

/-- The shape of a floating-point element format (R68): field widths, bias, whether it has infinities, whether an
all-ones exponent with a nonzero (or, without infinities, all-ones) mantissa is NaN. -/
structure FltFmt where
  ebits : Nat
  mbits : Nat
  bias : Int
  hasInf : Bool
  hasNan : Bool
deriving DecidableEq, Repr

/-- The floating-point shape of a format code's elements (R66, R68). -/
def fltOf : Nat → Option FltFmt
  | 0x0 => some ⟨8, 23, 127, true, true⟩
  | 0x1 => some ⟨8, 7, 127, true, true⟩
  | 0x2 => some ⟨5, 10, 15, true, true⟩
  | 0x3 => some ⟨4, 3, 7, false, true⟩
  | 0x4 => some ⟨5, 2, 15, true, true⟩
  | 0x8 => some ⟨4, 3, 7, false, true⟩
  | 0x9 => some ⟨5, 2, 15, true, true⟩
  | 0xA => some ⟨3, 2, 3, false, false⟩
  | 0xB => some ⟨2, 3, 1, false, false⟩
  | 0xC => some ⟨2, 1, 1, false, false⟩
  | 0xE => some ⟨2, 1, 1, false, false⟩
  | _ => none

/-- Element bits of a format code (R66); 0 for the reserved codes. -/
def elemBits : Nat → Nat
  | 0x0 => 32 | 0x1 => 16 | 0x2 => 16 | 0x3 => 8 | 0x4 => 8 | 0x5 => 8 | 0x6 => 32
  | 0x8 => 8 | 0x9 => 8 | 0xA => 6 | 0xB => 6 | 0xC => 4 | 0xD => 8 | 0xE => 4
  | _ => 0

/-- Whether a format code is reserved (R66). -/
def fmtReserved (f : Nat) : Bool := elemBits f == 0

/-- Whether a format code names a block-scaled format (R66: bit 3 of the code). -/
def fmtBlocked (f : Nat) : Bool := decide (8 ≤ f) && !fmtReserved f

/-- The largest finite magnitude of a format as units of its top spacing, and the exponent of that spacing (R68). -/
def FltFmt.top (f : FltFmt) : Nat × Int :=
  let emax : Int := (2 ^ f.ebits : Nat) - 1 - f.bias
  if f.hasInf then (2 ^ (f.mbits + 1) - 1, emax - 1 - f.mbits)
  else if f.hasNan then (2 ^ (f.mbits + 1) - 2, emax - f.mbits)
  else (2 ^ (f.mbits + 1) - 1, emax - f.mbits)

/-- The exponent of the smallest subnormal (R68). -/
def FltFmt.qmin (f : FltFmt) : Int := 1 - f.bias - f.mbits

/-- The value of a floating-point element's bits (R68, R69). -/
def FltFmt.decode (f : FltFmt) (x : Nat) : Val :=
  let m := x % 2 ^ f.mbits
  let e := x / 2 ^ f.mbits % 2 ^ f.ebits
  let neg := natBit x (f.ebits + f.mbits)
  if f.hasInf ∧ e = 2 ^ f.ebits - 1 then (if m = 0 then .inf neg else .nan)
  else if f.hasNan ∧ f.hasInf = false ∧ e = 2 ^ f.ebits - 1 ∧ m = 2 ^ f.mbits - 1 then .nan
  else if e = 0 then .fin neg m 1 f.qmin
  else .fin neg (2 ^ f.mbits + m) 1 (f.qmin + (e - 1 : Nat))

/-- A two's-complement number of `w` bits. -/
def toSigned (w x : Nat) : Int := if natBit x (w - 1) then (x % 2 ^ w : Nat) - (2 ^ w : Nat) else (x % 2 ^ w : Nat)

/-- An integer as `w` bits of two's complement. -/
def ofSigned (w : Nat) (x : Int) : Nat := (x % (2 ^ w : Nat)).toNat

/-- The exact value of an integer times 2^e. -/
def intVal (x e : Int) : Val := .fin (decide (x < 0)) x.natAbs 1 e

/-- The value of an element's bits in a format, before any block scale (R69, R71). -/
def decodeElem (fmt x : Nat) : Val :=
  match fltOf fmt with
  | some f => f.decode x
  | none =>
    if fmt = 0x5 then intVal (toSigned 8 x) 0
    else if fmt = 0x6 then intVal (toSigned 32 x) 0
    else if fmt = 0xD then intVal (toSigned 8 x) (-6)
    else .nan

/-- A value times n * 2^e (a block scale, a sub-scale); NaN and infinities keep their special value (R75). -/
def Val.scale (v : Val) (n : Nat) (e : Int) : Val :=
  match v with
  | .fin neg m d q => .fin neg (m * n) d (q + e)
  | v => v

/-- The sub-scale of a 4-bit code in units of 2^-8 (R74: (1 + m/2) * 2^-e). -/
def subScale (code : Nat) : Nat := (2 + code % 2) * 2 ^ (7 - code / 2 % 8)

/-- The value of an element of a block, with its scale-plane entry: byte 0 the E8M0 scale (0xFF: NaN), byte 1 the KF4
sub-scales (R73, R74, R75, R78). A format without blocks has no scale. -/
def decodeScaled (fmt x entry i : Nat) : Val :=
  let v := decodeElem fmt x
  if fmtBlocked fmt then
    let sc := entry % 256
    if sc = 255 then .nan
    else
      let v := v.scale 1 ((sc : Int) - 127)
      if fmt = 0xE then v.scale (subScale (if i % 32 < 16 then entry / 256 % 16 else entry / 4096 % 16)) (-8) else v
  else v

/-! ### Rounding (R79, R80) -/

/-- Rounding modes (R79). -/
inductive RMode where
  | rne | rtz | rdn | rup | sr
deriving DecidableEq, Repr, Inhabited

/-- The mode of a 3-bit code; `none` for the reserved codes. -/
def rmodeOf : Nat → Option RMode
  | 0 => some .rne | 1 => some .rtz | 2 => some .rdn | 3 => some .rup | 4 => some .sr | _ => none

/-- The magnitude N / D rounded to an integer in a mode, with a 16-bit draw for stochastic rounding (R80). -/
def roundMag (m : RMode) (neg : Bool) (u N D : Nat) : Nat :=
  let k := N / D
  let r := N % D
  match m with
  | .rtz => k
  | .rdn => if neg ∧ r ≠ 0 then k + 1 else k
  | .rup => if ¬ neg ∧ r ≠ 0 then k + 1 else k
  | .rne => if D < 2 * r ∨ (2 * r = D ∧ k % 2 = 1) then k + 1 else k
  | .sr => if 2 ^ 16 ≤ r * 2 ^ 16 / D + u then k + 1 else k

/-- The fraction n / d * 2^e as N / D in units of 2^q. -/
def inUnits (n d : Nat) (e q : Int) : Nat × Nat :=
  if q ≤ e then (n * 2 ^ (e - q).toNat, d) else (n, d * 2 ^ (q - e).toNat)

/-- floor(log2 (n / d * 2^e)) of a positive fraction. -/
def floorLog2 (n d : Nat) (e : Int) : Int :=
  let l : Int := (Nat.log2 n : Int) - Nat.log2 d
  let (a, b) := inUnits n d 0 l
  (if b ≤ a then l else l - 1) + e

/-- Whether n1 / d1 * 2^e1 is at most n2 / d2 * 2^e2. -/
def fracLe (n1 d1 : Nat) (e1 : Int) (n2 d2 : Nat) (e2 : Int) : Bool :=
  let (a, b) := inUnits n1 d1 e1 e2
  decide (a * d2 ≤ n2 * b)

/-- The bits of sign, and of k units of 2^q, in a floating-point format; `q` at least the subnormal spacing. -/
def FltFmt.encode (f : FltFmt) (neg : Bool) (k : Nat) (q : Int) : Nat :=
  let s := b2n neg * 2 ^ (f.ebits + f.mbits)
  if k < 2 ^ f.mbits then s + k
  else if k = 2 ^ (f.mbits + 1) then s + ((q - f.qmin).toNat + 2) * 2 ^ f.mbits
  else s + ((q - f.qmin).toNat + 1) * 2 ^ f.mbits + (k - 2 ^ f.mbits)

/-- The canonical NaN of a floating-point format code (R86). -/
def canonicalNan : Nat → Nat
  | 0x0 => 0x7FC00000
  | 0x1 => 0x7FC0
  | 0x2 => 0x7E00
  | _ => 0x7F

/-- The bits of an infinity in a floating-point format that has one (R68). -/
def FltFmt.infBits (f : FltFmt) (neg : Bool) : Nat :=
  b2n neg * 2 ^ (f.ebits + f.mbits) + (2 ^ f.ebits - 1) * 2 ^ f.mbits

/-- The bits of the largest finite value of a sign (R68). -/
def FltFmt.maxBits (f : FltFmt) (neg : Bool) : Nat := f.encode neg f.top.1 f.top.2

/-- Whether an overflow gives an infinity in a mode with the IEEE 754 rule, stochastic rounding giving one always (R84). -/
def overflowsToInf (m : RMode) (neg : Bool) : Bool :=
  match m with
  | .rne => true
  | .rtz => false
  | .rdn => neg
  | .rup => !neg
  | .sr => true

/-- The sat bit in force when an operation names none (R85). -/
def defaultSat (fmt : Nat) : Bool := decide (3 ≤ fmt)

/-- Conversion of a value to the unscaled floating-point elements of a format code (R83, R84). -/
def roundFlt (fmt : Nat) (f : FltFmt) (m : RMode) (sat : Bool) (u : Nat) (v : Val) : Nat × Exc :=
  match v with
  | .nan => (canonicalNan fmt, { nan := true })
  | .inf neg =>
    if f.hasInf then (f.infBits neg, { inf := true })
    else if sat then (f.maxBits neg, { saturated := true })
    else (canonicalNan fmt, { nan := true })
  | .fin neg n d e =>
    if n = 0 then (f.encode neg 0 f.qmin, {})
    else
      let (topM, topQ) := f.top
      let q := max f.qmin (min topQ (floorLog2 n d e - f.mbits))
      let (a, b) := inUnits n d e q
      let k := roundMag m neg u a b
      if q = topQ ∧ topM < k then
        if sat then (f.maxBits neg, { overflow := true })
        else if f.hasInf then
          (if overflowsToInf m neg then (f.infBits neg, { overflow := true, inf := true }) else (f.maxBits neg, { overflow := true }))
        else if f.hasNan then (canonicalNan fmt, { nan := true, overflow := true })
        else (f.maxBits neg, { overflow := true })
      else (f.encode neg k q, { underflow := decide (k = 0) })

/-- Conversion of a value to a two's-complement integer of `w` bits in units of 2^q, from `lo` to `hi` (R83, R84). -/
def roundInt (w : Nat) (q : Int) (lo hi : Int) (m : RMode) (u : Nat) (v : Val) : Nat × Exc :=
  match v with
  | .nan => (0, { nan := true, saturated := true })
  | .inf neg => (ofSigned w (if neg then lo else hi), { inf := true, saturated := true })
  | .fin neg n d e =>
    let (a, b) := inUnits n d e q
    let k : Int := roundMag m neg u a b
    let x := if neg then -k else k
    if x < lo then (ofSigned w lo, { saturated := true })
    else if hi < x then (ofSigned w hi, { saturated := true })
    else (ofSigned w x, { underflow := decide (k = 0 ∧ n ≠ 0) })

/-- Conversion of a value to an element of a format code: for a block-scaled format, the value already divided by its
scales, with element overflow saturating (R83 to R85, R87). -/
def roundElem (fmt : Nat) (m : RMode) (sat : Bool) (u : Nat) (v : Val) : Nat × Exc :=
  match fltOf fmt with
  | some f => roundFlt fmt f m (sat || fmtBlocked fmt) u v
  | none =>
    if fmt = 0x5 then roundInt 8 0 (-128) 127 m u v
    else if fmt = 0x6 then roundInt 32 0 (-2147483648) 2147483647 m u v
    else roundInt 8 (-6) (-127) 127 m u v

/-! ### Block scales (R87, R88) -/

/-- emax of an element format (R87). -/
def elemEmax : Nat → Int
  | 0x8 => 8 | 0x9 => 15 | 0xA => 4 | 0xB => 2 | 0xC => 2 | 0xE => 2 | _ => 0

/-- Whether a value is NaN or infinite. -/
def Val.special : Val → Bool
  | .nan => true
  | .inf _ => true
  | .fin _ _ _ _ => false

/-- The larger of two finite magnitudes, as fractions. -/
def magMax (a b : Nat × Nat × Int) : Nat × Nat × Int :=
  if fracLe a.1 a.2.1 a.2.2 b.1 b.2.1 b.2.2 then b else a

/-- The largest element magnitude of a list of finite values (R87 step 1). -/
def maxMag (vs : List Val) : Nat × Nat × Int :=
  vs.foldl (fun a v => match v with | .fin _ n d e => magMax a (n, d, e) | _ => a) (0, 1, 0)

/-- Codes of the KF4 sub-scales in ascending order of value (R74). -/
def subCodes : List Nat := [0xE, 0xF, 0xC, 0xD, 0xA, 0xB, 0x8, 0x9, 0x6, 0x7, 0x4, 0x5, 0x2, 0x3, 0x0, 0x1]

/-- The sub-scale code of a half-block with largest magnitude `a` under block exponent X (R88 step 2). -/
def subScaleFor (x : Int) (a : Nat × Nat × Int) : Nat :=
  if a.1 = 0 then 0xE
  else (subCodes.find? (fun c => fracLe a.1 a.2.1 a.2.2 (6 * subScale c) 1 (x - 8))).getD 0x1

/-- The scale-plane entry of a block of a target format, the block exponent X, and whether the exponent was clamped
(R87 steps 1 to 4, R88 steps 1 and 2). `none` for X: every element is written as a zero. -/
def blockScale (fmt : Nat) (vs : List Val) : Nat × Option Int × Bool :=
  let kf := decide (fmt = 0xE)
  if vs.any Val.special then ((if kf then 0xEEFF else 0xFF), none, false)
  else
    let a := maxMag vs
    if a.1 = 0 then ((if kf then 0xEE00 else 0x00), none, false)
    else
      let raw := floorLog2 a.1 a.2.1 a.2.2 - elemEmax fmt
      let x := max (-127) (min 127 raw)
      let sc := (x + 127).toNat
      if kf then
        let s0 := subScaleFor x (maxMag (vs.take 16))
        let s1 := subScaleFor x (maxMag (vs.drop 16))
        (sc + 256 * s0 + 4096 * s1, some x, decide (raw ≠ x))
      else (sc, some x, decide (raw ≠ x))

/-- One block of 32 values converted to a block-scaled format: its elements with their exceptions, its scale-plane entry,
and whether the scale was clamped (R87, R88). `draws` gives the 16-bit draw of element i of the block. -/
def convertBlock (fmt : Nat) (m : RMode) (draws : Nat → Nat) (vs : List Val) : List (Nat × Exc) × Nat × Bool :=
  let (entry, x, clamped) := blockScale fmt vs
  let nanBlock := vs.any Val.special
  let elems := vs.zipIdx.map (fun (v, i) =>
    match x with
    | none =>
      match v with
      | .fin neg _ _ _ =>
        if nanBlock ∨ fmt = 0xD then (0, ({ nan := nanBlock } : Exc))
        else (b2n neg * 2 ^ (elemBits fmt - 1), {})
      | _ => (0, { nan := true })
    | some x =>
      match v with
      | .fin neg n d e =>
        if fmt = 0xE then
          let s := subScale (if i < 16 then entry / 256 % 16 else entry / 4096 % 16)
          roundElem fmt m true (draws i) (.fin neg n (d * s) (e - x + 8))
        else roundElem fmt m true (draws i) (.fin neg n d (e - x))
      | v => roundElem fmt m true (draws i) v)
  (elems, entry, clamped)

/-! ### The random stream (R81) -/

/-- One round of Philox-4x32. -/
def philoxRound (c : Nat × Nat × Nat × Nat) (k : Nat × Nat) : Nat × Nat × Nat × Nat :=
  let p0 := 0xD2511F53 * c.1
  let p1 := 0xCD9E8D57 * c.2.2.1
  ((p1 / 2 ^ 32) ^^^ c.2.1 ^^^ k.1, p1 % 2 ^ 32, (p0 / 2 ^ 32) ^^^ c.2.2.2 ^^^ k.2, p0 % 2 ^ 32)

/-- `n` rounds of Philox, the key bumped between rounds. -/
def philoxRounds : Nat → Nat × Nat × Nat × Nat → Nat × Nat → Nat × Nat × Nat × Nat
  | 0, c, _ => c
  | n + 1, c, k =>
    philoxRounds n (philoxRound c k) ((0x9E3779B9 + k.1) % 2 ^ 32, (0xBB67AE85 + k.2) % 2 ^ 32)

/-- Philox-4x32-10 of a 128-bit counter and a 64-bit key, as a 128-bit number with output word 0 lowest (R81). -/
def philox (counter key : Nat) : Nat :=
  let (a, b, c, d) := philoxRounds 10
    (counter % 2 ^ 32, counter / 2 ^ 32 % 2 ^ 32, counter / 2 ^ 64 % 2 ^ 32, counter / 2 ^ 96 % 2 ^ 32)
    (key % 2 ^ 32, key / 2 ^ 32 % 2 ^ 32)
  a + b * 2 ^ 32 + c * 2 ^ 64 + d * 2 ^ 96

/-- The 16-bit draw of the element with index `i` of a handle with rounding seed `seed`, at an epoch (R81). -/
def srDraw (seed epoch i : Nat) : Nat :=
  natFld (philox (i / 8 % 2 ^ 64 + (epoch % 2 ^ 64) * 2 ^ 64) seed) (16 * (i % 8)) 16

/-! ### Exact arithmetic on values -/

/-- Whether a value is a zero of either sign. -/
def Val.isZero : Val → Bool
  | .fin _ n _ _ => n == 0
  | _ => false

/-- The sign of a value. -/
def Val.neg : Val → Bool
  | .nan => false
  | .inf n => n
  | .fin n _ _ _ => n

/-- Exact product; an infinity times zero is NaN. -/
def Val.mul (a b : Val) : Val :=
  match a, b with
  | .nan, _ => .nan
  | _, .nan => .nan
  | .inf n, b => if b.isZero then .nan else .inf (n != b.neg)
  | a, .inf n => if a.isZero then .nan else .inf (a.neg != n)
  | .fin n1 m1 d1 e1, .fin n2 m2 d2 e2 => .fin (n1 != n2) (m1 * m2) (d1 * d2) (e1 + e2)

/-- Exact sum; opposite infinities give NaN; an exact zero of opposite signs is -0 only toward -infinity. -/
def Val.add (m : RMode) (a b : Val) : Val :=
  match a, b with
  | .nan, _ => .nan
  | _, .nan => .nan
  | .inf n, .inf k => if n = k then .inf n else .nan
  | .inf n, _ => .inf n
  | _, .inf n => .inf n
  | .fin n1 m1 d1 e1, .fin n2 m2 d2 e2 =>
    let e := min e1 e2
    let x : Int := (m1 * d2 * 2 ^ (e1 - e).toNat : Nat)
    let y : Int := (m2 * d1 * 2 ^ (e2 - e).toNat : Nat)
    let z := (if n1 then -x else x) + (if n2 then -y else y)
    if z = 0 then .fin (if n1 = n2 then n1 else decide (m = .rdn)) 0 1 0
    else .fin (decide (z < 0)) z.natAbs (d1 * d2) e

/-- The value with its sign flipped. -/
def Val.negate : Val → Val
  | .nan => .nan
  | .inf n => .inf (!n)
  | .fin n m d e => .fin (!n) m d e

/-- Numeric order: whether a is less than b; false when either is NaN. -/
def Val.lt (a b : Val) : Bool :=
  match a, b with
  | .nan, _ => false
  | _, .nan => false
  | .inf n, .inf k => n && !k
  | .inf n, _ => n
  | _, .inf k => !k
  | .fin n1 m1 d1 e1, .fin n2 m2 d2 e2 =>
    let e := min e1 e2
    let x : Int := (m1 * d2 * 2 ^ (e1 - e).toNat : Nat)
    let y : Int := (m2 * d1 * 2 ^ (e2 - e).toNat : Nat)
    decide ((if n1 then -x else x) < (if n2 then -y else y))

/-- Numeric equality; false when either is NaN; the two zeros are equal. -/
def Val.eqv (a b : Val) : Bool :=
  match a, b with
  | .nan, _ => false
  | _, .nan => false
  | a, b => !(Val.lt a b) && !(Val.lt b a)

/-- The value of binary32 bits. -/
def f32 (x : Nat) : Val := decodeElem 0 x

/-- A value rounded to binary32 (R83, R84 with sat = 0). -/
def toF32 (m : RMode) (v : Val) : Nat × Exc := roundElem 0 m false 0 v

/-- Correctly rounded quotient of two binary32 values, as an exact fraction (IEEE 754 special cases). -/
def Val.div (a b : Val) : Val :=
  match a, b with
  | .nan, _ => .nan
  | _, .nan => .nan
  | .inf n, .inf _ => if n then .nan else .nan
  | .inf n, b => .inf (n != b.neg)
  | a, .inf n => .fin (a.neg != n) 0 1 0
  | .fin n1 m1 d1 e1, .fin n2 m2 d2 e2 =>
    if m2 = 0 then (if m1 = 0 then .nan else .inf (n1 != n2))
    else .fin (n1 != n2) (m1 * d2) (d1 * m2) (e1 - e2)

/-- Integer square root by binary digits: the largest r with r * r at most n, below 2^fuel. -/
def isqrt (n : Nat) : Nat → Nat → Nat
  | 0, r => r
  | f + 1, r => if (r + 2 ^ f) * (r + 2 ^ f) ≤ n then isqrt n f (r + 2 ^ f) else isqrt n f r

/-- Square root rounded to odd at 64 bits below the leading digit of a binary32 significand, which later rounds to binary32
as the exact root does (IEEE 754 special cases). -/
def Val.sqrt (a : Val) : Val :=
  match a with
  | .nan => .nan
  | .inf n => if n then .nan else .inf false
  | .fin n m d e =>
    if m = 0 then .fin n 0 1 0
    else if n then .nan
    else
      let e' := if e % 2 = 0 then e else e - 1
      let m' := if e % 2 = 0 then m else 2 * m
      let big := m' * 2 ^ 64 / d
      let r := isqrt big 64 0
      .fin false (if r * r = big ∧ m' * 2 ^ 64 % d = 0 then 2 * r else 2 * r + 1) 1 (e' / 2 - 33)

/-! ### The exact accumulator (R91 to R95) -/

/-- The accumulator of one output element: a 608-bit two's-complement integer in units of 2^-288 and the three flags
(R91, R93). -/
structure Accum where
  a : BitVec 608 := 0
  nan : Bool := false
  pinf : Bool := false
  ninf : Bool := false
deriving DecidableEq, Repr, Inhabited

/-- Adding an exact finite value, a whole number of units of 2^-288. -/
def Accum.addFin (c : Accum) (neg : Bool) (n : Nat) (e : Int) : Accum :=
  let u : Int := (n * 2 ^ (e + 288).toNat / 2 ^ (-(e + 288)).toNat : Nat)
  { c with a := c.a + BitVec.ofInt 608 (if neg then -u else u) }

/-- A product or a seed enters the accumulator: its finite value is added, or it sets a flag and adds 0 (R93). -/
def Accum.add (c : Accum) (v : Val) : Accum :=
  match v with
  | .nan => { c with nan := true }
  | .inf true => { c with ninf := true }
  | .inf false => { c with pinf := true }
  | .fin neg n _ e => c.addFin neg n e

/-- One block pair: the 32 products of decoded elements (R91 steps 2 and 3). -/
def Accum.block (c : Accum) (as bs : List Val) : Accum :=
  (as.zip bs).foldl (fun c p => c.add (p.1.mul p.2)) c

/-- The value a chain holds, before the output shift (R93). -/
def Accum.value (c : Accum) : Val :=
  if c.nan ∨ (c.pinf ∧ c.ninf) then .nan
  else if c.pinf then .inf false
  else if c.ninf then .inf true
  else intVal c.a.toInt (-288)

/-- The chain rounded once to its output format with output shift k (R94, R95). A result that is exactly zero is +0; a special
result is written whatever the sat bit. -/
def Accum.round (c : Accum) (fmt : Nat) (m : RMode) (sat : Bool) (k : Int) : Nat × Exc :=
  match c.value with
  | .fin neg n d e =>
    if n = 0 then (0, {}) else roundElem fmt m sat 0 (.fin neg n d (e + k))
  | v => roundElem fmt m sat 0 v

/-! ### Storage layout (R76 to R78) -/

/-- Elements in a 4 KiB tile of an element plane (R77). -/
def elemsPerTile (fmt : Nat) : Nat := if elemBits fmt = 6 then 5440 else 32768 / (max (elemBits fmt) 1)

/-- Blocks in a tile of an element plane (R77). -/
def blocksPerTile (fmt : Nat) : Nat := elemsPerTile fmt / 32

/-- Bytes of a scale-plane entry (R78); 0 for a format without scales. -/
def scaleBytes (fmt : Nat) : Nat := if fmtBlocked fmt then (if fmt = 0xE then 2 else 1) else 0

/-- Element `i` of a tile's bytes given as one little-endian number (R76). -/
def elemAt (fmt tile i : Nat) : Nat := natFld tile (i * elemBits fmt) (elemBits fmt)

/-- Element bits packed in element order into bytes (R76), `n` bytes in all. -/
def packElems (fmt n : Nat) (es : List Nat) : List Byte :=
  leBytes n (es.zipIdx.foldl (fun acc (x, i) => acc + (x % 2 ^ elemBits fmt) * 2 ^ (i * elemBits fmt)) 0)

end Sys2Proof.Machine
end

