-- ==== Sys2Proof/Machine/SeqState.lean ====
section
/-!
DEFINITION. The state of a partition's sequencer and of the engines it drives (03_recipe_execution.md R105, R112, R122;
04_eusel_encoding.md R165, R169, R173; 05_cells_and_cluster_engines.md R209, R211, R229). The registers of the SEQ_ block
(state, step, PC, faults, stall counts, binding) are in the register store; here is what no register holds.
-/
namespace Sys2Proof.Machine

/-- A slot of classes 0x1 to 0xE, taken apart by the fields of R161 (classes 0xC to 0xE keep bits 19:0 in `low`). -/
structure Slot where
  cls : Nat
  op : Nat
  nw : Nat := 1
  gmode : Nat := 0
  gsel : Nat := 0
  csel : Nat := 0
  mod : Nat := 0
  low : Nat := 0
  w1 : Nat := 0
  w2 : Nat := 0
deriving DecidableEq, Repr, Inhabited

/-- A loop counter of a standing order (R105). -/
structure OrderLoop where
  first : Nat := 0
  last : Nat := 0
  count : Nat := 1
  remaining : Nat := 1
deriving DecidableEq, Repr, Inhabited

/-- An address generator of a standing order (R105, R107). -/
structure Generator where
  base : Nat := 0
  extents : List Nat := [1, 1, 1, 1]
  strides : List Int := [0, 0, 0, 0]
  index : List Nat := [0, 0, 0, 0]
deriving DecidableEq, Repr, Inhabited

/-- A standing order (R105); as it stands here, what an order record of zero bytes loads. -/
structure Order where
  /-- word w of entry e at key 3 e + w -/
  words : Tbl Nat := []
  loops : List OrderLoop := [{}, {}, {}]
  gens : List Generator := [{}, {}, {}, {}]
  first : Nat := 0
  last : Nat := 0
  again : Bool := false
  pointer : Nat := 0
  running : Bool := false
deriving DecidableEq, Repr, Inhabited

/-- An open accumulation chain (R91, R182, R212): the accumulator of output (r, c) at key 64 r + c, and the block
contributions made so far. -/
structure Chain where
  acc : Tbl Accum := []
  blocks : Nat := 0
deriving DecidableEq, Repr, Inhabited

/-- One engine instance of classes 0x1 to 0x9 and 0xB (R164). -/
structure Engine where
  /-- the first step at which the engine is ready again (R108) -/
  readyAt : Nat := 0
  order : Order := {}
  /-- operation slots that wait, in the order of their bundles (R109) -/
  waiting : List Slot := []
  /-- words 1 and 2 of the last configuration operation (R209); 0 when a recipe starts -/
  cfg1 : Nat := 0
  cfg2 : Nat := 0
  chain : Option Chain := none
deriving DecidableEq, Repr, Inhabited

/-- Bytes that a synchronous operation writes in its write window (R202). -/
structure StoreWrite where
  addr : Nat
  data : List Byte
deriving DecidableEq, Repr, Inhabited

/-- A synchronous operation that has issued and not reached its latency: the step from which its results are visible, and
what it reads and writes in its windows (R104, R202). -/
structure InFlight where
  visibleAt : Nat
  issuedAt : Nat := 0
  /-- steps of its read window and of its write window -/
  ii : Nat := 1
  reads : List (Nat × Nat) := []
  writes : List StoreWrite := []
  /-- it takes part in a race (R203) -/
  raced : Bool := false
deriving DecidableEq, Repr, Inhabited

/-- States of a completion token (R112). -/
inductive TokenState where
  | free | pending | done | failed
deriving DecidableEq, Repr, Inhabited

/-- A completion token: its state, the freeze cause of its operation (R101), and the parts still to complete. -/
structure Token where
  state : TokenState := .free
  cause : Nat := 0
  left : Nat := 0
  error : Bool := false
deriving DecidableEq, Repr, Inhabited

/-- An active loop of the sequencer (R173): body start, exit address, remaining count. -/
structure SeqLoop where
  start : Nat
  exit : Nat
  remaining : Nat
deriving DecidableEq, Repr, Inhabited

/-- A prefetch under way (R133): its page and token, and whether it waits for the PC to leave the executing page. -/
structure Prefetch where
  page : Nat
  token : Nat
  waits : Bool := false
deriving DecidableEq, Repr, Inhabited

/-- One instance of a DMX transfer: the store extent as a DPA, the handle extent or the far address, and the length. -/
structure DmxPart where
  store : Nat
  handle : Nat := 0
  offset : Nat := 0
  far : Nat := 0
  tiles : Nat := 1
deriving DecidableEq, Repr, Inhabited

/-- A DMX transfer: its operation (R192), its token, its instances in instance order, its transactions not yet over, and
whether one of them has failed. -/
structure DmxTransfer where
  op : Nat
  token : Nat
  parts : List DmxPart
  left : Nat := 0
  failed : Bool := false
  /-- tiles of its stores that the recipe has written while the transfer was under way, as they were before (R118) -/
  old : Tbl (List Byte) := []
deriving DecidableEq, Repr, Inhabited

/-- Why a partition is frozen (R101), with what ends the freeze. -/
inductive Freeze where
  | no
  | wait (toks : List Nat)
  | reuse (toks : List Nat)
  | page (p : Nat)
  | commit
  | hold
  | drain (toks : List Nat)
  | switch
  | stopping
deriving DecidableEq, Repr, Inhabited

/-- A saved context (R122): the sequencer and engine state, the stores by virtual address, and the counters. -/
structure Context (σ : Type) where
  seq : σ
  store : List (Nat × Byte) := []
  syn : Tbl W32 := []
  step : W64 := 0
  pc : W64 := 0
  commits : W64 := 0
  stalls : List W64 := []
  /-- the instance counters of the lead's collective groups (R433) -/
  counters : Tbl Nat := []
deriving DecidableEq, Repr, Inhabited

/-- The state of one gang's sequencer, held in its lead (R143). -/
structure Seq where
  /-- scalar registers s0 to s31 (R169) -/
  sregs : Tbl W64 := []
  /-- group registers gr0 to gr15 (R165) -/
  gregs : Tbl W64 := []
  /-- the scalar and group registers as they stood before the bundle of the current step (R160, R179) -/
  before : Tbl W64 := []
  groupsBefore : Tbl W64 := []
  /-- active loops, innermost first (R173) -/
  loops : List SeqLoop := []
  /-- the 256 tokens (R112) -/
  tokens : Tbl Token := []
  /-- why the partition is frozen (R101) -/
  freeze : Freeze := .no
  /-- frozen cycles of the freeze in force, not yet attributed to a cause (R101) -/
  frozen : Nat := 0
  /-- freeze cause of the token of the awaited set that completed last (R101) -/
  lastCause : Nat := 0
  /-- the step at which the next bundle issues (R102) -/
  bundleAt : Nat := 0
  /-- byte offset of the next bundle (R102) -/
  nextPc : Nat := 0
  /-- byte offset of the bundle that follows the current one in the image (R158) -/
  after : Nat := 0
  /-- pages loaded for the bundle being handled (R132, R176) -/
  fetched : List Nat := []
  /-- the step after the END bundle's last idle step (R126) -/
  endAt : Option Nat := none
  /-- the page that each frame of the recipe buffer holds (R131) -/
  frames : Tbl (Option Nat) := []
  /-- the bytes of the recipe buffer, frame f from f * 65536 on (R131) -/
  buffer : List (Nat × Byte) := []
  prefetches : List Prefetch := []
  /-- tokens that leave pending at the next step, with whether they are done (R133, R175) -/
  soon : List (Nat × Bool) := []
  /-- the COMMIT bundle at the PC has passed its commit point (R120, R124) -/
  passed : Bool := false
  /-- a slot issued by its own row that the freeze in force holds (R113, R115, R119, R126) -/
  held : Option Slot := none
  /-- engine instances by class, virtual cluster and virtual cell, key class * 1024 + u * 16 + k (R164) -/
  engines : Tbl Engine := []
  inFlight : List InFlight := []
  transfers : List DmxTransfer := []
  /-- handle, byte offset and length of the loaded recipe image (R130), its recipe arguments (R169), and whether one is loaded -/
  image : Nat := 0
  imageOff : Nat := 0
  imageLen : Nat := 0
  args : List W64 := []
deriving DecidableEq, Repr, Inhabited

/-- The facts of a cluster that the SCH keeps for the floor plan (R57, R58): the self-test bits 26:0 (0 before a self-test),
and the facts of fuses and retirement. -/
structure ClusterFact where
  low : Nat := 0
  fuseOff : Bool := false
  fieldRetired : Bool := false
deriving DecidableEq, Repr, Inhabited

end Sys2Proof.Machine
end

