-- ==== Sys2Proof/Machine/State.lean ====
section
/-!
DEFINITION. The state of the block: every register, memory, queue, timer and pin the manual gives the device, the queue of
waiting commands, and the state right after reset.
-/
namespace Sys2Proof.Machine

/-- A pending value of a complement-protected register (R17): its value, the agent that owns it, and which 32-bit halves
of the companion have matched since that agent's last write to the register. -/
structure CpPending where
  value : W64 := 0
  owner : Nat := 0
  loMatched : Bool := false
  hiMatched : Bool := false
deriving DecidableEq, Repr, Inhabited

/-- The state of the device. A table lists only what differs from its default. -/
structure State where
  /-- every register of the register tables, by DPA (R21) -/
  csr : Tbl W64 := []
  /-- pending values of complement-protected registers, by DPA (R17) -/
  cpPend : Tbl (Option CpPending) := []
  /-- protected values whose complement does not match: unusable (R643) -/
  cpBad : Tbl Bool := []
  /-- every byte of stack memory, cluster stores and cell stores, by DPA (R19); an unlisted byte reads 0 -/
  mem : List Host.Cell := []
  /-- stored tile check XOR the CRC-32C of the tile's stored bytes, by DPA / 4096; 0: the check is valid (R205, R646) -/
  syn : Tbl W32 := []
  /-- store words in error, by DPA / 8, and stored tile checks in error, by 2^48 + DPA / 4096: 1 correctable, 2 uncorrectable,
  3 uncorrectable and counted (R208, R653); 4: a check with no good basis since a write of part of its tile (R207) -/
  wordErr : Tbl Nat := []
  /-- stack lines in error, by DPA / 64: 1 correctable, 2 uncorrectable, 3 uncorrectable and counted (R243, R653) -/
  lineErr : Tbl Nat := []
  /-- the sequencers, by lead die (R143) -/
  seqs : Tbl Seq := []
  /-- saved contexts, by lead die (R122) -/
  saved : Tbl (Option (Context Seq)) := []
  /-- the base engines, by stack (R296) -/
  bases : Tbl BaseStack := []
  /-- frames, requests, heat counters and migrations (R246 to R273) -/
  stackSide : Stacks := {}
  /-- the collective engines, by die (R427) -/
  clxs : Tbl Clx := []
  /-- the link ports -/
  ports : Tbl Port := []
  /-- the router and the end-to-end layer -/
  router : Router := {}
  /-- the fabric agent and manager on FAB -/
  fm : Fm := {}
  /-- the floor-plan facts of each physical cluster (R57) -/
  clusters : Tbl ClusterFact := []
  /-- the configuration record in flash -/
  config : ConfigFlash := {}
  /-- the fuses (R583) -/
  fuses : Fuses := {}
  /-- the host interface -/
  host : HostSide := {}
  /-- firmware images and updates -/
  fw : Firmware := {}
  /-- what the security core holds -/
  sec : Security := {}
  /-- pins, bring-up and power -/
  pwr : Power := {}
  /-- the event recorder, fault history and field-retire fuses -/
  rcd : Recorder := {}
  /-- the answer to the last access (model's own output port) -/
  answer : Answer := .none
  /-- draws made of the free values so far (model's own counter); SEC_NONCE holds the first eight -/
  fresh : Nat := 8
  /-- the commands that wait, first in, first out (model's own) -/
  pending : List Instr := []
deriving DecidableEq, Repr

/-- The manual names no condition that stops the block as a whole: no command faults. -/
inductive Fault where
  | /-- raised by no meaning; kept so that the type is inhabited. Safe. -/
    none
deriving DecidableEq, Repr

/-- Reasons for which the model refuses a command. -/
inductive Refusal where
  | /-- The command has no meaning in the model yet: raised by a refused arm of `exec` only. Safe. -/
    notModelled (mnemonic : String)
deriving DecidableEq, Repr

/-- The outcome of a command. -/
abbrev Result := Host.Outcome State Fault Refusal

/-- The machine right after reset. -/
def State.reset : State := { csr := resetCsr }

end Sys2Proof.Machine
end

