-- ==== Sys2Proof/Machine/Ops.lean ====
section
/-!
DEFINITION. The named operations over registers, events and accesses that every family shares: reading and writing
register fields, raising an event, an address error (R20, R22), a register write by access code (R14, R15), the
complement protocol of -CP registers (R17, R643, R645) and refused writes (R529).
-/
namespace Sys2Proof.Machine

/-! ### Registers as the device's own hardware sees them -/

/-- The value of the register at DPA `a`. -/
def State.rd (s : State) (a : Nat) : W64 := s.csr.get a

/-- Hardware or firmware sets the whole register at DPA `a`. -/
def State.wr (s : State) (a : Nat) (v : W64) : State := { s with csr := s.csr.set a v }

/-- Field `[hi:lo]` of the register at `a`. -/
def State.rdF (s : State) (a hi lo : Nat) : Nat := fld (s.rd a) hi lo

/-- Hardware or firmware sets field `[hi:lo]` of the register at `a`. -/
def State.wrF (s : State) (a hi lo x : Nat) : State := s.wr a (setFld (s.rd a) hi lo x)

/-- Bit `i` of the register at `a`. -/
def State.rdB (s : State) (a i : Nat) : Bool := bitOf (s.rd a) i

/-- Hardware or firmware sets bit `i` of the register at `a`. -/
def State.wrB (s : State) (a i : Nat) (b : Bool) : State := s.wrF a i i b.toNat

/-- A 64-bit counter that saturates at 2^64 - 1 counts `n` more. -/
def State.count (s : State) (a n : Nat) : State :=
  s.wr a (BitVec.ofNat 64 (satAdd (2 ^ 64 - 1) (s.rd a).toNat n))

/-- A saturating counter in field `[hi:lo]` counts `n` more. -/
def State.countF (s : State) (a hi lo n : Nat) : State :=
  s.wrF a hi lo (satAdd (2 ^ (hi + 1 - lo) - 1) (s.rdF a hi lo) n)

/-- The state with the same operation applied for each element of a list, in order. -/
def State.each {α : Type} (s : State) (l : List α) (f : State → α → State) : State := l.foldl f s

/-- The state changed only when a condition holds. -/
def State.cond (s : State) (c : Bool) (f : State → State) : State := if c then f s else s

/-- The next draw of the device's random source (a free value). -/
def State.draw (s : State) : W64 × State := (Config.freshWord s.fresh, { s with fresh := s.fresh + 1 })

/-! ### Events -/

/-- An event reaches the recorder's queue of 256 events; one that finds the queue full is lost and counted (R663). -/
def State.raise (s : State) (e : Event) : State :=
  if s.rcd.queue.length < 256 then
    { s with rcd := { s.rcd with queue := s.rcd.queue ++ [⟨e, s.rcd.opTime⟩] } }
  else
    { s with rcd := { s.rcd with lost := satAdd (2 ^ 32 - 1) s.rcd.lost 1, lostSince := s.rcd.lostSince + 1 } }

/-- An event by its three-digit name, with a unit and a detail. -/
def State.event (s : State) (name : Nat) (unit : EvUnit := .none) (detail : Nat := 0) (part : Option Nat := none)
    (agent : Nat := 0) : State :=
  s.raise { name := name, agent := agent, part := part, unit := unit, detail := BitVec.ofNat 64 detail }

/-- Event 0x80C: a write refused because its register is reserved to a firmware core, or because of the state it arrives
in (R529). -/
def State.refuseWrite (s : State) (ag : Agent) : State := s.event 0x80C (agent := ag.num)

/-! ### Power domains (R50) -/

/-- Whether the power domain of index `i` is on. -/
def State.domOn (s : State) (i : Nat) : Bool := s.rdB Reg.pmcDomState i

/-- Index of the domain of physical cluster `c` (R50: cluster 16 d + i lies in quadrant i / 4 of die d). -/
def clusterDomain (c : Nat) : Nat := 4 * (c / 16) + c % 16 / 4

/-- Index of the domain of stack `n`. -/
def stackDomain (n : Nat) : Nat := 26 + n

/-- Index of the link group domain of port `p`. -/
def portDomain (p : Nat) : Nat := 18 + p / 4

/-- Index of the domain of host port `h`. -/
def hostDomain (h : Nat) : Nat := 22 + h

/-- The CSR blocks of R21: base, span, and the domain index that the block at an offset lies in (R50). -/
def csrBlocks : List (Nat × Nat × (Nat → Nat)) :=
  [(Blk.hub, 0x1000000, fun _ => 17), (Blk.sec, 0x100000, fun _ => 16), (Blk.pmc, 0x100000, fun _ => 16),
   (Blk.bbx, 0x10000, fun _ => 16), (Blk.rec, 0x10000, fun _ => 16), (Blk.rtr, 0x1000000, fun _ => 17),
   (Blk.prt, 0x100000, fun o => portDomain (o / 0x10000)), (Blk.hif, 0x200000, fun o => hostDomain (o / 0x100000)),
   (Blk.seq, 0x4000000, fun _ => 25), (Blk.clu, 0x4000000, fun o => clusterDomain (o / 0x100000)),
   (Blk.stk, 0xC000000, fun o => stackDomain (o / 0x1000000))]

/-- The block that a DPA of CSR space lies in, as its base and the domain that the address needs. -/
def csrBlockOf (a : Nat) : Option (Nat × Nat) :=
  csrBlocks.findSome? (fun b => if b.1 ≤ a ∧ a < b.1 + b.2.1 then some (b.1, b.2.2 (a - b.1)) else none)

/-! ### Address errors (R20, R22) -/

/-- What kind of access a host function made, as 0x901 reports it (R671). -/
inductive HostAccess where
  | bar0Read | bar0Write | bar4Read | bar4Write | device
deriving DecidableEq, Repr, Inhabited

/-- The code of an access kind in the detail of 0x901 (R671). -/
def HostAccess.code : HostAccess → Nat
  | .bar0Read => 0 | .bar0Write => 1 | .bar4Read => 2 | .bar4Write => 3 | .device => 4

/-- Event 0x901 with its detail (R671). -/
def State.hostError (s : State) (h f : Nat) (k : HostAccess) (off : Nat) : State :=
  s.event 0x901 (.hostPort h) (f + k.code * 0x100 + (off % 2 ^ 48) * 0x10000) (agent := 0x60 + 8 * h + f)

/-- An event of class 0x9 (R671): function, item, and the low 48 bits of an address. -/
def State.hostEvent (s : State) (name h f item addr : Nat) (part : Option Nat) : State :=
  s.event name (.hostPort h) (f + item * 0x100 + addr % 2 ^ 48 * 0x10000) part (0x60 + 8 * h + f)

/-- An access that answers with an address error: no effect, no data, one event of class 0x9 for a host requester and
0x611 for any other (R20, R670, R671). -/
def State.addressError (s : State) (ag : Agent) (a : Nat) (write : Bool) : State :=
  let s := { s with answer := .addressError }
  match ag with
  | .host h f => s.hostError h.val f.val (if write then .bar4Write else .bar4Read) a
  | _ => s.event 0x611 .none (a % 2 ^ 48 + ag.num * 2 ^ 48) (agent := ag.num)

/-- Whether the published floor plan reports a cluster as disabled or retired (R20, R57). -/
def State.clusterOut (s : State) (c : Nat) : Bool :=
  decide (s.rd Reg.hubFpGen ≠ 0) && decide (3 ≤ s.rdF (Reg.hubFpClu c) 34 32)

/-- The three ways a CSR access can go (R20, R22). -/
inductive CsrPath where
  | served | error | silent
deriving DecidableEq, Repr, Inhabited

/-- How the device takes a CSR access of agent `ag` at DPA `a` (R18, R20, R22): outside every block, or in the block of a
cluster that the floor plan reports as out, or by a virtual function, an address error with an event; in a block
whose domain is off, one without. -/
def State.csrPath (s : State) (ag : Agent) (a width : Nat) : CsrPath :=
  match csrBlockOf a with
  | none => .error
  | some (b, d) =>
    if !s.domOn d then .silent
    else if b = Blk.clu ∧ s.clusterOut ((a - b) / 0x100000) then .error
    else if (match ag with | .host _ f => f.val != 0 | _ => false) then .error
    else if (width ≠ 4 ∧ width ≠ 8) ∨ a % width ≠ 0 then .error
    else match findReg a with
      | some (d, _, _) => if width = 8 ∧ d.width = 32 then .error else .served
      | none => .served

/-- Runs `f` when the access is served, and answers an address error otherwise. -/
def State.csrAccess (s : State) (ag : Agent) (a width : Nat) (write : Bool) (f : State → State) : State :=
  match s.csrPath ag a width with
  | .served => f { s with answer := .none }
  | .error => s.addressError ag a write
  | .silent => { s with answer := .addressError }

/-! ### Writes by access code (R14) -/

/-- The bits that an access of `width` bytes at byte offset `off` of a register reaches. -/
def accessMask (off width : Nat) : W64 := fldMask (8 * (off + width) - 1) (8 * off)

/-- One field after a write of `w` under a mask, by its access code (R14, R15). -/
def Fld.write (f : Fld) (old w mask : W64) : W64 :=
  let m := fldMask f.hi f.lo &&& mask
  match f.acc with
  | .rw => (old &&& ~~~ m) ||| (w &&& m)
  | .w1c => old &&& ~~~ (w &&& m)
  | .w1s => old ||| (w &&& m)
  | .ro => old
  | .rc => old
  | .wo => old

/-- Fields whose rule ignores a value outside a range, the old value staying: register name, bits and range
(R290, R370, R422, R454). -/
def fieldRanges : List (String × Nat × Nat × Nat × Nat) :=
  [("PRT_RETRY", 15, 0, 1000, 65535), ("PRT_RETRY", 23, 16, 10, 120), ("PRT_QUIET", 31, 16, 1, 65535),
   ("STK_HEAT_CTRL", 16, 0, 100, 100000), ("RTR_E2E", 8, 0, 1, 256), ("RTR_E2E", 23, 16, 1, 255),
   ("RTR_E2E", 27, 24, 1, 15), ("RTR_CC", 7, 0, 1, 64), ("RTR_CC", 11, 8, 1, 8), ("RTR_CC", 19, 12, 1, 255),
   ("CLX_CTRL", 15, 0, 1, 65535)]

/-- A register after a write of `w` under a mask: each field by its access code, and a field whose new value falls
outside its range keeps its old value. -/
def RegDef.write (d : RegDef) (old w mask : W64) : W64 :=
  let v := d.flds.foldl (fun v f => f.write v w mask) old
  fieldRanges.foldl (fun v r =>
    if r.1 = d.name ∧ ¬ (r.2.2.2.1 ≤ fld v r.2.1 r.2.2.1 ∧ fld v r.2.1 r.2.2.1 ≤ r.2.2.2.2)
    then setFld v r.2.1 r.2.2.1 (fld old r.2.1 r.2.2.1) else v) v

/-- Whether a register's rule lets an agent write it. -/
def RegDef.mayWrite (d : RegDef) (ag : Agent) : Bool :=
  d.writers.isEmpty || d.writers.any (fun k => match k, ag with
    | .sec, .sec => true
    | .pmc, .pmc => true
    | .sch, .sch => true
    | .fab, .fab => true
    | .pf0, .host _ f => f.val == 0
    | _, _ => false)

/-! ### Complement-protected registers (R17, R643, R645) -/

/-- The event class digit of a mismatch, by block (R645). -/
def cpClass (a : Nat) : Nat :=
  match csrBlockOf a with
  | some (b, _) =>
    if b = Blk.pmc then 0x1 else if b = Blk.hub then 0x3 else if b = Blk.rtr then 0x5
    else if b = Blk.sec then 0x7 else 0x8
  | none => 0x8

/-- The offset of a register within its block. -/
def blockOffset (a : Nat) : Nat :=
  match csrBlockOf a with
  | some (b, _) => a - b
  | none => a

/-- A mismatch at a companion (R645): the pending value is discarded, event 0xkF1 is recorded with the register's offset,
the writer's number, and whether a pending value was missing (R671). -/
def State.cpMismatch (s : State) (ag : Agent) (a : Nat) : State :=
  let missing := (s.cpPend.get a).isNone
  { s with cpPend := s.cpPend.set a none }.event (cpClass a * 0x100 + 0xF1) .none
    (blockOffset a % 2 ^ 32 + ag.num * 2 ^ 32 + b2n missing * 2 ^ 40) (agent := ag.num)

/-- A write to a -CP register places a pending value and leaves the value in force (R17): a 32-bit write to a 64-bit
register sets its half, and takes the other half from the pending value, or from the value in force when none exists. Every
match made so far is cancelled, and the writer becomes the owner. -/
def State.cpWrite (s : State) (ag : Agent) (a off width : Nat) (v : W64) : State :=
  let m := accessMask off width
  let base := match s.cpPend.get a with | some p => p.value | none => s.rd a
  { s with cpPend := s.cpPend.set a (some { value := (base &&& ~~~ m) ||| ((v <<< (8 * off)) &&& m), owner := ag.num }) }

/-- What a companion write does (R17). -/
inductive CpOutcome where
  | mismatch
  | half
  | complete (v : W64)
deriving DecidableEq, Repr

/-- The judgement of a companion write of `v`, `width` bytes at byte offset `off` of the companion of a register of
`regBytes` bytes (R17). -/
def cpJudge (p : Option CpPending) (ag : Agent) (regBytes off width : Nat) (v : W64) : CpOutcome × Option CpPending :=
  match p with
  | none => (.mismatch, none)
  | some p =>
    let m := accessMask off width
    if p.owner ≠ ag.num ∨ (v <<< (8 * off)) &&& m ≠ ~~~ p.value &&& m then (.mismatch, none)
    else
      let lo := p.loMatched || decide (off = 0)
      let hi := p.hiMatched || decide (off = 4) || decide (width = 8) || decide (regBytes = 4)
      if lo && hi then (.complete p.value, none)
      else (.half, some { p with loMatched := lo, hiMatched := hi })

/-- A protected value takes effect and is usable again. -/
def State.cpCommit (s : State) (a : Nat) (v : W64) : State :=
  { s with csr := s.csr.set a v, cpPend := s.cpPend.set a none, cpBad := s.cpBad.set a false }

/-- A companion write, with what the completed value does. -/
def State.cpCompanion (s : State) (ag : Agent) (a regBytes off width : Nat) (v : W64)
    (done : State → W64 → State) : State :=
  match cpJudge (s.cpPend.get a) ag regBytes off width v with
  | (.mismatch, _) => s.cpMismatch ag a
  | (.half, p) => { s with cpPend := s.cpPend.set a p }
  | (.complete w, _) => done { s with cpPend := s.cpPend.set a none } w

/-- Whether the protected value at `a` can be used (R643). -/
def State.cpOk (s : State) (a : Nat) : Bool := !s.cpBad.get a

end Sys2Proof.Machine
end

