-- ==== Sys2Proof/Machine/Recorder.lean ====
section
/-!
DEFINITION. The event recorder, the fault history and the operating time (16_integrity_faults_recorder.md, R653 to R669):
the readable ring, the reader's window, and the commands of the recorder.
-/
namespace Sys2Proof.Machine

/-- Sequence numbers run modulo 2^32 - 1: 0xFFFF_FFFF is never used (R662). -/
def seqMod : Nat := 2 ^ 32 - 1

/-- The sequence number after `q` (R662). -/
def seqNext (q : Nat) : Nat := (q + 1) % seqMod

/-- Serial order of sequence numbers: `a` is at or above `b` (R664). -/
def seqGe (a b : Nat) : Bool := decide ((a + seqMod - b % seqMod) % seqMod < 2 ^ 31)

/-- The readable ring: the flash copy with the crust's last record in place of its own flash copy, or after it. -/
def Recorder.ring (r : Recorder) : List Record :=
  match r.crust with
  | none => r.flash
  | some c => (r.flash.filter (fun x => x.seq ≠ c.seq) ++ [c])

/-- A record as its eight 32-bit words (R660), the check word chosen so that the words sum to 0 modulo 2^32. -/
def Record.words (r : Record) : List Nat :=
  let part := match r.ev.part with | some p => (p % 4) * 2 ^ 24 + 2 ^ 31 | none => 0
  let w0 := r.ev.code % 2 ^ 16 + (r.ev.agent % 256) * 2 ^ 16 + part
  let w1 := r.ev.unit.code + (r.repeats % 2 ^ 16) * 2 ^ 16
  let w2 := r.time % 2 ^ 32
  let w3 := (r.time / 2 ^ 32) % 256 + (r.cycle % 2 ^ 24) * 256
  let w4 := r.ev.detail.toNat % 2 ^ 32
  let w5 := r.ev.detail.toNat / 2 ^ 32
  let w6 := r.seq % 2 ^ 32
  let sum := (w0 + w1 + w2 + w3 + w4 + w5 + w6) % 2 ^ 32
  [w0, w1, w2, w3, w4, w5, w6, (2 ^ 32 - sum) % 2 ^ 32]

/-- Whether a record's class is one the recorder may write (R27). -/
def eventClassOk (e : Event) : Bool := decide (1 ≤ e.name / 256) && decide (e.name / 256 ≤ 0xB)

/-- The new record of an event: the flash copy of the previous record is complete, the new one stands in the crust, and
the ring keeps its newest 16,384 records (R662, R663). -/
def Recorder.append (r : Recorder) (q : QueuedEvent) : Recorder :=
  let old := r.ring
  let kept := if old.length < 16384 then old else old.drop (old.length - 16383)
  { r with
    flash := kept
    crust := some { ev := q.ev, repeats := 0, time := q.time, cycle := r.cycles, seq := r.nextSeq }
    nextSeq := seqNext r.nextSeq
    lastWrite := r.opTime
    partStart := match q.ev.part with
      | some p => if q.ev.name = 0x701 then r.partStart.set p (some r.nextSeq) else r.partStart
      | none => r.partStart }

/-- What the recorder does with the oldest event of its queue (R662): an event identical to the last record increments its
repeat count, up to 0xFFFF, and changes neither time nor seq; any other writes a new record. -/
def Recorder.take (r : Recorder) (q : QueuedEvent) : Recorder :=
  match r.crust with
  | some c =>
    if c.ev = q.ev then { r with crust := some { c with repeats := satAdd 0xFFFF c.repeats 1 } } else r.append q
  | none =>
    match r.flash.getLast? with
    | some l =>
      if l.ev = q.ev then { r with crust := some { l with repeats := satAdd 0xFFFF l.repeats 1 } } else r.append q
    | none => r.append q

/-- EVENT_RECORD (R662): the recorder takes the oldest event of its queue. The record of event 0x70F ends a clear
(R667). With an empty queue nothing is recorded. -/
def execEventRecord (s : State) : Result :=
  match s.rcd.queue with
  | [] => .next s
  | q :: rest =>
    let r := { s.rcd with queue := rest }.take q
    .next { s with rcd := if q.ev.name = 0x70F then { r with clearing := none } else r }

/-- LOST_EVENTS_REPORT (R663): once the queue has room, event 0xA0E with the number lost since the previous 0xA0E and the
running total. -/
def execLostEventsReport (s : State) : Result :=
  if s.rcd.lostSince = 0 ∨ 256 ≤ s.rcd.queue.length then .next s
  else
    .next ({ s with rcd := { s.rcd with lostSince := 0 } }.event 0xA0E .none
      (s.rcd.lostSince % 2 ^ 32 + s.rcd.lost * 2 ^ 32))

/-- The flash copy of the last record follows it (R662). -/
def Recorder.sync (r : Recorder) : Recorder := { r with flash := r.ring }

/-- RECORD_FLASH_SYNC (R662): within 10 ms of a change, the flash holds the last record as the crust does. -/
def execRecordFlashSync (s : State) : Result := .next { s with rcd := s.rcd.sync }

/-- FAULT_HISTORY_WRITE (R653): the SEC writes the history over the older of the two copies, with the next sequence
number. -/
def execFaultHistoryWrite (s : State) : Result :=
  let r := s.rcd
  let next : HistoryCopy := { seq := max r.copyA.seq r.copyB.seq + 1, times := r.history }
  .next { s with rcd := if r.copyA.seq ≤ r.copyB.seq then { r with copyA := next } else { r with copyB := next } }

/-- OPERATING_HOUR_MARK (R658): 3,600 s of operating time have passed with no other record: event 0xA0D with the operating
hours. Operating time counts while H.A is on. -/
def execOperatingHourMark (s : State) : Result :=
  let t := (s.rcd.lastWrite + 3600) % 2 ^ 40
  .next (if !s.pwr.vaux then { s with answer := .none } else { s with rcd := { s.rcd with opTime := t, lastWrite := t } }.event 0xA0D .none (t / 3600 % 2 ^ 32))

/-! ### Readers -/

/-- The seq of the oldest readable record, or of the next record when there is none. -/
def Recorder.oldest (r : Recorder) : Nat :=
  match r.ring.head? with
  | some x => x.seq
  | none => r.nextSeq

/-- The seq of the newest readable record, or of the one before the next when there is none. -/
def Recorder.newest (r : Recorder) : Nat :=
  match r.ring.getLast? with
  | some x => x.seq
  | none => (r.nextSeq + seqMod - 1) % seqMod

/-- The records a virtual function of partition `p` sees (R665). -/
def Recorder.visibleTo (r : Recorder) (p : Nat) : List Record :=
  match r.partStart.get p with
  | none => []
  | some start => r.ring.filter (fun x =>
      seqGe x.seq start &&
        (decide (x.ev.part = some p) || [0x102, 0x103, 0x203, 0x204].contains x.ev.name))

/-- The window of eight records that a cursor places on the visible records (R664). -/
def Recorder.window (r : Recorder) (visible : List Record) (cursor : Nat) : List Record :=
  if cursor = 0xFFFFFFFF then visible.drop (visible.length - 8)
  else
    let cur := if seqGe cursor r.oldest && seqGe (seqNext r.newest) cursor then cursor else r.oldest
    (visible.filter (fun x => seqGe x.seq cur)).take 8

/-- The 256 bytes of a window: slots 0 to 7, an empty slot all zero (R661, R664). -/
def windowBytes (w : List Record) : List Byte :=
  (List.range 8).flatMap (fun i => match w[i]? with
    | some r => r.words.flatMap (leBytes 4)
    | none => List.replicate 32 0)

/-- The window instance of a reader (R665). -/
def readerWindow : Agent → Option Nat
  | .sec => some 0
  | .pmc => some 1
  | .sch => some 2
  | .fab => some 3
  | .host h f => if f.val = 0 then some (4 + h.val) else none
  | _ => none

/-- REC_STATUS, REC_OLDEST and REC_OPTIME as the ring and the counts give them (R669). -/
def State.recStatus (s : State) (owner : Bool) : W64 :=
  let r := s.rcd
  setFld (setFld (setFld (setFld 0 14 0 r.ring.length) 16 16 owner.toNat) 17 17 (b2n r.clearing.isSome)) 63 32 r.newest

@[inherit_doc State.recStatus]
def State.recOldest (s : State) : W64 := setFld (setFld 0 31 0 s.rcd.oldest) 63 32 s.rcd.lost

@[inherit_doc State.recStatus]
def State.recOptime (s : State) : W64 := setFld (setFld 0 39 0 s.rcd.opTime) 63 40 s.rcd.cycles

/-- REC_CURSOR_WRITE (R664, R668): a reader positions its own window; an access to another reader's instance writes
nothing. -/
def execRecCursorWrite (ag : Agent) (w : Fin 6) (v : W32) (s : State) : Result :=
  .next (s.cond (decide (readerWindow ag = some w.val)) (·.wr (Reg.recCursor w.val) (v.setWidth 64)))

/-! ### The fault history -/

/-- The key of a cluster in the fault history. -/
def histCluster (c : Nat) : Nat := c

/-- The key of a pseudo-channel in the fault history. -/
def histPc (n p : Nat) : Nat := 64 + 64 * n + p

/-- Whether a new occurrence of a unit falls within 24 operating hours of the stored one (R653: less than 86,400 s). -/
def Recorder.withinDay (r : Recorder) (key : Nat) : Bool :=
  match r.history.get key with
  | some t => decide (r.opTime - t < 86400)
  | none => false

/-- A counted occurrence becomes the unit's most recent one (R653). -/
def Recorder.occur (r : Recorder) (key : Nat) : Recorder :=
  { r with history := r.history.set key (some r.opTime) }

/-- The newer valid copy of the history; with no valid copy it starts empty (R653). -/
def Recorder.historyFromFlash (r : Recorder) : Tbl (Option Nat) :=
  if r.copyA.seq = 0 ∧ r.copyB.seq = 0 then []
  else if r.copyB.seq < r.copyA.seq then r.copyA.times else r.copyB.times

/-- What the recorder is after a cold reset (R609, R658): the ring in flash, with operating time and power-cycle count
resumed from the largest of any readable record; the queue, the lost counts and a clear in progress are gone. -/
def Recorder.coldReset (r : Recorder) : Recorder :=
  let best := fun (f : Record → Nat) => r.flash.foldl (fun m x => max m (f x)) 0
  { r with
    crust := none
    queue := []
    lost := 0
    lostSince := 0
    clearing := none
    opTime := best Record.time
    lastWrite := best Record.time
    cycles := best Record.cycle
    nextSeq := match r.flash.getLast? with | some x => seqNext x.seq | none => r.nextSeq
    history := r.historyFromFlash }

end Sys2Proof.Machine
end

