-- ==== Sys2Proof/Machine/Mem.lean ====
section
/-!
DEFINITION. Device memory by DPA (R19), tile checks (R204 to R207, R646 to R649), store and stack errors (R208, R243) and
handle translation (R249 to R258). A stored check is kept as its difference from the CRC of the stored bytes: by R205 a
partial write leaves that difference as it was, and by R207 a write of the whole tile makes it 0.
-/
namespace Sys2Proof.Machine

/-! ### The map of memory (R19) -/

/-- The canonical form of memory: addresses strictly rising, and no entry equal to 0, what an unlisted byte reads as. -/
def Memory.wf (m : List Host.Cell) : Bool := Tbl.wf (α := Byte) m

/-- DPA of the cluster store of physical cluster `c`. -/
def clusterStore (c : Nat) : Nat := 0x010000000000 + c * 0x2000000

/-- DPA of the cell store of cell `k` of physical cluster `c`. -/
def cellStore (c k : Nat) : Nat := 0x010000000000 + c * 0x2000000 + 0x800000 + k * 0x100000

/-- DPA of frame `f` of stack `n` (R241). -/
def frameDpa (n f : Nat) : Nat := n * 0x1000000000 + f * 0x200000

/-- One bit step of the CRC-32C, reflected (R646). -/
def crcStep (c : Nat) : Nat := (c / 2) ^^^ (if c % 2 = 1 then 0x82F63B78 else 0)

/-- The CRC-32C of one byte more, eight bit steps (R646). -/
def crcByte (crc b : Nat) : Nat :=
  crcStep (crcStep (crcStep (crcStep (crcStep (crcStep (crcStep (crcStep (crc ^^^ b))))))))

/-- CRC-32C as the tile check takes it (R646): initial value and final XOR 0xFFFF_FFFF. -/
def crc32c (bs : List Byte) : Nat := (bs.foldl (fun c b => crcByte c b.toNat) 0xFFFFFFFF) ^^^ 0xFFFFFFFF

/-! ### Bytes -/

/-- The `n` bytes from `a` on as one little-endian number. -/
def memNat (m : List Host.Cell) (a n : Nat) : Nat :=
  m.foldl (fun x e => if a ≤ e.1 ∧ e.1 < a + n then x + e.2.toNat * 2 ^ (8 * (e.1 - a)) else x) 0

/-- The `n` bytes from DPA `a` on, as a number. -/
def State.readNat (s : State) (a n : Nat) : Nat := memNat s.mem a n

/-- The `n` bytes from DPA `a` on. -/
def State.readBytes (s : State) (a n : Nat) : List Byte := leBytes n (s.readNat a n)

/-- Tile numbers that an extent touches. -/
def tilesOf (a n : Nat) : List Nat :=
  if n = 0 then [] else (List.range ((a + n - 1) / 4096 - a / 4096 + 1)).map (fun j => a / 4096 + j)

/-- Units of `size` bytes that an extent covers whole: from the first to past the last. -/
def wholeUnits (size a n : Nat) : Nat × Nat := ((a + size - 1) / size, (a + n) / size)

/-- A table with the entries of a half-open range of keys removed; unchanged when the range is empty. -/
def Tbl.clearRange {α : Type} (m : Tbl α) (r : Nat × Nat) : Tbl α := if r.1 < r.2 then m.clear r.1 r.2 else m

/-- The key under which the error of a tile's stored check stands among the store words in error (R208). -/
def checkKey (t : Nat) : Nat := 2 ^ 48 + t

/-- The tile that a store word in error, or a stored check in error, belongs to. -/
def errTile (k : Nat) : Nat := if checkKey 0 ≤ k then k - checkKey 0 else k / 512

/-- The errors of store words after a write (R207, R208): words written whole are no longer in error; a tile that lost an uncorrectable
word to a write of part of it has no good check (4) until it is written whole, nor has one whose stored check was uncorrectable. -/
def wordsWritten (m : Tbl Nat) (a n : Nat) : Tbl Nat :=
  let r := wholeUnits 8 a n
  let w := wholeUnits 4096 a n
  let bad := m.filter (fun e => decide (2 ≤ e.2) &&
    (decide (r.1 ≤ e.1 ∧ e.1 < r.2) || (decide (checkKey 0 ≤ e.1) && (tilesOf a n).contains (errTile e.1))))
  ((m.clearRange r).addAll (bad.map (fun e => (checkKey (errTile e.1), 4)))).clearRange (checkKey w.1, checkKey w.2)

/-- A write of bytes at a DPA (R205, R207, R208, R243): a tile written whole gets a valid check, a tile written in part
keeps its difference, and errors of words and lines written whole are gone. -/
def State.writeBytes (s : State) (a : Nat) (bs : List Byte) : State :=
  { s with
    mem := Tbl.setRun s.mem a bs
    syn := s.syn.clearRange (wholeUnits 4096 a bs.length)
    wordErr := wordsWritten s.wordErr a bs.length
    lineErr := s.lineErr.clearRange (wholeUnits 64 a bs.length)
    stackSide := s.stackSide.noteWrite a bs.length }

/-- A write whose bytes carry a check that may not match them: for a tile carried whole, the destination stores the carried
check; for a piece of a tile, its check takes the carried piece's contribution (R648). -/
def State.writeCarried (s : State) (a : Nat) (bs : List Byte) (diff : W32) : State :=
  let s := s.writeBytes a bs
  if diff = 0 then s else { s with syn := s.syn.upd (a / 4096) (· ^^^ diff) }

/-- A range of memory set to zero bytes with valid checks (R201, R262). -/
def State.zeroRange (s : State) (a n : Nat) : State :=
  { s with
    mem := Tbl.clear s.mem a (a + n)
    syn := s.syn.clearRange (a / 4096, (a + n) / 4096)
    wordErr := (s.wordErr.clearRange (a / 8, (a + n) / 8)).clearRange (checkKey (a / 4096), checkKey ((a + n) / 4096))
    lineErr := s.lineErr.clearRange (a / 64, (a + n) / 64) }

/-- Whether a tile holds an uncorrectable line or word, or has no good stored check (R207, R208, R243). -/
def State.tileDead (s : State) (t : Nat) : Bool :=
  s.lineErr.any (fun e => e.1 / 64 = t ∧ 2 ≤ e.2) || s.wordErr.any (fun e => errTile e.1 = t ∧ 2 ≤ e.2)

/-- The difference with which a tile is delivered: the complement of its check when one of its lines is uncorrectable
(R243, R649), and the stored difference otherwise. Every verifier fails the copy of such a tile, so its difference is not 0 even where
the complement would match the bytes. -/
def State.tileDiff (s : State) (t : Nat) : W32 :=
  if s.tileDead t then (if ~~~ s.syn.get t = 0 then 1 else ~~~ s.syn.get t) else s.syn.get t

/-- Whether a tile fails its check when it is read. -/
def State.tileFails (s : State) (t : Nat) : Bool := decide (s.tileDiff t ≠ 0)

/-- Whether any tile of an extent fails its check (R204). -/
def State.extentFails (s : State) (a n : Nat) : Bool := (tilesOf a n).any s.tileFails

/-! ### Complement mismatches at a use (R643, R255, R378) -/

/-- A stored value whose complement does not match is met: it is unusable, and its event is recorded (R643). -/
def State.mismatchAt (s : State) (a : Nat) : State :=
  let s := { s with cpBad := s.cpBad.set a true }
  if Reg.hubDescW0 0 ≤ a ∧ a < Reg.hubSlab 393216 then
    let o := if a < Reg.hubSlab 0 then a - Reg.hubDescW0 0 else a - Reg.hubSlab 0
    let e := if a < Reg.hubSlab 0 then setFld (setFld 0 18 0 (o / 64)) 21 20 (o % 64 / 16)
      else setFld (setFld 0 18 0 (o / 16)) 19 19 1
    let cnt := satAdd (2 ^ 32 - 1) (s.rdF Reg.hubHmapErr 63 32) 1
    let v := setFld (setFld e 31 31 1) 63 32 cnt
    (s.wr Reg.hubHmapErr v).event 0x302 .none v.toNat
  else if Reg.rtrRoute 0 0 ≤ a ∧ a < Reg.rtrRoute 2 0 then
    let b := (a - Reg.rtrRoute 0 0) / 0x200000
    let x := (a - Reg.rtrRoute 0 0) % 0x200000 / 16
    let cnt := satAdd (2 ^ 32 - 1) (s.rdF Reg.rtrRtErr 63 32) 1
    let v := setFld (setFld (setFld (setFld 0 16 0 x) 17 17 b) 31 31 1) 63 32 cnt
    (s.wr Reg.rtrRtErr v).event 0x502
  else if Reg.rtrDomain 0 ≤ a ∧ a ≤ Reg.rtrDomain 3 then s.event 0x506 .none ((a - Reg.rtrDomain 0) / 8)
  else if a = Reg.pmcLimit then s.event 0x109
  else if a = Reg.secPartMap then s.event 0x70E
  else if Reg.secKslot 0 ≤ a ∧ a ≤ Reg.secKslot 15 then
    let k := (a - Reg.secKslot 0) / 16
    let s := { s with sec := { s.sec with keys := s.sec.keys.set k none, loads := s.sec.loads.set k none } }
    let s := (s.cpCommit a (setFld (s.rd a) 1 0 2)).wrB (Reg.secPartState (k / 4)) (16 + k % 4) true
    s.event 0x70E .none k (some (k / 4))
  else s

/-- The stored values that show a mismatch while a command runs. -/
def State.mismatches (s : State) (l : List Nat) : State := s.each l State.mismatchAt

/-! ### Errors in the stores (R208) -/

/-- Errors that arise in the arrays: a store word, the stored check of a store tile, a stack line, or a protected register whose stored
complement no longer matches when the command uses it (R255, R643). -/
def State.upset (s : State) (us : List MemUpset) : State :=
  s.each us (fun s u =>
    let v := if u.fatal then 2 else 1
    if Blk.hub ≤ u.dpa then
      (match findReg u.dpa with
      | some (d, r, 0) => if d.cp then s.mismatchAt r else s
      | _ => s)
    else
    if clusterStore 0 ≤ u.dpa then
      { s with wordErr := s.wordErr.upd (if u.check then checkKey (u.dpa / 4096) else u.dpa / 8) (max v) }
    else { s with lineErr := s.lineErr.upd (u.dpa / 64) (max v) })

/-- The physical cluster and the cell (16: the cluster store) that a store DPA lies in. -/
def storePlace (a : Nat) : Nat × Nat :=
  let c := (a - clusterStore 0) / 0x2000000
  let o := (a - clusterStore 0) % 0x2000000
  (c, if o < 0x800000 then 16 else (o - 0x800000) / 0x100000)

/-- The offset of a DPA within its store. -/
def storeOffset (a : Nat) : Nat :=
  let o := (a - clusterStore 0) % 0x2000000
  if o < 0x800000 then o else (o - 0x800000) % 0x100000

/-- A cluster retires in operation (R652, R655, R142): the SEC blows its fuse, the fact waits for the next floor-plan
update, and event 0x610 names the cause. -/
def State.retireCluster (s : State) (c cause : Nat) : State :=
  if (s.clusters.get c).fieldRetired then s
  else
    { s with
      clusters := s.clusters.upd c (fun f => { f with fieldRetired := true })
      rcd := { s.rcd with fuseClusters := s.rcd.fuseClusters ||| 2 ^ c } }.event 0x610 (.cluster c) cause

/-- The DPA of a store word in error, or of the tile whose stored check is in error. -/
def errDpa (k : Nat) : Nat := if checkKey 0 ≤ k then errTile k * 4096 else 8 * k

/-- The value of CLU_ECC_LAST for an error at a store DPA (R236). -/
def eccLast (a : Nat) : W64 :=
  let k := (storePlace a).2
  setFld (setFld (setFld (setFld 0 22 0 (storeOffset a)) 27 24 (if k = 16 then 0 else k)) 28 28 (b2n (decide (k = 16)))) 31 31 1

/-- An uncorrectable store word is counted and recorded (R208, R236), and counted towards retirement once until it is rewritten (R653); a
second one of the cluster within 24 operating hours retires the cluster. -/
def State.storeUncorrectable (s : State) (w : Nat) : State :=
  let c := (storePlace (errDpa w)).1
  let key := histCluster c
  let again := s.rcd.withinDay key
  let s := (s.count (Reg.cluEccUe c) 1).wr (Reg.cluEccLast c) (eccLast (errDpa w))
  if s.wordErr.get w = 3 then s
  else
    let s := { s with wordErr := s.wordErr.set w 3, rcd := s.rcd.occur key }
    if again then s.retireCluster c 1 else s

/-- What reading whole tiles of a store does to words and stored checks in error (R204, R208): a single-bit error is corrected, written
back and counted; an uncorrectable one is counted. -/
def State.scrubStore (s : State) (a n : Nat) : State :=
  let hits := s.wordErr.filter (fun e => (tilesOf a n).contains (errTile e.1))
  s.each hits (fun s e =>
    if e.2 = 1 then
      { s with wordErr := s.wordErr.set e.1 0 }.count (Reg.cluEccCe (storePlace (errDpa e.1)).1) 1
    else if e.2 = 4 then s
    else s.storeUncorrectable e.1)

/-- The detail of event 0x303 for a place in a store (R671). -/
def checkDetailStore (verifier a : Nat) : Nat :=
  let (c, k) := storePlace a
  verifier + (if k = 16 then 1 else 0) * 16 + (if k = 16 then 0 else k) * 64 + c * 1024 + (storeOffset a / 4096) * 2 ^ 32

/-- The detail of event 0x303 for a place in a handle region (R671). -/
def checkDetailHandle (verifier h off : Nat) : Nat :=
  verifier + 2 * 16 + (h % 2 ^ 24) * 64 + (off / 4096 % 2 ^ 32) * 2 ^ 32

/-- Event 0x303 for a failed tile of a store. -/
def State.checkFailedStore (s : State) (verifier a : Nat) (part : Option Nat) : State :=
  s.event 0x303 (.cluster (storePlace a).1) (checkDetailStore verifier a) part

/-- Event 0x303 for a failed tile of a handle region. -/
def State.checkFailedHandle (s : State) (verifier h off : Nat) (part : Option Nat) : State :=
  s.event 0x303 .none (checkDetailHandle verifier h off) part

/-! ### Handle translation (R249 to R258) -/

/-- The descriptor index of a handle ID (R249). -/
def handleIndex (h : Nat) : Nat := h % 2 ^ 16

/-- The generation of a handle ID (R249). -/
def handleGen (h : Nat) : Nat := h / 2 ^ 16 % 2 ^ 8

/-- Whether the words of a descriptor can be used (R255). -/
def State.descUsable (s : State) (x : Nat) : Bool :=
  s.cpOk (Reg.hubDescW0 x) && s.cpOk (Reg.hubDescW1 x) && s.cpOk (Reg.hubDescW2 x) && s.cpOk (Reg.hubDescW3 x)

/-- Checks 1 to 3 of R256, with the system check of R251. -/
def State.handleOwned (s : State) (u : HandleUser) (h : Nat) : Bool :=
  let w0 := s.rd (Reg.hubDescW0 (handleIndex h))
  s.descUsable (handleIndex h) && bitOf w0 0 && decide (fld w0 11 4 = handleGen h) && decide (handleGen h ≠ 0)
    && (match u with | .system => true | _ => !bitOf w0 1)
    && (match u.part with | some p => decide (fld w0 3 2 = p) | none => true)

/-- The access bit of R256 check 4 for a user and a direction. The partition's own engines may always read. -/
def State.handleAccess (s : State) (u : HandleUser) (h : Nat) (write : Bool) : Bool :=
  let w0 := s.rd (Reg.hubDescW0 (handleIndex h))
  match u with
  | .engine _ => !write || bitOf w0 12
  | .host _ => if write then bitOf w0 14 else bitOf w0 13
  | .remote _ => if write then bitOf w0 16 else bitOf w0 15
  | .system => true

/-- Bytes of a handle: S slabs of 2 MiB. -/
def State.handleBytes (s : State) (h : Nat) : Nat := s.rdF (Reg.hubDescW0 (handleIndex h)) 50 32 * 0x200000

/-- All checks of R256. -/
def State.handleOk (s : State) (u : HandleUser) (h off len : Nat) (write : Bool) : Bool :=
  s.handleOwned u h && s.handleAccess u h write && decide (off + len ≤ s.handleBytes h)

/-- The slab entry that holds a tile of a handle, and the tile's index in its slab (R257). -/
def State.slabOf (s : State) (h off : Nat) : Nat × Nat :=
  let x := handleIndex h
  let j := off / 4096
  let w := 2 ^ s.rdF (Reg.hubDescW0 x) 20 18
  (s.rdF (Reg.hubDescW2 x) 18 0 + j / (512 * w) * w + j % w, j / w % 512)

/-- Whether the uncore of die `d` has its supply: at least one quadrant of the die is on (R51). -/
def State.uncoreOn (s : State) (d : Nat) : Bool := (List.range 4).any (fun i => s.domOn (4 * d + i))

/-- Whether stack `n` serves requests: its domain is on, and its die's uncore, through which every path to it leads (R31), is on; a
stack in self-refresh serves none (R53). -/
def State.stackServes (s : State) (n : Nat) : Bool :=
  s.domOn (stackDomain n) && s.uncoreOn (n / 3) && decide (s.rdF (Reg.stkStatus n) 2 0 ≠ 4)

/-- The DPA of a byte of a handle (R257), where its slab entry is valid and usable (R255). -/
def State.slabDpa (s : State) (h off : Nat) : Option Nat :=
  let (y, t) := s.slabOf h off
  let e := s.rd (Reg.hubSlab y)
  if bitOf e 0 && s.cpOk (Reg.hubSlab y) then some (frameDpa (fld e 4 1) (fld e 19 5) + t * 4096 + off % 4096) else none

/-- The DPA of a byte of a handle whose stack serves requests. -/
def State.translate (s : State) (h off : Nat) : Option Nat :=
  (s.slabDpa h off).filter (fun a => s.stackServes (a / 0x1000000000))

/-- The pieces of an extent of a handle, each within one tile: offset, length. The fuel bounds the number of tiles. -/
def extentPieces : Nat → Nat → Nat → List (Nat × Nat)
  | 0, _, _ => []
  | fuel + 1, off, n =>
    if n = 0 then []
    else
      let k := min n (4096 - off % 4096)
      (off, k) :: extentPieces fuel (off + k) (n - k)

/-- The pieces of an extent of DPAs, each within one 64-byte line, as (address, length). -/
def piecesOfLine (a n : Nat) : List (Nat × Nat) :=
  if n = 0 then []
  else (List.range ((a + n - 1) / 64 - a / 64 + 1)).map (fun j =>
    let lo := max a ((a / 64 + j) * 64)
    (lo, min (a + n) ((a / 64 + j + 1) * 64) - lo))

/-- The pieces of an extent, in order. -/
def piecesOf (off n : Nat) : List (Nat × Nat) := extentPieces (n / 4096 + 2) off n

/-- Reads an extent of a handle: the bytes, and the offset of the first tile that fails its check. `none` when a tile does
not translate. -/
def State.handleRead (s : State) (h off n : Nat) : Option (List Byte × Option Nat) :=
  (piecesOf off n).foldl (fun acc p =>
    match acc, s.translate h p.1 with
    | some (bs, bad), some a =>
      some (bs ++ s.readBytes a p.2, match bad with | some b => some b | none => if s.tileFails (a / 4096) then some p.1 else none)
    | _, _ => none) (some ([], none))

/-- Writes bytes to an extent of a handle, tile by tile. `none` when a tile does not translate. -/
def State.handleWrite (s : State) (h off : Nat) (bs : List Byte) : Option State :=
  (piecesOf off bs.length).foldl (fun acc p =>
    match acc with
    | some (s, rest) =>
      match s.translate h p.1 with
      | some a => some (s.writeBytes a (rest.take p.2), rest.drop p.2)
      | none => none
    | none => none) (some (s, bs)) |>.map Prod.fst

end Sys2Proof.Machine
end

