-- ==== Sys2Proof/Machine/Operands.lean ====
section
/-!
DEFINITION. The operand forms of Eusel operations: the gang and the virtual floor (R136, R137, R140, R143), the selection
of engine instances (R162 to R164), operand references to stores (R166, R167), generators (R107) and reading a store operand
with its tile checks (R204, R206).
-/
namespace Sys2Proof.Machine

/-! ### Sequencers and gangs -/

/-- The sequencer state of the gang led by die `q`. -/
def State.seq (s : State) (q : Nat) : Seq := s.seqs.get q

/-- Changes the sequencer state of the gang led by `q`. -/
def State.updSeq (s : State) (q : Nat) (f : Seq → Seq) : State := { s with seqs := s.seqs.upd q f }

/-- The dies of the gang led by `q`, ascending (R143, R154). -/
def State.gang (s : State) (q : Nat) : List Nat := bitsSet (s.rdF (Reg.seqStatus q) 19 16) 4

/-- The lead of the gang that die `d` belongs to (R154). -/
def State.leadOf (s : State) (d : Nat) : Nat := s.rdF (Reg.seqStatus d) 13 12

/-- The partition that die `d` belongs to (R575). -/
def State.partOfDie (s : State) (d : Nat) : Nat := s.rdF Reg.secPartMap (2 * d + 1) (2 * d)

/-- The state of a sequencer, SEQ_STATUS.state (R154). -/
def State.seqState (s : State) (q : Nat) : Nat := s.rdF (Reg.seqStatus q) 3 0

/-- The partition's step counter (R156). -/
def State.stepOf (s : State) (q : Nat) : Nat := (s.rd (Reg.seqStep q)).toNat

/-- The byte offset of the current bundle (R156). -/
def State.pcOf (s : State) (q : Nat) : Nat := s.rdF (Reg.seqPc q) 31 0

/-- A scalar register as every operation that issues at this step reads it (R160, R179). -/
def State.sreg (s : State) (q r : Nat) : W64 := (s.seq q).before.get r

/-- Writes a scalar register; the next bundle sees it (R160). -/
def State.setSreg (s : State) (q r : Nat) (v : W64) : State :=
  s.updSeq q (fun z => { z with sregs := z.sregs.set r v })

/-- A group register as every slot of the current step reads it (R160, R165). -/
def State.greg (s : State) (q g : Nat) : W64 := (s.seq q).groupsBefore.get g

/-- The physical cluster that virtual cluster `u` of the gang is bound to (R136, R140). -/
def State.physCluster (s : State) (q u : Nat) : Nat :=
  let d := (s.gang q)[u / 15]?.getD 0
  16 * d + s.rdF (Reg.seqVbind d) (4 * (u % 15) + 3) (4 * (u % 15))

/-! ### Selection of instances (R162, R163) -/

/-- The virtual clusters that gmode and gsel choose; `none` when they break R162. -/
def State.selClusters (s : State) (q gmode gsel : Nat) : Option (List Nat) :=
  let n := (s.gang q).length
  match gmode with
  | 0 => if gsel < 15 * n then some [gsel] else none
  | 1 => if gsel < n then some ((List.range 15).map (fun j => 15 * gsel + j)) else none
  | 2 => if gsel = 0 then some (List.range (15 * n)) else none
  | _ =>
    if gsel < 16 then
      let l := bitsSet (s.greg q gsel).toNat (15 * n)
      if l = [] then none else some l
    else none

/-- The instances that csel chooses in a cluster: a cell, or the number of a stream engine; `none` when it breaks R163. -/
def selCells (cls csel : Nat) : Option (List Nat) :=
  if cls = 0x1 ∨ cls = 0x2 then
    if csel < 16 then some [csel] else if csel = 16 then some (List.range 16) else none
  else if cls = 0xA then (if csel < 2 then some [csel] else none)
  else if csel = 0 then some [0] else none

/-- The instances that a slot addresses, as (u, k) in the order of R164. -/
def State.instances (s : State) (q : Nat) (sl : Slot) : Option (List (Nat × Nat)) :=
  match s.selClusters q sl.gmode sl.gsel, selCells sl.cls sl.csel with
  | some us, some ks => some (us.flatMap (fun u => ks.map (fun k => (u, k))))
  | _, _ => none

/-- The key of an engine instance (R164). -/
def engKey (cls u k : Nat) : Nat := cls * 1024 + u * 16 + k

/-- An engine instance of a gang. -/
def State.engine (s : State) (q cls u k : Nat) : Engine := (s.seq q).engines.get (engKey cls u k)

/-- Changes an engine instance of a gang. -/
def State.updEngine (s : State) (q cls u k : Nat) (f : Engine → Engine) : State :=
  s.updSeq q (fun z => { z with engines := z.engines.upd (engKey cls u k) f })

/-! ### Generators (R107) -/

/-- The address a generator yields. -/
def Generator.address (g : Generator) : Int :=
  (g.index.zip g.strides).foldl (fun a p => a + (p.1 : Int) * p.2) (g.base : Int)

/-- The indices after one advance: an index that reaches its extent returns to 0 and carries into the next. -/
def advanceIndex : List Nat → List Nat → List Nat
  | i :: is, e :: es => if i + 1 < e then (i + 1) :: is else 0 :: advanceIndex is es
  | is, _ => is

/-- One advance of a generator (R107). -/
def Generator.advance (g : Generator) : Generator := { g with index := advanceIndex g.index g.extents }

/-! ### Operand references (R166, R167) -/

/-- Whether an OREF names a generator. -/
def orefIsGen (o : Nat) : Bool := decide (o / 2 ^ 14 = 2)

/-- Whether an OREF names the cluster store. -/
def orefCluster (o : Nat) : Bool := decide (o / 2 ^ 14 = 1) || (orefIsGen o && natBit o 13)

/-- Whether an OREF is well formed: not kind 0b11, and a generator OREF with bits 12:2 zero. -/
def orefWf (o : Nat) : Bool :=
  decide (o / 2 ^ 14 ≠ 3) && (!orefIsGen o || decide (natFld o 2 11 = 0))

/-- The byte address an OREF names in its store, with the generators of a standing order. -/
def orefAddr (ord : Order) (o : Nat) : Int :=
  match o / 2 ^ 14 with
  | 0 => (64 * (o % 2 ^ 14) : Nat)
  | 1 => (512 * (o % 2 ^ 14) : Nat)
  | _ => (ord.gens[o % 4]?.getD {}).address

/-- The generator numbers that a list of OREFs names, each once (R107). -/
def orefGens (os : List Nat) : List Nat := ((os.filter orefIsGen).map (· % 4)).eraseDups

/-- A fault that an operation meets, by its code (R127). -/
structure EngFault where
  code : Nat
  cell : Option Nat := none
deriving DecidableEq, Repr, Inhabited

/-- What an operation carries while it runs: the state, the extents it has read, and the steps of its read window (R202). -/
structure EngSt where
  st : State
  reads : List (Nat × Nat) := []
  ii : Nat := 1

/-- An engine operation: it changes the state and answers its store writes, or meets a fault. -/
abbrev Eng := ExceptT EngFault (StateM EngSt)

/-- The state as an operation finds it. -/
def Eng.state : Eng State := do return (← get).st

/-- Changes the state under an operation. -/
def Eng.change (f : State → State) : Eng Unit := modify (fun e => { e with st := f e.st })

/-- Stops an operation with an address error (R167). -/
def Eng.addressError {α : Type} : Eng α := throw { code := 0x05 }

/-- Stops an operation that the configuration or its shape makes illegal (R210, R195). -/
def Eng.illegal {α : Type} : Eng α := throw { code := 0x02 }

/-- An operand resolved: the DPA of its store, the store's size, and its start address in it. -/
structure Place where
  base : Nat
  size : Nat
  off : Int
deriving DecidableEq, Repr, Inhabited

/-- The place that an OREF names for an engine of virtual cluster `u` and virtual cell `k` (R166). -/
def State.place (s : State) (q : Nat) (ord : Order) (u k o : Nat) : Place :=
  let c := s.physCluster q u
  if orefCluster o then { base := clusterStore c, size := 0x800000, off := orefAddr ord o }
  else { base := cellStore c k, size := 0x100000, off := orefAddr ord o }

/-- Whether an extent of `n` bytes from a place is aligned and inside its store (R167). -/
def Place.ok (p : Place) (n : Nat) : Bool :=
  decide (0 ≤ p.off) && decide (p.off % 64 = 0) && decide (p.off + n ≤ p.size)

/-- The DPA of a place. -/
def Place.dpa (p : Place) : Nat := p.base + p.off.toNat

/-- A place moved by a number of bytes. -/
def Place.shift (p : Place) (d : Int) : Place := { p with off := p.off + d }

/-! ### Races (R203) -/

/-- Whether two half-open extents, given as start and length, share a byte. -/
def extentsMeet (a n b m : Nat) : Bool := decide (a < b + m) && decide (b < a + n) && decide (0 < n) && decide (0 < m)

/-- What a race leaves of one write (R203): each line of it lands or does not, and each tile involved may fail its check.
Both are free. -/
def State.landRacing (s : State) (w : StoreWrite) : State :=
  let s := s.each (piecesOfLine w.addr w.data.length) (fun s p =>
    let (v, s) := s.draw
    if bitOf v 0 then s.writeBytes p.1 ((w.data.drop (p.1 - w.addr)).take p.2) else s)
  s.each (tilesOf w.addr w.data.length) (fun s t =>
    let (v, s) := s.draw
    { s with syn := s.syn.set t (v.setWidth 32) })

/-- A list of `8 k` free bytes. -/
def State.drawBytes (s : State) : Nat → List Byte × State
  | 0 => ([], s)
  | k + 1 =>
    let d := s.draw
    let r := d.2.drawBytes k
    (leBytes 8 d.1.toNat ++ r.1, r.2)

/-- A tile of a store that a transfer under way is to write is read (R118): it holds the old data, or the new data, or it fails its check;
which one is free, and so is the new data of a transfer from the host, which has not answered yet. -/
def State.raceTile (s : State) (op : Nat) (p : DmxPart) (t : Nat) : State :=
  let d := s.draw
  let s := d.2
  let o := p.offset + (4096 * t - p.store)
  let s := if !bitOf d.1 0 then s
    else if op = 6 then let r := s.drawBytes 512; r.2.writeBytes (4096 * t) r.1
    else match s.handleRead p.handle o 4096 with
      | some (bs, _) => s.writeBytes (4096 * t) bs
      | none => s
  if bitOf d.1 1 then { s with syn := s.syn.set t (d.1.extractLsb' 32 32) } else s

/-- An engine reads the destination of a transfer under way before a WAIT covers its token (R118). The tiles of a remote read hold what
has arrived. -/
def State.raceTransfers (s : State) (q a n : Nat) : State :=
  s.each ((s.seq q).transfers.filter (fun t => t.op = 1 ∨ t.op = 3 ∨ t.op = 6)) (fun s t =>
    s.each (t.parts.filter (fun p => extentsMeet p.store (4096 * p.tiles) a n)) (fun s p =>
      s.each ((tilesOf a n).filter (fun x => p.store ≤ 4096 * x ∧ 4096 * x < p.store + 4096 * p.tiles)) (fun s x =>
        if t.op = 3 then
          let d := s.draw
          if bitOf d.1 1 then { d.2 with syn := d.2.syn.set x (d.1.extractLsb' 32 32) } else d.2
        else s.raceTile t.op p x)))

/-- The recipe writes into the source of a transfer under way (R118): the tiles as they were stay known. -/
def State.noteSource (s : State) (q a n : Nat) : State :=
  let note := fun (t : DmxTransfer) (o : Tbl (List Byte)) (x : Nat) =>
    if o.get x = [] ∧ t.parts.any (fun p => extentsMeet p.store (4096 * p.tiles) (4096 * x) 4096) then o.set x (s.readBytes (4096 * x) 4096)
    else o
  s.updSeq q (fun z => { z with transfers := z.transfers.map (fun t =>
    if t.op = 2 ∨ t.op = 4 ∨ t.op = 5 ∨ t.op = 7 then { t with old := (tilesOf a n).foldl (note t) t.old } else t) })

/-- Bytes within one tile of a store as a transfer reads them: of a tile that the recipe has written meanwhile the old data, the new data,
or none because it fails its check (R118). -/
def State.raceBytes (s : State) (old : Tbl (List Byte)) (a n : Nat) : State × Option (List Byte) :=
  match old.get (a / 4096) with
  | [] => (s, if s.tileFails (a / 4096) then none else some (s.readBytes a n))
  | bs =>
    let d := s.draw
    (d.2, if bitOf d.1 1 ∨ s.tileFails (a / 4096) then none
      else some (if bitOf d.1 0 then (bs.drop (a % 4096)).take n else s.readBytes a n))

/-- An operation that reads an extent in the write window of an operation in flight meets a race (R203): lines of the
write may have landed, and the tiles may fail their check; so does one that reads the destination of a transfer (R118). -/
def State.raceRead (s : State) (q ii a n : Nat) : State :=
  let now := s.stepOf q
  let s := s.raceTransfers q a n
  s.each (s.seq q).inFlight (fun s f =>
    if now < f.visibleAt ∧ f.visibleAt < now + ii + f.ii then
      s.each (f.writes.filter (fun w => extentsMeet w.addr w.data.length a n)) State.landRacing
    else s)

/-- Reads an extent of a store operand as a number: the range check of R167, errors corrected and counted (R208), and every
tile verified before use (R204). A failed tile stops the operation with fault 0x01 and event 0x303 (R206, R650). -/
def Eng.read (q : Nat) (p : Place) (n : Nat) (cell : Option Nat := none) : Eng Nat := do
  if !p.ok n then Eng.addressError
  else
    let e ← get
    let s := (e.st.raceRead q e.ii p.dpa n).scrubStore p.dpa n
    set { e with st := s, reads := e.reads ++ [(p.dpa, n)] }
    match (tilesOf p.dpa n).find? s.tileFails with
    | some t =>
      Eng.change (fun s => s.checkFailedStore 1 (t * 4096) (some (s.partOfDie q)))
      throw { code := 0x01, cell := cell }
    | none => return s.readNat p.dpa n

/-- Checks the extent of a result (R167) and answers the write. -/
def Eng.write (p : Place) (bs : List Byte) : Eng (List StoreWrite) :=
  if !p.ok bs.length then Eng.addressError else return [⟨p.dpa, bs⟩]

/-! ### Functions and ports (R490) -/

/-- Key of function `f` of port `h`. -/
def fnKey (h f : Nat) : Nat := 8 * h + f

/-- A function. -/
def State.fn (s : State) (h f : Nat) : HostFn := s.host.fns.get (fnKey h f)

/-- Changes a function. -/
def State.updFn (s : State) (h f : Nat) (g : HostFn → HostFn) : State :=
  { s with host := { s.host with fns := s.host.fns.upd (fnKey h f) g } }

/-- A host port. -/
def State.hport (s : State) (h : Nat) : HostPort := s.host.ports.get h

/-- Changes a host port. -/
def State.updHport (s : State) (h : Nat) (g : HostPort → HostPort) : State :=
  { s with host := { s.host with ports := s.host.ports.upd h g } }

/-- Whether a partition exists in the map (R575). -/
def State.partExists (s : State) (p : Nat) : Bool := s.rdB Reg.secPartMap (16 + p)

/-- The host port of a partition. -/
def State.partPort (s : State) (p : Nat) : Nat := s.rdF Reg.secPartMap (12 + p) (12 + p)

/-- The partition whose function `f` of port `h` is present (R490, R579, R580). -/
def State.fnPart (s : State) (h f : Nat) : Option Nat :=
  if f = 0 then none
  else if s.partExists (f - 1) && s.partPort (f - 1) == h && decide (2 ≤ s.rdF (Reg.secPartState (f - 1)) 2 0) then some (f - 1)
  else none

/-- Whether a function answers the host. -/
def State.fnPresent (s : State) (h f : Nat) : Bool :=
  (s.hport h).up && s.domOn (hostDomain h) &&
    (f == 0 || ((s.hport h).vfEnable && decide (f ≤ (s.hport h).numVfs) && (s.fnPart h f).isSome))

/-- What a command puts on the host links. -/
def State.hostOut (s : State) (l : List HostOut) : State :=
  { s with answer := match s.answer with
    | .host m => .host (m ++ l)
    | _ => .host l }

/-- Whether transfers with host memory of a partition are held (R520, R521): its function has been reset and not negotiated since, or
its bus-master enable is clear. -/
def State.vfHeld (s : State) (part : Nat) : Bool :=
  let h := s.partPort part
  (s.fn h (part + 1)).resetHeld || !(s.hport h).master.get (part + 1)

end Sys2Proof.Machine
end

