-- ==== Sys2Proof/Machine/Flags.lean ====
section
/-!
DEFINITION. The numeric exceptions of the engines (R89) and the counters they land in, on the physical cluster (R233 to
R238): every flag computation the manual gives an engine operation.
-/
namespace Sys2Proof.Machine

/-- How many of a list of results show an exception. -/
def countExc (f : Exc → Bool) (es : List Exc) : Nat := (es.filter f).length

/-- Cluster counter `x` counts `n` more (R237). -/
def State.countCluster (s : State) (c x n : Nat) : State := if n = 0 then s else s.count (Reg.cluExc c x) n

/-- Cell counter `x` counts `n` more (R237). -/
def State.countCell (s : State) (c k x n : Nat) : State := if n = 0 then s else s.count (Reg.cluCellExc c k x) n

/-- The exceptions of the results of an MXE chain (R237 cell counters 0 to 3 and 5): NaN results, infinite results, overflows
and non-zero results rounded to zero; saturations of an INT32 output. -/
def State.countMxe (s : State) (c k fmt : Nat) (es : List Exc) : State :=
  let int := decide (fmt = 0x6)
  let n := fun (f : Exc → Bool) (on : Bool) => if on then countExc f es else 0
  ((((s.countCell c k 0 (n Exc.nan (!int))).countCell c k 1 (n Exc.inf (!int))).countCell c k 2
    (n Exc.overflow (!int))).countCell c k 3 (countExc Exc.underflow es)).countCell c k 5 (n Exc.saturated int)

/-- The exceptions of one VXE element: NaN from inputs that are not NaN, overflow, a non-zero result rounded to zero, and an
integer target saturated (R237 cell counters 6 to 9). -/
def State.countVxe (s : State) (c k : Nat) (es : List Exc) : State :=
  (((s.countCell c k 6 (countExc Exc.nan es)).countCell c k 7 (countExc Exc.overflow es)).countCell c k 8
    (countExc Exc.underflow es)).countCell c k 9 (countExc Exc.saturated es)

/-- The exceptions of the FMX (R220, R237 cluster counters 0 to 3). -/
def State.countFmx (s : State) (c : Nat) (es : List Exc) (clamped : Nat) : State :=
  (((s.countCluster c 0 (countExc Exc.nan es)).countCluster c 1
    (countExc (fun e => e.overflow || e.saturated) es)).countCluster c 2 (countExc Exc.underflow es)).countCluster c 3 clamped

end Sys2Proof.Machine
end

