-- ==== Sys2Proof/Machine/Mxe.lean ====
section
/-!
DEFINITION. The matrix engine (04_eusel_encoding.md R180 to R182, 05_cells_and_cluster_engines.md R209 to R213,
02_number_formats.md R90 to R95).
-/
namespace Sys2Proof.Machine

/-- What an engine operation leaves: the engine's configuration and chain, and the bytes it writes in its write window. -/
structure EngOut where
  eng : Engine
  writes : List StoreWrite := []
deriving DecidableEq, Repr, Inhabited

/-! ### Configuration (R180, R209) -/

/-- fmt_a of the MXE configuration. -/
def Engine.fmtA (e : Engine) : Nat := natFld e.cfg1 0 4
/-- fmt_b of the MXE configuration. -/
def Engine.fmtB (e : Engine) : Nat := natFld e.cfg1 4 4
/-- fmt_out of the MXE configuration. -/
def Engine.fmtOut (e : Engine) : Nat := natFld e.cfg1 8 4
/-- rmode of the MXE configuration. -/
def Engine.mxeMode (e : Engine) : RMode := (rmodeOf (natFld e.cfg1 12 3)).getD .rne
/-- sat of the MXE configuration. -/
def Engine.mxeSat (e : Engine) : Bool := natBit e.cfg1 15
/-- The output shift k (R94). -/
def Engine.mxeShift (e : Engine) : Int := toSigned 8 (natFld e.cfg1 16 8)
/-- sdisp_a, in units of 64 bytes. -/
def Engine.sdispA (e : Engine) : Int := toSigned 16 (natFld e.cfg2 0 16)
/-- sdisp_b, in units of 64 bytes. -/
def Engine.sdispB (e : Engine) : Int := toSigned 16 (natFld e.cfg2 16 16)

/-- The 16-bit formats of R90. -/
def mxe16 (f : Nat) : Bool := f == 1 || f == 2
/-- The 8-, 6- and 4-bit formats of R90 other than INT8. -/
def mxeNarrow (f : Nat) : Bool := f == 3 || f == 4 || fmtBlocked f
/-- The pairings of R90. -/
def mxePair (a b : Nat) : Bool := (mxe16 a && mxe16 b) || (mxeNarrow a && mxeNarrow b) || (a == 5 && b == 5)
/-- K_op (R181). -/
def kOp (a b : Nat) : Nat := if mxe16 a then 32 else if elemBits a = 4 ∧ elemBits b = 4 then 128 else 64
/-- P (R180). -/
def mxePeriod (a : Nat) : Nat := if mxe16 a then 256 else 128

/-- The values MCFG accepts (R90, R182): pairing, fmt_out, rmode 0 to 3, and k not negative with INT32. -/
def mcfgOk (w1 : Nat) : Bool :=
  let a := natFld w1 0 4
  let b := natFld w1 4 4
  let o := natFld w1 8 4
  mxePair a b && (o == 0 || o == 1 || o == 2 || (o == 6 && a == 5 && b == 5))
    && decide (natFld w1 12 3 ≤ 3) && (o != 6 || decide (natFld w1 16 8 ≤ 127))

/-! ### Operands (R181, R213) -/

/-- Row width in bytes (R213). -/
def rowBytes (f : Nat) : Nat := if elemBits f = 6 then 48 else 64

/-- The 64 rows (columns) of an operand, decoded with their block scales (R213). -/
def mxeOperand (q : Nat) (p : Place) (f kop : Nat) (sdisp : Int) : Eng (List (List Val)) := do
  let w := rowBytes f
  let z := scaleBytes f
  let nb := kop / 32
  let x ← Eng.read q p (64 * w)
  let sc ← if z = 0 then pure 0 else Eng.read q (p.shift (64 * sdisp)) (64 * nb * z)
  return (List.range 64).map (fun r => (List.range kop).map (fun j =>
    decodeScaled f (elemAt f (x >>> (8 * r * w)) j) (natFld sc (8 * z * (r * nb + j / 32)) (8 * z)) (j % 32)))

/-- The accumulators of a chain with the products of one operation added (R91). -/
def mxeAdd (acc : Tbl Accum) (a b : List (List Val)) : Tbl Accum :=
  Tbl.run 0 ((List.range 4096).map (fun i => (acc.get i).block (a[i / 64]?.getD []) (b[i % 64]?.getD [])))

/-- The accumulators of a chain that starts from a seed tile in a format (R91, R93). -/
def mxeSeed (f x : Nat) : Tbl Accum :=
  Tbl.run 0 ((List.range 4096).map (fun i => ({} : Accum).add (decodeElem f (elemAt f x i))))

/-! ### Operations -/

/-- MCFG (R180): the configuration takes effect for operations issued after it. -/
def mxeConfig (e : Engine) (sl : Slot) : Eng EngOut := return { eng := { e with cfg1 := sl.w1, cfg2 := sl.w2 } }

/-- A chain operation (R182, R211): it starts a chain (from zero, or from a seed tile) or continues the open one, adds its
block contributions, and may end the chain, rounding the 4,096 outputs once and writing them to C. `starts` discards an
open chain, which is counted; a continuing operation with no open chain starts one. -/
def mxeChain (q u k : Nat) (starts seeded ends : Bool) (e : Engine) (sl : Slot) : Eng EngOut := do
  let a := e.fmtA
  let b := e.fmtB
  if !mxePair a b then Eng.illegal
  else
    let kop := kOp a b
    let base := if starts then none else e.chain
    let blocks := (base.map Chain.blocks).getD 0 + kop / 32
    if 2 ^ 24 < blocks then Eng.illegal
    else
      let s ← Eng.state
      let c := s.physCluster q u
      let va ← mxeOperand q (s.place q e.order u k (natFld sl.w1 0 16)) a kop e.sdispA
      let vb ← mxeOperand q (s.place q e.order u k (natFld sl.w1 16 16)) b kop e.sdispB
      let pc := s.place q e.order u k (natFld sl.w2 0 16)
      let size := elemBits e.fmtOut / 8
      let acc0 ← if seeded then do
          let x ← Eng.read q pc (4096 * size)
          pure (mxeSeed e.fmtOut x)
        else pure ((base.map Chain.acc).getD [])
      if starts && e.chain.isSome then Eng.change (fun s => s.countCell c k 4 1)
      let acc := mxeAdd acc0 va vb
      if ends then
        let outs := (List.range 4096).map (fun i => (acc.get i).round e.fmtOut e.mxeMode e.mxeSat e.mxeShift)
        let ws ← Eng.write pc (packElems e.fmtOut (4096 * size) (outs.map Prod.fst))
        Eng.change (fun s => s.countMxe c k e.fmtOut (outs.map Prod.snd))
        return { eng := { e with chain := none }, writes := ws }
      else return { eng := { e with chain := some { acc := acc, blocks := blocks } } }

/-- Step constants L and II of an MXE operation (R180). An operation that its configuration does not accept faults at
issue, whatever its constants. -/
def mxeTiming (e : Engine) (op : Nat) : Nat × Nat :=
  let p := mxePeriod e.fmtA
  if op = 0 then (1, 1) else if op = 3 ∨ op = 4 then (p + 24, p) else (p, p)

/-- An MXE operation by its code (R180). -/
def mxeRun (q u k : Nat) (e : Engine) (sl : Slot) : Eng EngOut :=
  match sl.op with
  | 0x00 => mxeConfig e sl
  | 0x01 => mxeChain q u k true false false e sl
  | 0x02 => mxeChain q u k false false false e sl
  | 0x03 => mxeChain q u k false false true e sl
  | 0x04 => mxeChain q u k true false true e sl
  | 0x05 => mxeChain q u k true true false e sl
  | _ => Eng.illegal

end Sys2Proof.Machine
end

