-- ==== Sys2Proof/Machine/Vxe.lean ====
section
/-!
DEFINITION. The vector engine and the cluster ring (04_eusel_encoding.md R183, R191; 05_cells_and_cluster_engines.md R214 to
R216, R237).
-/
namespace Sys2Proof.Machine

/-- The formats of the VXE (R67, R183). -/
def vxeFmt (f : Nat) : Bool := f == 0 || f == 1 || f == 2 || f == 6

/-- fmt_in of the VXE, FMX configuration. -/
def Engine.fmtIn4 (e : Engine) : Nat := natFld e.cfg1 0 4
/-- fmt_out of the VXE, FMX configuration. -/
def Engine.fmtOut4 (e : Engine) : Nat := natFld e.cfg1 4 4
/-- rmode in bits 10:8 (VCFG, FCFG). -/
def Engine.mode8 (e : Engine) : RMode := (rmodeOf (natFld e.cfg1 8 3)).getD .rne
/-- rmode in bits 6:4 (TCFG, RCFG). -/
def Engine.mode4 (e : Engine) : RMode := (rmodeOf (natFld e.cfg1 4 3)).getD .rne

/-- The values VCFG accepts (R183). -/
def vcfgOk (w1 : Nat) : Bool := vxeFmt (natFld w1 0 4) && vxeFmt (natFld w1 4 4) && decide (natFld w1 8 3 ≤ 3)

/-- The first `n` elements of a format in a number. -/
def elemsOf (f n x : Nat) : List Nat := (List.range n).map (elemAt f x)

/-- An operation on values that rounds once to binary32 (R214): its bits, whether a NaN came from inputs that were not NaN,
an overflow, and a non-zero result rounded to zero. -/
def f32Op (m : RMode) (ins : List Val) (v : Val) : Nat × Exc :=
  let (x, e) := toF32 m v
  (x, { nan := e.nan && !(ins.contains .nan), overflow := e.overflow, underflow := e.underflow })

/-- The larger of two values, +0 above -0; NaN when either is NaN (R214). -/
def Val.max2 (a b : Val) : Val :=
  if a = .nan ∨ b = .nan then .nan
  else if a.lt b then b else if b.lt a then a else if a.neg then b else a

/-- The smaller of two values, -0 below +0; NaN when either is NaN (R214). -/
def Val.min2 (a b : Val) : Val :=
  if a = .nan ∨ b = .nan then .nan
  else if a.lt b then a else if b.lt a then b else if a.neg then a else b

/-- The exact result of an element operation of the VXE (R183, R214), before its one rounding. -/
def vxeExact (m : RMode) (op : Nat) (a b d : Val) : Val :=
  match op with
  | 0x01 => a.add m b
  | 0x02 => a.mul b
  | 0x03 => (a.mul b).add m d
  | 0x04 => a.max2 b
  | 0x05 => a.min2 b
  | _ => a.mul b

/-- The INT32 result of an element operation (R214), modulo 2^32. -/
def vxeInt (op : Nat) (a b d : Int) : Nat :=
  match op with
  | 0x01 => ofSigned 32 (a + b)
  | 0x02 => ofSigned 32 (a * b)
  | 0x03 => ofSigned 32 (a * b + d)
  | 0x04 => ofSigned 32 (max a b)
  | 0x05 => ofSigned 32 (min a b)
  | _ => ofSigned 32 (a * b)

/-- Conversion of a value to fmt_out (R83, R84), its exceptions joined to those of the operation that made it: a NaN that the
conversion finds is not new, and a special value converted to an integer saturates. -/
def vxeOut (f : Nat) (m : RMode) (v : Val) (e : Exc) : Nat × Exc :=
  let (x, c) := roundElem f m (defaultSat f) 0 v
  (x, { nan := e.nan, overflow := e.overflow || c.overflow, underflow := e.underflow || c.underflow, saturated := c.saturated })

/-- One element of a VXE operation: from the bits of its inputs in fmt_in to the bits of fmt_out (R214). -/
def vxeElem (fi fo : Nat) (m : RMode) (op : Nat) (a b d : Nat) : Nat × Exc :=
  if fi = 6 then
    vxeOut fo m (decodeElem 6 (vxeInt op (toSigned 32 a) (toSigned 32 b) (toSigned 32 d))) {}
  else
    let va := decodeElem fi a
    let vb := decodeElem fi b
    let vd := decodeElem fi d
    let (x, e) := f32Op m (if op = 0x03 then [va, vb, vd] else [va, vb]) (vxeExact m op va vb vd)
    vxeOut fo m (f32 x) e

/-- An addition of a tree: binary32 by a mode, or modulo 2^32 (R215). -/
def vxeAdd (int : Bool) (m : RMode) (a b : Nat × Exc) : Nat × Exc :=
  if int then ((a.1 + b.1) % 2 ^ 32, {})
  else
    let (x, e) := f32Op m [f32 a.1, f32 b.1] ((f32 a.1).add m (f32 b.1))
    (x, { nan := a.2.nan || b.2.nan || e.nan, overflow := a.2.overflow || b.2.overflow || e.overflow,
          underflow := a.2.underflow || b.2.underflow || e.underflow })

/-- One level of a pairwise tree. -/
def pairUp {α : Type} (f : α → α → α) : List α → List α
  | a :: b :: l => f a b :: pairUp f l
  | l => l

/-- The sum of one group of 1,024 elements: each lane over its sixteen passes, then six pairwise levels (R215). -/
def vredGroup (int : Bool) (m : RMode) (g : List (Nat × Exc)) : Nat × Exc :=
  let add := vxeAdd int m
  let lanes := match chunksOf 64 16 g with
    | [] => []
    | p :: ps => ps.foldl (fun acc x => (acc.zip x).map (fun y => add y.1 y.2)) p
  let up := pairUp add
  ((up (up (up (up (up (up lanes)))))).head?).getD (0, {})

/-- The total of all groups in order (R215). -/
def vredTotal (int : Bool) (m : RMode) (gs : List (List (Nat × Exc))) : Nat × Exc :=
  match gs.map (vredGroup int m) with
  | [] => (0, {})
  | r :: rs => rs.foldl (vxeAdd int m) r

/-- Inputs of VRED: BF16 and FP16 exactly as binary32, INT32 as they are. -/
def vredIn (fi x : Nat) : Nat × Exc := (if fi = 6 ∨ fi = 0 then x else (toF32 .rne (decodeElem fi x)).1, {})

/-- VCFG (R183). -/
def vxeConfig (e : Engine) (sl : Slot) : Eng EngOut := return { eng := { e with cfg1 := sl.w1 } }

/-- An element operation of the VXE (R183, R214): VADD, VMUL, VFMA, VMAX, VMIN, VSCL or VCVT. -/
def vxeMap (q u k : Nat) (e : Engine) (sl : Slot) : Eng EngOut := do
  let n := 1024 * (sl.mod + 1)
  let fi := e.fmtIn4
  let fo := e.fmtOut4
  let m := e.mode8
  let s ← Eng.state
  let at_ := fun o => s.place q e.order u k o
  let bytesIn := n * (elemBits fi / 8)
  let xa ← Eng.read q (at_ (natFld sl.w1 0 16)) bytesIn
  let xb ← if sl.op ≤ 0x05 then Eng.read q (at_ (natFld sl.w1 16 16)) bytesIn else pure 0
  let xd ← if sl.op = 0x03 then Eng.read q (at_ (natFld sl.w2 0 16)) bytesIn else pure 0
  let reg := fld (s.sreg q (natFld sl.w2 16 5)) 31 0
  let res := (List.range n).map (fun i =>
    let a := elemAt fi xa i
    if sl.op = 0x08 then vxeOut fo m (decodeElem fi a) {}
    else if sl.op = 0x06 then
      (if fi = 6 then vxeElem fi fo m 0x02 a reg 0
       else
        let va := decodeElem fi a
        let (x, ex) := f32Op m [va, f32 reg] (va.mul (f32 reg))
        vxeOut fo m (f32 x) ex)
    else vxeElem fi fo m sl.op a (elemAt fi xb i) (elemAt fi xd i))
  let dst := if sl.op = 0x03 then natFld sl.w2 16 16 else natFld sl.w2 0 16
  let ws ← Eng.write (at_ dst) (packElems fo (n * (elemBits fo / 8)) (res.map Prod.fst))
  let c := s.physCluster q u
  Eng.change (fun s => s.countVxe c k (res.map Prod.snd))
  return { eng := e, writes := ws }

/-- VRED (R215): one value at D, the other bytes of its tile unchanged. -/
def vxeRed (q u k : Nat) (e : Engine) (sl : Slot) : Eng EngOut := do
  let n := 1024 * (sl.mod + 1)
  let fi := e.fmtIn4
  let fo := e.fmtOut4
  let m := e.mode8
  let s ← Eng.state
  let xa ← Eng.read q (s.place q e.order u k (natFld sl.w1 0 16)) (n * (elemBits fi / 8))
  let total := vredTotal (fi == 6) m (chunksOf 1024 (sl.mod + 1) ((elemsOf fi n xa).map (vredIn fi)))
  let out := vxeOut fo m (if fi = 6 then decodeElem 6 total.1 else f32 total.1) total.2
  let ws ← Eng.write (s.place q e.order u k (natFld sl.w2 0 16)) (packElems fo (elemBits fo / 8) [out.1])
  let c := s.physCluster q u
  Eng.change (fun s => s.countVxe c k [out.2])
  return { eng := e, writes := ws }

/-- A VXE operation by its code (R183). -/
def vxeRun (q u k : Nat) (e : Engine) (sl : Slot) : Eng EngOut :=
  if sl.op = 0 then vxeConfig e sl
  else if sl.op = 0x07 then vxeRed q u k e sl
  else if sl.op ≤ 0x08 then vxeMap q u k e sl
  else Eng.illegal

/-- Step constants of the VXE (R183). -/
def vxeTiming (op t : Nat) : Nat × Nat :=
  if op = 0 then (1, 1) else if op = 0x07 then (16 * t + 24, 16 * t) else (16 * t + 8, 16 * t)

/-! ### The cluster ring (R191, R216) -/

/-- The formats of the ring (R191). -/
def ringFmt (f : Nat) : Bool := f == 0 || f == 1 || f == 2

/-- The values RCFG accepts (R191). -/
def rcfgOk (w1 : Nat) : Bool := ringFmt (natFld w1 0 4) && decide (natFld w1 4 3 ≤ 3)

/-- The place of an OREF in the store of cell `k` for a ring operation: the same address in every cell store (R191). -/
def ringPlace (s : State) (q : Nat) (e : Engine) (u k o : Nat) : Place :=
  { base := cellStore (s.physCluster q u) k, size := 0x100000, off := orefAddr e.order o }

/-- Reads an extent at the same address of every cell store, cell 0 first; a failure names the cell (R216). -/
def ringRead (q u : Nat) (e : Engine) (o n : Nat) : List Nat → Eng (List Nat)
  | [] => return []
  | k :: ks => do
    let s ← Eng.state
    let x ← Eng.read q (ringPlace s q e u k o) n (some k)
    let xs ← ringRead q u e o n ks
    return x :: xs

/-- RCFG (R191). -/
def ringConfig (e : Engine) (sl : Slot) : Eng EngOut := return { eng := { e with cfg1 := sl.w1 } }

/-- One element of RRED: the sixteen cells added left to right in binary32 with RNE, then converted (R216). -/
def ringSum (f : Nat) (m : RMode) (xs : List Nat) : Nat × Exc :=
  match xs.map (vredIn f) with
  | [] => (0, {})
  | a :: as =>
    let t := as.foldl (vxeAdd false .rne) a
    vxeOut f m (f32 t.1) t.2

/-- RRED (R216). -/
def ringReduce (q u : Nat) (e : Engine) (sl : Slot) : Eng EngOut := do
  let nb := 4096 * (sl.mod + 1)
  let f := natFld e.cfg1 0 4
  let xs ← ringRead q u e (natFld sl.w1 0 16) nb (List.range 16)
  let res := (List.range (nb / (elemBits f / 8))).map (fun i => ringSum f e.mode4 (xs.map (fun x => elemAt f x i)))
  let s ← Eng.state
  let ws ← Eng.write (s.place q e.order u 0 (natFld sl.w1 16 16)) (packElems f nb (res.map Prod.fst))
  let c := s.physCluster q u
  Eng.change (fun s => (s.countCluster c 10 (countExc Exc.nan (res.map Prod.snd))).countCluster c 11
    (countExc Exc.overflow (res.map Prod.snd)))
  return { eng := e, writes := ws }

/-- RBCAST (R191): the cluster store's tiles to every cell store. -/
def ringBroadcast (q u : Nat) (e : Engine) (sl : Slot) : Eng EngOut := do
  let nb := 4096 * (sl.mod + 1)
  let s ← Eng.state
  let x ← Eng.read q (s.place q e.order u 0 (natFld sl.w1 0 16)) nb
  let ws ← (List.range 16).mapM (fun k => Eng.write (ringPlace s q e u k (natFld sl.w1 16 16)) (leBytes nb x))
  return { eng := e, writes := ws.flatten }

/-- RCAT (R191): cell k's tiles to D + k * T * 4,096. -/
def ringConcat (q u : Nat) (e : Engine) (sl : Slot) : Eng EngOut := do
  let nb := 4096 * (sl.mod + 1)
  let xs ← ringRead q u e (natFld sl.w1 0 16) nb (List.range 16)
  let s ← Eng.state
  let ws ← Eng.write (s.place q e.order u 0 (natFld sl.w1 16 16)) (xs.flatMap (leBytes nb))
  return { eng := e, writes := ws }

/-- A ring operation by its code (R191). -/
def ringRun (q u : Nat) (e : Engine) (sl : Slot) : Eng EngOut :=
  match sl.op with
  | 0x00 => ringConfig e sl
  | 0x01 => ringReduce q u e sl
  | 0x02 => ringBroadcast q u e sl
  | 0x03 => ringConcat q u e sl
  | _ => Eng.illegal

end Sys2Proof.Machine
end

