-- ==== Sys2Proof/Machine/Fmx.lean ====
section
/-!
DEFINITION. The format engine (04_eusel_encoding.md R185; 05_cells_and_cluster_engines.md R210, R219, R220; 02_number_formats.md
R76 to R88).
-/
namespace Sys2Proof.Machine

/-- The values FCFG accepts (R67, R185): formats that are not reserved, rmode 0 to 4. -/
def fcfgOk (w1 : Nat) : Bool :=
  !fmtReserved (natFld w1 0 4) && !fmtReserved (natFld w1 4 4) && decide (natFld w1 8 3 ≤ 4)

/-- Bytes of an element plane of `nb` blocks (R76, R219): 6-bit planes run in spans of 170 blocks to 4 KiB. -/
def planeBytes (f nb : Nat) : Nat :=
  if elemBits f = 6 then nb / 170 * 4096 + nb % 170 * 24 else nb * 4 * elemBits f

/-- Byte offset of block `b` in an element plane (R219). -/
def blockOffsetOf (f b : Nat) : Nat :=
  if elemBits f = 6 then b / 170 * 4096 + b % 170 * 24 else b * 4 * elemBits f

/-- The 32 values of block `b` of a plane `x` with its scale plane `sc` (R75, R78, R219). -/
def fmxBlock (f x sc b : Nat) : List Val :=
  let z := scaleBytes f
  let entry := natFld sc (8 * z * b) (8 * z)
  (List.range 32).map (fun i => decodeScaled f (elemAt f (x >>> (8 * blockOffsetOf f b)) i) entry i)

/-- The bytes of one target block. -/
def fmxPackBlock (f : Nat) (es : List Nat) : List Byte := packElems f (4 * elemBits f) es

/-- The bytes of the target plane: blocks in order, with 16 zero bytes after block 169 of each span of a 6-bit plane (R219). -/
def fmxPlane (f : Nat) (blocks : List (List Nat)) : List Byte :=
  blocks.zipIdx.flatMap (fun p =>
    fmxPackBlock f p.1 ++ (if elemBits f = 6 ∧ p.2 % 170 = 169 then List.replicate 16 0 else []))

/-- The exceptions of an element as the FMX counts them: an integer target writes no NaN (R220). -/
def fmxExc (f : Nat) (e : Exc) : Exc := if f = 5 ∨ f = 6 then { e with nan := false } else e

/-- One block converted to a target format: elements, scale entry, whether its scale was clamped (R83 to R88). -/
def fmxConvert (f : Nat) (m : RMode) (sat : Bool) (draws : Nat → Nat) (vs : List Val) : List (Nat × Exc) × Nat × Bool :=
  if fmtBlocked f then convertBlock f m draws vs
  else (vs.zipIdx.map (fun p => roundElem f m sat (draws p.2) p.1), 0, false)

/-- Whether the B and E fields of an FMX slot agree with a configuration (R219): each is 0 exactly when its format has no
scales. -/
def fmxScalesOk (cfg1 w1 w2 : Nat) : Bool :=
  (decide (natFld w1 16 16 = 0) == !fmtBlocked (natFld cfg1 0 4)) && (decide (natFld w2 16 16 = 0) == !fmtBlocked (natFld cfg1 4 4))

/-- FCFG (R185): it records register numbers, not values (R179). -/
def fmxConfig (e : Engine) (sl : Slot) : Eng EngOut := return { eng := { e with cfg1 := sl.w1, cfg2 := sl.w2 } }

/-- The values of the source blocks of an FMX operation. -/
def fmxSource (q u : Nat) (e : Engine) (sl : Slot) : Eng (List (List Val)) := do
  let nb := 32 * (sl.mod + 1)
  let fi := e.fmtIn4
  let s ← Eng.state
  let x ← Eng.read q (s.place q e.order u 0 (natFld sl.w1 0 16)) (planeBytes fi nb)
  let sc ← if fmtBlocked fi then Eng.read q (s.place q e.order u 0 (natFld sl.w1 16 16)) (nb * scaleBytes fi) else pure 0
  return (List.range nb).map (fmxBlock fi x sc)

/-- The scale plane of converted blocks. -/
def fmxScales (f : Nat) (entries : List Nat) : List Byte := entries.flatMap (leBytes (scaleBytes f))

/-- FCVT (R219, R220). Under rmode 4 it reads the three registers that FCFG named; a handle that fails checks 1 to 3 of R256
has no seed, and the operation stops with fault 0x05 (R185). -/
def fmxFcvt (q u : Nat) (e : Engine) (sl : Slot) : Eng EngOut := do
  if !fmxScalesOk e.cfg1 sl.w1 sl.w2 then Eng.illegal
  else
    let fo := e.fmtOut4
    let s ← Eng.state
    let h := fld (s.sreg q (natFld e.cfg2 0 5)) 23 0
    let i0 := (s.sreg q (natFld e.cfg2 5 5)).toNat
    let epoch := (s.sreg q (natFld e.cfg2 10 5)).toNat
    let seed := (s.rd (Reg.hubDescW1 (handleIndex h))).toNat
    if e.mode8 = .sr ∧ s.handleOwned (.engine (s.partOfDie q)) h = false then Eng.addressError
    else
      let blocks ← fmxSource q u e sl
      let res := blocks.zipIdx.map (fun p =>
        fmxConvert fo e.mode8 (natBit e.cfg1 11) (fun i => if e.mode8 = .sr then srDraw seed epoch (i0 + 32 * p.2 + i) else 0) p.1)
      let wd ← Eng.write (s.place q e.order u 0 (natFld sl.w2 0 16)) (fmxPlane fo (res.map (fun r => r.1.map Prod.fst)))
      let we ← if fmtBlocked fo then
          Eng.write (s.place q e.order u 0 (natFld sl.w2 16 16)) (fmxScales fo (res.map (fun r => r.2.1)))
        else pure []
      let c := s.physCluster q u
      Eng.change (fun s => s.countFmx c (res.flatMap (fun r => r.1.map (fun x => fmxExc fo x.2))) (res.filter (fun r => r.2.2)).length)
      return { eng := e, writes := wd ++ we }

/-- FSCALE (R220): the target scales only; it needs a block-scaled fmt_out (R210). -/
def fmxFscale (q u : Nat) (e : Engine) (sl : Slot) : Eng EngOut := do
  let fo := e.fmtOut4
  if !fmtBlocked fo || !fmxScalesOk e.cfg1 sl.w1 sl.w2 then Eng.illegal
  else
    let blocks ← fmxSource q u e sl
    let res := blocks.map (blockScale fo)
    let s ← Eng.state
    let ws ← Eng.write (s.place q e.order u 0 (natFld sl.w2 16 16)) (fmxScales fo (res.map (fun r => r.1)))
    let c := s.physCluster q u
    Eng.change (fun s => s.countFmx c [] (res.filter (fun r => r.2.2)).length)
    return { eng := e, writes := ws }

/-- An FMX operation by its code (R185). -/
def fmxRun (q u : Nat) (e : Engine) (sl : Slot) : Eng EngOut :=
  match sl.op with
  | 0x00 => fmxConfig e sl
  | 0x01 => fmxFcvt q u e sl
  | 0x02 => fmxFscale q u e sl
  | _ => Eng.illegal

end Sys2Proof.Machine
end

