-- ==== Sys2Proof/Machine/Stack.lean ====
section
/-!
DEFINITION. The stacks (06_memory_and_placement.md R240 to R281): frames and their counts, line errors and the retirement of
pseudo-channels, placement, migrations and their aborts.
-/
namespace Sys2Proof.Machine

/-- Changes the stacks. -/
def State.updStacks (s : State) (f : Stacks → Stacks) : State := { s with stackSide := f s.stackSide }

/-- Number of frame `f` of stack `n` (R241). -/
def frameNo (n f : Nat) : Nat := n * 32768 + f

/-- The frame that a DPA of stack memory lies in. -/
def frameOfDpa (a : Nat) : Nat := frameNo (a / 0x1000000000) (a % 0x1000000000 / 0x200000)

/-- DPA of a frame given by its number. -/
def dpaOfFrame (g : Nat) : Nat := frameDpa (g / 32768) (g % 32768)

/-- Stack and pseudo-channel of a frame (R241). -/
def pcOfFrame (g : Nat) : Nat × Nat := (g / 32768, g % 32768 / 512)

/-- Whether a die belongs to a partition: it is enabled and the map names the partition for it (R575). -/
def State.dieIn (s : State) (p d : Nat) : Bool := s.rdB Reg.secPartMap (8 + d) && decide (s.partOfDie d = p)

/-- Whether a partition owns a stack (R263). -/
def State.ownsStack (s : State) (p n : Nat) : Bool := s.dieIn p (n / 3)

/-- The dies of a partition, ascending: die of rank e is its e-th (R575). -/
def State.partDies (s : State) (p : Nat) : List Nat := (List.range 4).filter (s.dieIn p)

/-! ### Counts of frames (R264, R286, R288, R291) -/

/-- Frames of a range that satisfy a predicate on their state, among those not free. -/
def State.heldFrames (s : State) (lo hi : Nat) (f : FrameState → Bool) : Nat :=
  (s.stackSide.frames.filter (fun e => lo ≤ e.1 ∧ e.1 < hi ∧ f e.2)).length

/-- Free frames of a pseudo-channel. -/
def State.pcFree (s : State) (n p : Nat) : Nat :=
  512 - s.heldFrames (frameNo n (512 * p)) (frameNo n (512 * p + 512)) (fun _ => true)

/-- Free frames that the placer may take: those of a usable pseudo-channel. -/
def State.pcOpen (s : State) (n p : Nat) : Nat :=
  if s.rdF (Reg.stkPcState n p) 1 0 = 0 then s.pcFree n p else 0

/-- Free frames in the usable pseudo-channels of a stack. -/
def State.stackOpen (s : State) (n : Nat) : Nat := ((List.range 64).map (s.pcOpen n)).foldl (· + ·) 0

/-- Whether a stack's frames are in the pool: its memory has been tested (R612). -/
def State.stackPooled (s : State) (n : Nat) : Bool := decide (3 ≤ s.rdF (Reg.stkStatus n) 2 0)

/-- STK_PC_STATE.free of one pseudo-channel as its frames are. -/
def State.syncPc (s : State) (n p : Nat) : State :=
  if s.stackPooled n then s.wrF (Reg.stkPcState n p) 25 16 (s.pcFree n p) else s

/-- HUB_PART_FRAMES of every partition as the frames are (R264, R286). -/
def State.syncParts (s : State) : State :=
  s.each (List.range 4) (fun s p =>
    let ns := (List.range 12).filter (fun n => s.ownsStack p n && s.stackPooled n)
    let held := fun (f : FrameState → Bool) =>
      (ns.map (fun n => s.heldFrames (frameNo n 0) (frameNo n 32768) f)).foldl (· + ·) 0
    let total := 32768 * ns.length
    (s.wrF (Reg.hubPartFrames p) 18 0 (total - held (fun _ => true))).wrF (Reg.hubPartFrames p) 50 32
      (total - held (fun x => decide (x = .system ∨ x = .lost))))

/-- Frames change their state; the counts follow. -/
def State.setFrames (s : State) (gs : List Nat) (st : FrameState) : State :=
  let s := s.updStacks (fun k => { k with frames := gs.foldl (fun t g => t.set g st) k.frames })
  let s := s.each (gs.map pcOfFrame).eraseDups (fun s x => s.syncPc x.1 x.2)
  s.syncParts

/-- STK_STATUS.usable_pcs and draining_pcs as the pseudo-channels are (R288). -/
def State.syncStatus (s : State) (n : Nat) : State :=
  let cnt := fun (v : Nat) => ((List.range 64).filter (fun p => s.rdF (Reg.stkPcState n p) 1 0 = v)).length
  (s.wrF (Reg.stkStatus n) 14 8 (cnt 0)).wrF (Reg.stkStatus n) 22 16 (cnt 1)

/-! ### Slab entries and descriptors (R252, R254) -/

/-- A slab entry word. -/
def slabWord (valid : Bool) (src : Nat) (st : Nat) (dst : Nat) : W64 :=
  setFld (setFld (setFld (setFld (setFld (setFld 0 0 0 (b2n valid)) 4 1 (src / 32768)) 19 5 (src % 32768)) 21 20 st)
    25 22 (dst / 32768)) 40 26 (dst % 32768)

/-- The frame that a slab entry maps. -/
def State.slabFrame (s : State) (y : Nat) : Nat :=
  frameNo (s.rdF (Reg.hubSlab y) 4 1) (s.rdF (Reg.hubSlab y) 19 5)

/-- The indices of the valid descriptors, ascending. -/
def State.validDescs (s : State) : List Nat :=
  s.csr.filterMap (fun e =>
    let o := e.1 - Reg.hubDescW0 0
    if Reg.hubDescW0 0 ≤ e.1 ∧ o < 64 * 65536 ∧ o % 64 = 0 ∧ bitOf e.2 0 then some (o / 64) else none)

/-- Slab count of a descriptor. -/
def State.descSlabs (s : State) (x : Nat) : Nat := s.rdF (Reg.hubDescW0 x) 50 32
/-- First slab entry of a descriptor. -/
def State.descBase (s : State) (x : Nat) : Nat := s.rdF (Reg.hubDescW2 x) 18 0
/-- Stripe width W of a descriptor. -/
def State.descStripe (s : State) (x : Nat) : Nat := 2 ^ s.rdF (Reg.hubDescW0 x) 20 18
/-- Alignment group of a descriptor. -/
def State.descAlign (s : State) (x : Nat) : Nat := s.rdF (Reg.hubDescW0 x) 31 24
/-- Partition of a descriptor. -/
def State.descPart (s : State) (x : Nat) : Nat := s.rdF (Reg.hubDescW0 x) 3 2
/-- The handle ID in force of a descriptor index (R249). -/
def State.descHandle (s : State) (x : Nat) : Nat := x + s.rdF (Reg.hubDescW0 x) 11 4 * 2 ^ 16

/-- The slab entries of a descriptor. -/
def State.slabsOf (s : State) (x : Nat) : List Nat := (List.range (s.descSlabs x)).map (· + s.descBase x)

/-- The descriptor that a slab entry belongs to, and the slab's number in it. -/
def State.slabOwner (s : State) (y : Nat) : Option (Nat × Nat) :=
  (s.validDescs.find? (fun x => s.descBase x ≤ y ∧ y < s.descBase x + s.descSlabs x)).map (fun x => (x, y - s.descBase x))

/-- The descriptors of a handle's alignment group, itself among them (R266). -/
def State.groupOf (s : State) (x : Nat) : List Nat :=
  if s.descAlign x = 0 then [x]
  else s.validDescs.filter (fun z => s.descAlign z = s.descAlign x && s.descPart z = s.descPart x)

/-- The entries of slab `k` of every handle of a group. -/
def State.groupSlabs (s : State) (x k : Nat) : List Nat := (s.groupOf x).map (fun z => s.descBase z + k)

/-! ### Migrations end (R274, R275) -/

/-- A migration aborts: its slab entries return to their source frames, its destination frames become clearing. -/
def State.abortMigration (s : State) (g : Migration) : State :=
  let s := s.updStacks (fun k => { k with migs := k.migs.filter (fun m => m ≠ g) })
  let s := s.each g.moves (fun s m => s.cpCommit (Reg.hubSlab m.slab) (slabWord true m.src 0 0))
  (s.setFrames (g.moves.map SlabMove.dst) .clearing).count Reg.hubMigAborted g.moves.length

/-- Every migration that satisfies a predicate aborts. -/
def State.abortMigrations (s : State) (f : Migration → Bool) : State :=
  s.each (s.stackSide.migs.filter f) State.abortMigration

/-! ### Line errors and retirement (R243, R277, R652 to R655) -/

/-- A pseudo-channel begins draining: no further allocation, migrations into it abort, the SEC blows its fuse. -/
def State.drainPc (s : State) (n p : Nat) (ev : Bool) : State :=
  if s.rdF (Reg.stkPcState n p) 1 0 ≠ 0 then s
  else
    let s := (s.wrF (Reg.stkPcState n p) 1 0 1).syncStatus n
    let s := s.cond ev (fun s => s.event 0x304 (.stack n) p)
    let s := { s with rcd := { s.rcd with fusePcs := s.rcd.fusePcs.upd n (· ||| 2 ^ p) } }
    s.abortMigrations (fun g => g.moves.any (fun m => decide (pcOfFrame m.dst = (n, p))))

/-- An uncorrectable line counts towards the thresholds of R652, all of which apply when several are reached (R654). -/
def State.lineThresholds (s : State) (n p : Nat) : State :=
  let again := s.rcd.withinDay (histPc n p)
  let mate := if p % 2 = 0 then p + 1 else p - 1
  let other := s.rcd.withinDay (histPc n mate)
  let s := { s with rcd := s.rcd.occur (histPc n p) }
  let s := s.cond again (fun s => s.drainPc n p true)
  let live := decide (s.rdF (Reg.stkPcState n p) 1 0 = 0) || decide (s.rdF (Reg.stkPcState n mate) 1 0 = 0)
  s.cond (other && live) (fun s =>
    ((s.event 0x306 (.stack n) (p / 2)).drainPc n p false).drainPc n mate false)

/-- One line is read (R243): a corrected line is written back and counted, an uncorrectable one counted and recorded each
time it is read, and counted once towards retirement until it is rewritten (R653). -/
def State.readLine (s : State) (patrol : Bool) (l : Nat) : State :=
  let a := 64 * l
  let n := a / 0x1000000000
  let p := a % 0x1000000000 / 0x40000000
  let v := s.lineErr.get l
  if v = 0 then s
  else if v = 1 then { s with lineErr := s.lineErr.set l 0 }.count (Reg.stkPcCe n p) 1
  else
    let off := a % 0x40000000
    let last := setFld (setFld (setFld (setFld 0 29 0 off) 30 30 (b2n patrol)) 31 31 1) 63 32 (s.rcd.opTime % 2 ^ 32)
    let s := ((s.count (Reg.stkPcUe n p) 1).wr (Reg.stkPcUeLast n p) last).event 0x301 (.stack n)
      (off + b2n patrol * 2 ^ 30 + p * 2 ^ 32)
    if v = 2 then { s with lineErr := s.lineErr.set l 3 }.lineThresholds n p else s

/-- The lines of an extent of stack memory are read. -/
def State.readLines (s : State) (a n : Nat) : State :=
  s.each ((s.lineErr.filter (fun e => a / 64 ≤ e.1 ∧ 64 * e.1 < a + n)).map Prod.fst) (State.readLine · false)

/-! ### Handles at their use (R256, R257, R261, R280) -/

/-- Whether a DPA of stack memory lies in a retired pseudo-channel (R280). -/
def State.pcRetired (s : State) (a : Nat) : Bool :=
  let (n, p) := pcOfFrame (frameOfDpa a)
  s.rdF (Reg.stkPcState n p) 1 0 == 2

/-- The DPA of a byte of a handle for a user: every check of R256 for the piece, an entry in force, a pseudo-channel not
retired. -/
def State.resolve (s : State) (u : HandleUser) (h off len : Nat) (write : Bool) : Option Nat :=
  if s.handleOk u h off len write then
    match s.translate h off with
    | some a => if s.pcRetired a then none else some a
    | none => none
  else none

/-- One tile access of a frame counts against its origin, 4 for link ports, host ports and collective engines (R267). -/
def State.heatOne (s : State) (g origin : Nat) : State :=
  s.updStacks (fun k => { k with heat := k.heat.upd g (fun v =>
    setFld v (12 * origin + 11) (12 * origin) (satAdd 4095 (fld v (12 * origin + 11) (12 * origin)) 1)) })

/-! ### Requests (R246, R247, R256, R273) -/

/-- Changes STK_REQ.current, and its peak (R289). -/
def State.trackCount (s : State) (n : Nat) : State :=
  let c := (s.stackSide.tracked.get n).length
  let s := s.wrF (Reg.stkReq n) 14 0 c
  s.wrF (Reg.stkReq n) 46 32 (max c (s.rdF (Reg.stkReq n) 46 32))

/-- The tracker entry that a request may take (R246): one reserved to its kind, or a shared one; `true` for shared. -/
def trackerEntry (l : List Tracked) (own : Bool) : Option Bool :=
  if (l.filter (fun t => t.own = own && !t.shared)).length < 2048 then some false
  else if (l.filter Tracked.shared).length < 12288 then some true
  else none

/-- A request that a command makes and completes takes a tracker entry for its time (R246): STK_REQ.peak sees it (R289). DESIGN CHOICE: the
requests of one command come one after another. -/
def State.requestPasses (s : State) (n : Nat) : State :=
  s.wrF (Reg.stkReq n) 46 32 (max (min 16384 (s.rdF (Reg.stkReq n) 14 0 + 1)) (s.rdF (Reg.stkReq n) 46 32))

/-- A tile access of a command that is over with it: it counts against its origin (R267) and takes a tracker entry for its time. -/
def State.tilePasses (s : State) (g origin : Nat) : State := (s.heatOne g origin).requestPasses (g / 32768)

/-- Whether every piece of an extent of a handle resolves for a user (R256, R280). -/
def State.extentOk (s : State) (u : HandleUser) (h off n : Nat) (write : Bool) : Bool :=
  (piecesOf off n).all (fun p => (s.resolve u h p.1 p.2 write).isSome)

/-- The tile accesses of an extent of a handle that is written through the hub: link ports, host ports, collective engines (R267). -/
def State.heatExtent (s : State) (h off n : Nat) : State :=
  s.each (piecesOf off n) (fun s p => match s.translate h p.1 with
    | some a => s.tilePasses (frameOfDpa a) 4
    | none => s)

/-- The tiles of an extent of a handle that is read through the hub: their lines are read (R243), and they count. -/
def State.readExtent (s : State) (h off n : Nat) : State :=
  s.each (piecesOf off n) (fun s p => match s.translate h p.1 with
    | some a => (s.readLines (a / 4096 * 4096) 4096).tilePasses (frameOfDpa a) 4
    | none => s)

/-- What a read of bytes of stack memory answers: bytes of a tile that is delivered as one that fails its check where a line of it is
uncorrectable (R243). -/
def State.lineAnswer (s : State) (a n : Nat) : Answer :=
  if s.tileDead (a / 4096) then .failing (s.readBytes a n) else .bytes (s.readBytes a n)

/-- A request is served at its DPA: its line is read or written, its tile counted (R243, R267). -/
def State.serveLine (s : State) (r : LineAccess) (a : Nat) : State :=
  let s := s.heatOne (frameOfDpa a) (match r.die with | some d => d.val | none => 4)
  match r.data with
  | some bs => s.writeBytes a (bs.take 64)
  | none =>
    let s := s.readLine false (a / 64)
    { s with answer := s.lineAnswer a 64 }

/-- A request whose handle does not translate answers an address error with its event (R20): 0x901 for a host function, 0x611 for any
other requester, whose agent is the SCH's for firmware and none for an engine or a remote partition. -/
def State.requestError (s : State) (r : LineAccess) (a : Nat) : State :=
  match r.user with
  | .system => s.addressError .sch a r.data.isSome
  | .host p => ({ s with answer := .addressError } : State).hostError (s.partPort p) (p + 1)
      (if r.data.isSome then .bar4Write else .bar4Read) r.off
  | _ => s.addressError .none a r.data.isSome

/-- A request as it reaches the handle map (R256, R258): held while its slab is at a switch, an address error when a check
fails, waiting at its source while no entry is open to it or its stack does not serve (R53), and otherwise tracked and served. A stack whose
domain is off answers an address error without an event. -/
def State.stackAccess (s : State) (r : LineAccess) : State :=
  let h := r.handle.toNat
  let off := r.off / 64 * 64
  match (s.slabDpa h off).filter (fun a => s.handleOk r.user h off 64 r.data.isSome && !s.pcRetired a) with
  | none => s.requestError r ((s.slabDpa h off).getD 0)
  | some a =>
    let y := (s.slabOf h r.off).1
    let n := a / 0x1000000000
    let own := match r.die with | some d => decide (n / 3 = d.val) | none => false
    if !s.domOn (stackDomain n) then { s with answer := .addressError }
    else if s.rdF (Reg.hubSlab y) 21 20 = 2 then s.updStacks (fun k => { k with held := k.held ++ [r] })
    else
      match (trackerEntry (s.stackSide.tracked.get n) own).filter (fun _ => s.stackServes n) with
      | none => s.updStacks (fun k => { k with waiting := k.waiting.upd n (· ++ [r]) })
      | some sh =>
        let t : Tracked := { own := own, shared := sh, handle := h, frame := frameOfDpa a }
        ((s.updStacks (fun k => { k with tracked := k.tracked.upd n (· ++ [t]) })).trackCount n).serveLine r a

/-- The requests that wait for a stack try again, oldest first (R247). -/
def State.retryWaiting (s : State) (n : Nat) : State :=
  let ws := s.stackSide.waiting.get n
  (s.updStacks (fun k => { k with waiting := k.waiting.set n [] })).each ws State.stackAccess

/-- The translations held for slabs that no switch holds any more go on (R273, R274). -/
def State.releaseHeld (s : State) : State :=
  let l := s.stackSide.held
  (s.updStacks (fun k => { k with held := [] })).each l State.stackAccess

/-! ### Placement (R265, R266) -/

/-- Of a list of numbers with a measure, the first with the greatest measure above 0. -/
def bestOf (l : List Nat) (f : Nat → Nat) : Option Nat :=
  l.foldl (fun b x => match b with
    | none => if 0 < f x then some x else none
    | some y => if f y < f x then some x else b) none

/-- The usable pseudo-channel of a stack for a lane, given the pseudo-channels that hold other lanes of its group: the most
free frames, ties to the lowest number; when every one holds a lane, the choice starts again. -/
def State.choosePc (s : State) (n : Nat) (taken : List Nat) : Option Nat :=
  let ps := (List.range 64).filter (fun p => 0 < s.pcOpen n p)
  let least := (ps.map (fun p => taken.count p)).foldl min (taken.length)
  bestOf (ps.filter (fun p => taken.count p ≤ least)) (s.pcOpen n)

/-- The stack for a slab that R265 names stack `n` for, with the fallback to the die and then to the partition. -/
def State.chooseStack (s : State) (part n : Nat) : Option Nat :=
  if 0 < s.stackOpen n then some n
  else
    let d := n / 3
    match bestOf (((List.range 3).map (· + 3 * d)).filter (· ≠ n)) s.stackOpen with
    | some m => some m
    | none =>
      let dieOpen := fun (d : Nat) => ((List.range 3).map (fun i => s.stackOpen (3 * d + i))).foldl (· + ·) 0
      match bestOf (s.partDies part) dieOpen with
      | some e => bestOf ((List.range 3).map (· + 3 * e)) s.stackOpen
      | none => none

/-- The home die rank of declared weights: the largest, ties to the lowest rank; none when every weight is 0. -/
def homeRank (decl : Nat) (dies : Nat) : Option Nat := bestOf (List.range dies) (fun e => natFld decl (8 * e) 8)

/-- The stack that R265 names for lane `l` of a stripe group. -/
def laneStack (dies : List Nat) (home : Option Nat) (l : Nat) : Nat :=
  let d := match home with
    | some e => dies[e]?.getD 0
    | none => dies[l % max 1 dies.length]?.getD 0
  3 * d + l % 3

/-- The free frames of a pseudo-channel. -/
def State.freeFrames (s : State) (n p : Nat) : List Nat :=
  ((List.range 512).map (fun i => frameNo n (512 * p + i))).filter (fun g => s.stackSide.frames.get g = .free)

/-- A free frame of a pseudo-channel; which one is the placer's, given as a number. -/
def State.takeFrame (s : State) (n p pick : Nat) : Option Nat :=
  let l := s.freeFrames n p
  l[pick % max 1 l.length]?

/-- Places the slabs of a new handle in order (R265): `want` names a stack for each slab, fixed for a group that is already
placed. Answers the frames, or none when a slab finds no frame. The fuel is the slab count. -/
def State.placeSlabs (s : State) (part w : Nat) (want : Nat → Nat) (fixed : Bool) (st : FrameState) (picks : List Nat) :
    Nat → Nat → List (Nat × Nat) → List Nat → Option (State × List Nat)
  | 0, _, _, acc => some (s, acc.reverse)
  | fuel + 1, k, grp, acc =>
    let grp := if k % w = 0 then [] else grp
    let n := if fixed then (if 0 < s.stackOpen (want k) then some (want k) else none) else s.chooseStack part (want k)
    n.bind (fun n => (s.choosePc n ((grp.filter (fun x => x.1 = n)).map Prod.snd)).bind (fun p =>
      (s.takeFrame n p (picks[k]?.getD 0)).bind (fun g =>
        State.placeSlabs { s with stackSide := { s.stackSide with frames := s.stackSide.frames.set g st } } part w want fixed st
          picks fuel (k + 1) ((n, p) :: grp) (g :: acc))))

end Sys2Proof.Machine
end

