-- ==== Sys2Proof/Machine/Trans.lean ====
section
/-!
DEFINITION. The functions of the transcendental engine over the reals (05_cells_and_cluster_engines.md R221), in fixed point with 320 bits
after the point, so that the error bounds of R221 can be imposed: every value here lies within one part in 2^150 of the exact one.
PRESUMED: the functions are the ones of that name of real analysis.
-/
namespace Sys2Proof.Machine

/-- 1 in fixed point. -/
def fxOne : Int := 2 ^ 320
/-- ln 2 in fixed point. -/
def fxLn2 : Int := 1480553391661173448385607439722553250922680800745876974795605978609098082859138712941075737848984
/-- π / 2 in fixed point. -/
def fxHalfPi : Int := 3355200590106084457577920487110001620402097044713574475363553212175856609335902690049750194457019

/-- A product in fixed point. -/
def fxMul (a b : Int) : Int := a * b / fxOne

/-- A finite value in fixed point; exact on binary32 values, whose smallest step is 2^-149. -/
def fxOf (v : Val) : Int :=
  match v with
  | .fin neg n d e =>
    let m : Int := if 0 ≤ e + 320 then (n * 2 ^ (e + 320).toNat : Nat) / d else (n / 2 ^ (-(e + 320)).toNat : Nat) / d
    if neg then -m else m
  | _ => 0

/-- A fixed-point number as an exact value. -/
def fxVal (x : Int) : Val := .fin (decide (x < 0)) x.natAbs 1 (-320)

/-- A number times a power of two. -/
def fxScale (x k : Int) : Int := if 0 ≤ k then x * 2 ^ k.toNat else x / 2 ^ (-k).toNat

/-- The series 1 + t/1 (1 + t/2 (1 + ...)) of e^t, `fuel` terms. -/
def fxExpSum (t : Int) : Nat → Nat → Int
  | 0, _ => fxOne
  | fuel + 1, i => fxOne + fxMul t (fxExpSum t fuel (i + 1)) / i

/-- e^x. -/
def fxExp (x : Int) : Int :=
  let k := x / fxLn2
  fxScale (fxExpSum (x - k * fxLn2) 80 1) k

/-- The series 1/(2i + 1) + z² (1/(2i + 3) + ...) of the inverse hyperbolic tangent. -/
def fxAtanhSum (zz : Int) : Nat → Nat → Int
  | 0, _ => 0
  | fuel + 1, i => fxOne / (2 * i + 1) + fxMul zz (fxAtanhSum zz fuel (i + 1))

/-- ln x of a number above 0: ln of a number in [1, 2) and a multiple of ln 2. -/
def fxLog (x : Int) : Int :=
  let k : Int := (Nat.log2 x.natAbs : Int) - 320
  let m := fxScale x (-k)
  let z := (m - fxOne) * fxOne / (m + fxOne)
  2 * fxMul z (fxAtanhSum (fxMul z z) 110 0) + k * fxLn2

/-- The series 1 - t²/(i (i + 1)) (1 - ...) of sine and cosine. -/
def fxTrigSum (tt : Int) : Nat → Nat → Int
  | 0, _ => fxOne
  | fuel + 1, i => fxOne - fxMul tt (fxTrigSum tt fuel (i + 2)) / (i * (i + 1))

/-- sin t for t in [0, π/2). -/
def fxSin (t : Int) : Int := fxMul t (fxTrigSum (fxMul t t) 50 2)
/-- cos t for t in [0, π/2). -/
def fxCos (t : Int) : Int := fxTrigSum (fxMul t t) 50 1

/-- sin of x ≥ 0 plus `j` quarter turns, the argument reduced over the whole range (R221). -/
def fxTurn (x j : Int) : Int :=
  let k := x / fxHalfPi
  let t := x - k * fxHalfPi
  match (k + j) % 4 with
  | 0 => fxSin t
  | 1 => fxCos t
  | 2 => -fxSin t
  | _ => -fxCos t

/-- A number kept within ±c. -/
def fxClamp (c x : Int) : Int := max (-c) (min c x)

/-- The value of a TRX function, by its operation code (R221). Where e^x lies below 2^-150 or above the range of binary32, and where
tanh x is 1 to 50 bits, the argument is moved to the end of that range, which moves the value by far less than an ulp. -/
def fxFun (op : Nat) (x : Int) : Int :=
  match op with
  | 1 => fxExp (fxClamp (110 * fxOne) x)
  | 2 => fxLog x
  | 5 => let e := fxExp (2 * fxClamp (40 * fxOne) x); (e - fxOne) * fxOne / (e + fxOne)
  | 6 => let e := fxExp (fxClamp (110 * fxOne) x); e * fxOne / (e + fxOne)
  | 7 => if x < 0 then -fxTurn (-x) 0 else fxTurn x 0
  | _ => fxTurn x.natAbs 1

end Sys2Proof.Machine
end

