-- ==== Sys2Proof/Machine/Zoo.lean ====
section
/-!
DEFINITION. The kneader, the transcendental, sort-and-select, index, compression and random-number engines
(04_eusel_encoding.md R184, R186 to R190; 05_cells_and_cluster_engines.md R217, R218, R221 to R228).
-/
namespace Sys2Proof.Machine

/-- The A field of a slot (word 1 bits 15:0). -/
def Slot.fA (sl : Slot) : Nat := natFld sl.w1 0 16
/-- The B field of a slot (word 1 bits 31:16). -/
def Slot.fB (sl : Slot) : Nat := natFld sl.w1 16 16
/-- The D (or C) field of a slot (word 2 bits 15:0). -/
def Slot.fD (sl : Slot) : Nat := natFld sl.w2 0 16
/-- The E field, or the parameter, of a slot (word 2 bits 31:16). -/
def Slot.fE (sl : Slot) : Nat := natFld sl.w2 16 16
/-- T of a slot: mod + 1. -/
def Slot.tiles (sl : Slot) : Nat := sl.mod + 1

/-- The place of a cluster-store operand. -/
def clusterPlace (q u : Nat) (e : Engine) (o : Nat) : Eng Place := do return (← Eng.state).place q e.order u 0 o

/-- Reads `n` bytes of a cluster-store operand. -/
def clusterRead (q u : Nat) (e : Engine) (o n : Nat) : Eng Nat := do Eng.read q (← clusterPlace q u e o) n

/-- Writes bytes to a cluster-store operand. -/
def clusterWrite (q u : Nat) (e : Engine) (o : Nat) (bs : List Byte) : Eng (List StoreWrite) := do
  Eng.write (← clusterPlace q u e o) bs

/-- The physical cluster of an operation. -/
def engCluster (q u : Nat) : Eng Nat := do return (← Eng.state).physCluster q u

/-- The `n` INT32 values of a number. -/
def int32s (n x : Nat) : List Int := (elemsOf 6 n x).map (toSigned 32)

/-- INT32 values as bytes. -/
def int32Bytes (l : List Int) : List Byte := l.flatMap (fun v => leBytes 4 (ofSigned 32 v))

/-! ### Kneader (R217, R218) -/

/-- Element size in bytes by its code (R184). -/
def kSize (p : Nat) : Nat := 2 ^ (p % 4)

/-- Whether the parameter and shape of a KNX operation are legal (R184, R217). -/
def knxOk (op p t : Nat) : Bool :=
  let n := 4096 * t
  match op with
  | 0x01 => p == 0
  | 0x02 => p % 4 != 3 && decide (n % ((p / 4 + 1) * kSize p) = 0)
  | 0x03 => p % 4 != 3 && p / 4 == 0
  | _ => decide (n % ((p + 1) * 64) = 0)

/-- KCOPY (R217). -/
def knxCopy (q u : Nat) (e : Engine) (sl : Slot) : Eng EngOut := do
  let n := 4096 * sl.tiles
  let x ← clusterRead q u e sl.fA n
  return { eng := e, writes := ← clusterWrite q u e sl.fD (leBytes n x) }

/-- KTRANS (R217): A as M rows of C elements; D as C rows of M elements. -/
def knxTrans (q u : Nat) (e : Engine) (sl : Slot) : Eng EngOut := do
  let n := 4096 * sl.tiles
  let es := kSize sl.fE
  let cols := sl.fE / 4 + 1
  let rows := n / (cols * es)
  let x ← clusterRead q u e sl.fA n
  let out := (List.range (rows * cols)).flatMap (fun j =>
    leBytes es (natFld x (8 * es * (j % rows * cols + j / rows)) (8 * es)))
  return { eng := e, writes := ← clusterWrite q u e sl.fD out }

/-- KPERM (R217, R218): an index outside 0 to n - 1 writes a zero element and counts in cluster counter 4. -/
def knxPerm (q u : Nat) (e : Engine) (sl : Slot) : Eng EngOut := do
  let nBytes := 4096 * sl.tiles
  let es := kSize sl.fE
  let n := nBytes / es
  let x ← clusterRead q u e sl.fA nBytes
  let b ← clusterRead q u e sl.fB (4 * n)
  let idx := int32s n b
  let inside := fun (i : Int) => decide (0 ≤ i) && decide (i < n)
  let out := idx.flatMap (fun i => leBytes es (if inside i then natFld x (8 * es * i.toNat) (8 * es) else 0))
  let ws ← clusterWrite q u e sl.fD out
  let c ← engCluster q u
  Eng.change (fun s => s.countCluster c 4 (idx.filter (fun i => !inside i)).length)
  return { eng := e, writes := ws }

/-- A row of a table by its index: a negative index, or a row with a byte outside the cluster store, is an address error
(R218). -/
def knxRow (p : Place) (r : Nat) (i : Int) : Eng Place :=
  if i < 0 then Eng.addressError else
    let p' := p.shift (i * r)
    if p'.ok r then return p' else Eng.addressError

/-- KGATH (R217, R218): row i of D is row B[i] of the table at A, whose own address must lie in the store (R107, R239). -/
def knxGather (q u : Nat) (e : Engine) (sl : Slot) : Eng EngOut := do
  let nBytes := 4096 * sl.tiles
  let r := (sl.fE + 1) * 64
  let n := nBytes / r
  let b ← clusterRead q u e sl.fB (4 * n)
  let p ← clusterPlace q u e sl.fA
  if !p.ok 1 then Eng.addressError
  let rows ← (int32s n b).mapM (fun i => do
    let pr ← knxRow p r i
    return leBytes r (← Eng.read q pr r))
  return { eng := e, writes := ← clusterWrite q u e sl.fD rows.flatten }

/-- KSCAT (R217, R218): row i of A lands at row B[i] of the table at D, i ascending; D itself lies in the store (R107, R239). -/
def knxScatter (q u : Nat) (e : Engine) (sl : Slot) : Eng EngOut := do
  let nBytes := 4096 * sl.tiles
  let r := (sl.fE + 1) * 64
  let n := nBytes / r
  let x ← clusterRead q u e sl.fA nBytes
  let b ← clusterRead q u e sl.fB (4 * n)
  let p ← clusterPlace q u e sl.fD
  if !p.ok 1 then Eng.addressError
  let ws ← (int32s n b).zipIdx.mapM (fun j => do
    let pr ← knxRow p r j.1
    Eng.write pr (leBytes r (natFld x (8 * r * j.2) (8 * r))))
  return { eng := e, writes := ws.flatten }

/-- A KNX operation by its code (R184). -/
def knxRun (q u : Nat) (e : Engine) (sl : Slot) : Eng EngOut :=
  match sl.op with
  | 0x01 => knxCopy q u e sl
  | 0x02 => knxTrans q u e sl
  | 0x03 => knxPerm q u e sl
  | 0x04 => knxGather q u e sl
  | 0x05 => knxScatter q u e sl
  | _ => Eng.illegal

/-! ### Transcendental engine (R221, R222) -/

/-- The values TCFG accepts (R186). -/
def tcfgOk (w1 : Nat) : Bool := decide (natFld w1 0 4 ≤ 1) && decide (natFld w1 4 3 ≤ 3)

/-- The result of a special input (R222); `none` where the function is evaluated. Operation codes: 1 TEXP, 2 TLOG, 3 TRCP,
4 TRSQ, 5 TTANH, 6 TSIGM, 7 TSIN, 8 TCOS. -/
def trxSpecial (op : Nat) (v : Val) : Option Val :=
  let one : Val := .fin false 1 1 0
  let zero := fun n => Val.fin n 0 1 0
  match v with
  | .nan => some .nan
  | .inf neg =>
    match op with
    | 1 => some (if neg then zero false else .inf false)
    | 2 => some (if neg then .nan else .inf false)
    | 3 => some (zero neg)
    | 4 => some (if neg then .nan else zero false)
    | 5 => some (.fin neg 1 1 0)
    | 6 => some (if neg then zero false else one)
    | _ => some .nan
  | .fin neg n _ _ =>
    if n = 0 then
      match op with
      | 1 => some one
      | 2 => some (.inf true)
      | 3 => some (.inf neg)
      | 4 => some (.inf neg)
      | 5 => some (zero neg)
      | 6 => some (.fin false 1 1 (-1))
      | 7 => some (zero neg)
      | _ => some one
    else if neg ∧ (op = 2 ∨ op = 4) then some .nan
    else none

/-- The distance between binary32 values near a value (R68). -/
def ulp32 (v : Val) : Val :=
  match v with
  | .fin _ n d e => if n = 0 then .fin false 1 1 (-149) else .fin false 1 1 (max (-149) (floorLog2 n d e - 23))
  | _ => .fin false 0 1 0

/-- Whether `a` is at most `b`. -/
def Val.le (a b : Val) : Bool := !(b.lt a)

/-- Whether a finite result r lies within 1 ulp of 1/x: (r - ulp) x and (r + ulp) x lie on the two sides of 1; for 1/√x, the
squares (R221). -/
def trxWithin (op : Nat) (x r : Val) : Bool :=
  let u := ulp32 r
  let mag : Val → Val := fun v => match v with | .fin _ n d e => .fin false n d e | v => v
  let lo := (mag r).add .rne u.negate
  let hi := (mag r).add .rne u
  let one : Val := .fin false 1 1 0
  let f := fun (v : Val) => if op = 3 then v.mul (mag x) else (v.mul v).mul x
  decide (r.neg = x.neg ∨ op = 4) && (lo.neg || (f lo).le one) && one.le (f hi)

/-- Whether a finite result r lies within 2 ulp of a function's value y (R221). -/
def trxNear (y : Int) (r : Val) : Bool :=
  decide ((fxOf r - y).natAbs ≤ (2 * fxOf (ulp32 r)).natAbs + y.natAbs / 2 ^ 150)

/-- The binary32 result of a TRX function (R221): the free value of the configuration, within the function's bound: a value outside it
gives way to the exact one rounded to nearest. -/
def trxValue (op x fmt rm : Nat) : Nat :=
  let v := f32 x
  match trxSpecial op v with
  | some r => (toF32 .rne r).1
  | none =>
    let free := Config.trx op x fmt rm % 2 ^ 32
    if op = 3 ∨ op = 4 then
      let one : Val := .fin false 1 1 0
      let near := (toF32 .rne (if op = 3 then one.div v else one.div v.sqrt)).1
      if (f32 free).special then near
      else if trxWithin op v (f32 free) then free else near
    else
      let y := fxFun op (fxOf v)
      let near := (toF32 .rne (fxVal y)).1
      if (f32 free).special then near
      else if trxNear y (f32 free) then free else near

/-- One element of the TRX: input converted exactly to binary32, the function, and its result in fmt (R221). -/
def trxElem (op fmt rm x : Nat) : Nat × Exc :=
  let m := (rmodeOf rm).getD .rne
  let v := decodeElem fmt x
  let r := f32 (trxValue op (toF32 .rne v).1 fmt rm)
  let (y, _) := roundElem fmt m (defaultSat fmt) 0 r
  (y, { nan := decide (r = .nan) && decide (v ≠ .nan),
        inf := !v.special && (match decodeElem fmt y with | .inf _ => true | _ => false) })

/-- TCFG (R186). -/
def trxConfig (e : Engine) (sl : Slot) : Eng EngOut := return { eng := { e with cfg1 := sl.w1 } }

/-- A function operation of the TRX on 1,024 T elements (R186, R221, R222): cluster counters 5 and 6. -/
def trxFunction (q u : Nat) (e : Engine) (sl : Slot) : Eng EngOut := do
  let n := 1024 * sl.tiles
  let f := natFld e.cfg1 0 4
  let nb := n * (elemBits f / 8)
  let x ← clusterRead q u e sl.fA nb
  let res := (elemsOf f n x).map (trxElem sl.op f (natFld e.cfg1 4 3))
  let ws ← clusterWrite q u e sl.fB (packElems f nb (res.map Prod.fst))
  let c ← engCluster q u
  Eng.change (fun s => (s.countCluster c 5 (countExc Exc.nan (res.map Prod.snd))).countCluster c 6
    (countExc Exc.inf (res.map Prod.snd)))
  return { eng := e, writes := ws }

/-- A TRX operation by its code (R186). -/
def trxRun (q u : Nat) (e : Engine) (sl : Slot) : Eng EngOut :=
  if sl.op = 0 then trxConfig e sl else if sl.op ≤ 8 then trxFunction q u e sl else Eng.illegal

/-! ### Sort-and-select engine (R187, R223) -/

/-- The values SCFG accepts (R187). -/
def scfgOk (w1 : Nat) : Bool := vxeFmt (natFld w1 0 4)

/-- Whether key `a` stays before key `b` when it comes first in the input (R223): not after it in the order. NaN is last in
either order. -/
def ssxBefore (desc : Bool) (a b : Val) : Bool :=
  if b = .nan then true else if a = .nan then false
  else if desc then !(a.lt b) else !(b.lt a)

/-- Inserts a record into an ordered list, after every record that stays before it. -/
def ssxInsert (desc : Bool) (x : Val × Nat × Nat) : List (Val × Nat × Nat) → List (Val × Nat × Nat)
  | [] => [x]
  | y :: l => if ssxBefore desc y.1 x.1 then y :: ssxInsert desc x l else x :: y :: l

/-- Records in order, equal keys in their input order (R223). -/
def ssxSort (desc : Bool) (l : List (Val × Nat × Nat)) : List (Val × Nat × Nat) :=
  l.foldl (fun acc x => ssxInsert desc x acc) []

/-- SCFG (R187). -/
def ssxConfig (e : Engine) (sl : Slot) : Eng EngOut := return { eng := { e with cfg1 := sl.w1 } }

/-- SSORT and STOPK (R223): keys and values in order; STOPK writes the first k only, and a k above n is illegal. Cluster
counter 7 counts the NaN keys. -/
def ssxOrder (top : Bool) (q u : Nat) (e : Engine) (sl : Slot) : Eng EngOut := do
  let n := 2 ^ natFld sl.mod 0 4
  let f := natFld e.cfg1 0 4
  let k := natFld e.cfg1 5 12 + 1
  if top ∧ n < k then Eng.illegal
  else
    let ks := elemBits f / 8
    let xk ← clusterRead q u e sl.fA (n * ks)
    let xv ← clusterRead q u e sl.fB (n * 4)
    let recs := (List.range n).map (fun i => let x := elemAt f xk i; (decodeElem f x, x, elemAt 6 xv i))
    let sorted := ssxSort (natBit e.cfg1 4) recs
    let out := if top then sorted.take k else sorted
    let wk ← clusterWrite q u e sl.fD (out.flatMap (fun r => leBytes ks r.2.1))
    let wv ← clusterWrite q u e sl.fE (out.flatMap (fun r => leBytes 4 r.2.2))
    let c ← engCluster q u
    Eng.change (fun s => s.countCluster c 7 (recs.filter (fun r => r.1 = .nan)).length)
    return { eng := e, writes := wk ++ wv }

/-- An SSX operation by its code (R187). -/
def ssxRun (q u : Nat) (e : Engine) (sl : Slot) : Eng EngOut :=
  match sl.op with
  | 0x00 => ssxConfig e sl
  | 0x01 => ssxOrder false q u e sl
  | 0x02 => ssxOrder true q u e sl
  | _ => Eng.illegal

/-! ### Index engine (R188, R224) -/

/-- Bins of the IXX configuration. -/
def Engine.bins (e : Engine) : Nat := natFld e.cfg1 0 12 + 1

/-- ICFG (R188). -/
def ixxConfig (e : Engine) (sl : Slot) : Eng EngOut := return { eng := { e with cfg1 := sl.w1 } }

/-- How many values equal each number from 0 to `bins - 1`. -/
def binCounts (bins : Nat) (vs : List Int) : List Int := (List.range bins).map (fun (b : Nat) => ((vs.filter (· = (b : Int))).length : Int))

/-- How many values lie outside 0 to `bins - 1`. -/
def binOutside (bins : Nat) (vs : List Int) : Nat := (vs.filter (fun v => v < 0 ∨ (bins : Int) ≤ v)).length

/-- IHIST (R224). -/
def ixxHist (q u : Nat) (e : Engine) (sl : Slot) : Eng EngOut := do
  let n := 1024 * sl.tiles
  let vs := int32s n (← clusterRead q u e sl.fA (4 * n))
  let ws ← clusterWrite q u e sl.fD (int32Bytes (binCounts e.bins vs))
  let c ← engCluster q u
  Eng.change (fun s => s.countCluster c 8 (binOutside e.bins vs))
  return { eng := e, writes := ws }

/-- The exclusive prefix sums of a list from a start. -/
def prefixSums : Int → List Int → List Int
  | _, [] => []
  | t, v :: vs => t :: prefixSums (t + v) vs

/-- IPSUM (R224). -/
def ixxPrefix (q u : Nat) (e : Engine) (sl : Slot) : Eng EngOut := do
  let n := 1024 * sl.tiles
  let vs := int32s n (← clusterRead q u e sl.fA (4 * n))
  return { eng := e, writes := ← clusterWrite q u e sl.fD (int32Bytes (prefixSums 0 vs)) }

/-- A list filled with zeros to `n` entries. -/
def zeroFill (n : Nat) (l : List Int) : List Int := l ++ List.replicate (n - l.length) 0

/-- ICOMP (R224): the values whose mask is not zero, zeros beyond, and their count. -/
def ixxCompact (q u : Nat) (e : Engine) (sl : Slot) : Eng EngOut := do
  let n := 1024 * sl.tiles
  let vs := int32s n (← clusterRead q u e sl.fA (4 * n))
  let ms := int32s n (← clusterRead q u e sl.fB (4 * n))
  let kept := ((vs.zip ms).filter (fun p => p.2 ≠ 0)).map Prod.fst
  let wd ← clusterWrite q u e sl.fD (int32Bytes (zeroFill n kept))
  let we ← clusterWrite q u e sl.fE (int32Bytes [(kept.length : Int)])
  return { eng := e, writes := wd ++ we }

/-- IROUTE (R224): token indices grouped by expert, zeros beyond, and the count of each expert. -/
def ixxRoute (q u : Nat) (e : Engine) (sl : Slot) : Eng EngOut := do
  let n := 1024 * sl.tiles
  let vs := int32s n (← clusterRead q u e sl.fA (4 * n))
  let idx := (List.range e.bins).flatMap (fun (x : Nat) => ((vs.zipIdx.filter (fun p => p.1 = (x : Int))).map (fun p => (p.2 : Int))))
  let wd ← clusterWrite q u e sl.fD (int32Bytes (zeroFill n idx))
  let we ← clusterWrite q u e sl.fE (int32Bytes (binCounts e.bins vs))
  let c ← engCluster q u
  Eng.change (fun s => s.countCluster c 8 (binOutside e.bins vs))
  return { eng := e, writes := wd ++ we }

/-- An IXX operation by its code (R188). -/
def ixxRun (q u : Nat) (e : Engine) (sl : Slot) : Eng EngOut :=
  match sl.op with
  | 0x00 => ixxConfig e sl
  | 0x01 => ixxHist q u e sl
  | 0x02 => ixxPrefix q u e sl
  | 0x03 => ixxCompact q u e sl
  | 0x04 => ixxRoute q u e sl
  | _ => Eng.illegal

/-! ### Compression engine (R225 to R227) -/

/-- The lines of 64 bytes of a list of bytes. -/
def linesOf (n : Nat) (bs : List Byte) : List (List Byte) := chunksOf 64 n bs

/-- The class of a line after its predecessor (R226). -/
def lineClass (prev : Option (List Byte)) (l : List Byte) : Nat :=
  if l.all (· = 0) then 0
  else if prev = some l then 1
  else if (l.filter (· ≠ 0)).length ≤ 55 then 2
  else 3

/-- The payload of a line of a class (R225). -/
def linePayload (c : Nat) (l : List Byte) : List Byte :=
  match c with
  | 2 => leBytes 8 (l.zipIdx.foldl (fun m p => if p.1 = 0 then m else m + 2 ^ p.2) 0) ++ l.filter (· ≠ 0)
  | 3 => l
  | _ => []

/-- The classes of all lines, in order. -/
def lineClasses : Option (List Byte) → List (List Byte) → List Nat
  | _, [] => []
  | prev, l :: ls => lineClass prev l :: lineClasses (some l) ls

/-- The class map: four classes to a byte (R225). -/
def classMap (n : Nat) (cs : List Nat) : List Byte :=
  leBytes n (cs.zipIdx.foldl (fun m p => m + p.1 * 4 ^ p.2) 0)

/-- The header of a compressed region (R225). -/
def cpxHeader (t : Nat) (stored : Bool) (len : Nat) : List Byte :=
  leBytes 4 0x4B5A4350 ++ leBytes 4 (t - 1 + b2n stored * 2 ^ 31) ++ leBytes 4 len ++ List.replicate 52 0

/-- The compressed region of `t` tiles, and whether the tiles are stored unchanged (R226). -/
def cpxCompress (t : Nat) (bs : List Byte) : List Byte × Bool :=
  let ls := linesOf (64 * t) bs
  let cs := lineClasses none ls
  let pay := (cs.zip ls).flatMap (fun p => linePayload p.1 p.2)
  let len := 16 * t + pay.length
  if len < 4096 * t then
    (cpxHeader t false len ++ classMap (16 * t) cs ++ pay ++ List.replicate (4096 * t - len) 0, false)
  else (cpxHeader t true 0 ++ bs, true)

/-- The 64 bytes of a class-2 line from its mask and the bytes that follow, with what remains; `none` when they run out. -/
def sparseLine : Nat → Nat → List Byte → Option (List Byte × List Byte)
  | 0, _, rest => some ([], rest)
  | n + 1, mask, rest =>
    if mask % 2 = 1 then
      match rest with
      | [] => none
      | b :: rest => (sparseLine n (mask / 2) rest).map (fun r => (b :: r.1, r.2))
    else (sparseLine n (mask / 2) rest).map (fun r => (0 :: r.1, r.2))

/-- The lines that a class list and payloads decode to; `none` when malformed (R227). -/
def cpxLines : Option (List Byte) → List Nat → List Byte → Option (List (List Byte))
  | _, [], rest => if rest.isEmpty then some [] else none
  | prev, c :: cs, rest =>
    let next : Option (List Byte × List Byte) :=
      match c with
      | 0 => some (List.replicate 64 0, rest)
      | 1 => prev.map (fun l => (l, rest))
      | 2 => if rest.length < 8 then none else sparseLine 64 (leNat (rest.take 8)) (rest.drop 8)
      | _ => if rest.length < 64 then none else some (rest.take 64, rest.drop 64)
    match next with
    | none => none
    | some (l, rest) => (cpxLines (some l) cs rest).map (fun ls => l :: ls)

/-- The tiles a compressed region decodes to; `none` when it is malformed (R227). -/
def cpxDecompress (t : Nat) (bs : List Byte) : Option (List Byte) :=
  let info := leNat ((bs.drop 4).take 4)
  let len := leNat ((bs.drop 8).take 4)
  let stored := natBit info 31
  let body := bs.drop 64
  if leNat (bs.take 4) ≠ 0x4B5A4350 ∨ natFld info 7 24 ≠ 0 ∨ ¬ ((bs.take 64).drop 12).all (· = 0) ∨ info % 128 + 1 ≠ t then none
  else if stored then (if len ≠ 0 then none else some (body.take (4096 * t)))
  else if len < 16 * t ∨ 4096 * t < len then none
  else
    let map := leNat (body.take (16 * t))
    (cpxLines none ((List.range (64 * t)).map (fun l => natFld map (2 * l) 2)) ((body.take len).drop (16 * t))).map List.flatten

/-- CCOMP (R226): cluster counter 9 counts a region stored uncompressed. -/
def cpxComp (q u : Nat) (e : Engine) (sl : Slot) : Eng EngOut := do
  let n := 4096 * sl.tiles
  let x ← clusterRead q u e sl.fA n
  let (bs, stored) := cpxCompress sl.tiles (leBytes n x)
  let ws ← clusterWrite q u e sl.fD bs
  let c ← engCluster q u
  Eng.change (fun s => s.countCluster c 9 (b2n stored))
  return { eng := e, writes := ws }

/-- CDEC (R227): a malformed region fails as a tile check, fault 0x01 (R189). -/
def cpxDec (q u : Nat) (e : Engine) (sl : Slot) : Eng EngOut := do
  let n := 4096 * sl.tiles
  let x ← clusterRead q u e sl.fA (n + 64)
  match cpxDecompress sl.tiles (leBytes (n + 64) x) with
  | some bs => return { eng := e, writes := ← clusterWrite q u e sl.fD bs }
  | none =>
    let p ← clusterPlace q u e sl.fA
    Eng.change (fun s => s.checkFailedStore 1 p.dpa (some (s.partOfDie q)))
    throw { code := 0x01 }

/-- A CPX operation by its code (R189). -/
def cpxRun (q u : Nat) (e : Engine) (sl : Slot) : Eng EngOut :=
  match sl.op with
  | 0x01 => cpxComp q u e sl
  | 0x02 => cpxDec q u e sl
  | _ => Eng.illegal

/-! ### Random-number engine (R190, R228) -/

/-- One 128-bit output in a distribution (R228). -/
def rnxOut (dist w : Nat) : List Byte :=
  match dist with
  | 0 => leBytes 16 w
  | 1 => (List.range 4).flatMap (fun j => leBytes 4 (toF32 .rne (.fin false (natFld w (32 * j + 8) 24) 1 (-24))).1)
  | _ => (List.range 8).flatMap (fun j =>
      leBytes 2 (roundElem 1 .rne false 0 (.fin false (natFld w (16 * j + 8) 8) 1 (-8))).1)

/-- RGEN (R190, R228). -/
def rnxGen (q u : Nat) (e : Engine) (sl : Slot) : Eng EngOut := do
  let s ← Eng.state
  let key := (s.sreg q (natFld sl.w1 16 5)).toNat
  let ctr := (s.sreg q (natFld sl.w1 21 5)).toNat
  let hi := (s.sreg q (natFld sl.w2 0 5)).toNat
  let bs := (List.range (256 * sl.tiles)).flatMap (fun m =>
    rnxOut (natFld sl.w1 26 2) (philox ((ctr + m) % 2 ^ 64 + hi * 2 ^ 64) key))
  return { eng := e, writes := ← clusterWrite q u e sl.fA bs }

/-- An RNX operation by its code (R190). -/
def rnxRun (q u : Nat) (e : Engine) (sl : Slot) : Eng EngOut := if sl.op = 1 then rnxGen q u e sl else Eng.illegal

/-! ### Every engine by class -/

/-- An operation of an engine of class 0x1 to 0x9 or 0xB. -/
def engineRun (q cls u k : Nat) (e : Engine) (sl : Slot) : Eng EngOut :=
  match cls with
  | 0x1 => mxeRun q u k e sl
  | 0x2 => vxeRun q u k e sl
  | 0x3 => knxRun q u e sl
  | 0x4 => fmxRun q u e sl
  | 0x5 => trxRun q u e sl
  | 0x6 => ssxRun q u e sl
  | 0x7 => ixxRun q u e sl
  | 0x8 => cpxRun q u e sl
  | 0x9 => rnxRun q u e sl
  | 0xB => ringRun q u e sl
  | _ => Eng.illegal

/-- The step constants L and II of an operation (R104, R180 to R191). -/
def engineTiming (e : Engine) (sl : Slot) : Nat × Nat :=
  let t := sl.tiles
  match sl.cls with
  | 0x1 => mxeTiming e sl.op
  | 0x2 => vxeTiming sl.op t
  | 0x3 => (8 * t + 12, 8 * t)
  | 0x4 => if sl.op = 0 then (1, 1) else (4 * t + 10, 4 * t)
  | 0x5 => if sl.op = 0 then (1, 1) else (16 * t + 20, 16 * t)
  | 0x6 =>
    if sl.op = 0 then (1, 1)
    else
      let p := natFld sl.mod 0 4
      (2 ^ p * p / 128 + 16, 2 ^ p * p / 128)
  | 0x7 => if sl.op = 0 then (1, 1) else (8 * t + 16, 8 * t)
  | 0x8 => (8 * t + 32, 8 * t)
  | 0x9 => (4 * t + 12, 4 * t)
  | 0xB => if sl.op = 0 then (1, 1) else (8 * t + 24, 8 * t)
  | _ => (1, 1)

/-- The OREF fields that an operation names (R166); configuration operations name none. -/
def Slot.orefs (sl : Slot) : List Nat :=
  match sl.cls, sl.op with
  | 0x1, 0x01 => [sl.fA, sl.fB]
  | 0x1, 0x02 => [sl.fA, sl.fB]
  | 0x1, 0x03 => [sl.fA, sl.fB, sl.fD]
  | 0x1, 0x04 => [sl.fA, sl.fB, sl.fD]
  | 0x1, 0x05 => [sl.fA, sl.fB, sl.fD]
  | 0x2, 0x03 => [sl.fA, sl.fB, sl.fD, sl.fE]
  | 0x2, 0x06 => [sl.fA, sl.fD]
  | 0x2, 0x07 => [sl.fA, sl.fD]
  | 0x2, 0x08 => [sl.fA, sl.fD]
  | 0x2, 0x00 => []
  | 0x2, _ => [sl.fA, sl.fB, sl.fD]
  | 0x3, 0x01 => [sl.fA, sl.fD]
  | 0x3, 0x02 => [sl.fA, sl.fD]
  | 0x3, _ => [sl.fA, sl.fB, sl.fD]
  | 0x4, 0x01 => [sl.fA, sl.fB, sl.fD, sl.fE]
  | 0x4, 0x02 => [sl.fA, sl.fB, sl.fE]
  | 0x5, 0x00 => []
  | 0x5, _ => [sl.fA, sl.fB]
  | 0x6, 0x00 => []
  | 0x6, _ => [sl.fA, sl.fB, sl.fD, sl.fE]
  | 0x7, 0x01 => [sl.fA, sl.fD]
  | 0x7, 0x02 => [sl.fA, sl.fD]
  | 0x7, 0x03 => [sl.fA, sl.fB, sl.fD, sl.fE]
  | 0x7, 0x04 => [sl.fA, sl.fD, sl.fE]
  | 0x8, 0x01 => [sl.fA, sl.fD]
  | 0x8, 0x02 => [sl.fA, sl.fD]
  | 0x9, 0x01 => [sl.fA]
  | 0xB, 0x00 => []
  | 0xB, _ => [sl.fA, sl.fB]
  | _, _ => []

end Sys2Proof.Machine
end

