-- ==== Sys2Proof/Machine/Seq.lean ====
section
/-!
DEFINITION. What a sequencer does with time, tokens, faults and pages (03_recipe_execution.md R98 to R135): freezing and
counting frozen cycles by cause, tokens, landing results, stopping and ending a recipe, and the recipe buffer.
-/
namespace Sys2Proof.Machine

/-! ### Status and freezes (R101, R154) -/

/-- Sets SEQ_STATUS.state and freeze_cause (R154). -/
def State.setSeqState (s : State) (q st cause : Nat) : State :=
  (s.wrF (Reg.seqStatus q) 3 0 st).wrF (Reg.seqStatus q) 11 8 cause

/-- Whether the sequencer runs and is not frozen: the state in which slots take effect. -/
def State.running (s : State) (q : Nat) : Bool := s.seqState q == 2 && decide ((s.seq q).freeze = .no)

/-- The tokens that are pending, ascending. -/
def Seq.pendingTokens (z : Seq) : List Nat := (z.tokens.filter (fun e => e.2.state = .pending)).map Prod.fst

/-- Whether a token is pending. -/
def Seq.isPending (z : Seq) (t : Nat) : Bool := decide ((z.tokens.get t).state = .pending)

/-- The lowest failed token of a list. -/
def Seq.lowestFailed (z : Seq) (ts : List Nat) : Option Nat :=
  (List.range 256).find? (fun t => ts.contains t && decide ((z.tokens.get t).state = .failed))

/-- The token sets that a freeze waits for. -/
def Freeze.awaited : Freeze → List Nat
  | .wait ts => ts
  | .drain ts => ts
  | _ => []

/-- Frozen cycles not yet attributed are counted under a cause (R101). -/
def State.attribute (s : State) (q cause : Nat) : State :=
  (s.count (Reg.seqStall q cause) (s.seq q).frozen).updSeq q (fun z => { z with frozen := 0 })

/-- The partition freezes (R98). -/
def State.freezeOn (s : State) (q : Nat) (f : Freeze) (st cause : Nat) : State :=
  (s.updSeq q (fun z => { z with freeze := f, frozen := 0, lastCause := cause })).setSeqState q st cause

/-- The freeze in force ends: its frozen cycles count under its cause, for a wait the class of the token that completed last
(R101); the partition runs. -/
def State.unfreeze (s : State) (q : Nat) : State :=
  ((s.attribute q (s.seq q).lastCause).updSeq q (fun z => { z with freeze := .no })).setSeqState q 2 0

/-! ### Results in flight (R104, R202, R203) -/

/-- A write of a synchronous operation lands. -/
def State.landOne (s : State) (q : Nat) (raced : Bool) (w : StoreWrite) : State :=
  let s := s.noteSource q w.addr w.data.length
  if raced then s.landRacing w else s.writeBytes w.addr w.data

/-- Every operation in flight whose results are visible at step `t` writes them (R104). -/
def State.landDue (s : State) (q t : Nat) : State :=
  let (due, rest) := (s.seq q).inFlight.partition (fun f => decide (f.visibleAt ≤ t))
  (s.each due (fun s f => s.each f.writes (fun s w => s.landOne q f.raced w))).updSeq q (fun z => { z with inFlight := rest })

/-- Every operation in flight completes and writes its results, in cycles that count as no step (R126, R128). -/
def State.landAll (s : State) (q : Nat) : State :=
  (s.each (s.seq q).inFlight (fun s f => s.each f.writes (fun s w => s.landOne q f.raced w))).updSeq q
    (fun z => { z with inFlight := [] })

/-- Whether two operations race (R203): the read or write window of one and the write window of the other share a step and
their extents a byte. -/
def InFlight.races (a b : InFlight) : Bool :=
  let meets := fun (x y : Nat × Nat) => decide (x.1 < y.2) && decide (y.1 < x.2)
  let rw := fun (f : InFlight) => (f.issuedAt, f.issuedAt + f.ii)
  let ww := fun (f : InFlight) => (f.visibleAt - f.ii, f.visibleAt)
  let touch := fun (x y : List (Nat × Nat)) => x.any (fun e => y.any (fun g => extentsMeet e.1 e.2 g.1 g.2))
  let ws := fun (f : InFlight) => f.writes.map (fun w => (w.addr, w.data.length))
  (meets (rw a) (ww b) && touch a.reads (ws b)) || (meets (ww a) (rw b) && touch (ws a) b.reads)
    || (meets (ww a) (ww b) && touch (ws a) (ws b))

/-- An operation joins those in flight; every one of a racing pair lands as a race leaves it (R203). -/
def addInFlight (l : List InFlight) (f : InFlight) : List InFlight :=
  let hit := l.any (fun g => g.races f)
  l.map (fun g => if g.races f then { g with raced := true } else g) ++ [{ f with raced := hit }]

/-! ### Stopping (R127 to R129, R134) -/

/-- Standing orders become idle and waiting slots are discarded (R126, R128). -/
def Engine.halt (e : Engine) : Engine := { e with waiting := [], order := { e.order with running := false } }

/-- A token leaves pending. -/
def Seq.setToken (z : Seq) (t : Nat) (st : TokenState) : Seq :=
  { z with tokens := z.tokens.upd t (fun k => { k with state := st }) }

/-- The prefetches of a list of tokens that wait for the PC to leave the executing page are cancelled, and their tokens
fail (R128, R134). -/
def Seq.cancelPrefetches (z : Seq) (ts : List Nat) : Seq :=
  let hit := z.prefetches.filter (fun p => p.waits && ts.contains p.token)
  { hit.foldl (fun z p => z.setToken p.token .failed) z with
    prefetches := z.prefetches.filter (fun p => !(p.waits && ts.contains p.token)) }

/-- Tokens of a list that name a prefetch waiting for the executing page (R134). -/
def Seq.blockedTokens (z : Seq) (ts : List Nat) : List Nat :=
  (z.prefetches.filter (fun p => p.waits && ts.contains p.token && z.isPending p.token)).map Prefetch.token

/-- A stopped recipe whose asynchronous operations have all completed enters state faulted; SEQ_CTRL.abort is cleared
(R128, R153). -/
def State.settleStop (s : State) (q : Nat) : State :=
  if (s.seq q).freeze = .stopping ∧ (s.seq q).pendingTokens = [] then
    ((s.updSeq q (fun z => { z with freeze := .no, frozen := 0 })).setSeqState q 8 0).wrB (Reg.seqCtrl q) 2 false
  else s

/-- Tokens that would have left pending at the next step leave it with the stop (R128). -/
def State.settleAfter (s : State) (q : Nat) : State :=
  s.updSeq q (fun z => { z.soon.foldl (fun z t => if z.isPending t.1 then z.setToken t.1 (if t.2 then .done else .failed) else z) z with soon := [] })

/-- What a stop reports. -/
structure StopInfo where
  code : Nat
  eclass : Nat := 0
  u : Nat := 0
  k : Nat := 0
  token : Nat := 0
deriving DecidableEq, Repr, Inhabited

/-- SEQ_FAULT of a stop (R155). -/
def StopInfo.word (f : StopInfo) : W64 :=
  setFld (setFld (setFld (setFld (setFld (setFld 0 7 0 f.code) 11 8 f.eclass) 21 16 f.u) 27 24 f.k) 31 31 1) 39 32 f.token

/-- Whether a recipe can stop: it runs, is frozen, or stands at a commit point, and has not stopped already. -/
def State.canStop (s : State) (q : Nat) : Bool :=
  (s.seqState q == 2 || s.seqState q == 3 || s.seqState q == 4) && decide ((s.seq q).freeze ≠ .stopping)

/-- The recipe stops on a fault (R127, R128): the fault registers and the event, standing orders idle, waiting slots
discarded, results in flight written, waiting prefetches cancelled; state faulted once no token is pending. DESIGN CHOICE: the frozen
cycles of a wait that a stop ends before an awaited token completes count under the class of the lowest pending token; and
SEQ_STATUS.freeze_cause reads 0 from a stop until state faulted, a freeze to which R101 gives no cause. -/
def State.stopRecipe (s : State) (q : Nat) (f : StopInfo) : State :=
  if !s.canStop q then s
  else
    let part := s.partOfDie q
    let s := if f.code = 0x08 then s.event 0x80D (part := some part) (agent := Agent.sch.num)
      else s.event (0x600 + f.code) .none f.word.toNat (some part)
    let s := ((s.wr (Reg.seqFault q) f.word).wr (Reg.seqFaultStep q) (s.rd (Reg.seqStep q))).wr (Reg.seqFaultPc q)
      (s.rd (Reg.seqPc q))
    let s := if (s.seq q).freeze = .no then s else s.attribute q (s.seq q).lastCause
    let s := s.landAll q
    let s := s.updSeq q (fun z =>
      { z.cancelPrefetches (List.range 256) with
        engines := z.engines.map (fun e => (e.1, e.2.halt)), endAt := none, freeze := .stopping, frozen := 0, passed := false, held := none })
    let s := s.updSeq q (fun z => { z with engines := z.engines.filter (fun e => e.2 ≠ default) })
    ((s.setSeqState q 3 0).settleAfter q).settleStop q

/-! ### Tokens (R112 to R114) -/

/-- An asynchronous operation takes its token (R113). -/
def Seq.openToken (z : Seq) (t cause parts : Nat) : Seq :=
  { z with tokens := z.tokens.set t { state := .pending, cause := cause, left := parts } }

/-- A part of a token's operation ends; with its last part the token becomes done, or failed when any part failed (R114,
R192, R194). A wait on the token takes its class, and a stop may complete (R101, R128). -/
def State.tokenPart (s : State) (q t : Nat) (ok : Bool) : State :=
  let z := s.seq q
  let k := z.tokens.get t
  if k.state ≠ .pending then s
  else if 1 < k.left then
    s.updSeq q (fun z => { z with tokens := z.tokens.set t { k with left := k.left - 1, error := k.error || !ok } })
  else
    let z := z.setToken t (if k.error || !ok then .failed else .done)
    let z := if z.freeze.awaited.contains t then { z with lastCause := k.cause } else z
    (s.updSeq q (fun _ => z)).settleStop q

/-- Tokens leave pending at the step that begins (R133, R175, R300, R429). -/
def State.settleSoon (s : State) (q : Nat) : State :=
  let l := (s.seq q).soon
  (s.updSeq q (fun z => { z with soon := [] })).each l (fun s t => s.tokenPart q t.1 t.2)

/-! ### The recipe buffer (R130 to R135) -/

/-- Frames of a partition's recipe buffer (R131). -/
def State.frameCount (s : State) (q : Nat) : Nat := 64 * max 1 (s.gang q).length

/-- Whether a page is resident, or was loaded for the bundle being handled. -/
def State.pageReady (s : State) (q p : Nat) : Bool :=
  decide ((s.seq q).frames.get (p % s.frameCount q) = some p) || (s.seq q).fetched.contains p

/-- The outcome of a page load: an address error, the offset of a tile that failed its check, or the page's bytes. -/
inductive PageLoad where
  | noHandle
  | badTile (off : Nat)
  | loaded (cells : List (Nat × Byte))
deriving DecidableEq, Repr, Inhabited

/-- The lines of a page of the image are read as it loads (R243). -/
def State.readPage (s : State) (q p : Nat) : State := s.readExtent (s.seq q).image ((s.seq q).imageOff + p * 65536) 65536

/-- Loads a page of the image: each of its sixteen tiles verified (R131). The bytes are those that are not zero, by offset in the page. -/
def State.loadPage (s : State) (q p : Nat) : PageLoad :=
  let z := s.seq q
  if !s.handleOwned (.engine (s.partOfDie q)) z.image then .noHandle
  else (List.range 16).foldl (fun acc t =>
    match acc with
    | .loaded cells =>
      let off := z.imageOff + p * 65536 + t * 4096
      match s.translate z.image off with
      | none => .noHandle
      | some a =>
        if s.pcRetired a then .noHandle
        else if s.tileFails (a / 4096) then .badTile off
        else .loaded (cells ++ (s.mem.filter (fun e => a ≤ e.1 ∧ e.1 < a + 4096)).map (fun e => (e.1 - a + t * 4096, e.2)))
    | r => r) (.loaded [])

/-- A page takes its frame (R131). -/
def State.placePage (s : State) (q p : Nat) (cells : List (Nat × Byte)) : State :=
  let f := p % s.frameCount q
  s.updSeq q (fun z =>
    { z with
      frames := z.frames.set f (some p)
      buffer := Tbl.splice z.buffer (f * 65536) ((f + 1) * 65536) (cells.map (fun e => (f * 65536 + e.1, e.2))) })

/-- Bytes of the image as the sequencer reads them: from the frame that holds the page, or, when the page of this bundle's
own order record displaced it, from the image, which a running recipe leaves unchanged (R130). -/
def State.imageNat (s : State) (q off n : Nat) : Nat :=
  let z := s.seq q
  let p := off / 65536
  let f := p % s.frameCount q
  if z.frames.get f = some p then memNat z.buffer (f * 65536 + off % 65536) n
  else match s.translate z.image (z.imageOff + off) with
    | some a => s.readNat a n
    | none => 0

/-- The 32-bit word of the image at an offset. -/
def State.imageWord (s : State) (q off : Nat) : Nat := s.imageNat q off 4

/-- A fault at a page load (R127, R132): fault 0x05 when the image does not translate, and fault 0x07 with event 0x303 for a
tile that fails its check. -/
def State.pageFault (s : State) (q : Nat) (r : PageLoad) : State :=
  match r with
  | .noHandle => s.stopRecipe q { code := 0x05 }
  | .badTile off =>
    (s.checkFailedHandle 6 (s.seq q).image off (some (s.partOfDie q))).stopRecipe q { code := 0x07 }
  | .loaded _ => s

/-! ### Ending (R126) -/

/-- The recipe ends after its END bundle's last step: results in flight are written, standing orders become idle. DESIGN CHOICE: operation
slots that still wait (R109) are discarded. -/
def State.endRecipe (s : State) (q : Nat) : State :=
  let s := s.landAll q
  let s := s.updSeq q (fun z =>
    { z with engines := (z.engines.map (fun e => (e.1, e.2.halt))).filter (fun e => e.2 ≠ default), endAt := none, freeze := .no, held := none })
  s.setSeqState q 7 0

end Sys2Proof.Machine
end

