-- ==== Sys2Proof/Machine/Issue.lean ====
section
/-!
DEFINITION. Issue of synchronous operations (R102, R108, R109, R179): operation slots, standing orders and their control slots
(R105 to R109, R176 to R178), and the passing of a step (R98).
-/
namespace Sys2Proof.Machine

/-! ### Slot words (R161, R168, R193) -/

/-- A slot from its words (R161); bits 19:0 stand in `low` as well, for the classes that lay them out themselves. -/
def slotOfWords (w0 w1 w2 : Nat) : Slot :=
  { cls := natFld w0 28 4, op := natFld w0 20 6, nw := natFld w0 26 2, gmode := natFld w0 18 2, gsel := natFld w0 12 6,
    csel := natFld w0 7 5, mod := natFld w0 0 7, low := natFld w0 0 20,
    w1 := if 2 ≤ natFld w0 26 2 then w1 else 0, w2 := if natFld w0 26 2 = 3 then w2 else 0 }

/-- The words each operation has (R170, R171, R174 to R176, R180 to R193); `none`: unassigned. -/
def opWords (cls op : Nat) : Option Nat :=
  let ctl := if op = 0x38 ∨ op = 0x3B ∨ op = 0x3C then some 2 else if op = 0x39 ∨ op = 0x3A then some 1 else none
  match cls with
  | 0x0 =>
    if op ∈ [0x03, 0x18, 0x30] then some 3
    else if op ∈ [0x01, 0x02, 0x10, 0x11, 0x12, 0x20, 0x21, 0x22, 0x23, 0x24, 0x25, 0x26, 0x28, 0x38] then some 2
    else if op ∈ [0x04, 0x05, 0x06, 0x07, 0x08, 0x09, 0x0A, 0x0B, 0x0C, 0x0D, 0x0E, 0x13, 0x14, 0x15, 0x19, 0x2C, 0x2D, 0x31, 0x39]
    then some 1 else none
  | 0x1 => if op ∈ [0x00, 0x03, 0x04, 0x05] then some 3 else if op ∈ [0x01, 0x02] then some 2 else ctl
  | 0x2 => if op = 0 then some 2 else if op ≤ 0x08 then some 3 else ctl
  | 0x3 => if 1 ≤ op ∧ op ≤ 5 then some 3 else ctl
  | 0x4 => if op ≤ 2 then some 3 else ctl
  | 0x5 => if op ≤ 8 then some 2 else ctl
  | 0x6 => if op = 0 then some 2 else if op ≤ 2 then some 3 else ctl
  | 0x7 => if op = 0 then some 2 else if op ≤ 4 then some 3 else ctl
  | 0x8 => if op = 1 ∨ op = 2 then some 3 else ctl
  | 0x9 => if op = 1 then some 3 else ctl
  | 0xA => if 1 ≤ op ∧ op ≤ 7 then some 3 else none
  | 0xB => if op ≤ 3 then some 2 else ctl
  | 0xC => if op = 1 then some 2 else none
  | 0xD => if op = 1 then some 2 else none
  | 0xE => if op = 1 then some 1 else none
  | _ => none

/-- The engine classes with standing orders (R105). -/
def orderClass (c : Nat) : Bool := (decide (1 ≤ c) && decide (c ≤ 9)) || c == 0xB

/-- Whether a slot is a control slot of R176. -/
def Slot.isControl (sl : Slot) : Bool := orderClass sl.cls && decide (0x38 ≤ sl.op) && decide (sl.op ≤ 0x3C)

/-! ### Legality of a slot's own fields (R195 items 5, 6 and 8) -/

/-- Whether an OREF is well formed and names the cluster store (R166). -/
def orefClu (o : Nat) : Bool := orefWf o && orefCluster o
/-- Whether an OREF is well formed and names a cell store. -/
def orefCell (o : Nat) : Bool := orefWf o && !orefCluster o

/-- The fields of an MXE operation (R180, R182). -/
def mxeFieldsOk (sl : Slot) : Bool :=
  sl.mod == 0 &&
  (if sl.op = 0 then natFld sl.w1 24 8 == 0 && mcfgOk sl.w1
   else orefWf sl.fA && orefWf sl.fB && (decide (sl.op < 3) || (orefWf sl.fD && sl.fE == 0)))

/-- The fields of a VXE operation (R183). -/
def vxeFieldsOk (sl : Slot) : Bool :=
  if sl.op = 0 then sl.mod == 0 && natFld sl.w1 11 21 == 0 && vcfgOk sl.w1
  else orefWf sl.fA && orefWf sl.fD &&
    (if sl.op ≤ 5 then orefWf sl.fB && (if sl.op = 3 then orefWf sl.fE else sl.fE == 0)
     else if sl.op = 6 then sl.fB == 0 && decide (sl.fE < 32)
     else sl.fB == 0 && sl.fE == 0)

/-- The fields of a cluster engine's operation (R184 to R191). -/
def clusterFieldsOk (sl : Slot) : Bool :=
  let none0 := fun o => o == 0
  let opt := fun o => o == 0 || orefClu o
  match sl.cls with
  | 0x3 =>
    orefClu sl.fA && orefClu sl.fD && (if sl.op ≤ 2 then none0 sl.fB else orefClu sl.fB) && knxOk sl.op sl.fE sl.tiles
  | 0x4 =>
    if sl.op = 0 then sl.mod == 0 && natFld sl.w1 12 20 == 0 && natFld sl.w2 15 17 == 0 && fcfgOk sl.w1
    else orefClu sl.fA && opt sl.fB && (if sl.op = 1 then orefClu sl.fD && opt sl.fE else none0 sl.fD && orefClu sl.fE)
  | 0x5 =>
    if sl.op = 0 then sl.mod == 0 && natFld sl.w1 7 25 == 0 && tcfgOk sl.w1 else orefClu sl.fA && orefClu sl.fB
  | 0x6 =>
    if sl.op = 0 then sl.mod == 0 && natFld sl.w1 17 15 == 0 && scfgOk sl.w1
    else decide (6 ≤ sl.mod) && decide (sl.mod ≤ 12) && orefClu sl.fA && orefClu sl.fB && orefClu sl.fD && orefClu sl.fE
  | 0x7 =>
    if sl.op = 0 then sl.mod == 0 && natFld sl.w1 12 20 == 0
    else orefClu sl.fA && orefClu sl.fD && (if sl.op = 3 then orefClu sl.fB else none0 sl.fB)
      && (if sl.op = 3 ∨ sl.op = 4 then orefClu sl.fE else none0 sl.fE)
  | 0x8 => orefClu sl.fA && none0 sl.fB && orefClu sl.fD && none0 sl.fE
  | 0x9 => orefClu sl.fA && decide (natFld sl.w1 26 2 ≠ 3) && natFld sl.w1 28 4 == 0 && natFld sl.w2 5 27 == 0
  | _ =>
    if sl.op = 0 then sl.mod == 0 && natFld sl.w1 7 25 == 0 && rcfgOk sl.w1
    else if sl.op = 2 then orefClu sl.fA && orefCell sl.fB
    else orefCell sl.fA && orefClu sl.fB

/-- The fields of an operation slot of classes 0x1 to 0x9 and 0xB. -/
def opFieldsOk (sl : Slot) : Bool :=
  match sl.cls with
  | 0x1 => mxeFieldsOk sl
  | 0x2 => vxeFieldsOk sl
  | _ => clusterFieldsOk sl

/-- Whether a configuration accepts an FMX or SSX slot whose legality depends on it (R219, R223). FSCALE without a
block-scaled fmt_out is R210's own case and is met at issue. -/
def configAccepts (cfg1 : Nat) (sl : Slot) : Bool :=
  match sl.cls, sl.op with
  | 0x4, 0x01 => fmxScalesOk cfg1 sl.w1 sl.w2
  | 0x6, 0x02 => decide (natFld cfg1 5 12 + 1 ≤ 2 ^ natFld sl.mod 0 4)
  | _, _ => true

/-- The configuration that an operation slot joining an engine will meet: of the last configuration slot that waits, or the
engine's own. -/
def Engine.nextCfg (e : Engine) : Nat :=
  ((e.waiting.filter (fun s => s.op = 0)).getLast?.map Slot.w1).getD e.cfg1

/-! ### Issue of an operation -/

/-- The generators of an order after an operation that names some of them (R107). -/
def Order.advance (o : Order) (gs : List Nat) : Order :=
  { o with gens := o.gens.zipIdx.map (fun g => if gs.contains g.2 then g.1.advance else g.1) }

/-- An engine issues an operation at this step (R104, R107, R202): it reads its operands, takes the initiation interval, and
its results are in flight until its latency. A fault is answered for the recipe to stop with. -/
def State.issueOp (s : State) (q cls u k : Nat) (sl : Slot) : State × Option StopInfo :=
  let e := s.engine q cls u k
  let (lat, ii) := engineTiming e sl
  let now := s.stepOf q
  match (engineRun q cls u k e sl).run ({ st := s, ii := ii } : EngSt) with
  | (.ok out, st) =>
    let s := st.st.updEngine q cls u k (fun _ =>
      { out.eng with readyAt := now + ii, order := out.eng.order.advance (orefGens sl.orefs) })
    let f : InFlight := { visibleAt := now + lat, issuedAt := now, ii := ii, reads := st.reads, writes := out.writes }
    (s.updSeq q (fun z => { z with inFlight := addInFlight z.inFlight f }), none)
  | (.error f, st) => (st.st, some { code := f.code, eclass := cls, u := u, k := f.cell.getD k })

/-- The first fault of two. -/
def firstFault (a b : Option StopInfo) : Option StopInfo := match a with | some f => some f | none => b

/-- An operation slot at one instance (R109): issued at once when the engine is ready and no earlier slot waits, and
waiting otherwise. -/
def State.slotAt (s : State) (q cls u k : Nat) (sl : Slot) : State × Option StopInfo :=
  let e := s.engine q cls u k
  if e.readyAt ≤ s.stepOf q ∧ e.waiting = [] then s.issueOp q cls u k sl
  else (s.updEngine q cls u k (fun e => { e with waiting := e.waiting ++ [sl] }), none)

/-- An operation slot at every instance it addresses. -/
def State.slotOps (s : State) (q : Nat) (sl : Slot) (is : List (Nat × Nat)) : State × Option StopInfo :=
  is.foldl (fun a i =>
    let r := a.1.slotAt q sl.cls i.1 i.2 sl
    (r.1, firstFault a.2 r.2)) (s, none)

/-! ### Standing orders (R105 to R109, R176 to R178) -/

/-- The slot that entry `e` of an order holds. -/
def Order.entry (o : Order) (e : Nat) : Slot := slotOfWords (o.words.get (3 * e)) (o.words.get (3 * e + 1)) (o.words.get (3 * e + 2))

/-- Whether entry `e` is an operation slot of a class (R105, R177, R178). -/
def Order.entryOk (o : Order) (cls e : Nat) : Bool :=
  let sl := o.entry e
  sl.cls == cls && decide (sl.op < 0x38) && decide (opWords cls sl.op = some sl.nw) && natFld sl.low 7 13 == 0
    && (decide (2 ≤ sl.nw) || o.words.get (3 * e + 1) == 0) && (decide (sl.nw = 3) || o.words.get (3 * e + 2) == 0)
    && opFieldsOk sl

/-- A loop of an order record (R177). -/
def orderLoopOf (w : Nat) : OrderLoop :=
  { first := natFld w 0 4, last := natFld w 4 4, count := natFld w 8 16 + 1, remaining := natFld w 8 16 + 1 }

/-- A generator of an order record, from its seven words (R177). -/
def generatorOf (w : Nat → Nat) : Generator :=
  { base := w 0, extents := (List.range 4).map (fun i => natFld (w (1 + i / 2)) (16 * (i % 2)) 16 + 1),
    strides := (List.range 4).map (fun i => toSigned 32 (w (3 + i))) }

/-- The order that a record of 96 words loads (R177), idle. -/
def orderOf (w : Nat → Nat) : Order :=
  let c := w 51
  { words := Tbl.run 0 ((List.range 48).map w),
    loops := (List.range 3).map (fun l => orderLoopOf (w (48 + l))),
    gens := (List.range 4).map (fun g => generatorOf (fun i => w (52 + 7 * g + i))),
    first := natFld c 0 4, last := natFld c 4 4, again := natBit c 8, pointer := natFld c 0 4, running := false }

/-- The nesting of R106: L2 in L1 in L0 in the program range, each first entry at or before its last. -/
def Order.nested (o : Order) : Bool :=
  (o.loops.foldl (fun a l => (a.1 && decide (l.first ≤ l.last) && decide (a.2.1 ≤ l.first) && decide (l.last ≤ a.2.2), l.first, l.last))
    (decide (o.first ≤ o.last), o.first, o.last)).1

/-- The words of the order record at an image offset. -/
def State.recordWord (s : State) (q off i : Nat) : Nat := s.imageWord q (off + 4 * i)

/-- Whether an order record meets R106, R177 and R178 for a class. -/
def State.recordOk (s : State) (q cls off : Nat) : Bool :=
  let w := s.recordWord q off
  let o := orderOf w
  decide (off % 128 = 0) && decide (off + 384 ≤ (s.seq q).imageLen) && decide (off % 65536 + 384 ≤ 65536)
    && natFld (w 51) 9 23 == 0 && (List.range 3).all (fun l => natFld (w (48 + l)) 24 8 == 0)
    && (List.range 16).all (fun i => w (80 + i) == 0) && o.nested
    && (List.range 16).all (fun e => decide (e < o.first) || decide (o.last < e) || o.entryOk cls e)

/-- A start of an order (R109). -/
def Order.start (o : Order) : Order :=
  { o with running := true, pointer := o.first, loops := o.loops.map (fun l => { l with remaining := l.count }),
           gens := o.gens.map (fun g => { g with index := [0, 0, 0, 0] }) }

/-- SOLD at one order: the whole order loaded from a record, then started when its start bit is set (R176). -/
def Order.sold (o : Order) (start : Bool) : Order := if start then o.start else o

/-- SOGEN: base of generator `g` (R176). -/
def Order.setBase (o : Order) (g base : Nat) : Order := { o with gens := updAt o.gens g (fun x => { x with base := base }) }

/-- SOLOOP: count and remaining of loop `l` (R176). -/
def Order.setLoop (o : Order) (l n : Nat) : Order :=
  { o with loops := updAt o.loops l (fun x => { x with count := n, remaining := n }) }

/-- A control slot at an order (R109, R176). -/
def State.controlOrder (s : State) (q : Nat) (sl : Slot) (o : Order) : Order :=
  match sl.op with
  | 0x38 => (orderOf (s.recordWord q sl.w1)).sold (natBit sl.mod 0)
  | 0x39 => o.start
  | 0x3A => { o with running := false }
  | 0x3B => o.setBase (sl.mod % 4) (fld (s.sreg q (sl.w1 % 32)) 31 0)
  | _ => o.setLoop (sl.mod % 4) (s.sreg q (sl.w1 % 32)).toNat

/-- A control slot at every instance it addresses. -/
def State.slotControl (s : State) (q : Nat) (sl : Slot) (is : List (Nat × Nat)) : State :=
  is.foldl (fun s' i => s'.updEngine q sl.cls i.1 i.2 (fun e => { e with order := s.controlOrder q sl e.order })) s

/-- Loops of an order from L2 to L0 at a pointer (R108 step 2): the loops after it, and where the pointer jumps to. -/
def loopJump : List OrderLoop → Nat → List OrderLoop × Option Nat
  | [], _ => ([], none)
  | l :: ls, p =>
    if l.last ≠ p then
      let r := loopJump ls p
      (l :: r.1, r.2)
    else if 1 < l.remaining then ({ l with remaining := l.remaining - 1 } :: ls, some l.first)
    else
      let r := loopJump ls p
      ({ l with remaining := l.count } :: r.1, r.2)

/-- An order after it has issued the entry at its pointer (R108 steps 2 to 4). -/
def Order.walk (o : Order) : Order :=
  let (ls, jump) := loopJump o.loops.reverse o.pointer
  let o := { o with loops := ls.reverse }
  match jump with
  | some p => { o with pointer := p }
  | none =>
    let p := o.pointer + 1
    if o.last < p then (if o.again then { o with pointer := o.first } else { o with pointer := p % 16, running := false })
    else { o with pointer := p }

/-- The first waiting slot of a ready engine issues (R109). -/
def State.issueWaiting (s : State) (q cls u k : Nat) : State × Option StopInfo :=
  let e := s.engine q cls u k
  match e.waiting with
  | [] => (s, none)
  | sl :: rest =>
    if e.readyAt ≤ s.stepOf q then
      (s.updEngine q cls u k (fun e => { e with waiting := rest })).issueOp q cls u k sl
    else (s, none)

/-- A ready engine with no waiting slot issues the entry at its running order's pointer (R108); an entry that is no operation
slot of the class stops the recipe with fault 0x02 (R105). -/
def State.issueOrder (s : State) (q cls u k : Nat) : State × Option StopInfo :=
  let e := s.engine q cls u k
  if e.waiting = [] ∧ e.order.running ∧ e.readyAt ≤ s.stepOf q then
    if e.order.entryOk cls e.order.pointer then
      let r := s.issueOp q cls u k (e.order.entry e.order.pointer)
      (r.1.updEngine q cls u k (fun e => { e with order := e.order.walk }), r.2)
    else (s, some { code := 0x02, eclass := cls, u := u, k := k })
  else (s, none)

/-- What every engine does at a step at which no slot addresses it: a waiting slot issues first, and a standing order where
none waits, engines in the order of R164. The first fault is answered. -/
def State.stepEngines (s : State) (q : Nat) : State × Option StopInfo :=
  ((s.seq q).engines.keys).foldl (fun a key =>
    let cls := key / 1024
    let u := key % 1024 / 16
    let k := key % 16
    let w := (a.1.engine q cls u k).waiting
    let r := if w = [] then a.1.issueOrder q cls u k else a.1.issueWaiting q cls u k
    (r.1, firstFault a.2 r.2)) (s, none)

/-- The recipe stops when a fault was met. -/
def State.stopIf (r : State × Option StopInfo) (q : Nat) : State :=
  match r.2 with
  | some f => r.1.stopRecipe q f
  | none => r.1

/-! ### A step passes (R98) -/

/-- The counter advances by one: results whose latency is reached are written, tokens that leave pending at the next step do,
the values written at this step become those in force, and the recipe ends after its END bundle's last step (R126). -/
def State.advanceStep (s : State) (q : Nat) : State :=
  let t := s.stepOf q + 1
  let s := s.wr (Reg.seqStep q) (BitVec.ofNat 64 t)
  let s := (s.landDue q t).settleSoon q
  let s := s.updSeq q (fun z => { z with before := z.sregs, groupsBefore := z.gregs })
  if (s.seq q).endAt = some t then s.endRecipe q else s

/-- The stall cause under which a frozen cycle counts at once: `none` for a wait, whose cause is known when it ends (R101), for
the freeze after a fault, which is no stall (R129), and outside a freeze. -/
def State.stallCause (s : State) (q : Nat) : Option Nat :=
  match (s.seq q).freeze with
  | .no => none
  | .wait _ => none
  | .drain _ => none
  | .stopping => none
  | _ => some (s.rdF (Reg.seqStatus q) 11 8)

/-- One frozen cycle (R98, R101). -/
def State.frozenCycle (s : State) (q : Nat) : State :=
  match s.stallCause q with
  | some c => s.count (Reg.seqStall q c) 1
  | none => if (s.seq q).freeze.awaited = [] then s else s.updSeq q (fun z => { z with frozen := z.frozen + 1 })

/-- One CK_C cycle of a partition (R98): a frozen cycle; or a step, once the bundle due at it has issued. -/
def State.cycle (s : State) (q : Nat) : State :=
  if s.seqState q = 3 ∨ s.seqState q = 4 ∨ s.seqState q = 5 then s.frozenCycle q
  else if s.running q then
    if (s.seq q).bundleAt ≤ s.stepOf q ∧ (s.seq q).endAt = none then s
    else
      let r := s.stepEngines q
      match r.2 with
      | some f => r.1.stopRecipe q f
      | none => r.1.advanceStep q
  else s

end Sys2Proof.Machine
end

