-- ==== Sys2Proof/Machine/Net.lean ====
section
/-!
DEFINITION. What link ports, router and fabric agent share: queues and credits, dropped packets and LOSS notices, circuit
teardown, route tables and neutral swaps (08_links.md R349, R354; 09_routing_delivery.md R376 to R396, R413; 11_fabric_management.md
R471 to R475).
-/
namespace Sys2Proof.Machine

/-- A link port. -/
def State.port (s : State) (p : Nat) : Port := s.ports.get p

/-- Changes a link port. -/
def State.updPort (s : State) (p : Nat) (f : Port → Port) : State := { s with ports := s.ports.upd p f }

/-- Changes the router. -/
def State.updRouter (s : State) (f : Router → Router) : State := { s with router := f s.router }

/-- Changes the fabric agent. -/
def State.updFm (s : State) (f : Fm → Fm) : State := { s with fm := f s.fm }

/-- PRT_STATUS.lstate (R369). -/
def State.lstate (s : State) (p : Nat) : Nat := s.rdF (Reg.prtStatus p) 2 0

/-- Whether a port is up. -/
def State.portUp (s : State) (p : Nat) : Bool := s.lstate p == 3

/-- The plan entry of a port (R336, R339). -/
def State.planEntry (s : State) (p : Nat) : Nat := s.rdF Reg.hubPortPlan (4 * p + 3) (4 * p)

/-- Whether a port carries fabric data: a direction, fabric_en, up. -/
def State.fabricUp (s : State) (p : Nat) : Bool :=
  s.portUp p && decide (s.planEntry p < 8) && s.rdB (Reg.prtCtrl p) 0

/-- This device's node ID (R375). -/
def State.node (s : State) : Nat := s.rdF Reg.rtrNode 19 0

/-- Whether the node ID is assigned. -/
def State.nodeValid (s : State) : Bool := s.rdB Reg.rtrNode 63

/-! ### Sizes and credits (R340, R349, R381) -/

/-- Bytes of a frame on the link (R340). -/
def frameBytes (p : Packet) : Nat := max 64 (42 + p.plen + (if 0 < p.plen then 8 else 0))

/-- Credit units of a frame (R349). -/
def frameUnits (p : Packet) : Nat := ceilDiv (frameBytes p) 256

/-- Queued bytes of a list of packets. -/
def queuedBytes (l : List QPkt) : Nat := (l.map (fun x => frameBytes x.pkt)).foldl (· + ·) 0

/-- Queued bytes of a port on the request and reply channels (R414). -/
def Port.queued (p : Port) : Nat := queuedBytes (p.out.filter (fun x => decide (1 ≤ x.vc ∧ x.vc ≤ 6)))

/-- Units of an input buffer that virtual channels 0 to 7 have (R381). -/
def vcUnits : List Nat := [64, 544, 192, 192, 544, 192, 192, 2176]

/-- Units of the peer's buffer that a credit account of port `p` has: a channel's share, or 17 u for a share group and class
(R381, R409). -/
def State.accountUnits (s : State) (p acc : Nat) : Nat :=
  if acc < 7 then (vcUnits[acc]?).getD 0 else 17 * s.rdF (Reg.rtrShare p ((acc - 8) / 2)) 6 0

/-- Whether port `p` holds credit at its peer for `n` units of an account (R349). -/
def State.credit (s : State) (p acc n : Nat) : Bool := decide ((s.port p).owed.get acc + n ≤ s.accountUnits p acc)

/-- Whether a port carries a host-network plan entry (R336). -/
def State.isHn (s : State) (p : Nat) : Bool := s.planEntry p == 13

/-- The largest plen that a host-network port sends (R362): a multiple of 64, of at most 8,192 bytes and the path MTU less 80. -/
def State.hnPlen (s : State) (p : Nat) : Nat := min 8192 (s.rdF (Reg.prtHnMtu p) 13 0 - 80) / 64 * 64

/-- The entry of the host-network address table for a destination (R419). -/
def State.hnEntry (s : State) (dst : Nat) : Option Nat :=
  firstFrom (fun i => let w := s.rd (Reg.rtrHnW0 i); bitOf w 63 && fld w 19 0 == dst) 4096 0

/-- The largest plen of a packet to a destination (R341, R362): for a host-network destination the least of the ports that its entry names. -/
def State.destPlen (s : State) (dst : Nat) : Nat :=
  if dst < 0x20000 then 8192
  else match s.hnEntry dst with
    | some i => ((bitsSet (fld (s.rd (Reg.rtrHnW0 i)) 47 32) 16).map s.hnPlen).foldl min 8192
    | none => 8192

/-- What the current command puts on a link, after what it has put there before. -/
def State.wire (s : State) (w : WireOut) : State :=
  { s with answer := .wire ((match s.answer with | .wire l => l | _ => []) ++ [w]) }

/-- Units in use on the request or the reply channels of a port. -/
def Port.usedUnits (k : Port) (reply : Bool) : Nat :=
  ((if reply then [4, 5, 6] else [1, 2, 3]).map (fun v => k.used.get v)).foldl (· + ·) 0

/-- Priority flow control of a host-network port (R363): a group of channels that fills more than three quarters of its 928
units pauses its priority at the peer, and one below one half releases it. -/
def State.pfc (s : State) (p : Nat) : State :=
  if s.isHn p && s.rdB (Reg.prtHnCtrl p) 22 then
    s.each [false, true] (fun s reply =>
      let k := s.port p
      let prio := if reply then s.rdF (Reg.prtHnCtrl p) 21 19 else s.rdF (Reg.prtHnCtrl p) 18 16
      let on := if reply then k.pausesRsp else k.pausesReq
      let n := k.usedUnits reply
      let new := if on then decide (464 ≤ n) else decide (696 < n)
      if new = on then s
      else ((s.updPort p (fun k => if reply then { k with pausesRsp := new } else { k with pausesReq := new })).wire
        (.pfc p prio new)).count (Reg.prtTxFrames p) 1)
  else s

/-- A packet leaves the input buffer of a port; its units go back to the peer (R349). -/
def State.takeInput (s : State) (p : Nat) (x : QPkt) : State :=
  let hn := s.isHn p
  (s.updPort p (fun k => { k with
    input := k.input.erase x
    used := k.used.upd x.account (· - frameUnits x.pkt)
    returns := if hn then k.returns else k.returns ++ [(x.account, frameUnits x.pkt)] })).pfc p

/-! ### Injection, drops and LOSS (R378, R396) -/

/-- A local source injects a packet on a virtual channel; a multicast packet with the direction it is to take (R416). -/
def State.inject (s : State) (vc : Nat) (p : Packet) (dir : Nat := 0) : State :=
  s.updRouter (fun r => { r with inject := r.inject ++ [{ vc := vc, grp := dir, pkt := p }] })

/-- Key of a send context (R389): destination node and class. -/
def sendKey (dst cls : Nat) : Nat := dst * 8 + cls

/-- A source asks for a transaction of a flow (R399). -/
def State.enqueueJob (s : State) (dst cls : Nat) (j : NetJob) : State :=
  s.updRouter (fun r => { r with
    sends := r.sends.upd (sendKey dst cls) (fun c => let c := c.getD {}; some { c with queue := c.queue ++ [j] }) })

/-- The domain of the packets that a partition sends (R418). -/
def State.domainOf (s : State) (part : Nat) : Nat := s.rdF (Reg.rtrDomain part) 11 0

/-- Whether an operation is of the request class (R398). -/
def requestOp (op : Nat) : Bool := op == 1 || op == 2 || op == 3 || op == 5 || op == 7 || op == 9

/-- Whether an operation is of the reply class (R398). -/
def answerOp (op : Nat) : Bool := op == 4 || op == 6 || op == 8 || op == 0xA

/-- Whether an operation is of the reply or control class, on the reply channels. -/
def replyOp (op : Nat) : Bool :=
  answerOp op || (decide (0x10 ≤ op) && decide (op ≤ 0x15)) || op == 0x18

/-- The LOSS notice of a discarded request-class packet (R396). -/
def State.lossNotice (s : State) (p : Packet) : State :=
  if requestOp p.op then
    (s.count Reg.rtrLossTx 1).inject 4
      { dst := p.src, src := p.dst, domain := p.domain, cls := p.cls, seq := p.seq, xid := p.xid, op := 0x12 }
  else s

/-- A packet is dropped for reason `x` of R425, with its LOSS notice. -/
def State.dropPacket (s : State) (x : Nat) (p : Packet) : State := (s.count (Reg.rtrDrop x) 1).lossNotice p

/-- A control or reply packet from this endpoint to the source of a packet. From a consumer of a multicast it bears the flow's final
destination, by which the source knows the flow. -/
def State.answerTo (s : State) (p : Packet) (op seq xid : Nat) (payload : List Byte) (c0 c1 : W32) : State :=
  s.inject 4 { dst := p.src, src := if p.mcast then p.dst else s.node, domain := p.domain, cls := p.cls, seq := seq, xid := xid, op := op,
               payload := payload, check0 := c0, check1 := c1 }

/-! ### Circuits (R413) -/

/-- The valid circuit entries of the tables, as table and circuit ID (R410, R420). -/
def State.circuits (s : State) : List (Nat × Nat) :=
  s.csr.filterMap (fun e =>
    let o := e.1 - Reg.rtrCircuit 0 0
    if Reg.rtrCircuit 0 0 ≤ e.1 ∧ o < 17 * 0x8000 ∧ bitOf e.2 0 then some (o / 0x8000, o % 0x8000 / 8) else none)

/-- One circuit entry is torn down: it is invalid, its buffered frames are discarded and counted, and CDOWN goes to the
circuit's source and destination nodes, in the domain of its share group: that of the port in at the end of the path (R413). -/
def State.tearEntry (s : State) (c : Nat × Nat) : State :=
  let a := Reg.rtrCircuit c.1 c.2
  let e := s.rd a
  let mine := fun (x : QPkt) => x.vc == 7 && x.pkt.xid == c.2
  let out := fld e 5 1
  let n := (if out < 16 then ((s.port out).out.filter mine).length else 0)
    + (if c.1 < 16 then ((s.port c.1).input.filter mine).length else (s.router.inject.filter mine).length)
  let dom := if out < 16 then s.rdF (Reg.rtrShare out (fld e 11 6)) 19 8 else s.rdF (Reg.rtrShare c.1 (fld e 20 15)) 19 8
  let s := s.wrB a 0 false
  let s := if out < 16 then s.updPort out (fun k => { k with out := k.out.filter (fun x => !mine x) }) else s
  let s := if c.1 < 16 then s.each ((s.port c.1).input.filter mine) (fun s x => s.takeInput c.1 x)
    else s.updRouter (fun r => { r with inject := r.inject.filter (fun x => !mine x) })
  let s := s.cond (decide (0 < n)) (fun s => s.count (Reg.rtrDrop 5) n)
  s.each [fld e 43 24, fld e 63 44] (fun s d =>
    s.inject 4 { dst := d, src := s.node, domain := dom, cls := 7, xid := c.2, op := 0x18 })

/-- Every circuit through a port is torn down. -/
def State.tearPort (s : State) (p : Nat) : State :=
  s.each (s.circuits.filter (fun c => c.1 == p || s.rdF (Reg.rtrCircuit c.1 c.2) 5 1 == p)) State.tearEntry

/-! ### Route plans (R380, R471, R472) -/

/-- The coordinates of a node (R470). -/
def nodeCoords (sizes : List Nat) (n : Nat) : List Nat :=
  (sizes.foldl (fun (acc : List Nat × Nat) k => (acc.1 ++ [acc.2 % max 1 k], acc.2 / max 1 k)) ([], n)).1

/-- The node at given coordinates. -/
def coordsNode (sizes coords : List Nat) : Nat :=
  ((sizes.zip coords).reverse).foldl (fun n x => n * max 1 x.1 + x.2) 0

/-- Hops along one dimension in direction + and in direction -, when it can be taken (an open axis is a line). -/
def dimHops (k : Nat) (isOpen : Bool) (a b : Nat) : Option Nat × Option Nat :=
  if isOpen then (if a ≤ b then some (b - a) else none, if b ≤ a then some (a - b) else none)
  else (some ((b + k - a) % k), some ((a + k - b) % k))

/-- The direction codes of one dimension that reduce the distance from coordinate a to b, the escape direction first, and
the distance (R380): none when the coordinates agree. Dimension `i` has codes 2 i for + and 2 i + 1 for -. -/
def dimDirs (i k : Nat) (isOpen : Bool) (a b : Nat) : List Nat × Nat :=
  if a = b then ([], 0)
  else match dimHops k isOpen a b with
    | (some p, some m) => if p < m then ([2 * i], p) else if m < p then ([2 * i + 1], m) else ([2 * i, 2 * i + 1], p)
    | (some p, none) => ([2 * i], p)
    | (none, some m) => ([2 * i + 1], m)
    | (none, none) => ([], 0)

/-- The neighbour of a node in a direction. -/
def RoutePlan.next (pl : RoutePlan) (n d : Nat) : Nat :=
  let c := nodeCoords pl.sizes n
  let k := max 1 (pl.sizes[d / 2]?.getD 1)
  coordsNode pl.sizes (c.modify (d / 2) (fun x => if d % 2 = 0 then (x + 1) % k else (x + k - 1) % k))

/-- Dimension by dimension: direction codes and distance from one node to another. -/
def RoutePlan.dims (pl : RoutePlan) (a b : Nat) : List (List Nat × Nat) :=
  let ca := nodeCoords pl.sizes a
  let cb := nodeCoords pl.sizes b
  (List.range 4).map (fun i =>
    dimDirs i (max 1 (pl.sizes[i]?.getD 1)) (pl.openAxes[i]?.getD false) (ca[i]?.getD 0) (cb[i]?.getD 0))

/-- The escape direction from one node to another: the first dimension that differs (R380 rule 2). -/
def RoutePlan.escape (pl : RoutePlan) (a b : Nat) : Option Nat :=
  (pl.dims a b).findSome? (fun d => d.1.head?)

/-- Whether the link from a node in a direction is lost; a link is written from its node toward + (R471). -/
def RoutePlan.lostLink (pl : RoutePlan) (n d : Nat) : Bool :=
  if d % 2 = 0 then pl.lost.contains (n, d) else pl.lost.contains (pl.next n d, d - 1)

/-- Whether the dimension-order path crosses a lost link; the fuel bounds its hops. -/
def RoutePlan.crosses (pl : RoutePlan) (b : Nat) : Nat → Nat → Bool
  | 0, _ => false
  | fuel + 1, a =>
    match pl.escape a b with
    | none => false
    | some d => pl.lostLink a d || RoutePlan.crosses pl b fuel (pl.next a d)

/-- Number of nodes of the machine. -/
def RoutePlan.nodes (pl : RoutePlan) : Nat := pl.sizes.foldl (fun a k => a * max 1 k) 1

/-- The kind of the entry of device `a` for node `b` (R472). -/
def RoutePlan.kind (pl : RoutePlan) (a b : Nat) : Nat :=
  if a = b then 2
  else if pl.excluded.contains b || decide (pl.nodes ≤ b) then 0
  else if pl.crosses b 256 a then 0
  else 1

/-- The dateline class of the escape hop (R380 rule 3): 0 exactly when a later hop of the path in that dimension crosses its
wrap link. -/
def RoutePlan.dateline (pl : RoutePlan) (a b d : Nat) : Nat :=
  let i := d / 2
  let k := max 1 (pl.sizes[i]?.getD 1)
  let x := (nodeCoords pl.sizes a)[i]?.getD 0
  let y := (nodeCoords pl.sizes b)[i]?.getD 0
  if pl.openAxes[i]?.getD false then 1
  else if d % 2 = 0 then (if y < x ∧ x ≠ k - 1 then 0 else 1)
  else (if x < y ∧ x ≠ 0 then 0 else 1)

/-- The ports of a direction, ascending. -/
def State.dirPorts (s : State) (d : Nat) : List Nat := (List.range 16).filter (fun p => s.planEntry p = d)

/-- The routing entry of this device for a node, from a plan and its own ports (R380, R472). -/
def State.planRoute (s : State) (pl : RoutePlan) (n : Nat) : W64 :=
  let me := s.node
  match pl.kind me n with
  | 2 => setFld 0 22 21 2
  | 1 =>
    let ds := pl.dims me n
    let dist := (ds.map Prod.snd).foldl (· + ·) 0
    let esc := (pl.escape me n).getD 0
    let escPorts := s.dirPorts esc
    let port := match escPorts.find? s.fabricUp with
      | some p => p
      | none => (escPorts.head?).getD 0
    let cand := (ds.flatMap Prod.fst).filter (fun d => pl.kind (pl.next me d) n ≠ 0)
    let mask := ((cand.flatMap s.dirPorts).filter s.fabricUp).foldl (fun m p => m ||| 2 ^ p) 0
    setFld (setFld (setFld (setFld (setFld 0 15 0 mask) 19 16 port) 20 20 (pl.dateline me n esc)) 22 21 1) 31 24 dist
  | _ => 0

/-- The inactive routing bank (R377). -/
def State.inactiveBank (s : State) : Nat := 1 - s.rdF Reg.rtrRtEpoch 0 0

/-- Every entry of the inactive bank is written from a plan (R472), usable with its complement. -/
def State.expandPlan (s : State) (pl : RoutePlan) : State :=
  let b := s.inactiveBank
  let lo := Reg.rtrRoute b 0
  let hi := Reg.rtrRoute b 131072
  let es := (List.range 131072).filterMap (fun n =>
    let w := s.planRoute pl n
    if w = 0 then none else some (Reg.rtrRoute b n, w))
  { s with csr := (s.csr.clear lo hi).addAll es, cpPend := s.cpPend.clear lo hi, cpBad := s.cpBad.clear lo hi }

/-- RTR_RT_EPOCH.bank is written: a change counts in flips (R377, R421). -/
def State.setBank (s : State) (b : Nat) : State :=
  if s.rdF Reg.rtrRtEpoch 0 0 = b then s
  else (s.wrF Reg.rtrRtEpoch 0 0 b).wrF Reg.rtrRtEpoch 31 16 (s.rdF Reg.rtrRtEpoch 31 16 + 1)

/-- The agent's REPORT of an event to the primary (R464, R465): repeated until it is answered. -/
def State.report (s : State) (code port : Nat) (detail : Nat) : State :=
  let m : Mgmt := { type := 0x40, mseq := s.fm.nextMseq, term := s.rdF Reg.hubFmTerm 31 0, machine := (s.rd Reg.hubFmMachine).toNat,
                    body := leBytes 2 code ++ leBytes 1 port ++ leBytes 1 0 ++ leBytes 8 detail }
  s.updFm (fun f => { f with
    nextMseq := (f.nextMseq + 1) % 2 ^ 32
    reports := f.reports ++ [{ path := .node (s.rdF Reg.hubFmPeers 19 0), msg := m }] })

/-- The neutral swap of R475, at the retirement or return of a port while another port of its direction is up: the agent
expands its plan into the inactive bank, makes it active and reports 0xB06. -/
def State.neutralSwap (s : State) (p : Nat) : State :=
  let d := s.planEntry p
  match s.fm.plan with
  | some pl =>
    if d < 8 ∧ (s.dirPorts d).any (fun q => q ≠ p && s.fabricUp q) then
      (((s.expandPlan pl).setBank s.inactiveBank).event 0xB06).report 0xB06 p 0
    else s
  | none => s

end Sys2Proof.Machine
end

