-- ==== Sys2Proof/Machine/Triggers.lean ====
section
/-!
DEFINITION. Issue of asynchronous operations: prefetches (R133, R175), stream-engine transfers (R192, R231), base-program
triggers (R300), collective triggers (R428) and breadbox signals (R546).
-/
namespace Sys2Proof.Machine

/-- A fault with the class and the first instance of a slot. -/
def faultAt (code cls u k : Nat) : StopInfo := { code := code, eclass := cls, u := u, k := k }

/-! ### Prefetches (R133, R175) -/

/-- A prefetch of page `p` on a token: done at the next step when the page is resident, failed at the next step when the
page lies beyond the image, waiting when its frame holds the executing page, and loading otherwise. -/
def State.prefetch (s : State) (q tok : Nat) (page : Option Nat) : State :=
  let exec := s.pcOf q / 65536
  let f := s.frameCount q
  s.updSeq q (fun z =>
    let z := z.openToken tok 5 1
    match page with
    | none => { z with soon := z.soon ++ [(tok, false)] }
    | some p =>
      if z.imageLen ≤ p * 65536 then { z with soon := z.soon ++ [(tok, false)] }
      else if z.frames.get (p % f) = some p then { z with soon := z.soon ++ [(tok, true)] }
      else { z with prefetches := z.prefetches ++ [{ page := p, token := tok, waits := decide (z.frames.get (p % f) = some exec) }] })

/-! ### Stream engines (R192, R231) -/

/-- The freeze cause of a wait on a DMX operation (R192). -/
def dmxCause (op : Nat) : Nat := if op ≤ 2 then 0 else if op ≤ 5 then 1 else 2

/-- The instances of a DMX slot in instance order (R164, R192): virtual cluster and cell. -/
def dmxInstances (sl : Slot) (us : List Nat) : List (Nat × Nat) :=
  us.flatMap (fun u => (if natBit sl.low 5 then List.range 16 else [natFld sl.low 0 4]).map (fun k => (u, k)))

/-- The fields of a DMX slot (R192). -/
def dmxFieldsOk (sl : Slot) : Bool :=
  !natBit sl.low 6 && (!natBit sl.low 5 || natFld sl.low 0 4 == 0) && natFld sl.w1 23 9 == 0 && natFld sl.w2 28 4 == 0
    && orefWf sl.fD && !orefIsGen sl.fD

/-- One instance of a DMX transfer with its checks at issue (R231): store extent, offset, and for DLD and DST the handle and
its extent; for DHRD and DHWR the host address. -/
def State.dmxPart (s : State) (q : Nat) (sl : Slot) (r : Nat) (i : Nat × Nat) : Option DmxPart :=
  let tiles := natFld sl.w2 16 12 + 1
  let n := 4096 * tiles
  let h := fld (s.sreg q (natFld sl.w1 8 5)) 23 0
  let o := (s.sreg q (natFld sl.w1 13 5)).toNat
  let x := (s.sreg q (natFld sl.w1 18 5)).toNat
  let p := s.place q {} i.1 i.2 sl.fD
  let split := if natBit sl.low 4 then r * n else 0
  let off := o + split
  if !p.ok n ∨ o % 64 ≠ 0 then none
  else
    let part : DmxPart := { store := p.dpa, tiles := tiles, handle := h, offset := off }
    match sl.op with
    | 0x01 => if s.handleOk (.engine (s.partOfDie q)) h off n false then some part else none
    | 0x02 => if s.handleOk (.engine (s.partOfDie q)) h off n true then some part else none
    | 0x06 => if (x + o) % 64 = 0 then some { part with far := (x + off) % 2 ^ 64 } else none
    | 0x07 => if (x + o) % 64 = 0 then some { part with far := (x + off) % 2 ^ 64 } else none
    | _ => some { part with far := x % 2 ^ 20 }

/-- The cuts of an extent into transactions of one piece each, of at most `most` bytes: start and length. `o` is the offset of the extent at
its destination. The fuel bounds their number. -/
def smallCuts : Nat → Nat → Nat → Nat → Nat → List (Nat × Nat)
  | 0, _, _, _, _ => []
  | fuel + 1, o, most, at', left =>
    if left = 0 then []
    else
      let k := min left (min most (4096 - (o + at') % 4096))
      (at', k) :: smallCuts fuel o most (at' + k) (left - k)

/-- The transactions of one instance of a remote transfer (R399): writes of 1 MiB and reads of 64 KiB, the last one shorter; the
last packet of DRPUTH is a heel. DEDUCED: towards a host network whose packets are shorter (R362) each transaction is one piece that fits. -/
def State.dmxJobs (s : State) (q op tok : Nat) (part : DmxPart) : List NetJob :=
  let n := 4096 * part.tiles
  let most := s.destPlen part.far
  let cuts := if most = 8192 then
      let size := if op = 3 then 65536 else 1048576
      (List.range (ceilDiv n size)).map (fun i => (i * size, min size (n - i * size)))
    else smallCuts (2 * n / 64) (if op = 3 then part.store else part.offset) (max 64 most) 0 n
  cuts.zipIdx.map (fun c =>
    { owner := .dmx q tok, op := if op = 3 then 3 else 1, domain := s.domainOf (s.partOfDie q), handle := part.handle
      offset := part.offset + c.1.1, len := c.1.2, store := part.store + c.1.1
      fence := op == 5 && c.2 + 1 == cuts.length })

/-- Class of a stream engine's flow (R389). -/
def dmxClass (node : Nat) : Nat := if 0x20000 ≤ node then 4 else 1

/-- A DMX slot issues (R192, R231): every instance's checks at issue, the first failing one stopping the recipe with fault
0x05; then the transfer is under way on its token. A transfer with host memory fails at once while the partition's virtual
function is not present (R514). -/
def State.dmxIssue (s : State) (q : Nat) (sl : Slot) (us : List Nat) : State × Option StopInfo :=
  let tok := natFld sl.w1 0 8
  let is := dmxInstances sl us
  let parts := is.zipIdx.map (fun i => (i.1, s.dmxPart q sl i.2 i.1))
  match parts.find? (fun p => p.2.isNone) with
  | some p => (s, some (faultAt 0x05 0xA p.1.1 0))
  | none =>
    if (sl.op = 6 ∨ sl.op = 7) ∧ !s.fnPresent (s.partPort (s.partOfDie q)) (s.partOfDie q + 1) then
      (s.updSeq q (fun z => { z.openToken tok (dmxCause sl.op) 1 with soon := z.soon ++ [(tok, false)] }), none)
    else
      let ps := parts.filterMap Prod.snd
      let jobs := if 3 ≤ sl.op ∧ sl.op ≤ 5 then ps.flatMap (fun p => (s.dmxJobs q sl.op tok p).map (fun j => (p.far, j))) else []
      let s := s.updSeq q (fun z => { z.openToken tok (dmxCause sl.op) 1 with
        transfers := z.transfers ++ [{ op := sl.op, token := tok, parts := ps, left := jobs.length }] })
      (s.each jobs (fun s j => s.enqueueJob j.1 (dmxClass j.1) j.2), none)

/-! ### Base-program triggers (R299 to R305) -/

/-- Word `w` (64 bits) of call-table entry `e` of stack `n` (R305). -/
def State.callWord (s : State) (n e w : Nat) : W64 := s.rd (Reg.stkBeCall n e w)

/-- Program of a call-table entry. -/
def State.callProgram (s : State) (n e : Nat) : Nat := fld (s.callWord n e 0) 15 0
/-- Slot count of a call-table entry. -/
def State.callSlots (s : State) (n e : Nat) : Nat := fld (s.callWord n e 0) 19 16
/-- Operand slot word `i` of a call-table entry. -/
def State.callSlot (s : State) (n e i : Nat) : W64 := s.callWord n e (1 + i)
/-- Constant `c` of a call-table entry. -/
def State.callConst (s : State) (n e c : Nat) : Nat := fld (s.callWord n e (9 + c / 2)) (32 * (c % 2) + 31) (32 * (c % 2))

/-- Handle of an operand slot word. -/
def slotHandle (w : W64) : Nat := fld w 23 0
/-- Format of an operand slot word. -/
def slotFmt (w : W64) : Nat := fld w 27 24
/-- Whether the program may store to the slot. -/
def slotWrite (w : W64) : Bool := bitOf w 28
/-- Whether the program may load from the slot. -/
def slotRead (w : W64) : Bool := bitOf w 29

/-- Whether operand slot `i` is the scale plane of the slot before it (R305): a block-scaled slot is followed by its scales. -/
def State.isScaleSlot (s : State) (n e : Nat) : Nat → Bool
  | 0 => false
  | i + 1 => fmtBlocked (slotFmt (s.callSlot n e i)) && !s.isScaleSlot n e i

/-- The tiles of operand slot `i` that hold the span of work item `j` (R304, R308): first and last. -/
def State.spanTiles (s : State) (n e i j : Nat) : Nat × Nat :=
  let nn := elemsPerTile (slotFmt (s.callSlot n e 0))
  let a := j * nn
  let b := a + nn - 1
  let f := slotFmt (s.callSlot n e i)
  if s.isScaleSlot n e i then (a / 32 * scaleBytes f / 4096, (b / 32 * scaleBytes f + scaleBytes f - 1) / 4096)
  else (a / elemsPerTile f, b / elemsPerTile f)

/-- The footprint of work item `j`, in bytes (R308). -/
def State.footprint (s : State) (n e j : Nat) : Nat :=
  ((List.range (s.callSlots n e)).map (fun i => let t := s.spanTiles n e i j; 4096 * (t.2 + 1 - t.1))).foldl (· + ·) 0

/-- The stacks that a BTRIG mask names in a partition (R193, R300); `none` when it names one outside it. -/
def State.maskStacks (s : State) (q mask : Nat) : Option (List Nat) :=
  let ds := s.gang q
  if 2 ^ (3 * ds.length) ≤ mask then none
  else some ((bitsSet mask 12).map (fun b => 3 * (ds[b / 3]?.getD 0) + b % 3))

/-- The stack that holds a tile of a handle. -/
def State.tileStack (s : State) (h t : Nat) : Nat := s.rdF (Reg.hubSlab (s.slabOf h (4096 * t)).1) 4 1

/-- Whether a program is BGATH or BSCAT. -/
def isRowProgram (p : Nat) : Bool := p == 0x8002 || p == 0x8003

/-- The checks of R300 in order: 0 when every one passes, and the error code of R315 otherwise. -/
def State.dispatchCode (s : State) (q mask index : Nat) (args : List W64) : Nat :=
  let part := s.partOfDie q
  match s.maskStacks q mask with
  | none => 0x7
  | some [] => 0
  | some (n :: ns) =>
    if (s.bases.get n).entries ≤ index then 0x7
    else
      let slots := (List.range (s.callSlots n index)).map (s.callSlot n index)
      let arg := (args.head?).getD 0
      let t0 := fld arg 31 0
      let c := fld arg 63 32
      let h0 := slotHandle (s.callSlot n index 0)
      if !slots.all (fun w => s.handleOwned (.engine part) (slotHandle w)
          && (!slotWrite w || s.handleAccess (.engine part) (slotHandle w) true)
          && s.rdB (Reg.hubDescW3 (handleIndex (slotHandle w))) 32) then 0x5
      else if s.handleBytes h0 < 4096 * (t0 + c) then 0x9
      else if (List.range c).any (fun j => decide (65536 < s.footprint n index (t0 + j))) then 0x8
      else if !(List.range c).all (fun j => (n :: ns).contains (s.tileStack h0 (t0 + j)))
          || (isRowProgram (s.callProgram n index) &&
              !(List.range (s.handleBytes (slotHandle (s.callSlot n index 1)) / 4096)).all (fun t =>
                (n :: ns).contains (s.tileStack (slotHandle (s.callSlot n index 1)) t))) then 0x6
      else 0

/-- The four argument registers from `r` on, wrapping to s0 (R194). -/
def State.triggerArgs (s : State) (q r : Nat) : List W64 := (List.range 4).map (fun i => s.sreg q ((r + i) % 32))

/-- Event 0x620 (R671): call, code, token and mask. -/
def State.callFailed (s : State) (part call code tok mask : Nat) : State :=
  s.event 0x620 .none (call % 1024 + code * 2 ^ 16 + tok * 2 ^ 24 + mask * 2 ^ 32) (some part)

/-- BTRIG (R300): a call that fails its checks fails its token at the next step; one that names no stack is done at the next
step; any other joins the queue of every named stack. -/
def State.btrigIssue (s : State) (q mask index tok rs : Nat) : State :=
  let args := s.triggerArgs q rs
  let code := s.dispatchCode q mask index args
  if code ≠ 0 then
    (s.callFailed (s.partOfDie q) index code tok mask).updSeq q (fun z =>
      { z.openToken tok 3 1 with soon := z.soon ++ [(tok, false)] })
  else
    match (s.maskStacks q mask).getD [] with
    | [] => s.updSeq q (fun z => { z.openToken tok 3 1 with soon := z.soon ++ [(tok, true)] })
    | ns =>
      let call : BaseCall := { lead := q, entry := index, token := tok, mask := mask, args := args }
      (s.each ns (fun s n =>
        ({ s with bases := s.bases.upd n (fun b => { b with queue := b.queue ++ [call] }) } : State).countF (Reg.stkBeStatus n) 16 8 1)).updSeq q
        (fun z => z.openToken tok 3 ns.length)

/-! ### Collective triggers and signals -/

/-- CTRIG (R428): one instance more in the lead CLX's queue. -/
def State.ctrigIssue (s : State) (q index tok rs : Nat) : State :=
  let inst : ClxInst := { lead := q, program := index, token := tok, args := s.triggerArgs q rs }
  (({ s with clxs := s.clxs.upd q (fun c => { c with queue := c.queue ++ [inst] }) } : State).countF (Reg.clxStatus q) 16 8 1).updSeq q
    (fun z => z.openToken tok 4 1)

/-- BSIG (R546): the bit joins the partition's pending signals. -/
def State.signalLocal (s : State) (part sig : Nat) : State :=
  s.wr (Reg.bbxSigAccLocal part) (s.rd (Reg.bbxSigAccLocal part) ||| BitVec.ofNat 64 (2 ^ sig))

/-- A delivered notify (R405, R546): the bit joins the partition's remote signals. -/
def State.signalRemote (s : State) (part sig : Nat) : State :=
  s.wr (Reg.bbxSigAccRemote part) (s.rd (Reg.bbxSigAccRemote part) ||| BitVec.ofNat 64 (2 ^ sig))

end Sys2Proof.Machine
end

