-- ==== Sys2Proof/Machine/Base.lean ====
section
/-!
DEFINITION. The base engine (07_base_programs.md R296 to R320): a vector unit and its work item, loads and stores of operand
slots, staging, write-back and failure.
-/
namespace Sys2Proof.Machine

/-- Changes the base engine of a stack. -/
def State.updBase (s : State) (n : Nat) (f : BaseStack → BaseStack) : State := { s with bases := s.bases.upd n f }

/-- The work item that a vector unit runs. -/
def State.unitItem (s : State) (n v : Nat) : Option WorkItem := (s.bases.get n).units.get v

/-- What a running instruction or built-in carries: the state, the stack, the call and its work item. -/
structure BaseSt where
  st : State
  n : Nat
  call : BaseCall
  item : WorkItem

/-- A failure of a work item (R315): its code and the slot of the access. -/
structure BaseFault where
  code : Nat
  slot : Nat := 0
deriving DecidableEq, Repr, Inhabited

/-- A computation of a work item. -/
abbrev BaseM := ExceptT BaseFault (StateM BaseSt)

/-- Changes the state under a work item. -/
def BaseM.change (f : State → State) : BaseM Unit := modify (fun b => { b with st := f b.st })

/-- Changes the work item. -/
def BaseM.setItem (f : WorkItem → WorkItem) : BaseM Unit := modify (fun b => { b with item := f b.item })

/-- Operand slot word `i` of the running call. -/
def BaseSt.slot (b : BaseSt) (i : Nat) : W64 := b.st.callSlot b.n b.call.entry i

/-- Whether slot `i` holds the scales of the slot before it. -/
def BaseSt.scaleSlot (b : BaseSt) (i : Nat) : Bool := b.st.isScaleSlot b.n b.call.entry i

/-- The slots that hold elements, in order (R318). -/
def BaseSt.elemSlots (b : BaseSt) : List Nat :=
  (List.range (b.st.callSlots b.n b.call.entry)).filter (fun i => !b.scaleSlot i)

/-- Elements of a span, N of R304. -/
def BaseSt.spanN (b : BaseSt) : Nat := elemsPerTile (slotFmt (b.slot 0))

/-- First element of the span, n0 of R304. -/
def BaseSt.spanBase (b : BaseSt) : Nat := b.item.tile * b.spanN

/-- The partition of the running call. -/
def BaseSt.part (b : BaseSt) : Nat := b.st.partOfDie b.call.lead

/-- Counter `x` of STK_BE_EXC counts `k` events (R316, R329). -/
def BaseM.exc (x k : Nat) : BaseM Unit := do
  let b ← get
  BaseM.change (fun s => s.cond (decide (0 < k)) (fun s => s.count (Reg.stkBeExc b.n x) k))

/-- The exceptions of one result: a NaN that came from no NaN, an overflow or saturation, a non-zero value stored as zero. -/
def BaseM.noteExc (newNan : Bool) (e : Exc) : BaseM Unit := do
  BaseM.exc 0 (b2n (e.nan && newNan))
  BaseM.exc 1 (b2n (e.overflow || e.saturated))
  BaseM.exc 2 (b2n e.underflow)

/-! ### Bytes of operands (R306, R307, R310) -/

/-- A byte position of a slot in the work item's stage (R307). -/
def stageKey (slot off : Nat) : Nat := slot * 2 ^ 44 + off

/-- Reads the tile at a DPA whole, through the check unit (R306, R310): a tile of another stack is a remote access, which counts there as a
request through the hub. A tile that fails, in generate mode only one with an uncorrectable line, fails the work item. -/
def BaseM.readTile (slot h off a n : Nat) (generate : Bool) : BaseM Unit := do
  let b ← get
  BaseM.change (fun s => (s.readLines (a / 4096 * 4096) 4096).cond (decide (a / 0x1000000000 ≠ b.n)) (fun s =>
    (s.count (Reg.stkBeRemote b.n) n).requestPasses (a / 0x1000000000)))
  let b ← get
  if b.st.tileDead (a / 4096) || (b.st.tileFails (a / 4096) && !generate) then
    BaseM.change (fun s => s.checkFailedHandle 4 h off (some b.part))
    throw { code := 0x1, slot := slot }

/-- Whether a slot of the running call is staged (R306): of BGATH and BSCAT the index operand alone (R319). -/
def BaseSt.staged (b : BaseSt) (slot : Nat) : Bool := !isRowProgram (b.st.callProgram b.n b.call.entry) || slot == 0

/-- Reads `n` bytes of a slot's handle at an offset, within one tile: a tile that staging has not brought is read whole and verified; bytes
the work item has stored come from its stage (R307, R310). -/
def BaseM.bytes (slot off n : Nat) : BaseM Nat := do
  let b ← get
  let h := slotHandle (b.slot slot)
  match b.st.resolve (.engine b.part) h off n false with
  | none => throw { code := 0x5, slot := slot }
  | some a =>
    if !b.staged slot then BaseM.readTile slot h off a n false
    let b ← get
    return leNat ((List.range n).map (fun i =>
      match b.item.stores.get (stageKey slot (off + i)) with
      | some x => x
      | none => BitVec.ofNat 8 (b.st.readNat (a + i) 1)))

/-- Stores bytes of a slot in the stage (R307). -/
def BaseM.put (slot off : Nat) (bs : List Byte) : BaseM Unit := do
  let b ← get
  match b.st.resolve (.engine b.part) (slotHandle (b.slot slot)) off bs.length true with
  | none => throw { code := 0x5, slot := slot }
  | some _ =>
    BaseM.setItem (fun w =>
      let st : Tbl (Option Byte) := bs.zipIdx.foldl (fun t x => Tbl.set t (stageKey slot (off + x.2)) (some x.1)) w.stores
      { w with stores := st })

/-- Byte offset of element `e` of a format in its handle (R76). -/
def elemOffset (f e : Nat) : Nat := e / elemsPerTile f * 4096 + e % elemsPerTile f * elemBits f / 8

/-- The 32 elements from `e` on (a multiple of 32) of a slot, as bits, with the block's scale entry (R311). -/
def BaseM.codes (slot e : Nat) : BaseM (List Nat × Nat) := do
  let b ← get
  let f := slotFmt (b.slot slot)
  let x ← BaseM.bytes slot (elemOffset f e) (4 * elemBits f)
  let sc ← if fmtBlocked f then BaseM.bytes (slot + 1) (e / 32 * scaleBytes f) (scaleBytes f) else pure 0
  return ((List.range 32).map (elemAt f x), sc)

/-- The values of those elements (R75, R311). -/
def BaseM.vals (slot e : Nat) : BaseM (List Val) := do
  let b ← get
  let (cs, sc) ← BaseM.codes slot e
  return cs.zipIdx.map (fun c => decodeScaled (slotFmt (b.slot slot)) c.1 sc c.2)

/-- Whether elements of a format load as integers (R311): INT8, INT32 and MXINT8. -/
def loadsInt (f : Nat) : Bool := f == 5 || f == 6 || f == 0xD

/-- A value as binary32, rounded to nearest even without saturation; the exceptions of the conversion count (R83, R89, R311). -/
def BaseM.toFloat (v : Val) : BaseM Nat := do
  let (x, e) := toF32 .rne v
  BaseM.noteExc (!decide (v = .nan)) e
  return x

/-- The 32 elements from `e` on of a slot as binary32. DESIGN CHOICE: the built-in programs that compute in binary32 take the value of every
format, INT8, INT32 and MXINT8 among them (R83), where VLD would load the integer codes of those (R311); R318 and R319 do not say. -/
def BaseM.floats (slot e : Nat) : BaseM (List Nat) := do
  let vs ← BaseM.vals slot e
  vs.mapM BaseM.toFloat

/-- The 32 lanes that a load of those elements gives (R311). -/
def BaseM.lanes (slot e : Nat) : BaseM (List Nat) := do
  let b ← get
  let f := slotFmt (b.slot slot)
  if loadsInt f then
    let (cs, _) ← BaseM.codes slot e
    return cs.map (fun c => ofSigned 32 (toSigned (elemBits f) c))
  else BaseM.floats slot e

/-- Converts 32 values to the elements from `e` on of a slot and stores them (R312); the 16 unused bytes of an FP6 tile are 0 (R77). -/
def BaseM.store (slot e : Nat) (vs : List Val) : BaseM Unit := do
  let b ← get
  let w := b.slot slot
  let f := slotFmt w
  let m := (rmodeOf (fld w 34 32)).getD .rne
  let h := slotHandle w
  let seed := (b.st.rd (Reg.hubDescW1 (handleIndex h))).toNat
  let epoch := (b.item.sregs.get 5).toNat
  let (es, entry, clamped) := fmxConvert f m (bitOf w 35)
    (fun i => if m = .sr then srDraw seed epoch (e + i) else 0) vs
  (es.zip vs).forM (fun x => BaseM.noteExc (!decide (x.2 = .nan)) x.1.2)
  BaseM.exc 3 (b2n clamped)
  BaseM.put slot (elemOffset f e) (fmxPackBlock f (es.map Prod.fst))
  if elemBits f = 6 then BaseM.put slot (elemOffset f e / 4096 * 4096 + 4080) (List.replicate 16 0)
  if fmtBlocked f then BaseM.put (slot + 1) (e / 32 * scaleBytes f) (leBytes (scaleBytes f) entry)

/-- The values that 32 lanes are for a store to a slot (R312): integers for INT8 and INT32, binary32 otherwise. -/
def laneVals (f : Nat) (ls : List Nat) : List Val :=
  if f = 5 ∨ f = 6 then ls.map (decodeElem 6) else ls.map f32

/-! ### Binary32 arithmetic (R309, R316) -/

/-- One operation of binary32 with one rounding; its exceptions are counted. -/
def BaseM.arith (ins : List Val) (v : Val) : BaseM Nat := do
  let (x, e) := f32Op .rne ins v
  BaseM.noteExc true e
  return x

/-- a + b. -/
def BaseM.fadd (a b : Nat) : BaseM Nat := BaseM.arith [f32 a, f32 b] ((f32 a).add .rne (f32 b))
/-- a × b. -/
def BaseM.fmul (a b : Nat) : BaseM Nat := BaseM.arith [f32 a, f32 b] ((f32 a).mul (f32 b))
/-- a × b + c, rounded once. -/
def BaseM.ffma (a b c : Nat) : BaseM Nat := BaseM.arith [f32 a, f32 b, f32 c] (((f32 a).mul (f32 b)).add .rne (f32 c))
/-- a ÷ b. -/
def BaseM.fdiv (a b : Nat) : BaseM Nat := BaseM.arith [f32 a, f32 b] ((f32 a).div (f32 b))
/-- √a. -/
def BaseM.fsqrt (a : Nat) : BaseM Nat := BaseM.arith [f32 a] (f32 a).sqrt

/-- One level of the tree of R314. -/
def BaseM.addPairs : List Nat → BaseM (List Nat)
  | a :: b :: l => do
    let x ← BaseM.fadd a b
    let r ← BaseM.addPairs l
    return x :: r
  | l => return l

/-- The sum of 32 lanes in the tree of R314. -/
def BaseM.tree (l : List Nat) : BaseM Nat := do
  let l ← BaseM.addPairs l
  let l ← BaseM.addPairs l
  let l ← BaseM.addPairs l
  let l ← BaseM.addPairs l
  let l ← BaseM.addPairs l
  return (l.head?).getD 0

/-! ### Work items end (R307, R315) -/

/-- The runs of adjacent bytes in a list of stored bytes with rising keys, each within one tile of its slot. -/
def storeRuns (l : List (Nat × Byte)) : List (Nat × List Byte) :=
  l.foldr (fun x acc => match acc with
    | (k, bs) :: rest => if x.1 + 1 = k ∧ k % 4096 ≠ 0 then (x.1, x.2 :: bs) :: rest else (x.1, [x.2]) :: acc
    | [] => [(x.1, [x.2])]) []

/-- A unit's work item is over. -/
def State.freeUnit (s : State) (n v : Nat) : State :=
  s.updBase n (fun b => { b with units := b.units.set v none })

/-- A work item fails (R315): STK_BE_ERR, no further work item of the call on this stack, event 0x620 with the first failure
of the call there. -/
def State.failItem (s : State) (n v : Nat) (w : WorkItem) (f : BaseFault) : State :=
  match (s.bases.get n).run with
  | none => s
  | some r =>
    let e := setFld (setFld (setFld (setFld (setFld (setFld 0 3 0 f.code) 7 4 f.slot) 14 8 v) 29 16 w.pc) 31 31 1) 63 32 w.tile
    let s := s.wr (Reg.stkBeErr n) e
    let s := s.cond (!r.failed) (fun s => s.callFailed (s.partOfDie r.call.lead) r.call.entry f.code r.call.token r.call.mask)
    (s.updBase n (fun b => { b with run := some { r with failed := true } })).freeUnit n v

/-- A work item ends (R307): exactly the bytes it stored are written back. -/
def State.endItem (s : State) (n v : Nat) (call : BaseCall) (w : WorkItem) : State :=
  let runs := storeRuns (w.stores.filterMap (fun e => e.2.map (fun x => (e.1, x))))
  let part := s.partOfDie call.lead
  let place := fun (r : Nat × List Byte) =>
    (s.resolve (.engine part) (slotHandle (s.callSlot n call.entry (r.1 / 2 ^ 44))) (r.1 % 2 ^ 44) r.2.length true).map
      (fun a => (a, r.2))
  let ps := runs.map place
  match runs.find? (fun r => (place r).isNone) with
  | some r => s.failItem n v w { code := 0x5, slot := r.1 / 2 ^ 44 }
  | none =>
    let s := s.each (ps.filterMap id) (fun s p =>
      (s.writeBytes p.1 p.2).cond (decide (p.1 / 0x1000000000 ≠ n)) (fun s =>
        (s.count (Reg.stkBeRemote n) p.2.length).requestPasses (p.1 / 0x1000000000)))
    (s.count (Reg.stkBeItems n) 1).freeUnit n v

/-- Runs a computation on the work item of a unit: its changes stay when it succeeds, and the item fails when it does not. -/
def State.runUnit (s : State) (n v : Nat) (w : WorkItem) (m : BaseM Unit) (after : State → BaseCall → WorkItem → State) : State :=
  match (s.bases.get n).run with
  | none => s
  | some r =>
    let (res, b) := m.run.run { st := s, n := n, call := r.call, item := w }
    match res with
    | .ok _ => after b.st r.call b.item
    | .error f => b.st.failItem n v b.item f

/-! ### Staging (R306) -/

/-- Whether the work item belongs to BCHK in its generate mode, which does not verify (R318, R320). -/
def State.generates (s : State) (n e : Nat) : Bool := s.callProgram n e == 0x8006 && s.callConst n e 0 == 1

/-- Stages one tile of a slot, in this stack or another: read whole, its check verified. -/
def BaseM.stageTile (slot t : Nat) : BaseM Unit := do
  let b ← get
  let h := slotHandle (b.slot slot)
  match b.st.resolve (.engine b.part) h (4096 * t) 4096 false with
  | none => throw { code := 0x5, slot := slot }
  | some a => BaseM.readTile slot h (4096 * t) a 4096 (b.st.generates b.n b.call.entry)

/-- Stages the tiles of the span of every read slot; for BGATH and BSCAT those of the index operand (R319). -/
def BaseM.stage : BaseM Unit := do
  let b ← get
  let e := b.call.entry
  let slots := (List.range (b.st.callSlots b.n e)).filter (fun i => slotRead (b.slot i))
  (if isRowProgram (b.st.callProgram b.n e) then slots.filter (· == 0) else slots).forM (fun i => do
    let (lo, hi) := b.st.spanTiles b.n e i b.item.tile
    ((List.range (hi + 1 - lo)).map (· + lo)).forM (fun t => BaseM.stageTile i t))

end Sys2Proof.Machine
end

