-- ==== Sys2Proof/Machine/BaseIsa.lean ====
section
/-!
DEFINITION. The base instruction set and the built-in programs (07_base_programs.md R309 to R320).
-/
namespace Sys2Proof.Machine

/-! ### Instruction words (R309) -/

/-- Word `i` of a stack's code memory; past its end, 0. -/
def State.codeWord (s : State) (n i : Nat) : Nat :=
  if i < 16384 then fld (s.rd (Reg.stkBeCode n (i / 2))) (32 * (i % 2) + 31) (32 * (i % 2)) else 0

/-- Opcode. -/
def bwOp (w : Nat) : Nat := natFld w 24 8
/-- Field d. -/
def bwD (w : Nat) : Nat := natFld w 19 5
/-- Field a. -/
def bwA (w : Nat) : Nat := natFld w 14 5
/-- Field b. -/
def bwB (w : Nat) : Nat := natFld w 9 5
/-- Field c. -/
def bwC (w : Nat) : Nat := natFld w 4 5
/-- Mask register field. -/
def bwK (w : Nat) : Nat := natFld w 0 2

/-- Words of an instruction; 0 for an unassigned opcode. -/
def baseWords (op : Nat) : Nat :=
  if op = 0x21 ∨ op = 0x47 ∨ op = 0x48 ∨ (0x50 ≤ op ∧ op ≤ 0x54) then 2
  else if (1 ≤ op ∧ op ≤ 0x0E) ∨ (0x10 ≤ op ∧ op ≤ 0x1A) ∨ op = 0x20 ∨ op = 0x22 ∨ op = 0x30 ∨ op = 0x31
      ∨ (0x40 ≤ op ∧ op ≤ 0x46) ∨ op = 0x5F then 1
  else 0

/-- Whether a word is a legal instruction: an assigned opcode, must-be-0 fields 0, and register numbers that exist. -/
def baseLegal (w : Nat) : Bool :=
  let op := bwOp w
  if baseWords op = 0 then false
  else if op < 0x30 then
    natFld w 2 2 == 0
      && (!(decide (0x0B ≤ op) && decide (op ≤ 0x0D)) || (decide (1 ≤ bwD w) && decide (bwD w ≤ 3)))
      && (!(op == 0x1A || op == 0x20) || decide (bwA w < 16))
      && (!(op == 0x22) || decide (bwA w ≤ 13))
  else if op < 0x40 then natFld w 13 3 == 0
  else
    natFld w 0 9 == 0
      && (!(decide (op ≤ 0x48)) || decide (bwD w < 16))
      && (!(decide (op ≤ 0x47) || (decide (0x51 ≤ op) && decide (op ≤ 0x54))) || decide (bwA w < 16))
      && (!(decide (op ≤ 0x46) || (decide (0x51 ≤ op) && decide (op ≤ 0x54))) || decide (bwB w < 16))

/-! ### Registers (R296, R310) -/

/-- x0 reads 0. -/
def WorkItem.x (w : WorkItem) (r : Nat) : W64 := if r = 0 then 0 else w.sregs.get r

/-- Writes a scalar register; x0 discards. -/
def WorkItem.setX (w : WorkItem) (r : Nat) (v : W64) : WorkItem :=
  if r = 0 then w else { w with sregs := w.sregs.set r v }

/-- k0 reads all ones. -/
def WorkItem.k (w : WorkItem) (r : Nat) : Nat := if r = 0 then 2 ^ 32 - 1 else (w.masks.get r).toNat

/-- The lanes of a vector register. -/
def WorkItem.v (w : WorkItem) (r : Nat) : List Nat := (List.range 32).map (fun l => (w.vregs.get (32 * r + l)).toNat)

/-- Writes the lanes of a vector register whose mask bit is 1 (R309). -/
def WorkItem.setV (w : WorkItem) (r mask : Nat) (ls : List Nat) : WorkItem :=
  { w with vregs := ls.zipIdx.foldl (fun t x =>
      if natBit mask x.2 then Tbl.set t (32 * r + x.2) (BitVec.ofNat 32 x.1) else t) w.vregs }

/-! ### Vector operations -/

/-- An operation on one lane, its exceptions counted only when the lane is written. -/
def BaseM.lane (on : Bool) (m : BaseM Nat) : BaseM Nat := if on then m else pure 0

/-- A binary32 operation on every written lane. -/
def BaseM.lanewise (mask : Nat) (f : Nat → BaseM Nat) : BaseM (List Nat) :=
  (List.range 32).mapM (fun l => BaseM.lane (natBit mask l) (f l))

/-- The INT32 operations 0x10 to 0x17, modulo 2^32. -/
def baseInt (op a b : Nat) : Nat :=
  let sh := b % 32
  (match op with
   | 0x10 => a + b
   | 0x11 => a + (2 ^ 32 - b % 2 ^ 32)
   | 0x12 => a * b
   | 0x13 => a &&& b
   | 0x14 => a ||| b
   | 0x15 => a ^^^ b
   | 0x16 => a <<< sh
   | _ => a >>> sh) % 2 ^ 32

/-- The lanes that a vector operation makes. -/
def BaseM.vector (w0 w1 : Nat) : BaseM (List Nat) := do
  let b ← get
  let w := b.item
  let op := bwOp w0
  let mask := w.k (bwK w0)
  let va := w.v (bwA w0)
  let vb := w.v (bwB w0)
  let vc := w.v (bwC w0)
  let at_ := fun (l : List Nat) (i : Nat) => l[i]?.getD 0
  match op with
  | 0x01 => BaseM.lanewise mask (fun l => BaseM.fadd (at_ va l) (at_ vb l))
  | 0x02 => BaseM.lanewise mask (fun l => BaseM.arith [f32 (at_ va l), f32 (at_ vb l)]
      ((f32 (at_ va l)).add .rne (f32 (at_ vb l)).negate))
  | 0x03 => BaseM.lanewise mask (fun l => BaseM.fmul (at_ va l) (at_ vb l))
  | 0x04 => BaseM.lanewise mask (fun l => BaseM.ffma (at_ va l) (at_ vb l) (at_ vc l))
  | 0x05 => BaseM.lanewise mask (fun l => BaseM.arith [f32 (at_ va l), f32 (at_ vb l)] ((f32 (at_ va l)).max2 (f32 (at_ vb l))))
  | 0x06 => BaseM.lanewise mask (fun l => BaseM.arith [f32 (at_ va l), f32 (at_ vb l)] ((f32 (at_ va l)).min2 (f32 (at_ vb l))))
  | 0x07 => BaseM.lanewise mask (fun l => BaseM.fdiv (at_ va l) (at_ vb l))
  | 0x08 => BaseM.lanewise mask (fun l => BaseM.fsqrt (at_ va l))
  | 0x09 => return va.map (fun x => x % 2 ^ 31)
  | 0x0A => return (List.range 32).map (fun l => if natBit mask l then at_ va l else at_ vb l)
  | 0x0E => do
    let x ← BaseM.tree va
    return x :: List.replicate 31 0
  | 0x18 => BaseM.lanewise mask (fun l => do
      let v := f32 (at_ va l)
      let (x, e) := roundElem 6 .rne true 0 v
      BaseM.noteExc false e
      return x)
  | 0x19 => return va.map (fun x => (toF32 .rne (decodeElem 6 x)).1)
  | 0x1A => return (List.range 32).map (fun l => ((w.x (bwA w0)).toNat + l) % 2 ^ 32)
  | 0x20 => return List.replicate 32 ((w.x (bwA w0)).toNat % 2 ^ 32)
  | 0x21 => return List.replicate 32 w1
  | 0x22 => return List.replicate 32 (b.st.callConst b.n b.call.entry (bwA w0))
  | _ => return (va.zip vb).map (fun x => baseInt op x.1 x.2)

/-- A comparison of vector lanes (R309); NaN compares false. -/
def baseCompare (op a b : Nat) : Bool :=
  let x := f32 a
  let y := f32 b
  if op = 0x0B then x.lt y else if op = 0x0C then x.lt y || x.eqv y else x.eqv y

/-! ### Loads and stores (R309, R311, R312) -/

/-- The element index of an M-form instruction, relative to n0. -/
def WorkItem.index (w : WorkItem) (w0 : Nat) : Nat := ((w.x (natFld w0 9 4)).toNat + 32 * natFld w0 0 9) % 2 ^ 64

/-- The checks of a load or store: a slot of the call that holds elements, the right direction, 32 elements of the span. -/
def BaseM.access (w0 : Nat) (write : Bool) : BaseM (Nat × Nat) := do
  let b ← get
  let slot := natFld w0 16 3
  let i := b.item.index w0
  let dir := if write then slotWrite (b.slot slot) else slotRead (b.slot slot)
  if !b.elemSlots.contains slot || !dir || i % 32 ≠ 0 || b.spanN ≤ i + 31 then throw { code := 0x3, slot := slot }
  else return (slot, b.spanBase + i)

/-- VLD. -/
def BaseM.load (w0 : Nat) : BaseM Unit := do
  let (slot, e) ← BaseM.access w0 false
  let ls ← BaseM.lanes slot e
  BaseM.setItem (fun w => w.setV (bwD w0) (2 ^ 32 - 1) ls)

/-- VST. -/
def BaseM.storeOp (w0 : Nat) : BaseM Unit := do
  let (slot, e) ← BaseM.access w0 true
  let b ← get
  BaseM.store slot e (laneVals (slotFmt (b.slot slot)) (b.item.v (bwD w0)))

/-! ### Scalar and flow operations -/

/-- The value of a scalar operation. -/
def baseScalar (op : Nat) (a b : W64) (w1 : Nat) : W64 :=
  let imm : W64 := BitVec.ofInt 64 (toSigned 32 w1)
  match op with
  | 0x40 => a + b
  | 0x41 => a - b
  | 0x42 => a * b
  | 0x43 => a &&& b
  | 0x44 => a ||| b
  | 0x45 => a <<< (b.toNat % 64)
  | 0x46 => a >>> (b.toNat % 64)
  | 0x47 => a + imm
  | _ => imm

/-- Whether a base branch is taken. -/
def baseTaken (op : Nat) (a b : W64) : Bool :=
  match op with
  | 0x50 => true
  | 0x51 => a == b
  | 0x52 => a != b
  | 0x53 => a.slt b
  | _ => !a.slt b

/-- A branch target; one before the code is past its end, where no instruction is. -/
def baseTarget (pc w1 : Nat) : Nat :=
  let t := (pc : Int) + toSigned 32 w1
  if t < 0 then 2 ^ 32 else t.toNat

/-- One instruction of the base instruction set (R309). -/
def BaseM.instr (w0 w1 : Nat) : BaseM Unit := do
  let b ← get
  let op := bwOp w0
  let pc := b.item.pc
  let next := if 0x50 ≤ op ∧ op ≤ 0x54 ∧ baseTaken op (b.item.x (bwA w0)) (b.item.x (bwB w0)) then baseTarget pc w1
    else pc + baseWords op
  if op = 0x30 then BaseM.load w0
  else if op = 0x31 then BaseM.storeOp w0
  else if 0x0B ≤ op ∧ op ≤ 0x0D then
    let mask := b.item.k (bwK w0)
    let hit := ((b.item.v (bwA w0)).zip (b.item.v (bwB w0))).map (fun x => baseCompare op x.1 x.2)
    let old := b.item.k (bwD w0)
    let new := hit.zipIdx.foldl (fun a x => if natBit mask x.2 then (a ||| 2 ^ x.2) ^^^ (if x.1 then 0 else 2 ^ x.2) else a) old
    BaseM.setItem (fun w => { w with masks := w.masks.set (bwD w0) (BitVec.ofNat 32 new) })
  else if op < 0x30 then
    let ls ← BaseM.vector w0 w1
    BaseM.setItem (fun w => w.setV (bwD w0) (if op = 0x0A then 2 ^ 32 - 1 else w.k (bwK w0)) ls)
  else if op ≤ 0x48 then
    BaseM.setItem (fun w => w.setX (bwD w0) (baseScalar op (w.x (bwA w0)) (w.x (bwB w0)) w1))
  BaseM.setItem (fun w => { w with pc := next, executed := w.executed + 1 })

/-- A vector unit executes the instruction at its PC, which has opcode `op`; an illegal word there fails the work item with
code 0x2, and one instruction too many with code 0x4 (R309, R313). Another instruction at the PC is another command's. -/
def State.unitStep (s : State) (n v op : Nat) : State :=
  match s.unitItem n v, (s.bases.get n).run with
  | some w, some r =>
    let w0 := s.codeWord n w.pc
    if 0x4000 ≤ s.callProgram n r.call.entry then s
    else if !baseLegal w0 then s.failItem n v w { code := 0x2 }
    else if bwOp w0 ≠ op then s
    else if 1048576 ≤ w.executed then s.failItem n v w { code := 0x4 }
    else if op = 0x5F then s.endItem n v r.call w
    else s.runUnit n v w (BaseM.instr w0 (s.codeWord n (w.pc + 1)))
      (fun s _ w => s.updBase n (fun b => { b with units := b.units.set v (some w) }))
  | _, _ => s

/-! ### Built-in programs (R318 to R320) -/

/-- The i-th element slot of the call. -/
def BaseSt.es (b : BaseSt) (i : Nat) : Nat := b.elemSlots[i]?.getD 0

/-- Runs a body on every group of 32 elements of the span. -/
def BaseM.groups (f : Nat → BaseM Unit) : BaseM Unit := do
  let b ← get
  (List.range (b.spanN / 32)).forM (fun g => f (b.spanBase + 32 * g))

/-- Lane-wise on two lists. -/
def BaseM.zip2 (a b : List Nat) (f : Nat → Nat → BaseM Nat) : BaseM (List Nat) := (a.zip b).mapM (fun x => f x.1 x.2)

/-- Constant `c` of the call. -/
def BaseSt.const (b : BaseSt) (c : Nat) : Nat := b.st.callConst b.n b.call.entry c

/-- 32 bits of an argument. -/
def BaseSt.arg (b : BaseSt) (i lo : Nat) : Nat := fld (b.call.args[i]?.getD 0) (lo + 31) lo

/-- BADAMW on one group: each operation rounded to binary32, in the order of the worked example (R318). -/
def BaseM.adamw (e : Nat) : BaseM Unit := do
  let b ← get
  let c := b.const
  let g ← BaseM.floats (b.es 1) e
  let g ← g.mapM (fun x => BaseM.fmul x (b.arg 3 32))
  let w ← BaseM.floats (b.es 0) e
  let g ← if natBit (c 4) 0 then BaseM.zip2 w g (fun w g => BaseM.ffma (c 5) w g) else pure g
  let m ← BaseM.floats (b.es 2) e
  let m ← m.mapM (fun x => BaseM.fmul x (c 0))
  let v ← BaseM.floats (b.es 3) e
  let m ← BaseM.zip2 g m (fun g m => BaseM.ffma g (c 1) m)
  let g2 ← g.mapM (fun x => BaseM.fmul x x)
  let v ← v.mapM (fun x => BaseM.fmul x (c 2))
  let v ← BaseM.zip2 g2 v (fun g v => BaseM.ffma g (c 3) v)
  let r ← v.mapM BaseM.fsqrt
  let r ← r.mapM (fun x => BaseM.fadd x (b.arg 2 32))
  let r ← BaseM.zip2 m r BaseM.fdiv
  BaseM.store (b.es 2) e (m.map f32)
  let w ← w.mapM (fun x => BaseM.fmul x (b.arg 3 0))
  BaseM.store (b.es 3) e (v.map f32)
  let w ← BaseM.zip2 r w (fun r w => BaseM.ffma r (b.arg 2 0) w)
  BaseM.store (b.es 0) e (w.map f32)
  if 5 ≤ b.elemSlots.length then BaseM.store (b.es 4) e (w.map f32)

/-- BCVT on one group: the conversion of FCVT. -/
def BaseM.bcvt (e : Nat) : BaseM Unit := do
  let b ← get
  let vs ← BaseM.vals (b.es 1) e
  BaseM.store (b.es 0) e vs

/-- BRED on one group: the inputs added in slot order. -/
def BaseM.bred (e : Nat) : BaseM Unit := do
  let b ← get
  match b.elemSlots with
  | out :: first :: rest => do
    let x ← BaseM.floats first e
    let r ← rest.foldlM (fun acc i => do
      let y ← BaseM.floats i e
      BaseM.zip2 acc y BaseM.fadd) x
    BaseM.store out e (r.map f32)
  | _ => pure ()

/-- BSQN: the sum of squares of the span, lane by lane and then in the tree (R318). -/
def BaseM.bsqn : BaseM Unit := do
  let b ← get
  let acc ← (List.range (b.spanN / 32)).foldlM (fun acc g => do
    let x ← BaseM.floats (b.es 0) (b.spanBase + 32 * g)
    let q ← x.mapM (fun x => BaseM.fmul x x)
    BaseM.zip2 acc q BaseM.fadd) (List.replicate 32 0)
  let r ← BaseM.tree acc
  BaseM.put (b.es 1) (4 * b.item.tile) (leBytes 4 r)

/-- The DPAs of the tiles of every slot's span. -/
def BaseM.spanDpas : BaseM (List Nat) := do
  let b ← get
  let tiles := (List.range (b.st.callSlots b.n b.call.entry)).flatMap (fun i =>
    let (lo, hi) := b.st.spanTiles b.n b.call.entry i b.item.tile
    (List.range (hi + 1 - lo)).map (fun t => (i, lo + t)))
  tiles.mapM (fun x => match b.st.resolve (.engine b.part) (slotHandle (b.slot x.1)) (4096 * x.2) 4096 true with
    | none => throw { code := 0x5, slot := x.1 }
    | some a => return a)

/-- The tiles of a slot's span have their checks rewritten from their bytes, which staging has read (R307, R320): all of them, or, when one
does not translate, none. -/
def BaseM.seal : BaseM Unit := do
  let as ← BaseM.spanDpas
  BaseM.change (fun s => s.each as (fun s a => { s with syn := s.syn.set (a / 4096) 0 }))

/-- BCHK: verify is its staging alone; generate seals (R318, R320). -/
def BaseM.bchk : BaseM Unit := do
  let b ← get
  if b.const 0 = 1 then BaseM.seal

/-- Row size r of BGATH and BSCAT. -/
def BaseSt.rowBytes (b : BaseSt) : Nat := b.const 0

/-- Reads a row of a slot, its tile verified. -/
def BaseM.rowBytes (slot k : Nat) : BaseM (List Byte) := do
  let b ← get
  let r := b.rowBytes
  let x ← BaseM.bytes slot (k * r) r
  return leBytes r x

/-- One element of a slot of an unscaled format. -/
def BaseM.elem (slot e : Nat) : BaseM Val := do
  let b ← get
  let f := slotFmt (b.slot slot)
  let x ← BaseM.bytes slot (e * elemBits f / 8) (elemBits f / 8)
  return decodeElem f x

/-- Row `b` of T takes the sum of itself and row `k` of S, added in binary32 and stored in T's format (R319). DESIGN CHOICE: R318 gives BSCAT
no epoch; under rmode 4 the draws of every format take x5, as R312 has it for stores. -/
def BaseM.rowAdd (t src row k : Nat) : BaseM Unit := do
  let b ← get
  let ft := slotFmt (b.slot t)
  let fs := slotFmt (b.slot src)
  let nt := b.rowBytes * 8 / elemBits ft
  let ns := b.rowBytes * 8 / elemBits fs
  if fmtBlocked ft || fmtBlocked fs then
    (List.range (min nt ns / 32)).forM (fun g => do
      let x ← BaseM.floats t (row * nt + 32 * g)
      let y ← BaseM.floats src (k * ns + 32 * g)
      let z ← BaseM.zip2 x y BaseM.fadd
      BaseM.store t (row * nt + 32 * g) (z.map f32))
  else
    let w := b.slot t
    let m := (rmodeOf (fld w 34 32)).getD .rne
    let seed := (b.st.rd (Reg.hubDescW1 (handleIndex (slotHandle w)))).toNat
    let epoch := (b.item.sregs.get 5).toNat
    (List.range (min nt ns)).forM (fun i => do
      let x ← BaseM.elem t (row * nt + i)
      let x ← BaseM.toFloat x
      let y ← BaseM.elem src (k * ns + i)
      let y ← BaseM.toFloat y
      let z ← BaseM.fadd x y
      let (c, ex) := roundElem ft m (bitOf w 35) (if m = .sr then srDraw seed epoch (row * nt + i) else 0) (f32 z)
      BaseM.noteExc (!decide (f32 z = .nan)) ex
      BaseM.put t ((row * nt + i) * elemBits ft / 8) (leBytes (elemBits ft / 8) c))

/-- The lowest-numbered stack that the call names. -/
def BaseSt.lowestStack (b : BaseSt) : Nat := (((b.st.maskStacks b.call.lead b.call.mask).getD []).head?).getD 0

/-- BGATH and BSCAT (R319) on the index tile of the work item, index by index. -/
def BaseM.rows (scatter : Bool) : BaseM Unit := do
  let b0 ← get
  let t := b0.es 1
  let o := b0.es 2
  let r := b0.rowBytes
  let ht := slotHandle (b0.slot t)
  (List.range (b0.spanN / 32)).forM (fun g => do
    let is ← BaseM.lanes (b0.es 0) (b0.spanBase + 32 * g)
    is.zipIdx.forM (fun x => do
      let b ← get
      let k := b.spanBase + 32 * g + x.2
      let idx := toSigned 32 x.1
      if idx < 0 ∨ b.st.handleBytes ht < (idx.toNat + 1) * r then do
        if b.n = b.lowestStack then
          BaseM.exc 4 1
          if !scatter then BaseM.put o (k * r) (List.replicate r 0)
      else if b.st.tileStack ht (idx.toNat * r / 4096) = b.n then do
        if !scatter then do
          let bs ← BaseM.rowBytes t idx.toNat
          BaseM.put o (k * r) bs
        else if b.const 1 = 1 then BaseM.rowAdd t o idx.toNat k
        else do
          let bs ← BaseM.rowBytes o k
          BaseM.put t (idx.toNat * r) bs))

/-- A unit runs a built-in program on its work item and ends it; BSCAT's work items end in ascending order, so that the
updates of a row do (R319). -/
def State.unitBuiltin (s : State) (n v prog : Nat) (m : BaseM Unit) : State :=
  match s.unitItem n v, (s.bases.get n).run with
  | some w, some r =>
    if s.callProgram n r.call.entry ≠ prog then s
    else if prog = 0x8003 ∧ (List.range 128).any (fun u => match s.unitItem n u with
        | some x => decide (x.tile < w.tile)
        | none => false) then s
    else s.runUnit n v w m (fun s call w => s.endItem n v call w)
  | _, _ => s

end Sys2Proof.Machine
end

