-- ==== Sys2Proof/Machine/BaseCmds.lean ====
section
/-!
DEFINITION. The commands of the base engines (07_base_programs.md R301 to R325): calls, work items, one command per base
instruction and built-in program. An instruction's command is executed by vector unit `v` of stack `n` when that instruction
stands at the unit's PC; a unit with another instruction there, or with no work item, is left as it is.
-/
namespace Sys2Proof.Machine

/-- Whether a slab of a base = 1 handle with a frame in a stack is in state copying or switching (R276). -/
def State.baseMigrates (s : State) (n : Nat) : Bool :=
  (s.stackSide.migs.flatMap Migration.moves).any (fun m =>
    m.src / 32768 == n && s.rdB (Reg.hubDescW3 (handleIndex m.handle)) 32)

/-- The work items of a call on a stack (R303): the range tiles that lie in it, or every range tile for BGATH and BSCAT
(R319). -/
def State.callItems (s : State) (n : Nat) (c : BaseCall) : List Nat :=
  let a := (c.args.head?).getD 0
  let ts := (List.range (fld a 63 32)).map (· + fld a 31 0)
  if isRowProgram (s.callProgram n c.entry) then ts
  else ts.filter (fun t => s.tileStack (slotHandle (s.callSlot n c.entry 0)) t = n)

/-- CALL_START (R301, R276): an idle stack starts the next queued call. -/
def execCallStart (n : Fin 12) (s : State) : Result :=
  .next (
    let b := s.bases.get n
    match b.run, b.queue with
    | none, c :: rest =>
      if s.rdF (Reg.stkBeStatus n) 2 0 ≠ 1 ∨ s.baseMigrates n then s
      else
        let items := s.callItems n c
        let cur := setFld (setFld (setFld 0 9 0 c.entry) 23 16 c.token) 63 32 items.length
        ((s.updBase n (fun b => { b with queue := rest, run := some { call := c, items := items } })).wr (Reg.stkBeCur n) cur).wr
          (Reg.stkBeStatus n) (setFld (setFld (s.rd (Reg.stkBeStatus n)) 2 0 2) 16 8 rest.length)
    | _, _ => s)

/-- The registers of a new work item (R310). -/
def newItem (prog : Nat) (c : BaseCall) (b : BaseSt) (j : Nat) : WorkItem :=
  let nn := b.spanN
  let w : WorkItem := { tile := j, pc := prog }
  let w := ((w.setX 1 (BitVec.ofNat 64 j)).setX 2 (BitVec.ofNat 64 (j * nn))).setX 3 (BitVec.ofNat 64 nn)
  (c.args.zipIdx.filter (fun a => a.2 < 4)).foldl (fun w a => w.setX (4 + a.2) a.1) w

/-- WORK_ITEM_START (R306, R310): a free unit stages the tiles of the next work item and starts it; a tile that fails its
check fails the item with code 0x1 (R315). -/
def execWorkItemStart (n : Fin 12) (v : Fin 128) (ecc : List MemUpset) (s : State) : Result :=
  .next (
    let n := n.val
    let s := s.upset ecc
    match (s.bases.get n).run, s.unitItem n v with
    | some r, none =>
      match r.failed, r.items with
      | false, j :: rest =>
        let s := (s.updBase n (fun b => { b with run := some { r with items := rest } })).wrF (Reg.stkBeCur n) 63 32 rest.length
        let w := newItem (s.callProgram n r.call.entry) r.call { st := s, n := n, call := r.call, item := { tile := j } } j
        s.runUnit n v w BaseM.stage (fun s _ w => s.updBase n (fun b => { b with units := b.units.set v (some w) }))
      | _, _ => s
    | _, _ => s)

/-- BASE_CALL_DONE (R301, R315): with no work item left to start and none running, the call is over on its stack; its token
is done when every named stack has finished, failed when a work item failed. -/
def execBaseCallDone (n : Fin 12) (s : State) : Result :=
  .next (
    let n := n.val
    let b := s.bases.get n
    match b.run with
    | some r =>
      if (r.items = [] ∨ r.failed) ∧ b.units = [] then
        (((s.updBase n (fun b => { b with run := none })).wrF (Reg.stkBeStatus n) 2 0 1).tokenPart r.call.lead r.call.token
          (!r.failed))
      else s
    | none => s)

/-- INSTRUCTION_LIMIT (R313): a work item that would execute more than 1,048,576 instructions fails with code 0x4. -/
def execInstructionLimit (n : Fin 12) (v : Fin 128) (s : State) : Result :=
  .next (
    match s.unitItem n v with
    | some w => if 1048576 ≤ w.executed then s.failItem n v w { code := 0x4 } else s
    | none => s)

/-- BASE_VADD (R309): Base vector binary32 add. -/
def execBaseVadd (n : Fin 12) (v : Fin 128) (ecc : List MemUpset) (s : State) : Result :=
  .next ((s.upset ecc).unitStep n v 0x1)

/-- BASE_VSUB (R309): Base vector subtract. -/
def execBaseVsub (n : Fin 12) (v : Fin 128) (ecc : List MemUpset) (s : State) : Result :=
  .next ((s.upset ecc).unitStep n v 0x2)

/-- BASE_VMUL (R309): Base vector multiply. -/
def execBaseVmul (n : Fin 12) (v : Fin 128) (ecc : List MemUpset) (s : State) : Result :=
  .next ((s.upset ecc).unitStep n v 0x3)

/-- BASE_VFMA (R309): Base vector fused multiply-add. -/
def execBaseVfma (n : Fin 12) (v : Fin 128) (ecc : List MemUpset) (s : State) : Result :=
  .next ((s.upset ecc).unitStep n v 0x4)

/-- BASE_VMAX (R309): Base vector maximum. -/
def execBaseVmax (n : Fin 12) (v : Fin 128) (ecc : List MemUpset) (s : State) : Result :=
  .next ((s.upset ecc).unitStep n v 0x5)

/-- BASE_VMIN (R309): Base vector minimum. -/
def execBaseVmin (n : Fin 12) (v : Fin 128) (ecc : List MemUpset) (s : State) : Result :=
  .next ((s.upset ecc).unitStep n v 0x6)

/-- VDIV (R309): Correctly rounded vector divide. -/
def execVdiv (n : Fin 12) (v : Fin 128) (ecc : List MemUpset) (s : State) : Result :=
  .next ((s.upset ecc).unitStep n v 0x7)

/-- VSQRT (R309): Correctly rounded vector square root. -/
def execVsqrt (n : Fin 12) (v : Fin 128) (ecc : List MemUpset) (s : State) : Result :=
  .next ((s.upset ecc).unitStep n v 0x8)

/-- VABS (R309): Vector absolute value. -/
def execVabs (n : Fin 12) (v : Fin 128) (ecc : List MemUpset) (s : State) : Result :=
  .next ((s.upset ecc).unitStep n v 0x9)

/-- VSEL (R309): Select lanes by mask. -/
def execVsel (n : Fin 12) (v : Fin 128) (ecc : List MemUpset) (s : State) : Result :=
  .next ((s.upset ecc).unitStep n v 0xa)

/-- VCMPLT (R309): Compare less-than into a mask register. -/
def execVcmplt (n : Fin 12) (v : Fin 128) (ecc : List MemUpset) (s : State) : Result :=
  .next ((s.upset ecc).unitStep n v 0xb)

/-- VCMPLE (R309): Compare less-or-equal into a mask register. -/
def execVcmple (n : Fin 12) (v : Fin 128) (ecc : List MemUpset) (s : State) : Result :=
  .next ((s.upset ecc).unitStep n v 0xc)

/-- VCMPEQ (R309): Compare equal into a mask register. -/
def execVcmpeq (n : Fin 12) (v : Fin 128) (ecc : List MemUpset) (s : State) : Result :=
  .next ((s.upset ecc).unitStep n v 0xd)

/-- VSUM (R309): Sum 32 lanes in a fixed pairwise tree. -/
def execVsum (n : Fin 12) (v : Fin 128) (ecc : List MemUpset) (s : State) : Result :=
  .next ((s.upset ecc).unitStep n v 0xe)

/-- VIADD (R309): INT32 add. -/
def execViadd (n : Fin 12) (v : Fin 128) (ecc : List MemUpset) (s : State) : Result :=
  .next ((s.upset ecc).unitStep n v 0x10)

/-- VISUB (R309): INT32 subtract. -/
def execVisub (n : Fin 12) (v : Fin 128) (ecc : List MemUpset) (s : State) : Result :=
  .next ((s.upset ecc).unitStep n v 0x11)

/-- VIMUL (R309): INT32 multiply. -/
def execVimul (n : Fin 12) (v : Fin 128) (ecc : List MemUpset) (s : State) : Result :=
  .next ((s.upset ecc).unitStep n v 0x12)

/-- VIAND (R309): INT32 and. -/
def execViand (n : Fin 12) (v : Fin 128) (ecc : List MemUpset) (s : State) : Result :=
  .next ((s.upset ecc).unitStep n v 0x13)

/-- VIOR (R309): INT32 or. -/
def execVior (n : Fin 12) (v : Fin 128) (ecc : List MemUpset) (s : State) : Result :=
  .next ((s.upset ecc).unitStep n v 0x14)

/-- VIXOR (R309): INT32 exclusive or. -/
def execVixor (n : Fin 12) (v : Fin 128) (ecc : List MemUpset) (s : State) : Result :=
  .next ((s.upset ecc).unitStep n v 0x15)

/-- VISHL (R309): INT32 shift left. -/
def execVishl (n : Fin 12) (v : Fin 128) (ecc : List MemUpset) (s : State) : Result :=
  .next ((s.upset ecc).unitStep n v 0x16)

/-- VISHR (R309): INT32 logical shift right. -/
def execVishr (n : Fin 12) (v : Fin 128) (ecc : List MemUpset) (s : State) : Result :=
  .next ((s.upset ecc).unitStep n v 0x17)

/-- VCVTFI (R309): Convert FP32 to INT32, saturating. -/
def execVcvtfi (n : Fin 12) (v : Fin 128) (ecc : List MemUpset) (s : State) : Result :=
  .next ((s.upset ecc).unitStep n v 0x18)

/-- VCVTIF (R309): Convert INT32 to FP32. -/
def execVcvtif (n : Fin 12) (v : Fin 128) (ecc : List MemUpset) (s : State) : Result :=
  .next ((s.upset ecc).unitStep n v 0x19)

/-- VIDX (R309): Lane index plus a scalar. -/
def execVidx (n : Fin 12) (v : Fin 128) (ecc : List MemUpset) (s : State) : Result :=
  .next ((s.upset ecc).unitStep n v 0x1a)

/-- VBCX (R309): Broadcast a scalar register's low word. -/
def execVbcx (n : Fin 12) (v : Fin 128) (ecc : List MemUpset) (s : State) : Result :=
  .next ((s.upset ecc).unitStep n v 0x20)

/-- VBCI (R309): Broadcast an immediate word. -/
def execVbci (n : Fin 12) (v : Fin 128) (ecc : List MemUpset) (s : State) : Result :=
  .next ((s.upset ecc).unitStep n v 0x21)

/-- VBCC (R309): Broadcast a call-entry constant. -/
def execVbcc (n : Fin 12) (v : Fin 128) (ecc : List MemUpset) (s : State) : Result :=
  .next ((s.upset ecc).unitStep n v 0x22)

/-- VLD (R309): Load 32 elements of a slot, converted, locally or by remote access. -/
def execVld (n : Fin 12) (v : Fin 128) (ecc : List MemUpset) (s : State) : Result :=
  .next ((s.upset ecc).unitStep n v 0x30)

/-- VST (R309): Store 32 lanes into the stage buffer, converted, with block scales. -/
def execVst (n : Fin 12) (v : Fin 128) (ecc : List MemUpset) (s : State) : Result :=
  .next ((s.upset ecc).unitStep n v 0x31)

/-- XADD (R309): Base scalar add. -/
def execXadd (n : Fin 12) (v : Fin 128) (ecc : List MemUpset) (s : State) : Result :=
  .next ((s.upset ecc).unitStep n v 0x40)

/-- XSUB (R309): Base scalar subtract. -/
def execXsub (n : Fin 12) (v : Fin 128) (ecc : List MemUpset) (s : State) : Result :=
  .next ((s.upset ecc).unitStep n v 0x41)

/-- XMUL (R309): Base scalar multiply. -/
def execXmul (n : Fin 12) (v : Fin 128) (ecc : List MemUpset) (s : State) : Result :=
  .next ((s.upset ecc).unitStep n v 0x42)

/-- XAND (R309): Base scalar and. -/
def execXand (n : Fin 12) (v : Fin 128) (ecc : List MemUpset) (s : State) : Result :=
  .next ((s.upset ecc).unitStep n v 0x43)

/-- BASE_XOR (R309): Base scalar or (op 0x44). -/
def execBaseXor (n : Fin 12) (v : Fin 128) (ecc : List MemUpset) (s : State) : Result :=
  .next ((s.upset ecc).unitStep n v 0x44)

/-- XSHL (R309): Base scalar shift left. -/
def execXshl (n : Fin 12) (v : Fin 128) (ecc : List MemUpset) (s : State) : Result :=
  .next ((s.upset ecc).unitStep n v 0x45)

/-- XSHR (R309): Base scalar shift right. -/
def execXshr (n : Fin 12) (v : Fin 128) (ecc : List MemUpset) (s : State) : Result :=
  .next ((s.upset ecc).unitStep n v 0x46)

/-- XADDI (R309): Base scalar add immediate. -/
def execXaddi (n : Fin 12) (v : Fin 128) (ecc : List MemUpset) (s : State) : Result :=
  .next ((s.upset ecc).unitStep n v 0x47)

/-- XLI (R309): Base scalar load immediate. -/
def execXli (n : Fin 12) (v : Fin 128) (ecc : List MemUpset) (s : State) : Result :=
  .next ((s.upset ecc).unitStep n v 0x48)

/-- BASE_JMP (R309): Base program jump. -/
def execBaseJmp (n : Fin 12) (v : Fin 128) (ecc : List MemUpset) (s : State) : Result :=
  .next ((s.upset ecc).unitStep n v 0x50)

/-- BASE_BEQ (R309): Base branch when equal. -/
def execBaseBeq (n : Fin 12) (v : Fin 128) (ecc : List MemUpset) (s : State) : Result :=
  .next ((s.upset ecc).unitStep n v 0x51)

/-- BASE_BNE (R309): Base branch when not equal. -/
def execBaseBne (n : Fin 12) (v : Fin 128) (ecc : List MemUpset) (s : State) : Result :=
  .next ((s.upset ecc).unitStep n v 0x52)

/-- BASE_BLT (R309): Base branch when signed less. -/
def execBaseBlt (n : Fin 12) (v : Fin 128) (ecc : List MemUpset) (s : State) : Result :=
  .next ((s.upset ecc).unitStep n v 0x53)

/-- BASE_BGE (R309): Base branch when signed greater or equal. -/
def execBaseBge (n : Fin 12) (v : Fin 128) (ecc : List MemUpset) (s : State) : Result :=
  .next ((s.upset ecc).unitStep n v 0x54)

/-- BASE_END (R309): End the work item and write back exactly the stored bytes with updated checks. -/
def execBaseEnd (n : Fin 12) (v : Fin 128) (ecc : List MemUpset) (s : State) : Result :=
  .next ((s.upset ecc).unitStep n v 0x5f)

/-- BADAMW (R318): Built-in AdamW update over each element of the span. -/
def execBadamw (n : Fin 12) (v : Fin 128) (ecc : List MemUpset) (s : State) : Result :=
  .next ((s.upset ecc).unitBuiltin n v 0x8000 (BaseM.groups BaseM.adamw))

/-- BCVT (R318): Built-in conversion identical to FCVT. -/
def execBcvt (n : Fin 12) (v : Fin 128) (ecc : List MemUpset) (s : State) : Result :=
  .next ((s.upset ecc).unitBuiltin n v 0x8001 (BaseM.groups BaseM.bcvt))

/-- BGATH (R319): Built-in gather of table rows by index inside each stack. -/
def execBgath (n : Fin 12) (v : Fin 128) (ecc : List MemUpset) (s : State) : Result :=
  .next ((s.upset ecc).unitBuiltin n v 0x8002 (BaseM.rows false))

/-- BSCAT (R319): Built-in scatter, set or add, of rows by index. -/
def execBscat (n : Fin 12) (v : Fin 128) (ecc : List MemUpset) (s : State) : Result :=
  .next ((s.upset ecc).unitBuiltin n v 0x8003 (BaseM.rows true))

/-- BRED (R318): Built-in ordered sum of up to seven inputs. -/
def execBred (n : Fin 12) (v : Fin 128) (ecc : List MemUpset) (s : State) : Result :=
  .next ((s.upset ecc).unitBuiltin n v 0x8004 (BaseM.groups BaseM.bred))

/-- BSQN (R318): Built-in sum of squares of the span. -/
def execBsqn (n : Fin 12) (v : Fin 128) (ecc : List MemUpset) (s : State) : Result :=
  .next ((s.upset ecc).unitBuiltin n v 0x8005 BaseM.bsqn)

/-- BCHK (R318, R320): Built-in verify or regenerate of tile checks. -/
def execBchk (n : Fin 12) (v : Fin 128) (ecc : List MemUpset) (s : State) : Result :=
  .next ((s.upset ecc).unitBuiltin n v 0x8006 BaseM.bchk)

/-- BASE_CODE_WRITE (R325): a write of the SCH to code memory, or to word `i` of the call table, while the engine is idle
with nothing queued; any other write is refused. -/
def execBaseCodeWrite (ag : Agent) (n : Fin 12) (call : Bool) (i : BitVec 14) (v : W64) (s : State) : Result :=
  .next (
    let a := if call then Reg.stkBeCall n (i.toNat / 16) (i.toNat % 16) else Reg.stkBeCode n (i.toNat % 8192)
    s.csrAccess ag a 8 true (fun s =>
      let st := s.rd (Reg.stkBeStatus n)
      if ag = .sch ∧ fld st 2 0 = 1 ∧ fld st 16 8 = 0 then s.wr a v else s.refuseWrite ag))

end Sys2Proof.Machine
end

