-- ==== Sys2Proof/Machine/Bbx.lean ====
section
/-!
DEFINITION. The breadboxes and the incarnations of agents (13_firmware_mailboxes.md R528, R534 to R547).
-/
namespace Sys2Proof.Machine

/-! ### The assignment of R534 -/

/-- Receiving agent of a breadbox. -/
def boxReceiver (b : Nat) : Nat := (boxRow b).1

/-- Whether a breadbox is shared, and so has a peel. -/
def boxShared (b : Nat) : Bool := (boxRow b).2.2 == 1

/-- Whether an agent is a permitted sender of a breadbox (R534). -/
def boxPermits (b a : Nat) : Bool :=
  match (boxRow b).2.2 with
  | 0 => a == (boxRow b).2.1
  | 1 =>
    if b < 16 then agentListed a && decide (4 < a)
    else if b < 48 then decide (0x10 + 4 * (b - 32) ≤ a ∧ a < 0x14 + 4 * (b - 32))
    else decide (1 ≤ a ∧ a ≤ 3)
  | _ => false

/-! ### State of a breadbox -/

/-- BBX_STATUS.go. -/
def State.boxGo (s : State) (b : Nat) : Bool := s.rdB (Reg.bbxStatus b) 0

/-- The agent that holds the peel; 0 when free. -/
def State.boxOwner (s : State) (b : Nat) : Nat := s.rdF (Reg.bbxStatus b) 15 8

/-- A firmware core's breadbox wake signal (R544): a message waits for it, or a breadbox that it waits for is empty. -/
def State.boxWakes (s : State) (a : Nat) : Bool :=
  s.rd (Reg.bbxPend a) != 0 || (List.range 64).any (fun b => s.rdB (Reg.bbxWait a) b && !s.boxGo b)

/-- Data word `i` of a breadbox. -/
def State.boxData (s : State) (b i : Nat) : Nat := s.rdF (Reg.bbxData b i) 31 0

/-- Whether an agent may read the data words of a breadbox (R536). -/
def boxReads (b a : Nat) : Bool := a == boxReceiver b || boxPermits b a

/-- Whether an address lies in the register group of every breadbox that begins at `base` and has `n` bytes (R535). -/
def inBoxes (a base n : Nat) : Bool := decide (base ≤ a ∧ a < base + 64 * 0x100 ∧ (a - base) % 0x100 < n)

/-- Type of the message in a breadbox. -/
def State.boxType (s : State) (b : Nat) : Nat := s.rdF (Reg.bbxHdr b) 47 32

/-- Sender of the message in a breadbox. -/
def State.boxSender (s : State) (b : Nat) : Nat := s.rdF (Reg.bbxHdr b) 7 0

/-- Whether a breadbox holds a message of a type. -/
def State.boxHolds (s : State) (b ty : Nat) : Bool := s.boxGo b && s.boxType b == ty

/-- MSI-X vector 63 of PF0 of a port (R534). -/
def State.pf0Vector (s : State) (h : Nat) : State := s.hostOut [.vector h 0 63]

/-- A message stands in a breadbox (R538): header and complement, go, the peel released, BBX_PEND of the receiver, and the vector
of a full answer to PF0. -/
def State.boxFill (s : State) (b a words ty : Nat) : State :=
  let inc := s.rdF (Reg.bbxInc a) 15 0
  let hdr := setFld (setFld (setFld (setFld 0 7 0 a) 23 8 (if a = 0 then 0 else inc)) 28 24 words) 47 32 ty
  let s := s.cpCommit (Reg.bbxHdr b) hdr
  let s := (s.wrB (Reg.bbxStatus b) 0 true).wrF (Reg.bbxStatus b) 15 8 0
  let s := s.wrB (Reg.bbxPend (boxReceiver b)) b true
  s.cond (b == 49 || b == 51) (fun s => s.pf0Vector ((b - 49) / 2))

/-- The check of a read of a header (R543): where header and companion disagree, hdr_err is set and event 0x809 recorded. -/
def State.hdrRead (s : State) (b a : Nat) : State :=
  s.cond (!s.cpOk (Reg.bbxHdr b)) (fun s => (s.wrB (Reg.bbxStatus b) 2 true).event 0x809 .none b (agent := a))

/-- The receiver empties a breadbox (R539): go, stale and hdr_err are 0. -/
def State.boxEmpty (s : State) (b : Nat) : State :=
  let s := s.wrF (Reg.bbxStatus b) 2 0 0
  let s := s.wrB (Reg.bbxPend (boxReceiver b)) b false
  s.cond (b == 48 || b == 50) (fun s => s.pf0Vector ((b - 48) / 2))

/-- An agent's own message with its data words, into an empty breadbox. -/
def State.boxPost (s : State) (b a ty : Nat) (ws : List Nat) : State :=
  (s.each ws.zipIdx (fun s w => s.wr (Reg.bbxData b w.2) (BitVec.ofNat 64 (w.1 % 2 ^ 32)))).boxFill b a ws.length ty

/-- An agent starts (R528, R540, R541): its incarnation counts on, messages that wait for it are stale, and its peels are free. -/
def State.agentStart (s : State) (a : Nat) : State :=
  let inc := s.rdF (Reg.bbxInc a) 15 0
  let s := s.wrF (Reg.bbxInc a) 15 0 (if inc = 0xFFFF then 1 else inc + 1)
  s.each (List.range 64) (fun s b =>
    let s := s.cond (boxReceiver b == a && s.boxGo b) (fun s => s.wrB (Reg.bbxStatus b) 1 true)
    s.cond (boxShared b && s.boxOwner b == a) (fun s => s.wrF (Reg.bbxStatus b) 15 8 0))

/-- The breadbox in which a BDC answers a requester (R556): the SCH in 20 + n, SEC and PMC in their shared ones. -/
def bdcAnswerBox (n a : Nat) : Nat := if a = 3 then 20 + n else if a = 1 then 0 else 5

end Sys2Proof.Machine
end

