-- ==== Sys2Proof/Machine/Bundle.lean ====
section
/-!
DEFINITION. Bundles (04_eusel_encoding.md R158 to R175, R192 to R197): their words, the checks of R195, the stages of R197, and
the effect of each slot.
-/
namespace Sys2Proof.Machine

/-! ### Scalar unit (R169, R170) -/

/-- rd of a class 0x0 slot (R168). -/
def Slot.rd (sl : Slot) : Nat := natFld sl.low 15 5
/-- rs1 of a class 0x0 slot. -/
def Slot.rs1 (sl : Slot) : Nat := natFld sl.low 10 5
/-- rs2 of a class 0x0 slot. -/
def Slot.rs2 (sl : Slot) : Nat := natFld sl.low 5 5
/-- The shift amount of SHLI, SHRI and SARI: bits 9:4. -/
def Slot.sh (sl : Slot) : Nat := natFld sl.low 4 6
/-- Word 1 sign-extended to 64 bits. -/
def Slot.imm (sl : Slot) : W64 := BitVec.ofInt 64 (toSigned 32 sl.w1)

/-- The value a scalar operation writes to rd (R170), from rs1, rs2, the old rd and its immediates. -/
def scalarValue (op : Nat) (a b old imm imm64 : W64) (sh : Nat) : W64 :=
  match op with
  | 0x01 => imm
  | 0x02 => setFld old 63 32 (fld imm 31 0)
  | 0x03 => imm64
  | 0x04 => a + b
  | 0x05 => a - b
  | 0x06 => a * b
  | 0x07 => a &&& b
  | 0x08 => a ||| b
  | 0x09 => a ^^^ b
  | 0x0A => a <<< (b.toNat % 64)
  | 0x0B => a >>> (b.toNat % 64)
  | 0x0C => a.sshiftRight (b.toNat % 64)
  | 0x0D => if a.slt b then 1 else 0
  | 0x0E => if a.ult b then 1 else 0
  | 0x10 => a + imm
  | 0x11 => a &&& imm
  | 0x12 => a ||| imm
  | 0x13 => a <<< sh
  | 0x14 => a >>> sh
  | _ => a.sshiftRight sh

/-- The 64-bit value of words 1 and 2. -/
def Slot.imm64 (sl : Slot) : W64 := BitVec.ofNat 64 (sl.w1 + 2 ^ 32 * sl.w2)

/-- A scalar unit slot takes effect (R170): rd, or a group register for GRPI and GRP. -/
def State.scalarSlot (s : State) (q : Nat) (sl : Slot) : State :=
  let a := s.sreg q sl.rs1
  if sl.op = 0x18 then s.updSeq q (fun z => { z with gregs := z.gregs.set sl.rd sl.imm64 })
  else if sl.op = 0x19 then s.updSeq q (fun z => { z with gregs := z.gregs.set sl.rd a })
  else s.setSreg q sl.rd (scalarValue sl.op a (s.sreg q sl.rs2) (s.sreg q sl.rd) sl.imm sl.imm64 sl.sh)

/-! ### Flow unit (R171 to R173) -/

/-- Whether a JMP or a branch is taken (R171). -/
def branchTaken (op : Nat) (a b : W64) : Bool :=
  match op with
  | 0x20 => true
  | 0x21 => decide (a = b)
  | 0x22 => decide (a ≠ b)
  | 0x23 => a.slt b
  | 0x24 => !a.slt b
  | 0x25 => a.ult b
  | 0x26 => !a.ult b
  | _ => false

/-- The address an offset names from a bundle's PC. -/
def flowTarget (pc w1 : Nat) : Int := (pc : Int) + toSigned 32 w1

/-- The sequential next PC under the active loops (R173): the innermost loop whose exit it is counts down and returns to its
body, or ends, the next enclosing loop with the same exit being examined in the same way. -/
def loopIterate (next : Nat) : List SeqLoop → Nat × List SeqLoop
  | [] => (next, [])
  | l :: ls =>
    if l.exit ≠ next then
      let r := loopIterate next ls
      (r.1, l :: r.2)
    else if 1 < l.remaining then (l.start, { l with remaining := l.remaining - 1 } :: ls)
    else loopIterate next ls

/-- Whether an address lies in a loop's body. -/
def SeqLoop.holds (l : SeqLoop) (a : Nat) : Bool := decide (l.start ≤ a) && decide (a < l.exit)

/-- The loops that stay active after a taken branch (R173): a loop whose body the target leaves ends, with every loop nested
in it. -/
def loopsAfterJump (t : Nat) (ls : List SeqLoop) : List SeqLoop := (ls.reverse.takeWhile (fun l => l.holds t)).reverse

/-- What a flow slot does to the next PC and the loops: `none` when a branch is not taken. DESIGN CHOICE: a LOOP that does not become
active and whose exit address is the exit of an enclosing active loop reaches that exit, so it counts an iteration of that loop; one whose
exit address lies beyond an enclosing exit leaves that loop active. -/
def flowStep (z : Seq) (pc : Nat) (sl : Slot) (a b : W64) : Option (Nat × List SeqLoop) :=
  let t := (flowTarget pc sl.w1).toNat
  if sl.op = 0x28 then
    let n := fld a 31 0
    if n = 0 ∨ t = z.after then some (loopIterate t z.loops)
    else some (z.after, { start := z.after, exit := t, remaining := n } :: z.loops)
  else if branchTaken sl.op a b then some (t, loopsAfterJump t z.loops)
  else none

/-- A flow slot other than COMMIT and END takes effect: one step of cost, and its next PC (R171, R173). -/
def State.flowSlot (s : State) (q : Nat) (sl : Slot) : State :=
  let pc := s.pcOf q
  let a := s.sreg q sl.rs1
  let b := s.sreg q sl.rs2
  s.updSeq q (fun z =>
    let z' := { z with bundleAt := z.bundleAt + 1 }
    match flowStep z pc sl a b with
    | some r => { z' with nextPc := r.1, loops := r.2 }
    | none => z')

/-! ### Checks of R195 on one slot -/

/-- The token of an asynchronous operation (R99, R175, R192, R193). -/
def Slot.token (sl : Slot) : Option Nat :=
  if sl.cls = 0xA ∨ sl.cls = 0xC ∨ sl.cls = 0xD then some (natFld sl.w1 0 8)
  else if sl.cls = 0 ∧ (sl.op = 0x38 ∨ sl.op = 0x39) then some (natFld sl.low 0 8)
  else none

/-- The tokens a sync-unit slot waits for (R174). -/
def Slot.waitSet (sl : Slot) : List Nat :=
  if sl.cls = 0 ∧ sl.op = 0x30 then (bitsSet (sl.w1 + 2 ^ 32 * sl.w2) 64).map (fun i => 64 * natFld sl.low 0 2 + i)
  else if sl.cls = 0 ∧ sl.op = 0x31 then
    (List.range (natFld sl.low 0 8 + 1 - natFld sl.low 8 8)).map (fun i => natFld sl.low 8 8 + i)
  else []

/-- The rule of a LOOP that becomes active (R173): at most four loops, its exit not beyond an enclosing exit. -/
def loopAllowed (z : Seq) (a : W64) (exit next : Nat) : Bool :=
  fld a 31 0 == 0 || exit == next ||
    (decide (z.loops.length < 4) && z.loops.all (fun l => decide (exit ≤ l.exit)))

/-- The fields of a class 0x0 slot (R168 to R175), with the values in force at the bundle's step. -/
def State.seqSlotOk (s : State) (q pc next : Nat) (sl : Slot) : Bool :=
  let z := s.seq q
  let nn := 15 * (s.gang q).length
  let a := s.sreg q sl.rs1
  if sl.op < 0x20 then
    (if sl.op = 0x13 ∨ sl.op = 0x14 ∨ sl.op = 0x15 then natFld sl.low 0 4 == 0 else natFld sl.low 0 5 == 0)
      && (sl.op != 0x18 || (decide (sl.rd < 16) && decide (sl.imm64.toNat < 2 ^ nn)))
      && (sl.op != 0x19 || (decide (sl.rd < 16) && decide (a.toNat < 2 ^ nn)))
  else if sl.op < 0x30 then
    natFld sl.low 0 5 == 0 &&
    (if sl.op = 0x2C ∨ sl.op = 0x2D then true
     else
      let t := flowTarget pc sl.w1
      decide (toSigned 32 sl.w1 % 4 = 0) &&
      (if sl.op = 0x28 then decide ((next : Int) ≤ t) && decide (t ≤ z.imageLen) && loopAllowed z a t.toNat next
       else decide (0 ≤ t) && decide (t + 4 ≤ z.imageLen)))
  else if sl.op = 0x30 then natFld sl.low 2 18 == 0
  else if sl.op = 0x31 then natFld sl.low 16 4 == 0 && decide (natFld sl.low 8 8 ≤ natFld sl.low 0 8)
  else if sl.op = 0x38 then natFld sl.low 8 12 == 0 && decide (sl.w1 < 2 ^ 16)
  else natFld sl.low 8 2 == 0 && natFld sl.low 15 5 == 0

/-- The fields of a control slot (R176 to R178). -/
def State.controlOk (s : State) (q : Nat) (sl : Slot) : Bool :=
  match sl.op with
  | 0x38 => decide (sl.mod ≤ 1) && s.recordOk q sl.cls sl.w1
  | 0x39 => sl.mod == 0
  | 0x3A => sl.mod == 0
  | 0x3B => decide (sl.mod ≤ 3) && decide (sl.w1 < 32)
  | _ =>
    let v := (s.sreg q (sl.w1 % 32)).toNat
    decide (sl.mod ≤ 2) && decide (sl.w1 < 32) && decide (1 ≤ v) && decide (v ≤ 65536)

/-- The fields of a trigger or a signal (R193). -/
def triggerFieldsOk (sl : Slot) : Bool :=
  match sl.cls with
  | 0xC => sl.low == 0 && natFld sl.w1 29 3 == 0
  | 0xD => natFld sl.low 0 8 == 0 && natFld sl.w1 29 3 == 0
  | _ => natFld sl.low 0 14 == 0

/-- Whether a slot breaks no rule of R195 that concerns it alone. DESIGN CHOICE (R109, R195 item 13): the 16 slots that may wait are
counted before the engine issues one of them at the same step. -/
def State.slotOk (s : State) (q pc next : Nat) (sl : Slot) : Bool :=
  decide (opWords sl.cls sl.op = some sl.nw) &&
  (if sl.cls = 0 then s.seqSlotOk q pc next sl
   else if 0xC ≤ sl.cls then triggerFieldsOk sl
   else match s.instances q sl with
    | none => false
    | some is =>
      if sl.cls = 0xA then dmxFieldsOk sl
      else if sl.isControl then s.controlOk q sl
      else opFieldsOk sl && is.all (fun i =>
        let e := s.engine q sl.cls i.1 i.2
        decide (e.waiting.length < 16) && configAccepts e.nextCfg sl))

/-! ### Checks of R195 on a bundle -/

/-- The engine instances, units or stacks that a slot occupies (R110, R168, R194), as numbers. -/
def State.slotKeys (s : State) (q : Nat) (sl : Slot) : List Nat :=
  if sl.cls = 0 then [if sl.op < 0x20 then 0 else if sl.op < 0x30 then 1 else if sl.op < 0x38 then 2 else 3]
  else if sl.cls = 0xD then (bitsSet (natFld sl.low 8 12) 12).map (fun t => 0xD * 1024 + t)
  else if 0xC ≤ sl.cls then [sl.cls * 1024]
  else ((s.instances q sl).getD []).map (fun i => engKey sl.cls i.1 i.2)

/-- The indices of slots that offend (R195): a slot's own faults, pairs that address one instance or name one token, and a
slot that stands beside an END. DESIGN CHOICE, where R196 leaves the first offending slot open: of two slots that address one instance or name
one token the earlier offends, unless one of them offends by itself; beside an END every slot but a sync-unit one offends, the END too. -/
def State.offenders (s : State) (q pc next : Nat) (sls : List Slot) : List Nat :=
  let ix := sls.zipIdx
  let pairs := fun (f : Slot → Slot → Bool) =>
    ix.filterMap (fun a => if ix.any (fun b => decide (a.2 < b.2) && f a.1 b.1) then some a.2 else none)
  let isEnd := fun (sl : Slot) => sl.cls == 0 && sl.op == 0x2D
  let sync := fun (sl : Slot) => sl.cls == 0 && decide (0x30 ≤ sl.op) && decide (sl.op < 0x38)
  let own := ix.filterMap (fun a => if s.slotOk q pc next a.1 then none else some a.2)
  let same := pairs (fun a b => s.slotOk q pc next a && s.slotOk q pc next b && (s.slotKeys q a).any (fun k => (s.slotKeys q b).contains k))
  let toks := pairs (fun a b => a.token.isSome && a.token == b.token)
  let ends := if sls.any isEnd && sls.any (fun sl => !isEnd sl && !sync sl) then
      ix.filterMap (fun a => if sync a.1 then none else some a.2) else []
  own ++ same ++ toks ++ ends

/-- The first offending slot in word order. -/
def State.firstOffender (s : State) (q pc next : Nat) (sls : List Slot) : Option Slot :=
  match s.offenders q pc next sls with
  | [] => none
  | i :: is => sls[is.foldl min i]?

/-- What SEQ_FAULT reports of an offending slot (R196): its class, and the lowest virtual cluster and cell it addresses. -/
def State.illegalAt (s : State) (q : Nat) (sl : Slot) : StopInfo :=
  let engine := decide (1 ≤ sl.cls) && decide (sl.cls ≤ 0xB)
  let u := if engine then (((s.selClusters q sl.gmode sl.gsel).getD []).head?).getD 0 else 0
  let k := if sl.cls = 1 ∨ sl.cls = 2 then (((selCells sl.cls sl.csel).getD []).head?).getD 0
    else if sl.cls = 0xA ∧ !orefCluster sl.fD ∧ !natBit sl.low 5 then natFld sl.low 0 4 else 0
  faultAt 0x02 sl.cls u k

/-! ### Stages of R197 -/

/-- What the next stage is given: go on, or the state in which the bundle stops or freezes. -/
inductive Stage where
  | go (s : State)
  | halt (s : State)

/-- The state a stage leaves. -/
def Stage.state : Stage → State
  | .go s => s
  | .halt s => s

/-- A stage after another. -/
def Stage.andThen (a : Stage) (f : State → Stage) : Stage :=
  match a with
  | .go s => f s
  | .halt s => .halt s

/-- A freeze on pending tokens (R115, R119, R126), unless one of them is of a prefetch that waits for the executing page: then
that prefetch is cancelled at once and the recipe stops with fault 0x03 (R134). -/
def State.awaitTokens (s : State) (q : Nat) (pend : List Nat) (f : Freeze) (cause : Nat) : State :=
  match (s.seq q).blockedTokens pend with
  | [] => s.freezeOn q f 3 cause
  | t :: ts =>
    (s.updSeq q (fun z => z.cancelPrefetches (t :: ts))).stopRecipe q { code := 0x03, token := ts.foldl min t }

/-- The class of the lowest pending token of a list: what SEQ_STATUS shows while a wait lasts. -/
def Seq.waitCause (z : Seq) (pend : List Nat) : Nat := ((pend.head?).map (fun t => (z.tokens.get t).cause)).getD 0

/-- Stage 3 of R197: the WAIT (R115, R116). -/
def State.waitStage (s : State) (q : Nat) (sls : List Slot) : Stage :=
  let z := s.seq q
  let set := sls.flatMap Slot.waitSet
  let pend := z.pendingTokens.filter set.contains
  if pend ≠ [] then .halt (s.awaitTokens q pend (.wait set) (z.waitCause pend))
  else match z.lowestFailed set with
    | some t => .halt (s.stopRecipe q { code := 0x03, token := t })
    | none => .go s

/-- Stage 4 of R197: COMMIT freezes until COMMIT_QUIESCE finds no token pending (R119); END freezes while one is, and stops on
a failed one (R126). -/
def State.endStage (s : State) (q : Nat) (sls : List Slot) : Stage :=
  let z := s.seq q
  let has := fun op => sls.any (fun sl => sl.cls == 0 && sl.op == op)
  if has 0x2C && !z.passed then .halt (s.awaitTokens q z.pendingTokens .commit 8)
  else if has 0x2D then
    if z.pendingTokens ≠ [] then .halt (s.awaitTokens q z.pendingTokens (.drain z.pendingTokens) (z.waitCause z.pendingTokens))
    else match z.lowestFailed (List.range 256) with
      | some t => .halt (s.stopRecipe q { code := 0x03, token := t })
      | none => .go s
  else .go s

/-- Stage 5 of R197: the token-reuse freeze (R113); a token of a prefetch that waits for the executing page is freed at once,
without a frozen cycle (R134). -/
def State.reuseStage (s : State) (q : Nat) (sls : List Slot) : Stage :=
  let z := s.seq q
  let pend := (sls.filterMap Slot.token).filter z.isPending
  let blocked := z.blockedTokens pend
  let s := s.cond (!blocked.isEmpty) (·.updSeq q (fun z => z.cancelPrefetches blocked))
  match pend.filter (fun t => !blocked.contains t) with
  | [] => .go s
  | t :: _ => .halt (s.freezeOn q (.reuse [t]) 3 6)

/-- One slot that is no control slot takes effect. -/
def State.slotEffect (s : State) (q : Nat) (sl : Slot) : State × Option StopInfo :=
  match sl.cls with
  | 0x0 =>
    if sl.op < 0x20 then (s.scalarSlot q sl, none)
    else if sl.op = 0x2D then (s.updSeq q (fun z => { z with endAt := some (max z.bundleAt (s.stepOf q + 1)) }), none)
    else if sl.op = 0x2C then (s, none)
    else if sl.op < 0x30 then (s.flowSlot q sl, none)
    else if sl.op = 0x38 then (s.prefetch q (natFld sl.low 0 8) (some sl.w1), none)
    else if sl.op = 0x39 then
      let v := (s.sreg q sl.rs1).toNat
      (s.prefetch q (natFld sl.low 0 8) (if v < 2 ^ 16 then some v else none), none)
    else (s, none)
  | 0xA => s.dmxIssue q sl (((s.selClusters q sl.gmode sl.gsel).getD []))
  | 0xC => (s.ctrigIssue q (natFld sl.w1 8 16) (natFld sl.w1 0 8) (natFld sl.w1 24 5), none)
  | 0xD => (s.btrigIssue q (natFld sl.low 8 12) (natFld sl.w1 8 16) (natFld sl.w1 0 8) (natFld sl.w1 24 5), none)
  | 0xE => (s.signalLocal (s.partOfDie q) (natFld sl.low 14 6), none)
  | _ => s.slotOps q sl ((s.instances q sl).getD [])

/-- All slots take effect: control slots before any issue (R109), then the others; the first fault stops the recipe. -/
def State.issueSlots (s : State) (q : Nat) (sls : List Slot) : State :=
  let s := s.each (sls.filter Slot.isControl) (fun s sl => s.slotControl q sl ((s.instances q sl).getD []))
  State.stopIf ((sls.filter (fun sl => !sl.isControl)).foldl (fun a sl =>
    let r := a.1.slotEffect q sl
    (r.1, firstFault a.2 r.2)) (s, none)) q

/-- Stages 2 to 5 of R197 on a list of slots. -/
def State.checkStages (s : State) (q pc next : Nat) (sls : List Slot) : Stage :=
  match s.firstOffender q pc next sls with
  | some sl => .halt (s.stopRecipe q (s.illegalAt q sl))
  | none => ((s.waitStage q sls).andThen (fun s => s.endStage q sls)).andThen (fun s => s.reuseStage q sls)

/-- A freeze that holds a slot issued by its own row keeps it. -/
def State.holdSlot (s : State) (q : Nat) (sl : Slot) : State :=
  if (s.seq q).freeze = .no ∨ (s.seq q).freeze = .stopping then s else s.updSeq q (fun z => { z with held := some sl })

/-- One slot issued at the current step, as part of the bundle in force: the meaning of every operation's own row. It acts
while the sequencer runs; one that a freeze holds (R113, R115, R119, R126) is handled again when the freeze ends. -/
def State.slotCommand (s : State) (q : Nat) (sl : Slot) : State :=
  if s.running q then
    match s.checkStages q (s.pcOf q) (s.seq q).after [sl] with
    | .go s => (s.cond (sl.cls == 0 && sl.op == 0x2C) (fun s => s.updSeq q (fun z => { z with passed := false }))).issueSlots q [sl]
    | .halt s => s.holdSlot q sl
  else s

/-! ### Bundles (R158, R159) -/

/-- The slots that a list of words makes up; `none` when an nw is 0 or the lengths do not sum up. -/
def slotsOf : Nat → List Nat → Option (List Slot)
  | _, [] => some []
  | 0, _ => none
  | fuel + 1, w0 :: ws =>
    let nw := natFld w0 26 2
    if nw = 0 ∨ ws.length + 1 < nw then none
    else (slotsOf fuel (ws.drop (nw - 1))).map (fun r => slotOfWords w0 (ws[0]?.getD 0) (ws[1]?.getD 0) :: r)

/-- A bundle of the image: idle count, offset of the next bundle and slots; `none` for a fault in the header or the lengths
(R195 items 1 to 3). -/
def State.bundleAtPc (s : State) (q pc : Nat) : Option (Nat × Nat × List Slot) :=
  let len := (s.seq q).imageLen
  if pc % 4 ≠ 0 ∨ len < pc + 4 then none
  else
    let h := s.imageWord q pc
    let n := natFld h 0 6
    let next := pc + 4 * (1 + n)
    if natFld h 24 8 ≠ 0xE5 ∨ natFld h 18 6 ≠ 0 ∨ len < next ∨ 65536 < pc % 65536 + 4 * (1 + n) then none
    else (slotsOf n ((List.range n).map (fun i => s.imageWord q (pc + 4 + 4 * i)))).map (fun sls => (natFld h 6 12, next, sls))

/-- The pages that a bundle needs and that are not resident: its own, and those of its SOLD records (R197 stage 1). -/
def State.missingPage (s : State) (q pc : Nat) : Option Nat :=
  let len := (s.seq q).imageLen
  if pc < len ∧ !s.pageReady q (pc / 65536) then some (pc / 65536)
  else match s.bundleAtPc q pc with
    | none => none
    | some (_, _, sls) =>
      ((sls.filter (fun sl => sl.isControl && sl.op == 0x38 && decide (sl.nw = 2) && decide (sl.w1 < len))).map (fun sl => sl.w1 / 65536)).find?
        (fun p => !s.pageReady q p)

/-- The sequencer reaches a bundle: its offset becomes the PC, and a prefetch that waited for the PC to leave its frame's page
waits no longer (R133, R156). -/
def State.fetchAt (s : State) (q pc : Nat) : State :=
  let f := s.frameCount q
  (s.wr (Reg.seqPc q) (BitVec.ofNat 64 (pc % 2 ^ 32))).updSeq q (fun z =>
    { z with prefetches := z.prefetches.map (fun p =>
        { p with waits := p.waits && decide (z.frames.get (p.page % f) = some (pc / 65536)) }) })

/-- Issue of a bundle at its step (R102, R171): it occupies 1 + h steps and the step cost of its flow slot. -/
def State.issueBundle (s : State) (q h next : Nat) (sls : List Slot) : State :=
  let now := s.stepOf q
  let flow := sls.find? (fun sl => sl.cls == 0 && decide (0x20 ≤ sl.op) && decide (sl.op ≤ 0x28))
  let s := s.updSeq q (fun z =>
    let seqNext := loopIterate next z.loops
    let z := { z with bundleAt := now + 1 + h, after := next, fetched := [], passed := false }
    match flow.bind (fun sl => flowStep z (s.pcOf q) sl (z.before.get sl.rs1) (z.before.get sl.rs2)) with
    | some _ => z
    | none => { z with nextPc := seqNext.1, loops := seqNext.2 })
  s.issueSlots q sls

/-- The sequencer handles the next bundle in the order of R197. -/
def State.handleBundle (s : State) (q : Nat) : State :=
  let pc := (s.seq q).nextPc
  let s := s.fetchAt q pc
  match s.missingPage q pc with
  | some p => s.freezeOn q (.page p) 3 7
  | none =>
    match s.bundleAtPc q pc with
    | none => s.stopRecipe q (faultAt 0x02 0xF 0 0)
    | some (h, next, sls) =>
      match s.checkStages q pc next sls with
      | .go s => s.issueBundle q h next sls
      | .halt s => s

/-- Whether a bundle is due (R102). -/
def State.bundleDue (s : State) (q : Nat) : Bool :=
  s.running q && decide ((s.seq q).bundleAt ≤ s.stepOf q) && decide ((s.seq q).endAt = none)

/-- A partition goes on where a freeze held it: the slot that it held, or else the bundle due, is handled again in the order of R197. -/
def State.seqGoOn (s : State) (q : Nat) : State :=
  match (s.seq q).held with
  | some sl => (s.updSeq q (fun z => { z with held := none })).slotCommand q sl
  | none => if s.bundleDue q then s.handleBundle q else s

end Sys2Proof.Machine
end

