-- ==== Sys2Proof/Machine/Floor.lean ====
section
/-!
DEFINITION. The virtual floor (01_module_floor_plan.md R57 to R59; 03_recipe_execution.md R136 to R142): the state of each cluster,
and bindings.
-/
namespace Sys2Proof.Machine

/-- test_fail (R57). -/
def ClusterFact.testFail (f : ClusterFact) : Bool := decide (f.low % 2 ^ 27 ≠ 0x7FFFFFF)

/-- The state of a cluster by R58, given whether it is bound: 0 bound, 1 spare, 2 degraded, 3 disabled, 4 retired. -/
def ClusterFact.state (f : ClusterFact) (bound : Bool) : Nat :=
  if f.fieldRetired then 4
  else if f.fuseOff then 3
  else if f.testFail ∧ f.low % 2 ^ 16 = 0 then 3
  else if f.testFail then 2
  else if bound then 0 else 1

/-- Whether a cluster is usable: in state bound or spare (R58). -/
def State.clusterUsable (s : State) (c : Nat) : Bool := decide ((s.clusters.get c).state false ≤ 1)

/-- The usable clusters of a die, as indices i ascending. -/
def State.usableOf (s : State) (d : Nat) : List Nat := (List.range 16).filter (fun i => s.clusterUsable (16 * d + i))

/-- Whether a die holds at least 15 usable clusters (R142). -/
def State.dieFloorOk (s : State) (d : Nat) : Bool := decide (15 ≤ (s.usableOf d).length)

/-- The 15 physical indices of a SEQ_VBIND value (R140). -/
def vbindList (v : W64) : List Nat := (List.range 15).map (fun j => fld v (4 * j + 3) (4 * j))

/-- Whether a gang may run a recipe on its binding: every die of it has at least 15 usable clusters (R142), and none of the clusters bound
is degraded, disabled or retired (R59). -/
def State.gangFit (s : State) (q : Nat) : Bool :=
  (s.gang q).all (fun d => s.dieFloorOk d && (vbindList (s.rd (Reg.seqVbind d))).all (fun i => s.clusterUsable (16 * d + i)))

/-- The SEQ_VBIND value of 15 physical indices, valid (R140). -/
def vbindWord (l : List Nat) : W64 := BitVec.ofNat 64 (l.zipIdx.foldl (fun a p => a + p.1 * 16 ^ p.2) (2 ^ 63))

/-- Whether a binding of die `d` is one to one and uses usable clusters only (R59, R137). -/
def State.bindingOk (s : State) (d : Nat) (l : List Nat) : Bool :=
  decide (l.length = 15) && decide l.Nodup && l.all (fun i => decide (i < 16) && s.clusterUsable (16 * d + i))

/-- The binding of a die (R137, R138): each pin honoured, the other virtual clusters on the remaining usable clusters in ascending
order. -/
def bindDie (usable : List Nat) (pins : List (Nat × Nat)) : List Nat :=
  let free := usable.filter (fun i => !(pins.map Prod.snd).contains i)
  ((List.range 15).foldl (fun (r : List Nat × List Nat) j =>
    match pins.find? (fun p => p.1 = j) with
    | some p => (r.1 ++ [p.2], r.2)
    | none => (r.1 ++ [r.2.head?.getD 0], r.2.tail)) ([], free)).1

/-- The binding of a die for a restore (R124, R142): what is bound to a usable cluster stays, and a spare of the die takes each other
place. -/
def State.rebind (s : State) (d : Nat) : List Nat :=
  bindDie (s.usableOf d) ((vbindList (s.rd (Reg.seqVbind d))).zipIdx.filterMap (fun x =>
    if s.clusterUsable (16 * d + x.1) then some (x.2, x.1) else none))

/-- The virtual index j that physical cluster `c` is bound to on its die. -/
def State.boundIndex (s : State) (c : Nat) : Option Nat :=
  let v := s.rd (Reg.seqVbind (c / 16))
  if bitOf v 63 then (List.range 15).find? (fun j => fld v (4 * j + 3) (4 * j) = c % 16) else none

/-- The exception and ECC counters of a cluster set to 0 (R234, R238). -/
def State.clearClusterCounters (s : State) (c : Nat) : State :=
  let s := s.each (List.range 16) (fun s x => s.wr (Reg.cluExc c x) 0)
  let s := s.each (List.range 192) (fun s x => s.wr (Reg.cluCellExc c (x / 12) (x % 12)) 0)
  ((s.wr (Reg.cluEccCe c) 0).wr (Reg.cluEccUe c) 0).wr (Reg.cluEccLast c) 0

end Sys2Proof.Machine
end

