-- ==== Sys2Proof/Machine/SeqCmds.lean ====
section
/-!
DEFINITION. The commands of the sequencers (03_recipe_execution.md): start, hold, abort, binding, steps, bundles, releases of
freezes, context switching and ending.
-/
namespace Sys2Proof.Machine

/-- The partition goes on where a freeze ended. -/
def State.resume (s : State) (q : Nat) : State := (s.unfreeze q).seqGoOn q

/-- The sequencer state at the start of a recipe: registers 0 but s16 to s31, loops, tokens, orders and configurations cleared
(R105, R112, R165, R169, R209); the recipe buffer and the image stay. -/
def Seq.fresh (z : Seq) : Seq :=
  let regs := Tbl.run 16 z.args
  { sregs := regs, before := regs, frames := z.frames, buffer := z.buffer, image := z.image, imageOff := z.imageOff,
    imageLen := z.imageLen, args := z.args }

/-- RECIPE_START (R153): the loaded recipe starts at step 0 (R98, R155 to R157, R433), where the floor lets it (R59, R142). DESIGN CHOICE:
SEQ_FAULT_STEP and SEQ_FAULT_PC start at 0 with the counters; R155 and R157 do not name them. -/
def startRecipe (q : Nat) (s : State) : State :=
  if s.leadOf q = q ∧ s.seqState q = 1 ∧ s.gangFit q then
    let s := s.updSeq q Seq.fresh
    let s := ((s.wr (Reg.seqStep q) 0).wr (Reg.seqPc q) 0).wr (Reg.seqCommits q) 0
    let s := ((s.wrF (Reg.seqFault q) 31 31 0).wr (Reg.seqFaultStep q) 0).wr (Reg.seqFaultPc q) 0
    let s := s.each (List.range 11) (fun s x => s.wr (Reg.seqStall q x) 0)
    let s := ({ s with clxs := s.clxs.upd q (fun c => { c with counters := [], failedNo := [] }) } : State).wrF (Reg.clxLast q) 32 32 0
    (s.setSeqState q 2 0).wrB (Reg.seqCtrl q) 0 false
  else s

/-- RECIPE_START. -/
def execRecipeStart (q : Fin 4) (s : State) : Result := .next (startRecipe q s)

/-- SEQ_CTRL.hold_req set or cleared (R120, R153): clearing it at a held commit point lets the COMMIT bundle issue. -/
def setHold (q : Nat) (on : Bool) (s : State) : State :=
  if s.leadOf q ≠ q then s
  else
    let s := s.wrB (Reg.seqCtrl q) 1 on
    if !on ∧ (s.seq q).freeze = .hold then (s.updSeq q (fun z => { z with passed := true })).resume q else s

/-- SEQ_HOLD_REQ. -/
def execSeqHoldReq (q : Fin 4) (on : Bool) (s : State) : Result := .next (setHold q on s)

/-- SEQ_CTRL.abort (R127, R153): the recipe stops with fault 0x08 at the current step. -/
def abortRecipe (q : Nat) (s : State) : State :=
  if s.leadOf q = q ∧ s.canStop q then (s.wrB (Reg.seqCtrl q) 2 true).stopRecipe q { code := 0x08 } else s

/-- SEQ_ABORT. -/
def execSeqAbort (q : Fin 4) (s : State) : Result := .next (abortRecipe q s)

/-- Whether the partition of a die may not be rebound now (R141): running, frozen, switching, or at a commit point without a
saved context. -/
def State.bindingLocked (s : State) (d : Nat) : Bool :=
  let q := s.leadOf d
  let st := s.seqState q
  st == 2 || st == 3 || st == 5 || (st == 4 && (s.saved.get q).isNone)

/-- SEQ_VBIND_WRITE (R141): only the SCH writes; a write while the partition runs is ignored and records 0x80C; with H.Q off
it answers an address error (R22). Virtual clusters
newly bound start with their counters clear (R238 says so of a load; the write itself clears nothing). -/
def execSeqVbindWrite (ag : Agent) (d : Fin 4) (v : W64) (s : State) : Result :=
  .next (s.csrAccess ag (Reg.seqVbind d) 8 true (fun s =>
    if ag ≠ .sch ∨ s.bindingLocked d then s.refuseWrite ag
    else s.wr (Reg.seqVbind d) (v &&& ~~~ fldMask 62 60)))

/-- STEP (R98): one CK_C cycle of a partition. -/
def execStep (q : Fin 4) (ecc : List MemUpset) (s : State) : Result := .next ((s.upset ecc).cycle q)

/-- BUNDLE_ISSUE (R102, R197): the bundle due is handled. -/
def execBundleIssue (q : Fin 4) (ecc : List MemUpset) (s : State) : Result :=
  .next (let s := s.upset ecc; if s.bundleDue q then s.handleBundle q else s)

/-- PAGE_LOADED (R132): the missing page is loaded and the bundle handled, or the load faults. -/
def execPageLoaded (q : Fin 4) (ecc : List MemUpset) (s : State) : Result :=
  .next (
    let s := s.upset ecc
    match (s.seq q).freeze with
    | .page p =>
      let s := s.readPage q p
      match s.loadPage q p with
      | .loaded cells =>
        ((s.placePage q p cells).updSeq q (fun z => { z with fetched := z.fetched ++ [p] })).resume q
      | r => s.pageFault q r
    | _ => s)

/-- WAITING_SLOT_ISSUE (R109): the first waiting slot of a ready engine issues. -/
def execWaitingSlotIssue (q : Fin 4) (cls u k : Nat) (ecc : List MemUpset) (s : State) : Result :=
  .next (
    let s := s.upset ecc
    if s.running q ∧ !s.bundleDue q then State.stopIf (s.issueWaiting q cls u k) q else s)

/-- WAIT_RELEASE (R115, R116): no token of the set is pending; the bundle issues, or stops on a failed token. -/
def execWaitRelease (q : Fin 4) (ecc : List MemUpset) (s : State) : Result :=
  .next (
    let s := s.upset ecc
    match (s.seq q).freeze with
    | .wait ts =>
      if ts.any (s.seq q).isPending then s
      else match (s.seq q).lowestFailed ts with
        | some t => s.stopRecipe q { code := 0x03, token := t }
        | none => s.resume q
    | _ => s)

/-- TOKEN_REUSE_RELEASE (R113): the token has left pending and the bundle is handled again. -/
def execTokenReuseRelease (q : Fin 4) (ecc : List MemUpset) (s : State) : Result :=
  .next (
    let s := s.upset ecc
    match (s.seq q).freeze with
    | .reuse ts => if ts.any (s.seq q).isPending then s else s.resume q
    | _ => s)

/-- The four conditions of R119. -/
def State.quiescent (s : State) (q : Nat) : Bool :=
  (s.seq q).inFlight.isEmpty && (s.seq q).engines.all (fun e =>
    !e.2.order.running && e.2.chain.isNone && e.2.waiting.isEmpty)

/-- COMMIT_QUIESCE (R119, R120): with no token pending a failed token or a failed condition stops the recipe; otherwise the
partition is at a commit point, and its bundle issues unless hold_req holds it. -/
def commitQuiesce (q : Nat) (s : State) : State :=
  if (s.seq q).freeze ≠ .commit ∨ (s.seq q).pendingTokens ≠ [] then s
  else match (s.seq q).lowestFailed (List.range 256) with
    | some t => s.stopRecipe q { code := 0x03, token := t }
    | none =>
      if !s.quiescent q then s.stopRecipe q { code := 0x04 }
      else
        let s := s.count (Reg.seqCommits q) 1
        if s.rdB (Reg.seqCtrl q) 1 then s.freezeOn q .hold 4 9
        else (s.updSeq q (fun z => { z with passed := true })).resume q

/-- COMMIT_QUIESCE. -/
def execCommitQuiesce (q : Fin 4) (ecc : List MemUpset) (s : State) : Result := .next (commitQuiesce q (s.upset ecc))

/-! ### Contexts (R121 to R125) -/

/-- The bytes and checks of a partition's stores by virtual address: virtual cluster u from u * 0x2000000 on. -/
def State.storeImage (s : State) (q : Nat) : List (Nat × Byte) × Tbl W32 :=
  let us := List.range (15 * (s.gang q).length)
  (us.flatMap (fun u =>
    let a := clusterStore (s.physCluster q u)
    (s.mem.filter (fun e => a ≤ e.1 ∧ e.1 < a + 0x2000000)).map (fun e => (e.1 - a + u * 0x2000000, e.2))),
   us.flatMap (fun u =>
    let a := clusterStore (s.physCluster q u) / 4096
    ((List.range 8192).filterMap (fun t => if s.tileDiff (a + t) = 0 then none else some (u * 8192 + t, s.tileDiff (a + t))))))

/-- The stores of a partition written from a saved image, at the binding in force; words in error are gone. -/
def State.loadStores (s : State) (q : Nat) (cells : List (Nat × Byte)) (syn : Tbl W32) : State :=
  s.each (List.range (15 * (s.gang q).length)) (fun s u =>
    let a := clusterStore (s.physCluster q u)
    { s with
      mem := (Tbl.clear s.mem a (a + 0x2000000)).addAll
        ((cells.filter (fun e => e.1 / 0x2000000 = u)).map (fun e => (e.1 % 0x2000000 + a, e.2)))
      syn := (Tbl.clear s.syn (a / 4096) (a / 4096 + 8192)).addAll
        ((syn.filter (fun e => e.1 / 8192 = u)).map (fun e => (e.1 % 8192 + a / 4096, e.2)))
      wordErr := (Tbl.clear s.wordErr (a / 8) (a / 8 + 0x400000)).clearRange (checkKey (a / 4096), checkKey (a / 4096 + 8192)) })

/-- Bytes of a cluster's stores in a context-save region: the cluster store and its 16 cell stores. -/
def shareBytes : Nat := 0x1800000

/-- The address by virtual cluster of a byte at offset `off` of the share of the die of rank `e`. DESIGN CHOICE: the manual lays out no
context-save region; the share of virtual cluster 15 e + j starts at j * 24 MiB. -/
def shareAddr (e off : Nat) : Nat := (15 * e + off / shareBytes) * 0x2000000 + off % shareBytes

@[inherit_doc shareAddr]
def shareOffset (a : Nat) : Nat := a / 0x2000000 % 15 * shareBytes + a % 0x2000000

/-- The stores of a saved context go into the context-save regions of the gang's dies (R123, R250), each die's share into its own. -/
def State.saveRegions (s : State) (q : Nat) (cells : List (Nat × Byte)) (syn : Tbl W32) : State :=
  s.each (s.gang q).zipIdx (fun s d =>
    let x := 4 + d.1
    if !s.rdB (Reg.hubDescW0 x) 0 then s
    else
      let s := s.each (s.slabsOf x) (fun s y => s.zeroRange (dpaOfFrame (s.slabFrame y)) 0x200000)
      let mine := fun (u : Nat) => decide (u / 15 = d.2)
      { s with
        mem := Tbl.addAll s.mem ((cells.filter (fun c => mine (c.1 / 0x2000000))).filterMap (fun c =>
          (s.slabDpa (s.descHandle x) (shareOffset c.1)).map (fun a => (a, c.2))))
        syn := s.syn.addAll ((syn.filter (fun c => mine (c.1 / 8192))).filterMap (fun c =>
          (s.slabDpa (s.descHandle x) (shareOffset (c.1 * 4096))).map (fun a => (a / 4096, c.2)))) })

/-- Offset in its handle of the byte at offset `o` of slab `k`, for stripe width `w` (R257). -/
def offsetInHandle (w k o : Nat) : Nat := ((k / w * 512 + o / 4096) * w + k % w) * 4096 + o % 4096

/-- The stores that the context-save regions of a gang hold, by virtual address, each tile as its stack delivers it (R243, R649). -/
def State.regionImage (s : State) (q : Nat) : List (Nat × Byte) × Tbl W32 :=
  let parts := (s.gang q).zipIdx.flatMap (fun d =>
    (List.range (s.descSlabs (4 + d.1))).map (fun k =>
      (d.2, s.descStripe (4 + d.1), k, dpaOfFrame (s.slabFrame (s.descBase (4 + d.1) + k)))))
  let inShare := fun (off : Nat) => decide (off < 15 * shareBytes)
  (parts.flatMap (fun p => (s.mem.filter (fun c => p.2.2.2 ≤ c.1 ∧ c.1 < p.2.2.2 + 0x200000)).filterMap (fun c =>
    let off := offsetInHandle p.2.1 p.2.2.1 (c.1 - p.2.2.2)
    if inShare off then some (shareAddr p.1 off, c.2) else none)),
   parts.flatMap (fun p => (List.range 512).filterMap (fun t =>
    let off := offsetInHandle p.2.1 p.2.2.1 (4096 * t)
    let diff := s.tileDiff (p.2.2.2 / 4096 + t)
    if inShare off ∧ diff ≠ 0 then some (shareAddr p.1 off / 4096, diff) else none)))

/-- The lines of the context-save regions of a gang are read (R243). -/
def State.readRegions (s : State) (q : Nat) : State :=
  s.each ((s.gang q).flatMap (fun d => s.slabsOf (4 + d))) (fun s y => s.readLines (dpaOfFrame (s.slabFrame y)) 0x200000)

/-- The stores that a restore brings back: from the regions, which exist from the end of the boot on (R250), or from the saved record. -/
def State.savedStores (s : State) (q : Nat) (ctx : Context Seq) : List (Nat × Byte) × Tbl W32 :=
  if (s.gang q).all (fun d => s.rdB (Reg.hubDescW0 (4 + d)) 0) then s.regionImage q else (ctx.store, ctx.syn)

/-- The SCH saves a held context (R122, R123): the frozen cycles of the save count under cause 10. -/
def saveContext (q cycles : Nat) (s : State) : State :=
  if (s.seq q).freeze ≠ .hold then s
  else
    let s := s.count (Reg.seqStall q 10) cycles
    let img := s.storeImage q
    let ctx : Context Seq :=
      { seq := { s.seq q with frames := [], buffer := [] }, store := img.1, syn := img.2, step := s.rd (Reg.seqStep q),
        pc := s.rd (Reg.seqPc q), commits := s.rd (Reg.seqCommits q),
        stalls := (List.range 11).map (fun x => s.rd (Reg.seqStall q x)), counters := (s.clxs.get q).counters }
    let s := s.saveRegions q img.1 img.2
    (({ s with saved := s.saved.set q (some ctx) } : State).updSeq q (fun z => { z with freeze := .switch })).setSeqState q 6 0

/-- CONTEXT_SAVE. -/
def execContextSave (q : Fin 4) (cycles : Nat) (s : State) : Result := .next (saveContext q cycles s)

/-- The SCH restores a saved context (R124, R155, R157), with a binding for each die of the gang: the recipe buffer is empty,
the registers and stores are as saved, and the COMMIT bundle issues at the next step. The frozen cycles of the restore count
under cause 10. -/
def restoreContext (q cycles : Nat) (binds : List (List Nat)) (s : State) : State :=
  let st := s.seqState q
  let ds := s.gang q
  match s.saved.get q with
  | none => s
  | some ctx =>
    if (st = 0 ∨ st = 1 ∨ st = 6 ∨ st = 7 ∨ st = 8) ∧ binds.length = ds.length ∧ (ds.zip binds).all (fun b => s.bindingOk b.1 b.2) then
      let s := s.each (ds.zip binds) (fun s b => s.wr (Reg.seqVbind b.1) (vbindWord b.2))
      let s := s.readRegions q
      let img := s.savedStores q ctx
      let s := s.loadStores q img.1 img.2
      let s := ((s.wr (Reg.seqStep q) ctx.step).wr (Reg.seqPc q) ctx.pc).wr (Reg.seqCommits q) ctx.commits
      let s := s.each ctx.stalls.zipIdx (fun s v => s.wr (Reg.seqStall q v.2) v.1)
      let s := (s.count (Reg.seqStall q 10) cycles).wrF (Reg.seqFault q) 31 31 0
      let s := { s with clxs := s.clxs.upd q (fun c => { c with counters := ctx.counters }) }
      let s := s.updSeq q (fun _ => { ctx.seq with freeze := .no, frozen := 0, passed := true })
      (s.setSeqState q 2 0).seqGoOn q
    else s

/-- CONTEXT_RESTORE. -/
def execContextRestore (q : Fin 4) (cycles : Nat) (binds : List (List Nat)) (s : State) : Result :=
  .next (restoreContext q cycles binds s)

/-- END_DRAIN (R126): with no token pending the END bundle issues, or stops on a failed token. -/
def execEndDrain (q : Fin 4) (ecc : List MemUpset) (s : State) : Result :=
  .next (
    let s := s.upset ecc
    match (s.seq q).freeze with
    | .drain _ =>
      if (s.seq q).pendingTokens ≠ [] then s
      else match (s.seq q).lowestFailed (List.range 256) with
        | some t => s.stopRecipe q { code := 0x03, token := t }
        | none => s.resume q
    | _ => s)

/-- PREFETCH_DONE (R133): the load of a prefetch ends; its token is done when the page is resident, and failed when the load
failed. A prefetch that waits for the executing page does not load. DESIGN CHOICE (R133): whether a prefetch waits is decided when it
issues and when the PC moves on; one already loading when the PC enters the page that its frame holds does not stop, and takes the frame. -/
def execPrefetchDone (q : Fin 4) (tok : BitVec 8) (ecc : List MemUpset) (s : State) : Result :=
  .next (
    let s := s.upset ecc
    match (s.seq q).prefetches.find? (fun p => p.token = tok.toNat ∧ !p.waits) with
    | none => s
    | some p =>
      let s := s.updSeq q (fun z => { z with prefetches := z.prefetches.filter (fun x => x.token ≠ p.token) })
      let s := s.readPage q p.page
      match s.loadPage q p.page with
      | .loaded cells => (s.placePage q p.page cells).tokenPart q tok.toNat true
      | .badTile off => (s.checkFailedHandle 6 (s.seq q).image off (some (s.partOfDie q))).tokenPart q tok.toNat false
      | .noHandle => s.tokenPart q tok.toNat false)

/-- CLU_COUNTER_CLEAR (R234, R236). -/
def execCluCounterClear (ag : Agent) (c : Fin 64) (s : State) : Result :=
  .next (s.csrAccess ag (Reg.cluCntCtrl c) 4 true (fun s => s.clearClusterCounters c))

end Sys2Proof.Machine
end

