-- ==== Sys2Proof/Machine/Host.lean ====
section
/-!
DEFINITION. The operations of the host interface (12_host_interface.md; 13_firmware_mailboxes.md R550 to R554): functions, the capture
ring, doorbells, queues and completions, orphaning, negotiation, function resets.
-/
namespace Sys2Proof.Machine

/-! ### Functions and events (R490, R526) -/

/-- Whether the device has reported ready (R611, R638). -/
def State.ready (s : State) : Bool := s.rdF Reg.pmcBoot 3 0 == 11

/-- fstate of a function (R498). -/
def State.fstate (s : State) (h f : Nat) : Nat := s.rdF (Reg.hifEmuStatus h f) 2 0

/-- Sets fstate. -/
def State.setFstate (s : State) (h f x : Nat) : State := s.wrF (Reg.hifEmuStatus h f) 2 0 x

/-- An event of class 0x9 of a function (R671). -/
def State.fnEvent (s : State) (name h f item : Nat) (addr : Nat := 0) : State := s.hostEvent name h f item addr (s.fnPart h f)

/-- A device-initiated host transfer has failed (R514): 1 error completion, 2 poisoned completion, 3 completion timeout. -/
def State.hostFailed (s : State) (h f reason addr : Nat) : State := s.fnEvent 0x90A h f reason addr

/-- Sets qerr as the queues have it (R498). -/
def State.syncQerr (s : State) (h f : Nat) : State :=
  s.wrB (Reg.hifEmuStatus h f) 4 ((List.range 16).any (fun q => ((s.fn h f).queues.get q).error))

/-- A queue pair. -/
def State.queue (s : State) (h f q : Nat) : HostQueue := (s.fn h f).queues.get q

/-- Changes a queue pair, with live and error of QSTAT (R499). -/
def State.updQueue (s : State) (h f q : Nat) (g : HostQueue → HostQueue) : State :=
  let s := s.updFn h f (fun x => { x with queues := x.queues.upd q g })
  let k := s.queue h f q
  ((s.wrB (Reg.hifEmuQstat h f q) 0 k.live).wrB (Reg.hifEmuQstat h f q) 1 k.error).syncQerr h f

/-! ### Completions (R504, R506, R517) -/

/-- Bytes of a completion entry (R504). -/
def Completion.bytes (c : Completion) (phase : Bool) : List Byte :=
  leBytes 2 (if c.kind = 1 then 0 else c.id) ++ leBytes 1 c.q ++ leBytes 1 c.kind ++ leBytes 2 c.status ++ leBytes 1 (b2n phase)
    ++ leBytes 1 0 ++ leBytes 8 c.result.toNat

/-- The queue that a completion goes to: its own when live, else queue 0 (R519). -/
def State.cplQueue (s : State) (h f : Nat) (c : Completion) : Nat := if (s.queue h f c.q).live then c.q else 0

/-- Whether a completion ring holds no free entry: one entry stays free, so that equal indices mean an empty ring. -/
def HostQueue.full (k : HostQueue) : Bool :=
  let n := 16 * 2 ^ k.cqLog
  decide ((k.next + 1) % n = k.head % n)

/-- Writes a completion to its ring, and then raises the vector (R504): the phase inverts at the end of the ring. -/
def State.writeCpl (s : State) (h f : Nat) (c : Completion) : State :=
  let q := s.cplQueue h f c
  let k := s.queue h f q
  let s := s.hostOut (HostOut.write h f (k.cqBase + BitVec.ofNat 64 (16 * k.next)) (c.bytes k.phase)
    :: (if k.irq then [.vector h f k.vector] else []))
  let last := decide (k.next + 1 = 16 * 2 ^ k.cqLog)
  s.updQueue h f q (fun k => { k with next := if last then 0 else k.next + 1, phase := if last then !k.phase else k.phase })

/-- Whether a completion can be written now. -/
def State.cplFits (s : State) (h f : Nat) (c : Completion) : Bool :=
  let k := s.queue h f (s.cplQueue h f c)
  k.live && !k.full

/-- Delivers a completion (R506, R517): an orphaned driver's is kept for ADOPT or DISCARD, one that finds its ring full or others
waiting is buffered, and one beyond 65,536 is discarded and counted. -/
def State.complete (s : State) (h f : Nat) (old : Bool) (c : Completion) : State :=
  let x := s.fn h f
  let keep := x.orphan && (old || s.fstate h f != 1)
  if 65536 ≤ x.buffer.length + x.orphaned.length ∧ (keep ∨ !x.buffer.isEmpty ∨ !s.cplFits h f c) then
    s.updFn h f (fun x => { x with record := { x.record with discarded := x.record.discarded + 1 } })
  else if keep then s.updFn h f (fun x => { x with orphaned := x.orphaned ++ [c] })
  else if !x.buffer.isEmpty || !s.cplFits h f c then s.updFn h f (fun x => { x with buffer := x.buffer ++ [c] })
  else s.writeCpl h f c

/-- Buffered completions go to their rings, oldest first, while they fit (R506); the fuel bounds their number. -/
def State.drainCpl (s : State) (h f : Nat) : Nat → State
  | 0 => s
  | fuel + 1 =>
    match (s.fn h f).buffer with
    | [] => s
    | c :: rest =>
      if s.cplFits h f c then State.drainCpl ((s.updFn h f (fun x => { x with buffer := rest })).writeCpl h f c) h f fuel else s

/-! ### Commands (R503, R505, R507) -/

/-- Opcode of a command. -/
def HostCmd.op (c : HostCmd) : Nat := bodyNat c.entry 0 1
/-- Command ID. -/
def HostCmd.id (c : HostCmd) : Nat := bodyNat c.entry 2 2
/-- Fence bit. -/
def HostCmd.fence (c : HostCmd) : Bool := natBit (bodyNat c.entry 1 1) 0
/-- A parameter of `n` bytes at an offset of the entry. -/
def HostCmd.par (c : HostCmd) (off n : Nat) : Nat := bodyNat c.entry off n
/-- Whether the command is complete. -/
def HostCmd.isDone (c : HostCmd) : Bool := match c.stage with | .done _ _ => true | _ => false

/-- Which functions a command is for. -/
inductive CmdOn where
  | all | vf | pf
deriving DecidableEq, Repr, Inhabited

/-- The opcodes of R507, R561 and 14_security_partitions.md: functions, and the byte ranges of the parameters used. -/
def cmdTable : Nat → Option (CmdOn × List (Nat × Nat))
  | 0x01 => some (.all, [])
  | 0x10 => some (.vf, [(8, 14), (16, 27)])
  | 0x11 => some (.vf, [(8, 10)])
  | 0x12 => some (.vf, [(8, 10), (16, 23)])
  | 0x13 => some (.vf, [(8, 11), (16, 35)])
  | 0x20 => some (.vf, [(8, 10), (16, 23)])
  | 0x21 => some (.vf, [(8, 15)])
  | 0x22 => some (.vf, [])
  | 0x23 => some (.vf, [])
  | 0x24 => some (.vf, [])
  | 0x30 => some (.all, [(8, 15)])
  | 0x31 => some (.vf, [])
  | 0x32 => some (.vf, [])
  | 0x40 => some (.pf, [(8, 11)])
  | 0x41 => some (.pf, [(8, 15), (16, 19)])
  | 0x42 => some (.pf, [(8, 9)])
  | 0x43 => some (.pf, [(8, 9), (12, 15)])
  | 0x44 => some (.pf, [(8, 15), (16, 19)])
  | 0x45 => some (.pf, [])
  | 0x46 => some (.pf, [])
  | 0x47 => some (.pf, [(8, 10), (16, 23)])
  | 0x48 => some (.vf, [(8, 15)])
  | 0x49 => some (.vf, [(8, 11), (16, 23)])
  | 0x4A => some (.vf, [(8, 9), (12, 27), (32, 39)])
  | 0x4B => some (.vf, [(8, 8)])
  | 0x4C => some (.pf, [(8, 11)])
  | 0x4D => some (.pf, [(8, 15)])
  | _ => none

/-- Whether the bytes of an entry that must be 0 are 0 (R503). -/
def HostCmd.clean (c : HostCmd) (used : List (Nat × Nat)) : Bool :=
  decide (bodyNat c.entry 1 1 ≤ 1) &&
    (c.entry.zipIdx).all (fun b => decide (b.2 < 4) || b.1 == 0 || used.any (fun r => decide (r.1 ≤ b.2 ∧ b.2 ≤ r.2)))

/-- A command starts (R507, R524): it is refused at once by a limited PF0, for an unknown opcode, on the wrong function, or for bytes that
must be 0; else it is carried out by the command of its name. -/
def State.startStage (s : State) (h f : Nat) (c : HostCmd) : CmdStage :=
  if s.fstate h f = 5 then .done 3 0
  else match cmdTable c.op with
    | none => .done 1 0
    | some (on, used) =>
      if (on = .vf ∧ f = 0) ∨ (on = .pf ∧ f ≠ 0) ∨ (f ≠ 0 ∧ (s.fnPart h f).isNone) then .done 2 0
      else if !c.clean used then .done 1 0
      else if c.op = 0x40 ∧ ¬ (1 ≤ c.par 8 1 ∧ c.par 8 1 ≤ 4) then .done 1 0
      else .started

/-- The first commands of a queue that wait start in fetch order, up to a fence that must still wait (R505). -/
def State.startQueue (s : State) (h f q : Nat) : State :=
  let r := (s.fn h f).cmds.foldl (fun (acc : List HostCmd × Bool) c =>
    if c.q ≠ q ∨ c.stage ≠ .waiting ∨ acc.2 then (acc.1 ++ [c], acc.2)
    else if c.fence && (acc.1.any (fun d => d.q == q && !d.isDone)) then (acc.1 ++ [c], true)
    else (acc.1 ++ [{ c with stage := s.startStage h f c }], false)) ([], false)
  s.updFn h f (fun x => { x with cmds := r.1 })

/-- The first command of a function with an opcode that a predicate admits and that has started. -/
def State.startedCmd (s : State) (h f op : Nat) (ok : HostCmd → Bool := fun _ => true) : Option HostCmd :=
  (s.fn h f).cmds.find? (fun c => c.stage = .started ∧ c.op = op ∧ ok c)

/-- A command takes a new stage. -/
def State.setStage (s : State) (h f : Nat) (c : HostCmd) (st : CmdStage) : State :=
  s.updFn h f (fun x => { x with cmds := (x.cmds.foldl (fun (acc : List HostCmd × Bool) d =>
    if !acc.2 && d == c then (acc.1 ++ [{ d with stage := st }], true) else (acc.1 ++ [d], acc.2)) ([], false)).1 })

/-- A command is complete. -/
def State.finish (s : State) (h f : Nat) (c : HostCmd) (status : Nat) (result : W64 := 0) : State :=
  s.setStage h f c (.done status result)

/-- Whether the partition map can be used: with an unusable one no command of a partition starts (R576). -/
def State.mapOk (s : State) : Bool := s.cpOk Reg.secPartMap

/-- Carries out the started command of an opcode: with its partition, for a virtual function. -/
def State.withCmd (s : State) (h f op : Nat) (g : State → HostCmd → Nat → State) (ok : HostCmd → Bool := fun _ => true) : State :=
  let s := { s with answer := .none }
  match s.startedCmd h f op ok with
  | none => s
  | some c =>
    if f = 0 then g s c 0
    else match s.fnPart h f with
      | some p => if s.mapOk then g s c p else s
      | none => s

/-- A running RUN or HOLD that has come to its end (R507): RUN when its recipe has ended or stopped, HOLD when it is held at a commit
point, or when no recipe is left to hold. -/
def State.cmdEnd (s : State) (h f : Nat) (c : HostCmd) : Option (Nat × W64) :=
  match c.stage, s.fnPart h f with
  | .running, some p =>
    let st := s.seqState p
    if c.op = 0x21 then
      if st = 7 then some (0, s.rd (Reg.seqStep p))
      else if st = 8 then some (if s.rdF (Reg.seqFault p) 7 0 = 8 then 0xD else 0xC, s.rd (Reg.seqFault p))
      else none
    else if c.op = 0x22 then
      if st = 4 ∧ (s.seq p).freeze = .hold then some (0, s.rd (Reg.seqStep p))
      else if st = 2 ∨ st = 3 ∨ st = 4 ∨ st = 5 then none
      else some (6, 0)
    else none
  | _, _ => none

/-- Running commands that have come to their end are complete; it is looked at before anything could hide that end. -/
def State.settleCmds (s : State) : State :=
  s.each (List.range 10) (fun s i =>
    let h := i / 5
    let f := i % 5
    s.updFn h f (fun x => { x with cmds := x.cmds.map (fun c =>
      match s.cmdEnd h f c with
      | some (st, r) => { c with stage := .done st r }
      | none => c) }))

/-- A completed command that may be posted is posted or buffered, in fetch order; fenced ones behind it may then start. -/
def State.postOne (s : State) (h f : Nat) : State :=
  match (s.fn h f).cmds.find? HostCmd.isDone with
  | some c =>
    (match c.stage with
    | .done st r =>
      let s := s.updFn h f (fun x => { x with cmds := x.cmds.erase c })
      (s.complete h f c.old { q := c.q, id := c.id, status := st, result := r }).startQueue h f c.q
    | _ => s)
  | none => s

/-! ### The capture ring (R491, R492, R551 to R554) -/

/-- Registers of the captured entry of an index: words 0 and 1. -/
def capWord (h i k : Nat) : Nat := Reg.hifCapEntry h (i % 4096) k

/-- Offset, function, width flag and void flag of a captured entry, and its value (R552). -/
def State.capEntry (s : State) (h i : Nat) : Nat × Nat × Bool × Bool × W64 :=
  let w := s.rd (capWord h i 0)
  (fld w 47 32, fld w 50 48, bitOf w 51, bitOf w 52, s.rd (capWord h i 1))

/-- Captured and not consumed indices, oldest first. -/
def State.unconsumed (s : State) (h : Nat) : List Nat :=
  let c := s.rdF (Reg.hifCapCons h) 31 0
  let p := s.rdF (Reg.hifCapProd h) 31 0
  (List.range (min 4096 (sub32 p c))).map (fun i => (c + i) % 2 ^ 32)

/-- The offsets of BAR0 that a function has, by 4-byte word (R496). -/
def bar0Word (f off : Nat) : Bool :=
  let within := fun (lo hi : Nat) => decide (lo ≤ off) && decide (off < hi)
  off == 0 || within 0x40 0x60 || within 0x80 0x88 || off == 0x100
    || (within 0x200 0x600 && decide ((off - 0x200) % 0x40 < 0x18))
    || (within 0x800 0xA00 && decide (off % 0x10 < 0xC))
    || within 0x1000 0x1158 || off == 0x2004 || within 0x2010 0x2018 || within 0x3000 0x3640
    || (f != 0 && (off == 0x4000 || off == 0x5FF8)) || within 0x4008 0x5800 || within 0x6000 0x7000
    || within 0x7000 0x7008 || within 0x7010 0x7018 || within 0x7F00 0x7F08 || within 0x8000 0x8100 || within 0xC000 0xC040

/-- Whether a BAR0 access is well formed (R491, R494). -/
def bar0Ok (f off : Nat) (wide : Bool) : Bool :=
  let n := if wide then 8 else 4
  decide (off % n = 0) && decide (off + n ≤ 0x10000) && (bar0Word f off || (wide && bar0Word f (off + 4)))

/-- A doorbell takes effect (R495, R502, R553): the register takes its value, and a ready function's queue its tail or head. -/
def State.bell (s : State) (h f : Nat) (b : HeldBell) : State :=
  let s := s.wr (if b.head then Reg.hifDbCq h f b.q else Reg.hifDbSq h f b.q) (BitVec.ofNat 64 (b.value % 2 ^ 32))
  let k := s.queue h f b.q
  if s.fstate h f ≠ 1 ∨ !k.live then s
  else if b.head then
    if b.value < 16 * 2 ^ k.cqLog then
      (s.updQueue h f b.q (fun k => { k with head := b.value })).drainCpl h f (s.fn h f).buffer.length
    else s
  else if k.error then s
  else if b.value < 16 * 2 ^ k.sqLog then s.updQueue h f b.q (fun k => { k with tail := b.value })
  else (s.updQueue h f b.q (fun k => { k with error := true })).fnEvent 0x909 h f b.q

/-- Whether a capture index lies below another, over the 4,096 most recent indices (R551). -/
def capBelow (a b : Nat) : Bool := decide (0 < sub32 b a) && decide (sub32 b a ≤ 4096)

/-- Held doorbells whose captured write has been consumed take effect, in arrival order (R495). -/
def State.releaseBells (s : State) (h f : Nat) : State :=
  let x := s.fn h f
  let limit := match x.parked with | p :: _ => p.1 | [] => s.rdF (Reg.hifCapCons h) 31 0
  let due := x.bells.takeWhile (fun b => capBelow b.tag limit)
  let s := s.updFn h f (fun x => { x with bells := x.bells.drop due.length })
  s.each due (fun s b => s.bell h f b)

/-- The books of a consumed write of a function (R553). -/
def State.consumed (s : State) (h f i : Nat) : State :=
  let s := s.wr (Reg.hifFnDone h f) (BitVec.ofNat 64 i)
  let s := s.wrF (Reg.hifCapPend h f) 9 0 (s.rdF (Reg.hifCapPend h f) 9 0 - 1)
  s.wrF (Reg.hifEmuStatus h f) 31 16 (i % 2 ^ 16)

/-- The unconsumed captured writes of a function are void, and its held doorbells are dropped (R554). -/
def State.voidWrites (s : State) (h f : Nat) : State :=
  let is := (s.unconsumed h).filter (fun i => (s.capEntry h i).2.1 = f)
  let s := s.each is (fun s i => s.wrB (capWord h i 0) 52 true)
  (s.wrF (Reg.hifCapPend h f) 9 0 0).updFn h f (fun x => { x with bells := [], parked := [] })

/-! ### Orphaning (R516 to R519) -/

/-- Bit q: queue q of a function is live. -/
def State.liveMask (s : State) (h f : Nat) : Nat :=
  ((List.range 16).map (fun q => if (s.queue h f q).live then 2 ^ q else 0)).foldl (· + ·) 0

/-- A ready function becomes orphaned (R516, R517): its unconsumed writes and doorbells are discarded, its windows go off, its recipe
is held at the next commit point, and completions wait. -/
def State.orphanFn (s : State) (h f cause : Nat) : State :=
  if s.fstate h f ≠ 1 then s
  else
    let s := s.settleCmds
    let live := s.liveMask h f
    let s := (s.voidWrites h f).updFn h f (fun x => { x with
      orphan := true
      beating := false
      orphaned := x.orphaned ++ x.buffer
      buffer := []
      cmds := x.cmds.map (fun c => { c with old := true })
      record := { cause := cause, count := x.record.count + 1, time := s.rcd.opTime, live := live } })
    let s := (s.setFstate h f 2).fnEvent 0x903 h f cause
    let s := s.each (List.range 32) (fun s w => s.wrF (Reg.hifEmuWinStat h f w) 1 0 0)
    match s.fnPart h f with
    | some p =>
      let st := s.seqState p
      s.cond (st == 2 || st == 3 || st == 4) (setHold p true)
    | none => s

/-- The orphan record (R518). -/
def State.orphanBytes (s : State) (h f : Nat) : List Byte :=
  let x := s.fn h f
  if x.record.count = 0 then leBytes 64 0
  else
    let p := s.fnPart h f
    let st := match p with | some p => (s.rd (Reg.seqStatus p)).toNat | none => 0
    let step := match p with
      | some p => if s.seqState p = 4 ∧ (s.seq p).freeze = .hold then (s.rd (Reg.seqStep p)).toNat else 0
      | none => 0
    leBytes 4 x.record.cause ++ leBytes 4 x.record.count ++ leBytes 8 x.record.time ++ leBytes 4 st
      ++ leBytes 4 (x.buffer.length + x.orphaned.length) ++ leBytes 4 x.record.discarded ++ leBytes 4 x.record.live
      ++ leBytes 8 step ++ leBytes 24 0

/-- An orphaned function's work is adopted (R519): buffered completions are delivered in order, and the hold is cleared. -/
def State.adopt (s : State) (h f : Nat) : State :=
  let l := (s.fn h f).orphaned
  let s := s.updFn h f (fun x => { x with orphan := false, orphaned := [], buffer := l ++ x.buffer, cmds := x.cmds.map (fun c => { c with old := false }) })
  let s := s.drainCpl h f ((s.fn h f).buffer.length)
  let s := match s.fnPart h f with | some p => setHold p false s | none => s
  (s.cond (s.fstate h f == 2) (fun s => s.setFstate h f 1)).fnEvent 0x904 h f 0

/-- An orphaned function's work is discarded (R519): the recipe aborts with fault 0x08, and the buffered completions are gone. -/
def State.discardOrphan (s : State) (h f : Nat) : State :=
  let s := s.updFn h f (fun x => { x with orphan := false, orphaned := [], cmds := x.cmds.map (fun c => { c with old := false }) })
  let s := match s.fnPart h f with
    | some p => (abortRecipe p s).wrB (Reg.seqCtrl p) 1 false
    | none => s
  (s.cond (s.fstate h f == 2) (fun s => s.setFstate h f 1)).fnEvent 0x905 h f 0

/-! ### Negotiation (R523 to R525, R614) -/

/-- A go is answered, or waits until the device is ready. -/
def State.negotiate (s : State) (h f : Nat) : State :=
  if !s.ready then (s.wrF (Reg.hifEmuNegstat h f) 1 0 1).updFn h f (fun x => { x with asked := true })
  else
    let s := (s.updFn h f (fun x => { x with asked := false })).wrB (Reg.hifEmuDrvver h f) 31 false
    let v := s.rd (Reg.hifEmuDrvver h f)
    let fw := s.rd (Reg.hifEmuFwver h f)
    let major := fld v 7 0
    if major < fld fw 7 0 ∨ fld fw 15 8 < major then
      ((s.wr (Reg.hifEmuNegstat h f) 3).cond (s.fstate h f != 2) (fun s => s.setFstate h f 0)).fnEvent 0x908 h f 1
    else
      let acc := s.rd (Reg.hifEmuDrvfeat h f) &&& Config.offered f &&& 0xF
      let secOk := f != 0 || decide (fld v 23 16 = fld fw 23 16)
      let s := s.wr (Reg.hifEmuAccfeat h f) acc
      let s := s.wr (Reg.hifEmuNegstat h f) (setFld (setFld 2 2 2 (b2n (f == 0 && secOk))) 15 8 major)
      let s := (s.setFstate h f (if secOk then 1 else 5)).wrF (Reg.hifEmuHb h f) 18 16 0
      let s := s.updFn h f (fun x => { x with beating := false, resetHeld := x.resetHeld && !secOk })
      let s := s.cond (!secOk) (fun s => s.fnEvent 0x908 h f 2)
      s.cond ((s.fn h f).orphan && !bitOf acc 1) (fun s => s.discardOrphan h f)

/-! ### Captured writes applied (R496 to R500, R524) -/

/-- QCTRL takes a value (R499, R502): enable set creates the queue pair, empty; enable clear deletes it. A live pair takes only a new
vector and irq_en, and a ring above its largest size is not created. -/
def State.setQctrl (s : State) (h f q : Nat) (v : W64) : State :=
  let s := s.wr (Reg.hifEmuQctrl h f q) (v &&& fldMask 15 0)
  let k := s.queue h f q
  if !bitOf v 15 then (s.updQueue h f q (fun _ => {})).wrF (Reg.hifEmuQstat h f q) 31 16 0
  else if k.live then s.updQueue h f q (fun k => { k with vector := fld v 13 8, irq := bitOf v 14 })
  else if 12 < fld v 3 0 ∨ 12 < fld v 7 4 then s
  else
    (s.updQueue h f q (fun _ => {
      live := true
      sqLog := fld v 3 0
      cqLog := fld v 7 4
      vector := fld v 13 8
      irq := bitOf v 14
      sqBase := s.rd (Reg.hifEmuSqBase h f q) &&& ~~~ fldMask 5 0
      cqBase := s.rd (Reg.hifEmuCqBase h f q) &&& ~~~ fldMask 3 0 })).wrF (Reg.hifEmuQstat h f q) 31 16 0

/-- A BAR4 window takes a value (R500, R594): in force, off, or refused. -/
def State.setWindow (s : State) (h f w : Nat) (v : W64) : State :=
  let s := s.wr (Reg.hifEmuWin h f w) (v &&& ~~~ fldMask 31 28)
  let hd := fld v 23 0
  let st := match fld v 25 24 with
    | 0 => 0
    | 1 => (match s.fnPart h f with
      | some p => if s.handleOwned (.host p) hd && !s.stackSide.sealed.contains (handleIndex hd) then 1 else 2
      | none => 2)
    | 2 => if f = 0 then 1 else 2
    | _ => 2
  s.wrF (Reg.hifEmuWinStat h f w) 1 0 st

/-- DPA of a word of a function's shadow (R550). -/
def shadow (h f off : Nat) : Nat := Blk.hif + 0x100000 * h + 0x20000 + 0x10000 * f + off

/-- One 32-bit half of a captured write takes effect (R496, R553). -/
def State.applyHalf (s : State) (h f off : Nat) (v : W32) : State :=
  let st := s.fstate h f
  if st = 5 ∧ ¬ (off = 0x44 ∨ off = 0x8000) then s
  else if st = 2 ∧ ¬ (0x40 ≤ off ∧ off < 0x60) then s
  else if off = 0x80 then s.cond (v.getLsbD 3) (fun s => (s.wrB (Reg.hifCapCtrl h) (8 + f) false).wrB (Reg.hifEmuStatus h f) 3 false)
  else if off = 0x100 ∧ ¬ (100 ≤ v.toNat % 2 ^ 16 ∧ v.toNat % 2 ^ 16 ≤ 10000) then s
  else if off = 0x44 then
    let s := s.wr (Reg.hifEmuDrvver h f) ((v.setWidth 64) &&& (fldMask 23 0 ||| fldMask 31 31))
    if v.getLsbD 31 then s.negotiate h f else s
  else
    match findReg (shadow h f off) with
    | none => s
    | some (d, a, _) =>
      let k := shadow h f off - a
      let w := d.write (s.rd a) ((v.setWidth 64) <<< (8 * k)) (accessMask k 4)
      if 0x200 ≤ off ∧ off < 0x600 ∧ (off - 0x200) % 0x40 = 0x10 then s.setQctrl h f ((off - 0x200) / 0x40) w
      else if 0x800 ≤ off ∧ off < 0xA00 ∧ off % 0x10 < 8 then s.setWindow h f ((off - 0x800) / 0x10) w
      else s.wr a w

/-- A captured write takes effect. -/
def State.applyWrite (s : State) (h f off : Nat) (wide : Bool) (v : W64) : State :=
  let s := s.applyHalf h f off (v.setWidth 32)
  if wide then s.applyHalf h f (off + 4) ((v >>> 32).setWidth 32) else s

/-! ### Resets of functions (R520 to R522) -/

/-- The function's queues, windows and shadow registers as at reset, fstate 3 (R520); its incarnation counts on (R528). -/
def State.fnReset (s : State) (h f : Nat) : State :=
  let s := (s.voidWrites h f).agentStart (0x60 + 8 * h + f)
  let ver := s.rd (Reg.hifEmuFwver h f)
  let lo := shadow h f 0x40
  let s := { s with csr := (s.csr.clear lo (shadow h f 0x80)).clear (shadow h f 0x100) (shadow h f 0xA00) }
  let s := s.wr (Reg.hifEmuFwver h f) ver
  let s := (s.wrF (Reg.hifEmuHb h f) 15 0 0x3E8).wrF (Reg.hifEmuHb h f) 18 16 0
  let s := s.updFn h f (fun x => { x with queues := [], asked := false, resetHeld := true, beating := false })
  (s.updHport h (fun p => { p with master := p.master.set f false })).setFstate h f 3 |>.syncQerr h f

/-- An FLR of a function (R516, R520). -/
def State.flr (s : State) (h f : Nat) : State :=
  let s := s.settleCmds
  let part := s.fnPart h f
  let s := s.orphanFn h f 2
  let s := match part with
    | some p => s.cond (s.host.policies.get p).abortOnFlr (abortRecipe p)
    | none => s
  (s.fnEvent 0x906 h f 0).fnReset h f

/-- Whether a function is quiescent (R520): every fetched command other than RUN is complete, and no host transfer of its partition
is outstanding but those held. -/
def State.fnQuiet (s : State) (h f : Nat) : Bool :=
  (s.fn h f).cmds.all (fun c => c.isDone || c.op == 0x21 || c.stage == .waiting)

/-- Quiescence (R521): the function goes to disabled, or back to orphaned, and the captured writes that were held are consumed in
order. -/
def State.quiesceFn (s : State) (h f : Nat) : State :=
  let l := (s.fn h f).parked
  let s := (s.setFstate h f (if (s.fn h f).orphan then 2 else 0)).updFn h f (fun x => { x with parked := [] })
  let s := s.each l (fun s e => (s.applyWrite h f e.2.1 e.2.2.1 e.2.2.2).consumed h f e.1)
  s.releaseBells h f

end Sys2Proof.Machine
end

