-- ==== Sys2Proof/Machine/Slots.lean ====
section
/-!
DEFINITION. The key slots of the security core and what a loaded package leaves there (14_security_partitions.md R577, R590, R593,
R597, R605).
-/
namespace Sys2Proof.Machine

/-- State of key slot `k` (R605). -/
def State.slotState (s : State) (k : Nat) : Nat := s.rdF (Reg.secKslot k) 1 0

/-- Handle that key slot `k` is bound to. -/
def State.slotHandle (s : State) (k : Nat) : Nat := s.rdF (Reg.secKslot k) 31 8

/-- SEC_PART_STATE.slots as the key slots are (R577). -/
def State.syncSlots (s : State) (k : Nat) : State :=
  s.wrB (Reg.secPartState (k / 4)) (16 + k % 4) (decide (s.slotState k ≠ 0))

/-- SEC_KSLOT of slot `k` takes a value. -/
def State.setSlot (s : State) (k : Nat) (v : W64) : State := (s.cpCommit (Reg.secKslot k) v).syncSlots k

/-- The key of slot `k` is erased, and a load under way in it ends. -/
def State.eraseKey (s : State) (k : Nat) : State :=
  { s with sec := { s.sec with keys := s.sec.keys.set k none, loads := s.sec.loads.set k none } }

/-- A keyed or failed slot becomes empty (R597): event 0x708 names it. -/
def State.emptySlot (s : State) (k : Nat) : State :=
  if s.slotState k = 0 then s else ((s.eraseKey k).setSlot k 0).event 0x708 .none k (some (k / 4))

/-- A slot fails (R596, R605): its key is erased. -/
def State.failSlot (s : State) (k : Nat) : State := (s.eraseKey k).setSlot k (setFld (s.rd (Reg.secKslot k)) 1 0 2)

/-- The ephemeral key of a partition is destroyed (R588). -/
def State.dropEph (s : State) (p : Nat) : State := { s with sec := { s.sec with eph := s.sec.eph.set p none } }

/-- Bytes of a handle region through the hub (R243, R267, R647): their lines are read and their tiles counted, and they come
with the offset of the first tile that fails its check; none when some tile does not translate. -/
def State.hubRead (s : State) (h off n : Nat) : State × Option (List Byte × Option Nat) :=
  let s := s.readExtent h off n
  (s, s.handleRead h off n)

/-- Bytes enter a handle region through the hub (R647), with checks made from them. -/
def State.hubWrite (s : State) (h off : Nat) (bs : List Byte) : State :=
  let s := s.heatExtent h off bs.length
  (s.handleWrite h off bs).getD s

/-- Whether a user may use an extent of a handle now, every piece of it translating to a pseudo-channel not retired. -/
def State.hubOk (s : State) (u : HandleUser) (h off n : Nat) (write : Bool) : Bool :=
  s.handleOk u h off n write && s.extentOk u h off n write

/-- A handle is destroyed (R261, R594, R597): its descriptor is no longer valid, and a slot that it was bound to becomes
empty; its frames follow once no request through it is outstanding. -/
def State.destroyHandle (s : State) (x : Nat) : State :=
  let h := s.descHandle x
  let s := s.cpCommit (Reg.hubDescW0 x) (setBit (s.rd (Reg.hubDescW0 x)) 0 false)
  let s := s.updStacks (fun k => { k with dying := k.dying ++ [x] })
  s.each (List.range 16) (fun s k => s.cond (s.slotState k != 0 && s.slotHandle k == h) (fun s => s.emptySlot k))

end Sys2Proof.Machine
end

