-- ==== Sys2Proof/Machine/BbxCmds.lean ====
section
/-!
DEFINITION. The commands of the breadboxes, of the signals and of the recorder clear (13_firmware_mailboxes.md R528, R536 to R547,
R549; 16_integrity_faults_recorder.md R666, R667).
-/
namespace Sys2Proof.Machine

/-! ### Agents and breadboxes -/

/-- AGENT_START (R528): an agent whose domain is on starts. -/
def execAgentStart (ag : Agent) (s : State) : Result :=
  .next (
    let s := { s with answer := .none }
    let on := match ag with
      | .none => false
      | .sec | .pmc => true
      | .sch | .fab => s.domOn 24
      | .ccc c => s.domOn (clusterDomain c)
      | .bdc n => s.domOn (stackDomain n)
      | .host h f => s.fnPresent h f
    s.cond on (fun s => s.agentStart ag.num))

/-- Whether an agent may write the data words of a breadbox, or send, now (R536, R538). -/
def State.boxOpenTo (s : State) (b a : Nat) : Bool :=
  boxPermits b a && !s.boxGo b && (!boxShared b || s.boxOwner b == a)

/-- BBX_DATA_WRITE (R536): a write that is not permitted is ignored with event 0x808. -/
def execBbxDataWrite (ag : Agent) (b : Fin 64) (i : Fin 16) (v : W32) (s : State) : Result :=
  .next (s.csrAccess ag (Reg.bbxData b i) 4 true (fun s =>
    if s.boxOpenTo b ag.num then s.wr (Reg.bbxData b i) (v.setWidth 64) else s.event 0x808 .none b (agent := ag.num)))

/-- BBX_SEND (R538): a write with go = 0 is ignored, and a refused send records event 0x808. -/
def execBbxSend (ag : Agent) (b : Fin 64) (v : W32) (s : State) : Result :=
  .next (s.csrAccess ag (Reg.bbxSend b) 4 true (fun s =>
    let w : W64 := v.setWidth 64
    if !bitOf w 0 then s
    else if s.boxOpenTo b ag.num && decide (fld w 5 1 ≤ 16) then s.boxFill b ag.num (fld w 5 1) (fld w 31 16)
    else s.event 0x808 .none b (agent := ag.num)))

/-- BBX_RECEIVE_CLEAR (R536, R539): the receiver writes BBX_STATUS; 1 in go empties the breadbox. -/
def execBbxReceiveClear (ag : Agent) (b : Fin 64) (v : W32) (s : State) : Result :=
  .next (s.csrAccess ag (Reg.bbxStatus b) 4 true (fun s =>
    if ag.num ≠ boxReceiver b ∨ !v.getLsbD 0 then s
    else if s.boxGo b then s.boxEmpty b
    else s.wrF (Reg.bbxStatus b) 2 1 0))

/-- BBX_LOCK_READ (R540): a free peel becomes the reader's; on a breadbox that has none the register is RSV. -/
def execBbxLockRead (ag : Agent) (b : Fin 64) (s : State) : Result :=
  .next (s.csrAccess ag (Reg.bbxLock b) 4 false (fun s =>
    if !boxShared b then { s with answer := .data 0 }
    else
      let s := s.cond (s.boxOwner b == 0) (fun s => s.wrF (Reg.bbxStatus b) 15 8 ag.num)
      { s with answer := .data (if s.boxOwner b = ag.num then 0 else BitVec.ofNat 64 (s.boxOwner b)) }))

/-- BBX_LOCK_RELEASE (R540): the owner writes 0x00. -/
def execBbxLockRelease (ag : Agent) (b : Fin 64) (v : W32) (s : State) : Result :=
  .next (s.csrAccess ag (Reg.bbxLock b) 4 true (fun s =>
    s.cond (boxShared b && s.boxOwner b == ag.num && v.toNat % 256 == 0) (fun s => s.wrF (Reg.bbxStatus b) 15 8 0)))

/-- BBX_HDR_READ (R543): the stored header is returned; `bad`: header and companion disagree at this read. -/
def execBbxHdrRead (ag : Agent) (b : Fin 64) (bad : Bool) (s : State) : Result :=
  .next (s.csrAccess ag (Reg.bbxHdr b) 8 false (fun s =>
    let s := s.cond bad (fun s => { s with cpBad := s.cpBad.set (Reg.bbxHdr b) true })
    let s := s.hdrRead b ag.num
    { s with answer := .data (s.rd (Reg.bbxHdr b)) }))

/-! ### Signals (R546, R547) -/

/-- Posts the signals of a partition. -/
def State.postSignals (s : State) (p : Nat) : State :=
  let b := 16 + p
  let l := s.rd (Reg.bbxSigAccLocal p)
  let r := s.rd (Reg.bbxSigAccRemote p)
  if s.boxGo b || (l == 0 && r == 0) then s
  else
    let s := (s.wr (Reg.bbxSigAccLocal p) 0).wr (Reg.bbxSigAccRemote p) 0
    s.boxPost b 0 1 [fld l 31 0, fld l 63 32, fld r 31 0, fld r 63 32]

/-- SIGNAL_POST (R546). -/
def execSignalPost (p : Fin 4) (s : State) : Result := .next (({ s with answer := .none } : State).postSignals p)

/-- SIGNAL_DELIVER (R547): each set that is not 0 goes to queue 0 of the partition's function when feature bit 0 is accepted; go is
cleared. -/
def execSignalDeliver (p : Fin 4) (s : State) : Result :=
  .next (
    let s := { s with answer := .none }
    let b := 16 + p.val
    let h := s.partPort p
    let f := p.val + 1
    if !s.boxGo b then s
    else
      let set := fun (i : Nat) => BitVec.ofNat 64 (s.boxData b i + s.boxData b (i + 1) * 2 ^ 32)
      let send := fun (s : State) (i : Nat) => if set (2 * i) = 0 then s
        else s.complete h f false { q := 0, id := 0, kind := 1, status := i, result := set (2 * i) }
      let s := s.cond (s.partExists p && s.rdB (Reg.hifEmuAccfeat h f) 0) (fun s => send (send s 0) 1)
      s.boxEmpty b)

/-! ### Saves (R549) -/

/-- SAVE_TIMEOUT (R549): a partition asked to save has reached no commit point within 1 s: it is reported as not quiescent, its
context is not saved, and it runs on. -/
def execSaveTimeout (p : Fin 4) (s : State) : Result :=
  .next (
    let s := { s with answer := .none }
    if natBit s.pwr.saving p ∧ s.seqState p ≠ 6 then
      let s := { s with pwr := { s.pwr with saving := s.pwr.saving - 2 ^ p.val, notQuiet := s.pwr.notQuiet ||| 2 ^ p.val } }
      s.cond (!natBit s.pwr.heldBefore p) (setHold p false)
    else s)

/-! ### The recorder clear (R666, R667) -/

/-- SEC_NONCE takes fresh random words (R606). -/
def State.newNonce (s : State) : State :=
  { s with sec := { s.sec with nonceAt := s.fresh }, fresh := s.fresh + 8 }

/-- Word `i` of SEC_NONCE. -/
def State.nonceWord (s : State) (i : Nat) : W64 := Config.freshWord (s.sec.nonceAt + i)

/-- The 64 bytes of SEC_NONCE. -/
def State.nonceBytes (s : State) : List Byte := (List.range 8).flatMap (fun i => leBytes 8 (s.nonceWord i).toNat)

/-- The bytes of an ASCII string. -/
def asciiBytes (t : String) : List Byte := t.toList.map (fun c => BitVec.ofNat 8 c.toNat)

/-- Whether an authorisation block carries the enrolled owner key and its signature over a message (R600, R666). -/
def State.ownerSigned (s : State) (blk msg : List Byte) : Bool :=
  decide (blk.length = 7219) && sha3_512 (blk.take 2592) == s.config.record.ownerDigest
    && Config.mldsaVerify (blk.take 2592) msg (blk.drop 2592)

/-- The ring is erased, and event 0x70F goes before the queued events (R667). -/
def State.clearRecorder (s : State) (h : Nat) : State :=
  let n := s.rcd.ring.length
  let top := s.rcd.newest
  let e : Event := { name := 0x70F, detail := setFld (setFld 0 31 0 n) 63 32 top }
  ({ s with rcd := { s.rcd with
      flash := []
      crust := none
      clearing := some h
      queue := { ev := e, time := s.rcd.opTime } :: s.rcd.queue } } : State).newNonce

/-- RECORDER_CLEAR_REQUEST (R666): the SEC takes PF0's request and answers it once the breadbox of its answer is empty; `host` is the
authorisation block as the host answers the read of it. -/
def execRecorderClearRequest (h : Fin 2) (host : HostData) (s : State) : Result :=
  .next (
    let s := { s with answer := .none }
    let b := 48 + 2 * h.val
    if !s.boxHolds b 0x0A01 || s.boxGo (b + 1) then s
    else
      let addr := s.boxData b 0 + s.boxData b 1 * 2 ^ 32
      let enrolled := s.config.record.ownerEnrolled
      let msg := asciiBytes "KZN4810-RECCLR" ++ s.nonceBytes ++ leBytes 8 s.fuses.serial.toNat
      let ok := !enrolled || (decide (addr ≠ 0) && host.ok && s.ownerSigned host.data msg)
      let busy := s.rcd.clearing.isSome
      let s := s.cond (!busy && enrolled && decide (addr ≠ 0) && !host.ok) (fun s => s.hostEvent 0x90A h 0 host.reason addr none)
      let s := if busy then s else if ok then s.clearRecorder h else s.event 0x710 (.hostPort h) h
      (s.boxEmpty b).boxPost (b + 1) 1 0x8A01 [if busy then 2 else if ok then 0 else 1])

end Sys2Proof.Machine
end

