-- ==== Sys2Proof/Machine/Links.lean ====
section
/-!
DEFINITION. The link layer of a port: frames out and in, acknowledgements, credits, replay, retirement, training and quiet
mode (08_links.md R340 to R371).
-/
namespace Sys2Proof.Machine

/-! ### Sending (R340, R344, R345, R349) -/

/-- N0 of the next frame of a port: acknowledgement and, when one is due, a credit return (R342, R349, R411). -/
def Port.linkWord (k : Port) (ftype vc lsn : Nat) (nak : Bool) : LinkWord :=
  let w : LinkWord := { lsn := lsn, ackLsn := (k.rxLsn + 65535) % 65536, ackV := k.rxAny, nak := nak, vc := vc, ftype := ftype }
  match k.returns with
  | [] => w
  | (a, n) :: _ =>
    if a < 7 then { w with crV := true, crVc := a, crUnits := n }
    else { w with crV := true, crVc := 7, crUnits := (a - 8) / 2 * 64 + (a - 8) % 2 * 32 + n }

/-- A frame leaves for the peer, and a switch to lane 0 or back that was due takes place at its end (R357, R358). -/
def State.putFrame (s : State) (p : Nat) (f : Frame) : State :=
  let b := f.bytes (s.rdF (Reg.prtPeerMac p) 47 0) (s.rdF (Reg.prtMac p) 47 0) (s.rdF (Reg.prtEtype p) 15 0)
  let s := ((s.updPort p (fun k => { k with returns := k.returns.drop 1 })).wire (.frame p b)).count (Reg.prtTxFrames p) 1
  let d := (s.port p).switchDue
  if d = 0 then s
  else
    let s := (s.updPort p (fun k => { k with switchDue := 0, waking := false, wakeSent := false, wakeGot := false })).wrB
      (Reg.prtStatus p) 5 (d == 1)
    s.wrB (Reg.prtStatus p) 7 false

/-- The link control frame with a code, and the argument in N1 above the code and in N2 (R344). -/
def Port.control (k : Port) (code arg1 arg2 : Nat) (nak : Bool) : Frame :=
  { link := k.linkWord 1 0 0 nak, n1 := code + 256 * arg1, n2 := arg2 }

/-- A port sends a frame to its peer. A WAKE_REQ that came during quiet entry is served when the entry ends (R358), and a wake that this
end wants goes out then (R359). -/
def State.sendFrame (s : State) (p : Nat) (f : Frame) : State :=
  let s := s.putFrame p f
  let k := s.port p
  if k.wakeWanted && k.switchDue == 0 && s.rdB (Reg.prtStatus p) 5 then
    let s := (s.updPort p (fun k => { k with wakeWanted := false, waking := true })).wrB (Reg.prtStatus p) 7 true
    s.putFrame p ((s.port p).control 4 0 0 false)
  else if k.wakeLate && k.switchDue == 0 then
    let s := s.updPort p (fun k => { k with wakeLate := false, waking := true, wakeSent := true })
    (s.wrB (Reg.prtStatus p) 7 true).putFrame p ((s.port p).control 5 0 0 false)
  else s

/-- A port sends a link control frame; a host-network port carries none (R365). -/
def State.sendControl (s : State) (p code arg1 arg2 : Nat) (nak : Bool := false) : State :=
  if s.isHn p then s else s.sendFrame p ((s.port p).control code arg1 arg2 nak)

/-- RESYNC with the next lsn that this end will send: that of the oldest unacknowledged frame, or the next new one. -/
def State.sendResync (s : State) (p : Nat) : State :=
  let k := s.port p
  s.sendControl p 6 0 (match k.replay with | [] => k.txLsn | f :: _ => f.lsn)

/-- Bytes in the replay buffer (R345). -/
def Port.replayBytes (k : Port) : Nat := (k.replay.map (fun f => frameBytes f.q.pkt)).foldl (· + ·) 0

/-! ### Retirement, discard and circuits (R348, R354, R387, R485) -/

/-- Every unacknowledged frame is discarded and counted; each of the request class gives a LOSS notice (R348, R387). -/
def State.discardReplay (s : State) (p : Nat) : State :=
  let l := (s.port p).replay
  let s := (s.updPort p (fun k => { k with replay := [], replays := [] })).count (Reg.prtHoldDiscard p) l.length
  s.each l (fun s f => s.lossNotice f.q.pkt)

/-- A port leaves state up, or never reaches it: what is known of the peer is gone, the width is none, and PRT_CTRL's bits of a training
that has ended are clear (R368). -/
def State.portLeaves (s : State) (p lst : Nat) : State :=
  let s := (s.wrF (Reg.prtStatus p) 2 0 lst).wrF (Reg.prtStatus p) 4 3 3
  let s := ((s.wrF (Reg.prtStatus p) 7 5 0).wrB (Reg.prtPeer p) 63 false).wrF (Reg.prtCtrl p) 6 4 0
  s.updPort p (fun k => { k with
    phase := 0, wasDown := true, quietAsked := false, waking := false, wakeSent := false, wakeGot := false, switchDue := 0,
    wakeLate := false, wakeWanted := false, peerMask := none })

/-- The packets that the router had queued for a port go back to be routed again (R386). -/
def State.requeue (s : State) (p : Nat) : State :=
  let l := (s.port p).out
  let s := s.updPort p (fun k => { k with out := [] })
  s.updRouter (fun r => { r with inject := l ++ r.inject })

/-- A port is retired for the causes of R652, in the order of R354 and R485. -/
def State.retirePort (s : State) (p : Nat) (causes : List Nat) : State :=
  if s.lstate p = 6 ∨ causes = [] then s
  else
    let s := s.each causes (fun s c => s.event 0x406 (.port p) c)
    let s := (s.discardReplay p).sendControl p 8 0 0
    let s := (s.portLeaves p 6).wrF (Reg.prtCtrl p) 6 4 0
    let s := s.updPort p (fun k => { k with downRuns := false, checkDue := true, unretire := false })
    let s := (s.tearPort p).requeue p
    (s.neutralSwap p).report 0x406 p (causes.headD 0)

/-! ### Replay (R347, R652) -/

/-- Replays the frames not acknowledged: each keeps its lsn, header words and payload. More than 16 replays of one frame
within 200 µs, or 64 of the port within 1 ms, retire the port (R652, R653). -/
def State.replayAll (s : State) (p now : Nat) : State :=
  let k := s.port p
  let within := fun (l : List Nat) (t : Nat) => l.filter (fun x => decide (now < x + t))
  let fs := k.replay.map (fun f => { f with replays := within f.replays 200000 ++ [now] })
  let ps := within k.replays 1000000 ++ List.replicate fs.length now
  let s := (s.updPort p (fun k => { k with replay := fs, replays := ps })).count (Reg.prtReplays p) fs.length
  let s := s.each fs (fun s f => s.sendFrame p (f.q.pkt.frame ((s.port p).linkWord 0 f.q.vc f.lsn false)))
  s.retirePort p ((if fs.any (fun f => decide (16 < f.replays.length)) then [1] else [])
    ++ (if 64 < ps.length then [2] else []))

/-! ### Receiving (R343 to R349) -/

/-- An acknowledgement releases the frames up to ack_lsn from the replay buffer (R345). -/
def State.takeAck (s : State) (p : Nat) (l : LinkWord) : State :=
  if l.ackV && (s.port p).replay.any (fun f => f.lsn == l.ackLsn) then
    s.updPort p (fun k => { k with replay := (k.replay.dropWhile (fun f => f.lsn ≠ l.ackLsn)).drop 1 })
  else s

/-- A credit return (R349, R411). -/
def State.takeCredit (s : State) (p : Nat) (l : LinkWord) : State :=
  if l.crV then
    if l.crVc = 7 then
      let a := 8 + 2 * (l.crUnits / 64 % 64) + l.crUnits / 32 % 2
      s.updPort p (fun k => { k with owed := k.owed.upd a (· - l.crUnits % 32) })
    else s.updPort p (fun k => { k with owed := k.owed.upd l.crVc (· - l.crUnits) })
  else s

/-- What the link word of a frame brings: acknowledgements, credits and a request to replay (R342, R345, R347, R349). -/
def State.takeLink (s : State) (p now : Nat) (l : LinkWord) : State :=
  let s := (s.takeAck p l).takeCredit p l
  if l.nak then s.replayAll p now else s

/-- The receiver sends a NAK unless one is outstanding (R346). -/
def State.sendNak (s : State) (p now : Nat) : State :=
  let k := s.port p
  let due := match k.nakAt with
    | some t => decide (t + s.rdF (Reg.prtRetry p) 15 0 ≤ now)
    | none => true
  if due then
    ((s.updPort p (fun k => { k with nakAt := some now })).sendControl p 1 0 0 true).count (Reg.prtNaks p) 1
  else s

/-- A frame dropped under the checks of R343. -/
def State.dropFrame (s : State) (p : Nat) : State := s.count (Reg.prtRxDrop p) 1

/-! ### Training (R350 to R354) -/

/-- Whether a port's domain is on and its module is there (R350). -/
def State.portReady (s : State) (p : Nat) : Bool := s.domOn (portDomain p) && (s.port p).present && (s.port p).settled

/-- Whether a port may train (R350). -/
def State.mayTrain (s : State) (p : Nat) : Bool := s.portReady p && decide (s.lstate p ≠ 6)

/-- Whether the pin LNKp_MODSEL_N of a port is driven low (R334): its link group is on and it is not retired. -/
def State.modselLow (s : State) (p : Nat) : Bool := s.domOn (portDomain p) && decide (s.lstate p ≠ 6)

/-- A port begins to retrain for the n-th reason of R353; link-layer state stays and RESYNC follows. DEDUCED: the cause in the detail of
0x403 is that number, as the example of 16_integrity_faults_recorder.md has 2 for the second reason. -/
def State.startRetrain (s : State) (p reason : Nat) : State :=
  let s := ((s.event 0x403 (.port p) reason).wrF (Reg.prtStatus p) 2 0 4).wrF (Reg.prtStatus p) 7 5
    (s.rdF (Reg.prtStatus p) 7 5 &&& 2)
  s.updPort p (fun k => { k with
    phase := 1, resyncDue := true, wasDown := true, quietAsked := false, waking := false, wakeSent := false, wakeGot := false,
    switchDue := 0, wakeLate := false, wakeWanted := false, retraining := true })

/-- A port begins to train from the first phase (R350). -/
def State.startTrain (s : State) (p : Nat) : State :=
  (s.wrF (Reg.prtStatus p) 2 0 1).updPort p (fun k => { k with phase := 1, retraining := false })

/-- Whether a neighbour is the one that R338 asks of the port: that of the lowest-numbered up port of its direction, met
with the opposite direction. -/
def State.neighbourFits (s : State) (p : Nat) (f : Lldp) : Bool :=
  let d := s.planEntry p
  let same := match (s.dirPorts d).find? (fun q => s.portUp q) with
    | some q => (match (s.port q).neighbour with | some n => q == p || n.chassis == f.chassis | none => true)
    | none => true
  decide (8 ≤ d) || (decide (f.entry = if d % 2 = 0 then d + 1 else d - 1) && same)

/-- The ports of a direction are judged again when one of them has come up or has another neighbour (R338): a port that does not fit any
more records 0x407 and leaves fabric use; one that fits again may be used. -/
def State.judgeDirection (s : State) (d : Nat) : State :=
  s.each ((s.dirPorts d).filter (fun _ => d < 8)) (fun s p =>
    match (s.port p).neighbour with
    | none => s
    | some f =>
      if s.neighbourFits p f then s.updPort p (fun k => { k with barred := !s.rdB (Reg.prtStatus p) 6 })
      else if (s.port p).barred then s
      else ((s.updPort p (fun k => { k with barred := true })).event 0x407 (.port p)).wrB (Reg.prtCtrl p) 0 false)

/-- A port is up again: 0x40C when it had been down or retired, RESYNC after a retrain or a port reset (R353, R366). -/
def State.portUpNow (s : State) (p : Nat) : State :=
  let k := s.port p
  let s := ((s.wrF (Reg.prtStatus p) 2 0 3).wrF (Reg.prtStatus p) 19 16 0).wrF (Reg.prtCtrl p) 6 4 0
  let s := s.updPort p (fun k => { k with
    phase := 0, checkDue := false, resyncDue := false, unretire := false, wasDown := false, downRuns := false, peerRetired := false })
  let s := s.cond k.wasDown (fun s =>
    (s.event 0x40C (.port p)).cond (decide (s.planEntry p < 8)) (fun s => s.report 0x40C p 0))
  let s := s.cond k.resyncDue (fun s => s.sendResync p)
  (s.cond k.unretire (fun s => s.neutralSwap p)).judgeDirection (s.planEntry p)

/-- Width code of a mask of lanes that pass (R331, R369). -/
def widthOf (mask : Nat) : Nat :=
  if mask % 256 = 255 then 0 else if mask % 16 = 15 then 1 else if mask % 2 = 1 then 2 else 3

/-- The width choice of R352 from the AND of the two masks. A host-network port runs at full or half width only (R362). -/
def State.chooseWidth (s : State) (p mask : Nat) : State :=
  let m := s.rdF (Reg.prtStatus p) 15 8 &&& mask
  let w := widthOf m
  let s := s.updPort p (fun k => { k with laneOk := m, peerMask := none })
  if w = 3 then s.retirePort p [5]
  else if s.isHn p && w == 2 then (s.portLeaves p 5).event 0x405 (.port p)
  else
    let s := (s.wrF (Reg.prtStatus p) 4 3 w).cond (w != 0) (fun s => s.event 0x402 (.port p))
    s.updPort p (fun k => { k with phase := 5 })

/-- The width phase, in training or retraining again (R369): this end's mask goes out in WIDTH; the choice follows when the peer's mask is
there. A host-network
port exchanges no link control frames and chooses from its own mask. -/
def State.startWidth (s : State) (p : Nat) : State :=
  let s := (s.wrF (Reg.prtStatus p) 2 0 (if (s.port p).retraining then 4 else 1)).updPort p (fun k => { k with phase := 4 })
  if s.isHn p then s.chooseWidth p 255
  else
    let s := s.sendControl p 7 (s.rdF (Reg.prtStatus p) 15 8) 0
    match (s.port p).peerMask with
    | some m => s.chooseWidth p m
    | none => s

/-- The address of a port by R356. -/
def portMac (node : Option Nat) (serial : W64) (p : Nat) : W64 :=
  let be := fun (n x : Nat) => (leBytes n x).reverse
  match node with
  | some d => BitVec.ofNat 64 (leNat ([0x02, 0x4B, 0x5A] ++ be 3 (d * 16 + p)))
  | none => BitVec.ofNat 64 (leNat ([0x06] ++ be 5 (serial.toNat % 2 ^ 40)))

/-- Every port's address in force (R356). -/
def State.setMacs (s : State) : State :=
  let n := if s.nodeValid then some s.node else none
  s.each (List.range 16) (fun s p => s.wr (Reg.prtMac p) (portMac n s.fuses.serial p))

/-- Bits that a lane may have corrected in a link check (R351). -/
def linkCheckBits : Nat := 1099511

/-- A link check over: each lane passes or fails with event 0x401; any uncorrectable codeword repeats the check once, and
fails every lane the second time (R351). -/
def State.linkChecked (s : State) (p : Nat) (cbits : List Nat) (ucw : Nat) : State :=
  let s := s.each (List.range 8) (fun s l => s.count (Reg.prtLaneCbits p l) ((cbits[l]?).getD 0))
  let s := s.count (Reg.prtFecUcw p) ucw
  if 0 < ucw ∧ !(s.port p).checkAgain then s.updPort p (fun k => { k with checkAgain := true })
  else
    let good := (List.range 8).filter (fun l => decide (ucw = 0) && decide ((cbits[l]?).getD 0 ≤ linkCheckBits))
    let pass := good.filter (fun l => !natBit s.fuses.laneOff (8 * p + l))
    let fused := (good.filter (fun l => natBit s.fuses.laneOff (8 * p + l))).foldl (fun m l => m + 2 ^ l) 0
    let s := s.wrF (Reg.prtStatus p) 15 8 ((pass.map (2 ^ ·)).foldl (· + ·) 0)
    let s := s.each ((List.range 8).filter (fun l => !pass.contains l)) (fun s l => s.event 0x401 (.port p) (256 * l))
    (s.updPort p (fun k => { k with checkAgain := false, checkDue := false, fusedPass := fused })).startWidth p

/-- Lanes aligned: a retrain that keeps the width is over; else the link check or the width phase follows (R350 to R353). -/
def State.trainAligned (s : State) (p : Nat) (changed : Bool) : State :=
  let k := s.port p
  if k.checkDue || changed then
    (s.wrF (Reg.prtStatus p) 2 0 2).updPort p (fun k => { k with phase := 3, checkAgain := false })
  else if s.lstate p = 4 then s.portUpNow p
  else s.startWidth p

/-! ### Quiet mode (R357 to R359) -/

/-- Whether a circuit goes in or out at a port (R357, R413). -/
def State.portCircuit (s : State) (p : Nat) : Bool :=
  s.circuits.any (fun c => c.1 == p || s.rdF (Reg.rtrCircuit c.1 c.2) 5 1 == p)

/-- Whether the port's own state allows quiet mode: up, no circuit, wider than one lane (R357, R413). -/
def State.quietAble (s : State) (p : Nat) : Bool :=
  s.portUp p && !s.portCircuit p && decide (s.rdF (Reg.prtStatus p) 4 3 < 2)

/-- This end requests quiet mode (R357, R359). -/
def State.askQuiet (s : State) (p : Nat) : State :=
  if s.quietAble p && !s.rdB (Reg.prtStatus p) 5 && !(s.port p).quietAsked then
    (s.updPort p (fun k => { k with quietAsked := true, wakeWanted := false })).sendControl p 2 0 0
  else s

/-- This end requests wake (R358, R359); while its own quiet request or entry is in progress, once that is over. -/
def State.askWake (s : State) (p : Nat) : State :=
  if s.portUp p && !s.rdB (Reg.prtStatus p) 5 && ((s.port p).quietAsked || (s.port p).switchDue == 1) then
    s.updPort p (fun k => { k with wakeWanted := true })
  else if s.portUp p && s.rdB (Reg.prtStatus p) 5 && !(s.port p).waking then
    ((s.updPort p (fun k => { k with waking := true })).wrB (Reg.prtStatus p) 7 true).sendControl p 4 0 0
  else s

/-- Quiet entry is agreed: this end switches at the end of the next frame it sends. -/
def State.quietEntry (s : State) (p : Nat) : State :=
  (s.updPort p (fun k => { k with switchDue := 1, quietAsked := false })).wrB (Reg.prtStatus p) 7 true

/-- A QUIET_REQ arrives (R357): refused or accepted; crossed requests count as one. -/
def State.onQuietReq (s : State) (p : Nat) : State :=
  let ok := s.quietAble p && s.rdB (Reg.prtCtrl p) 2
  let asked := (s.port p).quietAsked
  let s := s.sendControl p 3 (b2n ok) 0
  if asked then s.updPort p (fun k => { k with quietAsked := ok, wakeWanted := k.wakeWanted && ok })
  else s.cond ok (fun s => s.quietEntry p)

/-- A QUIET_ACK arrives (R357). -/
def State.onQuietAck (s : State) (p : Nat) (accept : Bool) : State :=
  if (s.port p).quietAsked then
    if accept then s.quietEntry p else s.updPort p (fun k => { k with quietAsked := false, wakeWanted := false })
  else s

/-- Both WAKE_ACKs are there: this end returns to the negotiated width at the end of the next frame it sends (R358). -/
def State.wakeBoth (s : State) (p : Nat) : State :=
  let k := s.port p
  if k.waking && k.wakeSent && k.wakeGot then s.updPort p (fun k => { k with switchDue := 2 }) else s

/-- A WAKE_REQ arrives (R358): lanes unparked and realigned, WAKE_ACK answered; during quiet entry it waits for the entry's
end. -/
def State.onWakeReq (s : State) (p : Nat) : State :=
  if (s.port p).switchDue = 1 then s.updPort p (fun k => { k with wakeLate := true })
  else if s.rdB (Reg.prtStatus p) 5 then
    let s := (s.wrB (Reg.prtStatus p) 7 true).sendControl p 5 0 0
    (s.updPort p (fun k => { k with waking := true, wakeSent := true })).wakeBoth p
  else s.sendControl p 5 0 0

/-- A WAKE_ACK arrives (R358): the end that has not answered yet does so now. -/
def State.onWakeAck (s : State) (p : Nat) : State :=
  let k := s.port p
  if k.waking then
    let s := s.cond (!k.wakeSent) (fun s => s.sendControl p 5 0 0)
    (s.updPort p (fun k => { k with wakeSent := true, wakeGot := true })).wakeBoth p
  else s

end Sys2Proof.Machine
end

