-- ==== Sys2Proof/Machine/LinkCmds.lean ====
section
/-!
DEFINITION. The commands of the link ports (08_links.md R334 to R365). `now` is the time of a command in nanoseconds.
-/
namespace Sys2Proof.Machine

/-! ### Frames (R343 to R349) -/

/-- LLDP destination address 01-80-C2-00-00-0E, first transmitted byte lowest (R360). -/
def lldpMac : Nat := 0x0E0000C28001

/-- Whether a port takes in frames at all: it trains or is up, its link group's domain being on. -/
def State.portAlive (s : State) (p : Nat) : Bool :=
  s.domOn (portDomain p) && decide (1 ≤ s.lstate p ∧ s.lstate p ≤ 4)

/-- RESYNC arrives: its lsn is the next expected (R348). -/
def State.onResync (s : State) (p lsn : Nat) : State :=
  s.updPort p (fun k => { k with rxLsn := lsn % 65536, nakAt := none })

/-- WIDTH arrives with the peer's lane_pass mask (R352): the width is chosen when this end has sent its own. -/
def State.onWidth (s : State) (p mask : Nat) : State :=
  let s := s.updPort p (fun k => { k with peerMask := some mask })
  if (s.port p).phase = 4 then s.chooseWidth p mask else s

/-- RETIRING arrives: the peer retires the port (R344). -/
def State.onRetiring (s : State) (p : Nat) : State := s.updPort p (fun k => { k with peerRetired := true })

/-- What a link control frame does by its code (R344). -/
def State.onControl (s : State) (p n1 n2 : Nat) : State :=
  match n1 % 256 with
  | 2 => s.onQuietReq p
  | 3 => s.onQuietAck p (natBit n1 8)
  | 4 => s.onWakeReq p
  | 5 => s.onWakeAck p
  | 6 => s.onResync p (n2 % 65536)
  | 7 => s.onWidth p (n1 / 256 % 256)
  | 8 => s.onRetiring p
  | _ => s

/-- A link control frame that has passed the checks of R343 is accepted: its link word, then its code. -/
def State.acceptControl (s : State) (p now : Nat) (l : LinkWord) (n1 n2 : Nat) : State :=
  ((s.count (Reg.prtRxFrames p) 1).takeLink p now l).onControl p n1 n2

/-- A control frame of one code as a command of its own: it acts while the port takes frames in. -/
def State.controlCommand (s : State) (p now : Nat) (l : LinkWord) (n1 n2 : Nat) : State :=
  let s := { s with answer := .none }
  if s.portAlive p && !s.isHn p then s.acceptControl p now l n1 n2 else s

/-- Share group and dateline class of an arriving circuit frame, for its credit: the circuit entry's at this input (R411,
R424). -/
def State.inGroup (s : State) (p : Nat) (q : Packet) : Nat × Nat :=
  let e := s.rd (Reg.rtrCircuit p q.xid)
  (fld e 20 15, fld e 21 21)

/-- Whether a data frame's channel has room for it (R349, R381). -/
def State.hasRoom (s : State) (p : Nat) (x : QPkt) : Bool :=
  let k := s.port p
  let n := frameUnits x.pkt
  if x.vc = 7 then
    decide (((k.used.filter (fun e => decide (8 ≤ e.1))).map Prod.snd).foldl (· + ·) 0 + n ≤ 2176)
  else decide (k.used.get x.vc + n ≤ (vcUnits[x.vc]?).getD 0)

/-- A data frame after checks 1 to 5 of R343: fabric data is taken only with fabric_en on a direction port; then the lsn and
the credit are checked, and the frame is accepted. -/
def State.acceptData (s : State) (p now : Nat) (f : Frame) : State :=
  let k := s.port p
  if !s.rdB (Reg.prtCtrl p) 0 || decide (8 ≤ s.planEntry p) then s.dropFrame p
  else if f.link.lsn ≠ k.rxLsn then (s.dropFrame p).sendNak p now
  else
    let g := if f.link.vc = 7 then s.inGroup p f.packet else (0, 0)
    let x : QPkt := { vc := f.link.vc, grp := g.1, dl := g.2, pkt := f.packet }
    if !s.hasRoom p x then ((s.dropFrame p).event 0x40B (.port p)).sendNak p now
    else
      (s.count (Reg.prtRxFrames p) 1).updPort p (fun k => { k with
        rxLsn := (k.rxLsn + 1) % 65536, rxAny := true, nakAt := none
        used := k.used.upd x.account (· + frameUnits x.pkt), input := k.input ++ [x] })

/-- The checks of R343 on an arriving frame, in order, and what follows. An LLDP frame that passes the first three goes on
as the command LLDP_RECEIVE. -/
def State.receiveFrame (s : State) (p now : Nat) (a : Arrival) : State :=
  let f := Frame.ofBytes a.bytes
  let dst := leNat (a.bytes.take 6)
  let etype := ((a.bytes[12]?).getD 0).toNat * 256 + ((a.bytes[13]?).getD 0).toNat
  let control := f.link.ftype == 1
  if !a.good then (s.dropFrame p).cond (!control) (fun s => s.sendNak p now)
  else if dst ≠ s.rdF (Reg.prtMac p) 47 0 ∧ dst ≠ lldpMac then s.dropFrame p
  else if etype = 0x88CC then s
  else if etype ≠ s.rdF (Reg.prtEtype p) 15 0 then s.dropFrame p
  else if 1 < f.link.ftype ∨ f.link.mbz ≠ 0 then s.dropFrame p
  else if f.plen % 8 ≠ 0 ∨ 8192 < f.plen ∨ a.bytes.length ≠ frameLen f.plen then s.dropFrame p
  else if control then s.acceptControl p now f.link f.n1 f.n2
  else (s.takeLink p now f.link).acceptData p now f

/-- The codeword errors met with a frame count (R372). -/
def State.countCodewords (s : State) (p ucw : Nat) (cbits : List Nat) : State :=
  s.each (List.range 8) (fun s l => s.count (Reg.prtLaneCbits p l) ((cbits[l]?).getD 0)) |>.count (Reg.prtFecUcw p) ucw

/-- FRAME_RECEIVE (R343). -/
def execFrameReceive (p : Fin 16) (now : Nat) (a : Arrival) (s : State) : Result :=
  .next (
    let s := { s with answer := .none }
    if s.portAlive p && !s.isHn p then (s.countCodewords p a.ucw a.cbits).receiveFrame p now a else s)

/-- The frames that a port may send next, in the order of R382: VC M; VC C of a share group below its share; the reply and
request groups in turns, escape ahead of adaptive; other VC C. Each group and class keeps its arrival order (R411). A host-network port
carries neither VC C nor VC M, and honours a pause while pfc_en is set (R363). Without a node ID only VC M goes, to a peer (R375). -/
def State.sendOrder (s : State) (p : Nat) (below : List Nat) : List QPkt :=
  let k := s.port p
  let ok := fun (x : QPkt) => if s.isHn p then decide (1 ≤ x.vc ∧ x.vc ≤ 6) else s.credit p x.account (frameUnits x.pkt)
  let pfc := s.rdB (Reg.prtHnCtrl p) 22
  let of := fun (v : Nat) => ((k.out.filter (fun x => x.vc = v)).head?).toList
  let cs := k.out.filter (fun x => x.vc = 7)
  let heads := cs.filter (fun x => (cs.find? (fun y => y.account = x.account)) == some x)
  let req := if pfc && k.pausedReq then [] else of 2 ++ of 3 ++ of 1
  let rsp := if pfc && k.pausedRsp then [] else of 5 ++ of 6 ++ of 4
  let all := of 0 ++ heads.filter (fun x => below.contains x.grp) ++ (if k.replyLast then req ++ rsp else rsp ++ req) ++ heads
  all.filter (fun x => ok x && (s.nodeValid || (x.vc == 0 && x.pkt.dst == 0xFFFFF)))

/-- The host-network form of a packet (R362 to R364, R419): none when the table has no address for its destination. -/
def State.hnFrame (s : State) (p : Nat) (x : QPkt) : Option HnFrame :=
  ((s.hnEntry x.pkt.dst).filter (fun i => natBit (fld (s.rd (Reg.rtrHnW0 i)) 47 32) p)).map (fun i =>
    let h := Config.flowHash x.pkt.src x.pkt.dst x.pkt.cls
    { mac := s.rdF (Reg.prtHnGw p) 47 0, vid := s.rdF (Reg.prtHnVlan p) 11 0
      pcp := if 4 ≤ x.vc then s.rdF (Reg.prtHnCtrl p) 21 19 else s.rdF (Reg.prtHnCtrl p) 18 16
      ecn := if x.pkt.cmark then 3 else 2
      label := (Config.flowLabel h).toNat
      srcAddr := (s.rd (Reg.prtHnAddr p 1)) ++ (s.rd (Reg.prtHnAddr p 0))
      dstAddr := (s.rd (Reg.rtrHnAddr i 1)) ++ (s.rd (Reg.rtrHnAddr i 0))
      srcPort := 0xC000 + h.toNat % 0x4000, dstPort := s.rdF (Reg.prtHnCtrl p) 15 0, vc := x.vc, pkt := x.pkt })

/-- Whether a host-network port may send at all (R373): its mode is active, the UDP port set, the gateway resolved. -/
def State.hnMaySend (s : State) (p : Nat) : Bool :=
  s.rdB (Reg.prtCtrl p) 1 && decide (s.rdF (Reg.prtHnCtrl p) 15 0 ≠ 0) && s.rdB (Reg.prtHnGw p) 63

/-- A host-network port sends a packet: no lsn, no replay, no credits, no frame while it may not send (R363, R373). DESIGN CHOICE: a packet
above the plen limit of R362, which a source that keeps R362 does not make, is discarded. -/
def State.sendHn (s : State) (p : Nat) (x : QPkt) : State :=
  if s.hnMaySend p then
    if s.hnPlen p < x.pkt.plen then s.updPort p (fun k => { k with out := k.out.erase x }) else
    match s.hnFrame p x with
    | some f =>
      (((s.updPort p (fun k => { k with out := k.out.erase x, replyLast := decide (4 ≤ x.vc) })).wire (.hn p f)).count
        (Reg.prtTxFrames p) 1).count (Reg.rtrOutBytes p) (frameBytes x.pkt)
    | none => s
  else s

/-- DATA_FRAME_SEND (R345, R349, R382): the next data frame takes the next lsn, its replay-buffer space and its credit, and
is sent. `below` names the share groups that have used less than their share. -/
def execDataFrameSend (p : Fin 16) (below : List Nat) (s : State) : Result :=
  .next (
    let s := { s with answer := .none }
    match s.sendOrder p below with
    | [] => s
    | x :: _ =>
      if s.isHn p then s.cond (s.portUp p) (fun s => s.sendHn p x)
      else if s.fabricUp p && decide ((s.port p).replayBytes + frameBytes x.pkt ≤ 524288) then
        let k := s.port p
        let s := s.updPort p (fun k => { k with
          out := k.out.erase x
          txLsn := (k.txLsn + 1) % 65536
          owed := k.owed.upd x.account (· + frameUnits x.pkt)
          replyLast := if 1 ≤ x.vc ∧ x.vc ≤ 6 then decide (4 ≤ x.vc) else k.replyLast
          replay := k.replay ++ [{ lsn := k.txLsn, q := x }] })
        (s.sendFrame p (x.pkt.frame (k.linkWord 0 x.vc k.txLsn false))).count (Reg.rtrOutBytes p) (frameBytes x.pkt)
      else s)

/-- NAK_RECEIVE (R347): a frame's link word with nak set; replay starts from ack_lsn + 1. -/
def execNakReceive (p : Fin 16) (now : Nat) (l : LinkWord) (s : State) : Result :=
  .next (
    let s := { s with answer := .none }
    if s.portAlive p && !s.isHn p && l.nak then s.takeLink p now l else s)

/-- REPLAY_TIMEOUT (R347): the oldest unacknowledged frame has waited longer than timeout_ns since it was last sent. -/
def execReplayTimeout (p : Fin 16) (now : Nat) (s : State) : Result :=
  .next (
    let s := { s with answer := .none }
    if s.portUp p && !(s.port p).replay.isEmpty then s.replayAll p now else s)

/-- HOLD_DISCARD (R348): the oldest unacknowledged frame has reached hold_us. A port that is not up sends RESYNC when it is up again. -/
def execHoldDiscard (p : Fin 16) (s : State) : Result :=
  .next (
    let s := { s with answer := .none }
    if (s.port p).replay.isEmpty then s
    else
      let s := s.discardReplay p
      (if s.portUp p then s.sendResync p else s.updPort p (fun k => { k with resyncDue := true })).event 0x409 (.port p))

/-- IDLE_SEND (R344). -/
def execIdleSend (p : Fin 16) (s : State) : Result :=
  .next (
    let s := { s with answer := .none }
    s.cond (s.portUp p) (fun s => s.sendControl p 1 0 0))

/-- IDLE (R344): acknowledgements and credits only. -/
def execIdle (p : Fin 16) (now : Nat) (l : LinkWord) (s : State) : Result := .next (s.controlCommand p now l 1 0)

/-- QUIET_REQ (R357). -/
def execQuietReq (p : Fin 16) (now : Nat) (l : LinkWord) (s : State) : Result := .next (s.controlCommand p now l 2 0)

/-- QUIET_ACK (R357). -/
def execQuietAck (p : Fin 16) (now : Nat) (l : LinkWord) (accept : Bool) (s : State) : Result :=
  .next (s.controlCommand p now l (3 + 256 * b2n accept) 0)

/-- WAKE_REQ (R358). -/
def execWakeReq (p : Fin 16) (now : Nat) (l : LinkWord) (s : State) : Result := .next (s.controlCommand p now l 4 0)

/-- WAKE_ACK (R358). -/
def execWakeAck (p : Fin 16) (now : Nat) (l : LinkWord) (s : State) : Result := .next (s.controlCommand p now l 5 0)

/-- RESYNC (R348). -/
def execResync (p : Fin 16) (now : Nat) (l : LinkWord) (lsn : BitVec 16) (s : State) : Result :=
  .next (s.controlCommand p now l 6 lsn.toNat)

/-- WIDTH (R352). -/
def execWidth (p : Fin 16) (now : Nat) (l : LinkWord) (mask : BitVec 8) (s : State) : Result :=
  .next (s.controlCommand p now l (7 + 256 * mask.toNat) 0)

/-- RETIRING (R344). -/
def execRetiring (p : Fin 16) (now : Nat) (l : LinkWord) (s : State) : Result := .next (s.controlCommand p now l 8 0)

/-! ### Pins, training and retraining (R334, R335, R350 to R355) -/

/-- PRESENT_DEASSERT (R335): the port is down at once, with no module; a retired one stays retired (R354). -/
def execPresentDeassert (p : Fin 16) (s : State) : Result :=
  .next (
    let s := { s with answer := .none }.updPort p (fun k => { k with present := false, settled := false, downRuns := false })
    (s.cond (decide (s.lstate p ≠ 6)) (fun s => s.portLeaves p 0)).event 0x405 (.port p))

/-- PRESENT_SETTLED (R335): the pin has been low for 100 ms. -/
def execPresentSettled (p : Fin 16) (s : State) : Result :=
  .next (
    let s := { s with answer := .none }.updPort p (fun k => { k with present := true, settled := true })
    if s.mayTrain p && (s.lstate p == 0 || s.lstate p == 5) then s.startTrain p else s)

/-- MODULE_INTERRUPT (R334). -/
def execModuleInterrupt (p : Fin 16) (s : State) : Result := .next ({ s with answer := .none }.event 0x40A (.port p))

/-- One step of a port's training (R350): the phase in progress ends as `o` says. -/
def State.trainStep (s : State) (p : Nat) (o : TrainStep) : State :=
  let k := s.port p
  let ls := s.lstate p
  match o with
  | .start => if ls = 0 ∨ ls = 5 then s.startTrain p else s
  | .pma => if k.phase = 1 then s.updPort p (fun k => { k with phase := 2 }) else s
  | .aligned c => if k.phase = 2 then s.trainAligned p c else s
  | .checked cs u => if k.phase = 3 then s.linkChecked p cs u else s
  | .discovered => if k.phase = 5 ∧ (s.rdB (Reg.prtPeer p) 63 ∨ s.isHn p) then s.portUpNow p else s

/-- PORT_TRAIN (R350). -/
def execPortTrain (p : Fin 16) (o : TrainStep) (s : State) : Result :=
  .next (
    let s := { s with answer := .none }
    if s.mayTrain p then s.trainStep p o else s)

/-- TRAIN_PHASE_TIMEOUT (R350): the phase in progress has overrun its limit, and the port is left down. -/
def execTrainPhaseTimeout (p : Fin 16) (s : State) : Result :=
  .next (
    let s := { s with answer := .none }
    if (s.port p).phase = 0 then s else (s.portLeaves p 5).event 0x405 (.port p))

/-- ALIGNMENT_LOSS (R353). -/
def execAlignmentLoss (p : Fin 16) (s : State) : Result :=
  .next (
    let s := { s with answer := .none }
    if s.portUp p then (s.updPort p (fun k => { k with downRuns := true })).startRetrain p 1 else s)

/-- RX_SILENCE (R353): no frame for 20 µs. -/
def execRxSilence (p : Fin 16) (s : State) : Result :=
  .next (
    let s := { s with answer := .none }
    if s.portUp p then (s.updPort p (fun k => { k with downRuns := true })).startRetrain p 2 else s)

/-- RETRAIN_TIMEOUT (R353, R652): a retrain has failed; three in a row retire the port, and the port else retrains again,
having received no frame for 20 µs. -/
def execRetrainTimeout (p : Fin 16) (s : State) : Result :=
  .next (
    let s := { s with answer := .none }
    if s.lstate p = 4 then
      let s := (s.event 0x404 (.port p)).countF (Reg.prtStatus p) 19 16 1
      if 3 ≤ s.rdF (Reg.prtStatus p) 19 16 then s.retirePort p [3]
      else (s.wrF (Reg.prtCtrl p) 4 4 0).startRetrain p 2
    else s)

/-- PORT_DOWN_TIMEOUT (R652, R653): the port has been down for more than 10 ms. -/
def execPortDownTimeout (p : Fin 16) (s : State) : Result :=
  .next (
    let s := { s with answer := .none }
    if (s.port p).downRuns && !s.portUp p then s.retirePort p [4] else s)

/-- Runs a write to PRT_CTRL by an agent that its rule lets write it: FAB and PF0, and the PMC for quiet_req (R367). -/
def State.prtCtrlWrite (s : State) (ag : Agent) (p : Nat) (pmc : Bool) (f : State → State) : State :=
  s.csrAccess ag (Reg.prtCtrl p) 4 true (fun s =>
    if ag = .fab ∨ ag.isPf0 ∨ (pmc ∧ ag = .pmc) then f s else s.refuseWrite ag)

/-- PRT_CTRL.retrain is set on a port that is up. -/
def State.retrainNow (s : State) (p : Nat) : State :=
  if s.portUp p then ((s.wrB (Reg.prtCtrl p) 4 true).updPort p (fun k => { k with downRuns := true })).startRetrain p 3
  else s

/-- PRT_RETRAIN (R353, R368): retrain now; the bit is cleared when the retrain ends. With no agent of the device as the sender it is the
peer's retraining that sets the bit. -/
def execPrtRetrain (ag : Agent) (p : Fin 16) (s : State) : Result :=
  .next (
    if ag = .none then ({ s with answer := .none } : State).retrainNow p
    else s.prtCtrlWrite ag p false (fun s => s.retrainNow p))

/-- The port reset itself (R354, R355): the port retrains and its link check is repeated; with unretire a retired port
returns to service through every training phase, once its module is there (R350). The down time does not run (R653). -/
def State.portReset (s : State) (p : Nat) (unretire : Bool) : State :=
  let ls := s.lstate p
  let mark := fun (s : State) => (s.wrF (Reg.prtCtrl p) 6 5 (1 + 2 * b2n unretire)).updPort p (fun k => { k with
    checkDue := true, resyncDue := true, downRuns := false })
  if ls = 6 ∧ unretire then
    let s := (mark s).updPort p (fun k => { k with unretire := true })
    if s.portReady p then s.startTrain p else s.wrF (Reg.prtStatus p) 2 0 0
  else if ls = 3 ∨ ls = 4 then (mark s).startRetrain p 3
  else if ls = 6 ∨ ls = 0 ∨ !s.mayTrain p then s
  else (mark s).startTrain p

/-- PRT_PORT_RESET (R355). -/
def execPrtPortReset (ag : Agent) (p : Fin 16) (unretire : Bool) (s : State) : Result :=
  .next (s.prtCtrlWrite ag p false (fun s => s.portReset p unretire))

/-! ### Quiet mode (R357 to R359) -/

/-- PRT_CTRL_QUIET_REQ (R359): 1 requests quiet, 0 requests wake. -/
def execPrtCtrlQuietReq (ag : Agent) (p : Fin 16) (v : Bool) (s : State) : Result :=
  .next (s.prtCtrlWrite ag p true (fun s =>
    let s := s.wrB (Reg.prtCtrl p) 3 v
    if v then s.askQuiet p else s.askWake p))

/-- QUIET_AUTO (R359): idle_us have passed with no data frame in either direction. -/
def execQuietAuto (p : Fin 16) (s : State) : Result :=
  .next (
    let s := { s with answer := .none }
    s.cond (s.rdB (Reg.prtQuiet p) 0) (fun s => s.askQuiet p))

/-- QUIET_AUTO_WAKE (R359): the output queues hold more than 64 KiB. -/
def execQuietAutoWake (p : Fin 16) (s : State) : Result :=
  .next (
    let s := { s with answer := .none }
    s.cond (s.rdB (Reg.prtQuiet p) 0 && decide (65536 < queuedBytes (s.port p).out)) (fun s => s.askWake p))

/-! ### Discovery (R338, R360, R361, R462) -/

/-- The LLDP frame that a port sends (R360, R365). -/
def State.lldp (s : State) (p : Nat) : Lldp :=
  let nb := (s.port p).neighbour
  let f : Lldp := { chassis := s.rdF (Reg.prtMac 0) 47 0, portId := s.rdF (Reg.prtMac p) 47 0
                    node := if s.nodeValid then s.node else 0xFFFFF
                    hubId := (s.rd Reg.hubId).toNat, serial := s.fuses.serial, port := p, entry := s.planEntry p
                    lanePass := s.rdF (Reg.prtStatus p) 15 8, width := s.rdF (Reg.prtStatus p) 4 3
                    quiet := s.rdB (Reg.prtStatus p) 5, quietAllow := s.rdB (Reg.prtCtrl p) 2, fabric := !s.isHn p }
  if s.isHn p then f
  else { f with fmRole := s.rdB Reg.hubFmCtrl 0
                fmNode := if s.rdB Reg.hubFmPeers 62 then s.rdF Reg.hubFmPeers 19 0 else 0xFFFFF
                machine := s.rd Reg.hubFmMachine, epoch := s.rdB Reg.rtrRtEpoch 0
                echoMac := (match nb with | some n => n.portId | none => 0)
                echoPort := (match nb with | some n => n.port | none => 0) }

/-- LLDP_SEND (R360): a port that is up, or in its discovery phase, sends its frame. -/
def execLldpSend (p : Fin 16) (s : State) : Result :=
  .next (
    let s := { s with answer := .none }
    if s.portUp p || (s.port p).phase == 5 then (s.wire (.lldp p (s.lldp p))).count (Reg.prtTxFrames p) 1 else s)

/-- FAB sets fabric_en at bring-up, before a node ID is assigned (R462): the port is up with a peer, passes R338, and the
peer's machine identifier is the device's own or 0; another identifier records 0xB04. -/
def State.enableAtBringup (s : State) (p : Nat) (f : Lldp) (fits : Bool) : State :=
  if s.nodeValid || s.isHn p || !s.rdB (Reg.prtStatus p) 6 then s
  else if f.machine ≠ 0 ∧ f.machine ≠ s.rd Reg.hubFmMachine then
    if s.rdB (Reg.prtCtrl p) 0 then s else s.event 0xB04 (.port p)
  else s.cond (fits && s.portUp p) (fun s => s.wrB (Reg.prtCtrl p) 0 true)

/-- A received LLDP frame (R361): the peer is recorded; another neighbour than before, or one that R338 does not allow,
records 0x407 and takes the port out of fabric use. -/
def State.takeLldp (s : State) (p : Nat) (f : Lldp) : State :=
  let old := (s.port p).neighbour
  let changed := match old with | some n => decide (n.chassis ≠ f.chassis ∨ n.portId ≠ f.portId) | none => false
  let fits := s.neighbourFits p f
  let first := match old with | some n => decide (n.entry ≠ f.entry ∨ n.chassis ≠ f.chassis) | none => true
  let peer := setFld (setFld (setFld (setFld 0 19 0 f.node) 23 20 f.port) 27 24 f.entry) 63 63 1
  let twoWay := decide (f.echoMac = s.rdF (Reg.prtMac p) 47 0 ∧ f.echoPort = p)
  let s := ((s.wr (Reg.prtPeer p) peer).wrF (Reg.prtPeerMac p) 47 0 f.portId).wrB (Reg.prtStatus p) 6 twoWay
  let s := s.updPort p (fun k => { k with neighbour := some f, barred := !fits || !twoWay })
  let s := s.cond (changed || (!fits && first)) (fun s => s.event 0x407 (.port p))
  let s := s.cond (changed || !fits) (fun s => s.wrB (Reg.prtCtrl p) 0 false)
  let s := s.cond changed (fun s => s.report 0x407 p 0)
  let s := s.judgeDirection (s.planEntry p)
  s.enableAtBringup p f (fits && !changed)

/-- An LLDP frame heard on a host-network port (R365, R371): the peer's address; PRT_PEER tells that a peer has been heard, with the node and
port that its TLVs give. -/
def State.hnPeer (s : State) (p : Nat) (f : Lldp) : State :=
  let s := s.wr (Reg.prtPeer p) (setFld (setFld (setFld (setFld 0 19 0 f.node) 23 20 f.port) 27 24 f.entry) 63 63 1)
  (s.wrF (Reg.prtPeerMac p) 47 0 f.portId).wrB (Reg.prtStatus p) 6 true

/-- LLDP_RECEIVE (R361). -/
def execLldpReceive (p : Fin 16) (f : Lldp) (s : State) : Result :=
  .next (
    let s := { s with answer := .none }
    if s.portUp p || (s.port p).phase == 5 then
      let s := s.count (Reg.prtRxFrames p) 1
      if s.isHn p then s.hnPeer p f else s.takeLldp p f
    else s)

/-- LLDP_TTL_EXPIRE (R361). -/
def execLldpTtlExpire (p : Fin 16) (s : State) : Result := .next ({ s with answer := .none }.wrB (Reg.prtStatus p) 6 false)

/-! ### Host-network mode (R362 to R365) -/

/-- Whether a host-network UDP frame is Noreo for this port (R362, R364, R365). -/
def State.hnAccepts (s : State) (p : Nat) (f : HnFrame) (good : Bool) : Bool :=
  good && !f.extHeader && decide (f.dstPort = s.rdF (Reg.prtHnCtrl p) 15 0 ∧ s.rdF (Reg.prtHnCtrl p) 15 0 ≠ 0)
    && decide (f.dstAddr = (s.rd (Reg.prtHnAddr p 1)) ++ (s.rd (Reg.prtHnAddr p 0)))
    && decide (f.pkt.plen % 8 = 0 ∧ f.pkt.plen ≤ 8192)

/-- A frame that a host-network port takes (R362 to R365): Noreo goes to the router on the request or reply channel, marked
when it came with CE; Neighbor Discovery and LLDP go to FAB; the rest is dropped and counted. -/
def State.takeHn (s : State) (p : Nat) (a : HnArrival) : State :=
  match a with
  | .udp f good =>
    if s.hnAccepts p f good then
      let x : QPkt := { vc := if replyOp f.pkt.op then 4 else 1, pkt := { f.pkt with cmark := f.pkt.cmark || f.ecn == 3 } }
      ((s.count (Reg.prtRxFrames p) 1).updPort p (fun k => { k with
        used := k.used.upd x.account (· + frameUnits x.pkt), input := k.input ++ [x] })).pfc p
    else s.dropFrame p
  | .solicit t =>
    (s.count (Reg.prtRxFrames p) 1).cond (s.hnMaySend p && t == (s.rd (Reg.prtHnAddr p 1)) ++ (s.rd (Reg.prtHnAddr p 0)))
      (fun s => (s.wire (.advert p t)).count (Reg.prtTxFrames p) 1)
  | .advert m => (s.count (Reg.prtRxFrames p) 1).wr (Reg.prtHnGw p) (setFld (BitVec.ofNat 64 (m % 2 ^ 48)) 63 63 1)
  | .lldp f => (s.count (Reg.prtRxFrames p) 1).hnPeer p f
  | .other => s.dropFrame p

/-- HN_FRAME_RECEIVE (R362). -/
def execHnFrameReceive (p : Fin 16) (a : HnArrival) (s : State) : Result :=
  .next (
    let s := { s with answer := .none }
    if s.isHn p && s.rdB (Reg.prtCtrl p) 1 && s.portUp p then s.takeHn p a else s)

/-- PFC_FRAME (R363): the peer pauses or resumes a priority; with pfc_en clear the frame is one that R365 drops. -/
def execPfcFrame (p : Fin 16) (prio : Fin 8) (pause : Bool) (s : State) : Result :=
  .next (
    let s := { s with answer := .none }
    if !(s.isHn p && s.portUp p) then s
    else if s.rdB (Reg.prtHnCtrl p) 22 then
      (s.count (Reg.prtRxFrames p) 1).updPort p (fun k => { k with
        pausedReq := if prio.val = s.rdF (Reg.prtHnCtrl p) 18 16 then pause else k.pausedReq
        pausedRsp := if prio.val = s.rdF (Reg.prtHnCtrl p) 21 19 then pause else k.pausedRsp })
    else s.dropFrame p)

/-! ### The port plan (R339) -/

/-- PORT_PLAN_NEXT_WRITE (R339): by PF0 or FAB; stored in the configuration record before the write is answered (R532). -/
def execPortPlanNextWrite (ag : Agent) (v : W64) (s : State) : Result :=
  .next (s.csrAccess ag Reg.hubPortPlanNext 8 true (fun s =>
    if ag = .fab ∨ ag.isPf0 then
      let s := s.wr Reg.hubPortPlanNext v
      { s with config := s.config.store (fun r => { r with plan := v }) }
    else s.refuseWrite ag))

end Sys2Proof.Machine
end

