-- ==== Sys2Proof/Machine/Contexts.lean ====
section
/-!
DEFINITION. The contexts of the end-to-end layer (09_routing_delivery.md R390 to R403, 14_security_partitions.md R603): the hub cache and the
home regions, sequence numbers, the shares of the partitions in the hub's structures, delivery and acknowledgement.
-/
namespace Sys2Proof.Machine

/-! ### Sequence numbers and contexts (R390, R391, R397, R603) -/

/-- Whether seq `a` does not come after seq `b`, modulo 2^32. -/
def seqLe (a b : Nat) : Bool := decide (sub32 b a < 2 ^ 31)

/-- Key of the receive context of a packet's flow (R389, R417): source and class, and for multicast the final destination. -/
def recvKey (p : Packet) : Nat := p.src * 8 + p.cls + (if p.mcast then (p.dst + 1) * 2 ^ 23 else 0)

/-- A receive context. -/
def State.recv (s : State) (key : Nat) : Option RecvCtx := s.router.recvs.get key

/-- Changes a receive context. -/
def State.updRecv (s : State) (key : Nat) (f : RecvCtx → RecvCtx) : State :=
  s.updRouter (fun r => { r with recvs := r.recvs.upd key (fun c => c.map f) })

/-- A send context. -/
def State.send (s : State) (key : Nat) : SendCtx := (s.router.sends.get key).getD {}

/-- Changes a send context. -/
def State.updSend (s : State) (key : Nat) (f : SendCtx → SendCtx) : State :=
  s.updRouter (fun r => { r with sends := r.sends.upd key (fun c => some (f (c.getD {}))) })

/-- The gauges of contexts, cached replies and open transactions (R425). -/
def State.gauges (s : State) : State :=
  let r := s.router
  let txns := (r.sends.map (fun e => match e.2 with | some c => c.txns.length | none => 0)).foldl (· + ·) 0
  ((s.wr Reg.rtrFcUsed (BitVec.ofNat 64 (r.sends.length + r.recvs.length))).wr Reg.rtrRcUsed
    (BitVec.ofNat 64 r.replies.length)).wr Reg.rtrTxnUsed (BitVec.ofNat 64 txns)

/-- Whether a cached context must stay (R390): a receive context with a packet delivered out of order or held. -/
def Router.pinned (r : Router) (id : Nat) : Bool :=
  id % 2 == 1 && (match r.recvs.get (id / 2) with | some c => !c.above.isEmpty || !c.held.isEmpty | none => false)

/-- Whether a structure of `total` entries holds what the partitions use beside the shares of `reserve` entries that every existing
partition has to itself (R603). -/
def State.sharesFit (s : State) (total reserve : Nat) (use : Nat → Nat) : Bool :=
  decide (((List.range 4).map (fun P => if s.partExists P then max reserve (use P) else use P)).foldl (· + ·) 0 ≤ total)

/-- The partition that owns a cached context; 4 when none does. -/
def Router.partOf (r : Router) (id : Nat) : Nat :=
  if id % 2 = 1 then (match r.recvs.get (id / 2) with | some c => c.part | none => 4)
  else (((r.sends.get (id / 2)).bind SendCtx.part).getD 4)

/-- A context of a flow of partition `P` comes into the hub cache (R390, R603): a hit, or a miss that takes a free entry of its share or of
what is shared, or else the least recently used one that need not stay, of the partition or of one that has more than its reserved share.
Class 3 has 4,096 entries of its own and none is displaced from them. `none` when no entry can be found. -/
def State.touch (s : State) (P id : Nat) : Option State :=
  let r := s.router
  if r.cache.contains id then
    some ((s.updRouter (fun r => { r with cache := id :: r.cache.filter (· ≠ id) })).count Reg.rtrFcHit 1)
  else
    let fw := decide (id / 2 % 8 = 3)
    let mine := r.cache.filter (fun x => decide (x / 2 % 8 = 3) = fw)
    let s := s.count Reg.rtrFcMiss 1
    let use := fun (Q : Nat) => (mine.filter (fun x => decide (r.partOf x = Q))).length
    if (if fw then decide (mine.length < 4096)
        else decide (mine.length < 28672) && s.sharesFit 28672 4096 (fun Q => use Q + b2n (Q == P))) then
      some (s.updRouter (fun r => { r with cache := id :: r.cache }))
    else if fw then none
    else match mine.reverse.find? (fun x => !r.pinned x && (r.partOf x == P || decide (3 < r.partOf x ∨ 4096 < use (r.partOf x)))) with
      | some out => some (s.updRouter (fun r => { r with cache := id :: r.cache.filter (· ≠ out) }))
      | none => none

/-- The die in whose flow-context region a context of a partition has its home (R390); 4 for a partition without dies. -/
def State.homeDie (s : State) (P src dst cls : Nat) : Nat :=
  let ds := s.partDies P
  (ds[(src + dst + cls) % max 1 ds.length]?).getD 4

/-- The home die of the flow of a send context's key, and of a receive context's. -/
def State.sendHome (s : State) (P key : Nat) : Nat := s.homeDie P s.node (key / 8) (key % 8)
@[inherit_doc State.sendHome]
def State.recvHome (s : State) (P key : Nat) : Nat :=
  s.homeDie P (key % 2 ^ 23 / 8) (if key < 2 ^ 23 then s.node else key / 2 ^ 23 - 1) (key % 8)

/-- Contexts whose home is the region of die `d`: those of class 3 have none (R390). -/
def State.homeUsed (s : State) (d : Nat) : Nat :=
  (s.router.sends.filter (fun e => e.1 % 8 != 3 && (match e.2.bind SendCtx.part with | some P => s.sendHome P e.1 == d | none => false))).length
    + (s.router.recvs.filter (fun e => e.1 % 8 != 3 && (match e.2 with | some c => s.recvHome c.part e.1 == d | none => false))).length

/-- Whether the region of a home die has room for one more context (R7, R390). -/
def State.homeOpen (s : State) (cls d : Nat) : Bool := cls == 3 || decide (3 < d) || decide (s.homeUsed d < 262144)

/-- Replies that a partition has in the reply cache, with those that its staged collective tiles will need (R402). -/
def State.repliesOf (s : State) (P : Nat) : Nat :=
  (s.router.replies.filter (fun e => match s.router.recvs.get e.1 with | some c => c.part == P | none => false)).length
    + ((List.range 4).map (fun q => if s.partOfDie q = P then
        ((s.clxs.get q).staged.filter (fun t => t.reply.isSome)).length else 0)).foldl (· + ·) 0

/-- Whether the reply cache has an entry for one more reply of a partition (R402, R603). -/
def State.replyOpen (s : State) (P : Nat) : Bool :=
  s.sharesFit 65536 8192 (fun Q => s.repliesOf Q + b2n (Q == P))

/-- Bytes that a partition has in the early store. -/
def State.earlyOf (s : State) (P : Nat) : Nat :=
  (s.router.recvs.map (fun e => match e.2 with
    | some c => if c.part = P then (c.held.map Packet.plen).foldl (· + ·) 0 else 0
    | none => 0)).foldl (· + ·) 0

/-- Whether the 4 MiB early store has room for a packet of a partition (R400, R603). -/
def State.earlyOpen (s : State) (P n : Nat) : Bool :=
  s.sharesFit 4194304 524288 (fun Q => s.earlyOf Q + (if Q = P then n else 0))

/-- Whether a seq has been recorded as delivered (R397). -/
def RecvCtx.recorded (c : RecvCtx) (seq : Nat) : Bool := seqLe seq c.cum || c.above.contains seq

/-- The cumulative seq moves over the seqs recorded above it; the fuel bounds the window. -/
def RecvCtx.advance : Nat → RecvCtx → RecvCtx
  | 0, c => c
  | fuel + 1, c =>
    let n := (c.cum + 1) % 2 ^ 32
    if c.above.contains n then RecvCtx.advance fuel { c with cum := n, above := c.above.filter (· ≠ n) } else c

/-- A seq is recorded. -/
def RecvCtx.record (c : RecvCtx) (seq : Nat) : RecvCtx := RecvCtx.advance 2049 { c with above := c.above ++ [seq] }

/-! ### Answers of an endpoint (R394, R398, R401) -/

/-- An ACK with the cumulative seq and the marks of the packets that it covers (R394, R398, R414). -/
def State.sendAck (s : State) (key : Nat) (p : Packet) : State :=
  match s.recv key with
  | none => s
  | some c =>
    let n := (c.marks.filter (fun x => seqLe x c.cum)).length
    (s.updRecv key (fun c => { c with unacked := 0, marks := c.marks.filter (fun x => !seqLe x c.cum) })).answerTo p 0x10 c.cum
      (min 4095 n) [] 0 0

/-- A NACK with its reason (R398, R401). -/
def State.sendNack (s : State) (p : Packet) (reason : Nat) : State :=
  let bs := leBytes 8 reason
  (s.count (Reg.rtrNackTx reason) 1).answerTo p 0x11 p.seq p.xid bs (BitVec.ofNat 32 (crc32c bs)) 0

/-- A MACK: cumulative seq and hops on arrival (R417). Its N1.src is the flow's final destination, by which the source knows the
flow, as a LOSS notice bears the frame's dst. -/
def State.sendMack (s : State) (p : Packet) (seq : Nat) : State :=
  s.inject 4 { dst := p.src, src := p.dst, domain := p.domain, cls := p.cls, seq := seq, op := 0x15, xid := p.hops % 64 }

/-- A packet of a receive context is delivered (R394, R397, R414): recorded, and acknowledged when 16 deliveries wait or it is a
heel. A multicast consumer answers with MACK alone. -/
def State.delivered (s : State) (key : Nat) (p : Packet) : State :=
  let s := s.updRecv key (fun c => { c.record p.seq with unacked := c.unacked + 1, marks := if p.cmark then c.marks ++ [p.seq] else c.marks })
  match s.recv key with
  | some c => if !p.mcast && (decide (16 ≤ c.unacked) || p.fence) then s.sendAck key p else s
  | none => s

/-- The partition that a domain maps to (R418, R423). -/
def State.domainPart (s : State) (d : Nat) : Option Nat :=
  if d = 0 then none
  else (List.range 4).find? (fun P => s.rdB (Reg.rtrDomain P) 31 && s.cpOk (Reg.rtrDomain P) && s.domainOf P == d)

end Sys2Proof.Machine
end

