-- ==== Sys2Proof/Machine/Clx.lean ====
section
/-!
DEFINITION. The collective engines (10_collectives.md R427 to R452): programs, groups, the lanes of each algorithm, the arithmetic
of a combination, tiles applied and sent, acknowledgements and failures.
-/
namespace Sys2Proof.Machine

/-! ### Groups and programs (R430, R435, R436) -/

/-- A collective engine. -/
def State.clx (s : State) (q : Nat) : Clx := s.clxs.get q

/-- Changes a collective engine. -/
def State.updClx (s : State) (q : Nat) (f : Clx → Clx) : State := { s with clxs := s.clxs.upd q f }

/-- Group entry words. -/
def State.grp0 (s : State) (q g : Nat) : W64 := s.rd (Reg.clxGroupW0 q g)
/-- Group entry word 1. -/
def State.grp1 (s : State) (q g : Nat) : W64 := s.rd (Reg.clxGroupW1 q g)

/-- Ranks of a group. -/
def State.grpK (s : State) (q g : Nat) : Nat := fld (s.grp0 q g) 6 1 + 1

/-- Node of a rank of a group. -/
def State.grpPeer (s : State) (q g j : Nat) : Nat := s.rdF (Reg.clxGroupPeer q g j) 19 0

/-- A phase word (R436). -/
structure ClxPhase where
  kind : Nat
  alg : Nat
  group : Nat
  src : Nat
  dst : Nat
  root : Nat
  word : W64
deriving DecidableEq, Repr, Inhabited

/-- The fields of a phase word. -/
def ClxPhase.of (w : W64) : ClxPhase :=
  { kind := fld w 3 0, alg := fld w 5 4, group := fld w 8 6, src := fld w 10 9, dst := fld w 12 11, root := fld w 18 13, word := w }

/-- Whether a phase reduces. -/
def ClxPhase.reduces (p : ClxPhase) : Bool := p.kind == 1 || p.kind == 2 || p.kind == 4

/-- A program entry (R435). -/
structure ClxProg where
  word : W64
  phases : List ClxPhase
  rest : List W64
deriving DecidableEq, Repr, Inhabited

/-- Format code of a program. -/
def ClxProg.fmt (p : ClxProg) : Nat := fld p.word 11 8
/-- Fixed-order mode. -/
def ClxProg.fixed (p : ClxProg) : Bool := bitOf p.word 12
/-- Partials carried in FP32. -/
def ClxProg.acc (p : ClxProg) : Bool := bitOf p.word 13
/-- Partial format (R440). -/
def ClxProg.pfmt (p : ClxProg) : Nat := if p.acc then 0 else p.fmt
/-- Rounding mode; the field of R435 allows 0 to 3. -/
def ClxProg.rmode (p : ClxProg) : RMode := (rmodeOf (fld p.word 16 14)).getD .rne
/-- Saturation bit. -/
def ClxProg.sat (p : ClxProg) : Bool := bitOf p.word 17
/-- Reduction. -/
def ClxProg.rop (p : ClxProg) : Nat := fld p.word 19 18

/-- A program from its eight words. -/
def ClxProg.of (w : Nat → W64) : ClxProg :=
  let n := fld (w 0) 2 0
  { word := w 0, phases := (List.range n).map (fun i => ClxPhase.of (w (i + 1))), rest := (List.range (7 - n)).map (fun i => w (i + 1 + n)) }

/-- The program entry of an index. -/
def State.clxProg (s : State) (q x : Nat) : ClxProg := ClxProg.of (fun i => s.rd (Reg.clxProgram q x i))

/-- Formats of reduce phases (R439). -/
def reduceFmt (f : Nat) : Bool := decide (f ≤ 4) || (decide (8 ≤ f) && decide (f ≤ 0xD))

/-- Whether a phase word is valid in a program (R436). -/
def ClxPhase.ok (p : ClxPhase) (g : ClxProg) : Bool :=
  decide (1 ≤ p.kind ∧ p.kind ≤ 5) && decide (p.alg ≤ 2) && decide (p.src ≤ 2 ∧ p.dst ≤ 2) && decide (fld p.word 63 19 = 0)
    && !(p.alg == 2 && (p.kind == 2 || p.kind == 3))
    && !(p.reduces && (p.src == 2 || p.dst == 2)) && !(p.reduces && !reduceFmt g.fmt)
    && (p.kind == 4 || p.kind == 5 || p.root == 0)

/-- Whether a program entry is valid (R435, R436). -/
def ClxProg.ok (g : ClxProg) : Bool :=
  bitOf g.word 63 && decide (1 ≤ g.phases.length) && decide (fld g.word 7 3 = 0) && decide (fld g.word 62 20 = 0)
    && !fmtReserved g.fmt && decide (fld g.word 16 14 ≤ 3) && decide (g.rop ≤ 2) && g.rest.all (· == 0)
    && g.phases.all (fun p => p.ok g)
    && !(!g.acc && (g.fmt == 3 || g.fmt == 4 || fmtBlocked g.fmt))
    && (g.rop == 0 || g.phases.any ClxPhase.reduces)

/-! ### Lanes (R441 to R443) -/

/-- Elements that a lane carries in order: from `lo`, `len` of them, as results in fmt or as partials. -/
structure ClxSeg where
  lo : Nat
  len : Nat
  result : Bool
deriving DecidableEq, Repr, Inhabited

/-- What one rank sends another in a phase, in one direction. -/
structure ClxLane where
  peer : Nat
  down : Bool
  segs : List ClxSeg
deriving DecidableEq, Repr, Inhabited

/-- The lowest one bit of a positive number. -/
def lowBit (t : Nat) : Nat := (lowestBit t 7).getD 7

/-- The lane of the binomial fold (R441): relative rank t sends to t - 2^l, l its lowest one bit. -/
def foldLane (k root lo len r : Nat) : List ClxLane :=
  let t := (r + k - root) % k
  if t = 0 then []
  else
    let d := (t - 2 ^ lowBit t + root) % k
    [{ peer := d, down := decide (d < r), segs := [{ lo := lo, len := len, result := false }] }]

/-- The lanes of the binomial broadcast (R443): the fold's lanes the other way. -/
def spreadLanes (k root lo len r : Nat) : List ClxLane :=
  let t := (r + k - root) % k
  let top := if t = 0 then 7 else lowBit t
  ((List.range top).filter (fun l => decide (t + 2 ^ l < k))).map (fun l =>
    let d := (t + 2 ^ l + root) % k
    { peer := d, down := decide (d < r), segs := [{ lo := lo, len := len, result := true }] })

/-- What rank `r` sends in a phase (R443): kind, algorithm in effect (0 ring, 1 line, 2 tree), ranks, root, first element of
the phase's whole range and the length of its range. -/
def clxLanes (kind alg k root base len r : Nat) : List ClxLane :=
  let whole := fun (res : Bool) => [({ lo := base, len := len, result := res } : ClxSeg)]
  let up := fun (on : Bool) (segs : List ClxSeg) => if on then [({ peer := (r + 1) % k, down := false, segs := segs } : ClxLane)] else []
  let dn := fun (on : Bool) (segs : List ClxSeg) => if on then [({ peer := (r + k - 1) % k, down := true, segs := segs } : ClxLane)] else []
  let ring := fun (lo m : Nat) (res : Bool) (f : Nat → Nat) =>
    (List.range (k - 1)).map (fun i => ({ lo := lo + f i % k * m, len := m, result := res } : ClxSeg))
  match kind, alg with
  | 1, 0 =>
    let h := len / 2
    let m := h / k
    up true (ring base m false (fun i => r + k - i) ++ ring base m true (fun i => r + 1 + k - i))
      ++ dn true (ring (base + h) m false (fun i => r + i) ++ ring (base + h) m true (fun i => r + k - 1 + i))
  | 1, 1 => up (decide (r + 1 < k)) (whole false) ++ dn (decide (0 < r)) (whole true)
  | 1, _ => foldLane k 0 base len r ++ spreadLanes k 0 base len r
  | 2, 0 => up true (ring base (len / k) false (fun i => r + 2 * k - 1 - i))
  | 2, _ => up (decide (r + 1 < k)) (whole false) ++ dn (decide (0 < r)) [{ lo := base, len := len / k * r, result := true }]
  | 3, 0 => up true (ring base len true (fun i => r + k - i))
  | 3, _ =>
    up (decide (r + 1 < k)) ((List.range (r + 1)).map (fun i => { lo := base + (r - i) * len, len := len, result := true }))
      ++ dn (decide (0 < r)) ((List.range (k - r)).map (fun i => { lo := base + (r + i) * len, len := len, result := true }))
  | 4, 2 => foldLane k root base len r
  | 4, _ => up (decide (r + 1 < k)) (whole false) ++ dn (decide (root < r)) (whole true)
  | 5, 0 =>
    let u := (r + k - root) % k
    let v := (root + k - r) % k
    up (decide (2 * (u + 1) ≤ k)) (whole true) ++ dn (decide (2 * (v + 1) < k)) (whole true)
  | 5, 1 => up (decide (root ≤ r ∧ r + 1 < k)) (whole true) ++ dn (decide (r ≤ root ∧ 0 < r)) (whole true)
  | 5, _ => spreadLanes k root base len r
  | _, _ => []

/-- The algorithm in effect (R441, R442): a ring phase needs the wrap link and no fixed order, and REDUCE has no ring form
(DESIGN CHOICE: it runs as a line). -/
def algInEffect (p : ClxPhase) (fixed wrap : Bool) : Nat :=
  if p.alg = 0 ∧ (fixed ∨ !wrap ∨ p.kind = 4) then 1 else p.alg

/-- The running phase of an instance, decoded. -/
structure ClxNow where
  lead : Nat
  dies : List Nat
  part : Nat
  run : ClxRun
  prog : ClxProg
  ph : ClxPhase
  alg : Nat
  k : Nat
  rank : Nat
  number : Nat
  base : Nat
  outs : List ClxLane
  ins : List ClxLane
deriving DecidableEq, Repr, Inhabited

/-- The phase in force of the run that a lead holds. The lanes in are what the other ranks send to this one, in relative
order from the root, so that a tree's children stand in fold order. -/
def State.clxNow (s : State) (q : Nat) (r : ClxRun) : ClxNow :=
  let g := s.clxProg q r.inst.program
  let ph := g.phases[r.phase]?.getD (ClxPhase.of 0)
  let w0 := s.grp0 q ph.group
  let k := s.grpK q ph.group
  let rank := fld w0 12 7
  let alg := algInEffect ph g.fixed (bitOf w0 13)
  let base := if ph.kind = 3 then r.lo - rank * r.len else r.lo
  let lanes := clxLanes ph.kind alg k ph.root base r.len
  let order := (List.range k).map (fun j => (j + (if ph.kind = 1 then 0 else ph.root)) % k)
  { lead := q, dies := s.gang q, part := s.partOfDie q, run := r, prog := g, ph := ph, alg := alg, k := k, rank := rank
    number := (s.clx q).counters.get ph.group % 256, base := base, outs := lanes rank
    ins := order.flatMap (fun j => ((lanes j).filter (fun l => l.peer = rank ∧ j ≠ rank)).map (fun l => { l with peer := j })) }

/-- Members of the gang. -/
def ClxNow.members (x : ClxNow) : Nat := max 1 x.dies.length

/-- The member that handles a chunk (R427). -/
def ClxNow.member (x : ClxNow) (c : Nat) : Nat := x.dies[c % x.members]?.getD x.lead

/-- Format of a segment. -/
def ClxNow.segFmt (x : ClxNow) (g : ClxSeg) : Nat := if g.result then x.prog.fmt else x.prog.pfmt

/-- Elements of a tile of a segment (R304, R444). -/
def ClxNow.tileElems (x : ClxNow) (g : ClxSeg) : Nat := elemsPerTile (x.segFmt g)

/-- Chunks of a segment (R444). -/
def ClxNow.segChunks (x : ClxNow) (g : ClxSeg) : Nat := g.len / (16 * x.tileElems g)

/-- Scale frames of a chunk (R444). -/
def ClxNow.scaleFrames (x : ClxNow) (g : ClxSeg) : Nat :=
  if fmtBlocked (x.segFmt g) then (if x.segFmt g = 0xE then 2 else 1) else 0

/-- Chunks of a lane. -/
def ClxNow.laneChunks (x : ClxNow) (l : ClxLane) : Nat := (l.segs.map x.segChunks).foldl (· + ·) 0

/-- The segment that a chunk of a lane lies in, and its number there. -/
def ClxNow.chunkAt (x : ClxNow) : List ClxSeg → Nat → Option (ClxSeg × Nat)
  | [], _ => none
  | g :: gs, c => if c < x.segChunks g then some (g, c) else ClxNow.chunkAt x gs (c - x.segChunks g)

/-- The elements that a tile of a chunk covers: a scale frame stands for its whole chunk. -/
def ClxNow.tileRange (x : ClxNow) (g : ClxSeg) (c t : Nat) : Nat × Nat :=
  let n := x.tileElems g
  if t < 16 then (g.lo + (16 * c + t) * n, g.lo + (16 * c + t + 1) * n) else (g.lo + 16 * c * n, g.lo + 16 * (c + 1) * n)

/-- Key of a lane of a member. -/
def laneKey (m peer : Nat) (down : Bool) : Nat := m * 256 + 2 * peer + b2n down

/-- Key of a member's direction in a group. -/
def dirKey (m g : Nat) (down : Bool) : Nat := m * 16 + 2 * g + b2n down

/-- Whether a tile that this rank receives has been applied (R449). -/
def ClxNow.applied (x : ClxNow) (l : ClxLane) (c t : Nat) : Bool :=
  let d := x.run.ins.get (laneKey (x.member c) l.peer l.down)
  decide (c < d.next) || natBit (d.masks.get c) t

/-- The tiles of a lane that carry any of the elements [a, b), as results or as partials: chunk and tile. -/
def ClxNow.tilesOver (x : ClxNow) (l : ClxLane) (res : Bool) (a b : Nat) : List (Nat × Nat) :=
  (l.segs.foldl (fun (acc : Nat × List (Nat × Nat)) g =>
    let n := x.tileElems g
    let lo := max a g.lo
    let hi := min b (g.lo + g.len)
    let ts :=
      if g.result = res ∧ lo < hi then
        let is := (List.range ((hi - 1 - g.lo) / n - (lo - g.lo) / n + 1)).map (· + (lo - g.lo) / n)
        is.map (fun i => (acc.1 + i / 16, i % 16)) ++
          (List.range (x.scaleFrames g)).flatMap (fun j =>
            ((is.map (fun i => i / 16)).eraseDups).map (fun c => (acc.1 + c, 16 + j)))
      else []
    (acc.1 + x.segChunks g, acc.2 ++ ts)) (0, [])).2

/-- Whether every tile over [a, b) of the lanes in has been applied, and whether there is one. -/
def ClxNow.gotAll (x : ClxNow) (ls : List ClxLane) (res : Bool) (a b : Nat) : Bool :=
  ls.all (fun l => (x.tilesOver l res a b).all (fun t => x.applied l t.1 t.2))

/-- Whether any lane in carries elements of [a, b) of a kind. -/
def ClxNow.getsAny (x : ClxNow) (ls : List ClxLane) (res : Bool) (a b : Nat) : Bool :=
  ls.any (fun l => !(x.tilesOver l res a b).isEmpty)

/-- Whether a tile to be sent holds its data (R446, R447). -/
def ClxNow.ready (x : ClxNow) (g : ClxSeg) (c t : Nat) : Bool :=
  let r := x.tileRange g c t
  if g.result && x.getsAny x.ins true r.1 r.2 then x.gotAll x.ins true r.1 r.2 else x.gotAll x.ins false r.1 r.2

/-! ### Buffers (R437, R438) -/

/-- Handle of a buffer. -/
def ClxNow.handle (x : ClxNow) (b : Nat) : Nat := fld (x.run.inst.args[b]?.getD 0) 23 0
/-- Byte offset of a buffer in its handle. -/
def ClxNow.start (x : ClxNow) (b : Nat) : Nat := fld (x.run.inst.args[b]?.getD 0) 63 24 * 4096
/-- E of the instance. -/
def ClxNow.count (x : ClxNow) : Nat := fld (x.run.inst.args[3]?.getD 0) 31 0

/-- Byte offset of an element in its plane (R76). -/
def planeOffset (f e : Nat) : Nat := e / elemsPerTile f * 4096 + e % elemsPerTile f * elemBits f / 8

/-- Byte offset in its handle of element `e` of a buffer in a format. -/
def ClxNow.elemOff (x : ClxNow) (b f e : Nat) : Nat := x.start b + planeOffset f e

/-- Byte offset in its handle of the scale entry of element `e` of a buffer (R78, R437). -/
def ClxNow.scaleOff (x : ClxNow) (b e : Nat) : Nat :=
  x.start b + ceilDiv x.count (elemsPerTile x.prog.fmt) * 4096 + e / 32 * scaleBytes x.prog.fmt

/-- Whether this rank writes element `a` of the result to dst (R438). -/
def ClxNow.keeps (x : ClxNow) (a : Nat) : Bool :=
  match x.ph.kind with
  | 2 => let m := x.run.len / x.k; decide (x.base + x.rank * m ≤ a) && decide (a < x.base + (x.rank + 1) * m)
  | 4 => x.rank == x.ph.root
  | _ => true

/-- Where a rank that passes results on without keeping them holds them: in the scratch, within the place of their partials,
data tile by data tile and then the chunk's scale frames. Byte offset of the bytes of element `a`. -/
def ClxNow.passOff (x : ClxNow) (a : Nat) : Nat :=
  let n := elemsPerTile x.prog.fmt
  let e := x.base + (a - x.base) / n * n
  x.elemOff 2 x.prog.pfmt e + (a - e) * elemBits x.prog.fmt / 8

/-- The same for the scale entry of element `a`. -/
def ClxNow.passScaleOff (x : ClxNow) (a : Nat) : Nat :=
  let n := elemsPerTile x.prog.fmt
  let c := x.base + (a - x.base) / (16 * n) * (16 * n)
  x.elemOff 2 x.prog.pfmt (c + 15 * n) + 4096 + (a - c) / 32 * scaleBytes x.prog.fmt

/-- Handle and offset of the result bytes of element `a` at this rank, and of its scale entry. -/
def ClxNow.resultAt (x : ClxNow) (a : Nat) : Nat × Nat :=
  if x.keeps a then (x.handle x.ph.dst, x.elemOff x.ph.dst x.prog.fmt a) else (x.handle 2, x.passOff a)

/-- Handle and offset of the scale entry of a result. -/
def ClxNow.resultScaleAt (x : ClxNow) (a : Nat) : Nat × Nat :=
  if x.keeps a then (x.handle x.ph.dst, x.scaleOff x.ph.dst a) else (x.handle 2, x.passScaleOff a)

/-! ### Memory as the engine uses it (R427, R451) -/

/-- Reads an extent of a handle, each piece with every check of R256 as its request meets the handle map (R261, R263): none when one
fails, and with event 0x303 when a tile fails its check. -/
def State.clxRead (s : State) (part h off n : Nat) : State × Option (List Byte) :=
  if !s.extentOk (.engine part) h off n false then (s, none) else
  let s := s.readExtent h off n
  match s.handleRead h off n with
  | some (bs, none) => (s, some bs)
  | some (_, some bad) => (s.checkFailedHandle 5 h bad (some part), none)
  | none => (s, none)

/-- Writes an extent of a handle, each piece with every check of R256. -/
def State.clxWrite (s : State) (part h off : Nat) (bs : List Byte) : State × Bool :=
  if !s.extentOk (.engine part) h off bs.length true then (s, false) else
  match s.handleWrite h off bs with
  | some t => (t.heatExtent h off bs.length, true)
  | none => (s, false)

/-! ### Arithmetic (R440) -/

/-- The exceptions of results count in CLX_EXC (R440, R457). -/
def State.clxExc (s : State) (q : Nat) (es : List Exc) (clamped : Nat) : State :=
  let n := fun (f : Exc → Bool) => (es.filter f).length
  let add := fun (s : State) (x k : Nat) => if k = 0 then s else s.count (Reg.clxExc q x) k
  add (add (add (add s 0 (n Exc.nan)) 1 (n (fun e => e.overflow || e.saturated))) 2 (n Exc.underflow)) 3 clamped

/-- One combination: the exact values of binary32, added in binary32 or compared, and rounded to the partial format. -/
def ClxProg.combine (g : ClxProg) (a b : Val) : Nat × Exc :=
  let v := match g.rop with
    | 0 => f32 (toF32 .rne (a.add .rne b)).1
    | 1 => a.max2 b
    | _ => a.min2 b
  let o := if g.rop = 0 then (toF32 .rne (a.add .rne b)).2 else {}
  let r := roundElem g.pfmt g.rmode g.sat 0 v
  let fresh := (r.2.nan || o.nan) && !decide (a = .nan) && !decide (b = .nan)
  (r.1, { r.2 with nan := fresh, overflow := r.2.overflow || o.overflow, underflow := r.2.underflow || o.underflow })

/-- Partials converted to the result format (R440): the elements of 32-element blocks, and their scale entries. -/
def ClxProg.convert (g : ClxProg) (vs : List Val) : List Nat × List Nat × List Exc × Nat :=
  if fmtBlocked g.fmt then
    (chunksOf 32 (vs.length + 1) vs).foldl (fun acc b =>
      let r := convertBlock g.fmt g.rmode (fun _ => 0) b
      (acc.1 ++ r.1.map Prod.fst, acc.2.1 ++ [r.2.1], acc.2.2.1 ++ r.1.map Prod.snd, acc.2.2.2 + b2n r.2.2)) ([], [], [], 0)
  else
    let rs := vs.map (roundElem g.fmt g.rmode g.sat 0)
    (rs.map Prod.fst, [], rs.map Prod.snd, 0)

/-- The exact values of `n` elements from element `a` of a buffer in the program's format. -/
def State.clxVals (s : State) (x : ClxNow) (b a n : Nat) : State × Option (List Val) :=
  let f := x.prog.fmt
  (List.range (n / 32)).foldl (fun acc i =>
    match acc.2 with
    | none => acc
    | some vs =>
      let e := a + 32 * i
      let r := acc.1.clxRead x.part (x.handle b) (x.elemOff b f e) (4 * elemBits f)
      let c := if fmtBlocked f then r.1.clxRead x.part (x.handle b) (x.scaleOff b e) (scaleBytes f) else (r.1, some [])
      match r.2, c.2 with
      | some bs, some sc =>
        (c.1, some (vs ++ (List.range 32).map (fun j => decodeScaled f (elemAt f (leNat bs) j) (leNat sc) j)))
      | _, _ => (c.1, none)) (s, some [])

/-- The bytes of a block of results that go to offset `off`: with the last block of an FP6 tile its 16 unused bytes, as zeros (R77). -/
def clxBlockBytes (f off : Nat) (es : List Nat) : List Byte :=
  packElems f (4 * elemBits f) es ++ (if elemBits f = 6 ∧ off % 4096 = 4056 then leBytes 16 0 else [])

/-- Of the exceptions of conversions, those that R440 counts: a NaN made from a value that was none. -/
def freshExc (vs : List Val) (es : List Exc) : List Exc :=
  (vs.zip es).map (fun x => { x.2 with nan := x.2.nan && !decide (x.1 = .nan) })

/-- Writes results from element `a` on: element bytes block by block and scale entries. -/
def State.clxPutResult (s : State) (x : ClxNow) (a : Nat) (es scales : List Nat) : State × Bool :=
  let f := x.prog.fmt
  (chunksOf 32 (es.length + 1) es).zipIdx.foldl (fun acc b =>
    let e := a + 32 * b.2
    let p := x.resultAt e
    let r := acc.1.clxWrite x.part p.1 p.2 (clxBlockBytes f p.2 b.1)
    if fmtBlocked f then
      let z := x.resultScaleAt e
      let r2 := r.1.clxWrite x.part z.1 z.2 (leBytes (scaleBytes f) (scales[b.2]?.getD 0))
      (r2.1, acc.2 && r.2 && r2.2)
    else (r.1, acc.2 && r.2)) (s, true)

/-! ### The end of an instance (R451) -/

/-- CLX_LAST and the counters of an instance that has ended; every member is idle again. -/
def State.clxEnded (s : State) (q : Nat) (inst : ClxInst) (number code : Nat) (failed degraded : Bool) : State :=
  let last := setFld (setFld (setFld (setFld (setFld (setFld (setFld 0 9 0 inst.program) 23 16 inst.token) 31 24 number) 32 32 1)
    33 33 (b2n (degraded && !failed))) 34 34 (b2n failed)) 39 36 code
  let s := s.wr (Reg.clxLast q) last
  let s := s.cond failed (fun s => (s.count (Reg.clxFailed q) 1).event 0x6C1 .none code (some (s.partOfDie q)))
  s.cond (degraded && !failed) (fun s => (s.count (Reg.clxDegraded q) 1).event 0x6C2 .none 0 (some (s.partOfDie q)))

/-- Groups that a program names. -/
def ClxProg.groups (g : ClxProg) : List Nat := (g.phases.map ClxPhase.group).eraseDups

/-- The gang's members stop running. -/
def State.clxIdle (s : State) (q : Nat) : State :=
  s.each (s.gang q) (fun s m => s.wrF (Reg.clxStatus m) 1 0 1)

/-- A running instance fails at run time (R451): every member stops sending and discards its staged data, and the token
fails. -/
def State.clxFail (s : State) (q code : Nat) : State :=
  match (s.clx q).run with
  | none => s
  | some r =>
    let g := s.clxProg q r.inst.program
    let c := s.clx q
    let number := c.counters.get ((g.groups.head?).getD 0) % 256
    let mine := fun (j : NetJob) => match j.owner with | .clx m => (s.gang q).contains m | _ => false
    let s := s.updClx q (fun c => { c with
      run := none
      failedNo := g.groups.foldl (fun (t : Tbl Nat) x => t.set x (c.counters.get x % 256 + 1)) c.failedNo
      staged := c.staged.filter (fun t => !(g.groups.contains t.group && t.number == c.counters.get t.group % 256)) })
    let s := s.updRouter (fun z => { z with
      sends := z.sends.map (fun e => (e.1, e.2.map (fun x => { x with queue := x.queue.filter (fun j => !mine j) }))) })
    ((s.clxIdle q).clxEnded q r.inst number code true false).tokenPart q r.inst.token false

/-! ### Sending (R445 to R448) -/

/-- Bytes and check of a tile to be sent: none when a local read fails. -/
def State.clxTileBytes (s : State) (x : ClxNow) (g : ClxSeg) (c t : Nat) : State × Option (List Byte) :=
  let r := x.tileRange g c t
  if g.result then
    if t < 16 then
      let p := x.resultAt r.1
      s.clxRead x.part p.1 p.2 4096
    else
      let n := if x.prog.fmt = 0xE then 4096 else 16 * x.tileElems g / 32
      let p := x.resultScaleAt r.1
      s.clxRead x.part p.1 (p.2 + 4096 * (t - 16)) n
  else if x.getsAny x.ins false r.1 r.2 then s.clxRead x.part (x.handle 2) (x.elemOff 2 x.prog.pfmt r.1) 4096
  else
    let v := s.clxVals x x.ph.src r.1 (r.2 - r.1)
    match v.2 with
    | none => (v.1, none)
    | some vs =>
      let es := vs.map (roundElem x.prog.pfmt x.prog.rmode x.prog.sat 0)
      (v.1.clxExc (x.member c) (freshExc vs (es.map Prod.snd)) 0, some (packElems x.prog.pfmt 4096 (es.map Prod.fst)))

/-- N2.seq of a circuit frame (R445). -/
def clxSeq (t c phase number : Nat) : Nat := t + c % 2 ^ 17 * 2 ^ 5 + phase % 8 * 2 ^ 22 + number % 128 * 2 ^ 25

/-- The descriptor of a CONTRIB (R448). -/
def clxDescriptor (group : Nat) (down : Bool) (phase number c t : Nat) : List Byte :=
  leBytes 1 group ++ leBytes 1 (b2n down) ++ leBytes 1 phase ++ leBytes 1 number ++ leBytes 4 c ++ leBytes 1 t ++ leBytes 55 0

/-- The acknowledgement payload (R446). -/
def clxAck (next phase number : Nat) : List Byte := leBytes 4 next ++ leBytes 1 phase ++ leBytes 1 number ++ leBytes 2 0

/-- Whether a member's direction runs in packet mode (R446, R450): a tree always does. -/
def ClxNow.inPacket (x : ClxNow) (m : Nat) (down : Bool) : Bool :=
  x.alg == 2 || x.run.packet.contains (dirKey m x.ph.group down)

/-- Outbound circuit ID and links of a member's direction in a group. -/
def State.outCircuit (s : State) (m g : Nat) (down : Bool) : Nat × Nat :=
  if down then (fld (s.grp0 m g) 39 28, fld (s.grp1 m g) 37 32) else (fld (s.grp0 m g) 27 16, fld (s.grp1 m g) 31 26)

/-- A member's frame on its outbound circuit. -/
def State.clxCircuitSend (s : State) (x : ClxNow) (m : Nat) (down : Bool) (peer seq : Nat) (bs : List Byte) : State :=
  let o := s.outCircuit m x.ph.group down
  let p : Packet := { dst := s.grpPeer m x.ph.group peer, src := s.node, domain := fld (s.grp0 m x.ph.group) 51 40, cls := 7
                      hops := o.2, xid := o.1, seq := seq, op := 0x17, payload := bs, check0 := BitVec.ofNat 32 (crc32c bs) }
  (s.inject 7 p).count (Reg.clxTxBytes m) (frameBytes p)

/-- Sends the next tile of a lane of a member, when it is ready and within the limit of R445; answers whether it did. -/
def State.clxSendTile (s : State) (q m peer : Nat) (down : Bool) : State × Bool :=
  match (s.clx q).run with
  | none => (s, false)
  | some r =>
    let x := s.clxNow q r
    match x.outs.find? (fun l => l.peer = peer ∧ l.down = down) with
    | none => (s, false)
    | some l =>
      let key := laneKey m peer down
      let o := r.outs.get key
      match x.chunkAt l.segs o.chunk with
      | none => (s, false)
      | some (g, c) =>
        let limit := if x.scaleFrames g = 2 then 14 else 15
        if r.finished || decide (x.member o.chunk ≠ m) || !x.ready g c o.tile
            || decide (limit ≤ (o.chunk - o.acked + x.members - 1) / x.members) then (s, false)
        else
          let b := s.clxTileBytes x g c o.tile
          match b.2 with
          | none => (b.1.clxFail q 5, false)
          | some bs =>
            let s := b.1
            let s :=
              if x.inPacket m down then
                let pl := bs ++ clxDescriptor x.ph.group down r.phase x.number o.chunk o.tile
                (s.enqueueJob (s.grpPeer m x.ph.group peer) 2
                  { owner := .clx m, op := 9, domain := s.domainOf x.part, payload := pl }).count (Reg.clxTxBytes m)
                    (frameBytes { payload := pl })
              else s.clxCircuitSend x m down peer (clxSeq o.tile o.chunk r.phase x.number) bs
            let last := decide (o.tile + 1 = 16 + x.scaleFrames g)
            let o2 : ClxOut := if last then { o with chunk := o.chunk + x.members, tile := 0 } else { o with tile := o.tile + 1 }
            (s.updClx q (fun c => { c with run := c.run.map (fun r => { r with outs := r.outs.set key o2 }) }), true)

/-! ### Phases (R438, R443, R446) -/

/-- Whether a phase is complete at this rank: every lane in is applied, and every lane out is acknowledged. -/
def ClxNow.complete (x : ClxNow) : Bool :=
  x.dies.all (fun m =>
    x.ins.all (fun l => decide (x.laneChunks l ≤ (x.run.ins.get (laneKey m l.peer l.down)).next))
      && x.outs.all (fun l => decide (x.laneChunks l ≤ (x.run.outs.get (laneKey m l.peer l.down)).acked)))

/-- The range of the next phase (R438). -/
def ClxNow.nextRange (x : ClxNow) : Nat × Nat :=
  match x.ph.kind with
  | 2 => (x.base + x.rank * (x.run.len / x.k), x.run.len / x.k)
  | 3 => (x.base, x.run.len * x.k)
  | _ => (x.run.lo, x.run.len)

/-- A copy phase at a rank that supplies data: its own range goes from src to dst unchanged, with its checks (R438, R439). -/
def State.clxOwnCopy (s : State) (x : ClxNow) : State × Bool :=
  let own := x.ph.kind == 3 || (x.ph.kind == 5 && x.rank == x.ph.root)
  let f := x.prog.fmt
  if !own || (x.handle x.ph.src == x.handle x.ph.dst && x.start x.ph.src == x.start x.ph.dst) then (s, true)
  else
    let n := ceilDiv x.run.len (elemsPerTile f) * 4096
    let a := s.clxRead x.part (x.handle x.ph.src) (x.elemOff x.ph.src f x.run.lo) n
    let m := x.run.len / 32 * scaleBytes f
    let b := a.1.clxRead x.part (x.handle x.ph.src) (x.scaleOff x.ph.src x.run.lo) m
    match a.2, b.2 with
    | some bs, some sc =>
      let w := b.1.clxWrite x.part (x.handle x.ph.dst) (x.elemOff x.ph.dst f x.run.lo) bs
      let v := if m = 0 then (w.1, true) else w.1.clxWrite x.part (x.handle x.ph.dst) (x.scaleOff x.ph.dst x.run.lo) sc
      (v.1, w.2 && v.2)
    | _, _ => (b.1, false)

/-- A phase begins: its lanes start at each member's first chunk. -/
def State.clxStartPhase (s : State) (q : Nat) (r : ClxRun) (phase : Nat) (range : Nat × Nat) : State :=
  let r : ClxRun := { r with phase := phase, lo := range.1, len := range.2, ins := [], outs := [] }
  let x := s.clxNow q r
  let r : ClxRun := { r with
    ins := x.dies.zipIdx.foldl (fun (t : Tbl ClxIn) m => x.ins.foldl (fun t l => t.set (laneKey m.1 l.peer l.down) { next := m.2 }) t) []
    outs := x.dies.zipIdx.foldl (fun (t : Tbl ClxOut) m =>
      x.outs.foldl (fun t l => t.set (laneKey m.1 l.peer l.down) { chunk := m.2, acked := m.2 }) t) [] }
  let s := s.updClx q (fun c => { c with run := some r })
  let c := s.clxOwnCopy x
  let s := c.1.each x.dies (fun s m =>
    let w := setFld (setFld (setFld (setFld (setFld 0 9 0 r.inst.program) 23 16 r.inst.token) 31 24
      ((s.clx q).counters.get ((x.prog.groups.head?).getD 0))) 34 32 phase) 35 35
      (b2n ((x.ins ++ x.outs).any (fun l => x.inPacket m l.down)))
    s.wr (Reg.clxInst m) (setFld w 36 36 (b2n r.degraded)))
  if c.2 then s else s.clxFail q 5

/-! ### Receiving (R446 to R449) -/

/-- What becomes of an arriving tile: not accepted, no staging, held in staging, or taken with the answer that names phase,
number and the next expected chunk. -/
inductive ClxTake where
  | refused
  | busy
  | held
  | taken (next phase number : Nat)
  | failed
deriving DecidableEq, Repr, Inhabited

/-- The data of a tile is combined or written (R440, R449): false when a check fails. -/
def State.clxApplyData (s : State) (x : ClxNow) (l : ClxLane) (g : ClxSeg) (c : Nat) (t : ClxTile) : State × Bool :=
  let r := x.tileRange g c t.tile
  if g.result then
    let p := if t.tile < 16 then x.resultAt r.1
      else let z := x.resultScaleAt r.1; (z.1, z.2 + 4096 * (t.tile - 16))
    s.clxWrite x.part p.1 p.2 t.bytes
  else
    let n := r.2 - r.1
    let before := x.ins.takeWhile (fun k => k ≠ l)
    let earlier := x.getsAny before false r.1 r.2
    let local' :=
      if earlier then
        let b := s.clxRead x.part (x.handle 2) (x.elemOff 2 x.prog.pfmt r.1) 4096
        (b.1, b.2.map (fun bs => (List.range n).map (fun i => decodeElem x.prog.pfmt (elemAt x.prog.pfmt (leNat bs) i))))
      else s.clxVals x x.ph.src r.1 n
    match local'.2 with
    | none => (local'.1, false)
    | some own =>
      let got := (List.range n).map (fun i => decodeElem x.prog.pfmt (elemAt x.prog.pfmt (leNat t.bytes) i))
      let pairs := if x.alg = 2 then own.zip got else got.zip own
      let rs := pairs.map (fun v => x.prog.combine v.1 v.2)
      let s := local'.1.clxExc t.member (rs.map Prod.snd) 0
      let after := x.ins.filter (fun k => k ≠ l ∧ !before.contains k)
      let last := !x.getsAny after false r.1 r.2 && !x.getsAny x.outs false r.1 r.2
      if last then
        let vs := rs.map (fun e => decodeElem x.prog.pfmt e.1)
        let cv := x.prog.convert vs
        (s.clxExc t.member (freshExc vs cv.2.2.1) cv.2.2.2).clxPutResult x r.1 cv.1 cv.2.1
      else s.clxWrite x.part (x.handle 2) (x.elemOff 2 x.prog.pfmt r.1) (packElems x.prog.pfmt 4096 (rs.map Prod.fst))

/-- Whether a tile lies beyond the fifteen chunks of its lane that the receiver keeps masks of (R449). -/
def ClxNow.ahead (x : ClxNow) (d : ClxIn) (t : ClxTile) : Bool := decide (d.next + 15 * x.members ≤ t.chunk)

/-- Whether a tile of the running phase may be applied now: the tiles that come before it in the fold order are there (R441). -/
def ClxNow.mayApply (x : ClxNow) (l : ClxLane) (g : ClxSeg) (c : Nat) (t : ClxTile) : Bool :=
  let r := x.tileRange g c t.tile
  g.result || x.gotAll (x.ins.takeWhile (fun k => k ≠ l)) false r.1 r.2

/-- The next expected chunk after tiles have been applied: each full chunk is passed; the fuel bounds the passes. -/
def ClxNow.advance (x : ClxNow) (l : ClxLane) : Nat → ClxIn → ClxIn
  | 0, d => d
  | fuel + 1, d =>
    match x.chunkAt l.segs d.next with
    | some (g, _) =>
      if d.masks.get d.next = 2 ^ (16 + x.scaleFrames g) - 1 then
        ClxNow.advance x l fuel { d with next := d.next + x.members, masks := d.masks.set d.next 0 }
      else d
    | none => d

/-- The staging that a member's direction of a group has in use, in bytes. -/
def Clx.stagedBytes (c : Clx) (m g : Nat) (down : Bool) : Nat :=
  ((c.staged.filter (fun t => t.member = m ∧ t.group = g ∧ t.down = down)).map (fun t => t.bytes.length)).foldl (· + ·) 0

/-- Whether a tile stands in staging already. -/
def State.clxStaged (s : State) (q : Nat) (t : ClxTile) : Bool :=
  (s.clx q).staged.any (fun u => decide (u.member = t.member ∧ u.group = t.group ∧ u.peer = t.peer ∧ u.down = t.down
    ∧ u.number = t.number ∧ u.phase = t.phase ∧ u.chunk = t.chunk ∧ u.tile = t.tile))

/-- A tile of the running instance and phase is applied, or counted as a duplicate, or held for its turn (R449). -/
def State.clxApply (s : State) (q : Nat) (r : ClxRun) (t : ClxTile) : State × ClxTake :=
  let x := s.clxNow q r
  match x.ins.find? (fun l => l.peer = t.peer ∧ l.down = t.down) with
  | none => (s, .refused)
  | some l =>
    let key := laneKey t.member t.peer t.down
    let d := r.ins.get key
    let dup := decide (t.chunk < d.next) || natBit (d.masks.get t.chunk) t.tile
    match x.chunkAt l.segs t.chunk with
    | none => (s, .refused)
    | some (g, c) =>
      if dup then (s.count (Reg.clxDupTiles t.member) 1, .taken d.next r.phase x.number)
      else if x.member t.chunk ≠ t.member ∨ 16 + x.scaleFrames g ≤ t.tile then (s, .refused)
      else if crc32c t.bytes ≠ t.check.toNat then
        ((s.event 0x303 .none (5 + 2 * 16) (some x.part)).clxFail q 5, .failed)
      else if x.ahead d t then (s, .busy)
      else if !x.mayApply l g c t then
        if s.clxStaged q t then (s.count (Reg.clxDupTiles t.member) 1, .held)
        else if 1048576 < (s.clx q).stagedBytes t.member t.group t.down + t.bytes.length then (s, .busy)
        else (s.updClx q (fun c => { c with staged := c.staged ++ [t] }), .held)
      else
        let a := s.clxApplyData x l g c t
        if !a.2 then (a.1.clxFail q 5, .failed)
        else
          let d2 := x.advance l 32 { d with masks := d.masks.upd t.chunk (· ||| 2 ^ t.tile) }
          let s := a.1.updClx q (fun c => { c with run := c.run.map (fun r => { r with ins := r.ins.set key d2 }) })
          (s.countF (Reg.clxInst t.member) 57 40 ((d2.next - d.next) / x.members), .taken d2.next r.phase x.number)

/-- Where a tile's number and phase place it (R433): of the running phase, of a later phase or the next instance, of the past,
or not accepted. -/
inductive ClxWhen where
  | now (r : ClxRun)
  | later
  | past
  | no
deriving DecidableEq, Repr, Inhabited

/-- Judges a tile's group, number and phase. -/
def State.clxWhen (s : State) (q g number phase : Nat) : ClxWhen :=
  let c := s.clx q
  let cur := c.counters.get g % 256
  let runs := match c.run with
    | some r => if (s.clxProg q r.inst.program).groups.contains g then some r else none
    | none => none
  if !bitOf (s.grp0 q g) 0 then .no
  else if number = (cur + 1) % 256 then .later
  else if number ≠ cur then .no
  else match runs with
    | some r => if phase = r.phase ∧ !r.finished then .now r else if r.phase < phase ∧ !r.finished then .later else .past
    | none => if c.failedNo.get g = cur + 1 then .no else .past

/-- An acknowledgement of a circuit (R446): on the receiver's outbound circuit in the opposite direction, when it is there. -/
def State.clxCircuitAck (s : State) (x : ClxNow) (m peer : Nat) (down : Bool) (next phase number : Nat) : State :=
  let v := if down then bitOf (s.grp0 m x.ph.group) 14 else bitOf (s.grp0 m x.ph.group) 15
  if v then s.clxCircuitSend x m (!down) peer 0 (clxAck next phase number) else s

/-- The answer to a tile once it has been taken: CONTRIBRSP for a CONTRIB, else an acknowledgement when a chunk is complete or
the tile was not new. The CONTRIB is delivered with it (R394), and the reply cache keeps the CONTRIBRSP (R402). -/
def State.clxAnswer (s : State) (q : Nat) (t : ClxTile) (next phase number : Nat) (always : Bool) : State :=
  match t.reply with
  | some p =>
    let bs := clxAck next phase number
    let rsp : Packet := { dst := p.src, src := s.node, domain := p.domain, cls := p.cls, seq := p.seq, xid := p.xid, op := 0xA
                          payload := bs, check0 := BitVec.ofNat 32 (crc32c bs) }
    let key := recvKey p
    let s := (s.delivered key p).updRouter (fun r => { r with replies := r.replies ++ [(key, p.seq, rsp)] })
    s.gauges.inject 4 rsp
  | none =>
    match (s.clx q).run with
    | some r => if always then s.clxCircuitAck (s.clxNow q r) t.member t.peer t.down next phase number else s
    | none => s

/-- Takes one tile and answers it. -/
def State.clxTakeTile (s : State) (q : Nat) (t : ClxTile) : State × ClxTake :=
  match s.clxWhen q t.group t.number t.phase with
  | .no => (s, .refused)
  | .past => ((s.count (Reg.clxDupTiles t.member) 1).clxAnswer q t (t.chunk + 1) t.phase t.number true, .taken 0 0 0)
  | .later =>
    if s.clxStaged q t then (s.count (Reg.clxDupTiles t.member) 1, .held)
    else if 1048576 < (s.clx q).stagedBytes t.member t.group t.down + t.bytes.length then (s, .busy)
    else (s.updClx q (fun c => { c with staged := c.staged ++ [t] }), .held)
  | .now r =>
    let before := (r.ins.get (laneKey t.member t.peer t.down)).next
    let a := s.clxApply q r t
    match a.2 with
    | .taken n ph no => (a.1.clxAnswer q t n ph no (decide (n ≠ before) || decide (t.chunk < before)), a.2)
    | o => (a.1, o)

/-- Staged tiles that now have their turn are taken, in order; the fuel bounds the passes. -/
def State.clxDrain (s : State) (q : Nat) : Nat → State
  | 0 => s
  | fuel + 1 =>
    let l := (s.clx q).staged
    match l.find? (fun t => match s.clxWhen q t.group t.number t.phase with
        | .now r =>
          let x := s.clxNow q r
          !x.ahead (r.ins.get (laneKey t.member t.peer t.down)) t && (match x.ins.find? (fun k => k.peer = t.peer ∧ k.down = t.down) with
          | some k => (match x.chunkAt k.segs t.chunk with | some (g, c) => x.mayApply k g c t | none => true)
          | none => true)
        | _ => false) with
    | none => s
    | some t =>
      let s := s.updClx q (fun c => { c with staged := c.staged.erase t })
      State.clxDrain (s.clxTakeTile q t).1 q fuel

/-- After a tile or an acknowledgement: staged tiles have their turn, and a complete phase is followed by the next; after the
last the instance waits for CLX_INSTANCE_DONE. The fuel bounds the phases. -/
def State.clxSettle (s : State) (q : Nat) : Nat → State
  | 0 => s
  | fuel + 1 =>
    let s := s.clxDrain q ((s.clx q).staged.length)
    match (s.clx q).run with
    | none => s
    | some r =>
      let x := s.clxNow q r
      if r.finished || !x.complete then s
      else if r.phase + 1 < x.prog.phases.length then
        State.clxSettle (s.clxStartPhase q r (r.phase + 1) x.nextRange) q fuel
      else s.updClx q (fun c => { c with run := some { r with finished := true } })

/-- An acknowledgement of a lane reaches its sender (R446, R448, R450): it skips ahead to a higher chunk. -/
def State.clxOnAck (s : State) (q m peer : Nat) (down : Bool) (bs : List Byte) : State :=
  match (s.clx q).run with
  | none => s
  | some r =>
    let x := s.clxNow q r
    if bodyNat bs 4 1 = r.phase ∧ bodyNat bs 5 1 = x.number then
      let key := laneKey m peer down
      let next := bodyNat bs 0 4
      let s := s.updClx q (fun c => { c with run := c.run.map (fun r => { r with outs := r.outs.upd key (fun o =>
        let o := { o with acked := max o.acked next }
        if o.chunk < o.acked then { o with chunk := o.acked, tile := 0 } else o) }) })
      s.clxSettle q 8
    else s

/-- A circuit frame delivered to CLX `m` (R410, R446): the group and the direction by the inbound circuit that it names. -/
def State.clxFrame (s : State) (m : Nat) (p : Packet) : State :=
  let q := s.leadOf m
  let s := s.count (Reg.clxRxBytes m) (frameBytes p)
  let hit := (List.range 8).findSome? (fun g =>
    let w := s.grp1 m g
    if bitOf w 24 ∧ fld w 11 0 = p.xid then some (g, false)
    else if bitOf w 25 ∧ fld w 23 12 = p.xid then some (g, true) else none)
  match hit with
  | none => s
  | some (g, down) =>
    let k := s.grpK m g
    let rank := fld (s.grp0 m g) 12 7
    let peer := if down then (rank + 1) % k else (rank + k - 1) % k
    if p.plen = 8 then s.clxOnAck q m peer (!down) p.payload
    else
      let cur := (s.clx q).counters.get g % 256
      let n7 := natFld p.seq 25 7
      let number := if cur % 128 = n7 then cur else if (cur + 1) % 128 = n7 then (cur + 1) % 256 else 256
      let t : ClxTile := { member := m, group := g, peer := peer, down := down, number := number, phase := natFld p.seq 22 3
                           chunk := natFld p.seq 5 17, tile := natFld p.seq 0 5, bytes := p.payload, check := p.check0 }
      ((s.clxTakeTile q t).1).clxSettle q 8

/-- A CDOWN for a circuit (R450): every group entry that names it loses its valid bit, and a running instance goes on in packet
mode between the two neighbours, degraded, from the chunk after the last one acknowledged. -/
def State.clxDown (s : State) (id : Nat) : State :=
  s.each (List.range 4) (fun s m =>
    s.each (List.range 8) (fun s g =>
      let w0 := s.grp0 m g
      let w1 := s.grp1 m g
      let up := (bitOf w0 14 && decide (fld w0 27 16 = id)) || (bitOf w1 25 && decide (fld w1 23 12 = id))
      let dn := (bitOf w0 15 && decide (fld w0 39 28 = id)) || (bitOf w1 24 && decide (fld w1 11 0 = id))
      if !up && !dn then s
      else
        let s := s.cond (bitOf w0 14 && decide (fld w0 27 16 = id)) (fun s => s.wrB (Reg.clxGroupW0 m g) 14 false)
        let s := s.cond (bitOf w0 15 && decide (fld w0 39 28 = id)) (fun s => s.wrB (Reg.clxGroupW0 m g) 15 false)
        let s := s.cond (bitOf w1 24 && decide (fld w1 11 0 = id)) (fun s => s.wrB (Reg.clxGroupW1 m g) 24 false)
        let s := s.cond (bitOf w1 25 && decide (fld w1 23 12 = id)) (fun s => s.wrB (Reg.clxGroupW1 m g) 25 false)
        let q := s.leadOf m
        match (s.clx q).run with
        | none => s
        | some r =>
          let x := s.clxNow q r
          if !(s.clxProg q r.inst.program).groups.contains g then s
          else
            let k := s.grpK m g
            let rank := fld (s.grp0 m g) 12 7
            let peer := if up then (rank + 1) % k else (rank + k - 1) % k
            let back := fun (t : Tbl ClxOut) => t.upd (laneKey m peer (!up)) (fun o => { o with chunk := o.acked, tile := 0 })
            let s := s.updClx q (fun c => { c with run := some { r with
              degraded := true
              packet := r.packet ++ (if up then [dirKey m g false] else [dirKey m g true])
              outs := if x.ph.group = g then back r.outs else r.outs } })
            (s.wrB (Reg.clxInst m) 36 true).cond (x.ph.group == g) (fun s => s.wrB (Reg.clxInst m) 35 true)))

end Sys2Proof.Machine
end

