-- ==== Sys2Proof/Machine/Flows.lean ====
section
/-!
DEFINITION. The end-to-end layer (09_routing_delivery.md R389 to R417): contexts and the hub cache, sequence numbers, packets of a
transaction, endpoint checks, and what answers do at the source.
-/
namespace Sys2Proof.Machine

/-- Checks 1 to 3 of R400 on an arriving request, with the answer of R618 during a warm device reset and that of R625 in Doze: none with the NACK sent, or the context's key and partition. -/
def State.acceptPacket (s : State) (p : Packet) : State × Option (Nat × Nat) :=
  if s.pwr.warm then (s.sendNack p 1, none)
  else match s.domainPart p.domain with
  | none => (s.sendNack p 4, none)
  | some P =>
    if s.router.resetting.contains P || s.rdF Reg.pmcState 1 0 == 1 then (s.sendNack p 1, none)
    else
      let key := recvKey p
      match s.recv key with
      | none => (s.sendNack p 2, none)
      | some _ =>
        match s.touch P (2 * key + 1) with
        | none => (s.sendNack p 3, none)
        | some s => (s, some (key, P))

/-! ### Pieces (R341, R399, R647, R648) -/

/-- A CRC difference moved over `n` further bytes of a tile: the register steps of as many zero bytes (R646). -/
def crcShift (d : Nat) : Nat → Nat
  | 0 => d
  | n + 1 => crcShift (crcByte d 0) n

/-- A carried piece is written at a DPA (R648): a whole tile takes its carried check; a part gives the tile's check the
contribution of the carried check. -/
def State.landPiece (s : State) (a : Nat) (bs : List Byte) (check : W32) : State :=
  let d := crc32c bs ^^^ check.toNat
  if bs.isEmpty then s
  else if bs.length = 4096 then s.writeCarried a bs (BitVec.ofNat 32 d)
  else s.writeCarried a bs (BitVec.ofNat 32 (crcShift d (4096 - a % 4096 - bs.length)))

/-- The pieces of `len` bytes whose first lands at phase `ph` of a tile: offset from the first byte, length (R399). -/
def piecesFrom (ph len : Nat) : List (Nat × Nat) := (piecesOf (ph % 4096) len).map (fun p => (p.1 - ph % 4096, p.2))

/-- Bytes and checks of the `k`-th packet of a run of pieces: pieces 2 k and 2 k + 1 (R399). -/
def piecePacket (ph : Nat) (bs : List Byte) (k : Nat) (checks : List W32) (base : Packet) : Packet :=
  let ps := piecesFrom ph bs.length
  let piece := fun (i : Nat) => match ps[i]? with | some p => (bs.drop p.1).take p.2 | none => []
  { base with payload := piece (2 * k) ++ piece (2 * k + 1), check0 := checks[2 * k]?.getD 0, check1 := checks[2 * k + 1]?.getD 0 }

/-- CRC-32C of every piece. -/
def pieceChecks (ph : Nat) (bs : List Byte) : List W32 :=
  (piecesFrom ph bs.length).map (fun p => BitVec.ofNat 32 (crc32c ((bs.drop p.1).take p.2)))

/-- Packets of a run of `n` pieces. -/
def packetsFor (n : Nat) : Nat := (n + 1) / 2

/-- Reads an extent of a handle for a remote requester (R232, R647): its bytes and the checks of the pieces that the requester's
tiles cut it into. A piece that is a whole tile on both sides carries its tile's check; any other is taken after its source tiles
have been verified. None when a tile fails or does not translate. -/
def State.remoteRead (s : State) (P h off len ph : Nat) : State × Option (List Byte × List W32) :=
  (piecesFrom ph len).foldl (fun acc p =>
    match acc.2 with
    | none => acc
    | some (bs, cs) =>
      let s := acc.1.readExtent h (off + p.1) p.2
      match (if s.extentOk (.remote P) h (off + p.1) p.2 false then s.translate h (off + p.1) else none), s.handleRead h (off + p.1) p.2 with
      | some a, some (b, bad) =>
        let whole := decide (p.2 = 4096 ∧ (off + p.1) % 4096 = 0)
        if whole then (s, some (bs ++ b, cs ++ [BitVec.ofNat 32 (crc32c b) ^^^ s.tileDiff (a / 4096)]))
        else match bad with
          | some x => (s.checkFailedHandle 2 h x (some P), none)
          | none => (s, some (bs ++ b, cs ++ [BitVec.ofNat 32 (crc32c b)]))
      | _, _ => (s, none)) (s, some ([], []))

/-! ### Packets of a transaction (R399) -/

/-- The 64-byte payload of a WRDESC. -/
def wrdescBytes (j : NetJob) (packets : Nat) : List Byte :=
  leBytes 3 j.handle ++ leBytes 1 (b2n j.notify.isSome) ++ leBytes 4 packets ++ leBytes 8 j.offset ++ leBytes 4 j.len
    ++ leBytes 1 (j.notify.getD 0) ++ leBytes 43 0

/-- The payload of an RDREQ. -/
def rdreqBytes (j : NetJob) : List Byte :=
  leBytes 3 j.handle ++ leBytes 1 0 ++ leBytes 4 j.len ++ leBytes 8 j.offset ++ leBytes 8 0 ++ leBytes 2 (j.store % 4096 / 64)
    ++ leBytes 38 0

/-- The payload of an ATOMIC. -/
def atomicBytes (j : NetJob) : List Byte :=
  leBytes 3 j.handle ++ leBytes 1 j.sub ++ leBytes 4 0 ++ leBytes 8 j.offset ++ leBytes 8 j.operand1.toNat
    ++ leBytes 8 j.operand2.toNat ++ leBytes 32 0

/-- The payload of a DBELL. -/
def dbellBytes (j : NetJob) : List Byte := leBytes 3 0 ++ leBytes 1 j.sub ++ leBytes 60 0

/-- A packet with its pieces' checks. -/
def checkedPacket (p : Packet) : Packet :=
  { p with check0 := BitVec.ofNat 32 (crc32c (p.payload.take 4096))
           check1 := if 4096 < p.plen then BitVec.ofNat 32 (crc32c (p.payload.drop 4096)) else 0 }

/-- The packets of a transaction, without their seqs (R399, R404, R416). The bytes of a write are those of the store that the
job names, or those it carries. -/
def jobPackets (j : NetJob) (dst src cls xid : Nat) (bytes : List Byte) : List Packet :=
  let base : Packet := { dst := dst, src := src, domain := j.domain, cls := cls, op := j.op, xid := xid }
  let base := match j.mcast with
    | some (_, sel, hops, _) => { base with mcast := true, xid := sel, hops := hops }
    | none => base
  match j.op with
  | 1 =>
    let n := packetsFor (piecesFrom j.offset j.len).length
    let cs := pieceChecks j.offset bytes
    checkedPacket { base with payload := wrdescBytes j n } ::
      (List.range n).map (fun k =>
        { piecePacket j.offset bytes k cs { base with op := 2 } with fence := j.fence && k + 1 == n })
  | 3 => [checkedPacket { base with payload := rdreqBytes j }]
  | 5 => [checkedPacket { base with payload := atomicBytes j }]
  | 7 => [checkedPacket { base with payload := dbellBytes j }]
  | _ => [checkedPacket { base with payload := j.payload }]

/-- What a packet is charged against the window (R391): its plen and the reply bytes that it asks for, in units of 256. -/
def packetCharge (p : Packet) : Nat :=
  let reply := match p.op with
    | 3 => bodyNat p.payload 4 4
    | 5 => 64
    | 9 => 8
    | _ => 0
  max 256 (ceilDiv (p.plen + reply) 256 * 256)

/-! ### What firmware may ask for (R389, R399, R416, R417) -/

/-- The hops from this device to another along the axis of a direction, when it lies on it (R416); unknown without a route plan. -/
def State.axisHops (s : State) (dir dst : Nat) : Option (Option Nat) :=
  s.fm.plan.map (fun pl =>
    let a := nodeCoords pl.sizes s.node
    let b := nodeCoords pl.sizes dst
    let i := dir / 2
    let k := max 1 (pl.sizes[i]?.getD 1)
    let x := a[i]?.getD 0
    let y := b[i]?.getD 0
    let wraps := if dir % 2 = 0 then decide (y < x) else decide (x < y)
    if a.set i 0 ≠ b.set i 0 ∨ (wraps && pl.openAxes[i]?.getD false) then none
    else some (if dir % 2 = 0 then (y + k - x) % k else (x + k - y) % k))

/-- A multicast transaction as its source sends it (R416, R417, R423): in group mode direction, final device and expected hop values are the
RTR_MCAST entry's; in range mode every hop value up to R is expected; the hops are those of the path. None where the rules allow none. -/
def State.mcastJob (s : State) (dst : Nat) (j : NetJob) : Option NetJob :=
  match j.mcast with
  | none => some j
  | some (d, sel, h, _) =>
    let g := sel % 64
    let grp := natBit sel 11
    let w := s.rd (Reg.rtrMcastW0 g)
    let dir := if grp then fld w 3 1 else d % 8
    let expect := if grp then (s.rd (Reg.rtrMcastW1 g)).toNat else 2 ^ (g + 1) - 1
    match s.axisHops dir dst with
    | some none => none
    | some (some n) => if 1 ≤ n ∧ n ≤ 63 ∧ (!grp || fld w 31 12 == dst) then some { j with mcast := some (dir, g + 2048 * b2n grp, n, expect) } else none
    | none => if 1 ≤ h ∧ h ≤ 63 ∧ (!grp || fld w 31 12 == dst) then some { j with mcast := some (dir, g + 2048 * b2n grp, h, expect) } else none

/-- Whether a transaction keeps the limits of its layout (R399). -/
def jobFits (j : NetJob) : Bool :=
  match j.op with
  | 1 => decide (j.offset % 64 = 0 ∧ j.len % 64 = 0 ∧ 64 ≤ j.len ∧ j.len ≤ 1048576) && (j.payload.isEmpty || j.payload.length == j.len)
      && (match j.notify with | some n => decide (n < 64) | none => true)
  | 3 => decide (j.offset % 64 = 0 ∧ j.len % 64 = 0 ∧ 64 ≤ j.len ∧ j.len ≤ 65536)
  | 5 => decide (j.offset % 8 = 0 ∧ 1 ≤ j.sub ∧ j.sub ≤ 3)
  | 7 => decide (j.sub < 64)
  | _ => false

/-- Whether a class of flow carries a transaction (R389, R417): writes and reads, firmware's atomics and doorbells, multicast writes. -/
def jobClassOk (j : NetJob) (cls : Nat) : Bool :=
  match cls with
  | 1 => (j.op == 1 || j.op == 3) && j.mcast.isNone
  | 4 => (j.op == 1 || j.op == 3) && j.mcast.isNone
  | 3 => (j.op == 5 || j.op == 7) && j.mcast.isNone
  | 6 => j.op == 1 && j.mcast.isSome
  | _ => false

/-- The classes that are flows (R389). -/
def flowClass (cls : Nat) : Bool := (decide (1 ≤ cls) && decide (cls ≤ 4)) || cls == 6

/-- What firmware asks for, as its flow takes it: a transaction that breaks a rule of R389, R399, R416 or R417, or that would change the
direction or selection of an open multicast flow, is none. -/
def State.askedJob (s : State) (dst cls : Nat) (j : NetJob) : Option NetJob :=
  if j.owner == .firmware && jobFits j && jobClassOk j cls then
    (s.mcastJob dst j).filter (fun j =>
      let c := s.send (sendKey dst cls)
      decide (c.phase = .closed) || decide (c.mcast = j.mcast))
  else none

/-- Bytes that firmware's open reads reserve in the reply area of die `d` (R393). DESIGN CHOICE: the requesting die is the lowest of the
partition that the request's domain maps to. -/
def State.replyDie (s : State) (j : NetJob) : Nat := ((s.domainPart j.domain).bind (fun P => (s.partDies P).head?)).getD 0

@[inherit_doc State.replyDie]
def State.replyReserved (s : State) (d : Nat) : Nat :=
  (s.router.sends.map (fun e => match e.2 with
    | some c => ((c.txns.filter (fun t => t.job.owner = .firmware ∧ t.job.op = 3 ∧ s.replyDie t.job = d)).map (fun t => t.job.len)).foldl (· + ·) 0
    | none => 0)).foldl (· + ·) 0

/-- Whether a transaction finds the space for its reply (R393): a firmware read needs its bytes of the 2 MiB reply area of its die. -/
def State.replyRoom (s : State) (j : NetJob) : Bool :=
  !(j.owner == .firmware && j.op == 3) || decide (s.replyReserved (s.replyDie j) + j.len ≤ 2097152)

/-! ### The end of a transaction at its source (R401) -/

/-- A transaction is over: its owner learns whether it succeeded, and the value that came back. -/
def State.jobDone (s : State) (key xid : Nat) (j : NetJob) (ok : Bool) (v : W64 := 0) : State :=
  match j.owner with
  | .dmx q tok =>
    s.updSeq q (fun z => { z with
      transfers := z.transfers.map (fun t =>
        if t.token = tok ∧ 3 ≤ t.op ∧ t.op ≤ 5 then { t with left := t.left - 1, failed := t.failed || !ok } else t) })
  | .clx m => if ok then s else s.clxFail (s.leadOf m) 6
  | .seal slot => if ok then s else s.updRouter (fun r => { r with sealFailed := r.sealFailed ++ [slot] })
  | .firmware => s.updRouter (fun r => { r with results := r.results ++ [(key, xid, ok, v)] })

/-- Transactions of a flow fail (R395, R401, R407, R408). -/
def State.failTxns (s : State) (key : Nat) (p : Txn → Bool) : State :=
  let ts := (s.send key).txns.filter p
  let s := s.updSend key (fun c => { c with
    txns := c.txns.filter (fun t => !p t)
    unacked := c.unacked.filter (fun u => !ts.any (fun t => u.pkt.xid == t.xid || t.job.mcast.isSome)) })
  (s.each ts (fun s t => s.jobDone key t.xid t.job false)).gauges

/-- A flow is opened, or opened anew, with a FLOWRESET whose seq is the next seq it will use (R392, R408). A multicast flow's
travels as its packets do. -/
def State.openFlow (s : State) (key : Nat) (job : NetJob) : State :=
  let c := s.send key
  let base : Packet := { dst := key / 8, src := s.node, domain := job.domain, cls := key % 8, seq := c.nextSeq, op := 0x14 }
  let p := match job.mcast with
    | some (_, sel, hops, _) => { base with mcast := true, xid := sel, hops := hops }
    | none => base
  let s := s.updSend key (fun c => { c with
    phase := .opening, resetSeq := c.nextSeq, unacked := [], opener := some { pkt := p, charge := 0 }, openMacks := 0
    part := s.domainPart job.domain, mcast := job.mcast })
  match job.mcast with
  | some (d, _) => s.inject 5 p d
  | none => s.inject 4 p

/-- A packet of a flow goes out, for the first time or again (R391, R416). -/
def State.putPacket (s : State) (p : Packet) (job : NetJob) : State :=
  match job.mcast with
  | some (d, _) => s.inject (if p.op = 0x14 then 5 else 2) p d
  | none => s.inject (if p.op = 0x14 then 4 else 1) p

/-- A packet that is not acknowledged is sent again, and counted (R395, R396). -/
def State.resend (s : State) (key : Nat) (u : SentPkt) : State :=
  let job := ((s.send key).txns.head?.map Txn.job).getD { owner := .firmware, op := 0, domain := 0 }
  let s := s.updSend key (fun c => { c with
    unacked := c.unacked.map (fun x => if x.pkt.seq = u.pkt.seq then { x with sends := x.sends + 1 } else x) })
  (s.count Reg.rtrRetx 1).putPacket u.pkt job

/-- The rate update of an echo (R415). -/
def State.echoRate (s : State) (key : Nat) : State :=
  let g := s.rdF Reg.rtrCc 11 8
  let en := s.rdB Reg.rtrCc 20
  s.cond (s.router.sends.get key).isSome (·.updSend key fun c =>
    let n := (2 ^ g - 1) * c.alphaNum + 2 ^ c.alphaExp
    let e := c.alphaExp + g
    { c with alphaNum := n, alphaExp := e, echo := true
             rate := if en then max 1 (c.rate * (2 ^ (e + 1) - n) / 2 ^ (e + 1)) else 1024 })

/-- Whether a transaction waits for a reply rather than for acknowledgements alone. -/
def Txn.replies (t : Txn) : Bool := decide (t.job.op ≠ 1)

/-- Write transactions all of whose packets are sent and acknowledged are complete (R399). -/
def State.finishWrites (s : State) (key : Nat) : State :=
  let c := s.send key
  let done := fun (t : Txn) => !t.replies && t.job.mcast.isNone && t.pkts.isEmpty &&
    !c.unacked.any (fun u => u.pkt.xid == t.xid)
  let ts := c.txns.filter done
  let s := s.updSend key (fun c => { c with txns := c.txns.filter (fun t => !done t) })
  (s.each ts (fun s t => s.jobDone key t.xid t.job true)).gauges

/-- A reply has come in full (R399, R403): the transaction is over, and a RACK tells up to which seq every reply is held. -/
def State.replyDone (s : State) (key : Nat) (t : Txn) (v : W64) : State :=
  let s := s.updSend key (fun c => { c with
    txns := c.txns.filter (fun x => x.xid ≠ t.xid), unacked := c.unacked.filter (fun u => u.pkt.xid ≠ t.xid) })
  let s := (s.jobDone key t.xid t.job true v).gauges
  let c := s.send key
  let waiting := c.txns.filter (fun x => x.replies && x.pkts.isEmpty)
  let top := match waiting.head? with
    | some x => sub32 (waiting.foldl (fun m y => if seqLe y.firstSeq m then y.firstSeq else m) x.firstSeq) 1
    | none => sub32 c.nextSeq 1
  s.inject 4 { dst := key / 8, src := s.node, domain := t.job.domain, cls := key % 8, seq := top, op := 0x13 }

end Sys2Proof.Machine
end

