-- ==== Sys2Proof/Machine/StackCmds.lean ====
section
/-!
DEFINITION. The commands of the stacks and of the placer (06_memory_and_placement.md R243 to R280).
-/
namespace Sys2Proof.Machine

/-! ### Requests (R246, R247) -/

/-- STACK_REQUEST (R246). Translations that an abort in a switch phase has released go on first (R274). -/
def execStackRequest (r : LineAccess) (ecc : List MemUpset) (bad : List Nat) (s : State) : Result :=
  .next (
    let s := ((s.upset ecc).mismatches bad).releaseHeld
    ({ s with answer := .none } : State).stackAccess r)

/-- TRACKER_ENTRY_FREE (R247): the `i`-th tracked request of a stack is complete and frees its entry; then the requests that
wait for the stack try again, oldest first. -/
def execTrackerEntryFree (n : Fin 12) (i : Nat) (s : State) : Result :=
  .next (
    if i < (s.stackSide.tracked.get n).length then
      ((s.updStacks (fun k => { k with tracked := k.tracked.upd n (fun l => l.eraseIdx i) })).trackCount n).retryWaiting n
    else s)

/-- PATROL (R245): the BDC reads one line of its stack. -/
def execPatrol (n : Fin 12) (line : BitVec 30) (ecc : List MemUpset) (s : State) : Result :=
  .next (((s.upset ecc).readLine true (n.val * 0x40000000 + line.toNat)).releaseHeld)

/-! ### Descriptors and handles (R252, R253, R261, R594) -/

/-- DPA of word `j` of descriptor `x` (R252). -/
def descWord (x j : Nat) : Nat := Reg.hubDescW0 x + 16 * j

/-- Whether a write of word `j` of a valid descriptor may change what it changes (R253), a sealed handle keeping its host
and remote bits clear (R594). Clearing valid is the handle's destruction (R261). -/
def State.descWriteOk (s : State) (x j : Nat) (v : W64) : Bool :=
  let old := s.rd (descWord x j)
  let diff := old ^^^ v
  let part := s.descPart x
  let seq := s.seqState part
  let sealOk := !(s.stackSide.sealed.contains x && j == 0 && fld v 16 13 != 0)
  if s.rdB (Reg.hubDescW0 x) 0 then
    sealOk && (match j with
    | 0 => decide (diff &&& ~~~ (fldMask 17 12 ||| fldMask 0 0) = 0)
    | 1 => seq == 0 || seq == 1 || seq == 6 || seq == 7 || seq == 8
    | 3 => decide (diff &&& ~~~ fldMask 31 0 = 0)
    | _ => false)
  else sealOk

/-- The bits of a descriptor word that hold fields (R252). -/
def descMask (j : Nat) : W64 :=
  match j with
  | 0 => fldMask 20 0 ||| fldMask 31 24 ||| fldMask 50 32
  | 1 => fldMask 63 0
  | 2 => fldMask 18 0 ||| fldMask 25 24
  | _ => fldMask 32 0

/-- DESCRIPTOR_WRITE (R253): the SCH's write of a word and its companion takes effect, or is ignored with event 0x80C; with H.R off it
answers an address error (R22). -/
def execDescriptorWrite (ag : Agent) (x : BitVec 16) (j : Fin 4) (v : W64) (s : State) : Result :=
  .next (s.csrAccess ag (descWord x.toNat j.val) 8 true (fun s =>
    if ag = .sch ∧ s.descWriteOk x.toNat j.val (v &&& descMask j.val) then
      s.cpCommit (descWord x.toNat j.val) (v &&& descMask j.val)
    else s.refuseWrite ag))

/-- HANDLE_DRAINED (R261): no request through a destroyed handle is outstanding: its migrations abort, its frames become
clearing and its slab entries free. The slot that a sealed handle was bound to has been emptied with the handle (R597). -/
def execHandleDrained (x : BitVec 16) (s : State) : Result :=
  .next (
    let x := x.toNat
    if s.stackSide.dying.contains x ∧
        (List.range 12).all (fun n => (s.stackSide.tracked.get n).all (fun t => decide (handleIndex t.handle ≠ x))) then
      let ys := s.slabsOf x
      let s := s.abortMigrations (fun g => g.moves.any (fun m => ys.contains m.slab))
      let gs := ys.map s.slabFrame
      let s := s.each ys (fun s y => s.cpCommit (Reg.hubSlab y) 0)
      let s := s.setFrames gs .clearing
      (s.updStacks (fun k => { k with
        dying := k.dying.filter (· ≠ x)
        sealed := k.sealed.filter (· ≠ x) })).releaseHeld
    else s)

/-- FRAME_CLEAR_DONE (R262): a frame has been zeroed, every tile with a valid check, and is free. -/
def execFrameClearDone (n : Fin 12) (f : BitVec 15) (s : State) : Result :=
  .next (
    let g := frameNo n.val f.toNat
    if s.stackSide.frames.get g = .clearing then (s.zeroRange (dpaOfFrame g) 0x200000).setFrames [g] .free else s)

/-! ### Heat and candidates (R267 to R272) -/

/-- Sum of the five counters of a frame. -/
def heatTotal (v : W64) : Nat := fld v 11 0 + fld v 23 12 + fld v 35 24 + fld v 47 36 + fld v 59 48

/-- Counters of one origin summed over a group's slabs (R266, R270). -/
def State.groupHeat (s : State) (win : Nat → W64) (ys : List Nat) (o : Nat) : Nat :=
  (ys.map (fun y => fld (win (s.slabFrame y)) (12 * o + 11) (12 * o))).foldl (· + ·) 0

/-- Total count of the slabs of a group in one window (R266, R271). -/
def State.groupTotal (s : State) (win : Nat → W64) (ys : List Nat) : Nat :=
  ((List.range 5).map (s.groupHeat win ys)).foldl (· + ·) 0

/-- The die that a slab is a candidate for by R270 in one window. -/
def State.driftDie (s : State) (win : Nat → W64) (part own : Nat) (ys : List Nat) : Option Nat :=
  let tot := s.groupTotal win ys
  if tot < s.rdF Reg.hubPlaceCtrl 27 16 then none
  else (s.partDies part).find? (fun d => d ≠ own && decide (3 * tot ≤ 4 * s.groupHeat win ys d))

/-- Whether a pseudo-channel counted more than twice its stack's mean over usable pseudo-channels in one window (R271). -/
def State.pcBusy (s : State) (win : Nat → W64) (n p : Nat) : Bool :=
  let usable := (List.range 64).filter (fun p => s.rdF (Reg.stkPcState n p) 1 0 = 0)
  let cnt := fun (p : Nat) => ((List.range 512).map (fun i => heatTotal (win (frameNo n (512 * p + i))))).foldl (· + ·) 0
  decide (2 * (usable.map cnt).foldl (· + ·) 0 < cnt p * usable.length)

/-- The total of the slab that a frame holds, with the slabs of its group (R266); of a frame that holds none, its own. -/
def State.frameTotal (s : State) (win : Nat → W64) (owner : Nat → Option (Nat × Nat)) (g : Nat) : Nat :=
  match owner g with
  | some (x, k) => s.groupTotal win (s.groupSlabs x k)
  | none => heatTotal (win g)

/-- The descriptor and slab number of each frame in use. -/
def State.frameOwners (s : State) : List (Nat × Nat × Nat) :=
  s.validDescs.flatMap (fun x => (List.range (s.descSlabs x)).map (fun k => (s.slabFrame (s.descBase x + k), x, k)))

/-- The candidates among the slabs of a stack, from its last two windows (R270, R271). -/
def State.evaluate (s : State) (n : Nat) : List Candidate :=
  let now := fun (g : Nat) => s.rd (Reg.stkHeat (g / 32768) (g % 32768))
  let before := fun (g : Nat) => s.stackSide.heatBefore.get g
  let owners := s.frameOwners
  let sum := s.frameTotal now (fun g => (owners.find? (fun o => o.1 = g)).map Prod.snd)
  s.validDescs.flatMap (fun x =>
    if (s.groupOf x).any (fun z => s.rdB (Reg.hubDescW0 z) 17) then []
    else (List.range (s.descSlabs x)).filterMap (fun k =>
      let y := s.descBase x + k
      let g := s.slabFrame y
      let p := g % 32768 / 512
      let ys := s.groupSlabs x k
      if g / 32768 ≠ n ∨ s.rdF (Reg.hubSlab y) 21 20 ≠ 0 then none
      else
        let d := s.driftDie now (s.descPart x) (n / 3) ys
        if d.isSome ∧ d = s.driftDie before (s.descPart x) (n / 3) ys then some { slab := y, die := d }
        else if s.pcBusy now n p ∧ s.pcBusy before n p ∧
            (List.range 512).all (fun i =>
              let j := sum (frameNo n (512 * p + i))
              decide (j < sum g) || (j == sum g && decide (g % 512 ≤ i)))
          then some { slab := y, die := none }
        else none))

/-- HEAT_WINDOW_END (R268): the live counters of a stack become its snapshot and start again from 0, and STK_HEAT_GEN moves
by 2; the placer then marks its candidates. -/
def execHeatWindowEnd (n : Fin 12) (s : State) : Result :=
  .next (
    let n := n.val
    let lo := frameNo n 0
    let hi := frameNo n 32768
    let a := Reg.stkHeat n 0
    let old := (s.csr.filter (fun e => a ≤ e.1 ∧ e.1 < a + 0x40000)).map (fun e => (lo + (e.1 - a) / 8, e.2))
    let live : Tbl W64 := s.stackSide.heat.filter (fun e => lo ≤ e.1 ∧ e.1 < hi)
    let s := { s with csr := (s.csr.clear a (a + 0x40000)).addAll (live.map (fun (e : Nat × W64) => (a + 8 * (e.1 - lo), e.2))) }
    let s := s.updStacks (fun k => { k with heat := k.heat.clear lo hi, heatBefore := k.heatBefore.splice lo hi old })
    let s := s.wr (Reg.stkHeatGen n) (s.rd (Reg.stkHeatGen n) + 2)
    let new := s.evaluate n
    s.updStacks (fun k => { k with
      candidates := k.candidates.filter (fun (c : Candidate) => s.slabFrame c.slab / 32768 ≠ n) ++ new }))

/-! ### Migrations (R272 to R278) -/

/-- Whether a slab lies in a draining pseudo-channel and no stranded tile holds it there. -/
def State.drains (s : State) (y : Nat) : Bool :=
  let (n, p) := pcOfFrame (s.slabFrame y)
  s.rdF (Reg.stkPcState n p) 1 0 == 1 && s.rdF (Reg.hubSlab y) 21 20 == 0 &&
    !(s.stackSide.stranded.get (64 * n + p)).any (fun t => t.slab == y)

/-- Whether a base program of a partition runs on a stack (R276). -/
def State.baseRuns (s : State) (n part : Nat) : Bool :=
  match (s.bases.get n).run with
  | some r => decide (s.partOfDie r.call.lead = part)
  | none => false

/-- Whether migration slots are open for `m` slabs of a source stack (R272). -/
def State.slotsOpen (s : State) (n m : Nat) : Bool :=
  let all := s.stackSide.migs.flatMap Migration.moves
  decide ((all.filter (fun v => v.src / 32768 = n)).length + m ≤ 8) && decide (all.length + m ≤ 16)

/-- Whether a drain migration of slab `k` of descriptor `x` can start now: its slabs are resident, no base program holds them, a slot is
open and a frame is free. -/
def State.drainCan (s : State) (x k : Nat) : Bool :=
  let n := s.slabFrame (s.descBase x + k) / 32768
  let grp := s.groupOf x
  s.drains (s.descBase x + k) && (s.groupSlabs x k).all (fun z => s.rdB (Reg.hubSlab z) 0 && s.rdF (Reg.hubSlab z) 21 20 == 0)
    && s.slotsOpen n grp.length && !(grp.any (fun z => s.rdB (Reg.hubDescW3 z) 32) && s.baseRuns n (s.descPart x))
    && (s.chooseStack (s.descPart x) n).isSome

/-- Whether some slab's drain takes the slot that a migration of `m` slabs from stack `n` asks for (R272): one that could start now and
could not once that migration has its slots. -/
def State.drainFirst (s : State) (n m : Nat) : Bool :=
  let all := s.stackSide.migs.flatMap Migration.moves
  let src := fun (i : Nat) => (all.filter (fun v => v.src / 32768 = i)).length
  s.validDescs.any (fun x => (List.range (s.descSlabs x)).any (fun k =>
    let i := s.slabFrame (s.descBase x + k) / 32768
    let need := (s.groupOf x).length
    s.drainCan x k && (decide (16 < all.length + m + need) || (i == n && decide (8 < src n + m + need)))))

/-- The stack that a migration of slab `k` of descriptor `x` goes to. -/
def State.migStack (s : State) (x k n : Nat) (drain : Bool) (c : Option Candidate) : Option Nat :=
  if drain then s.chooseStack (s.descPart x) n
  else match c with
    | some { slab := _, die := some d } =>
      (s.chooseStack (s.descPart x) (3 * d + k % s.descStripe x % 3)).filter (fun m => m / 3 = d)
    | some { slab := _, die := none } => some n
    | none => none

/-- The pseudo-channels of stack `n` that hold the other lanes of slab `k`'s stripe group. -/
def State.lanePcs (s : State) (x k n : Nat) : List Nat :=
  let w := s.descStripe x
  (((List.range w).map (· + k / w * w)).filter (· ≠ k)).filterMap (fun k =>
    let f := s.slabFrame (s.descBase x + k)
    if f / 32768 = n then some (f % 32768 / 512) else none)

/-- The usable pseudo-channel with the lowest count that holds no other lane (R271). -/
def State.coolPc (s : State) (n : Nat) (taken : List Nat) : Option Nat :=
  let cnt := fun (p : Nat) =>
    ((List.range 512).map (fun i => heatTotal (s.rd (Reg.stkHeat n (512 * p + i))))).foldl (· + ·) 0
  ((List.range 64).filter (fun p => 0 < s.pcOpen n p && !taken.contains p)).foldl (fun b p => match b with
    | some q => if cnt p < cnt q then some p else some q
    | none => some p) none

/-- The SCH reports to the host (R278, R279); a report that stands already is not repeated. -/
def State.stackReport (s : State) (r : StackReport) : State :=
  s.updStacks (fun k => { k with reports := k.reports.filter (· ≠ r) ++ [r] })

/-- The moves of a migration: slab `k` of every handle of the group finds a frame in the chosen stack, or none starts. -/
def State.planMoves (s : State) (k n : Nat) (cool : Bool) : List Nat → List Nat → List SlabMove → Option (State × List SlabMove)
  | [], _, acc => some (s, acc.reverse)
  | z :: zs, picks, acc =>
    let taken := s.lanePcs z k n
    (if cool then s.coolPc n taken else s.choosePc n taken).bind (fun p => (s.takeFrame n p (picks.head?.getD 0)).bind (fun g =>
      let y := s.descBase z + k
      let m : SlabMove := { slab := y, handle := s.descHandle z, src := s.slabFrame y, dst := g }
      State.planMoves (s.setFrames [g] .copyingTo) k n cool zs picks.tail (m :: acc)))

/-- MIGRATION_START (R272, R273): the placer starts the migration of a slab that a drain or a candidacy names, with slab for
slab its alignment group; `picks` are its choices among the free frames. -/
def execMigrationStart (y : BitVec 19) (picks : List Nat) (s : State) : Result :=
  .next (
    let y := y.toNat
    match s.slabOwner y with
    | none => s
    | some (x, k) =>
      let n := s.slabFrame y / 32768
      let grp := s.groupOf x
      let drain := s.drains y
      let cand := s.stackSide.candidates.find? (fun c => c.slab = y)
      let pinned := grp.any (fun z => s.rdB (Reg.hubDescW0 z) 17)
      let base := grp.any (fun z => s.rdB (Reg.hubDescW3 z) 32)
      let ready := (s.groupSlabs x k).all (fun z => s.rdB (Reg.hubSlab z) 0 && s.rdF (Reg.hubSlab z) 21 20 == 0)
      let may := drain || (cand.isSome && s.rdB Reg.hubPlaceCtrl 0 && !pinned && !s.drainFirst n grp.length)
      if !(ready && may && s.slotsOpen n grp.length) || (base && s.baseRuns n (s.descPart x)) then s
      else
        match s.migStack x k n drain cand with
        | none => s.cond drain (fun s => s.stackReport (.shortfall (s.descPart x)))
        | some m =>
          match s.planMoves k m (!drain && decide (cand = some { slab := y, die := none })) grp picks [] with
          | none => s.cond drain (fun s => s.stackReport (.shortfall (s.descPart x)))
          | some (t, mv) =>
            let t := t.each mv (fun t v => t.cpCommit (Reg.hubSlab v.slab) (slabWord true v.src 1 v.dst))
            let t := t.updStacks (fun q => { q with
              migs := q.migs ++ [{ moves := mv, drain := drain }]
              candidates := q.candidates.filter (fun c => !(mv.any (fun v => v.slab == c.slab))) })
            t.count Reg.hubMigStarted mv.length)

/-- Tile `t` of a move is copied with its stored check (R273); false when a line of it is uncorrectable (R274). -/
def State.copyTile (s : State) (m : SlabMove) (t : Nat) : State × Bool :=
  let a := dpaOfFrame m.src + 4096 * t
  let b := dpaOfFrame m.dst + 4096 * t
  let s := s.readLines a 4096
  if s.lineErr.any (fun e => e.1 / 64 = a / 4096 ∧ 2 ≤ e.2) then (s, false)
  else
    let d := s.syn.get (a / 4096)
    ((fun s : State => { s with syn := s.syn.set (b / 4096) d }) (s.writeBytes b (s.readBytes a 4096)), true)

/-- Copies the tiles of every move; answers the first tile that could not be copied. -/
def State.copyTiles (s : State) (g : Migration) (l : SlabMove → List Nat) : State × Option (SlabMove × Nat) :=
  (g.moves.flatMap (fun m => (l m).map (fun t => (m, t)))).foldl (fun r x =>
    match r.2 with
    | some _ => r
    | none => let c := r.1.copyTile x.1 x.2; (c.1, if c.2 then none else some x)) (s, none)

/-- A migration whose copy met an uncorrectable line aborts; a drain's tile is stranded and reported (R274, R278). -/
def State.copyFailed (s : State) (g : Migration) (x : SlabMove × Nat) : State :=
  let s := s.abortMigration g
  let (n, p) := pcOfFrame x.1.src
  let tile := match s.slabOwner x.1.slab with
    | some (d, k) => let w := s.descStripe d; (k / w * 512 + x.2) * w + k % w
    | none => 0
  let part := s.descPart (handleIndex x.1.handle)
  let t : Stranded := { handle := x.1.handle, slab := x.1.slab, dpa := dpaOfFrame x.1.src + 4096 * x.2 }
  let s := s.cond g.drain (fun s =>
    (((s.wrF (Reg.stkPcState n p) 2 2 1).event 0x307 (.stack n) (x.1.handle % 2 ^ 24 + tile * 2 ^ 32) (some part)).updStacks
      (fun k => { k with stranded := k.stranded.upd (64 * n + p) (· ++ [t]) })).stackReport (.stranded part x.1.handle tile))
  s.releaseHeld

/-- MIGRATION_PASS_END (R273, R275): the tiles of the pass have been copied. Dirty are the tiles written in the pass that it does not copy, and
those it copies that were written after their copy, which the command gives as slab entry * 512 + tile: another pass, or the switch when at most 16 are dirty or after four passes.
An uncorrectable line or a failed write at the destination aborts (R274). -/
def execMigrationPassEnd (y : BitVec 19) (late : List Nat) (dstFail : Bool) (ecc : List MemUpset) (s : State) : Result :=
  .next (
    let s := s.upset ecc
    match s.stackSide.migs.find? (fun g => !g.switching && g.moves.any (fun m => m.slab == y.toNat)) with
    | none => s
    | some g =>
      if dstFail then (s.abortMigration g).releaseHeld
      else
        let r := s.copyTiles g SlabMove.todo
        match r.2 with
        | some x => r.1.copyFailed g x
        | none =>
          let mv := g.moves.map (fun m =>
            { m with todo := m.written.filter (fun t => !m.todo.contains t || late.contains (m.slab * 512 + t)), written := [] })
          let sw := mv.all (fun m => decide (m.todo.length ≤ 16)) || decide (4 ≤ g.pass)
          let g' : Migration := { g with moves := mv, pass := g.pass + 1, switching := sw }
          let s := r.1.updStacks (fun k => { k with migs := k.migs.map (fun m => if m = g then g' else m) })
          if sw then s.each mv (fun s m => s.cpCommit (Reg.hubSlab m.slab) (slabWord true m.src 2 m.dst)) else s)

/-- MIGRATION_SWITCH (R273): with no request outstanding on the source frames, the last tiles are copied, the entries map the
destinations, the held translations go on, and the source frames become clearing. -/
def execMigrationSwitch (y : BitVec 19) (ecc : List MemUpset) (s : State) : Result :=
  .next (
    let s := s.upset ecc
    match s.stackSide.migs.find? (fun g => g.switching && g.moves.any (fun m => m.slab == y.toNat)) with
    | none => s
    | some g =>
      if (List.range 12).any (fun n => (s.stackSide.tracked.get n).any (fun t => g.moves.any (fun m => m.src == t.frame))) then s
      else
        let r := s.copyTiles g (fun m => m.todo ++ m.written.filter (fun t => !m.todo.contains t))
        match r.2 with
        | some x => r.1.copyFailed g x
        | none =>
          let s := r.1.updStacks (fun k => { k with migs := k.migs.filter (fun m => m ≠ g) })
          let s := s.each g.moves (fun s m =>
            let sys := s.rdB (Reg.hubDescW0 (handleIndex m.handle)) 1
            ((s.cpCommit (Reg.hubSlab m.slab) (slabWord true m.dst 0 0)).setFrames [m.dst]
              (if sys then .system else .resident)).setFrames [m.src] .clearing)
          (s.count Reg.hubMigDone g.moves.length).releaseHeld)

/-- PC_RETIRED (R277): no frame of a draining pseudo-channel is resident, system or copying-to: it is retired and its frames
are lost. -/
def execPcRetired (n : Fin 12) (p : Fin 64) (s : State) : Result :=
  .next (
    let lo := frameNo n.val (512 * p.val)
    if s.rdF (Reg.stkPcState n p) 1 0 = 1 ∧
        s.heldFrames lo (lo + 512) (fun x => decide (x = .resident ∨ x = .system ∨ x = .copyingTo)) = 0 then
      (((s.wrF (Reg.stkPcState n p) 1 0 2).syncStatus n).setFrames ((List.range 512).map (· + lo)) .lost).event 0x305
        (.stack n.val) p.val
    else s)

/-- DRAIN_RETRY (R278): the stranded tiles that have been rewritten whole, or whose handle is destroyed, no longer block the
drain; the slabs may migrate again. -/
def execDrainRetry (n : Fin 12) (p : Fin 64) (s : State) : Result :=
  .next (
    let key := 64 * n.val + p.val
    let left := (s.stackSide.stranded.get key).filter (fun t =>
      s.rdB (Reg.hubDescW0 (handleIndex t.handle)) 0 && s.rdF (Reg.hubDescW0 (handleIndex t.handle)) 11 4 == handleGen t.handle && !t.rewritten)
    (s.updStacks (fun k => { k with stranded := k.stranded.set key left })).wrF (Reg.stkPcState n p) 2 2
      (b2n (!left.isEmpty)))

end Sys2Proof.Machine
end

