-- ==== Sys2Proof/Machine/HostCmds.lean ====
section
/-!
DEFINITION. The commands of the host interface (12_host_interface.md R491 to R525, R548, R551 to R554): captured writes, doorbells,
beats, queues, windows, submission, completion, resets and negotiation.
-/
namespace Sys2Proof.Machine

/-! ### The capture ring (R491 to R495, R551 to R554) -/

/-- BAR0_WRITE (R491, R492, R494, R552): a write of a present function becomes a capture entry; one of bad width, alignment or
offset is discarded with 0x901, one beyond 768 unconsumed with 0x902. A go while fstate is 3 makes it 4 (R521). -/
def execBar0Write (h : Fin 2) (f : Fin 5) (off : BitVec 16) (wide : Bool) (v : W64) (s : State) : Result :=
  .next (
    let h := h.val
    let f := f.val
    let off := off.toNat
    let s := { s with answer := .none }
    if !s.fnPresent h f then s
    else if !bar0Ok f off wide then s.hostError h f .bar0Write off
    else if 768 ≤ s.rdF (Reg.hifCapPend h f) 9 0 then
      ((s.wrB (Reg.hifCapCtrl h) (8 + f) true).wrB (Reg.hifEmuStatus h f) 3 true).fnEvent 0x902 h f 0
    else
      let i := s.rdF (Reg.hifCapProd h) 31 0
      let s := s.wr (capWord h i 0) (BitVec.ofNat 64 (i + off * 2 ^ 32 + (f + 8 * b2n wide) * 2 ^ 48))
      let s := s.wr (capWord h i 1) (if wide then v else v &&& fldMask 31 0)
      let s := (s.wr (Reg.hifFnLast h f) (BitVec.ofNat 64 i)).wr (Reg.hifEmuCapseq h f) (BitVec.ofNat 64 i)
      let s := s.wrF (Reg.hifCapPend h f) 9 0 (s.rdF (Reg.hifCapPend h f) 9 0 + 1)
      let s := s.wr (Reg.hifCapProd h) (BitVec.ofNat 64 ((i + 1) % 2 ^ 32))
      let go := (off == 0x44 && v.getLsbD 31) || (off == 0x40 && wide && v.getLsbD 63)
      s.cond (go && s.fstate h f == 3) (fun s => s.setFstate h f 4))

/-- The oldest unconsumed entry of a port's capture ring is handled (R553): passed when void (R554), set aside while its
function is quiescing (R521), and otherwise applied. -/
def State.consumeOne (s : State) (h : Nat) : State :=
  match s.unconsumed h with
  | [] => s
  | i :: _ =>
    let (off, f, wide, void, v) := s.capEntry h i
    let st := s.fstate h f
    let s :=
      if void then s
      else if st = 3 ∨ st = 4 then s.updFn h f (fun x => { x with parked := x.parked ++ [(i, off, wide, v)] })
      else (s.applyWrite h f off wide v).consumed h f i
    let s := s.wr (Reg.hifCapCons h) (BitVec.ofNat 64 ((i + 1) % 2 ^ 32))
    s.each (List.range 5) (fun s f => s.releaseBells h f)

/-- CAPTURE_CONSUME (R553). -/
def execCaptureConsume (h : Fin 2) (s : State) : Result := .next ({ s with answer := .none }.consumeOne h.val)

/-- HIF_CAP_CONS takes a new value (R553): the books of every entry passed, and the doorbells that the new value lets go. -/
def State.passTo (s : State) (h v : Nat) : State :=
  let c := s.rdF (Reg.hifCapCons h) 31 0
  let n := sub32 v c
  let s := s.each ((s.unconsumed h).take n) (fun s i =>
    let (_, f, _, void, _) := s.capEntry h i
    if void then s else s.consumed h f i)
  let s := s.wr (Reg.hifCapCons h) (BitVec.ofNat 64 v)
  s.each (List.range 5) (fun s f => s.releaseBells h f)

/-- HIF_CAP_CONS_WRITE (R550, R553): only the SCH writes, and only a value from the one in force up to HIF_CAP_PROD. -/
def execHifCapConsWrite (ag : Agent) (h : Fin 2) (v : W32) (s : State) : Result :=
  .next (s.csrAccess ag (Reg.hifCapCons h) 4 true (fun s =>
    let c := s.rdF (Reg.hifCapCons h) 31 0
    let p := s.rdF (Reg.hifCapProd h) 31 0
    if ag ≠ .sch ∨ sub32 p c < sub32 v.toNat c then s.refuseWrite ag
    else s.passTo h v.toNat))

/-- DOORBELL (R495, R501, R513, R553): taken at once when the function has no unconsumed captured write, held behind the latest
otherwise, and discarded while the function is orphaned (R517) or PF0 is limited (R524). -/
def execDoorbell (h : Fin 2) (f : Fin 5) (q : Fin 16) (head : Bool) (v : W32) (s : State) : Result :=
  .next (
    let h := h.val
    let f := f.val
    let s := { s with answer := .none }
    let b : HeldBell := { q := q.val, head := head, value := v.toNat, tag := s.rdF (Reg.hifFnLast h f) 31 0 }
    if !s.fnPresent h f || (s.fstate h f == 2 && s.rdF (Reg.hifCapPend h f) 9 0 == 0) then s
    else if s.rdF (Reg.hifCapPend h f) 9 0 = 0 ∧ (s.fn h f).bells = [] then s.bell h f b
    else s.updFn h f (fun x => { x with bells := x.bells ++ [b] }))

/-! ### Beats and orphans (R515, R516, R519) -/

/-- HEARTBEAT (R501, R515): a beat counts on arrival and starts the function's windows. -/
def execHeartbeat (h : Fin 2) (f : Fin 5) (s : State) : Result :=
  .next (
    let h := h.val
    let f := f.val
    let s := { s with answer := .none }
    if !s.fnPresent h f then s
    else
      let n := (s.rdF (Reg.hifHbCount h f) 31 0 + 1) % 2 ^ 32
      let s := s.wr (Reg.hifHbCount h f) (BitVec.ofNat 64 n)
      if s.fstate h f = 1 then
        (s.wrF (Reg.hifEmuHb h f) 18 16 0).updFn h f (fun x => if x.beating then x else { x with beating := true, beats := n })
      else s)

/-- HEARTBEAT_WINDOW_END (R515, R516, R554): a window with no beat increments missed; the third in a row orphans a ready
function with cause 1. No window ends in Doze (R624). -/
def execHeartbeatWindowEnd (h : Fin 2) (f : Fin 5) (s : State) : Result :=
  .next (
    let h := h.val
    let f := f.val
    let s := { s with answer := .none }
    if !(s.fn h f).beating || !s.domOn (hostDomain h) || s.host.stopped then s
    else
      let n := s.rdF (Reg.hifHbCount h f) 31 0
      let m := if n = (s.fn h f).beats then min 7 (s.rdF (Reg.hifEmuHb h f) 18 16 + 1) else 0
      let s := (s.wrF (Reg.hifEmuHb h f) 18 16 m).updFn h f (fun x => { x with beats := n })
      s.cond (3 ≤ m) (fun s => s.orphanFn h f 1))

/-- ORPHAN_KEEP_EXPIRE (R519): orphan_keep has passed with neither ADOPT nor DISCARD; 0 never expires. -/
def execOrphanKeepExpire (h : Fin 2) (f : Fin 5) (s : State) : Result :=
  .next (
    let h := h.val
    let f := f.val
    let s := { s with answer := .none }
    let keep := match s.fnPart h f with | some p => (s.host.policies.get p).orphanKeep | none => 600
    if (s.fn h f).orphan && keep != 0 then s.settleCmds.discardOrphan h f else s)

/-! ### Queues and windows (R499, R500, R502) -/

/-- QUEUE_CREATE (R499, R502): a QCTRL value with enable set takes effect. -/
def execQueueCreate (h : Fin 2) (f : Fin 5) (q : Fin 16) (v : W32) (s : State) : Result :=
  .next (
    let s := { s with answer := .none }
    if v.getLsbD 15 ∧ s.fnPresent h f ∧ s.fstate h f ≠ 2 ∧ s.fstate h f ≠ 5 then s.setQctrl h f q (v.setWidth 64) else s)

/-- QUEUE_DELETE (R499, R502): a QCTRL value with enable clear takes effect. -/
def execQueueDelete (h : Fin 2) (f : Fin 5) (q : Fin 16) (v : W32) (s : State) : Result :=
  .next (
    let s := { s with answer := .none }
    if !v.getLsbD 15 ∧ s.fnPresent h f ∧ s.fstate h f ≠ 2 ∧ s.fstate h f ≠ 5 then s.setQctrl h f q (v.setWidth 64) else s)

/-- WINDOW_SET (R500, R594). -/
def execWindowSet (h : Fin 2) (f : Fin 5) (w : Fin 32) (v : W64) (s : State) : Result :=
  .next (
    let s := { s with answer := .none }
    if s.fnPresent h f ∧ s.fstate h f ≠ 2 ∧ s.fstate h f ≠ 5 then s.setWindow h f w v else s)

/-! ### Submission and completion (R502 to R506, R548) -/

/-- Whether the SCH fetches for a function now: ready or limited, nothing buffered, master enabled, no stop of fetching, and a
usable partition map for a virtual function (R505, R506, R576). -/
def State.mayFetch (s : State) (h f : Nat) : Bool :=
  s.ready && !s.host.stopped && s.fnPresent h f && (s.fstate h f == 1 || s.fstate h f == 5) && (s.fn h f).buffer.isEmpty
    && (s.hport h).master.get f && (f == 0 || s.mapOk)

/-- SUBMISSION_FETCH (R502, R503, R505): the next entry of a queue, as the host answers the read of its 64 bytes; a ring that
cannot be read stops the queue with event 0x909. `bad`: the partition map shows a complement mismatch at this use (R576). -/
def execSubmissionFetch (h : Fin 2) (f : Fin 5) (q : Fin 16) (host : HostData) (bad : Bool) (s : State) : Result :=
  .next (
    let h := h.val
    let f := f.val
    let q := q.val
    let s := ({ s with answer := .none } : State).cond bad (fun s => s.mismatchAt Reg.secPartMap)
    let k := s.queue h f q
    let at_ := s.rdF (Reg.hifEmuQstat h f q) 31 16
    let n := 16 * 2 ^ k.sqLog
    if !s.mayFetch h f || !k.live || k.error || at_ % n == k.tail % n then s
    else if !(host.ok && host.data.length == 64) then
      ((s.updQueue h f q (fun k => { k with error := true })).fnEvent 0x909 h f q).hostFailed h f host.reason
        (k.sqBase.toNat + 64 * at_)
    else
      let s := s.wrF (Reg.hifEmuQstat h f q) 31 16 ((at_ + 1) % n)
      (s.updFn h f (fun x => { x with cmds := x.cmds ++ [{ q := q, entry := host.data }] })).startQueue h f q)

/-- FENCED_COMMAND_START (R505): a command with the fence bit starts once every earlier one of its queue is complete. -/
def execFencedCommandStart (h : Fin 2) (f : Fin 5) (q : Fin 16) (s : State) : Result :=
  .next (({ s with answer := .none } : State).settleCmds.startQueue h f q)

/-- COMPLETION_POST (R504, R506): buffered completions go to their rings while they fit, and then the first command that has
completed posts its own. -/
def execCompletionPost (h : Fin 2) (f : Fin 5) (s : State) : Result :=
  .next (
    let s := ({ s with answer := .none } : State).settleCmds
    (s.drainCpl h f ((s.fn h f).buffer.length)).postOne h f)

/-- Opcodes whose commands move data between the device and host memory, with the byte of their bus address. -/
def hostOps : List (Nat × Nat) := [(0x13, 24), (0x21, 8), (0x30, 8), (0x41, 8), (0x44, 8), (0x48, 8), (0x49, 16), (0x4D, 8)]

/-- HOST_COMPLETION_TIMEOUT (R514): a device-initiated access of a function has had no completion for 50 ms and fails: the DMX
transfer with a token, or else the first started command that moves host data. -/
def execHostCompletionTimeout (h : Fin 2) (f : Fin 5) (tok : Option (BitVec 8)) (s : State) : Result :=
  .next (
    let h := h.val
    let f := f.val
    let s := { s with answer := .none }
    match tok, s.fnPart h f with
    | some tok, some q =>
      (match (s.seq q).transfers.find? (fun t => decide (t.token = tok.toNat) && (t.op == 6 || t.op == 7)) with
      | some t =>
        let far := match t.parts with | p :: _ => p.far | [] => 0
        ((s.updSeq q (fun z => { z with transfers := z.transfers.filter (fun x => x.token ≠ t.token) })).hostFailed h f 3 far).tokenPart
          q t.token false
      | none => s)
    | none, _ =>
      (match (s.fn h f).cmds.find? (fun c => c.stage = .started ∧ hostOps.any (fun o => o.1 = c.op)) with
      | some c =>
        let at_ := ((hostOps.find? (fun o => o.1 = c.op)).map Prod.snd).getD 8
        (s.hostFailed h f 3 (c.par at_ 8)).finish h f c 0xF
      | none => s)
    | _, none => s)

/-! ### Configuration, negotiation and resets (R487, R488, R516, R520 to R525, R614) -/

/-- PCIE_CONFIG_REQUEST (R487, R488, R611, R614): Request Retry Status until the device is ready; then the identity, a bus-master
enable, or SR-IOV control of the port. -/
def execPcieConfigRequest (h : Fin 2) (f : Fin 5) (r : CfgReq) (s : State) : Result :=
  .next (
    let h := h.val
    let f := f.val
    let s := { s with answer := .none }
    if !s.domOn (hostDomain h) || !(s.hport h).up then s
    else if !s.ready then { s with answer := .retry }
    else if f ≠ 0 ∧ !s.fnPresent h f then s
    else match r with
      | .identity => { s with answer := .data (setFld (setFld (setFld 0 15 0 Config.vendorId.toNat) 31 16 (if f = 0 then 0x4810 else 0x4811))
          63 40 0x120000) }
      | .busMaster on => s.updHport h (fun p => { p with master := p.master.set f on })
      | .sriov en n =>
        if f ≠ 0 ∨ 4 < n then s
        else
          let s := s.updHport h (fun p => { p with vfEnable := en, numVfs := n })
          s.each ((List.range 5).filter (fun f => (s.fn h f).flrDue && s.fnPresent h f)) (fun s f =>
            (s.flr h f).updFn h f (fun x => { x with flrDue := false })))

/-- NEGOTIATE (R523 to R525): firmware answers a go that waits. -/
def execNegotiate (h : Fin 2) (f : Fin 5) (s : State) : Result :=
  .next (
    let s := ({ s with answer := .none } : State).settleCmds
    let st := s.fstate h f
    if (s.fn h f).asked && s.ready && s.fnPresent h f && st != 3 && st != 4 then s.negotiate h f else s)

/-- FLR of a virtual function (R516, R520). -/
def execFlr (h : Fin 2) (m : Fin 4) (s : State) : Result :=
  .next (
    let f := m.val + 1
    let s := { s with answer := .none }
    if s.fnPresent h f then s.flr h f else s)

/-- FLR_QUIESCE (R520, R521): no host request of the function is outstanding, so it leaves the state of shutting down, and what
it held back is handled in order. -/
def execFlrQuiesce (h : Fin 2) (f : Fin 5) (s : State) : Result :=
  .next (
    let s := ({ s with answer := .none } : State).settleCmds
    if (s.fstate h f = 3 ∨ s.fstate h f = 4) ∧ s.fnQuiet h f ∧ (f.val = 0 ∨ (s.sec.stopping.get (f.val - 1)).isNone) then s.quiesceFn h f else s)

/-- PF0_FLR (R520, R522): PF0 is reset, VF Enable clears and each ready virtual function is orphaned with cause 2; the rest of its
own FLR follows when VF Enable is set again. -/
def execPf0Flr (h : Fin 2) (s : State) : Result :=
  .next (
    let h := h.val
    let s := ({ s with answer := .none } : State).settleCmds
    if !s.fnPresent h 0 then s
    else
      let fs := (List.range 5).filter (fun f => s.fnPresent h f)
      let s := s.each (fs.filter (· ≠ 0)) (fun s f =>
        (s.orphanFn h f 2).updFn h f (fun x => { x with flrDue := true }))
      let s := ((s.orphanFn h 0 2).fnEvent 0x906 h 0 0).fnReset h 0
      s.updHport h (fun p => { p with vfEnable := false, numVfs := 0 }))

/-- PORT_LINK_RESET (R516, R522): link-down, hot reset or PERST acts on every function of the port as an FLR does, with cause 3
and one event 0x907; `up` ends it. -/
def State.portLinkReset (s : State) (h kind : Nat) : State :=
  let s := s.settleCmds
  if kind = 0 then s.updHport h (fun p => { p with up := s.domOn (hostDomain h) })
  else
    let fs := (List.range 5).filter (fun f => s.fnPresent h f)
    let s := s.fnEvent 0x907 h 0 kind
    let s := s.each fs (fun s f =>
      let part := s.fnPart h f
      let s := s.orphanFn h f 3
      let s := match part with
        | some p => s.cond (s.host.policies.get p).abortOnFlr (abortRecipe p)
        | none => s
      s.fnReset h f)
    s.updHport h (fun p => { p with up := false, vfEnable := false, numVfs := 0 })

/-- PORT_LINK_RESET; kind 1 is link-down, 2 hot reset, 3 PERST, and 0 the link's coming up again. -/
def execPortLinkReset (h : Fin 2) (kind : Fin 4) (s : State) : Result :=
  .next (({ s with answer := .none } : State).portLinkReset h kind)

end Sys2Proof.Machine
end

