-- ==== Sys2Proof/Machine/Firm.lean ====
section
/-!
DEFINITION. Firmware bundles, measurement and the start of components (13_firmware_mailboxes.md R557 to R569;
14_security_partitions.md R586, R587).
-/
namespace Sys2Proof.Machine

/-! ### Bundles (R557 to R559) -/

/-- A component entry of a bundle (R558). -/
structure BundleEntry where
  type : Nat
  version : Nat
  off : Nat
  len : Nat
  fmtMin : Nat
  fmtMax : Nat
  fmt : Nat
  zero : Bool
deriving DecidableEq, Repr, Inhabited

/-- Component entry `k` of a bundle. -/
def bundleEntry (b : List Byte) (k : Nat) : BundleEntry :=
  let n := fun (o w : Nat) => bodyNat b (0x20 + 32 * k + o) w
  { type := n 0 1, version := n 4 4, off := n 8 4, len := n 12 4, fmtMin := n 16 2, fmtMax := n 18 2, fmt := n 20 2,
    zero := n 1 3 == 0 && n 22 10 == 0 }

/-- The component entries of a bundle. -/
def bundleEntries (b : List Byte) : List BundleEntry := (List.range 6).map (bundleEntry b)

/-- The entry of a component type. -/
def bundleOf (b : List Byte) (ty : Nat) : BundleEntry := ((bundleEntries b).find? (fun e => e.type = ty)).getD default

/-- The bytes of a component. -/
def BundleEntry.bytes (e : BundleEntry) (b : List Byte) : List Byte := (b.drop e.off).take e.len

/-- Largest length of a component type (R558). -/
def componentLimit : Nat → Nat
  | 1 => 0x200000 | 2 => 0x80000 | 3 => 0x800000 | 4 => 0x400000 | 5 => 0x40000 | 6 => 0x40000 | _ => 0

/-- Bundle version. -/
def bundleVersion (b : List Byte) : Nat := bodyNat b 8 4

/-- Security version number of a bundle. -/
def bundleSvn (b : List Byte) : Nat := bodyNat b 12 4

/-- A 512-bit digest as its 64 bytes, ascending (R606). -/
def digestBytes (d : BitVec 512) : List Byte := leBytes 64 d.toNat

/-- Whether a bundle is well formed, its digest matches and its signature verifies (R559, but for the security version). -/
def bundleGenuine (b : List Byte) : Bool :=
  let es := bundleEntries b
  bodyNat b 0 4 == 0x4B5A4657 && bodyNat b 4 4 == 1 && bodyNat b 0x10 4 == 6
    && (List.range 6).all (fun k => (es.filter (fun e => e.type == k + 1)).length == 1)
    && es.all (fun e => e.zero && e.off % 4096 == 0 && decide (0x2000 ≤ e.off ∧ e.off + e.len ≤ min b.length 0x2000000 ∧
      e.len ≤ componentLimit e.type))
    && (b.drop 0x100).take 64 == digestBytes (sha3_512 (b.take 0x100 ++ es.flatMap (fun e => e.bytes b)))
    && Config.mldsaVerify Config.firmwareKey (b.take 0x140) ((b.drop 0x140).take 4627)

/-- The bytes of an image slot: 0 A, 1 B. -/
def State.slotBytes (s : State) (x : Nat) : List Byte := if x = 0 then s.fw.slotA else s.fw.slotB

/-- The SEC writes an image slot. -/
def State.writeSlot (s : State) (x : Nat) (b : List Byte) : State :=
  { s with fw := if x = 0 then { s.fw with slotA := b } else { s.fw with slotB := b } }

/-- A check of a slot with its events: 0x70D for a bundle below the floor (R587). -/
def State.checkSlot (s : State) (x : Nat) : State × Bool :=
  let b := s.slotBytes x
  if !bundleGenuine b then (s, false)
  else if bundleSvn b < s.fuses.svnFloor then (s.event 0x70D .none x, false)
  else (s, true)

/-- The active slot (R531). -/
def State.activeSlot (s : State) : Nat := s.config.record.slot

/-! ### Components (R563, R564, R569, R586) -/

/-- A 512-bit digest in eight registers from an address on, ascending (R62, R606). -/
def State.wrDigest (s : State) (a : Nat) (d : BitVec 512) : State :=
  s.each (List.range 8) (fun s i => s.wr (a + 8 * i) ((d >>> (64 * i)).setWidth 64))

/-- Component `k` starts from a slot (R569, R586): its version, slot and measurement; a running SCH's interface bytes (R557). -/
def State.startComponent (s : State) (k x : Nat) : State :=
  let b := s.slotBytes x
  let e := bundleOf b k
  let c := Reg.hubFwComp (k - 1)
  let s := (((s.wrF c 31 0 e.version).wrF c 32 32 x).wrF c 35 33 2)
  s.wrDigest (Reg.secMeas k 0) (sha3_512 (e.bytes b))

/-- State of component `k` (R569). -/
def State.setCompState (s : State) (k x : Nat) : State := s.wrF (Reg.hubFwComp (k - 1)) 35 33 x

/-- Whether a cluster may take a new CCC image now (R564): spare or disabled, or its partition idle, ended or faulted. -/
def State.cccMayTake (s : State) (c : Nat) : Bool :=
  let st := s.seqState (s.leadOf (c / 16))
  s.boundIndex c == none || st == 0 || st == 7 || st == 8

/-- A unit takes its new image (R564, R586): component 5 for cluster `i`, 6 for stack `i`; the first one to take it replaces the
measurement, and the component has adopted it when the last one has. -/
def State.takeImage (s : State) (k i : Nat) : State :=
  let wait := if k = 5 then s.fw.cccWait else s.fw.bdcWait
  if !natBit wait i then s
  else
    let b := bundleOf (s.slotBytes s.fw.unitSlot) k
    let s := s.cond (s.rdF (Reg.hubFwComp (k - 1)) 31 0 != b.version || s.rdF (Reg.hubFwComp (k - 1)) 32 32 != s.fw.unitSlot)
      (fun s => s.startComponent k s.fw.unitSlot)
    let rest := wait - 2 ^ i
    let s := { s with fw := if k = 5 then { s.fw with cccWait := rest } else { s.fw with bdcWait := rest } }
    let s := s.wrF (Reg.hubFwComp (k - 1)) 42 36 (bitsSet rest 64).length
    s.cond (rest == 0) (fun s => (s.wrB Reg.hubFwUpd (3 + k) false).wrB Reg.hubFwUpd (9 + k) true)

end Sys2Proof.Machine
end

