-- ==== Sys2Proof/Machine/Power.lean ====
section
/-!
DEFINITION. Power domains, the floor plan and self-test as shared operations (01_module_floor_plan.md R48 to R65;
14_security_partitions.md R583; 15_bringup_reset_power.md R609 to R622; 02 R201).
-/
namespace Sys2Proof.Machine

/-! ### Domains (R48 to R53) -/

/-- The domains that a domain requires (R50). -/
def domainNeeds (i : Nat) : List Nat :=
  if i < 16 then [17, 25] else if i = 16 then [] else if i = 17 ∨ 26 ≤ i then [16] else [17]

/-- The domains that require a domain. -/
def domainUsers (i : Nat) : List Nat := (List.range 38).filter (fun j => (domainNeeds j).contains i)

/-- Registers that count since cold reset, with the bits that count (R286, R287, R292, R329, R372, R425, R457, R551). -/
def countsSinceCold : List (String × W64) :=
  ([["HUB_MIG_STARTED", "HUB_MIG_DONE", "HUB_MIG_ABORTED"],
    ["STK_PC_CE", "STK_PC_UE", "STK_BE_ITEMS", "STK_BE_REMOTE", "STK_BE_EXC"],
    ["PRT_TX_FRAMES", "PRT_RX_FRAMES", "PRT_RX_DROP", "PRT_REPLAYS", "PRT_NAKS", "PRT_HOLD_DISCARD", "PRT_FEC_UCW", "PRT_LANE_CBITS"],
    ["RTR_OUT_BYTES", "RTR_OUT_MARKS", "RTR_DROP", "RTR_NACK_TX", "RTR_RETX", "RTR_LOSS_TX", "RTR_FC_HIT", "RTR_FC_MISS"],
    ["CLX_TX_BYTES", "CLX_RX_BYTES", "CLX_DUP_TILES", "CLX_DEGRADED", "CLX_FAILED", "CLX_EXC"],
    ["HIF_HB_COUNT"]].flatten.map
      (fun n => (n, fldMask 63 0)))
    ++ [("HUB_HMAP_ERR", fldMask 63 32), ("RTR_RT_ERR", fldMask 63 32), ("RTR_RT_EPOCH", fldMask 31 16)]

/-- The bits of the register at `a` that count since cold reset. -/
def sinceCold (a : Nat) : W64 :=
  match findReg a with
  | some (d, _, _) => ((countsSinceCold.find? (fun c => c.1 = d.name)).map Prod.snd).getD 0
  | none => 0

/-- Every register of a range returns to its reset value, and nothing is pending or unusable there; counts since cold reset go on. -/
def State.resetRange (s : State) (lo hi : Nat) : State :=
  let back : Tbl W64 := resetCsr.filter (fun e => lo ≤ e.1 ∧ e.1 < hi)
  let kept := (s.csr.filter (fun e => lo ≤ e.1 ∧ e.1 < hi ∧ sinceCold e.1 ≠ 0)).map (fun e =>
    (e.1, (resetOf e.1 &&& ~~~ sinceCold e.1) ||| (e.2 &&& sinceCold e.1)))
  { s with csr := ((s.csr.clear lo hi).addAll back).addAll kept, cpPend := s.cpPend.clear lo hi, cpBad := s.cpBad.clear lo hi }

/-- Memory, checks and word errors of a range of DPAs read as at reset. -/
def State.blankRange (s : State) (lo hi : Nat) : State :=
  { s with
    mem := Tbl.clear s.mem lo hi
    syn := Tbl.clear s.syn (lo / 4096) (hi / 4096)
    wordErr := (Tbl.clear s.wordErr (lo / 8) (hi / 8)).clearRange (checkKey (lo / 4096), checkKey (hi / 4096))
    lineErr := Tbl.clear s.lineErr (lo / 64) (hi / 64) }

/-- A cluster loses its state (R48, R201). -/
def State.loseCluster (s : State) (c : Nat) : State :=
  (s.resetRange (Blk.clu + c * 0x100000) (Blk.clu + (c + 1) * 0x100000)).blankRange (clusterStore c) (clusterStore (c + 1))

/-- A stack loses its state, its frames with it; what retired there is known from the fuses (R277, R583, R655). -/
def State.loseStack (s : State) (n : Nat) : State :=
  let a := n * 0x1000000000
  let s := s.abortMigrations (fun g => g.moves.any (fun m => m.src / 32768 = n ∨ m.dst / 32768 = n))
  let s := (s.resetRange (Blk.stk + n * 0x1000000) (Blk.stk + (n + 1) * 0x1000000)).blankRange a (a + 0x1000000000)
  let s := { s with bases := s.bases.set n default }
  (s.updStacks (fun k => { k with
    tracked := k.tracked.set n []
    waiting := k.waiting.set n []
    heat := k.heat.clear (frameNo n 0) (frameNo (n + 1) 0)
    heatBefore := k.heatBefore.clear (frameNo n 0) (frameNo (n + 1) 0) })).syncParts.releaseHeld

/-- The ports of a link group go down with it (R355): R348 applies to their frames, RESYNC following when the port is up again; what the
router had queued is routed again (R386); a retired port stays retired (R354). DESIGN CHOICE: the numbers of the lsn state and the input
buffer go with the domain, and RESYNC sets the numbers again. -/
def State.losePort (s : State) (p : Nat) : State :=
  let k := s.port p
  let gone := s.lstate p == 6
  let s := (s.discardReplay p).cond (!k.replay.isEmpty) (fun s => s.event 0x409 (.port p))
  let s := s.requeue p
  let s := (s.resetRange (Blk.prt + p * 0x10000) (Blk.prt + (p + 1) * 0x10000)).updPort p (fun _ =>
    { present := k.present, settled := k.settled, resyncDue := true, wasDown := true })
  (s.cond gone (fun s => s.wrF (Reg.prtStatus p) 2 0 6)).setMacs

/-- A host port loses its state. -/
def State.loseHost (s : State) (h : Nat) : State :=
  let s := s.resetRange (Blk.hif + h * 0x100000) (Blk.hif + (h + 1) * 0x100000)
  { s with host := { s.host with fns := s.host.fns.clear (8 * h) (8 * h + 8), ports := s.host.ports.set h default } }

/-- The sequencers and collective engines lose their state. -/
def State.loseQueues (s : State) : State :=
  let s := s.resetRange Blk.seq (Blk.seq + 0x4000000)
  { s with seqs := [], clxs := [] }

/-- Registers of the hub block that the crust's cores put there and put back when H.R comes on: HUB_ID from the fuses (R23), the port
plan (R339), the manager's settings (R461), and the state of updates, of the SEC's and of the PMC's images (R569). -/
def hubKept : List Nat :=
  [Reg.hubId, Reg.hubPortPlan, Reg.hubPortPlanNext, Reg.hubFmCtrl, Reg.hubFmMachine, Reg.hubFwUpd, Reg.hubFwComp 0, Reg.hubFwComp 1]

/-- The router, the hub datapath and the handle map lose their state, and with RTR_NODE the ports' node addresses (R356). -/
def State.loseHub (s : State) : State :=
  let kept := hubKept.map (fun a => (a, s.rd a))
  let s := (s.resetRange Blk.hub (Blk.hub + 0x1000000)).resetRange Blk.rtr (Blk.rtr + 0x1000000)
  let s : State := { s with router := {}, stackSide := {}, saved := [] }
  (s.each kept (fun s e => s.wr e.1 e.2)).setMacs

/-- The state that is lost when a domain goes off (R48). -/
def State.loseDomain (s : State) (i : Nat) : State :=
  if i < 16 then s.each ((List.range 4).map (· + 4 * i)) State.loseCluster
  else if i = 17 then s.loseHub
  else if 18 ≤ i ∧ i ≤ 21 then s.each ((List.range 4).map (· + 4 * (i - 18))) State.losePort
  else if i = 22 ∨ i = 23 then s.loseHost (i - 22)
  else if i = 24 then { s with fm := { origin := s.fm.origin } }
  else if i = 25 then s.loseQueues
  else if 26 ≤ i then s.loseStack (i - 26)
  else s

/-- A domain goes off. -/
def State.turnOff (s : State) (i : Nat) : State := (s.wrB Reg.pmcDomState i false).loseDomain i

/-- A domain comes on: the cores of a quadrant or of a stack start (R528), and a stack begins training (R288). -/
def State.turnOn (s : State) (i : Nat) : State :=
  if s.domOn i then s
  else
    let s := s.wrB Reg.pmcDomState i true
    if i < 16 then s.each ((List.range 4).map (· + 4 * i)) (fun s c => s.agentStart (0x10 + c))
    else if i = 25 then s.each (List.range 4) (fun s m => s.wrF (Reg.clxStatus m) 1 0 1)
    else if 26 ≤ i then (s.agentStart (0x50 + (i - 26))).wrF (Reg.stkStatus (i - 26)) 2 0 1
    else s

/-! ### The floor plan (R55 to R63) -/

/-- HUB_FP_CLU of a cluster as the facts stand (R57, R58). -/
def State.cluWord (s : State) (c : Nat) : W64 :=
  let f := s.clusters.get c
  let j := s.boundIndex c
  let st := f.state j.isSome
  let w := setFld (setFld (setFld 0 26 0 f.low) 34 32 st) 35 35 (b2n f.fuseOff)
  let w := setFld (setFld w 36 36 (b2n f.testFail)) 37 37 (b2n f.fieldRetired)
  if st = 0 then setFld (setFld w 45 40 (15 * (c / 16) + j.getD 0)) 47 46 (s.partOfDie (c / 16)) else setFld w 45 40 0x3F

/-- HUB_FP_STK_CH of a stack: the pseudo-channels in state usable (R60, R277). -/
def State.stkWord (s : State) (n : Nat) : W64 :=
  if s.stackPooled n then
    (List.range 64).foldl (fun w p => if s.rdF (Reg.stkPcState n p) 1 0 = 0 then setBit w p true else w) 0
  else 0

/-- HUB_FP_PORT of a port (R61). -/
def State.portWord (s : State) (p : Nat) : W64 :=
  let e := s.planEntry p
  let st := s.lstate p
  let x := if st = 6 then 4 else if e = 0xF then 0 else if st ≠ 3 then 3 else if e < 8 then 1 else if e = 0xD then 2 else 0
  setFld (setFld (setFld (setFld 0 7 0 (s.port p).laneOk) 10 8 x) 11 11 (b2n (s.rdB (Reg.prtStatus p) 5))) 15 12
    (if e < 8 then e else 0xF)

/-- HUB_FP_SUMMARY (R56). -/
def State.floorSummary (s : State) : W64 :=
  let usable := ((List.range 64).filter (fun c => decide ((s.clusters.get c).state false ≤ 1))).length
  let w := setFld (setFld 0 6 0 usable) 14 8 (64 - usable)
  let w := (List.range 4).foldl (fun w d => setBit w (16 + d) (s.dieFloorOk d)) w
  (List.range 12).foldl (fun w n => setBit w (20 + n) (s.stkWord n == BitVec.allOnes 64)) w

/-- The fuse-map image (R583). -/
def Fuses.image (f : Fuses) : List Byte :=
  let b := leBytes 4 0x4B5A4655 ++ leBytes 4 1 ++ leBytes 8 f.serial.toNat ++ leBytes 4 f.lifecycle ++ leBytes 4 f.svnFloor
    ++ leBytes 8 f.clusterOff ++ leBytes 16 f.laneOff ++ (List.range 12).flatMap (fun n => leBytes 8 (f.pcOff.get n)) ++ leBytes 1 f.stepping
  b ++ List.replicate (256 - b.length) 0

/-- The bytes of the floor plan that the digest covers: summary, clusters, stacks and ports in ascending address (R62). -/
def State.floorBytes (s : State) : List Byte :=
  leBytes 4 (s.rd Reg.hubFpSummary).toNat ++ List.replicate (0x100 - 0xC) 0
    ++ (List.range 64).flatMap (fun c => leBytes 8 (s.rd (Reg.hubFpClu c)).toNat) ++ List.replicate 0x100 0
    ++ (List.range 12).flatMap (fun n => leBytes 8 (s.rd (Reg.hubFpStkCh n)).toNat) ++ List.replicate (0x100 - 0x60) 0
    ++ (List.range 16).flatMap (fun p => leBytes 4 (s.rd (Reg.hubFpPort p)).toNat)

/-- Whether two HUB_FP_CLU values differ in usability: in anything but the binding (R65). -/
def cluChanged (a b : W64) : Bool :=
  let st := fun (w : W64) => if fld w 34 32 = 1 then 0 else fld w 34 32
  fld a 26 0 != fld b 26 0 || fld a 37 35 != fld b 37 35 || st a != st b

/-- The registers of the floor plan as the facts stand, with one event for each unit whose usability changes (R63, R65). -/
def State.writeFloor (s : State) : State :=
  let s := s.wr Reg.hubFpSummary s.floorSummary
  let s := s.each (List.range 64) (fun s c =>
    let v := s.cluWord c
    (s.cond (cluChanged (s.rd (Reg.hubFpClu c)) v) (fun s => s.event 0x612 (.cluster c) v.toNat)).wr (Reg.hubFpClu c) v)
  let s := s.each (List.range 12) (fun s n =>
    let v := s.stkWord n
    (s.cond (s.rd (Reg.hubFpStkCh n) != v) (fun s => s.event 0x308 (.stack n) v.toNat)).wr (Reg.hubFpStkCh n) v)
  s.each (List.range 16) (fun s p =>
    let v := s.portWord p
    let old := s.rd (Reg.hubFpPort p)
    (s.cond (fld old 10 0 != fld v 10 0) (fun s => s.event 0x40D (.port p) v.toNat)).wr (Reg.hubFpPort p) v)

/-- A floor-plan update (R62, R63): gen moves from its even value over an odd one to the next even one. -/
def State.publish (s : State) : State :=
  let s := s.wr Reg.hubFpGen (s.rd Reg.hubFpGen + 1)
  let s := s.writeFloor
  let s := s.wrDigest (Reg.hubFpDigest 0) (sha3_512 (s.floorBytes ++ s.fuses.image))
  s.wr Reg.hubFpGen (s.rd Reg.hubFpGen + 1)

/-- A recipe whose bound cluster has retired under it stops with fault 0x06 (R127, R142). DESIGN CHOICE: SEQ_FAULT names that cluster's
virtual number; R155 gives the field where an engine failed and says nothing of 0x06. -/
def State.stopRetired (s : State) : State :=
  s.each (List.range 64) (fun s c =>
    match s.boundIndex c with
    | some j =>
      let q := s.leadOf (c / 16)
      if (s.clusters.get c).fieldRetired ∧ s.canStop q then
        s.stopRecipe q { code := 0x06, u := 15 * ((s.gang q).filter (· < c / 16)).length + j }
      else s
    | none => s)

/-- A publication, and what it means for running recipes. -/
def State.publishAll (s : State) : State := s.publish.stopRetired

/-! ### Self-test and CCC images (R555, R560, R615, R616) -/

/-- The facts of a cluster (R57). -/
def State.updCluster (s : State) (c : Nat) (f : ClusterFact → ClusterFact) : State := { s with clusters := s.clusters.upd c f }

/-- The result of a self-test of a cluster (R555, R616): bits 26:0, and event 0xA04 for a failure; a cluster that fails on every cell is
retired as a field retirement. -/
def State.testCluster (s : State) (c low : Nat) : State :=
  let s := s.updCluster c (fun f => { f with low := low % 2 ^ 27 })
  let f := s.clusters.get c
  let s := s.cond f.testFail (fun s => s.event 0xA04 (.cluster c))
  s.cond (f.testFail && low % 2 ^ 16 == 0 && !f.fieldRetired) (fun s => s.retireCluster c 2)

/-- Event 0xA03 for a cluster that is disabled by fuse and passes its test (R615, R671). -/
def State.clusterDiscrepancy (s : State) (c : Nat) : State :=
  let f := s.clusters.get c
  s.cond (f.fuseOff && !f.testFail) (fun s => s.event 0xA03 (.cluster c) (1 + 2 ^ 16))

/-- A self-test outside a boot, its discrepancy recorded at once. -/
def State.selfTested (s : State) (c low : Nat) : State := (s.testCluster c low).clusterDiscrepancy c

/-- The CCC image of a slot in a cluster's code memory, started (R555, R560, R564). -/
def State.loadCcc (s : State) (c : Nat) : State :=
  let b := s.slotBytes (s.rdF (Reg.hubFwComp 4) 32 32)
  let img := (bundleOf b 5).bytes b
  let s := s.each (List.range (img.length / 8)) (fun s i => s.wr (Reg.cluCccCode c i) (BitVec.ofNat 64 (bodyNat img (8 * i) 8)))
  (s.agentStart (0x10 + c)).wrF (Reg.cluCccStatus c) 2 0 2

/-- A unit whose image waits takes it and starts with it (R528, R564): component 5 for cluster `i`, 6 for stack `i`. -/
def State.takeUnit (s : State) (k i : Nat) : State :=
  if !natBit (if k = 5 then s.fw.cccWait else s.fw.bdcWait) i then s
  else
    let s := s.takeImage k i
    if k = 5 then s.loadCcc i else s.agentStart (0x50 + i)

/-- Clusters come on with their CCCs started and tested (R580 step 7, R611 step 6): `tests` gives bits 26:0 of the clusters whose
result is not what it was. -/
def State.restoreClusters (s : State) (cs : List Nat) (tests : List (Nat × Nat)) : State :=
  s.each cs (fun s c =>
    let s := s.loadCcc c
    match tests.find? (fun t => t.1 = c) with
    | some t => s.selfTested c t.2
    | none => s)

/-! ### Stacks come on (R259, R321, R612, R616) -/

/-- Pseudo-channels of a stack that fuses disable, at manufacture or in the field (R583, R655). -/
def State.pcFused (s : State) (n : Nat) : Nat := s.fuses.pcOff.get n ||| s.rcd.fusePcs.get n

/-- A stack is tested, scrubbed and ready, its frames in the pool (R264, R288, R321): fused pseudo-channels are retired with their frames
lost, and every other frame reads zero; frames of system handles stay theirs, and a pseudo-channel that still holds one is draining (R277). -/
def State.readyStack (s : State) (n : Nat) : State :=
  let off := s.pcFused n
  let a := n * 0x1000000000
  let busy := fun (p : Nat) => decide (s.heldFrames (frameNo n (512 * p)) (frameNo n (512 * p + 512)) (fun x => decide (x = .system)) ≠ 0)
  let s := s.blankRange a (a + 0x1000000000)
  let s := s.updStacks (fun k =>
    let kept := k.frames.filter (fun e => e.1 < frameNo n 0 ∨ frameNo (n + 1) 0 ≤ e.1 ∨ e.2 = .system)
    let lost := ((bitsSet off 64).filter (fun p => !busy p)).flatMap (fun p => (List.range 512).map (fun i => frameNo n (512 * p + i)))
    { k with frames := lost.foldl (fun t g => t.set g .lost) kept })
  let s := (s.wrF (Reg.stkStatus n) 2 0 3)
  let s := s.each (List.range 64) (fun s p =>
    (s.wrF (Reg.stkPcState n p) 1 0 (if !natBit off p then 0 else if busy p then 1 else 2)).syncPc n p)
  let s := (s.wrF (Reg.stkBeStatus n) 2 0 1).syncStatus n
  s.syncParts

end Sys2Proof.Machine
end

