-- ==== Sys2Proof/Machine/HostWork.lean ====
section
/-!
DEFINITION. The commands of virtual functions (12_host_interface.md R507 to R511, R514, R518, R519; 06_memory_and_placement.md R260,
R261, R265, R266; 07_base_programs.md R299, R305).
-/
namespace Sys2Proof.Machine

/-- IDENTIFY (R507). -/
def execIdentify (h : Fin 2) (f : Fin 5) (s : State) : Result :=
  .next (s.withCmd h f 0x01 (fun s c _ =>
    s.finish h f c 0 (setFld (setFld 0 31 0 (s.rdF Reg.hubId 31 0)) 63 32 (s.rdF Reg.hubFpSummary 31 0))))

/-! ### Handles -/

/-- Extents of slab entries in use: those of valid descriptors and of handles whose frames are not yet clearing. -/
def State.slabExtents (s : State) : List (Nat × Nat) :=
  (s.validDescs ++ s.stackSide.dying).map (fun x => (s.descBase x, s.descSlabs x))

/-- Whether a run of `n` slab entries from `b` on is free. -/
def runFree (l : List (Nat × Nat)) (b n : Nat) : Bool :=
  decide (b + n ≤ 393216) && l.all (fun e => decide (b + n ≤ e.1 ∨ e.1 + e.2 ≤ b))

/-- A free run of `n` slab entries: the one that the SCH picks when it is free, else the lowest. -/
def State.findRun (s : State) (n pick : Nat) : Option Nat :=
  let l := s.slabExtents
  if runFree l pick n then some pick
  else ((0 :: l.map (fun e => e.1 + e.2)).filter (fun b => runFree l b n)).foldl (fun b x => match b with
    | some y => some (min y x)
    | none => some x) none

/-- A free descriptor index: the one that the SCH picks when it is free, else the lowest. -/
def State.findDesc (s : State) (pick : Nat) : Option Nat :=
  let used := s.validDescs ++ s.stackSide.dying
  if 16 ≤ pick ∧ pick < 65536 ∧ !used.contains pick then some pick
  else firstFrom (fun x => !used.contains x) 65520 16

/-- The generation given out after `g` (R249). -/
def nextGen (g : Nat) : Nat := if (g + 1) % 256 = 0 then 1 else (g + 1) % 256

/-- What a creation asks for (R260). -/
structure HandleAsk where
  slabs : Nat
  stripe : Nat
  flags : Nat
  align : Nat
  seed : W64
  decl : Nat
  system : Bool := false
deriving DecidableEq, Repr, Inhabited

/-- Slab count of a request after the rounding of R260. -/
def HandleAsk.rounded (a : HandleAsk) : Nat := ceilDiv a.slabs (2 ^ a.stripe) * 2 ^ a.stripe

/-- The four words of a new descriptor (R252, R253). -/
def descWords (a : HandleAsk) (part gen base home : Nat) : List W64 :=
  let w0 := setFld (setFld (setFld (setFld 1 1 1 (b2n a.system)) 3 2 part) 11 4 gen) 17 12 (a.flags % 64)
  let w0 := setFld (setFld (setFld w0 20 18 a.stripe) 31 24 a.align) 50 32 a.rounded
  [w0, a.seed, setFld (setFld 0 18 0 base) 25 24 home, setFld (setFld 0 31 0 a.decl) 32 32 (a.flags / 64)]

/-- A handle is created in descriptor `x` with slab entries from `base` on (R260, R265, R266); its status, and the state with its
handle ID. `picks` are the placer's choices among free frames. -/
def State.createAt (s : State) (part x base : Nat) (a : HandleAsk) (picks : List Nat) : Option (State × Nat) :=
  let w := 2 ^ a.stripe
  let n := a.rounded
  let dies := s.partDies part
  let mate := if a.align = 0 then none else s.validDescs.find? (fun z => s.descAlign z = a.align && s.descPart z = part)
  let home := match mate with
    | some z => some (s.rdF (Reg.hubDescW2 z) 25 24)
    | none => homeRank a.decl dies.length
  let want := fun (k : Nat) => match mate with
    | some z => s.slabFrame (s.descBase z + k) / 32768
    | none => if a.system then 3 * (x % 4) + k % w % 3 else laneStack dies home (k % w)
  let st : FrameState := if a.system then .system else .resident
  match s.placeSlabs part w want mate.isSome st picks n 0 [] [] with
  | none => none
  | some (_, gs) =>
    let gen := nextGen (s.rdF (Reg.hubDescW0 x) 11 4)
    let s := s.setFrames gs st
    let s := s.each gs.zipIdx (fun s g => s.cpCommit (Reg.hubSlab (base + g.2)) (slabWord true g.1 0 0))
    let s := s.each (descWords a part gen base (home.getD 0)).zipIdx (fun s v => s.cpCommit (descWord x v.2) v.1)
    some (s, x + gen * 2 ^ 16)

/-- A creation request (R252, R260, R266): its status and handle ID. -/
def State.createHandle (s : State) (part : Nat) (a : HandleAsk) (x base : Nat) (picks : List Nat) : State × Nat × Nat :=
  let n := a.rounded
  let mate := if a.align = 0 then none else s.validDescs.find? (fun z => s.descAlign z = a.align && s.descPart z = part)
  let fits := match mate with
    | some z => s.descSlabs z == n && s.rdF (Reg.hubDescW0 z) 20 18 == a.stripe
    | none => true
  if a.slabs = 0 ∨ 6 < a.stripe ∨ 393216 < n ∨ 128 ≤ a.flags ∨ !fits then (s, 1, 0)
  else
    match s.findDesc x, s.findRun n base with
    | some x, some b =>
      (match s.createAt part x b a picks with
      | some (s, h) => (s, 0, h)
      | none => (s, 5, 0))
    | _, _ => (s, 5, 0)

/-- HCREATE (R260): the SCH's choices of descriptor, slab entries and frames come with the command. -/
def execHcreate (h : Fin 2) (f : Fin 5) (x : BitVec 16) (base : BitVec 19) (picks : List Nat) (s : State) : Result :=
  .next (s.withCmd h f 0x10 (fun s c p =>
    let a : HandleAsk :=
      { slabs := c.par 8 4, stripe := c.par 12 1, flags := c.par 13 1, align := c.par 14 1,
        seed := BitVec.ofNat 64 (c.par 16 8), decl := c.par 24 4 }
    let r := s.createHandle p a x.toNat base.toNat picks
    r.1.finish h f c r.2.1 (BitVec.ofNat 64 r.2.2)))

/-- HDESTROY (R261): a handle of the partition is no longer valid; HANDLE_DRAINED frees what it held. -/
def execHdestroy (h : Fin 2) (f : Fin 5) (s : State) : Result :=
  .next (s.withCmd h f 0x11 (fun s c p =>
    if s.handleOwned (.host p) (c.par 8 3) then (s.destroyHandle (handleIndex (c.par 8 3))).finish h f c 0
    else s.finish h f c 4))

/-- HSEED (R253): a new seed, while the partition's sequencer state allows it. -/
def execHseed (h : Fin 2) (f : Fin 5) (s : State) : Result :=
  .next (s.withCmd h f 0x12 (fun s c p =>
    let x := handleIndex (c.par 8 3)
    let v := BitVec.ofNat 64 (c.par 16 8)
    if !s.handleOwned (.host p) (c.par 8 3) then s.finish h f c 4
    else if s.descWriteOk x 1 v then (s.cpCommit (Reg.hubDescW1 x) v).finish h f c 0
    else (s.refuseWrite .sch).finish h f c 6))

/-- HCOPY (R507, R514, R594, R647, R650): between host memory, as the host answers, and a handle that is not sealed. -/
def execHcopy (h : Fin 2) (f : Fin 5) (host : HostData) (ecc : List MemUpset) (s : State) : Result :=
  .next ((s.upset ecc).withCmd h f 0x13 (fun s c p =>
    let hd := c.par 8 3
    let out := c.par 11 1 == 1
    let off := c.par 16 8
    let addr := c.par 24 8
    let n := c.par 32 4
    if 1 < c.par 11 1 ∨ n % 64 ≠ 0 ∨ addr % 64 ≠ 0 then s.finish h f c 1
    else if !s.hubOk (.host p) hd off n (!out) || s.stackSide.sealed.contains (handleIndex hd) then s.finish h f c 4
    else if out then
      let r := s.hubRead hd off n
      match r.2 with
      | some (bs, none) =>
        if host.ok then (r.1.hostOut [.write h f (BitVec.ofNat 64 addr) bs]).finish h f c 0
        else (r.1.hostFailed h f host.reason addr).finish h f c 0xF
      | some (_, some bad) => (r.1.checkFailedHandle 8 hd bad (some p)).finish h f c 4
      | none => r.1.finish h f c 4
    else if host.ok && host.data.length == n then (s.hubWrite hd off host.data).finish h f c 0
    else (s.hostFailed h f host.reason addr).finish h f c 0xF))

/-! ### LOAD (R509, R510) -/

/-- Whether a call-table entry of 128 bytes is valid (R305). -/
def callEntryOk (e : List Byte) : Bool :=
  let w := bodyNat e 0 4
  let prog := w % 2 ^ 16
  let n := natFld w 16 4
  let slot := fun (i : Nat) => BitVec.ofNat 64 (bodyNat e (8 + 8 * i) 8)
  let wf := fun (v : W64) => !fmtReserved (slotFmt v) && (slotWrite v || slotRead v) && decide (fld v 31 30 = 0)
    && decide (fld v 34 32 ≤ 4) && decide (fld v 63 36 = 0)
  let scales := (List.range n).foldl (fun (l : List Nat) i =>
    if !l.contains i && fmtBlocked (slotFmt (slot i)) then l ++ [i + 1] else l) []
  let data := (List.range n).filter (fun i => !scales.contains i)
  natFld w 20 12 == 0 && bodyNat e 4 4 == 0 && decide (1 ≤ n ∧ n ≤ 8)
    && (decide (prog ≤ 0x3FFF) || decide (0x8000 ≤ prog ∧ prog ≤ 0x8006))
    && (List.range 8).all (fun i => if i < n then wf (slot i) else slot i == 0)
    && scales.all (fun i => decide (i < n) && decide (fld (slot i) 29 24 = fld (slot (i - 1)) 29 24))
    && data.all (fun i => data.all (fun j => i == j || slotHandle (slot i) != slotHandle (slot j)
      || (!slotWrite (slot i) && !slotWrite (slot j))))

/-- A package as it lies in its handle (R509): the header, and the bytes of base code, call table and collective table. -/
structure Package where
  header : List Byte
  base : List Byte
  calls : List Byte
  clx : List Byte
deriving DecidableEq, Repr, Inhabited

/-- Dies of a package. -/
def Package.dies (g : Package) : Nat := bodyNat g.header 8 4

/-- Offset and length in bytes of the four sections, from the header. -/
def sectionsOf (hd : List Byte) : List (Nat × Nat) :=
  [(bodyNat hd 0x10 8, bodyNat hd 0x18 8), (bodyNat hd 0x20 8, bodyNat hd 0x28 8), (bodyNat hd 0x30 8, 128 * bodyNat hd 0x38 8),
   (bodyNat hd 0x40 8, 64 * bodyNat hd 0x48 8)]

/-- The pin of virtual cluster `u` (R509). -/
def Package.pin (g : Package) (u : Nat) : Nat := bodyNat g.header (0x50 + u) 1

/-- The bytes of an extent of a handle whose tiles all verify. -/
def State.goodBytes (s : State) (h off n : Nat) : Option (List Byte) :=
  match s.handleRead h off n with
  | some (bs, none) => some bs
  | _ => none

/-- Check 1 of R510: the header and the bounds of its sections. -/
def State.headerOk (s : State) (part h pkg : Nat) (hd : List Byte) : Bool :=
  let secs := sectionsOf hd
  let n := bodyNat hd 8 4
  bodyNat hd 0 4 == 0x4B5A524B && bodyNat hd 4 4 == 1 && decide (1 ≤ n ∧ n ≤ 4) && bodyNat hd 0xC 4 == 0
    && (hd.drop 0x8C).all (· == 0) && bodyNat hd 0x10 8 % 65536 == 0 && bodyNat hd 0x18 8 % 4 == 0
    && decide (bodyNat hd 0x18 8 ≤ 2 ^ 32)
    && secs.all (fun x => x.1 % 64 == 0 && s.hubOk (.engine part) h (pkg + x.1) x.2 false)

/-- The pins of the member of rank `e`: virtual index and physical index. -/
def Package.pinsOf (g : Package) (e : Nat) : List (Nat × Nat) :=
  (List.range 15).filterMap (fun j => if g.pin (15 * e + j) = 0xFF then none else some (j, g.pin (15 * e + j)))

/-- Check 3 of R510: every pin names a usable cluster, no two the same one, and no cluster beyond the package's is pinned. -/
def State.pinsOk (s : State) (dies : List Nat) (g : Package) : Bool :=
  dies.zipIdx.all (fun d =>
    let ps := (g.pinsOf d.2).map Prod.snd
    ps.all (fun i => (s.usableOf d.1).contains i) && decide ps.Nodup)
  && (List.range 60).all (fun u => decide (u < 15 * dies.length) || g.pin u == 0xFF)

/-- The outcome of the checks of R510 in their order: a status, or the package and its bindings by die. -/
def State.checkPackage (s : State) (part h pkg : Nat) : Nat ⊕ (Package × List (Nat × List Nat)) :=
  if !s.hubOk (.engine part) h pkg 256 false then .inl 4
  else match s.goodBytes h pkg 256 with
  | none => .inl 0xB
  | some hd =>
    if !s.headerOk part h pkg hd then .inl 0xB
    else
      let sec := fun (i : Nat) => (sectionsOf hd)[i]?.getD (0, 0)
      let get := fun (i lim : Nat) => if lim < (sec i).2 then some [] else s.goodBytes h (pkg + (sec i).1) (sec i).2
      match get 1 65536, get 2 131072, get 3 65536 with
      | some base, some calls, some clx =>
        let g : Package := { header := hd, base := base, calls := calls, clx := clx }
        let dies := s.partDies part
        if g.dies ≠ dies.length then .inl 0xE
        else if !s.pinsOk dies g then .inl 7
        else if !dies.all s.dieFloorOk then .inl 8
        else if 65536 < (sec 1).2 ∨ 131072 < (sec 2).2 ∨ !(chunksOf 128 1024 calls).all callEntryOk then .inl 9
        else if 65536 < (sec 3).2 ∨ !(chunksOf 64 1024 clx).all (fun e =>
            (ClxProg.of (fun i => BitVec.ofNat 64 (bodyNat e (8 * i) 8))).ok) then .inl 0xA
        else .inr (g, dies.zipIdx.map (fun d => (d.1, bindDie (s.usableOf d.1) (g.pinsOf d.2))))
      | _, _, _ => .inl 0xB

/-- The reads of a package that the checks of R510 make (R243): its header, and the sections of a header that is accepted. -/
def State.readPackage (s : State) (part h pkg : Nat) : State :=
  if !s.hubOk (.engine part) h pkg 256 false then s
  else
    let s := s.readExtent h pkg 256
    match s.goodBytes h pkg 256 with
    | none => s
    | some hd =>
      if !s.headerOk part h pkg hd then s
      else s.each (sectionsOf hd) (fun s x => s.readExtent h (pkg + x.1) x.2)

/-- Registers from an address on take bytes, eight to a register; `n` registers in all, the rest 0. -/
def State.wrBytes (s : State) (a n : Nat) (bs : List Byte) : State :=
  let vs : Tbl W64 := Tbl.run 0 ((List.range n).map (fun i => BitVec.ofNat 64 (bodyNat bs (8 * i) 8)))
  { s with csr := (s.csr.clear a (a + 8 * n)).addAll (vs.map (fun e => (a + 8 * e.1, e.2))) }

/-- Base code and call table go into every stack of the partition (R299), the program table into every member's engine (R434). -/
def State.placeSections (s : State) (dies : List Nat) (g : Package) : State :=
  let s := s.each (dies.flatMap (fun d => [3 * d, 3 * d + 1, 3 * d + 2])) (fun s n =>
    let s := (s.wrBytes (Reg.stkBeCode n 0) 8192 g.base).wrBytes (Reg.stkBeCall n 0 0) 16384 g.calls
    { s with bases := s.bases.upd n (fun b => { b with entries := g.calls.length / 128 }) })
  s.each dies (fun s d => s.wrBytes (Reg.clxProgram d 0 0) 8192 g.clx)

/-- Bindings take effect (R137, R238): the counters of each cluster bound are cleared, and a cluster whose new image waits takes
it (R564). -/
def State.bindAll (s : State) (binds : List (Nat × List Nat)) : State :=
  s.each binds (fun s b =>
    let s := s.each ((List.range 16).map (· + 16 * b.1)) (fun s c => s.takeUnit 5 c)
    let s := s.wr (Reg.seqVbind b.1) (vbindWord b.2)
    s.each b.2 (fun s i => s.clearClusterCounters (16 * b.1 + i)))

/-- The package digest of the attestation report (R589): header and sections in header order. -/
def State.packageDigest (s : State) (h pkg : Nat) (g : Package) : BitVec 512 :=
  let img := (sectionsOf g.header)[0]?.getD (0, 0)
  sha3_512 (g.header ++ ((s.handleRead h (pkg + img.1) img.2).map Prod.fst).getD [] ++ g.base ++ g.calls ++ g.clx)

/-- The digests of a loaded package (R588, R589, R597): the ephemeral key is destroyed, and a slot keyed under another package
becomes empty. -/
def State.digestPackage (s : State) (part h pkg : Nat) (g : Package) : State :=
  let d := s.packageDigest h pkg g
  let s := (s.dropEph part).cond (s.sec.packages.get part != d) (fun s =>
    s.each ((List.range 4).map (· + 4 * part)) State.emptySlot)
  { s with sec := { s.sec with
      packages := s.sec.packages.set part d
      baseDigests := s.sec.baseDigests.set part (sha3_512 (g.base ++ g.calls))
      clxDigests := s.sec.clxDigests.set part (sha3_512 g.clx) } }

/-- A checked package is bound (R510): its sections placed, the recipe buffer empty, the state loaded. -/
def State.bindPackage (s : State) (part h pkg : Nat) (g : Package) (binds : List (Nat × List Nat)) : State :=
  let img := (sectionsOf g.header)[0]?.getD (0, 0)
  let s := ((s.bindAll binds).placeSections (binds.map Prod.fst) g).digestPackage part h pkg g
  let s := s.updSeq part (fun z => { z with
    frames := []
    buffer := []
    prefetches := []
    image := h
    imageOff := pkg + img.1
    imageLen := img.2 })
  s.setSeqState part 1 0

/-- LOAD (R510): the package is checked in the order of R510 and bound. -/
def execLoad (h : Fin 2) (f : Fin 5) (ecc : List MemUpset) (s : State) : Result :=
  .next ((s.upset ecc).withCmd h f 0x20 (fun s c p =>
    let s := s.settleCmds
    let st := s.seqState p
    let hd := c.par 8 3
    let pkg := c.par 16 8
    if ¬ (st = 0 ∨ st = 7 ∨ st = 8) then s.finish h f c 6
    else if pkg % 65536 ≠ 0 then s.finish h f c 1
    else
      let s := s.readPackage p hd pkg
      match s.checkPackage p hd pkg with
      | .inl x => s.finish h f c x
      | .inr (g, binds) => (s.bindPackage p hd pkg g binds).finish h f c 0))

/-! ### RUN, HOLD, RELEASE, ABORT (R153, R507) -/

/-- RUN (R507): a floor that no longer carries the recipe (R59, R142) completes it with 0x0008; otherwise the argument block as the host answers it goes to s16 to s31 and the loaded recipe starts; the command completes
when the recipe ends or stops. -/
def execRun (h : Fin 2) (f : Fin 5) (host : HostData) (s : State) : Result :=
  .next (s.withCmd h f 0x21 (fun s c p =>
    if s.seqState p ≠ 1 then s.finish h f c 6
    else if !s.gangFit p then s.finish h f c 8
    else if !(host.ok && host.data.length == 128) then (s.hostFailed h f host.reason (c.par 8 8)).finish h f c 0xF
    else
      let args := (List.range 16).map (fun i => BitVec.ofNat 64 (bodyNat host.data (8 * i) 8))
      (startRecipe p (s.updSeq p (fun z => { z with args := args }))).setStage h f c .running))

/-- HOLD (R120, R507): hold_req is set; the command completes once the recipe is held. -/
def execHold (h : Fin 2) (f : Fin 5) (s : State) : Result :=
  .next (s.withCmd h f 0x22 (fun s c p =>
    let st := s.seqState p
    if st = 2 ∨ st = 3 ∨ st = 4 then ((setHold p true s).setStage h f c .running).settleCmds
    else s.finish h f c 6))

/-- RELEASE (R507): hold_req is cleared. -/
def execRelease (h : Fin 2) (f : Fin 5) (s : State) : Result :=
  .next (s.withCmd h f 0x23 (fun s c p => (setHold p false s.settleCmds).finish h f c 0))

/-- ABORT (R127, R507): the recipe stops with fault 0x08. -/
def execAbort (h : Fin 2) (f : Fin 5) (s : State) : Result :=
  .next (s.withCmd h f 0x24 (fun s c p =>
    let s := s.settleCmds
    if s.canStop p then (abortRecipe p s).finish h f c 0 else s.finish h f c 6))

/-! ### Orphans (R518, R519) -/

/-- ORPHAN_READ (R518, R519): the record goes to host memory, or there is none. -/
def execOrphanRead (h : Fin 2) (f : Fin 5) (host : HostData) (s : State) : Result :=
  .next (s.withCmd h f 0x30 (fun s c _ =>
    if (s.fn h f).record.count = 0 then s.finish h f c 0x10
    else if host.ok then
      (s.hostOut [.write h f (BitVec.ofNat 64 (c.par 8 8)) (s.orphanBytes h f)]).finish h f c 0
    else (s.hostFailed h f host.reason (c.par 8 8)).finish h f c 0xF))

/-- ADOPT (R519): the result counts the completions delivered. -/
def execAdopt (h : Fin 2) (f : Fin 5) (s : State) : Result :=
  .next (s.withCmd h f 0x31 (fun s c _ =>
    if !(s.fn h f).orphan then s.finish h f c 0x10
    else
      let n := (s.fn h f).orphaned.length
      (s.finish h f c 0 (BitVec.ofNat 64 n)).settleCmds.adopt h f))

/-- DISCARD (R519): the result counts the completions discarded. -/
def execDiscard (h : Fin 2) (f : Fin 5) (s : State) : Result :=
  .next (s.withCmd h f 0x32 (fun s c _ =>
    if !(s.fn h f).orphan then s.finish h f c 0x10
    else
      let n := (s.fn h f).orphaned.length
      (s.finish h f c 0 (BitVec.ofNat 64 n)).settleCmds.discardOrphan h f))

end Sys2Proof.Machine
end

