-- ==== Sys2Proof/Machine/Parts.lean ====
section
/-!
DEFINITION. Partitions as shared operations: creation, release and reset (14_security_partitions.md R574 to R582;
15_bringup_reset_power.md R619, R626, R640).
-/
namespace Sys2Proof.Machine

/-! ### Budgets (R626, R628, R640) -/

/-- The largest of a partition's demands and its cause (R628, R640). -/
def Power.stretchOf (w : Power) (p : Nat) : Nat × Nat :=
  let d := w.demands.get p
  [(d.junction, 1), (d.droop, 2), (w.emergency, 3)].foldl (fun a b => if a.1 ≤ b.1 then b else a) (d.budget, 0)

/-- The sustained limit that the PMC applies (R626, R643): 800 W while PMC_LIMIT is unusable. -/
def State.limitNow (s : State) : Nat := if s.cpOk Reg.pmcLimit then s.rdF Reg.pmcLimit 10 0 else 800

/-- A partition's budget (R626). -/
def State.budgetOf (s : State) (p : Nat) : Nat := (s.limitNow - 260) * (s.partDies p).length / 4

/-- PMC_PART word 0 of a partition: budget, stretch and cause; 0 while it does not exist (R640). -/
def State.syncPmcPart (s : State) (p : Nat) : State :=
  if s.partExists p then
    let x := s.pwr.stretchOf p
    let w := setFld (s.rd (Reg.pmcPartW0 p)) 10 0 (s.budgetOf p)
    s.wr (Reg.pmcPartW0 p) (setFld (setFld w 41 32 x.1) 43 42 x.2)
  else (s.wr (Reg.pmcPartW0 p) 0).wr (Reg.pmcPartW1 p) 0

/-! ### The map (R575, R576) -/

/-- The SEC writes the map: generation incremented, its own copy kept (R575, R576). -/
def State.writeMap (s : State) (v : W64) : State :=
  let v := setFld v 63 32 (fld (s.rd Reg.secPartMap) 63 32 + 1)
  let s := s.cpCommit Reg.secPartMap v
  { s with sec := { s.sec with map := v } }

/-- The dies of a mask. -/
def maskDies (m : Nat) : List Nat := bitsSet m 4

/-- The map with a partition added (R575). -/
def mapWith (v : W64) (p mask port : Nat) : W64 :=
  let v := (maskDies mask).foldl (fun v d => setFld (setBit v (8 + d) true) (2 * d + 1) (2 * d) p) v
  setBit (setBit v (12 + p) (port == 1)) (16 + p) true

/-- The map with a partition removed. -/
def mapWithout (v : W64) (p : Nat) (dies : List Nat) : W64 :=
  let v := dies.foldl (fun v d => setFld (setBit v (8 + d) false) (2 * d + 1) (2 * d) 0) v
  setBit (setBit v (12 + p) false) (16 + p) false

/-- The state of SEC_PART_STATE. -/
def State.partState (s : State) (p : Nat) : Nat := s.rdF (Reg.secPartState p) 2 0

/-! ### Creation (R578, R579) -/

/-- The sequencers of a partition as a gang led by the lowest die (R143, R154). -/
def State.formGang (s : State) (p : Nat) (dies : List Nat) : State :=
  let g := (dies.map (fun d => 2 ^ d)).foldl (· + ·) 0
  s.each dies (fun s d => (s.wrF (Reg.seqStatus d) 13 12 p).wrF (Reg.seqStatus d) 19 16 g)

/-- Each die's sequencer by itself, as at reset. -/
def State.dropGang (s : State) (dies : List Nat) : State :=
  s.each dies (fun s d => (s.wrF (Reg.seqStatus d) 13 12 d).wrF (Reg.seqStatus d) 19 16 (2 ^ d))

/-- The domains of a die: quadrants and stacks. -/
def dieQuads (d : Nat) : List Nat := (List.range 4).map (· + 4 * d)
@[inherit_doc dieQuads]
def dieStacks (d : Nat) : List Nat := (List.range 3).map (· + 3 * d)

/-- The three system handles of a die are its partition's (R250, R574). -/
def State.ownSystem (s : State) (p : Nat) (dies : List Nat) : State :=
  s.each (dies.flatMap (fun d => [d, d + 4, d + 8])) (fun s x =>
    s.cond (s.rdB (Reg.hubDescW0 x) 0) (fun s => s.cpCommit (Reg.hubDescW0 x) (setFld (s.rd (Reg.hubDescW0 x)) 3 2 p)))

/-- A partition of the map is formed on its dies, which are clean (R579, steps 1 to 4 but for the map): the PMC switches on what is
off, the SCH publishes, and the partition is active. -/
def State.activatePart (s : State) (p : Nat) : State :=
  let dies := s.partDies p
  let s := s.wrF (Reg.secPartState p) 2 0 1
  let s := s.each (dies.flatMap dieStacks) (fun s n => s.cond (!s.domOn (26 + n)) (fun s => (s.turnOn (26 + n)).readyStack n))
  let s := s.each (dies.flatMap dieQuads) (fun s i => s.turnOn i)
  let s := (s.formGang p dies).ownSystem p dies
  let s := { s with sec := { s.sec with clean := dies.foldl (fun c d => c - (if natBit c d then 2 ^ d else 0)) s.sec.clean } }
  let s := s.publishAll
  ((s.wrF (Reg.secPartState p) 2 0 2).syncPmcPart p).syncParts.event 0x701 .none p (some p)

/-- A partition is formed by PARTITION (R579). -/
def State.formPart (s : State) (p mask port : Nat) : State :=
  (s.writeMap (mapWith (s.rd Reg.secPartMap) p mask port)).activatePart p

/-- The partitions of the stored default map are formed (R582, R611): the map is written when it is another one. -/
def State.formDefaults (s : State) : State :=
  let v : W64 := s.config.record.partMap.setWidth 64
  let s := if fld (s.rd Reg.secPartMap) 31 0 = fld v 31 0 && s.cpOk Reg.secPartMap then s
    else s.writeMap (setFld (s.rd Reg.secPartMap) 31 0 (fld v 31 0))
  s.each (List.range 4) (fun s p => s.cond (s.partExists p) (fun s => s.activatePart p))

/-! ### Release and reset (R580, R582, R619) -/

/-- The transactions of a partition: those its stream engines, collective engines and key slots asked for. -/
def State.ownsJob (s : State) (p : Nat) (j : NetJob) : Bool :=
  match j.owner with
  | .dmx q _ => s.partOfDie q == p
  | .clx q => s.partOfDie q == p
  | .seal k => k / 4 == p
  | .firmware => false

/-- Whether no transfer that a partition issued is outstanding (R580 step 1). -/
def State.partQuiet (s : State) (p : Nat) : Bool :=
  let dies := s.partDies p
  (s.seq p).transfers.isEmpty && (s.seq p).prefetches.isEmpty
    && (dies.flatMap dieStacks).all (fun n => ((s.bases.get n).units.all (fun u => u.2.isNone)))
    && s.router.sends.all (fun c => match c.2 with
      | some c => c.txns.all (fun t => !s.ownsJob p t.job) && c.queue.all (fun j => !s.ownsJob p j)
      | none => true)

/-- At the bound the hub abandons what is outstanding (R580 step 1): no further packet, no retransmission. -/
def State.abandon (s : State) (p : Nat) : State :=
  let mine := fun (c : SendCtx) => (c.txns.filter (fun t => s.ownsJob p t.job)).map (fun t => t.xid)
  let s := s.updRouter (fun r => { r with sends := (r.sends.map (fun e => (e.1, e.2.map (fun c =>
    let xs := mine c
    { c with
      queue := c.queue.filter (fun j => !s.ownsJob p j)
      txns := c.txns.filter (fun t => !xs.contains t.xid)
      unacked := c.unacked.filter (fun u => !xs.contains u.pkt.xid) })))) })
  s.updSeq p (fun z => { z with transfers := [], prefetches := [] })

/-- Step 1 of R580: the function reads fstate 3, the recipe aborts, queued commands complete with 0x000D, and collectives and queued
base calls are discarded. -/
def State.stopPart (s : State) (p : Nat) (reset : Bool) : State :=
  let h := s.partPort p
  let f := p + 1
  let dies := s.partDies p
  let s := s.settleCmds
  let s := { s with sec := { s.sec with stopping := s.sec.stopping.set p (some { reset := reset, fstate := s.fstate h f }) } }
  let s := if reset then s.event 0xA09 (part := some p) else s.event 0x702 .none p (some p)
  let s := ((s.wrF (Reg.secPartState p) 2 0 3).setFstate h f 3).updRouter (fun r => { r with resetting := r.resetting ++ [p] })
  let s := abortRecipe p s
  let s := s.updFn h f (fun x => { x with cmds := x.cmds.map (fun c => if c.isDone then c else { c with stage := .done 0xD 0 }) })
  let s := s.each (List.range (s.fn h f).cmds.length) (fun s _ => s.postOne h f)
  let s := s.each dies (fun s d =>
    let c := s.clx d
    (((s.updClx d (fun _ => { slots := c.slots, deferred := c.deferred })).wrF (Reg.clxStatus d) 16 8 0).wrF (Reg.clxStatus d) 1 0 1))
  s.each (dies.flatMap dieStacks) (fun s n =>
    let s : State := { s with bases := s.bases.upd n (fun b => { b with queue := [], run := b.run.map (fun r => { r with items := [] }) }) }
    s.wrF (Reg.stkBeStatus n) 16 8 0)

/-- The router discards a partition's flow contexts, of both ends, and reply-cache entries (R407, R580 step 2). -/
def State.dropFlows (s : State) (p : Nat) : State :=
  let s := s.abandon p
  let keys := (s.router.recvs.filter (fun e => match e.2 with | some c => c.part == p | none => false)).map Prod.fst
  let sent := (s.router.sends.filter (fun e => match e.2 with | some c => decide (c.part = some p) | none => false)).map Prod.fst
  s.updRouter (fun r => { r with
    sends := r.sends.filter (fun e => !sent.contains e.1)
    recvs := r.recvs.filter (fun e => !keys.contains e.1)
    replies := r.replies.filter (fun e => !keys.contains e.1)
    cache := r.cache.filter (fun x => !(keys.map (fun k => 2 * k + 1)).contains x && !(sent.map (fun k => 2 * k)).contains x) })

/-- A job domain of a partition is cleared (R580 step 2, R608): event 0x709. -/
def State.clearDomain (s : State) (p : Nat) : State :=
  if s.rdB (Reg.rtrDomain p) 31 then
    let d := s.domainOf p
    (((s.cpCommit (Reg.rtrDomain p) 0).wrF (Reg.secPartState p) 15 3 0).event 0x709 .none p (some p)).report 0x702 p d
  else s

/-- A handle of a released or reset partition is gone: its slab entries are 0 and its descriptor is no longer valid. -/
def State.forgetHandle (s : State) (x : Nat) : State :=
  (s.each (s.slabsOf x) (fun s y => s.cpCommit (Reg.hubSlab y) 0)).cpCommit (Reg.hubDescW0 x) (setBit (s.rd (Reg.hubDescW0 x)) 0 false)

/-- Step 3 of R580: key slots, ephemeral key, handles, migrations and the saved context of a partition are gone. -/
def State.forget (s : State) (p : Nat) : State :=
  let s := (s.each ((List.range 4).map (· + 4 * p)) State.emptySlot).dropEph p
  let xs := (s.validDescs ++ s.stackSide.dying).filter (fun x => s.descPart x = p && !s.rdB (Reg.hubDescW0 x) 1)
  let s := s.abortMigrations (fun g => g.moves.any (fun m => s.ownsStack p (m.src / 32768)))
  let s := s.each xs State.forgetHandle
  let s := s.updStacks (fun k => { k with
    dying := k.dying.filter (fun x => !xs.contains x)
    sealed := k.sealed.filter (fun x => !xs.contains x)
    held := k.held.filter (fun r => !xs.contains (handleIndex r.handle.toNat)) })
  let s := s.releaseHeld
  { s with
    saved := s.saved.set p none
    sec := { s.sec with
      packages := s.sec.packages.set p 0
      baseDigests := s.sec.baseDigests.set p 0
      clxDigests := s.sec.clxDigests.set p 0
      chunks := s.sec.chunks.clear (4 * p) (4 * p + 4) } }

/-- The sequencer registers of a die are as at reset, but for the gang it is in. -/
def State.resetLead (s : State) (d : Nat) : State :=
  let lead := s.rdF (Reg.seqStatus d) 13 12
  let gang := s.rdF (Reg.seqStatus d) 19 16
  ((s.resetRange (Blk.seq + d * 0x1000000) (Blk.seq + d * 0x1000000 + 0x1000)).wrF (Reg.seqStatus d) 13 12 lead).wrF (Reg.seqStatus d) 19 16 gang

/-- Steps 4 to 7 of R580: the partition's quadrants, uncores and stacks are power cycled, its stacks scrubbed, its stores read zero, its
clusters are tested; sequencer state, bindings and floor-plan fields are cleared. -/
def State.cycleDies (s : State) (p : Nat) (dies : List Nat) (tests : List (Nat × Nat)) : State :=
  let s := s.each (dies.flatMap dieQuads ++ (dies.flatMap dieStacks).map (· + 26)) State.turnOff
  let s := s.each (dies.flatMap dieStacks) (fun s n => (s.turnOn (26 + n)).readyStack n)
  let s := s.each dies State.resetLead
  let s := { s with seqs := s.seqs.set p default }
  let s := s.each (dies.flatMap dieQuads) State.turnOn
  (s.restoreClusters (dies.flatMap (fun d => (List.range 16).map (· + 16 * d))) tests).publishAll

/-- The PARTITION commands of an action and a partition number that are carried out and wait for their end complete. -/
def State.finishAction (s : State) (act p status : Nat) : State :=
  s.each (List.range 2) (fun s h => s.updFn h 0 (fun x => { x with cmds := x.cmds.map (fun c =>
    if c.op = 0x40 ∧ c.par 8 1 = act ∧ c.par 11 1 = p ∧ c.stage = .running then { c with stage := .done status 0 } else c) }))

/-- The end of a partition reset (R619): the partition is active again, and the writes held for it take effect. -/
def State.endReset (s : State) (p h f fstate : Nat) : State :=
  let l := (s.fn h f).parked
  let s := ((s.wrF (Reg.secPartState p) 2 0 2).setFstate h f (if fstate = 3 ∨ fstate = 4 then fstate else 1)).updFn h f
    (fun x => { x with parked := [] })
  let s := s.each l (fun s e => (s.applyWrite h f e.2.1 e.2.2.1 e.2.2.2).consumed h f e.1)
  (s.releaseBells h f).finishAction 4 p 0

/-- The function of a released partition is as at reset, but for the version of its firmware. -/
def State.blankFn (s : State) (h f : Nat) : State :=
  let ver := s.rd (Reg.hifEmuFwver h f)
  (((s.voidWrites h f).updFn h f (fun _ => {})).resetRange (shadow h f 0) (shadow h f 0x10000)).wr (Reg.hifEmuFwver h f) ver

/-- Step 8 of R580: the partition is released and its dies are clean. -/
def State.endRelease (s : State) (p h f : Nat) (dies : List Nat) : State :=
  let s := (s.dropGang dies).writeMap (mapWithout (s.rd Reg.secPartMap) p dies)
  let s := (s.wrF (Reg.secPartState p) 2 0 0).countF (Reg.secPartState p) 63 32 1
  let s := { s with sec := { s.sec with clean := dies.foldl (fun c d => c ||| 2 ^ d) s.sec.clean } }
  let s := s.blankFn h f
  let s := { s with pwr := { s.pwr with demands := s.pwr.demands.set p default } }
  (((s.syncPmcPart p).syncParts).event 0x703 .none p (some p)).finishAction 2 p 0

/-- Steps 2 to 8 of R580, or of R619 for a reset: what follows the end of step 1. -/
def State.endStop (s : State) (p : Nat) (tests : List (Nat × Nat)) : State :=
  match s.sec.stopping.get p with
  | none => s
  | some k =>
    let h := s.partPort p
    let f := p + 1
    let dies := s.partDies p
    let s := (s.abandon p).cond (!k.reset) (fun s => s.clearDomain p)
    let s := ((s.dropFlows p).forget p).cycleDies p dies tests
    let s := { s with sec := { s.sec with stopping := s.sec.stopping.set p none } }
    let s := s.updRouter (fun r => { r with resetting := r.resetting.filter (· ≠ p) })
    if k.reset then s.endReset p h f k.fstate else s.endRelease p h f dies

/-- A release or reset begins (R580, R619), and goes on to its end at once when the partition is quiet. -/
def State.beginStop (s : State) (p : Nat) (reset : Bool) (tests : List (Nat × Nat)) : State :=
  let s := s.stopPart p reset
  if s.partQuiet p then s.endStop p tests else s

end Sys2Proof.Machine
end

