-- ==== Sys2Proof/Machine/PartCmds.lean ====
section
/-!
DEFINITION. The commands that form, release and reset partitions (14_security_partitions.md R578 to R580; 15_bringup_reset_power.md
R619; 12_host_interface.md R507).
-/
namespace Sys2Proof.Machine

/-- The status that a creation completes with (R578). -/
def State.createStatus (s : State) (mask port : Nat) : Nat :=
  let p := ((maskDies mask).head?).getD 0
  if mask = 0 ∨ 15 < mask ∨ 1 < port then 1
  else if (maskDies mask).any (fun d => s.rdB Reg.secPartMap (8 + d) || !natBit s.sec.clean d) then 6
  else if !(s.hport port).vfEnable || decide ((s.hport port).numVfs < p + 1) then 6
  else 0

/-- PARTITION_CREATE (R578, R579). It waits while the map is unusable (R576) or the device is not Active. -/
def execPartitionCreate (h : Fin 2) (s : State) : Result :=
  .next (s.withCmd h 0 0x40 (fun s c _ =>
    let mask := c.par 9 1
    let port := c.par 10 1
    let p := ((maskDies mask).head?).getD 0
    let st := s.createStatus mask port
    if st ≠ 0 then s.finish h 0 c st
    else if !s.mapOk || s.rdF Reg.pmcState 1 0 != 0 then s
    else (s.formPart p mask port).finish h 0 c 0 (BitVec.ofNat 64 p)) (fun c => c.par 8 1 == 1))

/-- Releases or resets under way go on once no transfer is outstanding (R580). -/
def State.continueStops (s : State) (reset : Bool) (tests : List (Nat × Nat)) : State :=
  s.each (List.range 4) (fun s p => match s.sec.stopping.get p with
    | some k => s.cond (k.reset == reset && s.partQuiet p) (fun s => s.endStop p tests)
    | none => s)

/-- PARTITION_RELEASE (R578, R580): a started command begins a release; with none, a release that waited for transfers goes on.
`tests`: bits 26:0 of the clusters whose self-test finds something new. -/
def execPartitionRelease (h : Fin 2) (tests : List (Nat × Nat)) (s : State) : Result :=
  .next (
    let ok := fun (c : HostCmd) => c.par 8 1 == 2
    if (s.startedCmd h 0 0x40 ok).isNone then ({ s with answer := .none } : State).continueStops false tests
    else s.withCmd h 0 0x40 (fun s c _ =>
      let p := c.par 11 1
      if 3 < p ∨ !s.partExists p ∨ (s.sec.stopping.get p).isSome then s.finish h 0 c 6
      else (s.setStage h 0 c .running).beginStop p false tests) ok)

/-- RELEASE_STOP_BOUND (R580): 100 ms after the start of step 1, what is outstanding is abandoned, and the stop goes on. -/
def execReleaseStopBound (p : Fin 4) (tests : List (Nat × Nat)) (s : State) : Result :=
  .next (({ s with answer := .none } : State).endStop p tests)

/-- PARTITION_STORE_MAP (R578, R601). -/
def execPartitionStoreMap (h : Fin 2) (s : State) : Result :=
  .next (s.withCmd h 0 0x40 (fun s c _ =>
    let v := (s.rd Reg.secPartMap).setWidth 32
    ({ s with config := s.config.store (fun r => { r with partMap := v }) } : State).finish h 0 c 0) (fun c => c.par 8 1 == 3))

/-- PARTITION_RESET (R578, R619): as PARTITION_RELEASE. -/
def execPartitionReset (h : Fin 2) (tests : List (Nat × Nat)) (s : State) : Result :=
  .next (
    let ok := fun (c : HostCmd) => c.par 8 1 == 4
    if (s.startedCmd h 0 0x40 ok).isNone then ({ s with answer := .none } : State).continueStops true tests
    else s.withCmd h 0 0x40 (fun s c _ =>
      let p := c.par 11 1
      if 3 < p ∨ !s.partExists p ∨ s.partState p ≠ 2 then s.finish h 0 c 6
      else (s.setStage h 0 c .running).beginStop p true tests) ok)

/-- POLICY (R507). -/
def execPolicy (h : Fin 2) (s : State) : Result :=
  .next (s.withCmd h 0 0x43 (fun s c _ =>
    if 3 < c.par 8 1 ∨ 1 < c.par 9 1 then s.finish h 0 c 1
    else
      let pol : Policy := { abortOnFlr := c.par 9 1 == 1, orphanKeep := c.par 12 4 }
      ({ s with host := { s.host with policies := s.host.policies.set (c.par 8 1) pol } } : State).finish h 0 c 0))

end Sys2Proof.Machine
end

