-- ==== Sys2Proof/Machine/Router.lean ====
section
/-!
DEFINITION. One routing decision (09_routing_delivery.md R374 to R386, R410, R414, R416, R418, R419).
-/
namespace Sys2Proof.Machine

/-- The packets that wait at a source of the router: port input 0 to 15, or 16 for local injection. -/
def State.waiting (s : State) (src : Nat) : List QPkt := if src < 16 then (s.port src).input else s.router.inject

/-- The packet at index `i` of a source, when none of its channel stands before it. -/
def State.headPacket (s : State) (src i : Nat) : Option QPkt :=
  let l := s.waiting src
  match l[i]? with
  | some x => if (l.take i).any (fun y => y.account = x.account) then none else some x
  | none => none

/-- A packet leaves its source. -/
def State.leaveSource (s : State) (src : Nat) (x : QPkt) : State :=
  if src < 16 then s.takeInput src x else s.updRouter (fun r => { r with inject := r.inject.erase x })

/-- Whether port `p` holds credit for one more frame of a channel, those queued for it counted. -/
def State.creditFor (s : State) (p : Nat) (x : QPkt) : Bool :=
  let queued := (((s.port p).out.filter (fun y => y.account = x.account)).map (fun y => frameUnits y.pkt)).foldl (· + ·) 0
  s.credit p x.account (queued + frameUnits x.pkt)

/-- The port with the fewest queued bytes, the lowest number among equals (R384). -/
def State.leastQueued (s : State) (ps : List Nat) : Option Nat :=
  ps.foldl (fun best p => match best with
    | none => some p
    | some b => if queuedBytes (s.port p).out < queuedBytes (s.port b).out then some p else some b) none

/-- A packet is queued for an output port (R414, R425): a request or a reply is marked when the port's request and reply queues exceed the
threshold. -/
def State.queueOut (s : State) (p : Nat) (x : QPkt) : State :=
  let mark := (requestOp x.pkt.op || answerOp x.pkt.op) && decide (1 ≤ x.vc ∧ x.vc ≤ 6) && decide (s.rdF Reg.rtrCc 7 0 * 16384 < (s.port p).queued)
  let x : QPkt := if mark then { x with pkt := { x.pkt with cmark := true } } else x
  let s := (s.cond mark (fun s => s.count (Reg.rtrOutMarks p) 1)).updPort p (fun k => { k with out := k.out ++ [x] })
  s.wr (Reg.rtrOutQpeak p) (BitVec.ofNat 64 (max (s.rd (Reg.rtrOutQpeak p)).toNat (queuedBytes (s.port p).out)))

/-- What a routing decision does with a packet. -/
inductive Route where
  /-- to the endpoint -/
  | local'
  /-- to the management ring -/
  | ring
  /-- out of a port, as queued there -/
  | out (port : Nat) (x : QPkt)
  /-- dropped for a reason of R425, with a LOSS notice or without -/
  | drop (reason : Nat) (loss : Bool)
  /-- dropped without a count -/
  | gone
  /-- answered with NACK refused (R419) -/
  | refuse
  | wait
deriving DecidableEq, Repr, Inhabited

/-- The entry of the active bank for a node: the zero entry when it cannot be used (R378). -/
def State.routeEntry (s : State) (n : Nat) : W64 :=
  let a := Reg.rtrRoute (s.rdF Reg.rtrRtEpoch 0 0) n
  if s.cpOk a then s.rd a else 0

/-- The choice of an output port for a packet that is to be forwarded with entry `e` (R384 to R386). VC M takes a candidate or
escape port with credit on VC M. -/
def State.chooseOut (s : State) (e : W64) (x : QPkt) : Route :=
  let pk := { x.pkt with hops := min (fld e 31 24 - 1) 63 }
  let rsp := decide (4 ≤ x.vc)
  let esc : QPkt := { x with vc := (if rsp then 5 else 2) + fld e 20 20, pkt := pk }
  let dir := s.planEntry (fld e 19 16)
  let escPorts := (s.dirPorts dir).filter (fun _ => decide (dir < 8))
  let adaptive := if x.vc = 1 ∨ x.vc = 4 ∨ x.vc = 0 then
      (bitsSet (fld e 15 0) 16).filter (fun p => s.fabricUp p && s.creditFor p { x with pkt := pk }) else []
  match s.leastQueued adaptive with
  | some p => .out p { x with pkt := pk }
  | none =>
    let y : QPkt := if x.vc = 0 then { x with pkt := pk } else esc
    match s.leastQueued (escPorts.filter (fun p => s.fabricUp p && s.creditFor p y)) with
    | some p => .out p y
    | none =>
      if escPorts.any s.fabricUp then .wait
      else if escPorts.any (fun p => let l := s.lstate p; l == 1 || l == 2 || l == 3 || l == 4) then .wait
      else .drop 3 true

/-- The direction in which a multicast packet travels (R416): the one that its source chose, or away from the port it came in. -/
def State.mcastDir (s : State) (src : Nat) (x : QPkt) : Nat :=
  if src = 16 then x.grp
  else
    let d := s.planEntry src
    if d % 2 = 0 then d + 1 else d - 1

/-- Whether the hop from this device in a direction crosses the wrap link of its dimension (R380, R416). -/
def State.crossesWrap (s : State) (d : Nat) : Bool :=
  match s.fm.plan with
  | none => false
  | some pl =>
    let x := (nodeCoords pl.sizes s.node)[d / 2]?.getD 0
    let k := max 1 (pl.sizes[d / 2]?.getD 1)
    if d % 2 = 0 then x + 1 == k else x == 0

/-- Whether this device consumes a multicast packet that has arrived (R416). -/
def State.mcastConsumes (s : State) (p : Packet) : Bool :=
  if natBit p.xid 11 then s.rdB (Reg.rtrMcastW0 (p.xid % 64)) 0 else decide (p.hops ≤ p.xid % 64)

/-- Where a multicast packet goes on (R416): the up port of its direction with the fewest queued bytes, once it has credit; the final device
does not forward it. A FLOWRESET travels on the reply channels (R392). -/
def State.mcastRoute (s : State) (src : Nat) (x : QPkt) : Route :=
  if src < 16 ∧ x.pkt.dst = s.node then .gone
  else if x.pkt.hops = 0 then .drop 1 false
  else
    let d := s.mcastDir src x
    let r := if 4 ≤ x.vc then 3 else 0
    let y : QPkt := { vc := r + (if x.vc = r + 3 ∨ s.crossesWrap d then 3 else 2), pkt := { x.pkt with hops := x.pkt.hops - 1 } }
    let ps := s.dirPorts d
    match s.leastQueued (ps.filter s.fabricUp) with
    | some p => if s.creditFor p y then .out p y else .wait
    | none => if ps.any (fun p => let l := s.lstate p; 1 ≤ l && l ≤ 4) then .wait else .drop 3 true

/-- The host-network port for a destination (R419). -/
def State.hnRoute (s : State) (x : QPkt) : Route :=
  match s.hnEntry x.pkt.dst with
  | none => .refuse
  | some i =>
    let ps := (bitsSet (fld (s.rd (Reg.rtrHnW0 i)) 47 32) 16).filter (fun p => s.isHn p && s.portUp p)
    match s.leastQueued ps with
    | some p => .out p { x with vc := if x.vc < 4 then 1 else 4 }
    | none => .wait

/-- The routing decision for a packet (R375, R378, R379, R383, R416, R418, R419). -/
def State.routeOf (s : State) (src : Nat) (x : QPkt) : Route :=
  let p := x.pkt
  let hn := decide (src < 16) && s.isHn src
  if !s.nodeValid then
    if src = 16 then .wait
    else if (x.vc = 0) ≠ (p.domain = 0) then .drop 6 false
    else if x.vc = 0 ∧ p.dst = 0xFFFFF then .ring
    else if hn then .drop 4 false else .gone
  else if (x.vc = 0) ≠ (p.domain = 0) then .drop 6 false
  else if x.vc = 0 ∧ p.dst = 0xFFFFF then .ring
  else if hn ∧ p.dst ≠ s.node then .drop 4 false
  else if hn then .local'
  else if p.dst = 0xFFFFF then .drop 0 true
  else if 0x20000 ≤ p.dst then (if src = 16 then s.hnRoute x else .drop 0 true)
  else if p.mcast ∧ p.cls = 6 then s.mcastRoute src x
  else
    let e := s.routeEntry p.dst
    let kind := fld e 22 21
    if kind = 0 ∨ kind = 3 then .drop 0 true
    else if src < 16 ∧ p.hops ≠ min (fld e 31 24) 63 then .drop 1 true
    else if kind = 2 then (if x.vc = 0 then .ring else .local')
    else s.chooseOut e x

/-- The 64 KiB management ring takes a packet, or drops and counts it (R383). -/
def State.toRing (s : State) (src : Nat) (p : Packet) : State :=
  let used := (s.router.ring.map (fun e => e.2.plen + 24)).foldl (· + ·) 0
  if used + p.plen + 24 ≤ 65536 then s.updRouter (fun r => { r with ring := r.ring ++ [(src, p)] })
  else s.count (Reg.rtrDrop 2) 1

/-- A packet reaches the endpoint; one with a reserved operation is dropped and counted (R398). -/
def State.toEndpoint (s : State) (p : Packet) : State :=
  if requestOp p.op || replyOp p.op then s.updRouter (fun r => { r with arrived := r.arrived ++ [p] })
  else s.count (Reg.rtrDrop 6) 1

/-- One routing decision carried out for a packet of a source. -/
def State.routeOne (s : State) (src : Nat) (x : QPkt) : State :=
  let copy := fun (s : State) => s.cond (src < 16 && x.pkt.mcast && x.pkt.cls == 6 && s.nodeValid && s.mcastConsumes x.pkt)
    (fun s => s.toEndpoint x.pkt)
  match s.routeOf src x with
  | .wait => s
  | .local' => (s.leaveSource src x).toEndpoint x.pkt
  | .ring => (s.leaveSource src x).toRing src x.pkt
  | .out p y => (copy (s.leaveSource src x)).queueOut p y
  | .drop r loss => (copy (s.leaveSource src x)).count (Reg.rtrDrop r) 1 |>.cond loss (fun s => s.lossNotice x.pkt)
  | .gone => copy (s.leaveSource src x)
  | .refuse =>
    let s := s.leaveSource src x
    let bs := leBytes 8 4
    (s.count (Reg.rtrNackTx 4) 1).cond (requestOp x.pkt.op || x.pkt.op == 0x14) (fun s => s.toEndpoint
      { dst := x.pkt.src, src := x.pkt.dst, domain := x.pkt.domain, cls := x.pkt.cls, seq := x.pkt.seq, xid := x.pkt.xid, op := 0x11
        payload := bs, check0 := BitVec.ofNat 32 (crc32c bs) })

/-- A circuit frame at a source (R410): forwarded by its entry, or delivered to the named CLX; a frame without an entry, or whose
hops do not fit, is dropped and counted, and so is one of domain 0, or at its endpoint one of another operation (R398, R418). No circuit
leaves by a host-network port (R363). -/
def State.routeCircuit (s : State) (src : Nat) (x : QPkt) : State :=
  let e := s.rd (Reg.rtrCircuit src x.pkt.xid)
  let out := fld e 5 1
  let drop := fun (s : State) => (s.leaveSource src x).count (Reg.rtrDrop 5) 1
  let broken := fun (s : State) => (s.leaveSource src x).count (Reg.rtrDrop 6) 1
  if !s.nodeValid then (if src = 16 then s else s.leaveSource src x)
  else if x.pkt.domain = 0 then broken s
  else if !bitOf e 0 || decide (16 < out) || (decide (out < 16) && s.isHn out) then drop s
  else if out = 16 then
    if x.pkt.op ≠ 0x17 then broken s
    else if x.pkt.hops = 0 then (s.leaveSource src x).clxFrame (fld e 14 13) x.pkt else drop s
  else if x.pkt.hops = 0 then drop s
  else
    let y : QPkt := { vc := 7, grp := fld e 11 6, dl := fld e 12 12, pkt := { x.pkt with hops := x.pkt.hops - 1 } }
    if s.portUp out && s.creditFor out y then (s.leaveSource src x).queueOut out y else s

end Sys2Proof.Machine
end

