-- ==== Sys2Proof/Machine/RouteCmds.lean ====
section
/-!
DEFINITION. The commands of the router and its tables (09_routing_delivery.md R375 to R386, R409, R410, R424, R425).
-/
namespace Sys2Proof.Machine

/-- PACKET_ROUTE (R378): the packet at index `i` of a source, the first of its channel, is routed once. `bad`: the stored entry for
its destination shows a complement mismatch at this use; the entry is unusable, and FAB is told and asks the fabric manager
for it. -/
def execPacketRoute (src : Fin 17) (i : Nat) (bad : Bool) (s : State) : Result :=
  .next (
    let s := { s with answer := .none }
    match s.headPacket src i with
    | none => s
    | some x =>
      if x.vc = 7 then s
      else
        let a := Reg.rtrRoute (s.rdF Reg.rtrRtEpoch 0 0) x.pkt.dst
        let s := s.cond (bad && s.nodeValid && decide (x.pkt.dst < 0x20000)) (fun s => (s.mismatchAt a).report 0x502 0 x.pkt.dst)
        s.routeOne src x)

/-- PACKET_WAIT_RETRY (R384): a packet that waits is tried again. -/
def execPacketWaitRetry (src : Fin 17) (i : Nat) (s : State) : Result :=
  .next (
    let s := { s with answer := .none }
    match s.headPacket src i with
    | none => s
    | some x => if x.vc = 7 then s else s.routeOne src x)

/-- CDATA (R410): the circuit frame at index `i` of a source is forwarded or delivered. -/
def execCdata (src : Fin 17) (i : Nat) (s : State) : Result :=
  .next (
    let s := { s with answer := .none }
    match s.headPacket src i with
    | none => s
    | some x => if x.vc = 7 then s.routeCircuit src x else s)

/-- ROUTE_ENTRY_WRITE (R376, R377): FAB writes an entry and its companion; a write to the active bank is ignored with 0x501. -/
def execRouteEntryWrite (ag : Agent) (b : Fin 2) (n : Fin 131072) (v : W64) (s : State) : Result :=
  .next (s.csrAccess ag (Reg.rtrRoute b n) 8 true (fun s =>
    if ag ≠ .fab then s.refuseWrite ag
    else if s.rdF Reg.rtrRtEpoch 0 0 = b.val then s.event 0x501
    else s.cpCommit (Reg.rtrRoute b n) (v &&& (fldMask 22 0 ||| fldMask 31 24))))

/-- RTR_BANK_FLIP (R377): FAB writes RTR_RT_EPOCH.bank. -/
def execRtrBankFlip (ag : Agent) (b : Fin 2) (s : State) : Result :=
  .next (s.csrAccess ag Reg.rtrRtEpoch 4 true (fun s => if ag = .fab then s.setBank b else s.refuseWrite ag))

/-- RTR_NODE takes a value, and with it the ports' addresses (R356, R375). -/
def State.setNode (s : State) (node : Nat) (valid : Bool) : State :=
  (s.wr Reg.rtrNode (setFld (setFld 0 19 0 node) 63 63 (b2n valid))).setMacs

/-- RTR_NODE_WRITE (R375). -/
def execRtrNodeWrite (ag : Agent) (node : BitVec 20) (valid : Bool) (s : State) : Result :=
  .next (s.csrAccess ag Reg.rtrNode 8 true (fun s => if ag = .fab then s.setNode node.toNat valid else s.refuseWrite ag))

/-- A share group takes a value, or the write is ignored with 0x504 when the port's units would exceed 64 (R409). -/
def State.setShare (s : State) (p g : Nat) (v : W64) : State :=
  let others := (((List.range 64).filter (· ≠ g)).map (fun x => s.rdF (Reg.rtrShare p x) 6 0)).foldl (· + ·) 0
  if 64 < others + fld v 6 0 then s.event 0x504 (.port p)
  else s.wr (Reg.rtrShare p g) (v &&& (fldMask 6 0 ||| fldMask 19 8))

/-- SHARE_GROUP_WRITE (R409). -/
def execShareGroupWrite (ag : Agent) (p : Fin 16) (g : Fin 64) (v : W64) (s : State) : Result :=
  .next (s.csrAccess ag (Reg.rtrShare p g) 8 true (fun s => if ag = .fab then s.setShare p g v else s.refuseWrite ag))

/-- A circuit-table entry takes a value (R413, R424): one that removes the hop tears its circuit down. While the output port is quiet
it is refused a new circuit until it has woken (R357). -/
def State.setCircuit (s : State) (t id : Nat) (v : W64) : State :=
  let a := Reg.rtrCircuit t id
  let v := v &&& ~~~ fldMask 23 22
  let out := fld v 5 1
  let s := s.cond (s.rdB a 0 && !bitOf v 0) (fun s => s.tearEntry (t, id))
  let had := s.rdB a 0
  let quiet := fun (p : Nat) => decide (p < 16) && s.rdB (Reg.prtStatus p) 5
  if bitOf v 0 && ((quiet out && !(had && s.rdF a 5 1 == out)) || (quiet t && !had)) then s else s.wr a v

/-- CIRCUIT_ENTRY_WRITE (R424). -/
def execCircuitEntryWrite (ag : Agent) (t : Fin 17) (id : BitVec 12) (v : W64) (s : State) : Result :=
  .next (s.csrAccess ag (Reg.rtrCircuit t id.toNat) 8 true (fun s =>
    if ag = .fab then s.setCircuit t id.toNat v else s.refuseWrite ag))

/-- TELEMETRY_WINDOW_END (R425): every counter is copied into the snapshot, and RTR_TELEM_GEN moves by 2. -/
def execTelemetryWindowEnd (s : State) : Result :=
  .next (
    let s := { s with answer := .none }
    let s := s.each (List.range 71) (fun s i => s.wr (Reg.rtrSnapshot i) (s.rd (Reg.rtrOutBytes 0 + 8 * i)))
    s.wr Reg.rtrTelemGen (s.rd Reg.rtrTelemGen + 2))

end Sys2Proof.Machine
end

