-- ==== Sys2Proof/Machine/FwCmds.lean ====
section
/-!
DEFINITION. Firmware updates (13_firmware_mailboxes.md R561 to R569): staging, activation, handover with the levain record, rollback, and
the configuration record's fields.
-/
namespace Sys2Proof.Machine

/-! ### The update state (R562, R569) -/

/-- HUB_FW_UPD.state. -/
def State.updState (s : State) : Nat := s.rdF Reg.hubFwUpd 3 0

/-- Sets it. -/
def State.setUpd (s : State) (x : Nat) : State := s.wrF Reg.hubFwUpd 3 0 x

/-- State of component `k` (R569). -/
def State.compState (s : State) (k : Nat) : Nat := s.rdF (Reg.hubFwComp (k - 1)) 35 33

/-- PF0's running commands of an opcode complete. -/
def State.finishOp (s : State) (op status : Nat) (result : W64) : State :=
  s.each (List.range 2) (fun s h => s.updFn h 0 (fun x => { x with cmds := x.cmds.map (fun c =>
    if c.op = op ∧ c.stage = .running then { c with stage := .done status result } else c) }))

/-- Whether the PMC reports an emergency (R566, R639). -/
def State.emergencyNow (s : State) : Bool := decide (s.rdF Reg.pmcEmerg 1 0 ≠ 0)

/-! ### Staging (R561, R562) -/

/-- Staging ends without a bundle: state 8 with event 0x801. -/
def State.stagingFailed (s : State) (status : Nat) : State := ((s.setUpd 8).event 0x801).finishOp 0x44 status 0

/-- FW_STAGE (R561): the bundle, as the host answers the read of it, goes to the slot that is not active. -/
def execFwStage (h : Fin 2) (host : HostData) (s : State) : Result :=
  .next (s.withCmd h 0 0x44 (fun s c _ =>
    let st := s.updState
    let n := c.par 16 4
    if c.par 8 8 % 4096 ≠ 0 ∨ 0x2000000 < n then s.finish h 0 c 1
    else if ¬ (st = 0 ∨ st = 2 ∨ st = 7 ∨ st = 8) then s.finish h 0 c 6
    else
      let s := ((s.setUpd 1).wrF Reg.hubFwUpd 63 32 0).setStage h 0 c .running
      if !(host.ok && host.data.length == n) then (s.hostFailed h 0 host.reason (c.par 8 8)).stagingFailed 0xF
      else s.writeSlot (1 - s.activeSlot) host.data))

/-- STAGING_VERIFIED (R559, R562): the SEC has verified the bundle, or not. -/
def execStagingVerified (s : State) : Result :=
  .next (
    let s := { s with answer := .none }
    if s.updState ≠ 1 then s
    else
      let x := 1 - s.activeSlot
      let r := s.checkSlot x
      if r.2 then
        let v := bundleVersion (r.1.slotBytes x)
        ((r.1.setUpd 2).wrF Reg.hubFwUpd 63 32 v).finishOp 0x44 0 (BitVec.ofNat 64 v)
      else r.1.stagingFailed 0xB)

/-! ### Activation (R562, R566, R632) -/

/-- An activation proceeds to state 4: the CCCs and BDCs wait for their images (R564). -/
def State.beginHandover (s : State) : State :=
  let s := (s.setUpd 4).wrB Reg.hubFwUpd 22 false
  let s := { s with fw := { s.fw with cccWait := 2 ^ 64 - 1, bdcWait := 2 ^ 12 - 1, unitSlot := 1 - s.activeSlot } }
  (s.wrF (Reg.hubFwComp 4) 42 36 64).wrF (Reg.hubFwComp 5) 42 36 12

/-- An update in state 3 goes on when no emergency is active; else it is held, with event 0x807. -/
def State.tryActivate (s : State) : State :=
  if s.updState ≠ 3 then s
  else if s.emergencyNow then
    if s.rdB Reg.hubFwUpd 22 then s else (s.wrB Reg.hubFwUpd 22 true).event 0x807
  else s.beginHandover

/-- FW_ACTIVATE (R561, R562): every component is unresolved; the command completes when state 4 ends. -/
def execFwActivate (h : Fin 2) (s : State) : Result :=
  .next (s.withCmd h 0 0x45 (fun s c _ =>
    if s.updState ≠ 2 then s.finish h 0 c 6
    else
      let s := ((s.setUpd 3).wrF Reg.hubFwUpd 9 4 0x3F).wrF Reg.hubFwUpd 21 10 0
      ((s.event 0x803).setStage h 0 c .running).tryActivate))

/-! ### Handover (R563, R565, R567, R568) -/

/-- The first 32 bytes of a levain record. -/
def levainHead (fmt k old new len seq inc : Nat) : List Byte :=
  leBytes 4 0x4B5A4C56 ++ leBytes 2 fmt ++ leBytes 1 k ++ leBytes 1 0 ++ leBytes 4 old ++ leBytes 4 new ++ leBytes 4 len ++ leBytes 4 seq
    ++ leBytes 2 inc ++ leBytes 2 0 ++ leBytes 4 0

/-- A levain record from its head and payload (R567). -/
def levainRecord (hd payload : List Byte) : List Byte :=
  hd ++ hd.map (fun b => ~~~ b) ++ digestBytes (sha3_512 (hd ++ payload)) ++ payload

/-- Whether an image of a component adopts a record (R568). -/
def levainAdopts (r : List Byte) (k version fmtMin fmtMax : Nat) : Bool :=
  let hd := r.take 32
  let payload := r.drop 0x80
  (r.drop 32).take 32 == hd.map (fun b => ~~~ b)
    && (r.drop 64).take 64 == digestBytes (sha3_512 (hd ++ payload))
    && bodyNat r 6 1 == k && bodyNat r 0xC 4 == version && decide (fmtMin ≤ bodyNat r 4 2 ∧ bodyNat r 4 2 ≤ fmtMax)

/-- The interface bytes of the running SCH's bundle in every function's HIF_EMU_FWVER (R497, R557). -/
def State.setFwver (s : State) : State :=
  let b := s.slotBytes (s.rdF (Reg.hubFwComp 2) 32 32)
  s.each (List.range 10) (fun s i => s.wr (Reg.hifEmuFwver (i / 5) (i % 5)) (BitVec.ofNat 64 (bodyNat b 0x14 3)))

/-- A component starts from a slot: incarnation, version, slot and measurement (R528, R569, R586). -/
def State.startCore (s : State) (k x : Nat) : State :=
  let s := ((s.startComponent k x).agentStart k).setCompState k 1
  s.cond (k == 3) (fun s => { s with host := { s.host with stopped := true } })

/-- A started component runs. -/
def State.coreRuns (s : State) (k : Nat) : State :=
  let s := s.setCompState k 2
  let s := { s with fw := { s.fw with starting := none } }
  s.cond (k == 3) (fun s => ({ s with host := { s.host with stopped := false } } : State).setFwver)

/-- Component `k` is resolved as adopted (bit 10 on) or rolled back (bit 16 on). -/
def State.resolve_ (s : State) (k lo : Nat) : State := (s.wrB Reg.hubFwUpd (3 + k) false).wrB Reg.hubFwUpd (lo + k - 1) true

/-- FW_ACTIVATE completes: its result is the adopted components (R561). -/
def State.activated (s : State) : State := s.finishOp 0x45 0 (BitVec.ofNat 64 (s.rdF Reg.hubFwUpd 15 10))

/-- A component has adopted its record (R562): after the SCH the active slot is switched and its trial begins. -/
def State.adopted (s : State) (k : Nat) : State :=
  let s := ((s.coreRuns k).resolve_ k 10).event 0x804 (.component k) k
  if k = 3 then
    let s := { s with config := s.config.store (fun r => { r with slot := 1 - r.slot, trial := true, attempts := 0 }) }
    (s.setUpd 5).activated
  else if k = 2 then s.setUpd 6
  else s

/-- A component goes back to its old image (R562, R565), event 0x805; `starts`: whether the old image starts. Units that still wait keep
the image they run. -/
def State.rollBack (s : State) (k : Nat) (starts : Bool) : State :=
  let old := if k = 2 then 1 - s.activeSlot else s.activeSlot
  let s := s.event 0x805 (.component k) k
  let s := (s.startCore k old).resolve_ k 16
  let s := s.cond (k != 2) (fun s =>
    ((({ s with fw := { s.fw with cccWait := 0, bdcWait := 0 } } : State).wrF (Reg.hubFwComp 4) 42 36 0).wrF (Reg.hubFwComp 5) 42 36 0).wrF Reg.hubFwUpd 9 4 0)
  if starts then ((s.coreRuns k).setUpd (if k = 2 then 6 else 7)).cond (k != 2) State.activated
  else
    let s := { s with fw := { s.fw with starting := none } }
    (((s.setCompState k 4).setUpd 8).event 0x806 (.component k) k).activated

/-- Whether component `k` hands over now (R562, R563): FAB, then SCH, in state 4; the PMC in state 5 once its handover has started. -/
def State.mayHandOver (s : State) (k : Nat) : Bool :=
  s.fw.starting.isNone && s.rdB Reg.hubFwUpd (3 + k) &&
    ((k == 4 && s.updState == 4) || (k == 3 && s.updState == 4 && s.rdB Reg.hubFwUpd 13)
      || (k == 2 && s.updState == 5 && s.compState 2 == 3))

/-- HANDOVER (R563, R567, R568) of component `k`: the old image writes its state, `payload`, as a levain record, and the SEC verifies the
bundle and starts the new image; when that `comes` up in time it adopts the record, or is rolled back. -/
def execHandover (k : Fin 7) (payload : List Byte) (comes : Bool) (s : State) : Result :=
  .next (
    let k := k.val
    let s := { s with answer := .none }
    if !s.mayHandOver k || decide (130944 < payload.length) then s
    else
      let new := if k = 2 then s.activeSlot else 1 - s.activeSlot
      let e := bundleOf (s.slotBytes new) k
      let o := bundleOf (s.slotBytes (1 - new)) k
      let hd := levainHead o.fmt k (s.rdF (Reg.hubFwComp (k - 1)) 31 0) e.version payload.length s.fw.levainSeq (s.rdF (Reg.bbxInc k) 15 0)
      let rcd := levainRecord hd payload
      let s := s.setCompState k 3
      let s := { s with fw := { s.fw with levain := rcd, levainBack := s.fw.levain, levainSeq := (s.fw.levainSeq + 1) % 2 ^ 32 } }
      let r := s.checkSlot new
      if !r.2 then (r.1.event 0x801 (.component k) k).rollBack k true
      else
        let s := r.1.startCore k new
        if !comes then { s with fw := { s.fw with starting := some k } }
        else if levainAdopts rcd k e.version e.fmtMin e.fmtMax then s.adopted k
        else s.rollBack k true)

/-- ADOPT_TIMEOUT (R565): the image started last has not adopted within 2 s; `starts`: the old image starts again. -/
def execAdoptTimeout (starts : Bool) (s : State) : Result :=
  .next (
    let s := { s with answer := .none }
    match s.fw.starting with
    | some k => s.rollBack k starts
    | none => s)

/-- PMC_HANDOVER_START (R566, R632): 60 s without an emergency have passed in state 5. -/
def execPmcHandoverStart (s : State) : Result :=
  .next (
    let s := { s with answer := .none }
    if s.updState = 5 ∧ !s.emergencyNow ∧ s.compState 2 ≠ 3 ∧ s.compState 2 ≠ 4 then s.setCompState 2 3 else s)

/-! ### Status and configuration (R532, R561) -/

/-- FW_STATUS (R561). -/
def execFwStatus (h : Fin 2) (s : State) : Result :=
  .next (s.withCmd h 0 0x46 (fun s c _ => s.finish h 0 c 0 (s.rd Reg.hubFwUpd)))

/-- CONFIG (R461, R470, R532, R561): an item goes to the configuration record, and role_en, prio or the machine identifier into force. -/
def execConfig (h : Fin 2) (s : State) : Result :=
  .next (s.withCmd h 0 0x47 (fun s c _ =>
    let store := fun (f : ConfigRecord → ConfigRecord) => ({ s with config := s.config.store f } : State)
    let v := BitVec.ofNat 64 (c.par 16 8)
    match c.par 8 1 with
    | 1 =>
      if 1 < c.par 9 1 then s.finish h 0 c 1
      else
        let s := store (fun r => { r with roleEn := c.par 9 1 == 1, prio := c.par 10 1 })
        ((s.wrB Reg.hubFmCtrl 0 (c.par 9 1 == 1)).wrF Reg.hubFmCtrl 15 8 (c.par 10 1)).finish h 0 c 0
    | 2 => ((store (fun r => { r with machine := v })).wr Reg.hubFmMachine v).finish h 0 c 0
    | 3 =>
      let s := store (fun r => { r with origin := v })
      ({ s with fm := { s.fm with origin := v } } : State).finish h 0 c 0
    | _ => s.finish h 0 c 1))

end Sys2Proof.Machine
end

