-- ==== Sys2Proof/Machine/SecCmds.lean ====
section
/-!
DEFINITION. Attestation, key slots, sealed weights and the owner's commands (14_security_partitions.md R583 to R601).
-/
namespace Sys2Proof.Machine

/-! ### Keys of the device (R584) -/

/-- The seed of the identity key. -/
def idkSeed : List Byte := shake256 (Config.uds ++ asciiBytes "KZN4810-IDK")

/-- Bytes of a measurement (R586, R606). -/
def State.measBytes (s : State) (k : Nat) : List Byte := (List.range 8).flatMap (fun i => leBytes 8 (s.rd (Reg.secMeas k i)).toNat)

/-- The seed of the attestation key of this cold boot: it depends on the SEC measurement. -/
def State.akSeed (s : State) : List Byte := shake256 (Config.uds ++ asciiBytes "KZN4810-AK" ++ s.measBytes 1)

/-! ### The report (R588 to R591) -/

/-- Bytes of an exact length: cut, or filled up with zeros. -/
def fitBytes (n : Nat) (b : List Byte) : List Byte := b.take n ++ List.replicate (n - b.length) 0

/-- Fields at their offsets, ascending, in a block of `n` bytes; every byte not listed is 0. -/
def layOut (n : Nat) (fs : List (Nat × List Byte)) : List Byte :=
  fitBytes n (fs.foldl (fun acc f => acc ++ List.replicate (f.1 - acc.length) 0 ++ f.2) [])

/-- The weight digest of a slot (R590): over index and digest of every chunk it has verified since it was keyed; 0 when none. -/
def State.weightDigest (s : State) (k : Nat) : List Byte :=
  match s.sec.chunks.get k with
  | [] => leBytes 64 0
  | l => digestBytes (sha3_512 (l.flatMap (fun c => leBytes 4 c.1 ++ digestBytes c.2)))

/-- The registers from an address on as bytes, `n` of 8 bytes each. -/
def State.regBytes (s : State) (a n : Nat) : List Byte := (List.range n).flatMap (fun i => leBytes 8 (s.rd (a + 8 * i)).toNat)

/-- The report of a partition without its signature: bytes 0x0000 to 0x0A9F (R589). -/
def State.reportBytes (s : State) (p : Nat) (k : EphKey) : List Byte :=
  layOut 0xAA0
    [(0x00, leBytes 4 0x4B5A4154), (0x04, leBytes 4 1), (0x08, leBytes 4 0x1D00), (0x0C, leBytes 1 p),
     (0x0D, leBytes 1 (((s.partDies p).map (fun d => 2 ^ d)).foldl (· + ·) 0)), (0x0E, leBytes 1 (s.partPort p)),
     (0x10, fitBytes 64 k.nonce), (0x50, leBytes 8 s.fuses.serial.toNat), (0x58, leBytes 4 (s.rd Reg.hubId).toNat),
     (0x5C, leBytes 4 s.fuses.svnFloor), (0x60, leBytes 8 (s.rd Reg.hubFpGen).toNat),
     (0x68, leBytes 2 (if s.rdB (Reg.rtrDomain p) 31 then s.domainOf p else 0)), (0x70, leBytes 8 (s.rd Reg.secPartMap).toNat),
     (0x78, (List.range 4).flatMap (fun j => leBytes 8 (s.rd (Reg.secKslot (4 * p + j))).toNat)),
     (0xA0, (List.range 7).flatMap s.measBytes), (0x260, (List.range 6).flatMap (fun c => leBytes 4 (s.rdF (Reg.hubFwComp c) 31 0))),
     (0x280, s.regBytes (Reg.hubFpDigest 0) 8), (0x2C0, digestBytes (s.sec.packages.get p)),
     (0x300, digestBytes (s.sec.baseDigests.get p)), (0x340, digestBytes (s.sec.clxDigests.get p)),
     (0x380, (List.range 4).flatMap (fun j => s.weightDigest (4 * p + j))), (0x480, fitBytes 1568 (Config.mlkemKey k.draw))]

/-- The certificate block (R591). -/
def State.certBlock (s : State) : List Byte :=
  let ak := Config.akCert idkSeed s.akSeed (s.measBytes 1)
  leBytes 4 ak.length ++ leBytes 4 Config.idkCert.length ++ ak ++ Config.idkCert

/-- ATTEST (R588): the nonce is what the host answers for the first 64 bytes of the buffer; a device of lifecycle 2 signs no report
(R584). -/
def execAttest (h : Fin 2) (f : Fin 5) (host : HostData) (s : State) : Result :=
  .next (s.withCmd h f 0x48 (fun s c p =>
    let addr := c.par 8 8
    if addr % 4096 ≠ 0 then s.finish h f c 1
    else if s.fuses.lifecycle = 2 then s.finish h f c 6
    else if !(host.ok && host.data.length == 64) then (s.hostFailed h f host.reason addr).finish h f c 0xF
    else
      let (d, s) := s.draw
      let (rnd, s) := s.draw
      let k : EphKey := { draw := d, nonce := host.data, digest := s.sec.packages.get p }
      let s := { s with sec := { s.sec with eph := s.sec.eph.set p (some k) } }
      let body := s.reportBytes p k
      let sig := fitBytes 4627 (Config.mldsaSign s.akSeed body rnd)
      let s := s.hostOut [.write h f (BitVec.ofNat 64 addr) (fitBytes 7424 (body ++ sig)),
        .write h f (BitVec.ofNat 64 (addr + 0x1D00)) s.certBlock]
      (s.event 0x704 .none p (some p)).finish h f c 0 0x1D00))

/-! ### Key slots (R593 to R597, R605) -/

/-- A handle becomes sealed (R594): the access bits of host and remote are 0, and windows on it are refused. -/
def State.seal (s : State) (hd : Nat) : State :=
  let x := handleIndex hd
  let s := s.cpCommit (Reg.hubDescW0 x) (setFld (s.rd (Reg.hubDescW0 x)) 16 13 0)
  let s := s.updStacks (fun k => { k with sealed := k.sealed ++ [x] })
  s.each (List.range 2) (fun s h => s.each (List.range 5) (fun s f => s.each (List.range 32) (fun s w =>
    let v := s.rd (Reg.hifEmuWin h f w)
    s.cond (fld v 25 24 == 1 && fld v 23 0 == hd) (fun s => s.wrF (Reg.hifEmuWinStat h f w) 1 0 2))))

/-- The key and nonce prefix that a blob wraps for the holder of an ephemeral key (R593). -/
def unwrapKey (k : EphKey) (b : List Byte) : Option KeyMat :=
  let kek := Config.mlkemDecap k.draw (b.take 0x620)
  let aad := fitBytes 64 k.nonce ++ digestBytes k.digest
  (Config.gcmOpen kek ((b.drop 0x620).take 12) aad ((b.drop 0x630).take 48) ((b.drop 0x660).take 16)).map
    (fun t => { key := t.take 32, pre := (t.drop 32).take 8 })

/-- KEY_IMPORT (R593): `bad`: stored values that show a complement mismatch at this use (R605). -/
def execKeyImport (h : Fin 2) (f : Fin 5) (host : HostData) (bad : List Nat) (s : State) : Result :=
  .next ((s.mismatches bad).withCmd h f 0x49 (fun s c p =>
    let j := c.par 8 1
    let k := 4 * p + j
    let hd := c.par 9 3
    let addr := c.par 16 8
    if 3 < j then s.finish h f c 1
    else match s.sec.eph.get p with
      | none => s.finish h f c 6
      | some e =>
        if s.slotState k ≠ 0 then s.finish h f c 6
        else if !s.handleOwned (.host p) hd
            || (List.range 16).any (fun i => i != k && s.slotState i != 0 && s.slotHandle i == hd) then s.finish h f c 4
        else if !(host.ok && host.data.length == 1648) then (s.hostFailed h f host.reason addr).finish h f c 0xF
        else
          let refuse := (s.event 0x706 .none k (some p)).finish h f c 1
          if s.sec.packages.get p ≠ e.digest then refuse
          else match unwrapKey e host.data with
            | none => refuse
            | some m =>
              let s := (s.setSlot k (setFld (setFld 0 1 0 1) 31 8 hd)).dropEph p
              let s := { s with sec := { s.sec with keys := s.sec.keys.set k (some m), chunks := s.sec.chunks.set k [] } }
              ((s.seal hd).event 0x705 .none k (some p)).finish h f c 0))

/-- KEY_CLEAR (R597). -/
def execKeyClear (h : Fin 2) (f : Fin 5) (s : State) : Result :=
  .next (s.withCmd h f 0x4B (fun s c p =>
    if 3 < c.par 8 1 then s.finish h f c 1 else (s.emptySlot (4 * p + c.par 8 1)).finish h f c 0))

/-! ### Sealed weights (R595, R596) -/

/-- Bytes of a sealed record: a header of 4 KiB and up to 4 MiB of ciphertext (R595). -/
def recordStride : Nat := 0x401000

/-- A read of the remote node for a sealed load: `n` bytes of the record of chunk `i`, from offset `at_` of it on, in transactions of
64 KiB in flow class 1 under the partition's domain. -/
def State.sealAsk (s : State) (c : HostCmd) (p k i at_ n : Nat) : State :=
  let base := c.par 32 8 + (i - c.par 12 4) * recordStride + at_
  let jobs : List NetJob := (List.range (ceilDiv n 65536)).map (fun t =>
    { owner := .seal k, op := 3, domain := s.domainOf p, handle := c.par 24 3, offset := base + 65536 * t, len := min 65536 (n - 65536 * t),
      store := at_ + 65536 * t })
  (s.updSend (sendKey (c.par 20 3 % 2 ^ 20) 1) (fun x => { x with queue := x.queue ++ jobs })).gauges

/-- SEAL_LOAD (R595): the load begins; SEAL_CHUNK_DONE carries out its chunks in ascending order. -/
def execSealLoad (h : Fin 2) (f : Fin 5) (bad : List Nat) (s : State) : Result :=
  .next ((s.mismatches bad).withCmd h f 0x4A (fun s c p =>
    let j := c.par 8 1
    let k := 4 * p + j
    if 3 < j ∨ 1 < c.par 9 1 ∨ c.par 16 4 = 0 ∨ c.par 32 8 % 4096 ≠ 0 ∨ 2 ^ 20 ≤ c.par 20 4 then s.finish h f c 1
    else if s.slotState k ≠ 1 ∨ (s.sec.loads.get k).isSome then s.finish h f c 6
    else
      let s := { s with sec := { s.sec with loads := s.sec.loads.set k (some { fn := fnKey h f, entry := c.entry, next := c.par 12 4 }) } }
      let s := s.updRouter (fun r => { r with
        sealData := r.sealData.filter (fun x => x.1 ≠ k)
        sealFailed := r.sealFailed.filter (· ≠ k) })
      let s := s.cond (c.par 9 1 == 1) (fun s => s.sealAsk c p k (c.par 12 4) 0 4096)
      s.setStage h f c .running))

/-- The bytes of a remote record that have come so far, when they are the first `n` of it. -/
def State.sealBytes (s : State) (k n : Nat) : Option (List Byte) :=
  let ps := s.router.sealData.filter (fun x => x.1 = k)
  let bytes := ps.foldl (fun (acc : List Byte) _ =>
    match ps.find? (fun x => x.2.1 = acc.length) with
    | some x => acc ++ x.2.2
    | none => acc) []
  if n ≤ bytes.length then some (bytes.take n) else none

/-- Whether the header of a record of chunk `i` passes the checks of R596: magic, index, length, and its place in the handle. -/
def State.sealHeaderOk (s : State) (k i : Nat) (b : List Byte) : Bool :=
  let n := bodyNat b 8 4
  let size := s.descSlabs (handleIndex (s.slotHandle k)) * 0x200000
  bodyNat b 0 4 == 0x4B5A5345 && bodyNat b 4 4 == i && n % 4096 == 0
    && decide (n ≤ 0x400000 ∧ i * 0x400000 + n ≤ size ∧ 4096 + n ≤ b.length)

/-- The plaintext of a record of chunk `i` for a slot, when every check of R596 passes but that of a digest already recorded. -/
def State.sealOpen (s : State) (k i : Nat) (b : List Byte) : Option (List Byte) :=
  let n := bodyNat b 8 4
  match s.sec.keys.get k with
  | none => none
  | some m =>
    if !s.sealHeaderOk k i b then none
    else (Config.gcmOpen m.key (m.pre ++ leBytes 4 i) (b.take 16) ((b.drop 4096).take n) ((b.drop 16).take 16)).bind
      (fun t => if t.length = n then some t else none)

/-- A chunk is verified (R590, R596): its plaintext is in the handle, and its digest recorded. -/
def State.sealDone (s : State) (k i : Nat) (t : List Byte) : State :=
  let d := sha3_512 t
  let l : List (Nat × BitVec 512) := s.sec.chunks.get k
  let s := s.hubWrite (s.slotHandle k) (i * 0x400000) t
  if l.any (fun c => c.1 == i) then s
  else
    let l' : List (Nat × BitVec 512) := l.filter (fun c => decide (c.1 < i)) ++ [(i, d)] ++ l.filter (fun c => decide (i < c.1))
    let s := { s with sec := { s.sec with chunks := s.sec.chunks.set k l' } }
    s.setSlot k (setFld (s.rd (Reg.secKslot k)) 63 32 (l.length + 1))

/-- A chunk fails (R596): its range of the handle reads zero, the slot fails, and the command completes. `n`: the length of its range. -/
def State.sealFail (s : State) (h f p k i n : Nat) (c : HostCmd) (status : Nat) : State :=
  let hd := s.slotHandle k
  let size := s.descSlabs (handleIndex hd) * 0x200000
  let len := min n (size - i * 0x400000)
  let s := s.hubWrite hd (i * 0x400000) (List.replicate len 0)
  let s := s.updRouter (fun r => { r with
    sealData := r.sealData.filter (fun x => x.1 ≠ k)
    sealFailed := r.sealFailed.filter (· ≠ k) })
  ((s.failSlot k).event 0x707 .none k (some p)).finish h f c status

/-- A chunk whose record has come is verified or fails, and the load goes on or ends (R595, R596). A tag that does not verify is also
event 0x303. -/
def State.sealChunk (s : State) (h f p k i : Nat) (c : HostCmd) (b : List Byte) : State :=
  let n := bodyNat b 8 4
  let range := if n % 4096 = 0 ∧ n ≤ 0x400000 then n else 0x400000
  match s.sealOpen k i b with
  | none =>
    let s := s.cond (s.sealHeaderOk k i b) (fun s =>
      s.event 0x303 .none (9 + 2 * 16 + s.slotHandle k * 2 ^ 6 + i * 1024 % 2 ^ 32 * 2 ^ 32) (some p))
    s.sealFail h f p k i range c 1
  | some t =>
    if (s.sec.chunks.get k).any (fun x => x.1 == i && x.2 != sha3_512 t) then s.sealFail h f p k i range c 1
    else
      let s := s.sealDone k i t
      let s := s.updRouter (fun r => { r with sealData := r.sealData.filter (fun x => x.1 ≠ k) })
      if i + 1 < c.par 12 4 + c.par 16 4 then
        let s := { s with sec := { s.sec with loads := s.sec.loads.set k (some { fn := fnKey h f, entry := c.entry, next := i + 1 }) } }
        s.cond (c.par 9 1 == 1) (fun s => s.sealAsk c p k (i + 1) 0 4096)
      else
        ({ s with sec := { s.sec with loads := s.sec.loads.set k none } } : State).finish h f c 0 (BitVec.ofNat 64 (c.par 16 4))

/-- SEAL_CHUNK_DONE (R596): the next chunk of the function's load has come in full. From host memory its record is what the host
answers; from a remote node it is what has arrived, its header first and then its ciphertext. -/
def execSealChunkDone (h : Fin 2) (f : Fin 5) (host : HostData) (s : State) : Result :=
  .next (
    let h := h.val
    let f := f.val
    let s := { s with answer := .none }
    match (s.fn h f).cmds.find? (fun c => c.stage = .running ∧ c.op = 0x4A), s.fnPart h f with
    | some c, some p =>
      let k := 4 * p + c.par 8 1
      (match s.sec.loads.get k with
      | none => s.finish h f c 6
      | some l =>
        if l.fn ≠ fnKey h f ∨ l.entry ≠ c.entry then s.finish h f c 6
        else if c.par 9 1 = 0 then
          if host.ok then s.sealChunk h f p k l.next c host.data
          else (s.hostFailed h f host.reason (c.par 32 8 + (l.next - c.par 12 4) * recordStride)).sealFail h f p k l.next 0x400000 c 0xF
        else if s.router.sealFailed.contains k then s.sealFail h f p k l.next 0x400000 c 1
        else match s.sealBytes k 4096 with
          | none => s
          | some hd =>
            let n := bodyNat hd 8 4
            if bodyNat hd 0 4 ≠ 0x4B5A5345 ∨ n % 4096 ≠ 0 ∨ 0x400000 < n then s.sealChunk h f p k l.next c hd
            else match s.sealBytes k (4096 + n) with
              | some b => s.sealChunk h f p k l.next c b
              | none =>
                let asked := (s.send (sendKey (c.par 20 3 % 2 ^ 20) 1))
                let busy := asked.queue.any (fun j => decide (j.owner = .seal k)) || asked.txns.any (fun t => decide (t.job.owner = .seal k))
                if busy then s else s.sealAsk c p k l.next 4096 n)
    | _, _ => s)

/-! ### The owner's commands and link encryption (R598 to R600) -/

/-- SVN_COMMIT (R599). -/
def execSvnCommit (h : Fin 2) (s : State) : Result :=
  .next (s.withCmd h 0 0x4C (fun s c _ =>
    let v := c.par 8 4
    if s.updState ≠ 0 ∨ bundleSvn (s.slotBytes s.activeSlot) < v ∨ 255 < v ∨ v < s.fuses.svnFloor then s.finish h 0 c 6
    else
      let s := { s with fuses := { s.fuses with svnFloor := v } }
      (s.event 0x70B).finish h 0 c 0))

/-- OWNER_ENROLL (R600): the block is what the host answers; once a key is enrolled it must be signed by the current owner over the
digest of the new key and SEC_NONCE. The current owner's public key follows the signature, as every operation that it authorises
carries it. -/
def execOwnerEnroll (h : Fin 2) (host : HostData) (s : State) : Result :=
  .next (s.withCmd h 0 0x4D (fun s c _ =>
    let b := host.data
    let key := b.take 2592
    let r := s.config.record
    let signed := sha3_512 ((b.drop 7219).take 2592) == r.ownerDigest
      && Config.mldsaVerify ((b.drop 7219).take 2592) (digestBytes (sha3_512 key) ++ s.nonceBytes) ((b.drop 2592).take 4627)
    if !host.ok || decide (b.length < 7219) then (s.hostFailed h 0 host.reason (c.par 8 8)).finish h 0 c 0xF
    else if r.ownerEnrolled && !signed then s.finish h 0 c 2
    else
      let s := { s with config := s.config.store (fun r => { r with ownerEnrolled := true, ownerDigest := sha3_512 key }) }
      ((s.event 0x70A).newNonce).finish h 0 c 0))

/-- IDE_KEY_PROGRAM (R598): PF0's DOE mailbox programs the key of an IDE stream of the port: the link stream, PF0's or a VF's. -/
def execIdeKeyProgram (h : Fin 2) (stream : Fin 6) (s : State) : Result :=
  .next (
    let s := { s with answer := .none }
    if s.fnPresent h 0 then
      ({ s with sec := { s.sec with ideKeys := s.sec.ideKeys.upd (8 * h.val + stream.val) (· + 1) } } : State).event 0x70C (.hostPort h) stream
    else s)

end Sys2Proof.Machine
end

