-- ==== Sys2Proof/Machine/UnitCmds.lean ====
section
/-!
DEFINITION. The commands of the cluster control cores and of the base-die controllers (13_firmware_mailboxes.md R555, R556, R560,
R564; 07_base_programs.md R321, R322).
-/
namespace Sys2Proof.Machine

/-! ### Cluster control cores (R555) -/

/-- Whether an agent may put an answer into a breadbox now: it is empty, and its peel, where it has one, is free. -/
def State.boxFree (s : State) (b : Nat) : Bool := !s.boxGo b && s.boxOwner b == 0

/-- A CCC takes the command that waits, if it is `cmd` and its breadbox has room for the answer: `f` carries it out and gives the
answer's words. -/
def State.cccCommand (s : State) (c cmd : Nat) (f : State → State × List Nat) : State :=
  let s := { s with answer := .none }
  if !s.domOn (clusterDomain c) || !s.rdB (Reg.cluCccCmd c) 0 || s.rdF (Reg.cluCccCmd c) 15 8 != cmd || !s.boxFree (32 + c / 4) then s
  else
    let r := f (s.wrB (Reg.cluCccCmd c) 0 false)
    r.1.boxPost (32 + c / 4) (0x10 + c) (0x8000 + cmd) r.2

/-- CCC_SELF_TEST (R555): `low` is what the test finds, bits 26:0 of HUB_FP_CLU. A CCC with no image running refuses. -/
def execCccSelfTest (c : Fin 64) (low : BitVec 27) (s : State) : Result :=
  .next (s.cccCommand c 1 (fun s =>
    if s.rdF (Reg.cluCccStatus c) 2 0 = 2 then (s.selfTested c low.toNat, [0, low.toNat]) else (s, [1, 0])))

/-- CCC_START_IMAGE (R555, R560): the image in code memory starts, in a CCC that is off or stopped. -/
def execCccStartImage (c : Fin 64) (s : State) : Result :=
  .next (s.cccCommand c 2 (fun s =>
    let st := s.rdF (Reg.cluCccStatus c) 2 0
    if st = 0 ∨ st = 4 then ((s.agentStart (0x10 + c.val)).wrF (Reg.cluCccStatus c) 2 0 2, [0]) else (s, [1])))

/-- CCC_STOP (R555). -/
def execCccStop (c : Fin 64) (s : State) : Result :=
  .next (s.cccCommand c 3 (fun s =>
    if s.rdF (Reg.cluCccStatus c) 2 0 = 2 then (s.wrF (Reg.cluCccStatus c) 2 0 4, [0]) else (s, [1])))

/-! ### Base-die controllers (R321, R556) -/

/-- Whether calls are queued or running on a stack (R301, R321). -/
def State.baseBusy (s : State) (n : Nat) : Bool := !(s.bases.get n).queue.isEmpty || (s.bases.get n).run.isSome

/-- A BDC takes a request of a type: refused while its stack is off or in training, waiting while calls run (`idle`); else `f` gives
the state and the answer's words. The answer goes to the requester's breadbox, which must have room. -/
def State.bdcRequest (s : State) (n type : Nat) (idle : Bool) (f : State → State × List Nat) : State :=
  let s := { s with answer := .none }
  let b := 52 + n
  let back := bdcAnswerBox n (s.boxSender b)
  if !s.domOn (stackDomain n) || !s.boxHolds b type || !s.boxFree back then s
  else
    let refuse := decide (s.rdF (Reg.stkStatus n) 2 0 ≤ 1)
    if idle && !refuse && s.baseBusy n then s
    else
      let s := s.boxEmpty b
      let r := if refuse then (s, [1]) else f s
      r.1.boxPost back (0x50 + n) (0x8000 + type) r.2

/-- BDC_CLEAR_FRAMES (R321, R556): words 0 and 1 give the first frame and their number; frames that are clearing become free, and a
lost frame is left alone. -/
def execBdcClearFrames (n : Fin 12) (s : State) : Result :=
  .next (s.bdcRequest n 0x0101 true (fun s =>
    let lo := s.boxData (52 + n.val) 0
    let cnt := s.boxData (52 + n.val) 1
    if 32768 < lo + cnt then (s, [1])
    else
      let gs := ((List.range cnt).map (fun i => frameNo n (lo + i))).filter (fun g => s.stackSide.frames.get g ≠ .lost)
      let done := gs.filter (fun g => s.stackSide.frames.get g = .clearing)
      ((s.each gs (fun s g => s.zeroRange (dpaOfFrame g) 0x200000)).setFrames done .free, [0])))

/-- The whole stack is scrubbed (R321): every frame reads zero with valid checks, and frames that are clearing become free. -/
def State.scrubStack (s : State) (n : Nat) : State :=
  let a := n * 0x1000000000
  let s := s.blankRange a (a + 0x1000000000)
  s.setFrames ((s.stackSide.frames.filter (fun e => e.1 / 32768 = n ∧ e.2 = .clearing)).map Prod.fst) .free

/-- BDC_SCRUB (R321, R556). -/
def execBdcScrub (n : Fin 12) (s : State) : Result :=
  .next (s.bdcRequest n 0x0102 true (fun s => (s.scrubStack n, [0])))

/-- The pseudo-channels that a native test covers, by power-cycle count (R321, R612). -/
def nativePcs (cycles : Nat) : Nat := 0x1000100010001 * 2 ^ (cycles % 16)

/-- BDC_TEST_NATIVE (R321, R322, R556): March C- on four pseudo-channels, then scrub; `fails`: those in which a line fails. -/
def execBdcTestNative (n : Fin 12) (fails : W64) (s : State) : Result :=
  .next (s.bdcRequest n 0x0103 true (fun s =>
    let m := fails &&& BitVec.ofNat 64 (nativePcs s.rcd.cycles)
    (s.scrubStack n, [0, fld m 31 0, fld m 63 32])))

/-- BDC_TEST_COMPAT (R321, R322, R556): the full test of every pseudo-channel, then scrub. -/
def execBdcTestCompat (n : Fin 12) (fails : W64) (s : State) : Result :=
  .next (s.bdcRequest n 0x0104 true (fun s => (s.scrubStack n, [0, fld fails 31 0, fld fails 63 32])))

/-- BDC_START_IMAGE (R556, R564): the BDC starts anew, with the image that waits for it where there is one. -/
def execBdcStartImage (n : Fin 12) (s : State) : Result :=
  .next (s.bdcRequest n 0x0105 false (fun s =>
    (if natBit s.fw.bdcWait n then s.takeUnit 6 n else s.agentStart (0x50 + n.val), [0])))

/-- UNIT_IMAGE_TAKE (R564): a CCC (`bdc` false, unit a cluster) or a BDC takes the image that waits, when its unit allows it. -/
def execUnitImageTake (bdc : Bool) (i : Fin 64) (s : State) : Result :=
  .next (
    let s := { s with answer := .none }
    if bdc then
      let moving := s.stackSide.migs.any (fun g => g.moves.any (fun m => decide (m.src / 32768 = i.val ∨ m.dst / 32768 = i.val)))
      s.cond (s.domOn (stackDomain i) && !s.baseBusy i && !moving) (fun s => s.takeUnit 6 i)
    else s.cond (s.domOn (clusterDomain i) && s.cccMayTake i) (fun s => s.takeUnit 5 i))

/-- CCC_MCAST_WRITE (R555, R560): an SCH write of code memory is copied into each cluster of HUB_CCC_MCAST whose CCC is off or
stopped; in any other state it is refused there. -/
def execCccMcastWrite (ag : Agent) (i : Fin 32768) (v : W64) (s : State) : Result :=
  .next (
    let s := { s with answer := .none }
    if ag ≠ .sch then s.refuseWrite ag
    else s.each (bitsSet (s.rd Reg.hubCccMcast).toNat 64) (fun s c =>
      let st := s.rdF (Reg.cluCccStatus c) 2 0
      if !s.domOn (clusterDomain c) then s
      else if st = 0 ∨ st = 4 then s.wr (Reg.cluCccCode c i) v
      else s.refuseWrite ag))

end Sys2Proof.Machine
end

