-- ==== Sys2Proof/Machine/Reset.lean ====
section
/-!
DEFINITION. Cold reset, the steps of the boot, Crust and the warm device reset as shared operations (15_bringup_reset_power.md R609 to
R618, R630; 13_firmware_mailboxes.md R531 to R533, R570; 08_links.md R336 to R339).
-/
namespace Sys2Proof.Machine

/-! ### Progress of a boot (R611, R638) -/

/-- Whether step `k` of R611 is done: 5 for every stack trained, 7 for every stack tested. -/
def State.stepDone (s : State) (k : Nat) : Bool :=
  if k = 5 then s.pwr.trained == 2 ^ 12 - 1 else if k = 7 then s.pwr.tested == 2 ^ 12 - 1 else natBit s.pwr.steps k

/-- The lowest step that is not done (R638). -/
def State.bootStep (s : State) : Nat := (((List.range 9).map (· + 2)).find? (fun k => !s.stepDone k)).getD 10

/-- PMC_BOOT.phase. -/
def State.bootPhase (s : State) : Nat := s.rdF Reg.pmcBoot 3 0

/-- PMC_BOOT.phase follows the steps while a boot runs. -/
def State.syncPhase (s : State) : State := s.cond s.pwr.booting (fun s => s.wrF Reg.pmcBoot 3 0 s.bootStep)

/-- Power and bring-up changed. -/
def State.updPwr (s : State) (f : Power → Power) : State := { s with pwr := f s.pwr }

/-- Step `k` is done. -/
def State.finishStep (s : State) (k : Nat) : State := (s.updPwr (fun w => { w with steps := w.steps ||| 2 ^ k })).syncPhase

/-- The boot mode in force (R612): 1 compatibility. -/
def State.bootMode (s : State) : Nat := if s.pwr.bootSel = 2 ∨ s.rdB Reg.pmcBootCtrl 0 then 1 else 0

/-- A bit of PMC_ALERT is set (R634, R639): 0 emergency, 1 power state, 2 boot, 3 temperature. -/
def State.alert (s : State) (b : Nat) : State := s.wrB Reg.pmcAlert b true

/-- The boot fails (R613). -/
def State.bootFails (s : State) : State :=
  ((((s.updPwr (fun w => { w with booting := false })).wrF Reg.pmcBoot 3 0 12).wrB Reg.pmcState 2 false).event 0xA0C).alert 2

/-! ### Cold reset (R609) -/

/-- What a cold reset and the loss of auxiliary power leave: the flash, the fuses, the pins, the model's own counter and queue. -/
def State.bare (s : State) : State :=
  { csr := []
    config := s.config
    fuses := s.fuses
    fw := { slotA := s.fw.slotA, slotB := s.fw.slotB, levain := s.fw.levain, levainBack := s.fw.levainBack, levainSeq := s.fw.levainSeq }
    ports := (List.range 16).foldl (fun (t : Tbl Port) p => t.set p { present := (s.port p).present, settled := (s.port p).settled }) []
    pwr := { vaux := s.pwr.vaux, pwrEn := s.pwr.pwrEn, pgood := s.pwr.pgood, tripLow := s.pwr.tripLow, warnLow := s.pwr.warnLow,
             bootSel := s.pwr.bootSel, modAddr := s.pwr.modAddr }
    rcd := s.rcd
    fresh := s.fresh
    pending := s.pending }

/-- A cold reset (R609, R612, R658): every register returns to its reset value, those "from flash" to what the configuration record
holds, and the boot starts. -/
def State.coldReset (s : State) : State :=
  let r := s.config.record
  let t := s.bare
  let rcd := t.rcd.coldReset
  let t : State := { t with
    csr := resetCsr
    rcd := { rcd with cycles := (rcd.cycles + 1) % 2 ^ 24 }
    fm := { origin := r.origin }
    sec := { map := r.partMap.setWidth 64 } }
  let t := t.setMacs.newNonce
  let t := t.wr Reg.hubId (setFld (t.rd Reg.hubId) 23 16 t.fuses.stepping)
  let t := ((t.wrB Reg.hubFmCtrl 0 r.roleEn).wrF Reg.hubFmCtrl 15 8 r.prio).wr Reg.hubFmMachine r.machine
  let t := (t.wr Reg.secPartMap (r.partMap.setWidth 64)).setUpd (if r.trial then 6 else 0)
  let t := (t.wrF Reg.pmcBoot 5 4 t.bootMode).event 0xA01 .none t.bootMode
  t.cond (t.pwr.bootSel == 3) (fun t => t.event 0xA07)

/-! ### The starter (R531 to R533, R584 to R586, R339) -/

/-- Whether a port plan is valid (R336, R337). -/
def planValid (v : W64) : Bool :=
  let e := (List.range 16).map (fun p => fld v (4 * p + 3) (4 * p))
  let has := fun (d : Nat) => e.contains d
  e.all (fun x => decide (x < 8) || x == 0xD || x == 0xF)
    && (List.range 4).all (fun i => has (2 * i) == has (2 * i + 1))
    && decide (2 ≤ ((List.range 4).filter (fun i => has (2 * i))).length)

/-- The plan of the copy of the record that is not in use, when it is valid. -/
def ConfigFlash.previousPlan (c : ConfigFlash) : Option W64 :=
  let other := match c.copy0, c.copy1 with
    | some a, some b => if a.seqNo < b.seqNo then some a else some b
    | _, _ => none
  other.bind (fun r => if planValid r.plan then some r.plan else none)

/-- The port plan at cold boot (R339): the stored plan, or with event 0x408 the previous valid one, or the default. -/
def State.loadPlan (s : State) : State :=
  let v := s.config.record.plan
  let s := if planValid v then s.wr Reg.hubPortPlan v
    else (s.wr Reg.hubPortPlan ((s.config.previousPlan).getD 0x7766554433221100)).event 0x408
  s.wr Reg.hubPortPlanNext (s.rd Reg.hubPortPlan)

/-- Rules 1 and 2 of R533 for a slot in trial. -/
def State.trialRule (s : State) : State :=
  let r := s.config.record
  if !r.trial then s
  else if r.attempts = 3 then
    ({ s with config := s.config.store (fun r => { r with slot := 1 - r.slot, trial := false, attempts := 0 }) } : State).event 0x802
  else { s with config := s.config.store (fun r => { r with attempts := r.attempts + 1 }) }

/-- Rule 3 of R533: the slot that verifies, if any; `first`: whether the active slot is tried. -/
def State.chooseSlot (s : State) (first : Bool) : State × Option Nat :=
  let x := s.activeSlot
  let r := if first then s.checkSlot x else (s, false)
  if r.2 then (r.1, some x)
  else
    let q := r.1.checkSlot (1 - x)
    if q.2 then
      ((({ q.1 with config := q.1.config.store (fun c => { c with slot := 1 - c.slot }) } : State).event 0x801).event 0x802, some (1 - x))
    else (q.1, none)

/-- Bring-up or a power-on begins from step 3 when the main power is good (R610 to R612): a power-on counts a power cycle and takes the
boot mode anew. -/
def State.beginPower (s : State) : State :=
  if s.pwr.booting || !s.pwr.pgood || !s.pwr.pwrEn || !s.stepDone 2 || s.bootPhase == 12 || s.rdF Reg.pmcState 1 0 != 2 then s
  else
    let s := if s.pwr.again then
        let s : State := { s with rcd := { s.rcd with cycles := (s.rcd.cycles + 1) % 2 ^ 24 } }
        (s.wrF Reg.pmcBoot 5 4 s.bootMode).event 0xA01 .none s.bootMode
      else s
    let s := s.updPwr (fun w => { w with booting := true, steps := 4, trained := 0, tested := 0, retried := 0, passed := [] })
    ((s.wrB Reg.pmcState 2 true).wrF Reg.pmcState 4 3 0).syncPhase

/-- The SEC image of a verified slot is measured, the keys are derived and the UDS is locked (R584 to R586): step 2 is done. -/
def State.startSec (s : State) (x : Nat) : State :=
  let s := ((s.wrDigest (Reg.secMeas 0 0) Config.starterDigest).startComponent 1 x).agentStart 1
  let s : State := { s with sec := { s.sec with udsLocked := true } }
  (((s.updPwr (fun w => { w with steps := w.steps ||| 4 })).wrF Reg.pmcBoot 3 0 3)).beginPower

/-- The starter takes the first slot that verifies, or network boot (R533, R570). -/
def State.starter (s : State) (first : Bool) : State :=
  let s := s.loadPlan
  let boot := fun (s : State) => ({ s with fw := { s.fw with netBoot := true } } : State)
  if s.pwr.bootSel = 1 then boot s
  else
    let r := s.chooseSlot first
    match r.2 with
    | some x => r.1.startSec x
    | none => boot r.1

/-! ### Domains of a bring-up (R611 step 3) -/

/-- Order in which the PMC switches domains on: hub, stacks, quadrants. -/
def bringupOrder : List Nat := [17, 24, 25, 22, 23] ++ (List.range 4).map (· + 18) ++ (List.range 12).map (· + 26) ++ List.range 16

/-- Domains come on in order, each only while its prerequisites are on; `dead` do not come on. While the map is unusable no quadrant is
switched (R576). -/
def State.bringOn (s : State) (dead : Nat) (l : List Nat) : State :=
  s.each l (fun s i =>
    if natBit dead i || !(domainNeeds i).all s.domOn || (decide (i < 16) && !s.mapOk) then s else s.turnOn i)

/-- The facts of clusters from the fuses and the field-retire fuses, before a self-test (R615, R616, R655). -/
def State.fuseFacts (s : State) : State :=
  { s with clusters := (List.range 64).foldl (fun (t : Tbl ClusterFact) c =>
      t.set c { fuseOff := bitOf s.fuses.clusterOff c, fieldRetired := natBit s.rcd.fuseClusters c }) [] }

/-- SCH and FAB start from the active slot when it verifies (R586, R611). -/
def State.startCores (s : State) : State × Bool :=
  let x := s.activeSlot
  let r := s.checkSlot x
  if r.2 then (((((r.1.startCore 3 x).coreRuns 3).startCore 4 x).coreRuns 4), true) else (r.1, false)

/-! ### Stacks (R321, R612, R616) -/

/-- A stack's memory test is over: what fails is retired and recorded, a fused pseudo-channel that passes is noted, and the stack is
ready; a die whose stacks are all tested is clean (R579). -/
def State.stackTested (s : State) (n cover fails : Nat) (on : Bool) : State :=
  let bad := bitsSet (cover &&& fails) 64
  let s := s.each bad (fun s p =>
    let s := s.event 0xA05 (.stack n)
    if natBit (s.pcFused n) p then s
    else ({ s with rcd := { s.rcd with fusePcs := s.rcd.fusePcs.upd n (· ||| 2 ^ p) } } : State).event 0x305 (.stack n) p)
  let pass := (bitsSet (cover &&& s.fuses.pcOff.get n) 64).filter (fun p => !bad.contains p)
  let s := s.updPwr (fun w => { w with
    passed := w.passed.set n (pass.foldl (fun m p => m + 2 ^ p) 0)
    tested := w.tested ||| 2 ^ n })
  let s := if on then s.readyStack n else s
  let d := n / 3
  let s : State := if (dieStacks d).all (fun m => natBit s.pwr.tested m) then { s with sec := { s.sec with clean := s.sec.clean ||| 2 ^ d } } else s
  (s.wrB Reg.pmcBootCtrl 0 false).syncPhase

/-- Discrepancies between fuses and tests are recorded, and the floor plan is published (R615). -/
def State.reconcile (s : State) : State :=
  let s := s.each (List.range 64) State.clusterDiscrepancy
  let s := s.each (List.range 16) (fun s p => s.each (bitsSet (s.port p).fusedPass 8) (fun s l => s.event 0xA03 (.port p) (2 + 256 * l + 2 ^ 16)))
  let s := s.each (List.range 12) (fun s n => s.each (bitsSet (s.pwr.passed.get n) 64) (fun s p => s.event 0xA03 (.stack n) (3 + 256 * p + 2 ^ 16)))
  s.publishAll.finishStep 9

/-! ### Ready (R611 step 10) -/

/-- The system handle of index `x` is created (R250). -/
def State.createSystem (s : State) (x : Nat) : State :=
  let ask : HandleAsk := if x / 4 = 1 then { slabs := 192, stripe := 6, flags := 32, align := 0, seed := 0, decl := 0, system := true }
    else { slabs := 16, stripe := 4, flags := 32, align := 0, seed := 0, decl := 0, system := true }
  match s.findRun ask.slabs 0 with
  | some b => (match s.createAt (s.partOfDie (x % 4)) x b ask [] with | some r => r.1 | none => s)
  | none => s

/-- The device is ready (R611, R638): phase and elapsed time, and event 0xA02. -/
def State.reportReady (s : State) (elapsed : Nat) : State :=
  ((((s.updPwr (fun w => { w with booting := false, again := true })).wrF Reg.pmcBoot 3 0 11).wrF Reg.pmcBoot 63 32 elapsed).event 0xA02 .none
    elapsed).alert 2

/-- Step 10: system handles, default partitions, the end of a trial (R533, R611), and the state Active. -/
def State.bootReady (s : State) (elapsed : Nat) : State :=
  let s := s.each (List.range 12) State.createSystem
  let s := s.formDefaults
  let r := s.config.record
  let s : State := if r.trial ∨ r.attempts ≠ 0 then { s with config := s.config.store (fun r => { r with trial := false, attempts := 0 }) } else s
  let s := s.cond (s.updState == 6) (fun s => s.setUpd 0)
  let s := ((s.wrF Reg.pmcState 1 0 0).wrB Reg.pmcState 2 false).alert 1
  (s.finishStep 10).reportReady elapsed

/-! ### Emergencies (R630 to R632) -/

/-- Whether the conditions of a kind of emergency are evaluated: Active or Doze (R630). -/
def State.powered (s : State) : Bool := decide (s.rdF Reg.pmcState 1 0 ≤ 1)

/-- An emergency of a kind ends (R630, R631): event 0x103 or 0x204, and activations that waited go on (R632). -/
def State.emergencyOver (s : State) (thermal : Bool) : State :=
  let b := b2n thermal
  if !s.rdB Reg.pmcEmerg b then s
  else
    let s := s.wrB Reg.pmcEmerg b false
    let s := if thermal then s.wrB Reg.pmcEmerg 6 false else s.wrF Reg.pmcEmerg 5 2 0
    ((s.alert 0).event (if thermal then 0x204 else 0x103)).tryActivate

/-! ### Crust (R610) -/

/-- Order in which domains go off: quadrants and stacks first, the hub last. -/
def crustOrder : List Nat := List.range 16 ++ (List.range 12).map (· + 26) ++ [25, 24, 22, 23] ++ (List.range 4).map (· + 18) ++ [17]

/-- The SEC and the PMC forget what belonged to partitions whose dies have lost their state. -/
def State.dropPartitions (s : State) : State :=
  let s := s.each (List.range 16) State.emptySlot
  let s := s.each (List.range 4) (fun s p => (s.dropEph p).wrF (Reg.secPartState p) 15 0 0)
  let s : State := { s with sec := { s.sec with
    packages := [], baseDigests := [], clxDigests := [], chunks := [], stopping := [], clean := 0 } }
  let s := s.updPwr (fun w => { w with
    demands := [], emergency := 0, saving := 0, heldBefore := 0, notQuiet := 0, warm := false, booting := false, steps := w.steps &&& 4 })
  s.each (List.range 4) State.syncPmcPart

/-- Crust is entered (R610, R630, R671): every domain but H.A loses its state at once. -/
def State.enterCrust (s : State) (cause vin : Nat) : State :=
  let s := s.event 0x108 .none (cause + vin % 1024 * 2 ^ 32)
  let s := (s.emergencyOver false).emergencyOver true
  let fns := (List.range 10).filter (fun i => s.fnPresent (i / 5) (i % 5))
  let s := s.each fns (fun s i => s.agentStart (0x60 + 8 * (i / 5) + i % 5))
  let s := (s.each crustOrder State.turnOff).dropPartitions
  let s := { s with fw := { s.fw with starting := none, cccWait := 0, bdcWait := 0 }, clxs := [], saved := [] }
  let s := ((s.wrF Reg.pmcState 2 0 2).wrB Reg.pmcStateReq 2 false).alert 1
  s.cond (s.bootPhase != 12 && s.stepDone 2) (fun s => s.wrF Reg.pmcBoot 3 0 3)

/-- Whether the main power has anything to lose: the device is not in Crust, or is on its way out of it. -/
def State.mainOn (s : State) : Bool := s.powered || (List.range 38).any (fun i => i != 16 && s.domOn i)

/-! ### The warm device reset (R618) -/

/-- It begins: event 0xA08, every function is reset with cause 3, PF0's configuration and VF Enable kept, and every partition is released;
a partition reset under way becomes a release (R621). -/
def State.beginWarm (s : State) : State :=
  let s := (((s.event 0xA08).wrF Reg.pmcBoot 5 4 2).wrF Reg.pmcBoot 3 0 4).updPwr (fun w => { w with warm := true })
  let s := s.settleCmds
  let s := s.each (List.range 10) (fun s i =>
    let h := i / 5
    let f := i % 5
    if !s.fnPresent h f then s
    else
      let part := s.fnPart h f
      let s := s.orphanFn h f 3
      let s := match part with
        | some p => s.cond (s.host.policies.get p).abortOnFlr (abortRecipe p)
        | none => s
      let on := (s.hport h).master
      let s := s.fnReset h f
      if f = 0 then s.updHport h (fun p => { p with master := on }) else s)
  s.each (List.range 4) (fun s p =>
    match s.sec.stopping.get p with
    | some k => { s with sec := { s.sec with stopping := s.sec.stopping.set p (some { k with reset := false }) } }
    | none => s.cond (s.partExists p && s.partState p == 2) (fun s => s.stopPart p false))

/-- The router's contexts, replies and early store are gone (R618 step 4), and protected values of the hub are usable again (R644). -/
def State.dropAllFlows (s : State) : State :=
  let s := s.updRouter (fun r => { r with sends := [], recvs := [], replies := [], cache := [], resetting := [] })
  { s with cpBad := s.cpBad.filter (fun e => ¬ (Blk.hub ≤ e.1 ∧ e.1 < Blk.hub + 0x1000000)) }

/-- Steps 3 to 5 of R618, once every release has ended. -/
def State.endWarm (s : State) (elapsed : Nat) : State :=
  let s := ((s.loseDomain 25).loseDomain 24).startCores.1
  let s := s.each (List.range 4) (fun s m => s.wrF (Reg.clxStatus m) 1 0 1)
  let s := ((s.dropAllFlows).publishAll).formDefaults
  let s : State := { s with host := { s.host with stopped := false } }
  (s.updPwr (fun w => { w with warm := false })).reportReady elapsed

/-- It goes on: releases whose transfers are over end, and once all have ended the reset ends. -/
def State.continueWarm (s : State) (elapsed : Nat) (tests : List (Nat × Nat)) : State :=
  let s := s.continueStops false tests
  if (List.range 4).all (fun p => (s.sec.stopping.get p).isNone) then s.endWarm elapsed else s

end Sys2Proof.Machine
end

