-- ==== Sys2Proof/Machine/BootCmds.lean ====
section
/-!
DEFINITION. The commands of cold reset, boot, power-on and Crust (15_bringup_reset_power.md R609 to R616, R623, R631; 01 R36 to R38).
Operands say what the device finds: domains that do not come on, the results of tests, times and temperatures.
-/
namespace Sys2Proof.Machine

/-- COLD_RESET (R36, R609): auxiliary power comes within limits, when the straps are sampled, or MOD_RESET_N has been low for 1 ms. -/
def execColdReset (cause : ColdCause) (boot : Fin 4) (addr : Fin 8) (s : State) : Result :=
  .next (match cause with
    | .auxPower => (s.updPwr (fun w => { w with
        vaux := true, pwrEn := false, pgood := false, bootSel := boot, modAddr := addr })).coldReset
    | .resetPin => if s.pwr.vaux then s.coldReset.event 0xA0B else { s with answer := .none })

/-- VAUX_LOSS (R35, R623): the device is off; the flash and the fuses keep what they hold. -/
def execVauxLoss (s : State) : Result :=
  .next (
    let t := s.bare
    let t := t.updPwr (fun w => { w with vaux := false, pwrEn := false, pgood := false })
    { t with rcd := { t.rcd with crust := none, queue := [] } })

/-- STARTER (R533, R584 to R586): step 2 of the boot; while MOD_RESET_N is `held` low it does not begin (R609). -/
def execStarter (held : Bool) (s : State) : Result :=
  .next (
    let s := { s with answer := .none }
    if held || !s.pwr.vaux || s.bootPhase != 1 || s.fw.netBoot then s
    else (s.cond s.config.inUse.isNone (fun s => s.event 0x80B)).trialRule.starter true)

/-- POWER_ON (R38, R610, R623): MOD_PWR_EN and MOD_PGOOD are high. -/
def execPowerOn (s : State) : Result :=
  .next (
    let s := { s with answer := .none }
    if s.pwr.vaux then (s.updPwr (fun w => { w with pwrEn := true, pgood := true })).beginPower else s)

/-- PMC_BRINGUP (R611 step 3): the PMC image starts and switches the domains on, those of `dead` excepted; with a network boot the boot
images bring up the router, the link groups and FAB (R570). -/
def execPmcBringup (dead : BitVec 38) (s : State) : Result :=
  .next (
    let s := { s with answer := .none }
    if s.fw.netBoot && s.pwr.pgood && s.pwr.pwrEn then
      if s.domOn 17 then s else ((s.agentStart 2).bringOn dead.toNat ([17, 24] ++ (List.range 4).map (· + 18))).agentStart 4
    else if !s.pwr.booting || s.stepDone 3 then s
    else
      let s := if s.compState 2 = 2 then s else (s.startCore 2 s.activeSlot).coreRuns 2
      let s := s.bringOn dead.toNat bringupOrder
      s.cond (dead == 0) (fun s => s.finishStep 3))

/-- CORE_START (R611 step 4, R615, R616): SCH and FAB start, and the SCH applies the fuse map and the retirements. -/
def execCoreStart (s : State) : Result :=
  .next (
    let s := { s with answer := .none }
    if !s.pwr.booting || s.stepDone 4 || !s.domOn 24 then s
    else
      let r := s.startCores
      if !r.2 then r.1
      else (((r.1.startComponent 5 s.activeSlot).startComponent 6 s.activeSlot).fuseFacts).finishStep 4)

/-- STACK_TRAIN (R288, R611 step 5b): the BDC has trained its stack; outside a boot it scrubs it, and the stack is ready. -/
def execStackTrain (n : Fin 12) (s : State) : Result :=
  .next (
    let s := { s with answer := .none }
    if !s.domOn (stackDomain n) || s.rdF (Reg.stkStatus n) 2 0 != 1 then s
    else if s.pwr.booting then
      ((s.wrF (Reg.stkStatus n) 2 0 2).updPwr (fun w => { w with trained := w.trained ||| 2 ^ n.val })).syncPhase
    else s.readyStack n)

/-- SELF_TEST (R555, R611 step 6, R616): every CCC takes its image and tests its cluster, fused ones too; `tests` gives bits 26:0 of the
clusters in which something fails. -/
def execSelfTest (tests : List (Nat × Nat)) (s : State) : Result :=
  .next (
    let s := { s with answer := .none }
    if !s.pwr.booting || !s.stepDone 4 || s.stepDone 6 then s
    else
      let on := (List.range 64).filter (fun c => s.domOn (clusterDomain c))
      let s := s.each on (fun s c =>
        let low := match tests.find? (fun t => t.1 = c) with | some t => t.2 | none => 0x7FFFFFF
        (s.loadCcc c).testCluster c low)
      s.finishStep 6)

/-- MEMORY_TEST (R321, R612, R616): the test of the boot mode on a stack, then the scrub; `fails`: the pseudo-channels that fail. -/
def execMemoryTest (n : Fin 12) (fails : W64) (s : State) : Result :=
  .next (
    let s := { s with answer := .none }
    if !s.pwr.booting || !s.stepDone 6 || !natBit s.pwr.trained n || natBit s.pwr.tested n then s
    else
      let cover := if s.rdF Reg.pmcBoot 5 4 = 1 then 2 ^ 64 - 1 else nativePcs s.rcd.cycles
      s.stackTested n cover fails.toNat true)

/-- Whether the link gate is open (R611 step 8): every port with a module is up, down or retired. -/
def State.linksSettled (s : State) : Bool :=
  (List.range 16).all (fun p => !(s.port p).present || s.lstate p == 3 || s.lstate p == 5 || s.lstate p == 6)

/-- LINK_GATE (R611 step 8). -/
def execLinkGate (s : State) : Result :=
  .next (
    let s := { s with answer := .none }
    if s.pwr.booting && s.stepDone 3 && !s.stepDone 8 && s.linksSettled then s.finishStep 8 else s)

/-- FUSE_TEST_RECONCILE (R611 step 9, R615, R63). -/
def execFuseTestReconcile (s : State) : Result :=
  .next (
    let s := { s with answer := .none }
    if s.pwr.booting && s.stepDone 7 && s.stepDone 8 && !s.stepDone 9 then s.reconcile else s)

/-- BOOT_READY (R611 step 10): `elapsed` ms since the start of the boot. -/
def execBootReady (elapsed : W32) (s : State) : Result :=
  .next (
    let s := { s with answer := .none }
    if s.pwr.booting && s.stepDone 9 then s.bootReady elapsed.toNat else s)

/-- BOOT_STEP_OVERRUN (R613): step `k` overruns its bound. `unit`: the component of step 4 (3 SCH, 4 FAB), the stack of steps 5 and 7;
`silent`: the clusters whose CCC has not answered in step 6; `elapsed` is for step 10. -/
def execBootStepOverrun (k : Fin 11) (unit : Fin 12) (silent : W64) (elapsed : W32) (s : State) : Result :=
  .next (
    let s := { s with answer := .none }
    let n := unit.val
    if k.val = 1 then s.cond (s.pwr.vaux && s.bootPhase == 1) (fun s => s.event 0xA06)
    else if k.val = 2 then
      if !s.pwr.vaux || s.bootPhase != 1 || s.fw.netBoot then s else (s.event 0xA06).starter false
    else if !s.pwr.booting || s.stepDone k then s
    else if k.val = 3 then
      let off := (List.range 38).filter (fun i => !s.domOn i)
      let s := if off.isEmpty then s.event 0xA06 else s.each off (fun s i => s.event 0xA06 (.domain i))
      if off.contains 17 then s.bootFails else s.finishStep 3
    else if k.val = 4 then
      let s := s.event 0xA06 (.component n)
      if natBit s.pwr.retried n then s.bootFails else s.updPwr (fun w => { w with retried := w.retried ||| 2 ^ n })
    else if k.val = 5 then
      if natBit s.pwr.trained n then s
      else
        let s := (s.event 0xA06 (.stack n)).updPwr (fun w => { w with trained := w.trained ||| 2 ^ n })
        (s.stackTested n (2 ^ 64 - 1) (2 ^ 64 - 1) false).turnOff (stackDomain n)
    else if k.val = 6 then
      let cs := bitsSet silent.toNat 64
      let s := s.each cs (fun s c => s.event 0xA06 (.cluster c))
      (s.each (List.range 64) (fun s c =>
        if cs.contains c then s.testCluster c 0 else if s.domOn (clusterDomain c) then (s.loadCcc c).testCluster c 0x7FFFFFF else s)).finishStep 6
    else if k.val = 7 then
      if natBit s.pwr.tested n || !natBit s.pwr.trained n then s else (s.event 0xA06 (.stack n)).stackTested n 0 0 true
    else if k.val = 8 then (s.event 0xA06).finishStep 8
    else if k.val = 9 then (s.event 0xA06).reconcile
    else if k.val = 10 then (s.event 0xA06).bootReady elapsed.toNat
    else s)

/-- CRUST_ENTRY (R610, R671): MOD_PWR_EN (`good` false) or MOD_PGOOD (`good` true: MOD_PWR_EN is still high) goes low; `vin` is VIN_48 in
units of 0.1 V. -/
def execCrustEntry (good : Bool) (vin : BitVec 10) (s : State) : Result :=
  .next (
    let s := { s with answer := .none }
    if !s.pwr.vaux then s
    else
      let s := s.updPwr (fun w => if good then { w with pgood := false } else { w with pwrEn := false })
      if s.mainOn then s.enterCrust (if good then 2 else 1) vin.toNat else s)

/-- A temperature reading of a sensor group (R641). -/
def State.readTherm (s : State) (j t : Nat) : State :=
  (s.wrF (Reg.pmcTherm j) 7 0 t).wrF (Reg.pmcTherm j) 15 8 (max (s.rdF (Reg.pmcTherm j) 15 8) t)

/-- THERM_WARN_N follows the junctions (R37, R639). -/
def State.syncWarn (s : State) : State :=
  let hot := (List.range 17).any (fun j => decide (95 ≤ s.rdF (Reg.pmcTherm j) 7 0))
  (s.cond (hot && !s.pwr.warnLow) (fun s => s.alert 3)).updPwr (fun w => { w with warnLow := hot })

/-- THERMAL_TRIP (R37, R610, R631): a junction of group `j` reaches 110 degrees C: THERM_TRIP_N is driven, event 0x205, and Crust. -/
def execThermalTrip (j : Fin 17) (temp : BitVec 8) (vin : BitVec 10) (s : State) : Result :=
  .next (
    let s := { s with answer := .none }
    if !s.pwr.vaux || decide (temp.toNat < 110) then s
    else
      let s := ((s.readTherm j temp.toNat).syncWarn).updPwr (fun w => { w with tripLow := true })
      let s := s.event 0x205 (.sensor j)
      if s.mainOn then s.enterCrust 3 vin.toNat else s)

/-- VIN_48_REMOVED (R37, R38): THERM_TRIP_N is released, MOD_PGOOD goes low with every rail that VIN_48 supplies, and a device that is in
Active or Doze enters Crust. -/
def execVin48Removed (s : State) : Result :=
  .next (
    let s := ({ s with answer := .none } : State).updPwr (fun w => { w with tripLow := false, pgood := false })
    if !s.pwr.vaux then s
    else if s.mainOn then (s.wrF Reg.pmcPwrIn 41 32 0).enterCrust 2 0
    else s.wrF Reg.pmcPwrIn 41 32 0)

end Sys2Proof.Machine
end

