-- ==== Sys2Proof/Machine/ClxCmds.lean ====
section
/-!
DEFINITION. The commands of the collective engines (10_collectives.md R428 to R459).
-/
namespace Sys2Proof.Machine

/-! ### Starting an instance (R429) -/

/-- The range of each phase of a program from a range on (R438): none when a range leaves [0, E). -/
def State.clxRanges (s : State) (q e : Nat) : List ClxPhase → Nat × Nat → Option (List (ClxPhase × Nat × Nat))
  | [], _ => some []
  | p :: ps, (lo, len) =>
    let k := s.grpK q p.group
    let r := fld (s.grp0 q p.group) 12 7
    if p.kind = 3 ∧ (lo < r * len ∨ e < lo - r * len + k * len) then none
    else
      let next := if p.kind = 2 then (lo + r * (len / k), len / k) else if p.kind = 3 then (lo - r * len, k * len) else (lo, len)
      (State.clxRanges s q e ps next).map ((p, lo, len) :: ·)

/-- Whether the sizes of a phase meet R444: its whole range and each part of a division are whole chunks of every format it sends
in, and the range has at most 131,072 chunks. -/
def State.clxSizesOk (s : State) (q : Nat) (g : ClxProg) (x : ClxPhase × Nat × Nat) : Bool :=
  let p := x.1
  let k := s.grpK q p.group
  let len := x.2.2
  let alg := algInEffect p g.fixed (bitOf (s.grp0 q p.group) 13)
  let parts := if p.kind = 2 then k else if p.kind = 1 ∧ alg = 0 then 2 * k else 1
  let whole := if p.kind = 3 then k * len else len
  (if p.reduces then [g.pfmt, g.fmt] else [g.fmt]).all (fun f =>
    let c := 16 * elemsPerTile f
    decide (len % parts = 0) && decide (len / parts % c = 0) && decide (whole / c ≤ 131072))

/-- The extents of a phase at this rank (R437, R438): buffer, whether written, byte offset and length. -/
def State.clxExtents (s : State) (q : Nat) (g : ClxProg) (args : List W64) (x : ClxPhase × Nat × Nat) : List (Nat × Bool × Nat × Nat) :=
  let p := x.1
  let lo := x.2.1
  let len := x.2.2
  let k := s.grpK q p.group
  let r := fld (s.grp0 q p.group) 12 7
  let e := fld (args[3]?.getD 0) 31 0
  let start := fun (b : Nat) => fld (args[b]?.getD 0) 63 24 * 4096
  let bytes := fun (b : Nat) (w : Bool) (f lo len : Nat) =>
    let z := scaleBytes f
    (b, w, start b + planeOffset f lo, planeOffset f (lo + len) - planeOffset f lo)
      :: (if fmtBlocked f then [(b, w, start b + ceilDiv e (elemsPerTile f) * 4096 + lo / 32 * z, len / 32 * z)] else [])
  let rd := if p.kind = 5 ∧ r ≠ p.root then [] else bytes p.src false g.fmt lo len
  let wr := match p.kind with
    | 2 => bytes p.dst true g.fmt (lo + r * (len / k)) (len / k)
    | 3 => bytes p.dst true g.fmt (lo - r * len) (k * len)
    | 4 => if r = p.root then bytes p.dst true g.fmt lo len else []
    | _ => bytes p.dst true g.fmt lo len
  rd ++ wr ++ (if p.reduces then bytes 2 true g.pfmt lo len else [])

/-- The error code of the checks of R429 on an instance (R451); 0: it may start. -/
def State.clxCheck (s : State) (q : Nat) (i : ClxInst) : Nat :=
  let g := s.clxProg q i.program
  let part := s.partOfDie q
  let e := fld (i.args[3]?.getD 0) 31 0
  if 1024 ≤ i.program ∨ !g.ok then 1
  else if g.phases.any (fun p => !bitOf (s.grp0 q p.group) 0 || decide (fld (s.grp0 q p.group) 51 40 ≠ s.domainOf part)) then 2
  else if g.phases.any (fun p => decide (s.grpK q p.group ≤ p.root)) then 2
  else
    match s.clxRanges q e g.phases (0, e) with
    | none => 4
    | some l =>
      let h := fun (b : Nat) => fld (i.args[b]?.getD 0) 23 0
      if (l.flatMap (s.clxExtents q g i.args)).any (fun x => !s.handleOk (.engine part) (h x.1) x.2.2.1 x.2.2.2 x.2.1) then 3
      else if e = 0 ∨ 2 ^ 31 < e ∨ fld (i.args[3]?.getD 0) 63 32 ≠ 0 ∨ l.any (fun x => !s.clxSizesOk q g x) then 4
      else 0

/-- The directions of a member that begin an instance in packet mode (R446): those whose outbound circuit, or the inbound circuit of
its acknowledgements, is not installed. -/
def State.clxPacketDirs (s : State) (m g : Nat) : List Nat :=
  let w0 := s.grp0 m g
  let w1 := s.grp1 m g
  (if bitOf w0 14 && bitOf w1 25 then [] else [dirKey m g false])
    ++ (if bitOf w0 15 && bitOf w1 24 then [] else [dirKey m g true])

/-- INSTANCE_START (R428, R429, R433, R451): an idle engine takes the oldest instance of its queue. A failed check makes the token fail
at the next step; else the counters of its groups count, and its first phase begins. -/
def execInstanceStart (q : Fin 4) (s : State) : Result :=
  let q := q.val
  match (s.clx q).queue, (s.clx q).run with
  | i :: rest, none =>
    if s.rdF (Reg.clxStatus q) 1 0 ≠ 1 then .next s
    else
      let code := s.clxCheck q i
      let s := (s.updClx q (fun c => { c with queue := rest })).wrF (Reg.clxStatus q) 16 8 rest.length
      if code ≠ 0 then
        let g := (s.clxProg q i.program).groups.head?.getD 0
        .next ((s.clxEnded q i ((s.clx q).counters.get g % 256) code true false).updSeq q
          (fun z => { z with soon := z.soon ++ [(i.token, false)] }))
      else
        let p := s.clxProg q i.program
        let s := s.updClx q (fun c => { c with
          counters := p.groups.foldl (fun (t : Tbl Nat) g => t.upd g (fun n => (n + 1) % 256)) c.counters
          failedNo := p.groups.foldl (fun (t : Tbl Nat) g => t.set g 0) c.failedNo })
        let s := s.each (s.gang q) (fun s m => s.wrF (Reg.clxStatus m) 1 0 2)
        let r : ClxRun := { inst := i, packet := (s.gang q).flatMap (fun m => p.groups.flatMap (s.clxPacketDirs m)) }
        .next ((s.clxStartPhase q r 0 (0, fld (i.args[3]?.getD 0) 31 0)).clxSettle q 8)
  | _, _ => .next s

/-! ### Sending -/

/-- The chunk that a lane of a member sends next, when an instance runs. -/
def State.clxLaneChunk (s : State) (q m peer : Nat) (down : Bool) : Option Nat :=
  (s.clx q).run.map (fun r => (r.outs.get (laneKey m peer down)).chunk)

/-- Tiles of the chunk that the lane sends next, in ascending order, as long as each is ready and within the limit. -/
def State.clxSendTiles (s : State) (q m peer : Nat) (down : Bool) (chunk : Option Nat) : Nat → State
  | 0 => s
  | fuel + 1 =>
    if s.clxLaneChunk q m peer down ≠ chunk then s
    else
      let r := s.clxSendTile q m peer down
      if r.2 then State.clxSendTiles r.1 q m peer down chunk fuel else r.1

/-- CHUNK_SEND (R445): a member sends a neighbour the tiles of its next chunk of a direction. -/
def execChunkSend (m : Fin 4) (peer : Fin 64) (down : Bool) (s : State) : Result :=
  let q := s.leadOf m
  .next ((s.clxSendTiles q m peer down (s.clxLaneChunk q m peer down) 18).clxSettle q 8)

/-- TILE_READBACK_SEND (R447): credit has returned, and a tile that the engine had written without sending it is read back and
sent. -/
def execTileReadbackSend (m : Fin 4) (peer : Fin 64) (down : Bool) (s : State) : Result :=
  let q := s.leadOf m
  .next ((s.clxSendTile q m peer down).1.clxSettle q 8)

/-! ### The end of an instance -/

/-- CLX_INSTANCE_DONE (R428, R450): every member has finished and every byte is visible: the token is done. -/
def execClxInstanceDone (q : Fin 4) (s : State) : Result :=
  let q := q.val
  match (s.clx q).run with
  | some r =>
    if r.finished then
      let g := (s.clxProg q r.inst.program).groups.head?.getD 0
      let s := (s.updClx q (fun c => { c with run := none })).clxIdle q
      .next ((s.clxEnded q r.inst ((s.clx q).counters.get g % 256) 0 false r.degraded).tokenPart q r.inst.token true)
    else .next s
  | none => .next s

/-- CLX_PROGRESS_TIMEOUT (R451): no chunk has made progress in any direction of the phase for CLX_CTRL.timeout_ms. -/
def execClxProgressTimeout (q : Fin 4) (s : State) : Result :=
  match (s.clx q).run with
  | some r => .next (if r.finished then s else s.clxFail q 7)
  | none => .next s

/-! ### Groups (R430 to R432) -/

/-- Whether a queued or running instance names a group of a member. -/
def State.clxNamed (s : State) (m g : Nat) : Bool :=
  let q := s.leadOf m
  let c := s.clx q
  let named := fun (i : ClxInst) => decide (i.program < 1024) && (s.clxProg q i.program).groups.contains g
  c.queue.any named || (match c.run with | some r => named r.inst | none => false)

/-- The inbound directions of a group from its word 0 (R431): false from below, true from above. -/
def groupInbound (w : W64) : List Bool :=
  let k := fld w 6 1 + 1
  let r := fld w 12 7
  (if 0 < r ∨ bitOf w 13 then [false] else []) ++ (if r + 1 < k ∨ bitOf w 13 then [true] else [])

/-- CLX_STATUS.slots from the slots in use. -/
def slotBits (t : Tbl Nat) : Nat := ((List.range 8).map (fun i => if t.get i = 0 then 0 else 2 ^ i)).foldl (· + ·) 0

/-- A write to a register of a group entry takes effect (R430, R431): word 0 with valid set reserves staging slots, or is refused
with 0x6C3. -/
def State.setGroup (s : State) (m g a : Nat) (v : W64) : State :=
  if a = Reg.clxGroupW0 m g then
    let v := v &&& fldMask 51 0
    let kept := (List.range 8).foldl (fun (t : Tbl Nat) i => if (t.get i) = 0 ∨ (t.get i - 1) / 2 ≠ g then t else t.set i 0) (s.clx m).slots
    let need := if bitOf v 0 then groupInbound v else []
    let free := (List.range 8).filter (fun i => kept.get i = 0)
    if free.length < need.length then s.event 0x6C3
    else
      let slots := (need.zip free).foldl (fun (t : Tbl Nat) x => t.set x.2 (1 + 2 * g + b2n x.1)) kept
      ((s.updClx m (fun c => { c with slots := slots })).wrF (Reg.clxStatus m) 31 24 (slotBits slots)).wr a v
  else if a = Reg.clxGroupW1 m g then s.wr a (v &&& fldMask 37 0)
  else s.wr a (v &&& fldMask 19 0)

/-- A FAB write to a group entry (R432): at once, or once no instance names the group. -/
def State.fabGroupWrite (s : State) (m g a : Nat) (v : W64) : State :=
  if s.clxNamed m g || (s.clx m).deferred.any (fun d => d.1 = a) then
    s.updClx m (fun c => { c with deferred := c.deferred.filter (fun d => d.1 ≠ a) ++ [(a, v)] })
  else s.setGroup m g a v

/-- The register of a group entry that word number `i` names: words 0 and 1, and 8 + j for peer j (R430). -/
def groupReg (m g i : Nat) : Option Nat :=
  if i = 0 then some (Reg.clxGroupW0 m g) else if i = 1 then some (Reg.clxGroupW1 m g)
  else if 8 ≤ i ∧ i < 72 then some (Reg.clxGroupPeer m g (i - 8)) else none

/-- GROUP_ENTRY_WRITE (R430 to R432): only FAB writes group entries. -/
def execGroupEntryWrite (ag : Agent) (m : Fin 4) (g : Fin 8) (i : Fin 72) (v : W64) (s : State) : Result :=
  match groupReg m g i with
  | none => .next s
  | some a => .next (s.csrAccess ag a (if 8 ≤ i.val then 4 else 8) true (fun s =>
      if ag = .fab then s.fabGroupWrite m g a v else s.refuseWrite ag))

/-- GROUP_WRITE_APPLY (R432): the writes of a group that waited take effect once no instance names it, in order. -/
def execGroupWriteApply (m : Fin 4) (g : Fin 8) (s : State) : Result :=
  let m := m.val
  let g := g.val
  if s.clxNamed m g then .next s
  else
    let lo := Reg.clxGroupW0 m g
    let due := (s.clx m).deferred.filter (fun d => decide (lo ≤ d.1) && decide (d.1 < lo + 0x200))
    let s := s.updClx m (fun c => { c with deferred := c.deferred.filter (fun d => !(decide (lo ≤ d.1) && decide (d.1 < lo + 0x200))) })
    .next (s.each due (fun s d => s.setGroup m g d.1 d.2))

/-- CLX_PROGRAM_WRITE (R458): the SCH writes a program entry while the engine is idle with an empty queue; any other write records
0x80C. -/
def execClxProgramWrite (ag : Agent) (m : Fin 4) (x : Fin 1024) (i : Fin 8) (v : W64) (s : State) : Result :=
  .next (s.csrAccess ag (Reg.clxProgram m x i) 8 true (fun s =>
    if ag = .sch ∧ s.rdF (Reg.clxStatus m) 1 0 = 1 ∧ s.rdF (Reg.clxStatus m) 16 8 = 0 then s.wr (Reg.clxProgram m x i) v
    else s.refuseWrite ag))

end Sys2Proof.Machine
end

