-- ==== Sys2Proof/Machine/Dmx.lean ====
section
/-!
DEFINITION. Stream-engine transfers as they finish (05_cells_and_cluster_engines.md R229 to R232; R205, R243, R514, R647, R648):
tiles between stores, handles and host memory, carried with their checks or verified at the source.
-/
namespace Sys2Proof.Machine

/-- The pieces of a transfer of `n` bytes between two addresses: each lies within one tile on both sides (R232, R341). The
fuel bounds their number. -/
def dmxPieces : Nat → Nat → Nat → Nat → List (Nat × Nat × Nat)
  | 0, _, _, _ => []
  | fuel + 1, x, y, n =>
    if n = 0 then []
    else
      let k := min n (min (4096 - x % 4096) (4096 - y % 4096))
      (x, y, k) :: dmxPieces fuel (x + k) (y + k) (n - k)

/-- The pieces of an instance of a transfer: offset in the handle or address, DPA in the store, length. -/
def DmxPart.pieces (p : DmxPart) (x : Nat) : List (Nat × Nat × Nat) := dmxPieces (2 * p.tiles + 2) x p.store (4096 * p.tiles)

/-- The die of the clusters of a store. -/
def storeDie (a : Nat) : Nat := (storePlace a).1 / 16

/-- One piece from a handle to a store: a whole tile moves with its check unverified, a part after its tile is verified. -/
def State.dmxLoadPiece (s : State) (part h : Nat) (x : Nat × Nat × Nat) : State × Bool :=
  match s.resolve (.engine part) h x.1 x.2.2 false with
  | none => (s, false)
  | some a =>
    let t := a / 4096
    let s := (s.readLines (4096 * t) 4096).tilePasses (frameOfDpa a) (storeDie x.2.1)
    let bs := s.readBytes a x.2.2
    if x.2.2 = 4096 then (s.writeCarried x.2.1 bs (s.tileDiff t), true)
    else if s.tileFails t then (s.checkFailedHandle 2 h x.1 (some part), false)
    else (s.writeBytes x.2.1 bs, true)

/-- One piece from a store to a handle: its source tile is verified (R232). `old`: the source tiles that the recipe has written
meanwhile (R118). -/
def State.dmxStorePiece (s : State) (part h : Nat) (old : Tbl (List Byte)) (x : Nat × Nat × Nat) : State × Bool :=
  let r := (s.scrubStore x.2.1 x.2.2).raceBytes old x.2.1 x.2.2
  match r.2 with
  | none => (r.1.checkFailedStore 2 x.2.1 (some part), false)
  | some bs =>
    match r.1.resolve (.engine part) h x.1 x.2.2 true with
    | none => (r.1, false)
    | some a => ((r.1.writeBytes a bs).tilePasses (frameOfDpa a) (storeDie x.2.1), true)

/-- Runs every piece; the result is true when every one succeeded. Pieces land in any order (R230), so one that fails keeps
no other from landing. -/
def State.dmxAll {α : Type} (s : State) (l : List α) (f : State → α → State × Bool) : State × Bool :=
  l.foldl (fun r x => let q := f r.1 x; (q.1, r.2 && q.2)) (s, true)

/-- A host transfer of a partition has failed (R514): event 0x90A of its function. -/
def State.dmxHostFailed (s : State) (part : Nat) (p : DmxPart) (h : HostData) : State :=
  s.hostEvent 0x90A (s.partPort part) (part + 1) h.reason p.far (some part)

/-- One instance of DHRD (R192, R514): the bytes from the host enter the store with checks made from them (R647). -/
def State.dmxFromHost (s : State) (part : Nat) (p : DmxPart) (h : HostData) : State × Bool :=
  if h.ok && h.data.length == 4096 * p.tiles then (s.writeBytes p.store h.data, true) else (s.dmxHostFailed part p h, false)

/-- The bytes of a store extent as a transfer reads them, and the address of the first tile that fails its check (R118, R647). -/
def State.raceExtent (s : State) (old : Tbl (List Byte)) (a n : Nat) : State × (List Byte × Option Nat) :=
  (piecesOf a n).foldl (fun acc x =>
    let r := acc.1.raceBytes old x.1 x.2
    (r.1, acc.2.1 ++ r.2.getD [], match acc.2.2, r.2 with
      | some b, _ => some b
      | none, none => some x.1
      | none, some _ => none)) (s, [], none)

/-- One instance of DHWR (R192, R514): the hub verifies every tile before its bytes leave (R647). -/
def State.dmxToHost (s : State) (part : Nat) (old : Tbl (List Byte)) (p : DmxPart) (h : HostData) : State × Bool :=
  let n := 4096 * p.tiles
  let r := (s.scrubStore p.store n).raceExtent old p.store n
  let s := r.1
  match r.2.2 with
  | some a => (s.checkFailedStore 3 (a / 4096 * 4096) (some part), false)
  | none =>
    if h.ok then (s.hostOut [.write (s.partPort part) (part + 1) (BitVec.ofNat 64 p.far) r.2.1], true)
    else (s.dmxHostFailed part p h, false)

/-- The data of a transfer moves (R192, R231): every instance, in instance order, with what the host answered to each. The
packets of DRGET, DRPUT and DRPUTH have moved theirs (R399). -/
def State.dmxRun (s : State) (part : Nat) (t : DmxTransfer) (host : List HostData) : State × Bool :=
  s.dmxAll t.parts.zipIdx (fun s p =>
    let h := host[p.2]?.getD { ok := false, data := [] }
    match t.op with
    | 0x01 => s.dmxAll (p.1.pieces p.1.offset) (fun s x => s.dmxLoadPiece part p.1.handle x)
    | 0x02 => s.dmxAll (p.1.pieces p.1.offset) (fun s x => s.dmxStorePiece part p.1.handle t.old x)
    | 0x06 => s.dmxFromHost part p.1 h
    | 0x07 => s.dmxToHost part t.old p.1 h
    | _ => (s, true))

/-- DMX_TRANSFER_DONE (R231): all instances of a transfer have finished; its token is done, or failed on any error. A remote
transfer finishes once none of its transactions is open. -/
def execDmxTransferDone (q : Fin 4) (tok : BitVec 8) (host : List HostData) (ecc : List MemUpset) (s : State) : Result :=
  .next (
    let s := ({ s with answer := .none } : State).upset ecc
    match (s.seq q).transfers.find? (fun t => t.token = tok.toNat) with
    | none => s
    | some t =>
      if t.left ≠ 0 ∨ ((t.op = 6 ∨ t.op = 7) ∧ s.vfHeld (s.partOfDie q)) then s
      else
        let s := s.updSeq q (fun z => { z with transfers := z.transfers.filter (fun x => x.token ≠ t.token) })
        let r := s.dmxRun (s.partOfDie q) t host
        r.1.tokenPart q t.token (r.2 && !t.failed))

end Sys2Proof.Machine
end

