-- ==== Sys2Proof/Machine/ScalarOps.lean ====
section
/-!
DEFINITION. The scalar-unit operations (04_eusel_encoding.md R169, R170), each as a slot of the bundle in force.
-/
namespace Sys2Proof.Machine


/-- A scalar-unit slot by its fields (R168). -/
def scalarOp (op nw rd rs1 rs2 w1 w2 : Nat) : Slot :=
  { cls := 0, op := op, nw := nw, low := rd * 2 ^ 15 + rs1 * 2 ^ 10 + rs2 * 2 ^ 5, w1 := w1, w2 := w2 }

/-- LI (R170): rd = imm, sign-extended. -/
def execLi (q : Fin 4) (rd : Fin 32) (imm : W32) (s : State) : Result :=
  .next (s.slotCommand q (scalarOp 0x01 2 rd 0 0 imm.toNat 0))

/-- LIH (R170): rd[63:32] = imm. -/
def execLih (q : Fin 4) (rd : Fin 32) (imm : W32) (s : State) : Result :=
  .next (s.slotCommand q (scalarOp 0x02 2 rd 0 0 imm.toNat 0))

/-- LI64 (R170): rd = imm. -/
def execLi64 (q : Fin 4) (rd : Fin 32) (imm : W64) (s : State) : Result :=
  .next (s.slotCommand q (scalarOp 0x03 3 rd 0 0 (fld imm 31 0) (fld imm 63 32)))

/-- ADD (R170): rd = rs1 + rs2. -/
def execAdd (q : Fin 4) (rd : Fin 32) (rs1 : Fin 32) (rs2 : Fin 32) (s : State) : Result :=
  .next (s.slotCommand q (scalarOp 0x04 1 rd rs1 rs2 0 0))

/-- SUB (R170): rd = rs1 - rs2. -/
def execSub (q : Fin 4) (rd : Fin 32) (rs1 : Fin 32) (rs2 : Fin 32) (s : State) : Result :=
  .next (s.slotCommand q (scalarOp 0x05 1 rd rs1 rs2 0 0))

/-- MUL (R170): rd = the low 64 bits of rs1 * rs2. -/
def execMul (q : Fin 4) (rd : Fin 32) (rs1 : Fin 32) (rs2 : Fin 32) (s : State) : Result :=
  .next (s.slotCommand q (scalarOp 0x06 1 rd rs1 rs2 0 0))

/-- AND (R170): rd = rs1 and rs2. -/
def execAnd (q : Fin 4) (rd : Fin 32) (rs1 : Fin 32) (rs2 : Fin 32) (s : State) : Result :=
  .next (s.slotCommand q (scalarOp 0x07 1 rd rs1 rs2 0 0))

/-- OR (R170): rd = rs1 or rs2. -/
def execOr (q : Fin 4) (rd : Fin 32) (rs1 : Fin 32) (rs2 : Fin 32) (s : State) : Result :=
  .next (s.slotCommand q (scalarOp 0x08 1 rd rs1 rs2 0 0))

/-- XOR (R170): rd = rs1 exclusive or rs2. -/
def execXor (q : Fin 4) (rd : Fin 32) (rs1 : Fin 32) (rs2 : Fin 32) (s : State) : Result :=
  .next (s.slotCommand q (scalarOp 0x09 1 rd rs1 rs2 0 0))

/-- SHL (R170): rd = rs1 shifted left by rs2[5:0]. -/
def execShl (q : Fin 4) (rd : Fin 32) (rs1 : Fin 32) (rs2 : Fin 32) (s : State) : Result :=
  .next (s.slotCommand q (scalarOp 0x0A 1 rd rs1 rs2 0 0))

/-- SHR (R170): rd = rs1 shifted right by rs2[5:0], logical. -/
def execShr (q : Fin 4) (rd : Fin 32) (rs1 : Fin 32) (rs2 : Fin 32) (s : State) : Result :=
  .next (s.slotCommand q (scalarOp 0x0B 1 rd rs1 rs2 0 0))

/-- SAR (R170): rd = rs1 shifted right by rs2[5:0], arithmetic. -/
def execSar (q : Fin 4) (rd : Fin 32) (rs1 : Fin 32) (rs2 : Fin 32) (s : State) : Result :=
  .next (s.slotCommand q (scalarOp 0x0C 1 rd rs1 rs2 0 0))

/-- SLT (R170): rd = 1 if rs1 is below rs2, signed, else 0. -/
def execSlt (q : Fin 4) (rd : Fin 32) (rs1 : Fin 32) (rs2 : Fin 32) (s : State) : Result :=
  .next (s.slotCommand q (scalarOp 0x0D 1 rd rs1 rs2 0 0))

/-- SLTU (R170): rd = 1 if rs1 is below rs2, unsigned, else 0. -/
def execSltu (q : Fin 4) (rd : Fin 32) (rs1 : Fin 32) (rs2 : Fin 32) (s : State) : Result :=
  .next (s.slotCommand q (scalarOp 0x0E 1 rd rs1 rs2 0 0))

/-- ADDI (R170): rd = rs1 + imm, imm sign-extended. -/
def execAddi (q : Fin 4) (rd : Fin 32) (rs1 : Fin 32) (imm : W32) (s : State) : Result :=
  .next (s.slotCommand q (scalarOp 0x10 2 rd rs1 0 imm.toNat 0))

/-- ANDI (R170): rd = rs1 and imm, imm sign-extended. -/
def execAndi (q : Fin 4) (rd : Fin 32) (rs1 : Fin 32) (imm : W32) (s : State) : Result :=
  .next (s.slotCommand q (scalarOp 0x11 2 rd rs1 0 imm.toNat 0))

/-- ORI (R170): rd = rs1 or imm, imm sign-extended. -/
def execOri (q : Fin 4) (rd : Fin 32) (rs1 : Fin 32) (imm : W32) (s : State) : Result :=
  .next (s.slotCommand q (scalarOp 0x12 2 rd rs1 0 imm.toNat 0))

/-- A shift by an immediate: sh in bits 9:4 of word 0 (R170). -/
def shiftOp (op rd rs1 sh : Nat) : Slot := { cls := 0, op := op, nw := 1, low := rd * 2 ^ 15 + rs1 * 2 ^ 10 + sh * 2 ^ 4 }

/-- SHLI (R170): rd = rs1 shifted left, by sh. -/
def execShli (q : Fin 4) (rd : Fin 32) (rs1 : Fin 32) (sh : Fin 64) (s : State) : Result :=
  .next (s.slotCommand q (shiftOp 0x13 rd rs1 sh))

/-- SHRI (R170): rd = rs1 shifted right, logical, by sh. -/
def execShri (q : Fin 4) (rd : Fin 32) (rs1 : Fin 32) (sh : Fin 64) (s : State) : Result :=
  .next (s.slotCommand q (shiftOp 0x14 rd rs1 sh))

/-- SARI (R170): rd = rs1 shifted right, arithmetic, by sh. -/
def execSari (q : Fin 4) (rd : Fin 32) (rs1 : Fin 32) (sh : Fin 64) (s : State) : Result :=
  .next (s.slotCommand q (shiftOp 0x15 rd rs1 sh))

/-- GRPI (R170): gr = mask. -/
def execGrpi (q : Fin 4) (gr : Fin 32) (mask : W64) (s : State) : Result :=
  .next (s.slotCommand q (scalarOp 0x18 3 gr 0 0 (fld mask 31 0) (fld mask 63 32)))

/-- GRP (R170): gr = rs1. -/
def execGrp (q : Fin 4) (gr : Fin 32) (rs1 : Fin 32) (s : State) : Result :=
  .next (s.slotCommand q (scalarOp 0x19 1 gr rs1 0 0 0))

end Sys2Proof.Machine
end

