-- ==== Sys2Proof/Machine/FlowOps.lean ====
section
/-!
DEFINITION. The flow, sync and page operations of the sequencer (04_eusel_encoding.md R171 to R175), each as a slot of the bundle in force.
-/
namespace Sys2Proof.Machine


/-- JMP (R171): PC = PC + off. -/
def execJmp (q : Fin 4) (off : W32) (s : State) : Result :=
  .next (s.slotCommand q (scalarOp 0x20 2 0 0 0 off.toNat 0))

/-- BEQ (R171): a branch taken when rs1 = rs2. -/
def execBeq (q : Fin 4) (rs1 : Fin 32) (rs2 : Fin 32) (off : W32) (s : State) : Result :=
  .next (s.slotCommand q (scalarOp 0x21 2 0 rs1 rs2 off.toNat 0))

/-- BNE (R171): a branch taken when rs1 differs from rs2. -/
def execBne (q : Fin 4) (rs1 : Fin 32) (rs2 : Fin 32) (off : W32) (s : State) : Result :=
  .next (s.slotCommand q (scalarOp 0x22 2 0 rs1 rs2 off.toNat 0))

/-- BLT (R171): a branch taken when rs1 is below rs2, signed. -/
def execBlt (q : Fin 4) (rs1 : Fin 32) (rs2 : Fin 32) (off : W32) (s : State) : Result :=
  .next (s.slotCommand q (scalarOp 0x23 2 0 rs1 rs2 off.toNat 0))

/-- BGE (R171): a branch taken when rs1 is not below rs2, signed. -/
def execBge (q : Fin 4) (rs1 : Fin 32) (rs2 : Fin 32) (off : W32) (s : State) : Result :=
  .next (s.slotCommand q (scalarOp 0x24 2 0 rs1 rs2 off.toNat 0))

/-- BLTU (R171): a branch taken when rs1 is below rs2, unsigned. -/
def execBltu (q : Fin 4) (rs1 : Fin 32) (rs2 : Fin 32) (off : W32) (s : State) : Result :=
  .next (s.slotCommand q (scalarOp 0x25 2 0 rs1 rs2 off.toNat 0))

/-- BGEU (R171): a branch taken when rs1 is not below rs2, unsigned. -/
def execBgeu (q : Fin 4) (rs1 : Fin 32) (rs2 : Fin 32) (off : W32) (s : State) : Result :=
  .next (s.slotCommand q (scalarOp 0x26 2 0 rs1 rs2 off.toNat 0))

/-- LOOP (R173): a counted loop up to its exit. -/
def execLoop (q : Fin 4) (rs1 : Fin 32) (off : W32) (s : State) : Result :=
  .next (s.slotCommand q (scalarOp 0x28 2 0 rs1 0 off.toNat 0))

/-- COMMIT (R119): the partition freezes with cause 8. -/
def execCommit (q : Fin 4) (s : State) : Result :=
  .next (s.slotCommand q (scalarOp 0x2C 1 0 0 0 0 0))

/-- END (R126): the recipe ends after its last idle step, once no token is pending. -/
def execRecipeEnd (q : Fin 4) (s : State) : Result :=
  .next (s.slotCommand q (scalarOp 0x2D 1 0 0 0 0 0))

/-- WAITM (R174): a wait on tokens 64 tg + i for each bit i of the mask. -/
def execWaitm (q : Fin 4) (tg : Fin 4) (mask : W64) (s : State) : Result :=
  .next (s.slotCommand q { cls := 0, op := 0x30, nw := 3, low := tg, w1 := fld mask 31 0, w2 := fld mask 63 32 })

/-- WAITR (R174): a wait on tokens first to last. -/
def execWaitr (q : Fin 4) (first : BitVec 8) (last : BitVec 8) (s : State) : Result :=
  .next (s.slotCommand q { cls := 0, op := 0x31, nw := 1, low := first.toNat * 256 + last.toNat })

/-- PREF (R175): a prefetch of a page on a token. -/
def execPref (q : Fin 4) (page : BitVec 16) (tok : BitVec 8) (s : State) : Result :=
  .next (s.slotCommand q { cls := 0, op := 0x38, nw := 2, low := tok.toNat, w1 := page.toNat })

/-- PREFR (R175): a prefetch of the page that rs1 names. -/
def execPrefr (q : Fin 4) (rs1 : Fin 32) (tok : BitVec 8) (s : State) : Result :=
  .next (s.slotCommand q { cls := 0, op := 0x39, nw := 1, low := rs1.val * 2 ^ 10 + tok.toNat })

end Sys2Proof.Machine
end

