-- ==== Sys2Proof/Machine/EngineOps.lean ====
section
/-!
DEFINITION. The operations of the engines (04_eusel_encoding.md R176 to R194), each as a slot of the bundle in force.
-/
namespace Sys2Proof.Machine


/-- A slot of an engine class by its fields (R161). -/
def engineOp (cls op nw : Nat) (sel : Sel) (mod w1 w2 : Nat) : Slot :=
  { cls := cls, op := op, nw := nw, gmode := sel.gmode, gsel := sel.gsel, csel := sel.csel, mod := mod, w1 := w1, w2 := w2 }

/-- A word of two 16-bit fields, the first lower. -/
def pair16 (a b : BitVec 16) : Nat := a.toNat + b.toNat * 2 ^ 16

/-- A control slot of a standing order (R176): an SOLD whose record lies in a page that is not resident freezes the partition
under cause 7; a class without standing orders has no such operation, and its slot is an illegal encoding. -/
def State.orderCommand (s : State) (q : Nat) (sl : Slot) : State :=
  let p := sl.w1 / 65536
  if s.running q ∧ orderClass sl.cls ∧ sl.op = 0x38 ∧ sl.w1 < (s.seq q).imageLen ∧ !s.pageReady q p then s.freezeOn q (.page p) 3 7
  else s.slotCommand q sl

/-- SOLD (R176, R178): a whole standing order loaded from a checked record. -/
def execSold (q : Fin 4) (cls : Fin 16) (sel : Sel) (start : Bool) (rec : W32) (s : State) : Result :=
  .next (s.orderCommand q (engineOp cls 0x38 2 sel (b2n start) rec.toNat 0))

/-- SOSTART (R109): a standing order starts. -/
def execSostart (q : Fin 4) (cls : Fin 16) (sel : Sel) (s : State) : Result :=
  .next (s.orderCommand q (engineOp cls 0x39 1 sel 0 0 0))

/-- SOSTOP (R109): a standing order stops. -/
def execSostop (q : Fin 4) (cls : Fin 16) (sel : Sel) (s : State) : Result :=
  .next (s.orderCommand q (engineOp cls 0x3A 1 sel 0 0 0))

/-- SOGEN (R176): base of a generator = rs[31:0]. -/
def execSogen (q : Fin 4) (cls : Fin 16) (sel : Sel) (g : Fin 4) (rs : Fin 32) (s : State) : Result :=
  .next (s.orderCommand q (engineOp cls 0x3B 2 sel g rs 0))

/-- SOLOOP (R176): count and remaining of a loop = rs. -/
def execSoloop (q : Fin 4) (cls : Fin 16) (sel : Sel) (l : Fin 4) (rs : Fin 32) (s : State) : Result :=
  .next (s.orderCommand q (engineOp cls 0x3C 2 sel l rs 0))

/-- MCFG (R180): formats, rounding, output shift and scale displacements. -/
def execMcfg (q : Fin 4) (sel : Sel) (w1 : W32) (w2 : W32) (ecc : List MemUpset) (s : State) : Result :=
  .next ((s.upset ecc).slotCommand q (engineOp 0x1 0x00 3 sel 0 w1.toNat w2.toNat))

/-- MMS (R182): start a chain. -/
def execMms (q : Fin 4) (sel : Sel) (a : BitVec 16) (b : BitVec 16) (ecc : List MemUpset) (s : State) : Result :=
  .next ((s.upset ecc).slotCommand q (engineOp 0x1 0x01 2 sel 0 (pair16 a b) 0))

/-- MMC (R182): continue the chain. -/
def execMmc (q : Fin 4) (sel : Sel) (a : BitVec 16) (b : BitVec 16) (ecc : List MemUpset) (s : State) : Result :=
  .next ((s.upset ecc).slotCommand q (engineOp 0x1 0x02 2 sel 0 (pair16 a b) 0))

/-- MME (R182): add, end the chain, write C. -/
def execMme (q : Fin 4) (sel : Sel) (a : BitVec 16) (b : BitVec 16) (c : BitVec 16) (ecc : List MemUpset) (s : State) : Result :=
  .next ((s.upset ecc).slotCommand q (engineOp 0x1 0x03 3 sel 0 (pair16 a b) c.toNat))

/-- MMSE (R182): start, add and end in one operation. -/
def execMmse (q : Fin 4) (sel : Sel) (a : BitVec 16) (b : BitVec 16) (c : BitVec 16) (ecc : List MemUpset) (s : State) : Result :=
  .next ((s.upset ecc).slotCommand q (engineOp 0x1 0x04 3 sel 0 (pair16 a b) c.toNat))

/-- MMSS (R182): start the chain with a seed tile. -/
def execMmss (q : Fin 4) (sel : Sel) (a : BitVec 16) (b : BitVec 16) (c : BitVec 16) (ecc : List MemUpset) (s : State) : Result :=
  .next ((s.upset ecc).slotCommand q (engineOp 0x1 0x05 3 sel 0 (pair16 a b) c.toNat))

/-- VCFG (R183): formats and rounding. -/
def execVcfg (q : Fin 4) (sel : Sel) (w1 : W32) (ecc : List MemUpset) (s : State) : Result :=
  .next ((s.upset ecc).slotCommand q (engineOp 0x2 0x00 2 sel 0 w1.toNat 0))

/-- VADD (R183, R214): D = A + B. -/
def execVadd (q : Fin 4) (sel : Sel) (mod : Fin 128) (a : BitVec 16) (b : BitVec 16) (d : BitVec 16) (ecc : List MemUpset) (s : State) : Result :=
  .next ((s.upset ecc).slotCommand q (engineOp 0x2 0x01 3 sel mod (pair16 a b) d.toNat))

/-- VMUL (R183, R214): D = A * B. -/
def execVmul (q : Fin 4) (sel : Sel) (mod : Fin 128) (a : BitVec 16) (b : BitVec 16) (d : BitVec 16) (ecc : List MemUpset) (s : State) : Result :=
  .next ((s.upset ecc).slotCommand q (engineOp 0x2 0x02 3 sel mod (pair16 a b) d.toNat))

/-- VMAX (R183, R214): D = the larger of A and B. -/
def execVmax (q : Fin 4) (sel : Sel) (mod : Fin 128) (a : BitVec 16) (b : BitVec 16) (d : BitVec 16) (ecc : List MemUpset) (s : State) : Result :=
  .next ((s.upset ecc).slotCommand q (engineOp 0x2 0x04 3 sel mod (pair16 a b) d.toNat))

/-- VMIN (R183, R214): D = the smaller of A and B. -/
def execVmin (q : Fin 4) (sel : Sel) (mod : Fin 128) (a : BitVec 16) (b : BitVec 16) (d : BitVec 16) (ecc : List MemUpset) (s : State) : Result :=
  .next ((s.upset ecc).slotCommand q (engineOp 0x2 0x05 3 sel mod (pair16 a b) d.toNat))

/-- VFMA (R183, R214): E = A * B + D, rounded once. -/
def execVfma (q : Fin 4) (sel : Sel) (mod : Fin 128) (a : BitVec 16) (b : BitVec 16) (d : BitVec 16) (e : BitVec 16) (ecc : List MemUpset) (s : State) : Result :=
  .next ((s.upset ecc).slotCommand q (engineOp 0x2 0x03 3 sel mod (pair16 a b) (pair16 d e)))

/-- VSCL (R183, R214): D = A * s. -/
def execVscl (q : Fin 4) (sel : Sel) (mod : Fin 128) (a : BitVec 16) (d : BitVec 16) (rs : Fin 32) (ecc : List MemUpset) (s : State) : Result :=
  .next ((s.upset ecc).slotCommand q (engineOp 0x2 0x06 3 sel mod a.toNat (d.toNat + rs.val * 2 ^ 16)))

/-- VRED (R183, R215): D = the sum of the elements. -/
def execVred (q : Fin 4) (sel : Sel) (mod : Fin 128) (a : BitVec 16) (d : BitVec 16) (ecc : List MemUpset) (s : State) : Result :=
  .next ((s.upset ecc).slotCommand q (engineOp 0x2 0x07 3 sel mod a.toNat d.toNat))

/-- VCVT (R183): D = A converted. -/
def execVcvt (q : Fin 4) (sel : Sel) (mod : Fin 128) (a : BitVec 16) (d : BitVec 16) (ecc : List MemUpset) (s : State) : Result :=
  .next ((s.upset ecc).slotCommand q (engineOp 0x2 0x08 3 sel mod a.toNat d.toNat))

/-- KCOPY (R217). -/
def execKcopy (q : Fin 4) (sel : Sel) (mod : Fin 128) (a : BitVec 16) (d : BitVec 16) (ecc : List MemUpset) (s : State) : Result :=
  .next ((s.upset ecc).slotCommand q (engineOp 0x3 0x01 3 sel mod a.toNat d.toNat))

/-- KTRANS (R217). -/
def execKtrans (q : Fin 4) (sel : Sel) (mod : Fin 128) (a : BitVec 16) (d : BitVec 16) (param : BitVec 16) (ecc : List MemUpset) (s : State) : Result :=
  .next ((s.upset ecc).slotCommand q (engineOp 0x3 0x02 3 sel mod a.toNat (pair16 d param)))

/-- KPERM (R217, R218). -/
def execKperm (q : Fin 4) (sel : Sel) (mod : Fin 128) (a : BitVec 16) (b : BitVec 16) (d : BitVec 16) (param : BitVec 16) (ecc : List MemUpset) (s : State) : Result :=
  .next ((s.upset ecc).slotCommand q (engineOp 0x3 0x03 3 sel mod (pair16 a b) (pair16 d param)))

/-- KGATH (R217, R218). -/
def execKgath (q : Fin 4) (sel : Sel) (mod : Fin 128) (a : BitVec 16) (b : BitVec 16) (d : BitVec 16) (param : BitVec 16) (ecc : List MemUpset) (s : State) : Result :=
  .next ((s.upset ecc).slotCommand q (engineOp 0x3 0x04 3 sel mod (pair16 a b) (pair16 d param)))

/-- KSCAT (R217, R218). -/
def execKscat (q : Fin 4) (sel : Sel) (mod : Fin 128) (a : BitVec 16) (b : BitVec 16) (d : BitVec 16) (param : BitVec 16) (ecc : List MemUpset) (s : State) : Result :=
  .next ((s.upset ecc).slotCommand q (engineOp 0x3 0x05 3 sel mod (pair16 a b) (pair16 d param)))

/-- FCFG (R185): formats, rounding, and the registers of rmode 4. -/
def execFcfg (q : Fin 4) (sel : Sel) (w1 : W32) (w2 : W32) (ecc : List MemUpset) (s : State) : Result :=
  .next ((s.upset ecc).slotCommand q (engineOp 0x4 0x00 3 sel 0 w1.toNat w2.toNat))

/-- FCVT (R219). -/
def execFcvt (q : Fin 4) (sel : Sel) (mod : Fin 128) (a : BitVec 16) (b : BitVec 16) (d : BitVec 16) (e : BitVec 16) (ecc : List MemUpset) (s : State) : Result :=
  .next ((s.upset ecc).slotCommand q (engineOp 0x4 0x01 3 sel mod (pair16 a b) (pair16 d e)))

/-- FSCALE (R220). -/
def execFscale (q : Fin 4) (sel : Sel) (mod : Fin 128) (a : BitVec 16) (b : BitVec 16) (e : BitVec 16) (ecc : List MemUpset) (s : State) : Result :=
  .next ((s.upset ecc).slotCommand q (engineOp 0x4 0x02 3 sel mod (pair16 a b) (pair16 0 e)))

/-- TCFG (R186): format and rounding. -/
def execTcfg (q : Fin 4) (sel : Sel) (w1 : W32) (ecc : List MemUpset) (s : State) : Result :=
  .next ((s.upset ecc).slotCommand q (engineOp 0x5 0x00 2 sel 0 w1.toNat 0))

/-- TEXP (R186, R221): the exponential. -/
def execTexp (q : Fin 4) (sel : Sel) (mod : Fin 128) (a : BitVec 16) (d : BitVec 16) (ecc : List MemUpset) (s : State) : Result :=
  .next ((s.upset ecc).slotCommand q (engineOp 0x5 0x01 2 sel mod (pair16 a d) 0))

/-- TLOG (R186, R221): the natural logarithm. -/
def execTlog (q : Fin 4) (sel : Sel) (mod : Fin 128) (a : BitVec 16) (d : BitVec 16) (ecc : List MemUpset) (s : State) : Result :=
  .next ((s.upset ecc).slotCommand q (engineOp 0x5 0x02 2 sel mod (pair16 a d) 0))

/-- TRCP (R186, R221): the reciprocal. -/
def execTrcp (q : Fin 4) (sel : Sel) (mod : Fin 128) (a : BitVec 16) (d : BitVec 16) (ecc : List MemUpset) (s : State) : Result :=
  .next ((s.upset ecc).slotCommand q (engineOp 0x5 0x03 2 sel mod (pair16 a d) 0))

/-- TRSQ (R186, R221): the reciprocal square root. -/
def execTrsq (q : Fin 4) (sel : Sel) (mod : Fin 128) (a : BitVec 16) (d : BitVec 16) (ecc : List MemUpset) (s : State) : Result :=
  .next ((s.upset ecc).slotCommand q (engineOp 0x5 0x04 2 sel mod (pair16 a d) 0))

/-- TTANH (R186, R221): the hyperbolic tangent. -/
def execTtanh (q : Fin 4) (sel : Sel) (mod : Fin 128) (a : BitVec 16) (d : BitVec 16) (ecc : List MemUpset) (s : State) : Result :=
  .next ((s.upset ecc).slotCommand q (engineOp 0x5 0x05 2 sel mod (pair16 a d) 0))

/-- TSIGM (R186, R221): the logistic sigmoid. -/
def execTsigm (q : Fin 4) (sel : Sel) (mod : Fin 128) (a : BitVec 16) (d : BitVec 16) (ecc : List MemUpset) (s : State) : Result :=
  .next ((s.upset ecc).slotCommand q (engineOp 0x5 0x06 2 sel mod (pair16 a d) 0))

/-- TSIN (R186, R221): the sine. -/
def execTsin (q : Fin 4) (sel : Sel) (mod : Fin 128) (a : BitVec 16) (d : BitVec 16) (ecc : List MemUpset) (s : State) : Result :=
  .next ((s.upset ecc).slotCommand q (engineOp 0x5 0x07 2 sel mod (pair16 a d) 0))

/-- TCOS (R186, R221): the cosine. -/
def execTcos (q : Fin 4) (sel : Sel) (mod : Fin 128) (a : BitVec 16) (d : BitVec 16) (ecc : List MemUpset) (s : State) : Result :=
  .next ((s.upset ecc).slotCommand q (engineOp 0x5 0x08 2 sel mod (pair16 a d) 0))

/-- SCFG (R187): key format, order and k. -/
def execScfg (q : Fin 4) (sel : Sel) (w1 : W32) (ecc : List MemUpset) (s : State) : Result :=
  .next ((s.upset ecc).slotCommand q (engineOp 0x6 0x00 2 sel 0 w1.toNat 0))

/-- SSORT (R223). -/
def execSsort (q : Fin 4) (sel : Sel) (mod : Fin 128) (a : BitVec 16) (b : BitVec 16) (d : BitVec 16) (e : BitVec 16) (ecc : List MemUpset) (s : State) : Result :=
  .next ((s.upset ecc).slotCommand q (engineOp 0x6 0x01 3 sel mod (pair16 a b) (pair16 d e)))

/-- STOPK (R223). -/
def execStopk (q : Fin 4) (sel : Sel) (mod : Fin 128) (a : BitVec 16) (b : BitVec 16) (d : BitVec 16) (e : BitVec 16) (ecc : List MemUpset) (s : State) : Result :=
  .next ((s.upset ecc).slotCommand q (engineOp 0x6 0x02 3 sel mod (pair16 a b) (pair16 d e)))

/-- ICFG (R188): bins. -/
def execIcfg (q : Fin 4) (sel : Sel) (w1 : W32) (ecc : List MemUpset) (s : State) : Result :=
  .next ((s.upset ecc).slotCommand q (engineOp 0x7 0x00 2 sel 0 w1.toNat 0))

/-- IHIST (R224). -/
def execIhist (q : Fin 4) (sel : Sel) (mod : Fin 128) (a : BitVec 16) (d : BitVec 16) (ecc : List MemUpset) (s : State) : Result :=
  .next ((s.upset ecc).slotCommand q (engineOp 0x7 0x01 3 sel mod a.toNat d.toNat))

/-- IPSUM (R224). -/
def execIpsum (q : Fin 4) (sel : Sel) (mod : Fin 128) (a : BitVec 16) (d : BitVec 16) (ecc : List MemUpset) (s : State) : Result :=
  .next ((s.upset ecc).slotCommand q (engineOp 0x7 0x02 3 sel mod a.toNat d.toNat))

/-- ICOMP (R224). -/
def execIcomp (q : Fin 4) (sel : Sel) (mod : Fin 128) (a : BitVec 16) (b : BitVec 16) (d : BitVec 16) (e : BitVec 16) (ecc : List MemUpset) (s : State) : Result :=
  .next ((s.upset ecc).slotCommand q (engineOp 0x7 0x03 3 sel mod (pair16 a b) (pair16 d e)))

/-- IROUTE (R224). -/
def execIroute (q : Fin 4) (sel : Sel) (mod : Fin 128) (a : BitVec 16) (d : BitVec 16) (e : BitVec 16) (ecc : List MemUpset) (s : State) : Result :=
  .next ((s.upset ecc).slotCommand q (engineOp 0x7 0x04 3 sel mod a.toNat (pair16 d e)))

/-- CCOMP (R226). -/
def execCcomp (q : Fin 4) (sel : Sel) (mod : Fin 128) (a : BitVec 16) (d : BitVec 16) (ecc : List MemUpset) (s : State) : Result :=
  .next ((s.upset ecc).slotCommand q (engineOp 0x8 0x01 3 sel mod a.toNat d.toNat))

/-- CDEC (R227). -/
def execCdec (q : Fin 4) (sel : Sel) (mod : Fin 128) (a : BitVec 16) (d : BitVec 16) (ecc : List MemUpset) (s : State) : Result :=
  .next ((s.upset ecc).slotCommand q (engineOp 0x8 0x02 3 sel mod a.toNat d.toNat))

/-- RGEN (R190, R228). -/
def execRgen (q : Fin 4) (sel : Sel) (mod : Fin 128) (d : BitVec 16) (rsKey : Fin 32) (rsCtr : Fin 32) (dist : Fin 4) (rsHi : Fin 32) (ecc : List MemUpset) (s : State) : Result :=
  .next ((s.upset ecc).slotCommand q (engineOp 0x9 0x01 3 sel mod (d.toNat + rsKey.val * 2 ^ 16 + rsCtr.val * 2 ^ 21 + dist.val * 2 ^ 26) rsHi))

/-- RCFG (R191): format and rounding. -/
def execRcfg (q : Fin 4) (sel : Sel) (w1 : W32) (ecc : List MemUpset) (s : State) : Result :=
  .next ((s.upset ecc).slotCommand q (engineOp 0xB 0x00 2 sel 0 w1.toNat 0))

/-- RRED (R216). -/
def execRred (q : Fin 4) (sel : Sel) (mod : Fin 128) (a : BitVec 16) (d : BitVec 16) (ecc : List MemUpset) (s : State) : Result :=
  .next ((s.upset ecc).slotCommand q (engineOp 0xB 0x01 2 sel mod (pair16 a d) 0))

/-- RBCAST (R191). -/
def execRbcast (q : Fin 4) (sel : Sel) (mod : Fin 128) (a : BitVec 16) (d : BitVec 16) (ecc : List MemUpset) (s : State) : Result :=
  .next ((s.upset ecc).slotCommand q (engineOp 0xB 0x02 2 sel mod (pair16 a d) 0))

/-- RCAT (R191). -/
def execRcat (q : Fin 4) (sel : Sel) (mod : Fin 128) (a : BitVec 16) (d : BitVec 16) (ecc : List MemUpset) (s : State) : Result :=
  .next ((s.upset ecc).slotCommand q (engineOp 0xB 0x03 2 sel mod (pair16 a d) 0))

/-- A DMX slot by its fields (R192). -/
def dmxOp (op : Nat) (sel : Sel) (f : DmxFields) : Slot :=
  let low := f.cell.val + b2n f.split * 16 + b2n f.fan * 32
  { engineOp 0xA op 3 sel low (f.token.toNat + f.rsH.val * 2 ^ 8 + f.rsO.val * 2 ^ 13 + f.rsX.val * 2 ^ 18)
      (f.store.toNat + f.count.toNat * 2 ^ 16) with low := low }

/-- DLD (R192): own handle to store, on a token. -/
def execDld (q : Fin 4) (sel : Sel) (f : DmxFields) (s : State) : Result :=
  .next (s.slotCommand q (dmxOp 0x01 sel f))

/-- DST (R192): store to own handle, on a token. -/
def execDst (q : Fin 4) (sel : Sel) (f : DmxFields) (s : State) : Result :=
  .next (s.slotCommand q (dmxOp 0x02 sel f))

/-- DRGET (R192): remote handle to store, on a token. -/
def execDrget (q : Fin 4) (sel : Sel) (f : DmxFields) (s : State) : Result :=
  .next (s.slotCommand q (dmxOp 0x03 sel f))

/-- DRPUT (R192): store to remote handle, on a token. -/
def execDrput (q : Fin 4) (sel : Sel) (f : DmxFields) (s : State) : Result :=
  .next (s.slotCommand q (dmxOp 0x04 sel f))

/-- DRPUTH (R192): store to remote handle, the last packet a heel, on a token. -/
def execDrputh (q : Fin 4) (sel : Sel) (f : DmxFields) (s : State) : Result :=
  .next (s.slotCommand q (dmxOp 0x05 sel f))

/-- DHRD (R192): host memory to store, on a token. -/
def execDhrd (q : Fin 4) (sel : Sel) (f : DmxFields) (s : State) : Result :=
  .next (s.slotCommand q (dmxOp 0x06 sel f))

/-- DHWR (R192): store to host memory, on a token. -/
def execDhwr (q : Fin 4) (sel : Sel) (f : DmxFields) (s : State) : Result :=
  .next (s.slotCommand q (dmxOp 0x07 sel f))

/-- Word 1 of a trigger (R193). -/
def triggerWord (t : Trigger) : Nat := t.token.toNat + t.index.toNat * 2 ^ 8 + t.rsArg.val * 2 ^ 24

/-- CTRIG (R193, R428): a collective instance joins the lead CLX's queue. -/
def execCtrig (q : Fin 4) (t : Trigger) (s : State) : Result :=
  .next (s.slotCommand q { cls := 0xC, op := 1, nw := 2, w1 := triggerWord t })

/-- BTRIG (R193, R300): a base call on the stacks of its mask. -/
def execBtrig (q : Fin 4) (mask : BitVec 12) (t : Trigger) (s : State) : Result :=
  .next (s.slotCommand q { cls := 0xD, op := 1, nw := 2, low := mask.toNat * 2 ^ 8, w1 := triggerWord t })

/-- BSIG (R193, R546): a signal joins the pending set. -/
def execBsig (q : Fin 4) (sig : Fin 64) (s : State) : Result :=
  .next (s.slotCommand q { cls := 0xE, op := 1, nw := 1, low := sig.val * 2 ^ 14 })

end Sys2Proof.Machine
end

