-- ==== Sys2Proof/Machine/FlowCmds.lean ====
section
/-!
DEFINITION. The commands of the end-to-end layer (09_routing_delivery.md R389 to R417): sources, timers, and the packets that the
endpoint has received. The command of an operation takes the first packet of that operation that has arrived.
-/
namespace Sys2Proof.Machine

/-! ### Sources (R390 to R396, R407, R408, R415) -/

/-- A transaction is opened (R399): its xid, its packets. The source tiles of a stream engine's write are verified; one that fails
fails the transfer (R232). -/
def State.openTxn (s : State) (key : Nat) (j : NetJob) : State :=
  let c := s.send key
  let fresh := firstFrom (fun i => !c.txns.any (fun t => t.xid == (c.nextXid + i) % 4096)) 4096 0
  match fresh with
  | none => s
  | some i =>
    let xid := (c.nextXid + i) % 4096
    let s := s.updSend key (fun c => { c with queue := c.queue.drop 1 })
    let s := s.updRouter (fun r => { r with replyArea := r.replyArea.filter (fun e => !(e.1 == key && e.2.1 == xid)) })
    let stored := decide (j.op = 1) && j.payload.isEmpty
    let s := s.cond stored (fun s => s.scrubStore j.store j.len)
    match (if stored then (tilesOf j.store j.len).find? s.tileFails else none) with
    | some t => (s.checkFailedStore 2 (4096 * t) (s.domainPart j.domain)).jobDone key xid j false
    | none =>
      let bs := if stored then s.readBytes j.store j.len else j.payload
      let ps := jobPackets j (key / 8) s.node (key % 8) xid bs
      (s.updSend key (fun c => { c with
        nextXid := (xid + 1) % 4096, txns := c.txns ++ [{ job := j, xid := xid, all := ps, pkts := ps }] })).gauges

/-- Whether the hold of a drain-and-swap keeps new packets of a flow back (R478): classes 1 to 4 and 6 to a held destination. -/
def State.flowHeld (s : State) (key : Nat) : Bool :=
  let cls := key % 8
  let n := key / 8
  ((decide (1 ≤ cls) && decide (cls ≤ 4)) || cls == 6) && s.rdB Reg.hubFmHoldCtrl 0
    && (s.rdB Reg.hubFmHoldCtrl 1 || (decide (n < 131072) && s.rdB (Reg.hubFmHoldMap (n / 64)) (n % 64)))

/-- Held flows that still have unacknowledged packets (R461, R478). -/
def State.heldOpen (s : State) : Nat :=
  (s.router.sends.filter (fun e => s.flowHeld e.1 && (match e.2 with | some c => !c.unacked.isEmpty | none => false))).length

/-- The next packet of an open transaction goes out with the next seq, within the window and 2,048 packets (R391), unless its
destination is held (R478). -/
def State.sendPacket (s : State) (key : Nat) : State :=
  let c := s.send key
  match c.txns.find? (fun t => !t.pkts.isEmpty) with
  | none => s
  | some t =>
    match t.pkts with
    | [] => s
    | p :: rest =>
      let charge := packetCharge p
      let sum := (c.unacked.map SentPkt.charge).foldl (· + ·) 0
      if s.flowHeld key ∨ s.rdF Reg.rtrE2e 8 0 * 65536 < sum + charge ∨ 2048 ≤ c.unacked.length then s
      else
        let p : Packet := { p with seq := c.nextSeq }
        let first := t.pkts.length == t.all.length
        let s := s.updSend key (fun c => { c with
          nextSeq := (c.nextSeq + 1) % 2 ^ 32
          txns := c.txns.map (fun x => if x.xid = t.xid then { x with pkts := rest, firstSeq := if first then p.seq else x.firstSeq } else x)
          unacked := c.unacked ++ [{ pkt := p, charge := charge }] })
        s.putPacket p t.job

/-- The next packet of a flow (R391, R392): a new flow is opened first, once its context finds room (R390); a held flow sends none. -/
def State.sendNext (s : State) (key : Nat) : State :=
  let c := s.send key
  match c.phase with
  | .closed =>
    (match c.queue with
    | [] => s
    | j :: _ =>
      let P := (s.domainPart j.domain).getD 4
      match (if c.part.isSome || s.homeOpen (key % 8) (s.sendHome P key) then s.touch P (2 * key) else none) with
      | none => s
      | some s =>
        let w := s.draw
        (w.2.updSend key (fun c => { c with nextSeq := fld w.1 31 0 })).openFlow key j)
  | .opening => s
  | .held => s
  | .opened =>
    let total := (s.rd Reg.rtrTxnUsed).toNat
    let s := match c.queue with
      | [] => s
      | j :: _ =>
        if c.txns.any (fun t => !t.pkts.isEmpty) || decide (4096 ≤ c.txns.length) || decide (65536 ≤ total)
            || (j.mcast.isSome && !c.txns.isEmpty) || !s.replyRoom j then s
        else s.openTxn key j
    s.sendPacket key

/-- PACKET_SEND (R391): a source sends the next packet of its flow to `dst`; `ask` holds transactions that firmware asks for first. Classes 0,
5 and 7 are no flows (R389). -/
def execPacketSend (dst : BitVec 20) (cls : Fin 8) (ask : List NetJob) (s : State) : Result :=
  .next (
    let s := { s with answer := .none }
    if !s.nodeValid ∨ !flowClass cls then s
    else
      let s := s.each (ask.filterMap (s.askedJob dst.toNat cls)) (fun s j => s.enqueueJob dst.toNat cls j)
      s.sendNext (sendKey dst.toNat cls))

/-- Every open transaction of a flow fails, and the flow is reset (R395, R408). -/
def State.resetFlow (s : State) (key : Nat) : State :=
  let c := s.send key
  let job := ((c.txns.map Txn.job) ++ c.queue).head?
  let s := s.failTxns key (fun _ => true)
  match job with
  | some j => s.openFlow key j
  | none => s.updSend key (fun c => { c with phase := .closed, unacked := [] })

/-- The FLOWRESET of a flow cannot be delivered: what the flow was to carry fails, and the flow is closed. -/
def State.openFails (s : State) (key : Nat) : State :=
  let s := s.failTxns key (fun _ => true)
  let js := (s.send key).queue
  let s := s.updSend key (fun c => { c with phase := .closed, queue := [], opener := none, unacked := [] })
  s.each js (fun s j => s.jobDone key 0 j false)

/-- The FLOWRESET is sent again. -/
def State.reopen (s : State) (key : Nat) : State :=
  match (s.send key).opener with
  | none => s
  | some u =>
    let s := s.updSend key (fun c => { c with opener := some { u with sends := u.sends + 1, nack := 0 } })
    let job := (((s.send key).txns.map Txn.job) ++ (s.send key).queue).headD { owner := .firmware, op := 0, domain := 0 }
    (s.count Reg.rtrRetx 1).putPacket u.pkt job

/-- E2E_TIMEOUT (R395): every unacknowledged packet is sent again, oldest first; one already sent 1 + retx_max times fails its
transaction and every other of the flow, and resets the flow. -/
def execE2eTimeout (dst : BitVec 20) (cls : Fin 8) (s : State) : Result :=
  .next (
    let s := { s with answer := .none }
    let key := sendKey dst.toNat cls
    let c := s.send key
    let most := 1 + s.rdF Reg.rtrE2e 27 24
    match c.phase with
    | .opening =>
      (match c.opener with
      | some u => if most ≤ u.sends then (s.event 0x505).openFails key else s.reopen key
      | none => s)
    | _ =>
      if c.unacked.any (fun u => most ≤ u.sends) then (s.event 0x505).resetFlow key
      else s.each c.unacked (fun s u => s.resend key u))

/-- NACK_BUSY_RETRY (R401): 10 µs after NACK busy the packet goes again; `late`: it is still refused after reset_wait, and its
transaction fails. -/
def execNackBusyRetry (dst : BitVec 20) (cls : Fin 8) (late : Bool) (s : State) : Result :=
  .next (
    let s := { s with answer := .none }
    let key := sendKey dst.toNat cls
    let c := s.send key
    match c.phase, c.opener with
    | .opening, some u => if u.nack ≠ 3 then s else if late then s.openFails key else s.reopen key
    | _, _ =>
      match c.unacked.find? (fun u => u.nack = 3) with
      | none => s
      | some u =>
        if late then s.failTxns key (fun t => t.xid = u.pkt.xid || t.job.mcast.isSome)
        else (s.updSend key (fun c => { c with
          unacked := c.unacked.map (fun x => if x.pkt.seq = u.pkt.seq then { x with nack := 0 } else x) })).resend key u)

/-- RESET_RETRY (R407): every 100 µs a held flow sends its oldest NACKed packet again. -/
def execResetRetry (dst : BitVec 20) (cls : Fin 8) (s : State) : Result :=
  .next (
    let s := { s with answer := .none }
    let key := sendKey dst.toNat cls
    let c := s.send key
    match c.phase, c.opener with
    | .opening, some u => if u.nack = 1 then s.reopen key else s
    | .held, _ =>
      (match c.unacked.find? (fun u => u.nack = 1) with
      | some u => s.resend key u
      | none => s)
    | _, _ => s)

/-- RESET_WAIT_EXPIRE (R407): every outstanding transaction of the flow fails. -/
def execResetWaitExpire (dst : BitVec 20) (cls : Fin 8) (s : State) : Result :=
  .next (
    let s := { s with answer := .none }
    let key := sendKey dst.toNat cls
    match (s.send key).phase with
    | .held => (s.failTxns key (fun _ => true)).updSend key (fun c => { c with phase := .closed, unacked := [] })
    | .opening =>
      (match (s.send key).opener with
      | some u => if u.nack = 1 then s.openFails key else s
      | none => s)
    | _ => s)

/-- CC_TICK (R415). -/
def execCcTick (dst : BitVec 20) (cls : Fin 8) (s : State) : Result :=
  .next (
    let s := { s with answer := .none }
    let key := sendKey dst.toNat cls
    if (s.router.sends.get key).isNone then s
    else
      let g := s.rdF Reg.rtrCc 11 8
      let step := s.rdF Reg.rtrCc 19 12
      let en := s.rdB Reg.rtrCc 20
      s.updSend key (fun c =>
        if c.echo then { c with echo := false }
        else { c with alphaNum := (2 ^ g - 1) * c.alphaNum, alphaExp := c.alphaExp + g
                      rate := if en then min 1024 (c.rate + step) else 1024 }))

/-- MULTICAST_TIMEOUT (R417): the source sends the transaction again. -/
def execMulticastTimeout (dst : BitVec 20) (s : State) : Result :=
  .next (
    let s := { s with answer := .none }
    let key := sendKey dst.toNat 6
    let c := s.send key
    if c.phase = .opening then s.reopen key else s.each c.unacked (fun s u => s.resend key u))

/-! ### Destinations (R394 to R406) -/

/-- The first packet of an operation that has arrived, taken. -/
def State.takeArrived (s : State) (op : Nat) : Option (Packet × State) :=
  match s.router.arrived.find? (fun p => p.op = op) with
  | some p => some (p, s.updRouter (fun r => { r with arrived := r.arrived.erase p }))
  | none => none

/-- What a command does with the packet of a kind that arrived first; nothing when none did. -/
def State.onTaken (s : State) (op : Nat) (g : Packet → State → State) : State :=
  let s := { s with answer := .none }
  match s.takeArrived op with
  | none => s
  | some (p, s) => g p s

/-- The same for a reply or control packet: the endpoint accepts none whose domain maps to none of its partitions (R400, R418). -/
def State.onArrived (s : State) (op : Nat) (g : Packet → State → State) : State :=
  s.onTaken op (fun p s => if (s.domainPart p.domain).isNone then s else g p s)

/-- Event 0x503 and NACK access (R400). -/
def State.refuseAccess (s : State) (p : Packet) (P : Nat) : State := (s.event 0x503 (part := some P)).sendNack p 5

/-- The reply cache takes a reply before it is sent (R402). -/
def State.cacheReply (s : State) (key : Nat) (p rsp : Packet) : State :=
  ((s.updRouter (fun r => { r with replies := r.replies ++ [(key, p.seq, rsp)] })).gauges).inject 4 rsp

/-- A reply packet to a request. -/
def replyTo (s : State) (p : Packet) (op seq : Nat) (bs : List Byte) : Packet :=
  checkedPacket { dst := p.src, src := s.node, domain := p.domain, cls := p.cls, seq := seq, xid := p.xid, op := op, payload := bs }

/-- A packet waits in the 4 MiB early store, or is answered NACK busy (R400). One that waits there is recorded, and a duplicate of it
receives an ACK (R397). -/
def State.holdEarly (s : State) (key : Nat) (p : Packet) : State :=
  match s.recv key with
  | none => s
  | some c =>
    if c.held.any (fun h => h.seq = p.seq) then s.sendAck key p
    else if s.earlyOpen c.part p.plen then s.updRecv key (fun c => { c with held := c.held ++ [p] })
    else s.sendNack p 3

/-- A read request is answered with RDDATA (R399). -/
def State.serveRead (s : State) (P : Nat) (p : Packet) : State × Bool :=
  let h := bodyNat p.payload 0 3
  let len := bodyNat p.payload 4 4
  let off := bodyNat p.payload 8 8
  let ph := bodyNat p.payload 24 2 * 64
  if !s.handleOk (.remote P) h off len false then (s.refuseAccess p P, false)
  else
    let r := s.remoteRead P h off len ph
    match r.2 with
    | none => (r.1.sendNack p 5, false)
    | some (bs, cs) =>
      let n := packetsFor (piecesFrom ph len).length
      let s := r.1.each (List.range n) (fun s k =>
        s.inject 4 (piecePacket ph bs k cs { dst := p.src, src := s.node, domain := p.domain, cls := p.cls, seq := k, xid := p.xid, op := 4 }))
      (s, true)

/-- The open write that a data packet belongs to, and its index there (R399). -/
def RecvCtx.writeOf (c : RecvCtx) (seq : Nat) : Option (WriteOpen × Nat) :=
  c.writes.findSome? (fun w =>
    let k := sub32 seq w.seq
    if 1 ≤ k ∧ k ≤ w.packets then some (w, k - 1) else none)

/-- A WRDESC opens a write (R399, R400). -/
def State.applyWrdesc (s : State) (key P : Nat) (p : Packet) : State :=
  let h := bodyNat p.payload 0 3
  let off := bodyNat p.payload 8 8
  let len := bodyNat p.payload 16 4
  if !s.handleOk (.remote P) h off len true then s.refuseAccess p P
  else
    let w : WriteOpen := { seq := p.seq, handle := h, offset := off, len := len, packets := bodyNat p.payload 4 4
                           notify := if natBit (bodyNat p.payload 3 1) 0 then some (bodyNat p.payload 20 1 % 64) else none
                           part := P, left := bodyNat p.payload 4 4 }
    (s.updRecv key (fun c => { c with writes := c.writes ++ [w] })).delivered key p

/-- A WRDATA writes its pieces (R399, R405, R648); the last one of its transaction raises the notify signal, and at a multicast
consumer is answered with MACK (R417). -/
def State.applyWrdata (s : State) (key P : Nat) (p : Packet) (w : WriteOpen) (k : Nat) : State :=
  let ps := piecesFrom w.offset w.len
  let two := ((ps[2 * k]?).toList ++ (ps[2 * k + 1]?).toList)
  let as := two.map (fun x => s.resolve (.remote P) w.handle (w.offset + x.1) x.2 true)
  if as.any Option.isNone then s.refuseAccess p P
  else
    let a0 := ((as[0]?).getD none).getD 0
    let n0 := ((two[0]?).map Prod.snd).getD 0
    let s := (s.tilePasses (frameOfDpa a0) 4).landPiece a0 (p.payload.take n0) p.check0
    let s := match as[1]? with
      | some (some a1) => (s.tilePasses (frameOfDpa a1) 4).landPiece a1 (p.payload.drop n0) p.check1
      | _ => s
    let last := decide (w.left ≤ 1)
    let s := s.updRecv key (fun c => { c with
      writes := (c.writes.map (fun x => if x.seq = w.seq then { x with left := x.left - 1 } else x)).filter (fun x => x.left ≠ 0)
      doneSeq := if last then some ((w.seq + w.packets) % 2 ^ 32) else c.doneSeq })
    let s := match w.notify with
      | some sig => s.cond last (fun s => s.signalRemote P sig)
      | none => s
    let s := s.delivered key p
    if p.mcast && last then (match s.recv key with | some c => s.sendMack p c.cum | none => s) else s

/-- An atomic operation is applied once, on 8 bytes of the handle, and its reply cached (R399, R402). -/
def State.applyAtomic (s : State) (key P : Nat) (p : Packet) : State :=
  let h := bodyNat p.payload 0 3
  let aop := bodyNat p.payload 3 1
  let off := bodyNat p.payload 8 8
  let x := bodyNat p.payload 16 8
  let y := bodyNat p.payload 24 8
  match s.resolve (.remote P) h off 8 true, s.resolve (.remote P) h off 8 false with
  | some a, some _ =>
    if aop = 0 ∨ 3 < aop ∨ off % 8 ≠ 0 then s.sendNack p 4
    else if !s.replyOpen P then s.sendNack p 3
    else
      let old := s.readNat a 8
      let s := s.tilePasses (frameOfDpa a) 4
      let s := match aop with
        | 1 => s.writeBytes a (leBytes 8 (old + x))
        | 2 => s.writeBytes a (leBytes 8 x)
        | _ => if old = x then s.writeBytes a (leBytes 8 y) else s
      (s.delivered key p).cacheReply key p (replyTo s p 6 p.seq (leBytes 8 old ++ leBytes 56 0))
  | _, _ => s.refuseAccess p P

/-- A doorbell sets a remote signal once, and its reply is cached (R398, R402, R546). -/
def State.applyDbell (s : State) (key P : Nat) (p : Packet) : State :=
  if !s.replyOpen P then s.sendNack p 3
  else
    let s := s.signalRemote P (bodyNat p.payload 3 1 % 64)
    (s.delivered key p).cacheReply key p (replyTo s p 8 p.seq [])

/-- A packet-mode collective tile (R448): its descriptor is the last 64 bytes of its payload. One that waits in staging is delivered when its
turn has come (R394), and has a reply-cache entry reserved (R402). -/
def State.applyContrib (s : State) (P : Nat) (p : Packet) : State :=
  let n := p.plen - 64
  let d := p.payload.drop n
  let bs := p.payload.take n
  let g := bodyNat d 0 1 % 8
  let q := s.leadOf ((s.partDies P).headD 0)
  let chunk := bodyNat d 4 4
  let ds := s.gang q
  let m := ds[chunk % max 1 ds.length]?.getD q
  let peer := ((List.range (s.grpK m g)).find? (fun j => s.grpPeer m g j = p.src)).getD 64
  let good := if n = 4096 then p.check0
    else if crc32c p.payload = p.check0.toNat then BitVec.ofNat 32 (crc32c bs) else ~~~ BitVec.ofNat 32 (crc32c bs)
  if !s.replyOpen P then s.sendNack p 3
  else
    let t : ClxTile := { member := m, group := g, peer := peer, down := natBit (bodyNat d 1 1) 0, number := bodyNat d 3 1
                         phase := bodyNat d 2 1, chunk := chunk, tile := bodyNat d 8 1, bytes := bs, check := good
                         reply := some { p with payload := [] } }
    let s := s.count (Reg.clxRxBytes m) (frameBytes p)
    let r := s.clxTakeTile q t
    match r.2 with
    | .refused => r.1.sendNack p 4
    | .failed => r.1.sendNack p 4
    | .busy => r.1.sendNack p 3
    | .held => r.1
    | .taken _ _ _ => r.1.clxSettle q 8

/-- Check 4 of R400 on a request that is to wait: its handle as its packet, or the open write that it belongs to, names it. -/
def State.heelAccess (s : State) (c : RecvCtx) (P : Nat) (p : Packet) : Bool :=
  let h := bodyNat p.payload 0 3
  let off := bodyNat p.payload 8 8
  match p.op with
  | 1 => s.handleOk (.remote P) h off (bodyNat p.payload 16 4) true
  | 2 => (match c.writeOf p.seq with | some (w, _) => s.handleOk (.remote P) w.handle w.offset w.len true | none => true)
  | 3 => s.handleOk (.remote P) h off (bodyNat p.payload 4 4) false
  | 5 => s.handleOk (.remote P) h off 8 true && s.handleOk (.remote P) h off 8 false
  | _ => true

/-- A request of an admitted flow is applied, or held while what comes before it is incomplete (R400, R404). Multicast carries only writes
(R417): another request is refused. -/
def State.applyRequest (s : State) (key P : Nat) (p : Packet) : State :=
  match s.recv key with
  | none => s
  | some c =>
    if p.mcast && decide (p.op ≠ 1 ∧ p.op ≠ 2) then s.sendNack p 4
    else if p.fence && decide ((c.cum + 1) % 2 ^ 32 ≠ p.seq) && !s.heelAccess c P p then s.refuseAccess p P
    else if p.fence && decide ((c.cum + 1) % 2 ^ 32 ≠ p.seq) then s.holdEarly key p
    else match p.op with
      | 1 => s.applyWrdesc key P p
      | 2 =>
        (match c.writeOf p.seq with
        | some (w, k) => s.applyWrdata key P p w k
        | none => s.holdEarly key p)
      | 3 => let r := s.serveRead P p; if r.2 then r.1.delivered key p else r.1
      | 5 => s.applyAtomic key P p
      | 7 => s.applyDbell key P p
      | _ => s.applyContrib P p

/-- A duplicate (R397, R402, R403, R417): its effect is not applied again. -/
def State.duplicate (s : State) (key P : Nat) (p : Packet) : State :=
  if p.op = 3 then (s.serveRead P p).1
  else if p.mcast then
    (match s.recv key with
    | some c => (match c.doneSeq with | some d => if seqLe p.seq d then s.sendMack p c.cum else s | none => s)
    | none => s)
  else
    match s.router.replies.find? (fun e => e.1 = key ∧ e.2.1 = p.seq) with
    | some e => s.inject 4 e.2.2
    | none => s.sendAck key p

/-- The protected domain register of the partition that a packet is for may be found not to match its complement (R643). -/
def State.checkDomain (s : State) (p : Packet) (bad : Bool) : State :=
  match s.domainPart p.domain with
  | some P => s.cond bad (fun s => s.mismatchAt (Reg.rtrDomain P))
  | none => s

/-- A request of an operation that has arrived goes through the checks of R400, and is applied or known as a duplicate. `bad`: the
mapping of its domain shows a complement mismatch at this use (R423, R643). -/
def State.arrivedRequest (s : State) (op : Nat) (bad : Bool) : State :=
  match s.takeArrived op with
  | none => s
  | some (p, s) =>
    let r := (s.checkDomain p bad).acceptPacket p
    match r.2 with
    | none => r.1
    | some (key, P) =>
      match r.1.recv key with
      | none => r.1
      | some c => if c.recorded p.seq then r.1.duplicate key P p else r.1.applyRequest key P p

/-- WRDESC (R399). -/
def execWrdesc (bad : Bool) (s : State) : Result := .next ({ s with answer := .none }.arrivedRequest 1 bad)
/-- WRDATA (R399). -/
def execWrdata (bad : Bool) (s : State) : Result := .next ({ s with answer := .none }.arrivedRequest 2 bad)
/-- RDREQ (R399). -/
def execRdreq (bad : Bool) (s : State) : Result := .next ({ s with answer := .none }.arrivedRequest 3 bad)
/-- ATOMIC (R402). -/
def execAtomic (bad : Bool) (s : State) : Result := .next ({ s with answer := .none }.arrivedRequest 5 bad)
/-- DBELL (R402). -/
def execDbell (bad : Bool) (s : State) : Result := .next ({ s with answer := .none }.arrivedRequest 7 bad)
/-- CONTRIB (R448). -/
def execContrib (bad : Bool) (s : State) : Result := .next ({ s with answer := .none }.arrivedRequest 9 bad)

/-- The key of the receive context of a source, a class and for multicast a final destination (R389, R417). -/
def flowKey (src : BitVec 20) (cls : Fin 8) (final : Option (BitVec 20)) : Nat :=
  src.toNat * 8 + cls + (match final with | some d => (d.toNat + 1) * 2 ^ 23 | none => 0)

/-- HEEL_APPLY (R404): the first held packet of a flow whose predecessors are delivered is applied. -/
def execHeelApply (src : BitVec 20) (cls : Fin 8) (final : Option (BitVec 20)) (s : State) : Result :=
  .next (
    let s := { s with answer := .none }
    let key := flowKey src cls final
    match s.recv key with
    | none => s
    | some c =>
      match c.held.find? (fun p => (!p.fence || (c.cum + 1) % 2 ^ 32 == p.seq) && (p.op ≠ 2 || (c.writeOf p.seq).isSome)) with
      | none => s
      | some p => (s.updRecv key (fun c => { c with held := c.held.erase p })).applyRequest key c.part p)

/-- ACK_TIMER (R394): 2 µs after the first unacknowledged delivery. -/
def execAckTimer (src : BitVec 20) (cls : Fin 8) (s : State) : Result :=
  .next (
    let s := { s with answer := .none }
    let key := src.toNat * 8 + cls
    match s.recv key with
    | some c => if 0 < c.unacked then s.sendAck key { src := src.toNat, cls := cls, domain := s.domainOf c.part } else s
    | none => s)

/-- Whether the receive context `key` may be reclaimed (R390): nothing outstanding, held or in the reply cache. -/
def State.recvRests (s : State) (key : Nat) : Bool :=
  match s.recv key with
  | some c => c.above.isEmpty && c.held.isEmpty && c.writes.isEmpty && c.unacked == 0 && !s.router.replies.any (fun e => e.1 == key)
  | none => false

/-- CONTEXT_RECLAIM (R390): a receive context idle for 1 s, with nothing outstanding, held or in the reply cache. DESIGN CHOICE: the command
names source and class, and takes the first of their contexts that rests, that of the unicast flow before those of multicast flows. -/
def execContextReclaim (src : BitVec 20) (cls : Fin 8) (s : State) : Result :=
  .next (
    let s := { s with answer := .none }
    match s.router.recvs.find? (fun e => e.1 % 2 ^ 23 == flowKey src cls none && s.recvRests e.1) with
    | some e => (s.updRouter (fun r => { r with recvs := r.recvs.set e.1 none, cache := r.cache.filter (· ≠ 2 * e.1 + 1) })).gauges
    | none => s)

/-- FLOWRESET (R392): the receive context is created or replaced, and the packet acknowledged. Held heels and early data of the flow
are discarded (R406). -/
def execFlowreset (s : State) : Result :=
  .next (s.onTaken 0x14 (fun p s =>
      match s.domainPart p.domain with
      | none => s.sendNack p 4
      | some P =>
        if s.router.resetting.contains P then s.sendNack p 1
        else
          let key := recvKey p
          match (if (s.recv key).isSome || s.homeOpen p.cls (s.recvHome P key) then s.touch P (2 * key + 1) else none) with
          | none => s.sendNack p 3
          | some s =>
            let c : RecvCtx := { cum := sub32 p.seq 1, part := P }
            let s := (s.updRouter (fun r => { r with
              recvs := r.recvs.set key (some c), replies := r.replies.filter (fun e => e.1 ≠ key) })).gauges
            if p.mcast then s.sendMack p c.cum else s.sendAck key p))

/-- RACK (R403): the flow's cached replies at or below its seq are freed. -/
def execRack (s : State) : Result :=
  .next (s.onArrived 0x13 (fun p s =>
      (s.updRouter (fun r => { r with replies := r.replies.filter (fun e => !(e.1 == recvKey p && seqLe e.2.1 p.seq)) })).gauges))

/-! ### What answers do at the source (R392 to R396, R399, R401, R408, R417) -/

/-- ACK (R394): packets up to its seq are complete; echoes enter the rate. In a flow being opened it acknowledges the FLOWRESET. -/
def execAck (s : State) : Result :=
  .next (s.onArrived 0x10 (fun p s =>
      let key := sendKey p.src p.cls
      let c := s.send key
      if (s.router.sends.get key).isNone then s
      else if c.phase = .opening then
        if (p.seq + 1) % 2 ^ 32 = c.resetSeq then s.updSend key (fun c => { c with phase := .opened, opener := none }) else s
      else
        let s := s.cond (decide (0 < p.xid)) (fun s => s.echoRate key)
        let s := s.updSend key (fun c =>
          let u := c.unacked.filter (fun x => !seqLe x.pkt.seq p.seq)
          { c with unacked := u, phase := if c.phase = .held ∧ !u.any (fun x => x.nack = 1) then .opened else c.phase })
        s.finishWrites key))

/-- The source's response to NACK no context (R408). -/
def State.noContext (s : State) (key : Nat) : State :=
  let c := s.send key
  let lost := fun (t : Txn) => c.unacked.any (fun u => (u.pkt.xid == t.xid || t.job.mcast.isSome) && u.nack == 0)
  let job := ((c.txns.map Txn.job) ++ c.queue).head?
  let s := s.failTxns key lost
  let c := s.send key
  let s := s.updSend key (fun c2 => { c2 with
    txns := c2.txns.map (fun t =>
      if t.job.op = 1 ∨ c.unacked.any (fun u => u.pkt.xid == t.xid) then { t with pkts := t.all } else t)
    unacked := [] })
  match job with
  | some j => s.openFlow key j
  | none => s.updSend key (fun c => { c with phase := .closed })

/-- NACK (R401). -/
def execNack (s : State) : Result :=
  .next (s.onArrived 0x11 (fun p s =>
      let key := sendKey p.src p.cls
      let c := s.send key
      let reason := bodyNat p.payload 0 1
      let mark := fun (s : State) => s.updSend key (fun c => { c with
        unacked := c.unacked.map (fun x => if x.pkt.seq = p.seq then { x with nack := reason } else x) })
      match c.phase, c.opener with
      | .opening, some u =>
        if u.pkt.seq ≠ p.seq then s
        else if reason = 4 ∨ reason = 5 then s.openFails key
        else s.updSend key (fun c => { c with opener := some { u with nack := reason } })
      | _, _ =>
        if !c.unacked.any (fun x => x.pkt.seq = p.seq) then s
        else match reason with
          | 1 => (mark s).updSend key (fun c => { c with phase := .held })
          | 2 => (mark s).noContext key
          | 3 => mark s
          | _ => s.failTxns key (fun t => t.xid = p.xid || t.job.mcast.isSome)))

/-- LOSS (R396): the named packet is sent again at once. -/
def execLoss (s : State) : Result :=
  .next (s.onArrived 0x12 (fun p s =>
      let key := sendKey p.src p.cls
      match (s.send key).unacked.find? (fun u => u.pkt.seq = p.seq) with
      | some u => s.resend key u
      | none => s))

/-- MACK (R417): a multicast transaction is complete when every expected hop value has answered; so is the opening of its flow. -/
def execMack (s : State) : Result :=
  .next (s.onArrived 0x15 (fun p s =>
      let key := sendKey p.src p.cls
      let c := s.send key
      let bit := 2 ^ (p.xid % 64)
      match c.phase with
      | .opening =>
        let expect := match (((c.txns.map Txn.job) ++ c.queue).head?).bind NetJob.mcast with | some (_, _, _, m) => m | none => 0
        s.updSend key (fun c =>
          let m := c.openMacks ||| bit
          if m &&& expect = expect then { c with openMacks := m, phase := .opened, opener := none } else { c with openMacks := m })
      | _ =>
        match c.txns.head? with
        | none => s
        | some t =>
          match t.job.mcast with
          | none => s
          | some (_, _, _, expect) =>
            let lastSeq := sub32 (t.firstSeq + t.all.length) 1
            let m := if t.pkts.isEmpty && seqLe lastSeq p.seq then t.macks ||| bit else t.macks
            if t.pkts.isEmpty && m &&& expect == expect then
              ((s.updSend key (fun c => { c with txns := c.txns.drop 1, unacked := [] })).jobDone key t.xid t.job true).gauges
            else s.updSend key (fun c => { c with txns := c.txns.map (fun x => if x.xid = t.xid then { x with macks := m } else x) })))

/-- The transaction that a reply answers. -/
def State.txnOf (s : State) (p : Packet) : Option Txn := (s.send (sendKey p.src p.cls)).txns.find? (fun t => t.xid = p.xid)

/-- A reply that arrives marked counts as an echo (R414). -/
def State.replyEcho (s : State) (p : Packet) : State := s.cond p.cmark (fun s => s.echoRate (sendKey p.src p.cls))

/-- RDDATA (R393): the bytes land in the space that the request reserved; the read is complete when every packet has come. A marked packet
counts as an echo whether or not its transaction is still open (R414). -/
def execRddata (s : State) : Result :=
  .next (s.onArrived 4 (fun p s =>
      let s := s.replyEcho p
      match s.txnOf p with
      | none => s
      | some t =>
        let key := sendKey p.src p.cls
        let ps := piecesFrom t.job.store t.job.len
        let k := p.seq
        if t.job.op ≠ 3 ∨ t.got.contains k ∨ packetsFor ps.length ≤ k then s
        else
          let x0 := (ps[2 * k]?).getD (0, 0)
          let x1 := (ps[2 * k + 1]?).getD (0, 0)
          let s := (match t.job.owner with
            | .dmx _ _ =>
              (s.landPiece (t.job.store + x0.1) (p.payload.take x0.2) p.check0).landPiece (t.job.store + x1.1) (p.payload.drop x0.2) p.check1
            | .seal slot => s.updRouter (fun r => { r with sealData := r.sealData ++ [(slot, t.job.store + x0.1, p.payload)] })
            | .firmware => s.updRouter (fun r => { r with replyArea := r.replyArea ++ [(key, t.xid, x0.1, p.payload)] })
            | .clx _ => s)
          let got := t.got ++ [k]
          let s := s.updSend key (fun c => { c with txns := c.txns.map (fun x => if x.xid = t.xid then { x with got := got } else x) })
          if got.length = packetsFor ps.length then s.replyDone key t (BitVec.ofNat 64 (bodyNat p.payload 0 8)) else s))

/-- ATOMRSP (R399): the old value reaches the requester. -/
def execAtomrsp (s : State) : Result :=
  .next (s.onArrived 6 (fun p s =>
      let s := s.replyEcho p
      match s.txnOf p with
      | some t => if t.job.op = 5 then s.replyDone (sendKey p.src p.cls) t (BitVec.ofNat 64 (bodyNat p.payload 0 8)) else s
      | none => s))

/-- DBACK (R398): a doorbell's transaction is complete. -/
def execDback (s : State) : Result :=
  .next (s.onArrived 8 (fun p s =>
      let s := s.replyEcho p
      match s.txnOf p with
      | some t => if t.job.op = 7 then s.replyDone (sendKey p.src p.cls) t 0 else s
      | none => s))

/-- CONTRIBRSP (R448): a tile's transaction is complete, and the sender's next expected chunk moves on. -/
def execContribrsp (s : State) : Result :=
  .next (s.onArrived 0xA (fun p s =>
      let s := s.replyEcho p
      match s.txnOf p with
      | none => s
      | some t =>
        match t.job.op, t.job.owner with
        | 9, .clx m =>
          let d := t.job.payload.drop (t.job.payload.length - 64)
          let g := bodyNat d 0 1 % 8
          let peer := ((List.range (s.grpK m g)).find? (fun j => s.grpPeer m g j = p.src)).getD 64
          let s := s.replyDone (sendKey p.src p.cls) t 0
          s.clxOnAck (s.leadOf m) m peer (natBit (bodyNat d 1 1) 0) p.payload
        | _, _ => s))

/-- CDOWN (R450): a circuit is down. -/
def execCdown (s : State) : Result :=
  .next (s.onArrived 0x18 (fun p s => s.clxDown p.xid))

end Sys2Proof.Machine
end

