-- ==== Sys2Proof/Machine/Views.lean ====
section
/-!
DEFINITION. What a BAR0 read returns (12_host_interface.md R493, R494, R496; 13_firmware_mailboxes.md R554): the function's shadow, with
the views of its partition's sequencer, collective engine, floor plan, clusters, stacks, frames, recorder window and orphan record
(R65, R157, R238, R295, R330, R458, R518, R665).
-/
namespace Sys2Proof.Machine

/-- The 32 bits of register space at a DPA; 0 where no register lies (R14). -/
def State.regWord (s : State) (a : Nat) : Nat :=
  match findReg a with
  | some (_, r, off) => natFld (s.rd r).toNat (8 * off) 32
  | none => 0

/-- The 32 bits at offset `off` of a list of bytes. -/
def wordAt (b : List Byte) (off : Nat) : Nat := leNat ((b.drop off).take 4)

/-- The stack of rank `r` of a partition: stack 3 e + t of R496 is stack t of the die of rank e. -/
def State.rankStack (s : State) (p r : Nat) : Option Nat := ((s.partDies p)[r / 3]?).map (fun d => 3 * d + r % 3)

/-- The physical cluster bound to virtual cluster `u` of a partition (R140). -/
def State.rankCluster (s : State) (p u : Nat) : Option Nat :=
  (((s.partDies p)[u / 15]?).filter (fun d => s.rdB (Reg.seqVbind d) 63)).map (fun d =>
    16 * d + s.rdF (Reg.seqVbind d) (4 * (u % 15) + 3) (4 * (u % 15)))

/-- 32 bits of a partition's view of the floor plan at HUB_ offset 0x0001_0000 + `o` (R65, R496): entries outside the partition, and every
port, read 0. -/
def State.floorView (s : State) (p o : Nat) : Nat :=
  let shown :=
    if 0x100 ≤ o ∧ o < 0x300 then s.dieIn p ((o - 0x100) / 8 / 16)
    else if 0x400 ≤ o ∧ o < 0x460 then s.ownsStack p ((o - 0x400) / 8)
    else !(decide (0x500 ≤ o ∧ o < 0x540))
  if shown then s.regWord (Blk.hub + 0x10000 + o) else 0

/-- 32 bits of the views that a virtual function of partition `p` has of its partition, at BAR0 offset `off` (R496). -/
def State.partView (s : State) (h f p off : Nat) : Nat :=
  let lead := Blk.seq + s.leadOf ((s.partDies p).headD p) * 0x1000000
  let stack := s.rankStack p (s.rdF (Reg.hifEmuStkSel h f) 31 0)
  if off < 0x2000 then s.regWord (lead + (off - 0x1000))
  else if off < 0x3000 then s.regWord (lead + 0x1000 + (off - 0x2000))
  else if off < 0x4000 then s.floorView p (off - 0x3000)
  else if off < 0x5800 then
    match s.rankCluster p (s.rdF (Reg.hifEmuVcluSel h f) 31 0) with
    | some c => s.regWord (Blk.clu + 0x100000 * c + (off - 0x4000))
    | none => 0
  else if off < 0x8000 then
    if 0x7F00 ≤ off then s.regWord (Reg.hubPartFrames p + (off - 0x7F00))
    else match stack with
      | some n =>
        if 0x7000 ≤ off then s.regWord (Reg.stkBeStatus n + (off - 0x7000))
        else if off < 0x6004 ∨ (0x6100 ≤ off ∧ (off - 0x6100) % 0x20 < 4) then s.regWord (Reg.stkStatus n + (off - 0x6000))
        else 0
      | none => 0
  else 0

/-- 32 bits of what function `f` of port `h` reads at BAR0 offset `off` (R496, R554): the shadow register, with the fields that
hardware keeps laid over it, the recorder window at its reader's cursor, the orphan record, or a view of its partition, which is 0 for
PF0. -/
def State.shadowWord (s : State) (h f off : Nat) : Nat :=
  if off = 0 then (s.rd Reg.hubId).toNat % 2 ^ 32
  else if off = 0x80 then
    let w := setBit (setFld (s.rd (Reg.hifEmuStatus h f)) 31 16 (s.rdF (Reg.hifFnDone h f) 15 0)) 3 (s.rdB (Reg.hifCapCtrl h) (8 + f))
    w.toNat % 2 ^ 32
  else if off = 0x84 then s.rdF (Reg.hifFnLast h f) 31 0
  else if 0x8000 ≤ off ∧ off < 0x8100 then
    let seen := if f = 0 then s.rcd.ring else match s.fnPart h f with | some p => s.rcd.visibleTo p | none => []
    wordAt (windowBytes (s.rcd.window seen (s.rdF (Reg.hifEmuRecCursor h f) 31 0))) (off - 0x8000)
  else if 0xC000 ≤ off ∧ off < 0xC040 then wordAt (s.orphanBytes h f) (off - 0xC000)
  else if off < 0x1000 ∨ off = 0x4000 ∨ off = 0x5FF8 then s.regWord (shadow h f off)
  else match s.fnPart h f with
    | some p => s.partView h f p off
    | none => 0

/-- What a read of `n` bytes at BAR0 offset `off` returns. -/
def State.shadowRead (s : State) (h f off n : Nat) : W64 :=
  BitVec.ofNat 64 (s.shadowWord h f off + (if n = 8 then s.shadowWord h f (off + 4) * 2 ^ 32 else 0))

/-- A BAR0 read of a present function (R493, R494): its shadow's bytes, and for a bad alignment or an RSV offset a Completer Abort with
event 0x901. -/
def State.bar0Read (s : State) (h f off : Nat) (wide : Bool) : State :=
  let s := { s with answer := .none }
  if !s.fnPresent h f then s
  else if !bar0Ok f off wide then { s.hostError h f .bar0Read off with answer := .abort }
  else { s with answer := .data (s.shadowRead h f off (if wide then 8 else 4)) }

/-- The port, the function and the BAR0 offset that a DPA of a shadow stands for (R550). -/
def shadowPlace (a : Nat) : Option (Nat × Nat × Nat) :=
  if shadow 0 0 0 ≤ a ∧ a < shadow 0 5 0 then some (0, (a - shadow 0 0 0) / 0x10000, (a - shadow 0 0 0) % 0x10000)
  else if shadow 1 0 0 ≤ a ∧ a < shadow 1 5 0 then some (1, (a - shadow 1 0 0) / 0x10000, (a - shadow 1 0 0) % 0x10000)
  else none

end Sys2Proof.Machine
end

