-- ==== Sys2Proof/Machine/Registers.lean ====
section
/-!
DEFINITION. Access to registers by DPA: reads, writes with the effect that each register's rule gives a write, and the complement
protocol (00_scope.md R14 to R22, R500, R512; 15_bringup_reset_power.md R627, R637; 16_integrity_faults_recorder.md R643 to R645).
-/
namespace Sys2Proof.Machine

/-! ### Reads (R14, R15, R17) -/

/-- Whether DPA `a` lies in the `n` registers of 8 bytes from `lo` on. -/
def inRegs (a lo n : Nat) : Bool := decide (lo ≤ a ∧ a < lo + 8 * n)

/-- Word `i` of a block of bytes. -/
def wordOf (b : List Byte) (i : Nat) : W64 := BitVec.ofNat 64 (bodyNat b (8 * i) 8)

/-- The bits of a register that an access code names. -/
def RegDef.mask (d : RegDef) (p : Acc → Bool) : W64 :=
  (d.flds.filter (fun f => p f.acc)).foldl (fun w f => w ||| fldMask f.hi f.lo) 0

/-- The value that a read of the register at `a` returns to an agent: those that the device computes, and every other as it stands with
its write-only fields 0. A breadbox's data are its receiver's and its permitted senders' to read (R536; DESIGN CHOICE: any other
reader gets 0). A window instance of the recorder is its reader's alone (R668). -/
def State.readValue (s : State) (ag : Agent) (d : RegDef) (a : Nat) : W64 :=
  if inRegs a (Reg.secNonce 0) 8 then s.nonceWord ((a - Reg.secNonce 0) / 8)
  else if inRegs a (Reg.secFuseMap 0) 32 then wordOf s.fuses.image ((a - Reg.secFuseMap 0) / 8)
  else if a = Reg.recStatus then s.recStatus s.config.record.ownerEnrolled
  else if a = Reg.hubFmHoldOpen then BitVec.ofNat 64 s.heldOpen
  else if inBoxes a (Reg.bbxData 0 0) 0x40 && !boxReads ((a - Reg.bbxData 0 0) / 0x100) ag.num then 0
  else if a = Reg.recOldest then s.recOldest
  else if a = Reg.recOptime then s.recOptime
  else if Reg.recCursor 0 ≤ a ∧ a < Reg.recCursor 0 + 6 * 0x200 then
    let w := (a - Reg.recCursor 0) / 0x200
    if readerWindow ag ≠ some w then 0
    else if a % 0x200 < 0x100 then s.rd a
    else wordOf (windowBytes (s.rcd.window s.rcd.ring (s.rdF (Reg.recCursor w) 31 0))) ((a - Reg.recWin w 0) / 8)
  else s.rd a &&& ~~~ d.mask (fun x => x == .wo)

/-- A served read of `width` bytes at byte offset `off` of the register at `a`, whose companion follows it (R17): its value, and the
state with the read-clear fields that it reaches cleared (R15). -/
def State.regRead (s : State) (ag : Agent) (d : RegDef) (a off width : Nat) : State × W64 :=
  let n := d.width / 8
  let v := s.readValue ag d a
  let w := if n ≤ off then ~~~ v else v
  let o := off % n
  let out := (w >>> (8 * o)) &&& fldMask (8 * width - 1) 0
  let hit := d.mask (fun x => x == .rc) &&& accessMask o width
  (if off < n then s.wr a (s.rd a &&& ~~~ hit) else s, out)

/-- A read of CSR space by an agent that is served. A peel is read with its effect (R540), a header with its check (R543), and a shadow as its function sees it (R554). -/
def State.csrRead (s : State) (ag : Agent) (a width : Nat) : State :=
  match shadowPlace a, findReg a with
  | some (h, f, off), _ => { s with answer := .data (s.shadowRead h f off width) }
  | none, none => { s with answer := .data 0 }
  | none, some (d, r, off) =>
    if Reg.bbxLock 0 ≤ r ∧ r ≤ Reg.bbxLock 63 ∧ (r - Reg.bbxLock 0) % 0x100 = 0 then
      let b := (r - Reg.bbxLock 0) / 0x100
      if !boxShared b then { s with answer := .data 0 }
      else
        let s := s.cond (s.boxOwner b == 0) (fun s => s.wrF (Reg.bbxStatus b) 15 8 ag.num)
        { s with answer := .data (if s.boxOwner b = ag.num then 0 else BitVec.ofNat 64 (s.boxOwner b)) }
    else
      let s := s.cond (inBoxes r (Reg.bbxHdr 0) 8) (fun s => s.hdrRead ((r - Reg.bbxHdr 0) / 0x100) ag.num)
      let x := s.regRead ag d r off width
      { x.1 with answer := .data x.2 }

/-! ### Memory by DPA (R19, R20, R199, R280) -/

/-- How the device takes an access of an agent at a DPA of stack memory (R19, R20): a firmware core's is served unless the
pseudo-channel is retired (R280), and answers without an event while the stack does not serve; a host function owns no DPA. -/
def State.stackPath (s : State) (ag : Agent) (a width : Nat) : CsrPath :=
  if !ag.isFirmware ∨ (width ≠ 4 ∧ width ≠ 8) ∨ a % width ≠ 0 then .error
  else if !s.stackServes (a / 0x1000000000) then .silent
  else if s.pcRetired a then .error else .served

/-- Whether firmware reaches the stores of physical cluster `c` (R199): its partition is idle, loaded, ended, faulted or switched out, or
frozen with cause 9 or 10. A cluster of a die in no partition is in none of these states, and is reached. -/
def State.storeOpen (s : State) (c : Nat) : Bool :=
  let q := s.leadOf (c / 16)
  let st := s.seqState q
  !s.rdB Reg.secPartMap (8 + c / 16) || st == 0 || st == 1 || st == 6 || st == 7 || st == 8
    || (st == 3 && (s.rdF (Reg.seqStatus q) 7 4 == 9 || s.rdF (Reg.seqStatus q) 7 4 == 10))

/-- How the device takes an access at a DPA of the SRAM aperture (R19, R20, R199): the SCH reaches every store and a CCC those of its
cluster, while `storeOpen` holds. -/
def State.storePath (s : State) (ag : Agent) (a width : Nat) : CsrPath :=
  let c := (a - clusterStore 0) / 0x2000000
  if 0x1800000 ≤ (a - clusterStore 0) % 0x2000000 ∨ (width ≠ 4 ∧ width ≠ 8) ∨ a % width ≠ 0 then .error
  else if !s.domOn (clusterDomain c) then .silent
  else if s.clusterOut c then .error
  else if !(match ag with | .sch => true | .ccc m => m.val == c | _ => false) then .error
  else if s.storeOpen c then .served else .error

/-- A served access to stack memory or to a store: a read checks and corrects what it reads (R208, R243), a write is a partial write of
its tile (R205). -/
def State.memServe (s : State) (a width : Nat) (data : Option W64) : State :=
  match data with
  | some v => s.writeBytes a (leBytes width v.toNat)
  | none =>
    let s := if clusterStore 0 ≤ a then s.scrubStore a width else s.readLine false (a / 64)
    if s.tileDead (a / 4096) then { s with answer := .failing (s.readBytes a width) }
    else { s with answer := .data (BitVec.ofNat 64 (s.readNat a width)) }

/-- An access to a host window (R19): the manual gives the range and nothing more. A read answers a free value; a write leaves the device
as it is. -/
def State.hostWindow (s : State) (data : Option W64) : State :=
  match data with
  | some _ => s
  | none => let (v, s) := s.draw; { s with answer := .data v }

/-- An access of `width` bytes at any DPA (R19, R20): stack memory, the SRAM aperture, the host windows of firmware, and CSR space. -/
def State.dpaAccess (s : State) (ag : Agent) (a width : Nat) (data : Option W64) (f : State → State) : State :=
  let go := fun (p : CsrPath) => match p with
    | .served => ({ s with answer := .none } : State).memServe a width data
    | .error => s.addressError ag a data.isSome
    | .silent => { s with answer := .addressError }
  if a < frameDpa 12 0 then go (s.stackPath ag a width)
  else if clusterStore 0 ≤ a ∧ a < clusterStore 64 then go (s.storePath ag a width)
  else if 0x030000000000 ≤ a ∧ a < 0x040000000000 ∧ ag.isFirmware then ({ s with answer := .none } : State).hostWindow data
  else s.csrAccess ag a width data.isSome f

/-- RC_READ (R15): a read of a register by an agent; its read-clear fields are cleared. A host function's read of its own shadow is its
BAR0 read (R493), and a read of another range of the DPA map is served there (R19). -/
def execRcRead (ag : Agent) (a : BitVec 48) (wide : Bool) (s : State) : Result :=
  let n := if wide then 8 else 4
  .next (match ag, shadowPlace a.toNat with
    | .host h f, some (i, g, off) =>
      if h.val = i ∧ f.val = g then s.bar0Read i g off wide
      else s.csrAccess ag a.toNat n false (fun s => s.csrRead ag a.toNat n)
    | _, _ => s.dpaAccess ag a.toNat n none (fun s => s.csrRead ag a.toNat n))

/-! ### Writes with an effect of their own -/

/-- Index of the instance at `a` of a family of registers with one stride. -/
def instOf (a base stride : Nat) : Nat := (a - base) / stride

/-- A write to SEQ_CTRL (R153): only the lead's has an effect. -/
def State.writeSeqCtrl (s : State) (q : Nat) (w : W64) : State :=
  if s.leadOf q ≠ q then s
  else
    let s := setHold q (bitOf w 1) s
    let s := s.cond (bitOf w 2) (abortRecipe q)
    s.cond (bitOf w 0) (startRecipe q)

/-- A write to PRT_CTRL (R357 to R359, R368): the PMC writes quiet_req alone (R367). -/
def State.writePrtCtrl (s : State) (ag : Agent) (p : Nat) (w : W64) : State :=
  let a := Reg.prtCtrl p
  let old := s.rd a
  let s := s.cond (ag != .pmc) (fun s =>
    (s.wrF a 2 1 (fld w 2 1)).wrB a 0 (bitOf w 0 && (bitOf old 0 || !(s.port p).barred)))
  let s := s.cond (bitOf w 3 != bitOf old 3) (fun s =>
    let s := s.wrB a 3 (bitOf w 3)
    if bitOf w 3 then s.askQuiet p else s.askWake p)
  let s := s.cond (ag != .pmc && bitOf w 4 && !bitOf w 5 && s.portUp p) (fun s =>
    ((s.wrB a 4 true).updPort p (fun k => { k with downRuns := true })).startRetrain p 3)
  let s := s.cond (ag != .pmc && bitOf w 6) (fun s => s.wrB a 6 true)
  s.cond (ag != .pmc && bitOf w 5) (fun s => s.portReset p (bitOf w 6))

/-- The breadboxes that an agent may send to, as bits (R534, R537). -/
def sendMask (a : Nat) : Nat := ((List.range 64).filter (fun b => boxPermits b a)).foldl (fun m b => m + 2 ^ b) 0

/-- A write in the BBX_ block (R536 to R540): data, send, status and lock of a breadbox, and the wait mask of an agent. -/
def State.writeBbx (s : State) (ag : Agent) (a : Nat) (w : W64) : State :=
  if 0x4000 ≤ a - Blk.bbx then
    let n := instOf a (Reg.bbxWait 0) 8
    if Reg.bbxWait 0 ≤ a ∧ a < Reg.bbxWait 256 ∧ n = ag.num then s.wr a (w &&& BitVec.ofNat 64 (sendMask n)) else s
  else
    let b := (a - Blk.bbx) / 0x100
    let o := (a - Blk.bbx) % 0x100
    let refuse := s.event 0x808 .none b (agent := ag.num)
    if o < 0x40 then (if s.boxOpenTo b ag.num then s.wr a w else refuse)
    else if o = 0x50 then
      if !bitOf w 0 then s
      else if s.boxOpenTo b ag.num && decide (fld w 5 1 ≤ 16) then s.boxFill b ag.num (fld w 5 1) (fld w 31 16)
      else refuse
    else if o = 0x54 then
      if ag.num ≠ boxReceiver b ∨ !bitOf w 0 then s
      else if s.boxGo b then s.boxEmpty b
      else s.wrF a 2 1 0
    else if o = 0x58 then
      s.cond (boxShared b && s.boxOwner b == ag.num && fld w 7 0 == 0) (fun s => s.wrF (Reg.bbxStatus b) 15 8 0)
    else s

/-- A write in the CLU_ block (R234, R325, R555): counters, and code memory while the CCC is off or stopped. -/
def State.writeClu (s : State) (ag : Agent) (a : Nat) (w : W64) : State :=
  let c := (a - Blk.clu) / 0x100000
  let st := s.rdF (Reg.cluCccStatus c) 2 0
  if a = Reg.cluCntCtrl c then s.cond (bitOf w 0) (fun s => s.clearClusterCounters c)
  else if Reg.cluCccCode c 0 ≤ a then (if st = 0 ∨ st = 4 then s.wr a w else s.refuseWrite ag)
  else s.wr a w

/-- A write in the CLX part of the SEQ_ block (R432, R458). -/
def State.writeClx (s : State) (ag : Agent) (a : Nat) (w : W64) : State :=
  let m := (a - Blk.seq) / 0x1000000
  if Reg.clxProgram m 0 0 ≤ a ∧ a < Reg.clxProgram m 1024 0 then
    if s.rdF (Reg.clxStatus m) 1 0 = 1 ∧ s.rdF (Reg.clxStatus m) 16 8 = 0 then s.wr a w else s.refuseWrite ag
  else if Reg.clxGroupW0 m 0 ≤ a ∧ a < Reg.clxGroupW0 m 8 then s.fabGroupWrite m (instOf a (Reg.clxGroupW0 m 0) 0x140) a w
  else s.wr a w

/-- A write of `width` bytes with value `v` at byte offset `off` of a register that is not complement-protected: by its access code
(R14), or with the effect of its own rule; `v` holds the written bytes in place. -/
def State.regWrite (s : State) (ag : Agent) (d : RegDef) (a off width : Nat) (v : W64) : State :=
  let m := accessMask off width
  let old := s.rd a
  let w := d.write old v m
  if !d.mayWrite ag then s.refuseWrite ag
  else if a = Reg.hubPortPlanNext then
    let s := s.wr a w
    { s with config := s.config.store (fun r => { r with plan := w }) }
  else if Blk.bbx ≤ a ∧ a < Blk.bbx + 0x10000 then s.writeBbx ag a (if d.name = "BBX_WAIT" then w else v)
  else if Reg.recCursor 0 ≤ a ∧ a < Reg.recCursor 0 + 6 * 0x200 then
    s.cond (readerWindow ag == some ((a - Reg.recCursor 0) / 0x200)) (fun s => s.wr a w)
  else if a = Reg.pmcReset then
    let t := fld w 2 0
    let s := s.wr a w
    if bitOf w 31 && (t == 0 || decide (5 < t)) then (s.wrB a 31 false).wrB a 30 true else s
  else if a = Reg.pmcStateReq then
    let s := s.wr a w
    if bitOf w 2 && decide (1 < fld w 1 0) then ((s.wrB a 2 false).wrB Reg.pmcState 5 true).wrB Reg.pmcAlert 1 true else s
  else if a = Reg.rtrRtEpoch then (s.setBank (fld w 0 0)).wr a (setFld w 31 16 ((s.setBank (fld w 0 0)).rdF a 31 16))
  else if a = Reg.rtrNode then s.setNode (fld w 19 0) (bitOf w 63)
  else if Reg.rtrCircuit 0 0 ≤ a ∧ a < Reg.rtrCircuit 17 0 then
    s.setCircuit ((a - Reg.rtrCircuit 0 0) / 0x8000) ((a - Reg.rtrCircuit 0 0) % 0x8000 / 8) w
  else if Reg.rtrShare 0 0 ≤ a ∧ a < Reg.rtrShare 16 0 then
    s.setShare ((a - Reg.rtrShare 0 0) / 0x200) ((a - Reg.rtrShare 0 0) % 0x200 / 8) w
  else if Blk.prt ≤ a ∧ a < Blk.prt + 0x100000 ∧ a = Reg.prtCtrl ((a - Blk.prt) / 0x10000) then
    s.writePrtCtrl ag ((a - Blk.prt) / 0x10000) ((old &&& ~~~ m &&& fldMask 3 0) ||| (v &&& m))
  else if a = Reg.hifCapCons 0 ∨ a = Reg.hifCapCons 1 then
    let h := (a - Reg.hifCapCons 0) / 0x100000
    let c := s.rdF a 31 0
    let p := s.rdF (Reg.hifCapProd h) 31 0
    if sub32 p c < sub32 (fld w 31 0) c then s.refuseWrite ag else s.passTo h (fld w 31 0)
  else if Blk.seq ≤ a ∧ a < Blk.seq + 0x4000000 then
    let q := (a - Blk.seq) / 0x1000000
    if a = Reg.seqCtrl q then s.writeSeqCtrl q ((old &&& ~~~ m &&& fldMask 1 1) ||| (v &&& m))
    else if a = Reg.seqVbind q then (if s.bindingLocked q then s.refuseWrite ag else s.wr a (w &&& ~~~ fldMask 62 60))
    else s.writeClx ag a w
  else if Blk.clu ≤ a ∧ a < Blk.clu + 0x4000000 then s.writeClu ag a w
  else if Blk.stk ≤ a ∧ a < Blk.stk + 0xC000000 then
    let n := (a - Blk.stk) / 0x1000000
    if Reg.stkBeCode n 0 ≤ a then
      let st := s.rd (Reg.stkBeStatus n)
      if fld st 2 0 = 1 ∧ fld st 16 8 = 0 then s.wr a w else s.refuseWrite ag
    else s.wr a w
  else s.wr a w

/-! ### Complement-protected registers (R17, R645) -/

/-- Whether a partition map is valid (R576). -/
def mapValid (v : W64) : Bool :=
  (List.range 4).all (fun p => !bitOf v (16 + p) || (bitOf v (8 + p) && fld v (2 * p + 1) (2 * p) == p))
    && (List.range 4).all (fun d => !bitOf v (8 + d) || (decide (fld v (2 * d + 1) (2 * d) ≤ d) && bitOf v (16 + fld v (2 * d + 1) (2 * d))))

/-- The job-domain mapping of a partition with its fields of SEC_PART_STATE (R423, R577). -/
def State.setDomain (s : State) (p : Nat) (v : W64) : State :=
  let s := s.cpCommit (Reg.rtrDomain p) v
  (s.wrB (Reg.secPartState p) 3 (bitOf v 31)).wrF (Reg.secPartState p) 15 4 (if bitOf v 31 then fld v 11 0 else 0)

/-- A completed PMC_LIMIT (R627): a value out of range is discarded, a valid one takes effect at the next tick; both record 0x104. -/
def State.limitDone (s : State) (v : W64) : State :=
  let w := fld v 31 0
  let bad := decide (w < 800 ∨ 1500 < w)
  let s := s.event 0x104 .none (w + b2n bad * 2 ^ 32 + s.rdF Reg.pmcLimit 10 0 * 2 ^ 48)
  if bad then s else { s with pwr := { s.pwr with limitNext := some w } }

/-- Whether a DPA is that of an entry of the active routing bank, to which no write has an effect (R377). -/
def State.activeRoute (s : State) (a : Nat) : Bool :=
  decide (Reg.rtrRoute 0 0 ≤ a ∧ a < Reg.rtrRoute 2 0 ∧ (a - Reg.rtrRoute 0 0) / 0x200000 = s.rdF Reg.rtrRtEpoch 0 0)

/-- What a completed value of a protected register does. DESIGN CHOICE: a valid job domain 0, which R423 does not allow, is refused. -/
def State.cpDone (s : State) (ag : Agent) (d : RegDef) (a : Nat) (v : W64) : State :=
  let w := v &&& d.mask (fun _ => true)
  if a = Reg.pmcLimit then s.limitDone v
  else if a = Reg.secPartMap then (if mapValid w then { s.cpCommit a w with sec := { s.sec with map := w } } else s.refuseWrite ag)
  else if Reg.hubDescW0 0 ≤ a ∧ a < Reg.hubDescW0 65536 then
    let x := (a - Reg.hubDescW0 0) / 64
    let j := (a - Reg.hubDescW0 0) % 64 / 16
    if s.descWriteOk x j w then s.cpCommit a w else s.refuseWrite ag
  else if Reg.rtrRoute 0 0 ≤ a ∧ a < Reg.rtrRoute 2 0 then
    if s.activeRoute a then s.event 0x501 else s.cpCommit a w
  else if Reg.rtrDomain 0 ≤ a ∧ a ≤ Reg.rtrDomain 3 then
    (if bitOf w 31 && fld w 11 0 == 0 then s.refuseWrite ag else s.setDomain (instOf a (Reg.rtrDomain 0) 8) w)
  else if Reg.secKslot 0 ≤ a ∧ a ≤ Reg.secKslot 15 then s.setSlot (instOf a (Reg.secKslot 0) 16) w
  else s.cpCommit a w

/-- A served write in CSR space: offsets that no register occupies are RSV; a protected register takes a pending value from an agent that
may write it, a companion write of any agent is judged (R17); any other register is written. -/
def State.csrWrite (s : State) (ag : Agent) (a width : Nat) (v : W64) : State :=
  match findReg a with
  | none => s
  | some (d, r, off) =>
    if !d.cp then s.regWrite ag d r off width (v <<< (8 * off))
    else if d.width / 8 ≤ off then
      s.cpCompanion ag r (d.width / 8) (off - d.width / 8) width v (fun s w => s.cpDone ag d r w)
    else if !d.mayWrite ag then s.refuseWrite ag
    else if s.activeRoute r then s.event 0x501
    else if d.flds.all (fun f => f.acc == .ro) then s
    else s.cpWrite ag r off width v

/-- Whether an access reaches a protected register: its own part, or its companion. -/
def cpPart (a : Nat) : Option Bool :=
  match findReg a with
  | some (d, _, off) => if d.cp then some (decide (d.width / 8 ≤ off)) else none
  | none => none

/-- REGISTER_WRITE (R14, R19, R20): a write by an agent to a register that is not complement-protected, or to an address with no register:
of CSR space, of stack memory, of a store or of a host window. -/
def execRegisterWrite (ag : Agent) (a : BitVec 48) (wide : Bool) (v : W64) (s : State) : Result :=
  let n := if wide then 8 else 4
  .next (s.dpaAccess ag a.toNat n (some v) (fun s =>
    if cpPart a.toNat = none then s.csrWrite ag a.toNat n (v &&& fldMask (8 * n - 1) 0) else s))

/-- CP_REGISTER_WRITE (R17): a write to a protected register places a pending value. -/
def execCpRegisterWrite (ag : Agent) (a : BitVec 48) (wide : Bool) (v : W64) (s : State) : Result :=
  let n := if wide then 8 else 4
  .next (s.csrAccess ag a.toNat n true (fun s =>
    if cpPart a.toNat = some false then s.csrWrite ag a.toNat n (v &&& fldMask (8 * n - 1) 0) else s))

/-- CP_COMPANION_WRITE (R17, R645). -/
def execCpCompanionWrite (ag : Agent) (a : BitVec 48) (wide : Bool) (v : W64) (s : State) : Result :=
  let n := if wide then 8 else 4
  .next (s.csrAccess ag a.toNat n true (fun s =>
    if cpPart a.toNat = some true then s.csrWrite ag a.toNat n (v &&& fldMask (8 * n - 1) 0) else s))

/-- COMPLEMENT_REWRITE (R255, R378, R576, R643, R644): the owner of an unusable value rewrites the pair from its own copy, which must be
good; a key slot and a breadbox header have no owner that rewrites them. The map comes from the SEC's copy. -/
def execComplementRewrite (a : BitVec 48) (own : Bool) (s : State) : Result :=
  .next (
    let a := a.toNat
    let s := { s with answer := .none }
    let lost := (Reg.secKslot 0 ≤ a && a ≤ Reg.secKslot 15) || (Blk.bbx ≤ a && a < Blk.bbx + 0x10000)
    if s.cpOk a || !own || lost then s
    else s.cpCommit a (if a = Reg.secPartMap then s.sec.map else s.rd a))

/-! ### BAR4 (R512, R647, R650) -/

/-- A failed BAR4 access: a read completes with Completer Abort, a write is discarded, and both record 0x901. -/
def State.bar4Fail (s : State) (h f : Nat) (write : Bool) (off : Nat) : State :=
  let s := s.hostError h f (if write then .bar4Write else .bar4Read) off
  { s with answer := if write then .none else .abort }

/-- A BAR4 access through a window on a handle: a read, or a write of bytes. -/
def State.bar4Handle (s : State) (h f off hd b n : Nat) (data : Option (List Byte)) : State :=
  match s.fnPart h f, data with
  | none, _ => s.bar4Fail h f data.isSome off
  | some p, some bs => if s.hubOk (.host p) hd b bs.length true then s.hubWrite hd b bs else s.bar4Fail h f true off
  | some p, none =>
    if !s.hubOk (.host p) hd b n false then s.bar4Fail h f false off
    else
      let r := s.hubRead hd b n
      match r.2 with
      | some (bs, none) => { r.1 with answer := .bytes bs }
      | some (_, some bad) => (r.1.checkFailedHandle 7 hd bad (some p)).bar4Fail h f false off
      | none => r.1.bar4Fail h f false off

/-- A BAR4 access through a window on CSR space. An access to a block whose domain is off records nothing (R22). -/
def State.bar4Csr (s : State) (h : Fin 2) (off a n : Nat) (data : Option (List Byte)) : State :=
  match s.csrPath (.host h 0) a n with
  | .served => (match data with
    | some bs => s.csrWrite (.host h 0) a n (BitVec.ofNat 64 (leNat bs))
    | none => s.csrRead (.host h 0) a n)
  | .error => s.bar4Fail h 0 data.isSome off
  | .silent => { s with answer := if data.isSome then .none else .abort }

/-- BAR4_ACCESS (R500, R512): a read of `n` bytes, or a write of bytes, at offset `off` of a function's BAR4. -/
def execBar4Access (h : Fin 2) (f : Fin 5) (off : BitVec 36) (n : Nat) (data : Option (List Byte)) (ecc : List MemUpset) (s : State) :
    Result :=
  .next (
    let s := { s.upset ecc with answer := .none }
    let o := off.toNat
    let w := o / 2 ^ 31
    let n := match data with | some bs => bs.length | none => n
    let win := s.rd (Reg.hifEmuWin h f w)
    let b := fld win 63 32 * 0x200000 + o % 2 ^ 31
    if !s.fnPresent h f then s
    else if s.rdF (Reg.hifEmuWinStat h f w) 1 0 ≠ 1 ∨ !(if data.isSome then bitOf win 27 else bitOf win 26) then
      s.bar4Fail h f data.isSome o
    else if fld win 25 24 = 1 then s.bar4Handle h f o (fld win 23 0) b n data
    else s.bar4Csr h o (Blk.hub + b) n data)

end Sys2Proof.Machine
end

