-- ==== Sys2Proof/Machine/Fabric.lean ====
section
/-!
DEFINITION. The fabric agent: management messages, their sending and their answers, and the election (11_fabric_management.md R460 to
R467, R472, R473, R477, R478).
-/
namespace Sys2Proof.Machine

/-! ### Registers of the manager (R461) -/

/-- HUB_FM_STATUS.role: 0 agent only, 1 candidate, 2 standby, 3 primary. -/
def State.role (s : State) : Nat := s.rdF Reg.hubFmStatus 1 0

/-- The role changes. -/
def State.setRole (s : State) (r : Nat) : State := s.wrF Reg.hubFmStatus 1 0 r

/-- The highest term seen. -/
def State.fmTerm (s : State) : Nat := (s.rd Reg.hubFmTerm).toNat

/-- Whether a primary, or a standby, is known. -/
def State.primaryKnown (s : State) : Bool := s.rdB Reg.hubFmPeers 62
@[inherit_doc State.primaryKnown]
def State.standbyKnown (s : State) : Bool := s.rdB Reg.hubFmPeers 63

/-- A primary's node becomes known. -/
def State.setPrimary (s : State) (n : Nat) : State := (s.wrF Reg.hubFmPeers 19 0 n).wrB Reg.hubFmPeers 62 true

/-- The standby's node, or that there is none. -/
def State.setStandby (s : State) (n : Option Nat) : State :=
  match n with
  | some n => (s.wrF Reg.hubFmPeers 51 32 n).wrB Reg.hubFmPeers 63 true
  | none => (s.wrF Reg.hubFmPeers 51 32 0xFFFFF).wrB Reg.hubFmPeers 63 false

/-! ### Sending (R375, R463) -/

/-- The packet of a management message. -/
def State.mgmtPacket (s : State) (dst : Nat) (m : Mgmt) : Packet :=
  let bs := m.toBytes
  { dst := dst, src := if s.nodeValid then s.node else 0xFFFFF, op := 0x20, payload := bs, check0 := BitVec.ofNat 32 (crc32c bs) }

/-- A message goes out of a port to the device at its far end, or to this device itself (16). One that finds no credit is lost: its
requester sends it again (R465). -/
def State.sendLink (s : State) (port : Nat) (m : Mgmt) : State :=
  let x : QPkt := { vc := 0, pkt := s.mgmtPacket 0xFFFFF m }
  if port = 16 then s.toRing 16 x.pkt
  else if s.fabricUp port && s.creditFor port x then s.queueOut port x
  else s

/-- A message goes to a node, or out of a port. -/
def State.sendMgmt (s : State) (path : MgmtPath) (m : Mgmt) : State :=
  match path with
  | .link p => s.sendLink p m
  | .node n => if n = s.node then s.toRing 16 (s.mgmtPacket n m) else s.inject 0 (s.mgmtPacket n m)

/-- The message sequence number of this device moves on. -/
def State.nextMseq (s : State) : Nat × State :=
  (s.fm.nextMseq, s.updFm (fun f => { f with nextMseq := (f.nextMseq + 1) % 2 ^ 32 }))

/-- Whether a type of message has a response (R464, R571). -/
def mgmtRequest (t : Nat) : Bool := t != 1 && t != 2 && t != 0x40

/-- A request goes out with a number of its own; it waits for its response. -/
def State.sendRequest (s : State) (r : MgmtReq) : State :=
  let (k, s) := s.nextMseq
  let m := { r.msg with mseq := k, term := s.fmTerm % 2 ^ 32, machine := (s.rd Reg.hubFmMachine).toNat }
  (s.updFm (fun f => { f with reqs := f.reqs ++ [{ path := r.path, msg := m }] })).sendMgmt r.path m

/-- Whether two requests go to the same agent. -/
def MgmtReq.sameAgent (a b : MgmtReq) : Bool := decide (a.path = b.path) && (a.msg.hops.drop 1 == b.msg.hops.drop 1)

/-- The requests that wait go out, each once its agent has answered the one before it (R464). -/
def State.flushQueue (s : State) : State :=
  s.fm.queue.foldl (fun s r =>
    if s.fm.reqs.any (fun x => x.sameAgent r) then s
    else (s.updFm (fun f => { f with queue := f.queue.erase r })).sendRequest r) s

/-! ### Receiving (R463, R465, R466) -/

/-- Where a message goes that has come by relay (R463): none when it is for this device, else the port and the message. -/
def Mgmt.relay (m : Mgmt) (arrival : Nat) : Option (Nat × Mgmt) :=
  if !natBit m.flags 1 then none
  else match m.hops[m.hptr]? with
    | none => none
    | some h => if h = 0xFF then none else some (h, { m with hops := m.hops.set m.hptr arrival, hptr := m.hptr + 1 })

/-- Whether a payload holds a whole message. -/
def mgmtWhole (b : List Byte) : Bool :=
  decide (32 ≤ b.length) && decide (bodyNat b 3 1 ≤ 128) && decide (32 + bodyNat b 3 1 + bodyNat b 20 4 ≤ b.length)

/-- The sender of a message, as the kept responses know it: its node, or the port it came by. -/
def senderKey (arrival src : Nat) (m : Mgmt) : Nat := if natBit m.flags 1 then arrival + 2 ^ 20 else src

/-- A response goes back: along the path of a relay, or to the sender's node (R463). -/
def State.respond (s : State) (arrival src : Nat) (m : Mgmt) (status : Nat) (body : List Byte) : State :=
  let back := ((m.hops.take m.hptr).reverse)
  let r : Mgmt := { m with
    flags := m.flags ||| 1, hops := if natBit m.flags 1 then back else [], hptr := 0, status := status, body := body
    term := s.fmTerm % 2 ^ 32, machine := (s.rd Reg.hubFmMachine).toNat }
  let key := senderKey arrival src m
  let mine := s.fm.kept.filter (fun k => k.1 = key)
  let rest := s.fm.kept.filter (fun k => k.1 ≠ key)
  let s := s.updFm (fun f => { f with kept := rest ++ (mine.drop (mine.length - 63)) ++ [(key, m.mseq, r)] })
  if natBit m.flags 1 then s.sendLink arrival r else s.sendMgmt (.node src) r

/-- A primary steps down (R466): event 0xB03, and what it had begun as primary is dropped; job commands of PF0 that run are refused. -/
def State.stepDown (s : State) : State :=
  if s.role = 3 then
    ((((s.setRole (b2n (s.rdB Reg.hubFmCtrl 0))).event 0xB03).finishOp 0x41 0x11 0).finishOp 0x42 0x11 0).updFm (fun f => { f with
      queue := [], reqs := [], held := [], replicating := false, todo := [], swap := none, discovering := false })
  else s

/-- A term is seen (R466): the highest is kept, and a primary that sees a higher one steps down. -/
def State.seeTerm (s : State) (t : Nat) : State :=
  if s.fmTerm < t then (s.wr Reg.hubFmTerm (BitVec.ofNat 64 t)).stepDown else s

/-- The agent takes the first message of a type (R465, R466): a duplicate is answered as before, one with a lower term is answered with
status 3, one that is not of its type's form with status 4; else `f` acts, and gives the status and body of the response. -/
def State.agentTakes (s : State) (type : Nat) (whole : Mgmt → Bool) (f : State → Nat → Nat → Mgmt → State × Nat × List Byte) : State :=
  match s.fm.inbox.find? (fun e => e.2.2.type = type && !natBit e.2.2.flags 0) with
  | none => s
  | some e =>
    let (arrival, src, m) := e
    let s := s.updFm (fun f => { f with inbox := f.inbox.erase e })
    match s.fm.kept.find? (fun k => k.1 = senderKey arrival src m && k.2.1 = m.mseq) with
    | some k => if natBit m.flags 1 then s.sendLink arrival k.2.2 else s.sendMgmt (.node src) k.2.2
    | none =>
      if m.term < s.fmTerm % 2 ^ 32 then s.respond arrival src m 3 []
      else if !whole m then s.respond arrival src m 4 []
      else
        let s := s.seeTerm m.term
        let s := s.cond (!natBit m.flags 1 && decide (src < 0x20000)) (fun s => s.setPrimary src)
        let r := f s arrival src m
        r.1.respond arrival src m r.2.1 r.2.2

/-- Whether the first message of a type in the inbox is a response. -/
def State.responseFirst (s : State) (type : Nat) : Bool :=
  match s.fm.inbox.find? (fun e => e.2.2.type = type) with
  | some e => natBit e.2.2.flags 0
  | none => false

/-! ### What the agent does (R464, R470 to R473, R477, R608) -/

/-- The body of a QUERY response (R464): partition dies are one byte for each partition, its die mask. -/
def State.queryBody (s : State) : List Byte :=
  leBytes 8 s.fuses.serial.toNat ++ leBytes 4 (s.rd Reg.hubId).toNat ++ leBytes 8 (s.rd Reg.hubPortPlan).toNat ++ leBytes 4 (s.rd Reg.hubFmCtrl).toNat
    ++ (List.range 4).flatMap (fun p => leBytes 1 ((s.partDies p).foldl (fun m d => m + 2 ^ d) 0))
    ++ (List.range 16).flatMap (fun p =>
      let nb := (s.port p).neighbour
      leBytes 4 (s.rd (Reg.prtStatus p)).toNat ++ leBytes 8 (match nb with | some n => n.serial.toNat | none => 0)
        ++ leBytes 1 (match nb with | some n => n.port | none => 0) ++ leBytes 3 0)

/-- ASSIGN (R462, R470): node ID, coordinates and sizes; a device keeps a node ID that it has. -/
def State.agentAssign (s : State) (m : Mgmt) : State × Nat :=
  let n := bodyNat m.body 0 4
  if 131072 ≤ n ∨ (s.nodeValid ∧ s.node ≠ n) then (s, 1)
  else
    let s := s.setNode n true
    let s := s.updFm (fun f => { f with
      coords := (List.range 4).map (fun i => bodyNat m.body (4 + i) 1), sizes := (List.range 4).map (fun i => bodyNat m.body (8 + i) 1) })
    let adopt := s.rd Reg.hubFmMachine == 0 && m.machine != 0
    (s.cond adopt (fun s =>
      let v := BitVec.ofNat 64 m.machine
      ({ s with config := s.config.store (fun r => { r with machine := v }) } : State).wr Reg.hubFmMachine v), 0)

/-- PORT_EN (R338, R464). -/
def State.agentPorts (s : State) (m : Mgmt) : State :=
  let on := bodyNat m.body 0 2
  let off := bodyNat m.body 2 2
  s.each (List.range 16) (fun s p =>
    let s := s.cond (natBit on p && !(s.port p).barred && decide (s.planEntry p < 8)) (fun s => s.wrB (Reg.prtCtrl p) 0 true)
    s.cond (natBit off p) (fun s => s.wrB (Reg.prtCtrl p) 0 false))

/-- A route plan from its bytes (R471): what the plan says before its lost links, and the lost links, 4 bytes each. -/
def planOfBytes (version : Nat) (b : List Byte) : RoutePlan :=
  let h := Config.planRead b
  let tail := b.drop h.2.2.2
  { version := version, sizes := h.1, openAxes := h.2.1, excluded := h.2.2.1
    lost := (List.range (tail.length / 4)).map (fun i => (bodyNat tail (4 * i) 4 % 2 ^ 20, natFld (bodyNat tail (4 * i) 4) 20 4)) }

/-- A PLAN fragment (R471): the plan is whole once every fragment of its version has come. -/
def State.agentPlan (s : State) (m : Mgmt) : State :=
  let v := bodyNat m.body 0 4
  let i := bodyNat m.body 4 2
  let n := bodyNat m.body 6 2
  let s := s.cond (s.fm.fragVersion != v || s.fm.fragCount != n) (fun s => s.updFm (fun f => { f with
    fragments := [], fragVersion := v, fragCount := n }))
  let s := s.updFm (fun f => { f with fragments := f.fragments.set i (m.body.drop 8) })
  if (List.range n).all (fun j => s.fm.fragments.any (fun e => e.1 = j)) then
    s.updFm (fun f => { f with plan := some (planOfBytes v ((List.range n).flatMap (fun j => f.fragments.get j))) })
  else s

/-- Entries of each kind that a device's table has under a plan (R472). -/
def RoutePlan.kindCount (pl : RoutePlan) (me x : Nat) : Nat := ((List.range 131072).filter (fun n => pl.kind me n = x)).length

/-- EXPAND (R472): the plan of that version is expanded into the inactive bank; the counts of its kinds. -/
def State.agentExpand (s : State) (m : Mgmt) : State × Nat × List Byte :=
  match s.fm.plan with
  | some pl =>
    if pl.version = bodyNat m.body 0 4 ∧ s.nodeValid then
      (s.expandPlan pl, 0, (List.range 3).flatMap (fun k => leBytes 4 (pl.kindCount s.node k)))
    else (s, 1, [])
  | none => (s, 1, [])

/-- ENTRY (R473): entries from a node on, into the inactive bank; the count has 4 bytes. -/
def State.agentEntries (s : State) (m : Mgmt) : State :=
  let n := bodyNat m.body 0 4
  s.each (List.range (bodyNat m.body 4 4)) (fun s i =>
    s.cpCommit (Reg.rtrRoute s.inactiveBank (n + i)) (BitVec.ofNat 64 (bodyNat m.body (8 + 8 * i) 8) &&& (fldMask 22 0 ||| fldMask 31 24)))

/-- HOLD (R477, R478): a fragment of the map, or every destination. -/
def State.agentHold (s : State) (m : Mgmt) : State :=
  let first := bodyNat m.body 8 4
  let bits := m.body.drop 12
  let s := s.each (List.range (8 * bits.length)) (fun s i =>
    let n := first + i
    if n < 131072 then s.wrB (Reg.hubFmHoldMap (n / 64)) (n % 64) (natBit (bodyNat bits (i / 8) 1) (i % 8)) else s)
  (s.wrB Reg.hubFmHoldCtrl 1 (decide (bodyNat m.body 4 1 ≠ 0))).wrB Reg.hubFmHoldCtrl 0 true

/-- DRAIN: HUB_FM_HOLD_OPEN is read and answered. -/
def State.agentDrain (s : State) : State × List Byte := (s, leBytes 8 s.heldOpen)

/-- RESUME: hold_en and the map are cleared. -/
def State.agentResume (s : State) : State :=
  let s := s.wrF Reg.hubFmHoldCtrl 1 0 0
  { s with csr := s.csr.clear (Reg.hubFmHoldMap 0) (Reg.hubFmHoldMap 2048) }

/-- DOMAIN (R608): the SEC assigns a job domain after its checks, or clears the mapping; status 1 where it does not. -/
def State.agentDomain (s : State) (m : Mgmt) : State × Nat :=
  let p := bodyNat m.body 0 1
  let d := bodyNat m.body 2 2
  if 3 < p then (s, 1)
  else if bodyNat m.body 1 1 = 1 then
    let ok := s.partState p == 2 && decide (1 ≤ d ∧ d ≤ 4095) && !s.rdB (Reg.rtrDomain p) 31
      && (List.range 4).all (fun q => !s.rdB (Reg.rtrDomain q) 31 || s.domainOf q != d)
    if ok then ((s.setDomain p (BitVec.ofNat 64 (2 ^ 31 + d))).event 0x709 .none p (some p), 0) else (s, 1)
  else
    (s.cond (s.rdB (Reg.rtrDomain p) 31) (fun s => (s.setDomain p 0).event 0x709 .none p (some p)), 0)

/-- GROUP (R430 to R432): the words of a group entry, its valid bits last. -/
def State.agentGroup (s : State) (m : Mgmt) : State × Nat :=
  let q := bodyNat m.body 0 1
  let g := bodyNat m.body 1 1
  if 3 < q ∨ 7 < g then (s, 1)
  else
    let e := m.body.drop 2
    let s := s.each (List.range 64) (fun s j => s.fabGroupWrite q g (Reg.clxGroupPeer q g j) (BitVec.ofNat 64 (bodyNat e (0x40 + 4 * j) 4 % 2 ^ 20)))
    let s := s.fabGroupWrite q g (Reg.clxGroupW1 q g) (BitVec.ofNat 64 (bodyNat e 8 8) &&& fldMask 37 0)
    (s.fabGroupWrite q g (Reg.clxGroupW0 q g) (BitVec.ofNat 64 (bodyNat e 0 8) &&& fldMask 51 0), 0)

/-- CIRCUIT (R464): writes of 12 bytes to circuit entries or share groups. -/
def State.agentCircuits (s : State) (m : Mgmt) : State :=
  s.each (List.range (min 60 (m.body.length / 12))) (fun s i =>
    let b := bodyNat m.body (12 * i) 1
    let x := bodyNat m.body (12 * i + 1) 2
    let v := BitVec.ofNat 64 (bodyNat m.body (12 * i + 4) 8)
    match (List.range 16).find? (fun p => (Config.shareByte p).toNat = b) with
    | some p => if x < 64 then s.setShare p x v else s
    | none => if b ≤ 16 ∧ x < 4096 then s.setCircuit b x v else s)

/-- TABLES (R464): writes of 12 bytes to multicast or host-network entries. -/
def State.agentTables (s : State) (m : Mgmt) : State :=
  s.each (List.range (min 60 (m.body.length / 12))) (fun s i =>
    let v := BitVec.ofNat 64 (bodyNat m.body (12 * i + 4) 8)
    match Config.tablesWord (bodyNat m.body (12 * i) 1) (bodyNat m.body (12 * i + 1) 2) with
    | some (true, x, w) =>
      if 4096 ≤ x then s
      else if w = 0 then s.wr (Reg.rtrHnW0 x) (v &&& (fldMask 19 0 ||| fldMask 47 32 ||| fldMask 63 63))
      else if w = 1 then s.wr (Reg.rtrHnAddr x 0) v else if w = 2 then s.wr (Reg.rtrHnAddr x 1) v else s
    | some (false, x, w) =>
      if 64 ≤ x then s
      else if w = 0 then s.wr (Reg.rtrMcastW0 x) (v &&& (fldMask 3 0 ||| fldMask 31 12)) else if w = 1 then s.wr (Reg.rtrMcastW1 x) v else s
    | none => s)

/-- REPLICATE (R467): the standby keeps the record: the jobs, and the change until BEAT says that it has been answered. -/
def State.agentReplica (s : State) (m : Mgmt) : State :=
  let c := Config.changeRead (m.body.drop 8)
  let s := s.cond (s.role != 3) (fun s => s.setRole 2)
  s.updFm (fun f => { f with jobs := c.2.2, log := f.log ++ [(m.mseq, { path := .node c.1, msg := Mgmt.ofBytes c.2.1 })] })

/-! ### The election (R466) -/

/-- Whether one candidate ranks before another: higher prio, then lower serial number, then the shorter way. -/
def FmCand.before (a b : FmCand) : Bool :=
  decide (b.prio < a.prio) || (a.prio == b.prio && (decide (a.serial < b.serial) || (a.serial == b.serial && decide (a.dist < b.dist))))

/-- The first of a list by rank. -/
def bestCand (l : List FmCand) : Option FmCand :=
  l.foldl (fun b c => match b with | none => some c | some x => if c.before x then some c else some x) none

/-- ELECT's body (R464): a candidate that is not known has serial number 0 and distance 255. -/
def State.electBody (s : State) : List Byte :=
  let none' : FmCand := { prio := 0, serial := 0, dist := 255, port := 16 }
  let b := s.fm.best.getD none'
  let c := s.fm.second.getD none'
  leBytes 1 (s.rdF Reg.hubFmCtrl 15 8) ++ leBytes 1 (b2n (s.rdB Reg.hubFmCtrl 0)) ++ leBytes 8 s.fuses.serial.toNat
    ++ leBytes 1 b.prio ++ leBytes 8 b.serial.toNat ++ leBytes 1 b.dist ++ leBytes 1 c.prio ++ leBytes 8 c.serial.toNat ++ leBytes 8 s.fmTerm

/-- ELECT goes out on every fabric-enabled port. -/
def State.sendElect (s : State) : State :=
  let (k, s) := s.nextMseq
  s.each ((List.range 16).filter s.fabricUp) (fun s p =>
    s.sendLink p { type := 1, flags := 2, mseq := k, term := s.fmTerm % 2 ^ 32, machine := (s.rd Reg.hubFmMachine).toNat, body := s.electBody })

/-- The best and second-best candidates are found anew; when they change, stable clears and ELECT goes out at once. -/
def State.electNow (s : State) : State :=
  let self : List FmCand := if s.rdB Reg.hubFmCtrl 0 then
      [{ prio := s.rdF Reg.hubFmCtrl 15 8, serial := s.fuses.serial, dist := 0, port := 16 }] else []
  let l := self ++ s.fm.cands
  let b := bestCand l
  let c := match b with
    | some b => bestCand (l.filter (fun x => x.serial ≠ b.serial))
    | none => none
  let same := fun (x y : Option FmCand) => x.map (fun z => (z.prio, z.serial)) == y.map (fun z => (z.prio, z.serial))
  let changed := !(same b s.fm.best) || !(same c s.fm.second)
  let s := s.updFm (fun f => { f with best := b, second := c })
  let s := s.cond (decide (s.role ≤ 1)) (fun s => s.setRole (b2n (s.rdB Reg.hubFmCtrl 0)))
  s.cond changed (fun s => (s.wrB Reg.hubFmStatus 2 false).sendElect)

/-- What an ELECT from a port says of candidates (R466 rule 3): the sender itself, its best and its second-best, whose distance is that of
the best; each only while its distance plus 1 is at most 255. -/
def electCands (port : Nat) (b : List Byte) (me : W64) : List FmCand :=
  let n := bodyNat b
  let self : List FmCand := if n 1 1 = 1 then [{ prio := n 0 1, serial := BitVec.ofNat 64 (n 2 8), dist := 1, port := port }] else []
  let best : FmCand := { prio := n 10 1, serial := BitVec.ofNat 64 (n 11 8), dist := n 19 1 + 1, port := port }
  let second : FmCand := { prio := n 20 1, serial := BitVec.ofNat 64 (n 21 8), dist := n 19 1 + 1, port := port }
  (self ++ [best, second]).filter (fun c => decide (c.dist ≤ 255) && c.serial != me && c.serial != 0)

end Sys2Proof.Machine
end

