-- ==== Sys2Proof/Machine/Manager.lean ====
section
/-!
DEFINITION. The fabric manager as the primary runs it: requests and the standby's record, discovery, route plans, drain-and-swap, job
domains with their groups and circuits, and what it does on a report (11_fabric_management.md R464 to R485).
-/
namespace Sys2Proof.Machine

/-! ### Requests and the record (R464, R465, R467) -/

/-- A request to a device: to its node when a plan in force reaches it, else by relay over the ports that lead to it. -/
def State.reach (s : State) (pl : Option RoutePlan) (d : FmDevice) (type : Nat) (body : List Byte) : MgmtReq :=
  let relay : MgmtReq := match d.route with
    | [] => { path := .link 16, msg := { type := type, flags := 2, body := body } }
    | p :: rest => { path := .link p, msg := { type := type, flags := 2, hops := 0xFF :: rest, hptr := 1, body := body } }
  match pl, d.coords with
  | some pl, some c =>
    let n := coordsNode pl.sizes c
    if s.nodeValid && pl.kind s.node n != 0 then { path := .node n, msg := { type := type, body := body } } else relay
  | _, _ => relay

/-- Whether a message changes the machine record: node IDs, the plan, entries, domains, groups, circuits and tables (R467). -/
def recordChange (t : Nat) : Bool := t == 0x11 || t == 0x20 || t == 0x22 || (decide (0x30 ≤ t) && decide (t ≤ 0x33))

/-- Event 0xB0A, once, while no standby exists (R467). -/
def State.tellAlone (s : State) : State :=
  if s.fm.noStandbyTold then s else (s.updFm (fun f => { f with noStandbyTold := true })).event 0xB0A

/-- The first change that is held is sent to the standby as a numbered log record, when none is on its way (R467). -/
def State.replicateNext (s : State) : State :=
  match s.fm.held with
  | [] => s
  | r :: _ =>
    if s.fm.replicating then s
    else
      let k := s.fm.logNo + 1
      let dst := match r.path with | .node n => n | .link _ => 0xFFFFF
      let q : MgmtReq := { path := .node (s.rdF Reg.hubFmPeers 51 32),
                           msg := { type := 3, body := leBytes 8 k ++ (Config.changeBytes dst r.msg.toBytes s.fm.jobs).take 984 } }
      s.updFm (fun f => { f with logNo := k, replicating := true, queue := f.queue ++ [q] })

/-- Requests go out; a change of the record only after the standby has acknowledged it, or at once while there is none (R467). -/
def State.issue (s : State) (l : List MgmtReq) : State :=
  let changes := l.filter (fun r => recordChange r.msg.type)
  let others := l.filter (fun r => !recordChange r.msg.type)
  let s := s.updFm (fun f => { f with queue := f.queue ++ others })
  let s := if s.standbyKnown then (s.updFm (fun f => { f with held := f.held ++ changes })).replicateNext
    else (s.cond (!changes.isEmpty) State.tellAlone).updFm (fun f => { f with queue := f.queue ++ changes })
  s.flushQueue

/-- The standby has acknowledged a record, or is lost: what was held goes to its agent. -/
def State.replicated (s : State) (ok : Bool) (k : Nat) : State :=
  if ok then
    let s := s.updFm (fun f => { f with
      replicating := false, queue := f.queue ++ f.held.take 1, log := f.log ++ (f.held.take 1).map (fun r => (k, r)), held := f.held.drop 1 })
    s.replicateNext
  else
    let s := s.setStandby none
    let s := s.cond (!s.fm.held.isEmpty) State.tellAlone
    s.updFm (fun f => { f with replicating := false, queue := f.queue ++ f.held, held := [] })

/-- A change has been answered, or has failed: the standby need not send it again (R467). BEAT names the REPLICATE up to which that holds
of every change. -/
def State.changeOver (s : State) (r : MgmtReq) : State :=
  match s.fm.log.find? (fun e => e.2.path = r.path ∧ e.2.msg.type = r.msg.type ∧ e.2.msg.body = r.msg.body) with
  | none => s
  | some e =>
    let rest := s.fm.log.erase e
    s.updFm (fun f => { f with log := rest, answered := match rest with | [] => max f.answered e.1 | x :: _ => max f.answered (x.1 - 1) })

/-- Whether no request is outstanding or waiting. -/
def Fm.idle (f : Fm) : Bool := f.queue.isEmpty && f.reqs.isEmpty && f.held.isEmpty

/-! ### Discovery (R468 to R470) -/

/-- A device from the body of its QUERY response. -/
def deviceOfBody (route : List Nat) (b : List Byte) : FmDevice :=
  { route := route
    serial := BitVec.ofNat 64 (bodyNat b 0 8)
    hubId := bodyNat b 8 4
    plan := BitVec.ofNat 64 (bodyNat b 12 8)
    dies := bodyNat b 24 4
    ports := (List.range 16).map (fun p =>
      { status := BitVec.ofNat 64 (bodyNat b (28 + 16 * p) 4), serial := BitVec.ofNat 64 (bodyNat b (32 + 16 * p) 8),
        port := bodyNat b (40 + 16 * p) 1 }) }

/-- A device's plan entry of a port, and the ports of a direction that are up both ways. -/
def FmDevice.entry (d : FmDevice) (p : Nat) : Nat := fld d.plan (4 * p + 3) (4 * p)
@[inherit_doc FmDevice.entry]
def FmDevice.upPorts (d : FmDevice) (dir : Nat) : List (Nat × FmPort) :=
  ((List.range 16).zip d.ports).filter (fun x => d.entry x.1 == dir && fld x.2.status 2 0 == 3 && bitOf x.2.status 6)

/-- The dimensions of a device's port plan. -/
def FmDevice.dims (d : FmDevice) : List Nat :=
  (List.range 4).filter (fun i => (List.range 16).any (fun p => d.entry p == 2 * i || d.entry p == 2 * i + 1))

/-- The neighbour of a device in a direction. -/
def FmDevice.next (devs : List FmDevice) (d : FmDevice) (dir : Nat) : Option FmDevice :=
  match d.upPorts dir with
  | x :: _ => devs.find? (fun e => e.serial = x.2.serial)
  | [] => none

/-- The neighbours of a device that have not been asked are asked by relay (R468). -/
def State.askFrom (s : State) (d : FmDevice) : State :=
  s.each ((List.range 8).flatMap d.upPorts) (fun s x =>
    if s.fm.asked.contains x.2.serial ∨ 127 < d.route.length then s
    else
      let e : FmDevice := { d with route := d.route ++ [x.1] }
      s.updFm (fun f => { f with asked := f.asked ++ [x.2.serial], queue := f.queue ++ [s.reach none e 0x10 []] }))

/-- Discovery begins (R468). -/
def State.startDiscovery (s : State) : State :=
  let me := deviceOfBody [] s.queryBody
  let s := s.updFm (fun f => { f with discovering := true, devices := [me], asked := [me.serial] })
  (s.askFrom me).flushQueue

/-- Devices passed in a direction until the walk returns or stops, and whether it returned (R469). -/
def ringWalk (devs : List FmDevice) (start : W64) (dir : Nat) : Nat → FmDevice → Nat × Bool
  | 0, _ => (0, false)
  | fuel + 1, d =>
    match d.next devs dir with
    | none => (0, false)
    | some e =>
      if e.serial = start then (1, true)
      else
        let r := ringWalk devs start dir fuel e
        (r.1 + 1, r.2)

/-- Size of a device's ring in a dimension, whether it closes, and the devices below it when it does not (R469). -/
def ringSize (devs : List FmDevice) (d : FmDevice) (i : Nat) : Nat × Bool × Nat :=
  let up := ringWalk devs d.serial (2 * i) 65 d
  if up.2 then (up.1, true, 0)
  else
    let dn := ringWalk devs d.serial (2 * i + 1) 65 d
    (up.1 + dn.1 + 1, false, dn.1)

/-- Whether moving + in two dimensions reaches the same device in either order (R469). -/
def commutes (devs : List FmDevice) (d : FmDevice) : Bool :=
  (List.range 4).all (fun i => (List.range i).all (fun j =>
    match (d.next devs (2 * i)).bind (fun e => e.next devs (2 * j)), (d.next devs (2 * j)).bind (fun e => e.next devs (2 * i)) with
    | some a, some b => decide (a.serial = b.serial)
    | _, _ => true))

/-- Coordinates spread from the devices that have some to their neighbours, one hop a round (R470). -/
def spreadCoords (devs : List FmDevice) (sizes : List Nat) : Nat → List (W64 × List Nat) → List (W64 × List Nat)
  | 0, l => l
  | fuel + 1, l =>
    let step := fun (acc : List (W64 × List Nat)) (x : W64 × List Nat) =>
      match devs.find? (fun d => d.serial = x.1) with
      | none => acc
      | some d => (List.range 8).foldl (fun (acc : List (W64 × List Nat)) dir =>
          match d.next devs dir with
          | none => acc
          | some e =>
            if acc.any (fun y => y.1 = e.serial) then acc
            else
              let k := max 1 (sizes[dir / 2]?.getD 1)
              acc ++ [(e.serial, x.2.modify (dir / 2) (fun c => if dir % 2 = 0 then (c + 1) % k else (c + k - 1) % k))]) acc
    spreadCoords devs sizes fuel (l.foldl step l)

/-- What discovery finds: sizes, open axes, and every device with its coordinates, those excluded with none (R468 to R470). -/
def State.layMachine (s : State) : List Nat × List Bool × List FmDevice :=
  let all := s.fm.devices
  match all.head? with
  | none => ([], [], [])
  | some me =>
    let devs := all.filter (fun d => d.dims = me.dims)
    let rings := fun (i : Nat) => devs.map (fun d => ringSize devs d i)
    let closed := fun (i : Nat) => (rings i).find? (fun r => r.2.1)
    let size := fun (i : Nat) => if me.dims.contains i then (match closed i with | some r => r.1 | none => (ringSize devs me i).1) else 1
    let sizes := (List.range 4).map size
    let openAxes := (List.range 4).map (fun i => me.dims.contains i && (closed i).isNone)
    let good := devs.filter (fun d => me.dims.all (fun i => (ringSize devs d i).1 == size i) && commutes devs d)
    let below := (List.range 4).map (fun i => if openAxes[i]?.getD false then (ringSize devs me i).2.2 else 0)
    let mine := if s.nodeValid ∧ s.fm.sizes = sizes then s.fm.coords else below
    let l := spreadCoords good sizes good.length [(me.serial, mine)]
    let shift := if s.nodeValid then [0, 0, 0, 0] else match l.find? (fun x => s.fm.origin ≠ 0 ∧ x.1 = s.fm.origin) with
      | some o => (List.range 4).map (fun i => if openAxes[i]?.getD false then 0 else o.2[i]?.getD 0)
      | none => [0, 0, 0, 0]
    let place := fun (co : List Nat) => (List.range 4).map (fun i => (co[i]?.getD 0 + max 1 (size i) - shift[i]?.getD 0) % max 1 (size i))
    let fits : Bool := decide (sizes.foldl (fun (a k : Nat) => a * k) 1 ≤ 131072)
    let found := all.foldl (fun (acc : List FmDevice) d =>
      let c := if fits && good.any (fun g => g.serial = d.serial) then (l.find? (fun x => x.1 = d.serial)).map (fun x => place x.2) else none
      let c := if c.isSome && acc.any (fun e => e.coords = c) then none else c
      acc ++ [{ d with coords := c }]) []
    (sizes, openAxes, found)

/-! ### Route plans (R471, R476) -/

/-- The devices that are in the machine. -/
def Fm.members (f : Fm) : List FmDevice := f.devices.filter (fun d => d.coords.isSome)

/-- A device's node in a machine of given sizes. -/
def FmDevice.nodeIn (d : FmDevice) (sizes : List Nat) : Nat := coordsNode sizes (d.coords.getD [])

/-- The plan of what discovery has found (R471): nodes without a device are excluded, and a pair of neighbours with no port in fabric
use between them is a lost link. -/
def planOf (version : Nat) (sizes : List Nat) (openAxes : List Bool) (devs : List FmDevice) : RoutePlan :=
  let ins := devs.filter (fun d => d.coords.isSome)
  let nodes := ins.map (fun d => d.nodeIn sizes)
  let p0 : RoutePlan := { version := version, sizes := sizes, openAxes := openAxes }
  let lost := ins.flatMap (fun d => (List.range 4).filterMap (fun i =>
    let k := sizes[i]?.getD 1
    let c := (d.coords.getD [])[i]?.getD 0
    let n := d.nodeIn sizes
    let e := ins.find? (fun x => x.nodeIn sizes = p0.next n (2 * i))
    if k < 2 ∨ (openAxes[i]?.getD false ∧ c + 1 = k) then none
    else match e with
      | none => none
      | some e => if (d.next ins (2 * i)).map FmDevice.serial = some e.serial then none else some (n, 2 * i)))
  { p0 with excluded := (List.range p0.nodes).filter (fun n => !nodes.contains n), lost := lost }

/-- Whether two plans describe the same machine. -/
def RoutePlan.sameAs (a b : RoutePlan) : Bool :=
  a.sizes == b.sizes && a.openAxes == b.openAxes && a.excluded == b.excluded && a.lost == b.lost

/-- What R474 compares of the entry of device `a` for node `n`: kind, distance, dateline class, escape direction, and the directions through
cand. -/
def RoutePlan.entry (pl : RoutePlan) (a n : Nat) : Nat × Nat × Nat × Nat × List Nat :=
  let k := pl.kind a n
  if k ≠ 1 then (k, 0, 0, 0, [])
  else
    let ds := pl.dims a n
    let esc := (pl.escape a n).getD 0
    (1, (ds.map Prod.snd).foldl (· + ·) 0, pl.dateline a n esc, esc, (ds.flatMap Prod.fst).filter (fun d => pl.kind (pl.next a d) n != 0))

/-- The affected set of a change of plan (R476): every node whose entry differs at some device. -/
def affectedSet (old : Option RoutePlan) (new : RoutePlan) (devs : List FmDevice) : List Nat :=
  let was := fun (a n : Nat) => match old with | some pl => pl.entry a n | none => (if a = n then 2 else 0, 0, 0, 0, [])
  (List.range 131072).filter (fun n => devs.any (fun d => let a := d.nodeIn new.sizes; was a n != new.entry a n))

/-- The bytes of a plan (R471). -/
def RoutePlan.bytes (pl : RoutePlan) : List Byte :=
  Config.planHead pl.sizes pl.openAxes pl.excluded ++ pl.lost.flatMap (fun l => leBytes 4 (l.1 % 2 ^ 20 + l.2 % 16 * 2 ^ 20))

/-- The PLAN messages of a plan, then EXPAND, each as a body with its type (R464). A fragment leaves room for a hop list of 128 bytes in the
1,024 bytes of a payload (R383, R463). -/
def RoutePlan.messages (pl : RoutePlan) : List (Nat × List Byte) :=
  let b := pl.bytes
  let n := max 1 (ceilDiv b.length 856)
  (List.range n).map (fun i => (0x20, leBytes 4 pl.version ++ leBytes 2 i ++ leBytes 2 n ++ (b.drop (856 * i)).take 856))
    ++ [(0x21, leBytes 4 pl.version)]

/-! ### Drain-and-swap (R477, R479) -/

/-- One message to every device of the machine. -/
def State.toAll (s : State) (pl : Option RoutePlan) (type : Nat) (body : List Byte) : List MgmtReq :=
  s.fm.members.map (fun d => s.reach pl d type body)

/-- The swap changes. -/
def State.updSwap (s : State) (f : FmSwap → FmSwap) : State := s.updFm (fun m => { m with swap := m.swap.map f })

/-- A drain-and-swap to a plan begins (R477). -/
def State.beginSwap (s : State) (pl : RoutePlan) : State :=
  let n := s.fm.nextSwap
  s.updFm (fun f => { f with
    nextSwap := n + 1
    swap := some { number := n, step := 1, plan := pl, batches := pl.messages.map (fun m => s.toAll none m.1 m.2)
                   affected := affectedSet f.master pl f.members, bank := s.inactiveBank } })

/-- The HOLD messages of a swap (R477): every destination when the affected set exceeds 4,096 nodes, else its bitmap in fragments. -/
def FmSwap.holds (w : FmSwap) : List (List Byte) :=
  let head := fun (all first : Nat) => leBytes 4 w.number ++ leBytes 1 all ++ leBytes 3 0 ++ leBytes 4 first
  if 4096 < w.affected.length then [head 1 0]
  else
    let frags := (List.range 20).filter (fun i => w.affected.any (fun n => n / 6784 = i))
    let bits := fun (i j : Nat) => (List.range 8).foldl (fun x b => x + b2n (w.affected.contains (6784 * i + 8 * j + b)) * 2 ^ b) 0
    (if frags.isEmpty then [0] else frags).map (fun i => head 0 (6784 * i) ++ (List.range 848).flatMap (fun j => leBytes 1 (bits i j)))

/-- The next step of a swap, once every agent has answered (R477, R479). -/
def State.advanceSwap (s : State) (w : FmSwap) : State :=
  let num := leBytes 4 w.number
  match w.batches with
  | b :: rest => (s.updSwap (fun w => { w with batches := rest })).issue b
  | [] =>
    let go := fun (k : Nat) (l : List (List MgmtReq)) => s.updSwap (fun w => { w with step := k, batches := l, open_ := false })
    match w.step with
    | 1 => go 2 (w.holds.map (fun b => s.toAll none 0x23 b))
    | 2 => go 3 [s.toAll none 0x24 num]
    | 3 => if w.open_ then go 3 [s.toAll none 0x24 num] else go 4 []
    | 5 => go 6 [s.toAll (some w.plan) 0x26 num]
    | 6 =>
      if w.aborting then (if w.aborts = 3 then s.updFm (fun f => { f with swap := none }) else go 7 [])
      else (s.event 0xB06).updFm (fun f => { f with swap := none, master := some w.plan })
    | _ => s

/-- A swap is aborted (R479): RESUME without FLIP and event 0xB07; after three aborts the change is reported to PF0. -/
def State.abortSwap (s : State) : State :=
  match s.fm.swap with
  | none => s
  | some w =>
    let s := (s.event 0xB07).updSwap (fun w => { w with
      step := 6, aborting := true, aborts := w.aborts + 1, batches := [s.toAll none 0x26 (leBytes 4 w.number)] })
    if w.aborts + 1 = 3 then s.updFm (fun f => { f with notices := f.notices ++ [.swapAborted w.plan] }) else s

/-! ### Circuits and groups of a job (R481 to R484) -/

/-- The dies of a member's partition on its device. -/
def Fm.gangOf (f : Fm) (sizes : List Nat) (m : Nat × Nat) : List Nat :=
  match f.members.find? (fun d => d.nodeIn sizes = m.1) with
  | some d => bitsSet (natFld d.dies (8 * m.2) 8) 4
  | none => []

/-- Units that circuits hold at an output port, and the circuit IDs that stand at an input (R409, R410, R484). -/
def unitsAt (l : List (Nat × FmCircuit)) (n p : Nat) : Nat :=
  (l.map (fun c => if c.2.hops.any (fun h => h.node = n ∧ h.out = p) then c.2.units else 0)).foldl (· + ·) 0
@[inherit_doc unitsAt]
def idsAt (l : List (Nat × FmCircuit)) (n p : Nat) : List Nat :=
  (l.filter (fun c => c.2.hops.any (fun h => h.node = n ∧ h.inp = p))).map (fun c => c.2.id)

/-- The share group of a job's group at an output port: the one that it has there, else the lowest that no circuit has. -/
def shareAt (l : List (Nat × FmCircuit)) (tag group n p : Nat) : Option Nat :=
  let here := l.flatMap (fun c => (c.2.hops.filter (fun h => h.node = n ∧ h.out = p)).map (fun h => (c.1, c.2.group, h.grp)))
  match here.find? (fun x => x.1 = tag ∧ x.2.1 = group) with
  | some x => some x.2.2
  | none => (List.range 64).find? (fun g => !here.any (fun x => x.2.2 = g))

/-- The hops of a circuit along a list of (node, direction), from an input with its share group and class (R410, R484): at each node the
lowest port of the direction that is up and keeps to 56 units. -/
def planHops (f : Fm) (pl : RoutePlan) (l : List (Nat × FmCircuit)) (tag group units dst : Nat) :
    List (Nat × Nat) → Nat → Nat → Nat → Option (List FmHop)
  | [], inp, ig, id => some [{ node := dst, inp := inp, out := 16, grp := 0, dl := 0, inGrp := ig, inDl := id }]
  | (n, dir) :: rest, inp, ig, id =>
    match f.members.find? (fun d => d.nodeIn pl.sizes = n) with
    | none => none
    | some d =>
      match (d.upPorts dir).find? (fun x => unitsAt l n x.1 + units ≤ 56) with
      | none => none
      | some x =>
        match shareAt l tag group n x.1 with
        | none => none
        | some g =>
          let dl := pl.dateline n dst dir
          (planHops f pl l tag group units dst rest x.2.port g dl).map (fun hs =>
            { node := n, inp := inp, out := x.1, grp := g, dl := dl, inGrp := ig, inDl := id } :: hs)

/-- A circuit with the lowest ID that is free at every input of its path (R484). -/
def planCircuit (f : Fm) (pl : RoutePlan) (l : List (Nat × FmCircuit)) (tag : Nat) (c : FmCircuit) (path : List (Nat × Nat)) (dst : Nat) :
    Option FmCircuit :=
  match planHops f pl l tag c.group c.units dst path 16 0 0 with
  | none => none
  | some hs =>
    let used := hs.flatMap (fun h => idsAt l h.node h.inp)
    (firstFrom (fun i => !used.contains i) 4096 0).map (fun i => { c with id := i, hops := hs })

/-- The dimension-order path between two nodes as nodes and directions (R380, R483). -/
def RoutePlan.path (pl : RoutePlan) (b : Nat) : Nat → Nat → List (Nat × Nat)
  | 0, _ => []
  | fuel + 1, a => match pl.escape a b with
    | none => []
    | some d => (a, d) :: RoutePlan.path pl b fuel (pl.next a d)

/-- The maximal runs of a job's members along an axis (R483): each as its members from the first in + order, and whether the ring is whole
with its wrap link in service. -/
def axisRuns (pl : RoutePlan) (members : List (Nat × Nat)) (i : Nat) : List (List (Nat × Nat) × Bool) :=
  let k := max 1 (pl.sizes[i]?.getD 1)
  let isOpen := pl.openAxes[i]?.getD false
  let next := fun (m : Nat × Nat) =>
    let c := (nodeCoords pl.sizes m.1)[i]?.getD 0
    if (isOpen ∧ c + 1 = k) ∨ k < 2 ∨ pl.lostLink m.1 (2 * i) then none
    else members.find? (fun x => x.1 = pl.next m.1 (2 * i))
  let follow := fun (start : Nat × Nat) =>
    ((List.range k).foldl (fun (acc : List (Nat × Nat) × Bool) _ =>
      if acc.2 then acc
      else match acc.1.getLast? with
        | none => acc
        | some m => match next m with
          | none => (acc.1, true)
          | some x => if x = start then (acc.1, true) else (acc.1 ++ [x], false)) ([start], false)).1
  let starts := members.filter (fun m => !members.any (fun x => next x = some m))
  let lines := (starts.map (fun m => (follow m, false)))
  let covered := lines.flatMap Prod.fst
  let rings := (members.filter (fun m => !covered.contains m && (nodeCoords pl.sizes m.1)[i]?.getD 0 == 0)).map (fun m => (follow m, true))
  (lines ++ rings).filter (fun r => 2 ≤ r.1.length)

/-- The groups of a job (R483): one for each run along each axis asked for, or one in the order given. -/
def planGroups (pl : RoutePlan) (j : FmJob) : List FmGroup :=
  if natBit j.axes 4 then [{ index := 0, axis := 4, members := j.members, wrap := natBit j.axes 5 }]
  else (bitsSet j.axes 4).flatMap (fun i => (axisRuns pl j.members i).map (fun r => { index := i, axis := i, members := r.1, wrap := r.2 }))

/-- The pairs of neighbours of a group as ranks, going up (R430, R483). -/
def FmGroup.pairs (g : FmGroup) : List (Nat × Nat) :=
  let k := g.members.length
  (List.range (k - 1)).map (fun r => (r, r + 1)) ++ (if g.wrap then [(k - 1, 0)] else [])

/-- Units that a job asks for in a group: those of its axis; in an explicit order the largest of the axes'. -/
def FmJob.unitsOf (j : FmJob) (g : FmGroup) : Nat := if g.axis < 4 then j.units[g.axis]?.getD 0 else j.units.foldl max 0

/-- The circuits that a group is to have, before their hops are chosen: for each neighbour pair both ways, one for each die of the sender's
gang, with its path and the node it ends at. -/
def wantedCircuits (f : Fm) (pl : RoutePlan) (j : FmJob) (gi : Nat) (g : FmGroup) : List (FmCircuit × List (Nat × Nat) × Nat) :=
  let units := j.unitsOf g
  if units = 0 then []
  else g.pairs.flatMap (fun p => [(p.1, p.2, true), (p.2, p.1, false)].flatMap (fun x =>
    match g.members[x.1]?, g.members[x.2.1]? with
    | some a, some b =>
      let ga := f.gangOf pl.sizes a
      let gb := f.gangOf pl.sizes b
      let path := if g.axis < 4 then [(a.1, 2 * g.axis + b2n (!x.2.2))] else pl.path b.1 256 a.1
      ga.zipIdx.map (fun e => ((⟨0, gi, x.1, x.2.2, e.1, gb[e.2 % max 1 gb.length]?.getD 0, units, []⟩ : FmCircuit), path, b.1))
    | _, _ => []))

/-- Circuits chosen one after another; none when one of them does not fit (R484). -/
def fitAll (f : Fm) (pl : RoutePlan) (others : List (Nat × FmCircuit)) (tag : Nat) (l : List (FmCircuit × List (Nat × Nat) × Nat)) :
    Option (List FmCircuit) :=
  l.foldl (fun (acc : Option (List FmCircuit)) x => acc.bind (fun cs =>
    (planCircuit f pl (others ++ cs.map (fun c => (tag, c))) tag x.1 x.2.1 x.2.2).map (fun c => cs ++ [c]))) (some [])

/-- Every circuit of the record with its job's tag, but those of one job. -/
def Fm.circuits (f : Fm) (tag : Nat) : List (Nat × FmCircuit) :=
  (f.jobs.filter (fun j => j.tag ≠ tag)).flatMap (fun j => j.circuits.map (fun c => (j.tag, c)))

/-- A job with its groups and circuits; none when they do not fit. -/
def planJob (f : Fm) (pl : RoutePlan) (j : FmJob) : Option FmJob :=
  let gs := planGroups pl j
  (fitAll f pl (f.circuits j.tag) j.tag (gs.zipIdx.flatMap (fun g => wantedCircuits f pl j g.2 g.1))).map (fun cs =>
    { j with groups := gs, circuits := cs })

/-- The circuit entry of a hop (R424). -/
def FmCircuit.word (c : FmCircuit) (h : FmHop) : W64 :=
  let src := (c.hops.head?.map FmHop.node).getD 0
  let dst := (c.hops.getLast?.map FmHop.node).getD 0
  let w := setFld (setFld (setFld (setFld 1 5 1 h.out) 11 6 h.grp) 12 12 h.dl) 14 13 (if h.out = 16 then c.dstClx else 0)
  setFld (setFld (setFld (setFld w 20 15 h.inGrp) 21 21 h.inDl) 43 24 src) 63 44 dst

/-- Messages of writes of 12 bytes to devices: at most 60 writes in each (R464). -/
def State.writeMsgs (s : State) (pl : RoutePlan) (ws : List (Nat × List Byte)) : List MgmtReq :=
  s.fm.members.flatMap (fun d =>
    let mine := (ws.filter (fun w => w.1 = d.nodeIn pl.sizes)).map Prod.snd
    (chunksOf 60 (mine.length + 1) mine).map (fun l => s.reach (some pl) d 0x32 l.flatten))

/-- A write of 12 bytes. -/
def circuitWrite (b x : Nat) (v : W64) : List Byte := leBytes 1 b ++ leBytes 2 x ++ leBytes 1 0 ++ leBytes 8 v.toNat

/-- The share groups of circuits: node, port, group and the units they hold together. -/
def sharesOf (cs : List FmCircuit) : List (Nat × Nat × Nat × Nat) :=
  let ks := (cs.flatMap (fun c => (c.hops.filter (fun h => h.out < 16)).map (fun h => (h.node, h.out, h.grp)))).eraseDups
  ks.map (fun k => (k.1, k.2.1, k.2.2,
    (cs.map (fun c => if c.hops.any (fun h => h.node = k.1 ∧ h.out = k.2.1 ∧ h.grp = k.2.2) then c.units else 0)).foldl (· + ·) 0))

/-- Stages that install circuits (R484): share groups, then entries from the destination end toward the source; `off`: they take them
down in the reverse order. -/
def State.circuitStages (s : State) (pl : RoutePlan) (tag : Nat) (cs all : List FmCircuit) (off : Bool) : List FmStage :=
  let mine := (sharesOf cs).map (fun k => (k.1, k.2.1, k.2.2.1))
  let shares := (sharesOf all).filter (fun k => mine.contains (k.1, k.2.1, k.2.2.1))
  let share := FmStage.send (s.writeMsgs pl (shares.map (fun k => (k.1, circuitWrite (Config.shareByte k.2.1).toNat k.2.2.1
    (if off then 0 else setFld (setFld 0 6 0 k.2.2.2) 19 8 tag)))))
  let depth := (cs.map (fun c => c.hops.length)).foldl max 0
  let layer := fun (i : Nat) => FmStage.send (s.writeMsgs pl (cs.filterMap (fun c => match c.hops[i]? with
    | some h => some (h.node, circuitWrite h.inp c.id (if off then 0 else c.word h))
    | none => none)))
  if off then (List.range depth).map layer ++ [share] else share :: ((List.range depth).map (fun i => layer (depth - 1 - i)))

/-- The group entry of a member at one CLX of its gang (R430). -/
def FmJob.entryBytes (j : FmJob) (gi : Nat) (g : FmGroup) (rank clx : Nat) : List Byte :=
  let k := g.members.length
  let me := (g.members[rank]?.map Prod.fst).getD 0
  let below := (rank + k - 1) % k
  let above := (rank + 1) % k
  let cs := j.circuits.filter (fun c => c.group = gi)
  let out := fun (up : Bool) => cs.find? (fun c => c.rank = rank ∧ c.up = up ∧ c.srcClx = clx)
  let inn := fun (r : Nat) (up : Bool) => cs.find? (fun c => c.rank = r ∧ c.up = up ∧ c.dstClx = clx ∧ (c.hops.getLast?.map FmHop.node) = some me)
  let idOf := fun (c : Option FmCircuit) => (c.map FmCircuit.id).getD 0
  let hops := fun (c : Option FmCircuit) => (c.map (fun c => c.hops.length - 1)).getD 0
  let w0 := setFld (setFld (setFld (setFld 1 6 1 (k - 1)) 12 7 rank) 13 13 (b2n g.wrap)) 14 14 (b2n (out true).isSome)
  let w0 := setFld (setFld (setFld (setFld w0 15 15 (b2n (out false).isSome)) 27 16 (idOf (out true))) 39 28 (idOf (out false))) 51 40 j.tag
  let w1 := setFld (setFld (setFld (setFld 0 11 0 (idOf (inn below true))) 23 12 (idOf (inn above false))) 24 24 (b2n (inn below true).isSome))
    25 25 (b2n (inn above false).isSome)
  let w1 := setFld (setFld w1 31 26 (hops (out true))) 37 32 (hops (out false))
  leBytes 8 w0.toNat ++ leBytes 8 w1.toNat ++ leBytes 0x30 0
    ++ (List.range 64).flatMap (fun r => leBytes 4 ((g.members[r]?.map Prod.fst).getD 0))

/-- The GROUP messages of a job's groups to every CLX of every member's gang; `off`: each entry is cleared. A later message to an agent
waits for the one before it. -/
def State.groupStage (s : State) (pl : RoutePlan) (j : FmJob) (off : Bool) : FmStage :=
  .send (j.groups.zipIdx.flatMap (fun g => g.1.members.zipIdx.flatMap (fun m =>
    match s.fm.members.find? (fun d => d.nodeIn pl.sizes = m.1.1) with
    | none => []
    | some d => (s.fm.gangOf pl.sizes m.1).map (fun q => s.reach (some pl) d 0x31 (leBytes 1 q ++ leBytes 1 g.1.index
        ++ (if off then leBytes 0x140 0 else j.entryBytes g.2 g.1 m.2 q))))))

/-- The DOMAIN messages of a job. -/
def State.domainStage (s : State) (pl : RoutePlan) (j : FmJob) (assign : Bool) : FmStage :=
  .send (j.members.flatMap (fun m =>
    match s.fm.members.find? (fun d => d.nodeIn pl.sizes = m.1) with
    | none => []
    | some d => [s.reach (some pl) d 0x30 (leBytes 1 m.2 ++ leBytes 1 (b2n assign) ++ leBytes 2 j.tag)]))

/-- What R482 does to take a job down, but for its end. -/
def State.teardown (s : State) (pl : RoutePlan) (j : FmJob) : List FmStage :=
  s.groupStage pl j true :: (s.circuitStages pl j.tag j.circuits j.circuits true ++ [s.domainStage pl j false])

/-- A job of the record changes. -/
def State.updJob (s : State) (tag : Nat) (f : FmJob → FmJob) : State :=
  s.updFm (fun m => { m with jobs := m.jobs.map (fun j => if j.tag = tag then f j else j) })

/-- Whether every member of a job reaches every other (R472, R481). -/
def reachesAll (pl : RoutePlan) (l : List (Nat × Nat)) : Bool := l.all (fun a => l.all (fun b => pl.kind a.1 b.1 != 0))

/-! ### The primary's progress -/

/-- A submission entry of PF0 that the primary works on completes. -/
def State.finishEntry (s : State) (h : Nat) (entry : List Byte) (status : Nat) (result : W64) : State :=
  s.updFn h 0 (fun x => { x with cmds := x.cmds.map (fun c =>
    if c.entry = entry ∧ c.stage = .running then { c with stage := .done status result } else c) })

/-- One stage of what the primary has to do. -/
def State.runStage (s : State) (st : FmStage) : State :=
  match st with
  | .send l => s.issue l
  | .swap pl => s.beginSwap pl
  | .carved h entry tag =>
    if s.fm.failed then
      let s := (s.event 0xB08).finishEntry h entry 0x11 0
      match s.fm.master, s.fm.jobs.find? (fun j => j.tag = tag) with
      | some pl, some j =>
        let l := s.teardown pl j
        s.updFm (fun f => { f with failed := false, jobs := f.jobs.filter (fun j => j.tag ≠ tag), retiredTags := f.retiredTags ++ [tag],
                                   todo := l ++ f.todo })
      | _, _ => s
    else s.finishEntry h entry 0 (BitVec.ofNat 64 tag)
  | .released h entry tag =>
    (s.updFm (fun f => { f with jobs := f.jobs.filter (fun j => j.tag ≠ tag), retiredTags := f.retiredTags ++ [tag] })).finishEntry h entry 0 0

/-- The messages that send the active slot's bundle to a neighbour in each direction that R572 names: offer, fragments, end. -/
def State.imageStages (s : State) (pl : RoutePlan) : List FmStage :=
  let b := s.slotBytes s.activeSlot
  let len := (bundleEntries b).foldl (fun m e => max m (e.off + e.len)) 0x2000
  let v := leBytes 4 (bundleVersion b)
  let dirs := (List.range 4).flatMap (fun i =>
    if (pl.sizes[i]?.getD 1) < 2 then [] else if pl.openAxes[i]?.getD false then [2 * i, 2 * i + 1] else [2 * i])
  let ports := dirs.filterMap (fun d => (s.dirPorts d).find? s.fabricUp)
  let msg := fun (t : Nat) (body : List Byte) => FmStage.send (ports.map (fun p =>
    { path := .link p, msg := { type := t, flags := 2, hops := [0xFF], hptr := 1, body := body } }))
  [msg 0x50 (v ++ leBytes 4 len ++ (b.drop 0x100).take 64)]
    ++ (List.range (ceilDiv len 960)).map (fun i => msg 0x51 (v ++ leBytes 4 (960 * i) ++ (b.drop (960 * i)).take (min 960 (len - 960 * i))))
    ++ [msg 0x52 v]

/-- The stages that give devices their node IDs and take excluded ones out of use (R469, R470). -/
def State.assignStages (s : State) (sizes : List Nat) (devs : List FmDevice) : List FmStage :=
  let ins := devs.filter (fun d => d.coords.isSome)
  let out := (devs.filter (fun d => d.coords.isNone)).map FmDevice.serial
  let assign := ins.map (fun d => s.reach none d 0x11 (leBytes 4 (d.nodeIn sizes) ++ (d.coords.getD []).flatMap (leBytes 1) ++ sizes.flatMap (leBytes 1)))
  let offs := ins.filterMap (fun d =>
    let m := (((List.range 16).zip d.ports).filter (fun x => out.contains x.2.serial && fld x.2.status 2 0 == 3)).foldl (fun m x => m + 2 ^ x.1) 0
    if m = 0 then none else some (s.reach none d 0x12 (leBytes 2 0 ++ leBytes 2 m)))
  [.send assign, .send offs]

/-- Discovery is over (R468 to R471): devices are placed, those that break a check are excluded with event 0xB04, and what follows is
set out: node IDs, a new plan by drain-and-swap, images for devices in network boot, and the standby's first record. -/
def State.finishDiscovery (s : State) : State :=
  let (sizes, openAxes, devs) := s.layMachine
  let s := s.each (devs.filter (fun d => d.coords.isNone)) (fun s _ => s.event 0xB04)
  let s := s.updFm (fun f => { f with discovering := false, devices := devs })
  let v := max ((s.fm.master.map RoutePlan.version).getD 0) ((s.fm.plan.map RoutePlan.version).getD 0) + 1
  let pl := planOf v sizes openAxes devs
  let old := (s.fm.master.map RoutePlan.lost).getD []
  let s := s.each (pl.lost.filter (fun l => !old.contains l)) (fun s _ => s.event 0xB05)
  let same := match s.fm.master with | some m => m.sameAs pl | none => false
  let swap := if same then [] else [FmStage.swap pl]
  let images := if s.fm.netBoots.isEmpty then [] else s.imageStages pl
  let standby := match s.fm.second.bind (fun c => devs.find? (fun d => d.serial = c.serial && d.coords.isSome)) with
    | some d => if s.standbyKnown then [] else
        [FmStage.send [{ s.reach none d 3 (leBytes 8 s.fm.logNo ++ (Config.changeBytes 0xFFFFF pl.bytes s.fm.jobs).take 856) with sends := 1 }]]
    | none => []
  s.updFm (fun f => { f with todo := f.todo ++ s.assignStages sizes devs ++ swap ++ images ++ standby, netBoots := [] })

/-- The primary goes on for as long as nothing is outstanding. -/
def State.pump : Nat → State → State
  | 0, s => s
  | fuel + 1, s =>
    if s.role != 3 || !s.fm.idle then s
    else if s.fm.discovering then State.pump fuel s.finishDiscovery
    else match s.fm.swap with
      | some w => if w.step = 4 ∨ w.step = 7 then s else State.pump fuel (s.advanceSwap w)
      | none => match s.fm.todo with
        | [] => s
        | st :: rest => State.pump fuel ((s.updFm (fun f => { f with todo := rest })).runStage st)

/-- The pump with as many turns as there are stages, and those of a swap. -/
def State.goOn (s : State) : State := State.pump (s.fm.todo.length + 64) s

/-! ### Responses (R464, R465) -/

/-- The device that a request goes to. -/
def State.reqDevice (s : State) (r : MgmtReq) : Option FmDevice :=
  let sizes := match s.fm.swap with | some w => w.plan.sizes | none => (s.fm.master.map RoutePlan.sizes).getD []
  match r.path with
  | .node n => s.fm.members.find? (fun d => d.nodeIn sizes = n)
  | .link 16 => s.fm.devices.find? (fun d => d.route.isEmpty)
  | .link p => s.fm.devices.find? (fun d => d.route = p :: r.msg.hops.drop 1)

/-- A request has failed, or has been answered with a status that is not 0. -/
def State.requestFailed (s : State) (r : MgmtReq) : State :=
  let s := s.changeOver r
  if r.msg.type = 3 then s.replicated false 0
  else if s.fm.swap.isSome ∧ 0x20 ≤ r.msg.type ∧ r.msg.type ≤ 0x26 then
    (match s.fm.swap with | some w => if w.step = 6 then s else s.abortSwap | none => s)
  else if 0x30 ≤ r.msg.type ∧ r.msg.type ≤ 0x33 then
    s.updFm (fun f => { f with failed := f.todo.any (fun st => match st with | .carved .. => true | _ => false) })
  else s

/-- What the response to a request tells the primary. -/
def State.requestDone (s : State) (r : MgmtReq) (m : Mgmt) (net : Bool) : State :=
  if m.status ≠ 0 then (s.seeTerm m.term).requestFailed r
  else if r.msg.type = 0x10 then
    let route := match r.path with | .link p => p :: r.msg.hops.drop 1 | .node _ => []
    let d := deviceOfBody route m.body
    if s.fm.devices.any (fun e => e.serial = d.serial) then s
    else
      let s := s.updFm (fun f => { f with devices := f.devices ++ [d], netBoots := if net then f.netBoots ++ [d.serial] else f.netBoots })
      s.askFrom d
  else if r.msg.type = 0x21 then
    match s.fm.swap, s.reqDevice r with
    | some w, some d =>
      let n := d.nodeIn w.plan.sizes
      if (List.range 3).all (fun k => bodyNat m.body (4 * k) 4 == w.plan.kindCount n k) then s
      else s.updSwap (fun w => { w with batches := w.batches ++ w.plan.messages.map (fun x => [s.reach none d x.1 x.2]) })
    | _, _ => s
  else if r.msg.type = 0x24 then (if bodyNat m.body 0 8 = 0 then s else s.updSwap (fun w => { w with open_ := true }))
  else if r.msg.type = 3 then
    let s := if s.standbyKnown then s else match s.reqDevice r with
      | some d => s.setStandby (some (d.nodeIn ((s.fm.master.map RoutePlan.sizes).getD [])))
      | none => s
    s.replicated true r.msg.mseq
  else if recordChange r.msg.type then s.changeOver r
  else s

/-- The first response of a type is taken, when it answers a request or a report of this device. -/
def State.takeResponse (s : State) (type : Nat) (net : Bool) : State :=
  match s.fm.inbox.find? (fun e => e.2.2.type = type && natBit e.2.2.flags 0) with
  | none => s
  | some e =>
    let m := e.2.2
    let s := s.updFm (fun f => { f with inbox := f.inbox.erase e })
    if type = 0x40 then s.updFm (fun f => { f with reports := f.reports.filter (fun r => r.msg.mseq ≠ m.mseq) })
    else match s.fm.reqs.find? (fun r => r.msg.mseq = m.mseq ∧ r.msg.type = type) with
      | none => s
      | some r => ((((s.updFm (fun f => { f with reqs := f.reqs.erase r })).requestDone r m net)).flushQueue).goOn

/-! ### Reports (R475, R485) -/

/-- A port of a device, and the port at its far end, as up or down in the primary's record. -/
def State.markPort (s : State) (n p : Nat) (up : Bool) : State :=
  let sizes := (s.fm.master.map RoutePlan.sizes).getD []
  let far := (s.fm.members.find? (fun d => d.nodeIn sizes = n)).bind (fun d => d.ports[p]?)
  let set := fun (d : FmDevice) (i : Nat) => { d with ports := d.ports.modify i (fun x => { x with
    status := if up then setFld (setFld x.status 2 0 3) 6 6 1 else setFld x.status 2 0 6 }) }
  s.updFm (fun f => { f with devices := f.devices.map (fun d =>
    let d := if d.coords.isSome ∧ d.nodeIn sizes = n then set d p else d
    match far with
    | some x => if d.serial = x.serial then set d x.port else d
    | none => d) })

/-- Circuits of a job that pass a port, out of it or in by it. -/
def FmJob.through (j : FmJob) (n p : Nat) : List FmCircuit := j.circuits.filter (fun c => c.hops.any (fun h => h.node = n ∧ (h.out = p ∨ h.inp = p)))

/-- Replacement circuits on the remaining ports (R485 step 3): each that fits is installed, and the groups are written again. -/
def State.replaceCircuits (s : State) (pl : RoutePlan) (n p : Nat) : State :=
  s.each s.fm.jobs (fun s j =>
    let gone := j.through n p
    if gone.isEmpty then s
    else
      let kept := j.circuits.filter (fun c => !gone.contains c)
      let wanted := (j.groups.zipIdx.flatMap (fun g => wantedCircuits s.fm pl j g.2 g.1)).filter (fun w =>
        gone.any (fun c => c.group = w.1.group ∧ c.rank = w.1.rank ∧ c.up = w.1.up ∧ c.srcClx = w.1.srcClx))
      let others := s.fm.circuits j.tag
      let new := wanted.foldl (fun (acc : List FmCircuit) w =>
        match planCircuit s.fm pl (others ++ (kept ++ acc).map (fun c => (j.tag, c))) j.tag w.1 w.2.1 w.2.2 with
        | some c => acc ++ [c]
        | none => acc) []
      let j2 := { j with circuits := kept ++ new }
      let stages := s.circuitStages pl j.tag new j2.circuits false ++ [s.groupStage pl j2 false]
      (s.updJob j.tag (fun _ => j2)).updFm (fun f => { f with todo := f.todo ++ stages }))

/-- Groups are planned anew after a change of plan (R485 step 4): a job whose groups change is taken down but for its domains and set up
again; one whose members no longer all reach one another is reported. -/
def State.regroup (s : State) (pl : RoutePlan) : State :=
  s.each s.fm.jobs (fun s j =>
    let s := s.cond (!reachesAll pl j.members) (fun s => s.updFm (fun f => { f with notices := f.notices ++ [.jobSplit j.tag] }))
    if planGroups pl j = j.groups then s
    else
      let j2 := (planJob s.fm pl j).getD { j with groups := planGroups pl j, circuits := [] }
      let down := s.groupStage pl j true :: s.circuitStages pl j.tag j.circuits j.circuits true
      let up := s.circuitStages pl j.tag j2.circuits j2.circuits false ++ [s.groupStage pl j2 false]
      (s.updJob j.tag (fun _ => j2)).updFm (fun f => { f with todo := f.todo ++ down ++ up }))

/-- What the primary does on a report from a node (R479, R485). -/
def State.onReport (s : State) (n : Nat) (b : List Byte) : State :=
  let code := bodyNat b 0 2
  let p := bodyNat b 2 1
  match s.fm.master with
  | none => s
  | some pl =>
    match s.fm.members.find? (fun d => d.nodeIn pl.sizes = n) with
    | none => s
    | some d =>
      let dir := d.entry p
      let link := if dir % 2 = 0 then (n, dir) else (pl.next n dir, dir - 1)
      if code = 0x406 then
        let s := s.markPort n p false
        let left := match s.fm.members.find? (fun d => d.nodeIn pl.sizes = n) with | some d => !(d.upPorts dir).isEmpty | none => false
        if 8 ≤ dir then s
        else if left then s.replaceCircuits pl n p
        else if pl.lost.contains link then s
        else
          let new := { pl with version := pl.version + 1, lost := pl.lost ++ [link] }
          ((s.event 0xB05).updFm (fun f => { f with todo := f.todo ++ [.swap new] })).regroup new
      else if code = 0x40C then
        let far := d.ports[p]?
        let s := s.markPort n p true
        let en := fun (d : FmDevice) (i : Nat) => s.reach none d 0x12 (leBytes 2 (2 ^ i) ++ leBytes 2 0)
        let peer := far.bind (fun x => (s.fm.members.find? (fun e => e.serial = x.serial)).map (fun e => en e x.port))
        let s := s.updFm (fun f => { f with todo := f.todo ++ [.send (en d p :: peer.toList)] })
        if pl.lost.contains link then
          let new := { pl with version := pl.version + 1, lost := pl.lost.filter (· ≠ link) }
          (s.updFm (fun f => { f with todo := f.todo ++ [.swap new] })).regroup new
        else s
      else if code = 0x407 then (if s.fm.discovering then s else s.startDiscovery)
      else if code = 0x702 then s.updFm (fun f => { f with jobs := f.jobs.map (fun j =>
        if j.tag = bodyNat b 4 8 then { j with members := j.members.filter (fun m => m ≠ (n, p)) } else j) })
      else s

end Sys2Proof.Machine
end

