-- ==== Sys2Proof/Machine/FabricCmds.lean ====
section
/-!
DEFINITION. The commands of fabric management (11_fabric_management.md R463 to R485; 12_host_interface.md R511;
13_firmware_mailboxes.md R570 to R572): messages, the election, the manager's timers, image distribution and jobs.
-/
namespace Sys2Proof.Machine

/-! ### Messages and their repetition (R463, R465) -/

/-- MGMT (R463): FAB takes the first message of its ring, and sends it on by its hop list or keeps it for itself. -/
def execMgmt (s : State) : Result :=
  .next (
    let s := { s with answer := .none }
    match s.router.ring with
    | [] => s
    | e :: rest =>
      if !s.domOn 24 then s
      else
        let s := s.updRouter (fun r => { r with ring := rest })
        if e.2.op ≠ 0x20 then s.count (Reg.rtrDrop 6) 1
        else if !mgmtWhole e.2.payload then s
        else
          let m := Mgmt.ofBytes e.2.payload
          match m.relay e.1 with
          | some r => s.sendLink r.1 r.2
          | none => s.updFm (fun f => { f with inbox := f.inbox ++ [(e.1, e.2.src, m)] }))

/-- MGMT_RETRANSMIT (R465): 2 ms have passed without a response to the request of that number: it is sent again, or has failed after eight
transmissions, event 0xB09. -/
def execMgmtRetransmit (mseq : BitVec 32) (s : State) : Result :=
  .next (
    let s := { s with answer := .none }
    match s.fm.reqs.find? (fun r => r.msg.mseq = mseq.toNat) with
    | none => s
    | some r =>
      if r.sends < 8 then
        (s.updFm (fun f => { f with reqs := f.reqs.map (fun x => if x = r then { x with sends := x.sends + 1 } else x) })).sendMgmt r.path r.msg
      else (((s.updFm (fun f => { f with reqs := f.reqs.erase r })).event 0xB09).requestFailed r).flushQueue.goOn)

/-! ### The election and the standby (R466, R467) -/

/-- ELECT_TIMER (R466): 100 ms have passed. -/
def execElectTimer (s : State) : Result :=
  .next (
    let s := { s with answer := .none }
    if s.domOn 24 then s.electNow.sendElect else s)

/-- CANDIDATE_EXPIRE (R466): a candidate that a port has not named for 1 s is forgotten. -/
def execCandidateExpire (serial : W64) (p : Fin 16) (s : State) : Result :=
  .next (
    let s := { s with answer := .none }
    if s.domOn 24 then
      (s.updFm (fun f => { f with cands := f.cands.filter (fun c => !(c.serial == serial && c.port == p.val)) })).electNow
    else s)

/-- This device becomes primary (R466, R467) with the next term: the record is what it knows, its agent's plan unless a swap was under way,
and discovery begins. -/
def State.becomePrimary (s : State) (code : Nat) : State :=
  let swapping := s.rdB Reg.hubFmHoldCtrl 0 || s.fm.log.any (fun e => e.2.msg.type == 0x20)
  let s := ((s.wr Reg.hubFmTerm (BitVec.ofNat 64 (s.fmTerm + 1))).setRole 3).event code
  let s := (s.cond s.nodeValid (fun s => s.setPrimary s.node)).setStandby none
  let resend := (s.fm.log.filter (fun e => recordChange e.2.msg.type)).map Prod.snd
  let s := s.updFm (fun f => { f with
    master := if swapping then none else f.plan, queue := resend, reqs := [], held := [], replicating := false, log := [], todo := [],
    swap := none, failed := false })
  (s.sendElect.startDiscovery).goOn

/-- ELECTION_STABLE (R466): best and second-best have not changed for 1 s; a device that is its own best becomes primary. -/
def execElectionStable (s : State) : Result :=
  .next (
    let s := { s with answer := .none }
    if !s.domOn 24 then s
    else
      let s := s.wrB Reg.hubFmStatus 2 true
      let mine : Bool := match s.fm.best with | some c => c.port == 16 | none => false
      if mine ∧ s.role ≠ 3 then s.becomePrimary 0xB01 else s)

/-- BEAT_TIMER (R467): 10 ms have passed: the primary sends BEAT to its standby. -/
def execBeatTimer (s : State) : Result :=
  .next (
    let s := { s with answer := .none }
    if s.role = 3 ∧ s.standbyKnown then
      let (k, s) := s.nextMseq
      let m : Mgmt := { type := 2, mseq := k, term := s.fmTerm % 2 ^ 32, machine := (s.rd Reg.hubFmMachine).toNat,
                        body := leBytes 8 s.fmTerm ++ leBytes 4 s.fm.answered }
      s.sendMgmt (.node (s.rdF Reg.hubFmPeers 51 32)) m
    else s)

/-- STANDBY_TAKEOVER (R467): a standby has heard no BEAT for 100 ms. -/
def execStandbyTakeover (s : State) : Result :=
  .next (
    let s := { s with answer := .none }
    if s.role = 2 then s.becomePrimary 0xB02 else s)

/-- The first message of a type that is not a request leaves the inbox (R464). -/
def State.takeNotice (s : State) (type : Nat) : State × Option (Nat × Nat × Mgmt) :=
  match s.fm.inbox.find? (fun e => e.2.2.type = type && !natBit e.2.2.flags 0) with
  | none => (s, none)
  | some e => (s.updFm (fun f => { f with inbox := f.inbox.erase e }), some e)

/-- ELECT (R466): the candidates that a neighbour names, and the highest term. -/
def execElect (s : State) : Result :=
  .next (
    let s := { s with answer := .none }
    match s.takeNotice 1 with
    | (s, none) => s
    | (s, some e) =>
      let s := s.seeTerm (bodyNat e.2.2.body 29 8)
      let l := electCands e.1 e.2.2.body s.fuses.serial
      (s.updFm (fun f => { f with
        cands := f.cands.filter (fun c => !(c.port == e.1 && l.any (fun x => x.serial == c.serial))) ++ l })).electNow)

/-- BEAT (R467): the primary lives; the standby drops the changes that have been answered. -/
def execBeat (s : State) : Result :=
  .next (
    let s := { s with answer := .none }
    match s.takeNotice 2 with
    | (s, none) => s
    | (s, some e) =>
      let t := bodyNat e.2.2.body 0 8
      let a := bodyNat e.2.2.body 8 4
      if t < s.fmTerm then s
      else
        let s := (s.seeTerm t).setPrimary e.2.1
        let s := s.cond (s.role != 3) (fun s => s.setRole 2)
        s.updFm (fun f => { f with answered := a, log := f.log.filter (fun x => a < x.1) }))

/-! ### Requests of the manager and their responses (R464) -/

/-- The first message of a request's type: a response goes to the request that it answers, a request to the agent. -/
def State.message (s : State) (type : Nat) (whole : Mgmt → Bool) (f : State → Nat → Nat → Mgmt → State × Nat × List Byte)
    (net : Bool := false) : Result :=
  .next (
    let s := { s with answer := .none }
    if s.responseFirst type then s.takeResponse type net else s.agentTakes type whole f)

/-- Whether a body has exactly a number of bytes. -/
def bodyIs (n : Nat) (m : Mgmt) : Bool := m.body.length == n

/-- REPLICATE (R467). -/
def execReplicate (s : State) : Result :=
  s.message 3 (fun m => decide (8 ≤ m.body.length)) (fun s _ _ m => (s.agentReplica m, 0, []))

/-- QUERY (R464); `net`: the answering device reports a network boot (R571). -/
def execQuery (net : Bool) (s : State) : Result :=
  s.message 0x10 (bodyIs 0) (fun s _ _ _ => (s, 0, s.queryBody)) net

/-- ASSIGN (R462, R470); the primary's own agent makes the primary known. -/
def execAssign (s : State) : Result :=
  s.message 0x11 (bodyIs 12) (fun s _ _ m =>
    let r := s.agentAssign m
    (r.1.cond (r.2 == 0 && r.1.role == 3) (fun s => s.setPrimary s.node), r.2, []))

/-- PORT_EN (R464). -/
def execPortEn (s : State) : Result := s.message 0x12 (bodyIs 4) (fun s _ _ m => (s.agentPorts m, 0, []))

/-- PLAN (R471). -/
def execPlan (s : State) : Result := s.message 0x20 (fun m => decide (8 ≤ m.body.length)) (fun s _ _ m => (s.agentPlan m, 0, []))

/-- EXPAND (R472). -/
def execExpand (s : State) : Result := s.message 0x21 (bodyIs 4) (fun s _ _ m => s.agentExpand m)

/-- ENTRY (R473): at most 121 entries. -/
def execEntry (s : State) : Result :=
  s.message 0x22 (fun m => decide (bodyNat m.body 4 4 ≤ 121) && m.body.length == 8 + 8 * bodyNat m.body 4 4) (fun s _ _ m => (s.agentEntries m, 0, []))

/-- HOLD (R477, R478). -/
def execFmHold (s : State) : Result :=
  s.message 0x23 (fun m => decide (12 ≤ m.body.length ∧ m.body.length ≤ 972)) (fun s _ _ m => (s.agentHold m, 0, []))

/-- DRAIN (R477). -/
def execDrain (s : State) : Result := s.message 0x24 (bodyIs 4) (fun s _ _ _ => (s.agentDrain.1, 0, s.agentDrain.2))

/-- FLIP (R477): RTR_RT_EPOCH.bank is written. -/
def execFlip (s : State) : Result := s.message 0x25 (bodyIs 5) (fun s _ _ m => (s.setBank (bodyNat m.body 4 1 % 2), 0, []))

/-- RESUME (R477). -/
def execResume (s : State) : Result := s.message 0x26 (bodyIs 4) (fun s _ _ _ => (s.agentResume, 0, []))

/-- DOMAIN (R608). -/
def execDomain (s : State) : Result :=
  s.message 0x30 (bodyIs 4) (fun s _ _ m => ((s.agentDomain m).1, (s.agentDomain m).2, []))

/-- GROUP (R430, R432). -/
def execGroup (s : State) : Result :=
  s.message 0x31 (bodyIs 0x142) (fun s _ _ m => ((s.agentGroup m).1, (s.agentGroup m).2, []))

/-- CIRCUIT (R409, R410, R464): at most 60 writes. -/
def execCircuit (s : State) : Result :=
  s.message 0x32 (fun m => decide (m.body.length ≤ 720) && m.body.length % 12 == 0) (fun s _ _ m => (s.agentCircuits m, 0, []))

/-- TABLES (R464): at most 60 writes. -/
def execTables (s : State) : Result :=
  s.message 0x33 (fun m => decide (m.body.length ≤ 720) && m.body.length % 12 == 0) (fun s _ _ m => (s.agentTables m, 0, []))

/-! ### Reports (R465, R475, R479, R485) -/

/-- REPORT (R464, R465): the primary acknowledges an agent's report with an empty response and acts on it once; the agent takes the
acknowledgement of its own. -/
def execReport (s : State) : Result :=
  .next (
    let s := { s with answer := .none }
    if s.responseFirst 0x40 then s.takeResponse 0x40 false
    else match s.takeNotice 0x40 with
      | (s, none) => s
      | (s, some e) =>
        let (arrival, src, m) := e
        if s.role ≠ 3 then s
        else match s.fm.kept.find? (fun k => k.1 = senderKey arrival src m && k.2.1 = m.mseq) with
          | some k => s.sendMgmt (.node src) k.2.2
          | none => if m.body.length ≠ 12 then s.respond arrival src m 4 [] else ((s.respond arrival src m 0 []).onReport src m.body).goOn)

/-- REPORT_REPEAT (R465): every 2 ms the reports without acknowledgement go to the primary. -/
def execReportRepeat (s : State) : Result :=
  .next (
    let s := { s with answer := .none }
    if s.domOn 24 ∧ s.primaryKnown then
      s.each s.fm.reports (fun s r => s.sendMgmt (.node (s.rdF Reg.hubFmPeers 19 0)) r.msg)
    else s)

/-! ### Timers of the manager (R477, R479, R482) -/

/-- DRAIN_SETTLE (R477): 500 µs after the last zero the primary sends FLIP. -/
def execDrainSettle (s : State) : Result :=
  .next (
    let s := { s with answer := .none }
    match s.fm.swap with
    | some w =>
      if s.role = 3 ∧ w.step = 4 then
        (s.updSwap (fun w => { w with step := 5, batches := [s.toAll none 0x25 (leBytes 4 w.number ++ leBytes 1 w.bank)] })).goOn
      else s
    | none => s)

/-- DRAIN_OVERRUN (R479): the drain has not ended within 50 ms. -/
def execDrainOverrun (s : State) : Result :=
  .next (
    let s := { s with answer := .none }
    match s.fm.swap with
    | some w => if s.role = 3 ∧ w.step = 3 then s.abortSwap.goOn else s
    | none => s)

/-- SWAP_RETRY (R479): 1 s after an abort the swap starts again. -/
def execSwapRetry (s : State) : Result :=
  .next (
    let s := { s with answer := .none }
    match s.fm.swap with
    | some w =>
      if s.role = 3 ∧ w.step = 7 then
        (s.updSwap (fun w => { w with
          step := 1, aborting := false, open_ := false, batches := w.plan.messages.map (fun m => s.toAll none m.1 m.2) })).goOn
      else s
    | none => s)

/-- TAG_REUSE_TIMER (R482): 100 ms after the last release of a tag was answered it is free again. -/
def execTagReuseTimer (tag : BitVec 12) (s : State) : Result :=
  .next (({ s with answer := .none } : State).updFm (fun f => { f with retiredTags := f.retiredTags.filter (fun t => t ≠ tag.toNat) }))

/-! ### Image distribution (R570 to R572) -/

/-- The directions in which a message that came by a port goes on (R572). -/
def State.treeDirs (s : State) (arrival : Nat) : List Nat :=
  let e := s.planEntry arrival
  let i := e / 2
  let k := fun (j : Nat) => s.fm.sizes[j]?.getD 1
  let c := fun (j : Nat) => s.fm.coords[j]?.getD 0
  let isOpen : Nat → Bool := fun j => match s.fm.plan with | some pl => pl.openAxes[j]?.getD false | none => false
  let fmAt := fun (j : Nat) => (nodeCoords s.fm.sizes (s.rdF Reg.hubFmPeers 19 0))[j]?.getD 0
  if 8 ≤ e then []
  else
    let along := if e % 2 = 1 then
        (if isOpen i then (if c i + 1 < k i then [2 * i] else []) else if (c i + 1) % max 1 (k i) = fmAt i then [] else [2 * i])
      else if isOpen i ∧ 0 < c i then [2 * i + 1] else []
    let later := ((List.range 4).filter (fun j => i < j && decide (2 ≤ k j))).flatMap (fun j =>
      if isOpen j then (if c j + 1 < k j then [2 * j] else []) ++ (if 0 < c j then [2 * j + 1] else []) else [2 * j])
    along ++ later

/-- A message of the image goes on along the tree. -/
def State.forward (s : State) (arrival : Nat) (m : Mgmt) : State :=
  let ports := (s.treeDirs arrival).filterMap (fun d => (s.dirPorts d).find? s.fabricUp)
  (s.updFm (fun f => { f with queue := f.queue ++ ports.map (fun p =>
    { path := .link p, msg := { type := m.type, flags := 2, hops := [0xFF], hptr := 1, body := m.body } }) })).flushQueue

/-- IMG_OFFER (R570, R571): a device in network boot makes ready for the bundle. -/
def execImgOffer (s : State) : Result :=
  s.message 0x50 (bodyIs 72) (fun s arrival _ m =>
    let n := bodyNat m.body 4 4
    let s := s.cond (s.fw.netBoot && decide (n ≤ 0x2000000)) (fun s => { s with fw := { s.fw with
      netVersion := bodyNat m.body 0 4, netLength := n, netDigest := m.body.drop 8, netBytes := [] } })
    (s.forward arrival m, 0, []))

/-- IMG_DATA (R571, R572): a device in network boot stores the fragment. -/
def execImgData (s : State) : Result :=
  s.message 0x51 (fun m => decide (8 ≤ m.body.length ∧ m.body.length ≤ 968)) (fun s arrival _ m =>
    let off := bodyNat m.body 4 4
    let b := m.body.drop 8
    let s := s.cond (s.fw.netBoot && bodyNat m.body 0 4 == s.fw.netVersion && decide (off + b.length ≤ s.fw.netLength)) (fun s =>
      { s with fw := { s.fw with netBytes := s.fw.netBytes.setRun off b } })
    (s.forward arrival m, 0, []))

/-- The bundle that network boot has received is complete (R570): FAB writes it to a slot, and when the SEC has verified it bring-up continues
from it, event 0x80A; a bundle that does not verify is event 0x801, and network boot goes on. -/
def State.netDone (s : State) : State :=
  let x := if s.pwr.bootSel = 1 then 0 else s.activeSlot
  let b := s.fw.netBytes.getRun 0 s.fw.netLength
  let r := (s.writeSlot x b).checkSlot x
  if r.2 ∧ (b.drop 0x100).take 64 = s.fw.netDigest then
    let s := r.1
    let s : State := { s with
      config := s.config.store (fun c => { c with slot := x, trial := false, attempts := 0 })
      fw := { s.fw with netBoot := false, netBytes := [] } }
    ((s.wrB Reg.pmcBoot 6 true).event 0x80A).startSec x
  else r.1.event 0x801

/-- IMG_DONE (R570, R571). -/
def execImgDone (s : State) : Result :=
  s.message 0x52 (bodyIs 4) (fun s arrival _ m =>
    let s := s.forward arrival m
    (s.cond (s.fw.netBoot && bodyNat m.body 0 4 == s.fw.netVersion && decide (0 < s.fw.netLength)) State.netDone, 0, []))

/-! ### Jobs (R481 to R484, R507, R511) -/

/-- The member of a request block (R511). -/
def jobMember (b : List Byte) (i : Nat) : Nat × Nat :=
  let w := bodyNat b (0x10 + 4 * i) 4
  (w % 2 ^ 20, natFld w 20 2)

/-- Whether a job request block is as R511 has it. -/
def jobBlockGood (b : List Byte) : Bool :=
  let n := bodyNat b 0 4
  let a := bodyNat b 4 1
  decide (2 ≤ n ∧ n ≤ 524288) && b.length == 0x10 + 4 * n && decide (a < 64) && bodyNat b 5 3 == 0 && bodyNat b 12 4 == 0
    && (natBit a 4 || !natBit a 5) && (!natBit a 4 || decide (n ≤ 64))
    && (List.range 4).all (fun i => decide (bodyNat b (8 + i) 1 ≤ 56))
    && (List.range n).all (fun i => decide (bodyNat b (0x10 + 4 * i) 4 < 2 ^ 22))
    && ((List.range n).map (jobMember b)).eraseDups.length == n

/-- The job that a block asks for, with the lowest free tag, its groups and circuits; none when the primary refuses it (R481). -/
def State.planCarve (s : State) (b : List Byte) : Option FmJob :=
  match s.fm.master, firstFrom (fun t => !s.fm.retiredTags.contains (t + 1) && !s.fm.jobs.any (fun j => j.tag = t + 1)) 4095 0 with
  | some pl, some t =>
    let ms := (List.range (bodyNat b 0 4)).map (jobMember b)
    let free := ms.all (fun m => !s.fm.jobs.any (fun j => j.members.contains m) && s.fm.members.any (fun d => d.nodeIn pl.sizes = m.1))
    let j : FmJob := { tag := t + 1, members := ms, axes := bodyNat b 4 1, units := (List.range 4).map (fun i => bodyNat b (8 + i) 1) }
    if free && reachesAll pl ms then planJob s.fm pl j else none
  | _, _ => none

/-- JOB_CARVE (R481, R484, R511): the block as the host answers the read of it; refused with 0x0011 and event 0xB08. -/
def execJobCarve (h : Fin 2) (host : HostData) (s : State) : Result :=
  .next (s.withCmd h 0 0x41 (fun s c _ =>
    let refuse := fun (s : State) => (s.event 0xB08).finish h 0 c 0x11
    if !(host.ok && host.data.length == c.par 16 4) then (s.hostFailed h 0 host.reason (c.par 8 8)).finish h 0 c 0xF
    else if !jobBlockGood host.data then s.finish h 0 c 1
    else if s.role ≠ 3 then refuse s
    else match s.fm.master, s.planCarve host.data with
      | some pl, some j =>
        let s := s.updFm (fun f => { f with jobs := f.jobs ++ [j] })
        let l := s.domainStage pl j true :: (s.circuitStages pl j.tag j.circuits j.circuits false ++ [s.groupStage pl j false, .carved h c.entry j.tag])
        ((s.updFm (fun f => { f with todo := f.todo ++ l })).setStage h 0 c .running).goOn
      | _, _ => refuse s))

/-- JOB_RELEASE (R482): the job is taken down and its domain released; refused when this device is not primary or has no such job. -/
def execJobRelease (h : Fin 2) (s : State) : Result :=
  .next (s.withCmd h 0 0x42 (fun s c _ =>
    let tag := c.par 8 2
    match s.fm.master, s.fm.jobs.find? (fun j => j.tag = tag) with
    | some pl, some j =>
      if s.role ≠ 3 then (s.event 0xB08).finish h 0 c 0x11
      else
        let l := s.teardown pl j ++ [.released h c.entry tag]
        ((s.updFm (fun f => { f with todo := f.todo ++ l })).setStage h 0 c .running).goOn
    | _, _ => (s.event 0xB08).finish h 0 c 0x11))

end Sys2Proof.Machine
end

