-- ==== Sys2Proof/Machine/PowerCmds.lean ====
section
/-!
DEFINITION. The commands of budgets, emergencies, domains, power states, PMC_RESET and the management bus
(15_bringup_reset_power.md R617 to R634; 01_module_floor_plan.md R48 to R53, R63; 03 R146, R147).
-/
namespace Sys2Proof.Machine

/-! ### Clock stretching (R628, R629) -/

/-- A partition's demands change, and PMC_PART follows. -/
def State.updDemand (s : State) (p : Nat) (f : Demand → Demand) : State :=
  (s.updPwr (fun w => { w with demands := w.demands.upd p f })).syncPmcPart p

/-- The sensor groups of a partition: its dies and their stacks (R629, R635). -/
def State.partSensors (s : State) (p : Nat) : List Nat :=
  (s.partDies p).flatMap (fun d => d :: (dieStacks d).map (· + 5))

/-- JUNCTION_THROTTLE (R37, R629): one tick with the temperatures of the 17 groups; `cool`: partitions whose junctions have been below 92
degrees C for 10 ms. -/
def execJunctionThrottle (temps : List (BitVec 8)) (cool : BitVec 4) (s : State) : Result :=
  .next (
    let s := { s with answer := .none }
    if !s.pwr.vaux then s
    else
      let s := (s.each (temps.take 17).zipIdx (fun s t => s.readTherm t.2 t.1.toNat)).syncWarn
      s.each ((List.range 4).filter s.partExists) (fun s p =>
        let ts := (s.partSensors p).map (fun j => (j, s.rdF (Reg.pmcTherm j) 7 0))
        let x := (s.pwr.demands.get p).junction
        match ts.find? (fun t => 95 ≤ t.2) with
        | some t =>
          let s := s.cond (x == 0) (fun s => s.event 0x201 (.sensor t.1) 0 (some p))
          s.updDemand p (fun d => { d with junction := min 960 (d.junction + 8) })
        | none =>
          if cool.getLsbD p && ts.all (fun t => decide (t.2 < 92)) && decide (0 < x) then
            let s := s.updDemand p (fun d => { d with junction := d.junction - 8 })
            s.cond (decide (x ≤ 8)) (fun s => s.event 0x202 .none 0 (some p))
          else s))

/-- DROOP_DETECT (R147, R628, R640): the droop detector of a die fires, and its partition is stretched by at least 64 until the next
tick. -/
def execDroopDetect (d : Fin 4) (s : State) : Result :=
  .next (
    let s := { s with answer := .none }
    let p := s.partOfDie d
    if s.rdB Reg.secPartMap (8 + d) && s.partExists p && s.powered then
      (s.updDemand p (fun x => { x with droop := 64 })).count (Reg.pmcPartW1 p) 1
    else s)

/-- A move of the budget controller (R628): the stretch rises when the average is above the budget, and otherwise moves as the
controller chooses, by at most 16. -/
def State.budgetMove (s : State) (b : BudgetMove) : State :=
  let p := b.part.val
  if !s.partExists p then s
  else
    let above := decide (s.budgetOf p < b.watts.val)
    let step := if above then max 1 b.amount.val else b.amount.val
    let s := s.wrF (Reg.pmcPartW0 p) 26 16 b.watts.val
    s.updDemand p (fun d => { d with
      budget := if above || b.raise then min 960 (d.budget + step) else d.budget - step
      droop := 0 })

/-- BUDGET_TICK (R626 to R628, R631, R639, R640, R643): a control tick with the input power's average and largest sample, VIN_48, and what
each partition draws. A limit that waits takes effect; the emergency demand falls when no emergency is active. `bad`: PMC_LIMIT and its
complement disagree at this use. -/
def execBudgetTick (avg peak : Fin 2048) (vin : BitVec 10) (moves : List BudgetMove) (bad : Bool) (s : State) : Result :=
  .next (
    let s := { s with answer := .none }
    if !s.pwr.vaux then s
    else
      let s := match s.pwr.limitNext with
        | some w => (s.cpCommit Reg.pmcLimit (BitVec.ofNat 64 w)).updPwr (fun x => { x with limitNext := none })
        | none => s
      let s := s.cond bad (fun s => s.mismatchAt Reg.pmcLimit)
      let s := (s.wrF Reg.pmcPwrIn 10 0 avg.val).wrF Reg.pmcPwrIn 26 16 (max (s.rdF Reg.pmcPwrIn 26 16) peak.val)
      let s := s.wrF Reg.pmcPwrIn 41 32 vin.toNat
      let s := s.cond (!s.emergencyNow) (fun s => s.updPwr (fun w => { w with emergency := w.emergency - 64 }))
      (s.each moves State.budgetMove).each (List.range 4) State.syncPmcPart)

/-! ### Emergencies (R630 to R632, R566) -/

/-- EMERGENCY_BEGIN (R630, R631): `thermal` or power, with the conditions that hold now (R639). An emergency of that kind that is active
only takes the conditions. A handover of the PMC under way ends as a rollback (R566). -/
def execEmergencyBegin (thermal : Bool) (cause : BitVec 4) (s : State) : Result :=
  .next (
    let s := { s with answer := .none }
    if !s.powered then s
    else
      let was := s.rdB Reg.pmcEmerg (b2n thermal)
      let s := if thermal then s.wrB Reg.pmcEmerg 6 true else s.wrF Reg.pmcEmerg 5 2 cause.toNat
      if was then s
      else
        let s := ((s.wrB Reg.pmcEmerg (b2n thermal) true).countF Reg.pmcEmerg 31 16 1).alert 0
        let s := s.event (if thermal then 0x203 else 0x102)
        let s := (s.updPwr (fun w => { w with emergency := max 192 w.emergency })).each (List.range 4) State.syncPmcPart
        let s := s.tryActivate
        if s.updState = 5 ∧ (s.compState 2 = 3 ∨ s.fw.starting = some 2) then s.rollBack 2 true else s)

/-- EMERGENCY_ESCALATE (R631): an emergency has persisted for a further 10 ms. -/
def execEmergencyEscalate (s : State) : Result :=
  .next (
    let s := { s with answer := .none }
    if !s.emergencyNow then s
    else (s.updPwr (fun w => { w with emergency := min 960 (w.emergency + 192) })).each (List.range 4) State.syncPmcPart)

/-- EMERGENCY_END (R630 to R632). -/
def execEmergencyEnd (thermal : Bool) (s : State) : Result := .next (({ s with answer := .none } : State).emergencyOver thermal)

/-! ### Domains (R48 to R53) -/

/-- DOMAIN_SWITCH_ON (R52): refused with event 0x101 while a prerequisite is off. While the map is unusable no quadrant is switched
(R576). -/
def execDomainSwitchOn (i : Fin 38) (s : State) : Result :=
  .next (
    let s := { s with answer := .none }
    if !s.pwr.vaux then s
    else if !(domainNeeds i).all s.domOn then s.event 0x101 (.domain i)
    else if i.val < 16 ∧ !s.mapOk then s
    else s.turnOn i)

/-- DOMAIN_SWITCH_OFF (R48, R52): refused with event 0x101 while a domain that requires it is on; the domain goes off once its crossings
are `empty`. H.A, in which the PMC runs, is not switched. -/
def execDomainSwitchOff (i : Fin 38) (empty : Bool) (s : State) : Result :=
  .next (
    let s := { s with answer := .none }
    if !s.pwr.vaux then s
    else if i.val = 16 ∨ (domainUsers i).any s.domOn then s.event 0x101 (.domain i)
    else if !empty ∨ !s.domOn i ∨ (i.val < 16 ∧ !s.mapOk) then s
    else s.turnOff i)

/-! ### Power states (R622 to R627) -/

/-- Whether a request waits in PMC_STATE_REQ for a state. -/
def State.stateAsked (s : State) (req : Nat) : Bool := s.rdB Reg.pmcStateReq 2 && s.rdF Reg.pmcStateReq 1 0 == req

/-- The request ends: go clears. -/
def State.stateReqDone (s : State) : State := s.wrB Reg.pmcStateReq 2 false

/-- A request is refused (R627). -/
def State.stateRefused (s : State) : State := (s.stateReqDone.wrB Reg.pmcState 5 true).alert 1

/-- Whether a power-state request is refused (R627): the device is not in the state it needs, a reset is in progress, or a partition is
forming or releasing. -/
def State.stateBlocked (s : State) (needs : Nat) : Bool :=
  s.rdF Reg.pmcState 1 0 != needs || s.rdB Reg.pmcState 2 || s.pwr.warm
    || (List.range 4).any (fun p => (s.sec.stopping.get p).isSome || s.partState p == 1)

/-- A transition begins. -/
def State.beginTransition (s : State) (target : Nat) : State := (s.wrB Reg.pmcState 2 true).wrF Reg.pmcState 4 3 target

/-- A transition ends in a state. -/
def State.endTransition (s : State) (st : Nat) : State :=
  (((s.wrF Reg.pmcState 1 0 st).wrB Reg.pmcState 2 false).stateReqDone).alert 1

/-- The default binding of each die of a gang (R139, R142). -/
def State.defaultBinds (s : State) (q : Nat) : List (List Nat) := (s.gang q).map (fun d => bindDie (s.usableOf d) [])

/-- A partition at the end of Doze: its gang is in force again, and a context that was saved is restored, held if it was. -/
def State.wakePart (s : State) (p cycles : Nat) (binds : List (Nat × List (List Nat))) : State :=
  let s := s.formGang p (s.partDies p)
  if (s.saved.get p).isNone ∨ !natBit s.pwr.saving p then s
  else
    let bs := match binds.find? (fun b => b.1 = p) with | some b => b.2 | none => s.defaultBinds p
    (restoreContext p cycles bs s).cond (natBit s.pwr.heldBefore p) (setHold p true)

/-- The device returns to Active (R53, R625): stacks, H.Q and the quadrants come back with their stores at zero, the ports wake, contexts are
restored, and fetching resumes. `binds`: the SCH's bindings, by partition; without one, the default. -/
def State.leaveDoze (s : State) (cycles : Nat) (binds : List (Nat × List (List Nat))) : State :=
  let s := s.each (List.range 12) (fun s n => s.cond (s.rdF (Reg.stkStatus n) 2 0 == 4) (fun s => s.wrF (Reg.stkStatus n) 2 0 3))
  let s := s.turnOn 25
  let s := s.each (List.range 16) (fun s i => if s.mapOk then s.turnOn i else s)
  let s := s.each ((List.range 64).filter (fun c => s.domOn (clusterDomain c))) State.loadCcc
  let s := s.each (List.range 16) (fun s p => (s.wrB (Reg.prtCtrl p) 3 false).askWake p)
  let s := s.each ((List.range 4).filter s.partExists) (fun s p => s.wakePart p cycles binds)
  let s := s.updPwr (fun w => { w with saving := 0, heldBefore := 0, notQuiet := 0 })
  let s : State := { s with host := { s.host with stopped := false } }
  let s := ((s.endTransition 0).event 0x106).publishAll
  s.each (List.range 12) State.retryWaiting

/-- ACTIVE_REQUEST (R623, R625, R627): PMC_STATE_REQ.go with req 0. In Active it completes at once. -/
def execActiveRequest (cycles : Nat) (binds : List (Nat × List (List Nat))) (s : State) : Result :=
  .next (
    let s := { s with answer := .none }
    if !s.stateAsked 0 then s
    else if s.rdF Reg.pmcState 1 0 = 0 ∧ !s.rdB Reg.pmcState 2 then s.stateReqDone
    else if s.stateBlocked 1 then s.stateRefused
    else (s.beginTransition 0).leaveDoze cycles binds)

/-- DOZE_REQUEST (R624, R627, R549): PMC_STATE_REQ.go with req 1: fetching stops, running partitions are asked to save, and migrations
abort. -/
def execDozeRequest (s : State) : Result :=
  .next (
    let s := { s with answer := .none }
    if !s.stateAsked 1 then s
    else if s.rdF Reg.pmcState 1 0 = 1 ∧ !s.rdB Reg.pmcState 2 then s.stateReqDone
    else if s.rdB Reg.pmcState 2 ∧ s.rdF Reg.pmcState 4 3 = 1 then s
    else if s.stateBlocked 0 then s.stateRefused
    else
      let s := s.settleCmds.beginTransition 1
      let s : State := { s with host := { s.host with stopped := true } }
      let ps := (List.range 4).filter (fun p => s.partExists p && (s.seqState p == 2 || s.seqState p == 3 || s.seqState p == 4 || s.seqState p == 5))
      let held := ps.filter (fun p => s.rdB (Reg.seqCtrl p) 1)
      let bits := fun (l : List Nat) => l.foldl (fun m p => m + 2 ^ p) 0
      let s := s.updPwr (fun w => { w with saving := bits ps, heldBefore := bits held, notQuiet := 0 })
      ((s.each ps (fun s p => setHold p true s)).abortMigrations (fun _ => true)).releaseHeld)

/-- Partitions asked to save that neither are saved nor have ended. -/
def State.unsaved (s : State) : List Nat :=
  (bitsSet s.pwr.saving 4).filter (fun p => !(s.seqState p == 6 || s.seqState p ≤ 1 || s.seqState p == 7 || s.seqState p == 8))

/-- DOZE_ENTER (R622, R624, R51, R53): every partition asked is saved: the ports without circuits go quiet, the quadrants and H.Q go off,
and the stacks refresh themselves; event 0x105. -/
def execDozeEnter (s : State) : Result :=
  .next (
    let s := { s with answer := .none }
    if !(s.rdB Reg.pmcState 2 && s.rdF Reg.pmcState 4 3 == 1 && s.rdF Reg.pmcState 1 0 == 0) || !s.unsaved.isEmpty || s.pwr.notQuiet != 0 || !s.mapOk then s
    else
      let s := s.updPwr (fun w => { w with saving := ((bitsSet w.saving 4).filter (fun p => s.seqState p == 6)).foldl (fun m p => m + 2 ^ p) 0 })
      let s := s.each (List.range 16) (fun s p => s.askQuiet p)
      let s := (s.each (List.range 16) State.turnOff).turnOff 25
      let s := s.each (List.range 12) (fun s n => s.cond (s.rdF (Reg.stkStatus n) 2 0 == 3) (fun s => s.wrF (Reg.stkStatus n) 2 0 4))
      (s.endTransition 1).event 0x105)

/-- A partition that was to be saved for Doze goes on, held if it was before. -/
def State.resumePart (s : State) (p : Nat) (held : Bool) : State :=
  let s := s.cond (!held) (setHold p false)
  if s.seqState p = 6 then
    (restoreContext p 0 ((s.gang p).map s.rebind) s).cond held (setHold p true)
  else s

/-- DOZE_QUIESCE_TIMEOUT (R624): a partition has reached no commit point within 1 s: the device stays Active, what is saved is restored,
and event 0x107 names the lowest such partition. -/
def execDozeQuiesceTimeout (s : State) : Result :=
  .next (
    let s := { s with answer := .none }
    let late := s.unsaved ++ bitsSet s.pwr.notQuiet 4
    if !(s.rdB Reg.pmcState 2 && s.rdF Reg.pmcState 4 3 == 1) || late.isEmpty then s
    else
      let w := s.pwr
      let s := s.each (bitsSet w.saving 4) (fun s p => s.resumePart p (natBit w.heldBefore p))
      let s := s.updPwr (fun w => { w with saving := 0, heldBefore := 0, notQuiet := 0 })
      let s : State := { s with host := { s.host with stopped := false } }
      ((s.wrB Reg.pmcState 2 false).stateRefused).event 0x107 .none 0 late.head?)

/-- Whether a wake source is enabled (R625). -/
def State.wakeEnabled (s : State) (w : WakeSource) : Bool :=
  match w with
  | .busWrite => true
  | .hostWrite => s.rdB Reg.pmcStateReq 3
  | .vcM => s.rdB Reg.pmcStateReq 4
  | .request => s.rdB Reg.pmcStateReq 4

/-- DOZE_WAKE (R625): a wake source occurs in Doze. -/
def execDozeWake (w : WakeSource) (cycles : Nat) (binds : List (Nat × List (List Nat))) (s : State) : Result :=
  .next (
    let s := { s with answer := .none }
    if s.rdF Reg.pmcState 1 0 = 1 ∧ !s.rdB Reg.pmcState 2 ∧ s.wakeEnabled w then (s.beginTransition 0).leaveDoze cycles binds else s)

/-! ### PMC_RESET (R617 to R621) -/

/-- Whether a reset of a type is requested. -/
def State.resetAsked (s : State) (type : Nat) : Bool := s.rdB Reg.pmcReset 31 && s.rdF Reg.pmcReset 2 0 == type

/-- The request has started. -/
def State.resetStarted (s : State) : State := s.wrB Reg.pmcReset 31 false

/-- The request is refused. -/
def State.resetRefused (s : State) : State := s.resetStarted.wrB Reg.pmcReset 30 true

/-- PMC_RESET.target. -/
def State.resetTarget (s : State) : Nat := s.rdF Reg.pmcReset 13 8

/-- A request made in Doze first returns the device to Active (R621); the contexts that the reset would lose are discarded. -/
def State.awake (s : State) (lost : List Nat) : State :=
  if s.rdF Reg.pmcState 1 0 = 1 then
    let s : State := { s with saved := lost.foldl (fun t p => t.set p none) s.saved }
    (s.beginTransition 0).leaveDoze 0 []
  else s

/-- PMC_RESET_COLD (R609, R621). -/
def execPmcResetCold (s : State) : Result :=
  .next (if s.resetAsked 1 then s.coldReset.event 0xA0B else { s with answer := .none })

/-- PMC_RESET_WARM (R618, R621): it begins, or one that waits for releases goes on. `elapsed` ms have passed when it ends. -/
def execPmcResetWarm (elapsed : W32) (tests : List (Nat × Nat)) (s : State) : Result :=
  .next (
    let s := { s with answer := .none }
    if s.pwr.warm then s.resetStarted.continueWarm elapsed.toNat tests
    else if !s.resetAsked 2 then s
    else if !s.powered then s.resetRefused
    else (s.resetStarted.awake (List.range 4)).beginWarm.continueWarm elapsed.toNat tests)

/-- PMC_RESET_PARTITION (R617, R619, R621). -/
def execPmcResetPartition (tests : List (Nat × Nat)) (s : State) : Result :=
  .next (
    let s := { s with answer := .none }
    let p := s.resetTarget
    if !s.resetAsked 3 then s
    else if s.pwr.warm || (match s.sec.stopping.get p with | some k => k.reset | none => false) then s.resetStarted
    else if 3 < p ∨ !s.partExists p ∨ s.partState p ≠ 2 ∨ !s.powered then s.resetRefused
    else (s.resetStarted.awake [p]).beginStop p true tests)

/-- Whether a cluster reset is accepted (R620). -/
def State.clusterResetOk (s : State) (c : Nat) : Bool :=
  let st := (s.clusters.get c).state (s.boundIndex c).isSome
  let q := s.seqState (s.leadOf (c / 16))
  s.domOn (clusterDomain c) && (st == 1 || st == 2 || st == 3 || q ≤ 1 || q == 7 || q == 8)

/-- The configuration registers and standing orders of the engines of a virtual cluster read 0 (R620). -/
def State.clearEngines (s : State) (q u : Nat) : State :=
  s.updSeq q (fun z => { z with engines := z.engines.filter (fun e => e.1 % 1024 / 16 ≠ u) })

/-- PMC_RESET_CLUSTER (R620): `low` is what the self-test finds, bits 26:0 of HUB_FP_CLU. -/
def execPmcResetCluster (low : BitVec 27) (s : State) : Result :=
  .next (
    let s := { s with answer := .none }
    let c := s.resetTarget
    if !s.resetAsked 4 then s
    else if s.pwr.warm || (s.sec.stopping.get (s.partOfDie (c / 16))).isSome then s.resetStarted
    else
      let s := s.cond s.powered (fun s => s.awake [])
      if !s.clusterResetOk c then s.resetRefused
      else
        let s := s.resetStarted.event 0xA0A (.cluster c)
        let q := s.leadOf (c / 16)
        let s := match s.boundIndex c with
          | some j => s.clearEngines q (15 * ((s.gang q).filter (· < c / 16)).length + j)
          | none => s
        ((s.loadCcc c).selfTested c low.toNat).publishAll)

/-- PMC_RESET_PORT (R617, R621, R355). -/
def execPmcResetPort (s : State) : Result :=
  .next (
    let s := { s with answer := .none }
    let p := s.resetTarget
    if !s.resetAsked 5 then s
    else if 15 < p then s.resetRefused
    else s.resetStarted.portReset p false)

/-! ### The management bus (R633, R634) -/

/-- Whether the bus may write the word at an index (R633). -/
def busWritable (i v : Nat) : Bool :=
  i == 1 || i == 4 || i == 5 || i == 7 || i == 13 || (i == 6 && (v % 8 == 1 || v % 8 == 2))

/-- MGMT_BUS_TRANSFER (R633): a read of a PMC_ word or of HUB_ID, or an allowed write, made on the PMC's own behalf; anything else is
answered with NACK. A write of the index alone only sets it. -/
def execMgmtBusTransfer (t : BusTransfer) (s : State) : Result :=
  .next (
    let s := { s with answer := .none }
    let nack := { s with answer := .nack }
    if !s.pwr.vaux then s
    else match t with
      | .read i =>
        if i = 0x8000 then { s with answer := .data (setFld 0x4810 23 16 s.fuses.stepping) }
        else if i < 0x100 then s.csrRead .pmc (Blk.pmc + 4 * i) 4
        else nack
      | .write i b =>
        if b.isEmpty then s
        else if b.length = 4 ∧ busWritable i (leNat b) then s.csrWrite .pmc (Blk.pmc + 4 * i) 4 (BitVec.ofNat 64 (leNat b))
        else nack)

/-! ### The floor plan (R62, R63, R142) -/

/-- FLOOR_PLAN_UPDATE (R63, R65, R142). -/
def execFloorPlanUpdate (s : State) : Result :=
  .next (
    let s := { s with answer := .none }
    if s.domOn 17 && s.domOn 24 then s.publishAll else s)

end Sys2Proof.Machine
end

