-- ==== Sys2Proof/Machine/Dispatch.lean ====
section
/-!
DEFINITION. The dispatch of a command to its meaning: one arm per constructor of Instr, each a direct call.
-/
namespace Sys2Proof.Machine

/-- The effect of a command on everything but the queue. -/
def exec (i : Instr) (s : State) : Host.Outcome State Fault Refusal :=
  match i with
  | .registerWrite ag a wide v => Sys2Proof.Machine.execRegisterWrite ag a wide v s
  | .rcRead ag a wide => Sys2Proof.Machine.execRcRead ag a wide s
  | .cpRegisterWrite ag a wide v => Sys2Proof.Machine.execCpRegisterWrite ag a wide v s
  | .cpCompanionWrite ag a wide v => Sys2Proof.Machine.execCpCompanionWrite ag a wide v s
  | .complementRewrite a own => Sys2Proof.Machine.execComplementRewrite a own s
  | .coldReset cause boot addr => Sys2Proof.Machine.execColdReset cause boot addr s
  | .vauxLoss => Sys2Proof.Machine.execVauxLoss s
  | .starter held => Sys2Proof.Machine.execStarter held s
  | .pmcBringup dead => Sys2Proof.Machine.execPmcBringup dead s
  | .coreStart => Sys2Proof.Machine.execCoreStart s
  | .stackTrain n => Sys2Proof.Machine.execStackTrain n s
  | .selfTest tests => Sys2Proof.Machine.execSelfTest tests s
  | .memoryTest n fails => Sys2Proof.Machine.execMemoryTest n fails s
  | .linkGate => Sys2Proof.Machine.execLinkGate s
  | .fuseTestReconcile => Sys2Proof.Machine.execFuseTestReconcile s
  | .bootReady elapsed => Sys2Proof.Machine.execBootReady elapsed s
  | .bootStepOverrun k unit silent elapsed => Sys2Proof.Machine.execBootStepOverrun k unit silent elapsed s
  | .powerOn => Sys2Proof.Machine.execPowerOn s
  | .crustEntry good vin => Sys2Proof.Machine.execCrustEntry good vin s
  | .thermalTrip j temp vin => Sys2Proof.Machine.execThermalTrip j temp vin s
  | .junctionThrottle temps cool => Sys2Proof.Machine.execJunctionThrottle temps cool s
  | .droopDetect d => Sys2Proof.Machine.execDroopDetect d s
  | .budgetTick avg peak vin moves bad => Sys2Proof.Machine.execBudgetTick avg peak vin moves bad s
  | .emergencyBegin thermal cause => Sys2Proof.Machine.execEmergencyBegin thermal cause s
  | .emergencyEscalate => Sys2Proof.Machine.execEmergencyEscalate s
  | .emergencyEnd thermal => Sys2Proof.Machine.execEmergencyEnd thermal s
  | .domainSwitchOn ix => Sys2Proof.Machine.execDomainSwitchOn ix s
  | .domainSwitchOff ix empty => Sys2Proof.Machine.execDomainSwitchOff ix empty s
  | .activeRequest cycles binds => Sys2Proof.Machine.execActiveRequest cycles binds s
  | .dozeRequest => Sys2Proof.Machine.execDozeRequest s
  | .dozeEnter => Sys2Proof.Machine.execDozeEnter s
  | .dozeQuiesceTimeout => Sys2Proof.Machine.execDozeQuiesceTimeout s
  | .dozeWake w cycles binds => Sys2Proof.Machine.execDozeWake w cycles binds s
  | .pmcResetCold => Sys2Proof.Machine.execPmcResetCold s
  | .pmcResetWarm elapsed tests => Sys2Proof.Machine.execPmcResetWarm elapsed tests s
  | .pmcResetPartition tests => Sys2Proof.Machine.execPmcResetPartition tests s
  | .pmcResetCluster low => Sys2Proof.Machine.execPmcResetCluster low s
  | .pmcResetPort => Sys2Proof.Machine.execPmcResetPort s
  | .mgmtBusTransfer t => Sys2Proof.Machine.execMgmtBusTransfer t s
  | .floorPlanUpdate => Sys2Proof.Machine.execFloorPlanUpdate s
  | .recipeStart q => Sys2Proof.Machine.execRecipeStart q s
  | .seqHoldReq q on => Sys2Proof.Machine.execSeqHoldReq q on s
  | .seqAbort q => Sys2Proof.Machine.execSeqAbort q s
  | .seqVbindWrite ag d v => Sys2Proof.Machine.execSeqVbindWrite ag d v s
  | .step q ecc => Sys2Proof.Machine.execStep q ecc s
  | .bundleIssue q ecc => Sys2Proof.Machine.execBundleIssue q ecc s
  | .pageLoaded q ecc => Sys2Proof.Machine.execPageLoaded q ecc s
  | .waitingSlotIssue q cls u k ecc => Sys2Proof.Machine.execWaitingSlotIssue q cls u k ecc s
  | .waitRelease q ecc => Sys2Proof.Machine.execWaitRelease q ecc s
  | .tokenReuseRelease q ecc => Sys2Proof.Machine.execTokenReuseRelease q ecc s
  | .commitQuiesce q ecc => Sys2Proof.Machine.execCommitQuiesce q ecc s
  | .contextSave q cycles => Sys2Proof.Machine.execContextSave q cycles s
  | .contextRestore q cycles binds => Sys2Proof.Machine.execContextRestore q cycles binds s
  | .endDrain q ecc => Sys2Proof.Machine.execEndDrain q ecc s
  | .li q rd imm => Sys2Proof.Machine.execLi q rd imm s
  | .lih q rd imm => Sys2Proof.Machine.execLih q rd imm s
  | .li64 q rd imm => Sys2Proof.Machine.execLi64 q rd imm s
  | .add q rd rs1 rs2 => Sys2Proof.Machine.execAdd q rd rs1 rs2 s
  | .sub q rd rs1 rs2 => Sys2Proof.Machine.execSub q rd rs1 rs2 s
  | .mul q rd rs1 rs2 => Sys2Proof.Machine.execMul q rd rs1 rs2 s
  | .and q rd rs1 rs2 => Sys2Proof.Machine.execAnd q rd rs1 rs2 s
  | .or q rd rs1 rs2 => Sys2Proof.Machine.execOr q rd rs1 rs2 s
  | .xor q rd rs1 rs2 => Sys2Proof.Machine.execXor q rd rs1 rs2 s
  | .shl q rd rs1 rs2 => Sys2Proof.Machine.execShl q rd rs1 rs2 s
  | .shr q rd rs1 rs2 => Sys2Proof.Machine.execShr q rd rs1 rs2 s
  | .sar q rd rs1 rs2 => Sys2Proof.Machine.execSar q rd rs1 rs2 s
  | .slt q rd rs1 rs2 => Sys2Proof.Machine.execSlt q rd rs1 rs2 s
  | .sltu q rd rs1 rs2 => Sys2Proof.Machine.execSltu q rd rs1 rs2 s
  | .addi q rd rs1 imm => Sys2Proof.Machine.execAddi q rd rs1 imm s
  | .andi q rd rs1 imm => Sys2Proof.Machine.execAndi q rd rs1 imm s
  | .ori q rd rs1 imm => Sys2Proof.Machine.execOri q rd rs1 imm s
  | .shli q rd rs1 sh => Sys2Proof.Machine.execShli q rd rs1 sh s
  | .shri q rd rs1 sh => Sys2Proof.Machine.execShri q rd rs1 sh s
  | .sari q rd rs1 sh => Sys2Proof.Machine.execSari q rd rs1 sh s
  | .grpi q gr mask => Sys2Proof.Machine.execGrpi q gr mask s
  | .grp q gr rs1 => Sys2Proof.Machine.execGrp q gr rs1 s
  | .jmp q off => Sys2Proof.Machine.execJmp q off s
  | .beq q rs1 rs2 off => Sys2Proof.Machine.execBeq q rs1 rs2 off s
  | .bne q rs1 rs2 off => Sys2Proof.Machine.execBne q rs1 rs2 off s
  | .blt q rs1 rs2 off => Sys2Proof.Machine.execBlt q rs1 rs2 off s
  | .bge q rs1 rs2 off => Sys2Proof.Machine.execBge q rs1 rs2 off s
  | .bltu q rs1 rs2 off => Sys2Proof.Machine.execBltu q rs1 rs2 off s
  | .bgeu q rs1 rs2 off => Sys2Proof.Machine.execBgeu q rs1 rs2 off s
  | .loop q rs1 off => Sys2Proof.Machine.execLoop q rs1 off s
  | .commit q => Sys2Proof.Machine.execCommit q s
  | .recipeEnd q => Sys2Proof.Machine.execRecipeEnd q s
  | .waitm q tg mask => Sys2Proof.Machine.execWaitm q tg mask s
  | .waitr q first last => Sys2Proof.Machine.execWaitr q first last s
  | .pref q page tok => Sys2Proof.Machine.execPref q page tok s
  | .prefr q rs1 tok => Sys2Proof.Machine.execPrefr q rs1 tok s
  | .prefetchDone q tok ecc => Sys2Proof.Machine.execPrefetchDone q tok ecc s
  | .sold q cls sel start rec => Sys2Proof.Machine.execSold q cls sel start rec s
  | .sostart q cls sel => Sys2Proof.Machine.execSostart q cls sel s
  | .sostop q cls sel => Sys2Proof.Machine.execSostop q cls sel s
  | .sogen q cls sel g rs => Sys2Proof.Machine.execSogen q cls sel g rs s
  | .soloop q cls sel l rs => Sys2Proof.Machine.execSoloop q cls sel l rs s
  | .mcfg q sel w1 w2 ecc => Sys2Proof.Machine.execMcfg q sel w1 w2 ecc s
  | .mms q sel a b ecc => Sys2Proof.Machine.execMms q sel a b ecc s
  | .mmc q sel a b ecc => Sys2Proof.Machine.execMmc q sel a b ecc s
  | .mme q sel a b c ecc => Sys2Proof.Machine.execMme q sel a b c ecc s
  | .mmse q sel a b c ecc => Sys2Proof.Machine.execMmse q sel a b c ecc s
  | .mmss q sel a b c ecc => Sys2Proof.Machine.execMmss q sel a b c ecc s
  | .vcfg q sel w1 ecc => Sys2Proof.Machine.execVcfg q sel w1 ecc s
  | .vadd q sel mod a b d ecc => Sys2Proof.Machine.execVadd q sel mod a b d ecc s
  | .vmul q sel mod a b d ecc => Sys2Proof.Machine.execVmul q sel mod a b d ecc s
  | .vfma q sel mod a b d e ecc => Sys2Proof.Machine.execVfma q sel mod a b d e ecc s
  | .vmax q sel mod a b d ecc => Sys2Proof.Machine.execVmax q sel mod a b d ecc s
  | .vmin q sel mod a b d ecc => Sys2Proof.Machine.execVmin q sel mod a b d ecc s
  | .vscl q sel mod a d rs ecc => Sys2Proof.Machine.execVscl q sel mod a d rs ecc s
  | .vred q sel mod a d ecc => Sys2Proof.Machine.execVred q sel mod a d ecc s
  | .vcvt q sel mod a d ecc => Sys2Proof.Machine.execVcvt q sel mod a d ecc s
  | .kcopy q sel mod a d ecc => Sys2Proof.Machine.execKcopy q sel mod a d ecc s
  | .ktrans q sel mod a d param ecc => Sys2Proof.Machine.execKtrans q sel mod a d param ecc s
  | .kperm q sel mod a b d param ecc => Sys2Proof.Machine.execKperm q sel mod a b d param ecc s
  | .kgath q sel mod a b d param ecc => Sys2Proof.Machine.execKgath q sel mod a b d param ecc s
  | .kscat q sel mod a b d param ecc => Sys2Proof.Machine.execKscat q sel mod a b d param ecc s
  | .fcfg q sel w1 w2 ecc => Sys2Proof.Machine.execFcfg q sel w1 w2 ecc s
  | .fcvt q sel mod a b d e ecc => Sys2Proof.Machine.execFcvt q sel mod a b d e ecc s
  | .fscale q sel mod a b e ecc => Sys2Proof.Machine.execFscale q sel mod a b e ecc s
  | .tcfg q sel w1 ecc => Sys2Proof.Machine.execTcfg q sel w1 ecc s
  | .texp q sel mod a d ecc => Sys2Proof.Machine.execTexp q sel mod a d ecc s
  | .tlog q sel mod a d ecc => Sys2Proof.Machine.execTlog q sel mod a d ecc s
  | .trcp q sel mod a d ecc => Sys2Proof.Machine.execTrcp q sel mod a d ecc s
  | .trsq q sel mod a d ecc => Sys2Proof.Machine.execTrsq q sel mod a d ecc s
  | .ttanh q sel mod a d ecc => Sys2Proof.Machine.execTtanh q sel mod a d ecc s
  | .tsigm q sel mod a d ecc => Sys2Proof.Machine.execTsigm q sel mod a d ecc s
  | .tsin q sel mod a d ecc => Sys2Proof.Machine.execTsin q sel mod a d ecc s
  | .tcos q sel mod a d ecc => Sys2Proof.Machine.execTcos q sel mod a d ecc s
  | .scfg q sel w1 ecc => Sys2Proof.Machine.execScfg q sel w1 ecc s
  | .ssort q sel mod a b d e ecc => Sys2Proof.Machine.execSsort q sel mod a b d e ecc s
  | .stopk q sel mod a b d e ecc => Sys2Proof.Machine.execStopk q sel mod a b d e ecc s
  | .icfg q sel w1 ecc => Sys2Proof.Machine.execIcfg q sel w1 ecc s
  | .ihist q sel mod a d ecc => Sys2Proof.Machine.execIhist q sel mod a d ecc s
  | .ipsum q sel mod a d ecc => Sys2Proof.Machine.execIpsum q sel mod a d ecc s
  | .icomp q sel mod a b d e ecc => Sys2Proof.Machine.execIcomp q sel mod a b d e ecc s
  | .iroute q sel mod a d e ecc => Sys2Proof.Machine.execIroute q sel mod a d e ecc s
  | .ccomp q sel mod a d ecc => Sys2Proof.Machine.execCcomp q sel mod a d ecc s
  | .cdec q sel mod a d ecc => Sys2Proof.Machine.execCdec q sel mod a d ecc s
  | .rgen q sel mod d rsKey rsCtr dist rsHi ecc => Sys2Proof.Machine.execRgen q sel mod d rsKey rsCtr dist rsHi ecc s
  | .rcfg q sel w1 ecc => Sys2Proof.Machine.execRcfg q sel w1 ecc s
  | .rred q sel mod a d ecc => Sys2Proof.Machine.execRred q sel mod a d ecc s
  | .rbcast q sel mod a d ecc => Sys2Proof.Machine.execRbcast q sel mod a d ecc s
  | .rcat q sel mod a d ecc => Sys2Proof.Machine.execRcat q sel mod a d ecc s
  | .dld q sel f => Sys2Proof.Machine.execDld q sel f s
  | .dst q sel f => Sys2Proof.Machine.execDst q sel f s
  | .drget q sel f => Sys2Proof.Machine.execDrget q sel f s
  | .drput q sel f => Sys2Proof.Machine.execDrput q sel f s
  | .drputh q sel f => Sys2Proof.Machine.execDrputh q sel f s
  | .dhrd q sel f => Sys2Proof.Machine.execDhrd q sel f s
  | .dhwr q sel f => Sys2Proof.Machine.execDhwr q sel f s
  | .dmxTransferDone q tok host ecc => Sys2Proof.Machine.execDmxTransferDone q tok host ecc s
  | .ctrig q t => Sys2Proof.Machine.execCtrig q t s
  | .btrig q mask t => Sys2Proof.Machine.execBtrig q mask t s
  | .bsig q sig => Sys2Proof.Machine.execBsig q sig s
  | .cluCounterClear ag c => Sys2Proof.Machine.execCluCounterClear ag c s
  | .cccSelfTest c low => Sys2Proof.Machine.execCccSelfTest c low s
  | .cccStartImage c => Sys2Proof.Machine.execCccStartImage c s
  | .cccStop c => Sys2Proof.Machine.execCccStop c s
  | .stackRequest r ecc bad => Sys2Proof.Machine.execStackRequest r ecc bad s
  | .trackerEntryFree n ix => Sys2Proof.Machine.execTrackerEntryFree n ix s
  | .patrol n line ecc => Sys2Proof.Machine.execPatrol n line ecc s
  | .descriptorWrite ag x j v => Sys2Proof.Machine.execDescriptorWrite ag x j v s
  | .handleDrained x => Sys2Proof.Machine.execHandleDrained x s
  | .frameClearDone n f => Sys2Proof.Machine.execFrameClearDone n f s
  | .heatWindowEnd n => Sys2Proof.Machine.execHeatWindowEnd n s
  | .migrationStart y picks => Sys2Proof.Machine.execMigrationStart y picks s
  | .migrationPassEnd y late dstFail ecc => Sys2Proof.Machine.execMigrationPassEnd y late dstFail ecc s
  | .migrationSwitch y ecc => Sys2Proof.Machine.execMigrationSwitch y ecc s
  | .pcRetired n p => Sys2Proof.Machine.execPcRetired n p s
  | .drainRetry n p => Sys2Proof.Machine.execDrainRetry n p s
  | .callStart n => Sys2Proof.Machine.execCallStart n s
  | .workItemStart n v ecc => Sys2Proof.Machine.execWorkItemStart n v ecc s
  | .baseCallDone n => Sys2Proof.Machine.execBaseCallDone n s
  | .instructionLimit n v => Sys2Proof.Machine.execInstructionLimit n v s
  | .baseVadd n v ecc => Sys2Proof.Machine.execBaseVadd n v ecc s
  | .baseVsub n v ecc => Sys2Proof.Machine.execBaseVsub n v ecc s
  | .baseVmul n v ecc => Sys2Proof.Machine.execBaseVmul n v ecc s
  | .baseVfma n v ecc => Sys2Proof.Machine.execBaseVfma n v ecc s
  | .baseVmax n v ecc => Sys2Proof.Machine.execBaseVmax n v ecc s
  | .baseVmin n v ecc => Sys2Proof.Machine.execBaseVmin n v ecc s
  | .vdiv n v ecc => Sys2Proof.Machine.execVdiv n v ecc s
  | .vsqrt n v ecc => Sys2Proof.Machine.execVsqrt n v ecc s
  | .vabs n v ecc => Sys2Proof.Machine.execVabs n v ecc s
  | .vsel n v ecc => Sys2Proof.Machine.execVsel n v ecc s
  | .vcmplt n v ecc => Sys2Proof.Machine.execVcmplt n v ecc s
  | .vcmple n v ecc => Sys2Proof.Machine.execVcmple n v ecc s
  | .vcmpeq n v ecc => Sys2Proof.Machine.execVcmpeq n v ecc s
  | .vsum n v ecc => Sys2Proof.Machine.execVsum n v ecc s
  | .viadd n v ecc => Sys2Proof.Machine.execViadd n v ecc s
  | .visub n v ecc => Sys2Proof.Machine.execVisub n v ecc s
  | .vimul n v ecc => Sys2Proof.Machine.execVimul n v ecc s
  | .viand n v ecc => Sys2Proof.Machine.execViand n v ecc s
  | .vior n v ecc => Sys2Proof.Machine.execVior n v ecc s
  | .vixor n v ecc => Sys2Proof.Machine.execVixor n v ecc s
  | .vishl n v ecc => Sys2Proof.Machine.execVishl n v ecc s
  | .vishr n v ecc => Sys2Proof.Machine.execVishr n v ecc s
  | .vcvtfi n v ecc => Sys2Proof.Machine.execVcvtfi n v ecc s
  | .vcvtif n v ecc => Sys2Proof.Machine.execVcvtif n v ecc s
  | .vidx n v ecc => Sys2Proof.Machine.execVidx n v ecc s
  | .vbcx n v ecc => Sys2Proof.Machine.execVbcx n v ecc s
  | .vbci n v ecc => Sys2Proof.Machine.execVbci n v ecc s
  | .vbcc n v ecc => Sys2Proof.Machine.execVbcc n v ecc s
  | .vld n v ecc => Sys2Proof.Machine.execVld n v ecc s
  | .vst n v ecc => Sys2Proof.Machine.execVst n v ecc s
  | .xadd n v ecc => Sys2Proof.Machine.execXadd n v ecc s
  | .xsub n v ecc => Sys2Proof.Machine.execXsub n v ecc s
  | .xmul n v ecc => Sys2Proof.Machine.execXmul n v ecc s
  | .xand n v ecc => Sys2Proof.Machine.execXand n v ecc s
  | .baseXor n v ecc => Sys2Proof.Machine.execBaseXor n v ecc s
  | .xshl n v ecc => Sys2Proof.Machine.execXshl n v ecc s
  | .xshr n v ecc => Sys2Proof.Machine.execXshr n v ecc s
  | .xaddi n v ecc => Sys2Proof.Machine.execXaddi n v ecc s
  | .xli n v ecc => Sys2Proof.Machine.execXli n v ecc s
  | .baseJmp n v ecc => Sys2Proof.Machine.execBaseJmp n v ecc s
  | .baseBeq n v ecc => Sys2Proof.Machine.execBaseBeq n v ecc s
  | .baseBne n v ecc => Sys2Proof.Machine.execBaseBne n v ecc s
  | .baseBlt n v ecc => Sys2Proof.Machine.execBaseBlt n v ecc s
  | .baseBge n v ecc => Sys2Proof.Machine.execBaseBge n v ecc s
  | .baseEnd n v ecc => Sys2Proof.Machine.execBaseEnd n v ecc s
  | .badamw n v ecc => Sys2Proof.Machine.execBadamw n v ecc s
  | .bcvt n v ecc => Sys2Proof.Machine.execBcvt n v ecc s
  | .bgath n v ecc => Sys2Proof.Machine.execBgath n v ecc s
  | .bscat n v ecc => Sys2Proof.Machine.execBscat n v ecc s
  | .bred n v ecc => Sys2Proof.Machine.execBred n v ecc s
  | .bsqn n v ecc => Sys2Proof.Machine.execBsqn n v ecc s
  | .bchk n v ecc => Sys2Proof.Machine.execBchk n v ecc s
  | .baseCodeWrite ag n call ix v => Sys2Proof.Machine.execBaseCodeWrite ag n call ix v s
  | .bdcClearFrames n => Sys2Proof.Machine.execBdcClearFrames n s
  | .bdcScrub n => Sys2Proof.Machine.execBdcScrub n s
  | .bdcTestNative n fails => Sys2Proof.Machine.execBdcTestNative n fails s
  | .bdcTestCompat n fails => Sys2Proof.Machine.execBdcTestCompat n fails s
  | .bdcStartImage n => Sys2Proof.Machine.execBdcStartImage n s
  | .frameReceive p now a => Sys2Proof.Machine.execFrameReceive p now a s
  | .dataFrameSend p below => Sys2Proof.Machine.execDataFrameSend p below s
  | .nakReceive p now l => Sys2Proof.Machine.execNakReceive p now l s
  | .replayTimeout p now => Sys2Proof.Machine.execReplayTimeout p now s
  | .holdDiscard p => Sys2Proof.Machine.execHoldDiscard p s
  | .idleSend p => Sys2Proof.Machine.execIdleSend p s
  | .idle p now l => Sys2Proof.Machine.execIdle p now l s
  | .quietReq p now l => Sys2Proof.Machine.execQuietReq p now l s
  | .quietAck p now l accept => Sys2Proof.Machine.execQuietAck p now l accept s
  | .wakeReq p now l => Sys2Proof.Machine.execWakeReq p now l s
  | .wakeAck p now l => Sys2Proof.Machine.execWakeAck p now l s
  | .resync p now l lsn => Sys2Proof.Machine.execResync p now l lsn s
  | .width p now l mask => Sys2Proof.Machine.execWidth p now l mask s
  | .retiring p now l => Sys2Proof.Machine.execRetiring p now l s
  | .presentDeassert p => Sys2Proof.Machine.execPresentDeassert p s
  | .presentSettled p => Sys2Proof.Machine.execPresentSettled p s
  | .moduleInterrupt p => Sys2Proof.Machine.execModuleInterrupt p s
  | .portTrain p o => Sys2Proof.Machine.execPortTrain p o s
  | .trainPhaseTimeout p => Sys2Proof.Machine.execTrainPhaseTimeout p s
  | .alignmentLoss p => Sys2Proof.Machine.execAlignmentLoss p s
  | .rxSilence p => Sys2Proof.Machine.execRxSilence p s
  | .retrainTimeout p => Sys2Proof.Machine.execRetrainTimeout p s
  | .portDownTimeout p => Sys2Proof.Machine.execPortDownTimeout p s
  | .prtRetrain ag p => Sys2Proof.Machine.execPrtRetrain ag p s
  | .prtPortReset ag p unretire => Sys2Proof.Machine.execPrtPortReset ag p unretire s
  | .prtCtrlQuietReq ag p v => Sys2Proof.Machine.execPrtCtrlQuietReq ag p v s
  | .quietAuto p => Sys2Proof.Machine.execQuietAuto p s
  | .quietAutoWake p => Sys2Proof.Machine.execQuietAutoWake p s
  | .lldpSend p => Sys2Proof.Machine.execLldpSend p s
  | .lldpReceive p f => Sys2Proof.Machine.execLldpReceive p f s
  | .lldpTtlExpire p => Sys2Proof.Machine.execLldpTtlExpire p s
  | .hnFrameReceive p a => Sys2Proof.Machine.execHnFrameReceive p a s
  | .pfcFrame p prio pause => Sys2Proof.Machine.execPfcFrame p prio pause s
  | .portPlanNextWrite ag v => Sys2Proof.Machine.execPortPlanNextWrite ag v s
  | .packetRoute src ix bad => Sys2Proof.Machine.execPacketRoute src ix bad s
  | .packetWaitRetry src ix => Sys2Proof.Machine.execPacketWaitRetry src ix s
  | .routeEntryWrite ag b n v => Sys2Proof.Machine.execRouteEntryWrite ag b n v s
  | .rtrBankFlip ag b => Sys2Proof.Machine.execRtrBankFlip ag b s
  | .rtrNodeWrite ag node valid => Sys2Proof.Machine.execRtrNodeWrite ag node valid s
  | .packetSend dst cls ask => Sys2Proof.Machine.execPacketSend dst cls ask s
  | .ackTimer src cls => Sys2Proof.Machine.execAckTimer src cls s
  | .e2eTimeout dst cls => Sys2Proof.Machine.execE2eTimeout dst cls s
  | .nackBusyRetry dst cls late => Sys2Proof.Machine.execNackBusyRetry dst cls late s
  | .resetRetry dst cls => Sys2Proof.Machine.execResetRetry dst cls s
  | .resetWaitExpire dst cls => Sys2Proof.Machine.execResetWaitExpire dst cls s
  | .contextReclaim src cls => Sys2Proof.Machine.execContextReclaim src cls s
  | .ccTick dst cls => Sys2Proof.Machine.execCcTick dst cls s
  | .wrdesc bad => Sys2Proof.Machine.execWrdesc bad s
  | .wrdata bad => Sys2Proof.Machine.execWrdata bad s
  | .rdreq bad => Sys2Proof.Machine.execRdreq bad s
  | .rddata => Sys2Proof.Machine.execRddata s
  | .atomic bad => Sys2Proof.Machine.execAtomic bad s
  | .atomrsp => Sys2Proof.Machine.execAtomrsp s
  | .dbell bad => Sys2Proof.Machine.execDbell bad s
  | .dback => Sys2Proof.Machine.execDback s
  | .contrib bad => Sys2Proof.Machine.execContrib bad s
  | .contribrsp => Sys2Proof.Machine.execContribrsp s
  | .ack => Sys2Proof.Machine.execAck s
  | .nack => Sys2Proof.Machine.execNack s
  | .loss => Sys2Proof.Machine.execLoss s
  | .rack => Sys2Proof.Machine.execRack s
  | .flowreset => Sys2Proof.Machine.execFlowreset s
  | .mack => Sys2Proof.Machine.execMack s
  | .cdata src ix => Sys2Proof.Machine.execCdata src ix s
  | .cdown => Sys2Proof.Machine.execCdown s
  | .mgmt => Sys2Proof.Machine.execMgmt s
  | .heelApply src cls final => Sys2Proof.Machine.execHeelApply src cls final s
  | .multicastTimeout dst => Sys2Proof.Machine.execMulticastTimeout dst s
  | .shareGroupWrite ag p g v => Sys2Proof.Machine.execShareGroupWrite ag p g v s
  | .circuitEntryWrite ag t id v => Sys2Proof.Machine.execCircuitEntryWrite ag t id v s
  | .telemetryWindowEnd => Sys2Proof.Machine.execTelemetryWindowEnd s
  | .instanceStart q => Sys2Proof.Machine.execInstanceStart q s
  | .chunkSend m peer down => Sys2Proof.Machine.execChunkSend m peer down s
  | .tileReadbackSend m peer down => Sys2Proof.Machine.execTileReadbackSend m peer down s
  | .clxInstanceDone q => Sys2Proof.Machine.execClxInstanceDone q s
  | .clxProgressTimeout q => Sys2Proof.Machine.execClxProgressTimeout q s
  | .groupEntryWrite ag m g ix v => Sys2Proof.Machine.execGroupEntryWrite ag m g ix v s
  | .groupWriteApply m g => Sys2Proof.Machine.execGroupWriteApply m g s
  | .clxProgramWrite ag m x ix v => Sys2Proof.Machine.execClxProgramWrite ag m x ix v s
  | .mgmtRetransmit mseq => Sys2Proof.Machine.execMgmtRetransmit mseq s
  | .electTimer => Sys2Proof.Machine.execElectTimer s
  | .candidateExpire serial p => Sys2Proof.Machine.execCandidateExpire serial p s
  | .electionStable => Sys2Proof.Machine.execElectionStable s
  | .beatTimer => Sys2Proof.Machine.execBeatTimer s
  | .standbyTakeover => Sys2Proof.Machine.execStandbyTakeover s
  | .elect => Sys2Proof.Machine.execElect s
  | .beat => Sys2Proof.Machine.execBeat s
  | .replicate => Sys2Proof.Machine.execReplicate s
  | .query net => Sys2Proof.Machine.execQuery net s
  | .assign => Sys2Proof.Machine.execAssign s
  | .portEn => Sys2Proof.Machine.execPortEn s
  | .plan => Sys2Proof.Machine.execPlan s
  | .expand => Sys2Proof.Machine.execExpand s
  | .entry => Sys2Proof.Machine.execEntry s
  | .fmHold => Sys2Proof.Machine.execFmHold s
  | .drain => Sys2Proof.Machine.execDrain s
  | .flip => Sys2Proof.Machine.execFlip s
  | .resume => Sys2Proof.Machine.execResume s
  | .domain => Sys2Proof.Machine.execDomain s
  | .group => Sys2Proof.Machine.execGroup s
  | .circuit => Sys2Proof.Machine.execCircuit s
  | .tables => Sys2Proof.Machine.execTables s
  | .report => Sys2Proof.Machine.execReport s
  | .reportRepeat => Sys2Proof.Machine.execReportRepeat s
  | .drainSettle => Sys2Proof.Machine.execDrainSettle s
  | .drainOverrun => Sys2Proof.Machine.execDrainOverrun s
  | .swapRetry => Sys2Proof.Machine.execSwapRetry s
  | .tagReuseTimer tag => Sys2Proof.Machine.execTagReuseTimer tag s
  | .imgOffer => Sys2Proof.Machine.execImgOffer s
  | .imgData => Sys2Proof.Machine.execImgData s
  | .imgDone => Sys2Proof.Machine.execImgDone s
  | .bar0Write h f off wide v => Sys2Proof.Machine.execBar0Write h f off wide v s
  | .captureConsume h => Sys2Proof.Machine.execCaptureConsume h s
  | .hifCapConsWrite ag h v => Sys2Proof.Machine.execHifCapConsWrite ag h v s
  | .doorbell h f q head v => Sys2Proof.Machine.execDoorbell h f q head v s
  | .heartbeat h f => Sys2Proof.Machine.execHeartbeat h f s
  | .heartbeatWindowEnd h f => Sys2Proof.Machine.execHeartbeatWindowEnd h f s
  | .orphanKeepExpire h f => Sys2Proof.Machine.execOrphanKeepExpire h f s
  | .queueCreate h f q v => Sys2Proof.Machine.execQueueCreate h f q v s
  | .queueDelete h f q v => Sys2Proof.Machine.execQueueDelete h f q v s
  | .windowSet h f w v => Sys2Proof.Machine.execWindowSet h f w v s
  | .submissionFetch h f q host bad => Sys2Proof.Machine.execSubmissionFetch h f q host bad s
  | .fencedCommandStart h f q => Sys2Proof.Machine.execFencedCommandStart h f q s
  | .completionPost h f => Sys2Proof.Machine.execCompletionPost h f s
  | .bar4Access h f off n data ecc => Sys2Proof.Machine.execBar4Access h f off n data ecc s
  | .hostCompletionTimeout h f tok => Sys2Proof.Machine.execHostCompletionTimeout h f tok s
  | .pcieConfigRequest h f r => Sys2Proof.Machine.execPcieConfigRequest h f r s
  | .negotiate h f => Sys2Proof.Machine.execNegotiate h f s
  | .flr h m => Sys2Proof.Machine.execFlr h m s
  | .flrQuiesce h f => Sys2Proof.Machine.execFlrQuiesce h f s
  | .pf0Flr h => Sys2Proof.Machine.execPf0Flr h s
  | .portLinkReset h kind => Sys2Proof.Machine.execPortLinkReset h kind s
  | .identify h f => Sys2Proof.Machine.execIdentify h f s
  | .hcreate h f x base picks => Sys2Proof.Machine.execHcreate h f x base picks s
  | .hdestroy h f => Sys2Proof.Machine.execHdestroy h f s
  | .hseed h f => Sys2Proof.Machine.execHseed h f s
  | .hcopy h f host ecc => Sys2Proof.Machine.execHcopy h f host ecc s
  | .load h f ecc => Sys2Proof.Machine.execLoad h f ecc s
  | .run h f host => Sys2Proof.Machine.execRun h f host s
  | .hold h f => Sys2Proof.Machine.execHold h f s
  | .release h f => Sys2Proof.Machine.execRelease h f s
  | .abort h f => Sys2Proof.Machine.execAbort h f s
  | .orphanRead h f host => Sys2Proof.Machine.execOrphanRead h f host s
  | .adopt h f => Sys2Proof.Machine.execAdopt h f s
  | .discard h f => Sys2Proof.Machine.execDiscard h f s
  | .partitionCreate h => Sys2Proof.Machine.execPartitionCreate h s
  | .partitionRelease h tests => Sys2Proof.Machine.execPartitionRelease h tests s
  | .releaseStopBound p tests => Sys2Proof.Machine.execReleaseStopBound p tests s
  | .partitionStoreMap h => Sys2Proof.Machine.execPartitionStoreMap h s
  | .partitionReset h tests => Sys2Proof.Machine.execPartitionReset h tests s
  | .jobCarve h host => Sys2Proof.Machine.execJobCarve h host s
  | .jobRelease h => Sys2Proof.Machine.execJobRelease h s
  | .policy h => Sys2Proof.Machine.execPolicy h s
  | .fwStage h host => Sys2Proof.Machine.execFwStage h host s
  | .stagingVerified => Sys2Proof.Machine.execStagingVerified s
  | .fwActivate h => Sys2Proof.Machine.execFwActivate h s
  | .handover k payload comes => Sys2Proof.Machine.execHandover k payload comes s
  | .adoptTimeout starts => Sys2Proof.Machine.execAdoptTimeout starts s
  | .pmcHandoverStart => Sys2Proof.Machine.execPmcHandoverStart s
  | .unitImageTake bdc ix => Sys2Proof.Machine.execUnitImageTake bdc ix s
  | .fwStatus h => Sys2Proof.Machine.execFwStatus h s
  | .config h => Sys2Proof.Machine.execConfig h s
  | .cccMcastWrite ag ix v => Sys2Proof.Machine.execCccMcastWrite ag ix v s
  | .attest h f host => Sys2Proof.Machine.execAttest h f host s
  | .keyImport h f host bad => Sys2Proof.Machine.execKeyImport h f host bad s
  | .sealLoad h f bad => Sys2Proof.Machine.execSealLoad h f bad s
  | .sealChunkDone h f host => Sys2Proof.Machine.execSealChunkDone h f host s
  | .keyClear h f => Sys2Proof.Machine.execKeyClear h f s
  | .svnCommit h => Sys2Proof.Machine.execSvnCommit h s
  | .ownerEnroll h host => Sys2Proof.Machine.execOwnerEnroll h host s
  | .ideKeyProgram h stream => Sys2Proof.Machine.execIdeKeyProgram h stream s
  | .agentStart ag => Sys2Proof.Machine.execAgentStart ag s
  | .bbxDataWrite ag b ix v => Sys2Proof.Machine.execBbxDataWrite ag b ix v s
  | .bbxSend ag b v => Sys2Proof.Machine.execBbxSend ag b v s
  | .bbxReceiveClear ag b v => Sys2Proof.Machine.execBbxReceiveClear ag b v s
  | .bbxLockRead ag b => Sys2Proof.Machine.execBbxLockRead ag b s
  | .bbxLockRelease ag b v => Sys2Proof.Machine.execBbxLockRelease ag b v s
  | .bbxHdrRead ag b bad => Sys2Proof.Machine.execBbxHdrRead ag b bad s
  | .signalPost p => Sys2Proof.Machine.execSignalPost p s
  | .signalDeliver p => Sys2Proof.Machine.execSignalDeliver p s
  | .saveTimeout p => Sys2Proof.Machine.execSaveTimeout p s
  | .eventRecord => Sys2Proof.Machine.execEventRecord s
  | .lostEventsReport => Sys2Proof.Machine.execLostEventsReport s
  | .recordFlashSync => Sys2Proof.Machine.execRecordFlashSync s
  | .faultHistoryWrite => Sys2Proof.Machine.execFaultHistoryWrite s
  | .operatingHourMark => Sys2Proof.Machine.execOperatingHourMark s
  | .recCursorWrite ag w v => Sys2Proof.Machine.execRecCursorWrite ag w v s
  | .recorderClearRequest h host => Sys2Proof.Machine.execRecorderClearRequest h host s
  | .vin48Removed => Sys2Proof.Machine.execVin48Removed s

end Sys2Proof.Machine
end

