-- ==== Sys2Proof/Machine/Step.lean ====
section
/-!
DEFINITION. One step of the block: the command at the front of the queue runs with the queue's rest.
-/
namespace Sys2Proof.Machine

/-- What happens on an empty queue: the block idles, and its clock of operating time counts one second (R658). -/
def State.idle (s : State) : State :=
  { s with rcd := { s.rcd with opTime := (s.rcd.opTime + 1) % 2 ^ 40 } }

/-- One step: the command at the front of the queue, on the state with the queue's rest. -/
def step (s : State) : Host.Outcome State Fault Refusal :=
  match s.pending with
  | [] => .next s.idle
  | c :: rest => exec c { s with pending := rest }

/-- The state with the command that a table word spells at the front of its queue; unchanged where the word spells none. -/
def State.withFetchWord (s : State) (nbits w : Nat) : State :=
  match decodeTableWord nbits w with
  | some c => { s with pending := c :: s.pending }
  | none => s

end Sys2Proof.Machine
end

