-- ==== Sys2Proof/Safety.lean ====
section
/-!
DEFINITION. The terms that claims about the block are stated in: the canonical form of the tables of a state, what every command leaves
alone, and which registers changed.
-/
namespace Sys2Proof.Machine

/-- The tables of the state in their canonical form: registers, pending and unusable protected values, memory with its checks and its
errors. -/
def State.wf (s : State) : Bool :=
  s.csr.wf && s.cpPend.wf && s.cpBad.wf && Memory.wf s.mem && s.syn.wf && s.wordErr.wf && s.lineErr.wf

/-- The fuses of `g` are those of `f`, but for the security version floor, which can only have risen (R583, R587). -/
structure FusesKept (f g : Fuses) : Prop where
  burnt : g = { f with svnFloor := g.svnFloor }
  floor : f.svnFloor ≤ g.svnFloor

/-- The state with no answer standing, from which every command that answers nothing begins. -/
def State.silent (s : State) : State := { s with answer := .none }

/-- Every register outside a list reads in `t` as it does in `s`. -/
def State.regsKeptBut (s t : State) (as : List Nat) : Prop := ∀ a, a ∉ as → t.rd a = s.rd a

/-- The registers that a cold reset sets from the flash, the fuses and the straps (R23, R356, R461, R532, R569, R612). -/
def setAtCold : List Nat :=
  [Reg.hubId, Reg.hubFmCtrl, Reg.hubFmMachine, Reg.secPartMap, Reg.hubFwUpd, Reg.pmcBoot] ++ (List.range 16).map Reg.prtMac

/-- `t` is the device after a cold reset of `s` (R609, R610, R658): it keeps the flash and the fuses and nothing else. -/
structure ColdFrom (s t : State) : Prop where
  memory : t.mem = [] ∧ t.syn = [] ∧ t.wordErr = [] ∧ t.lineErr = []
  protection : t.cpPend = [] ∧ t.cpBad = []
  engines : t.seqs = [] ∧ t.saved = [] ∧ t.bases = [] ∧ t.stackSide = {} ∧ t.clxs = [] ∧ t.clusters = []
  fabric : t.router = {} ∧ t.host = {}
  config : t.config = s.config
  fuses : t.fuses = s.fuses
  slots : t.fw.slotA = s.fw.slotA ∧ t.fw.slotB = s.fw.slotB
  ring : t.rcd.flash = s.rcd.flash
  cycles : t.rcd.cycles = ((s.rcd.flash.foldl (fun m x => max m x.cycle) 0) + 1) % 2 ^ 24
  phase : t.rdF Reg.pmcBoot 3 0 = 1
  registers : ∀ a, a ∉ setAtCold → t.rd a = resetOf a

/-- Registers of the HUB_, PMC_ and STK_ blocks in which an access has no effect beyond that of its access codes: not
HUB_PORT_PLAN_NEXT, HUB_FM_HOLD_OPEN, PMC_RESET and PMC_STATE_REQ, and not the code memory of a base engine. -/
def plainReg (a : Nat) : Bool :=
  (decide (Blk.hub ≤ a ∧ a < Blk.hub + 0x1000000) && a != Reg.hubPortPlanNext && a != Reg.hubFmHoldOpen)
    || (decide (Blk.pmc ≤ a ∧ a < Blk.pmc + 0x100000) && a != Reg.pmcReset && a != Reg.pmcStateReq)
    || (decide (Blk.stk ≤ a ∧ a < Blk.stk + 0xC000000) && decide (a < Reg.stkBeCode ((a - Blk.stk) / 0x1000000) 0))

end Sys2Proof.Machine
end

