-- ==== Sys2Proof/Certificates/Slice0/Obligations.lean ====
section
/-!
DEFINITION. The statements about the model, for the provers: one definition each, with the rules of spec/ it formalises. Where a
clause is the model's own choice, its docstring or its text in OBLIGATIONS.json names the log entry.
-/
section
open Sys2Proof Sys2Proof.Machine

/-- What a step is: the front command runs with the queue's rest. The idle step's second of operating time is the model's choice (log entry 2). -/
def Obligations.StepRunsTheFrontCommand : Prop :=
  (∀ (c : Instr) (rest : List Instr) (s : State), step { s with pending := c :: rest } = exec c { s with pending := rest }) ∧
  (∀ s : State, s.pending = [] → step s = .next { s with rcd := { s.rcd with opTime := (s.rcd.opTime + 1) % 2 ^ 40 } })

/-- No command stops the block, and none touches the queue of commands. -/
def Obligations.EveryCommandCompletes : Prop := ∀ (c : Instr) (s : State), ∃ t, exec c s = .next t ∧ t.pending = s.pending

/-- R583, R587, R599: the fuses over one step from any state. -/
def Obligations.FusesOnlyRaiseTheFloor : Prop := ∀ s t : State, step s = .next t → FusesKept s.fuses t.fuses

/-- The canonical form of the tables over one step from any state that has it. -/
def Obligations.TablesStayCanonical : Prop := ∀ s t : State, s.wf = true → step s = .next t → t.wf = true

/-- The state after reset. -/
def Obligations.ResetHoldsTheResetValues : Prop :=
  State.reset.wf = true ∧ State.reset.pending = [] ∧ State.reset.mem = [] ∧
  State.reset.rd Reg.hubId = 0x4810 ∧ State.reset.rd Reg.secPartMap = 0x10F00 ∧ State.reset.rd Reg.pmcLimit = 1500 ∧ State.reset.rd Reg.pmcBoot = 1 ∧
  (∀ q : Fin 4, State.reset.rdF (Reg.seqStatus q) 13 12 = q ∧ State.reset.rdF (Reg.seqStatus q) 19 16 = 2 ^ q.val ∧ State.reset.rdF (Reg.seqStatus q) 3 0 = 0) ∧
  (∀ p : Fin 16, State.reset.rd (Reg.prtStatus p) = 0x18 ∧ State.reset.rd (Reg.prtPeer p) = 0xF0FFFFF) ∧
  (∀ (h : Fin 2) (f : Fin 5), State.reset.rdF (Reg.hifEmuHb h f) 15 0 = 1000) ∧
  State.reset.rdF Reg.hubFmPeers 19 0 = 0xFFFFF ∧ State.reset.rdB Reg.hubFmPeers 62 = false ∧ (∀ w : Fin 6, State.reset.rd (Reg.recCursor w) = 0xFFFFFFFF)

/-- First in, first out, one command a step. -/
def Obligations.QueuesDrainInOrder : Prop :=
  ∀ f : Nat → State, (∀ n, step (f n) = .next (f (n + 1))) →
    (∀ k, k ≤ (f 0).pending.length → (f k).pending = (f 0).pending.drop k) ∧ ∀ k, (f 0).pending.length ≤ k → (f k).pending = []

/-- R19, R205 to R208, R243: reads and writes of memory. -/
def Obligations.MemoryReadsWhatWasWritten : Prop :=
  ∀ (s : State) (a : Nat) (bs : List Byte), s.wf = true →
    (s.writeBytes a bs).readBytes a bs.length = bs ∧
    (∀ b n, b + n ≤ a ∨ a + bs.length ≤ b → (s.writeBytes a bs).readBytes b n = s.readBytes b n) ∧
    (∀ t, (s.writeBytes a bs).syn.get t = if a ≤ 4096 * t ∧ 4096 * (t + 1) ≤ a + bs.length then 0 else s.syn.get t) ∧
    (∀ w, w < checkKey 0 → (s.writeBytes a bs).wordErr.get w = if a ≤ 8 * w ∧ 8 * (w + 1) ≤ a + bs.length then 0 else s.wordErr.get w) ∧
    (∀ t, a ≤ 4096 * t → 4096 * (t + 1) ≤ a + bs.length → (s.writeBytes a bs).wordErr.get (checkKey t) = 0) ∧
    (∀ w, w < checkKey 0 → a ≤ 8 * w → 8 * (w + 1) ≤ a + bs.length → 2 ≤ s.wordErr.get w →
      ¬ (a ≤ 4096 * (w / 512) ∧ 4096 * (w / 512 + 1) ≤ a + bs.length) → (s.writeBytes a bs).wordErr.get (checkKey (w / 512)) = 4) ∧
    (∀ t, a + bs.length ≤ 2 ^ 51 → 4096 * (t + 1) ≤ a ∨ a + bs.length ≤ 4096 * t →
      (s.writeBytes a bs).wordErr.get (checkKey t) = s.wordErr.get (checkKey t)) ∧
    (∀ l, (s.writeBytes a bs).lineErr.get l = if a ≤ 64 * l ∧ 64 * (l + 1) ≤ a + bs.length then 0 else s.lineErr.get l) ∧
    (s.writeBytes a bs).wf = true ∧ (s.writeBytes a bs).csr = s.csr

/-- R17, R18: the protocol of pending value and companion, as the commands of register access run it on a 64-bit register. -/
def Obligations.ComplementsCompleteValues : Prop :=
  ∀ (s : State) (ag other : Agent) (a : Nat) (v x : W64) (done : State → W64 → State) (t : State), s.cpWrite ag a 0 8 v = t →
    (t.csr = s.csr ∧ t.cpPend.get a = some { value := v, owner := ag.num }) ∧
    (t.cpCompanion ag a 8 0 8 (~~~ v) done = done { t with cpPend := t.cpPend.set a none } v) ∧
    (∀ u : State, t.cpCompanion ag a 8 0 4 (fldMask 31 0 &&& ~~~ v) done = u → u.csr = s.csr ∧ u.cpPend.get a = some { value := v, owner := ag.num, loMatched := true } ∧
      u.cpCompanion ag a 8 4 4 (~~~ v >>> 32) done = done { u with cpPend := u.cpPend.set a none } v ∧
      (∀ w : State, u.cpWrite ag a 4 4 x = w → ∃ p, w.cpPend.get a = some p ∧ p.loMatched = false ∧ p.hiMatched = false ∧ fld p.value 31 0 = fld v 31 0 ∧ fld p.value 63 32 = fld x 31 0 ∧
        ∀ y, w.cpCompanion ag a 8 4 4 (~~~ p.value >>> 32) done = y → y.csr = s.csr ∧ y.cpPend.get a = some { p with hiMatched := true })) ∧
    (∀ u : State, t.cpCompanion ag a 8 4 4 (~~~ v >>> 32) done = u → u.csr = s.csr ∧
      u.cpCompanion ag a 8 0 4 (fldMask 31 0 &&& ~~~ v) done = done { u with cpPend := u.cpPend.set a none } v) ∧
    ((other.num ≠ ag.num ∨ x ≠ ~~~ v) → t.cpCompanion other a 8 0 8 x done = t.cpMismatch other a ∧ (t.cpMismatch other a).csr = s.csr ∧ (t.cpMismatch other a).cpPend.get a = none) ∧
    (s.cpPend.get a = none → s.cpCompanion ag a 8 0 8 x done = s.cpMismatch ag a ∧
      ∃ p, (s.cpWrite ag a 0 4 x).cpPend.get a = some p ∧ fld p.value 31 0 = fld x 31 0 ∧ fld p.value 63 32 = fld (s.rd a) 63 32 ∧ p.owner = ag.num)

/-- R14, R15: what a write does to each bit of a register, by the access code of its field. -/
def Obligations.FieldWriteFollowsAccessCode : Prop :=
  ∀ (f : Fld) (old w mask : W64) (i : Nat), f.lo ≤ f.hi → i < 64 →
    (f.write old w mask).getLsbD i =
      if f.lo ≤ i ∧ i ≤ f.hi ∧ mask.getLsbD i = true then
        match f.acc with
        | .rw => w.getLsbD i
        | .w1c => old.getLsbD i && !w.getLsbD i
        | .w1s => old.getLsbD i || w.getLsbD i
        | .ro => old.getLsbD i
        | .rc => old.getLsbD i
        | .wo => old.getLsbD i
      else old.getLsbD i

/-- R14 to R22, R643, R645: what the commands of register access do. -/
def Obligations.RegisterAccessTakesEffect : Prop :=
  (∀ (s : State) (ag : Agent) (a : BitVec 48) (v : W64) (d : RegDef) (r off : Nat), s.csrPath ag a.toNat 8 = .served →
    findReg a.toNat = some (d, r, off) → d.cp = false → d.mayWrite ag = true → plainReg r = true →
    exec (.registerWrite ag a true v) s = .next (s.silent.wr r (d.write (s.rd r) ((v &&& fldMask 63 0) <<< (8 * off)) (accessMask off 8)))) ∧
  (∀ (s : State) (ag : Agent) (a : BitVec 48) (v : W64) (wide : Bool), s.csrPath ag a.toNat (if wide then 8 else 4) = .silent →
    exec (.registerWrite ag a wide v) s = .next { s with answer := .addressError } ∧
    (shadowPlace a.toNat = none → exec (.rcRead ag a wide) s = .next { s with answer := .addressError })) ∧
  (∀ (s : State) (h : Fin 2) (f : Fin 5) (a : BitVec 48) (wide : Bool) (off : Nat), shadowPlace a.toNat = some (h.val, f.val, off) →
    s.fnPresent h f = true → bar0Ok f off wide = true →
    exec (.rcRead (.host h f) a wide) s = .next { s with answer := .data (s.silent.shadowRead h f off (if wide then 8 else 4)) }) ∧
  (∀ (s : State) (ag : Agent) (a : BitVec 48) (v : W64) (wide : Bool), ag.isFirmware = true → a.toNat < 0xC000000000 →
    s.stackPath ag a.toNat (if wide then 8 else 4) = .served →
    exec (.registerWrite ag a wide v) s = .next (s.silent.writeBytes a.toNat (leBytes (if wide then 8 else 4) v.toNat)) ∧
    ((s.silent.readLine false (a.toNat / 64)).tileDead (a.toNat / 4096) = false → exec (.rcRead ag a wide) s =
      .next { s.silent.readLine false (a.toNat / 64) with answer := .data (BitVec.ofNat 64 ((s.silent.readLine false (a.toNat / 64)).readNat a.toNat (if wide then 8 else 4))) })) ∧
  (∀ (s : State) (a : BitVec 48) (v : W64) (wide : Bool), csrBlockOf a.toNat = none → 0xC000000000 ≤ a.toNat →
    ¬ (clusterStore 0 ≤ a.toNat ∧ a.toNat < clusterStore 64) → ¬ (0x030000000000 ≤ a.toNat ∧ a.toNat < 0x040000000000) →
    exec (.registerWrite .sch a wide v) s = .next ({ s with answer := .addressError }.event 0x611 .none (a.toNat + Agent.sch.num * 2 ^ 48) none Agent.sch.num) ∧
    exec (.rcRead (.host 1 2) a wide) s = .next ({ s with answer := .addressError }.hostError 1 2 .bar4Read a.toNat)) ∧
  (∀ (s : State) (ag : Agent) (a : BitVec 48) (d : RegDef) (r off : Nat), s.csrPath ag a.toNat 8 = .served → findReg a.toNat = some (d, r, off) →
    shadowPlace a.toNat = none → plainReg r = true → off < d.width / 8 →
    ∃ v, exec (.rcRead ag a true) s = .next { s.wr r (s.rd r &&& ~~~ (d.mask (fun x => x == .rc) &&& accessMask (off % (d.width / 8)) 8)) with
      answer := .data v } ∧
      v = ((s.rd r &&& ~~~ d.mask (fun x => x == .wo)) >>> (8 * (off % (d.width / 8)))) &&& fldMask 63 0) ∧
  (∀ (s : State) (ag : Agent) (a : BitVec 48) (v : W64) (d : RegDef) (r off : Nat), s.csrPath ag a.toNat 8 = .served →
    findReg a.toNat = some (d, r, off) → d.cp = true → d.mayWrite ag = true → off < d.width / 8 →
    (s.activeRoute r = true → exec (.cpRegisterWrite ag a true v) s = .next (s.silent.event 0x501)) ∧
    (s.activeRoute r = false → d.flds.all (fun f => f.acc == .ro) = false → ∃ p, exec (.cpRegisterWrite ag a true v) s = .next { s.silent with cpPend := s.cpPend.set r (some p) } ∧ p.owner = ag.num ∧
      p.loMatched = false ∧ p.hiMatched = false ∧ (off = 0 → p.value = v))) ∧
  (∀ (s : State) (ag : Agent) (a : BitVec 48) (v : W64) (d : RegDef) (r off : Nat) (p : CpPending), s.csrPath ag a.toNat 8 = .served →
    findReg a.toNat = some (d, r, off) → d.cp = true → d.width = 64 → off = 8 → s.cpPend.get r = some p →
    (p.owner = ag.num → v = ~~~ p.value →
      exec (.cpCompanionWrite ag a true v) s = .next ({ s.silent with cpPend := s.cpPend.set r none }.cpDone ag d r p.value)) ∧
    ((p.owner ≠ ag.num ∨ v ≠ ~~~ p.value) → ∃ t, exec (.cpCompanionWrite ag a true v) s = .next t ∧ t.csr = s.csr ∧ t.cpPend = s.cpPend.set r none ∧
      t = ({ s.silent with cpPend := s.cpPend.set r none } : State).event (cpClass r * 0x100 + 0xF1) .none
        (blockOffset r % 2 ^ 32 + ag.num * 2 ^ 32) (agent := ag.num))) ∧
  (∀ (s : State) (a : BitVec 48), s.cpOk a.toNat = false → a.toNat ≠ Reg.secPartMap → ¬ (Reg.secKslot 0 ≤ a.toNat ∧ a.toNat ≤ Reg.secKslot 15) →
    ¬ (Blk.bbx ≤ a.toNat ∧ a.toNat < Blk.bbx + 0x10000) →
    exec (.complementRewrite a true) s = .next (s.silent.cpCommit a.toNat (s.rd a.toNat)) ∧ exec (.complementRewrite a false) s = .next s.silent)

/-- R609, R610, R612, R35: what a cold reset and the loss of auxiliary power leave. -/
def Obligations.ColdResetForgetsAllButFlashAndFuses : Prop :=
  (∀ (s : State) (cause : ColdCause) (boot : Fin 4) (addr : Fin 8), (cause = .auxPower ∨ s.pwr.vaux = true) →
    ∃ t, exec (.coldReset cause boot addr) s = .next t ∧ ColdFrom s t) ∧
  (∀ s : State, s.resetAsked 1 = true → ∃ t, exec .pmcResetCold s = .next t ∧ ColdFrom s t) ∧
  (∀ s : State, ∃ t, exec .vauxLoss s = .next t ∧ t.csr = [] ∧ t.mem = [] ∧ t.seqs = [] ∧ t.pwr.vaux = false ∧ t.pwr.pwrEn = false ∧
    t.pwr.pgood = false ∧ t.config = s.config ∧ t.fuses = s.fuses ∧ t.fw.slotA = s.fw.slotA ∧ t.fw.slotB = s.fw.slotB ∧
    t.rcd.flash = s.rcd.flash ∧ t.rcd.queue = [])

/-- R610 to R616: what each command of a boot does when its step is due. -/
def Obligations.BootCommandsRunTheSteps : Prop :=
  (∀ s : State, s.pwr.vaux = true → s.pwr.booting = false → s.stepDone 2 = true → s.bootPhase ≠ 12 → s.rdF Reg.pmcState 1 0 = 2 →
    ∃ t, exec .powerOn s = .next t ∧ t.pwr.pwrEn = true ∧ t.pwr.pgood = true ∧ t.pwr.booting = true ∧ t.pwr.steps = 4 ∧
      t.rdB Reg.pmcState 2 = true ∧ t.rdF Reg.pmcState 4 3 = 0 ∧
      t.rcd.cycles = (if s.pwr.again then (s.rcd.cycles + 1) % 2 ^ 24 else s.rcd.cycles)) ∧
  (∀ s : State, s.pwr.vaux = true → s.bootPhase = 1 → s.fw.netBoot = false → s.pwr.bootSel = 1 → s.config.inUse ≠ none →
    s.config.record.trial = false →
    exec (.starter false) s = .next { s.silent.loadPlan with fw := { s.fw with netBoot := true } } ∧ exec (.starter true) s = .next s.silent) ∧
  (∀ (s : State) (dead : BitVec 38), s.pwr.booting = true → s.fw.netBoot = false → s.stepDone 3 = false → s.compState 2 = 2 →
    exec (.pmcBringup dead) s = .next ((s.silent.bringOn dead.toNat bringupOrder).cond (dead == 0) (·.finishStep 3))) ∧
  (∀ s : State, s.pwr.booting = true → s.stepDone 4 = false → s.domOn 24 = true →
    exec .coreStart s = .next (if s.silent.startCores.2 = true then
      ((((s.silent.startCores.1).startComponent 5 s.activeSlot).startComponent 6 s.activeSlot).fuseFacts).finishStep 4 else s.silent.startCores.1)) ∧
  (∀ (s : State) (n : Fin 12), s.pwr.booting = true → s.domOn (stackDomain n) = true → s.rdF (Reg.stkStatus n) 2 0 = 1 →
    exec (.stackTrain n) s = .next (((s.silent.wrF (Reg.stkStatus n) 2 0 2).updPwr (fun w => { w with trained := w.trained ||| 2 ^ n.val })).syncPhase)) ∧
  (∀ (s : State) (tests : List (Nat × Nat)), s.pwr.booting = true → s.stepDone 4 = true → s.stepDone 6 = false →
    exec (.selfTest tests) s = .next (((s.silent.each ((List.range 64).filter (fun c => s.domOn (clusterDomain c))) (fun t c =>
      (t.loadCcc c).testCluster c ((tests.find? (fun r => r.1 = c)).elim 0x7FFFFFF Prod.snd)))).finishStep 6)) ∧
  (∀ (s : State) (n : Fin 12) (fails : W64), s.pwr.booting = true → s.stepDone 6 = true → natBit s.pwr.trained n = true →
    natBit s.pwr.tested n = false →
    exec (.memoryTest n fails) s = .next (s.silent.stackTested n
      (if s.rdF Reg.pmcBoot 5 4 = 1 then 2 ^ 64 - 1 else nativePcs s.rcd.cycles) fails.toNat true)) ∧
  (∀ s : State, s.pwr.booting = true → s.stepDone 3 = true → s.stepDone 8 = false → s.linksSettled = true →
    exec .linkGate s = .next (s.silent.finishStep 8)) ∧
  (∀ s : State, s.pwr.booting = true → s.stepDone 7 = true → s.stepDone 8 = true → s.stepDone 9 = false →
    exec .fuseTestReconcile s = .next s.silent.reconcile) ∧
  (∀ (s : State) (ms : W32), s.pwr.booting = true → s.stepDone 9 = true →
    ∃ t, exec (.bootReady ms) s = .next t ∧ t.pwr.booting = false ∧ t.bootPhase = 11 ∧ t.rdF Reg.pmcBoot 63 32 = ms.toNat ∧
      t.rdF Reg.pmcState 1 0 = 0 ∧ t.rdB Reg.pmcState 2 = false) ∧
  (∀ (s : State) (n : Fin 12) (mute : W64) (ms : W32), s.pwr.booting = true →
    (s.stepDone 8 = false → exec (.bootStepOverrun 8 n mute ms) s = .next ((s.silent.event 0xA06).finishStep 8)) ∧
    (s.stepDone 4 = false → natBit s.pwr.retried n = true →
      exec (.bootStepOverrun 4 n mute ms) s = .next ((((((s.silent.event 0xA06 (.component n)).updPwr (fun w => { w with booting := false })).wrF
        Reg.pmcBoot 3 0 12).wrB Reg.pmcState 2 false).event 0xA0C).alert 2)))

/-- R610, R626 to R632: what Crust entry, the thermal and droop detectors, the control tick and the emergency commands do. -/
def Obligations.PowerEventsTakeEffect : Prop :=
  (∀ (s : State) (good : Bool) (vin : BitVec 10), s.pwr.vaux = true → s.mainOn = true →
    exec (.crustEntry good vin) s = .next ((s.silent.updPwr (fun w => if good then { w with pgood := false } else { w with pwrEn := false })).enterCrust
      (if good then 2 else 1) vin.toNat)) ∧
  (∀ (s : State) (j : Fin 17) (temp : BitVec 8) (vin : BitVec 10), s.pwr.vaux = true → 110 ≤ temp.toNat →
    ∃ t u, exec (.thermalTrip j temp vin) s = .next t ∧
      u = (((s.silent.readTherm j temp.toNat).syncWarn).updPwr (fun w => { w with tripLow := true })).event 0x205 (.sensor j) ∧
      u.pwr.tripLow = true ∧ t = if u.mainOn then u.enterCrust 3 vin.toNat else u) ∧
  (∀ s : State, s.pwr.vaux = true →
    (s.mainOn = false → exec .vin48Removed s =
      .next ((s.silent.updPwr (fun w => { w with tripLow := false, pgood := false })).wrF Reg.pmcPwrIn 41 32 0)) ∧
    (s.mainOn = true → exec .vin48Removed s =
      .next (((s.silent.updPwr (fun w => { w with tripLow := false, pgood := false })).wrF Reg.pmcPwrIn 41 32 0).enterCrust 2 0))) ∧
  (∀ (s u : State) (temps : List (BitVec 8)) (cool : BitVec 4) (p j : Nat), s.pwr.vaux = true → (List.range 4).filter s.partExists = [p] →
    u = (s.silent.each (temps.take 17).zipIdx (fun v t => v.readTherm t.2 t.1.toNat)).syncWarn →
    (u.partSensors p).find? (fun i => decide (95 ≤ u.rdF (Reg.pmcTherm i) 7 0)) = some j →
    exec (.junctionThrottle temps cool) s = .next ((u.cond ((u.pwr.demands.get p).junction == 0) (·.event 0x201 (.sensor j) 0 (some p))).updDemand p
      (fun d => { d with junction := min 960 (d.junction + 8) }))) ∧
  (∀ (s : State) (d : Fin 4), s.rdB Reg.secPartMap (8 + d) = true → s.partExists (s.partOfDie d) = true → s.powered = true →
    exec (.droopDetect d) s = .next ((s.silent.updDemand (s.partOfDie d) (fun x => { x with droop := 64 })).count (Reg.pmcPartW1 (s.partOfDie d)) 1)) ∧
  (∀ (s : State) (avg peak : Fin 2048) (vin : BitVec 10) (moves : List BudgetMove), s.pwr.vaux = true → s.pwr.limitNext = none →
    s.emergencyNow = true →
    exec (.budgetTick avg peak vin moves false) s = .next
      (((((s.silent.wrF Reg.pmcPwrIn 10 0 avg).wrF Reg.pmcPwrIn 26 16 (max (s.rdF Reg.pmcPwrIn 26 16) peak)).wrF Reg.pmcPwrIn 41 32 vin.toNat).each
        moves State.budgetMove).each (List.range 4) State.syncPmcPart)) ∧
  (∀ (s : State) (thermal : Bool) (cause : BitVec 4), s.powered = true → s.rdB Reg.pmcEmerg (b2n thermal) = false →
    ∃ t u, exec (.emergencyBegin thermal cause) s = .next (if t.updState = 5 ∧ (t.compState 2 = 3 ∨ t.fw.starting = some 2) then t.rollBack 2 true else t) ∧
      u = (if thermal then s.silent.wrB Reg.pmcEmerg 6 true else s.silent.wrF Reg.pmcEmerg 5 2 cause.toNat) ∧
      t = (((((((u.wrB Reg.pmcEmerg (b2n thermal) true).countF Reg.pmcEmerg 31 16 1).alert 0).event (if thermal then 0x203 else 0x102)).updPwr
        (fun w => { w with emergency := max 192 w.emergency })).each (List.range 4) State.syncPmcPart).tryActivate)) ∧
  (∀ s : State, s.emergencyNow = true →
    exec .emergencyEscalate s = .next ((s.silent.updPwr (fun w => { w with emergency := min 960 (w.emergency + 192) })).each (List.range 4) State.syncPmcPart)) ∧
  (∀ (s : State) (thermal : Bool), s.rdB Reg.pmcEmerg (b2n thermal) = true →
    exec (.emergencyEnd thermal) s = .next ((((if thermal then (s.silent.wrB Reg.pmcEmerg 1 false).wrB Reg.pmcEmerg 6 false
      else (s.silent.wrB Reg.pmcEmerg 0 false).wrF Reg.pmcEmerg 5 2 0).alert 0).event (if thermal then 0x204 else 0x103)).tryActivate))

/-- R48 to R53, R63, R622 to R625: what the commands of domains, the floor plan and the power states do. -/
def Obligations.DomainsAndPowerStatesSwitch : Prop :=
  (∀ (s : State) (i : Fin 38), s.pwr.vaux = true →
    ((domainNeeds i).all s.domOn = true → ¬ (i.val < 16 ∧ s.mapOk = false) → exec (.domainSwitchOn i) s = .next (s.silent.turnOn i)) ∧
    ((domainNeeds i).all s.domOn = false → exec (.domainSwitchOn i) s = .next (s.silent.event 0x101 (.domain i)))) ∧
  (∀ (s : State) (i : Fin 38), s.pwr.vaux = true →
    (i.val ≠ 16 → (domainUsers i).any s.domOn = false → s.domOn i = true → ¬ (i.val < 16 ∧ s.mapOk = false) →
      exec (.domainSwitchOff i true) s = .next (s.silent.turnOff i)) ∧
    (i.val = 16 ∨ (domainUsers i).any s.domOn = true → ∀ e, exec (.domainSwitchOff i e) s = .next (s.silent.event 0x101 (.domain i)))) ∧
  (∀ s : State, s.domOn 17 = true → s.domOn 24 = true → exec .floorPlanUpdate s = .next s.silent.publish.stopRetired) ∧
  (∀ (s : State) (cycles : Nat) (binds : List (Nat × List (List Nat))), s.stateAsked 0 = true →
    (s.rdF Reg.pmcState 1 0 = 0 → s.rdB Reg.pmcState 2 = false → exec (.activeRequest cycles binds) s = .next (s.silent.wrB Reg.pmcStateReq 2 false)) ∧
    (s.stateBlocked 1 = false → exec (.activeRequest cycles binds) s = .next ((s.silent.beginTransition 0).leaveDoze cycles binds)) ∧
    (s.stateBlocked 1 = true → ¬ (s.rdF Reg.pmcState 1 0 = 0 ∧ s.rdB Reg.pmcState 2 = false) →
      exec (.activeRequest cycles binds) s = .next (((s.silent.wrB Reg.pmcStateReq 2 false).wrB Reg.pmcState 5 true).alert 1))) ∧
  (∀ s : State, s.stateAsked 1 = true → s.stateBlocked 0 = false →
    ∃ (u : State) (ps : List Nat), exec .dozeRequest s = .next ((((u.updPwr (fun w => { w with
        saving := ps.foldl (fun m p => m + 2 ^ p) 0, heldBefore := (ps.filter (fun p => u.rdB (Reg.seqCtrl p) 1)).foldl (fun m p => m + 2 ^ p) 0,
        notQuiet := 0 })).each ps (fun v p => setHold p true v)).abortMigrations (fun _ => true)).releaseHeld) ∧
      u = { s.silent.settleCmds.beginTransition 1 with host := { (s.silent.settleCmds.beginTransition 1).host with stopped := true } } ∧
      ps = (List.range 4).filter (fun p => u.partExists p && (u.seqState p == 2 || u.seqState p == 3 || u.seqState p == 4 || u.seqState p == 5))) ∧
  (∀ s : State, s.rdB Reg.pmcState 2 = true → s.rdF Reg.pmcState 4 3 = 1 → s.rdF Reg.pmcState 1 0 = 0 → s.unsaved = [] → s.pwr.notQuiet = 0 →
    s.mapOk = true →
    ∃ t u : State, exec .dozeEnter s = .next (t.event 0x105) ∧ t = u.endTransition 1 ∧ t.rdF Reg.pmcState 1 0 = 1 ∧ t.rdB Reg.pmcState 2 = false ∧
      t.rdB Reg.pmcStateReq 2 = false) ∧
  (∀ s : State, s.rdB Reg.pmcState 2 = true → s.rdF Reg.pmcState 4 3 = 1 → s.unsaved ++ bitsSet s.pwr.notQuiet 4 ≠ [] →
    ∃ t : State, exec .dozeQuiesceTimeout s = .next (t.event 0x107 .none 0 (s.unsaved ++ bitsSet s.pwr.notQuiet 4).head?) ∧ t.rdB Reg.pmcState 2 = false ∧ t.rdB Reg.pmcState 5 = true ∧
      t.rdB Reg.pmcStateReq 2 = false ∧ t.host.stopped = false ∧ t.pwr.saving = 0 ∧ t.pwr.heldBefore = 0) ∧
  (∀ (s : State) (w : WakeSource) (cycles : Nat) (binds : List (Nat × List (List Nat))), s.rdF Reg.pmcState 1 0 = 1 → s.rdB Reg.pmcState 2 = false →
    (s.wakeEnabled w = true → exec (.dozeWake w cycles binds) s = .next ((s.silent.beginTransition 0).leaveDoze cycles binds)) ∧
    (s.wakeEnabled w = false → exec (.dozeWake w cycles binds) s = .next s.silent))

/-- R617 to R621, R633: what the PMC_RESET commands and a transfer on the management bus do. -/
def Obligations.ResetRequestsAndBusTransfersTakeEffect : Prop :=
  (∀ (s : State) (ms : W32) (tests : List (Nat × Nat)), s.pwr.warm = false → s.resetAsked 2 = true → s.powered = true →
    exec (.pmcResetWarm ms tests) s =
      .next (((s.silent.wrB Reg.pmcReset 31 false).awake (List.range 4)).beginWarm.continueWarm ms.toNat tests)) ∧
  (∀ (s : State) (tests : List (Nat × Nat)), s.resetAsked 3 = true → s.pwr.warm = false →
    (∀ p : Nat, s.resetTarget = p → p < 4 → s.sec.stopping.get p = none → s.partExists p = true → s.partState p = 2 → s.powered = true →
      exec (.pmcResetPartition tests) s = .next (((s.silent.wrB Reg.pmcReset 31 false).awake [p]).beginStop p true tests)) ∧
    (3 < s.resetTarget → s.sec.stopping.get s.resetTarget = none →
      exec (.pmcResetPartition tests) s = .next ((s.silent.wrB Reg.pmcReset 31 false).wrB Reg.pmcReset 30 true))) ∧
  (∀ (s : State) (low : BitVec 27) (c : Nat), s.resetAsked 4 = true → s.resetTarget = c → s.pwr.warm = false →
    s.sec.stopping.get (s.partOfDie (c / 16)) = none → s.rdF Reg.pmcState 1 0 ≠ 1 → s.clusterResetOk c = true →
    ∃ u v : State, exec (.pmcResetCluster low) s = .next (((u.loadCcc c).selfTested c low.toNat).publishAll) ∧
      v = (s.silent.wrB Reg.pmcReset 31 false).event 0xA0A (.cluster c) ∧
      u = (match v.boundIndex c with
        | some j => v.clearEngines (v.leadOf (c / 16)) (15 * ((v.gang (v.leadOf (c / 16))).filter (· < c / 16)).length + j)
        | none => v)) ∧
  (∀ s : State, s.resetAsked 5 = true →
    (s.resetTarget ≤ 15 → exec .pmcResetPort s = .next ((s.silent.wrB Reg.pmcReset 31 false).portReset s.resetTarget false)) ∧
    (15 < s.resetTarget → exec .pmcResetPort s = .next ((s.silent.wrB Reg.pmcReset 31 false).wrB Reg.pmcReset 30 true))) ∧
  (∀ s : State, s.pwr.vaux = true →
    (∀ i, i < 0x100 → exec (.mgmtBusTransfer (.read i)) s = .next (s.silent.csrRead .pmc (Blk.pmc + 4 * i) 4)) ∧
    exec (.mgmtBusTransfer (.read 0x8000)) s = .next { s with answer := .data (setFld 0x4810 23 16 s.fuses.stepping) } ∧
    (∀ i, 0x100 ≤ i → i ≠ 0x8000 → exec (.mgmtBusTransfer (.read i)) s = .next { s with answer := .nack }) ∧
    (∀ i b, b.length = 4 → busWritable i (leNat b) = true →
      exec (.mgmtBusTransfer (.write i b)) s = .next (s.silent.csrWrite .pmc (Blk.pmc + 4 * i) 4 (BitVec.ofNat 64 (leNat b)))) ∧
    (∀ i b, b.length = 4 → busWritable i (leNat b) = false → exec (.mgmtBusTransfer (.write i b)) s = .next { s with answer := .nack }))

/-- R170: the effect of every scalar operation. -/
def Obligations.ScalarOperationsWriteTheirResult : Prop :=
  ∀ (s : State) (q : Fin 4), s.running q = true →
    (∀ (rd : Fin 32) (imm : W32),
      exec (.li q rd imm) s = .next (s.setSreg q rd (imm.signExtend 64)) ∧
      exec (.lih q rd imm) s = .next (s.setSreg q rd (imm ++ (s.sreg q rd).extractLsb' 0 32))) ∧
    (∀ (rd : Fin 32) (imm : W64), exec (.li64 q rd imm) s = .next (s.setSreg q rd imm)) ∧
    (∀ (rd rs1 rs2 : Fin 32) (x y : W64), s.sreg q rs1 = x → s.sreg q rs2 = y →
      exec (.add q rd rs1 rs2) s = .next (s.setSreg q rd (x + y)) ∧
      exec (.sub q rd rs1 rs2) s = .next (s.setSreg q rd (x - y)) ∧
      exec (.mul q rd rs1 rs2) s = .next (s.setSreg q rd (x * y)) ∧
      exec (.and q rd rs1 rs2) s = .next (s.setSreg q rd (x &&& y)) ∧
      exec (.or q rd rs1 rs2) s = .next (s.setSreg q rd (x ||| y)) ∧
      exec (.xor q rd rs1 rs2) s = .next (s.setSreg q rd (x ^^^ y)) ∧
      exec (.shl q rd rs1 rs2) s = .next (s.setSreg q rd (x <<< (y.toNat % 64))) ∧
      exec (.shr q rd rs1 rs2) s = .next (s.setSreg q rd (x >>> (y.toNat % 64))) ∧
      exec (.sar q rd rs1 rs2) s = .next (s.setSreg q rd (x.sshiftRight (y.toNat % 64))) ∧
      exec (.slt q rd rs1 rs2) s = .next (s.setSreg q rd (if x.toInt < y.toInt then 1 else 0)) ∧
      exec (.sltu q rd rs1 rs2) s = .next (s.setSreg q rd (if x.toNat < y.toNat then 1 else 0))) ∧
    (∀ (rd rs1 : Fin 32) (imm : W32) (x : W64), s.sreg q rs1 = x →
      exec (.addi q rd rs1 imm) s = .next (s.setSreg q rd (x + imm.signExtend 64)) ∧
      exec (.andi q rd rs1 imm) s = .next (s.setSreg q rd (x &&& imm.signExtend 64)) ∧
      exec (.ori q rd rs1 imm) s = .next (s.setSreg q rd (x ||| imm.signExtend 64))) ∧
    (∀ (rd rs1 : Fin 32) (sh : Fin 64) (x : W64), s.sreg q rs1 = x →
      exec (.shli q rd rs1 sh) s = .next (s.setSreg q rd (x <<< sh.val)) ∧
      exec (.shri q rd rs1 sh) s = .next (s.setSreg q rd (x >>> sh.val)) ∧
      exec (.sari q rd rs1 sh) s = .next (s.setSreg q rd (x.sshiftRight sh.val))) ∧
    (∀ (gr : Fin 32) (mask : W64),
      (gr.val < 16 ∧ mask.toNat < 2 ^ (15 * (s.gang q).length) →
        exec (.grpi q gr mask) s = .next (s.updSeq q (fun z => { z with gregs := z.gregs.set gr mask }))) ∧
      (¬ (gr.val < 16 ∧ mask.toNat < 2 ^ (15 * (s.gang q).length)) →
        exec (.grpi q gr mask) s = .next (s.stopRecipe q { code := 0x02 }))) ∧
    (∀ (gr rs1 : Fin 32) (x : W64), s.sreg q rs1 = x →
      (gr.val < 16 ∧ x.toNat < 2 ^ (15 * (s.gang q).length) →
        exec (.grp q gr rs1) s = .next (s.updSeq q (fun z => { z with gregs := z.gregs.set gr x }))) ∧
      (¬ (gr.val < 16 ∧ x.toNat < 2 ^ (15 * (s.gang q).length)) →
        exec (.grp q gr rs1) s = .next (s.stopRecipe q { code := 0x02 })))

/-- R171 to R175: what every flow, sync and page operation does while the sequencer runs. -/
def Obligations.FlowSyncAndPageOperationsTakeEffect : Prop :=
  ∀ (s : State) (q : Fin 4), s.running q = true →
    (∀ (off : W32) (t : Nat), off.toInt % 4 = 0 → (s.pcOf q : Int) + off.toInt = t → t + 4 ≤ (s.seq q).imageLen →
      ∀ (rs1 rs2 : Fin 32) (x y : W64) (taken kept : State), s.sreg q rs1 = x → s.sreg q rs2 = y →
        kept = s.updSeq q (fun z => { z with bundleAt := z.bundleAt + 1 }) →
        taken = s.updSeq q (fun z => { z with bundleAt := z.bundleAt + 1, nextPc := t, loops := loopsAfterJump t z.loops }) →
        exec (.jmp q off) s = .next taken ∧
        exec (.beq q rs1 rs2 off) s = .next (if x = y then taken else kept) ∧
        exec (.bne q rs1 rs2 off) s = .next (if x ≠ y then taken else kept) ∧
        exec (.blt q rs1 rs2 off) s = .next (if x.toInt < y.toInt then taken else kept) ∧
        exec (.bge q rs1 rs2 off) s = .next (if y.toInt ≤ x.toInt then taken else kept) ∧
        exec (.bltu q rs1 rs2 off) s = .next (if x.toNat < y.toNat then taken else kept) ∧
        exec (.bgeu q rs1 rs2 off) s = .next (if y.toNat ≤ x.toNat then taken else kept)) ∧
    (∀ (rs1 : Fin 32) (off : W32) (t n : Nat), off.toInt % 4 = 0 → (s.pcOf q : Int) + off.toInt = t → (s.seq q).after ≤ t → t ≤ (s.seq q).imageLen →
      fld (s.sreg q rs1) 31 0 = n →
      (n = 0 ∨ t = (s.seq q).after → exec (.loop q rs1 off) s = .next (s.updSeq q (fun z => { z with
        bundleAt := z.bundleAt + 1, nextPc := (loopIterate t z.loops).1, loops := (loopIterate t z.loops).2 }))) ∧
      (n ≠ 0 → t ≠ (s.seq q).after → (s.seq q).loops.length < 4 → (∀ l ∈ (s.seq q).loops, t ≤ l.exit) →
        exec (.loop q rs1 off) s = .next (s.updSeq q (fun z => { z with
          bundleAt := z.bundleAt + 1, nextPc := z.after, loops := { start := z.after, exit := t, remaining := n } :: z.loops })))) ∧
    ((s.seq q).passed = false → (s.seq q).blockedTokens (s.seq q).pendingTokens = [] → exec (.commit q) s =
      .next ((s.freezeOn q .commit 3 8).updSeq q (fun z => { z with held := some { cls := 0, op := 0x2C, nw := 1 } }))) ∧
    ((s.seq q).pendingTokens = [] → (s.seq q).lowestFailed (List.range 256) = none →
      exec (.recipeEnd q) s = .next (s.updSeq q (fun z => { z with endAt := some (max z.bundleAt (s.stepOf q + 1)) }))) ∧
    (∀ (c : Instr) (set : List Nat), ((∃ (tg : Fin 4) (mask : W64), c = .waitm q tg mask ∧ set = (bitsSet mask.toNat 64).map (fun i => 64 * tg.val + i)) ∨
        (∃ a b : BitVec 8, a.toNat ≤ b.toNat ∧ c = .waitr q a b ∧ set = (List.range (b.toNat + 1 - a.toNat)).map (fun i => a.toNat + i))) →
      (∀ pend, (s.seq q).pendingTokens.filter set.contains = pend →
        (pend = [] → (s.seq q).lowestFailed set = none → exec c s = .next s) ∧
        (pend = [] → ∀ t, (s.seq q).lowestFailed set = some t → exec c s = .next (s.stopRecipe q { code := 0x03, token := t })) ∧
        (pend ≠ [] → (s.seq q).blockedTokens pend = [] → ∃ sl : Slot, sl.waitSet = set ∧
          exec c s = .next ((s.freezeOn q (.wait set) 3 ((s.seq q).waitCause pend)).updSeq q (fun z => { z with held := some sl }))))) ∧
    (∀ (tok : BitVec 8), (s.seq q).isPending tok.toNat = false →
      (∀ page : BitVec 16, exec (.pref q page tok) s = .next (s.prefetch q tok.toNat (some page.toNat))) ∧
      (∀ rs1 : Fin 32, exec (.prefr q rs1 tok) s =
        .next (s.prefetch q tok.toNat (if (s.sreg q rs1).toNat < 2 ^ 16 then some (s.sreg q rs1).toNat else none))))

/-- R105, R120 to R128, R141, R153, R234: what the commands that start, hold, abort, bind, save and restore a recipe do. -/
def Obligations.SequencerCommandsTakeEffect : Prop :=
  (∀ (s : State) (q : Fin 4), s.leadOf q = q → s.seqState q = 1 → s.gangFit q = true →
    ∃ t : State, exec (.recipeStart q) s = .next t ∧ t.seqState q = 2 ∧ t.rdF (Reg.seqStatus q) 11 8 = 0 ∧ t.stepOf q = 0 ∧ t.pcOf q = 0 ∧
      t.rd (Reg.seqCommits q) = 0 ∧ t.rdF (Reg.seqFault q) 31 31 = 0 ∧ (∀ x, x < 11 → t.rd (Reg.seqStall q x) = 0) ∧
      t.rdB (Reg.seqCtrl q) 0 = false ∧ t.seq q = (s.seq q).fresh ∧ t.mem = s.mem ∧
      s.regsKeptBut t ([Reg.seqStep q, Reg.seqPc q, Reg.seqCommits q, Reg.seqFault q, Reg.seqFaultStep q, Reg.seqFaultPc q, Reg.clxLast q,
        Reg.seqStatus q, Reg.seqCtrl q] ++ (List.range 11).map (Reg.seqStall q))) ∧
  (∀ (s : State) (q : Fin 4), s.gangFit q = false → exec (.recipeStart q) s = .next s) ∧
  (∀ (s : State) (q : Fin 4), s.leadOf q = q →
    exec (.seqHoldReq q true) s = .next (s.wrB (Reg.seqCtrl q) 1 true) ∧
    ((s.seq q).freeze ≠ .hold → exec (.seqHoldReq q false) s = .next (s.wrB (Reg.seqCtrl q) 1 false)) ∧
    ((s.seq q).freeze = .hold → exec (.seqHoldReq q false) s =
      .next (((s.wrB (Reg.seqCtrl q) 1 false).updSeq q (fun z => { z with passed := true })).resume q))) ∧
  (∀ (s : State) (q : Fin 4), s.leadOf q = q → s.canStop q = true → ∃ t : State, exec (.seqAbort q) s = .next t ∧
    t.seqState q ≠ 2 ∧ t.rdF (Reg.seqFault q) 7 0 = 0x08 ∧ t.rdB (Reg.seqFault q) 31 = true ∧
    t.rd (Reg.seqFaultStep q) = s.rd (Reg.seqStep q) ∧ t.rd (Reg.seqFaultPc q) = s.rd (Reg.seqPc q) ∧
    (t.seq q).inFlight = [] ∧
    t.rcd = (s.event 0x80D (part := some (s.partOfDie q)) (agent := Agent.sch.num)).rcd) ∧
  (∀ (s : State) (d : Fin 4) (v : W64),
    (s.csrPath .sch (Reg.seqVbind d) 8 = .served → s.bindingLocked d = false →
      exec (.seqVbindWrite .sch d v) s = .next (({ s with answer := .none } : State).wr (Reg.seqVbind d) (v &&& ~~~ fldMask 62 60))) ∧
    (∀ ag : Agent, s.csrPath ag (Reg.seqVbind d) 8 = .served → ag ≠ .sch ∨ s.bindingLocked d = true →
      exec (.seqVbindWrite ag d v) s = .next (({ s with answer := .none } : State).event 0x80C .none 0 none ag.num)) ∧
    (∀ ag : Agent, s.csrPath ag (Reg.seqVbind d) 8 = .silent →
      exec (.seqVbindWrite ag d v) s = .next { s with answer := .addressError })) ∧
  (∀ (s : State) (q : Fin 4) (cycles : Nat), (s.seq q).freeze = .hold →
    ∃ (t : State) (ctx : Context Seq), exec (.contextSave q cycles) s = .next t ∧ t.seqState q = 6 ∧ t.saved.get q = some ctx ∧
      ctx.step = s.rd (Reg.seqStep q) ∧ ctx.pc = s.rd (Reg.seqPc q) ∧ ctx.commits = s.rd (Reg.seqCommits q) ∧
      ctx.store = ((s.count (Reg.seqStall q 10) cycles).storeImage q).1 ∧ ctx.syn = ((s.count (Reg.seqStall q 10) cycles).storeImage q).2 ∧
      t.mem = ((s.count (Reg.seqStall q 10) cycles).saveRegions q ctx.store ctx.syn).mem ∧
      (∀ a, (∀ d, d ∈ s.gang q → (∀ off, off < 0x40000000 → s.slabDpa (s.descHandle (4 + d)) off ≠ some a) ∧
          (∀ y, y ∈ s.slabsOf (4 + d) → a < dpaOfFrame (s.slabFrame y) ∨ dpaOfFrame (s.slabFrame y) + 0x200000 ≤ a)) →
        Tbl.get t.mem a = Tbl.get s.mem a) ∧
      s.regsKeptBut t [Reg.seqStall q 10, Reg.seqStatus q]) ∧
  (∀ (s u : State) (q : Fin 4) (cycles : Nat) (binds : List (List Nat)) (ctx : Context Seq), s.saved.get q = some ctx →
    (s.each ((s.gang q).zip binds) (fun s b => s.wr (Reg.seqVbind b.1) (vbindWord b.2))).readRegions q = u →
    s.seqState q = 0 ∨ s.seqState q = 1 ∨ s.seqState q = 6 ∨ s.seqState q = 7 ∨ s.seqState q = 8 →
    binds.length = (s.gang q).length → ((s.gang q).zip binds).all (fun b => s.bindingOk b.1 b.2) = true →
    ∃ t : State, exec (.contextRestore q cycles binds) s = .next (t.seqGoOn q) ∧
      t.seqState q = 2 ∧ t.seq q = { ctx.seq with freeze := .no, frozen := 0, passed := true } ∧
      t.rd (Reg.seqStep q) = ctx.step ∧ t.rd (Reg.seqPc q) = ctx.pc ∧ t.rd (Reg.seqCommits q) = ctx.commits ∧
      t.rdF (Reg.seqFault q) 31 31 = 0 ∧
      t.mem = (u.loadStores q (u.savedStores q ctx).1 (u.savedStores q ctx).2).mem ∧
      t.syn = (u.loadStores q (u.savedStores q ctx).1 (u.savedStores q ctx).2).syn) ∧
  (∀ (s : State) (ag : Agent) (c : Fin 64), s.csrPath ag (Reg.cluCntCtrl c) 4 = .served → ∃ t : State, exec (.cluCounterClear ag c) s = .next t ∧
    (∀ x, x < 16 → t.rd (Reg.cluExc c x) = 0) ∧ (∀ k x, k < 16 → x < 12 → t.rd (Reg.cluCellExc c k x) = 0) ∧
    t.rd (Reg.cluEccCe c) = 0 ∧ t.rd (Reg.cluEccUe c) = 0 ∧ t.rd (Reg.cluEccLast c) = 0)

/-- R98 to R133: what the commands that step a partition, issue its bundles and end its freezes do. -/
def Obligations.StepsAndReleasesTakeEffect : Prop :=
  ∀ (s u : State) (q : Fin 4) (ecc : List MemUpset), s.upset ecc = u →
    (∀ v : State, u.running q = true → u.bundleDue q = false → u.stepEngines q = (v, none) → v.stepOf q + 1 < 2 ^ 64 →
      (∀ f ∈ (v.seq q).inFlight, v.stepOf q + 1 < f.visibleAt) → (v.seq q).soon = [] → (v.seq q).endAt ≠ some (v.stepOf q + 1) →
      ∃ t : State, exec (.step q ecc) s = .next t ∧ t.stepOf q = v.stepOf q + 1 ∧
        t.seq q = { v.seq q with before := (v.seq q).sregs, groupsBefore := (v.seq q).gregs } ∧ t.mem = v.mem ∧
        v.regsKeptBut t [Reg.seqStep q]) ∧
    (∀ c, u.seqState q = 3 → u.stallCause q = some c → exec (.step q ecc) s = .next (u.count (Reg.seqStall q c) 1)) ∧
    (u.bundleDue q = true → exec (.bundleIssue q ecc) s = .next (u.handleBundle q)) ∧
    (∀ (cls k n : Nat) (sl : Slot) (rest : List Slot) (v : State), u.running q = true → u.bundleDue q = false →
      (u.engine q cls n k).waiting = sl :: rest → (u.engine q cls n k).readyAt ≤ u.stepOf q →
      (u.updEngine q cls n k (fun e => { e with waiting := rest })).issueOp q cls n k sl = (v, none) →
      exec (.waitingSlotIssue q cls n k ecc) s = .next v) ∧
    (∀ p, (u.seq q).freeze = .page p →
      (∀ cells, (u.readPage q p).loadPage q p = .loaded cells → exec (.pageLoaded q ecc) s =
        .next ((((u.readPage q p).placePage q p cells).updSeq q (fun z => { z with fetched := z.fetched ++ [p] })).resume q)) ∧
      ((u.readPage q p).loadPage q p = .noHandle → exec (.pageLoaded q ecc) s = .next ((u.readPage q p).stopRecipe q { code := 0x05 })) ∧
      (∀ off, (u.readPage q p).loadPage q p = .badTile off → exec (.pageLoaded q ecc) s =
        .next (((u.readPage q p).checkFailedHandle 6 ((u.readPage q p).seq q).image off (some ((u.readPage q p).partOfDie q))).stopRecipe q { code := 0x07 }))) ∧
    (∀ ts, (u.seq q).freeze = .wait ts → ts.any (u.seq q).isPending = false →
      ((u.seq q).lowestFailed ts = none → exec (.waitRelease q ecc) s = .next (u.resume q)) ∧
      (∀ t, (u.seq q).lowestFailed ts = some t → exec (.waitRelease q ecc) s = .next (u.stopRecipe q { code := 0x03, token := t }))) ∧
    (∀ ts, (u.seq q).freeze = .reuse ts → ts.any (u.seq q).isPending = false →
      exec (.tokenReuseRelease q ecc) s = .next (u.resume q)) ∧
    (∀ ts, (u.seq q).freeze = .drain ts → (u.seq q).pendingTokens = [] →
      ((u.seq q).lowestFailed (List.range 256) = none → exec (.endDrain q ecc) s = .next (u.resume q)) ∧
      (∀ t, (u.seq q).lowestFailed (List.range 256) = some t → exec (.endDrain q ecc) s = .next (u.stopRecipe q { code := 0x03, token := t }))) ∧
    (∀ t, (u.seq q).freeze = .commit → (u.seq q).pendingTokens = [] → (u.seq q).lowestFailed (List.range 256) = some t →
      exec (.commitQuiesce q ecc) s = .next (u.stopRecipe q { code := 0x03, token := t })) ∧
    ((u.seq q).freeze = .commit → (u.seq q).pendingTokens = [] → (u.seq q).lowestFailed (List.range 256) = none →
      (u.quiescent q = false → exec (.commitQuiesce q ecc) s = .next (u.stopRecipe q { code := 0x04 })) ∧
      (u.quiescent q = true → u.rdB (Reg.seqCtrl q) 1 = true → exec (.commitQuiesce q ecc) s =
        .next ((u.count (Reg.seqCommits q) 1).freezeOn q .hold 4 9)) ∧
      (u.quiescent q = true → u.rdB (Reg.seqCtrl q) 1 = false → exec (.commitQuiesce q ecc) s =
        .next (((u.count (Reg.seqCommits q) 1).updSeq q (fun z => { z with passed := true })).resume q))) ∧
    (∀ (tok : BitVec 8) (p : Prefetch) (v w : State), (u.seq q).prefetches.find? (fun p => p.token = tok.toNat ∧ !p.waits) = some p →
      v = u.updSeq q (fun z => { z with prefetches := z.prefetches.filter (fun x => x.token ≠ p.token) }) → v.readPage q p.page = w →
      (∀ cells, w.loadPage q p.page = .loaded cells →
        exec (.prefetchDone q tok ecc) s = .next ((w.placePage q p.page cells).tokenPart q tok.toNat true)) ∧
      (w.loadPage q p.page = .noHandle → exec (.prefetchDone q tok ecc) s = .next (w.tokenPart q tok.toNat false)) ∧
      (∀ off, w.loadPage q p.page = .badTile off → exec (.prefetchDone q tok ecc) s =
        .next ((w.checkFailedHandle 6 (w.seq q).image off (some (w.partOfDie q))).tokenPart q tok.toNat false)))

/-- R105, R109, R176 to R178: what every control slot of a standing order does while the sequencer runs. -/
def Obligations.ControlSlotsChangeTheirOrders : Prop :=
  ∀ (s : State) (q : Fin 4) (cls : Fin 16) (sel : Sel) (us ks : List Nat), s.running q = true → orderClass cls = true →
    s.selClusters q sel.gmode sel.gsel = some us → selCells cls sel.csel = some ks →
    ∀ changed : (Order → Order) → State,
      (∀ f, changed f = (us.flatMap (fun u => ks.map (fun k => (u, k)))).foldl (fun t i =>
        t.updEngine q cls i.1 i.2 (fun e => { e with order := f e.order })) s) →
      (∀ (start : Bool) (rec : W32), s.recordOk q cls rec.toNat = true →
        (s.pageReady q (rec.toNat / 65536) = true → exec (.sold q cls sel start rec) s =
          .next (changed (fun _ => if start then (Sys2Proof.Machine.orderOf (s.recordWord q rec.toNat)).start else Sys2Proof.Machine.orderOf (s.recordWord q rec.toNat)))) ∧
        (s.pageReady q (rec.toNat / 65536) = false → exec (.sold q cls sel start rec) s =
          .next (s.freezeOn q (.page (rec.toNat / 65536)) 3 7))) ∧
      exec (.sostart q cls sel) s = .next (changed (fun o => { o with
        running := true, pointer := o.first, loops := o.loops.map (fun l => { l with remaining := l.count }),
        gens := o.gens.map (fun g => { g with index := [0, 0, 0, 0] }) })) ∧
      exec (.sostop q cls sel) s = .next (changed (fun o => { o with running := false })) ∧
      (∀ (g : Fin 4) (rs : Fin 32), exec (.sogen q cls sel g rs) s = .next (changed (fun o => { o with
        gens := updAt o.gens g (fun x => { x with base := fld (s.sreg q rs) 31 0 }) }))) ∧
      (∀ (l : Fin 4) (rs : Fin 32), l.val ≤ 2 → 1 ≤ (s.sreg q rs).toNat → (s.sreg q rs).toNat ≤ 65536 →
        exec (.soloop q cls sel l rs) s = .next (changed (fun o => { o with
          loops := updAt o.loops l (fun x => { x with count := (s.sreg q rs).toNat, remaining := (s.sreg q rs).toNat }) })))

/-- R192, R193, R231, R300, R428, R546: what the asynchronous operations do while the sequencer runs, and how a transfer ends. -/
def Obligations.AsynchronousOperationsTakeEffect : Prop :=
  (∀ (s : State) (q : Fin 4) (c : Instr) (op : Nat) (sel : Sel) (f : DmxFields) (us : List Nat), s.running q = true →
    (op, c) ∈ [(1, .dld q sel f), (2, .dst q sel f), (3, .drget q sel f), (4, .drput q sel f), (5, .drputh q sel f), (6, .dhrd q sel f), (7, .dhwr q sel f)] →
    s.selClusters q sel.gmode sel.gsel = some us → sel.csel.val < 2 → (f.fan = true → f.cell = 0) → f.store.toNat / 2 ^ 14 ≤ 1 →
    (s.seq q).isPending f.token.toNat = false →
    ∀ is : List (Nat × Nat), is = us.flatMap (fun u => (if f.fan then List.range 16 else [f.cell.val]).map (fun k => (u, k))) →
      (∀ i, is.zipIdx.find? (fun i => (s.dmxPart q (dmxOp op sel f) i.2 i.1).isNone) = some i →
        exec c s = .next (s.stopRecipe q { code := 0x05, eclass := 0xA, u := i.1.1, k := 0 })) ∧
      (∀ ps : List DmxPart, is.zipIdx.map (fun i => s.dmxPart q (dmxOp op sel f) i.2 i.1) = ps.map some →
        ((op = 6 ∨ op = 7) → s.fnPresent (s.partPort (s.partOfDie q)) (s.partOfDie q + 1) = false →
          exec c s = .next (s.updSeq q (fun z => { z.openToken f.token.toNat 2 1 with soon := z.soon ++ [(f.token.toNat, false)] }))) ∧
        (((op = 6 ∨ op = 7) → s.fnPresent (s.partPort (s.partOfDie q)) (s.partOfDie q + 1) = true) →
          ∀ jobs : List (Nat × NetJob), jobs = (if 3 ≤ op ∧ op ≤ 5 then ps.flatMap (fun p => (s.dmxJobs q op f.token.toNat p).map (fun j => (p.far, j))) else []) →
          exec c s = .next ((s.updSeq q (fun z => { z.openToken f.token.toNat (if op ≤ 2 then 0 else if op ≤ 5 then 1 else 2) 1 with
            transfers := z.transfers ++ [{ op := op, token := f.token.toNat, parts := ps, left := jobs.length }] })).each jobs
            (fun s j => s.enqueueJob j.1 (dmxClass j.1) j.2))))) ∧
  (∀ (s : State) (q : Fin 4) (t : Trigger) (args : List W64), s.running q = true → (s.seq q).isPending t.token.toNat = false →
    args = (List.range 4).map (fun i => s.sreg q ((t.rsArg + i) % 32)) →
    exec (.ctrig q t) s = .next ((({ s with clxs := s.clxs.upd q (fun c => { c with
      queue := c.queue ++ [{ lead := q, program := t.index.toNat, token := t.token.toNat, args := args }] }) } : State).countF (Reg.clxStatus q) 16 8 1).updSeq q
      (fun z => z.openToken t.token.toNat 4 1)) ∧
    (∀ (mask : BitVec 12) (code : Nat), s.dispatchCode q mask.toNat t.index.toNat args = code →
      (code ≠ 0 → exec (.btrig q mask t) s = .next ((s.callFailed (s.partOfDie q) t.index.toNat code t.token.toNat mask.toNat).updSeq q (fun z =>
        { z.openToken t.token.toNat 3 1 with soon := z.soon ++ [(t.token.toNat, false)] }))) ∧
      (code = 0 → mask = 0 → exec (.btrig q mask t) s = .next (s.updSeq q (fun z =>
        { z.openToken t.token.toNat 3 1 with soon := z.soon ++ [(t.token.toNat, true)] }))) ∧
      (∀ n ns, code = 0 → s.maskStacks q mask.toNat = some (n :: ns) → exec (.btrig q mask t) s = .next (((s.each (n :: ns) (fun s n =>
        ({ s with bases := s.bases.upd n (fun b => { b with queue := b.queue ++ [{ lead := q, entry := t.index.toNat, token := t.token.toNat, mask := mask.toNat, args := args }] }) } : State).countF (Reg.stkBeStatus n) 16 8 1)).updSeq q
        (fun z => z.openToken t.token.toNat 3 (n :: ns).length)))))) ∧
  (∀ (s : State) (q : Fin 4) (sig : Fin 64), s.running q = true →
    exec (.bsig q sig) s = .next (s.wr (Reg.bbxSigAccLocal (s.partOfDie q))
      (s.rd (Reg.bbxSigAccLocal (s.partOfDie q)) ||| BitVec.ofNat 64 (2 ^ sig.val)))) ∧
  (∀ (s u v : State) (q : Fin 4) (tok : BitVec 8) (host : List HostData) (ecc : List MemUpset) (t : DmxTransfer) (ok : Bool), s.silent.upset ecc = u →
    (u.seq q).transfers.find? (fun t => t.token = tok.toNat) = some t → t.left = 0 →
    (t.op = 6 ∨ t.op = 7 → u.vfHeld (u.partOfDie q) = false) →
    (u.updSeq q (fun z => { z with transfers := z.transfers.filter (fun x => x.token ≠ t.token) })).dmxRun (u.partOfDie q) t host = (v, ok) →
    exec (.dmxTransferDone q tok host ecc) s = .next (v.tokenPart q t.token (ok && !t.failed)))

/-- R104 to R109, R180 to R191: what every engine operation does at the engine instances it addresses while the sequencer runs. -/
def Obligations.EngineOperationsIssue : Prop :=
  ∀ (s v : State) (q : Fin 4) (ecc : List MemUpset) (sel : Sel) (m : Fin 128) (a b d e : BitVec 16) (x y : W32) (r1 r2 r3 : Fin 32) (dist : Fin 4)
    (c : Instr) (cls op nw mod w1 w2 u k : Nat), s.upset ecc = v → v.running q = true →
    (c, cls, op, nw, mod, w1, w2) ∈
      [(Instr.mcfg q sel x y ecc, 1, 0, 3, 0, x.toNat, y.toNat), (.mms q sel a b ecc, 1, 1, 2, 0, a.toNat + b.toNat * 65536, 0),
       (.mmc q sel a b ecc, 1, 2, 2, 0, a.toNat + b.toNat * 65536, 0), (.mme q sel a b d ecc, 1, 3, 3, 0, a.toNat + b.toNat * 65536, d.toNat),
       (.mmse q sel a b d ecc, 1, 4, 3, 0, a.toNat + b.toNat * 65536, d.toNat), (.mmss q sel a b d ecc, 1, 5, 3, 0, a.toNat + b.toNat * 65536, d.toNat),
       (.vcfg q sel x ecc, 2, 0, 2, 0, x.toNat, 0), (.vadd q sel m a b d ecc, 2, 1, 3, m.val, a.toNat + b.toNat * 65536, d.toNat),
       (.vmul q sel m a b d ecc, 2, 2, 3, m.val, a.toNat + b.toNat * 65536, d.toNat),
       (.vfma q sel m a b d e ecc, 2, 3, 3, m.val, a.toNat + b.toNat * 65536, d.toNat + e.toNat * 65536),
       (.vmax q sel m a b d ecc, 2, 4, 3, m.val, a.toNat + b.toNat * 65536, d.toNat),
       (.vmin q sel m a b d ecc, 2, 5, 3, m.val, a.toNat + b.toNat * 65536, d.toNat),
       (.vscl q sel m a d r1 ecc, 2, 6, 3, m.val, a.toNat, d.toNat + r1.val * 65536), (.vred q sel m a d ecc, 2, 7, 3, m.val, a.toNat, d.toNat),
       (.vcvt q sel m a d ecc, 2, 8, 3, m.val, a.toNat, d.toNat), (.kcopy q sel m a d ecc, 3, 1, 3, m.val, a.toNat, d.toNat),
       (.ktrans q sel m a d e ecc, 3, 2, 3, m.val, a.toNat, d.toNat + e.toNat * 65536),
       (.kperm q sel m a b d e ecc, 3, 3, 3, m.val, a.toNat + b.toNat * 65536, d.toNat + e.toNat * 65536),
       (.kgath q sel m a b d e ecc, 3, 4, 3, m.val, a.toNat + b.toNat * 65536, d.toNat + e.toNat * 65536),
       (.kscat q sel m a b d e ecc, 3, 5, 3, m.val, a.toNat + b.toNat * 65536, d.toNat + e.toNat * 65536),
       (.fcfg q sel x y ecc, 4, 0, 3, 0, x.toNat, y.toNat),
       (.fcvt q sel m a b d e ecc, 4, 1, 3, m.val, a.toNat + b.toNat * 65536, d.toNat + e.toNat * 65536),
       (.fscale q sel m a b e ecc, 4, 2, 3, m.val, a.toNat + b.toNat * 65536, e.toNat * 65536), (.tcfg q sel x ecc, 5, 0, 2, 0, x.toNat, 0),
       (.texp q sel m a d ecc, 5, 1, 2, m.val, a.toNat + d.toNat * 65536, 0), (.tlog q sel m a d ecc, 5, 2, 2, m.val, a.toNat + d.toNat * 65536, 0),
       (.trcp q sel m a d ecc, 5, 3, 2, m.val, a.toNat + d.toNat * 65536, 0), (.trsq q sel m a d ecc, 5, 4, 2, m.val, a.toNat + d.toNat * 65536, 0),
       (.ttanh q sel m a d ecc, 5, 5, 2, m.val, a.toNat + d.toNat * 65536, 0), (.tsigm q sel m a d ecc, 5, 6, 2, m.val, a.toNat + d.toNat * 65536, 0),
       (.tsin q sel m a d ecc, 5, 7, 2, m.val, a.toNat + d.toNat * 65536, 0), (.tcos q sel m a d ecc, 5, 8, 2, m.val, a.toNat + d.toNat * 65536, 0),
       (.scfg q sel x ecc, 6, 0, 2, 0, x.toNat, 0),
       (.ssort q sel m a b d e ecc, 6, 1, 3, m.val, a.toNat + b.toNat * 65536, d.toNat + e.toNat * 65536),
       (.stopk q sel m a b d e ecc, 6, 2, 3, m.val, a.toNat + b.toNat * 65536, d.toNat + e.toNat * 65536), (.icfg q sel x ecc, 7, 0, 2, 0, x.toNat, 0),
       (.ihist q sel m a d ecc, 7, 1, 3, m.val, a.toNat, d.toNat), (.ipsum q sel m a d ecc, 7, 2, 3, m.val, a.toNat, d.toNat),
       (.icomp q sel m a b d e ecc, 7, 3, 3, m.val, a.toNat + b.toNat * 65536, d.toNat + e.toNat * 65536),
       (.iroute q sel m a d e ecc, 7, 4, 3, m.val, a.toNat, d.toNat + e.toNat * 65536), (.ccomp q sel m a d ecc, 8, 1, 3, m.val, a.toNat, d.toNat),
       (.cdec q sel m a d ecc, 8, 2, 3, m.val, a.toNat, d.toNat),
       (.rgen q sel m a r1 r2 dist r3 ecc, 9, 1, 3, m.val, a.toNat + r1.val * 65536 + r2.val * 2 ^ 21 + dist.val * 2 ^ 26, r3.val),
       (.rcfg q sel x ecc, 11, 0, 2, 0, x.toNat, 0), (.rred q sel m a d ecc, 11, 1, 2, m.val, a.toNat + d.toNat * 65536, 0),
       (.rbcast q sel m a d ecc, 11, 2, 2, m.val, a.toNat + d.toNat * 65536, 0), (.rcat q sel m a d ecc, 11, 3, 2, m.val, a.toNat + d.toNat * 65536, 0)] →
    ∀ sl : Slot, sl = { cls := cls, op := op, nw := nw, gmode := sel.gmode, gsel := sel.gsel, csel := sel.csel, mod := mod, w1 := w1, w2 := w2 } →
    v.slotOk q (v.pcOf q) (v.seq q).after sl = true →
    (∀ is : List (Nat × Nat), v.instances q sl = some is → exec c s = .next (State.stopIf (is.foldl (fun a i =>
      ((a.1.slotAt q cls i.1 i.2 sl).1, firstFault a.2 (a.1.slotAt q cls i.1 i.2 sl).2)) (v, none)) q)) ∧
    (v.instances q sl = some [(u, k)] →
    (v.stepOf q < (v.engine q cls u k).readyAt ∨ (v.engine q cls u k).waiting ≠ [] →
      exec c s = .next (v.updEngine q cls u k (fun e => { e with waiting := e.waiting ++ [sl] }))) ∧
    ((v.engine q cls u k).readyAt ≤ v.stepOf q → (v.engine q cls u k).waiting = [] →
      ∀ (lat ii : Nat) (st : EngSt), engineTiming (v.engine q cls u k) sl = (lat, ii) →
      (∀ out, (engineRun q cls u k (v.engine q cls u k) sl).run ({ st := v, ii := ii } : EngSt) = (.ok out, st) →
        ∃ t : State, exec c s = .next t ∧
          t.engine q cls u k = { out.eng with readyAt := v.stepOf q + ii, order := out.eng.order.advance (orefGens sl.orefs) } ∧
          (t.seq q).inFlight = addInFlight (st.st.seq q).inFlight
            { visibleAt := v.stepOf q + lat, issuedAt := v.stepOf q, ii := ii, reads := st.reads, writes := out.writes } ∧
          t.mem = st.st.mem ∧ t.csr = st.st.csr) ∧
      (∀ f, (engineRun q cls u k (v.engine q cls u k) sl).run ({ st := v, ii := ii } : EngSt) = (.error f, st) →
        exec c s = .next (st.st.stopRecipe q { code := f.code, eclass := cls, u := u, k := f.cell.getD k }))))

/-- R79, R80: rounding of a magnitude of N / D units in each mode. -/
def Obligations.RoundingFollowsItsMode : Prop :=
  ∀ (neg : Bool) (u N D : Nat), u < 2 ^ 16 → 0 < D →
    roundMag .sr neg u N D = (if 2 ^ 16 ≤ N * 2 ^ 16 / D % 2 ^ 16 + u then N / D + 1 else N / D) ∧
    (∀ m : RMode, N % D = 0 → roundMag m neg u N D = N / D) ∧
    (∀ m : RMode, roundMag m neg u N D = N / D ∨ roundMag m neg u N D = N / D + 1) ∧
    (2 * (roundMag .rne neg u N D * D - N) ≤ D ∧ 2 * (N - roundMag .rne neg u N D * D) ≤ D ∧
      (2 * (N % D) = D → roundMag .rne neg u N D % 2 = 0)) ∧
    roundMag .rtz neg u N D = N / D ∧
    (if neg then N ≤ roundMag .rdn neg u N D * D else roundMag .rdn neg u N D * D ≤ N) ∧
    (if neg then roundMag .rup neg u N D * D ≤ N else N ≤ roundMag .rup neg u N D * D)

/-- R66 to R71, R80, R83, R84: reading an element and rounding its value to the same format loses nothing. -/
def Obligations.ElementsRoundToThemselves : Prop :=
  ∀ (f x u : Nat) (m : RMode) (sat : Bool), f < 16 → fmtReserved f = false → x < 2 ^ elemBits f → u < 2 ^ 16 →
    (decodeElem f x).special = false → (f = 0xD → x ≠ 0x80) →
    roundElem f m sat u (decodeElem f x) = (x, {})

/-- R225 to R227: CDEC undoes CCOMP. -/
def Obligations.CompressionIsInvertible : Prop :=
  ∀ (t : Nat) (bs : List Byte), 1 ≤ t → t ≤ 128 → bs.length = 4096 * t →
    (cpxCompress t bs).1.length = 4096 * t + 64 ∧ cpxDecompress t (cpxCompress t bs).1 = some bs ∧
    (∀ t', 1 ≤ t' → t' ≤ 128 → t' ≠ t → cpxDecompress t' (cpxCompress t bs).1 = none)

/-- R243 to R278: what the commands on the stacks' requests, descriptors, frames and pseudo-channels do. -/
def Obligations.StackCommandsTakeEffect : Prop :=
  (∀ (v t : State) (r : LineAccess) (a : Nat), v.serveLine r a = t →
    (∀ bs, r.data = some bs → t.answer = v.answer ∧ ∃ w : State, t = w.writeBytes a (bs.take 64) ∧ w.mem = v.mem ∧ w.syn = v.syn) ∧
    (r.data = none → t.mem = v.mem ∧ t.answer = if t.tileDead (a / 4096) then .failing (v.readBytes a 64) else .bytes (v.readBytes a 64))) ∧
  (∀ (s u v : State) (r : LineAccess) (ecc : List MemUpset) (bad : List Nat) (h o : Nat), ((s.upset ecc).mismatches bad).releaseHeld = u →
    v = { u with answer := .none } → h = r.handle.toNat → o = r.off / 64 * 64 →
    (∀ (a n : Nat) (own : Bool), v.slabDpa h o = some a → v.handleOk r.user h o 64 r.data.isSome = true → v.pcRetired a = false →
      n = a / 0x1000000000 → own = r.die.any (fun d => decide (n / 3 = d.val)) →
      (v.domOn (stackDomain n) = false → exec (.stackRequest r ecc bad) s = .next { v with answer := .addressError }) ∧
      (v.domOn (stackDomain n) = true → v.rdF (Reg.hubSlab (v.slabOf h r.off).1) 21 20 = 2 →
        exec (.stackRequest r ecc bad) s = .next (v.updStacks (fun k => { k with held := k.held ++ [r] }))) ∧
      (v.domOn (stackDomain n) = true → v.rdF (Reg.hubSlab (v.slabOf h r.off).1) 21 20 ≠ 2 →
        (v.stackServes n = false ∨ trackerEntry (v.stackSide.tracked.get n) own = none →
          exec (.stackRequest r ecc bad) s = .next (v.updStacks (fun k => { k with waiting := k.waiting.upd n (· ++ [r]) }))) ∧
        (∀ (sh : Bool) (e : Tracked), v.stackServes n = true → trackerEntry (v.stackSide.tracked.get n) own = some sh →
          e = { own := own, shared := sh, handle := h, frame := frameOfDpa a } → exec (.stackRequest r ecc bad) s =
            .next (((v.updStacks (fun k => { k with tracked := k.tracked.upd n (· ++ [e]) })).trackCount n).serveLine r a)))) ∧
    (v.slabDpa h o = none ∨ v.handleOk r.user h o 64 r.data.isSome = false ∨ (∃ a, v.slabDpa h o = some a ∧ v.pcRetired a = true) →
      ∃ t : State, exec (.stackRequest r ecc bad) s = .next t ∧ t = v.requestError r ((v.slabDpa h o).getD 0) ∧
        t.answer = .addressError ∧ t.mem = v.mem ∧ t.stackSide = v.stackSide)) ∧
  (∀ (s : State) (n : Fin 12) (i : Nat), i < (s.stackSide.tracked.get n).length →
    exec (.trackerEntryFree n i) s =
      .next (((s.updStacks (fun k => { k with tracked := k.tracked.upd n (fun l => l.eraseIdx i) })).trackCount n).retryWaiting n)) ∧
  (∀ (s : State) (n : Fin 12) (line : BitVec 30) (ecc : List MemUpset),
    exec (.patrol n line ecc) s = .next (((s.upset ecc).readLine true (n.val * 0x40000000 + line.toNat)).releaseHeld)) ∧
  (∀ (s : State) (x : BitVec 16) (j : Fin 4) (v : W64),
    (s.csrPath .sch (descWord x.toNat j.val) 8 = .served → s.descWriteOk x.toNat j.val (v &&& descMask j.val) = true → ∃ t : State, exec (.descriptorWrite .sch x j v) s = .next t ∧
      t.rd (descWord x.toNat j.val) = v &&& descMask j.val ∧ t.cpOk (descWord x.toNat j.val) = true ∧ s.regsKeptBut t [descWord x.toNat j.val]) ∧
    (∀ ag : Agent, s.csrPath ag (descWord x.toNat j.val) 8 = .served → ag ≠ .sch ∨ s.descWriteOk x.toNat j.val (v &&& descMask j.val) = false →
      exec (.descriptorWrite ag x j v) s = .next (({ s with answer := .none } : State).event 0x80C .none 0 none ag.num)) ∧
    (∀ ag : Agent, s.csrPath ag (descWord x.toNat j.val) 8 = .silent →
      exec (.descriptorWrite ag x j v) s = .next { s with answer := .addressError })) ∧
  (∀ (s u : State) (x : BitVec 16), s.stackSide.dying.contains x.toNat = true →
    (∀ n, n < 12 → ∀ t ∈ s.stackSide.tracked.get n, handleIndex t.handle ≠ x.toNat) →
    u = s.abortMigrations (fun g => g.moves.any (fun m => (s.slabsOf x.toNat).contains m.slab)) →
    exec (.handleDrained x) s = .next ((((u.each (s.slabsOf x.toNat) (fun s y => s.cpCommit (Reg.hubSlab y) 0)).setFrames
      ((s.slabsOf x.toNat).map u.slabFrame) .clearing).updStacks (fun k => { k with
        dying := k.dying.filter (· ≠ x.toNat), sealed := k.sealed.filter (· ≠ x.toNat) })).releaseHeld)) ∧
  (∀ (s : State) (n : Fin 12) (f : BitVec 15), s.stackSide.frames.get (frameNo n.val f.toNat) = .clearing →
    exec (.frameClearDone n f) s = .next ((s.zeroRange (dpaOfFrame (frameNo n.val f.toNat)) 0x200000).setFrames [frameNo n.val f.toNat] .free)) ∧
  (∀ (s : State) (n : Fin 12) (p : Fin 64), s.rdF (Reg.stkPcState n p) 1 0 = 1 →
    s.heldFrames (frameNo n.val (512 * p.val)) (frameNo n.val (512 * p.val) + 512)
      (fun x => decide (x = .resident ∨ x = .system ∨ x = .copyingTo)) = 0 →
    exec (.pcRetired n p) s = .next ((((s.wrF (Reg.stkPcState n p) 1 0 2).syncStatus n).setFrames
      ((List.range 512).map (· + frameNo n.val (512 * p.val))) .lost).event 0x305 (.stack n.val) p.val)) ∧
  (∀ (s : State) (n : Fin 12) (p : Fin 64) (left : List Stranded),
    left = (s.stackSide.stranded.get (64 * n.val + p.val)).filter (fun t =>
      s.rdB (Reg.hubDescW0 (handleIndex t.handle)) 0 && s.rdF (Reg.hubDescW0 (handleIndex t.handle)) 11 4 == handleGen t.handle &&
        !t.rewritten) →
    ∃ t : State, exec (.drainRetry n p) s = .next t ∧ t.stackSide.stranded.get (64 * n.val + p.val) = left ∧
      t.rdF (Reg.stkPcState n p) 2 2 = (if left = [] then 0 else 1) ∧ s.regsKeptBut t [Reg.stkPcState n p])

/-- R268 to R277: what the end of a heat window and the commands of migrations do. -/
def Obligations.HeatAndMigrationsTakeEffect : Prop :=
  (∀ (s : State) (n : Fin 12), ∃ t : State, exec (.heatWindowEnd n) s = .next t ∧
    (∀ f, f < 32768 → t.stackSide.heat.get (frameNo n f) = 0 ∧
      (s.stackSide.heat.filter (fun e => e.1 = frameNo n f) = [] → t.rd (Reg.stkHeat n f) = 0) ∧
      (∀ v, s.stackSide.heat.filter (fun e => e.1 = frameNo n f) = [(frameNo n f, v)] → t.rd (Reg.stkHeat n f) = v)) ∧
    t.rd (Reg.stkHeatGen n) = s.rd (Reg.stkHeatGen n) + 2 ∧ t.mem = s.mem ∧ t.stackSide.frames = s.stackSide.frames ∧
    t.stackSide.candidates = s.stackSide.candidates.filter (fun c => t.slabFrame c.slab / 32768 ≠ n) ++ t.evaluate n) ∧
  (∀ (s u : State) (y : BitVec 19) (picks : List Nat) (x k n m : Nat) (mv : List SlabMove) (drain : Bool) (cand : Option Candidate),
    s.slabOwner y.toNat = some (x, k) → n = s.slabFrame y.toNat / 32768 → s.drains y.toNat = drain →
    s.stackSide.candidates.find? (fun c => c.slab = y.toNat) = cand →
    (s.groupSlabs x k).all (fun z => s.rdB (Reg.hubSlab z) 0 && s.rdF (Reg.hubSlab z) 21 20 == 0) = true →
    (drain || (cand.isSome && s.rdB Reg.hubPlaceCtrl 0 && !(s.groupOf x).any (fun z => s.rdB (Reg.hubDescW0 z) 17) && !s.drainFirst n (s.groupOf x).length)) = true →
    s.slotsOpen n (s.groupOf x).length = true →
    ((s.groupOf x).any (fun z => s.rdB (Reg.hubDescW3 z) 32) && s.baseRuns n (s.descPart x)) = false →
    s.migStack x k n drain cand = some m →
    s.planMoves k m (!drain && decide (cand = some { slab := y.toNat, die := none })) (s.groupOf x) picks [] = some (u, mv) →
    ∃ t : State, exec (.migrationStart y picks) s = .next t ∧ t.mem = u.mem ∧
      t.stackSide.migs = u.stackSide.migs ++ [{ moves := mv, drain := drain }] ∧ t.stackSide.frames = u.stackSide.frames ∧
      t = ((u.each mv (fun t v => t.cpCommit (Reg.hubSlab v.slab) (slabWord true v.src 1 v.dst))).updStacks (fun q => { q with
        migs := q.migs ++ [{ moves := mv, drain := drain }]
        candidates := q.candidates.filter (fun c => !(mv.any (fun v => v.slab == c.slab))) })).count Reg.hubMigStarted mv.length) ∧
  (∀ (s u v : State) (y : BitVec 19) (late : List Nat) (ecc : List MemUpset) (g : Migration) (mv : List SlabMove) (sw : Bool), s.upset ecc = u →
    u.stackSide.migs.find? (fun g => !g.switching && g.moves.any (fun m => m.slab == y.toNat)) = some g →
    mv = g.moves.map (fun m => { m with todo := m.written.filter (fun t => !m.todo.contains t || late.contains (m.slab * 512 + t)), written := [] }) →
    sw = (mv.all (fun m => decide (m.todo.length ≤ 16)) || decide (4 ≤ g.pass)) →
    exec (.migrationPassEnd y late true ecc) s = .next (u.abortMigration g).releaseHeld ∧
    (u.copyTiles g SlabMove.todo = (v, none) → ∀ w : State, w = v.updStacks (fun k => { k with
        migs := k.migs.map (fun m => if m = g then { g with moves := mv, pass := g.pass + 1, switching := sw } else m) }) →
      exec (.migrationPassEnd y late false ecc) s = .next (if sw then w.each mv (fun s m => s.cpCommit (Reg.hubSlab m.slab) (slabWord true m.src 2 m.dst)) else w))) ∧
  (∀ (s u v : State) (y : BitVec 19) (ecc : List MemUpset) (g : Migration), s.upset ecc = u →
    u.stackSide.migs.find? (fun g => g.switching && g.moves.any (fun m => m.slab == y.toNat)) = some g →
    (List.range 12).any (fun n => (u.stackSide.tracked.get n).any (fun t => g.moves.any (fun m => m.src == t.frame))) = false →
    u.copyTiles g (fun m => m.todo ++ m.written.filter (fun t => !m.todo.contains t)) = (v, none) →
    exec (.migrationSwitch y ecc) s = .next ((((v.updStacks (fun k => { k with migs := k.migs.filter (fun m => m ≠ g) })).each g.moves (fun s m =>
      ((s.cpCommit (Reg.hubSlab m.slab) (slabWord true m.dst 0 0)).setFrames [m.dst]
        (if s.rdB (Reg.hubDescW0 (handleIndex m.handle)) 1 then .system else .resident)).setFrames [m.src] .clearing)).count
      Reg.hubMigDone g.moves.length).releaseHeld))

/-- R307 to R320: what the command of every base instruction and built-in program does with a vector unit's work item. -/
def Obligations.BaseInstructionsRunTheirWorkItem : Prop :=
  ∀ (s v : State) (n : Fin 12) (u : Fin 128) (ecc : List MemUpset) (w : WorkItem) (r : BaseRun), s.upset ecc = v → v.unitItem n u = some w →
    (v.bases.get n).run = some r →
    (∀ (w0 w1 : Nat) (c : Instr) (op : Nat), v.callProgram n r.call.entry < 0x4000 → v.codeWord n w.pc = w0 → v.codeWord n (w.pc + 1) = w1 →
      (op, c) ∈ [(0x1, Instr.baseVadd n u ecc), (0x2, .baseVsub n u ecc), (0x3, .baseVmul n u ecc), (0x4, .baseVfma n u ecc), (0x5, .baseVmax n u ecc), (0x6, .baseVmin n u
        ecc), (0x7, .vdiv n u ecc), (0x8, .vsqrt n u ecc), (0x9, .vabs n u ecc), (0xa, .vsel n u ecc), (0xb, .vcmplt n u ecc), (0xc, .vcmple n u ecc), (0xd,
        .vcmpeq n u ecc), (0xe, .vsum n u ecc), (0x10, .viadd n u ecc), (0x11, .visub n u ecc), (0x12, .vimul n u ecc), (0x13, .viand n u ecc), (0x14, .vior n
        u ecc), (0x15, .vixor n u ecc), (0x16, .vishl n u ecc), (0x17, .vishr n u ecc), (0x18, .vcvtfi n u ecc), (0x19, .vcvtif n u ecc), (0x1a, .vidx n u
        ecc), (0x20, .vbcx n u ecc), (0x21, .vbci n u ecc), (0x22, .vbcc n u ecc), (0x30, .vld n u ecc), (0x31, .vst n u ecc), (0x40, .xadd n u ecc), (0x41,
        .xsub n u ecc), (0x42, .xmul n u ecc), (0x43, .xand n u ecc), (0x44, .baseXor n u ecc), (0x45, .xshl n u ecc), (0x46, .xshr n u ecc), (0x47, .xaddi n
        u ecc), (0x48, .xli n u ecc), (0x50, .baseJmp n u ecc), (0x51, .baseBeq n u ecc), (0x52, .baseBne n u ecc), (0x53, .baseBlt n u ecc), (0x54, .baseBge
        n u ecc)] →
      (baseLegal w0 = false → exec c s = .next (v.failItem n u w { code := 0x2 })) ∧
      (baseLegal w0 = true → bwOp w0 ≠ op → exec c s = .next v) ∧
      (baseLegal w0 = true → bwOp w0 = op → 1048576 ≤ w.executed → exec c s = .next (v.failItem n u w { code := 0x4 })) ∧
      (baseLegal w0 = true → bwOp w0 = op → w.executed < 1048576 → ∀ b : BaseSt,
        ((BaseM.instr w0 w1).run.run { st := v, n := n, call := r.call, item := w } = (.ok (), b) →
          exec c s = .next (b.st.updBase n (fun z => { z with units := z.units.set u (some b.item) }))) ∧
        (∀ f : BaseFault, (BaseM.instr w0 w1).run.run { st := v, n := n, call := r.call, item := w } = (.error f, b) →
          exec c s = .next (b.st.failItem n u b.item f)))) ∧
    (v.callProgram n r.call.entry < 0x4000 → baseLegal (v.codeWord n w.pc) = true → bwOp (v.codeWord n w.pc) = 0x5F → w.executed < 1048576 →
      exec (.baseEnd n u ecc) s = .next (v.endItem n u r.call w)) ∧
    (∀ (prog : Nat) (c : Instr) (m : BaseM Unit), (prog, c, m) ∈ [(0x8000, Instr.badamw n u ecc, BaseM.groups BaseM.adamw),
        (0x8001, .bcvt n u ecc, BaseM.groups BaseM.bcvt), (0x8002, .bgath n u ecc, BaseM.rows false), (0x8003, .bscat n u ecc, BaseM.rows true),
        (0x8004, .bred n u ecc, BaseM.groups BaseM.bred), (0x8005, .bsqn n u ecc, BaseM.bsqn), (0x8006, .bchk n u ecc, BaseM.bchk)] →
      v.callProgram n r.call.entry = prog →
      (prog = 0x8003 → ∀ x, x < 128 → ∀ o, v.unitItem n x = some o → w.tile ≤ o.tile) → ∀ b : BaseSt,
        (m.run.run { st := v, n := n, call := r.call, item := w } = (.ok (), b) → exec c s = .next (b.st.endItem n u r.call b.item)) ∧
        (∀ f : BaseFault, m.run.run { st := v, n := n, call := r.call, item := w } = (.error f, b) → exec c s = .next (b.st.failItem n u b.item f))) ∧
    (∀ t : State, t.unitItem n u = some w → 1048576 ≤ w.executed → exec (.instructionLimit n u) t = .next (t.failItem n u w { code := 0x4 }))

/-- R309, R310: the values that base instructions other than binary32 arithmetic, loads and stores write. -/
def Obligations.BaseValuesAreWritten : Prop :=
  ∀ (s v : State) (n : Fin 12) (u : Fin 128) (ecc : List MemUpset) (w : WorkItem) (r : BaseRun) (w0 w1 d ra rb : Nat) (a b imm : W64) (fa fb : Nat → Nat),
    s.upset ecc = v → v.unitItem n u = some w → (v.bases.get n).run = some r → v.callProgram n r.call.entry < 0x4000 →
    v.codeWord n w.pc = w0 → v.codeWord n (w.pc + 1) = w1 → baseLegal w0 = true → w.executed < 1048576 →
    d = natFld w0 19 5 → ra = natFld w0 14 5 → rb = natFld w0 9 5 → a = w.x ra → b = w.x rb → imm = BitVec.ofInt 64 (toSigned 32 w1) →
    (∀ l, fa l = (w.vregs.get (32 * ra + l)).toNat) → (∀ l, fb l = (w.vregs.get (32 * rb + l)).toNat) →
    ∀ done : WorkItem → Nat → State, (∀ i pc, done i pc = v.updBase n (fun z => { z with
      units := z.units.set u (some { i with pc := pc, executed := w.executed + 1 }) })) →
    (∀ (op k : Nat) (c : Instr) (x : W64), (op, k, c, x) ∈
        [(0x40, 1, Instr.xadd n u ecc, a + b), (0x41, 1, .xsub n u ecc, a - b), (0x42, 1, .xmul n u ecc, a * b), (0x43, 1, .xand n u ecc, a &&& b),
         (0x44, 1, .baseXor n u ecc, a ||| b), (0x45, 1, .xshl n u ecc, a <<< (b.toNat % 64)), (0x46, 1, .xshr n u ecc, a >>> (b.toNat % 64)),
         (0x47, 2, .xaddi n u ecc, a + imm), (0x48, 2, .xli n u ecc, imm)] → natFld w0 24 8 = op →
      exec c s = .next (done (if d = 0 then w else { w with sregs := w.sregs.set d x }) (w.pc + k))) ∧
    (∀ (op : Nat) (c : Instr) (taken : Bool) (t : Nat), (op, c, taken) ∈
        [(0x50, Instr.baseJmp n u ecc, true), (0x51, .baseBeq n u ecc, decide (a = b)), (0x52, .baseBne n u ecc, decide (a ≠ b)),
         (0x53, .baseBlt n u ecc, decide (a.toInt < b.toInt)), (0x54, .baseBge n u ecc, decide (b.toInt ≤ a.toInt))] → natFld w0 24 8 = op →
      (t : Int) = (w.pc : Int) + toSigned 32 w1 →
      exec c s = .next (done w (if taken then t else w.pc + 2))) ∧
    (∀ (op k : Nat) (c : Instr) (f : Nat → Nat), (op, k, c, f) ∈
        [(0x09, 1, Instr.vabs n u ecc, fun l => fa l % 2 ^ 31), (0x10, 1, .viadd n u ecc, fun l => fa l + fb l),
         (0x11, 1, .visub n u ecc, fun l => fa l + (2 ^ 32 - fb l)), (0x12, 1, .vimul n u ecc, fun l => fa l * fb l),
         (0x13, 1, .viand n u ecc, fun l => fa l &&& fb l), (0x14, 1, .vior n u ecc, fun l => fa l ||| fb l),
         (0x15, 1, .vixor n u ecc, fun l => fa l ^^^ fb l), (0x16, 1, .vishl n u ecc, fun l => fa l <<< (fb l % 32)),
         (0x17, 1, .vishr n u ecc, fun l => fa l >>> (fb l % 32)), (0x19, 1, .vcvtif n u ecc, fun l => (toF32 .rne (decodeElem 6 (fa l))).1),
         (0x1A, 1, .vidx n u ecc, fun l => a.toNat + l), (0x20, 1, .vbcx n u ecc, fun _ => a.toNat), (0x21, 2, .vbci n u ecc, fun _ => w1),
         (0x22, 1, .vbcc n u ecc, fun _ => v.callConst n r.call.entry ra)] → natFld w0 24 8 = op →
      ∃ i : WorkItem, exec c s = .next (done i (w.pc + k)) ∧ i.sregs = w.sregs ∧ i.masks = w.masks ∧ i.stores = w.stores ∧
        ∀ j l, l < 32 → i.vregs.get (32 * j + l) =
          if j = d ∧ natBit (w.k (natFld w0 0 2)) l then BitVec.ofNat 32 (f l) else w.vregs.get (32 * j + l)) ∧
    (natFld w0 24 8 = 0x0A → ∃ i : WorkItem, exec (.vsel n u ecc) s = .next (done i (w.pc + 1)) ∧ i.sregs = w.sregs ∧ i.masks = w.masks ∧ i.stores = w.stores ∧
        ∀ j l, l < 32 → i.vregs.get (32 * j + l) =
          if j = d then BitVec.ofNat 32 (if natBit (w.k (natFld w0 0 2)) l then fa l else fb l) else w.vregs.get (32 * j + l)) ∧
    (∀ (op : Nat) (c : Instr) (f : Val → Val → Bool), (op, c, f) ∈
        [(0x0B, Instr.vcmplt n u ecc, fun x y => x.lt y), (0x0C, .vcmple n u ecc, fun x y => x.lt y || x.eqv y), (0x0D, .vcmpeq n u ecc, fun x y => x.eqv y)] →
      natFld w0 24 8 = op → ∃ m : W32, exec c s = .next (done { w with masks := w.masks.set d m } (w.pc + 1)) ∧
        ∀ l, l < 32 → m.getLsbD l = if natBit (w.k (natFld w0 0 2)) l then f (f32 (fa l)) (f32 (fb l)) else natBit (w.k d) l)

/-- R301, R306, R310, R315, R325: what the commands around base calls do. -/
def Obligations.BaseCallsStartAndEnd : Prop :=
  ∀ (s : State) (n : Fin 12),
    (∀ (c : BaseCall) (rest : List BaseCall) (items : List Nat), (s.bases.get n).run = none → (s.bases.get n).queue = c :: rest →
      s.rdF (Reg.stkBeStatus n) 2 0 = 1 → s.baseMigrates n = false → s.callItems n c = items →
      ∃ t : State, exec (.callStart n) s = .next t ∧ t.bases = s.bases.set n { s.bases.get n with queue := rest, run := some { call := c, items := items } } ∧
        t.rdF (Reg.stkBeCur n) 9 0 = c.entry % 2 ^ 10 ∧ t.rdF (Reg.stkBeCur n) 23 16 = c.token % 2 ^ 8 ∧ t.rdF (Reg.stkBeCur n) 63 32 = items.length % 2 ^ 32 ∧
        t.rdF (Reg.stkBeStatus n) 2 0 = 2 ∧ t.rdF (Reg.stkBeStatus n) 16 8 = rest.length % 2 ^ 9 ∧
        (∀ a, a ≠ Reg.stkBeCur n → a ≠ Reg.stkBeStatus n → t.rd a = s.rd a) ∧ t.mem = s.mem) ∧
    (∀ (u : Fin 128) (ecc : List MemUpset) (v : State) (r : BaseRun) (j : Nat) (rest : List Nat), s.upset ecc = v → (v.bases.get n).run = some r →
      v.unitItem n u = none → r.failed = false → r.items = j :: rest → ∀ z : State,
      (v.updBase n (fun b => { b with run := some { r with items := rest } })).wrF (Reg.stkBeCur n) 63 32 rest.length = z → ∀ (w : WorkItem) (b : BaseSt),
      newItem (z.callProgram n r.call.entry) r.call { st := z, n := n, call := r.call, item := { tile := j } } j = w →
      (BaseM.stage.run.run { st := z, n := n, call := r.call, item := w } = (.ok (), b) →
        exec (.workItemStart n u ecc) s = .next (b.st.updBase n (fun y => { y with units := y.units.set u (some b.item) }))) ∧
      (∀ f : BaseFault, BaseM.stage.run.run { st := z, n := n, call := r.call, item := w } = (.error f, b) →
        exec (.workItemStart n u ecc) s = .next (b.st.failItem n u b.item f))) ∧
    (∀ (prog j : Nat) (c : BaseCall) (b : BaseSt) (a0 a1 a2 a3 : W64), c.args = [a0, a1, a2, a3] → ∃ w : WorkItem, newItem prog c b j = w ∧ w.tile = j ∧ w.pc = prog ∧ w.executed = 0 ∧
      w.stores = [] ∧ w.x 1 = BitVec.ofNat 64 j ∧ w.x 2 = BitVec.ofNat 64 (j * b.spanN) ∧ w.x 3 = BitVec.ofNat 64 b.spanN ∧ w.x 4 = a0 ∧ w.x 5 = a1 ∧ w.x 6 = a2 ∧ w.x 7 = a3 ∧
      ∀ i, 8 ≤ i → w.x i = 0) ∧
    (∀ r : BaseRun, (s.bases.get n).run = some r → (r.items = [] ∨ r.failed = true) → (s.bases.get n).units = [] →
      exec (.baseCallDone n) s = .next (((s.updBase n (fun b => { b with run := none })).wrF (Reg.stkBeStatus n) 2 0 1).tokenPart r.call.lead r.call.token (!r.failed))) ∧
    (∀ (ag : Agent) (i : BitVec 14) (x : W64) (z : State) (call : Bool) (a : Nat), ({ s with answer := .none } : State) = z →
      (if call then Reg.stkBeCall n (i.toNat / 16) (i.toNat % 16) else Reg.stkBeCode n (i.toNat % 8192)) = a →
      (s.csrPath ag a 8 = .silent → exec (.baseCodeWrite ag n call i x) s = .next { s with answer := .addressError }) ∧
      (s.csrPath ag a 8 = .served → ag = .sch ∧ s.rdF (Reg.stkBeStatus n) 2 0 = 1 ∧ s.rdF (Reg.stkBeStatus n) 16 8 = 0 →
        exec (.baseCodeWrite ag n call i x) s = .next (z.wr a x)) ∧
      (s.csrPath ag a 8 = .served → ¬ (ag = .sch ∧ s.rdF (Reg.stkBeStatus n) 2 0 = 1 ∧ s.rdF (Reg.stkBeStatus n) 16 8 = 0) → exec (.baseCodeWrite ag n call i x) s = .next (z.refuseWrite ag)))

/-- R344, R348, R352, R357, R358: link control frames. -/
def Obligations.LinkControlFramesAct : Prop :=
  ∀ (s : State) (p : Fin 16) (now : Nat) (l : LinkWord),
    ((s.portAlive p && !s.isHn p) = false → ∀ c ∈ [Instr.idle p now l, .quietReq p now l, .quietAck p now l true, .quietAck p now l false, .wakeReq p now l,
        .wakeAck p now l, .resync p now l 0, .width p now l 0, .retiring p now l], exec c s = .next { s with answer := .none }) ∧
    (s.portAlive p = true → s.isHn p = false → ∀ v : State, (({ s with answer := .none } : State).count (Reg.prtRxFrames p) 1).takeLink p now l = v →
      exec (.idle p now l) s = .next v ∧
      (∀ able : Bool, (v.quietAble p && v.rdB (Reg.prtCtrl p) 2) = able →
        ((v.port p).quietAsked = true →
          exec (.quietReq p now l) s = .next ((v.sendControl p 3 (if able then 1 else 0) 0).updPort p (fun k => { k with quietAsked := able, wakeWanted := k.wakeWanted && able }))) ∧
        ((v.port p).quietAsked = false → able = false → exec (.quietReq p now l) s = .next (v.sendControl p 3 0 0)) ∧
        ((v.port p).quietAsked = false → able = true → exec (.quietReq p now l) s =
          .next (((v.sendControl p 3 1 0).updPort p (fun k => { k with switchDue := 1, quietAsked := false })).wrB (Reg.prtStatus p) 7 true))) ∧
      ((v.port p).quietAsked = true → exec (.quietAck p now l true) s =
        .next ((v.updPort p (fun k => { k with switchDue := 1, quietAsked := false })).wrB (Reg.prtStatus p) 7 true)) ∧
      ((v.port p).quietAsked = true → exec (.quietAck p now l false) s = .next (v.updPort p (fun k => { k with quietAsked := false, wakeWanted := false }))) ∧
      ((v.port p).quietAsked = false → ∀ accept, exec (.quietAck p now l accept) s = .next v) ∧
      ((v.port p).switchDue = 1 → exec (.wakeReq p now l) s = .next (v.updPort p (fun k => { k with wakeLate := true }))) ∧
      ((v.port p).switchDue ≠ 1 → v.rdB (Reg.prtStatus p) 5 = false → exec (.wakeReq p now l) s = .next (v.sendControl p 5 0 0)) ∧
      (∀ k : Port, (((v.wrB (Reg.prtStatus p) 7 true).sendControl p 5 0 0).port p) = k → (v.port p).switchDue ≠ 1 → v.rdB (Reg.prtStatus p) 5 = true →
        ∃ t : State, exec (.wakeReq p now l) s = .next t ∧
          t = ((v.wrB (Reg.prtStatus p) 7 true).sendControl p 5 0 0).updPort p (fun k => { k with
            waking := true, wakeSent := true, switchDue := if k.wakeGot then 2 else k.switchDue })) ∧
      ((v.port p).waking = false → exec (.wakeAck p now l) s = .next v) ∧
      ((v.port p).waking = true → (v.port p).wakeSent = true → exec (.wakeAck p now l) s =
        .next (v.updPort p (fun k => { k with wakeSent := true, wakeGot := true, switchDue := 2 }))) ∧
      (∀ lsn : BitVec 16, exec (.resync p now l lsn) s = .next (v.updPort p (fun k => { k with rxLsn := lsn.toNat, nakAt := none }))) ∧
      (∀ mask : BitVec 8, ((v.port p).phase ≠ 4 → exec (.width p now l mask) s = .next (v.updPort p (fun k => { k with peerMask := some mask.toNat }))) ∧
        ((v.port p).phase = 4 → exec (.width p now l mask) s = .next ((v.updPort p (fun k => { k with peerMask := some mask.toNat })).chooseWidth p mask.toNat))) ∧
      exec (.retiring p now l) s = .next (v.updPort p (fun k => { k with peerRetired := true })))

/-- R340 to R349, R382: frames of the fabric ports. -/
def Obligations.FramesFollowTheLinkRules : Prop :=
  ∀ (s z : State) (p : Fin 16) (now : Nat), ({ s with answer := .none } : State) = z →
    (s.portAlive p = true → s.isHn p = false → ∀ (a : Arrival) (f : Frame) (dst etype : Nat) (y : State), z.countCodewords p a.ucw a.cbits = y → Frame.ofBytes a.bytes = f → leNat (a.bytes.take 6) = dst →
      ((a.bytes[12]?).getD 0).toNat * 256 + ((a.bytes[13]?).getD 0).toNat = etype →
      (a.good = false → f.link.ftype ≠ 1 → exec (.frameReceive p now a) s = .next ((y.dropFrame p).sendNak p now)) ∧
      (a.good = false → f.link.ftype = 1 → exec (.frameReceive p now a) s = .next (y.dropFrame p)) ∧
      (a.good = true → dst ≠ y.rdF (Reg.prtMac p) 47 0 → dst ≠ lldpMac → exec (.frameReceive p now a) s = .next (y.dropFrame p)) ∧
      (a.good = true → (dst = y.rdF (Reg.prtMac p) 47 0 ∨ dst = lldpMac) →
        (etype = 0x88CC → exec (.frameReceive p now a) s = .next y) ∧
        (etype ≠ 0x88CC → etype ≠ y.rdF (Reg.prtEtype p) 15 0 → exec (.frameReceive p now a) s = .next (y.dropFrame p)) ∧
        (etype ≠ 0x88CC → etype = y.rdF (Reg.prtEtype p) 15 0 →
          (1 < f.link.ftype ∨ f.link.mbz ≠ 0 ∨ f.plen % 8 ≠ 0 ∨ 8192 < f.plen ∨ a.bytes.length ≠ frameLen f.plen →
            exec (.frameReceive p now a) s = .next (y.dropFrame p)) ∧
          (f.link.ftype ≤ 1 → f.link.mbz = 0 → f.plen % 8 = 0 → f.plen ≤ 8192 → a.bytes.length = frameLen f.plen →
            (f.link.ftype = 1 → exec (.frameReceive p now a) s = .next (((y.count (Reg.prtRxFrames p) 1).takeLink p now f.link).onControl p f.n1 f.n2)) ∧
            (f.link.ftype = 0 → ∀ v : State, y.takeLink p now f.link = v →
              ((v.rdB (Reg.prtCtrl p) 0 = false ∨ 8 ≤ v.planEntry p) → exec (.frameReceive p now a) s = .next (v.dropFrame p)) ∧
              (v.rdB (Reg.prtCtrl p) 0 = true → v.planEntry p < 8 →
                (f.link.lsn ≠ (v.port p).rxLsn → exec (.frameReceive p now a) s = .next ((v.dropFrame p).sendNak p now)) ∧
                (f.link.lsn = (v.port p).rxLsn → ∀ x : QPkt,
                  x = { vc := f.link.vc, grp := if f.link.vc = 7 then (v.inGroup p f.packet).1 else 0, dl := if f.link.vc = 7 then (v.inGroup p f.packet).2 else 0, pkt := f.packet } →
                  (v.hasRoom p x = false → exec (.frameReceive p now a) s = .next (((v.dropFrame p).event 0x40B (.port p)).sendNak p now)) ∧
                  (v.hasRoom p x = true → exec (.frameReceive p now a) s = .next ((v.count (Reg.prtRxFrames p) 1).updPort p (fun k => { k with
                    rxLsn := (k.rxLsn + 1) % 65536, rxAny := true, nakAt := none, used := k.used.upd x.account (· + frameUnits x.pkt), input := k.input ++ [x] })))))))))) ∧
    (∀ l : LinkWord, (s.portAlive p = true → s.isHn p = false → l.nak = true → exec (.nakReceive p now l) s = .next (((z.takeAck p l).takeCredit p l).replayAll p now)) ∧
      (l.nak = false → exec (.nakReceive p now l) s = .next z)) ∧
    (∀ (below : List Nat) (x : QPkt) (xs : List QPkt), z.sendOrder p below = x :: xs → s.isHn p = false → s.fabricUp p = true →
      (s.port p).replayBytes + frameBytes x.pkt ≤ 524288 → exec (.dataFrameSend p below) s =
        .next (((z.updPort p (fun k => { k with out := k.out.erase x, txLsn := (k.txLsn + 1) % 65536, owed := k.owed.upd x.account (· + frameUnits x.pkt), replyLast := if 1 ≤ x.vc ∧ x.vc ≤ 6 then decide (4 ≤ x.vc) else k.replyLast, replay := k.replay ++ [{ lsn := k.txLsn, q := x }] })).sendFrame p
          (x.pkt.frame ((s.port p).linkWord 0 x.vc (s.port p).txLsn false))).count (Reg.rtrOutBytes p) (frameBytes x.pkt))) ∧
    (∀ below : List Nat, z.sendOrder p below = [] → exec (.dataFrameSend p below) s = .next z) ∧
    (s.portUp p = true → (s.port p).replay ≠ [] → exec (.replayTimeout p now) s = .next (z.replayAll p now)) ∧
    ((s.port p).replay = [] → exec (.replayTimeout p now) s = .next z ∧ exec (.holdDiscard p) s = .next z) ∧
    ((s.port p).replay ≠ [] → ∀ v : State, z.discardReplay p = v →
      (v.portUp p = true → exec (.holdDiscard p) s = .next ((v.sendResync p).event 0x409 (.port p))) ∧
      (v.portUp p = false → exec (.holdDiscard p) s = .next ((v.updPort p (fun k => { k with resyncDue := true })).event 0x409 (.port p)))) ∧
    (s.portUp p = false → exec (.idleSend p) s = .next z) ∧
    (s.portUp p = true → exec (.idleSend p) s = .next (z.sendControl p 1 0 0)) ∧
    (∀ (code n1 n2 : Nat) (nak : Bool), s.isHn p = false → (s.port p).switchDue = 0 → (s.port p).wakeLate = false → (s.port p).wakeWanted = false → ∃ t : State, s.sendControl p code n1 n2 nak = t ∧
      t.port p = { s.port p with returns := (s.port p).returns.drop 1 } ∧ (∀ a, a ≠ Reg.prtTxFrames p → t.rd a = s.rd a) ∧
      ∃ (l : LinkWord) (outs : List WireOut), t.answer = .wire (outs ++ [.frame p (({ link := l, n1 := code + 256 * n1, n2 := n2 } : Frame).bytes
        (s.rdF (Reg.prtPeerMac p) 47 0) (s.rdF (Reg.prtMac p) 47 0) (s.rdF (Reg.prtEtype p) 15 0))]) ∧
        l.ftype = 1 ∧ l.vc = 0 ∧ l.lsn = 0 ∧ l.nak = nak ∧ l.ackV = (s.port p).rxAny ∧ l.ackLsn = ((s.port p).rxLsn + 65535) % 65536 ∧
        l.crV = !(s.port p).returns.isEmpty ∧ (∀ a n rest, (s.port p).returns = (a, n) :: rest → a < 7 → l.crVc = a ∧ l.crUnits = n))

/-- R334, R335, R350 to R359, R652: pins, training, retirement and quiet mode. -/
def Obligations.PortsTrainAndRest : Prop :=
  ∀ (s z : State) (p : Fin 16), ({ s with answer := .none } : State) = z →
    (∀ v : State, z.updPort p (fun k => { k with present := false, settled := false, downRuns := false }) = v →
      (s.lstate p = 6 → exec (.presentDeassert p) s = .next (v.event 0x405 (.port p))) ∧
      (s.lstate p ≠ 6 → exec (.presentDeassert p) s = .next ((v.portLeaves p 0).event 0x405 (.port p)))) ∧
    (∀ v : State, z.updPort p (fun k => { k with present := true, settled := true }) = v →
      (s.domOn (portDomain p) = true → (s.lstate p = 0 ∨ s.lstate p = 5) → exec (.presentSettled p) s =
        .next ((v.wrF (Reg.prtStatus p) 2 0 1).updPort p (fun k => { k with phase := 1, retraining := false }))) ∧
      (s.domOn (portDomain p) = false ∨ (s.lstate p ≠ 0 ∧ s.lstate p ≠ 5) → exec (.presentSettled p) s = .next v)) ∧
    exec (.moduleInterrupt p) s = .next (z.event 0x40A (.port p)) ∧
    (s.mayTrain p = false → ∀ o, exec (.portTrain p o) s = .next z) ∧
    (s.mayTrain p = true →
      ((s.lstate p = 0 ∨ s.lstate p = 5) → exec (.portTrain p .start) s = .next ((z.wrF (Reg.prtStatus p) 2 0 1).updPort p (fun k => { k with phase := 1, retraining := false }))) ∧
      ((s.port p).phase = 1 → exec (.portTrain p .pma) s = .next (z.updPort p (fun k => { k with phase := 2 }))) ∧
      (∀ c : Bool, (s.port p).phase = 2 →
        ((s.port p).checkDue = true ∨ c = true → exec (.portTrain p (.aligned c)) s =
          .next ((z.wrF (Reg.prtStatus p) 2 0 2).updPort p (fun k => { k with phase := 3, checkAgain := false }))) ∧
        ((s.port p).checkDue = false → c = false → s.lstate p = 4 → exec (.portTrain p (.aligned c)) s = .next (z.portUpNow p)) ∧
        ((s.port p).checkDue = false → c = false → s.lstate p ≠ 4 → exec (.portTrain p (.aligned c)) s = .next (z.startWidth p))) ∧
      (∀ cs u, (s.port p).phase = 3 → exec (.portTrain p (.checked cs u)) s = .next (z.linkChecked p cs u)) ∧
      ((s.port p).phase = 5 → (s.rdB (Reg.prtPeer p) 63 = true ∨ s.isHn p = true) → exec (.portTrain p .discovered) s = .next (z.portUpNow p))) ∧
    ((s.port p).phase = 0 → exec (.trainPhaseTimeout p) s = .next z) ∧
    ((s.port p).phase ≠ 0 → exec (.trainPhaseTimeout p) s = .next ((z.portLeaves p 5).event 0x405 (.port p))) ∧
    (∀ v : State, z.updPort p (fun k => { k with downRuns := true }) = v → s.portUp p = true →
      exec (.alignmentLoss p) s = .next (v.startRetrain p 1) ∧ exec (.rxSilence p) s = .next (v.startRetrain p 2)) ∧
    (s.portUp p = false → exec (.alignmentLoss p) s = .next z ∧ exec (.rxSilence p) s = .next z) ∧
    (∀ r : Nat, ∃ t : State, s.startRetrain p r = t ∧ t.lstate p = 4 ∧ (t.port p).phase = 1 ∧ (t.port p).resyncDue = true ∧
      (t.port p).replay = (s.port p).replay ∧ (t.port p).owed = (s.port p).owed ∧ (t.port p).txLsn = (s.port p).txLsn ∧ (t.port p).rxLsn = (s.port p).rxLsn) ∧
    (s.lstate p ≠ 4 → exec (.retrainTimeout p) s = .next z) ∧
    (s.lstate p = 4 → ∀ v : State, (z.event 0x404 (.port p)).countF (Reg.prtStatus p) 19 16 1 = v →
      (3 ≤ v.rdF (Reg.prtStatus p) 19 16 → exec (.retrainTimeout p) s = .next (v.retirePort p [3])) ∧
      (v.rdF (Reg.prtStatus p) 19 16 < 3 → exec (.retrainTimeout p) s = .next ((v.wrF (Reg.prtCtrl p) 4 4 0).startRetrain p 2))) ∧
    ((s.port p).downRuns = true → s.portUp p = false → exec (.portDownTimeout p) s = .next (z.retirePort p [4])) ∧
    ((s.port p).downRuns = false ∨ s.portUp p = true → exec (.portDownTimeout p) s = .next z) ∧
    (∀ ag : Agent, s.csrPath ag (Reg.prtCtrl p) 4 = .served →
      (ag ≠ .fab → ag.isPf0 = false → (ag ≠ .none → exec (.prtRetrain ag p) s = .next (z.refuseWrite ag)) ∧ ∀ u, exec (.prtPortReset ag p u) s = .next (z.refuseWrite ag)) ∧
      (ag ≠ .fab → ag.isPf0 = false → ag ≠ .pmc → ∀ v, exec (.prtCtrlQuietReq ag p v) s = .next (z.refuseWrite ag)) ∧
      ((ag = .fab ∨ ag.isPf0 = true ∨ ag = .none) →
        (s.portUp p = true → exec (.prtRetrain ag p) s = .next (((z.wrB (Reg.prtCtrl p) 4 true).updPort p (fun k => { k with downRuns := true })).startRetrain p 3)) ∧
        (s.portUp p = false → exec (.prtRetrain ag p) s = .next z)) ∧
      ((ag = .fab ∨ ag.isPf0 = true) →
        (∀ (u : Bool) (v : State), (z.wrF (Reg.prtCtrl p) 6 5 (1 + 2 * b2n u)).updPort p (fun k => { k with checkDue := true, resyncDue := true, downRuns := false }) = v →
          (∀ w : State, s.lstate p = 6 → u = true → v.updPort p (fun k => { k with unretire := true }) = w →
            (w.portReady p = true → exec (.prtPortReset ag p u) s = .next (w.startTrain p)) ∧
            (w.portReady p = false → exec (.prtPortReset ag p u) s = .next (w.wrF (Reg.prtStatus p) 2 0 0))) ∧
          (s.lstate p = 3 ∨ s.lstate p = 4 → exec (.prtPortReset ag p u) s = .next (v.startRetrain p 3)) ∧
          (s.lstate p = 0 ∨ (s.lstate p = 6 ∧ u = false) ∨ (s.mayTrain p = false ∧ s.lstate p ≠ 3 ∧ s.lstate p ≠ 4 ∧ s.lstate p ≠ 6) → exec (.prtPortReset ag p u) s = .next z) ∧
          (s.mayTrain p = true → s.lstate p ≠ 0 → s.lstate p ≠ 3 → s.lstate p ≠ 4 → exec (.prtPortReset ag p u) s = .next (v.startTrain p)))) ∧
      ((ag = .fab ∨ ag.isPf0 = true ∨ ag = .pmc) → exec (.prtCtrlQuietReq ag p true) s = .next ((z.wrB (Reg.prtCtrl p) 3 true).askQuiet p) ∧
        exec (.prtCtrlQuietReq ag p false) s = .next ((z.wrB (Reg.prtCtrl p) 3 false).askWake p))) ∧
    (s.rdB (Reg.prtQuiet p) 0 = false → exec (.quietAuto p) s = .next z ∧ exec (.quietAutoWake p) s = .next z) ∧
    (s.rdB (Reg.prtQuiet p) 0 = true → exec (.quietAuto p) s = .next (z.askQuiet p) ∧
      (65536 < queuedBytes (s.port p).out → exec (.quietAutoWake p) s = .next (z.askWake p)) ∧
      (queuedBytes (s.port p).out ≤ 65536 → exec (.quietAutoWake p) s = .next z)) ∧
    ((s.quietAble p && !s.rdB (Reg.prtStatus p) 5 && !(s.port p).quietAsked) = true → s.askQuiet p = (s.updPort p (fun k => { k with quietAsked := true, wakeWanted := false })).sendControl p 2 0 0) ∧
    ((s.quietAble p && !s.rdB (Reg.prtStatus p) 5 && !(s.port p).quietAsked) = false → s.askQuiet p = s) ∧
    (s.portUp p = true → s.rdB (Reg.prtStatus p) 5 = true → (s.port p).waking = false →
      s.askWake p = ((s.updPort p (fun k => { k with waking := true })).wrB (Reg.prtStatus p) 7 true).sendControl p 4 0 0) ∧
    (s.portUp p = true → s.rdB (Reg.prtStatus p) 5 = false → ((s.port p).quietAsked = true ∨ (s.port p).switchDue = 1) →
      s.askWake p = s.updPort p (fun k => { k with wakeWanted := true }))

/-- R336 to R339, R360 to R365: discovery, host-network mode and the port plan. -/
def Obligations.DiscoveryAndHostNetworkFrames : Prop :=
  ∀ (s z : State) (p : Fin 16), ({ s with answer := .none } : State) = z →
    (s.portUp p = true ∨ (s.port p).phase = 5 → exec (.lldpSend p) s = .next (({ s with answer := .wire [.lldp p (z.lldp p)] } : State).count (Reg.prtTxFrames p) 1)) ∧
    (s.portUp p = false → (s.port p).phase ≠ 5 → exec (.lldpSend p) s = .next z ∧ ∀ f, exec (.lldpReceive p f) s = .next z) ∧
    (∀ (f : Lldp) (v : State), z.count (Reg.prtRxFrames p) 1 = v → (s.portUp p = true ∨ (s.port p).phase = 5) →
      (v.isHn p = true → exec (.lldpReceive p f) s = .next (v.hnPeer p f)) ∧
      (v.isHn p = false → ∀ (changed fits first twoWay : Bool),
        changed = (v.port p).neighbour.any (fun n => decide (n.chassis ≠ f.chassis ∨ n.portId ≠ f.portId)) → fits = v.neighbourFits p f →
        first = (v.port p).neighbour.all (fun n => decide (n.entry ≠ f.entry ∨ n.chassis ≠ f.chassis)) → twoWay = decide (f.echoMac = v.rdF (Reg.prtMac p) 47 0 ∧ f.echoPort = p) →
        ∃ w : State, w = (((v.wr (Reg.prtPeer p) (setFld (setFld (setFld (setFld 0 19 0 f.node) 23 20 f.port) 27 24 f.entry) 63 63 1)).wrF (Reg.prtPeerMac p) 47 0 f.portId).wrB
            (Reg.prtStatus p) 6 twoWay).updPort p (fun k => { k with neighbour := some f, barred := !fits || !twoWay }) ∧
          (w.rdB (Reg.prtStatus p) 6 = twoWay ∧ w.rdF (Reg.prtPeer p) 19 0 = f.node % 2 ^ 20 ∧ w.rdF (Reg.prtPeer p) 23 20 = f.port % 16 ∧ w.rdF (Reg.prtPeer p) 27 24 = f.entry % 16) ∧
          (changed = false → fits = true → exec (.lldpReceive p f) s = .next ((w.judgeDirection (w.planEntry p)).enableAtBringup p f true)) ∧
          (∀ x, ((w.event 0x407 (.port p)).wrB (Reg.prtCtrl p) 0 false) = x → changed = false → fits = false → first = true →
            exec (.lldpReceive p f) s = .next ((x.judgeDirection (x.planEntry p)).enableAtBringup p f false)) ∧
          (∀ x, w.wrB (Reg.prtCtrl p) 0 false = x → changed = false → fits = false → first = false →
            exec (.lldpReceive p f) s = .next ((x.judgeDirection (x.planEntry p)).enableAtBringup p f false)) ∧
          (∀ x, (((w.event 0x407 (.port p)).wrB (Reg.prtCtrl p) 0 false).report 0x407 p 0) = x → changed = true →
            exec (.lldpReceive p f) s = .next ((x.judgeDirection (x.planEntry p)).enableAtBringup p f false)))) ∧
    exec (.lldpTtlExpire p) s = .next (z.wrB (Reg.prtStatus p) 6 false) ∧
    (∀ a : HnArrival, s.isHn p = false ∨ s.rdB (Reg.prtCtrl p) 1 = false ∨ s.portUp p = false → exec (.hnFrameReceive p a) s = .next z) ∧
    (s.isHn p = true → s.rdB (Reg.prtCtrl p) 1 = true → s.portUp p = true → 
      (∀ (f : HnFrame) (good : Bool) (x : QPkt), z.hnAccepts p f good = true →
        x = { vc := if replyOp f.pkt.op then 4 else 1, pkt := { f.pkt with cmark := f.pkt.cmark || decide (f.ecn = 3) } } →
        exec (.hnFrameReceive p (.udp f good)) s = .next (((z.count (Reg.prtRxFrames p) 1).updPort p (fun k => { k with
          used := k.used.upd x.account (· + frameUnits x.pkt), input := k.input ++ [x] })).pfc p)) ∧
      (∀ (f : HnFrame) (good : Bool), z.hnAccepts p f good = false →
        exec (.hnFrameReceive p (.udp f good)) s = .next (z.dropFrame p)) ∧
      exec (.hnFrameReceive p .other) s = .next (z.dropFrame p) ∧
      (∀ m, exec (.hnFrameReceive p (.advert m)) s = .next ((z.count (Reg.prtRxFrames p) 1).wr (Reg.prtHnGw p) (setFld (BitVec.ofNat 64 (m % 2 ^ 48)) 63 63 1))) ∧
      (∀ f, exec (.hnFrameReceive p (.lldp f)) s = .next ((z.count (Reg.prtRxFrames p) 1).hnPeer p f)) ∧
      (∀ t : BitVec 128, (z.hnMaySend p = true → t = z.rd (Reg.prtHnAddr p 1) ++ z.rd (Reg.prtHnAddr p 0) → exec (.hnFrameReceive p (.solicit t)) s =
          .next (((z.count (Reg.prtRxFrames p) 1).wire (.advert p t)).count (Reg.prtTxFrames p) 1)) ∧
        (z.hnMaySend p = false ∨ t ≠ z.rd (Reg.prtHnAddr p 1) ++ z.rd (Reg.prtHnAddr p 0) → exec (.hnFrameReceive p (.solicit t)) s =
          .next (z.count (Reg.prtRxFrames p) 1)))) ∧
    (∀ (prio : Fin 8) (pause : Bool), ((s.isHn p && s.portUp p) = false → exec (.pfcFrame p prio pause) s = .next z) ∧
      ((s.isHn p && s.portUp p) = true → s.rdB (Reg.prtHnCtrl p) 22 = false → exec (.pfcFrame p prio pause) s = .next (z.dropFrame p)) ∧
      (∀ v : State, z.count (Reg.prtRxFrames p) 1 = v → (s.isHn p && s.portUp p) = true → s.rdB (Reg.prtHnCtrl p) 22 = true → exec (.pfcFrame p prio pause) s = .next (v.updPort p (fun k => { k with
        pausedReq := if prio.val = v.rdF (Reg.prtHnCtrl p) 18 16 then pause else k.pausedReq, pausedRsp := if prio.val = v.rdF (Reg.prtHnCtrl p) 21 19 then pause else k.pausedRsp })))) ∧
    (∀ (ag : Agent) (v : W64), s.csrPath ag Reg.hubPortPlanNext 8 = .served →
      ((ag = .fab ∨ ag.isPf0 = true) → ∃ t : State, exec (.portPlanNextWrite ag v) s = .next t ∧ t.rd Reg.hubPortPlanNext = v ∧ (∀ a, a ≠ Reg.hubPortPlanNext → t.rd a = s.rd a) ∧
        t.config = s.config.store (fun r => { r with plan := v }) ∧ t.mem = s.mem ∧ t.ports = s.ports) ∧
      (ag ≠ .fab → ag.isPf0 = false → exec (.portPlanNextWrite ag v) s = .next (z.refuseWrite ag)))

/-- R375 to R386, R409, R410, R413, R424, R425: the router and its tables. -/
def Obligations.RouterForwardsByItsTables : Prop :=
  ∀ (s z : State) (src : Fin 17) (i : Nat), ({ s with answer := .none } : State) = z →
    (z.headPacket src i = none → exec (.packetRoute src i false) s = .next z ∧ exec (.packetWaitRetry src i) s = .next z ∧ exec (.cdata src i) s = .next z) ∧
    (∀ x : QPkt, z.headPacket src i = some x → x.vc ≠ 7 → ∀ bad : Bool, ∀ v : State,
      (if bad = true ∧ z.nodeValid = true ∧ x.pkt.dst < 0x20000 then (z.mismatchAt (Reg.rtrRoute (z.rdF Reg.rtrRtEpoch 0 0) x.pkt.dst)).report 0x502 0 x.pkt.dst else z) = v →
      (∀ c : Instr, (c = .packetRoute src i bad ∨ (bad = false ∧ c = .packetWaitRetry src i)) → ∀ w : State, v.leaveSource src x = w →
        (v.routeOf src x = .wait → exec c s = .next v) ∧
        (v.routeOf src x = .local' → exec c s = .next (w.toEndpoint x.pkt)) ∧
        (v.routeOf src x = .ring → exec c s = .next (w.toRing src x.pkt)) ∧
        (∀ y : State, y = (if src.val < 16 ∧ x.pkt.mcast = true ∧ x.pkt.cls = 6 ∧ w.nodeValid = true ∧ w.mcastConsumes x.pkt = true then w.toEndpoint x.pkt else w) →
          (∀ r, v.routeOf src x = .drop r false → exec c s = .next (y.count (Reg.rtrDrop r) 1)) ∧
          (∀ r, v.routeOf src x = .drop r true → exec c s = .next ((y.count (Reg.rtrDrop r) 1).lossNotice x.pkt)) ∧
          (v.routeOf src x = .gone → exec c s = .next y) ∧
          (∀ p q, v.routeOf src x = .out p q → exec c s = .next (y.queueOut p q))) ∧
        (v.routeOf src x = .refuse → requestOp x.pkt.op = false → x.pkt.op ≠ 0x14 → exec c s = .next (w.count (Reg.rtrNackTx 4) 1)))) ∧
    (∀ x : QPkt, src.val < 16 → s.isHn src = false → s.nodeValid = true → 1 ≤ x.vc → x.pkt.domain ≠ 0 → x.pkt.dst < 0x20000 → (x.pkt.mcast && x.pkt.cls == 6) = false →
      ∀ e : W64, s.routeEntry x.pkt.dst = e →
      ((fld e 22 21 = 0 ∨ fld e 22 21 = 3) → s.routeOf src x = .drop 0 true) ∧
      ((fld e 22 21 = 1 ∨ fld e 22 21 = 2) → x.pkt.hops ≠ min (fld e 31 24) 63 → s.routeOf src x = .drop 1 true) ∧
      (fld e 22 21 = 2 → x.pkt.hops = min (fld e 31 24) 63 → s.routeOf src x = .local') ∧
      (fld e 22 21 = 1 → x.pkt.hops = min (fld e 31 24) 63 → s.routeOf src x = s.chooseOut e x)) ∧
    (s.nodeValid = false → ∀ x : QPkt, src.val < 16 → s.routeOf src x = if x.vc = 0 ∧ x.pkt.dst = 0xFFFFF ∧ x.pkt.domain = 0 then .ring
      else if (x.vc = 0) ≠ (x.pkt.domain = 0) then .drop 6 false else if s.isHn src then .drop 4 false else .gone) ∧
    (∀ x : QPkt, z.headPacket src i = some x → x.vc = 7 → s.nodeValid = true → ∀ (e : W64) (w : State), z.rd (Reg.rtrCircuit src x.pkt.xid) = e → z.leaveSource src x = w →
      (x.pkt.domain = 0 → exec (.cdata src i) s = .next (w.count (Reg.rtrDrop 6) 1)) ∧
      (x.pkt.domain ≠ 0 → bitOf e 0 = false ∨ 16 < fld e 5 1 ∨ (fld e 5 1 < 16 ∧ s.isHn (fld e 5 1) = true) →
        exec (.cdata src i) s = .next (w.count (Reg.rtrDrop 5) 1)) ∧
      (x.pkt.domain ≠ 0 → bitOf e 0 = true → fld e 5 1 = 16 →
        (x.pkt.op ≠ 0x17 → exec (.cdata src i) s = .next (w.count (Reg.rtrDrop 6) 1)) ∧
        (x.pkt.op = 0x17 → x.pkt.hops ≠ 0 → exec (.cdata src i) s = .next (w.count (Reg.rtrDrop 5) 1)) ∧
        (x.pkt.op = 0x17 → x.pkt.hops = 0 → exec (.cdata src i) s = .next (w.clxFrame (fld e 14 13) x.pkt))) ∧
      (x.pkt.domain ≠ 0 → bitOf e 0 = true → fld e 5 1 < 16 → s.isHn (fld e 5 1) = false → x.pkt.hops = 0 → exec (.cdata src i) s = .next (w.count (Reg.rtrDrop 5) 1)) ∧
      (x.pkt.domain ≠ 0 → bitOf e 0 = true → fld e 5 1 < 16 → s.isHn (fld e 5 1) = false → x.pkt.hops ≠ 0 → ∀ y : QPkt, y = { vc := 7, grp := fld e 11 6, dl := fld e 12 12, pkt := { x.pkt with hops := x.pkt.hops - 1 } } →
        exec (.cdata src i) s = .next (if z.portUp (fld e 5 1) && z.creditFor (fld e 5 1) y then w.queueOut (fld e 5 1) y else z))) ∧
    (∀ (ag : Agent) (b : Fin 2) (n : Fin 131072) (v : W64), s.csrPath ag (Reg.rtrRoute b n) 8 = .served →
      (ag ≠ .fab → exec (.routeEntryWrite ag b n v) s = .next (z.refuseWrite ag)) ∧
      (ag = .fab → s.rdF Reg.rtrRtEpoch 0 0 = b → exec (.routeEntryWrite ag b n v) s = .next (z.event 0x501)) ∧
      (ag = .fab → s.rdF Reg.rtrRtEpoch 0 0 ≠ b → exec (.routeEntryWrite ag b n v) s = .next (z.cpCommit (Reg.rtrRoute b n) (v &&& (fldMask 22 0 ||| fldMask 31 24))))) ∧
    (∀ (ag : Agent) (b : Fin 2), s.csrPath ag Reg.rtrRtEpoch 4 = .served →
      (ag ≠ .fab → exec (.rtrBankFlip ag b) s = .next (z.refuseWrite ag)) ∧
      (ag = .fab → ∃ t : State, exec (.rtrBankFlip ag b) s = .next t ∧ t.rdF Reg.rtrRtEpoch 0 0 = b ∧
        t.rdF Reg.rtrRtEpoch 31 16 = (s.rdF Reg.rtrRtEpoch 31 16 + if s.rdF Reg.rtrRtEpoch 0 0 = b then 0 else 1) % 2 ^ 16 ∧ ∀ a, a ≠ Reg.rtrRtEpoch → t.rd a = s.rd a)) ∧
    (∀ (ag : Agent) (node : BitVec 20) (valid : Bool), s.csrPath ag Reg.rtrNode 8 = .served →
      (ag ≠ .fab → exec (.rtrNodeWrite ag node valid) s = .next (z.refuseWrite ag)) ∧
      (ag = .fab → exec (.rtrNodeWrite ag node valid) s = .next ((z.wr Reg.rtrNode (setFld (setFld 0 19 0 node.toNat) 63 63 (b2n valid))).setMacs))) ∧
    (∀ (ag : Agent) (p : Fin 16) (g : Fin 64) (v : W64) (others : Nat), s.csrPath ag (Reg.rtrShare p g) 8 = .served →
      others = (((List.range 64).filter (fun x => decide (x ≠ g.val))).map (fun x => s.rdF (Reg.rtrShare p x) 6 0)).foldl (· + ·) 0 →
      (ag ≠ .fab → exec (.shareGroupWrite ag p g v) s = .next (z.refuseWrite ag)) ∧
      (ag = .fab → 64 < others + fld v 6 0 → exec (.shareGroupWrite ag p g v) s = .next (z.event 0x504 (.port p))) ∧
      (ag = .fab → others + fld v 6 0 ≤ 64 → exec (.shareGroupWrite ag p g v) s = .next (z.wr (Reg.rtrShare p g) (v &&& (fldMask 6 0 ||| fldMask 19 8))))) ∧
    (∀ (ag : Agent) (t : Fin 17) (id : BitVec 12) (v : W64), s.csrPath ag (Reg.rtrCircuit t id.toNat) 8 = .served →
      (ag ≠ .fab → exec (.circuitEntryWrite ag t id v) s = .next (z.refuseWrite ag)) ∧
      (ag = .fab → ∀ m : W64, v &&& ~~~ fldMask 23 22 = m →
        (s.rdB (Reg.rtrCircuit t id.toNat) 0 = true → bitOf v 0 = false →
          exec (.circuitEntryWrite ag t id v) s = .next ((z.tearEntry (t.val, id.toNat)).wr (Reg.rtrCircuit t id.toNat) m)) ∧
        (s.rdB (Reg.rtrCircuit t id.toNat) 0 = false → bitOf v 0 = false → exec (.circuitEntryWrite ag t id v) s = .next (z.wr (Reg.rtrCircuit t id.toNat) m)) ∧
        (s.rdB (Reg.rtrCircuit t id.toNat) 0 = true → bitOf v 0 = true → s.rdF (Reg.rtrCircuit t id.toNat) 5 1 = fld m 5 1 →
          exec (.circuitEntryWrite ag t id v) s = .next (z.wr (Reg.rtrCircuit t id.toNat) m)) ∧
        (bitOf v 0 = true → s.rdB (Reg.rtrCircuit t id.toNat) 0 = false ∨ s.rdF (Reg.rtrCircuit t id.toNat) 5 1 ≠ fld m 5 1 → fld m 5 1 < 16 →
          s.rdB (Reg.prtStatus (fld m 5 1)) 5 = true → exec (.circuitEntryWrite ag t id v) s = .next z) ∧
        (bitOf v 0 = true → (∀ p, p < 16 → s.rdB (Reg.prtStatus p) 5 = false) →
          exec (.circuitEntryWrite ag t id v) s = .next (z.wr (Reg.rtrCircuit t id.toNat) m)) ∧
        (s.rdB (Reg.rtrCircuit t id.toNat) 0 = false → bitOf v 0 = true → t.val < 16 → s.rdB (Reg.prtStatus t) 5 = true →
          exec (.circuitEntryWrite ag t id v) s = .next z))) ∧
    (∃ t : State, exec .telemetryWindowEnd s = .next t ∧ t.rd Reg.rtrTelemGen = s.rd Reg.rtrTelemGen + 2 ∧
      (∀ k, k < 71 → t.rd (Reg.rtrSnapshot k) = s.rd (Reg.rtrOutBytes 0 + 8 * k)) ∧
      (∀ a, a ≠ Reg.rtrTelemGen → (∀ k, k < 71 → a ≠ Reg.rtrSnapshot k) → t.rd a = s.rd a) ∧ t.mem = s.mem ∧ t.router = s.router ∧ t.ports = s.ports)

/-- R391 to R417: what sources do with their flows. -/
def Obligations.SourcesSendAndRetry : Prop :=
  ∀ (s z : State) (dst : BitVec 20) (cls : Fin 8) (key : Nat) (c : SendCtx), ({ s with answer := .none } : State) = z → sendKey dst.toNat cls = key → z.send key = c →
    (s.nodeValid = false ∨ flowClass cls = false → ∀ ask, exec (.packetSend dst cls ask) s = .next z) ∧
    (s.nodeValid = true → flowClass cls = true → ∀ ask, exec (.packetSend dst cls ask) s =
      .next ((z.each (ask.filterMap (z.askedJob dst.toNat cls)) (fun s j => s.enqueueJob dst.toNat cls j)).sendNext key)) ∧
    (∀ (v : State) (d : SendCtx), v.send key = d →
      (d.phase = .closed → d.queue = [] → v.sendNext key = v) ∧
      (∀ (j : NetJob) (js : List NetJob) (P : Nat), d.phase = .closed → d.queue = j :: js → P = (v.domainPart j.domain).getD 4 →
        (d.part = none → v.homeOpen (key % 8) (v.sendHome P key) = false → v.sendNext key = v) ∧
        (v.touch P (2 * key) = none → v.sendNext key = v) ∧
        (∀ w : State, d.part ≠ none ∨ v.homeOpen (key % 8) (v.sendHome P key) = true → v.touch P (2 * key) = some w → v.sendNext key = ((w.draw.2).updSend key (fun x => { x with nextSeq := fld w.draw.1 31 0 })).openFlow key j)) ∧
      (d.phase = .opening ∨ d.phase = .held → v.sendNext key = v) ∧
      (∀ (j : NetJob) (js : List NetJob), d.phase = .opened → d.queue = j :: js → d.txns.all (fun t => t.pkts.isEmpty) = true → d.txns.length < 4096 →
        (v.rd Reg.rtrTxnUsed).toNat < 65536 → (j.mcast = none ∨ d.txns = []) → v.replyRoom j = true → v.sendNext key = (v.openTxn key j).sendPacket key) ∧
      (d.phase = .opened → d.queue = [] → d.txns.all (fun t => t.pkts.isEmpty) = true → v.sendNext key = v) ∧
      (∀ (t : Txn) (p : Packet) (ps : List Packet), d.phase = .opened → d.txns.find? (fun t => !t.pkts.isEmpty) = some t → t.pkts = p :: ps →
        ((v.flowHeld key = true ∨ v.rdF Reg.rtrE2e 8 0 * 65536 < (d.unacked.map SentPkt.charge).foldl (· + ·) 0 + packetCharge p ∨ 2048 ≤ d.unacked.length) →
          v.sendNext key = v) ∧
        (v.flowHeld key = false → (d.unacked.map SentPkt.charge).foldl (· + ·) 0 + packetCharge p ≤ v.rdF Reg.rtrE2e 8 0 * 65536 → d.unacked.length < 2048 →
          v.sendNext key = (v.updSend key (fun x => { x with nextSeq := (x.nextSeq + 1) % 2 ^ 32, unacked := x.unacked ++ [{ pkt := { p with seq := d.nextSeq }, charge := packetCharge p }], txns := x.txns.map (fun y => if y.xid = t.xid then { y with pkts := ps, firstSeq := if t.pkts.length = t.all.length then d.nextSeq else y.firstSeq } else y) })).putPacket
              { p with seq := d.nextSeq } t.job))) ∧
    (c.phase ≠ .opening → c.unacked.any (fun u => decide (1 + z.rdF Reg.rtrE2e 27 24 ≤ u.sends)) = true → exec (.e2eTimeout dst cls) s = .next ((z.event 0x505).resetFlow key)) ∧
    (c.phase ≠ .opening → c.unacked.any (fun u => decide (1 + z.rdF Reg.rtrE2e 27 24 ≤ u.sends)) = false →
      exec (.e2eTimeout dst cls) s = .next (z.each c.unacked (fun s u => s.resend key u))) ∧
    (∀ u : SentPkt, c.phase = .opening → c.opener = some u →
      (1 + z.rdF Reg.rtrE2e 27 24 ≤ u.sends → exec (.e2eTimeout dst cls) s = .next ((z.event 0x505).openFails key)) ∧
      (u.sends < 1 + z.rdF Reg.rtrE2e 27 24 → exec (.e2eTimeout dst cls) s = .next (z.reopen key)) ∧
      (u.nack = 3 → exec (.nackBusyRetry dst cls true) s = .next (z.openFails key) ∧ exec (.nackBusyRetry dst cls false) s = .next (z.reopen key)) ∧
      (u.nack = 1 → exec (.resetRetry dst cls) s = .next (z.reopen key) ∧ exec (.resetWaitExpire dst cls) s = .next (z.openFails key))) ∧
    (c.phase ≠ .opening → c.unacked.find? (fun u => decide (u.nack = 3)) = none → ∀ late, exec (.nackBusyRetry dst cls late) s = .next z) ∧
    (∀ u : SentPkt, c.phase ≠ .opening → c.unacked.find? (fun u => decide (u.nack = 3)) = some u →
      exec (.nackBusyRetry dst cls true) s = .next (z.failTxns key (fun t => t.xid = u.pkt.xid || t.job.mcast.isSome)) ∧
      exec (.nackBusyRetry dst cls false) s = .next ((z.updSend key (fun x => { x with
        unacked := x.unacked.map (fun y => if y.pkt.seq = u.pkt.seq then { y with nack := 0 } else y) })).resend key u)) ∧
    (∀ u : SentPkt, c.phase = .held → c.unacked.find? (fun u => decide (u.nack = 1)) = some u → exec (.resetRetry dst cls) s = .next (z.resend key u)) ∧
    (c.phase = .held → exec (.resetWaitExpire dst cls) s = .next ((z.failTxns key (fun _ => true)).updSend key (fun x => { x with phase := .closed, unacked := [] }))) ∧
    (c.phase = .opened ∨ c.phase = .closed → exec (.resetRetry dst cls) s = .next z ∧ exec (.resetWaitExpire dst cls) s = .next z) ∧
    (z.router.sends.get key = none → exec (.ccTick dst cls) s = .next z) ∧
    (z.router.sends.get key ≠ none → ∃ t : State, exec (.ccTick dst cls) s = .next t ∧
      (c.echo = true → t.send key = { c with echo := false }) ∧
      (c.echo = false → t.send key = { c with alphaNum := (2 ^ s.rdF Reg.rtrCc 11 8 - 1) * c.alphaNum, alphaExp := c.alphaExp + s.rdF Reg.rtrCc 11 8, rate := if s.rdB Reg.rtrCc 20 then min 1024 (c.rate + s.rdF Reg.rtrCc 19 12) else 1024 }) ∧
      (∀ k, k ≠ key → t.send k = s.send k) ∧ t.csr = s.csr ∧ t.mem = s.mem) ∧
    (cls = 6 → c.phase = .opening → exec (.multicastTimeout dst) s = .next (z.reopen key)) ∧
    (cls = 6 → c.phase ≠ .opening → exec (.multicastTimeout dst) s = .next (z.each c.unacked (fun s u => s.resend key u)))

/-- R390 to R407: what a destination does with request packets. -/
def Obligations.DestinationsServeRequests : Prop :=
  ∀ (s z : State), ({ s with answer := .none } : State) = z →
    (∀ (op : Nat) (c : Instr) (bad : Bool), (op, c) ∈ [(1, Instr.wrdesc bad), (2, .wrdata bad), (3, .rdreq bad), (5, .atomic bad), (7, .dbell bad), (9, .contrib bad)] →
      (s.router.arrived.find? (fun p => decide (p.op = op)) = none → exec c s = .next z) ∧
      (∀ (p : Packet) (v : State), s.router.arrived.find? (fun p => decide (p.op = op)) = some p →
        (z.updRouter (fun r => { r with arrived := r.arrived.erase p })).checkDomain p bad = v →
        (v.pwr.warm = true → exec c s = .next (v.sendNack p 1)) ∧
        (v.pwr.warm = false → v.domainPart p.domain = none → exec c s = .next (v.sendNack p 4)) ∧
        (∀ P, v.pwr.warm = false → v.domainPart p.domain = some P →
          ((v.router.resetting.contains P || v.rdF Reg.pmcState 1 0 == 1) = true → exec c s = .next (v.sendNack p 1)) ∧
          ((v.router.resetting.contains P || v.rdF Reg.pmcState 1 0 == 1) = false → v.recv (recvKey p) = none → exec c s = .next (v.sendNack p 2)) ∧
          (∀ cx, (v.router.resetting.contains P || v.rdF Reg.pmcState 1 0 == 1) = false → v.recv (recvKey p) = some cx →
            (v.touch P (2 * recvKey p + 1) = none → exec c s = .next (v.sendNack p 3)) ∧
            (∀ (w : State) (cy : RecvCtx), v.touch P (2 * recvKey p + 1) = some w → w.recv (recvKey p) = some cy →
              (cy.recorded p.seq = true → exec c s = .next (w.duplicate (recvKey p) P p)) ∧
              (cy.recorded p.seq = false → exec c s = .next (w.applyRequest (recvKey p) P p))))))) ∧
    (∀ (v : State) (key P : Nat) (p : Packet) (cx : RecvCtx), v.recv key = some cx →
      (p.mcast = true → p.op ≠ 1 → p.op ≠ 2 → v.applyRequest key P p = v.sendNack p 4) ∧
      ((p.mcast = true → p.op = 1 ∨ p.op = 2) → p.fence = true → (cx.cum + 1) % 2 ^ 32 ≠ p.seq →
        (v.heelAccess cx P p = false → v.applyRequest key P p = v.refuseAccess p P) ∧ (v.heelAccess cx P p = true → v.applyRequest key P p = v.holdEarly key p)) ∧
      ((p.mcast = true → p.op = 1 ∨ p.op = 2) → (p.fence = true → (cx.cum + 1) % 2 ^ 32 = p.seq) →
        (p.op = 1 → ∀ h off len : Nat, h = bodyNat p.payload 0 3 → off = bodyNat p.payload 8 8 → len = bodyNat p.payload 16 4 →
          (v.handleOk (.remote P) h off len true = false → v.applyRequest key P p = (v.event 0x503 (part := some P)).sendNack p 5) ∧
          (v.handleOk (.remote P) h off len true = true → v.applyRequest key P p = (v.updRecv key (fun c => { c with writes := c.writes ++ [({ seq := p.seq, handle := h, offset := off, len := len, packets := bodyNat p.payload 4 4, notify := if natBit (bodyNat p.payload 3 1) 0 then some (bodyNat p.payload 20 1 % 64) else none, part := P, left := bodyNat p.payload 4 4 } : WriteOpen)] })).delivered key p)) ∧
        (p.op = 2 → cx.writeOf p.seq = none → v.applyRequest key P p = v.holdEarly key p) ∧
        (∀ w k, p.op = 2 → cx.writeOf p.seq = some (w, k) → v.applyRequest key P p = v.applyWrdata key P p w k) ∧
        (p.op = 3 → (v.serveRead P p).2 = true → v.applyRequest key P p = (v.serveRead P p).1.delivered key p) ∧
        (p.op = 3 → (v.serveRead P p).2 = false → v.applyRequest key P p = (v.serveRead P p).1) ∧
        (∀ (a b h off aop x y old : Nat), p.op = 5 → h = bodyNat p.payload 0 3 → aop = bodyNat p.payload 3 1 → off = bodyNat p.payload 8 8 → x = bodyNat p.payload 16 8 → y = bodyNat p.payload 24 8 →
          v.resolve (.remote P) h off 8 true = some a → v.resolve (.remote P) h off 8 false = some b → 1 ≤ aop → aop ≤ 3 → off % 8 = 0 → v.replyOpen P = true → old = v.readNat a 8 →
          ∀ new : Nat, new = (if aop = 1 then old + x else if aop = 2 then x else if old = x then y else old) →
          (aop = 3 → old ≠ x → v.applyRequest key P p = ((v.tilePasses (frameOfDpa a) 4).delivered key p).cacheReply key p
            (replyTo (v.tilePasses (frameOfDpa a) 4) p 6 p.seq (leBytes 8 old ++ leBytes 56 0))) ∧
          (aop ≠ 3 ∨ old = x → v.applyRequest key P p = (((v.tilePasses (frameOfDpa a) 4).writeBytes a (leBytes 8 new)).delivered key p).cacheReply key p
            (replyTo ((v.tilePasses (frameOfDpa a) 4).writeBytes a (leBytes 8 new)) p 6 p.seq (leBytes 8 old ++ leBytes 56 0)))) ∧
        (p.op = 7 → v.replyOpen P = true → v.applyRequest key P p = ((v.signalRemote P (bodyNat p.payload 3 1 % 64)).delivered key p).cacheReply key p
          (replyTo (v.signalRemote P (bodyNat p.payload 3 1 % 64)) p 8 p.seq [])) ∧
        (p.op = 7 → v.replyOpen P = false → v.applyRequest key P p = v.sendNack p 3) ∧
        (p.op = 9 → v.applyRequest key P p = v.applyContrib P p))) ∧
    (∀ (src : BitVec 20) (cls : Fin 8) (final : Option (BitVec 20)) (key own : Nat), flowKey src cls final = key → src.toNat * 8 + cls.val = own →
      (z.recv own = none → exec (.ackTimer src cls) s = .next z) ∧
      (∀ c : RecvCtx, z.recv own = some c →
        (c.unacked = 0 → exec (.ackTimer src cls) s = .next z) ∧
        (0 < c.unacked → exec (.ackTimer src cls) s = .next (((z.updRecv own (fun c => { c with
            unacked := 0, marks := c.marks.filter (fun x => !seqLe x c.cum) })).answerTo
          { src := src.toNat, cls := cls, domain := z.domainOf c.part } 0x10 c.cum (min 4095 (c.marks.filter (fun x => seqLe x c.cum)).length) [] 0 0)))) ∧
      (z.recv key = none → exec (.heelApply src cls final) s = .next z) ∧
      (∀ c : RecvCtx, z.recv key = some c →
        (∀ p, c.held.find? (fun p => (!p.fence || (c.cum + 1) % 2 ^ 32 == p.seq) && (p.op ≠ 2 || (c.writeOf p.seq).isSome)) = some p →
          exec (.heelApply src cls final) s = .next ((z.updRecv key (fun c => { c with held := c.held.erase p })).applyRequest key c.part p)) ∧
        z.recvRests key = (c.above.isEmpty && c.held.isEmpty && c.writes.isEmpty && c.unacked == 0 && !z.router.replies.any (fun e => e.1 == key))) ∧
      (z.recv key = none → z.recvRests key = false) ∧
      (z.router.recvs.find? (fun e => e.1 % 2 ^ 23 == own && z.recvRests e.1) = none → exec (.contextReclaim src cls) s = .next z) ∧
      (∀ e, z.router.recvs.find? (fun e => e.1 % 2 ^ 23 == own && z.recvRests e.1) = some e → exec (.contextReclaim src cls) s =
        .next ((z.updRouter (fun r => { r with recvs := r.recvs.set e.1 none, cache := r.cache.filter (· ≠ 2 * e.1 + 1) })).gauges))) ∧
    (s.router.arrived.find? (fun p => decide (p.op = 0x14)) = none → exec .flowreset s = .next z) ∧
    (∀ (p : Packet) (v : State), s.router.arrived.find? (fun p => decide (p.op = 0x14)) = some p → z.updRouter (fun r => { r with arrived := r.arrived.erase p }) = v →
      (v.domainPart p.domain = none → exec .flowreset s = .next (v.sendNack p 4)) ∧
      (∀ P, v.domainPart p.domain = some P →
        (v.router.resetting.contains P = true → exec .flowreset s = .next (v.sendNack p 1)) ∧
        (v.router.resetting.contains P = false → v.recv (recvKey p) = none → v.homeOpen p.cls (v.recvHome P (recvKey p)) = false → exec .flowreset s = .next (v.sendNack p 3)) ∧
        (v.router.resetting.contains P = false → v.touch P (2 * recvKey p + 1) = none → exec .flowreset s = .next (v.sendNack p 3)) ∧
        (∀ w t : State, v.router.resetting.contains P = false → v.recv (recvKey p) ≠ none ∨ v.homeOpen p.cls (v.recvHome P (recvKey p)) = true → v.touch P (2 * recvKey p + 1) = some w →
          (w.updRouter (fun r => { r with recvs := r.recvs.set (recvKey p) (some { cum := sub32 p.seq 1, part := P }), replies := r.replies.filter (fun e => e.1 ≠ recvKey p) })).gauges = t →
          (p.mcast = false → exec .flowreset s = .next (t.sendAck (recvKey p) p)) ∧ (p.mcast = true → exec .flowreset s = .next (t.sendMack p (sub32 p.seq 1)))))) ∧
    (s.router.arrived.find? (fun p => decide (p.op = 0x13)) = none → exec .rack s = .next z) ∧
    (∀ (p : Packet) (v : State), s.router.arrived.find? (fun p => decide (p.op = 0x13)) = some p → z.updRouter (fun r => { r with arrived := r.arrived.erase p }) = v →
      (v.domainPart p.domain = none → exec .rack s = .next v) ∧
      (v.domainPart p.domain ≠ none → exec .rack s = .next ((v.updRouter (fun r => { r with replies := r.replies.filter (fun e => !(e.1 == recvKey p && seqLe e.2.1 p.seq)) })).gauges)))

/-- R392 to R417, R448, R450: answers at the source. -/
def Obligations.AnswersCompleteTransactions : Prop :=
  ∀ (s z : State), ({ s with answer := .none } : State) = z →
    (∀ (op : Nat) (i : Instr), (op, i) ∈ [(0x10, Instr.ack), (0x11, .nack), (0x12, .loss), (0x15, .mack), (4, .rddata), (6, .atomrsp), (8, .dback), (0xA, .contribrsp), (0x18, .cdown)] →
      s.router.arrived.find? (fun p => decide (p.op = op)) = none → exec i s = .next z) ∧
    (∀ (p : Packet) (v : State), z.updRouter (fun r => { r with arrived := r.arrived.erase p }) = v → v.domainPart p.domain = none →
      ∀ (op : Nat) (i : Instr), (op, i) ∈ [(0x10, Instr.ack), (0x11, .nack), (0x12, .loss), (0x15, .mack), (4, .rddata), (6, .atomrsp), (8, .dback), (0xA, .contribrsp), (0x18, .cdown)] →
      s.router.arrived.find? (fun p => decide (p.op = op)) = some p → exec i s = .next v) ∧
    (∀ (p : Packet) (v : State) (key : Nat) (c : SendCtx), z.updRouter (fun r => { r with arrived := r.arrived.erase p }) = v → v.domainPart p.domain ≠ none → sendKey p.src p.cls = key → v.send key = c →
      (s.router.arrived.find? (fun p => decide (p.op = 0x10)) = some p →
        (v.router.sends.get key = none → exec .ack s = .next v) ∧
        (v.router.sends.get key ≠ none → c.phase = .opening → (p.seq + 1) % 2 ^ 32 = c.resetSeq → exec .ack s = .next (v.updSend key (fun c => { c with phase := .opened, opener := none }))) ∧
        (v.router.sends.get key ≠ none → c.phase = .opening → (p.seq + 1) % 2 ^ 32 ≠ c.resetSeq → exec .ack s = .next v) ∧
        (v.router.sends.get key ≠ none → c.phase ≠ .opening → ∀ w : State, (if 0 < p.xid then v.echoRate key else v) = w → exec .ack s = .next ((w.updSend key (fun c => { c with
          unacked := c.unacked.filter (fun x => !seqLe x.pkt.seq p.seq), phase := if c.phase = .held ∧ (c.unacked.filter (fun x => !seqLe x.pkt.seq p.seq)).any (fun x => decide (x.nack = 1)) = false then .opened else c.phase })).finishWrites key))) ∧
      (s.router.arrived.find? (fun p => decide (p.op = 0x11)) = some p → ∀ reason, reason = bodyNat p.payload 0 1 →
        (∀ u, c.phase = .opening → c.opener = some u → u.pkt.seq = p.seq → (reason = 4 ∨ reason = 5) → exec .nack s = .next (v.openFails key)) ∧
        (∀ u, c.phase = .opening → c.opener = some u → u.pkt.seq = p.seq → reason ≠ 4 → reason ≠ 5 → exec .nack s = .next (v.updSend key (fun c => { c with opener := some { u with nack := reason } }))) ∧
        (c.phase ≠ .opening → c.unacked.any (fun x => decide (x.pkt.seq = p.seq)) = false → exec .nack s = .next v) ∧
        (c.phase ≠ .opening → c.unacked.any (fun x => decide (x.pkt.seq = p.seq)) = true → ∀ w : State,
          v.updSend key (fun c => { c with unacked := c.unacked.map (fun x => if x.pkt.seq = p.seq then { x with nack := reason } else x) }) = w →
          (reason = 1 → exec .nack s = .next (w.updSend key (fun c => { c with phase := .held }))) ∧
          (reason = 2 → exec .nack s = .next (w.noContext key)) ∧
          (reason = 3 → exec .nack s = .next w) ∧
          (4 ≤ reason → exec .nack s = .next (v.failTxns key (fun t => t.xid = p.xid || t.job.mcast.isSome))))) ∧
      (s.router.arrived.find? (fun p => decide (p.op = 0x12)) = some p →
        (∀ u, c.unacked.find? (fun u => decide (u.pkt.seq = p.seq)) = some u → exec .loss s = .next (v.resend key u)) ∧
        (c.unacked.find? (fun u => decide (u.pkt.seq = p.seq)) = none → exec .loss s = .next v)) ∧
      (s.router.arrived.find? (fun p => decide (p.op = 0x15)) = some p →
        (∀ (j : NetJob) (d sel hops expect m : Nat), c.phase = .opening → ((c.txns.map Txn.job) ++ c.queue).head? = some j → j.mcast = some (d, sel, hops, expect) →
          m = c.openMacks ||| 2 ^ (p.xid % 64) →
          (m &&& expect = expect → exec .mack s = .next (v.updSend key (fun c => { c with openMacks := m, phase := .opened, opener := none }))) ∧
          (m &&& expect ≠ expect → exec .mack s = .next (v.updSend key (fun c => { c with openMacks := m })))) ∧
        (∀ (t : Txn) (d sel hops expect m : Nat), c.phase ≠ .opening → c.txns.head? = some t → t.job.mcast = some (d, sel, hops, expect) → t.pkts = [] →
          m = (if seqLe (sub32 (t.firstSeq + t.all.length) 1) p.seq then t.macks ||| 2 ^ (p.xid % 64) else t.macks) →
          (m &&& expect = expect → exec .mack s = .next (((v.updSend key (fun c => { c with txns := c.txns.drop 1, unacked := [] })).jobDone key t.xid t.job true).gauges)) ∧
          (m &&& expect ≠ expect → exec .mack s = .next (v.updSend key (fun c => { c with txns := c.txns.map (fun x => if x.xid = t.xid then { x with macks := m } else x) }))))) ∧
      (∀ (e : State) (t : Txn), v.replyEcho p = e → e.txnOf p = some t →
        (s.router.arrived.find? (fun p => decide (p.op = 6)) = some p → t.job.op = 5 → exec .atomrsp s = .next (e.replyDone key t (BitVec.ofNat 64 (bodyNat p.payload 0 8)))) ∧
        (s.router.arrived.find? (fun p => decide (p.op = 8)) = some p → t.job.op = 7 → exec .dback s = .next (e.replyDone key t 0)) ∧
        (s.router.arrived.find? (fun p => decide (p.op = 0xA)) = some p → t.job.op = 9 → ∀ m d g peer, t.job.owner = .clx m → d = t.job.payload.drop (t.job.payload.length - 64) →
          g = bodyNat d 0 1 % 8 → peer = ((List.range (e.grpK m g)).find? (fun j => decide (e.grpPeer m g j = p.src))).getD 64 →
          exec .contribrsp s = .next ((e.replyDone key t 0).clxOnAck ((e.replyDone key t 0).leadOf m) m peer (natBit (bodyNat d 1 1) 0) p.payload)) ∧
        (s.router.arrived.find? (fun p => decide (p.op = 4)) = some p → ∀ ps, ps = piecesFrom t.job.store t.job.len →
          (t.job.op ≠ 3 ∨ t.got.contains p.seq = true ∨ packetsFor ps.length ≤ p.seq → exec .rddata s = .next e) ∧
          (∀ (x0 x1 : Nat × Nat) (w : State) (got : List Nat), t.job.op = 3 → t.got.contains p.seq = false → p.seq < packetsFor ps.length → x0 = (ps[2 * p.seq]?).getD (0, 0) → x1 = (ps[2 * p.seq + 1]?).getD (0, 0) →
            (∀ q tok, t.job.owner = .dmx q tok → w = (e.landPiece (t.job.store + x0.1) (p.payload.take x0.2) p.check0).landPiece (t.job.store + x1.1) (p.payload.drop x0.2) p.check1) →
            (∀ slot, t.job.owner = .seal slot → w = e.updRouter (fun r => { r with sealData := r.sealData ++ [(slot, t.job.store + x0.1, p.payload)] })) →
            (∀ m, t.job.owner = .clx m → w = e) →
            (t.job.owner = .firmware → w = e.updRouter (fun r => { r with replyArea := r.replyArea ++ [(key, t.xid, x0.1, p.payload)] })) → got = t.got ++ [p.seq] → ∀ y : State,
            w.updSend key (fun c => { c with txns := c.txns.map (fun x => if x.xid = t.xid then { x with got := got } else x) }) = y →
            (got.length = packetsFor ps.length → exec .rddata s = .next (y.replyDone key t (BitVec.ofNat 64 (bodyNat p.payload 0 8)))) ∧
            (got.length ≠ packetsFor ps.length → exec .rddata s = .next y)))) ∧
      (∀ e : State, v.replyEcho p = e → e.txnOf p = none → ∀ (op : Nat) (i : Instr), (op, i) ∈ [(4, .rddata), (6, .atomrsp), (8, .dback), (0xA, .contribrsp)] →
        s.router.arrived.find? (fun p => decide (p.op = op)) = some p → exec i s = .next e) ∧
      (s.router.arrived.find? (fun p => decide (p.op = 0x18)) = some p → exec .cdown s = .next (v.clxDown p.xid)))

/-- R428 to R451, R458: the commands of the collective engines. -/
def Obligations.CollectiveEnginesRunInstances : Prop :=
  ∀ s : State,
    (∀ (q : Fin 4), ((s.clx q).queue = [] ∨ (s.clx q).run ≠ none ∨ s.rdF (Reg.clxStatus q) 1 0 ≠ 1) → exec (.instanceStart q) s = .next s) ∧
    (∀ (q : Fin 4) (i : ClxInst) (rest : List ClxInst) (v : State) (p : ClxProg), (s.clx q).queue = i :: rest → (s.clx q).run = none → s.rdF (Reg.clxStatus q) 1 0 = 1 →
      (s.updClx q (fun c => { c with queue := rest })).wrF (Reg.clxStatus q) 16 8 rest.length = v → v.clxProg q i.program = p →
      (s.clxCheck q i ≠ 0 → ∃ t : State, exec (.instanceStart q) s = .next t ∧ t.rdF (Reg.clxLast q) 39 36 = s.clxCheck q i % 16 ∧ t.rdF (Reg.clxLast q) 9 0 = i.program % 1024 ∧
        t.rdF (Reg.clxLast q) 23 16 = i.token % 256 ∧ (t.seq q).soon = (s.seq q).soon ++ [(i.token, false)] ∧ (t.clx q).queue = rest ∧ (t.clx q).run = none ∧
        t.mem = s.mem ∧ (s.rcd.queue.length < 256 → t.rcd.queue = s.rcd.queue ++ [⟨{ name := 0x6C1, part := some (s.partOfDie q), detail := BitVec.ofNat 64 (s.clxCheck q i) }, s.rcd.opTime⟩]) ∧
        (∀ a, a ≠ Reg.clxLast q → a ≠ Reg.clxStatus q → a ≠ Reg.clxFailed q → t.rd a = s.rd a)) ∧
      (s.clxCheck q i = 0 → ∀ w y : State, v.updClx q (fun c => { c with
          counters := p.groups.foldl (fun (t : Tbl Nat) g => t.upd g (fun n => (n + 1) % 256)) c.counters, failedNo := p.groups.foldl (fun (t : Tbl Nat) g => t.set g 0) c.failedNo }) = w →
        w.each (w.gang q) (fun s m => s.wrF (Reg.clxStatus m) 1 0 2) = y →
        exec (.instanceStart q) s = .next ((y.clxStartPhase q { inst := i, packet := (y.gang q).flatMap (fun m => p.groups.flatMap (y.clxPacketDirs m)) } 0
          (0, fld (i.args[3]?.getD 0) 31 0)).clxSettle q 8))) ∧
    (∀ (m : Fin 4) (peer : Fin 64) (down : Bool) (q : Nat), s.leadOf m = q →
      exec (.chunkSend m peer down) s = .next ((s.clxSendTiles q m peer down ((s.clx q).run.map (fun r => (r.outs.get (laneKey m peer down)).chunk)) 18).clxSettle q 8) ∧
      (∀ (r : ClxRun) (x : ClxNow) (l : ClxLane) (o : ClxOut) (g : ClxSeg) (c : Nat) (b : State) (bs : List Byte), (s.clx q).run = some r → s.clxNow q r = x →
        x.outs.find? (fun l => decide (l.peer = peer.val ∧ l.down = down)) = some l → r.outs.get (laneKey m peer down) = o → x.chunkAt l.segs o.chunk = some (g, c) →
        r.finished = false → x.member o.chunk = m.val → x.ready g c o.tile = true →
        (o.chunk - o.acked + x.members - 1) / x.members < (if x.scaleFrames g = 2 then 14 else 15) → s.clxTileBytes x g c o.tile = (b, some bs) →
        ∀ o2 : ClxOut, o2 = (if o.tile + 1 = 16 + x.scaleFrames g then { o with chunk := o.chunk + x.members, tile := 0 } else { o with tile := o.tile + 1 }) →
        (x.inPacket m down = false → exec (.tileReadbackSend m peer down) s = .next (((b.clxCircuitSend x m down peer (clxSeq o.tile o.chunk r.phase x.number) bs).updClx q
          (fun c => { c with run := c.run.map (fun r => { r with outs := r.outs.set (laneKey m peer down) o2 }) })).clxSettle q 8)) ∧
        (x.inPacket m down = true → ∀ pl, pl = bs ++ clxDescriptor x.ph.group down r.phase x.number o.chunk o.tile → exec (.tileReadbackSend m peer down) s =
          .next ((((b.enqueueJob (b.grpPeer m x.ph.group peer) 2 { owner := .clx m, op := 9, domain := b.domainOf x.part, payload := pl }).count (Reg.clxTxBytes m) (frameBytes { payload := pl })).updClx q
          (fun c => { c with run := c.run.map (fun r => { r with outs := r.outs.set (laneKey m peer down) o2 }) })).clxSettle q 8)))) ∧
    (∀ (q : Fin 4) (r : ClxRun), (s.clx q).run = some r →
      (r.finished = false → exec (.clxInstanceDone q) s = .next s ∧ exec (.clxProgressTimeout q) s = .next (s.clxFail q 7)) ∧
      (r.finished = true → exec (.clxProgressTimeout q) s = .next s ∧ ∀ v : State, (s.updClx q (fun c => { c with run := none })).clxIdle q = v → exec (.clxInstanceDone q) s =
        .next ((v.clxEnded q r.inst ((v.clx q).counters.get ((s.clxProg q r.inst.program).groups.head?.getD 0) % 256) 0 false r.degraded).tokenPart q r.inst.token true))) ∧
    (∀ q : Fin 4, (s.clx q).run = none → exec (.clxInstanceDone q) s = .next s ∧ exec (.clxProgressTimeout q) s = .next s) ∧
    (∀ (ag : Agent) (m : Fin 4) (g : Fin 8) (i : Fin 72) (v : W64) (z : State), ({ s with answer := .none } : State) = z →
      (groupReg m g i = none → exec (.groupEntryWrite ag m g i v) s = .next s) ∧
      (∀ a, groupReg m g i = some a → s.csrPath ag a (if 8 ≤ i.val then 4 else 8) = .served →
        (ag ≠ .fab → exec (.groupEntryWrite ag m g i v) s = .next (z.refuseWrite ag)) ∧
        (ag = .fab → (s.clxNamed m g || (s.clx m).deferred.any (fun d => d.1 = a)) = true → exec (.groupEntryWrite ag m g i v) s =
          .next (z.updClx m (fun c => { c with deferred := c.deferred.filter (fun d => d.1 ≠ a) ++ [(a, v)] }))) ∧
        (ag = .fab → (s.clxNamed m g || (s.clx m).deferred.any (fun d => d.1 = a)) = false → exec (.groupEntryWrite ag m g i v) s = .next (z.setGroup m g a v)))) ∧
    (∀ (m : Fin 4) (g : Fin 8), (s.clxNamed m g = true → exec (.groupWriteApply m g) s = .next s) ∧
      (s.clxNamed m g = false → ∀ due, due = (s.clx m).deferred.filter (fun d => decide (Reg.clxGroupW0 m g ≤ d.1) && decide (d.1 < Reg.clxGroupW0 m g + 0x200)) →
        exec (.groupWriteApply m g) s = .next ((s.updClx m (fun c => { c with
          deferred := c.deferred.filter (fun d => !(decide (Reg.clxGroupW0 m g ≤ d.1) && decide (d.1 < Reg.clxGroupW0 m g + 0x200))) })).each due (fun s d => s.setGroup m g d.1 d.2)))) ∧
    (∀ (ag : Agent) (m : Fin 4) (x : Fin 1024) (i : Fin 8) (v : W64) (z : State), ({ s with answer := .none } : State) = z → s.csrPath ag (Reg.clxProgram m x i) 8 = .served →
      (ag = .sch ∧ s.rdF (Reg.clxStatus m) 1 0 = 1 ∧ s.rdF (Reg.clxStatus m) 16 8 = 0 → exec (.clxProgramWrite ag m x i v) s = .next (z.wr (Reg.clxProgram m x i) v)) ∧
      (¬ (ag = .sch ∧ s.rdF (Reg.clxStatus m) 1 0 = 1 ∧ s.rdF (Reg.clxStatus m) 16 8 = 0) → exec (.clxProgramWrite ag m x i v) s = .next (z.refuseWrite ag)))

/-- R463 to R465: a management message of any type. The rows of requests, their type numbers, forms and effects. -/
def Obligations.ManagementMessagesAreServed : Prop :=
  (∀ r ∈ ([(.replicate, 3, fun m => decide (8 ≤ m.body.length), fun s _ _ m => (s.agentReplica m, 0, [])),
      (.query false, 0x10, fun m => m.body.length == 0, fun s _ _ _ => (s, 0, s.queryBody)),
      (.query true, 0x10, fun m => m.body.length == 0, fun s _ _ _ => (s, 0, s.queryBody)),
      (.assign, 0x11, fun m => m.body.length == 12, fun s _ _ m =>
        ((s.agentAssign m).1.cond ((s.agentAssign m).2 == 0 && (s.agentAssign m).1.role == 3) (fun s => s.setPrimary s.node), (s.agentAssign m).2, [])),
      (.portEn, 0x12, fun m => m.body.length == 4, fun s _ _ m => (s.agentPorts m, 0, [])),
      (.plan, 0x20, fun m => decide (8 ≤ m.body.length), fun s _ _ m => (s.agentPlan m, 0, [])),
      (.expand, 0x21, fun m => m.body.length == 4, fun s _ _ m => s.agentExpand m),
      (.entry, 0x22, fun m => decide (bodyNat m.body 4 4 ≤ 121) && m.body.length == 8 + 8 * bodyNat m.body 4 4, fun s _ _ m => (s.agentEntries m, 0, [])),
      (.fmHold, 0x23, fun m => decide (12 ≤ m.body.length ∧ m.body.length ≤ 972), fun s _ _ m => (s.agentHold m, 0, [])),
      (.drain, 0x24, fun m => m.body.length == 4, fun s _ _ _ => (s.agentDrain.1, 0, s.agentDrain.2)),
      (.flip, 0x25, fun m => m.body.length == 5, fun s _ _ m => (s.setBank (bodyNat m.body 4 1 % 2), 0, [])),
      (.resume, 0x26, fun m => m.body.length == 4, fun s _ _ _ => (s.agentResume, 0, [])),
      (.domain, 0x30, fun m => m.body.length == 4, fun s _ _ m => ((s.agentDomain m).1, (s.agentDomain m).2, [])),
      (.group, 0x31, fun m => m.body.length == 0x142, fun s _ _ m => ((s.agentGroup m).1, (s.agentGroup m).2, [])),
      (.circuit, 0x32, fun m => decide (m.body.length ≤ 720) && m.body.length % 12 == 0, fun s _ _ m => (s.agentCircuits m, 0, [])),
      (.tables, 0x33, fun m => decide (m.body.length ≤ 720) && m.body.length % 12 == 0, fun s _ _ m => (s.agentTables m, 0, []))] :
      List (Instr × Nat × (Mgmt → Bool) × (State → Nat → Nat → Mgmt → State × Nat × List Byte))),
    ∀ s z : State, ({ s with answer := .none } : State) = z →
    (s.fm.inbox.find? (fun e => e.2.2.type = r.2.1) = none → exec r.1 s = .next z) ∧
    (∀ (a src : Nat) (m : Mgmt) (v : State), s.fm.inbox.find? (fun e => e.2.2.type = r.2.1) = some (a, src, m) →
      z.updFm (fun f => { f with inbox := f.inbox.erase (a, src, m) }) = v →
      (natBit m.flags 0 = false →
        (∀ k, s.fm.kept.find? (fun k => k.1 = senderKey a src m && k.2.1 = m.mseq) = some k →
          exec r.1 s = .next (if natBit m.flags 1 then v.sendLink a k.2.2 else v.sendMgmt (.node src) k.2.2)) ∧
        (s.fm.kept.find? (fun k => k.1 = senderKey a src m && k.2.1 = m.mseq) = none →
          (m.term < s.fmTerm % 2 ^ 32 → exec r.1 s = .next (v.respond a src m 3 [])) ∧
          (s.fmTerm % 2 ^ 32 ≤ m.term → r.2.2.1 m = false → exec r.1 s = .next (v.respond a src m 4 [])) ∧
          (s.fmTerm % 2 ^ 32 ≤ m.term → r.2.2.1 m = true → ∀ w : State, (v.seeTerm m.term).cond (!natBit m.flags 1 && decide (src < 0x20000)) (fun s => s.setPrimary src) = w →
            exec r.1 s = .next ((r.2.2.2 w a src m).1.respond a src m (r.2.2.2 w a src m).2.1 (r.2.2.2 w a src m).2.2)))) ∧
      (natBit m.flags 0 = true →
        (s.fm.reqs.find? (fun q => q.msg.mseq = m.mseq ∧ q.msg.type = r.2.1) = none → exec r.1 s = .next v) ∧
        (∀ q, s.fm.reqs.find? (fun q => q.msg.mseq = m.mseq ∧ q.msg.type = r.2.1) = some q →
          exec r.1 s = .next (((v.updFm (fun f => { f with reqs := f.reqs.erase q })).requestDone q m (decide (r.1 = .query true))).flushQueue.goOn)))))
  ∧ (∀ s : State,
      s.agentDrain.2 = leBytes 8 s.heldOpen ∧ s.agentDrain.1 = s ∧ (∀ ag d, s.readValue ag d Reg.hubFmHoldOpen = BitVec.ofNat 64 s.heldOpen) ∧
      (∀ m : Mgmt, (s.agentHold m).rdB Reg.hubFmHoldCtrl 0 = true ∧ (s.agentHold m).rdB Reg.hubFmHoldCtrl 1 = decide (bodyNat m.body 4 1 ≠ 0)) ∧
      s.agentResume.rdF Reg.hubFmHoldCtrl 1 0 = 0 ∧ (∀ i, i < 2048 → s.agentResume.rd (Reg.hubFmHoldMap i) = 0) ∧
      (∀ m : Mgmt, (131072 ≤ bodyNat m.body 0 4 ∨ (s.nodeValid = true ∧ s.node ≠ bodyNat m.body 0 4)) → s.agentAssign m = (s, 1)) ∧
      (∀ b, b < 2 → (s.setBank b).rdF Reg.rtrRtEpoch 0 0 = b))
  ∧ (∀ s z : State, ({ s with answer := .none } : State) = z →
      (s.router.ring = [] → exec .mgmt s = .next z) ∧
      (s.domOn 24 = false → exec .mgmt s = .next z) ∧
      (∀ e rest v, s.router.ring = e :: rest → s.domOn 24 = true → z.updRouter (fun r => { r with ring := rest }) = v →
        (e.2.op ≠ 0x20 → exec .mgmt s = .next (v.count (Reg.rtrDrop 6) 1)) ∧
        (e.2.op = 0x20 → mgmtWhole e.2.payload = false → exec .mgmt s = .next v) ∧
        (e.2.op = 0x20 → mgmtWhole e.2.payload = true →
          ((Mgmt.ofBytes e.2.payload).relay e.1 = none → exec .mgmt s = .next (v.updFm (fun f => { f with inbox := f.inbox ++ [(e.1, e.2.src, Mgmt.ofBytes e.2.payload)] }))) ∧
          (∀ p m, (Mgmt.ofBytes e.2.payload).relay e.1 = some (p, m) → exec .mgmt s = .next (v.sendLink p m)))) ∧
      (∀ q : BitVec 32, (s.fm.reqs.find? (fun r => r.msg.mseq = q.toNat) = none → exec (.mgmtRetransmit q) s = .next z) ∧
        (∀ r, s.fm.reqs.find? (fun r => r.msg.mseq = q.toNat) = some r →
          (r.sends < 8 → exec (.mgmtRetransmit q) s = .next ((z.updFm (fun f => { f with reqs := f.reqs.map (fun x => if x = r then { x with sends := x.sends + 1 } else x) })).sendMgmt r.path r.msg)) ∧
          (8 ≤ r.sends → exec (.mgmtRetransmit q) s = .next (((((z.updFm (fun f => { f with reqs := f.reqs.erase r })).event 0xB09).requestFailed r).flushQueue).goOn)))) ∧
      (s.fm.inbox.find? (fun e => e.2.2.type = 0x40) = none → exec .report s = .next z) ∧
      (∀ (a src : Nat) (m : Mgmt) (v : State), s.fm.inbox.find? (fun e => e.2.2.type = 0x40) = some (a, src, m) →
        z.updFm (fun f => { f with inbox := f.inbox.erase (a, src, m) }) = v →
        (natBit m.flags 0 = true → exec .report s = .next (v.updFm (fun f => { f with reports := f.reports.filter (fun r => r.msg.mseq ≠ m.mseq) }))) ∧
        (natBit m.flags 0 = false → s.role ≠ 3 → exec .report s = .next v) ∧
        (natBit m.flags 0 = false → s.role = 3 →
          (∀ k, s.fm.kept.find? (fun k => k.1 = senderKey a src m && k.2.1 = m.mseq) = some k → exec .report s = .next (v.sendMgmt (.node src) k.2.2)) ∧
          (s.fm.kept.find? (fun k => k.1 = senderKey a src m && k.2.1 = m.mseq) = none →
            (m.body.length = 12 → exec .report s = .next (((v.respond a src m 0 []).onReport src m.body).goOn)) ∧
            (m.body.length ≠ 12 → exec .report s = .next (v.respond a src m 4 []))))) ∧
      (exec .reportRepeat s = .next (if s.domOn 24 = true ∧ s.primaryKnown = true then
        z.each s.fm.reports (fun t r => t.sendMgmt (.node (t.rdF Reg.hubFmPeers 19 0)) r.msg) else z)))

/-- R466 to R482, R570 to R572: the commands of the manager, and of the agent beside requests. -/
def Obligations.ManagersElectSwapAndCarve : Prop :=
  (∀ s z : State, ({ s with answer := .none } : State) = z →
    (exec .electTimer s = .next (if s.domOn 24 = true then z.electNow.sendElect else z)) ∧
    (∀ (x : W64) (p : Fin 16), exec (.candidateExpire x p) s = .next (if s.domOn 24 = true then
      (z.updFm (fun f => { f with cands := f.cands.filter (fun c => !(c.serial == x && c.port == p.val)) })).electNow else z)) ∧
    (s.domOn 24 = false → exec .electionStable s = .next z) ∧
    (s.domOn 24 = true → ∀ v : State, z.wrB Reg.hubFmStatus 2 true = v → (∀ c, s.fm.best = some c → c.port = 16 → s.role ≠ 3 → exec .electionStable s = .next (v.becomePrimary 0xB01)) ∧
      ((s.fm.best = none ∨ (∃ c, s.fm.best = some c ∧ c.port ≠ 16) ∨ s.role = 3) → exec .electionStable s = .next v)) ∧
    (s.role = 2 → exec .standbyTakeover s = .next (z.becomePrimary 0xB02)) ∧ (s.role ≠ 2 → exec .standbyTakeover s = .next z) ∧
    ((s.role ≠ 3 ∨ s.standbyKnown = false) → exec .beatTimer s = .next z) ∧
    (s.role = 3 → s.standbyKnown = true → exec .beatTimer s = .next ((z.updFm (fun f => { f with nextMseq := (f.nextMseq + 1) % 2 ^ 32 })).sendMgmt (.node (s.rdF Reg.hubFmPeers 51 32))
      { type := 2, mseq := s.fm.nextMseq, term := s.fmTerm % 2 ^ 32, machine := (s.rd Reg.hubFmMachine).toNat, body := leBytes 8 s.fmTerm ++ leBytes 4 s.fm.answered })) ∧
    (s.fm.inbox.find? (fun e => e.2.2.type = 1 && !natBit e.2.2.flags 0) = none → exec .elect s = .next z) ∧
    (s.fm.inbox.find? (fun e => e.2.2.type = 2 && !natBit e.2.2.flags 0) = none → exec .beat s = .next z) ∧
    (∀ e l (v : State), s.fm.inbox.find? (fun e => e.2.2.type = 1 && !natBit e.2.2.flags 0) = some e →
      (z.updFm (fun f => { f with inbox := f.inbox.erase e })).seeTerm (bodyNat e.2.2.body 29 8) = v → electCands e.1 e.2.2.body v.fuses.serial = l →
      exec .elect s = .next ((v.updFm (fun f => { f with cands := f.cands.filter (fun c => !(c.port == e.1 && l.any (fun x => x.serial == c.serial))) ++ l })).electNow)) ∧
    (∀ e (v : State), s.fm.inbox.find? (fun e => e.2.2.type = 2 && !natBit e.2.2.flags 0) = some e → z.updFm (fun f => { f with inbox := f.inbox.erase e }) = v →
      (bodyNat e.2.2.body 0 8 < s.fmTerm → exec .beat s = .next v) ∧
      (s.fmTerm ≤ bodyNat e.2.2.body 0 8 → ∀ w : State, (v.seeTerm (bodyNat e.2.2.body 0 8)).setPrimary e.2.1 = w →
        exec .beat s = .next ((if w.role = 3 then w else w.setRole 2).updFm (fun f => { f with answered := bodyNat e.2.2.body 8 4, log := f.log.filter (fun x => bodyNat e.2.2.body 8 4 < x.1) })))) ∧
    ((s.fm.swap = none ∨ s.role ≠ 3) → exec .drainSettle s = .next z ∧ exec .drainOverrun s = .next z ∧ exec .swapRetry s = .next z) ∧
    (∀ w, s.fm.swap = some w → s.role = 3 →
      (w.step = 4 → exec .drainSettle s = .next ((z.updFm (fun f => { f with
        swap := some { w with step := 5, batches := [s.toAll none 0x25 (leBytes 4 w.number ++ leBytes 1 w.bank)] } })).goOn)) ∧
      (w.step ≠ 4 → exec .drainSettle s = .next z) ∧
      (w.step = 3 → exec .drainOverrun s = .next z.abortSwap.goOn) ∧ (w.step ≠ 3 → exec .drainOverrun s = .next z) ∧
      (w.step = 7 → exec .swapRetry s = .next ((z.updFm (fun f => { f with
        swap := some { w with step := 1, aborting := false, open_ := false, batches := w.plan.messages.map (fun m => s.toAll none m.1 m.2) } })).goOn)) ∧
      (w.step ≠ 7 → exec .swapRetry s = .next z)) ∧
    (∀ t : BitVec 12, exec (.tagReuseTimer t) s = .next (z.updFm (fun f => { f with retiredTags := f.retiredTags.filter (fun x => x ≠ t.toNat) }))))
  ∧ (∀ r ∈ ([(.imgOffer, 0x50, fun m => m.body.length == 72, fun s arrival _ m =>
        ((s.cond (s.fw.netBoot && decide (bodyNat m.body 4 4 ≤ 0x2000000)) (fun s => { s with fw := { s.fw with
          netVersion := bodyNat m.body 0 4, netLength := bodyNat m.body 4 4, netDigest := m.body.drop 8, netBytes := [] } })).forward arrival m, 0, [])),
      (.imgData, 0x51, fun m => decide (8 ≤ m.body.length ∧ m.body.length ≤ 968), fun s arrival _ m =>
        ((s.cond (s.fw.netBoot && bodyNat m.body 0 4 == s.fw.netVersion && decide (bodyNat m.body 4 4 + (m.body.drop 8).length ≤ s.fw.netLength)) (fun s =>
          { s with fw := { s.fw with netBytes := s.fw.netBytes.setRun (bodyNat m.body 4 4) (m.body.drop 8) } })).forward arrival m, 0, [])),
      (.imgDone, 0x52, fun m => m.body.length == 4, fun s arrival _ m =>
        ((s.forward arrival m).cond ((s.forward arrival m).fw.netBoot && bodyNat m.body 0 4 == (s.forward arrival m).fw.netVersion && decide (0 < (s.forward arrival m).fw.netLength)) State.netDone, 0, []))] :
      List (Instr × Nat × (Mgmt → Bool) × (State → Nat → Nat → Mgmt → State × Nat × List Byte))),
    ∀ s z : State, ({ s with answer := .none } : State) = z →
    (s.fm.inbox.find? (fun e => e.2.2.type = r.2.1) = none → exec r.1 s = .next z) ∧
    (∀ (a src : Nat) (m : Mgmt) (v w : State), s.fm.inbox.find? (fun e => e.2.2.type = r.2.1) = some (a, src, m) → natBit m.flags 0 = false →
      s.fm.kept.find? (fun k => k.1 = senderKey a src m && k.2.1 = m.mseq) = none → s.fmTerm % 2 ^ 32 ≤ m.term →
      z.updFm (fun f => { f with inbox := f.inbox.erase (a, src, m) }) = v →
      (r.2.2.1 m = false → exec r.1 s = .next (v.respond a src m 4 [])) ∧
      (r.2.2.1 m = true → (v.seeTerm m.term).cond (!natBit m.flags 1 && decide (src < 0x20000)) (fun s => s.setPrimary src) = w →
        exec r.1 s = .next ((r.2.2.2 w a src m).1.respond a src m (r.2.2.2 w a src m).2.1 (r.2.2.2 w a src m).2.2))))
  ∧ (∀ (s z : State) (h : Fin 2) (host : HostData), ({ s with answer := .none } : State) = z →
      (z.startedCmd h 0 0x41 (fun _ => true) = none → exec (.jobCarve h host) s = .next z) ∧
      (z.startedCmd h 0 0x42 (fun _ => true) = none → exec (.jobRelease h) s = .next z) ∧
      (∀ c, z.startedCmd h 0 0x41 (fun _ => true) = some c →
        ((host.ok && host.data.length == c.par 16 4) = false → exec (.jobCarve h host) s = .next ((z.hostFailed h 0 host.reason (c.par 8 8)).finish h 0 c 0xF)) ∧
        ((host.ok && host.data.length == c.par 16 4) = true →
          (jobBlockGood host.data = false → exec (.jobCarve h host) s = .next (z.finish h 0 c 1)) ∧
          (jobBlockGood host.data = true → (s.role ≠ 3 ∨ s.fm.master = none ∨ z.planCarve host.data = none) → exec (.jobCarve h host) s = .next ((z.event 0xB08).finish h 0 c 0x11)) ∧
          (jobBlockGood host.data = true → s.role = 3 → ∀ pl j (v : State), s.fm.master = some pl → z.planCarve host.data = some j → z.updFm (fun f => { f with jobs := f.jobs ++ [j] }) = v →
            exec (.jobCarve h host) s = .next (((v.updFm (fun f => { f with todo := f.todo ++ (v.domainStage pl j true :: (v.circuitStages pl j.tag j.circuits j.circuits false ++
              [v.groupStage pl j false, .carved h c.entry j.tag])) })).setStage h 0 c .running).goOn)))) ∧
      (∀ c, z.startedCmd h 0 0x42 (fun _ => true) = some c →
        ((s.role ≠ 3 ∨ s.fm.master = none ∨ s.fm.jobs.find? (fun j => j.tag = c.par 8 2) = none) → exec (.jobRelease h) s = .next ((z.event 0xB08).finish h 0 c 0x11)) ∧
        (s.role = 3 → ∀ pl j, s.fm.master = some pl → s.fm.jobs.find? (fun j => j.tag = c.par 8 2) = some j →
          exec (.jobRelease h) s = .next (((z.updFm (fun f => { f with todo := f.todo ++ (z.teardown pl j ++ [.released h c.entry (c.par 8 2)]) })).setStage h 0 c .running).goOn))))

/-- R491 to R500, R512 to R519, R553: what a host's writes and beats do. -/
def Obligations.HostAccessesTakeEffect : Prop :=
  ∀ (s z : State) (h : Fin 2) (f : Fin 5), ({ s with answer := .none } : State) = z →
    (∀ (off : BitVec 16) (wide : Bool) (v : W64),
      (s.fnPresent h f = false → exec (.bar0Write h f off wide v) s = .next z) ∧
      (s.fnPresent h f = true → bar0Ok f off.toNat wide = false → exec (.bar0Write h f off wide v) s = .next (z.hostError h f .bar0Write off.toNat)) ∧
      (s.fnPresent h f = true → bar0Ok f off.toNat wide = true → 768 ≤ s.rdF (Reg.hifCapPend h f) 9 0 →
        exec (.bar0Write h f off wide v) s = .next (((z.wrB (Reg.hifCapCtrl h) (8 + f) true).wrB (Reg.hifEmuStatus h f) 3 true).fnEvent 0x902 h f 0)) ∧
      (s.fnPresent h f = true → bar0Ok f off.toNat wide = true → s.rdF (Reg.hifCapPend h f) 9 0 < 768 → ∀ i, s.rdF (Reg.hifCapProd h) 31 0 = i →
        ∃ t, exec (.bar0Write h f off wide v) s = .next t ∧
          t.rd (capWord h i 0) = BitVec.ofNat 64 (i + off.toNat * 2 ^ 32 + (f.val + 8 * (if wide then 1 else 0)) * 2 ^ 48) ∧
          t.rd (capWord h i 1) = (if wide then v else v &&& fldMask 31 0) ∧ t.rd (Reg.hifFnLast h f) = BitVec.ofNat 64 i ∧ t.rd (Reg.hifEmuCapseq h f) = BitVec.ofNat 64 i ∧
          t.rdF (Reg.hifCapPend h f) 9 0 = s.rdF (Reg.hifCapPend h f) 9 0 + 1 ∧ t.rd (Reg.hifCapProd h) = BitVec.ofNat 64 ((i + 1) % 2 ^ 32) ∧
          (((off = 0x44 ∧ v.getLsbD 31 = true) ∨ (off = 0x40 ∧ wide = true ∧ v.getLsbD 63 = true)) → s.fstate h f = 3 → t.fstate h f = 4) ∧
          (¬ ((off = 0x44 ∧ v.getLsbD 31 = true) ∨ (off = 0x40 ∧ wide = true ∧ v.getLsbD 63 = true)) ∨ s.fstate h f ≠ 3 → t.rd (Reg.hifEmuStatus h f) = s.rd (Reg.hifEmuStatus h f)) ∧
          t.host = s.host ∧ t.mem = s.mem ∧ t.rcd = s.rcd ∧
          (∀ a, a ≠ capWord h i 0 → a ≠ capWord h i 1 → a ≠ Reg.hifFnLast h f → a ≠ Reg.hifEmuCapseq h f → a ≠ Reg.hifCapPend h f → a ≠ Reg.hifCapProd h → a ≠ Reg.hifEmuStatus h f → t.rd a = s.rd a))) ∧
    (s.unconsumed h = [] → exec (.captureConsume h) s = .next z) ∧
    (∀ i rest off (g : Nat) wide void v (u : State), s.unconsumed h = i :: rest → s.capEntry h i = (off, g, wide, void, v) →
      (void = true → u = z) → (void = false → (s.fstate h g = 3 ∨ s.fstate h g = 4) → u = z.updFn h g (fun x => { x with parked := x.parked ++ [(i, off, wide, v)] })) →
      (void = false → ¬ (s.fstate h g = 3 ∨ s.fstate h g = 4) → u = (z.applyWrite h g off wide v).consumed h g i) →
      exec (.captureConsume h) s = .next ((u.wr (Reg.hifCapCons h) (BitVec.ofNat 64 ((i + 1) % 2 ^ 32))).each (List.range 5) (fun s f => s.releaseBells h f))) ∧
    (∀ (ag : Agent) (v : W32),
      (s.csrPath ag (Reg.hifCapCons h) 4 = .silent → exec (.hifCapConsWrite ag h v) s = .next { s with answer := .addressError }) ∧
      (s.csrPath ag (Reg.hifCapCons h) 4 = .served → (ag ≠ .sch ∨ sub32 (s.rdF (Reg.hifCapProd h) 31 0) (s.rdF (Reg.hifCapCons h) 31 0) < sub32 v.toNat (s.rdF (Reg.hifCapCons h) 31 0)) → exec (.hifCapConsWrite ag h v) s = .next (z.refuseWrite ag)) ∧
      (s.csrPath ag (Reg.hifCapCons h) 4 = .served → ag = .sch → sub32 v.toNat (s.rdF (Reg.hifCapCons h) 31 0) ≤ sub32 (s.rdF (Reg.hifCapProd h) 31 0) (s.rdF (Reg.hifCapCons h) 31 0) → exec (.hifCapConsWrite ag h v) s = .next (z.passTo h v.toNat))) ∧
    (∀ (q : Fin 16) (head : Bool) (v : W32) (b : HeldBell), b = { q := q.val, head := head, value := v.toNat, tag := s.rdF (Reg.hifFnLast h f) 31 0 } →
      ((s.fnPresent h f = false ∨ (s.fstate h f = 2 ∧ s.rdF (Reg.hifCapPend h f) 9 0 = 0)) → exec (.doorbell h f q head v) s = .next z) ∧
      (s.fnPresent h f = true → ¬ (s.fstate h f = 2 ∧ s.rdF (Reg.hifCapPend h f) 9 0 = 0) →
        (s.rdF (Reg.hifCapPend h f) 9 0 = 0 → (s.fn h f).bells = [] → exec (.doorbell h f q head v) s = .next (z.bell h f b)) ∧
        (¬ (s.rdF (Reg.hifCapPend h f) 9 0 = 0 ∧ (s.fn h f).bells = []) → exec (.doorbell h f q head v) s = .next (z.updFn h f (fun x => { x with bells := x.bells ++ [b] }))))) ∧
    (s.fnPresent h f = false → exec (.heartbeat h f) s = .next z) ∧
    (s.fnPresent h f = true → ∀ n u, (s.rdF (Reg.hifHbCount h f) 31 0 + 1) % 2 ^ 32 = n → z.wr (Reg.hifHbCount h f) (BitVec.ofNat 64 n) = u →
      (s.fstate h f ≠ 1 → exec (.heartbeat h f) s = .next u) ∧
      (s.fstate h f = 1 → exec (.heartbeat h f) s = .next ((u.wrF (Reg.hifEmuHb h f) 18 16 0).updFn h f (fun x => if x.beating then x else { x with beating := true, beats := n })))) ∧
    (((s.fn h f).beating = false ∨ s.domOn (hostDomain h) = false ∨ s.host.stopped = true) → exec (.heartbeatWindowEnd h f) s = .next z) ∧
    ((s.fn h f).beating = true → s.domOn (hostDomain h) = true → s.host.stopped = false → ∀ n m u, s.rdF (Reg.hifHbCount h f) 31 0 = n →
      m = (if n = (s.fn h f).beats then min 7 (s.rdF (Reg.hifEmuHb h f) 18 16 + 1) else 0) → (z.wrF (Reg.hifEmuHb h f) 18 16 m).updFn h f (fun x => { x with beats := n }) = u →
      (m < 3 → exec (.heartbeatWindowEnd h f) s = .next u) ∧ (3 ≤ m → exec (.heartbeatWindowEnd h f) s = .next (u.orphanFn h f 1))) ∧
    (∀ keep, keep = (match s.fnPart h f with | some p => (s.host.policies.get p).orphanKeep | none => 600) →
      (((s.fn h f).orphan = true ∧ keep ≠ 0) → exec (.orphanKeepExpire h f) s = .next (z.settleCmds.discardOrphan h f)) ∧
      (¬ ((s.fn h f).orphan = true ∧ keep ≠ 0) → exec (.orphanKeepExpire h f) s = .next z)) ∧
    ((s.fnPresent h f = false ∨ s.fstate h f = 2 ∨ s.fstate h f = 5) → (∀ q v, exec (.queueCreate h f q v) s = .next z ∧ exec (.queueDelete h f q v) s = .next z) ∧ ∀ w v, exec (.windowSet h f w v) s = .next z) ∧
    (s.fnPresent h f = true → s.fstate h f ≠ 2 → s.fstate h f ≠ 5 →
      (∀ q v, (v.getLsbD 15 = true → exec (.queueCreate h f q v) s = .next (z.setQctrl h f q (v.setWidth 64)) ∧ exec (.queueDelete h f q v) s = .next z) ∧
        (v.getLsbD 15 = false → exec (.queueCreate h f q v) s = .next z ∧ exec (.queueDelete h f q v) s = .next (z.setQctrl h f q (v.setWidth 64)))) ∧
      ∀ w v, exec (.windowSet h f w v) s = .next (z.setWindow h f w v)) ∧
    (∀ (off : BitVec 36) (n : Nat) (data : Option (List Byte)) (ecc : List MemUpset) (u : State) (w k b : Nat) (win : W64), ({ s.upset ecc with answer := .none } : State) = u →
      off.toNat / 2 ^ 31 = w → u.rd (Reg.hifEmuWin h f w) = win → (match data with | some bs => bs.length | none => n) = k → fld win 63 32 * 0x200000 + off.toNat % 2 ^ 31 = b →
      (u.fnPresent h f = false → exec (.bar4Access h f off n data ecc) s = .next u) ∧
      (u.fnPresent h f = true → (u.rdF (Reg.hifEmuWinStat h f w) 1 0 ≠ 1 ∨ (if data.isSome then bitOf win 27 else bitOf win 26) = false) → exec (.bar4Access h f off n data ecc) s = .next (u.bar4Fail h f data.isSome off.toNat)) ∧
      (u.fnPresent h f = true → u.rdF (Reg.hifEmuWinStat h f w) 1 0 = 1 → (if data.isSome then bitOf win 27 else bitOf win 26) = true →
        (fld win 25 24 = 1 → exec (.bar4Access h f off n data ecc) s = .next (u.bar4Handle h f off.toNat (fld win 23 0) b k data)) ∧
        (fld win 25 24 ≠ 1 → exec (.bar4Access h f off n data ecc) s = .next (u.bar4Csr h off.toNat (Blk.hub + b) k data))))

/-- R487, R488, R502 to R506, R514, R516, R520 to R525: queues, negotiation and resets. -/
def Obligations.QueuesNegotiationAndResetsTakeEffect : Prop :=
  ∀ (s z : State) (h : Fin 2), ({ s with answer := .none } : State) = z →
    (∀ (f : Fin 5) (q : Fin 16) (host : HostData) (bad : Bool) (u : State) (k : HostQueue) (i : Nat), (if bad then z.mismatchAt Reg.secPartMap else z) = u → u.queue h f q = k → u.rdF (Reg.hifEmuQstat h f q) 31 16 = i →
      ((u.mayFetch h f = false ∨ k.live = false ∨ k.error = true ∨ i % (16 * 2 ^ k.sqLog) = k.tail % (16 * 2 ^ k.sqLog)) → exec (.submissionFetch h f q host bad) s = .next u) ∧
      (u.mayFetch h f = true → k.live = true → k.error = false → i % (16 * 2 ^ k.sqLog) ≠ k.tail % (16 * 2 ^ k.sqLog) →
        (host.ok = true → host.data.length = 64 → exec (.submissionFetch h f q host bad) s = .next
          (((u.wrF (Reg.hifEmuQstat h f q) 31 16 ((i + 1) % (16 * 2 ^ k.sqLog))).updFn h f (fun x => { x with cmds := x.cmds ++ [{ q := q.val, entry := host.data }] })).startQueue h f q)) ∧
        ((host.ok = false ∨ host.data.length ≠ 64) → exec (.submissionFetch h f q host bad) s = .next
          (((u.updQueue h f q (fun k => { k with error := true })).fnEvent 0x909 h f q).hostFailed h f host.reason (k.sqBase.toNat + 64 * i))))) ∧
    (∀ (f : Fin 5), (∀ q : Fin 16, exec (.fencedCommandStart h f q) s = .next (z.settleCmds.startQueue h f q)) ∧
      (∀ u : State, z.settleCmds = u → exec (.completionPost h f) s = .next ((u.drainCpl h f (u.fn h f).buffer.length).postOne h f)) ∧
      (s.fnPart h f = none → ∀ t : BitVec 8, exec (.hostCompletionTimeout h f (some t)) s = .next z) ∧
      (∀ (p : Nat) (t : BitVec 8), s.fnPart h f = some p →
        ((s.seq p).transfers.find? (fun x => decide (x.token = t.toNat) && (x.op == 6 || x.op == 7)) = none → exec (.hostCompletionTimeout h f (some t)) s = .next z) ∧
        (∀ x, (s.seq p).transfers.find? (fun x => decide (x.token = t.toNat) && (x.op == 6 || x.op == 7)) = some x → ∀ far, far = (match x.parts with | y :: _ => y.far | [] => 0) →
          exec (.hostCompletionTimeout h f (some t)) s = .next (((z.updSeq p (fun y => { y with transfers := y.transfers.filter (fun w => w.token ≠ x.token) })).hostFailed h f 3 far).tokenPart p x.token false))) ∧
      ((s.fn h f).cmds.find? (fun c => c.stage = .started ∧ hostOps.any (fun o => o.1 = c.op)) = none → exec (.hostCompletionTimeout h f none) s = .next z) ∧
      (∀ c, (s.fn h f).cmds.find? (fun c => c.stage = .started ∧ hostOps.any (fun o => o.1 = c.op)) = some c →
        exec (.hostCompletionTimeout h f none) s = .next ((z.hostFailed h f 3 (c.par (((hostOps.find? (fun o => o.1 = c.op)).map Prod.snd).getD 8) 8)).finish h f c 0xF))) ∧
    (∀ (f : Fin 5) (r : CfgReq),
      ((s.domOn (hostDomain h) = false ∨ (s.hport h).up = false) → exec (.pcieConfigRequest h f r) s = .next z) ∧
      (s.domOn (hostDomain h) = true → (s.hport h).up = true →
        (s.ready = false → exec (.pcieConfigRequest h f r) s = .next { s with answer := .retry }) ∧
        (s.ready = true → f ≠ 0 → s.fnPresent h f = false → exec (.pcieConfigRequest h f r) s = .next z))) ∧
    (∀ (f : Fin 5), s.domOn (hostDomain h) = true → (s.hport h).up = true → s.ready = true → (f = 0 ∨ s.fnPresent h f = true) →
      (∃ v, exec (.pcieConfigRequest h f .identity) s = .next { s with answer := .data v } ∧ fld v 15 0 = Config.vendorId.toNat ∧ fld v 31 16 = (if f = 0 then 0x4810 else 0x4811) ∧ fld v 63 40 = 0x120000) ∧
      (∀ on, exec (.pcieConfigRequest h f (.busMaster on)) s = .next (z.updHport h (fun p => { p with master := p.master.set f on }))) ∧
      (∀ en n, (f ≠ 0 ∨ 4 < n) → exec (.pcieConfigRequest h f (.sriov en n)) s = .next z) ∧
      (∀ en n, f = 0 → n ≤ 4 → ∀ u : State, z.updHport h (fun p => { p with vfEnable := en, numVfs := n }) = u → exec (.pcieConfigRequest h f (.sriov en n)) s =
        .next (u.each ((List.range 5).filter (fun f => (u.fn h f).flrDue && u.fnPresent h f)) (fun s f =>
          (s.flr h f).updFn h f (fun x => { x with flrDue := false }))))) ∧
    (∀ (f : Fin 5) (u : State), z.settleCmds = u →
      (¬ ((u.fn h f).asked = true ∧ u.ready = true ∧ u.fnPresent h f = true ∧ u.fstate h f ≠ 3 ∧ u.fstate h f ≠ 4) → exec (.negotiate h f) s = .next u) ∧
      ((u.fn h f).asked = true ∧ u.ready = true ∧ u.fnPresent h f = true ∧ u.fstate h f ≠ 3 ∧ u.fstate h f ≠ 4 → exec (.negotiate h f) s = .next (u.negotiate h f)) ∧
      (¬ ((u.fstate h f = 3 ∨ u.fstate h f = 4) ∧ u.fnQuiet h f = true ∧ (f.val = 0 ∨ (u.sec.stopping.get (f.val - 1)).isNone = true)) → exec (.flrQuiesce h f) s = .next u) ∧
      ((u.fstate h f = 3 ∨ u.fstate h f = 4) ∧ u.fnQuiet h f = true ∧ (f.val = 0 ∨ (u.sec.stopping.get (f.val - 1)).isNone = true) → exec (.flrQuiesce h f) s = .next (u.quiesceFn h f))) ∧
    (∀ m : Fin 4, exec (.flr h m) s = .next (if s.fnPresent h (m.val + 1) = true then z.flr h (m.val + 1) else z)) ∧
    (∀ u : State, z.settleCmds = u → (u.fnPresent h 0 = false → exec (.pf0Flr h) s = .next u) ∧
      (u.fnPresent h 0 = true → ∀ v : State, u.each (((List.range 5).filter (fun f => u.fnPresent h f)).filter (· ≠ 0)) (fun s f => (s.orphanFn h f 2).updFn h f (fun x => { x with flrDue := true })) = v →
        exec (.pf0Flr h) s = .next ((((v.orphanFn h 0 2).fnEvent 0x906 h 0 0).fnReset h 0).updHport h (fun p => { p with vfEnable := false, numVfs := 0 }))) ∧
      exec (.portLinkReset h 0) s = .next (u.updHport h (fun p => { p with up := u.domOn (hostDomain h) })) ∧
      (∀ k : Fin 4, k ≠ 0 → ∃ t, exec (.portLinkReset h k) s = .next t ∧ (t.hport h).up = false ∧ (t.hport h).vfEnable = false ∧ (t.hport h).numVfs = 0)) ∧
    (∀ (f : Nat), f < 5 → (s.fnReset h f).fstate h f = 3 ∧ ((s.fnReset h f).hport h).master.get f = false ∧ (s.fnReset h f).queue h f = default) ∧
    (∀ (f : Nat), f < 5 → s.ready = true → ∀ major, fld (s.rd (Reg.hifEmuDrvver h f)) 7 0 = major →
      (major < fld (s.rd (Reg.hifEmuFwver h f)) 7 0 ∨ fld (s.rd (Reg.hifEmuFwver h f)) 15 8 < major) → s.fstate h f ≠ 2 →
        (s.negotiate h f).rd (Reg.hifEmuNegstat h f) = 3 ∧ (s.negotiate h f).fstate h f = 0 ∧ (s.negotiate h f).rdB (Reg.hifEmuDrvver h f) 31 = false)

/-- R505, R507 to R519: the commands of functions. Each row has what the memory shows at the command, the opcode and the effect. -/
def Obligations.FunctionCommandsComplete : Prop :=
  (∀ (h : Fin 2) (f : Fin 5) (x : BitVec 16) (base : BitVec 19) (picks : List Nat) (host : HostData) (ecc : List MemUpset),
    ∀ r ∈ ([(.identify h f, id, 0x01, fun s c _ => s.finish h f c 0 (setFld (setFld 0 31 0 (s.rdF Reg.hubId 31 0)) 63 32 (s.rdF Reg.hubFpSummary 31 0))),
      (.hcreate h f x base picks, id, 0x10, fun s c p =>
        let r := s.createHandle p { slabs := c.par 8 4, stripe := c.par 12 1, flags := c.par 13 1, align := c.par 14 1, seed := BitVec.ofNat 64 (c.par 16 8), decl := c.par 24 4 } x.toNat base.toNat picks
        r.1.finish h f c r.2.1 (BitVec.ofNat 64 r.2.2)),
      (.hdestroy h f, id, 0x11, fun s c p => if s.handleOwned (.host p) (c.par 8 3) then (s.destroyHandle (handleIndex (c.par 8 3))).finish h f c 0 else s.finish h f c 4),
      (.hseed h f, id, 0x12, fun s c p => if !s.handleOwned (.host p) (c.par 8 3) then s.finish h f c 4
        else if s.descWriteOk (handleIndex (c.par 8 3)) 1 (BitVec.ofNat 64 (c.par 16 8)) then (s.cpCommit (Reg.hubDescW1 (handleIndex (c.par 8 3))) (BitVec.ofNat 64 (c.par 16 8))).finish h f c 0
        else (s.refuseWrite .sch).finish h f c 6),
      (.hcopy h f host ecc, fun s => s.upset ecc, 0x13, fun s c p =>
        if 1 < c.par 11 1 ∨ c.par 32 4 % 64 ≠ 0 ∨ c.par 24 8 % 64 ≠ 0 then s.finish h f c 1
        else if !s.hubOk (.host p) (c.par 8 3) (c.par 16 8) (c.par 32 4) (!(c.par 11 1 == 1)) || s.stackSide.sealed.contains (handleIndex (c.par 8 3)) then s.finish h f c 4
        else if c.par 11 1 == 1 then
          (match (s.hubRead (c.par 8 3) (c.par 16 8) (c.par 32 4)).2 with
          | some (bs, none) =>
            if host.ok then ((s.hubRead (c.par 8 3) (c.par 16 8) (c.par 32 4)).1.hostOut [.write h f (BitVec.ofNat 64 (c.par 24 8)) bs]).finish h f c 0
            else ((s.hubRead (c.par 8 3) (c.par 16 8) (c.par 32 4)).1.hostFailed h f host.reason (c.par 24 8)).finish h f c 0xF
          | some (_, some bad) => ((s.hubRead (c.par 8 3) (c.par 16 8) (c.par 32 4)).1.checkFailedHandle 8 (c.par 8 3) bad (some p)).finish h f c 4
          | none => (s.hubRead (c.par 8 3) (c.par 16 8) (c.par 32 4)).1.finish h f c 4)
        else if host.ok && host.data.length == c.par 32 4 then (s.hubWrite (c.par 8 3) (c.par 16 8) host.data).finish h f c 0
        else (s.hostFailed h f host.reason (c.par 24 8)).finish h f c 0xF),
      (.load h f ecc, fun s => s.upset ecc, 0x20, fun s c p =>
        let s := s.settleCmds
        if ¬ (s.seqState p = 0 ∨ s.seqState p = 7 ∨ s.seqState p = 8) then s.finish h f c 6
        else if c.par 16 8 % 65536 ≠ 0 then s.finish h f c 1
        else
        let s := s.readPackage p (c.par 8 3) (c.par 16 8)
        match s.checkPackage p (c.par 8 3) (c.par 16 8) with
          | .inl x => s.finish h f c x
          | .inr (g, binds) => (s.bindPackage p (c.par 8 3) (c.par 16 8) g binds).finish h f c 0),
      (.run h f host, id, 0x21, fun s c p => if s.seqState p ≠ 1 then s.finish h f c 6
        else if !s.gangFit p then s.finish h f c 8
        else if !(host.ok && host.data.length == 128) then (s.hostFailed h f host.reason (c.par 8 8)).finish h f c 0xF
        else (startRecipe p (s.updSeq p (fun z => { z with args := (List.range 16).map (fun i => BitVec.ofNat 64 (bodyNat host.data (8 * i) 8)) }))).setStage h f c .running),
      (.hold h f, id, 0x22, fun s c p => if s.seqState p = 2 ∨ s.seqState p = 3 ∨ s.seqState p = 4 then ((setHold p true s).setStage h f c .running).settleCmds else s.finish h f c 6),
      (.release h f, id, 0x23, fun s c p => (setHold p false s.settleCmds).finish h f c 0),
      (.abort h f, id, 0x24, fun s c p => if s.settleCmds.canStop p then (abortRecipe p s.settleCmds).finish h f c 0 else s.settleCmds.finish h f c 6),
      (.orphanRead h f host, id, 0x30, fun s c _ => if (s.fn h f).record.count = 0 then s.finish h f c 0x10
        else if host.ok then (s.hostOut [.write h f (BitVec.ofNat 64 (c.par 8 8)) (s.orphanBytes h f)]).finish h f c 0
        else (s.hostFailed h f host.reason (c.par 8 8)).finish h f c 0xF),
      (.adopt h f, id, 0x31, fun s c _ => if !(s.fn h f).orphan then s.finish h f c 0x10
        else (s.finish h f c 0 (BitVec.ofNat 64 (s.fn h f).orphaned.length)).settleCmds.adopt h f),
      (.discard h f, id, 0x32, fun s c _ => if !(s.fn h f).orphan then s.finish h f c 0x10
        else (s.finish h f c 0 (BitVec.ofNat 64 (s.fn h f).orphaned.length)).settleCmds.discardOrphan h f)] :
      List (Instr × (State → State) × Nat × (State → HostCmd → Nat → State))),
    ∀ s z : State, ({ r.2.1 s with answer := .none } : State) = z →
      (z.startedCmd h f r.2.2.1 (fun _ => true) = none → exec r.1 s = .next z) ∧
      (∀ c, z.startedCmd h f r.2.2.1 (fun _ => true) = some c → f.val ≠ 0 →
        (∀ p, z.fnPart h f = some p → z.mapOk = true → exec r.1 s = .next (r.2.2.2 z c p)) ∧
        ((z.fnPart h f = none ∨ z.mapOk = false) → exec r.1 s = .next z)) ∧
      (∀ c, z.startedCmd h f r.2.2.1 (fun _ => true) = some c → f.val = 0 → exec r.1 s = .next (r.2.2.2 z c 0)))
  ∧ (∀ (s : State) (h f st : Nat) (r : W64) (c : HostCmd) (pre post : List HostCmd), (s.fn h f).cmds = pre ++ c :: post → c ∉ pre →
      ((s.finish h f c st r).fn h f).cmds = pre ++ { c with stage := .done st r } :: post ∧ (s.finish h f c st r).csr = s.csr ∧ (s.finish h f c st r).mem = s.mem ∧
      (∀ g, fnKey h g ≠ fnKey h f → (s.finish h f c st r).fn h g = s.fn h g))

/-- R507, R561 to R568, R578 to R580, R599, R600: commands of PF0, each with its opcode, its subcommand test and its effect. -/
def Obligations.OwnerCommandsTakeEffect : Prop :=
  (∀ (h : Fin 2) (host : HostData),
    ∀ r ∈ ([(.partitionCreate h, 0x40, fun c => c.par 8 1 == 1, fun s c =>
        if s.createStatus (c.par 9 1) (c.par 10 1) ≠ 0 then s.finish h 0 c (s.createStatus (c.par 9 1) (c.par 10 1))
        else if !s.mapOk || s.rdF Reg.pmcState 1 0 != 0 then s
        else (s.formPart ((maskDies (c.par 9 1)).head?.getD 0) (c.par 9 1) (c.par 10 1)).finish h 0 c 0 (BitVec.ofNat 64 ((maskDies (c.par 9 1)).head?.getD 0))),
      (.partitionStoreMap h, 0x40, fun c => c.par 8 1 == 3, fun s c =>
        ({ s with config := s.config.store (fun r => { r with partMap := (s.rd Reg.secPartMap).setWidth 32 }) } : State).finish h 0 c 0),
      (.policy h, 0x43, fun _ => true, fun s c => if 3 < c.par 8 1 ∨ 1 < c.par 9 1 then s.finish h 0 c 1
        else ({ s with host := { s.host with policies := s.host.policies.set (c.par 8 1) { abortOnFlr := c.par 9 1 == 1, orphanKeep := c.par 12 4 } } } : State).finish h 0 c 0),
      (.fwStage h host, 0x44, fun _ => true, fun s c => if c.par 8 8 % 4096 ≠ 0 ∨ 0x2000000 < c.par 16 4 then s.finish h 0 c 1
        else if ¬ (s.updState = 0 ∨ s.updState = 2 ∨ s.updState = 7 ∨ s.updState = 8) then s.finish h 0 c 6
        else
          let s := ((s.setUpd 1).wrF Reg.hubFwUpd 63 32 0).setStage h 0 c .running
          if !(host.ok && host.data.length == c.par 16 4) then (s.hostFailed h 0 host.reason (c.par 8 8)).stagingFailed 0xF else s.writeSlot (1 - s.activeSlot) host.data),
      (.fwActivate h, 0x45, fun _ => true, fun s c => if s.updState ≠ 2 then s.finish h 0 c 6
        else ((((((s.setUpd 3).wrF Reg.hubFwUpd 9 4 0x3F).wrF Reg.hubFwUpd 21 10 0).event 0x803).setStage h 0 c .running).tryActivate)),
      (.fwStatus h, 0x46, fun _ => true, fun s c => s.finish h 0 c 0 (s.rd Reg.hubFwUpd)),
      (.config h, 0x47, fun _ => true, fun s c =>
        if c.par 8 1 = 1 then (if 1 < c.par 9 1 then s.finish h 0 c 1 else
          (((({ s with config := s.config.store (fun r => { r with roleEn := c.par 9 1 == 1, prio := c.par 10 1 }) } : State).wrB Reg.hubFmCtrl 0 (c.par 9 1 == 1)).wrF Reg.hubFmCtrl 15 8 (c.par 10 1)).finish h 0 c 0))
        else if c.par 8 1 = 2 then (({ s with config := s.config.store (fun r => { r with machine := BitVec.ofNat 64 (c.par 16 8) }) } : State).wr Reg.hubFmMachine (BitVec.ofNat 64 (c.par 16 8))).finish h 0 c 0
        else if c.par 8 1 = 3 then ({ s with config := s.config.store (fun r => { r with origin := BitVec.ofNat 64 (c.par 16 8) }), fm := { s.fm with origin := BitVec.ofNat 64 (c.par 16 8) } } : State).finish h 0 c 0
        else s.finish h 0 c 1),
      (.svnCommit h, 0x4C, fun _ => true, fun s c =>
        if s.updState ≠ 0 ∨ bundleSvn (s.slotBytes s.activeSlot) < c.par 8 4 ∨ 255 < c.par 8 4 ∨ c.par 8 4 < s.fuses.svnFloor then s.finish h 0 c 6
        else (({ s with fuses := { s.fuses with svnFloor := c.par 8 4 } } : State).event 0x70B).finish h 0 c 0),
      (.ownerEnroll h host, 0x4D, fun _ => true, fun s c => if !host.ok || decide (host.data.length < 7219) then (s.hostFailed h 0 host.reason (c.par 8 8)).finish h 0 c 0xF
        else if s.config.record.ownerEnrolled && !(sha3_512 ((host.data.drop 7219).take 2592) == s.config.record.ownerDigest
          && Config.mldsaVerify ((host.data.drop 7219).take 2592) (digestBytes (sha3_512 (host.data.take 2592)) ++ s.nonceBytes) ((host.data.drop 2592).take 4627)) then s.finish h 0 c 2
        else ((({ s with config := s.config.store (fun r => { r with ownerEnrolled := true, ownerDigest := sha3_512 (host.data.take 2592) }) } : State).event 0x70A).newNonce).finish h 0 c 0)] :
      List (Instr × Nat × (HostCmd → Bool) × (State → HostCmd → State))),
    ∀ s z : State, ({ s with answer := .none } : State) = z →
      (z.startedCmd h 0 r.2.1 r.2.2.1 = none → exec r.1 s = .next z) ∧
      (∀ c, z.startedCmd h 0 r.2.1 r.2.2.1 = some c → exec r.1 s = .next (r.2.2.2 z c)))
  ∧ (∀ (h : Fin 2) (tests : List (Nat × Nat)) (s z : State), ({ s with answer := .none } : State) = z →
      (z.startedCmd h 0 0x40 (fun c => c.par 8 1 == 2) = none → exec (.partitionRelease h tests) s = .next (z.continueStops false tests)) ∧
      (∀ c p, z.startedCmd h 0 0x40 (fun c => c.par 8 1 == 2) = some c → c.par 11 1 = p →
        ((3 < p ∨ s.partExists p = false ∨ (s.sec.stopping.get p).isSome = true) → exec (.partitionRelease h tests) s = .next (z.finish h 0 c 6)) ∧
        (p ≤ 3 → s.partExists p = true → (s.sec.stopping.get p).isSome = false → exec (.partitionRelease h tests) s = .next ((z.setStage h 0 c .running).beginStop p false tests))) ∧
      (z.startedCmd h 0 0x40 (fun c => c.par 8 1 == 4) = none → exec (.partitionReset h tests) s = .next (z.continueStops true tests)) ∧
      (∀ c p, z.startedCmd h 0 0x40 (fun c => c.par 8 1 == 4) = some c → c.par 11 1 = p →
        ((3 < p ∨ s.partExists p = false ∨ s.partState p ≠ 2) → exec (.partitionReset h tests) s = .next (z.finish h 0 c 6)) ∧
        (p ≤ 3 → s.partExists p = true → s.partState p = 2 → exec (.partitionReset h tests) s = .next ((z.setStage h 0 c .running).beginStop p true tests))) ∧
      (∀ p : Fin 4, exec (.releaseStopBound p tests) s = .next (z.endStop p tests)) ∧
      (∀ p, p ≤ 3 → s.sec.stopping.get p = none → z.endStop p tests = z))
  ∧ (∀ s z : State, ({ s with answer := .none } : State) = z →
      (s.updState ≠ 1 → exec .stagingVerified s = .next z) ∧
      (s.updState = 1 → ∀ u ok v, z.checkSlot (1 - s.activeSlot) = (u, ok) → bundleVersion (u.slotBytes (1 - s.activeSlot)) = v →
        exec .stagingVerified s = .next (if ok then ((u.setUpd 2).wrF Reg.hubFwUpd 63 32 v).finishOp 0x44 0 (BitVec.ofNat 64 v)
          else ((u.setUpd 8).event 0x801).finishOp 0x44 0xB 0)) ∧
      (∀ (k : Fin 7) (payload : List Byte) (comes : Bool),
        ((s.mayHandOver k = false ∨ 130944 < payload.length) → exec (.handover k payload comes) s = .next z) ∧
        (s.mayHandOver k = true → payload.length ≤ 130944 → ∀ (new : Nat) (e : BundleEntry) (r : List Byte) (u v w : State) (ok : Bool), new = (if k.val = 2 then s.activeSlot else 1 - s.activeSlot) →
          bundleOf (s.slotBytes new) k = e → r = levainRecord (levainHead (bundleOf (s.slotBytes (1 - new)) k).fmt k (s.rdF (Reg.hubFwComp (k - 1)) 31 0) e.version payload.length s.fw.levainSeq (s.rdF (Reg.bbxInc k) 15 0)) payload →
          z.setCompState k 3 = u → ({ u with fw := { u.fw with levain := r, levainBack := u.fw.levain, levainSeq := (u.fw.levainSeq + 1) % 2 ^ 32 } } : State).checkSlot new = (v, ok) → v.startCore k new = w →
          exec (.handover k payload comes) s = .next (if !ok then (v.event 0x801 (.component k) k).rollBack k true
            else if !comes then { w with fw := { w.fw with starting := some k.val } }
            else if levainAdopts r k e.version e.fmtMin e.fmtMax then w.adopted k else w.rollBack k true))) ∧
      (∀ starts, (s.fw.starting = none → exec (.adoptTimeout starts) s = .next z) ∧ ∀ k, s.fw.starting = some k → exec (.adoptTimeout starts) s = .next (z.rollBack k starts)) ∧
      (s.updState = 5 → s.emergencyNow = false → s.compState 2 ≠ 3 → s.compState 2 ≠ 4 → exec .pmcHandoverStart s = .next (z.setCompState 2 3)) ∧
      ((s.updState ≠ 5 ∨ s.emergencyNow = true ∨ s.compState 2 = 3 ∨ s.compState 2 = 4) → exec .pmcHandoverStart s = .next z))

/-- R321, R528 to R549, R555, R556, R564, R666: breadboxes and small cores. -/
def Obligations.BreadboxesAndCoresTakeEffect : Prop :=
  (∀ (s z : State), ({ s with answer := .none } : State) = z →
    (∀ ag on, on = (match ag with | .none => false | .sec | .pmc => true | .sch | .fab => s.domOn 24 | .ccc c => s.domOn (clusterDomain c) | .bdc n => s.domOn (stackDomain n) | .host h f => s.fnPresent h f) →
      exec (.agentStart ag) s = .next (if on = true then z.agentStart ag.num else z)) ∧
    (∀ (ag : Agent) (b : Fin 64) (i : Fin 16) (v : W32), s.csrPath ag (Reg.bbxData b i) 4 = .served →
      (s.boxOpenTo b ag.num = true → exec (.bbxDataWrite ag b i v) s = .next (z.wr (Reg.bbxData b i) (v.setWidth 64))) ∧
      (s.boxOpenTo b ag.num = false → exec (.bbxDataWrite ag b i v) s = .next (z.event 0x808 .none b (agent := ag.num)))) ∧
    (∀ (ag : Agent) (b : Fin 64) (v : W32) (w : W64), v.setWidth 64 = w → s.csrPath ag (Reg.bbxSend b) 4 = .served →
      (bitOf w 0 = false → exec (.bbxSend ag b v) s = .next z) ∧
      (bitOf w 0 = true → s.boxOpenTo b ag.num = true → fld w 5 1 ≤ 16 → exec (.bbxSend ag b v) s = .next (z.boxFill b ag.num (fld w 5 1) (fld w 31 16))) ∧
      (bitOf w 0 = true → (s.boxOpenTo b ag.num = false ∨ 16 < fld w 5 1) → exec (.bbxSend ag b v) s = .next (z.event 0x808 .none b (agent := ag.num)))) ∧
    (∀ (ag : Agent) (b : Fin 64) (v : W32), s.csrPath ag (Reg.bbxStatus b) 4 = .served →
      ((ag.num ≠ boxReceiver b ∨ v.getLsbD 0 = false) → exec (.bbxReceiveClear ag b v) s = .next z) ∧
      (ag.num = boxReceiver b → v.getLsbD 0 = true → (s.boxGo b = true → exec (.bbxReceiveClear ag b v) s = .next (z.boxEmpty b)) ∧
        (s.boxGo b = false → exec (.bbxReceiveClear ag b v) s = .next (z.wrF (Reg.bbxStatus b) 2 1 0)))) ∧
    (∀ (ag : Agent) (b : Fin 64), s.csrPath ag (Reg.bbxLock b) 4 = .served →
      (boxShared b = false → exec (.bbxLockRead ag b) s = .next { s with answer := .data 0 }) ∧
      (boxShared b = true → s.boxOwner b = 0 → ag.num < 256 → ∃ t, exec (.bbxLockRead ag b) s = .next t ∧ t.answer = .data 0 ∧ t.boxOwner b = ag.num ∧ (∀ a, a ≠ Reg.bbxStatus b → t.rd a = s.rd a) ∧ t.mem = s.mem) ∧
      (boxShared b = true → s.boxOwner b ≠ 0 → exec (.bbxLockRead ag b) s = .next { s with answer := .data (if s.boxOwner b = ag.num then 0 else BitVec.ofNat 64 (s.boxOwner b)) }) ∧
      (∀ v : W32, (boxShared b = true ∧ s.boxOwner b = ag.num ∧ v.toNat % 256 = 0 → exec (.bbxLockRelease ag b v) s = .next (z.wrF (Reg.bbxStatus b) 15 8 0)) ∧
        (¬ (boxShared b = true ∧ s.boxOwner b = ag.num ∧ v.toNat % 256 = 0) → exec (.bbxLockRelease ag b v) s = .next z))) ∧
    (∀ (ag : Agent) (b : Fin 64) (bad : Bool) (u : State), s.csrPath ag (Reg.bbxHdr b) 8 = .served → (if bad then { z with cpBad := z.cpBad.set (Reg.bbxHdr b) true } else z) = u →
      (u.cpOk (Reg.bbxHdr b) = true → exec (.bbxHdrRead ag b bad) s = .next { u with answer := .data (s.rd (Reg.bbxHdr b)) }) ∧
      (u.cpOk (Reg.bbxHdr b) = false → ∀ w : State, (u.wrB (Reg.bbxStatus b) 2 true).event 0x809 .none b (agent := ag.num) = w →
        exec (.bbxHdrRead ag b bad) s = .next { w with answer := .data (w.rd (Reg.bbxHdr b)) })) ∧
    (∀ (p : Fin 4), ((s.boxGo (16 + p) = true ∨ (s.rd (Reg.bbxSigAccLocal p) = 0 ∧ s.rd (Reg.bbxSigAccRemote p) = 0)) → exec (.signalPost p) s = .next z) ∧
      (s.boxGo (16 + p) = false → (s.rd (Reg.bbxSigAccLocal p) ≠ 0 ∨ s.rd (Reg.bbxSigAccRemote p) ≠ 0) → ∀ l r, s.rd (Reg.bbxSigAccLocal p) = l → s.rd (Reg.bbxSigAccRemote p) = r →
        exec (.signalPost p) s = .next (((z.wr (Reg.bbxSigAccLocal p) 0).wr (Reg.bbxSigAccRemote p) 0).boxPost (16 + p) 0 1 [fld l 31 0, fld l 63 32, fld r 31 0, fld r 63 32])) ∧
      (s.boxGo (16 + p) = false → exec (.signalDeliver p) s = .next z) ∧
      (s.boxGo (16 + p) = true → (s.partExists p = false ∨ s.rdB (Reg.hifEmuAccfeat (s.partPort p) (p + 1)) 0 = false) → exec (.signalDeliver p) s = .next (z.boxEmpty (16 + p))) ∧
      (s.boxGo (16 + p) = true → s.partExists p = true → s.rdB (Reg.hifEmuAccfeat (s.partPort p) (p + 1)) 0 = true → ∀ l r : W64, ∀ u v : State, BitVec.ofNat 64 (s.boxData (16 + p) 0 + s.boxData (16 + p) 1 * 2 ^ 32) = l →
        BitVec.ofNat 64 (s.boxData (16 + p) 2 + s.boxData (16 + p) 3 * 2 ^ 32) = r →
        (if l = 0 then z else z.complete (s.partPort p) (p + 1) false { q := 0, id := 0, kind := 1, status := 0, result := l }) = u →
        (if r = 0 then u else u.complete (s.partPort p) (p + 1) false { q := 0, id := 0, kind := 1, status := 1, result := r }) = v → exec (.signalDeliver p) s = .next (v.boxEmpty (16 + p))) ∧
      ((natBit s.pwr.saving p = false ∨ s.seqState p = 6) → exec (.saveTimeout p) s = .next z) ∧
      (natBit s.pwr.saving p = true → s.seqState p ≠ 6 → ∀ u : State, { z with pwr := { z.pwr with saving := z.pwr.saving - 2 ^ p.val, notQuiet := z.pwr.notQuiet ||| 2 ^ p.val } } = u →
        exec (.saveTimeout p) s = .next (if natBit s.pwr.heldBefore p = true then u else setHold p false u))) ∧
    (∀ (h : Fin 2) (host : HostData), ((s.boxHolds (48 + 2 * h) 0x0A01 = false ∨ s.boxGo (48 + 2 * h + 1) = true) → exec (.recorderClearRequest h host) s = .next z) ∧
      (s.boxHolds (48 + 2 * h) 0x0A01 = true → s.boxGo (48 + 2 * h + 1) = false →
        (s.rcd.clearing.isSome = true → exec (.recorderClearRequest h host) s = .next ((z.boxEmpty (48 + 2 * h)).boxPost (48 + 2 * h + 1) 1 0x8A01 [2])) ∧
        (s.rcd.clearing.isSome = false → s.config.record.ownerEnrolled = false → exec (.recorderClearRequest h host) s = .next (((z.clearRecorder h).boxEmpty (48 + 2 * h)).boxPost (48 + 2 * h + 1) 1 0x8A01 [0])) ∧
        (s.rcd.clearing.isSome = false → s.config.record.ownerEnrolled = true → ∀ addr, s.boxData (48 + 2 * h) 0 + s.boxData (48 + 2 * h) 1 * 2 ^ 32 = addr →
          (addr ≠ 0 → host.ok = true → exec (.recorderClearRequest h host) s = .next
            (if s.ownerSigned host.data (asciiBytes "KZN4810-RECCLR" ++ s.nonceBytes ++ leBytes 8 s.fuses.serial.toNat)
              then ((z.clearRecorder h).boxEmpty (48 + 2 * h)).boxPost (48 + 2 * h + 1) 1 0x8A01 [0]
              else ((z.event 0x710 (.hostPort h) h).boxEmpty (48 + 2 * h)).boxPost (48 + 2 * h + 1) 1 0x8A01 [1])) ∧
          (addr = 0 → exec (.recorderClearRequest h host) s = .next (((z.event 0x710 (.hostPort h) h).boxEmpty (48 + 2 * h)).boxPost (48 + 2 * h + 1) 1 0x8A01 [1])) ∧
          (addr ≠ 0 → host.ok = false → exec (.recorderClearRequest h host) s =
            .next ((((z.hostEvent 0x90A h 0 host.reason addr none).event 0x710 (.hostPort h) h).boxEmpty (48 + 2 * h)).boxPost (48 + 2 * h + 1) 1 0x8A01 [1]))))))
  ∧ (∀ (s z : State) (c : Fin 64) (low : BitVec 27), ({ s with answer := .none } : State) = z →
      ∀ r ∈ ([(.cccSelfTest c low, 1, fun s => if s.rdF (Reg.cluCccStatus c) 2 0 = 2 then (s.selfTested c low.toNat, [0, low.toNat]) else (s, [1, 0])),
        (.cccStartImage c, 2, fun s => if s.rdF (Reg.cluCccStatus c) 2 0 = 0 ∨ s.rdF (Reg.cluCccStatus c) 2 0 = 4 then ((s.agentStart (0x10 + c.val)).wrF (Reg.cluCccStatus c) 2 0 2, [0]) else (s, [1])),
        (.cccStop c, 3, fun s => if s.rdF (Reg.cluCccStatus c) 2 0 = 2 then (s.wrF (Reg.cluCccStatus c) 2 0 4, [0]) else (s, [1]))] :
        List (Instr × Nat × (State → State × List Nat))),
      ((s.domOn (clusterDomain c) = false ∨ s.rdB (Reg.cluCccCmd c) 0 = false ∨ s.rdF (Reg.cluCccCmd c) 15 8 ≠ r.2.1 ∨ s.boxFree (32 + c / 4) = false) → exec r.1 s = .next z) ∧
      (s.domOn (clusterDomain c) = true → s.rdB (Reg.cluCccCmd c) 0 = true → s.rdF (Reg.cluCccCmd c) 15 8 = r.2.1 → s.boxFree (32 + c / 4) = true → ∀ u l, r.2.2 (z.wrB (Reg.cluCccCmd c) 0 false) = (u, l) →
        exec r.1 s = .next (u.boxPost (32 + c / 4) (0x10 + c) (0x8000 + r.2.1) l)))
  ∧ (∀ (s z : State) (n : Fin 12) (fails : W64), ({ s with answer := .none } : State) = z →
      ∀ r ∈ ([(.bdcClearFrames n, 0x0101, true, fun s => if 32768 < s.boxData (52 + n.val) 0 + s.boxData (52 + n.val) 1 then (s, [1]) else
          let gs := ((List.range (s.boxData (52 + n.val) 1)).map (fun i => frameNo n (s.boxData (52 + n.val) 0 + i))).filter (fun g => s.stackSide.frames.get g ≠ .lost)
          ((s.each gs (fun s g => s.zeroRange (dpaOfFrame g) 0x200000)).setFrames (gs.filter (fun g => s.stackSide.frames.get g = .clearing)) .free, [0])),
        (.bdcScrub n, 0x0102, true, fun s => (s.scrubStack n, [0])),
        (.bdcTestNative n fails, 0x0103, true, fun s => (s.scrubStack n, [0, fld (fails &&& BitVec.ofNat 64 (nativePcs s.rcd.cycles)) 31 0, fld (fails &&& BitVec.ofNat 64 (nativePcs s.rcd.cycles)) 63 32])),
        (.bdcTestCompat n fails, 0x0104, true, fun s => (s.scrubStack n, [0, fld fails 31 0, fld fails 63 32])),
        (.bdcStartImage n, 0x0105, false, fun s => (if natBit s.fw.bdcWait n then s.takeUnit 6 n else s.agentStart (0x50 + n.val), [0]))] :
        List (Instr × Nat × Bool × (State → State × List Nat))),
      ∀ back, bdcAnswerBox n (s.boxSender (52 + n)) = back →
      ((s.domOn (stackDomain n) = false ∨ s.boxHolds (52 + n) r.2.1 = false ∨ s.boxFree back = false) → exec r.1 s = .next z) ∧
      (s.domOn (stackDomain n) = true → s.boxHolds (52 + n) r.2.1 = true → s.boxFree back = true →
        (s.rdF (Reg.stkStatus n) 2 0 ≤ 1 → exec r.1 s = .next ((z.boxEmpty (52 + n)).boxPost back (0x50 + n) (0x8000 + r.2.1) [1])) ∧
        (2 ≤ s.rdF (Reg.stkStatus n) 2 0 → r.2.2.1 = true → s.baseBusy n = true → exec r.1 s = .next z) ∧
        (2 ≤ s.rdF (Reg.stkStatus n) 2 0 → (r.2.2.1 = false ∨ s.baseBusy n = false) → ∀ u l, r.2.2.2 (z.boxEmpty (52 + n)) = (u, l) → exec r.1 s = .next (u.boxPost back (0x50 + n) (0x8000 + r.2.1) l))))
  ∧ (∀ (s z : State), ({ s with answer := .none } : State) = z →
      (∀ i : Fin 64, s.domOn (clusterDomain i) = true ∧ s.cccMayTake i = true → exec (.unitImageTake false i) s = .next (z.takeUnit 5 i)) ∧
      (∀ i : Fin 64, ¬ (s.domOn (clusterDomain i) = true ∧ s.cccMayTake i = true) → exec (.unitImageTake false i) s = .next z) ∧
      (∀ i : Fin 64, s.domOn (stackDomain i) = true ∧ s.baseBusy i = false ∧ s.stackSide.migs.any (fun g => g.moves.any (fun m => decide (m.src / 32768 = i.val ∨ m.dst / 32768 = i.val))) = false →
        exec (.unitImageTake true i) s = .next (z.takeUnit 6 i)) ∧
      (∀ i : Fin 64, ¬ (s.domOn (stackDomain i) = true ∧ s.baseBusy i = false ∧ s.stackSide.migs.any (fun g => g.moves.any (fun m => decide (m.src / 32768 = i.val ∨ m.dst / 32768 = i.val))) = false) →
        exec (.unitImageTake true i) s = .next z) ∧
      (∀ (ag : Agent) (i : Fin 32768) (v : W64), (ag ≠ .sch → exec (.cccMcastWrite ag i v) s = .next (z.refuseWrite ag)) ∧
        (ag = .sch → exec (.cccMcastWrite ag i v) s = .next (z.each (bitsSet (s.rd Reg.hubCccMcast).toNat 64) (fun t c =>
          if t.domOn (clusterDomain c) = false then t
          else if t.rdF (Reg.cluCccStatus c) 2 0 = 0 ∨ t.rdF (Reg.cluCccStatus c) 2 0 = 4 then t.wr (Reg.cluCccCode c i) v else t.refuseWrite ag)))))

/-- R588 to R598: keys, reports and sealed weights. -/
def Obligations.KeysAndSealedWeightsTakeEffect : Prop :=
  (∀ (h : Fin 2) (f : Fin 5) (host : HostData) (bad : List Nat),
    ∀ r ∈ ([(.attest h f host, id, 0x48, fun s c p =>
        if c.par 8 8 % 4096 ≠ 0 then s.finish h f c 1
        else if s.fuses.lifecycle = 2 then s.finish h f c 6
        else if !(host.ok && host.data.length == 64) then (s.hostFailed h f host.reason (c.par 8 8)).finish h f c 0xF
        else
          let k : EphKey := { draw := Config.freshWord s.fresh, nonce := host.data, digest := s.sec.packages.get p }
          let u : State := { s with fresh := s.fresh + 1 + 1, sec := { s.sec with eph := s.sec.eph.set p (some k) } }
          ((u.hostOut [.write h f (BitVec.ofNat 64 (c.par 8 8)) (fitBytes 7424 (u.reportBytes p k ++ fitBytes 4627 (Config.mldsaSign u.akSeed (u.reportBytes p k) (Config.freshWord (s.fresh + 1))))),
            .write h f (BitVec.ofNat 64 (c.par 8 8 + 0x1D00)) u.certBlock]).event 0x704 .none p (some p)).finish h f c 0 0x1D00),
      (.keyImport h f host bad, fun s => s.mismatches bad, 0x49, fun s c p =>
        if 3 < c.par 8 1 then s.finish h f c 1
        else match s.sec.eph.get p with
          | none => s.finish h f c 6
          | some e =>
            if s.slotState (4 * p + c.par 8 1) ≠ 0 then s.finish h f c 6
            else if !s.handleOwned (.host p) (c.par 9 3) || (List.range 16).any (fun i => i != 4 * p + c.par 8 1 && s.slotState i != 0 && s.slotHandle i == c.par 9 3) then s.finish h f c 4
            else if !(host.ok && host.data.length == 1648) then (s.hostFailed h f host.reason (c.par 16 8)).finish h f c 0xF
            else if s.sec.packages.get p ≠ e.digest then (s.event 0x706 .none (4 * p + c.par 8 1) (some p)).finish h f c 1
            else match unwrapKey e host.data with
              | none => (s.event 0x706 .none (4 * p + c.par 8 1) (some p)).finish h f c 1
              | some m =>
                let u := (s.setSlot (4 * p + c.par 8 1) (setFld (setFld 0 1 0 1) 31 8 (c.par 9 3))).dropEph p
                ((({ u with sec := { u.sec with keys := u.sec.keys.set (4 * p + c.par 8 1) (some m), chunks := u.sec.chunks.set (4 * p + c.par 8 1) [] } } : State).seal (c.par 9 3)).event 0x705 .none
                  (4 * p + c.par 8 1) (some p)).finish h f c 0),
      (.sealLoad h f bad, fun s => s.mismatches bad, 0x4A, fun s c p =>
        if 3 < c.par 8 1 ∨ 1 < c.par 9 1 ∨ c.par 16 4 = 0 ∨ c.par 32 8 % 4096 ≠ 0 ∨ 2 ^ 20 ≤ c.par 20 4 then s.finish h f c 1
        else if s.slotState (4 * p + c.par 8 1) ≠ 1 ∨ (s.sec.loads.get (4 * p + c.par 8 1)).isSome then s.finish h f c 6
        else
          let u := ({ s with sec := { s.sec with loads := s.sec.loads.set (4 * p + c.par 8 1) (some { fn := fnKey h f, entry := c.entry, next := c.par 12 4 }) } } : State).updRouter (fun r => { r with
            sealData := r.sealData.filter (fun x => x.1 ≠ 4 * p + c.par 8 1)
            sealFailed := r.sealFailed.filter (· ≠ 4 * p + c.par 8 1) })
          (if c.par 9 1 = 1 then u.sealAsk c p (4 * p + c.par 8 1) (c.par 12 4) 0 4096 else u).setStage h f c .running),
      (.keyClear h f, id, 0x4B, fun s c p => if 3 < c.par 8 1 then s.finish h f c 1 else (s.emptySlot (4 * p + c.par 8 1)).finish h f c 0)] :
      List (Instr × (State → State) × Nat × (State → HostCmd → Nat → State))),
    ∀ s z : State, ({ r.2.1 s with answer := .none } : State) = z →
      (z.startedCmd h f r.2.2.1 (fun _ => true) = none → exec r.1 s = .next z) ∧
      (∀ c, z.startedCmd h f r.2.2.1 (fun _ => true) = some c → f.val ≠ 0 →
        (∀ p, z.fnPart h f = some p → z.mapOk = true → exec r.1 s = .next (r.2.2.2 z c p)) ∧
        ((z.fnPart h f = none ∨ z.mapOk = false) → exec r.1 s = .next z)))
  ∧ (∀ (h : Fin 2) (f : Fin 5) (host : HostData) (s z : State), ({ s with answer := .none } : State) = z →
      (((s.fn h f).cmds.find? (fun c => c.stage = .running ∧ c.op = 0x4A) = none ∨ s.fnPart h f = none) → exec (.sealChunkDone h f host) s = .next z) ∧
      (∀ c p k, (s.fn h f).cmds.find? (fun c => c.stage = .running ∧ c.op = 0x4A) = some c → s.fnPart h f = some p → 4 * p + c.par 8 1 = k →
        (s.sec.loads.get k = none → exec (.sealChunkDone h f host) s = .next (z.finish h f c 6)) ∧
        (∀ l, s.sec.loads.get k = some l → (l.fn ≠ fnKey h f ∨ l.entry ≠ c.entry) → exec (.sealChunkDone h f host) s = .next (z.finish h f c 6)) ∧
        (∀ l, s.sec.loads.get k = some l → l.fn = fnKey h f → l.entry = c.entry →
          (c.par 9 1 = 0 → host.ok = true → exec (.sealChunkDone h f host) s = .next (z.sealChunk h f p k l.next c host.data)) ∧
          (c.par 9 1 = 0 → host.ok = false → exec (.sealChunkDone h f host) s =
            .next ((z.hostFailed h f host.reason (c.par 32 8 + (l.next - c.par 12 4) * recordStride)).sealFail h f p k l.next 0x400000 c 0xF)) ∧
          (c.par 9 1 ≠ 0 → s.router.sealFailed.contains k = true → exec (.sealChunkDone h f host) s = .next (z.sealFail h f p k l.next 0x400000 c 1)) ∧
          (c.par 9 1 ≠ 0 → s.router.sealFailed.contains k = false → s.sealBytes k 4096 = none → exec (.sealChunkDone h f host) s = .next z) ∧
          (c.par 9 1 ≠ 0 → s.router.sealFailed.contains k = false → ∀ hd, s.sealBytes k 4096 = some hd →
            ((bodyNat hd 0 4 ≠ 0x4B5A5345 ∨ bodyNat hd 8 4 % 4096 ≠ 0 ∨ 0x400000 < bodyNat hd 8 4) → exec (.sealChunkDone h f host) s = .next (z.sealChunk h f p k l.next c hd)) ∧
            (bodyNat hd 0 4 = 0x4B5A5345 → bodyNat hd 8 4 % 4096 = 0 → bodyNat hd 8 4 ≤ 0x400000 →
              (∀ b, s.sealBytes k (4096 + bodyNat hd 8 4) = some b → exec (.sealChunkDone h f host) s = .next (z.sealChunk h f p k l.next c b)) ∧
              (s.sealBytes k (4096 + bodyNat hd 8 4) = none → ∀ asked busy, s.send (sendKey (c.par 20 3 % 2 ^ 20) 1) = asked →
                (asked.queue.any (fun j => decide (j.owner = .seal k)) || asked.txns.any (fun t => decide (t.job.owner = .seal k))) = busy →
                exec (.sealChunkDone h f host) s = .next (if busy = true then z else z.sealAsk c p k l.next 4096 (bodyNat hd 8 4))))))))
  ∧ (∀ (h : Fin 2) (st : Fin 6) (s z : State), ({ s with answer := .none } : State) = z →
      (s.fnPresent h 0 = false → exec (.ideKeyProgram h st) s = .next z) ∧
      (s.fnPresent h 0 = true → exec (.ideKeyProgram h st) s = .next
        (({ z with sec := { z.sec with ideKeys := z.sec.ideKeys.upd (8 * h.val + st.val) (· + 1) } } : State).event 0x70C (.hostPort h) st)))

/-- R653, R658, R660, R662, R663, R664: what the recorder's commands do. -/
def Obligations.RecorderKeepsItsRing : Prop :=
  (∀ r : Record, (r.words.foldl (· + ·) 0) % 2 ^ 32 = 0 ∧ r.words.length = 8) ∧
  (∀ (s : State), s.rcd.queue = [] → exec .eventRecord s = .next s) ∧
  (∀ (s : State) (q : QueuedEvent) (rest : List QueuedEvent), s.rcd.queue = q :: rest → ∃ t : State, exec .eventRecord s = .next t ∧
    t.rcd.queue = rest ∧ t.csr = s.csr ∧ t.mem = s.mem ∧ t.host = s.host ∧ (q.ev.name = 0x70F → t.rcd.clearing = none) ∧ (q.ev.name ≠ 0x70F → t.rcd.clearing = s.rcd.clearing) ∧
    (∀ (l : Record) (old : List Record), s.rcd.ring = old ++ [l] → l.ev = q.ev → (s.rcd.crust = none → ∀ x ∈ old, x.seq ≠ l.seq) →
      t.rcd.ring = old ++ [{ l with repeats := min 0xFFFF (l.repeats + 1) }] ∧ t.rcd.nextSeq = s.rcd.nextSeq) ∧
    ((∀ (l : Record) (old : List Record), s.rcd.ring = old ++ [l] → l.ev ≠ q.ev) → (∀ x ∈ s.rcd.ring, x.seq ≠ s.rcd.nextSeq) →
      t.rcd.ring = (if s.rcd.ring.length < 16384 then s.rcd.ring else s.rcd.ring.drop (s.rcd.ring.length - 16383)) ++
        [{ ev := q.ev, repeats := 0, time := q.time, cycle := s.rcd.cycles, seq := s.rcd.nextSeq }] ∧ t.rcd.ring.length ≤ 16384 ∧
      t.rcd.nextSeq = (if s.rcd.nextSeq = 0xFFFFFFFE then 0 else (s.rcd.nextSeq + 1) % 0xFFFFFFFF) ∧ t.rcd.nextSeq < 0xFFFFFFFF)) ∧
  (∀ s : State, (s.rcd.lostSince = 0 ∨ 256 ≤ s.rcd.queue.length) → exec .lostEventsReport s = .next s) ∧
  (∀ s : State, s.rcd.lostSince ≠ 0 → s.rcd.queue.length < 256 → ∃ t : State, exec .lostEventsReport s = .next t ∧ t.rcd.lostSince = 0 ∧ t.rcd.lost = s.rcd.lost ∧
    t.rcd.queue = s.rcd.queue ++ [⟨{ name := 0xA0E, detail := BitVec.ofNat 64 (s.rcd.lostSince % 2 ^ 32 + s.rcd.lost * 2 ^ 32) }, s.rcd.opTime⟩] ∧ t.csr = s.csr ∧ t.mem = s.mem) ∧
  (∀ s : State,
    ∃ t : State, exec .recordFlashSync s = .next t ∧ t.rcd.ring = s.rcd.ring ∧ t.rcd.flash = s.rcd.ring ∧ t.rcd.queue = s.rcd.queue ∧ t.csr = s.csr ∧ t.mem = s.mem) ∧
  (∀ s : State, ∃ t : State, exec .faultHistoryWrite s = .next t ∧ t.rcd.history = s.rcd.history ∧ t.csr = s.csr ∧ t.mem = s.mem ∧
    (s.rcd.copyA.seq ≤ s.rcd.copyB.seq → t.rcd.copyA = { seq := s.rcd.copyB.seq + 1, times := s.rcd.history } ∧ t.rcd.copyB = s.rcd.copyB) ∧
    (s.rcd.copyB.seq < s.rcd.copyA.seq → t.rcd.copyB = { seq := s.rcd.copyA.seq + 1, times := s.rcd.history } ∧ t.rcd.copyA = s.rcd.copyA) ∧
    t.rcd.historyFromFlash = s.rcd.history) ∧
  (∀ s : State, s.pwr.vaux = false → exec .operatingHourMark s = .next { s with answer := .none }) ∧
  (∀ s : State, s.pwr.vaux = true → ∃ t : State, exec .operatingHourMark s = .next t ∧ t.rcd.opTime = (s.rcd.lastWrite + 3600) % 2 ^ 40 ∧ t.csr = s.csr ∧ t.mem = s.mem ∧
    (s.rcd.queue.length < 256 → ∃ d : W64, t.rcd.queue = s.rcd.queue ++ [⟨{ name := 0xA0D, detail := d }, (s.rcd.lastWrite + 3600) % 2 ^ 40⟩])) ∧
  (∀ (s : State) (ag : Agent) (w : Fin 6) (v : W32), ∃ t : State, exec (.recCursorWrite ag w v) s = .next t ∧ (∀ a, a ≠ Reg.recCursor w → t.rd a = s.rd a) ∧ t.rcd = s.rcd ∧ t.mem = s.mem ∧
    (readerWindow ag = some w.val → t.rd (Reg.recCursor w) = v.setWidth 64) ∧ (readerWindow ag ≠ some w.val → t = s))

end
end

