-- ==== Sys2Proof/Laws/Answer.lean ====
section
/-!
SUPPORT. The answer port is an output: what the model reads of a state does not depend on the answer that stands on it.
-/
namespace Sys2Proof.Machine

@[simp] theorem State.answer_rd (s : State) (ans : Answer) (a : Nat) :
  State.rd { s with answer := ans } a = State.rd s a := rfl
@[simp] theorem State.answer_rdF (s : State) (ans : Answer) (a hi lo : Nat) :
  State.rdF { s with answer := ans } a hi lo = State.rdF s a hi lo := rfl
@[simp] theorem State.answer_rdB (s : State) (ans : Answer) (a i : Nat) :
  State.rdB { s with answer := ans } a i = State.rdB s a i := rfl
@[simp] theorem State.answer_domOn (s : State) (ans : Answer) (i : Nat) :
  State.domOn { s with answer := ans } i = State.domOn s i := rfl
@[simp] theorem State.answer_clusterOut (s : State) (ans : Answer) (c : Nat) :
  State.clusterOut { s with answer := ans } c = State.clusterOut s c := rfl
@[simp] theorem State.answer_csrPath (s : State) (ans : Answer) (ag : Agent) (a width : Nat) :
  State.csrPath { s with answer := ans } ag a width = State.csrPath s ag a width := rfl
@[simp] theorem State.answer_cpOk (s : State) (ans : Answer) (a : Nat) :
  State.cpOk { s with answer := ans } a = State.cpOk s a := rfl
@[simp] theorem State.answer_recStatus (s : State) (ans : Answer) (owner : Bool) :
  State.recStatus { s with answer := ans } owner = State.recStatus s owner := rfl
@[simp] theorem State.answer_recOldest (s : State) (ans : Answer) :
  State.recOldest { s with answer := ans } = State.recOldest s := rfl
@[simp] theorem State.answer_recOptime (s : State) (ans : Answer) :
  State.recOptime { s with answer := ans } = State.recOptime s := rfl
@[simp] theorem State.answer_readNat (s : State) (ans : Answer) (a n : Nat) :
  State.readNat { s with answer := ans } a n = State.readNat s a n := rfl
@[simp] theorem State.answer_readBytes (s : State) (ans : Answer) (a n : Nat) :
  State.readBytes { s with answer := ans } a n = State.readBytes s a n := rfl
@[simp] theorem State.answer_tileDead (s : State) (ans : Answer) (t : Nat) :
  State.tileDead { s with answer := ans } t = State.tileDead s t := rfl
@[simp] theorem State.answer_tileDiff (s : State) (ans : Answer) (t : Nat) :
  State.tileDiff { s with answer := ans } t = State.tileDiff s t := rfl
@[simp] theorem State.answer_tileFails (s : State) (ans : Answer) (t : Nat) :
  State.tileFails { s with answer := ans } t = State.tileFails s t := rfl
@[simp] theorem State.answer_extentFails (s : State) (ans : Answer) (a n : Nat) :
  State.extentFails { s with answer := ans } a n = State.extentFails s a n := rfl
@[simp] theorem State.answer_descUsable (s : State) (ans : Answer) (x : Nat) :
  State.descUsable { s with answer := ans } x = State.descUsable s x := rfl
@[simp] theorem State.answer_handleOwned (s : State) (ans : Answer) (u : HandleUser) (h : Nat) :
  State.handleOwned { s with answer := ans } u h = State.handleOwned s u h := rfl
@[simp] theorem State.answer_handleAccess (s : State) (ans : Answer) (u : HandleUser) (h : Nat) (write : Bool) :
  State.handleAccess { s with answer := ans } u h write = State.handleAccess s u h write := rfl
@[simp] theorem State.answer_handleBytes (s : State) (ans : Answer) (h : Nat) :
  State.handleBytes { s with answer := ans } h = State.handleBytes s h := rfl
@[simp] theorem State.answer_handleOk (s : State) (ans : Answer) (u : HandleUser) (h off len : Nat) (write : Bool) :
  State.handleOk { s with answer := ans } u h off len write = State.handleOk s u h off len write := rfl
@[simp] theorem State.answer_slabOf (s : State) (ans : Answer) (h off : Nat) :
  State.slabOf { s with answer := ans } h off = State.slabOf s h off := rfl
@[simp] theorem State.answer_uncoreOn (s : State) (ans : Answer) (d : Nat) :
  State.uncoreOn { s with answer := ans } d = State.uncoreOn s d := rfl
@[simp] theorem State.answer_stackServes (s : State) (ans : Answer) (n : Nat) :
  State.stackServes { s with answer := ans } n = State.stackServes s n := rfl
@[simp] theorem State.answer_slabDpa (s : State) (ans : Answer) (h off : Nat) :
  State.slabDpa { s with answer := ans } h off = State.slabDpa s h off := rfl
@[simp] theorem State.answer_translate (s : State) (ans : Answer) (h off : Nat) :
  State.translate { s with answer := ans } h off = State.translate s h off := rfl
@[simp] theorem State.answer_handleRead (s : State) (ans : Answer) (h off n : Nat) :
  State.handleRead { s with answer := ans } h off n = State.handleRead s h off n := rfl
@[simp] theorem State.answer_seq (s : State) (ans : Answer) (q : Nat) :
  State.seq { s with answer := ans } q = State.seq s q := rfl
@[simp] theorem State.answer_gang (s : State) (ans : Answer) (q : Nat) :
  State.gang { s with answer := ans } q = State.gang s q := rfl
@[simp] theorem State.answer_leadOf (s : State) (ans : Answer) (d : Nat) :
  State.leadOf { s with answer := ans } d = State.leadOf s d := rfl
@[simp] theorem State.answer_partOfDie (s : State) (ans : Answer) (d : Nat) :
  State.partOfDie { s with answer := ans } d = State.partOfDie s d := rfl
@[simp] theorem State.answer_seqState (s : State) (ans : Answer) (q : Nat) :
  State.seqState { s with answer := ans } q = State.seqState s q := rfl
@[simp] theorem State.answer_stepOf (s : State) (ans : Answer) (q : Nat) :
  State.stepOf { s with answer := ans } q = State.stepOf s q := rfl
@[simp] theorem State.answer_pcOf (s : State) (ans : Answer) (q : Nat) :
  State.pcOf { s with answer := ans } q = State.pcOf s q := rfl
@[simp] theorem State.answer_sreg (s : State) (ans : Answer) (q r : Nat) :
  State.sreg { s with answer := ans } q r = State.sreg s q r := rfl
@[simp] theorem State.answer_greg (s : State) (ans : Answer) (q g : Nat) :
  State.greg { s with answer := ans } q g = State.greg s q g := rfl
@[simp] theorem State.answer_physCluster (s : State) (ans : Answer) (q u : Nat) :
  State.physCluster { s with answer := ans } q u = State.physCluster s q u := rfl
@[simp] theorem State.answer_selClusters (s : State) (ans : Answer) (q gmode gsel : Nat) :
  State.selClusters { s with answer := ans } q gmode gsel = State.selClusters s q gmode gsel := rfl
@[simp] theorem State.answer_instances (s : State) (ans : Answer) (q : Nat) (sl : Slot) :
  State.instances { s with answer := ans } q sl = State.instances s q sl := rfl
@[simp] theorem State.answer_place (s : State) (ans : Answer) (q : Nat) (ord : Order) (u k o : Nat) :
  State.place { s with answer := ans } q ord u k o = State.place s q ord u k o := rfl
@[simp] theorem State.answer_fn (s : State) (ans : Answer) (h f : Nat) :
  State.fn { s with answer := ans } h f = State.fn s h f := rfl
@[simp] theorem State.answer_hport (s : State) (ans : Answer) (h : Nat) :
  State.hport { s with answer := ans } h = State.hport s h := rfl
@[simp] theorem State.answer_partExists (s : State) (ans : Answer) (p : Nat) :
  State.partExists { s with answer := ans } p = State.partExists s p := rfl
@[simp] theorem State.answer_partPort (s : State) (ans : Answer) (p : Nat) :
  State.partPort { s with answer := ans } p = State.partPort s p := rfl
@[simp] theorem State.answer_fnPart (s : State) (ans : Answer) (h f : Nat) :
  State.fnPart { s with answer := ans } h f = State.fnPart s h f := rfl
@[simp] theorem State.answer_fnPresent (s : State) (ans : Answer) (h f : Nat) :
  State.fnPresent { s with answer := ans } h f = State.fnPresent s h f := rfl
@[simp] theorem State.answer_vfHeld (s : State) (ans : Answer) (part : Nat) :
  State.vfHeld { s with answer := ans } part = State.vfHeld s part := rfl
@[simp] theorem State.answer_dieIn (s : State) (ans : Answer) (p d : Nat) :
  State.dieIn { s with answer := ans } p d = State.dieIn s p d := rfl
@[simp] theorem State.answer_ownsStack (s : State) (ans : Answer) (p n : Nat) :
  State.ownsStack { s with answer := ans } p n = State.ownsStack s p n := rfl
@[simp] theorem State.answer_partDies (s : State) (ans : Answer) (p : Nat) :
  State.partDies { s with answer := ans } p = State.partDies s p := rfl
@[simp] theorem State.answer_pcFree (s : State) (ans : Answer) (n p : Nat) :
  State.pcFree { s with answer := ans } n p = State.pcFree s n p := rfl
@[simp] theorem State.answer_pcOpen (s : State) (ans : Answer) (n p : Nat) :
  State.pcOpen { s with answer := ans } n p = State.pcOpen s n p := rfl
@[simp] theorem State.answer_stackOpen (s : State) (ans : Answer) (n : Nat) :
  State.stackOpen { s with answer := ans } n = State.stackOpen s n := rfl
@[simp] theorem State.answer_stackPooled (s : State) (ans : Answer) (n : Nat) :
  State.stackPooled { s with answer := ans } n = State.stackPooled s n := rfl
@[simp] theorem State.answer_slabFrame (s : State) (ans : Answer) (y : Nat) :
  State.slabFrame { s with answer := ans } y = State.slabFrame s y := rfl
@[simp] theorem State.answer_validDescs (s : State) (ans : Answer) :
  State.validDescs { s with answer := ans } = State.validDescs s := rfl
@[simp] theorem State.answer_descSlabs (s : State) (ans : Answer) (x : Nat) :
  State.descSlabs { s with answer := ans } x = State.descSlabs s x := rfl
@[simp] theorem State.answer_descBase (s : State) (ans : Answer) (x : Nat) :
  State.descBase { s with answer := ans } x = State.descBase s x := rfl
@[simp] theorem State.answer_descStripe (s : State) (ans : Answer) (x : Nat) :
  State.descStripe { s with answer := ans } x = State.descStripe s x := rfl
@[simp] theorem State.answer_descAlign (s : State) (ans : Answer) (x : Nat) :
  State.descAlign { s with answer := ans } x = State.descAlign s x := rfl
@[simp] theorem State.answer_descPart (s : State) (ans : Answer) (x : Nat) :
  State.descPart { s with answer := ans } x = State.descPart s x := rfl
@[simp] theorem State.answer_descHandle (s : State) (ans : Answer) (x : Nat) :
  State.descHandle { s with answer := ans } x = State.descHandle s x := rfl
@[simp] theorem State.answer_slabsOf (s : State) (ans : Answer) (x : Nat) :
  State.slabsOf { s with answer := ans } x = State.slabsOf s x := rfl
@[simp] theorem State.answer_slabOwner (s : State) (ans : Answer) (y : Nat) :
  State.slabOwner { s with answer := ans } y = State.slabOwner s y := rfl
@[simp] theorem State.answer_groupOf (s : State) (ans : Answer) (x : Nat) :
  State.groupOf { s with answer := ans } x = State.groupOf s x := rfl
@[simp] theorem State.answer_groupSlabs (s : State) (ans : Answer) (x k : Nat) :
  State.groupSlabs { s with answer := ans } x k = State.groupSlabs s x k := rfl
@[simp] theorem State.answer_pcRetired (s : State) (ans : Answer) (a : Nat) :
  State.pcRetired { s with answer := ans } a = State.pcRetired s a := rfl
@[simp] theorem State.answer_resolve (s : State) (ans : Answer) (u : HandleUser) (h off len : Nat) (write : Bool) :
  State.resolve { s with answer := ans } u h off len write = State.resolve s u h off len write := rfl
@[simp] theorem State.answer_extentOk (s : State) (ans : Answer) (u : HandleUser) (h off n : Nat) (write : Bool) :
  State.extentOk { s with answer := ans } u h off n write = State.extentOk s u h off n write := rfl
@[simp] theorem State.answer_lineAnswer (s : State) (ans : Answer) (a n : Nat) :
  State.lineAnswer { s with answer := ans } a n = State.lineAnswer s a n := rfl
@[simp] theorem State.answer_choosePc (s : State) (ans : Answer) (n : Nat) (taken : List Nat) :
  State.choosePc { s with answer := ans } n taken = State.choosePc s n taken := rfl
@[simp] theorem State.answer_chooseStack (s : State) (ans : Answer) (part n : Nat) :
  State.chooseStack { s with answer := ans } part n = State.chooseStack s part n := rfl
@[simp] theorem State.answer_freeFrames (s : State) (ans : Answer) (n p : Nat) :
  State.freeFrames { s with answer := ans } n p = State.freeFrames s n p := rfl
@[simp] theorem State.answer_takeFrame (s : State) (ans : Answer) (n p pick : Nat) :
  State.takeFrame { s with answer := ans } n p pick = State.takeFrame s n p pick := rfl
@[simp] theorem State.answer_running (s : State) (ans : Answer) (q : Nat) :
  State.running { s with answer := ans } q = State.running s q := rfl
@[simp] theorem State.answer_canStop (s : State) (ans : Answer) (q : Nat) :
  State.canStop { s with answer := ans } q = State.canStop s q := rfl
@[simp] theorem State.answer_frameCount (s : State) (ans : Answer) (q : Nat) :
  State.frameCount { s with answer := ans } q = State.frameCount s q := rfl
@[simp] theorem State.answer_pageReady (s : State) (ans : Answer) (q p : Nat) :
  State.pageReady { s with answer := ans } q p = State.pageReady s q p := rfl
@[simp] theorem State.answer_loadPage (s : State) (ans : Answer) (q p : Nat) :
  State.loadPage { s with answer := ans } q p = State.loadPage s q p := rfl
@[simp] theorem State.answer_imageNat (s : State) (ans : Answer) (q off n : Nat) :
  State.imageNat { s with answer := ans } q off n = State.imageNat s q off n := rfl
@[simp] theorem State.answer_imageWord (s : State) (ans : Answer) (q off : Nat) :
  State.imageWord { s with answer := ans } q off = State.imageWord s q off := rfl
@[simp] theorem State.answer_recordWord (s : State) (ans : Answer) (q off i : Nat) :
  State.recordWord { s with answer := ans } q off i = State.recordWord s q off i := rfl
@[simp] theorem State.answer_recordOk (s : State) (ans : Answer) (q cls off : Nat) :
  State.recordOk { s with answer := ans } q cls off = State.recordOk s q cls off := rfl
@[simp] theorem State.answer_controlOrder (s : State) (ans : Answer) (q : Nat) (sl : Slot) (o : Order) :
  State.controlOrder { s with answer := ans } q sl o = State.controlOrder s q sl o := rfl
@[simp] theorem State.answer_stallCause (s : State) (ans : Answer) (q : Nat) :
  State.stallCause { s with answer := ans } q = State.stallCause s q := rfl
@[simp] theorem State.answer_port (s : State) (ans : Answer) (p : Nat) :
  State.port { s with answer := ans } p = State.port s p := rfl
@[simp] theorem State.answer_lstate (s : State) (ans : Answer) (p : Nat) :
  State.lstate { s with answer := ans } p = State.lstate s p := rfl
@[simp] theorem State.answer_portUp (s : State) (ans : Answer) (p : Nat) :
  State.portUp { s with answer := ans } p = State.portUp s p := rfl
@[simp] theorem State.answer_planEntry (s : State) (ans : Answer) (p : Nat) :
  State.planEntry { s with answer := ans } p = State.planEntry s p := rfl
@[simp] theorem State.answer_fabricUp (s : State) (ans : Answer) (p : Nat) :
  State.fabricUp { s with answer := ans } p = State.fabricUp s p := rfl
@[simp] theorem State.answer_node (s : State) (ans : Answer) :
  State.node { s with answer := ans } = State.node s := rfl
@[simp] theorem State.answer_nodeValid (s : State) (ans : Answer) :
  State.nodeValid { s with answer := ans } = State.nodeValid s := rfl
@[simp] theorem State.answer_accountUnits (s : State) (ans : Answer) (p acc : Nat) :
  State.accountUnits { s with answer := ans } p acc = State.accountUnits s p acc := rfl
@[simp] theorem State.answer_credit (s : State) (ans : Answer) (p acc n : Nat) :
  State.credit { s with answer := ans } p acc n = State.credit s p acc n := rfl
@[simp] theorem State.answer_isHn (s : State) (ans : Answer) (p : Nat) :
  State.isHn { s with answer := ans } p = State.isHn s p := rfl
@[simp] theorem State.answer_hnPlen (s : State) (ans : Answer) (p : Nat) :
  State.hnPlen { s with answer := ans } p = State.hnPlen s p := rfl
@[simp] theorem State.answer_hnEntry (s : State) (ans : Answer) (dst : Nat) :
  State.hnEntry { s with answer := ans } dst = State.hnEntry s dst := rfl
@[simp] theorem State.answer_destPlen (s : State) (ans : Answer) (dst : Nat) :
  State.destPlen { s with answer := ans } dst = State.destPlen s dst := rfl
@[simp] theorem State.answer_domainOf (s : State) (ans : Answer) (part : Nat) :
  State.domainOf { s with answer := ans } part = State.domainOf s part := rfl
@[simp] theorem State.answer_circuits (s : State) (ans : Answer) :
  State.circuits { s with answer := ans } = State.circuits s := rfl
@[simp] theorem State.answer_dirPorts (s : State) (ans : Answer) (d : Nat) :
  State.dirPorts { s with answer := ans } d = State.dirPorts s d := rfl
@[simp] theorem State.answer_planRoute (s : State) (ans : Answer) (pl : RoutePlan) (n : Nat) :
  State.planRoute { s with answer := ans } pl n = State.planRoute s pl n := rfl
@[simp] theorem State.answer_inactiveBank (s : State) (ans : Answer) :
  State.inactiveBank { s with answer := ans } = State.inactiveBank s := rfl
@[simp] theorem State.answer_dmxPart (s : State) (ans : Answer) (q : Nat) (sl : Slot) (r : Nat) (i : Nat × Nat) :
  State.dmxPart { s with answer := ans } q sl r i = State.dmxPart s q sl r i := rfl
@[simp] theorem State.answer_dmxJobs (s : State) (ans : Answer) (q op tok : Nat) (part : DmxPart) :
  State.dmxJobs { s with answer := ans } q op tok part = State.dmxJobs s q op tok part := rfl
@[simp] theorem State.answer_callWord (s : State) (ans : Answer) (n e w : Nat) :
  State.callWord { s with answer := ans } n e w = State.callWord s n e w := rfl
@[simp] theorem State.answer_callProgram (s : State) (ans : Answer) (n e : Nat) :
  State.callProgram { s with answer := ans } n e = State.callProgram s n e := rfl
@[simp] theorem State.answer_callSlots (s : State) (ans : Answer) (n e : Nat) :
  State.callSlots { s with answer := ans } n e = State.callSlots s n e := rfl
@[simp] theorem State.answer_callSlot (s : State) (ans : Answer) (n e i : Nat) :
  State.callSlot { s with answer := ans } n e i = State.callSlot s n e i := rfl
@[simp] theorem State.answer_callConst (s : State) (ans : Answer) (n e c : Nat) :
  State.callConst { s with answer := ans } n e c = State.callConst s n e c := rfl
@[simp] theorem State.answer_maskStacks (s : State) (ans : Answer) (q mask : Nat) :
  State.maskStacks { s with answer := ans } q mask = State.maskStacks s q mask := rfl
@[simp] theorem State.answer_tileStack (s : State) (ans : Answer) (h t : Nat) :
  State.tileStack { s with answer := ans } h t = State.tileStack s h t := rfl
@[simp] theorem State.answer_triggerArgs (s : State) (ans : Answer) (q r : Nat) :
  State.triggerArgs { s with answer := ans } q r = State.triggerArgs s q r := rfl
@[simp] theorem State.answer_unitItem (s : State) (ans : Answer) (n v : Nat) :
  State.unitItem { s with answer := ans } n v = State.unitItem s n v := rfl
@[simp] theorem State.answer_generates (s : State) (ans : Answer) (n e : Nat) :
  State.generates { s with answer := ans } n e = State.generates s n e := rfl
@[simp] theorem State.answer_codeWord (s : State) (ans : Answer) (n i : Nat) :
  State.codeWord { s with answer := ans } n i = State.codeWord s n i := rfl
@[simp] theorem State.answer_baseMigrates (s : State) (ans : Answer) (n : Nat) :
  State.baseMigrates { s with answer := ans } n = State.baseMigrates s n := rfl
@[simp] theorem State.answer_callItems (s : State) (ans : Answer) (n : Nat) (c : BaseCall) :
  State.callItems { s with answer := ans } n c = State.callItems s n c := rfl
@[simp] theorem State.answer_boxGo (s : State) (ans : Answer) (b : Nat) :
  State.boxGo { s with answer := ans } b = State.boxGo s b := rfl
@[simp] theorem State.answer_boxOwner (s : State) (ans : Answer) (b : Nat) :
  State.boxOwner { s with answer := ans } b = State.boxOwner s b := rfl
@[simp] theorem State.answer_boxWakes (s : State) (ans : Answer) (a : Nat) :
  State.boxWakes { s with answer := ans } a = State.boxWakes s a := rfl
@[simp] theorem State.answer_boxData (s : State) (ans : Answer) (b i : Nat) :
  State.boxData { s with answer := ans } b i = State.boxData s b i := rfl
@[simp] theorem State.answer_boxType (s : State) (ans : Answer) (b : Nat) :
  State.boxType { s with answer := ans } b = State.boxType s b := rfl
@[simp] theorem State.answer_boxSender (s : State) (ans : Answer) (b : Nat) :
  State.boxSender { s with answer := ans } b = State.boxSender s b := rfl
@[simp] theorem State.answer_boxHolds (s : State) (ans : Answer) (b ty : Nat) :
  State.boxHolds { s with answer := ans } b ty = State.boxHolds s b ty := rfl
@[simp] theorem State.answer_seqSlotOk (s : State) (ans : Answer) (q pc next : Nat) (sl : Slot) :
  State.seqSlotOk { s with answer := ans } q pc next sl = State.seqSlotOk s q pc next sl := rfl
@[simp] theorem State.answer_controlOk (s : State) (ans : Answer) (q : Nat) (sl : Slot) :
  State.controlOk { s with answer := ans } q sl = State.controlOk s q sl := rfl
@[simp] theorem State.answer_slotOk (s : State) (ans : Answer) (q pc next : Nat) (sl : Slot) :
  State.slotOk { s with answer := ans } q pc next sl = State.slotOk s q pc next sl := rfl
@[simp] theorem State.answer_slotKeys (s : State) (ans : Answer) (q : Nat) (sl : Slot) :
  State.slotKeys { s with answer := ans } q sl = State.slotKeys s q sl := rfl
@[simp] theorem State.answer_offenders (s : State) (ans : Answer) (q pc next : Nat) (sls : List Slot) :
  State.offenders { s with answer := ans } q pc next sls = State.offenders s q pc next sls := rfl
@[simp] theorem State.answer_firstOffender (s : State) (ans : Answer) (q pc next : Nat) (sls : List Slot) :
  State.firstOffender { s with answer := ans } q pc next sls = State.firstOffender s q pc next sls := rfl
@[simp] theorem State.answer_illegalAt (s : State) (ans : Answer) (q : Nat) (sl : Slot) :
  State.illegalAt { s with answer := ans } q sl = State.illegalAt s q sl := rfl
@[simp] theorem State.answer_bundleAtPc (s : State) (ans : Answer) (q pc : Nat) :
  State.bundleAtPc { s with answer := ans } q pc = State.bundleAtPc s q pc := rfl
@[simp] theorem State.answer_missingPage (s : State) (ans : Answer) (q pc : Nat) :
  State.missingPage { s with answer := ans } q pc = State.missingPage s q pc := rfl
@[simp] theorem State.answer_bundleDue (s : State) (ans : Answer) (q : Nat) :
  State.bundleDue { s with answer := ans } q = State.bundleDue s q := rfl
@[simp] theorem State.answer_clusterUsable (s : State) (ans : Answer) (c : Nat) :
  State.clusterUsable { s with answer := ans } c = State.clusterUsable s c := rfl
@[simp] theorem State.answer_usableOf (s : State) (ans : Answer) (d : Nat) :
  State.usableOf { s with answer := ans } d = State.usableOf s d := rfl
@[simp] theorem State.answer_dieFloorOk (s : State) (ans : Answer) (d : Nat) :
  State.dieFloorOk { s with answer := ans } d = State.dieFloorOk s d := rfl
@[simp] theorem State.answer_gangFit (s : State) (ans : Answer) (q : Nat) :
  State.gangFit { s with answer := ans } q = State.gangFit s q := rfl
@[simp] theorem State.answer_bindingOk (s : State) (ans : Answer) (d : Nat) (l : List Nat) :
  State.bindingOk { s with answer := ans } d l = State.bindingOk s d l := rfl
@[simp] theorem State.answer_rebind (s : State) (ans : Answer) (d : Nat) :
  State.rebind { s with answer := ans } d = State.rebind s d := rfl
@[simp] theorem State.answer_boundIndex (s : State) (ans : Answer) (c : Nat) :
  State.boundIndex { s with answer := ans } c = State.boundIndex s c := rfl
@[simp] theorem State.answer_bindingLocked (s : State) (ans : Answer) (d : Nat) :
  State.bindingLocked { s with answer := ans } d = State.bindingLocked s d := rfl
@[simp] theorem State.answer_quiescent (s : State) (ans : Answer) (q : Nat) :
  State.quiescent { s with answer := ans } q = State.quiescent s q := rfl
@[simp] theorem State.answer_storeImage (s : State) (ans : Answer) (q : Nat) :
  State.storeImage { s with answer := ans } q = State.storeImage s q := rfl
@[simp] theorem State.answer_regionImage (s : State) (ans : Answer) (q : Nat) :
  State.regionImage { s with answer := ans } q = State.regionImage s q := rfl
@[simp] theorem State.answer_savedStores (s : State) (ans : Answer) (q : Nat) (ctx : Context Seq) :
  State.savedStores { s with answer := ans } q ctx = State.savedStores s q ctx := rfl
@[simp] theorem State.answer_ready (s : State) (ans : Answer) :
  State.ready { s with answer := ans } = State.ready s := rfl
@[simp] theorem State.answer_fstate (s : State) (ans : Answer) (h f : Nat) :
  State.fstate { s with answer := ans } h f = State.fstate s h f := rfl
@[simp] theorem State.answer_queue (s : State) (ans : Answer) (h f q : Nat) :
  State.queue { s with answer := ans } h f q = State.queue s h f q := rfl
@[simp] theorem State.answer_cplQueue (s : State) (ans : Answer) (h f : Nat) (c : Completion) :
  State.cplQueue { s with answer := ans } h f c = State.cplQueue s h f c := rfl
@[simp] theorem State.answer_cplFits (s : State) (ans : Answer) (h f : Nat) (c : Completion) :
  State.cplFits { s with answer := ans } h f c = State.cplFits s h f c := rfl
@[simp] theorem State.answer_startedCmd (s : State) (ans : Answer) (h f op : Nat) (ok : HostCmd → Bool) :
  State.startedCmd { s with answer := ans } h f op ok = State.startedCmd s h f op ok := rfl
@[simp] theorem State.answer_mapOk (s : State) (ans : Answer) :
  State.mapOk { s with answer := ans } = State.mapOk s := rfl
@[simp] theorem State.answer_cmdEnd (s : State) (ans : Answer) (h f : Nat) (c : HostCmd) :
  State.cmdEnd { s with answer := ans } h f c = State.cmdEnd s h f c := rfl
@[simp] theorem State.answer_capEntry (s : State) (ans : Answer) (h i : Nat) :
  State.capEntry { s with answer := ans } h i = State.capEntry s h i := rfl
@[simp] theorem State.answer_unconsumed (s : State) (ans : Answer) (h : Nat) :
  State.unconsumed { s with answer := ans } h = State.unconsumed s h := rfl
@[simp] theorem State.answer_liveMask (s : State) (ans : Answer) (h f : Nat) :
  State.liveMask { s with answer := ans } h f = State.liveMask s h f := rfl
@[simp] theorem State.answer_orphanBytes (s : State) (ans : Answer) (h f : Nat) :
  State.orphanBytes { s with answer := ans } h f = State.orphanBytes s h f := rfl
@[simp] theorem State.answer_fnQuiet (s : State) (ans : Answer) (h f : Nat) :
  State.fnQuiet { s with answer := ans } h f = State.fnQuiet s h f := rfl
@[simp] theorem State.answer_slotState (s : State) (ans : Answer) (k : Nat) :
  State.slotState { s with answer := ans } k = State.slotState s k := rfl
@[simp] theorem State.answer_slotHandle (s : State) (ans : Answer) (k : Nat) :
  State.slotHandle { s with answer := ans } k = State.slotHandle s k := rfl
@[simp] theorem State.answer_hubOk (s : State) (ans : Answer) (u : HandleUser) (h off n : Nat) (write : Bool) :
  State.hubOk { s with answer := ans } u h off n write = State.hubOk s u h off n write := rfl
@[simp] theorem State.answer_boxOpenTo (s : State) (ans : Answer) (b a : Nat) :
  State.boxOpenTo { s with answer := ans } b a = State.boxOpenTo s b a := rfl
@[simp] theorem State.answer_nonceWord (s : State) (ans : Answer) (i : Nat) :
  State.nonceWord { s with answer := ans } i = State.nonceWord s i := rfl
@[simp] theorem State.answer_nonceBytes (s : State) (ans : Answer) :
  State.nonceBytes { s with answer := ans } = State.nonceBytes s := rfl
@[simp] theorem State.answer_ownerSigned (s : State) (ans : Answer) (blk msg : List Byte) :
  State.ownerSigned { s with answer := ans } blk msg = State.ownerSigned s blk msg := rfl
@[simp] theorem State.answer_slotBytes (s : State) (ans : Answer) (x : Nat) :
  State.slotBytes { s with answer := ans } x = State.slotBytes s x := rfl
@[simp] theorem State.answer_activeSlot (s : State) (ans : Answer) :
  State.activeSlot { s with answer := ans } = State.activeSlot s := rfl
@[simp] theorem State.answer_cccMayTake (s : State) (ans : Answer) (c : Nat) :
  State.cccMayTake { s with answer := ans } c = State.cccMayTake s c := rfl
@[simp] theorem State.answer_portReady (s : State) (ans : Answer) (p : Nat) :
  State.portReady { s with answer := ans } p = State.portReady s p := rfl
@[simp] theorem State.answer_mayTrain (s : State) (ans : Answer) (p : Nat) :
  State.mayTrain { s with answer := ans } p = State.mayTrain s p := rfl
@[simp] theorem State.answer_modselLow (s : State) (ans : Answer) (p : Nat) :
  State.modselLow { s with answer := ans } p = State.modselLow s p := rfl
@[simp] theorem State.answer_neighbourFits (s : State) (ans : Answer) (p : Nat) (f : Lldp) :
  State.neighbourFits { s with answer := ans } p f = State.neighbourFits s p f := rfl
@[simp] theorem State.answer_portCircuit (s : State) (ans : Answer) (p : Nat) :
  State.portCircuit { s with answer := ans } p = State.portCircuit s p := rfl
@[simp] theorem State.answer_quietAble (s : State) (ans : Answer) (p : Nat) :
  State.quietAble { s with answer := ans } p = State.quietAble s p := rfl
@[simp] theorem State.answer_cluWord (s : State) (ans : Answer) (c : Nat) :
  State.cluWord { s with answer := ans } c = State.cluWord s c := rfl
@[simp] theorem State.answer_stkWord (s : State) (ans : Answer) (n : Nat) :
  State.stkWord { s with answer := ans } n = State.stkWord s n := rfl
@[simp] theorem State.answer_portWord (s : State) (ans : Answer) (p : Nat) :
  State.portWord { s with answer := ans } p = State.portWord s p := rfl
@[simp] theorem State.answer_floorSummary (s : State) (ans : Answer) :
  State.floorSummary { s with answer := ans } = State.floorSummary s := rfl
@[simp] theorem State.answer_floorBytes (s : State) (ans : Answer) :
  State.floorBytes { s with answer := ans } = State.floorBytes s := rfl
@[simp] theorem State.answer_pcFused (s : State) (ans : Answer) (n : Nat) :
  State.pcFused { s with answer := ans } n = State.pcFused s n := rfl
@[simp] theorem State.answer_descWriteOk (s : State) (ans : Answer) (x j : Nat) (v : W64) :
  State.descWriteOk { s with answer := ans } x j v = State.descWriteOk s x j v := rfl
@[simp] theorem State.answer_groupHeat (s : State) (ans : Answer) (win : Nat → W64) (ys : List Nat) (o : Nat) :
  State.groupHeat { s with answer := ans } win ys o = State.groupHeat s win ys o := rfl
@[simp] theorem State.answer_groupTotal (s : State) (ans : Answer) (win : Nat → W64) (ys : List Nat) :
  State.groupTotal { s with answer := ans } win ys = State.groupTotal s win ys := rfl
@[simp] theorem State.answer_driftDie (s : State) (ans : Answer) (win : Nat → W64) (part own : Nat) (ys : List Nat) :
  State.driftDie { s with answer := ans } win part own ys = State.driftDie s win part own ys := rfl
@[simp] theorem State.answer_pcBusy (s : State) (ans : Answer) (win : Nat → W64) (n p : Nat) :
  State.pcBusy { s with answer := ans } win n p = State.pcBusy s win n p := rfl
@[simp] theorem State.answer_frameTotal (s : State) (ans : Answer) (win : Nat → W64) (owner : Nat → Option (Nat × Nat)) (g : Nat) :
  State.frameTotal { s with answer := ans } win owner g = State.frameTotal s win owner g := rfl
@[simp] theorem State.answer_frameOwners (s : State) (ans : Answer) :
  State.frameOwners { s with answer := ans } = State.frameOwners s := rfl
@[simp] theorem State.answer_evaluate (s : State) (ans : Answer) (n : Nat) :
  State.evaluate { s with answer := ans } n = State.evaluate s n := rfl
@[simp] theorem State.answer_drains (s : State) (ans : Answer) (y : Nat) :
  State.drains { s with answer := ans } y = State.drains s y := rfl
@[simp] theorem State.answer_baseRuns (s : State) (ans : Answer) (n part : Nat) :
  State.baseRuns { s with answer := ans } n part = State.baseRuns s n part := rfl
@[simp] theorem State.answer_slotsOpen (s : State) (ans : Answer) (n m : Nat) :
  State.slotsOpen { s with answer := ans } n m = State.slotsOpen s n m := rfl
@[simp] theorem State.answer_drainCan (s : State) (ans : Answer) (x k : Nat) :
  State.drainCan { s with answer := ans } x k = State.drainCan s x k := rfl
@[simp] theorem State.answer_drainFirst (s : State) (ans : Answer) (n m : Nat) :
  State.drainFirst { s with answer := ans } n m = State.drainFirst s n m := rfl
@[simp] theorem State.answer_migStack (s : State) (ans : Answer) (x k n : Nat) (drain : Bool) (c : Option Candidate) :
  State.migStack { s with answer := ans } x k n drain c = State.migStack s x k n drain c := rfl
@[simp] theorem State.answer_lanePcs (s : State) (ans : Answer) (x k n : Nat) :
  State.lanePcs { s with answer := ans } x k n = State.lanePcs s x k n := rfl
@[simp] theorem State.answer_coolPc (s : State) (ans : Answer) (n : Nat) (taken : List Nat) :
  State.coolPc { s with answer := ans } n taken = State.coolPc s n taken := rfl
@[simp] theorem State.answer_mayFetch (s : State) (ans : Answer) (h f : Nat) :
  State.mayFetch { s with answer := ans } h f = State.mayFetch s h f := rfl
@[simp] theorem State.answer_updState (s : State) (ans : Answer) :
  State.updState { s with answer := ans } = State.updState s := rfl
@[simp] theorem State.answer_compState (s : State) (ans : Answer) (k : Nat) :
  State.compState { s with answer := ans } k = State.compState s k := rfl
@[simp] theorem State.answer_emergencyNow (s : State) (ans : Answer) :
  State.emergencyNow { s with answer := ans } = State.emergencyNow s := rfl
@[simp] theorem State.answer_mayHandOver (s : State) (ans : Answer) (k : Nat) :
  State.mayHandOver { s with answer := ans } k = State.mayHandOver s k := rfl
@[simp] theorem State.answer_recv (s : State) (ans : Answer) (key : Nat) :
  State.recv { s with answer := ans } key = State.recv s key := rfl
@[simp] theorem State.answer_send (s : State) (ans : Answer) (key : Nat) :
  State.send { s with answer := ans } key = State.send s key := rfl
@[simp] theorem State.answer_sharesFit (s : State) (ans : Answer) (total reserve : Nat) (use : Nat → Nat) :
  State.sharesFit { s with answer := ans } total reserve use = State.sharesFit s total reserve use := rfl
@[simp] theorem State.answer_homeDie (s : State) (ans : Answer) (P src dst cls : Nat) :
  State.homeDie { s with answer := ans } P src dst cls = State.homeDie s P src dst cls := rfl
@[simp] theorem State.answer_sendHome (s : State) (ans : Answer) (P key : Nat) :
  State.sendHome { s with answer := ans } P key = State.sendHome s P key := rfl
@[simp] theorem State.answer_recvHome (s : State) (ans : Answer) (P key : Nat) :
  State.recvHome { s with answer := ans } P key = State.recvHome s P key := rfl
@[simp] theorem State.answer_homeUsed (s : State) (ans : Answer) (d : Nat) :
  State.homeUsed { s with answer := ans } d = State.homeUsed s d := rfl
@[simp] theorem State.answer_homeOpen (s : State) (ans : Answer) (cls d : Nat) :
  State.homeOpen { s with answer := ans } cls d = State.homeOpen s cls d := rfl
@[simp] theorem State.answer_repliesOf (s : State) (ans : Answer) (P : Nat) :
  State.repliesOf { s with answer := ans } P = State.repliesOf s P := rfl
@[simp] theorem State.answer_replyOpen (s : State) (ans : Answer) (P : Nat) :
  State.replyOpen { s with answer := ans } P = State.replyOpen s P := rfl
@[simp] theorem State.answer_earlyOf (s : State) (ans : Answer) (P : Nat) :
  State.earlyOf { s with answer := ans } P = State.earlyOf s P := rfl
@[simp] theorem State.answer_earlyOpen (s : State) (ans : Answer) (P n : Nat) :
  State.earlyOpen { s with answer := ans } P n = State.earlyOpen s P n := rfl
@[simp] theorem State.answer_domainPart (s : State) (ans : Answer) (d : Nat) :
  State.domainPart { s with answer := ans } d = State.domainPart s d := rfl
@[simp] theorem State.answer_clx (s : State) (ans : Answer) (q : Nat) :
  State.clx { s with answer := ans } q = State.clx s q := rfl
@[simp] theorem State.answer_grp0 (s : State) (ans : Answer) (q g : Nat) :
  State.grp0 { s with answer := ans } q g = State.grp0 s q g := rfl
@[simp] theorem State.answer_grp1 (s : State) (ans : Answer) (q g : Nat) :
  State.grp1 { s with answer := ans } q g = State.grp1 s q g := rfl
@[simp] theorem State.answer_grpK (s : State) (ans : Answer) (q g : Nat) :
  State.grpK { s with answer := ans } q g = State.grpK s q g := rfl
@[simp] theorem State.answer_grpPeer (s : State) (ans : Answer) (q g j : Nat) :
  State.grpPeer { s with answer := ans } q g j = State.grpPeer s q g j := rfl
@[simp] theorem State.answer_clxProg (s : State) (ans : Answer) (q x : Nat) :
  State.clxProg { s with answer := ans } q x = State.clxProg s q x := rfl
@[simp] theorem State.answer_clxNow (s : State) (ans : Answer) (q : Nat) (r : ClxRun) :
  State.clxNow { s with answer := ans } q r = State.clxNow s q r := rfl
@[simp] theorem State.answer_outCircuit (s : State) (ans : Answer) (m g : Nat) (down : Bool) :
  State.outCircuit { s with answer := ans } m g down = State.outCircuit s m g down := rfl
@[simp] theorem State.answer_clxStaged (s : State) (ans : Answer) (q : Nat) (t : ClxTile) :
  State.clxStaged { s with answer := ans } q t = State.clxStaged s q t := rfl
@[simp] theorem State.answer_clxWhen (s : State) (ans : Answer) (q g number phase : Nat) :
  State.clxWhen { s with answer := ans } q g number phase = State.clxWhen s q g number phase := rfl
@[simp] theorem State.answer_slabExtents (s : State) (ans : Answer) :
  State.slabExtents { s with answer := ans } = State.slabExtents s := rfl
@[simp] theorem State.answer_findRun (s : State) (ans : Answer) (n pick : Nat) :
  State.findRun { s with answer := ans } n pick = State.findRun s n pick := rfl
@[simp] theorem State.answer_findDesc (s : State) (ans : Answer) (pick : Nat) :
  State.findDesc { s with answer := ans } pick = State.findDesc s pick := rfl
@[simp] theorem State.answer_goodBytes (s : State) (ans : Answer) (h off n : Nat) :
  State.goodBytes { s with answer := ans } h off n = State.goodBytes s h off n := rfl
@[simp] theorem State.answer_headerOk (s : State) (ans : Answer) (part h pkg : Nat) (hd : List Byte) :
  State.headerOk { s with answer := ans } part h pkg hd = State.headerOk s part h pkg hd := rfl
@[simp] theorem State.answer_pinsOk (s : State) (ans : Answer) (dies : List Nat) (g : Package) :
  State.pinsOk { s with answer := ans } dies g = State.pinsOk s dies g := rfl
@[simp] theorem State.answer_checkPackage (s : State) (ans : Answer) (part h pkg : Nat) :
  State.checkPackage { s with answer := ans } part h pkg = State.checkPackage s part h pkg := rfl
@[simp] theorem State.answer_packageDigest (s : State) (ans : Answer) (h pkg : Nat) (g : Package) :
  State.packageDigest { s with answer := ans } h pkg g = State.packageDigest s h pkg g := rfl
@[simp] theorem State.answer_axisHops (s : State) (ans : Answer) (dir dst : Nat) :
  State.axisHops { s with answer := ans } dir dst = State.axisHops s dir dst := rfl
@[simp] theorem State.answer_mcastJob (s : State) (ans : Answer) (dst : Nat) (j : NetJob) :
  State.mcastJob { s with answer := ans } dst j = State.mcastJob s dst j := rfl
@[simp] theorem State.answer_askedJob (s : State) (ans : Answer) (dst cls : Nat) (j : NetJob) :
  State.askedJob { s with answer := ans } dst cls j = State.askedJob s dst cls j := rfl
@[simp] theorem State.answer_replyDie (s : State) (ans : Answer) (j : NetJob) :
  State.replyDie { s with answer := ans } j = State.replyDie s j := rfl
@[simp] theorem State.answer_replyReserved (s : State) (ans : Answer) (d : Nat) :
  State.replyReserved { s with answer := ans } d = State.replyReserved s d := rfl
@[simp] theorem State.answer_replyRoom (s : State) (ans : Answer) (j : NetJob) :
  State.replyRoom { s with answer := ans } j = State.replyRoom s j := rfl
@[simp] theorem State.answer_measBytes (s : State) (ans : Answer) (k : Nat) :
  State.measBytes { s with answer := ans } k = State.measBytes s k := rfl
@[simp] theorem State.answer_akSeed (s : State) (ans : Answer) :
  State.akSeed { s with answer := ans } = State.akSeed s := rfl
@[simp] theorem State.answer_weightDigest (s : State) (ans : Answer) (k : Nat) :
  State.weightDigest { s with answer := ans } k = State.weightDigest s k := rfl
@[simp] theorem State.answer_regBytes (s : State) (ans : Answer) (a n : Nat) :
  State.regBytes { s with answer := ans } a n = State.regBytes s a n := rfl
@[simp] theorem State.answer_reportBytes (s : State) (ans : Answer) (p : Nat) (k : EphKey) :
  State.reportBytes { s with answer := ans } p k = State.reportBytes s p k := rfl
@[simp] theorem State.answer_certBlock (s : State) (ans : Answer) :
  State.certBlock { s with answer := ans } = State.certBlock s := rfl
@[simp] theorem State.answer_sealBytes (s : State) (ans : Answer) (k n : Nat) :
  State.sealBytes { s with answer := ans } k n = State.sealBytes s k n := rfl
@[simp] theorem State.answer_sealHeaderOk (s : State) (ans : Answer) (k i : Nat) (b : List Byte) :
  State.sealHeaderOk { s with answer := ans } k i b = State.sealHeaderOk s k i b := rfl
@[simp] theorem State.answer_sealOpen (s : State) (ans : Answer) (k i : Nat) (b : List Byte) :
  State.sealOpen { s with answer := ans } k i b = State.sealOpen s k i b := rfl
@[simp] theorem State.answer_boxFree (s : State) (ans : Answer) (b : Nat) :
  State.boxFree { s with answer := ans } b = State.boxFree s b := rfl
@[simp] theorem State.answer_baseBusy (s : State) (ans : Answer) (n : Nat) :
  State.baseBusy { s with answer := ans } n = State.baseBusy s n := rfl
@[simp] theorem State.answer_limitNow (s : State) (ans : Answer) :
  State.limitNow { s with answer := ans } = State.limitNow s := rfl
@[simp] theorem State.answer_budgetOf (s : State) (ans : Answer) (p : Nat) :
  State.budgetOf { s with answer := ans } p = State.budgetOf s p := rfl
@[simp] theorem State.answer_partState (s : State) (ans : Answer) (p : Nat) :
  State.partState { s with answer := ans } p = State.partState s p := rfl
@[simp] theorem State.answer_ownsJob (s : State) (ans : Answer) (p : Nat) (j : NetJob) :
  State.ownsJob { s with answer := ans } p j = State.ownsJob s p j := rfl
@[simp] theorem State.answer_partQuiet (s : State) (ans : Answer) (p : Nat) :
  State.partQuiet { s with answer := ans } p = State.partQuiet s p := rfl
@[simp] theorem State.answer_createStatus (s : State) (ans : Answer) (mask port : Nat) :
  State.createStatus { s with answer := ans } mask port = State.createStatus s mask port := rfl
@[simp] theorem State.answer_waiting (s : State) (ans : Answer) (src : Nat) :
  State.waiting { s with answer := ans } src = State.waiting s src := rfl
@[simp] theorem State.answer_headPacket (s : State) (ans : Answer) (src i : Nat) :
  State.headPacket { s with answer := ans } src i = State.headPacket s src i := rfl
@[simp] theorem State.answer_creditFor (s : State) (ans : Answer) (p : Nat) (x : QPkt) :
  State.creditFor { s with answer := ans } p x = State.creditFor s p x := rfl
@[simp] theorem State.answer_leastQueued (s : State) (ans : Answer) (ps : List Nat) :
  State.leastQueued { s with answer := ans } ps = State.leastQueued s ps := rfl
@[simp] theorem State.answer_routeEntry (s : State) (ans : Answer) (n : Nat) :
  State.routeEntry { s with answer := ans } n = State.routeEntry s n := rfl
@[simp] theorem State.answer_chooseOut (s : State) (ans : Answer) (e : W64) (x : QPkt) :
  State.chooseOut { s with answer := ans } e x = State.chooseOut s e x := rfl
@[simp] theorem State.answer_mcastDir (s : State) (ans : Answer) (src : Nat) (x : QPkt) :
  State.mcastDir { s with answer := ans } src x = State.mcastDir s src x := rfl
@[simp] theorem State.answer_crossesWrap (s : State) (ans : Answer) (d : Nat) :
  State.crossesWrap { s with answer := ans } d = State.crossesWrap s d := rfl
@[simp] theorem State.answer_mcastConsumes (s : State) (ans : Answer) (p : Packet) :
  State.mcastConsumes { s with answer := ans } p = State.mcastConsumes s p := rfl
@[simp] theorem State.answer_mcastRoute (s : State) (ans : Answer) (src : Nat) (x : QPkt) :
  State.mcastRoute { s with answer := ans } src x = State.mcastRoute s src x := rfl
@[simp] theorem State.answer_hnRoute (s : State) (ans : Answer) (x : QPkt) :
  State.hnRoute { s with answer := ans } x = State.hnRoute s x := rfl
@[simp] theorem State.answer_routeOf (s : State) (ans : Answer) (src : Nat) (x : QPkt) :
  State.routeOf { s with answer := ans } src x = State.routeOf s src x := rfl
@[simp] theorem State.answer_portAlive (s : State) (ans : Answer) (p : Nat) :
  State.portAlive { s with answer := ans } p = State.portAlive s p := rfl
@[simp] theorem State.answer_inGroup (s : State) (ans : Answer) (p : Nat) (q : Packet) :
  State.inGroup { s with answer := ans } p q = State.inGroup s p q := rfl
@[simp] theorem State.answer_hasRoom (s : State) (ans : Answer) (p : Nat) (x : QPkt) :
  State.hasRoom { s with answer := ans } p x = State.hasRoom s p x := rfl
@[simp] theorem State.answer_sendOrder (s : State) (ans : Answer) (p : Nat) (below : List Nat) :
  State.sendOrder { s with answer := ans } p below = State.sendOrder s p below := rfl
@[simp] theorem State.answer_hnFrame (s : State) (ans : Answer) (p : Nat) (x : QPkt) :
  State.hnFrame { s with answer := ans } p x = State.hnFrame s p x := rfl
@[simp] theorem State.answer_hnMaySend (s : State) (ans : Answer) (p : Nat) :
  State.hnMaySend { s with answer := ans } p = State.hnMaySend s p := rfl
@[simp] theorem State.answer_lldp (s : State) (ans : Answer) (p : Nat) :
  State.lldp { s with answer := ans } p = State.lldp s p := rfl
@[simp] theorem State.answer_hnAccepts (s : State) (ans : Answer) (p : Nat) (f : HnFrame) (good : Bool) :
  State.hnAccepts { s with answer := ans } p f good = State.hnAccepts s p f good := rfl
@[simp] theorem State.answer_stepDone (s : State) (ans : Answer) (k : Nat) :
  State.stepDone { s with answer := ans } k = State.stepDone s k := rfl
@[simp] theorem State.answer_bootStep (s : State) (ans : Answer) :
  State.bootStep { s with answer := ans } = State.bootStep s := rfl
@[simp] theorem State.answer_bootPhase (s : State) (ans : Answer) :
  State.bootPhase { s with answer := ans } = State.bootPhase s := rfl
@[simp] theorem State.answer_bootMode (s : State) (ans : Answer) :
  State.bootMode { s with answer := ans } = State.bootMode s := rfl
@[simp] theorem State.answer_powered (s : State) (ans : Answer) :
  State.powered { s with answer := ans } = State.powered s := rfl
@[simp] theorem State.answer_mainOn (s : State) (ans : Answer) :
  State.mainOn { s with answer := ans } = State.mainOn s := rfl
@[simp] theorem State.answer_linksSettled (s : State) (ans : Answer) :
  State.linksSettled { s with answer := ans } = State.linksSettled s := rfl
@[simp] theorem State.answer_clxSizesOk (s : State) (ans : Answer) (q : Nat) (g : ClxProg) (x : ClxPhase × Nat × Nat) :
  State.clxSizesOk { s with answer := ans } q g x = State.clxSizesOk s q g x := rfl
@[simp] theorem State.answer_clxExtents (s : State) (ans : Answer) (q : Nat) (g : ClxProg) (args : List W64) (x : ClxPhase × Nat × Nat) :
  State.clxExtents { s with answer := ans } q g args x = State.clxExtents s q g args x := rfl
@[simp] theorem State.answer_clxPacketDirs (s : State) (ans : Answer) (m g : Nat) :
  State.clxPacketDirs { s with answer := ans } m g = State.clxPacketDirs s m g := rfl
@[simp] theorem State.answer_clxLaneChunk (s : State) (ans : Answer) (q m peer : Nat) (down : Bool) :
  State.clxLaneChunk { s with answer := ans } q m peer down = State.clxLaneChunk s q m peer down := rfl
@[simp] theorem State.answer_clxNamed (s : State) (ans : Answer) (m g : Nat) :
  State.clxNamed { s with answer := ans } m g = State.clxNamed s m g := rfl
@[simp] theorem State.answer_flowHeld (s : State) (ans : Answer) (key : Nat) :
  State.flowHeld { s with answer := ans } key = State.flowHeld s key := rfl
@[simp] theorem State.answer_heldOpen (s : State) (ans : Answer) :
  State.heldOpen { s with answer := ans } = State.heldOpen s := rfl
@[simp] theorem State.answer_heelAccess (s : State) (ans : Answer) (c : RecvCtx) (P : Nat) (p : Packet) :
  State.heelAccess { s with answer := ans } c P p = State.heelAccess s c P p := rfl
@[simp] theorem State.answer_txnOf (s : State) (ans : Answer) (p : Packet) :
  State.txnOf { s with answer := ans } p = State.txnOf s p := rfl
@[simp] theorem State.answer_regWord (s : State) (ans : Answer) (a : Nat) :
  State.regWord { s with answer := ans } a = State.regWord s a := rfl
@[simp] theorem State.answer_rankStack (s : State) (ans : Answer) (p r : Nat) :
  State.rankStack { s with answer := ans } p r = State.rankStack s p r := rfl
@[simp] theorem State.answer_rankCluster (s : State) (ans : Answer) (p u : Nat) :
  State.rankCluster { s with answer := ans } p u = State.rankCluster s p u := rfl
@[simp] theorem State.answer_floorView (s : State) (ans : Answer) (p o : Nat) :
  State.floorView { s with answer := ans } p o = State.floorView s p o := rfl
@[simp] theorem State.answer_readValue (s : State) (ans : Answer) (ag : Agent) (d : RegDef) (a : Nat) :
  State.readValue { s with answer := ans } ag d a = State.readValue s ag d a := rfl
@[simp] theorem State.answer_stackPath (s : State) (ans : Answer) (ag : Agent) (a width : Nat) :
  State.stackPath { s with answer := ans } ag a width = State.stackPath s ag a width := rfl
@[simp] theorem State.answer_storeOpen (s : State) (ans : Answer) (c : Nat) :
  State.storeOpen { s with answer := ans } c = State.storeOpen s c := rfl
@[simp] theorem State.answer_storePath (s : State) (ans : Answer) (ag : Agent) (a width : Nat) :
  State.storePath { s with answer := ans } ag a width = State.storePath s ag a width := rfl
@[simp] theorem State.answer_activeRoute (s : State) (ans : Answer) (a : Nat) :
  State.activeRoute { s with answer := ans } a = State.activeRoute s a := rfl
@[simp] theorem State.answer_role (s : State) (ans : Answer) :
  State.role { s with answer := ans } = State.role s := rfl
@[simp] theorem State.answer_fmTerm (s : State) (ans : Answer) :
  State.fmTerm { s with answer := ans } = State.fmTerm s := rfl
@[simp] theorem State.answer_primaryKnown (s : State) (ans : Answer) :
  State.primaryKnown { s with answer := ans } = State.primaryKnown s := rfl
@[simp] theorem State.answer_standbyKnown (s : State) (ans : Answer) :
  State.standbyKnown { s with answer := ans } = State.standbyKnown s := rfl
@[simp] theorem State.answer_mgmtPacket (s : State) (ans : Answer) (dst : Nat) (m : Mgmt) :
  State.mgmtPacket { s with answer := ans } dst m = State.mgmtPacket s dst m := rfl
@[simp] theorem State.answer_responseFirst (s : State) (ans : Answer) (type : Nat) :
  State.responseFirst { s with answer := ans } type = State.responseFirst s type := rfl
@[simp] theorem State.answer_queryBody (s : State) (ans : Answer) :
  State.queryBody { s with answer := ans } = State.queryBody s := rfl
@[simp] theorem State.answer_electBody (s : State) (ans : Answer) :
  State.electBody { s with answer := ans } = State.electBody s := rfl
@[simp] theorem State.answer_reach (s : State) (ans : Answer) (pl : Option RoutePlan) (d : FmDevice) (type : Nat) (body : List Byte) :
  State.reach { s with answer := ans } pl d type body = State.reach s pl d type body := rfl
@[simp] theorem State.answer_layMachine (s : State) (ans : Answer) :
  State.layMachine { s with answer := ans } = State.layMachine s := rfl
@[simp] theorem State.answer_toAll (s : State) (ans : Answer) (pl : Option RoutePlan) (type : Nat) (body : List Byte) :
  State.toAll { s with answer := ans } pl type body = State.toAll s pl type body := rfl
@[simp] theorem State.answer_writeMsgs (s : State) (ans : Answer) (pl : RoutePlan) (ws : List (Nat × List Byte)) :
  State.writeMsgs { s with answer := ans } pl ws = State.writeMsgs s pl ws := rfl
@[simp] theorem State.answer_reqDevice (s : State) (ans : Answer) (r : MgmtReq) :
  State.reqDevice { s with answer := ans } r = State.reqDevice s r := rfl
@[simp] theorem State.answer_treeDirs (s : State) (ans : Answer) (arrival : Nat) :
  State.treeDirs { s with answer := ans } arrival = State.treeDirs s arrival := rfl
@[simp] theorem State.answer_planCarve (s : State) (ans : Answer) (b : List Byte) :
  State.planCarve { s with answer := ans } b = State.planCarve s b := rfl
@[simp] theorem State.answer_partSensors (s : State) (ans : Answer) (p : Nat) :
  State.partSensors { s with answer := ans } p = State.partSensors s p := rfl
@[simp] theorem State.answer_stateAsked (s : State) (ans : Answer) (req : Nat) :
  State.stateAsked { s with answer := ans } req = State.stateAsked s req := rfl
@[simp] theorem State.answer_stateBlocked (s : State) (ans : Answer) (needs : Nat) :
  State.stateBlocked { s with answer := ans } needs = State.stateBlocked s needs := rfl
@[simp] theorem State.answer_defaultBinds (s : State) (ans : Answer) (q : Nat) :
  State.defaultBinds { s with answer := ans } q = State.defaultBinds s q := rfl
@[simp] theorem State.answer_unsaved (s : State) (ans : Answer) :
  State.unsaved { s with answer := ans } = State.unsaved s := rfl
@[simp] theorem State.answer_wakeEnabled (s : State) (ans : Answer) (w : WakeSource) :
  State.wakeEnabled { s with answer := ans } w = State.wakeEnabled s w := rfl
@[simp] theorem State.answer_resetAsked (s : State) (ans : Answer) (type : Nat) :
  State.resetAsked { s with answer := ans } type = State.resetAsked s type := rfl
@[simp] theorem State.answer_resetTarget (s : State) (ans : Answer) :
  State.resetTarget { s with answer := ans } = State.resetTarget s := rfl
@[simp] theorem State.answer_clusterResetOk (s : State) (ans : Answer) (c : Nat) :
  State.clusterResetOk { s with answer := ans } c = State.clusterResetOk s c := rfl

end Sys2Proof.Machine
end

