-- ==== Sys2Proof/Laws/Table.lean ====
section
/-!
SUPPORT. The laws of sparse tables: what each operation reads as, and that each keeps the canonical form.
-/
namespace Sys2Proof.Machine

variable {α : Type}

/-! ### The canonical form as a property of the entries -/

/-- The canonical form: keys rise strictly and no entry is the default value. -/
def Tbl.Canonical [Inhabited α] (m : Tbl α) : Prop :=
  m.Pairwise (fun a b => a.1 < b.1) ∧ ∀ e ∈ m, e.2 ≠ default

theorem Tbl.wf_iff_canonical [Inhabited α] [DecidableEq α] (m : Tbl α) : m.wf = true ↔ m.Canonical := by
  induction m with
  | nil => simp [Tbl.wf, Tbl.Canonical]
  | cons a m ih =>
    cases m with
    | nil => obtain ⟨k, v⟩ := a; simp [Tbl.wf, Tbl.Canonical]
    | cons b m =>
      obtain ⟨k, v⟩ := a
      obtain ⟨k', v'⟩ := b
      have hw : Tbl.wf ((k, v) :: (k', v') :: m) = (decide (v ≠ default) && decide (k < k') && Tbl.wf ((k', v') :: m)) := rfl
      rw [hw, Bool.and_eq_true, Bool.and_eq_true, ih]
      simp only [Tbl.Canonical, List.pairwise_cons, decide_eq_true_eq]
      constructor
      · rintro ⟨⟨h1, h2⟩, ⟨h3, h4⟩, h5⟩
        refine ⟨⟨?_, h3, h4⟩, ?_⟩
        · intro x hx
          rcases List.mem_cons.1 hx with rfl | hx
          · exact h2
          · exact Nat.lt_trans h2 (h3 x hx)
        · intro e he
          rcases List.mem_cons.1 he with rfl | he
          · exact h1
          · exact h5 e he
      · rintro ⟨⟨h1, h2, h3⟩, h4⟩
        exact ⟨⟨h4 _ List.mem_cons_self, h1 _ List.mem_cons_self⟩, ⟨h2, h3⟩, fun e he => h4 e (List.mem_cons_of_mem _ he)⟩

/-! ### What a read sees -/

@[simp] theorem Tbl.get_nil [Inhabited α] (i : Nat) : Tbl.get ([] : Tbl α) i = default := rfl

theorem Tbl.get_cons [Inhabited α] (e : Nat × α) (m : Tbl α) (i : Nat) :
    Tbl.get (e :: m) i = if e.1 = i then e.2 else Tbl.get m i := rfl

theorem Tbl.mem_keys_cons (e : Nat × α) (m : Tbl α) (i : Nat) : i ∈ Tbl.keys (e :: m) ↔ i = e.1 ∨ i ∈ Tbl.keys m := List.mem_cons

theorem Tbl.get_append [Inhabited α] (m n : Tbl α) (i : Nat) :
    Tbl.get (m ++ n) i = if i ∈ m.keys then Tbl.get m i else Tbl.get n i := by
  induction m with
  | nil => simp [Tbl.keys]
  | cons e m ih =>
    rw [List.cons_append, Tbl.get_cons, Tbl.get_cons, ih]
    by_cases h : e.1 = i
    · simp [h, Tbl.mem_keys_cons]
    · have h' : ¬ i = e.1 := fun x => h x.symm
      simp only [Tbl.mem_keys_cons, h, h', false_or, if_false]

theorem Tbl.get_of_not_mem [Inhabited α] {m : Tbl α} {i : Nat} (h : i ∉ m.keys) : Tbl.get m i = default := by
  induction m with
  | nil => rfl
  | cons e m ih =>
    simp only [Tbl.keys, List.map_cons, List.mem_cons, not_or] at h
    rw [Tbl.get_cons, if_neg (fun x => h.1 x.symm), ih h.2]

theorem Tbl.get_filter [Inhabited α] (m : Tbl α) (p : Nat → Bool) (i : Nat) :
    Tbl.get (m.filter (fun e => p e.1)) i = if p i then Tbl.get m i else default := by
  induction m with
  | nil => simp
  | cons e m ih =>
    by_cases hp : p e.1
    · rw [List.filter_cons_of_pos (by simpa using hp), Tbl.get_cons, Tbl.get_cons, ih]
      by_cases h : e.1 = i
      · subst h; simp [hp]
      · simp [h]
    · rw [List.filter_cons_of_neg (by simpa using hp), ih, Tbl.get_cons]
      by_cases h : e.1 = i
      · subst h; simp [hp]
      · simp [h]

theorem Tbl.mem_keys_filter (m : Tbl α) (p : Nat → Bool) (i : Nat) :
    i ∈ Tbl.keys (m.filter (fun e => p e.1)) ↔ p i = true ∧ i ∈ m.keys := by
  simp only [Tbl.keys, List.mem_map, List.mem_filter]
  constructor
  · rintro ⟨e, ⟨he, hp⟩, rfl⟩; exact ⟨hp, e, he, rfl⟩
  · rintro ⟨hp, e, he, rfl⟩; exact ⟨e, ⟨he, hp⟩, rfl⟩

theorem Tbl.get_splice [Inhabited α] (m : Tbl α) (lo hi : Nat) (mid : Tbl α) (i : Nat) (hle : lo ≤ hi)
    (hm : ∀ e ∈ mid, lo ≤ e.1 ∧ e.1 < hi) :
    Tbl.get (m.splice lo hi mid) i = if lo ≤ i ∧ i < hi then Tbl.get mid i else Tbl.get m i := by
  have h1 := Tbl.get_filter m (fun k => decide (k < lo)) i
  have h2 := Tbl.get_filter m (fun k => decide (hi ≤ k)) i
  have k1 := Tbl.mem_keys_filter m (fun k => decide (k < lo)) i
  simp only [decide_eq_true_eq] at h1 h2 k1
  have kmid : i ∈ Tbl.keys mid → lo ≤ i ∧ i < hi := by
    intro h
    obtain ⟨e, he, rfl⟩ := List.mem_map.1 h
    exact hm e he
  unfold Tbl.splice
  rw [Tbl.get_append, Tbl.get_append]
  by_cases hi1 : i < lo
  · have hc : ¬ (lo ≤ i ∧ i < hi) := by omega
    rw [if_neg hc]
    by_cases hk : i ∈ m.keys
    · rw [if_pos (by
        have : i ∈ Tbl.keys (m.filter (fun e => decide (e.1 < lo)) ++ mid) := by
          unfold Tbl.keys at *
          rw [List.map_append, List.mem_append]; exact Or.inl (k1.2 ⟨hi1, hk⟩)
        exact this), if_pos (k1.2 ⟨hi1, hk⟩), h1, if_pos hi1]
    · rw [Tbl.get_of_not_mem hk, if_neg, h2, if_neg (by omega)]
      intro h
      unfold Tbl.keys at h k1
      rw [List.map_append, List.mem_append] at h
      rcases h with h | h
      · exact hk (k1.1 h).2
      · have := kmid h; omega
  · have n1 : i ∉ Tbl.keys (m.filter (fun e => decide (e.1 < lo))) := fun h => hi1 (k1.1 h).1
    rw [if_neg n1]
    have hmem : i ∈ Tbl.keys (m.filter (fun e => decide (e.1 < lo)) ++ mid) ↔ i ∈ Tbl.keys mid := by
      unfold Tbl.keys at *
      rw [List.map_append, List.mem_append]
      exact ⟨fun h => h.resolve_left n1, Or.inr⟩
    by_cases hk : i ∈ Tbl.keys mid
    · rw [if_pos (hmem.2 hk), if_pos (kmid hk)]
    · rw [if_neg (fun h => hk (hmem.1 h)), h2]
      by_cases hc : lo ≤ i ∧ i < hi
      · rw [if_pos hc, if_neg (by omega), Tbl.get_of_not_mem hk]
      · rw [if_neg hc, if_pos (by omega)]

/-- What a table reads as after one key is written. -/
theorem Tbl.get_set [Inhabited α] [DecidableEq α] (m : Tbl α) (i j : Nat) (v : α) :
    Tbl.get (m.set i v) j = if j = i then v else Tbl.get m j := by
  unfold Tbl.set
  rw [Tbl.get_splice _ _ _ _ _ (by omega) (by
    intro e he
    by_cases hv : v = default
    · simp [hv] at he
    · rw [if_neg hv] at he
      obtain rfl := List.mem_singleton.1 he
      exact ⟨Nat.le_refl _, by simp⟩)]
  by_cases h : j = i
  · subst h
    rw [if_pos (by omega), if_pos rfl]
    by_cases hv : v = default
    · simp [hv]
    · rw [if_neg hv, Tbl.get_cons, if_pos rfl]
  · rw [if_neg (by omega), if_neg h]

@[simp] theorem Tbl.get_set_same [Inhabited α] [DecidableEq α] (m : Tbl α) (i : Nat) (v : α) : Tbl.get (m.set i v) i = v := by
  simp [Tbl.get_set]

theorem Tbl.get_set_ne [Inhabited α] [DecidableEq α] (m : Tbl α) {i j : Nat} (v : α) (h : j ≠ i) :
    Tbl.get (m.set i v) j = Tbl.get m j := by
  simp [Tbl.get_set, h]

@[simp] theorem Tbl.get_upd_same [Inhabited α] [DecidableEq α] (m : Tbl α) (i : Nat) (f : α → α) :
    Tbl.get (m.upd i f) i = f (m.get i) := by
  simp [Tbl.upd]

theorem Tbl.get_upd_ne [Inhabited α] [DecidableEq α] (m : Tbl α) {i j : Nat} (f : α → α) (h : j ≠ i) :
    Tbl.get (m.upd i f) j = Tbl.get m j := by
  simp [Tbl.upd, Tbl.get_set_ne, h]

/-- A range that has been forgotten reads as the default value; every other key as before. -/
theorem Tbl.get_clear [Inhabited α] (m : Tbl α) (lo hi i : Nat) (hle : lo ≤ hi) :
    Tbl.get (m.clear lo hi) i = if lo ≤ i ∧ i < hi then default else Tbl.get m i := by
  unfold Tbl.clear
  rw [Tbl.get_splice _ _ _ _ _ hle (by simp)]
  simp

theorem Tbl.run_bounds [Inhabited α] [DecidableEq α] (l : List α) (i : Nat) : ∀ e ∈ Tbl.run i l, i ≤ e.1 ∧ e.1 < i + l.length := by
  induction l generalizing i with
  | nil => simp [Tbl.run]
  | cons v l ih =>
    intro e he
    unfold Tbl.run at he
    by_cases hv : v = default
    · rw [if_pos hv] at he
      have := ih (i + 1) e he
      simp only [List.length_cons]; omega
    · rw [if_neg hv] at he
      rcases List.mem_cons.1 he with rfl | he
      · simp
      · have := ih (i + 1) e he
        simp only [List.length_cons]; omega

theorem Tbl.get_run [Inhabited α] [DecidableEq α] (l : List α) (i j : Nat) :
    Tbl.get (Tbl.run i l) (i + j) = l.getD j default := by
  induction l generalizing i j with
  | nil => simp [Tbl.run]
  | cons v l ih =>
    cases j with
    | zero =>
      have hn : Tbl.get (Tbl.run (i + 1) l) i = default := by
        apply Tbl.get_of_not_mem
        intro h
        obtain ⟨e, he, hh⟩ := List.mem_map.1 h
        have := (Tbl.run_bounds l (i + 1) e he).1
        omega
      unfold Tbl.run
      by_cases hv : v = default
      · simp [hv, hn]
      · simp [hv, Tbl.get_cons]
    | succ j =>
      have := ih (i + 1) j
      rw [show i + 1 + j = i + (j + 1) by omega] at this
      unfold Tbl.run
      by_cases hv : v = default
      · simp [hv, this]
      · rw [if_neg hv, Tbl.get_cons, if_neg (show (i, v).1 ≠ i + (j + 1) by simp), this]
        simp

/-- What a table reads as after consecutive keys are written. -/
theorem Tbl.get_setRun [Inhabited α] [DecidableEq α] (m : Tbl α) (i : Nat) (l : List α) (j : Nat) :
    Tbl.get (m.setRun i l) j = if i ≤ j ∧ j < i + l.length then l.getD (j - i) default else Tbl.get m j := by
  unfold Tbl.setRun
  rw [Tbl.get_splice _ _ _ _ _ (by omega) (Tbl.run_bounds l i)]
  by_cases h : i ≤ j ∧ j < i + l.length
  · rw [if_pos h, if_pos h]
    have := Tbl.get_run l i (j - i)
    rw [show i + (j - i) = j by omega] at this
    exact this
  · rw [if_neg h, if_neg h]

/-! ### The canonical form is kept -/

theorem Tbl.canonical_nil [Inhabited α] : Tbl.Canonical ([] : Tbl α) := ⟨List.Pairwise.nil, by simp⟩

theorem Tbl.Canonical.splice [Inhabited α] {m mid : Tbl α} (hm : m.Canonical) (hmid : mid.Canonical) {lo hi : Nat} (hle : lo ≤ hi)
    (hb : ∀ e ∈ mid, lo ≤ e.1 ∧ e.1 < hi) : (m.splice lo hi mid).Canonical := by
  constructor
  · unfold Tbl.splice
    rw [List.pairwise_append, List.pairwise_append]
    refine ⟨⟨hm.1.filter _, hmid.1, ?_⟩, hm.1.filter _, ?_⟩
    · intro a ha b hb'
      have := (List.mem_filter.1 ha).2
      have := (hb b hb').1
      simp at *; omega
    · intro a ha b hb'
      have hbb := (List.mem_filter.1 hb').2
      rcases List.mem_append.1 ha with ha | ha
      · have := (List.mem_filter.1 ha).2
        simp at *; omega
      · have := (hb a ha).2
        simp at *; omega
  · intro e he
    unfold Tbl.splice at he
    rcases List.mem_append.1 he with he | he
    · rcases List.mem_append.1 he with he | he
      · exact hm.2 e (List.mem_filter.1 he).1
      · exact hmid.2 e he
    · exact hm.2 e (List.mem_filter.1 he).1

theorem Tbl.canonical_run [Inhabited α] [DecidableEq α] (l : List α) (i : Nat) : (Tbl.run i l).Canonical := by
  induction l generalizing i with
  | nil => exact Tbl.canonical_nil
  | cons v l ih =>
    unfold Tbl.run
    by_cases hv : v = default
    · rw [if_pos hv]; exact ih (i + 1)
    · rw [if_neg hv]
      refine ⟨List.pairwise_cons.2 ⟨fun e he => ?_, (ih (i + 1)).1⟩, fun e he => ?_⟩
      · have := (Tbl.run_bounds l (i + 1) e he).1
        simp; omega
      · rcases List.mem_cons.1 he with rfl | he
        · exact hv
        · exact (ih (i + 1)).2 e he

theorem Tbl.Canonical.set [Inhabited α] [DecidableEq α] {m : Tbl α} (hm : m.Canonical) (i : Nat) (v : α) : (m.set i v).Canonical := by
  unfold Tbl.set
  by_cases hv : v = default
  · rw [if_pos hv]; exact hm.splice Tbl.canonical_nil (by omega) (by simp)
  · rw [if_neg hv]
    exact hm.splice ⟨List.pairwise_singleton _ _, by simpa using hv⟩ (by omega) (by simp)

theorem Tbl.Canonical.upd [Inhabited α] [DecidableEq α] {m : Tbl α} (hm : m.Canonical) (i : Nat) (f : α → α) : (m.upd i f).Canonical :=
  hm.set i _

theorem Tbl.Canonical.setRun [Inhabited α] [DecidableEq α] {m : Tbl α} (hm : m.Canonical) (i : Nat) (l : List α) :
    (m.setRun i l).Canonical :=
  hm.splice (Tbl.canonical_run l i) (by omega) (Tbl.run_bounds l i)

/-- Forgetting a range keeps the canonical form, also when its ends are the wrong way round. -/
theorem Tbl.Canonical.clear [Inhabited α] {m : Tbl α} (hm : m.Canonical) {lo hi : Nat} (hle : lo ≤ hi) : (m.clear lo hi).Canonical :=
  hm.splice Tbl.canonical_nil hle (by simp)

theorem Tbl.Canonical.addAll [Inhabited α] [DecidableEq α] {m : Tbl α} (hm : m.Canonical) (l : List (Nat × α)) :
    (m.addAll l).Canonical := by
  unfold Tbl.addAll
  induction l generalizing m with
  | nil => exact hm
  | cons e l ih => exact ih (hm.set e.1 e.2)

theorem Tbl.Canonical.filter [Inhabited α] {m : Tbl α} (hm : m.Canonical) (p : Nat × α → Bool) : Tbl.Canonical (m.filter p) :=
  ⟨hm.1.filter p, fun e he => hm.2 e (List.mem_filter.1 he).1⟩

end Sys2Proof.Machine
end

