-- ==== Sys2Proof/Laws/KeptOps.lean ====
section
/-!
SUPPORT. What every command leaves alone: the queue, the fuses but for a floor that rises, and the canonical form of the tables. One lemma for each operation and command of the shared operations:
what it makes of a state that a start state keeps, that start keeps.
-/
set_option linter.all false
namespace Sys2Proof.Machine

/-- The tables of a state in their canonical form, as propositions (`State.wf` as a Bool). -/
structure Canon (s : State) : Prop where
  csr : s.csr.Canonical
  cpPend : s.cpPend.Canonical
  cpBad : s.cpBad.Canonical
  mem : Tbl.Canonical s.mem
  syn : s.syn.Canonical
  wordErr : s.wordErr.Canonical
  lineErr : s.lineErr.Canonical

theorem FusesKept.rfl {f : Fuses} : FusesKept f f := ⟨by cases f; exact Eq.refl _, Nat.le_refl _⟩
theorem FusesKept.trans {f g k : Fuses} (h : FusesKept f g) (j : FusesKept g k) : FusesKept f k :=
  ⟨by rw [j.burnt, h.burnt], Nat.le_trans h.floor j.floor⟩

/-- What every operation and command makes of a state: the queue and the fuses but for a floor that rises are as they were, and tables in
canonical form stay so. -/
structure Kept (s t : State) : Prop where
  pending : t.pending = s.pending
  fuses : FusesKept s.fuses t.fuses
  canon : Canon s → Canon t

theorem State.wf_iff_canon (s : State) : s.wf = true ↔ Canon s := by
  simp only [State.wf, Memory.wf, Bool.and_eq_true, Tbl.wf_iff_canonical, and_assoc]
  constructor
  · rintro ⟨_, _, _, _, _, _, _⟩
    constructor <;> assumption
  · intro c
    exact ⟨c.csr, c.cpPend, c.cpBad, c.mem, c.syn, c.wordErr, c.lineErr⟩

theorem Kept.rfl {s : State} : Kept s s := ⟨Eq.refl _, FusesKept.rfl, id⟩
theorem Kept.trans {s t u : State} (h : Kept s t) (k : Kept t u) : Kept s u :=
  ⟨k.pending.trans h.pending, h.fuses.trans k.fuses, fun c => k.canon (h.canon c)⟩

theorem kept_wr {s0 s : State} (a : Nat) (v : W64) (h : Kept s0 s) : Kept s0 (s.wr a v) :=
  ⟨h.pending, h.fuses, fun c => { h.canon c with csr := (h.canon c).csr.set a v }⟩
theorem kept_cpCommit {s0 s : State} (a : Nat) (v : W64) (h : Kept s0 s) : Kept s0 (s.cpCommit a v) :=
  ⟨h.pending, h.fuses, fun c => { h.canon c with csr := (h.canon c).csr.set a v, cpPend := (h.canon c).cpPend.set a _, cpBad := (h.canon c).cpBad.set a _ }⟩

theorem kept_mk {s0 s : State} (h : Kept s0 s) (seqs saved bases stackSide clxs ports router fm clusters config host fw sec pwr rcd answer fresh) :
   Kept s0 ⟨s.csr, s.cpPend, s.cpBad, s.mem, s.syn, s.wordErr, s.lineErr, seqs, saved, bases, stackSide, clxs, ports, router, fm, clusters, config, s.fuses, host, fw, sec, pwr, rcd, answer, fresh, s.pending⟩ :=
  ⟨h.pending, h.fuses, fun c => ⟨(h.canon c).csr, (h.canon c).cpPend, (h.canon c).cpBad, (h.canon c).mem, (h.canon c).syn, (h.canon c).wordErr, (h.canon c).lineErr⟩⟩

theorem kept_each {α : Type} {s0 s : State} (l : List α) (f : State → α → State) (h : Kept s0 s) (hf : ∀ s x, Kept s0 s → Kept s0 (f s x)) : Kept s0 (s.each l f) := by
  unfold State.each
  induction l generalizing s with
  | nil => exact h
  | cons x l ih => exact ih (hf s x h)
theorem kept_cond {s0 s : State} (b : Bool) (f : State → State) (h : Kept s0 s) (hf : ∀ s, Kept s0 s → Kept s0 (f s)) : Kept s0 (s.cond b f) := by
  unfold State.cond; split
  · exact hf _ h
  · exact h

theorem kept_wrF {s0 s : State} (a hi lo x : Nat) (h : Kept s0 s) : Kept s0 (s.wrF a hi lo x) := kept_wr _ _ h
theorem kept_wrB {s0 s : State} (a i : Nat) (x) (h : Kept s0 s) : Kept s0 (s.wrB a i x) := kept_wrF _ _ _ _ h
theorem kept_count {s0 s : State} (a i : Nat) (h : Kept s0 s) : Kept s0 (s.count a i) := kept_wr _ _ h
theorem kept_countF {s0 s : State} (a hi lo i : Nat) (h : Kept s0 s) : Kept s0 (s.countF a hi lo i) := kept_wr _ _ h
theorem kept_raise {s0 s : State} (e : Event) (h : Kept s0 s) : Kept s0 (s.raise e) := by
  unfold State.raise; split <;> exact kept_mk h ..
theorem kept_event {s0 s : State} (n : Nat) (u d p a) (h : Kept s0 s) : Kept s0 (s.event n u d p a) := kept_raise _ h

theorem kept_foldl {α : Type} {s0 s : State} (l : List α) (f : State → α → State) (h : Kept s0 s) (hf : ∀ s x, Kept s0 s → Kept s0 (f s x)) : Kept s0 (l.foldl f s) := kept_each l f h hf
theorem kept_foldl_fst {α β : Type} {s0 : State} {a : State × β} (l : List α) (f : State × β → α → State × β) (h : Kept s0 a.1)
    (hf : ∀ a x, Kept s0 a.1 → Kept s0 (f a x).1) : Kept s0 (l.foldl f a).1 := by
  induction l generalizing a with
  | nil => exact h
  | cons x l ih => exact ih (hf a x h)
theorem kept_cpPend {s0 s : State} (a : Nat) (p : Option CpPending) (h : Kept s0 s) : Kept s0 { s with cpPend := s.cpPend.set a p } :=
  ⟨h.pending, h.fuses, fun c => { h.canon c with cpPend := (h.canon c).cpPend.set a _ }⟩

theorem kept_cpBad {s0 s : State} (a : Nat) (p : Bool) (h : Kept s0 s) : Kept s0 { s with cpBad := s.cpBad.set a p } :=
  ⟨h.pending, h.fuses, fun c => { h.canon c with cpBad := (h.canon c).cpBad.set a _ }⟩
theorem kept_wordErr {s0 s : State} (a : Nat) (p : Nat) (h : Kept s0 s) : Kept s0 { s with wordErr := s.wordErr.set a p } :=
  ⟨h.pending, h.fuses, fun c => { h.canon c with wordErr := (h.canon c).wordErr.set a _ }⟩
theorem kept_lineErr {s0 s : State} (a : Nat) (p : Nat) (h : Kept s0 s) : Kept s0 { s with lineErr := s.lineErr.set a p } :=
  ⟨h.pending, h.fuses, fun c => { h.canon c with lineErr := (h.canon c).lineErr.set a _ }⟩
theorem kept_syn {s0 s : State} (a : Nat) (p : W32) (h : Kept s0 s) : Kept s0 { s with syn := s.syn.set a p } :=
  ⟨h.pending, h.fuses, fun c => { h.canon c with syn := (h.canon c).syn.set a _ }⟩
theorem canonical_clearRange {α : Type} [Inhabited α] {m : Tbl α} (hm : m.Canonical) (r : Nat × Nat) : (m.clearRange r).Canonical := by
  unfold Tbl.clearRange; split
  · exact hm.clear (by omega)
  · exact hm

theorem kept_mk7 {s0 s : State} (h : Kept s0 s) {csr cpPend cpBad mem syn wordErr lineErr}
   (h1 : Canon s → Tbl.Canonical csr) (h2 : Canon s → Tbl.Canonical cpPend) (h3 : Canon s → Tbl.Canonical cpBad) (h4 : Canon s → Tbl.Canonical mem)
   (h5 : Canon s → Tbl.Canonical syn) (h6 : Canon s → Tbl.Canonical wordErr) (h7 : Canon s → Tbl.Canonical lineErr)
   (seqs saved bases stackSide clxs ports router fm clusters config host fw sec pwr rcd answer fresh) :
   Kept s0 ⟨csr, cpPend, cpBad, mem, syn, wordErr, lineErr, seqs, saved, bases, stackSide, clxs, ports, router, fm, clusters, config, s.fuses, host, fw, sec, pwr, rcd, answer, fresh, s.pending⟩ :=
  ⟨h.pending, h.fuses, fun c => ⟨h1 (h.canon c), h2 (h.canon c), h3 (h.canon c), h4 (h.canon c), h5 (h.canon c), h6 (h.canon c), h7 (h.canon c)⟩⟩
theorem kept_set_seqs {s0 s : State} (x) (h : Kept s0 s) : Kept s0 { s with seqs := x } := kept_mk h ..
theorem kept_set_saved {s0 s : State} (x) (h : Kept s0 s) : Kept s0 { s with saved := x } := kept_mk h ..
theorem kept_set_bases {s0 s : State} (x) (h : Kept s0 s) : Kept s0 { s with bases := x } := kept_mk h ..
theorem kept_set_stackSide {s0 s : State} (x) (h : Kept s0 s) : Kept s0 { s with stackSide := x } := kept_mk h ..
theorem kept_set_clxs {s0 s : State} (x) (h : Kept s0 s) : Kept s0 { s with clxs := x } := kept_mk h ..
theorem kept_set_ports {s0 s : State} (x) (h : Kept s0 s) : Kept s0 { s with ports := x } := kept_mk h ..
theorem kept_set_router {s0 s : State} (x) (h : Kept s0 s) : Kept s0 { s with router := x } := kept_mk h ..
theorem kept_set_fm {s0 s : State} (x) (h : Kept s0 s) : Kept s0 { s with fm := x } := kept_mk h ..
theorem kept_set_clusters {s0 s : State} (x) (h : Kept s0 s) : Kept s0 { s with clusters := x } := kept_mk h ..
theorem kept_set_config {s0 s : State} (x) (h : Kept s0 s) : Kept s0 { s with config := x } := kept_mk h ..
theorem kept_set_host {s0 s : State} (x) (h : Kept s0 s) : Kept s0 { s with host := x } := kept_mk h ..
theorem kept_set_fw {s0 s : State} (x) (h : Kept s0 s) : Kept s0 { s with fw := x } := kept_mk h ..
theorem kept_set_sec {s0 s : State} (x) (h : Kept s0 s) : Kept s0 { s with sec := x } := kept_mk h ..
theorem kept_set_pwr {s0 s : State} (x) (h : Kept s0 s) : Kept s0 { s with pwr := x } := kept_mk h ..
theorem kept_set_rcd {s0 s : State} (x) (h : Kept s0 s) : Kept s0 { s with rcd := x } := kept_mk h ..
theorem kept_set_answer {s0 s : State} (x) (h : Kept s0 s) : Kept s0 { s with answer := x } := kept_mk h ..
theorem kept_set_fresh {s0 s : State} (x) (h : Kept s0 s) : Kept s0 { s with fresh := x } := kept_mk h ..
theorem kept_ite {s0 x y : State} (c : Prop) {_ : Decidable c} (h : Kept s0 x) (k : Kept s0 y) : Kept s0 (if c then x else y) := by
  split
  · exact h
  · exact k
theorem canonical_resetCsr : Tbl.Canonical resetCsr := (Tbl.wf_iff_canonical _).1 (by decide +kernel)
theorem Canon.mem' {s : State} (h : Canon s) : Tbl.Canonical (α := Byte) s.mem := h.mem

/-! monads -/
variable {F S α β : Type}

/-- A computation changes the state that it carries only in tame ways. -/
def KeptM (st : S → State) (m : ExceptT F (StateM S) α) : Prop := ∀ s0 e, Kept s0 (st e) → Kept s0 (st (m e).2)

theorem keptm_pure (st : S → State) (a : α) : KeptM st (pure a : ExceptT F (StateM S) α) := fun _ _ h => h
theorem keptm_throw (st : S → State) (f : F) : KeptM st (throw f : ExceptT F (StateM S) α) := fun _ _ h => h
theorem keptm_bind (st : S → State) {m : ExceptT F (StateM S) α} {k : α → ExceptT F (StateM S) β} (hm : KeptM st m) (hk : ∀ a, KeptM st (k a)) :
    KeptM st (m >>= k) := by
  intro s0 e h
  have h1 := hm s0 e h
  show Kept s0 (st ((m >>= k) e).2)
  have : (m >>= k) e = (match m e with | (.ok a, e') => k a e' | (.error f, e') => (.error f, e')) := by
    show (ExceptT.bind m k) e = _
    unfold ExceptT.bind ExceptT.mk
    show (StateT.bind m (ExceptT.bindCont k)) e = _
    unfold StateT.bind
    show (match m e with | (a, e') => ExceptT.bindCont k a e') = _
    rcases m e with ⟨x, e'⟩
    cases x <;> rfl
  rw [this]
  rcases hme : m e with ⟨x, e'⟩
  rw [hme] at h1
  cases x with
  | ok a => exact hk a s0 e' h1
  | error f => exact h1
theorem keptm_get (st : S → State) : KeptM st (get : ExceptT F (StateM S) S) := fun _ _ h => h
theorem keptm_modify (st : S → State) (f : S → S) (hf : ∀ s0 e, Kept s0 (st e) → Kept s0 (st (f e))) :
    KeptM st (modify f : ExceptT F (StateM S) PUnit) := fun s0 e h => hf s0 e h
theorem keptm_forM (st : S → State) (l : List α) (f : α → ExceptT F (StateM S) PUnit) (hf : ∀ a, KeptM st (f a)) : KeptM st (l.forM f) := by
  induction l with
  | nil => exact keptm_pure st _
  | cons a l ih => exact keptm_bind st (hf a) (fun _ => ih)
theorem keptm_mapM (st : S → State) (l : List α) (f : α → ExceptT F (StateM S) β) (hf : ∀ a, KeptM st (f a)) : KeptM st (l.mapM f) := by
  induction l with
  | nil => exact keptm_pure st _
  | cons a l ih => rw [List.mapM_cons]; exact keptm_bind st (hf a) (fun _ => keptm_bind st ih (fun _ => keptm_pure st _))
theorem keptm_foldlM (st : S → State) (l : List α) (f : β → α → ExceptT F (StateM S) β) (b : β) (hf : ∀ b a, KeptM st (f b a)) : KeptM st (l.foldlM f b) := by
  induction l generalizing b with
  | nil => exact keptm_pure st _
  | cons a l ih => rw [List.foldlM_cons]; exact keptm_bind st (hf b a) (fun _ => ih _)

/-! ### Ops -/

theorem kept_draw {s0 : State} (s : State) (ht0 : Kept s0 s) : Kept s0 (State.draw s).2 := by
  unfold State.draw; try dsimp only
  repeat' with_reducible first | assumption | intro _ _ _ | intro _ _ | exact kept_mk (by assumption) .. | split

theorem kept_refuseWrite {s0 : State} (s : State) (ag : Agent) (ht0 : Kept s0 s) : Kept s0 (State.refuseWrite s ag) := by
  unfold State.refuseWrite; try dsimp only
  repeat' with_reducible first | assumption | intro _ _ _ | intro _ _ | apply kept_event | exact kept_mk (by assumption) .. | split

theorem kept_hostError {s0 : State} (s : State) (h f : Nat) (k : HostAccess) (off : Nat) (ht0 : Kept s0 s) : Kept s0 (State.hostError s h f k off) := by
  unfold State.hostError; try dsimp only
  repeat' with_reducible first | assumption | intro _ _ _ | intro _ _ | apply kept_event | exact kept_mk (by assumption) .. | split

theorem kept_hostEvent {s0 : State} (s : State) (name h f item addr : Nat) (part : Option Nat) (ht0 : Kept s0 s) : Kept s0 (State.hostEvent s name h f item addr part) := by
  unfold State.hostEvent; try dsimp only
  repeat' with_reducible first | assumption | intro _ _ _ | intro _ _ | apply kept_event | exact kept_mk (by assumption) .. | split

theorem kept_addressError {s0 : State} (s : State) (ag : Agent) (a : Nat) (write : Bool) (ht0 : Kept s0 s) : Kept s0 (State.addressError s ag a write) := by
  unfold State.addressError; try dsimp only
  repeat' with_reducible first | assumption | intro _ _ _ | intro _ _ | apply kept_event | apply kept_hostError | exact kept_mk (by assumption) .. | split

theorem kept_csrAccess {s0 : State} (s : State) (ag : Agent) (a width : Nat) (write : Bool) (f : State → State) (ht0 : Kept s0 s) (hf1 : ∀ s1, Kept s0 s1 → Kept s0 (f s1)) : Kept s0 (State.csrAccess s ag a width write f) := by
  unfold State.csrAccess at *
  grind only [kept_addressError, kept_mk]

theorem kept_cpMismatch {s0 s : State} (ag : Agent) (a : Nat) (h : Kept s0 s) : Kept s0 (s.cpMismatch ag a) := by
  unfold State.cpMismatch
  apply kept_event
  exact ⟨h.pending, h.fuses, fun c => { h.canon c with cpPend := (h.canon c).cpPend.set a _ }⟩

theorem kept_cpWrite {s0 s : State} (ag : Agent) (a off width : Nat) (v : W64) (h : Kept s0 s) : Kept s0 (s.cpWrite ag a off width v) :=
  ⟨h.pending, h.fuses, fun c => { h.canon c with cpPend := (h.canon c).cpPend.set a _ }⟩

theorem kept_cpCompanion {s0 s : State} (ag : Agent) (a regBytes off width : Nat) (v : W64) (done : State → W64 → State)
    (hd : ∀ s w, Kept s0 s → Kept s0 (done s w)) (h : Kept s0 s) : Kept s0 (s.cpCompanion ag a regBytes off width v done) := by
  unfold State.cpCompanion
  split
  · exact kept_cpMismatch _ _ h
  · exact kept_cpPend _ _ h
  · exact hd _ _ (kept_cpPend _ _ h)

/-! ### Recorder -/

theorem kept_execEventRecord {s0 : State} (s : State) (ht0 : Kept s0 s) : ∀ t9, (execEventRecord s) = .next t9 → Kept s0 t9 := by
  intro t9 ht; unfold execEventRecord at ht
  grind only [kept_mk]

theorem kept_execLostEventsReport {s0 : State} (s : State) (ht0 : Kept s0 s) : ∀ t9, (execLostEventsReport s) = .next t9 → Kept s0 t9 := by
  intro t9 ht; unfold execLostEventsReport at ht
  grind only [kept_event, kept_mk]

theorem kept_execRecordFlashSync {s0 : State} (s : State) (ht0 : Kept s0 s) : ∀ t9, (execRecordFlashSync s) = .next t9 → Kept s0 t9 := by
  intro t9 ht; unfold execRecordFlashSync at ht; injection ht with ht; subst ht; try dsimp only
  repeat' with_reducible first | assumption | intro _ _ _ | intro _ _ | exact kept_mk (by assumption) .. | split

theorem kept_execFaultHistoryWrite {s0 : State} (s : State) (ht0 : Kept s0 s) : ∀ t9, (execFaultHistoryWrite s) = .next t9 → Kept s0 t9 := by
  intro t9 ht; unfold execFaultHistoryWrite at ht; injection ht with ht; subst ht; try dsimp only
  repeat' with_reducible first | assumption | intro _ _ _ | intro _ _ | exact kept_mk (by assumption) .. | split

theorem kept_execOperatingHourMark {s0 : State} (s : State) (ht0 : Kept s0 s) : ∀ t9, (execOperatingHourMark s) = .next t9 → Kept s0 t9 := by
  intro t9 ht; unfold execOperatingHourMark at ht; injection ht with ht; subst ht; try dsimp only
  repeat' with_reducible first | assumption | intro _ _ _ | intro _ _ | apply kept_event | exact kept_mk (by assumption) .. | split

theorem kept_execRecCursorWrite {s0 : State} (ag : Agent) (w : Fin 6) (v : W32) (s : State) (ht0 : Kept s0 s) : ∀ t9, (execRecCursorWrite ag w v s) = .next t9 → Kept s0 t9 := by
  intro t9 ht; unfold execRecCursorWrite at ht; injection ht with ht; subst ht; try dsimp only
  repeat' with_reducible first | assumption | intro _ _ _ | intro _ _ | apply kept_cond | apply kept_wr | exact kept_mk (by assumption) .. | split

/-! ### Mem -/

theorem canonical_wordsWritten {m : Tbl Nat} (hm : m.Canonical) (a n : Nat) : (wordsWritten m a n).Canonical :=
  canonical_clearRange ((canonical_clearRange hm _).addAll _) _

theorem kept_writeBytes {s0 : State} (s : State) (a : Nat) (bs : List Byte) (h : Kept s0 s) : Kept s0 (s.writeBytes a bs) :=
  ⟨h.pending, h.fuses, fun c => { h.canon c with
    mem := Tbl.Canonical.setRun (h.canon c).mem a bs
    syn := canonical_clearRange (h.canon c).syn _
    wordErr := canonical_wordsWritten (h.canon c).wordErr a bs.length
    lineErr := canonical_clearRange (h.canon c).lineErr _ }⟩

theorem kept_writeCarried {s0 : State} (s : State) (a : Nat) (bs : List Byte) (diff : W32) (ht0 : Kept s0 s) : Kept s0 (State.writeCarried s a bs diff) := by
  unfold State.writeCarried at *
  grind only [Canon.cpBad, Canon.cpPend, Canon.csr, Canon.lineErr, Canon.mem, Canon.syn, Canon.wordErr, Tbl.Canonical.addAll, Tbl.Canonical.clear, Tbl.Canonical.set, Tbl.Canonical.setRun, Tbl.Canonical.upd, canonical_clearRange, kept_mk, kept_mk7, kept_writeBytes]

theorem kept_zeroRange {s0 : State} (s : State) (a n : Nat) (h : Kept s0 s) : Kept s0 (s.zeroRange a n) :=
  ⟨h.pending, h.fuses, fun c => { h.canon c with
    mem := Tbl.Canonical.clear (m := s.mem) (h.canon c).mem (by omega)
    syn := canonical_clearRange (h.canon c).syn _
    wordErr := canonical_clearRange (canonical_clearRange (h.canon c).wordErr _) _
    lineErr := canonical_clearRange (h.canon c).lineErr _ }⟩

theorem kept_mismatchAt {s0 : State} (s : State) (a : Nat) (ht0 : Kept s0 s) : Kept s0 (State.mismatchAt s a) := by
  unfold State.mismatchAt at *
  grind only [Canon.cpBad, Canon.cpPend, Canon.csr, Canon.lineErr, Canon.mem, Canon.syn, Canon.wordErr, Tbl.Canonical.addAll, Tbl.Canonical.clear, Tbl.Canonical.set, Tbl.Canonical.setRun, Tbl.Canonical.upd, canonical_clearRange, kept_cpCommit, kept_event, kept_mk, kept_mk7, kept_wr, kept_wrB]

theorem kept_mismatches {s0 : State} (s : State) (l : List Nat) (ht0 : Kept s0 s) : Kept s0 (State.mismatches s l) := by
  unfold State.mismatches; try dsimp only
  repeat' with_reducible first | assumption | intro _ _ _ | intro _ _ | apply kept_each | apply kept_mismatchAt | exact kept_mk (by assumption) .. | split

theorem kept_upset {s0 : State} (s : State) (us : List MemUpset) (ht0 : Kept s0 s) : Kept s0 (State.upset s us) := by
  unfold State.upset at *
  grind only [Canon.cpBad, Canon.cpPend, Canon.csr, Canon.lineErr, Canon.mem, Canon.syn, Canon.wordErr, Tbl.Canonical.addAll, Tbl.Canonical.clear, Tbl.Canonical.set, Tbl.Canonical.setRun, Tbl.Canonical.upd, canonical_clearRange, kept_each, kept_mismatchAt, kept_mk, kept_mk7]

theorem kept_retireCluster {s0 : State} (s : State) (c cause : Nat) (ht0 : Kept s0 s) : Kept s0 (State.retireCluster s c cause) := by
  unfold State.retireCluster; try dsimp only
  repeat' with_reducible first | assumption | intro _ _ _ | intro _ _ | apply kept_event | exact kept_mk (by assumption) .. | split

theorem kept_storeUncorrectable {s0 : State} (s : State) (w : Nat) (ht0 : Kept s0 s) : Kept s0 (State.storeUncorrectable s w) := by
  unfold State.storeUncorrectable at *
  grind only [Canon.cpBad, Canon.cpPend, Canon.csr, Canon.lineErr, Canon.mem, Canon.syn, Canon.wordErr, Tbl.Canonical.addAll, Tbl.Canonical.clear, Tbl.Canonical.set, Tbl.Canonical.setRun, Tbl.Canonical.upd, canonical_clearRange, kept_count, kept_mk, kept_mk7, kept_retireCluster, kept_wr]

theorem kept_scrubStore {s0 : State} (s : State) (a n : Nat) (ht0 : Kept s0 s) : Kept s0 (State.scrubStore s a n) := by
  unfold State.scrubStore at *
  grind only [Canon.cpBad, Canon.cpPend, Canon.csr, Canon.lineErr, Canon.mem, Canon.syn, Canon.wordErr, Tbl.Canonical.addAll, Tbl.Canonical.clear, Tbl.Canonical.set, Tbl.Canonical.setRun, Tbl.Canonical.upd, canonical_clearRange, kept_count, kept_each, kept_mk, kept_mk7, kept_storeUncorrectable]

theorem kept_checkFailedStore {s0 : State} (s : State) (verifier a : Nat) (part : Option Nat) (ht0 : Kept s0 s) : Kept s0 (State.checkFailedStore s verifier a part) := by
  unfold State.checkFailedStore; try dsimp only
  repeat' with_reducible first | assumption | intro _ _ _ | intro _ _ | apply kept_event | exact kept_mk (by assumption) .. | split

theorem kept_checkFailedHandle {s0 : State} (s : State) (verifier h off : Nat) (part : Option Nat) (ht0 : Kept s0 s) : Kept s0 (State.checkFailedHandle s verifier h off part) := by
  unfold State.checkFailedHandle; try dsimp only
  repeat' with_reducible first | assumption | intro _ _ _ | intro _ _ | apply kept_event | exact kept_mk (by assumption) .. | split

theorem kept_handleWrite {s0 : State} (s : State) (a off : Nat) (bs : List Byte) (h : Kept s0 s) : ∀ t, s.handleWrite a off bs = some t → Kept s0 t := by
  unfold State.handleWrite
  generalize piecesOf off bs.length = l
  have : ∀ (l : List (Nat × Nat)) (acc : Option (State × List Byte)), (∀ x, acc = some x → Kept s0 x.1) →
      ∀ t, (Option.map Prod.fst (l.foldl (fun acc p =>
        match acc with
        | some (s, rest) =>
          match s.translate a p.1 with
          | some a => some (s.writeBytes a (rest.take p.2), rest.drop p.2)
          | none => none
        | none => none) acc)) = some t → Kept s0 t := by
    intro l
    induction l with
    | nil =>
      intro acc hacc t ht
      cases acc with
      | none => simp at ht
      | some x => simp at ht; subst ht; exact hacc x rfl
    | cons p l ih =>
      intro acc hacc t ht
      refine ih _ ?_ t ht
      intro x hx
      rcases acc with _ | ⟨s', rest⟩
      · simp at hx
      · dsimp only at hx
        cases hq : s'.translate a p.1 with
        | none => rw [hq] at hx; simp at hx
        | some b => rw [hq] at hx; injection hx with hx; subst hx; exact kept_writeBytes _ _ _ (hacc _ rfl)
  exact this l (some (s, bs)) (by intro x hx; injection hx with hx; subst hx; exact h)

/-! ### Operands -/

theorem kept_updSeq {s0 : State} (s : State) (q : Nat) (f : Seq → Seq) (ht0 : Kept s0 s) : Kept s0 (State.updSeq s q f) := by
  unfold State.updSeq; try dsimp only
  repeat' with_reducible first | assumption | intro _ _ _ | intro _ _ | exact kept_mk (by assumption) .. | split

theorem kept_setSreg {s0 : State} (s : State) (q r : Nat) (v : W64) (ht0 : Kept s0 s) : Kept s0 (State.setSreg s q r v) := by
  unfold State.setSreg; try dsimp only
  repeat' with_reducible first | assumption | intro _ _ _ | intro _ _ | apply kept_updSeq | exact kept_mk (by assumption) .. | split

theorem kept_updEngine {s0 : State} (s : State) (q cls u k : Nat) (f : Engine → Engine) (ht0 : Kept s0 s) : Kept s0 (State.updEngine s q cls u k f) := by
  unfold State.updEngine; try dsimp only
  repeat' with_reducible first | assumption | intro _ _ _ | intro _ _ | apply kept_updSeq | exact kept_mk (by assumption) .. | split

theorem keptm_Eng_state   : KeptM EngSt.st (Eng.state) := by
  unfold Eng.state
  repeat' first | with_reducible assumption | with_reducible exact keptm_pure _ _ | with_reducible exact keptm_throw _ _ | with_reducible exact keptm_get _ | with_reducible apply keptm_bind | with_reducible apply keptm_forM | with_reducible apply keptm_mapM | with_reducible apply keptm_foldlM | with_reducible apply keptm_modify | with_reducible apply kept_cond | with_reducible apply kept_syn | (with_reducible intro _) | split | dsimp only

theorem keptm_Eng_change (f : State → State) (hf : ∀ s0 s, Kept s0 s → Kept s0 (f s)) : KeptM EngSt.st (Eng.change f) :=
  keptm_modify _ _ (fun s0 e h => hf s0 e.st h)

theorem keptm_Eng_addressError {α : Type} : KeptM EngSt.st (Eng.addressError : Eng α) := keptm_throw _ _

theorem keptm_Eng_illegal {α : Type} : KeptM EngSt.st (Eng.illegal : Eng α) := keptm_throw _ _

theorem kept_landRacing {s0 : State} (s : State) (w : StoreWrite) (ht0 : Kept s0 s) : Kept s0 (State.landRacing s w) := by
  unfold State.landRacing at *
  grind only [Canon.cpBad, Canon.cpPend, Canon.csr, Canon.lineErr, Canon.mem, Canon.syn, Canon.wordErr, Tbl.Canonical.addAll, Tbl.Canonical.clear, Tbl.Canonical.set, Tbl.Canonical.setRun, Tbl.Canonical.upd, canonical_clearRange, kept_draw, kept_each, kept_mk, kept_mk7, kept_writeBytes]

theorem keptx_drawBytes {s0 : State} (n : Nat) (s : State) (h : Kept s0 s) : Kept s0 (s.drawBytes n).2 := by
  induction n generalizing s with
  | zero => exact h
  | succ n ih => exact ih _ (kept_draw _ h)
theorem kept_raceTile {s0 : State} (s : State) (op : Nat) (p : DmxPart) (t : Nat) (ht0 : Kept s0 s) : Kept s0 (State.raceTile s op p t) := by
  have hd : Kept s0 s.draw.2 := kept_draw _ ht0
  unfold State.raceTile
  dsimp only
  generalize s.draw = d at *
  have h2 : Kept s0 (if (!bitOf d.1 0) = true then d.2
      else if op = 6 then (d.2.drawBytes 512).2.writeBytes (4096 * t) (d.2.drawBytes 512).1
      else match d.2.handleRead p.handle (p.offset + (4096 * t - p.store)) 4096 with
        | some (bs, _) => d.2.writeBytes (4096 * t) bs
        | none => d.2) := by
    split
    · exact hd
    · split
      · exact kept_writeBytes _ _ _ (keptx_drawBytes _ _ hd)
      · split
        · exact kept_writeBytes _ _ _ hd
        · exact hd
  split
  · exact kept_syn _ _ h2
  · exact h2

theorem kept_raceTransfers {s0 : State} (s : State) (q a n : Nat) (ht0 : Kept s0 s) : Kept s0 (State.raceTransfers s q a n) := by
  unfold State.raceTransfers at *
  grind only [Canon.cpBad, Canon.cpPend, Canon.csr, Canon.lineErr, Canon.mem, Canon.syn, Canon.wordErr, Tbl.Canonical.addAll, Tbl.Canonical.clear, Tbl.Canonical.set, Tbl.Canonical.setRun, Tbl.Canonical.upd, canonical_clearRange, kept_draw, kept_each, kept_mk, kept_mk7, kept_raceTile]

theorem kept_noteSource {s0 : State} (s : State) (q a n : Nat) (ht0 : Kept s0 s) : Kept s0 (State.noteSource s q a n) := by
  unfold State.noteSource; try dsimp only
  repeat' with_reducible first | assumption | intro _ _ _ | intro _ _ | apply kept_foldl | apply kept_foldl_fst | apply kept_updSeq | exact kept_mk (by assumption) .. | split

theorem kept_raceBytes {s0 : State} (s : State) (old : Tbl (List Byte)) (a n : Nat) (ht0 : Kept s0 s) : Kept s0 (State.raceBytes s old a n).1 := by
  unfold State.raceBytes; try dsimp only
  repeat' with_reducible first | assumption | intro _ _ _ | intro _ _ | apply kept_draw | exact kept_mk (by assumption) .. | split

theorem kept_raceRead {s0 : State} (s : State) (q ii a n : Nat) (ht0 : Kept s0 s) : Kept s0 (State.raceRead s q ii a n) := by
  unfold State.raceRead; try dsimp only
  repeat' with_reducible first | assumption | intro _ _ _ | intro _ _ | apply kept_each | apply kept_landRacing | apply kept_raceTransfers | exact kept_mk (by assumption) .. | split

theorem keptm_Eng_read (q : Nat) (p : Place) (n : Nat) (cell : Option Nat) : KeptM EngSt.st (Eng.read q p n cell) := by
  unfold Eng.read
  split
  · exact keptm_throw _ _
  · intro s0 e h
    have h1 : Kept s0 ((e.st.raceRead q e.ii p.dpa n).scrubStore p.dpa n) := kept_scrubStore _ _ _ (kept_raceRead _ _ _ _ _ h)
    have key : ∀ (m : Eng Nat), KeptM EngSt.st m → Kept s0 (m { e with st := (e.st.raceRead q e.ii p.dpa n).scrubStore p.dpa n, reads := e.reads ++ [(p.dpa, n)] }).2.st :=
      fun m hm => hm s0 _ h1
    refine key _ ?_
    split
    · exact keptm_bind _ (keptm_Eng_change _ (fun s0 s h => kept_checkFailedStore _ _ _ _ h)) (fun _ => keptm_throw _ _)
    · exact keptm_pure _ _

theorem keptm_Eng_write (p : Place) (bs : List Byte)  : KeptM EngSt.st (Eng.write p bs) := by
  unfold Eng.write
  repeat' first | with_reducible assumption | with_reducible exact keptm_pure _ _ | with_reducible exact keptm_throw _ _ | with_reducible exact keptm_get _ | with_reducible apply keptm_Eng_addressError | with_reducible apply kept_addressError | with_reducible apply keptm_bind | with_reducible apply keptm_forM | with_reducible apply keptm_mapM | with_reducible apply keptm_foldlM | with_reducible apply keptm_modify | with_reducible apply kept_cond | with_reducible apply kept_syn | (with_reducible intro _) | split | dsimp only

theorem kept_updFn {s0 : State} (s : State) (h f : Nat) (g : HostFn → HostFn) (ht0 : Kept s0 s) : Kept s0 (State.updFn s h f g) := by
  unfold State.updFn; try dsimp only
  repeat' with_reducible first | assumption | intro _ _ _ | intro _ _ | exact kept_mk (by assumption) .. | split

theorem kept_updHport {s0 : State} (s : State) (h : Nat) (g : HostPort → HostPort) (ht0 : Kept s0 s) : Kept s0 (State.updHport s h g) := by
  unfold State.updHport; try dsimp only
  repeat' with_reducible first | assumption | intro _ _ _ | intro _ _ | exact kept_mk (by assumption) .. | split

theorem kept_hostOut {s0 : State} (s : State) (l : List HostOut) (ht0 : Kept s0 s) : Kept s0 (State.hostOut s l) := by
  unfold State.hostOut; try dsimp only
  repeat' with_reducible first | assumption | intro _ _ _ | intro _ _ | exact kept_mk (by assumption) .. | split

/-! ### Stack -/

theorem kept_updStacks {s0 : State} (s : State) (f : Stacks → Stacks) (ht0 : Kept s0 s) : Kept s0 (State.updStacks s f) := by
  unfold State.updStacks; try dsimp only
  repeat' with_reducible first | assumption | intro _ _ _ | intro _ _ | exact kept_mk (by assumption) .. | split

theorem kept_syncPc {s0 : State} (s : State) (n p : Nat) (ht0 : Kept s0 s) : Kept s0 (State.syncPc s n p) := by
  unfold State.syncPc; try dsimp only
  repeat' with_reducible first | assumption | intro _ _ _ | intro _ _ | apply kept_wrF | exact kept_mk (by assumption) .. | split

theorem kept_syncParts {s0 : State} (s : State) (ht0 : Kept s0 s) : Kept s0 (State.syncParts s) := by
  unfold State.syncParts; try dsimp only
  repeat' with_reducible first | assumption | intro _ _ _ | intro _ _ | apply kept_each | apply kept_foldl | apply kept_foldl_fst | apply kept_wrF | exact kept_mk (by assumption) .. | split

theorem kept_setFrames {s0 : State} (s : State) (gs : List Nat) (st : FrameState) (ht0 : Kept s0 s) : Kept s0 (State.setFrames s gs st) := by
  unfold State.setFrames; try dsimp only
  repeat' with_reducible first | assumption | intro _ _ _ | intro _ _ | apply kept_each | apply kept_foldl | apply kept_foldl_fst | apply kept_syncParts | apply kept_syncPc | apply kept_updStacks | exact kept_mk (by assumption) .. | split

theorem kept_syncStatus {s0 : State} (s : State) (n : Nat) (ht0 : Kept s0 s) : Kept s0 (State.syncStatus s n) := by
  unfold State.syncStatus; try dsimp only
  repeat' with_reducible first | assumption | intro _ _ _ | intro _ _ | apply kept_wrF | exact kept_mk (by assumption) .. | split

theorem kept_abortMigration {s0 : State} (s : State) (g : Migration) (ht0 : Kept s0 s) : Kept s0 (State.abortMigration s g) := by
  unfold State.abortMigration; try dsimp only
  repeat' with_reducible first | assumption | intro _ _ _ | intro _ _ | apply kept_count | apply kept_cpCommit | apply kept_each | apply kept_setFrames | apply kept_updStacks | exact kept_mk (by assumption) .. | split

theorem kept_abortMigrations {s0 : State} (s : State) (f : Migration → Bool) (ht0 : Kept s0 s) : Kept s0 (State.abortMigrations s f) := by
  unfold State.abortMigrations; try dsimp only
  repeat' with_reducible first | assumption | intro _ _ _ | intro _ _ | apply kept_abortMigration | apply kept_each | exact kept_mk (by assumption) .. | split

theorem kept_drainPc {s0 : State} (s : State) (n p : Nat) (ev : Bool) (ht0 : Kept s0 s) : Kept s0 (State.drainPc s n p ev) := by
  unfold State.drainPc at *
  grind only [kept_abortMigrations, kept_cond, kept_event, kept_mk, kept_syncStatus, kept_wrF]

theorem kept_lineThresholds {s0 : State} (s : State) (n p : Nat) (ht0 : Kept s0 s) : Kept s0 (State.lineThresholds s n p) := by
  unfold State.lineThresholds; try dsimp only
  repeat' with_reducible first | assumption | intro _ _ _ | intro _ _ | apply kept_cond | apply kept_drainPc | apply kept_event | exact kept_mk (by assumption) .. | split

theorem kept_readLine {s0 : State} (s : State) (patrol : Bool) (l : Nat) (ht0 : Kept s0 s) : Kept s0 (State.readLine s patrol l) := by
  unfold State.readLine at *
  grind only [Canon.cpBad, Canon.cpPend, Canon.csr, Canon.lineErr, Canon.mem, Canon.syn, Canon.wordErr, Tbl.Canonical.addAll, Tbl.Canonical.clear, Tbl.Canonical.set, Tbl.Canonical.setRun, Tbl.Canonical.upd, canonical_clearRange, kept_count, kept_event, kept_lineThresholds, kept_mk, kept_mk7, kept_wr]

theorem kept_readLines {s0 : State} (s : State) (a n : Nat) (ht0 : Kept s0 s) : Kept s0 (State.readLines s a n) := by
  unfold State.readLines; try dsimp only
  repeat' with_reducible first | assumption | intro _ _ _ | intro _ _ | apply kept_each | apply kept_readLine | exact kept_mk (by assumption) .. | split

theorem kept_heatOne {s0 : State} (s : State) (g origin : Nat) (ht0 : Kept s0 s) : Kept s0 (State.heatOne s g origin) := by
  unfold State.heatOne; try dsimp only
  repeat' with_reducible first | assumption | intro _ _ _ | intro _ _ | apply kept_updStacks | exact kept_mk (by assumption) .. | split

theorem kept_trackCount {s0 : State} (s : State) (n : Nat) (ht0 : Kept s0 s) : Kept s0 (State.trackCount s n) := by
  unfold State.trackCount; try dsimp only
  repeat' with_reducible first | assumption | intro _ _ _ | intro _ _ | apply kept_wrF | exact kept_mk (by assumption) .. | split

theorem kept_requestPasses {s0 : State} (s : State) (n : Nat) (ht0 : Kept s0 s) : Kept s0 (State.requestPasses s n) := by
  unfold State.requestPasses; try dsimp only
  repeat' with_reducible first | assumption | intro _ _ _ | intro _ _ | apply kept_wrF | exact kept_mk (by assumption) .. | split

theorem kept_tilePasses {s0 : State} (s : State) (g origin : Nat) (ht0 : Kept s0 s) : Kept s0 (State.tilePasses s g origin) := by
  unfold State.tilePasses; try dsimp only
  repeat' with_reducible first | assumption | intro _ _ _ | intro _ _ | apply kept_heatOne | apply kept_requestPasses | exact kept_mk (by assumption) .. | split

theorem kept_heatExtent {s0 : State} (s : State) (h off n : Nat) (ht0 : Kept s0 s) : Kept s0 (State.heatExtent s h off n) := by
  unfold State.heatExtent; try dsimp only
  repeat' with_reducible first | assumption | intro _ _ _ | intro _ _ | apply kept_each | apply kept_tilePasses | exact kept_mk (by assumption) .. | split

theorem kept_readExtent {s0 : State} (s : State) (h off n : Nat) (ht0 : Kept s0 s) : Kept s0 (State.readExtent s h off n) := by
  unfold State.readExtent; try dsimp only
  repeat' with_reducible first | assumption | intro _ _ _ | intro _ _ | apply kept_each | apply kept_readLines | apply kept_tilePasses | exact kept_mk (by assumption) .. | split

theorem kept_serveLine {s0 : State} (s : State) (r : LineAccess) (a : Nat) (ht0 : Kept s0 s) : Kept s0 (State.serveLine s r a) := by
  unfold State.serveLine at *
  grind only [kept_heatOne, kept_mk, kept_readLine, kept_writeBytes]

theorem kept_requestError {s0 : State} (s : State) (r : LineAccess) (a : Nat) (ht0 : Kept s0 s) : Kept s0 (State.requestError s r a) := by
  unfold State.requestError; try dsimp only
  repeat' with_reducible first | assumption | intro _ _ _ | intro _ _ | apply kept_addressError | apply kept_hostError | exact kept_mk (by assumption) .. | split

theorem kept_stackAccess {s0 : State} (s : State) (r : LineAccess) (ht0 : Kept s0 s) : Kept s0 (State.stackAccess s r) := by
  unfold State.stackAccess; try dsimp only
  repeat' with_reducible first | assumption | intro _ _ _ | intro _ _ | apply kept_addressError | apply kept_requestError | apply kept_serveLine | apply kept_trackCount | apply kept_updStacks | exact kept_mk (by assumption) .. | split

theorem kept_retryWaiting {s0 : State} (s : State) (n : Nat) (ht0 : Kept s0 s) : Kept s0 (State.retryWaiting s n) := by
  unfold State.retryWaiting; try dsimp only
  repeat' with_reducible first | assumption | intro _ _ _ | intro _ _ | apply kept_each | apply kept_stackAccess | apply kept_updStacks | exact kept_mk (by assumption) .. | split

theorem kept_releaseHeld {s0 : State} (s : State) (ht0 : Kept s0 s) : Kept s0 (State.releaseHeld s) := by
  unfold State.releaseHeld; try dsimp only
  repeat' with_reducible first | assumption | intro _ _ _ | intro _ _ | apply kept_each | apply kept_stackAccess | apply kept_updStacks | exact kept_mk (by assumption) .. | split

/-! ### Flags -/

theorem kept_countCluster {s0 : State} (s : State) (c x n : Nat) (ht0 : Kept s0 s) : Kept s0 (State.countCluster s c x n) := by
  unfold State.countCluster; try dsimp only
  repeat' with_reducible first | assumption | intro _ _ _ | intro _ _ | apply kept_count | exact kept_mk (by assumption) .. | split

theorem kept_countCell {s0 : State} (s : State) (c k x n : Nat) (ht0 : Kept s0 s) : Kept s0 (State.countCell s c k x n) := by
  unfold State.countCell; try dsimp only
  repeat' with_reducible first | assumption | intro _ _ _ | intro _ _ | apply kept_count | exact kept_mk (by assumption) .. | split

theorem kept_countMxe {s0 : State} (s : State) (c k fmt : Nat) (es : List Exc) (ht0 : Kept s0 s) : Kept s0 (State.countMxe s c k fmt es) := by
  unfold State.countMxe; try dsimp only
  repeat' with_reducible first | assumption | intro _ _ _ | intro _ _ | apply kept_countCell | exact kept_mk (by assumption) .. | split

theorem kept_countVxe {s0 : State} (s : State) (c k : Nat) (es : List Exc) (ht0 : Kept s0 s) : Kept s0 (State.countVxe s c k es) := by
  unfold State.countVxe; try dsimp only
  repeat' with_reducible first | assumption | intro _ _ _ | intro _ _ | apply kept_countCell | exact kept_mk (by assumption) .. | split

theorem kept_countFmx {s0 : State} (s : State) (c : Nat) (es : List Exc) (clamped : Nat) (ht0 : Kept s0 s) : Kept s0 (State.countFmx s c es clamped) := by
  unfold State.countFmx; try dsimp only
  repeat' with_reducible first | assumption | intro _ _ _ | intro _ _ | apply kept_countCluster | exact kept_mk (by assumption) .. | split

end Sys2Proof.Machine
end

