-- ==== Sys2Proof/Laws/KeptEngines.lean ====
section
/-!
SUPPORT. One lemma for each operation and command of the engines:
what it makes of a state that a start state keeps, that start keeps.
-/
set_option linter.all false
namespace Sys2Proof.Machine

/-! ### Mxe -/

theorem keptm_mxeOperand (q : Nat) (p : Place) (f kop : Nat) (sdisp : Int)  : KeptM EngSt.st (mxeOperand q p f kop sdisp) := by
  unfold mxeOperand
  repeat' first | with_reducible assumption | with_reducible exact keptm_pure _ _ | with_reducible exact keptm_throw _ _ | with_reducible exact keptm_get _ | with_reducible apply keptm_Eng_read | with_reducible apply keptm_bind | with_reducible apply keptm_forM | with_reducible apply keptm_mapM | with_reducible apply keptm_foldlM | with_reducible apply keptm_modify | with_reducible apply kept_cond | with_reducible apply kept_syn | (with_reducible intro _) | split | dsimp only

theorem keptm_mxeConfig (e : Engine) (sl : Slot)  : KeptM EngSt.st (mxeConfig e sl) := by
  unfold mxeConfig
  repeat' first | with_reducible assumption | with_reducible exact keptm_pure _ _ | with_reducible exact keptm_throw _ _ | with_reducible exact keptm_get _ | with_reducible apply keptm_bind | with_reducible apply keptm_forM | with_reducible apply keptm_mapM | with_reducible apply keptm_foldlM | with_reducible apply keptm_modify | with_reducible apply kept_cond | with_reducible apply kept_syn | (with_reducible intro _) | split | dsimp only

theorem keptm_mxeChain (q u k : Nat) (starts seeded ends : Bool) (e : Engine) (sl : Slot)  : KeptM EngSt.st (mxeChain q u k starts seeded ends e sl) := by
  unfold mxeChain
  repeat' first | with_reducible assumption | with_reducible exact keptm_pure _ _ | with_reducible exact keptm_throw _ _ | with_reducible exact keptm_get _ | with_reducible apply keptm_Eng_change | with_reducible apply keptm_Eng_illegal | with_reducible apply keptm_Eng_read | with_reducible apply keptm_Eng_state | with_reducible apply keptm_Eng_write | with_reducible apply keptm_mxeOperand | with_reducible apply kept_countCell | with_reducible apply kept_countMxe | with_reducible apply keptm_bind | with_reducible apply keptm_forM | with_reducible apply keptm_mapM | with_reducible apply keptm_foldlM | with_reducible apply keptm_modify | with_reducible apply kept_cond | with_reducible apply kept_syn | (with_reducible intro _) | split | dsimp only

theorem keptm_mxeRun (q u k : Nat) (e : Engine) (sl : Slot)  : KeptM EngSt.st (mxeRun q u k e sl) := by
  unfold mxeRun
  repeat' first | with_reducible assumption | with_reducible exact keptm_pure _ _ | with_reducible exact keptm_throw _ _ | with_reducible exact keptm_get _ | with_reducible apply keptm_Eng_illegal | with_reducible apply keptm_mxeChain | with_reducible apply keptm_mxeConfig | with_reducible apply keptm_bind | with_reducible apply keptm_forM | with_reducible apply keptm_mapM | with_reducible apply keptm_foldlM | with_reducible apply keptm_modify | with_reducible apply kept_cond | with_reducible apply kept_syn | (with_reducible intro _) | split | dsimp only

/-! ### Vxe -/

theorem keptm_vxeConfig (e : Engine) (sl : Slot)  : KeptM EngSt.st (vxeConfig e sl) := by
  unfold vxeConfig
  repeat' first | with_reducible assumption | with_reducible exact keptm_pure _ _ | with_reducible exact keptm_throw _ _ | with_reducible exact keptm_get _ | with_reducible apply keptm_bind | with_reducible apply keptm_forM | with_reducible apply keptm_mapM | with_reducible apply keptm_foldlM | with_reducible apply keptm_modify | with_reducible apply kept_cond | with_reducible apply kept_syn | (with_reducible intro _) | split | dsimp only

theorem keptm_vxeMap (q u k : Nat) (e : Engine) (sl : Slot)  : KeptM EngSt.st (vxeMap q u k e sl) := by
  unfold vxeMap
  repeat' first | with_reducible assumption | with_reducible exact keptm_pure _ _ | with_reducible exact keptm_throw _ _ | with_reducible exact keptm_get _ | with_reducible apply keptm_Eng_change | with_reducible apply keptm_Eng_read | with_reducible apply keptm_Eng_state | with_reducible apply keptm_Eng_write | with_reducible apply kept_countVxe | with_reducible apply keptm_bind | with_reducible apply keptm_forM | with_reducible apply keptm_mapM | with_reducible apply keptm_foldlM | with_reducible apply keptm_modify | with_reducible apply kept_cond | with_reducible apply kept_syn | (with_reducible intro _) | split | dsimp only

theorem keptm_vxeRed (q u k : Nat) (e : Engine) (sl : Slot)  : KeptM EngSt.st (vxeRed q u k e sl) := by
  unfold vxeRed
  repeat' first | with_reducible assumption | with_reducible exact keptm_pure _ _ | with_reducible exact keptm_throw _ _ | with_reducible exact keptm_get _ | with_reducible apply keptm_Eng_change | with_reducible apply keptm_Eng_read | with_reducible apply keptm_Eng_state | with_reducible apply keptm_Eng_write | with_reducible apply kept_countVxe | with_reducible apply keptm_bind | with_reducible apply keptm_forM | with_reducible apply keptm_mapM | with_reducible apply keptm_foldlM | with_reducible apply keptm_modify | with_reducible apply kept_cond | with_reducible apply kept_syn | (with_reducible intro _) | split | dsimp only

theorem keptm_vxeRun (q u k : Nat) (e : Engine) (sl : Slot)  : KeptM EngSt.st (vxeRun q u k e sl) := by
  unfold vxeRun
  repeat' first | with_reducible assumption | with_reducible exact keptm_pure _ _ | with_reducible exact keptm_throw _ _ | with_reducible exact keptm_get _ | with_reducible apply keptm_Eng_illegal | with_reducible apply keptm_vxeConfig | with_reducible apply keptm_vxeMap | with_reducible apply keptm_vxeRed | with_reducible apply keptm_bind | with_reducible apply keptm_forM | with_reducible apply keptm_mapM | with_reducible apply keptm_foldlM | with_reducible apply keptm_modify | with_reducible apply kept_cond | with_reducible apply kept_syn | (with_reducible intro _) | split | dsimp only

theorem keptm_ringConfig (e : Engine) (sl : Slot)  : KeptM EngSt.st (ringConfig e sl) := by
  unfold ringConfig
  repeat' first | with_reducible assumption | with_reducible exact keptm_pure _ _ | with_reducible exact keptm_throw _ _ | with_reducible exact keptm_get _ | with_reducible apply keptm_bind | with_reducible apply keptm_forM | with_reducible apply keptm_mapM | with_reducible apply keptm_foldlM | with_reducible apply keptm_modify | with_reducible apply kept_cond | with_reducible apply kept_syn | (with_reducible intro _) | split | dsimp only

theorem keptm_ringReduce (q u : Nat) (e : Engine) (sl : Slot) : KeptM EngSt.st (ringReduce q u e sl) := by
  have hr : ∀ (o n : Nat) (l : List Nat), KeptM EngSt.st (ringRead q u e o n l) := by
    intro o n l
    induction l with
    | nil => exact keptm_pure _ _
    | cons k l ih =>
      exact keptm_bind _ keptm_Eng_state (fun s => keptm_bind _ (keptm_Eng_read _ _ _ _) (fun _ => keptm_bind _ ih (fun _ => keptm_pure _ _)))
  unfold ringReduce
  refine keptm_bind _ (hr _ _ _) (fun xs => keptm_bind _ keptm_Eng_state (fun s => keptm_bind _ (keptm_Eng_write _ _) (fun ws => keptm_bind _ (keptm_Eng_change _ ?_) (fun _ => keptm_pure _ _))))
  intro s0 s h
  exact kept_countCluster _ _ _ _ (kept_countCluster _ _ _ _ h)

theorem keptm_ringBroadcast (q u : Nat) (e : Engine) (sl : Slot)  : KeptM EngSt.st (ringBroadcast q u e sl) := by
  unfold ringBroadcast
  repeat' first | with_reducible assumption | with_reducible exact keptm_pure _ _ | with_reducible exact keptm_throw _ _ | with_reducible exact keptm_get _ | with_reducible apply keptm_Eng_read | with_reducible apply keptm_Eng_state | with_reducible apply keptm_Eng_write | with_reducible apply keptm_bind | with_reducible apply keptm_forM | with_reducible apply keptm_mapM | with_reducible apply keptm_foldlM | with_reducible apply keptm_modify | with_reducible apply kept_cond | with_reducible apply kept_syn | (with_reducible intro _) | split | dsimp only

theorem keptm_ringConcat (q u : Nat) (e : Engine) (sl : Slot) : KeptM EngSt.st (ringConcat q u e sl) := by
  have hr : ∀ (o n : Nat) (l : List Nat), KeptM EngSt.st (ringRead q u e o n l) := by
    intro o n l
    induction l with
    | nil => exact keptm_pure _ _
    | cons k l ih =>
      exact keptm_bind _ keptm_Eng_state (fun s => keptm_bind _ (keptm_Eng_read _ _ _ _) (fun _ => keptm_bind _ ih (fun _ => keptm_pure _ _)))
  unfold ringConcat
  exact keptm_bind _ (hr _ _ _) (fun xs => keptm_bind _ keptm_Eng_state (fun s => keptm_bind _ (keptm_Eng_write _ _) (fun ws => keptm_pure _ _)))

theorem keptm_ringRun (q u : Nat) (e : Engine) (sl : Slot)  : KeptM EngSt.st (ringRun q u e sl) := by
  unfold ringRun
  repeat' first | with_reducible assumption | with_reducible exact keptm_pure _ _ | with_reducible exact keptm_throw _ _ | with_reducible exact keptm_get _ | with_reducible apply keptm_Eng_illegal | with_reducible apply keptm_ringBroadcast | with_reducible apply keptm_ringConcat | with_reducible apply keptm_ringConfig | with_reducible apply keptm_ringReduce | with_reducible apply keptm_bind | with_reducible apply keptm_forM | with_reducible apply keptm_mapM | with_reducible apply keptm_foldlM | with_reducible apply keptm_modify | with_reducible apply kept_cond | with_reducible apply kept_syn | (with_reducible intro _) | split | dsimp only

/-! ### Fmx -/

theorem keptm_fmxConfig (e : Engine) (sl : Slot)  : KeptM EngSt.st (fmxConfig e sl) := by
  unfold fmxConfig
  repeat' first | with_reducible assumption | with_reducible exact keptm_pure _ _ | with_reducible exact keptm_throw _ _ | with_reducible exact keptm_get _ | with_reducible apply keptm_bind | with_reducible apply keptm_forM | with_reducible apply keptm_mapM | with_reducible apply keptm_foldlM | with_reducible apply keptm_modify | with_reducible apply kept_cond | with_reducible apply kept_syn | (with_reducible intro _) | split | dsimp only

theorem keptm_fmxSource (q u : Nat) (e : Engine) (sl : Slot)  : KeptM EngSt.st (fmxSource q u e sl) := by
  unfold fmxSource
  repeat' first | with_reducible assumption | with_reducible exact keptm_pure _ _ | with_reducible exact keptm_throw _ _ | with_reducible exact keptm_get _ | with_reducible apply keptm_Eng_read | with_reducible apply keptm_Eng_state | with_reducible apply keptm_bind | with_reducible apply keptm_forM | with_reducible apply keptm_mapM | with_reducible apply keptm_foldlM | with_reducible apply keptm_modify | with_reducible apply kept_cond | with_reducible apply kept_syn | (with_reducible intro _) | split | dsimp only

theorem keptm_fmxFcvt (q u : Nat) (e : Engine) (sl : Slot)  : KeptM EngSt.st (fmxFcvt q u e sl) := by
  unfold fmxFcvt
  repeat' first | with_reducible assumption | with_reducible exact keptm_pure _ _ | with_reducible exact keptm_throw _ _ | with_reducible exact keptm_get _ | with_reducible apply keptm_Eng_addressError | with_reducible apply keptm_Eng_change | with_reducible apply keptm_Eng_illegal | with_reducible apply keptm_Eng_state | with_reducible apply keptm_Eng_write | with_reducible apply keptm_fmxSource | with_reducible apply kept_addressError | with_reducible apply kept_countFmx | with_reducible apply keptm_bind | with_reducible apply keptm_forM | with_reducible apply keptm_mapM | with_reducible apply keptm_foldlM | with_reducible apply keptm_modify | with_reducible apply kept_cond | with_reducible apply kept_syn | (with_reducible intro _) | split | dsimp only

theorem keptm_fmxFscale (q u : Nat) (e : Engine) (sl : Slot)  : KeptM EngSt.st (fmxFscale q u e sl) := by
  unfold fmxFscale
  repeat' first | with_reducible assumption | with_reducible exact keptm_pure _ _ | with_reducible exact keptm_throw _ _ | with_reducible exact keptm_get _ | with_reducible apply keptm_Eng_change | with_reducible apply keptm_Eng_illegal | with_reducible apply keptm_Eng_state | with_reducible apply keptm_Eng_write | with_reducible apply keptm_fmxSource | with_reducible apply kept_countFmx | with_reducible apply keptm_bind | with_reducible apply keptm_forM | with_reducible apply keptm_mapM | with_reducible apply keptm_foldlM | with_reducible apply keptm_modify | with_reducible apply kept_cond | with_reducible apply kept_syn | (with_reducible intro _) | split | dsimp only

theorem keptm_fmxRun (q u : Nat) (e : Engine) (sl : Slot)  : KeptM EngSt.st (fmxRun q u e sl) := by
  unfold fmxRun
  repeat' first | with_reducible assumption | with_reducible exact keptm_pure _ _ | with_reducible exact keptm_throw _ _ | with_reducible exact keptm_get _ | with_reducible apply keptm_Eng_illegal | with_reducible apply keptm_fmxConfig | with_reducible apply keptm_fmxFcvt | with_reducible apply keptm_fmxFscale | with_reducible apply keptm_bind | with_reducible apply keptm_forM | with_reducible apply keptm_mapM | with_reducible apply keptm_foldlM | with_reducible apply keptm_modify | with_reducible apply kept_cond | with_reducible apply kept_syn | (with_reducible intro _) | split | dsimp only

/-! ### Zoo -/

theorem keptm_clusterPlace (q u : Nat) (e : Engine) (o : Nat)  : KeptM EngSt.st (clusterPlace q u e o) := by
  unfold clusterPlace
  repeat' first | with_reducible assumption | with_reducible exact keptm_pure _ _ | with_reducible exact keptm_throw _ _ | with_reducible exact keptm_get _ | with_reducible apply keptm_Eng_state | with_reducible apply keptm_bind | with_reducible apply keptm_forM | with_reducible apply keptm_mapM | with_reducible apply keptm_foldlM | with_reducible apply keptm_modify | with_reducible apply kept_cond | with_reducible apply kept_syn | (with_reducible intro _) | split | dsimp only

theorem keptm_clusterRead (q u : Nat) (e : Engine) (o n : Nat)  : KeptM EngSt.st (clusterRead q u e o n) := by
  unfold clusterRead
  repeat' first | with_reducible assumption | with_reducible exact keptm_pure _ _ | with_reducible exact keptm_throw _ _ | with_reducible exact keptm_get _ | with_reducible apply keptm_Eng_read | with_reducible apply keptm_clusterPlace | with_reducible apply keptm_bind | with_reducible apply keptm_forM | with_reducible apply keptm_mapM | with_reducible apply keptm_foldlM | with_reducible apply keptm_modify | with_reducible apply kept_cond | with_reducible apply kept_syn | (with_reducible intro _) | split | dsimp only

theorem keptm_clusterWrite (q u : Nat) (e : Engine) (o : Nat) (bs : List Byte)  : KeptM EngSt.st (clusterWrite q u e o bs) := by
  unfold clusterWrite
  repeat' first | with_reducible assumption | with_reducible exact keptm_pure _ _ | with_reducible exact keptm_throw _ _ | with_reducible exact keptm_get _ | with_reducible apply keptm_Eng_write | with_reducible apply keptm_clusterPlace | with_reducible apply keptm_bind | with_reducible apply keptm_forM | with_reducible apply keptm_mapM | with_reducible apply keptm_foldlM | with_reducible apply keptm_modify | with_reducible apply kept_cond | with_reducible apply kept_syn | (with_reducible intro _) | split | dsimp only

theorem keptm_engCluster (q u : Nat)  : KeptM EngSt.st (engCluster q u) := by
  unfold engCluster
  repeat' first | with_reducible assumption | with_reducible exact keptm_pure _ _ | with_reducible exact keptm_throw _ _ | with_reducible exact keptm_get _ | with_reducible apply keptm_Eng_state | with_reducible apply keptm_bind | with_reducible apply keptm_forM | with_reducible apply keptm_mapM | with_reducible apply keptm_foldlM | with_reducible apply keptm_modify | with_reducible apply kept_cond | with_reducible apply kept_syn | (with_reducible intro _) | split | dsimp only

theorem keptm_knxCopy (q u : Nat) (e : Engine) (sl : Slot)  : KeptM EngSt.st (knxCopy q u e sl) := by
  unfold knxCopy
  repeat' first | with_reducible assumption | with_reducible exact keptm_pure _ _ | with_reducible exact keptm_throw _ _ | with_reducible exact keptm_get _ | with_reducible apply keptm_clusterRead | with_reducible apply keptm_clusterWrite | with_reducible apply keptm_bind | with_reducible apply keptm_forM | with_reducible apply keptm_mapM | with_reducible apply keptm_foldlM | with_reducible apply keptm_modify | with_reducible apply kept_cond | with_reducible apply kept_syn | (with_reducible intro _) | split | dsimp only

theorem keptm_knxTrans (q u : Nat) (e : Engine) (sl : Slot)  : KeptM EngSt.st (knxTrans q u e sl) := by
  unfold knxTrans
  repeat' first | with_reducible assumption | with_reducible exact keptm_pure _ _ | with_reducible exact keptm_throw _ _ | with_reducible exact keptm_get _ | with_reducible apply keptm_clusterRead | with_reducible apply keptm_clusterWrite | with_reducible apply keptm_bind | with_reducible apply keptm_forM | with_reducible apply keptm_mapM | with_reducible apply keptm_foldlM | with_reducible apply keptm_modify | with_reducible apply kept_cond | with_reducible apply kept_syn | (with_reducible intro _) | split | dsimp only

theorem keptm_knxPerm (q u : Nat) (e : Engine) (sl : Slot)  : KeptM EngSt.st (knxPerm q u e sl) := by
  unfold knxPerm
  repeat' first | with_reducible assumption | with_reducible exact keptm_pure _ _ | with_reducible exact keptm_throw _ _ | with_reducible exact keptm_get _ | with_reducible apply keptm_Eng_change | with_reducible apply keptm_clusterRead | with_reducible apply keptm_clusterWrite | with_reducible apply keptm_engCluster | with_reducible apply kept_countCluster | with_reducible apply keptm_bind | with_reducible apply keptm_forM | with_reducible apply keptm_mapM | with_reducible apply keptm_foldlM | with_reducible apply keptm_modify | with_reducible apply kept_cond | with_reducible apply kept_syn | (with_reducible intro _) | split | dsimp only

theorem keptm_knxRow (p : Place) (r : Nat) (i : Int)  : KeptM EngSt.st (knxRow p r i) := by
  unfold knxRow
  repeat' first | with_reducible assumption | with_reducible exact keptm_pure _ _ | with_reducible exact keptm_throw _ _ | with_reducible exact keptm_get _ | with_reducible apply keptm_Eng_addressError | with_reducible apply kept_addressError | with_reducible apply keptm_bind | with_reducible apply keptm_forM | with_reducible apply keptm_mapM | with_reducible apply keptm_foldlM | with_reducible apply keptm_modify | with_reducible apply kept_cond | with_reducible apply kept_syn | (with_reducible intro _) | split | dsimp only

theorem keptm_knxGather (q u : Nat) (e : Engine) (sl : Slot)  : KeptM EngSt.st (knxGather q u e sl) := by
  unfold knxGather
  repeat' first | with_reducible assumption | with_reducible exact keptm_pure _ _ | with_reducible exact keptm_throw _ _ | with_reducible exact keptm_get _ | with_reducible apply keptm_Eng_addressError | with_reducible apply keptm_Eng_read | with_reducible apply keptm_clusterPlace | with_reducible apply keptm_clusterRead | with_reducible apply keptm_clusterWrite | with_reducible apply keptm_knxRow | with_reducible apply kept_addressError | with_reducible apply keptm_bind | with_reducible apply keptm_forM | with_reducible apply keptm_mapM | with_reducible apply keptm_foldlM | with_reducible apply keptm_modify | with_reducible apply kept_cond | with_reducible apply kept_syn | (with_reducible intro _) | split | dsimp only

theorem keptm_knxScatter (q u : Nat) (e : Engine) (sl : Slot)  : KeptM EngSt.st (knxScatter q u e sl) := by
  unfold knxScatter
  repeat' first | with_reducible assumption | with_reducible exact keptm_pure _ _ | with_reducible exact keptm_throw _ _ | with_reducible exact keptm_get _ | with_reducible apply keptm_Eng_addressError | with_reducible apply keptm_Eng_write | with_reducible apply keptm_clusterPlace | with_reducible apply keptm_clusterRead | with_reducible apply keptm_knxRow | with_reducible apply kept_addressError | with_reducible apply keptm_bind | with_reducible apply keptm_forM | with_reducible apply keptm_mapM | with_reducible apply keptm_foldlM | with_reducible apply keptm_modify | with_reducible apply kept_cond | with_reducible apply kept_syn | (with_reducible intro _) | split | dsimp only

theorem keptm_knxRun (q u : Nat) (e : Engine) (sl : Slot)  : KeptM EngSt.st (knxRun q u e sl) := by
  unfold knxRun
  repeat' first | with_reducible assumption | with_reducible exact keptm_pure _ _ | with_reducible exact keptm_throw _ _ | with_reducible exact keptm_get _ | with_reducible apply keptm_Eng_illegal | with_reducible apply keptm_knxCopy | with_reducible apply keptm_knxGather | with_reducible apply keptm_knxPerm | with_reducible apply keptm_knxScatter | with_reducible apply keptm_knxTrans | with_reducible apply keptm_bind | with_reducible apply keptm_forM | with_reducible apply keptm_mapM | with_reducible apply keptm_foldlM | with_reducible apply keptm_modify | with_reducible apply kept_cond | with_reducible apply kept_syn | (with_reducible intro _) | split | dsimp only

theorem keptm_trxConfig (e : Engine) (sl : Slot)  : KeptM EngSt.st (trxConfig e sl) := by
  unfold trxConfig
  repeat' first | with_reducible assumption | with_reducible exact keptm_pure _ _ | with_reducible exact keptm_throw _ _ | with_reducible exact keptm_get _ | with_reducible apply keptm_bind | with_reducible apply keptm_forM | with_reducible apply keptm_mapM | with_reducible apply keptm_foldlM | with_reducible apply keptm_modify | with_reducible apply kept_cond | with_reducible apply kept_syn | (with_reducible intro _) | split | dsimp only

theorem keptm_trxFunction (q u : Nat) (e : Engine) (sl : Slot)  : KeptM EngSt.st (trxFunction q u e sl) := by
  unfold trxFunction
  repeat' first | with_reducible assumption | with_reducible exact keptm_pure _ _ | with_reducible exact keptm_throw _ _ | with_reducible exact keptm_get _ | with_reducible apply keptm_Eng_change | with_reducible apply keptm_clusterRead | with_reducible apply keptm_clusterWrite | with_reducible apply keptm_engCluster | with_reducible apply kept_countCluster | with_reducible apply keptm_bind | with_reducible apply keptm_forM | with_reducible apply keptm_mapM | with_reducible apply keptm_foldlM | with_reducible apply keptm_modify | with_reducible apply kept_cond | with_reducible apply kept_syn | (with_reducible intro _) | split | dsimp only

theorem keptm_trxRun (q u : Nat) (e : Engine) (sl : Slot)  : KeptM EngSt.st (trxRun q u e sl) := by
  unfold trxRun
  repeat' first | with_reducible assumption | with_reducible exact keptm_pure _ _ | with_reducible exact keptm_throw _ _ | with_reducible exact keptm_get _ | with_reducible apply keptm_Eng_illegal | with_reducible apply keptm_trxConfig | with_reducible apply keptm_trxFunction | with_reducible apply keptm_bind | with_reducible apply keptm_forM | with_reducible apply keptm_mapM | with_reducible apply keptm_foldlM | with_reducible apply keptm_modify | with_reducible apply kept_cond | with_reducible apply kept_syn | (with_reducible intro _) | split | dsimp only

theorem keptm_ssxConfig (e : Engine) (sl : Slot)  : KeptM EngSt.st (ssxConfig e sl) := by
  unfold ssxConfig
  repeat' first | with_reducible assumption | with_reducible exact keptm_pure _ _ | with_reducible exact keptm_throw _ _ | with_reducible exact keptm_get _ | with_reducible apply keptm_bind | with_reducible apply keptm_forM | with_reducible apply keptm_mapM | with_reducible apply keptm_foldlM | with_reducible apply keptm_modify | with_reducible apply kept_cond | with_reducible apply kept_syn | (with_reducible intro _) | split | dsimp only

theorem keptm_ssxOrder (top : Bool) (q u : Nat) (e : Engine) (sl : Slot)  : KeptM EngSt.st (ssxOrder top q u e sl) := by
  unfold ssxOrder
  repeat' first | with_reducible assumption | with_reducible exact keptm_pure _ _ | with_reducible exact keptm_throw _ _ | with_reducible exact keptm_get _ | with_reducible apply keptm_Eng_change | with_reducible apply keptm_Eng_illegal | with_reducible apply keptm_clusterRead | with_reducible apply keptm_clusterWrite | with_reducible apply keptm_engCluster | with_reducible apply kept_countCluster | with_reducible apply keptm_bind | with_reducible apply keptm_forM | with_reducible apply keptm_mapM | with_reducible apply keptm_foldlM | with_reducible apply keptm_modify | with_reducible apply kept_cond | with_reducible apply kept_syn | (with_reducible intro _) | split | dsimp only

theorem keptm_ssxRun (q u : Nat) (e : Engine) (sl : Slot)  : KeptM EngSt.st (ssxRun q u e sl) := by
  unfold ssxRun
  repeat' first | with_reducible assumption | with_reducible exact keptm_pure _ _ | with_reducible exact keptm_throw _ _ | with_reducible exact keptm_get _ | with_reducible apply keptm_Eng_illegal | with_reducible apply keptm_ssxConfig | with_reducible apply keptm_ssxOrder | with_reducible apply keptm_bind | with_reducible apply keptm_forM | with_reducible apply keptm_mapM | with_reducible apply keptm_foldlM | with_reducible apply keptm_modify | with_reducible apply kept_cond | with_reducible apply kept_syn | (with_reducible intro _) | split | dsimp only

theorem keptm_ixxConfig (e : Engine) (sl : Slot)  : KeptM EngSt.st (ixxConfig e sl) := by
  unfold ixxConfig
  repeat' first | with_reducible assumption | with_reducible exact keptm_pure _ _ | with_reducible exact keptm_throw _ _ | with_reducible exact keptm_get _ | with_reducible apply keptm_bind | with_reducible apply keptm_forM | with_reducible apply keptm_mapM | with_reducible apply keptm_foldlM | with_reducible apply keptm_modify | with_reducible apply kept_cond | with_reducible apply kept_syn | (with_reducible intro _) | split | dsimp only

theorem keptm_ixxHist (q u : Nat) (e : Engine) (sl : Slot)  : KeptM EngSt.st (ixxHist q u e sl) := by
  unfold ixxHist
  repeat' first | with_reducible assumption | with_reducible exact keptm_pure _ _ | with_reducible exact keptm_throw _ _ | with_reducible exact keptm_get _ | with_reducible apply keptm_Eng_change | with_reducible apply keptm_clusterRead | with_reducible apply keptm_clusterWrite | with_reducible apply keptm_engCluster | with_reducible apply kept_countCluster | with_reducible apply keptm_bind | with_reducible apply keptm_forM | with_reducible apply keptm_mapM | with_reducible apply keptm_foldlM | with_reducible apply keptm_modify | with_reducible apply kept_cond | with_reducible apply kept_syn | (with_reducible intro _) | split | dsimp only

theorem keptm_ixxPrefix (q u : Nat) (e : Engine) (sl : Slot)  : KeptM EngSt.st (ixxPrefix q u e sl) := by
  unfold ixxPrefix
  repeat' first | with_reducible assumption | with_reducible exact keptm_pure _ _ | with_reducible exact keptm_throw _ _ | with_reducible exact keptm_get _ | with_reducible apply keptm_clusterRead | with_reducible apply keptm_clusterWrite | with_reducible apply keptm_bind | with_reducible apply keptm_forM | with_reducible apply keptm_mapM | with_reducible apply keptm_foldlM | with_reducible apply keptm_modify | with_reducible apply kept_cond | with_reducible apply kept_syn | (with_reducible intro _) | split | dsimp only

theorem keptm_ixxCompact (q u : Nat) (e : Engine) (sl : Slot)  : KeptM EngSt.st (ixxCompact q u e sl) := by
  unfold ixxCompact
  repeat' first | with_reducible assumption | with_reducible exact keptm_pure _ _ | with_reducible exact keptm_throw _ _ | with_reducible exact keptm_get _ | with_reducible apply keptm_clusterRead | with_reducible apply keptm_clusterWrite | with_reducible apply keptm_bind | with_reducible apply keptm_forM | with_reducible apply keptm_mapM | with_reducible apply keptm_foldlM | with_reducible apply keptm_modify | with_reducible apply kept_cond | with_reducible apply kept_syn | (with_reducible intro _) | split | dsimp only

theorem keptm_ixxRoute (q u : Nat) (e : Engine) (sl : Slot)  : KeptM EngSt.st (ixxRoute q u e sl) := by
  unfold ixxRoute
  repeat' first | with_reducible assumption | with_reducible exact keptm_pure _ _ | with_reducible exact keptm_throw _ _ | with_reducible exact keptm_get _ | with_reducible apply keptm_Eng_change | with_reducible apply keptm_clusterRead | with_reducible apply keptm_clusterWrite | with_reducible apply keptm_engCluster | with_reducible apply kept_countCluster | with_reducible apply keptm_bind | with_reducible apply keptm_forM | with_reducible apply keptm_mapM | with_reducible apply keptm_foldlM | with_reducible apply keptm_modify | with_reducible apply kept_cond | with_reducible apply kept_syn | (with_reducible intro _) | split | dsimp only

theorem keptm_ixxRun (q u : Nat) (e : Engine) (sl : Slot)  : KeptM EngSt.st (ixxRun q u e sl) := by
  unfold ixxRun
  repeat' first | with_reducible assumption | with_reducible exact keptm_pure _ _ | with_reducible exact keptm_throw _ _ | with_reducible exact keptm_get _ | with_reducible apply keptm_Eng_illegal | with_reducible apply keptm_ixxCompact | with_reducible apply keptm_ixxConfig | with_reducible apply keptm_ixxHist | with_reducible apply keptm_ixxPrefix | with_reducible apply keptm_ixxRoute | with_reducible apply keptm_bind | with_reducible apply keptm_forM | with_reducible apply keptm_mapM | with_reducible apply keptm_foldlM | with_reducible apply keptm_modify | with_reducible apply kept_cond | with_reducible apply kept_syn | (with_reducible intro _) | split | dsimp only

theorem keptm_cpxComp (q u : Nat) (e : Engine) (sl : Slot)  : KeptM EngSt.st (cpxComp q u e sl) := by
  unfold cpxComp
  repeat' first | with_reducible assumption | with_reducible exact keptm_pure _ _ | with_reducible exact keptm_throw _ _ | with_reducible exact keptm_get _ | with_reducible apply keptm_Eng_change | with_reducible apply keptm_clusterRead | with_reducible apply keptm_clusterWrite | with_reducible apply keptm_engCluster | with_reducible apply kept_countCluster | with_reducible apply keptm_bind | with_reducible apply keptm_forM | with_reducible apply keptm_mapM | with_reducible apply keptm_foldlM | with_reducible apply keptm_modify | with_reducible apply kept_cond | with_reducible apply kept_syn | (with_reducible intro _) | split | dsimp only

theorem keptm_cpxDec (q u : Nat) (e : Engine) (sl : Slot)  : KeptM EngSt.st (cpxDec q u e sl) := by
  unfold cpxDec
  repeat' first | with_reducible assumption | with_reducible exact keptm_pure _ _ | with_reducible exact keptm_throw _ _ | with_reducible exact keptm_get _ | with_reducible apply keptm_Eng_change | with_reducible apply keptm_clusterPlace | with_reducible apply keptm_clusterRead | with_reducible apply keptm_clusterWrite | with_reducible apply kept_checkFailedStore | with_reducible apply keptm_bind | with_reducible apply keptm_forM | with_reducible apply keptm_mapM | with_reducible apply keptm_foldlM | with_reducible apply keptm_modify | with_reducible apply kept_cond | with_reducible apply kept_syn | (with_reducible intro _) | split | dsimp only

theorem keptm_cpxRun (q u : Nat) (e : Engine) (sl : Slot)  : KeptM EngSt.st (cpxRun q u e sl) := by
  unfold cpxRun
  repeat' first | with_reducible assumption | with_reducible exact keptm_pure _ _ | with_reducible exact keptm_throw _ _ | with_reducible exact keptm_get _ | with_reducible apply keptm_Eng_illegal | with_reducible apply keptm_cpxComp | with_reducible apply keptm_cpxDec | with_reducible apply keptm_bind | with_reducible apply keptm_forM | with_reducible apply keptm_mapM | with_reducible apply keptm_foldlM | with_reducible apply keptm_modify | with_reducible apply kept_cond | with_reducible apply kept_syn | (with_reducible intro _) | split | dsimp only

theorem keptm_rnxGen (q u : Nat) (e : Engine) (sl : Slot)  : KeptM EngSt.st (rnxGen q u e sl) := by
  unfold rnxGen
  repeat' first | with_reducible assumption | with_reducible exact keptm_pure _ _ | with_reducible exact keptm_throw _ _ | with_reducible exact keptm_get _ | with_reducible apply keptm_Eng_state | with_reducible apply keptm_clusterWrite | with_reducible apply keptm_bind | with_reducible apply keptm_forM | with_reducible apply keptm_mapM | with_reducible apply keptm_foldlM | with_reducible apply keptm_modify | with_reducible apply kept_cond | with_reducible apply kept_syn | (with_reducible intro _) | split | dsimp only

theorem keptm_rnxRun (q u : Nat) (e : Engine) (sl : Slot)  : KeptM EngSt.st (rnxRun q u e sl) := by
  unfold rnxRun
  repeat' first | with_reducible assumption | with_reducible exact keptm_pure _ _ | with_reducible exact keptm_throw _ _ | with_reducible exact keptm_get _ | with_reducible apply keptm_Eng_illegal | with_reducible apply keptm_rnxGen | with_reducible apply keptm_bind | with_reducible apply keptm_forM | with_reducible apply keptm_mapM | with_reducible apply keptm_foldlM | with_reducible apply keptm_modify | with_reducible apply kept_cond | with_reducible apply kept_syn | (with_reducible intro _) | split | dsimp only

theorem keptm_engineRun (q cls u k : Nat) (e : Engine) (sl : Slot)  : KeptM EngSt.st (engineRun q cls u k e sl) := by
  unfold engineRun
  repeat' first | with_reducible assumption | with_reducible exact keptm_pure _ _ | with_reducible exact keptm_throw _ _ | with_reducible exact keptm_get _ | with_reducible apply keptm_Eng_illegal | with_reducible apply keptm_cpxRun | with_reducible apply keptm_fmxRun | with_reducible apply keptm_ixxRun | with_reducible apply keptm_knxRun | with_reducible apply keptm_mxeRun | with_reducible apply keptm_ringRun | with_reducible apply keptm_rnxRun | with_reducible apply keptm_ssxRun | with_reducible apply keptm_trxRun | with_reducible apply keptm_vxeRun | with_reducible apply keptm_bind | with_reducible apply keptm_forM | with_reducible apply keptm_mapM | with_reducible apply keptm_foldlM | with_reducible apply keptm_modify | with_reducible apply kept_cond | with_reducible apply kept_syn | (with_reducible intro _) | split | dsimp only

end Sys2Proof.Machine
end

