-- ==== Sys2Proof/Laws/KeptSeq.lean ====
section
/-!
SUPPORT. One lemma for each operation and command of the sequencers, the stacks, the base engines and the breadboxes:
what it makes of a state that a start state keeps, that start keeps.
-/
set_option linter.all false
namespace Sys2Proof.Machine

/-! ### Seq -/

theorem kept_setSeqState {s0 : State} (s : State) (q st cause : Nat) (ht0 : Kept s0 s) : Kept s0 (State.setSeqState s q st cause) := by
  unfold State.setSeqState; try dsimp only
  repeat' with_reducible first | assumption | intro _ _ _ | intro _ _ | apply kept_wrF | exact kept_mk (by assumption) .. | split

theorem kept_attribute {s0 : State} (s : State) (q cause : Nat) (ht0 : Kept s0 s) : Kept s0 (State.attribute s q cause) := by
  unfold State.attribute; try dsimp only
  repeat' with_reducible first | assumption | intro _ _ _ | intro _ _ | apply kept_count | apply kept_updSeq | exact kept_mk (by assumption) .. | split

theorem kept_freezeOn {s0 : State} (s : State) (q : Nat) (f : Freeze) (st cause : Nat) (ht0 : Kept s0 s) : Kept s0 (State.freezeOn s q f st cause) := by
  unfold State.freezeOn; try dsimp only
  repeat' with_reducible first | assumption | intro _ _ _ | intro _ _ | apply kept_setSeqState | apply kept_updSeq | exact kept_mk (by assumption) .. | split

theorem kept_unfreeze {s0 : State} (s : State) (q : Nat) (ht0 : Kept s0 s) : Kept s0 (State.unfreeze s q) := by
  unfold State.unfreeze; try dsimp only
  repeat' with_reducible first | assumption | intro _ _ _ | intro _ _ | apply kept_attribute | apply kept_setSeqState | apply kept_updSeq | exact kept_mk (by assumption) .. | split

theorem kept_landOne {s0 : State} (s : State) (q : Nat) (raced : Bool) (w : StoreWrite) (ht0 : Kept s0 s) : Kept s0 (State.landOne s q raced w) := by
  unfold State.landOne; try dsimp only
  repeat' with_reducible first | assumption | intro _ _ _ | intro _ _ | apply kept_landRacing | apply kept_noteSource | apply kept_writeBytes | exact kept_mk (by assumption) .. | split

theorem kept_landDue {s0 : State} (s : State) (q t : Nat) (ht0 : Kept s0 s) : Kept s0 (State.landDue s q t) := by
  unfold State.landDue; try dsimp only
  repeat' with_reducible first | assumption | intro _ _ _ | intro _ _ | apply kept_each | apply kept_landOne | apply kept_updSeq | exact kept_mk (by assumption) .. | split

theorem kept_landAll {s0 : State} (s : State) (q : Nat) (ht0 : Kept s0 s) : Kept s0 (State.landAll s q) := by
  unfold State.landAll; try dsimp only
  repeat' with_reducible first | assumption | intro _ _ _ | intro _ _ | apply kept_each | apply kept_landOne | apply kept_updSeq | exact kept_mk (by assumption) .. | split

theorem kept_settleStop {s0 : State} (s : State) (q : Nat) (ht0 : Kept s0 s) : Kept s0 (State.settleStop s q) := by
  unfold State.settleStop; try dsimp only
  repeat' with_reducible first | assumption | intro _ _ _ | intro _ _ | apply kept_setSeqState | apply kept_updSeq | apply kept_wrB | exact kept_mk (by assumption) .. | split

theorem kept_settleAfter {s0 : State} (s : State) (q : Nat) (ht0 : Kept s0 s) : Kept s0 (State.settleAfter s q) := by
  unfold State.settleAfter; try dsimp only
  repeat' with_reducible first | assumption | intro _ _ _ | intro _ _ | apply kept_foldl | apply kept_foldl_fst | apply kept_updSeq | exact kept_mk (by assumption) .. | split

theorem kept_stopRecipe {s0 : State} (s : State) (q : Nat) (f : StopInfo) (ht0 : Kept s0 s) : Kept s0 (State.stopRecipe s q f) := by
  unfold State.stopRecipe; try dsimp only
  repeat' with_reducible first | assumption | intro _ _ _ | intro _ _ | apply kept_attribute | apply kept_event | apply kept_landAll | apply kept_setSeqState | apply kept_settleAfter | apply kept_settleStop | apply kept_updSeq | apply kept_wr | exact kept_mk (by assumption) .. | split

theorem kept_tokenPart {s0 : State} (s : State) (q t : Nat) (ok : Bool) (ht0 : Kept s0 s) : Kept s0 (State.tokenPart s q t ok) := by
  unfold State.tokenPart; try dsimp only
  repeat' with_reducible first | assumption | intro _ _ _ | intro _ _ | apply kept_settleStop | apply kept_updSeq | exact kept_mk (by assumption) .. | split

theorem kept_settleSoon {s0 : State} (s : State) (q : Nat) (ht0 : Kept s0 s) : Kept s0 (State.settleSoon s q) := by
  unfold State.settleSoon; try dsimp only
  repeat' with_reducible first | assumption | intro _ _ _ | intro _ _ | apply kept_each | apply kept_tokenPart | apply kept_updSeq | exact kept_mk (by assumption) .. | split

theorem kept_readPage {s0 : State} (s : State) (q p : Nat) (ht0 : Kept s0 s) : Kept s0 (State.readPage s q p) := by
  unfold State.readPage; try dsimp only
  repeat' with_reducible first | assumption | intro _ _ _ | intro _ _ | apply kept_readExtent | exact kept_mk (by assumption) .. | split

theorem kept_placePage {s0 : State} (s : State) (q p : Nat) (cells : List (Nat × Byte)) (ht0 : Kept s0 s) : Kept s0 (State.placePage s q p cells) := by
  unfold State.placePage; try dsimp only
  repeat' with_reducible first | assumption | intro _ _ _ | intro _ _ | apply kept_updSeq | exact kept_mk (by assumption) .. | split

theorem kept_pageFault {s0 : State} (s : State) (q : Nat) (r : PageLoad) (ht0 : Kept s0 s) : Kept s0 (State.pageFault s q r) := by
  unfold State.pageFault; try dsimp only
  repeat' with_reducible first | assumption | intro _ _ _ | intro _ _ | apply kept_checkFailedHandle | apply kept_stopRecipe | exact kept_mk (by assumption) .. | split

theorem kept_endRecipe {s0 : State} (s : State) (q : Nat) (ht0 : Kept s0 s) : Kept s0 (State.endRecipe s q) := by
  unfold State.endRecipe; try dsimp only
  repeat' with_reducible first | assumption | intro _ _ _ | intro _ _ | apply kept_landAll | apply kept_setSeqState | apply kept_updSeq | exact kept_mk (by assumption) .. | split

/-! ### Issue -/

theorem kept_issueOp {s0 : State} (s : State) (q cls u k : Nat) (sl : Slot) (h : Kept s0 s) : Kept s0 (s.issueOp q cls u k sl).1 := by
  unfold State.issueOp
  dsimp only
  have key := keptm_engineRun q cls u k (s.engine q cls u k) sl s0 { st := s, ii := (engineTiming (s.engine q cls u k) sl).2 } h
  split
  · rename_i out st heq
    have : Kept s0 st.st := by
      have e : st = (engineRun q cls u k (s.engine q cls u k) sl { st := s, ii := (engineTiming (s.engine q cls u k) sl).2 }).2 := by
        show st = (ExceptT.run (engineRun q cls u k (s.engine q cls u k) sl) { st := s, ii := (engineTiming (s.engine q cls u k) sl).2 }).2
        exact (congrArg Prod.snd heq).symm
      rw [e]; exact key
    exact kept_updSeq _ _ _ (kept_updEngine _ _ _ _ _ _ this)
  · rename_i f st heq
    have e : st = (engineRun q cls u k (s.engine q cls u k) sl { st := s, ii := (engineTiming (s.engine q cls u k) sl).2 }).2 := by
      show st = (ExceptT.run (engineRun q cls u k (s.engine q cls u k) sl) { st := s, ii := (engineTiming (s.engine q cls u k) sl).2 }).2
      exact (congrArg Prod.snd heq).symm
    show Kept s0 st.st
    rw [e]; exact key

theorem kept_slotAt {s0 : State} (s : State) (q cls u k : Nat) (sl : Slot) (ht0 : Kept s0 s) : Kept s0 (State.slotAt s q cls u k sl).1 := by
  unfold State.slotAt; try dsimp only
  repeat' with_reducible first | assumption | intro _ _ _ | intro _ _ | apply kept_issueOp | apply kept_updEngine | exact kept_mk (by assumption) .. | split

theorem kept_slotOps {s0 : State} (s : State) (q : Nat) (sl : Slot) (is : List (Nat × Nat)) (ht0 : Kept s0 s) : Kept s0 (State.slotOps s q sl is).1 := by
  unfold State.slotOps; try dsimp only
  repeat' with_reducible first | assumption | intro _ _ _ | intro _ _ | apply kept_foldl | apply kept_foldl_fst | apply kept_slotAt | exact kept_mk (by assumption) .. | split

theorem kept_slotControl {s0 : State} (s : State) (q : Nat) (sl : Slot) (is : List (Nat × Nat)) (ht0 : Kept s0 s) : Kept s0 (State.slotControl s q sl is) := by
  unfold State.slotControl; try dsimp only
  repeat' with_reducible first | assumption | intro _ _ _ | intro _ _ | apply kept_foldl | apply kept_foldl_fst | apply kept_updEngine | exact kept_mk (by assumption) .. | split

theorem kept_issueWaiting {s0 : State} (s : State) (q cls u k : Nat) (ht0 : Kept s0 s) : Kept s0 (State.issueWaiting s q cls u k).1 := by
  unfold State.issueWaiting; try dsimp only
  repeat' with_reducible first | assumption | intro _ _ _ | intro _ _ | apply kept_issueOp | apply kept_updEngine | exact kept_mk (by assumption) .. | split

theorem kept_issueOrder {s0 : State} (s : State) (q cls u k : Nat) (ht0 : Kept s0 s) : Kept s0 (State.issueOrder s q cls u k).1 := by
  unfold State.issueOrder; try dsimp only
  repeat' with_reducible first | assumption | intro _ _ _ | intro _ _ | apply kept_issueOp | apply kept_updEngine | exact kept_mk (by assumption) .. | split

theorem kept_stepEngines {s0 : State} (s : State) (q : Nat) (ht0 : Kept s0 s) : Kept s0 (State.stepEngines s q).1 := by
  unfold State.stepEngines; try dsimp only
  repeat' with_reducible first | assumption | intro _ _ _ | intro _ _ | apply kept_foldl | apply kept_foldl_fst | apply kept_issueOrder | apply kept_issueWaiting | exact kept_mk (by assumption) .. | split

theorem kept_advanceStep {s0 : State} (s : State) (q : Nat) (ht0 : Kept s0 s) : Kept s0 (State.advanceStep s q) := by
  unfold State.advanceStep; try dsimp only
  repeat' with_reducible first | assumption | intro _ _ _ | intro _ _ | apply kept_endRecipe | apply kept_landDue | apply kept_settleSoon | apply kept_updSeq | apply kept_wr | exact kept_mk (by assumption) .. | split

theorem kept_frozenCycle {s0 : State} (s : State) (q : Nat) (ht0 : Kept s0 s) : Kept s0 (State.frozenCycle s q) := by
  unfold State.frozenCycle; try dsimp only
  repeat' with_reducible first | assumption | intro _ _ _ | intro _ _ | apply kept_count | apply kept_updSeq | exact kept_mk (by assumption) .. | split

theorem kept_cycle {s0 : State} (s : State) (q : Nat) (ht0 : Kept s0 s) : Kept s0 (State.cycle s q) := by
  unfold State.cycle; try dsimp only
  repeat' with_reducible first | assumption | intro _ _ _ | intro _ _ | apply kept_advanceStep | apply kept_frozenCycle | apply kept_stepEngines | apply kept_stopRecipe | exact kept_mk (by assumption) .. | split

/-! ### Net -/

theorem kept_updPort {s0 : State} (s : State) (p : Nat) (f : Port → Port) (ht0 : Kept s0 s) : Kept s0 (State.updPort s p f) := by
  unfold State.updPort; try dsimp only
  repeat' with_reducible first | assumption | intro _ _ _ | intro _ _ | exact kept_mk (by assumption) .. | split

theorem kept_updRouter {s0 : State} (s : State) (f : Router → Router) (ht0 : Kept s0 s) : Kept s0 (State.updRouter s f) := by
  unfold State.updRouter; try dsimp only
  repeat' with_reducible first | assumption | intro _ _ _ | intro _ _ | exact kept_mk (by assumption) .. | split

theorem kept_updFm {s0 : State} (s : State) (f : Fm → Fm) (ht0 : Kept s0 s) : Kept s0 (State.updFm s f) := by
  unfold State.updFm; try dsimp only
  repeat' with_reducible first | assumption | intro _ _ _ | intro _ _ | exact kept_mk (by assumption) .. | split

theorem kept_wire {s0 : State} (s : State) (w : WireOut) (ht0 : Kept s0 s) : Kept s0 (State.wire s w) := by
  unfold State.wire; try dsimp only
  repeat' with_reducible first | assumption | intro _ _ _ | intro _ _ | exact kept_mk (by assumption) .. | split

theorem kept_pfc {s0 : State} (s : State) (p : Nat) (ht0 : Kept s0 s) : Kept s0 (State.pfc s p) := by
  unfold State.pfc; try dsimp only
  repeat' with_reducible first | assumption | intro _ _ _ | intro _ _ | apply kept_count | apply kept_each | apply kept_updPort | apply kept_wire | exact kept_mk (by assumption) .. | split

theorem kept_takeInput {s0 : State} (s : State) (p : Nat) (x : QPkt) (ht0 : Kept s0 s) : Kept s0 (State.takeInput s p x) := by
  unfold State.takeInput; try dsimp only
  repeat' with_reducible first | assumption | intro _ _ _ | intro _ _ | apply kept_pfc | apply kept_updPort | exact kept_mk (by assumption) .. | split

theorem kept_inject {s0 : State} (s : State) (vc : Nat) (p : Packet) (dir : Nat) (ht0 : Kept s0 s) : Kept s0 (State.inject s vc p dir) := by
  unfold State.inject; try dsimp only
  repeat' with_reducible first | assumption | intro _ _ _ | intro _ _ | apply kept_updRouter | exact kept_mk (by assumption) .. | split

theorem kept_enqueueJob {s0 : State} (s : State) (dst cls : Nat) (j : NetJob) (ht0 : Kept s0 s) : Kept s0 (State.enqueueJob s dst cls j) := by
  unfold State.enqueueJob; try dsimp only
  repeat' with_reducible first | assumption | intro _ _ _ | intro _ _ | apply kept_updRouter | exact kept_mk (by assumption) .. | split

theorem kept_lossNotice {s0 : State} (s : State) (p : Packet) (ht0 : Kept s0 s) : Kept s0 (State.lossNotice s p) := by
  unfold State.lossNotice; try dsimp only
  repeat' with_reducible first | assumption | intro _ _ _ | intro _ _ | apply kept_count | apply kept_inject | exact kept_mk (by assumption) .. | split

theorem kept_dropPacket {s0 : State} (s : State) (x : Nat) (p : Packet) (ht0 : Kept s0 s) : Kept s0 (State.dropPacket s x p) := by
  unfold State.dropPacket; try dsimp only
  repeat' with_reducible first | assumption | intro _ _ _ | intro _ _ | apply kept_count | apply kept_lossNotice | exact kept_mk (by assumption) .. | split

theorem kept_answerTo {s0 : State} (s : State) (p : Packet) (op seq xid : Nat) (payload : List Byte) (c0 c1 : W32) (ht0 : Kept s0 s) : Kept s0 (State.answerTo s p op seq xid payload c0 c1) := by
  unfold State.answerTo; try dsimp only
  repeat' with_reducible first | assumption | intro _ _ _ | intro _ _ | apply kept_inject | exact kept_mk (by assumption) .. | split

theorem kept_tearEntry {s0 : State} (s : State) (c : Nat × Nat) (ht0 : Kept s0 s) : Kept s0 (State.tearEntry s c) := by
  unfold State.tearEntry; try dsimp only
  repeat' with_reducible first | assumption | intro _ _ _ | intro _ _ | apply kept_cond | apply kept_count | apply kept_each | apply kept_inject | apply kept_takeInput | apply kept_updPort | apply kept_updRouter | apply kept_wrB | exact kept_mk (by assumption) .. | split

theorem kept_tearPort {s0 : State} (s : State) (p : Nat) (ht0 : Kept s0 s) : Kept s0 (State.tearPort s p) := by
  unfold State.tearPort; try dsimp only
  repeat' with_reducible first | assumption | intro _ _ _ | intro _ _ | apply kept_each | apply kept_tearEntry | exact kept_mk (by assumption) .. | split

theorem kept_expandPlan {s0 : State} (s : State) (pl : RoutePlan) (h : Kept s0 s) : Kept s0 (s.expandPlan pl) := by
  unfold State.expandPlan
  have hle : Reg.rtrRoute s.inactiveBank 0 ≤ Reg.rtrRoute s.inactiveBank 131072 := by simp only [Reg.rtrRoute]; omega
  dsimp only
  generalize Reg.rtrRoute s.inactiveBank 131072 = hi at hle
  generalize List.filterMap _ _ = l
  exact ⟨h.pending, h.fuses, fun c => { h.canon c with
    csr := ((h.canon c).csr.clear hle).addAll _
    cpPend := (h.canon c).cpPend.clear hle
    cpBad := (h.canon c).cpBad.clear hle }⟩

theorem kept_setBank {s0 : State} (s : State) (b : Nat) (ht0 : Kept s0 s) : Kept s0 (State.setBank s b) := by
  unfold State.setBank; try dsimp only
  repeat' with_reducible first | assumption | intro _ _ _ | intro _ _ | apply kept_wrF | exact kept_mk (by assumption) .. | split

theorem kept_report {s0 : State} (s : State) (code port : Nat) (detail : Nat) (ht0 : Kept s0 s) : Kept s0 (State.report s code port detail) := by
  unfold State.report; try dsimp only
  repeat' with_reducible first | assumption | intro _ _ _ | intro _ _ | apply kept_updFm | exact kept_mk (by assumption) .. | split

theorem kept_neutralSwap {s0 : State} (s : State) (p : Nat) (ht0 : Kept s0 s) : Kept s0 (State.neutralSwap s p) := by
  unfold State.neutralSwap; try dsimp only
  repeat' with_reducible first | assumption | intro _ _ _ | intro _ _ | apply kept_event | apply kept_expandPlan | apply kept_report | apply kept_setBank | exact kept_mk (by assumption) .. | split

/-! ### Triggers -/

theorem kept_prefetch {s0 : State} (s : State) (q tok : Nat) (page : Option Nat) (ht0 : Kept s0 s) : Kept s0 (State.prefetch s q tok page) := by
  unfold State.prefetch; try dsimp only
  repeat' with_reducible first | assumption | intro _ _ _ | intro _ _ | apply kept_updSeq | exact kept_mk (by assumption) .. | split

theorem kept_dmxIssue {s0 : State} (s : State) (q : Nat) (sl : Slot) (us : List Nat) (ht0 : Kept s0 s) : Kept s0 (State.dmxIssue s q sl us).1 := by
  unfold State.dmxIssue; try dsimp only
  repeat' with_reducible first | assumption | intro _ _ _ | intro _ _ | apply kept_each | apply kept_enqueueJob | apply kept_updSeq | exact kept_mk (by assumption) .. | split

theorem kept_callFailed {s0 : State} (s : State) (part call code tok mask : Nat) (ht0 : Kept s0 s) : Kept s0 (State.callFailed s part call code tok mask) := by
  unfold State.callFailed; try dsimp only
  repeat' with_reducible first | assumption | intro _ _ _ | intro _ _ | apply kept_event | exact kept_mk (by assumption) .. | split

theorem kept_btrigIssue {s0 : State} (s : State) (q mask index tok rs : Nat) (ht0 : Kept s0 s) : Kept s0 (State.btrigIssue s q mask index tok rs) := by
  unfold State.btrigIssue; try dsimp only
  repeat' with_reducible first | assumption | intro _ _ _ | intro _ _ | apply kept_callFailed | apply kept_countF | apply kept_each | apply kept_updSeq | exact kept_mk (by assumption) .. | split

theorem kept_ctrigIssue {s0 : State} (s : State) (q index tok rs : Nat) (ht0 : Kept s0 s) : Kept s0 (State.ctrigIssue s q index tok rs) := by
  unfold State.ctrigIssue; try dsimp only
  repeat' with_reducible first | assumption | intro _ _ _ | intro _ _ | apply kept_countF | apply kept_updSeq | exact kept_mk (by assumption) .. | split

theorem kept_signalLocal {s0 : State} (s : State) (part sig : Nat) (ht0 : Kept s0 s) : Kept s0 (State.signalLocal s part sig) := by
  unfold State.signalLocal; try dsimp only
  repeat' with_reducible first | assumption | intro _ _ _ | intro _ _ | apply kept_wr | exact kept_mk (by assumption) .. | split

theorem kept_signalRemote {s0 : State} (s : State) (part sig : Nat) (ht0 : Kept s0 s) : Kept s0 (State.signalRemote s part sig) := by
  unfold State.signalRemote; try dsimp only
  repeat' with_reducible first | assumption | intro _ _ _ | intro _ _ | apply kept_wr | exact kept_mk (by assumption) .. | split

/-! ### Base -/

theorem kept_updBase {s0 : State} (s : State) (n : Nat) (f : BaseStack → BaseStack) (ht0 : Kept s0 s) : Kept s0 (State.updBase s n f) := by
  unfold State.updBase; try dsimp only
  repeat' with_reducible first | assumption | intro _ _ _ | intro _ _ | exact kept_mk (by assumption) .. | split

theorem keptm_BaseM_change (f : State → State) (hf : ∀ s0 s, Kept s0 s → Kept s0 (f s)) : KeptM BaseSt.st (BaseM.change f) :=
  keptm_modify _ _ (fun s0 e h => hf s0 e.st h)

theorem keptm_BaseM_setItem (f : WorkItem → WorkItem) : KeptM BaseSt.st (BaseM.setItem f) :=
  keptm_modify _ _ (fun _ _ h => h)

theorem keptm_BaseM_exc (x k : Nat)  : KeptM BaseSt.st (BaseM.exc x k) := by
  unfold BaseM.exc
  repeat' first | with_reducible assumption | with_reducible exact keptm_pure _ _ | with_reducible exact keptm_throw _ _ | with_reducible exact keptm_get _ | with_reducible apply keptm_BaseM_change | with_reducible apply keptm_Eng_change | with_reducible apply kept_cond | with_reducible apply kept_count | with_reducible apply keptm_bind | with_reducible apply keptm_forM | with_reducible apply keptm_mapM | with_reducible apply keptm_foldlM | with_reducible apply keptm_modify | with_reducible apply kept_cond | with_reducible apply kept_syn | (with_reducible intro _) | split | dsimp only

theorem keptm_BaseM_noteExc (newNan : Bool) (e : Exc)  : KeptM BaseSt.st (BaseM.noteExc newNan e) := by
  unfold BaseM.noteExc
  repeat' first | with_reducible assumption | with_reducible exact keptm_pure _ _ | with_reducible exact keptm_throw _ _ | with_reducible exact keptm_get _ | with_reducible apply keptm_BaseM_exc | with_reducible apply keptm_bind | with_reducible apply keptm_forM | with_reducible apply keptm_mapM | with_reducible apply keptm_foldlM | with_reducible apply keptm_modify | with_reducible apply kept_cond | with_reducible apply kept_syn | (with_reducible intro _) | split | dsimp only

theorem keptm_BaseM_readTile (slot h off a n : Nat) (generate : Bool)  : KeptM BaseSt.st (BaseM.readTile slot h off a n generate) := by
  unfold BaseM.readTile
  repeat' first | with_reducible assumption | with_reducible exact keptm_pure _ _ | with_reducible exact keptm_throw _ _ | with_reducible exact keptm_get _ | with_reducible apply keptm_BaseM_change | with_reducible apply keptm_Eng_change | with_reducible apply kept_checkFailedHandle | with_reducible apply kept_cond | with_reducible apply kept_count | with_reducible apply kept_readLines | with_reducible apply kept_requestPasses | with_reducible apply keptm_bind | with_reducible apply keptm_forM | with_reducible apply keptm_mapM | with_reducible apply keptm_foldlM | with_reducible apply keptm_modify | with_reducible apply kept_cond | with_reducible apply kept_syn | (with_reducible intro _) | split | dsimp only

theorem keptm_BaseM_bytes (slot off n : Nat)  : KeptM BaseSt.st (BaseM.bytes slot off n) := by
  unfold BaseM.bytes
  repeat' first | with_reducible assumption | with_reducible exact keptm_pure _ _ | with_reducible exact keptm_throw _ _ | with_reducible exact keptm_get _ | with_reducible apply keptm_BaseM_readTile | with_reducible apply keptm_bind | with_reducible apply keptm_forM | with_reducible apply keptm_mapM | with_reducible apply keptm_foldlM | with_reducible apply keptm_modify | with_reducible apply kept_cond | with_reducible apply kept_syn | (with_reducible intro _) | split | dsimp only

theorem keptm_BaseM_put (slot off : Nat) (bs : List Byte)  : KeptM BaseSt.st (BaseM.put slot off bs) := by
  unfold BaseM.put
  repeat' first | with_reducible assumption | with_reducible exact keptm_pure _ _ | with_reducible exact keptm_throw _ _ | with_reducible exact keptm_get _ | with_reducible apply keptm_BaseM_setItem | with_reducible apply kept_foldl | with_reducible apply kept_foldl_fst | with_reducible apply keptm_bind | with_reducible apply keptm_forM | with_reducible apply keptm_mapM | with_reducible apply keptm_foldlM | with_reducible apply keptm_modify | with_reducible apply kept_cond | with_reducible apply kept_syn | (with_reducible intro _) | split | dsimp only

theorem keptm_BaseM_codes (slot e : Nat)  : KeptM BaseSt.st (BaseM.codes slot e) := by
  unfold BaseM.codes
  repeat' first | with_reducible assumption | with_reducible exact keptm_pure _ _ | with_reducible exact keptm_throw _ _ | with_reducible exact keptm_get _ | with_reducible apply keptm_BaseM_bytes | with_reducible apply keptm_bind | with_reducible apply keptm_forM | with_reducible apply keptm_mapM | with_reducible apply keptm_foldlM | with_reducible apply keptm_modify | with_reducible apply kept_cond | with_reducible apply kept_syn | (with_reducible intro _) | split | dsimp only

theorem keptm_BaseM_vals (slot e : Nat)  : KeptM BaseSt.st (BaseM.vals slot e) := by
  unfold BaseM.vals
  repeat' first | with_reducible assumption | with_reducible exact keptm_pure _ _ | with_reducible exact keptm_throw _ _ | with_reducible exact keptm_get _ | with_reducible apply keptm_BaseM_codes | with_reducible apply keptm_bind | with_reducible apply keptm_forM | with_reducible apply keptm_mapM | with_reducible apply keptm_foldlM | with_reducible apply keptm_modify | with_reducible apply kept_cond | with_reducible apply kept_syn | (with_reducible intro _) | split | dsimp only

theorem keptm_BaseM_toFloat (v : Val)  : KeptM BaseSt.st (BaseM.toFloat v) := by
  unfold BaseM.toFloat
  repeat' first | with_reducible assumption | with_reducible exact keptm_pure _ _ | with_reducible exact keptm_throw _ _ | with_reducible exact keptm_get _ | with_reducible apply keptm_BaseM_noteExc | with_reducible apply keptm_bind | with_reducible apply keptm_forM | with_reducible apply keptm_mapM | with_reducible apply keptm_foldlM | with_reducible apply keptm_modify | with_reducible apply kept_cond | with_reducible apply kept_syn | (with_reducible intro _) | split | dsimp only

theorem keptm_BaseM_floats (slot e : Nat)  : KeptM BaseSt.st (BaseM.floats slot e) := by
  unfold BaseM.floats
  repeat' first | with_reducible assumption | with_reducible exact keptm_pure _ _ | with_reducible exact keptm_throw _ _ | with_reducible exact keptm_get _ | with_reducible apply keptm_BaseM_toFloat | with_reducible apply keptm_BaseM_vals | with_reducible apply keptm_bind | with_reducible apply keptm_forM | with_reducible apply keptm_mapM | with_reducible apply keptm_foldlM | with_reducible apply keptm_modify | with_reducible apply kept_cond | with_reducible apply kept_syn | (with_reducible intro _) | split | dsimp only

theorem keptm_BaseM_lanes (slot e : Nat)  : KeptM BaseSt.st (BaseM.lanes slot e) := by
  unfold BaseM.lanes
  repeat' first | with_reducible assumption | with_reducible exact keptm_pure _ _ | with_reducible exact keptm_throw _ _ | with_reducible exact keptm_get _ | with_reducible apply keptm_BaseM_codes | with_reducible apply keptm_BaseM_floats | with_reducible apply keptm_bind | with_reducible apply keptm_forM | with_reducible apply keptm_mapM | with_reducible apply keptm_foldlM | with_reducible apply keptm_modify | with_reducible apply kept_cond | with_reducible apply kept_syn | (with_reducible intro _) | split | dsimp only

theorem keptm_BaseM_store (slot e : Nat) (vs : List Val)  : KeptM BaseSt.st (BaseM.store slot e vs) := by
  unfold BaseM.store
  repeat' first | with_reducible assumption | with_reducible exact keptm_pure _ _ | with_reducible exact keptm_throw _ _ | with_reducible exact keptm_get _ | with_reducible apply keptm_BaseM_exc | with_reducible apply keptm_BaseM_noteExc | with_reducible apply keptm_BaseM_put | with_reducible apply keptm_bind | with_reducible apply keptm_forM | with_reducible apply keptm_mapM | with_reducible apply keptm_foldlM | with_reducible apply keptm_modify | with_reducible apply kept_cond | with_reducible apply kept_syn | (with_reducible intro _) | split | dsimp only

theorem keptm_BaseM_arith (ins : List Val) (v : Val)  : KeptM BaseSt.st (BaseM.arith ins v) := by
  unfold BaseM.arith
  repeat' first | with_reducible assumption | with_reducible exact keptm_pure _ _ | with_reducible exact keptm_throw _ _ | with_reducible exact keptm_get _ | with_reducible apply keptm_BaseM_noteExc | with_reducible apply keptm_bind | with_reducible apply keptm_forM | with_reducible apply keptm_mapM | with_reducible apply keptm_foldlM | with_reducible apply keptm_modify | with_reducible apply kept_cond | with_reducible apply kept_syn | (with_reducible intro _) | split | dsimp only

theorem keptm_BaseM_fadd (a b : Nat)  : KeptM BaseSt.st (BaseM.fadd a b) := by
  unfold BaseM.fadd
  repeat' first | with_reducible assumption | with_reducible exact keptm_pure _ _ | with_reducible exact keptm_throw _ _ | with_reducible exact keptm_get _ | with_reducible apply keptm_BaseM_arith | with_reducible apply keptm_bind | with_reducible apply keptm_forM | with_reducible apply keptm_mapM | with_reducible apply keptm_foldlM | with_reducible apply keptm_modify | with_reducible apply kept_cond | with_reducible apply kept_syn | (with_reducible intro _) | split | dsimp only

theorem keptm_BaseM_fmul (a b : Nat)  : KeptM BaseSt.st (BaseM.fmul a b) := by
  unfold BaseM.fmul
  repeat' first | with_reducible assumption | with_reducible exact keptm_pure _ _ | with_reducible exact keptm_throw _ _ | with_reducible exact keptm_get _ | with_reducible apply keptm_BaseM_arith | with_reducible apply keptm_bind | with_reducible apply keptm_forM | with_reducible apply keptm_mapM | with_reducible apply keptm_foldlM | with_reducible apply keptm_modify | with_reducible apply kept_cond | with_reducible apply kept_syn | (with_reducible intro _) | split | dsimp only

theorem keptm_BaseM_ffma (a b c : Nat)  : KeptM BaseSt.st (BaseM.ffma a b c) := by
  unfold BaseM.ffma
  repeat' first | with_reducible assumption | with_reducible exact keptm_pure _ _ | with_reducible exact keptm_throw _ _ | with_reducible exact keptm_get _ | with_reducible apply keptm_BaseM_arith | with_reducible apply keptm_bind | with_reducible apply keptm_forM | with_reducible apply keptm_mapM | with_reducible apply keptm_foldlM | with_reducible apply keptm_modify | with_reducible apply kept_cond | with_reducible apply kept_syn | (with_reducible intro _) | split | dsimp only

theorem keptm_BaseM_fdiv (a b : Nat)  : KeptM BaseSt.st (BaseM.fdiv a b) := by
  unfold BaseM.fdiv
  repeat' first | with_reducible assumption | with_reducible exact keptm_pure _ _ | with_reducible exact keptm_throw _ _ | with_reducible exact keptm_get _ | with_reducible apply keptm_BaseM_arith | with_reducible apply keptm_bind | with_reducible apply keptm_forM | with_reducible apply keptm_mapM | with_reducible apply keptm_foldlM | with_reducible apply keptm_modify | with_reducible apply kept_cond | with_reducible apply kept_syn | (with_reducible intro _) | split | dsimp only

theorem keptm_BaseM_fsqrt (a : Nat)  : KeptM BaseSt.st (BaseM.fsqrt a) := by
  unfold BaseM.fsqrt
  repeat' first | with_reducible assumption | with_reducible exact keptm_pure _ _ | with_reducible exact keptm_throw _ _ | with_reducible exact keptm_get _ | with_reducible apply keptm_BaseM_arith | with_reducible apply keptm_bind | with_reducible apply keptm_forM | with_reducible apply keptm_mapM | with_reducible apply keptm_foldlM | with_reducible apply keptm_modify | with_reducible apply kept_cond | with_reducible apply kept_syn | (with_reducible intro _) | split | dsimp only

theorem keptx_BaseM_addPairs (l : List Nat) : KeptM BaseSt.st (BaseM.addPairs l) := by
  induction l using BaseM.addPairs.induct with
  | case1 a b l ih =>
    unfold BaseM.addPairs
    exact keptm_bind _ (keptm_BaseM_fadd a b) (fun _ => keptm_bind _ ih (fun _ => keptm_pure _ _))
  | case2 l h =>
    unfold BaseM.addPairs
    split
    · exact absurd rfl (h _ _ _)
    · exact keptm_pure _ _

theorem keptm_BaseM_tree (l : List Nat) : KeptM BaseSt.st (BaseM.tree l) := by
  unfold BaseM.tree
  exact keptm_bind _ (keptx_BaseM_addPairs _) (fun _ => keptm_bind _ (keptx_BaseM_addPairs _) (fun _ => keptm_bind _ (keptx_BaseM_addPairs _) (fun _ =>
    keptm_bind _ (keptx_BaseM_addPairs _) (fun _ => keptm_bind _ (keptx_BaseM_addPairs _) (fun _ => keptm_pure _ _)))))

theorem kept_freeUnit {s0 : State} (s : State) (n v : Nat) (ht0 : Kept s0 s) : Kept s0 (State.freeUnit s n v) := by
  unfold State.freeUnit; try dsimp only
  repeat' with_reducible first | assumption | intro _ _ _ | intro _ _ | apply kept_updBase | exact kept_mk (by assumption) .. | split

theorem kept_failItem {s0 : State} (s : State) (n v : Nat) (w : WorkItem) (f : BaseFault) (ht0 : Kept s0 s) : Kept s0 (State.failItem s n v w f) := by
  unfold State.failItem; try dsimp only
  repeat' with_reducible first | assumption | intro _ _ _ | intro _ _ | apply kept_callFailed | apply kept_cond | apply kept_freeUnit | apply kept_updBase | apply kept_wr | exact kept_mk (by assumption) .. | split

theorem kept_endItem {s0 : State} (s : State) (n v : Nat) (call : BaseCall) (w : WorkItem) (ht0 : Kept s0 s) : Kept s0 (State.endItem s n v call w) := by
  unfold State.endItem; try dsimp only
  repeat' with_reducible first | assumption | intro _ _ _ | intro _ _ | apply kept_cond | apply kept_count | apply kept_each | apply kept_failItem | apply kept_freeUnit | apply kept_requestPasses | apply kept_writeBytes | exact kept_mk (by assumption) .. | split

theorem kept_runUnit {s0 : State} (s : State) (n v : Nat) (w : WorkItem) (m : BaseM Unit) (after : State → BaseCall → WorkItem → State)
    (h : Kept s0 s) (hm : KeptM BaseSt.st m) (hf : ∀ s c w, Kept s0 s → Kept s0 (after s c w)) : Kept s0 (s.runUnit n v w m after) := by
  unfold State.runUnit
  split
  · exact h
  · rename_i r hr
    have key := hm s0 { st := s, n := n, call := r.call, item := w } h
    have e : (m.run.run { st := s, n := n, call := r.call, item := w }) = m { st := s, n := n, call := r.call, item := w } := rfl
    rw [e]
    generalize m { st := s, n := n, call := r.call, item := w } = o at key ⊢
    rcases o with ⟨res, b⟩
    dsimp only
    cases res with
    | ok a => exact hf _ _ _ key
    | error f => exact kept_failItem _ _ _ _ _ key

theorem keptm_BaseM_stageTile (slot t : Nat)  : KeptM BaseSt.st (BaseM.stageTile slot t) := by
  unfold BaseM.stageTile
  repeat' first | with_reducible assumption | with_reducible exact keptm_pure _ _ | with_reducible exact keptm_throw _ _ | with_reducible exact keptm_get _ | with_reducible apply keptm_BaseM_readTile | with_reducible apply keptm_bind | with_reducible apply keptm_forM | with_reducible apply keptm_mapM | with_reducible apply keptm_foldlM | with_reducible apply keptm_modify | with_reducible apply kept_cond | with_reducible apply kept_syn | (with_reducible intro _) | split | dsimp only

theorem keptm_BaseM_stage   : KeptM BaseSt.st (BaseM.stage) := by
  unfold BaseM.stage
  repeat' first | with_reducible assumption | with_reducible exact keptm_pure _ _ | with_reducible exact keptm_throw _ _ | with_reducible exact keptm_get _ | with_reducible apply keptm_BaseM_stageTile | with_reducible apply keptm_bind | with_reducible apply keptm_forM | with_reducible apply keptm_mapM | with_reducible apply keptm_foldlM | with_reducible apply keptm_modify | with_reducible apply kept_cond | with_reducible apply kept_syn | (with_reducible intro _) | split | dsimp only

/-! ### BaseIsa -/

theorem keptm_BaseM_lane (on : Bool) (m : BaseM Nat) (h_m : KeptM BaseSt.st m) : KeptM BaseSt.st (BaseM.lane on m) := by
  unfold BaseM.lane
  repeat' first | with_reducible assumption | with_reducible exact keptm_pure _ _ | with_reducible exact keptm_throw _ _ | with_reducible exact keptm_get _ | with_reducible apply keptm_bind | with_reducible apply keptm_forM | with_reducible apply keptm_mapM | with_reducible apply keptm_foldlM | with_reducible apply keptm_modify | with_reducible apply kept_cond | with_reducible apply kept_syn | (with_reducible intro _) | split | dsimp only

theorem keptm_BaseM_lanewise (mask : Nat) (f : Nat → BaseM Nat) (h_f : ∀ x0, KeptM BaseSt.st (f x0)) : KeptM BaseSt.st (BaseM.lanewise mask f) :=
  keptm_mapM _ _ _ (fun l => keptm_BaseM_lane _ _ (h_f l))

theorem keptm_BaseM_vector (w0 w1 : Nat)  : KeptM BaseSt.st (BaseM.vector w0 w1) := by
  unfold BaseM.vector
  repeat' first | with_reducible assumption | with_reducible exact keptm_pure _ _ | with_reducible exact keptm_throw _ _ | with_reducible exact keptm_get _ | with_reducible apply keptm_BaseM_arith | with_reducible apply keptm_BaseM_fadd | with_reducible apply keptm_BaseM_fdiv | with_reducible apply keptm_BaseM_ffma | with_reducible apply keptm_BaseM_fmul | with_reducible apply keptm_BaseM_fsqrt | with_reducible apply keptm_BaseM_lanewise | with_reducible apply keptm_BaseM_noteExc | with_reducible apply keptm_BaseM_tree | with_reducible apply keptm_bind | with_reducible apply keptm_forM | with_reducible apply keptm_mapM | with_reducible apply keptm_foldlM | with_reducible apply keptm_modify | with_reducible apply kept_cond | with_reducible apply kept_syn | (with_reducible intro _) | split | dsimp only

theorem keptm_BaseM_access (w0 : Nat) (write : Bool)  : KeptM BaseSt.st (BaseM.access w0 write) := by
  unfold BaseM.access
  repeat' first | with_reducible assumption | with_reducible exact keptm_pure _ _ | with_reducible exact keptm_throw _ _ | with_reducible exact keptm_get _ | with_reducible apply keptm_Eng_write | with_reducible apply keptm_bind | with_reducible apply keptm_forM | with_reducible apply keptm_mapM | with_reducible apply keptm_foldlM | with_reducible apply keptm_modify | with_reducible apply kept_cond | with_reducible apply kept_syn | (with_reducible intro _) | split | dsimp only

theorem keptm_BaseM_load (w0 : Nat)  : KeptM BaseSt.st (BaseM.load w0) := by
  unfold BaseM.load
  repeat' first | with_reducible assumption | with_reducible exact keptm_pure _ _ | with_reducible exact keptm_throw _ _ | with_reducible exact keptm_get _ | with_reducible apply keptm_BaseM_access | with_reducible apply keptm_BaseM_lanes | with_reducible apply keptm_BaseM_setItem | with_reducible apply keptm_bind | with_reducible apply keptm_forM | with_reducible apply keptm_mapM | with_reducible apply keptm_foldlM | with_reducible apply keptm_modify | with_reducible apply kept_cond | with_reducible apply kept_syn | (with_reducible intro _) | split | dsimp only

theorem keptm_BaseM_storeOp (w0 : Nat)  : KeptM BaseSt.st (BaseM.storeOp w0) := by
  unfold BaseM.storeOp
  repeat' first | with_reducible assumption | with_reducible exact keptm_pure _ _ | with_reducible exact keptm_throw _ _ | with_reducible exact keptm_get _ | with_reducible apply keptm_BaseM_access | with_reducible apply keptm_BaseM_store | with_reducible apply keptm_bind | with_reducible apply keptm_forM | with_reducible apply keptm_mapM | with_reducible apply keptm_foldlM | with_reducible apply keptm_modify | with_reducible apply kept_cond | with_reducible apply kept_syn | (with_reducible intro _) | split | dsimp only

theorem keptm_BaseM_instr (w0 w1 : Nat)  : KeptM BaseSt.st (BaseM.instr w0 w1) := by
  unfold BaseM.instr
  repeat' first | with_reducible assumption | with_reducible exact keptm_pure _ _ | with_reducible exact keptm_throw _ _ | with_reducible exact keptm_get _ | with_reducible apply keptm_BaseM_load | with_reducible apply keptm_BaseM_setItem | with_reducible apply keptm_BaseM_storeOp | with_reducible apply keptm_BaseM_vector | with_reducible apply kept_foldl | with_reducible apply kept_foldl_fst | with_reducible apply keptm_bind | with_reducible apply keptm_forM | with_reducible apply keptm_mapM | with_reducible apply keptm_foldlM | with_reducible apply keptm_modify | with_reducible apply kept_cond | with_reducible apply kept_syn | (with_reducible intro _) | split | dsimp only

theorem kept_unitStep {s0 : State} (s : State) (n v op : Nat) (ht0 : Kept s0 s) : Kept s0 (State.unitStep s n v op) := by
  unfold State.unitStep at *
  grind only [keptm_BaseM_instr, kept_endItem, kept_failItem, kept_mk, kept_runUnit, kept_updBase]

theorem keptm_BaseM_groups (f : Nat → BaseM Unit) (h_f : ∀ x0, KeptM BaseSt.st (f x0)) : KeptM BaseSt.st (BaseM.groups f) :=
  keptm_bind _ (keptm_get _) (fun _ => keptm_forM _ _ _ (fun _ => h_f _))

theorem keptm_BaseM_zip2 (a b : List Nat) (f : Nat → Nat → BaseM Nat) (h_f : ∀ x0 x1, KeptM BaseSt.st (f x0 x1)) : KeptM BaseSt.st (BaseM.zip2 a b f) :=
  keptm_mapM _ _ _ (fun _ => h_f _ _)

theorem keptm_BaseM_adamw (e : Nat)  : KeptM BaseSt.st (BaseM.adamw e) := by
  unfold BaseM.adamw
  repeat' first | with_reducible assumption | with_reducible exact keptm_pure _ _ | with_reducible exact keptm_throw _ _ | with_reducible exact keptm_get _ | with_reducible apply keptm_BaseM_fadd | with_reducible apply keptm_BaseM_fdiv | with_reducible apply keptm_BaseM_ffma | with_reducible apply keptm_BaseM_floats | with_reducible apply keptm_BaseM_fmul | with_reducible apply keptm_BaseM_fsqrt | with_reducible apply keptm_BaseM_store | with_reducible apply keptm_BaseM_zip2 | with_reducible apply keptm_bind | with_reducible apply keptm_forM | with_reducible apply keptm_mapM | with_reducible apply keptm_foldlM | with_reducible apply keptm_modify | with_reducible apply kept_cond | with_reducible apply kept_syn | (with_reducible intro _) | split | dsimp only

theorem keptm_BaseM_bcvt (e : Nat)  : KeptM BaseSt.st (BaseM.bcvt e) := by
  unfold BaseM.bcvt
  repeat' first | with_reducible assumption | with_reducible exact keptm_pure _ _ | with_reducible exact keptm_throw _ _ | with_reducible exact keptm_get _ | with_reducible apply keptm_BaseM_store | with_reducible apply keptm_BaseM_vals | with_reducible apply keptm_bind | with_reducible apply keptm_forM | with_reducible apply keptm_mapM | with_reducible apply keptm_foldlM | with_reducible apply keptm_modify | with_reducible apply kept_cond | with_reducible apply kept_syn | (with_reducible intro _) | split | dsimp only

theorem keptm_BaseM_bred (e : Nat)  : KeptM BaseSt.st (BaseM.bred e) := by
  unfold BaseM.bred
  repeat' first | with_reducible assumption | with_reducible exact keptm_pure _ _ | with_reducible exact keptm_throw _ _ | with_reducible exact keptm_get _ | with_reducible apply keptm_BaseM_fadd | with_reducible apply keptm_BaseM_floats | with_reducible apply keptm_BaseM_store | with_reducible apply keptm_BaseM_zip2 | with_reducible apply kept_foldl | with_reducible apply kept_foldl_fst | with_reducible apply keptm_bind | with_reducible apply keptm_forM | with_reducible apply keptm_mapM | with_reducible apply keptm_foldlM | with_reducible apply keptm_modify | with_reducible apply kept_cond | with_reducible apply kept_syn | (with_reducible intro _) | split | dsimp only

theorem keptm_BaseM_bsqn   : KeptM BaseSt.st (BaseM.bsqn) := by
  unfold BaseM.bsqn
  repeat' first | with_reducible assumption | with_reducible exact keptm_pure _ _ | with_reducible exact keptm_throw _ _ | with_reducible exact keptm_get _ | with_reducible apply keptm_BaseM_fadd | with_reducible apply keptm_BaseM_floats | with_reducible apply keptm_BaseM_fmul | with_reducible apply keptm_BaseM_put | with_reducible apply keptm_BaseM_tree | with_reducible apply keptm_BaseM_zip2 | with_reducible apply kept_foldl | with_reducible apply kept_foldl_fst | with_reducible apply keptm_bind | with_reducible apply keptm_forM | with_reducible apply keptm_mapM | with_reducible apply keptm_foldlM | with_reducible apply keptm_modify | with_reducible apply kept_cond | with_reducible apply kept_syn | (with_reducible intro _) | split | dsimp only

theorem keptm_BaseM_spanDpas   : KeptM BaseSt.st (BaseM.spanDpas) := by
  unfold BaseM.spanDpas
  repeat' first | with_reducible assumption | with_reducible exact keptm_pure _ _ | with_reducible exact keptm_throw _ _ | with_reducible exact keptm_get _ | with_reducible apply keptm_bind | with_reducible apply keptm_forM | with_reducible apply keptm_mapM | with_reducible apply keptm_foldlM | with_reducible apply keptm_modify | with_reducible apply kept_cond | with_reducible apply kept_syn | (with_reducible intro _) | split | dsimp only

theorem keptm_BaseM_seal   : KeptM BaseSt.st (BaseM.seal) := by
  unfold BaseM.seal
  repeat' first | with_reducible assumption | with_reducible exact keptm_pure _ _ | with_reducible exact keptm_throw _ _ | with_reducible exact keptm_get _ | with_reducible apply keptm_BaseM_change | with_reducible apply keptm_BaseM_spanDpas | with_reducible apply keptm_Eng_change | with_reducible apply kept_each | with_reducible apply keptm_bind | with_reducible apply keptm_forM | with_reducible apply keptm_mapM | with_reducible apply keptm_foldlM | with_reducible apply keptm_modify | with_reducible apply kept_cond | with_reducible apply kept_syn | (with_reducible intro _) | split | dsimp only

theorem keptm_BaseM_bchk   : KeptM BaseSt.st (BaseM.bchk) := by
  unfold BaseM.bchk
  repeat' first | with_reducible assumption | with_reducible exact keptm_pure _ _ | with_reducible exact keptm_throw _ _ | with_reducible exact keptm_get _ | with_reducible apply keptm_BaseM_seal | with_reducible apply keptm_bind | with_reducible apply keptm_forM | with_reducible apply keptm_mapM | with_reducible apply keptm_foldlM | with_reducible apply keptm_modify | with_reducible apply kept_cond | with_reducible apply kept_syn | (with_reducible intro _) | split | dsimp only

theorem keptm_BaseM_rowBytes (slot k : Nat)  : KeptM BaseSt.st (BaseM.rowBytes slot k) := by
  unfold BaseM.rowBytes
  repeat' first | with_reducible assumption | with_reducible exact keptm_pure _ _ | with_reducible exact keptm_throw _ _ | with_reducible exact keptm_get _ | with_reducible apply keptm_BaseM_bytes | with_reducible apply keptm_BaseM_change | with_reducible apply keptm_Eng_change | with_reducible apply kept_checkFailedHandle | with_reducible apply kept_readLines | with_reducible apply keptm_bind | with_reducible apply keptm_forM | with_reducible apply keptm_mapM | with_reducible apply keptm_foldlM | with_reducible apply keptm_modify | with_reducible apply kept_cond | with_reducible apply kept_syn | (with_reducible intro _) | split | dsimp only

theorem keptm_BaseM_elem (slot e : Nat)  : KeptM BaseSt.st (BaseM.elem slot e) := by
  unfold BaseM.elem
  repeat' first | with_reducible assumption | with_reducible exact keptm_pure _ _ | with_reducible exact keptm_throw _ _ | with_reducible exact keptm_get _ | with_reducible apply keptm_BaseM_bytes | with_reducible apply keptm_bind | with_reducible apply keptm_forM | with_reducible apply keptm_mapM | with_reducible apply keptm_foldlM | with_reducible apply keptm_modify | with_reducible apply kept_cond | with_reducible apply kept_syn | (with_reducible intro _) | split | dsimp only

theorem keptm_BaseM_rowAdd (t src row k : Nat)  : KeptM BaseSt.st (BaseM.rowAdd t src row k) := by
  unfold BaseM.rowAdd
  repeat' first | with_reducible assumption | with_reducible exact keptm_pure _ _ | with_reducible exact keptm_throw _ _ | with_reducible exact keptm_get _ | with_reducible apply keptm_BaseM_elem | with_reducible apply keptm_BaseM_fadd | with_reducible apply keptm_BaseM_floats | with_reducible apply keptm_BaseM_noteExc | with_reducible apply keptm_BaseM_put | with_reducible apply keptm_BaseM_rowBytes | with_reducible apply keptm_BaseM_store | with_reducible apply keptm_BaseM_toFloat | with_reducible apply keptm_BaseM_zip2 | with_reducible apply keptm_bind | with_reducible apply keptm_forM | with_reducible apply keptm_mapM | with_reducible apply keptm_foldlM | with_reducible apply keptm_modify | with_reducible apply kept_cond | with_reducible apply kept_syn | (with_reducible intro _) | split | dsimp only

theorem keptm_BaseM_rows (scatter : Bool)  : KeptM BaseSt.st (BaseM.rows scatter) := by
  unfold BaseM.rows
  repeat' first | with_reducible assumption | with_reducible exact keptm_pure _ _ | with_reducible exact keptm_throw _ _ | with_reducible exact keptm_get _ | with_reducible apply keptm_BaseM_exc | with_reducible apply keptm_BaseM_lanes | with_reducible apply keptm_BaseM_put | with_reducible apply keptm_BaseM_rowAdd | with_reducible apply keptm_BaseM_rowBytes | with_reducible apply keptm_bind | with_reducible apply keptm_forM | with_reducible apply keptm_mapM | with_reducible apply keptm_foldlM | with_reducible apply keptm_modify | with_reducible apply kept_cond | with_reducible apply kept_syn | (with_reducible intro _) | split | dsimp only

theorem kept_unitBuiltin {s0 : State} (s : State) (n v prog : Nat) (m : BaseM Unit) (ht0 : Kept s0 s) (h_m : KeptM BaseSt.st m) : Kept s0 (s.unitBuiltin n v prog m) := by
  unfold State.unitBuiltin
  split
  · split
    · exact ht0
    · split
      · exact ht0
      · exact kept_runUnit _ _ _ _ _ _ ht0 h_m (fun _ _ _ h => kept_endItem _ _ _ _ _ h)
  · exact ht0

/-! ### BaseCmds -/

theorem kept_execCallStart {s0 : State} (n : Fin 12) (s : State) (ht0 : Kept s0 s) : ∀ t9, (execCallStart n s) = .next t9 → Kept s0 t9 := by
  intro t9 ht; unfold execCallStart at ht; injection ht with ht; subst ht; try dsimp only
  repeat' with_reducible first | assumption | intro _ _ _ | intro _ _ | apply kept_updBase | apply kept_wr | exact kept_mk (by assumption) .. | split

theorem kept_execWorkItemStart {s0 : State} (n : Fin 12) (v : Fin 128) (ecc : List MemUpset) (s : State) (ht0 : Kept s0 s) : ∀ t9, (execWorkItemStart n v ecc s) = .next t9 → Kept s0 t9 := by
  intro t9 ht; unfold execWorkItemStart at ht; injection ht with ht; subst ht
  grind only [keptm_BaseM_stage, kept_mk, kept_runUnit, kept_updBase, kept_upset, kept_wrF]

theorem kept_execBaseCallDone {s0 : State} (n : Fin 12) (s : State) (ht0 : Kept s0 s) : ∀ t9, (execBaseCallDone n s) = .next t9 → Kept s0 t9 := by
  intro t9 ht; unfold execBaseCallDone at ht; injection ht with ht; subst ht; try dsimp only
  repeat' with_reducible first | assumption | intro _ _ _ | intro _ _ | apply kept_tokenPart | apply kept_updBase | apply kept_wrF | exact kept_mk (by assumption) .. | split

theorem kept_execInstructionLimit {s0 : State} (n : Fin 12) (v : Fin 128) (s : State) (ht0 : Kept s0 s) : ∀ t9, (execInstructionLimit n v s) = .next t9 → Kept s0 t9 := by
  intro t9 ht; unfold execInstructionLimit at ht; injection ht with ht; subst ht; try dsimp only
  repeat' with_reducible first | assumption | intro _ _ _ | intro _ _ | apply kept_failItem | exact kept_mk (by assumption) .. | split

theorem kept_execBaseVadd {s0 : State} (n : Fin 12) (v : Fin 128) (ecc : List MemUpset) (s : State) (ht0 : Kept s0 s) : ∀ t9, (execBaseVadd n v ecc s) = .next t9 → Kept s0 t9 := by
  intro t9 ht; unfold execBaseVadd at ht; injection ht with ht; subst ht; try dsimp only
  repeat' with_reducible first | assumption | intro _ _ _ | intro _ _ | apply kept_unitStep | apply kept_upset | exact kept_mk (by assumption) .. | split

theorem kept_execBaseVsub {s0 : State} (n : Fin 12) (v : Fin 128) (ecc : List MemUpset) (s : State) (ht0 : Kept s0 s) : ∀ t9, (execBaseVsub n v ecc s) = .next t9 → Kept s0 t9 := by
  intro t9 ht; unfold execBaseVsub at ht; injection ht with ht; subst ht; try dsimp only
  repeat' with_reducible first | assumption | intro _ _ _ | intro _ _ | apply kept_unitStep | apply kept_upset | exact kept_mk (by assumption) .. | split

theorem kept_execBaseVmul {s0 : State} (n : Fin 12) (v : Fin 128) (ecc : List MemUpset) (s : State) (ht0 : Kept s0 s) : ∀ t9, (execBaseVmul n v ecc s) = .next t9 → Kept s0 t9 := by
  intro t9 ht; unfold execBaseVmul at ht; injection ht with ht; subst ht; try dsimp only
  repeat' with_reducible first | assumption | intro _ _ _ | intro _ _ | apply kept_unitStep | apply kept_upset | exact kept_mk (by assumption) .. | split

theorem kept_execBaseVfma {s0 : State} (n : Fin 12) (v : Fin 128) (ecc : List MemUpset) (s : State) (ht0 : Kept s0 s) : ∀ t9, (execBaseVfma n v ecc s) = .next t9 → Kept s0 t9 := by
  intro t9 ht; unfold execBaseVfma at ht; injection ht with ht; subst ht; try dsimp only
  repeat' with_reducible first | assumption | intro _ _ _ | intro _ _ | apply kept_unitStep | apply kept_upset | exact kept_mk (by assumption) .. | split

theorem kept_execBaseVmax {s0 : State} (n : Fin 12) (v : Fin 128) (ecc : List MemUpset) (s : State) (ht0 : Kept s0 s) : ∀ t9, (execBaseVmax n v ecc s) = .next t9 → Kept s0 t9 := by
  intro t9 ht; unfold execBaseVmax at ht; injection ht with ht; subst ht; try dsimp only
  repeat' with_reducible first | assumption | intro _ _ _ | intro _ _ | apply kept_unitStep | apply kept_upset | exact kept_mk (by assumption) .. | split

theorem kept_execBaseVmin {s0 : State} (n : Fin 12) (v : Fin 128) (ecc : List MemUpset) (s : State) (ht0 : Kept s0 s) : ∀ t9, (execBaseVmin n v ecc s) = .next t9 → Kept s0 t9 := by
  intro t9 ht; unfold execBaseVmin at ht; injection ht with ht; subst ht; try dsimp only
  repeat' with_reducible first | assumption | intro _ _ _ | intro _ _ | apply kept_unitStep | apply kept_upset | exact kept_mk (by assumption) .. | split

theorem kept_execVdiv {s0 : State} (n : Fin 12) (v : Fin 128) (ecc : List MemUpset) (s : State) (ht0 : Kept s0 s) : ∀ t9, (execVdiv n v ecc s) = .next t9 → Kept s0 t9 := by
  intro t9 ht; unfold execVdiv at ht; injection ht with ht; subst ht; try dsimp only
  repeat' with_reducible first | assumption | intro _ _ _ | intro _ _ | apply kept_unitStep | apply kept_upset | exact kept_mk (by assumption) .. | split

theorem kept_execVsqrt {s0 : State} (n : Fin 12) (v : Fin 128) (ecc : List MemUpset) (s : State) (ht0 : Kept s0 s) : ∀ t9, (execVsqrt n v ecc s) = .next t9 → Kept s0 t9 := by
  intro t9 ht; unfold execVsqrt at ht; injection ht with ht; subst ht; try dsimp only
  repeat' with_reducible first | assumption | intro _ _ _ | intro _ _ | apply kept_unitStep | apply kept_upset | exact kept_mk (by assumption) .. | split

theorem kept_execVabs {s0 : State} (n : Fin 12) (v : Fin 128) (ecc : List MemUpset) (s : State) (ht0 : Kept s0 s) : ∀ t9, (execVabs n v ecc s) = .next t9 → Kept s0 t9 := by
  intro t9 ht; unfold execVabs at ht; injection ht with ht; subst ht; try dsimp only
  repeat' with_reducible first | assumption | intro _ _ _ | intro _ _ | apply kept_unitStep | apply kept_upset | exact kept_mk (by assumption) .. | split

theorem kept_execVsel {s0 : State} (n : Fin 12) (v : Fin 128) (ecc : List MemUpset) (s : State) (ht0 : Kept s0 s) : ∀ t9, (execVsel n v ecc s) = .next t9 → Kept s0 t9 := by
  intro t9 ht; unfold execVsel at ht; injection ht with ht; subst ht; try dsimp only
  repeat' with_reducible first | assumption | intro _ _ _ | intro _ _ | apply kept_unitStep | apply kept_upset | exact kept_mk (by assumption) .. | split

theorem kept_execVcmplt {s0 : State} (n : Fin 12) (v : Fin 128) (ecc : List MemUpset) (s : State) (ht0 : Kept s0 s) : ∀ t9, (execVcmplt n v ecc s) = .next t9 → Kept s0 t9 := by
  intro t9 ht; unfold execVcmplt at ht; injection ht with ht; subst ht; try dsimp only
  repeat' with_reducible first | assumption | intro _ _ _ | intro _ _ | apply kept_unitStep | apply kept_upset | exact kept_mk (by assumption) .. | split

theorem kept_execVcmple {s0 : State} (n : Fin 12) (v : Fin 128) (ecc : List MemUpset) (s : State) (ht0 : Kept s0 s) : ∀ t9, (execVcmple n v ecc s) = .next t9 → Kept s0 t9 := by
  intro t9 ht; unfold execVcmple at ht; injection ht with ht; subst ht; try dsimp only
  repeat' with_reducible first | assumption | intro _ _ _ | intro _ _ | apply kept_unitStep | apply kept_upset | exact kept_mk (by assumption) .. | split

theorem kept_execVcmpeq {s0 : State} (n : Fin 12) (v : Fin 128) (ecc : List MemUpset) (s : State) (ht0 : Kept s0 s) : ∀ t9, (execVcmpeq n v ecc s) = .next t9 → Kept s0 t9 := by
  intro t9 ht; unfold execVcmpeq at ht; injection ht with ht; subst ht; try dsimp only
  repeat' with_reducible first | assumption | intro _ _ _ | intro _ _ | apply kept_unitStep | apply kept_upset | exact kept_mk (by assumption) .. | split

theorem kept_execVsum {s0 : State} (n : Fin 12) (v : Fin 128) (ecc : List MemUpset) (s : State) (ht0 : Kept s0 s) : ∀ t9, (execVsum n v ecc s) = .next t9 → Kept s0 t9 := by
  intro t9 ht; unfold execVsum at ht; injection ht with ht; subst ht; try dsimp only
  repeat' with_reducible first | assumption | intro _ _ _ | intro _ _ | apply kept_unitStep | apply kept_upset | exact kept_mk (by assumption) .. | split

theorem kept_execViadd {s0 : State} (n : Fin 12) (v : Fin 128) (ecc : List MemUpset) (s : State) (ht0 : Kept s0 s) : ∀ t9, (execViadd n v ecc s) = .next t9 → Kept s0 t9 := by
  intro t9 ht; unfold execViadd at ht; injection ht with ht; subst ht; try dsimp only
  repeat' with_reducible first | assumption | intro _ _ _ | intro _ _ | apply kept_unitStep | apply kept_upset | exact kept_mk (by assumption) .. | split

theorem kept_execVisub {s0 : State} (n : Fin 12) (v : Fin 128) (ecc : List MemUpset) (s : State) (ht0 : Kept s0 s) : ∀ t9, (execVisub n v ecc s) = .next t9 → Kept s0 t9 := by
  intro t9 ht; unfold execVisub at ht; injection ht with ht; subst ht; try dsimp only
  repeat' with_reducible first | assumption | intro _ _ _ | intro _ _ | apply kept_unitStep | apply kept_upset | exact kept_mk (by assumption) .. | split

theorem kept_execVimul {s0 : State} (n : Fin 12) (v : Fin 128) (ecc : List MemUpset) (s : State) (ht0 : Kept s0 s) : ∀ t9, (execVimul n v ecc s) = .next t9 → Kept s0 t9 := by
  intro t9 ht; unfold execVimul at ht; injection ht with ht; subst ht; try dsimp only
  repeat' with_reducible first | assumption | intro _ _ _ | intro _ _ | apply kept_unitStep | apply kept_upset | exact kept_mk (by assumption) .. | split

theorem kept_execViand {s0 : State} (n : Fin 12) (v : Fin 128) (ecc : List MemUpset) (s : State) (ht0 : Kept s0 s) : ∀ t9, (execViand n v ecc s) = .next t9 → Kept s0 t9 := by
  intro t9 ht; unfold execViand at ht; injection ht with ht; subst ht; try dsimp only
  repeat' with_reducible first | assumption | intro _ _ _ | intro _ _ | apply kept_unitStep | apply kept_upset | exact kept_mk (by assumption) .. | split

theorem kept_execVior {s0 : State} (n : Fin 12) (v : Fin 128) (ecc : List MemUpset) (s : State) (ht0 : Kept s0 s) : ∀ t9, (execVior n v ecc s) = .next t9 → Kept s0 t9 := by
  intro t9 ht; unfold execVior at ht; injection ht with ht; subst ht; try dsimp only
  repeat' with_reducible first | assumption | intro _ _ _ | intro _ _ | apply kept_unitStep | apply kept_upset | exact kept_mk (by assumption) .. | split

theorem kept_execVixor {s0 : State} (n : Fin 12) (v : Fin 128) (ecc : List MemUpset) (s : State) (ht0 : Kept s0 s) : ∀ t9, (execVixor n v ecc s) = .next t9 → Kept s0 t9 := by
  intro t9 ht; unfold execVixor at ht; injection ht with ht; subst ht; try dsimp only
  repeat' with_reducible first | assumption | intro _ _ _ | intro _ _ | apply kept_unitStep | apply kept_upset | exact kept_mk (by assumption) .. | split

theorem kept_execVishl {s0 : State} (n : Fin 12) (v : Fin 128) (ecc : List MemUpset) (s : State) (ht0 : Kept s0 s) : ∀ t9, (execVishl n v ecc s) = .next t9 → Kept s0 t9 := by
  intro t9 ht; unfold execVishl at ht; injection ht with ht; subst ht; try dsimp only
  repeat' with_reducible first | assumption | intro _ _ _ | intro _ _ | apply kept_unitStep | apply kept_upset | exact kept_mk (by assumption) .. | split

theorem kept_execVishr {s0 : State} (n : Fin 12) (v : Fin 128) (ecc : List MemUpset) (s : State) (ht0 : Kept s0 s) : ∀ t9, (execVishr n v ecc s) = .next t9 → Kept s0 t9 := by
  intro t9 ht; unfold execVishr at ht; injection ht with ht; subst ht; try dsimp only
  repeat' with_reducible first | assumption | intro _ _ _ | intro _ _ | apply kept_unitStep | apply kept_upset | exact kept_mk (by assumption) .. | split

theorem kept_execVcvtfi {s0 : State} (n : Fin 12) (v : Fin 128) (ecc : List MemUpset) (s : State) (ht0 : Kept s0 s) : ∀ t9, (execVcvtfi n v ecc s) = .next t9 → Kept s0 t9 := by
  intro t9 ht; unfold execVcvtfi at ht; injection ht with ht; subst ht; try dsimp only
  repeat' with_reducible first | assumption | intro _ _ _ | intro _ _ | apply kept_unitStep | apply kept_upset | exact kept_mk (by assumption) .. | split

theorem kept_execVcvtif {s0 : State} (n : Fin 12) (v : Fin 128) (ecc : List MemUpset) (s : State) (ht0 : Kept s0 s) : ∀ t9, (execVcvtif n v ecc s) = .next t9 → Kept s0 t9 := by
  intro t9 ht; unfold execVcvtif at ht; injection ht with ht; subst ht; try dsimp only
  repeat' with_reducible first | assumption | intro _ _ _ | intro _ _ | apply kept_unitStep | apply kept_upset | exact kept_mk (by assumption) .. | split

theorem kept_execVidx {s0 : State} (n : Fin 12) (v : Fin 128) (ecc : List MemUpset) (s : State) (ht0 : Kept s0 s) : ∀ t9, (execVidx n v ecc s) = .next t9 → Kept s0 t9 := by
  intro t9 ht; unfold execVidx at ht; injection ht with ht; subst ht; try dsimp only
  repeat' with_reducible first | assumption | intro _ _ _ | intro _ _ | apply kept_unitStep | apply kept_upset | exact kept_mk (by assumption) .. | split

theorem kept_execVbcx {s0 : State} (n : Fin 12) (v : Fin 128) (ecc : List MemUpset) (s : State) (ht0 : Kept s0 s) : ∀ t9, (execVbcx n v ecc s) = .next t9 → Kept s0 t9 := by
  intro t9 ht; unfold execVbcx at ht; injection ht with ht; subst ht; try dsimp only
  repeat' with_reducible first | assumption | intro _ _ _ | intro _ _ | apply kept_unitStep | apply kept_upset | exact kept_mk (by assumption) .. | split

theorem kept_execVbci {s0 : State} (n : Fin 12) (v : Fin 128) (ecc : List MemUpset) (s : State) (ht0 : Kept s0 s) : ∀ t9, (execVbci n v ecc s) = .next t9 → Kept s0 t9 := by
  intro t9 ht; unfold execVbci at ht; injection ht with ht; subst ht; try dsimp only
  repeat' with_reducible first | assumption | intro _ _ _ | intro _ _ | apply kept_unitStep | apply kept_upset | exact kept_mk (by assumption) .. | split

theorem kept_execVbcc {s0 : State} (n : Fin 12) (v : Fin 128) (ecc : List MemUpset) (s : State) (ht0 : Kept s0 s) : ∀ t9, (execVbcc n v ecc s) = .next t9 → Kept s0 t9 := by
  intro t9 ht; unfold execVbcc at ht; injection ht with ht; subst ht; try dsimp only
  repeat' with_reducible first | assumption | intro _ _ _ | intro _ _ | apply kept_unitStep | apply kept_upset | exact kept_mk (by assumption) .. | split

theorem kept_execVld {s0 : State} (n : Fin 12) (v : Fin 128) (ecc : List MemUpset) (s : State) (ht0 : Kept s0 s) : ∀ t9, (execVld n v ecc s) = .next t9 → Kept s0 t9 := by
  intro t9 ht; unfold execVld at ht; injection ht with ht; subst ht; try dsimp only
  repeat' with_reducible first | assumption | intro _ _ _ | intro _ _ | apply kept_unitStep | apply kept_upset | exact kept_mk (by assumption) .. | split

theorem kept_execVst {s0 : State} (n : Fin 12) (v : Fin 128) (ecc : List MemUpset) (s : State) (ht0 : Kept s0 s) : ∀ t9, (execVst n v ecc s) = .next t9 → Kept s0 t9 := by
  intro t9 ht; unfold execVst at ht; injection ht with ht; subst ht; try dsimp only
  repeat' with_reducible first | assumption | intro _ _ _ | intro _ _ | apply kept_unitStep | apply kept_upset | exact kept_mk (by assumption) .. | split

theorem kept_execXadd {s0 : State} (n : Fin 12) (v : Fin 128) (ecc : List MemUpset) (s : State) (ht0 : Kept s0 s) : ∀ t9, (execXadd n v ecc s) = .next t9 → Kept s0 t9 := by
  intro t9 ht; unfold execXadd at ht; injection ht with ht; subst ht; try dsimp only
  repeat' with_reducible first | assumption | intro _ _ _ | intro _ _ | apply kept_unitStep | apply kept_upset | exact kept_mk (by assumption) .. | split

theorem kept_execXsub {s0 : State} (n : Fin 12) (v : Fin 128) (ecc : List MemUpset) (s : State) (ht0 : Kept s0 s) : ∀ t9, (execXsub n v ecc s) = .next t9 → Kept s0 t9 := by
  intro t9 ht; unfold execXsub at ht; injection ht with ht; subst ht; try dsimp only
  repeat' with_reducible first | assumption | intro _ _ _ | intro _ _ | apply kept_unitStep | apply kept_upset | exact kept_mk (by assumption) .. | split

theorem kept_execXmul {s0 : State} (n : Fin 12) (v : Fin 128) (ecc : List MemUpset) (s : State) (ht0 : Kept s0 s) : ∀ t9, (execXmul n v ecc s) = .next t9 → Kept s0 t9 := by
  intro t9 ht; unfold execXmul at ht; injection ht with ht; subst ht; try dsimp only
  repeat' with_reducible first | assumption | intro _ _ _ | intro _ _ | apply kept_unitStep | apply kept_upset | exact kept_mk (by assumption) .. | split

theorem kept_execXand {s0 : State} (n : Fin 12) (v : Fin 128) (ecc : List MemUpset) (s : State) (ht0 : Kept s0 s) : ∀ t9, (execXand n v ecc s) = .next t9 → Kept s0 t9 := by
  intro t9 ht; unfold execXand at ht; injection ht with ht; subst ht; try dsimp only
  repeat' with_reducible first | assumption | intro _ _ _ | intro _ _ | apply kept_unitStep | apply kept_upset | exact kept_mk (by assumption) .. | split

theorem kept_execBaseXor {s0 : State} (n : Fin 12) (v : Fin 128) (ecc : List MemUpset) (s : State) (ht0 : Kept s0 s) : ∀ t9, (execBaseXor n v ecc s) = .next t9 → Kept s0 t9 := by
  intro t9 ht; unfold execBaseXor at ht; injection ht with ht; subst ht; try dsimp only
  repeat' with_reducible first | assumption | intro _ _ _ | intro _ _ | apply kept_unitStep | apply kept_upset | exact kept_mk (by assumption) .. | split

theorem kept_execXshl {s0 : State} (n : Fin 12) (v : Fin 128) (ecc : List MemUpset) (s : State) (ht0 : Kept s0 s) : ∀ t9, (execXshl n v ecc s) = .next t9 → Kept s0 t9 := by
  intro t9 ht; unfold execXshl at ht; injection ht with ht; subst ht; try dsimp only
  repeat' with_reducible first | assumption | intro _ _ _ | intro _ _ | apply kept_unitStep | apply kept_upset | exact kept_mk (by assumption) .. | split

theorem kept_execXshr {s0 : State} (n : Fin 12) (v : Fin 128) (ecc : List MemUpset) (s : State) (ht0 : Kept s0 s) : ∀ t9, (execXshr n v ecc s) = .next t9 → Kept s0 t9 := by
  intro t9 ht; unfold execXshr at ht; injection ht with ht; subst ht; try dsimp only
  repeat' with_reducible first | assumption | intro _ _ _ | intro _ _ | apply kept_unitStep | apply kept_upset | exact kept_mk (by assumption) .. | split

theorem kept_execXaddi {s0 : State} (n : Fin 12) (v : Fin 128) (ecc : List MemUpset) (s : State) (ht0 : Kept s0 s) : ∀ t9, (execXaddi n v ecc s) = .next t9 → Kept s0 t9 := by
  intro t9 ht; unfold execXaddi at ht; injection ht with ht; subst ht; try dsimp only
  repeat' with_reducible first | assumption | intro _ _ _ | intro _ _ | apply kept_unitStep | apply kept_upset | exact kept_mk (by assumption) .. | split

theorem kept_execXli {s0 : State} (n : Fin 12) (v : Fin 128) (ecc : List MemUpset) (s : State) (ht0 : Kept s0 s) : ∀ t9, (execXli n v ecc s) = .next t9 → Kept s0 t9 := by
  intro t9 ht; unfold execXli at ht; injection ht with ht; subst ht; try dsimp only
  repeat' with_reducible first | assumption | intro _ _ _ | intro _ _ | apply kept_unitStep | apply kept_upset | exact kept_mk (by assumption) .. | split

theorem kept_execBaseJmp {s0 : State} (n : Fin 12) (v : Fin 128) (ecc : List MemUpset) (s : State) (ht0 : Kept s0 s) : ∀ t9, (execBaseJmp n v ecc s) = .next t9 → Kept s0 t9 := by
  intro t9 ht; unfold execBaseJmp at ht; injection ht with ht; subst ht; try dsimp only
  repeat' with_reducible first | assumption | intro _ _ _ | intro _ _ | apply kept_unitStep | apply kept_upset | exact kept_mk (by assumption) .. | split

theorem kept_execBaseBeq {s0 : State} (n : Fin 12) (v : Fin 128) (ecc : List MemUpset) (s : State) (ht0 : Kept s0 s) : ∀ t9, (execBaseBeq n v ecc s) = .next t9 → Kept s0 t9 := by
  intro t9 ht; unfold execBaseBeq at ht; injection ht with ht; subst ht; try dsimp only
  repeat' with_reducible first | assumption | intro _ _ _ | intro _ _ | apply kept_unitStep | apply kept_upset | exact kept_mk (by assumption) .. | split

theorem kept_execBaseBne {s0 : State} (n : Fin 12) (v : Fin 128) (ecc : List MemUpset) (s : State) (ht0 : Kept s0 s) : ∀ t9, (execBaseBne n v ecc s) = .next t9 → Kept s0 t9 := by
  intro t9 ht; unfold execBaseBne at ht; injection ht with ht; subst ht; try dsimp only
  repeat' with_reducible first | assumption | intro _ _ _ | intro _ _ | apply kept_unitStep | apply kept_upset | exact kept_mk (by assumption) .. | split

theorem kept_execBaseBlt {s0 : State} (n : Fin 12) (v : Fin 128) (ecc : List MemUpset) (s : State) (ht0 : Kept s0 s) : ∀ t9, (execBaseBlt n v ecc s) = .next t9 → Kept s0 t9 := by
  intro t9 ht; unfold execBaseBlt at ht; injection ht with ht; subst ht; try dsimp only
  repeat' with_reducible first | assumption | intro _ _ _ | intro _ _ | apply kept_unitStep | apply kept_upset | exact kept_mk (by assumption) .. | split

theorem kept_execBaseBge {s0 : State} (n : Fin 12) (v : Fin 128) (ecc : List MemUpset) (s : State) (ht0 : Kept s0 s) : ∀ t9, (execBaseBge n v ecc s) = .next t9 → Kept s0 t9 := by
  intro t9 ht; unfold execBaseBge at ht; injection ht with ht; subst ht; try dsimp only
  repeat' with_reducible first | assumption | intro _ _ _ | intro _ _ | apply kept_unitStep | apply kept_upset | exact kept_mk (by assumption) .. | split

theorem kept_execBaseEnd {s0 : State} (n : Fin 12) (v : Fin 128) (ecc : List MemUpset) (s : State) (ht0 : Kept s0 s) : ∀ t9, (execBaseEnd n v ecc s) = .next t9 → Kept s0 t9 := by
  intro t9 ht; unfold execBaseEnd at ht; injection ht with ht; subst ht; try dsimp only
  repeat' with_reducible first | assumption | intro _ _ _ | intro _ _ | apply kept_unitStep | apply kept_upset | exact kept_mk (by assumption) .. | split

theorem kept_execBadamw {s0 : State} (n : Fin 12) (v : Fin 128) (ecc : List MemUpset) (s : State) (ht0 : Kept s0 s) : ∀ t9, (execBadamw n v ecc s) = .next t9 → Kept s0 t9 := by
  intro t9 ht; unfold execBadamw at ht; injection ht with ht; subst ht
  grind only [keptm_BaseM_adamw, keptm_BaseM_groups, kept_unitBuiltin, kept_upset]

theorem kept_execBcvt {s0 : State} (n : Fin 12) (v : Fin 128) (ecc : List MemUpset) (s : State) (ht0 : Kept s0 s) : ∀ t9, (execBcvt n v ecc s) = .next t9 → Kept s0 t9 := by
  intro t9 ht; unfold execBcvt at ht; injection ht with ht; subst ht
  grind only [keptm_BaseM_bcvt, keptm_BaseM_groups, kept_unitBuiltin, kept_upset]

theorem kept_execBgath {s0 : State} (n : Fin 12) (v : Fin 128) (ecc : List MemUpset) (s : State) (ht0 : Kept s0 s) : ∀ t9, (execBgath n v ecc s) = .next t9 → Kept s0 t9 := by
  intro t9 ht; unfold execBgath at ht; injection ht with ht; subst ht
  grind only [keptm_BaseM_rows, kept_unitBuiltin, kept_upset]

theorem kept_execBscat {s0 : State} (n : Fin 12) (v : Fin 128) (ecc : List MemUpset) (s : State) (ht0 : Kept s0 s) : ∀ t9, (execBscat n v ecc s) = .next t9 → Kept s0 t9 := by
  intro t9 ht; unfold execBscat at ht; injection ht with ht; subst ht
  grind only [keptm_BaseM_rows, kept_unitBuiltin, kept_upset]

theorem kept_execBred {s0 : State} (n : Fin 12) (v : Fin 128) (ecc : List MemUpset) (s : State) (ht0 : Kept s0 s) : ∀ t9, (execBred n v ecc s) = .next t9 → Kept s0 t9 := by
  intro t9 ht; unfold execBred at ht; injection ht with ht; subst ht
  grind only [keptm_BaseM_bred, keptm_BaseM_groups, kept_unitBuiltin, kept_upset]

theorem kept_execBsqn {s0 : State} (n : Fin 12) (v : Fin 128) (ecc : List MemUpset) (s : State) (ht0 : Kept s0 s) : ∀ t9, (execBsqn n v ecc s) = .next t9 → Kept s0 t9 := by
  intro t9 ht; unfold execBsqn at ht; injection ht with ht; subst ht
  grind only [keptm_BaseM_bsqn, kept_unitBuiltin, kept_upset]

theorem kept_execBchk {s0 : State} (n : Fin 12) (v : Fin 128) (ecc : List MemUpset) (s : State) (ht0 : Kept s0 s) : ∀ t9, (execBchk n v ecc s) = .next t9 → Kept s0 t9 := by
  intro t9 ht; unfold execBchk at ht; injection ht with ht; subst ht
  grind only [keptm_BaseM_bchk, kept_unitBuiltin, kept_upset]

theorem kept_execBaseCodeWrite {s0 : State} (ag : Agent) (n : Fin 12) (call : Bool) (i : BitVec 14) (v : W64) (s : State) (ht0 : Kept s0 s) : ∀ t9, (execBaseCodeWrite ag n call i v s) = .next t9 → Kept s0 t9 := by
  intro t9 ht; unfold execBaseCodeWrite at ht; injection ht with ht; subst ht; try dsimp only
  repeat' with_reducible first | assumption | intro _ _ _ | intro _ _ | apply kept_csrAccess | apply kept_refuseWrite | apply kept_wr | exact kept_mk (by assumption) .. | split

/-! ### Bbx -/

theorem kept_pf0Vector {s0 : State} (s : State) (h : Nat) (ht0 : Kept s0 s) : Kept s0 (State.pf0Vector s h) := by
  unfold State.pf0Vector; try dsimp only
  repeat' with_reducible first | assumption | intro _ _ _ | intro _ _ | apply kept_hostOut | exact kept_mk (by assumption) .. | split

theorem kept_boxFill {s0 : State} (s : State) (b a words ty : Nat) (ht0 : Kept s0 s) : Kept s0 (State.boxFill s b a words ty) := by
  unfold State.boxFill; try dsimp only
  repeat' with_reducible first | assumption | intro _ _ _ | intro _ _ | apply kept_cond | apply kept_cpCommit | apply kept_pf0Vector | apply kept_wrB | apply kept_wrF | exact kept_mk (by assumption) .. | split

theorem kept_hdrRead {s0 : State} (s : State) (b a : Nat) (ht0 : Kept s0 s) : Kept s0 (State.hdrRead s b a) := by
  unfold State.hdrRead; try dsimp only
  repeat' with_reducible first | assumption | intro _ _ _ | intro _ _ | apply kept_cond | apply kept_event | apply kept_wrB | exact kept_mk (by assumption) .. | split

theorem kept_boxEmpty {s0 : State} (s : State) (b : Nat) (ht0 : Kept s0 s) : Kept s0 (State.boxEmpty s b) := by
  unfold State.boxEmpty; try dsimp only
  repeat' with_reducible first | assumption | intro _ _ _ | intro _ _ | apply kept_cond | apply kept_pf0Vector | apply kept_wrB | apply kept_wrF | exact kept_mk (by assumption) .. | split

theorem kept_boxPost {s0 : State} (s : State) (b a ty : Nat) (ws : List Nat) (ht0 : Kept s0 s) : Kept s0 (State.boxPost s b a ty ws) := by
  unfold State.boxPost; try dsimp only
  repeat' with_reducible first | assumption | intro _ _ _ | intro _ _ | apply kept_boxFill | apply kept_each | apply kept_wr | exact kept_mk (by assumption) .. | split

theorem kept_agentStart {s0 : State} (s : State) (a : Nat) (ht0 : Kept s0 s) : Kept s0 (State.agentStart s a) := by
  unfold State.agentStart; try dsimp only
  repeat' with_reducible first | assumption | intro _ _ _ | intro _ _ | apply kept_cond | apply kept_each | apply kept_wrB | apply kept_wrF | exact kept_mk (by assumption) .. | split

/-! ### Bundle -/

theorem kept_scalarSlot {s0 : State} (s : State) (q : Nat) (sl : Slot) (ht0 : Kept s0 s) : Kept s0 (State.scalarSlot s q sl) := by
  unfold State.scalarSlot; try dsimp only
  repeat' with_reducible first | assumption | intro _ _ _ | intro _ _ | apply kept_setSreg | apply kept_updSeq | exact kept_mk (by assumption) .. | split

theorem kept_flowSlot {s0 : State} (s : State) (q : Nat) (sl : Slot) (ht0 : Kept s0 s) : Kept s0 (State.flowSlot s q sl) := by
  unfold State.flowSlot; try dsimp only
  repeat' with_reducible first | assumption | intro _ _ _ | intro _ _ | apply kept_updSeq | exact kept_mk (by assumption) .. | split

theorem kept_awaitTokens {s0 : State} (s : State) (q : Nat) (pend : List Nat) (f : Freeze) (cause : Nat) (ht0 : Kept s0 s) : Kept s0 (State.awaitTokens s q pend f cause) := by
  unfold State.awaitTokens; try dsimp only
  repeat' with_reducible first | assumption | intro _ _ _ | intro _ _ | apply kept_foldl | apply kept_foldl_fst | apply kept_freezeOn | apply kept_stopRecipe | apply kept_updSeq | exact kept_mk (by assumption) .. | split

theorem keptx_andThen {s0 : State} (a : Stage) (f : State → Stage) (h : Kept s0 a.state) (hf : ∀ s, Kept s0 s → Kept s0 (f s).state) : Kept s0 (a.andThen f).state := by
  cases a with
  | go s => exact hf s h
  | halt s => exact h

theorem kept_waitStage {s0 : State} (s : State) (q : Nat) (sls : List Slot) (ht0 : Kept s0 s) : Kept s0 (s.waitStage q sls).state := by
  unfold State.waitStage
  dsimp only
  split
  · exact kept_awaitTokens _ _ _ _ _ ht0
  · split
    · exact kept_stopRecipe _ _ _ ht0
    · exact ht0

theorem kept_endStage {s0 : State} (s : State) (q : Nat) (sls : List Slot) (ht0 : Kept s0 s) : Kept s0 (s.endStage q sls).state := by
  unfold State.endStage
  dsimp only
  split
  · exact kept_awaitTokens _ _ _ _ _ ht0
  · split
    · split
      · exact kept_awaitTokens _ _ _ _ _ ht0
      · split
        · exact kept_stopRecipe _ _ _ ht0
        · exact ht0
    · exact ht0

theorem kept_reuseStage {s0 : State} (s : State) (q : Nat) (sls : List Slot) (ht0 : Kept s0 s) : Kept s0 (State.reuseStage s q sls).state := by
  have h1 : Kept s0 (s.cond (!((s.seq q).blockedTokens ((sls.filterMap Slot.token).filter (s.seq q).isPending)).isEmpty)
      (·.updSeq q (fun z => z.cancelPrefetches ((s.seq q).blockedTokens ((sls.filterMap Slot.token).filter (s.seq q).isPending))))) := by
    unfold State.cond
    split
    · exact kept_updSeq _ _ _ ht0
    · exact ht0
  unfold State.reuseStage
  dsimp only
  split
  · exact h1
  · exact kept_freezeOn _ _ _ _ _ h1

theorem kept_slotEffect {s0 : State} (s : State) (q : Nat) (sl : Slot) (ht0 : Kept s0 s) : Kept s0 (State.slotEffect s q sl).1 := by
  unfold State.slotEffect; try dsimp only
  repeat' with_reducible first | assumption | intro _ _ _ | intro _ _ | apply kept_btrigIssue | apply kept_ctrigIssue | apply kept_dmxIssue | apply kept_flowSlot | apply kept_prefetch | apply kept_scalarSlot | apply kept_signalLocal | apply kept_slotOps | apply kept_updSeq | exact kept_mk (by assumption) .. | split

theorem kept_issueSlots {s0 : State} (s : State) (q : Nat) (sls : List Slot) (ht0 : Kept s0 s) : Kept s0 (s.issueSlots q sls) := by
  unfold State.issueSlots
  dsimp only
  have h := kept_foldl_fst (s0 := s0) (a := (s.each (sls.filter Slot.isControl) (fun s sl => s.slotControl q sl ((s.instances q sl).getD [])), (none : Option StopInfo)))
    (sls.filter (fun sl => !sl.isControl)) (fun a sl => ((a.1.slotEffect q sl).1, firstFault a.2 (a.1.slotEffect q sl).2))
    (kept_each _ _ ht0 (fun _ _ h => kept_slotControl _ _ _ _ h)) (fun a x h => kept_slotEffect _ _ _ h)
  unfold State.stopIf
  split
  · exact kept_stopRecipe _ _ _ h
  · exact h

theorem kept_checkStages {s0 : State} (s : State) (q pc next : Nat) (sls : List Slot) (ht0 : Kept s0 s) : Kept s0 (s.checkStages q pc next sls).state := by
  unfold State.checkStages
  split
  · exact kept_stopRecipe _ _ _ ht0
  · exact keptx_andThen _ _ (keptx_andThen _ _ (kept_waitStage _ _ _ ht0) (fun _ h => kept_endStage _ _ _ h)) (fun _ h => kept_reuseStage _ _ _ h)

theorem kept_holdSlot {s0 : State} (s : State) (q : Nat) (sl : Slot) (ht0 : Kept s0 s) : Kept s0 (State.holdSlot s q sl) := by
  unfold State.holdSlot; try dsimp only
  repeat' with_reducible first | assumption | intro _ _ _ | intro _ _ | apply kept_updSeq | exact kept_mk (by assumption) .. | split

theorem kept_slotCommand {s0 : State} (s : State) (q : Nat) (sl : Slot) (ht0 : Kept s0 s) : Kept s0 (s.slotCommand q sl) := by
  unfold State.slotCommand
  split
  · have h := kept_checkStages s q (s.pcOf q) (s.seq q).after [sl] ht0
    split
    · rename_i hh; rw [hh] at h; exact kept_issueSlots _ _ _ (kept_cond _ _ h (fun _ h => kept_updSeq _ _ _ h))
    · rename_i hh; rw [hh] at h; exact kept_holdSlot _ _ _ h
  · exact ht0

theorem kept_fetchAt {s0 : State} (s : State) (q pc : Nat) (ht0 : Kept s0 s) : Kept s0 (State.fetchAt s q pc) := by
  unfold State.fetchAt; try dsimp only
  repeat' with_reducible first | assumption | intro _ _ _ | intro _ _ | apply kept_updSeq | apply kept_wr | exact kept_mk (by assumption) .. | split

theorem kept_issueBundle {s0 : State} (s : State) (q h next : Nat) (sls : List Slot) (ht0 : Kept s0 s) : Kept s0 (State.issueBundle s q h next sls) := by
  unfold State.issueBundle; try dsimp only
  repeat' with_reducible first | assumption | intro _ _ _ | intro _ _ | apply kept_issueSlots | apply kept_updSeq | exact kept_mk (by assumption) .. | split

theorem kept_handleBundle {s0 : State} (s : State) (q : Nat) (ht0 : Kept s0 s) : Kept s0 (s.handleBundle q) := by
  unfold State.handleBundle
  dsimp only
  have hf := kept_fetchAt s q (s.seq q).nextPc ht0
  generalize s.fetchAt q (s.seq q).nextPc = u at hf
  generalize (s.seq q).nextPc = pc
  split
  · exact kept_freezeOn _ _ _ _ _ hf
  · split
    · exact kept_stopRecipe _ _ _ hf
    · rename_i h next sls _
      have hc := kept_checkStages u q pc next sls hf
      split
      · rename_i hh; rw [hh] at hc
        exact kept_issueBundle _ _ _ _ _ hc
      · rename_i hh; rw [hh] at hc; exact hc

theorem kept_seqGoOn {s0 : State} (s : State) (q : Nat) (ht0 : Kept s0 s) : Kept s0 (State.seqGoOn s q) := by
  unfold State.seqGoOn; try dsimp only
  repeat' with_reducible first | assumption | intro _ _ _ | intro _ _ | apply kept_handleBundle | apply kept_slotCommand | apply kept_updSeq | exact kept_mk (by assumption) .. | split

/-! ### Floor -/

theorem kept_clearClusterCounters {s0 : State} (s : State) (c : Nat) (ht0 : Kept s0 s) : Kept s0 (State.clearClusterCounters s c) := by
  unfold State.clearClusterCounters; try dsimp only
  repeat' with_reducible first | assumption | intro _ _ _ | intro _ _ | apply kept_each | apply kept_wr | exact kept_mk (by assumption) .. | split

/-! ### SeqCmds -/

theorem kept_resume {s0 : State} (s : State) (q : Nat) (ht0 : Kept s0 s) : Kept s0 (State.resume s q) := by
  unfold State.resume; try dsimp only
  repeat' with_reducible first | assumption | intro _ _ _ | intro _ _ | apply kept_seqGoOn | apply kept_unfreeze | exact kept_mk (by assumption) .. | split

theorem kept_startRecipe {s0 : State} (q : Nat) (s : State) (ht0 : Kept s0 s) : Kept s0 (startRecipe q s) := by
  unfold startRecipe
  generalize List.range 11 = l
  split
  · refine kept_wrB _ _ _ (kept_setSeqState _ _ _ _ (kept_wrF _ _ _ _ (kept_mk (kept_each _ _ ?_ (fun _ _ h => kept_wr _ _ h)) ..)))
    exact kept_wr _ _ (kept_wr _ _ (kept_wrF _ _ _ _ (kept_wr _ _ (kept_wr _ _ (kept_wr _ _ (kept_updSeq _ _ _ ht0))))))
  · exact ht0

theorem kept_execRecipeStart {s0 : State} (q : Fin 4) (s : State) (ht0 : Kept s0 s) : ∀ t9, (execRecipeStart q s) = .next t9 → Kept s0 t9 := by
  intro t9 ht; unfold execRecipeStart at ht; injection ht with ht; subst ht; try dsimp only
  repeat' with_reducible first | assumption | intro _ _ _ | intro _ _ | apply kept_startRecipe | exact kept_mk (by assumption) .. | split

theorem kept_setHold {s0 : State} (q : Nat) (on : Bool) (s : State) (ht0 : Kept s0 s) : Kept s0 (setHold q on s) := by
  unfold setHold; try dsimp only
  repeat' with_reducible first | assumption | intro _ _ _ | intro _ _ | apply kept_resume | apply kept_updSeq | apply kept_wrB | exact kept_mk (by assumption) .. | split

theorem kept_execSeqHoldReq {s0 : State} (q : Fin 4) (on : Bool) (s : State) (ht0 : Kept s0 s) : ∀ t9, (execSeqHoldReq q on s) = .next t9 → Kept s0 t9 := by
  intro t9 ht; unfold execSeqHoldReq at ht; injection ht with ht; subst ht; try dsimp only
  repeat' with_reducible first | assumption | intro _ _ _ | intro _ _ | apply kept_setHold | exact kept_mk (by assumption) .. | split

theorem kept_abortRecipe {s0 : State} (q : Nat) (s : State) (ht0 : Kept s0 s) : Kept s0 (abortRecipe q s) := by
  unfold abortRecipe; try dsimp only
  repeat' with_reducible first | assumption | intro _ _ _ | intro _ _ | apply kept_stopRecipe | apply kept_wrB | exact kept_mk (by assumption) .. | split

theorem kept_execSeqAbort {s0 : State} (q : Fin 4) (s : State) (ht0 : Kept s0 s) : ∀ t9, (execSeqAbort q s) = .next t9 → Kept s0 t9 := by
  intro t9 ht; unfold execSeqAbort at ht; injection ht with ht; subst ht; try dsimp only
  repeat' with_reducible first | assumption | intro _ _ _ | intro _ _ | apply kept_abortRecipe | exact kept_mk (by assumption) .. | split

theorem kept_execSeqVbindWrite {s0 : State} (ag : Agent) (d : Fin 4) (v : W64) (s : State) (ht0 : Kept s0 s) : ∀ t9, (execSeqVbindWrite ag d v s) = .next t9 → Kept s0 t9 := by
  intro t9 ht; unfold execSeqVbindWrite at ht; injection ht with ht; subst ht; try dsimp only
  repeat' with_reducible first | assumption | intro _ _ _ | intro _ _ | apply kept_csrAccess | apply kept_refuseWrite | apply kept_wr | exact kept_mk (by assumption) .. | split

theorem kept_execStep {s0 : State} (q : Fin 4) (ecc : List MemUpset) (s : State) (ht0 : Kept s0 s) : ∀ t9, (execStep q ecc s) = .next t9 → Kept s0 t9 := by
  intro t9 ht; unfold execStep at ht; injection ht with ht; subst ht; try dsimp only
  repeat' with_reducible first | assumption | intro _ _ _ | intro _ _ | apply kept_cycle | apply kept_upset | exact kept_mk (by assumption) .. | split

theorem kept_execBundleIssue {s0 : State} (q : Fin 4) (ecc : List MemUpset) (s : State) (ht0 : Kept s0 s) : ∀ t9, (execBundleIssue q ecc s) = .next t9 → Kept s0 t9 := by
  intro t9 ht; unfold execBundleIssue at ht; injection ht with ht; subst ht; try dsimp only
  repeat' with_reducible first | assumption | intro _ _ _ | intro _ _ | apply kept_handleBundle | apply kept_upset | exact kept_mk (by assumption) .. | split

theorem kept_execPageLoaded {s0 : State} (q : Fin 4) (ecc : List MemUpset) (s : State) (ht0 : Kept s0 s) : ∀ t9, (execPageLoaded q ecc s) = .next t9 → Kept s0 t9 := by
  intro t9 ht; unfold execPageLoaded at ht; injection ht with ht; subst ht; try dsimp only
  repeat' with_reducible first | assumption | intro _ _ _ | intro _ _ | apply kept_pageFault | apply kept_placePage | apply kept_readPage | apply kept_resume | apply kept_updSeq | apply kept_upset | exact kept_mk (by assumption) .. | split

theorem kept_execWaitingSlotIssue {s0 : State} (q : Fin 4) (cls u k : Nat) (ecc : List MemUpset) (s : State) (ht0 : Kept s0 s) :
    ∀ t, execWaitingSlotIssue q cls u k ecc s = .next t → Kept s0 t := by
  intro t ht
  unfold execWaitingSlotIssue at ht
  injection ht with ht
  subst ht
  have h := kept_upset s ecc ht0
  dsimp only
  generalize s.upset ecc = u1 at h
  split
  · have h2 := kept_issueWaiting u1 q cls u k h
    unfold State.stopIf
    split
    · exact kept_stopRecipe _ _ _ h2
    · exact h2
  · exact h

theorem kept_execWaitRelease {s0 : State} (q : Fin 4) (ecc : List MemUpset) (s : State) (ht0 : Kept s0 s) : ∀ t9, (execWaitRelease q ecc s) = .next t9 → Kept s0 t9 := by
  intro t9 ht; unfold execWaitRelease at ht; injection ht with ht; subst ht; try dsimp only
  repeat' with_reducible first | assumption | intro _ _ _ | intro _ _ | apply kept_resume | apply kept_stopRecipe | apply kept_upset | exact kept_mk (by assumption) .. | split

theorem kept_execTokenReuseRelease {s0 : State} (q : Fin 4) (ecc : List MemUpset) (s : State) (ht0 : Kept s0 s) : ∀ t9, (execTokenReuseRelease q ecc s) = .next t9 → Kept s0 t9 := by
  intro t9 ht; unfold execTokenReuseRelease at ht; injection ht with ht; subst ht; try dsimp only
  repeat' with_reducible first | assumption | intro _ _ _ | intro _ _ | apply kept_resume | apply kept_upset | exact kept_mk (by assumption) .. | split

theorem kept_commitQuiesce {s0 : State} (q : Nat) (s : State) (ht0 : Kept s0 s) : Kept s0 (commitQuiesce q s) := by
  unfold commitQuiesce; try dsimp only
  repeat' with_reducible first | assumption | intro _ _ _ | intro _ _ | apply kept_count | apply kept_freezeOn | apply kept_resume | apply kept_stopRecipe | apply kept_updSeq | exact kept_mk (by assumption) .. | split

theorem kept_execCommitQuiesce {s0 : State} (q : Fin 4) (ecc : List MemUpset) (s : State) (ht0 : Kept s0 s) : ∀ t9, (execCommitQuiesce q ecc s) = .next t9 → Kept s0 t9 := by
  intro t9 ht; unfold execCommitQuiesce at ht; injection ht with ht; subst ht; try dsimp only
  repeat' with_reducible first | assumption | intro _ _ _ | intro _ _ | apply kept_commitQuiesce | apply kept_upset | exact kept_mk (by assumption) .. | split

theorem kept_loadStores {s0 : State} (s : State) (q : Nat) (cells : List (Nat × Byte)) (syn : Tbl W32) (ht0 : Kept s0 s) :
    Kept s0 (s.loadStores q cells syn) :=
  kept_each _ _ ht0 (fun s u h => ⟨h.pending, h.fuses, fun c => { h.canon c with
    mem := Tbl.Canonical.addAll (Tbl.Canonical.clear (m := s.mem) (h.canon c).mem (by omega)) _
    syn := ((h.canon c).syn.clear (by omega)).addAll _
    wordErr := canonical_clearRange ((h.canon c).wordErr.clear (by omega)) _ }⟩)

theorem kept_saveRegions {s0 : State} (s : State) (q : Nat) (cells : List (Nat × Byte)) (syn : Tbl W32) (ht0 : Kept s0 s) :
    Kept s0 (s.saveRegions q cells syn) := by
  refine kept_each _ _ ht0 (fun s d h => ?_)
  dsimp only
  refine kept_ite _ h ?_
  have hz := kept_each ((s.slabsOf (4 + d.1))) (fun s y => s.zeroRange (dpaOfFrame (s.slabFrame y)) 0x200000) h (fun _ _ h => kept_zeroRange _ _ _ h)
  generalize s.each (s.slabsOf (4 + d.1)) _ = u at hz
  exact ⟨hz.pending, hz.fuses, fun c => { hz.canon c with
    mem := Tbl.Canonical.addAll (m := u.mem) (hz.canon c).mem _
    syn := (hz.canon c).syn.addAll _ }⟩

theorem kept_readRegions {s0 : State} (s : State) (q : Nat) (ht0 : Kept s0 s) : Kept s0 (State.readRegions s q) := by
  unfold State.readRegions; try dsimp only
  repeat' with_reducible first | assumption | intro _ _ _ | intro _ _ | apply kept_each | apply kept_readLines | exact kept_mk (by assumption) .. | split

theorem kept_saveContext {s0 : State} (q cycles : Nat) (s : State) (ht0 : Kept s0 s) : Kept s0 (saveContext q cycles s) := by
  unfold saveContext at *
  grind only [Canon.cpBad, Canon.cpPend, Canon.csr, Canon.lineErr, Canon.mem, Canon.syn, Canon.wordErr, Tbl.Canonical.addAll, Tbl.Canonical.clear, Tbl.Canonical.set, Tbl.Canonical.setRun, Tbl.Canonical.upd, canonical_clearRange, keptm_BaseM_store, kept_count, kept_mk, kept_mk7, kept_saveRegions, kept_setSeqState, kept_updSeq]

theorem kept_execContextSave {s0 : State} (q : Fin 4) (cycles : Nat) (s : State) (ht0 : Kept s0 s) : ∀ t9, (execContextSave q cycles s) = .next t9 → Kept s0 t9 := by
  intro t9 ht; unfold execContextSave at ht; injection ht with ht; subst ht; try dsimp only
  repeat' with_reducible first | assumption | intro _ _ _ | intro _ _ | apply kept_saveContext | exact kept_mk (by assumption) .. | split

theorem kept_restoreContext {s0 : State} (q cycles : Nat) (binds : List (List Nat)) (s : State) (ht0 : Kept s0 s) : Kept s0 (restoreContext q cycles binds s) := by
  unfold restoreContext
  dsimp only
  split
  · exact ht0
  · split
    · refine kept_seqGoOn _ _ (kept_setSeqState _ _ _ _ (kept_updSeq _ _ _ (kept_set_clxs _ (kept_wrF _ _ _ _ (kept_count _ _ (kept_each _ _ ?_ (fun _ _ h => kept_wr _ _ h)))))))
      exact kept_wr _ _ (kept_wr _ _ (kept_wr _ _ (kept_loadStores _ _ _ _ (kept_readRegions _ _ (kept_each _ _ ht0 (fun _ _ h => kept_wr _ _ h))))))
    · exact ht0

theorem kept_execContextRestore {s0 : State} (q : Fin 4) (cycles : Nat) (binds : List (List Nat)) (s : State) (ht0 : Kept s0 s) : ∀ t9, (execContextRestore q cycles binds s) = .next t9 → Kept s0 t9 := by
  intro t9 ht; unfold execContextRestore at ht; injection ht with ht; subst ht; try dsimp only
  repeat' with_reducible first | assumption | intro _ _ _ | intro _ _ | apply kept_restoreContext | exact kept_mk (by assumption) .. | split

theorem kept_execEndDrain {s0 : State} (q : Fin 4) (ecc : List MemUpset) (s : State) (ht0 : Kept s0 s) : ∀ t9, (execEndDrain q ecc s) = .next t9 → Kept s0 t9 := by
  intro t9 ht; unfold execEndDrain at ht; injection ht with ht; subst ht; try dsimp only
  repeat' with_reducible first | assumption | intro _ _ _ | intro _ _ | apply kept_resume | apply kept_stopRecipe | apply kept_upset | exact kept_mk (by assumption) .. | split

theorem kept_execPrefetchDone {s0 : State} (q : Fin 4) (tok : BitVec 8) (ecc : List MemUpset) (s : State) (ht0 : Kept s0 s) : ∀ t9, (execPrefetchDone q tok ecc s) = .next t9 → Kept s0 t9 := by
  intro t9 ht; unfold execPrefetchDone at ht; injection ht with ht; subst ht; try dsimp only
  repeat' with_reducible first | assumption | intro _ _ _ | intro _ _ | apply kept_checkFailedHandle | apply kept_placePage | apply kept_readPage | apply kept_tokenPart | apply kept_updSeq | apply kept_upset | exact kept_mk (by assumption) .. | split

theorem kept_execCluCounterClear {s0 : State} (ag : Agent) (c : Fin 64) (s : State) (ht0 : Kept s0 s) : ∀ t9, (execCluCounterClear ag c s) = .next t9 → Kept s0 t9 := by
  intro t9 ht; unfold execCluCounterClear at ht; injection ht with ht; subst ht; try dsimp only
  repeat' with_reducible first | assumption | intro _ _ _ | intro _ _ | apply kept_clearClusterCounters | apply kept_csrAccess | exact kept_mk (by assumption) .. | split

end Sys2Proof.Machine
end

