-- ==== Sys2Proof/Laws/KeptHost.lean ====
section
/-!
SUPPORT. One lemma for each operation and command of the host interface, firmware, links, power and the collective engines:
what it makes of a state that a start state keeps, that start keeps.
-/
set_option linter.all false
namespace Sys2Proof.Machine

/-! ### Host -/

theorem kept_setFstate {s0 : State} (s : State) (h f x : Nat) (ht0 : Kept s0 s) : Kept s0 (State.setFstate s h f x) := by
  unfold State.setFstate; try dsimp only
  repeat' with_reducible first | assumption | intro _ _ _ | intro _ _ | apply kept_wrF | exact kept_mk (by assumption) .. | split

theorem kept_fnEvent {s0 : State} (s : State) (name h f item : Nat) (addr : Nat) (ht0 : Kept s0 s) : Kept s0 (State.fnEvent s name h f item addr) := by
  unfold State.fnEvent; try dsimp only
  repeat' with_reducible first | assumption | intro _ _ _ | intro _ _ | apply kept_hostEvent | exact kept_mk (by assumption) .. | split

theorem kept_hostFailed {s0 : State} (s : State) (h f reason addr : Nat) (ht0 : Kept s0 s) : Kept s0 (State.hostFailed s h f reason addr) := by
  unfold State.hostFailed; try dsimp only
  repeat' with_reducible first | assumption | intro _ _ _ | intro _ _ | apply kept_fnEvent | exact kept_mk (by assumption) .. | split

theorem kept_syncQerr {s0 : State} (s : State) (h f : Nat) (ht0 : Kept s0 s) : Kept s0 (State.syncQerr s h f) := by
  unfold State.syncQerr; try dsimp only
  repeat' with_reducible first | assumption | intro _ _ _ | intro _ _ | apply kept_wrB | exact kept_mk (by assumption) .. | split

theorem kept_updQueue {s0 : State} (s : State) (h f q : Nat) (g : HostQueue → HostQueue) (ht0 : Kept s0 s) : Kept s0 (State.updQueue s h f q g) := by
  unfold State.updQueue; try dsimp only
  repeat' with_reducible first | assumption | intro _ _ _ | intro _ _ | apply kept_syncQerr | apply kept_updFn | apply kept_wrB | exact kept_mk (by assumption) .. | split

theorem kept_writeCpl {s0 : State} (s : State) (h f : Nat) (c : Completion) (ht0 : Kept s0 s) : Kept s0 (State.writeCpl s h f c) := by
  unfold State.writeCpl; try dsimp only
  repeat' with_reducible first | assumption | intro _ _ _ | intro _ _ | apply kept_hostOut | apply kept_updQueue | exact kept_mk (by assumption) .. | split

theorem kept_complete {s0 : State} (s : State) (h f : Nat) (old : Bool) (c : Completion) (ht0 : Kept s0 s) : Kept s0 (State.complete s h f old c) := by
  unfold State.complete; try dsimp only
  repeat' with_reducible first | assumption | intro _ _ _ | intro _ _ | apply kept_updFn | apply kept_writeCpl | exact kept_mk (by assumption) .. | split

theorem kept_startQueue {s0 : State} (s : State) (h f q : Nat) (ht0 : Kept s0 s) : Kept s0 (State.startQueue s h f q) := by
  unfold State.startQueue; try dsimp only
  repeat' with_reducible first | assumption | intro _ _ _ | intro _ _ | apply kept_foldl | apply kept_foldl_fst | apply kept_updFn | exact kept_mk (by assumption) .. | split

theorem kept_setStage {s0 : State} (s : State) (h f : Nat) (c : HostCmd) (st : CmdStage) (ht0 : Kept s0 s) : Kept s0 (State.setStage s h f c st) := by
  unfold State.setStage; try dsimp only
  repeat' with_reducible first | assumption | intro _ _ _ | intro _ _ | apply kept_foldl | apply kept_foldl_fst | apply kept_updFn | exact kept_mk (by assumption) .. | split

theorem kept_finish {s0 : State} (s : State) (h f : Nat) (c : HostCmd) (status : Nat) (result : W64) (ht0 : Kept s0 s) : Kept s0 (State.finish s h f c status result) := by
  unfold State.finish; try dsimp only
  repeat' with_reducible first | assumption | intro _ _ _ | intro _ _ | apply kept_setStage | exact kept_mk (by assumption) .. | split

theorem kept_withCmd {s0 : State} (s : State) (h f op : Nat) (g : State → HostCmd → Nat → State) (ok : HostCmd → Bool) (ht0 : Kept s0 s) (hf1 : ∀ s1 x1 x2, Kept s0 s1 → Kept s0 (g s1 x1 x2)) : Kept s0 (State.withCmd s h f op g ok) := by
  unfold State.withCmd at *
  grind only [kept_mk]

theorem kept_settleCmds {s0 : State} (s : State) (ht0 : Kept s0 s) : Kept s0 (State.settleCmds s) := by
  unfold State.settleCmds; try dsimp only
  repeat' with_reducible first | assumption | intro _ _ _ | intro _ _ | apply kept_each | apply kept_updFn | exact kept_mk (by assumption) .. | split

theorem kept_postOne {s0 : State} (s : State) (h f : Nat) (ht0 : Kept s0 s) : Kept s0 (State.postOne s h f) := by
  unfold State.postOne; try dsimp only
  repeat' with_reducible first | assumption | intro _ _ _ | intro _ _ | apply kept_complete | apply kept_startQueue | apply kept_updFn | exact kept_mk (by assumption) .. | split

theorem keptx_drainCpl {s0 : State} (n h f : Nat) : ∀ s : State, Kept s0 s → Kept s0 (s.drainCpl h f n) := by
  induction n with
  | zero => exact fun s hs => hs
  | succ n ih =>
    intro s hs
    unfold State.drainCpl
    split
    · exact hs
    · split
      · exact ih _ (kept_writeCpl _ _ _ _ (kept_updFn _ _ _ _ hs))
      · exact hs

theorem kept_bell {s0 : State} (s : State) (h f : Nat) (b : HeldBell) (ht0 : Kept s0 s) : Kept s0 (s.bell h f b) := by
  unfold State.bell
  have h1 : Kept s0 (s.wr (if b.head then Reg.hifDbCq h f b.q else Reg.hifDbSq h f b.q) (BitVec.ofNat 64 (b.value % 2 ^ 32))) := kept_wr _ _ ht0
  generalize s.wr _ _ = u at h1
  dsimp only
  split
  · exact h1
  · split
    · split
      · exact keptx_drainCpl _ _ _ _ (kept_updQueue _ _ _ _ _ h1)
      · exact h1
    · split
      · exact h1
      · split
        · exact kept_updQueue _ _ _ _ _ h1
        · exact kept_fnEvent _ _ _ _ _ _ (kept_updQueue _ _ _ _ _ h1)

theorem kept_releaseBells {s0 : State} (s : State) (h f : Nat) (ht0 : Kept s0 s) : Kept s0 (State.releaseBells s h f) := by
  unfold State.releaseBells; try dsimp only
  repeat' with_reducible first | assumption | intro _ _ _ | intro _ _ | apply kept_bell | apply kept_each | apply kept_updFn | exact kept_mk (by assumption) .. | split

theorem kept_consumed {s0 : State} (s : State) (h f i : Nat) (ht0 : Kept s0 s) : Kept s0 (State.consumed s h f i) := by
  unfold State.consumed; try dsimp only
  repeat' with_reducible first | assumption | intro _ _ _ | intro _ _ | apply kept_wr | apply kept_wrF | exact kept_mk (by assumption) .. | split

theorem kept_voidWrites {s0 : State} (s : State) (h f : Nat) (ht0 : Kept s0 s) : Kept s0 (State.voidWrites s h f) := by
  unfold State.voidWrites; try dsimp only
  repeat' with_reducible first | assumption | intro _ _ _ | intro _ _ | apply kept_each | apply kept_updFn | apply kept_wrB | apply kept_wrF | exact kept_mk (by assumption) .. | split

theorem kept_orphanFn {s0 : State} (s : State) (h f cause : Nat) (ht0 : Kept s0 s) : Kept s0 (State.orphanFn s h f cause) := by
  unfold State.orphanFn; try dsimp only
  repeat' with_reducible first | assumption | intro _ _ _ | intro _ _ | apply kept_cond | apply kept_count | apply kept_each | apply kept_fnEvent | apply kept_setFstate | apply kept_setHold | apply kept_settleCmds | apply kept_updFn | apply kept_voidWrites | apply kept_wrF | exact kept_mk (by assumption) .. | split

theorem kept_adopt {s0 : State} (s : State) (h f : Nat) (ht0 : Kept s0 s) : Kept s0 (s.adopt h f) := by
  unfold State.adopt
  refine kept_fnEvent _ _ _ _ _ _ (kept_cond _ _ ?_ (fun _ h => kept_setFstate _ _ _ _ h))
  have key : ∀ X : State, Kept s0 X → Kept s0 (match X.fnPart h f with | some p => setHold p false X | none => X) := by
    intro X h
    split
    · exact kept_setHold _ _ _ h
    · exact h
  exact key _ (keptx_drainCpl _ _ _ _ (kept_updFn _ _ _ _ ht0))

theorem kept_discardOrphan {s0 : State} (s : State) (h f : Nat) (ht0 : Kept s0 s) : Kept s0 (State.discardOrphan s h f) := by
  unfold State.discardOrphan; try dsimp only
  repeat' with_reducible first | assumption | intro _ _ _ | intro _ _ | apply kept_abortRecipe | apply kept_cond | apply kept_fnEvent | apply kept_setFstate | apply kept_updFn | apply kept_wrB | exact kept_mk (by assumption) .. | split

theorem kept_negotiate {s0 : State} (s : State) (h f : Nat) (ht0 : Kept s0 s) : Kept s0 (State.negotiate s h f) := by
  unfold State.negotiate; try dsimp only
  repeat' with_reducible first | assumption | intro _ _ _ | intro _ _ | apply kept_cond | apply kept_discardOrphan | apply kept_fnEvent | apply kept_setFstate | apply kept_updFn | apply kept_wr | apply kept_wrB | apply kept_wrF | exact kept_mk (by assumption) .. | split

theorem kept_setQctrl {s0 : State} (s : State) (h f q : Nat) (v : W64) (ht0 : Kept s0 s) : Kept s0 (State.setQctrl s h f q v) := by
  unfold State.setQctrl; try dsimp only
  repeat' with_reducible first | assumption | intro _ _ _ | intro _ _ | apply kept_updQueue | apply kept_wr | apply kept_wrF | exact kept_mk (by assumption) .. | split

theorem kept_setWindow {s0 : State} (s : State) (h f w : Nat) (v : W64) (ht0 : Kept s0 s) : Kept s0 (State.setWindow s h f w v) := by
  unfold State.setWindow; try dsimp only
  repeat' with_reducible first | assumption | intro _ _ _ | intro _ _ | apply kept_wr | apply kept_wrF | exact kept_mk (by assumption) .. | split

theorem kept_applyHalf {s0 : State} (s : State) (h f off : Nat) (v : W32) (ht0 : Kept s0 s) : Kept s0 (State.applyHalf s h f off v) := by
  unfold State.applyHalf; try dsimp only
  repeat' with_reducible first | assumption | intro _ _ _ | intro _ _ | apply kept_cond | apply kept_negotiate | apply kept_setQctrl | apply kept_setWindow | apply kept_wr | apply kept_wrB | exact kept_mk (by assumption) .. | split

theorem kept_applyWrite {s0 : State} (s : State) (h f off : Nat) (wide : Bool) (v : W64) (ht0 : Kept s0 s) : Kept s0 (State.applyWrite s h f off wide v) := by
  unfold State.applyWrite; try dsimp only
  repeat' with_reducible first | assumption | intro _ _ _ | intro _ _ | apply kept_applyHalf | exact kept_mk (by assumption) .. | split

theorem kept_fnReset {s0 : State} (s : State) (h f : Nat) (ht0 : Kept s0 s) : Kept s0 (s.fnReset h f) := by
  unfold State.fnReset
  have h1 := kept_agentStart _ (0x60 + 8 * h + f) (kept_voidWrites s h f ht0)
  generalize (s.voidWrites h f).agentStart (0x60 + 8 * h + f) = u at h1
  have h2 : Kept s0 { u with csr := (u.csr.clear (shadow h f 0x40) (shadow h f 0x80)).clear (shadow h f 0x100) (shadow h f 0xA00) } :=
    ⟨h1.pending, h1.fuses, fun c => { h1.canon c with
      csr := Tbl.Canonical.clear (Tbl.Canonical.clear (h1.canon c).csr (by unfold shadow; omega)) (by unfold shadow; omega) }⟩
  exact kept_syncQerr _ _ _ (kept_setFstate _ _ _ _ (kept_updHport _ _ _ (kept_updFn _ _ _ _ (kept_wrF _ _ _ _ (kept_wrF _ _ _ _ (kept_wr _ _ h2))))))

theorem kept_flr {s0 : State} (s : State) (h f : Nat) (ht0 : Kept s0 s) : Kept s0 (State.flr s h f) := by
  unfold State.flr; try dsimp only
  repeat' with_reducible first | assumption | intro _ _ _ | intro _ _ | apply kept_abortRecipe | apply kept_cond | apply kept_fnEvent | apply kept_fnReset | apply kept_orphanFn | apply kept_settleCmds | exact kept_mk (by assumption) .. | split

theorem kept_quiesceFn {s0 : State} (s : State) (h f : Nat) (ht0 : Kept s0 s) : Kept s0 (State.quiesceFn s h f) := by
  unfold State.quiesceFn; try dsimp only
  repeat' with_reducible first | assumption | intro _ _ _ | intro _ _ | apply kept_applyWrite | apply kept_consumed | apply kept_each | apply kept_releaseBells | apply kept_setFstate | apply kept_updFn | exact kept_mk (by assumption) .. | split

/-! ### Slots -/

theorem kept_syncSlots {s0 : State} (s : State) (k : Nat) (ht0 : Kept s0 s) : Kept s0 (State.syncSlots s k) := by
  unfold State.syncSlots; try dsimp only
  repeat' with_reducible first | assumption | intro _ _ _ | intro _ _ | apply kept_wrB | exact kept_mk (by assumption) .. | split

theorem kept_setSlot {s0 : State} (s : State) (k : Nat) (v : W64) (ht0 : Kept s0 s) : Kept s0 (State.setSlot s k v) := by
  unfold State.setSlot; try dsimp only
  repeat' with_reducible first | assumption | intro _ _ _ | intro _ _ | apply kept_cpCommit | apply kept_syncSlots | exact kept_mk (by assumption) .. | split

theorem kept_eraseKey {s0 : State} (s : State) (k : Nat) (ht0 : Kept s0 s) : Kept s0 (State.eraseKey s k) := by
  unfold State.eraseKey; try dsimp only
  repeat' with_reducible first | assumption | intro _ _ _ | intro _ _ | exact kept_mk (by assumption) .. | split

theorem kept_emptySlot {s0 : State} (s : State) (k : Nat) (ht0 : Kept s0 s) : Kept s0 (State.emptySlot s k) := by
  unfold State.emptySlot; try dsimp only
  repeat' with_reducible first | assumption | intro _ _ _ | intro _ _ | apply kept_eraseKey | apply kept_event | apply kept_setSlot | exact kept_mk (by assumption) .. | split

theorem kept_failSlot {s0 : State} (s : State) (k : Nat) (ht0 : Kept s0 s) : Kept s0 (State.failSlot s k) := by
  unfold State.failSlot; try dsimp only
  repeat' with_reducible first | assumption | intro _ _ _ | intro _ _ | apply kept_eraseKey | apply kept_setSlot | exact kept_mk (by assumption) .. | split

theorem kept_dropEph {s0 : State} (s : State) (p : Nat) (ht0 : Kept s0 s) : Kept s0 (State.dropEph s p) := by
  unfold State.dropEph; try dsimp only
  repeat' with_reducible first | assumption | intro _ _ _ | intro _ _ | exact kept_mk (by assumption) .. | split

theorem kept_hubRead {s0 : State} (s : State) (h off n : Nat) (ht0 : Kept s0 s) : Kept s0 (State.hubRead s h off n).1 := by
  unfold State.hubRead; try dsimp only
  repeat' with_reducible first | assumption | intro _ _ _ | intro _ _ | apply kept_readExtent | exact kept_mk (by assumption) .. | split

theorem kept_hubWrite {s0 : State} (s : State) (h off : Nat) (bs : List Byte) (ht0 : Kept s0 s) : Kept s0 (s.hubWrite h off bs) := by
  unfold State.hubWrite
  have h1 := kept_heatExtent s h off bs.length ht0
  dsimp only
  generalize s.heatExtent h off bs.length = u at h1
  cases hw : u.handleWrite h off bs with
  | none => exact h1
  | some v => exact kept_handleWrite _ _ _ _ h1 _ hw

theorem kept_destroyHandle {s0 : State} (s : State) (x : Nat) (ht0 : Kept s0 s) : Kept s0 (State.destroyHandle s x) := by
  unfold State.destroyHandle; try dsimp only
  repeat' with_reducible first | assumption | intro _ _ _ | intro _ _ | apply kept_cond | apply kept_cpCommit | apply kept_each | apply kept_emptySlot | apply kept_updStacks | exact kept_mk (by assumption) .. | split

/-! ### BbxCmds -/

theorem kept_execAgentStart {s0 : State} (ag : Agent) (s : State) (ht0 : Kept s0 s) : ∀ t9, (execAgentStart ag s) = .next t9 → Kept s0 t9 := by
  intro t9 ht; unfold execAgentStart at ht; injection ht with ht; subst ht; try dsimp only
  repeat' with_reducible first | assumption | intro _ _ _ | intro _ _ | apply kept_agentStart | apply kept_cond | exact kept_mk (by assumption) .. | split

theorem kept_execBbxDataWrite {s0 : State} (ag : Agent) (b : Fin 64) (i : Fin 16) (v : W32) (s : State) (ht0 : Kept s0 s) : ∀ t9, (execBbxDataWrite ag b i v s) = .next t9 → Kept s0 t9 := by
  intro t9 ht; unfold execBbxDataWrite at ht; injection ht with ht; subst ht; try dsimp only
  repeat' with_reducible first | assumption | intro _ _ _ | intro _ _ | apply kept_csrAccess | apply kept_event | apply kept_wr | exact kept_mk (by assumption) .. | split

theorem kept_execBbxSend {s0 : State} (ag : Agent) (b : Fin 64) (v : W32) (s : State) (ht0 : Kept s0 s) : ∀ t9, (execBbxSend ag b v s) = .next t9 → Kept s0 t9 := by
  intro t9 ht; unfold execBbxSend at ht; injection ht with ht; subst ht; try dsimp only
  repeat' with_reducible first | assumption | intro _ _ _ | intro _ _ | apply kept_boxFill | apply kept_csrAccess | apply kept_event | exact kept_mk (by assumption) .. | split

theorem kept_execBbxReceiveClear {s0 : State} (ag : Agent) (b : Fin 64) (v : W32) (s : State) (ht0 : Kept s0 s) : ∀ t9, (execBbxReceiveClear ag b v s) = .next t9 → Kept s0 t9 := by
  intro t9 ht; unfold execBbxReceiveClear at ht; injection ht with ht; subst ht; try dsimp only
  repeat' with_reducible first | assumption | intro _ _ _ | intro _ _ | apply kept_boxEmpty | apply kept_csrAccess | apply kept_wrF | exact kept_mk (by assumption) .. | split

theorem kept_execBbxLockRead {s0 : State} (ag : Agent) (b : Fin 64) (s : State) (ht0 : Kept s0 s) : ∀ t9, (execBbxLockRead ag b s) = .next t9 → Kept s0 t9 := by
  intro t9 ht; unfold execBbxLockRead at ht; injection ht with ht; subst ht
  grind only [kept_cond, kept_csrAccess, kept_mk, kept_wrF]

theorem kept_execBbxLockRelease {s0 : State} (ag : Agent) (b : Fin 64) (v : W32) (s : State) (ht0 : Kept s0 s) : ∀ t9, (execBbxLockRelease ag b v s) = .next t9 → Kept s0 t9 := by
  intro t9 ht; unfold execBbxLockRelease at ht; injection ht with ht; subst ht; try dsimp only
  repeat' with_reducible first | assumption | intro _ _ _ | intro _ _ | apply kept_cond | apply kept_csrAccess | apply kept_wrF | exact kept_mk (by assumption) .. | split

theorem kept_execBbxHdrRead {s0 : State} (ag : Agent) (b : Fin 64) (bad : Bool) (s : State) (ht0 : Kept s0 s) : ∀ t9, (execBbxHdrRead ag b bad s) = .next t9 → Kept s0 t9 := by
  intro t9 ht; unfold execBbxHdrRead at ht; injection ht with ht; subst ht
  grind only [Canon.cpBad, Canon.cpPend, Canon.csr, Canon.lineErr, Canon.mem, Canon.syn, Canon.wordErr, Tbl.Canonical.addAll, Tbl.Canonical.clear, Tbl.Canonical.set, Tbl.Canonical.setRun, Tbl.Canonical.upd, canonical_clearRange, kept_cond, kept_csrAccess, kept_hdrRead, kept_mk, kept_mk7]

theorem kept_postSignals {s0 : State} (s : State) (p : Nat) (ht0 : Kept s0 s) : Kept s0 (State.postSignals s p) := by
  unfold State.postSignals; try dsimp only
  repeat' with_reducible first | assumption | intro _ _ _ | intro _ _ | apply kept_boxPost | apply kept_wr | exact kept_mk (by assumption) .. | split

theorem kept_execSignalPost {s0 : State} (p : Fin 4) (s : State) (ht0 : Kept s0 s) : ∀ t9, (execSignalPost p s) = .next t9 → Kept s0 t9 := by
  intro t9 ht; unfold execSignalPost at ht; injection ht with ht; subst ht; try dsimp only
  repeat' with_reducible first | assumption | intro _ _ _ | intro _ _ | apply kept_postSignals | exact kept_mk (by assumption) .. | split

theorem kept_execSignalDeliver {s0 : State} (p : Fin 4) (s : State) (ht0 : Kept s0 s) : ∀ t9, (execSignalDeliver p s) = .next t9 → Kept s0 t9 := by
  intro t9 ht; unfold execSignalDeliver at ht; injection ht with ht; subst ht; try dsimp only
  repeat' with_reducible first | assumption | intro _ _ _ | intro _ _ | apply kept_boxEmpty | apply kept_complete | apply kept_cond | exact kept_mk (by assumption) .. | split

theorem kept_execSaveTimeout {s0 : State} (p : Fin 4) (s : State) (ht0 : Kept s0 s) : ∀ t9, (execSaveTimeout p s) = .next t9 → Kept s0 t9 := by
  intro t9 ht; unfold execSaveTimeout at ht; injection ht with ht; subst ht; try dsimp only
  repeat' with_reducible first | assumption | intro _ _ _ | intro _ _ | apply kept_cond | apply kept_setHold | exact kept_mk (by assumption) .. | split

theorem kept_newNonce {s0 : State} (s : State) (ht0 : Kept s0 s) : Kept s0 (State.newNonce s) := by
  unfold State.newNonce; try dsimp only
  repeat' with_reducible first | assumption | intro _ _ _ | intro _ _ | exact kept_mk (by assumption) .. | split

theorem kept_clearRecorder {s0 : State} (s : State) (h : Nat) (ht0 : Kept s0 s) : Kept s0 (State.clearRecorder s h) := by
  unfold State.clearRecorder; try dsimp only
  repeat' with_reducible first | assumption | intro _ _ _ | intro _ _ | apply kept_newNonce | exact kept_mk (by assumption) .. | split

theorem kept_execRecorderClearRequest {s0 : State} (h : Fin 2) (host : HostData) (s : State) (ht0 : Kept s0 s) : ∀ t9, (execRecorderClearRequest h host s) = .next t9 → Kept s0 t9 := by
  intro t9 ht; unfold execRecorderClearRequest at ht; injection ht with ht; subst ht; try dsimp only
  repeat' with_reducible first | assumption | intro _ _ _ | intro _ _ | apply kept_boxEmpty | apply kept_boxPost | apply kept_clearRecorder | apply kept_cond | apply kept_event | apply kept_hostEvent | exact kept_mk (by assumption) .. | split

/-! ### Firm -/

theorem kept_writeSlot {s0 : State} (s : State) (x : Nat) (b : List Byte) (ht0 : Kept s0 s) : Kept s0 (State.writeSlot s x b) := by
  unfold State.writeSlot; try dsimp only
  repeat' with_reducible first | assumption | intro _ _ _ | intro _ _ | exact kept_mk (by assumption) .. | split

theorem kept_checkSlot {s0 : State} (s : State) (x : Nat) (ht0 : Kept s0 s) : Kept s0 (State.checkSlot s x).1 := by
  unfold State.checkSlot; try dsimp only
  repeat' with_reducible first | assumption | intro _ _ _ | intro _ _ | apply kept_event | exact kept_mk (by assumption) .. | split

theorem kept_wrDigest {s0 : State} (s : State) (a : Nat) (d : BitVec 512) (ht0 : Kept s0 s) : Kept s0 (State.wrDigest s a d) := by
  unfold State.wrDigest; try dsimp only
  repeat' with_reducible first | assumption | intro _ _ _ | intro _ _ | apply kept_each | apply kept_wr | exact kept_mk (by assumption) .. | split

theorem kept_startComponent {s0 : State} (s : State) (k x : Nat) (ht0 : Kept s0 s) : Kept s0 (State.startComponent s k x) := by
  unfold State.startComponent; try dsimp only
  repeat' with_reducible first | assumption | intro _ _ _ | intro _ _ | apply kept_wrDigest | apply kept_wrF | exact kept_mk (by assumption) .. | split

theorem kept_setCompState {s0 : State} (s : State) (k x : Nat) (ht0 : Kept s0 s) : Kept s0 (State.setCompState s k x) := by
  unfold State.setCompState; try dsimp only
  repeat' with_reducible first | assumption | intro _ _ _ | intro _ _ | apply kept_wrF | exact kept_mk (by assumption) .. | split

theorem kept_takeImage {s0 : State} (s : State) (k i : Nat) (ht0 : Kept s0 s) : Kept s0 (State.takeImage s k i) := by
  unfold State.takeImage at *
  grind only [kept_cond, kept_mk, kept_startComponent, kept_wrB, kept_wrF]

/-! ### Links -/

theorem kept_putFrame {s0 : State} (s : State) (p : Nat) (f : Frame) (ht0 : Kept s0 s) : Kept s0 (State.putFrame s p f) := by
  unfold State.putFrame; try dsimp only
  repeat' with_reducible first | assumption | intro _ _ _ | intro _ _ | apply kept_count | apply kept_updPort | apply kept_wire | apply kept_wrB | exact kept_mk (by assumption) .. | split

theorem kept_sendFrame {s0 : State} (s : State) (p : Nat) (f : Frame) (ht0 : Kept s0 s) : Kept s0 (State.sendFrame s p f) := by
  unfold State.sendFrame; try dsimp only
  repeat' with_reducible first | assumption | intro _ _ _ | intro _ _ | apply kept_putFrame | apply kept_updPort | apply kept_wrB | exact kept_mk (by assumption) .. | split

theorem kept_sendControl {s0 : State} (s : State) (p code arg1 arg2 : Nat) (nak : Bool) (ht0 : Kept s0 s) : Kept s0 (State.sendControl s p code arg1 arg2 nak) := by
  unfold State.sendControl; try dsimp only
  repeat' with_reducible first | assumption | intro _ _ _ | intro _ _ | apply kept_sendFrame | exact kept_mk (by assumption) .. | split

theorem kept_sendResync {s0 : State} (s : State) (p : Nat) (ht0 : Kept s0 s) : Kept s0 (State.sendResync s p) := by
  unfold State.sendResync; try dsimp only
  repeat' with_reducible first | assumption | intro _ _ _ | intro _ _ | apply kept_sendControl | exact kept_mk (by assumption) .. | split

theorem kept_discardReplay {s0 : State} (s : State) (p : Nat) (ht0 : Kept s0 s) : Kept s0 (State.discardReplay s p) := by
  unfold State.discardReplay; try dsimp only
  repeat' with_reducible first | assumption | intro _ _ _ | intro _ _ | apply kept_count | apply kept_each | apply kept_lossNotice | apply kept_updPort | exact kept_mk (by assumption) .. | split

theorem kept_portLeaves {s0 : State} (s : State) (p lst : Nat) (ht0 : Kept s0 s) : Kept s0 (State.portLeaves s p lst) := by
  unfold State.portLeaves; try dsimp only
  repeat' with_reducible first | assumption | intro _ _ _ | intro _ _ | apply kept_updPort | apply kept_wrB | apply kept_wrF | exact kept_mk (by assumption) .. | split

theorem kept_requeue {s0 : State} (s : State) (p : Nat) (ht0 : Kept s0 s) : Kept s0 (State.requeue s p) := by
  unfold State.requeue; try dsimp only
  repeat' with_reducible first | assumption | intro _ _ _ | intro _ _ | apply kept_inject | apply kept_updPort | apply kept_updRouter | exact kept_mk (by assumption) .. | split

theorem kept_retirePort {s0 : State} (s : State) (p : Nat) (causes : List Nat) (ht0 : Kept s0 s) : Kept s0 (State.retirePort s p causes) := by
  unfold State.retirePort; try dsimp only
  repeat' with_reducible first | assumption | intro _ _ _ | intro _ _ | apply kept_discardReplay | apply kept_each | apply kept_event | apply kept_neutralSwap | apply kept_portLeaves | apply kept_report | apply kept_requeue | apply kept_sendControl | apply kept_tearPort | apply kept_updPort | apply kept_wrF | exact kept_mk (by assumption) .. | split

theorem kept_replayAll {s0 : State} (s : State) (p now : Nat) (ht0 : Kept s0 s) : Kept s0 (State.replayAll s p now) := by
  unfold State.replayAll; try dsimp only
  repeat' with_reducible first | assumption | intro _ _ _ | intro _ _ | apply kept_count | apply kept_each | apply kept_retirePort | apply kept_sendFrame | apply kept_updPort | exact kept_mk (by assumption) .. | split

theorem kept_takeAck {s0 : State} (s : State) (p : Nat) (l : LinkWord) (ht0 : Kept s0 s) : Kept s0 (State.takeAck s p l) := by
  unfold State.takeAck; try dsimp only
  repeat' with_reducible first | assumption | intro _ _ _ | intro _ _ | apply kept_updPort | exact kept_mk (by assumption) .. | split

theorem kept_takeCredit {s0 : State} (s : State) (p : Nat) (l : LinkWord) (ht0 : Kept s0 s) : Kept s0 (State.takeCredit s p l) := by
  unfold State.takeCredit; try dsimp only
  repeat' with_reducible first | assumption | intro _ _ _ | intro _ _ | apply kept_updPort | exact kept_mk (by assumption) .. | split

theorem kept_takeLink {s0 : State} (s : State) (p now : Nat) (l : LinkWord) (ht0 : Kept s0 s) : Kept s0 (State.takeLink s p now l) := by
  unfold State.takeLink; try dsimp only
  repeat' with_reducible first | assumption | intro _ _ _ | intro _ _ | apply kept_replayAll | apply kept_takeAck | apply kept_takeCredit | exact kept_mk (by assumption) .. | split

theorem kept_sendNak {s0 : State} (s : State) (p now : Nat) (ht0 : Kept s0 s) : Kept s0 (State.sendNak s p now) := by
  unfold State.sendNak; try dsimp only
  repeat' with_reducible first | assumption | intro _ _ _ | intro _ _ | apply kept_count | apply kept_sendControl | apply kept_updPort | exact kept_mk (by assumption) .. | split

theorem kept_dropFrame {s0 : State} (s : State) (p : Nat) (ht0 : Kept s0 s) : Kept s0 (State.dropFrame s p) := by
  unfold State.dropFrame; try dsimp only
  repeat' with_reducible first | assumption | intro _ _ _ | intro _ _ | apply kept_count | exact kept_mk (by assumption) .. | split

theorem kept_startRetrain {s0 : State} (s : State) (p reason : Nat) (ht0 : Kept s0 s) : Kept s0 (State.startRetrain s p reason) := by
  unfold State.startRetrain; try dsimp only
  repeat' with_reducible first | assumption | intro _ _ _ | intro _ _ | apply kept_event | apply kept_updPort | apply kept_wrF | exact kept_mk (by assumption) .. | split

theorem kept_startTrain {s0 : State} (s : State) (p : Nat) (ht0 : Kept s0 s) : Kept s0 (State.startTrain s p) := by
  unfold State.startTrain; try dsimp only
  repeat' with_reducible first | assumption | intro _ _ _ | intro _ _ | apply kept_updPort | apply kept_wrF | exact kept_mk (by assumption) .. | split

theorem kept_judgeDirection {s0 : State} (s : State) (d : Nat) (ht0 : Kept s0 s) : Kept s0 (State.judgeDirection s d) := by
  unfold State.judgeDirection; try dsimp only
  repeat' with_reducible first | assumption | intro _ _ _ | intro _ _ | apply kept_each | apply kept_event | apply kept_updPort | apply kept_wrB | exact kept_mk (by assumption) .. | split

theorem kept_portUpNow {s0 : State} (s : State) (p : Nat) (ht0 : Kept s0 s) : Kept s0 (State.portUpNow s p) := by
  unfold State.portUpNow; try dsimp only
  repeat' with_reducible first | assumption | intro _ _ _ | intro _ _ | apply kept_cond | apply kept_event | apply kept_judgeDirection | apply kept_neutralSwap | apply kept_report | apply kept_sendResync | apply kept_updPort | apply kept_wrF | exact kept_mk (by assumption) .. | split

theorem kept_chooseWidth {s0 : State} (s : State) (p mask : Nat) (ht0 : Kept s0 s) : Kept s0 (State.chooseWidth s p mask) := by
  unfold State.chooseWidth; try dsimp only
  repeat' with_reducible first | assumption | intro _ _ _ | intro _ _ | apply kept_cond | apply kept_event | apply kept_portLeaves | apply kept_retirePort | apply kept_updPort | apply kept_wrF | exact kept_mk (by assumption) .. | split

theorem kept_startWidth {s0 : State} (s : State) (p : Nat) (ht0 : Kept s0 s) : Kept s0 (State.startWidth s p) := by
  unfold State.startWidth; try dsimp only
  repeat' with_reducible first | assumption | intro _ _ _ | intro _ _ | apply kept_chooseWidth | apply kept_sendControl | apply kept_updPort | apply kept_wrF | exact kept_mk (by assumption) .. | split

theorem kept_setMacs {s0 : State} (s : State) (ht0 : Kept s0 s) : Kept s0 (State.setMacs s) := by
  unfold State.setMacs; try dsimp only
  repeat' with_reducible first | assumption | intro _ _ _ | intro _ _ | apply kept_each | apply kept_wr | exact kept_mk (by assumption) .. | split

theorem kept_linkChecked {s0 : State} (s : State) (p : Nat) (cbits : List Nat) (ucw : Nat) (ht0 : Kept s0 s) : Kept s0 (State.linkChecked s p cbits ucw) := by
  unfold State.linkChecked; try dsimp only
  repeat' with_reducible first | assumption | intro _ _ _ | intro _ _ | apply kept_count | apply kept_each | apply kept_event | apply kept_foldl | apply kept_foldl_fst | apply kept_startWidth | apply kept_updPort | apply kept_wrF | exact kept_mk (by assumption) .. | split

theorem kept_trainAligned {s0 : State} (s : State) (p : Nat) (changed : Bool) (ht0 : Kept s0 s) : Kept s0 (State.trainAligned s p changed) := by
  unfold State.trainAligned; try dsimp only
  repeat' with_reducible first | assumption | intro _ _ _ | intro _ _ | apply kept_portUpNow | apply kept_startWidth | apply kept_updPort | apply kept_wrF | exact kept_mk (by assumption) .. | split

theorem kept_askQuiet {s0 : State} (s : State) (p : Nat) (ht0 : Kept s0 s) : Kept s0 (State.askQuiet s p) := by
  unfold State.askQuiet; try dsimp only
  repeat' with_reducible first | assumption | intro _ _ _ | intro _ _ | apply kept_sendControl | apply kept_updPort | exact kept_mk (by assumption) .. | split

theorem kept_askWake {s0 : State} (s : State) (p : Nat) (ht0 : Kept s0 s) : Kept s0 (State.askWake s p) := by
  unfold State.askWake; try dsimp only
  repeat' with_reducible first | assumption | intro _ _ _ | intro _ _ | apply kept_sendControl | apply kept_updPort | apply kept_wrB | exact kept_mk (by assumption) .. | split

theorem kept_quietEntry {s0 : State} (s : State) (p : Nat) (ht0 : Kept s0 s) : Kept s0 (State.quietEntry s p) := by
  unfold State.quietEntry; try dsimp only
  repeat' with_reducible first | assumption | intro _ _ _ | intro _ _ | apply kept_updPort | apply kept_wrB | exact kept_mk (by assumption) .. | split

theorem kept_onQuietReq {s0 : State} (s : State) (p : Nat) (ht0 : Kept s0 s) : Kept s0 (State.onQuietReq s p) := by
  unfold State.onQuietReq; try dsimp only
  repeat' with_reducible first | assumption | intro _ _ _ | intro _ _ | apply kept_cond | apply kept_quietEntry | apply kept_sendControl | apply kept_updPort | exact kept_mk (by assumption) .. | split

theorem kept_onQuietAck {s0 : State} (s : State) (p : Nat) (accept : Bool) (ht0 : Kept s0 s) : Kept s0 (State.onQuietAck s p accept) := by
  unfold State.onQuietAck; try dsimp only
  repeat' with_reducible first | assumption | intro _ _ _ | intro _ _ | apply kept_quietEntry | apply kept_updPort | exact kept_mk (by assumption) .. | split

theorem kept_wakeBoth {s0 : State} (s : State) (p : Nat) (ht0 : Kept s0 s) : Kept s0 (State.wakeBoth s p) := by
  unfold State.wakeBoth; try dsimp only
  repeat' with_reducible first | assumption | intro _ _ _ | intro _ _ | apply kept_updPort | exact kept_mk (by assumption) .. | split

theorem kept_onWakeReq {s0 : State} (s : State) (p : Nat) (ht0 : Kept s0 s) : Kept s0 (State.onWakeReq s p) := by
  unfold State.onWakeReq; try dsimp only
  repeat' with_reducible first | assumption | intro _ _ _ | intro _ _ | apply kept_sendControl | apply kept_updPort | apply kept_wakeBoth | apply kept_wrB | exact kept_mk (by assumption) .. | split

theorem kept_onWakeAck {s0 : State} (s : State) (p : Nat) (ht0 : Kept s0 s) : Kept s0 (State.onWakeAck s p) := by
  unfold State.onWakeAck; try dsimp only
  repeat' with_reducible first | assumption | intro _ _ _ | intro _ _ | apply kept_cond | apply kept_sendControl | apply kept_updPort | apply kept_wakeBoth | exact kept_mk (by assumption) .. | split

/-! ### Power -/

theorem keptx_resetRange {s0 : State} (s : State) (lo hi : Nat) (hle : lo ≤ hi) (h : Kept s0 s) : Kept s0 (s.resetRange lo hi) := by
  unfold State.resetRange
  generalize resetCsr.filter _ = l
  exact ⟨h.pending, h.fuses, fun c => { h.canon c with
    csr := (((h.canon c).csr.clear hle).addAll _).addAll _
    cpPend := (h.canon c).cpPend.clear hle
    cpBad := (h.canon c).cpBad.clear hle }⟩

theorem keptx_blankRange {s0 : State} (s : State) (lo hi : Nat) (hle : lo ≤ hi) (h : Kept s0 s) : Kept s0 (s.blankRange lo hi) :=
  ⟨h.pending, h.fuses, fun c => { h.canon c with
    mem := Tbl.Canonical.clear (m := s.mem) (h.canon c).mem hle
    syn := (h.canon c).syn.clear (Nat.div_le_div_right hle)
    wordErr := canonical_clearRange ((h.canon c).wordErr.clear (Nat.div_le_div_right hle)) _
    lineErr := (h.canon c).lineErr.clear (Nat.div_le_div_right hle) }⟩

theorem kept_loseCluster {s0 : State} (s : State) (c : Nat) (ht0 : Kept s0 s) : Kept s0 (s.loseCluster c) := by
  unfold State.loseCluster
  exact keptx_blankRange _ _ _ (by unfold clusterStore; omega) (keptx_resetRange _ _ _ (by omega) ht0)

theorem kept_loseStack {s0 : State} (s : State) (n : Nat) (ht0 : Kept s0 s) : Kept s0 (s.loseStack n) := by
  unfold State.loseStack
  refine kept_releaseHeld _ (kept_syncParts _ (kept_updStacks _ _ (kept_set_bases _ (keptx_blankRange _ _ _ (by omega) (keptx_resetRange _ _ _ (by omega) ?_)))))
  exact kept_abortMigrations _ _ ht0

theorem kept_losePort {s0 : State} (s : State) (p : Nat) (ht0 : Kept s0 s) : Kept s0 (s.losePort p) := by
  unfold State.losePort
  refine kept_setMacs _ (kept_cond _ _ (kept_updPort _ _ _ (keptx_resetRange _ _ _ (by omega) (kept_requeue _ _ ?_))) (fun _ h => kept_wrF _ _ _ _ h))
  exact kept_cond _ _ (kept_discardReplay _ _ ht0) (fun _ h => kept_event _ _ _ _ _ h)

theorem kept_loseHost {s0 : State} (s : State) (h : Nat) (ht0 : Kept s0 s) : Kept s0 (s.loseHost h) := by
  unfold State.loseHost
  exact kept_set_host _ (keptx_resetRange _ _ _ (by omega) ht0)

theorem kept_loseQueues {s0 : State} (s : State) (ht0 : Kept s0 s) : Kept s0 s.loseQueues := by
  unfold State.loseQueues
  have h := keptx_resetRange s Blk.seq (Blk.seq + 0x4000000) (by omega) ht0
  generalize s.resetRange Blk.seq (Blk.seq + 0x4000000) = u at h
  dsimp only
  exact kept_mk h ..

theorem kept_loseHub {s0 : State} (s : State) (ht0 : Kept s0 s) : Kept s0 s.loseHub := by
  unfold State.loseHub
  have h := keptx_resetRange s Blk.hub (Blk.hub + 0x1000000) (by omega) ht0
  have h := keptx_resetRange _ Blk.rtr (Blk.rtr + 0x1000000) (by omega) h
  generalize (s.resetRange Blk.hub (Blk.hub + 0x1000000)).resetRange Blk.rtr (Blk.rtr + 0x1000000) = u at h
  exact kept_setMacs _ (kept_each _ _ (kept_mk h ..) (fun _ _ h => kept_wr _ _ h))

theorem kept_loseDomain {s0 : State} (s : State) (i : Nat) (ht0 : Kept s0 s) : Kept s0 (State.loseDomain s i) := by
  unfold State.loseDomain; try dsimp only
  repeat' with_reducible first | assumption | intro _ _ _ | intro _ _ | apply kept_each | apply kept_loseCluster | apply kept_loseHost | apply kept_loseHub | apply kept_losePort | apply kept_loseQueues | apply kept_loseStack | exact kept_mk (by assumption) .. | split

theorem kept_turnOff {s0 : State} (s : State) (i : Nat) (ht0 : Kept s0 s) : Kept s0 (State.turnOff s i) := by
  unfold State.turnOff; try dsimp only
  repeat' with_reducible first | assumption | intro _ _ _ | intro _ _ | apply kept_loseDomain | apply kept_wrB | exact kept_mk (by assumption) .. | split

theorem kept_turnOn {s0 : State} (s : State) (i : Nat) (ht0 : Kept s0 s) : Kept s0 (State.turnOn s i) := by
  unfold State.turnOn; try dsimp only
  repeat' with_reducible first | assumption | intro _ _ _ | intro _ _ | apply kept_agentStart | apply kept_each | apply kept_wrB | apply kept_wrF | exact kept_mk (by assumption) .. | split

theorem kept_writeFloor {s0 : State} (s : State) (ht0 : Kept s0 s) : Kept s0 (State.writeFloor s) := by
  unfold State.writeFloor; try dsimp only
  repeat' with_reducible first | assumption | intro _ _ _ | intro _ _ | apply kept_cond | apply kept_each | apply kept_event | apply kept_wr | exact kept_mk (by assumption) .. | split

theorem kept_publish {s0 : State} (s : State) (ht0 : Kept s0 s) : Kept s0 (State.publish s) := by
  unfold State.publish; try dsimp only
  repeat' with_reducible first | assumption | intro _ _ _ | intro _ _ | apply kept_wr | apply kept_wrDigest | apply kept_writeFloor | exact kept_mk (by assumption) .. | split

theorem kept_stopRetired {s0 : State} (s : State) (ht0 : Kept s0 s) : Kept s0 (State.stopRetired s) := by
  unfold State.stopRetired; try dsimp only
  repeat' with_reducible first | assumption | intro _ _ _ | intro _ _ | apply kept_each | apply kept_stopRecipe | exact kept_mk (by assumption) .. | split

theorem kept_publishAll {s0 : State} (s : State) (ht0 : Kept s0 s) : Kept s0 (State.publishAll s) := by
  unfold State.publishAll; try dsimp only
  repeat' with_reducible first | assumption | intro _ _ _ | intro _ _ | apply kept_publish | apply kept_stopRetired | exact kept_mk (by assumption) .. | split

theorem kept_updCluster {s0 : State} (s : State) (c : Nat) (f : ClusterFact → ClusterFact) (ht0 : Kept s0 s) : Kept s0 (State.updCluster s c f) := by
  unfold State.updCluster; try dsimp only
  repeat' with_reducible first | assumption | intro _ _ _ | intro _ _ | exact kept_mk (by assumption) .. | split

theorem kept_testCluster {s0 : State} (s : State) (c low : Nat) (ht0 : Kept s0 s) : Kept s0 (State.testCluster s c low) := by
  unfold State.testCluster; try dsimp only
  repeat' with_reducible first | assumption | intro _ _ _ | intro _ _ | apply kept_cond | apply kept_event | apply kept_retireCluster | apply kept_updCluster | exact kept_mk (by assumption) .. | split

theorem kept_clusterDiscrepancy {s0 : State} (s : State) (c : Nat) (ht0 : Kept s0 s) : Kept s0 (State.clusterDiscrepancy s c) := by
  unfold State.clusterDiscrepancy; try dsimp only
  repeat' with_reducible first | assumption | intro _ _ _ | intro _ _ | apply kept_cond | apply kept_event | exact kept_mk (by assumption) .. | split

theorem kept_selfTested {s0 : State} (s : State) (c low : Nat) (ht0 : Kept s0 s) : Kept s0 (State.selfTested s c low) := by
  unfold State.selfTested; try dsimp only
  repeat' with_reducible first | assumption | intro _ _ _ | intro _ _ | apply kept_clusterDiscrepancy | apply kept_testCluster | exact kept_mk (by assumption) .. | split

theorem kept_loadCcc {s0 : State} (s : State) (c : Nat) (ht0 : Kept s0 s) : Kept s0 (State.loadCcc s c) := by
  unfold State.loadCcc; try dsimp only
  repeat' with_reducible first | assumption | intro _ _ _ | intro _ _ | apply kept_agentStart | apply kept_each | apply kept_wr | apply kept_wrF | exact kept_mk (by assumption) .. | split

theorem kept_takeUnit {s0 : State} (s : State) (k i : Nat) (ht0 : Kept s0 s) : Kept s0 (State.takeUnit s k i) := by
  unfold State.takeUnit; try dsimp only
  repeat' with_reducible first | assumption | intro _ _ _ | intro _ _ | apply kept_agentStart | apply kept_loadCcc | apply kept_takeImage | exact kept_mk (by assumption) .. | split

theorem kept_restoreClusters {s0 : State} (s : State) (cs : List Nat) (tests : List (Nat × Nat)) (ht0 : Kept s0 s) : Kept s0 (State.restoreClusters s cs tests) := by
  unfold State.restoreClusters; try dsimp only
  repeat' with_reducible first | assumption | intro _ _ _ | intro _ _ | apply kept_each | apply kept_loadCcc | apply kept_selfTested | exact kept_mk (by assumption) .. | split

theorem kept_readyStack {s0 : State} (s : State) (n : Nat) (ht0 : Kept s0 s) : Kept s0 (s.readyStack n) := by
  unfold State.readyStack
  have h := keptx_blankRange s (n * 0x1000000000) (n * 0x1000000000 + 0x1000000000) (by omega) ht0
  dsimp only
  generalize s.blankRange (n * 0x1000000000) (n * 0x1000000000 + 0x1000000000) = u at h ⊢
  generalize List.range 64 = l
  exact kept_syncParts _ (kept_syncStatus _ _ (kept_wrF _ _ _ _ (kept_each _ _ (kept_wrF _ _ _ _ (kept_updStacks _ _ h)) (fun _ _ h => kept_syncPc _ _ _ (kept_wrF _ _ _ _ h)))))

/-! ### StackCmds -/

theorem kept_execStackRequest {s0 : State} (r : LineAccess) (ecc : List MemUpset) (bad : List Nat) (s : State) (ht0 : Kept s0 s) : ∀ t9, (execStackRequest r ecc bad s) = .next t9 → Kept s0 t9 := by
  intro t9 ht; unfold execStackRequest at ht; injection ht with ht; subst ht
  grind only [kept_mismatches, kept_mk, kept_releaseHeld, kept_stackAccess, kept_upset]

theorem kept_execTrackerEntryFree {s0 : State} (n : Fin 12) (i : Nat) (s : State) (ht0 : Kept s0 s) : ∀ t9, (execTrackerEntryFree n i s) = .next t9 → Kept s0 t9 := by
  intro t9 ht; unfold execTrackerEntryFree at ht; injection ht with ht; subst ht; try dsimp only
  repeat' with_reducible first | assumption | intro _ _ _ | intro _ _ | apply kept_retryWaiting | apply kept_trackCount | apply kept_updStacks | exact kept_mk (by assumption) .. | split

theorem kept_execPatrol {s0 : State} (n : Fin 12) (line : BitVec 30) (ecc : List MemUpset) (s : State) (ht0 : Kept s0 s) : ∀ t9, (execPatrol n line ecc s) = .next t9 → Kept s0 t9 := by
  intro t9 ht; unfold execPatrol at ht; injection ht with ht; subst ht; try dsimp only
  repeat' with_reducible first | assumption | intro _ _ _ | intro _ _ | apply kept_readLine | apply kept_releaseHeld | apply kept_upset | exact kept_mk (by assumption) .. | split

theorem kept_execDescriptorWrite {s0 : State} (ag : Agent) (x : BitVec 16) (j : Fin 4) (v : W64) (s : State) (ht0 : Kept s0 s) : ∀ t9, (execDescriptorWrite ag x j v s) = .next t9 → Kept s0 t9 := by
  intro t9 ht; unfold execDescriptorWrite at ht; injection ht with ht; subst ht; try dsimp only
  repeat' with_reducible first | assumption | intro _ _ _ | intro _ _ | apply kept_cpCommit | apply kept_csrAccess | apply kept_refuseWrite | exact kept_mk (by assumption) .. | split

theorem kept_execHandleDrained {s0 : State} (x : BitVec 16) (s : State) (ht0 : Kept s0 s) : ∀ t9, (execHandleDrained x s) = .next t9 → Kept s0 t9 := by
  intro t9 ht; unfold execHandleDrained at ht; injection ht with ht; subst ht; try dsimp only
  repeat' with_reducible first | assumption | intro _ _ _ | intro _ _ | apply kept_abortMigrations | apply kept_cpCommit | apply kept_each | apply kept_releaseHeld | apply kept_setFrames | apply kept_updStacks | exact kept_mk (by assumption) .. | split

theorem kept_execFrameClearDone {s0 : State} (n : Fin 12) (f : BitVec 15) (s : State) (ht0 : Kept s0 s) : ∀ t9, (execFrameClearDone n f s) = .next t9 → Kept s0 t9 := by
  intro t9 ht; unfold execFrameClearDone at ht; injection ht with ht; subst ht; try dsimp only
  repeat' with_reducible first | assumption | intro _ _ _ | intro _ _ | apply kept_setFrames | apply kept_zeroRange | exact kept_mk (by assumption) .. | split

theorem kept_execHeatWindowEnd {s0 : State} (n : Fin 12) (s : State) (ht0 : Kept s0 s) : ∀ t9, (execHeatWindowEnd n s) = .next t9 → Kept s0 t9 := by
  intro t9 ht; unfold execHeatWindowEnd at ht; injection ht with ht; subst ht
  grind only [Canon.cpBad, Canon.cpPend, Canon.csr, Canon.lineErr, Canon.mem, Canon.syn, Canon.wordErr, Tbl.Canonical.addAll, Tbl.Canonical.clear, Tbl.Canonical.set, Tbl.Canonical.setRun, Tbl.Canonical.upd, canonical_clearRange, kept_mk, kept_mk7, kept_updStacks, kept_wr]

theorem kept_stackReport {s0 : State} (s : State) (r : StackReport) (ht0 : Kept s0 s) : Kept s0 (State.stackReport s r) := by
  unfold State.stackReport; try dsimp only
  repeat' with_reducible first | assumption | intro _ _ _ | intro _ _ | apply kept_updStacks | exact kept_mk (by assumption) .. | split

theorem keptx_planMoves {s0 : State} (k n : Nat) (cool : Bool) (zs : List Nat) : ∀ (s : State) (picks : List Nat) (acc : List SlabMove), Kept s0 s →
    ∀ r, s.planMoves k n cool zs picks acc = some r → Kept s0 r.1 := by
  induction zs with
  | nil =>
    intro s picks acc h r hr
    unfold State.planMoves at hr
    injection hr with hr
    subst hr
    exact h
  | cons z zs ih =>
    intro s picks acc h r hr
    unfold State.planMoves at hr
    simp only [Option.bind_eq_some_iff] at hr
    obtain ⟨p, _, g, _, hr⟩ := hr
    exact ih _ _ _ (kept_setFrames _ _ _ h) r hr

theorem kept_execMigrationStart {s0 : State} (y : BitVec 19) (picks : List Nat) (s : State) (ht0 : Kept s0 s) :
    ∀ t, execMigrationStart y picks s = .next t → Kept s0 t := by
  intro t ht
  unfold execMigrationStart at ht
  dsimp only at ht
  injection ht with ht
  subst ht
  split
  · exact ht0
  · split
    · exact ht0
    · split
      · exact kept_cond _ _ ht0 (fun _ h => kept_stackReport _ _ h)
      · split
        · exact kept_cond _ _ ht0 (fun _ h => kept_stackReport _ _ h)
        · rename_i u mv hp
          have h := keptx_planMoves _ _ _ _ _ _ _ ht0 _ hp
          exact kept_count _ _ (kept_updStacks _ _ (kept_each _ _ h (fun _ _ h => kept_cpCommit _ _ h)))

theorem kept_copyTile {s0 : State} (s : State) (m : SlabMove) (t : Nat) (ht0 : Kept s0 s) : Kept s0 (State.copyTile s m t).1 := by
  unfold State.copyTile at *
  grind only [Canon.cpBad, Canon.cpPend, Canon.csr, Canon.lineErr, Canon.mem, Canon.syn, Canon.wordErr, Tbl.Canonical.addAll, Tbl.Canonical.clear, Tbl.Canonical.set, Tbl.Canonical.setRun, Tbl.Canonical.upd, canonical_clearRange, kept_mk, kept_mk7, kept_readLines, kept_writeBytes]

theorem kept_copyTiles {s0 : State} (s : State) (g : Migration) (l : SlabMove → List Nat) (ht0 : Kept s0 s) : Kept s0 (State.copyTiles s g l).1 := by
  unfold State.copyTiles; try dsimp only
  repeat' with_reducible first | assumption | intro _ _ _ | intro _ _ | apply kept_copyTile | apply kept_foldl | apply kept_foldl_fst | exact kept_mk (by assumption) .. | split

theorem kept_copyFailed {s0 : State} (s : State) (g : Migration) (x : SlabMove × Nat) (ht0 : Kept s0 s) : Kept s0 (State.copyFailed s g x) := by
  unfold State.copyFailed; try dsimp only
  repeat' with_reducible first | assumption | intro _ _ _ | intro _ _ | apply kept_abortMigration | apply kept_cond | apply kept_event | apply kept_releaseHeld | apply kept_stackReport | apply kept_updStacks | apply kept_wrF | exact kept_mk (by assumption) .. | split

theorem kept_execMigrationPassEnd {s0 : State} (y : BitVec 19) (late : List Nat) (dstFail : Bool) (ecc : List MemUpset) (s : State) (ht0 : Kept s0 s) : ∀ t9, (execMigrationPassEnd y late dstFail ecc s) = .next t9 → Kept s0 t9 := by
  intro t9 ht; unfold execMigrationPassEnd at ht; injection ht with ht; subst ht; try dsimp only
  repeat' with_reducible first | assumption | intro _ _ _ | intro _ _ | apply kept_abortMigration | apply kept_copyFailed | apply kept_copyTiles | apply kept_cpCommit | apply kept_each | apply kept_releaseHeld | apply kept_updStacks | apply kept_upset | exact kept_mk (by assumption) .. | split

theorem kept_execMigrationSwitch {s0 : State} (y : BitVec 19) (ecc : List MemUpset) (s : State) (ht0 : Kept s0 s) : ∀ t9, (execMigrationSwitch y ecc s) = .next t9 → Kept s0 t9 := by
  intro t9 ht; unfold execMigrationSwitch at ht; injection ht with ht; subst ht; try dsimp only
  repeat' with_reducible first | assumption | intro _ _ _ | intro _ _ | apply kept_copyFailed | apply kept_copyTiles | apply kept_count | apply kept_cpCommit | apply kept_each | apply kept_releaseHeld | apply kept_setFrames | apply kept_updStacks | apply kept_upset | exact kept_mk (by assumption) .. | split

theorem kept_execPcRetired {s0 : State} (n : Fin 12) (p : Fin 64) (s : State) (ht0 : Kept s0 s) : ∀ t9, (execPcRetired n p s) = .next t9 → Kept s0 t9 := by
  intro t9 ht; unfold execPcRetired at ht; injection ht with ht; subst ht; try dsimp only
  repeat' with_reducible first | assumption | intro _ _ _ | intro _ _ | apply kept_event | apply kept_setFrames | apply kept_syncStatus | apply kept_wrF | exact kept_mk (by assumption) .. | split

theorem kept_execDrainRetry {s0 : State} (n : Fin 12) (p : Fin 64) (s : State) (ht0 : Kept s0 s) : ∀ t9, (execDrainRetry n p s) = .next t9 → Kept s0 t9 := by
  intro t9 ht; unfold execDrainRetry at ht; injection ht with ht; subst ht; try dsimp only
  repeat' with_reducible first | assumption | intro _ _ _ | intro _ _ | apply kept_updStacks | apply kept_wrF | exact kept_mk (by assumption) .. | split

/-! ### HostCmds -/

theorem kept_execBar0Write {s0 : State} (h : Fin 2) (f : Fin 5) (off : BitVec 16) (wide : Bool) (v : W64) (s : State) (ht0 : Kept s0 s) : ∀ t9, (execBar0Write h f off wide v s) = .next t9 → Kept s0 t9 := by
  intro t9 ht; unfold execBar0Write at ht; injection ht with ht; subst ht; try dsimp only
  repeat' with_reducible first | assumption | intro _ _ _ | intro _ _ | apply kept_cond | apply kept_fnEvent | apply kept_hostError | apply kept_setFstate | apply kept_wr | apply kept_wrB | apply kept_wrF | exact kept_mk (by assumption) .. | split

theorem keptx_fin {s0 : State} (h : Nat) (l : List Nat) (a : Nat) (v : W64) (X : State) (hX : Kept s0 X) : Kept s0 ((X.wr a v).each l (fun s f => s.releaseBells h f)) :=
  kept_each _ _ (kept_wr _ _ hX) (fun _ _ h => kept_releaseBells _ _ _ h)

theorem kept_consumeOne {s0 : State} (s : State) (h : Nat) (ht0 : Kept s0 s) : Kept s0 (s.consumeOne h) := by
  unfold State.consumeOne
  cases s.unconsumed h with
  | nil => exact ht0
  | cons i is =>
    dsimp only
    generalize s.capEntry h i = e
    generalize BitVec.ofNat 64 ((i + 1) % 2 ^ 32) = v'
    generalize Reg.hifCapCons h = a'
    obtain ⟨off, f, wide, void, v⟩ := e
    dsimp only
    apply keptx_fin
    split
    · exact ht0
    · split
      · exact kept_updFn _ _ _ _ ht0
      · exact kept_consumed _ _ _ _ (kept_applyWrite _ _ _ _ _ _ ht0)

theorem kept_execCaptureConsume {s0 : State} (h : Fin 2) (s : State) (ht0 : Kept s0 s) : ∀ t9, (execCaptureConsume h s) = .next t9 → Kept s0 t9 := by
  intro t9 ht; unfold execCaptureConsume at ht; injection ht with ht; subst ht; try dsimp only
  repeat' with_reducible first | assumption | intro _ _ _ | intro _ _ | apply kept_consumeOne | exact kept_mk (by assumption) .. | split

theorem kept_passTo {s0 : State} (s : State) (h v : Nat) (ht0 : Kept s0 s) : Kept s0 (State.passTo s h v) := by
  unfold State.passTo; try dsimp only
  repeat' with_reducible first | assumption | intro _ _ _ | intro _ _ | apply kept_consumed | apply kept_each | apply kept_releaseBells | apply kept_wr | exact kept_mk (by assumption) .. | split

theorem kept_execHifCapConsWrite {s0 : State} (ag : Agent) (h : Fin 2) (v : W32) (s : State) (ht0 : Kept s0 s) : ∀ t9, (execHifCapConsWrite ag h v s) = .next t9 → Kept s0 t9 := by
  intro t9 ht; unfold execHifCapConsWrite at ht; injection ht with ht; subst ht; try dsimp only
  repeat' with_reducible first | assumption | intro _ _ _ | intro _ _ | apply kept_csrAccess | apply kept_passTo | apply kept_refuseWrite | exact kept_mk (by assumption) .. | split

theorem kept_execDoorbell {s0 : State} (h : Fin 2) (f : Fin 5) (q : Fin 16) (head : Bool) (v : W32) (s : State) (ht0 : Kept s0 s) : ∀ t9, (execDoorbell h f q head v s) = .next t9 → Kept s0 t9 := by
  intro t9 ht; unfold execDoorbell at ht; injection ht with ht; subst ht; try dsimp only
  repeat' with_reducible first | assumption | intro _ _ _ | intro _ _ | apply kept_bell | apply kept_updFn | exact kept_mk (by assumption) .. | split

theorem kept_execHeartbeat {s0 : State} (h : Fin 2) (f : Fin 5) (s : State) (ht0 : Kept s0 s) : ∀ t9, (execHeartbeat h f s) = .next t9 → Kept s0 t9 := by
  intro t9 ht; unfold execHeartbeat at ht; injection ht with ht; subst ht; try dsimp only
  repeat' with_reducible first | assumption | intro _ _ _ | intro _ _ | apply kept_updFn | apply kept_wr | apply kept_wrF | exact kept_mk (by assumption) .. | split

theorem kept_execHeartbeatWindowEnd {s0 : State} (h : Fin 2) (f : Fin 5) (s : State) (ht0 : Kept s0 s) : ∀ t9, (execHeartbeatWindowEnd h f s) = .next t9 → Kept s0 t9 := by
  intro t9 ht; unfold execHeartbeatWindowEnd at ht; injection ht with ht; subst ht; try dsimp only
  repeat' with_reducible first | assumption | intro _ _ _ | intro _ _ | apply kept_cond | apply kept_orphanFn | apply kept_updFn | apply kept_wrF | exact kept_mk (by assumption) .. | split

theorem kept_execOrphanKeepExpire {s0 : State} (h : Fin 2) (f : Fin 5) (s : State) (ht0 : Kept s0 s) : ∀ t9, (execOrphanKeepExpire h f s) = .next t9 → Kept s0 t9 := by
  intro t9 ht; unfold execOrphanKeepExpire at ht; injection ht with ht; subst ht; try dsimp only
  repeat' with_reducible first | assumption | intro _ _ _ | intro _ _ | apply kept_discardOrphan | apply kept_settleCmds | exact kept_mk (by assumption) .. | split

theorem kept_execQueueCreate {s0 : State} (h : Fin 2) (f : Fin 5) (q : Fin 16) (v : W32) (s : State) (ht0 : Kept s0 s) : ∀ t9, (execQueueCreate h f q v s) = .next t9 → Kept s0 t9 := by
  intro t9 ht; unfold execQueueCreate at ht; injection ht with ht; subst ht; try dsimp only
  repeat' with_reducible first | assumption | intro _ _ _ | intro _ _ | apply kept_setQctrl | exact kept_mk (by assumption) .. | split

theorem kept_execQueueDelete {s0 : State} (h : Fin 2) (f : Fin 5) (q : Fin 16) (v : W32) (s : State) (ht0 : Kept s0 s) : ∀ t9, (execQueueDelete h f q v s) = .next t9 → Kept s0 t9 := by
  intro t9 ht; unfold execQueueDelete at ht; injection ht with ht; subst ht; try dsimp only
  repeat' with_reducible first | assumption | intro _ _ _ | intro _ _ | apply kept_setQctrl | exact kept_mk (by assumption) .. | split

theorem kept_execWindowSet {s0 : State} (h : Fin 2) (f : Fin 5) (w : Fin 32) (v : W64) (s : State) (ht0 : Kept s0 s) : ∀ t9, (execWindowSet h f w v s) = .next t9 → Kept s0 t9 := by
  intro t9 ht; unfold execWindowSet at ht; injection ht with ht; subst ht; try dsimp only
  repeat' with_reducible first | assumption | intro _ _ _ | intro _ _ | apply kept_setWindow | exact kept_mk (by assumption) .. | split

theorem kept_execSubmissionFetch {s0 : State} (h : Fin 2) (f : Fin 5) (q : Fin 16) (host : HostData) (bad : Bool) (s : State) (ht0 : Kept s0 s) : ∀ t9, (execSubmissionFetch h f q host bad s) = .next t9 → Kept s0 t9 := by
  intro t9 ht; unfold execSubmissionFetch at ht; injection ht with ht; subst ht; try dsimp only
  repeat' with_reducible first | assumption | intro _ _ _ | intro _ _ | apply kept_cond | apply kept_fnEvent | apply kept_hostFailed | apply kept_mismatchAt | apply kept_startQueue | apply kept_updFn | apply kept_updQueue | apply kept_wrF | exact kept_mk (by assumption) .. | split

theorem kept_execFencedCommandStart {s0 : State} (h : Fin 2) (f : Fin 5) (q : Fin 16) (s : State) (ht0 : Kept s0 s) : ∀ t9, (execFencedCommandStart h f q s) = .next t9 → Kept s0 t9 := by
  intro t9 ht; unfold execFencedCommandStart at ht; injection ht with ht; subst ht; try dsimp only
  repeat' with_reducible first | assumption | intro _ _ _ | intro _ _ | apply kept_settleCmds | apply kept_startQueue | exact kept_mk (by assumption) .. | split

theorem kept_execCompletionPost {s0 : State} (h : Fin 2) (f : Fin 5) (s : State) (ht0 : Kept s0 s) :
    ∀ t, execCompletionPost h f s = .next t → Kept s0 t := by
  intro t ht
  unfold execCompletionPost at ht
  injection ht with ht
  subst ht
  exact kept_postOne _ _ _ (keptx_drainCpl _ _ _ _ (kept_settleCmds _ (kept_set_answer _ ht0)))

theorem kept_execHostCompletionTimeout {s0 : State} (h : Fin 2) (f : Fin 5) (tok : Option (BitVec 8)) (s : State) (ht0 : Kept s0 s) : ∀ t9, (execHostCompletionTimeout h f tok s) = .next t9 → Kept s0 t9 := by
  intro t9 ht; unfold execHostCompletionTimeout at ht; injection ht with ht; subst ht; try dsimp only
  repeat' with_reducible first | assumption | intro _ _ _ | intro _ _ | apply kept_finish | apply kept_hostFailed | apply kept_tokenPart | apply kept_updSeq | exact kept_mk (by assumption) .. | split

theorem kept_execPcieConfigRequest {s0 : State} (h : Fin 2) (f : Fin 5) (r : CfgReq) (s : State) (ht0 : Kept s0 s) : ∀ t9, (execPcieConfigRequest h f r s) = .next t9 → Kept s0 t9 := by
  intro t9 ht; unfold execPcieConfigRequest at ht; injection ht with ht; subst ht; try dsimp only
  repeat' with_reducible first | assumption | intro _ _ _ | intro _ _ | apply kept_each | apply kept_flr | apply kept_updFn | apply kept_updHport | exact kept_mk (by assumption) .. | split

theorem kept_execNegotiate {s0 : State} (h : Fin 2) (f : Fin 5) (s : State) (ht0 : Kept s0 s) : ∀ t9, (execNegotiate h f s) = .next t9 → Kept s0 t9 := by
  intro t9 ht; unfold execNegotiate at ht; injection ht with ht; subst ht; try dsimp only
  repeat' with_reducible first | assumption | intro _ _ _ | intro _ _ | apply kept_negotiate | apply kept_settleCmds | exact kept_mk (by assumption) .. | split

theorem kept_execFlr {s0 : State} (h : Fin 2) (m : Fin 4) (s : State) (ht0 : Kept s0 s) : ∀ t9, (execFlr h m s) = .next t9 → Kept s0 t9 := by
  intro t9 ht; unfold execFlr at ht; injection ht with ht; subst ht; try dsimp only
  repeat' with_reducible first | assumption | intro _ _ _ | intro _ _ | apply kept_flr | exact kept_mk (by assumption) .. | split

theorem kept_execFlrQuiesce {s0 : State} (h : Fin 2) (f : Fin 5) (s : State) (ht0 : Kept s0 s) : ∀ t9, (execFlrQuiesce h f s) = .next t9 → Kept s0 t9 := by
  intro t9 ht; unfold execFlrQuiesce at ht; injection ht with ht; subst ht; try dsimp only
  repeat' with_reducible first | assumption | intro _ _ _ | intro _ _ | apply kept_quiesceFn | apply kept_settleCmds | exact kept_mk (by assumption) .. | split

theorem kept_execPf0Flr {s0 : State} (h : Fin 2) (s : State) (ht0 : Kept s0 s) : ∀ t9, (execPf0Flr h s) = .next t9 → Kept s0 t9 := by
  intro t9 ht; unfold execPf0Flr at ht; injection ht with ht; subst ht; try dsimp only
  repeat' with_reducible first | assumption | intro _ _ _ | intro _ _ | apply kept_each | apply kept_fnEvent | apply kept_fnReset | apply kept_orphanFn | apply kept_settleCmds | apply kept_updFn | apply kept_updHport | exact kept_mk (by assumption) .. | split

theorem kept_portLinkReset {s0 : State} (s : State) (h kind : Nat) (ht0 : Kept s0 s) : Kept s0 (State.portLinkReset s h kind) := by
  unfold State.portLinkReset; try dsimp only
  repeat' with_reducible first | assumption | intro _ _ _ | intro _ _ | apply kept_abortRecipe | apply kept_cond | apply kept_each | apply kept_fnEvent | apply kept_fnReset | apply kept_orphanFn | apply kept_settleCmds | apply kept_updHport | exact kept_mk (by assumption) .. | split

theorem kept_execPortLinkReset {s0 : State} (h : Fin 2) (kind : Fin 4) (s : State) (ht0 : Kept s0 s) : ∀ t9, (execPortLinkReset h kind s) = .next t9 → Kept s0 t9 := by
  intro t9 ht; unfold execPortLinkReset at ht; injection ht with ht; subst ht; try dsimp only
  repeat' with_reducible first | assumption | intro _ _ _ | intro _ _ | apply kept_portLinkReset | exact kept_mk (by assumption) .. | split

/-! ### FwCmds -/

theorem kept_setUpd {s0 : State} (s : State) (x : Nat) (ht0 : Kept s0 s) : Kept s0 (State.setUpd s x) := by
  unfold State.setUpd; try dsimp only
  repeat' with_reducible first | assumption | intro _ _ _ | intro _ _ | apply kept_wrF | exact kept_mk (by assumption) .. | split

theorem kept_finishOp {s0 : State} (s : State) (op status : Nat) (result : W64) (ht0 : Kept s0 s) : Kept s0 (State.finishOp s op status result) := by
  unfold State.finishOp; try dsimp only
  repeat' with_reducible first | assumption | intro _ _ _ | intro _ _ | apply kept_each | apply kept_updFn | exact kept_mk (by assumption) .. | split

theorem kept_stagingFailed {s0 : State} (s : State) (status : Nat) (ht0 : Kept s0 s) : Kept s0 (State.stagingFailed s status) := by
  unfold State.stagingFailed; try dsimp only
  repeat' with_reducible first | assumption | intro _ _ _ | intro _ _ | apply kept_event | apply kept_finishOp | apply kept_setUpd | exact kept_mk (by assumption) .. | split

theorem kept_execFwStage {s0 : State} (h : Fin 2) (host : HostData) (s : State) (ht0 : Kept s0 s) : ∀ t9, (execFwStage h host s) = .next t9 → Kept s0 t9 := by
  intro t9 ht; unfold execFwStage at ht; injection ht with ht; subst ht
  grind only [kept_finish, kept_hostFailed, kept_setStage, kept_setUpd, kept_stagingFailed, kept_withCmd, kept_wrF, kept_writeSlot]

theorem kept_execStagingVerified {s0 : State} (s : State) (ht0 : Kept s0 s) : ∀ t9, (execStagingVerified s) = .next t9 → Kept s0 t9 := by
  intro t9 ht; unfold execStagingVerified at ht; injection ht with ht; subst ht; try dsimp only
  repeat' with_reducible first | assumption | intro _ _ _ | intro _ _ | apply kept_checkSlot | apply kept_finishOp | apply kept_setUpd | apply kept_stagingFailed | apply kept_wrF | exact kept_mk (by assumption) .. | split

theorem kept_beginHandover {s0 : State} (s : State) (ht0 : Kept s0 s) : Kept s0 (State.beginHandover s) := by
  unfold State.beginHandover at *
  grind only [kept_mk, kept_setUpd, kept_wrB, kept_wrF]

theorem kept_tryActivate {s0 : State} (s : State) (ht0 : Kept s0 s) : Kept s0 (State.tryActivate s) := by
  unfold State.tryActivate; try dsimp only
  repeat' with_reducible first | assumption | intro _ _ _ | intro _ _ | apply kept_beginHandover | apply kept_event | apply kept_wrB | exact kept_mk (by assumption) .. | split

theorem kept_execFwActivate {s0 : State} (h : Fin 2) (s : State) (ht0 : Kept s0 s) : ∀ t, execFwActivate h s = .next t → Kept s0 t := by
  intro t ht
  unfold execFwActivate at ht
  injection ht with ht
  subst ht
  refine kept_withCmd _ _ _ _ _ _ ht0 (fun s c _ h => ?_)
  dsimp only
  split
  · exact kept_finish _ _ _ _ _ _ h
  · exact kept_tryActivate _ (kept_setStage _ _ _ _ _ (kept_event _ _ _ _ _ (kept_wrF _ _ _ _ (kept_wrF _ _ _ _ (kept_setUpd _ _ h)))))

theorem kept_setFwver {s0 : State} (s : State) (ht0 : Kept s0 s) : Kept s0 (State.setFwver s) := by
  unfold State.setFwver; try dsimp only
  repeat' with_reducible first | assumption | intro _ _ _ | intro _ _ | apply kept_each | apply kept_wr | exact kept_mk (by assumption) .. | split

theorem kept_startCore {s0 : State} (s : State) (k x : Nat) (ht0 : Kept s0 s) : Kept s0 (State.startCore s k x) := by
  unfold State.startCore; try dsimp only
  repeat' with_reducible first | assumption | intro _ _ _ | intro _ _ | apply kept_agentStart | apply kept_cond | apply kept_setCompState | apply kept_startComponent | exact kept_mk (by assumption) .. | split

theorem kept_coreRuns {s0 : State} (s : State) (k : Nat) (ht0 : Kept s0 s) : Kept s0 (State.coreRuns s k) := by
  unfold State.coreRuns at *
  grind only [kept_cond, kept_mk, kept_setCompState, kept_setFwver]

theorem kept_resolve_ {s0 : State} (s : State) (k lo : Nat) (ht0 : Kept s0 s) : Kept s0 (State.resolve_ s k lo) := by
  unfold State.resolve_; try dsimp only
  repeat' with_reducible first | assumption | intro _ _ _ | intro _ _ | apply kept_wrB | exact kept_mk (by assumption) .. | split

theorem kept_activated {s0 : State} (s : State) (ht0 : Kept s0 s) : Kept s0 (State.activated s) := by
  unfold State.activated; try dsimp only
  repeat' with_reducible first | assumption | intro _ _ _ | intro _ _ | apply kept_finishOp | exact kept_mk (by assumption) .. | split

theorem kept_adopted {s0 : State} (s : State) (k : Nat) (ht0 : Kept s0 s) : Kept s0 (s.adopted k) := by
  unfold State.adopted
  have h := kept_event 0x804 (.component k) k none 0 (kept_resolve_ _ k 10 (kept_coreRuns s k ht0))
  generalize State.event _ _ _ _ _ _ = u at h
  dsimp only
  split
  · exact kept_activated _ (kept_setUpd _ _ (kept_set_config _ h))
  · split
    · exact kept_setUpd _ _ h
    · exact h

theorem kept_rollBack {s0 : State} (s : State) (k : Nat) (starts : Bool) (ht0 : Kept s0 s) : Kept s0 (s.rollBack k starts) := by
  unfold State.rollBack
  have h := kept_event 0x805 (.component k) k none 0 ht0
  generalize State.event s _ _ _ _ _ = u at h
  have h := kept_resolve_ _ k 16 (kept_startCore u k (if k = 2 then 1 - s.activeSlot else s.activeSlot) h)
  dsimp only
  generalize State.resolve_ _ _ _ = u at h
  have h : Kept s0 (u.cond (k != 2) (fun s =>
    ((({ s with fw := { s.fw with cccWait := 0, bdcWait := 0 } } : State).wrF (Reg.hubFwComp 4) 42 36 0).wrF (Reg.hubFwComp 5) 42 36 0).wrF Reg.hubFwUpd 9 4 0)) :=
    kept_cond _ _ h (fun _ h => kept_wrF _ _ _ _ (kept_wrF _ _ _ _ (kept_wrF _ _ _ _ (kept_set_fw _ h))))
  generalize u.cond _ _ = u at h
  split
  · exact kept_cond _ _ (kept_setUpd _ _ (kept_coreRuns _ _ h)) (fun _ h => kept_activated _ h)
  · exact kept_activated _ (kept_event _ _ _ _ _ (kept_setUpd _ _ (kept_setCompState _ _ _ (kept_set_fw _ h))))

theorem kept_execHandover {s0 : State} (k : Fin 7) (payload : List Byte) (comes : Bool) (s : State) (ht0 : Kept s0 s) : ∀ t9, (execHandover k payload comes s) = .next t9 → Kept s0 t9 := by
  intro t9 ht; unfold execHandover at ht; injection ht with ht; subst ht; dsimp only
  (repeat' split) <;> grind only [kept_adopted, kept_checkSlot, kept_event, kept_mk, kept_rollBack, kept_setCompState, kept_startCore]

theorem kept_execAdoptTimeout {s0 : State} (starts : Bool) (s : State) (ht0 : Kept s0 s) : ∀ t9, (execAdoptTimeout starts s) = .next t9 → Kept s0 t9 := by
  intro t9 ht; unfold execAdoptTimeout at ht; injection ht with ht; subst ht; try dsimp only
  repeat' with_reducible first | assumption | intro _ _ _ | intro _ _ | apply kept_rollBack | exact kept_mk (by assumption) .. | split

theorem kept_execPmcHandoverStart {s0 : State} (s : State) (ht0 : Kept s0 s) : ∀ t9, (execPmcHandoverStart s) = .next t9 → Kept s0 t9 := by
  intro t9 ht; unfold execPmcHandoverStart at ht; injection ht with ht; subst ht; try dsimp only
  repeat' with_reducible first | assumption | intro _ _ _ | intro _ _ | apply kept_setCompState | exact kept_mk (by assumption) .. | split

theorem kept_execFwStatus {s0 : State} (h : Fin 2) (s : State) (ht0 : Kept s0 s) : ∀ t9, (execFwStatus h s) = .next t9 → Kept s0 t9 := by
  intro t9 ht; unfold execFwStatus at ht; injection ht with ht; subst ht; try dsimp only
  repeat' with_reducible first | assumption | intro _ _ _ | intro _ _ | apply kept_finish | apply kept_withCmd | exact kept_mk (by assumption) .. | split

theorem kept_execConfig {s0 : State} (h : Fin 2) (s : State) (ht0 : Kept s0 s) : ∀ t9, (execConfig h s) = .next t9 → Kept s0 t9 := by
  intro t9 ht; unfold execConfig at ht; injection ht with ht; subst ht
  grind only [keptm_BaseM_store, kept_finish, kept_mk, kept_withCmd, kept_wr, kept_wrB, kept_wrF]

/-! ### Contexts -/

theorem kept_updRecv {s0 : State} (s : State) (key : Nat) (f : RecvCtx → RecvCtx) (ht0 : Kept s0 s) : Kept s0 (State.updRecv s key f) := by
  unfold State.updRecv; try dsimp only
  repeat' with_reducible first | assumption | intro _ _ _ | intro _ _ | apply kept_updRouter | exact kept_mk (by assumption) .. | split

theorem kept_updSend {s0 : State} (s : State) (key : Nat) (f : SendCtx → SendCtx) (ht0 : Kept s0 s) : Kept s0 (State.updSend s key f) := by
  unfold State.updSend; try dsimp only
  repeat' with_reducible first | assumption | intro _ _ _ | intro _ _ | apply kept_updRouter | exact kept_mk (by assumption) .. | split

theorem kept_gauges {s0 : State} (s : State) (ht0 : Kept s0 s) : Kept s0 (State.gauges s) := by
  unfold State.gauges; try dsimp only
  repeat' with_reducible first | assumption | intro _ _ _ | intro _ _ | apply kept_foldl | apply kept_foldl_fst | apply kept_wr | exact kept_mk (by assumption) .. | split

theorem kept_touch {s0 : State} (s : State) (P id : Nat) (ht0 : Kept s0 s) : ∀ t9, (State.touch s P id) = some t9 → Kept s0 t9 := by
  intro t9 ht; unfold State.touch at *
  grind only [kept_count, kept_mk, kept_updRouter]

theorem kept_sendAck {s0 : State} (s : State) (key : Nat) (p : Packet) (ht0 : Kept s0 s) : Kept s0 (State.sendAck s key p) := by
  unfold State.sendAck; try dsimp only
  repeat' with_reducible first | assumption | intro _ _ _ | intro _ _ | apply kept_answerTo | apply kept_updRecv | exact kept_mk (by assumption) .. | split

theorem kept_sendNack {s0 : State} (s : State) (p : Packet) (reason : Nat) (ht0 : Kept s0 s) : Kept s0 (State.sendNack s p reason) := by
  unfold State.sendNack; try dsimp only
  repeat' with_reducible first | assumption | intro _ _ _ | intro _ _ | apply kept_answerTo | apply kept_count | exact kept_mk (by assumption) .. | split

theorem kept_sendMack {s0 : State} (s : State) (p : Packet) (seq : Nat) (ht0 : Kept s0 s) : Kept s0 (State.sendMack s p seq) := by
  unfold State.sendMack; try dsimp only
  repeat' with_reducible first | assumption | intro _ _ _ | intro _ _ | apply kept_inject | exact kept_mk (by assumption) .. | split

theorem kept_delivered {s0 : State} (s : State) (key : Nat) (p : Packet) (ht0 : Kept s0 s) : Kept s0 (State.delivered s key p) := by
  unfold State.delivered; try dsimp only
  repeat' with_reducible first | assumption | intro _ _ _ | intro _ _ | apply kept_sendAck | apply kept_updRecv | exact kept_mk (by assumption) .. | split

/-! ### Clx -/

theorem kept_updClx {s0 : State} (s : State) (q : Nat) (f : Clx → Clx) (ht0 : Kept s0 s) : Kept s0 (State.updClx s q f) := by
  unfold State.updClx; try dsimp only
  repeat' with_reducible first | assumption | intro _ _ _ | intro _ _ | exact kept_mk (by assumption) .. | split

theorem kept_clxRead {s0 : State} (s : State) (part h off n : Nat) (ht0 : Kept s0 s) : Kept s0 (State.clxRead s part h off n).1 := by
  unfold State.clxRead; try dsimp only
  repeat' with_reducible first | assumption | intro _ _ _ | intro _ _ | apply kept_checkFailedHandle | apply kept_readExtent | exact kept_mk (by assumption) .. | split

theorem kept_clxWrite {s0 : State} (s : State) (part h off : Nat) (bs : List Byte) (ht0 : Kept s0 s) : Kept s0 (State.clxWrite s part h off bs).1 := by
  unfold State.clxWrite at *
  grind only [kept_handleWrite, kept_heatExtent]

theorem kept_clxExc {s0 : State} (s : State) (q : Nat) (es : List Exc) (clamped : Nat) (ht0 : Kept s0 s) : Kept s0 (State.clxExc s q es clamped) := by
  unfold State.clxExc; try dsimp only
  repeat' with_reducible first | assumption | intro _ _ _ | intro _ _ | apply kept_count | exact kept_mk (by assumption) .. | split

theorem kept_clxVals {s0 : State} (s : State) (x : ClxNow) (b a n : Nat) (ht0 : Kept s0 s) : Kept s0 (State.clxVals s x b a n).1 := by
  unfold State.clxVals; try dsimp only
  repeat' with_reducible first | assumption | intro _ _ _ | intro _ _ | apply kept_clxRead | apply kept_foldl | apply kept_foldl_fst | exact kept_mk (by assumption) .. | split

theorem kept_clxPutResult {s0 : State} (s : State) (x : ClxNow) (a : Nat) (es scales : List Nat) (ht0 : Kept s0 s) : Kept s0 (State.clxPutResult s x a es scales).1 := by
  unfold State.clxPutResult; try dsimp only
  repeat' with_reducible first | assumption | intro _ _ _ | intro _ _ | apply kept_clxWrite | apply kept_foldl | apply kept_foldl_fst | exact kept_mk (by assumption) .. | split

theorem kept_clxEnded {s0 : State} (s : State) (q : Nat) (inst : ClxInst) (number code : Nat) (failed degraded : Bool) (ht0 : Kept s0 s) : Kept s0 (State.clxEnded s q inst number code failed degraded) := by
  unfold State.clxEnded; try dsimp only
  repeat' with_reducible first | assumption | intro _ _ _ | intro _ _ | apply kept_cond | apply kept_count | apply kept_event | apply kept_wr | exact kept_mk (by assumption) .. | split

theorem kept_clxIdle {s0 : State} (s : State) (q : Nat) (ht0 : Kept s0 s) : Kept s0 (State.clxIdle s q) := by
  unfold State.clxIdle; try dsimp only
  repeat' with_reducible first | assumption | intro _ _ _ | intro _ _ | apply kept_each | apply kept_wrF | exact kept_mk (by assumption) .. | split

theorem kept_clxFail {s0 : State} (s : State) (q code : Nat) (ht0 : Kept s0 s) : Kept s0 (State.clxFail s q code) := by
  unfold State.clxFail; try dsimp only
  repeat' with_reducible first | assumption | intro _ _ _ | intro _ _ | apply kept_clxEnded | apply kept_clxIdle | apply kept_foldl | apply kept_foldl_fst | apply kept_tokenPart | apply kept_updClx | apply kept_updRouter | exact kept_mk (by assumption) .. | split

theorem kept_clxTileBytes {s0 : State} (s : State) (x : ClxNow) (g : ClxSeg) (c t : Nat) (ht0 : Kept s0 s) : Kept s0 (State.clxTileBytes s x g c t).1 := by
  unfold State.clxTileBytes; try dsimp only
  repeat' with_reducible first | assumption | intro _ _ _ | intro _ _ | apply kept_clxExc | apply kept_clxRead | apply kept_clxVals | exact kept_mk (by assumption) .. | split

theorem kept_clxCircuitSend {s0 : State} (s : State) (x : ClxNow) (m : Nat) (down : Bool) (peer seq : Nat) (bs : List Byte) (ht0 : Kept s0 s) : Kept s0 (State.clxCircuitSend s x m down peer seq bs) := by
  unfold State.clxCircuitSend; try dsimp only
  repeat' with_reducible first | assumption | intro _ _ _ | intro _ _ | apply kept_count | apply kept_inject | exact kept_mk (by assumption) .. | split

theorem kept_clxSendTile {s0 : State} (s : State) (q m peer : Nat) (down : Bool) (ht0 : Kept s0 s) : Kept s0 (State.clxSendTile s q m peer down).1 := by
  unfold State.clxSendTile; try dsimp only
  repeat' with_reducible first | assumption | intro _ _ _ | intro _ _ | apply kept_clxCircuitSend | apply kept_clxFail | apply kept_clxTileBytes | apply kept_count | apply kept_enqueueJob | apply kept_updClx | exact kept_mk (by assumption) .. | split

theorem kept_clxOwnCopy {s0 : State} (s : State) (x : ClxNow) (ht0 : Kept s0 s) : Kept s0 (State.clxOwnCopy s x).1 := by
  unfold State.clxOwnCopy; try dsimp only
  repeat' with_reducible first | assumption | intro _ _ _ | intro _ _ | apply kept_clxRead | apply kept_clxWrite | exact kept_mk (by assumption) .. | split

theorem kept_clxStartPhase {s0 : State} (s : State) (q : Nat) (r : ClxRun) (phase : Nat) (range : Nat × Nat) (ht0 : Kept s0 s) : Kept s0 (State.clxStartPhase s q r phase range) := by
  unfold State.clxStartPhase; try dsimp only
  repeat' with_reducible first | assumption | intro _ _ _ | intro _ _ | apply kept_clxFail | apply kept_clxOwnCopy | apply kept_each | apply kept_foldl | apply kept_foldl_fst | apply kept_updClx | apply kept_wr | exact kept_mk (by assumption) .. | split

theorem kept_clxApplyData {s0 : State} (s : State) (x : ClxNow) (l : ClxLane) (g : ClxSeg) (c : Nat) (t : ClxTile) (ht0 : Kept s0 s) : Kept s0 (State.clxApplyData s x l g c t).1 := by
  unfold State.clxApplyData; try dsimp only
  repeat' with_reducible first | assumption | intro _ _ _ | intro _ _ | apply kept_clxExc | apply kept_clxPutResult | apply kept_clxRead | apply kept_clxVals | apply kept_clxWrite | exact kept_mk (by assumption) .. | split

theorem kept_clxApply {s0 : State} (s : State) (q : Nat) (r : ClxRun) (t : ClxTile) (ht0 : Kept s0 s) : Kept s0 (State.clxApply s q r t).1 := by
  unfold State.clxApply; try dsimp only
  repeat' with_reducible first | assumption | intro _ _ _ | intro _ _ | apply kept_clxApplyData | apply kept_clxFail | apply kept_count | apply kept_countF | apply kept_event | apply kept_updClx | exact kept_mk (by assumption) .. | split

theorem kept_clxCircuitAck {s0 : State} (s : State) (x : ClxNow) (m peer : Nat) (down : Bool) (next phase number : Nat) (ht0 : Kept s0 s) : Kept s0 (State.clxCircuitAck s x m peer down next phase number) := by
  unfold State.clxCircuitAck; try dsimp only
  repeat' with_reducible first | assumption | intro _ _ _ | intro _ _ | apply kept_clxCircuitSend | exact kept_mk (by assumption) .. | split

theorem kept_clxAnswer {s0 : State} (s : State) (q : Nat) (t : ClxTile) (next phase number : Nat) (always : Bool) (ht0 : Kept s0 s) : Kept s0 (State.clxAnswer s q t next phase number always) := by
  unfold State.clxAnswer; try dsimp only
  repeat' with_reducible first | assumption | intro _ _ _ | intro _ _ | apply kept_clxCircuitAck | apply kept_delivered | apply kept_gauges | apply kept_inject | apply kept_updRouter | exact kept_mk (by assumption) .. | split

theorem kept_clxTakeTile {s0 : State} (s : State) (q : Nat) (t : ClxTile) (ht0 : Kept s0 s) : Kept s0 (State.clxTakeTile s q t).1 := by
  unfold State.clxTakeTile; try dsimp only
  repeat' with_reducible first | assumption | intro _ _ _ | intro _ _ | apply kept_clxAnswer | apply kept_clxApply | apply kept_count | apply kept_updClx | exact kept_mk (by assumption) .. | split

theorem keptx_clxDrain {s0 : State} (q n : Nat) : ∀ s : State, Kept s0 s → Kept s0 (s.clxDrain q n) := by
  induction n with
  | zero => exact fun _ h => h
  | succ n ih =>
    intro s h
    unfold State.clxDrain
    dsimp only
    split
    · exact h
    · exact ih _ (kept_clxTakeTile _ _ _ (kept_updClx _ _ _ h))

theorem keptx_clxSettle {s0 : State} (q n : Nat) : ∀ s : State, Kept s0 s → Kept s0 (s.clxSettle q n) := by
  induction n with
  | zero => exact fun _ h => h
  | succ n ih =>
    intro s h
    unfold State.clxSettle
    have h1 := keptx_clxDrain q ((s.clx q).staged.length) s h
    dsimp only
    generalize s.clxDrain q ((s.clx q).staged.length) = u at h1
    split
    · exact h1
    · split
      · exact h1
      · split
        · exact ih _ (kept_clxStartPhase _ _ _ _ _ h1)
        · exact kept_updClx _ _ _ h1

theorem kept_clxOnAck {s0 : State} (s : State) (q m peer : Nat) (down : Bool) (bs : List Byte) (ht0 : Kept s0 s) : Kept s0 (s.clxOnAck q m peer down bs) := by
  unfold State.clxOnAck
  split
  · exact ht0
  · dsimp only
    split
    · exact keptx_clxSettle _ _ _ (kept_updClx _ _ _ ht0)
    · exact ht0

theorem kept_clxFrame {s0 : State} (s : State) (m : Nat) (p : Packet) (ht0 : Kept s0 s) : Kept s0 (s.clxFrame m p) := by
  unfold State.clxFrame
  have h1 := kept_count (Reg.clxRxBytes m) (frameBytes p) ht0
  dsimp only
  generalize s.count (Reg.clxRxBytes m) (frameBytes p) = u at h1
  generalize List.findSome? _ _ = o
  cases o with
  | none => exact h1
  | some e =>
    obtain ⟨g, down⟩ := e
    dsimp only
    split
    · exact kept_clxOnAck _ _ _ _ _ _ h1
    · exact keptx_clxSettle _ _ _ (kept_clxTakeTile _ _ _ h1)

theorem kept_clxDown {s0 : State} (s : State) (id : Nat) (ht0 : Kept s0 s) : Kept s0 (State.clxDown s id) := by
  unfold State.clxDown; try dsimp only
  repeat' with_reducible first | assumption | intro _ _ _ | intro _ _ | apply kept_cond | apply kept_each | apply kept_updClx | apply kept_wrB | exact kept_mk (by assumption) .. | split

/-! ### HostWork -/

theorem kept_execIdentify {s0 : State} (h : Fin 2) (f : Fin 5) (s : State) (ht0 : Kept s0 s) : ∀ t9, (execIdentify h f s) = .next t9 → Kept s0 t9 := by
  intro t9 ht; unfold execIdentify at ht; injection ht with ht; subst ht; try dsimp only
  repeat' with_reducible first | assumption | intro _ _ _ | intro _ _ | apply kept_finish | apply kept_withCmd | exact kept_mk (by assumption) .. | split

theorem keptx_createAt {s0 : State} (s : State) (part x base : Nat) (a : HandleAsk) (picks : List Nat) (v : State × Nat)
    (hv : s.createAt part x base a picks = some v) (ht0 : Kept s0 s) : Kept s0 v.1 := by
  unfold State.createAt at hv
  dsimp only at hv
  generalize State.placeSlabs _ _ _ _ _ _ _ _ _ _ _ = o at hv
  split at hv
  · cases hv
  · injection hv with hv
    subst hv
    exact kept_each _ _ (kept_each _ _ (kept_setFrames _ _ _ ht0) (fun _ _ h => kept_cpCommit _ _ h)) (fun _ _ h => kept_cpCommit _ _ h)

theorem kept_createHandle {s0 : State} (s : State) (part : Nat) (a : HandleAsk) (x base : Nat) (picks : List Nat) (ht0 : Kept s0 s) :
    Kept s0 (s.createHandle part a x base picks).1 := by
  unfold State.createHandle
  dsimp only
  generalize (if a.align = 0 then none else s.validDescs.find? _) = mate
  have hin : Kept s0 (match s.findDesc x, s.findRun a.rounded base with
      | some x, some b =>
        match s.createAt part x b a picks with
        | some (s, h) => (s, 0, h)
        | none => (s, 5, 0)
      | _, _ => (s, 5, 0)).1 := by
    cases s.findDesc x with
    | none => exact ht0
    | some d => cases s.findRun a.rounded base with
      | none => exact ht0
      | some b =>
        dsimp only
        cases hc : s.createAt part d b a picks with
        | none => exact ht0
        | some v => exact keptx_createAt _ _ _ _ _ _ _ hc ht0
  cases mate <;> dsimp only <;> split
  all_goals first
    | exact ht0
    | exact hin

theorem kept_execHcreate {s0 : State} (h : Fin 2) (f : Fin 5) (x : BitVec 16) (base : BitVec 19) (picks : List Nat) (s : State) (ht0 : Kept s0 s) : ∀ t9, (execHcreate h f x base picks s) = .next t9 → Kept s0 t9 := by
  intro t9 ht; unfold execHcreate at ht; injection ht with ht; subst ht
  grind only [kept_createHandle, kept_finish, kept_withCmd]

theorem kept_execHdestroy {s0 : State} (h : Fin 2) (f : Fin 5) (s : State) (ht0 : Kept s0 s) : ∀ t9, (execHdestroy h f s) = .next t9 → Kept s0 t9 := by
  intro t9 ht; unfold execHdestroy at ht; injection ht with ht; subst ht
  grind only [kept_destroyHandle, kept_finish, kept_withCmd]

theorem kept_execHseed {s0 : State} (h : Fin 2) (f : Fin 5) (s : State) (ht0 : Kept s0 s) : ∀ t9, (execHseed h f s) = .next t9 → Kept s0 t9 := by
  intro t9 ht; unfold execHseed at ht; injection ht with ht; subst ht
  grind only [kept_cpCommit, kept_finish, kept_refuseWrite, kept_withCmd]

theorem kept_execHcopy {s0 : State} (h : Fin 2) (f : Fin 5) (host : HostData) (ecc : List MemUpset) (s : State) (ht0 : Kept s0 s) : ∀ t9, (execHcopy h f host ecc s) = .next t9 → Kept s0 t9 := by
  intro t9 ht; unfold execHcopy at ht; injection ht with ht; subst ht
  grind only [keptm_Eng_write, kept_checkFailedHandle, kept_finish, kept_hostFailed, kept_hostOut, kept_hubRead, kept_hubWrite, kept_upset, kept_withCmd]

theorem kept_readPackage {s0 : State} (s : State) (part h pkg : Nat) (ht0 : Kept s0 s) : Kept s0 (State.readPackage s part h pkg) := by
  unfold State.readPackage; try dsimp only
  repeat' with_reducible first | assumption | intro _ _ _ | intro _ _ | apply kept_each | apply kept_readExtent | exact kept_mk (by assumption) .. | split

theorem kept_wrBytes {s0 : State} (s : State) (a n : Nat) (bs : List Byte) (ht0 : Kept s0 s) : Kept s0 (State.wrBytes s a n bs) := by
  unfold State.wrBytes at *
  grind only [Canon.cpBad, Canon.cpPend, Canon.csr, Canon.lineErr, Canon.mem, Canon.syn, Canon.wordErr, Tbl.Canonical.addAll, Tbl.Canonical.clear, Tbl.Canonical.set, Tbl.Canonical.setRun, Tbl.Canonical.upd, canonical_clearRange, kept_mk, kept_mk7]

theorem kept_placeSections {s0 : State} (s : State) (dies : List Nat) (g : Package) (ht0 : Kept s0 s) : Kept s0 (State.placeSections s dies g) := by
  unfold State.placeSections at *
  grind only [kept_each, kept_mk, kept_wrBytes]

theorem kept_bindAll {s0 : State} (s : State) (binds : List (Nat × List Nat)) (ht0 : Kept s0 s) : Kept s0 (State.bindAll s binds) := by
  unfold State.bindAll; try dsimp only
  repeat' with_reducible first | assumption | intro _ _ _ | intro _ _ | apply kept_clearClusterCounters | apply kept_each | apply kept_takeUnit | apply kept_wr | exact kept_mk (by assumption) .. | split

theorem kept_digestPackage {s0 : State} (s : State) (part h pkg : Nat) (g : Package) (ht0 : Kept s0 s) : Kept s0 (State.digestPackage s part h pkg g) := by
  unfold State.digestPackage at *
  grind only [kept_cond, kept_dropEph, kept_each, kept_emptySlot, kept_mk]

theorem kept_bindPackage {s0 : State} (s : State) (part h pkg : Nat) (g : Package) (binds : List (Nat × List Nat)) (ht0 : Kept s0 s) : Kept s0 (State.bindPackage s part h pkg g binds) := by
  unfold State.bindPackage; try dsimp only
  repeat' with_reducible first | assumption | intro _ _ _ | intro _ _ | apply kept_bindAll | apply kept_digestPackage | apply kept_placeSections | apply kept_setSeqState | apply kept_updSeq | exact kept_mk (by assumption) .. | split

theorem kept_execLoad {s0 : State} (h : Fin 2) (f : Fin 5) (ecc : List MemUpset) (s : State) (ht0 : Kept s0 s) : ∀ t9, (execLoad h f ecc s) = .next t9 → Kept s0 t9 := by
  intro t9 ht; unfold execLoad at ht; injection ht with ht; subst ht
  grind only [kept_bindPackage, kept_finish, kept_readPackage, kept_settleCmds, kept_upset, kept_withCmd]

theorem kept_execRun {s0 : State} (h : Fin 2) (f : Fin 5) (host : HostData) (s : State) (ht0 : Kept s0 s) : ∀ t9, (execRun h f host s) = .next t9 → Kept s0 t9 := by
  intro t9 ht; unfold execRun at ht; injection ht with ht; subst ht
  grind only [kept_finish, kept_hostFailed, kept_mk, kept_setStage, kept_startRecipe, kept_updSeq, kept_withCmd]

theorem kept_execHold {s0 : State} (h : Fin 2) (f : Fin 5) (s : State) (ht0 : Kept s0 s) : ∀ t9, (execHold h f s) = .next t9 → Kept s0 t9 := by
  intro t9 ht; unfold execHold at ht; injection ht with ht; subst ht
  grind only [kept_finish, kept_setHold, kept_setStage, kept_settleCmds, kept_withCmd]

theorem kept_execRelease {s0 : State} (h : Fin 2) (f : Fin 5) (s : State) (ht0 : Kept s0 s) : ∀ t9, (execRelease h f s) = .next t9 → Kept s0 t9 := by
  intro t9 ht; unfold execRelease at ht; injection ht with ht; subst ht
  grind only [kept_finish, kept_setHold, kept_settleCmds, kept_withCmd]

theorem kept_execAbort {s0 : State} (h : Fin 2) (f : Fin 5) (s : State) (ht0 : Kept s0 s) : ∀ t9, (execAbort h f s) = .next t9 → Kept s0 t9 := by
  intro t9 ht; unfold execAbort at ht; injection ht with ht; subst ht
  grind only [kept_abortRecipe, kept_finish, kept_settleCmds, kept_withCmd]

theorem kept_execOrphanRead {s0 : State} (h : Fin 2) (f : Fin 5) (host : HostData) (s : State) (ht0 : Kept s0 s) : ∀ t9, (execOrphanRead h f host s) = .next t9 → Kept s0 t9 := by
  intro t9 ht; unfold execOrphanRead at ht; injection ht with ht; subst ht
  grind only [keptm_Eng_write, kept_count, kept_finish, kept_hostFailed, kept_hostOut, kept_withCmd]

theorem kept_execAdopt {s0 : State} (h : Fin 2) (f : Fin 5) (s : State) (ht0 : Kept s0 s) : ∀ t9, (execAdopt h f s) = .next t9 → Kept s0 t9 := by
  intro t9 ht; unfold execAdopt at ht; injection ht with ht; subst ht
  grind only [kept_adopt, kept_finish, kept_settleCmds, kept_withCmd]

theorem kept_execDiscard {s0 : State} (h : Fin 2) (f : Fin 5) (s : State) (ht0 : Kept s0 s) : ∀ t9, (execDiscard h f s) = .next t9 → Kept s0 t9 := by
  intro t9 ht; unfold execDiscard at ht; injection ht with ht; subst ht
  grind only [kept_discardOrphan, kept_finish, kept_settleCmds, kept_withCmd]

end Sys2Proof.Machine
end

