-- ==== Sys2Proof/Laws/KeptParts.lean ====
section
/-!
SUPPORT. One lemma for each operation and command of partitions, keys, cores, the router and the links:
what it makes of a state that a start state keeps, that start keeps.
-/
set_option linter.all false
namespace Sys2Proof.Machine

/-! ### Flows -/

theorem kept_acceptPacket {s0 : State} (s : State) (p : Packet) (ht0 : Kept s0 s) : Kept s0 (State.acceptPacket s p).1 := by
  unfold State.acceptPacket at *
  grind only [kept_sendNack, kept_touch]

theorem kept_landPiece {s0 : State} (s : State) (a : Nat) (bs : List Byte) (check : W32) (ht0 : Kept s0 s) : Kept s0 (State.landPiece s a bs check) := by
  unfold State.landPiece; try dsimp only
  repeat' with_reducible first | assumption | intro _ _ _ | intro _ _ | apply kept_writeCarried | exact kept_mk (by assumption) .. | split

theorem kept_remoteRead {s0 : State} (s : State) (P h off len ph : Nat) (ht0 : Kept s0 s) : Kept s0 (State.remoteRead s P h off len ph).1 := by
  unfold State.remoteRead; try dsimp only
  repeat' with_reducible first | assumption | intro _ _ _ | intro _ _ | apply kept_checkFailedHandle | apply kept_foldl | apply kept_foldl_fst | apply kept_readExtent | exact kept_mk (by assumption) .. | split

theorem kept_jobDone {s0 : State} (s : State) (key xid : Nat) (j : NetJob) (ok : Bool) (v : W64) (ht0 : Kept s0 s) : Kept s0 (State.jobDone s key xid j ok v) := by
  unfold State.jobDone; try dsimp only
  repeat' with_reducible first | assumption | intro _ _ _ | intro _ _ | apply kept_clxFail | apply kept_updRouter | apply kept_updSeq | exact kept_mk (by assumption) .. | split

theorem kept_failTxns {s0 : State} (s : State) (key : Nat) (p : Txn → Bool) (ht0 : Kept s0 s) : Kept s0 (State.failTxns s key p) := by
  unfold State.failTxns; try dsimp only
  repeat' with_reducible first | assumption | intro _ _ _ | intro _ _ | apply kept_each | apply kept_gauges | apply kept_jobDone | apply kept_updSend | exact kept_mk (by assumption) .. | split

theorem kept_openFlow {s0 : State} (s : State) (key : Nat) (job : NetJob) (ht0 : Kept s0 s) : Kept s0 (State.openFlow s key job) := by
  unfold State.openFlow; try dsimp only
  repeat' with_reducible first | assumption | intro _ _ _ | intro _ _ | apply kept_inject | apply kept_updSend | exact kept_mk (by assumption) .. | split

theorem kept_putPacket {s0 : State} (s : State) (p : Packet) (job : NetJob) (ht0 : Kept s0 s) : Kept s0 (State.putPacket s p job) := by
  unfold State.putPacket; try dsimp only
  repeat' with_reducible first | assumption | intro _ _ _ | intro _ _ | apply kept_inject | exact kept_mk (by assumption) .. | split

theorem kept_resend {s0 : State} (s : State) (key : Nat) (u : SentPkt) (ht0 : Kept s0 s) : Kept s0 (State.resend s key u) := by
  unfold State.resend; try dsimp only
  repeat' with_reducible first | assumption | intro _ _ _ | intro _ _ | apply kept_count | apply kept_putPacket | apply kept_updSend | exact kept_mk (by assumption) .. | split

theorem kept_echoRate {s0 : State} (s : State) (key : Nat) (ht0 : Kept s0 s) : Kept s0 (State.echoRate s key) := by
  unfold State.echoRate; try dsimp only
  repeat' with_reducible first | assumption | intro _ _ _ | intro _ _ | apply kept_cond | apply kept_updSend | exact kept_mk (by assumption) .. | split

theorem kept_finishWrites {s0 : State} (s : State) (key : Nat) (ht0 : Kept s0 s) : Kept s0 (State.finishWrites s key) := by
  unfold State.finishWrites; try dsimp only
  repeat' with_reducible first | assumption | intro _ _ _ | intro _ _ | apply kept_each | apply kept_gauges | apply kept_jobDone | apply kept_updSend | exact kept_mk (by assumption) .. | split

theorem kept_replyDone {s0 : State} (s : State) (key : Nat) (t : Txn) (v : W64) (ht0 : Kept s0 s) : Kept s0 (State.replyDone s key t v) := by
  unfold State.replyDone; try dsimp only
  repeat' with_reducible first | assumption | intro _ _ _ | intro _ _ | apply kept_foldl | apply kept_foldl_fst | apply kept_gauges | apply kept_inject | apply kept_jobDone | apply kept_updSend | exact kept_mk (by assumption) .. | split

/-! ### SecCmds -/

theorem kept_execAttest {s0 : State} (h : Fin 2) (f : Fin 5) (host : HostData) (s : State) (ht0 : Kept s0 s) : ∀ t, execAttest h f host s = .next t → Kept s0 t := by
  intro t ht
  unfold execAttest at ht
  injection ht with ht
  subst ht
  refine kept_withCmd _ _ _ _ _ _ ht0 (fun s c p h => ?_)
  dsimp only
  split
  · exact kept_finish _ _ _ _ _ _ h
  · split
    · exact kept_finish _ _ _ _ _ _ h
    · split
      · exact kept_finish _ _ _ _ _ _ (kept_hostFailed _ _ _ _ _ h)
      · exact kept_finish _ _ _ _ _ _ (kept_event _ _ _ _ _ (kept_hostOut _ _ (kept_set_sec _ (kept_draw _ (kept_draw _ h)))))

theorem kept_seal {s0 : State} (s : State) (hd : Nat) (ht0 : Kept s0 s) : Kept s0 (State.seal s hd) := by
  unfold State.seal; try dsimp only
  repeat' with_reducible first | assumption | intro _ _ _ | intro _ _ | apply kept_cond | apply kept_cpCommit | apply kept_each | apply kept_updStacks | apply kept_wrF | exact kept_mk (by assumption) .. | split

theorem kept_execKeyImport {s0 : State} (h : Fin 2) (f : Fin 5) (host : HostData) (bad : List Nat) (s : State) (ht0 : Kept s0 s) :
    ∀ t, execKeyImport h f host bad s = .next t → Kept s0 t := by
  intro t ht
  unfold execKeyImport at ht
  injection ht with ht
  subst ht
  refine kept_withCmd _ _ _ _ _ _ (kept_mismatches _ _ ht0) (fun s c p h => ?_)
  dsimp only
  split
  · exact kept_finish _ _ _ _ _ _ h
  · split
    · exact kept_finish _ _ _ _ _ _ h
    · split
      · exact kept_finish _ _ _ _ _ _ h
      · split
        · exact kept_finish _ _ _ _ _ _ h
        · split
          · exact kept_finish _ _ _ _ _ _ (kept_hostFailed _ _ _ _ _ h)
          · split
            · exact kept_finish _ _ _ _ _ _ (kept_event _ _ _ _ _ h)
            · split
              · exact kept_finish _ _ _ _ _ _ (kept_event _ _ _ _ _ h)
              · exact kept_finish _ _ _ _ _ _ (kept_event _ _ _ _ _ (kept_seal _ _ (kept_set_sec _ (kept_dropEph _ _ (kept_setSlot _ _ _ h)))))

theorem kept_execKeyClear {s0 : State} (h : Fin 2) (f : Fin 5) (s : State) (ht0 : Kept s0 s) : ∀ t9, (execKeyClear h f s) = .next t9 → Kept s0 t9 := by
  intro t9 ht; unfold execKeyClear at ht; injection ht with ht; subst ht
  grind only [kept_emptySlot, kept_finish, kept_withCmd]

theorem kept_sealAsk {s0 : State} (s : State) (c : HostCmd) (p k i at_ n : Nat) (ht0 : Kept s0 s) : Kept s0 (State.sealAsk s c p k i at_ n) := by
  unfold State.sealAsk; try dsimp only
  repeat' with_reducible first | assumption | intro _ _ _ | intro _ _ | apply kept_gauges | apply kept_seal | apply kept_updSend | exact kept_mk (by assumption) .. | split

theorem kept_execSealLoad {s0 : State} (h : Fin 2) (f : Fin 5) (bad : List Nat) (s : State) (ht0 : Kept s0 s) : ∀ t9, (execSealLoad h f bad s) = .next t9 → Kept s0 t9 := by
  intro t9 ht; unfold execSealLoad at ht; injection ht with ht; subst ht
  grind only [kept_cond, kept_finish, kept_mismatches, kept_mk, kept_sealAsk, kept_setStage, kept_updRouter, kept_withCmd]

theorem kept_sealDone {s0 : State} (s : State) (k i : Nat) (t : List Byte) (ht0 : Kept s0 s) : Kept s0 (State.sealDone s k i t) := by
  unfold State.sealDone at *
  grind only [kept_hubWrite, kept_mk, kept_setSlot]

theorem kept_sealFail {s0 : State} (s : State) (h f p k i n : Nat) (c : HostCmd) (status : Nat) (ht0 : Kept s0 s) : Kept s0 (State.sealFail s h f p k i n c status) := by
  unfold State.sealFail; try dsimp only
  repeat' with_reducible first | assumption | intro _ _ _ | intro _ _ | apply kept_event | apply kept_failSlot | apply kept_finish | apply kept_hubWrite | apply kept_updRouter | exact kept_mk (by assumption) .. | split

theorem kept_sealChunk {s0 : State} (s : State) (h f p k i : Nat) (c : HostCmd) (b : List Byte) (ht0 : Kept s0 s) : Kept s0 (State.sealChunk s h f p k i c b) := by
  unfold State.sealChunk at *
  grind only [kept_cond, kept_event, kept_finish, kept_mk, kept_sealAsk, kept_sealDone, kept_sealFail, kept_updRouter]

theorem kept_execSealChunkDone {s0 : State} (h : Fin 2) (f : Fin 5) (host : HostData) (s : State) (ht0 : Kept s0 s) : ∀ t9, (execSealChunkDone h f host s) = .next t9 → Kept s0 t9 := by
  intro t9 ht; unfold execSealChunkDone at ht; injection ht with ht; subst ht; try dsimp only
  repeat' with_reducible first | assumption | intro _ _ _ | intro _ _ | apply kept_finish | apply kept_hostFailed | apply kept_seal | apply kept_sealAsk | apply kept_sealChunk | apply kept_sealFail | exact kept_mk (by assumption) .. | split

theorem kept_execSvnCommit {s0 : State} (h : Fin 2) (s : State) (ht0 : Kept s0 s) : ∀ t, execSvnCommit h s = .next t → Kept s0 t := by
  intro t ht
  unfold execSvnCommit at ht
  injection ht with ht
  subst ht
  refine kept_withCmd _ _ _ _ _ _ ht0 (fun s c p h => ?_)
  dsimp only
  split
  · exact kept_finish _ _ _ _ _ _ h
  · rename_i hv
    refine kept_finish _ _ _ _ _ _ (kept_event _ _ _ _ _ ?_)
    exact ⟨h.pending, h.fuses.trans ⟨Eq.refl _, by dsimp only; omega⟩, fun c => ⟨(h.canon c).csr, (h.canon c).cpPend, (h.canon c).cpBad, (h.canon c).mem, (h.canon c).syn, (h.canon c).wordErr, (h.canon c).lineErr⟩⟩

theorem kept_execOwnerEnroll {s0 : State} (h : Fin 2) (host : HostData) (s : State) (ht0 : Kept s0 s) : ∀ t9, (execOwnerEnroll h host s) = .next t9 → Kept s0 t9 := by
  intro t9 ht; unfold execOwnerEnroll at ht; injection ht with ht; subst ht
  grind only [keptm_BaseM_store, kept_event, kept_finish, kept_hostFailed, kept_mk, kept_newNonce, kept_withCmd]

theorem kept_execIdeKeyProgram {s0 : State} (h : Fin 2) (stream : Fin 6) (s : State) (ht0 : Kept s0 s) : ∀ t9, (execIdeKeyProgram h stream s) = .next t9 → Kept s0 t9 := by
  intro t9 ht; unfold execIdeKeyProgram at ht; injection ht with ht; subst ht; try dsimp only
  repeat' with_reducible first | assumption | intro _ _ _ | intro _ _ | apply kept_event | exact kept_mk (by assumption) .. | split

/-! ### UnitCmds -/

theorem kept_cccCommand {s0 : State} (s : State) (c cmd : Nat) (f : State → State × List Nat) (ht0 : Kept s0 s) (hf1 : ∀ s1, Kept s0 s1 → Kept s0 (f s1).1) : Kept s0 (State.cccCommand s c cmd f) := by
  unfold State.cccCommand at *
  grind only [kept_boxPost, kept_mk, kept_wrB]

theorem kept_execCccSelfTest {s0 : State} (c : Fin 64) (low : BitVec 27) (s : State) (ht0 : Kept s0 s) : ∀ t9, (execCccSelfTest c low s) = .next t9 → Kept s0 t9 := by
  intro t9 ht; unfold execCccSelfTest at ht; injection ht with ht; subst ht; try dsimp only
  repeat' with_reducible first | assumption | intro _ _ _ | intro _ _ | apply kept_cccCommand | apply kept_selfTested | exact kept_mk (by assumption) .. | split

theorem kept_execCccStartImage {s0 : State} (c : Fin 64) (s : State) (ht0 : Kept s0 s) : ∀ t9, (execCccStartImage c s) = .next t9 → Kept s0 t9 := by
  intro t9 ht; unfold execCccStartImage at ht; injection ht with ht; subst ht; try dsimp only
  repeat' with_reducible first | assumption | intro _ _ _ | intro _ _ | apply kept_agentStart | apply kept_cccCommand | apply kept_wrF | exact kept_mk (by assumption) .. | split

theorem kept_execCccStop {s0 : State} (c : Fin 64) (s : State) (ht0 : Kept s0 s) : ∀ t9, (execCccStop c s) = .next t9 → Kept s0 t9 := by
  intro t9 ht; unfold execCccStop at ht; injection ht with ht; subst ht; try dsimp only
  repeat' with_reducible first | assumption | intro _ _ _ | intro _ _ | apply kept_cccCommand | apply kept_wrF | exact kept_mk (by assumption) .. | split

theorem kept_bdcRequest {s0 : State} (s : State) (n type : Nat) (idle : Bool) (f : State → State × List Nat) (ht0 : Kept s0 s) (hf1 : ∀ s1, Kept s0 s1 → Kept s0 (f s1).1) : Kept s0 (State.bdcRequest s n type idle f) := by
  unfold State.bdcRequest at *
  grind only [kept_boxEmpty, kept_boxPost, kept_mk]

theorem kept_execBdcClearFrames {s0 : State} (n : Fin 12) (s : State) (ht0 : Kept s0 s) : ∀ t9, (execBdcClearFrames n s) = .next t9 → Kept s0 t9 := by
  intro t9 ht; unfold execBdcClearFrames at ht; injection ht with ht; subst ht; try dsimp only
  repeat' with_reducible first | assumption | intro _ _ _ | intro _ _ | apply kept_bdcRequest | apply kept_each | apply kept_setFrames | apply kept_zeroRange | exact kept_mk (by assumption) .. | split

theorem kept_scrubStack {s0 : State} (s : State) (n : Nat) (ht0 : Kept s0 s) : Kept s0 (s.scrubStack n) := by
  unfold State.scrubStack
  have h := keptx_blankRange s (n * 0x1000000000) (n * 0x1000000000 + 0x1000000000) (by omega) ht0
  dsimp only
  generalize s.blankRange (n * 0x1000000000) (n * 0x1000000000 + 0x1000000000) = u at h ⊢
  exact kept_setFrames _ _ _ h

theorem kept_execBdcScrub {s0 : State} (n : Fin 12) (s : State) (ht0 : Kept s0 s) : ∀ t9, (execBdcScrub n s) = .next t9 → Kept s0 t9 := by
  intro t9 ht; unfold execBdcScrub at ht; injection ht with ht; subst ht; try dsimp only
  repeat' with_reducible first | assumption | intro _ _ _ | intro _ _ | apply kept_bdcRequest | apply kept_scrubStack | exact kept_mk (by assumption) .. | split

theorem kept_execBdcTestNative {s0 : State} (n : Fin 12) (fails : W64) (s : State) (ht0 : Kept s0 s) : ∀ t9, (execBdcTestNative n fails s) = .next t9 → Kept s0 t9 := by
  intro t9 ht; unfold execBdcTestNative at ht; injection ht with ht; subst ht; try dsimp only
  repeat' with_reducible first | assumption | intro _ _ _ | intro _ _ | apply kept_bdcRequest | apply kept_scrubStack | exact kept_mk (by assumption) .. | split

theorem kept_execBdcTestCompat {s0 : State} (n : Fin 12) (fails : W64) (s : State) (ht0 : Kept s0 s) : ∀ t9, (execBdcTestCompat n fails s) = .next t9 → Kept s0 t9 := by
  intro t9 ht; unfold execBdcTestCompat at ht; injection ht with ht; subst ht; try dsimp only
  repeat' with_reducible first | assumption | intro _ _ _ | intro _ _ | apply kept_bdcRequest | apply kept_scrubStack | exact kept_mk (by assumption) .. | split

theorem kept_execBdcStartImage {s0 : State} (n : Fin 12) (s : State) (ht0 : Kept s0 s) : ∀ t9, (execBdcStartImage n s) = .next t9 → Kept s0 t9 := by
  intro t9 ht; unfold execBdcStartImage at ht; injection ht with ht; subst ht; try dsimp only
  repeat' with_reducible first | assumption | intro _ _ _ | intro _ _ | apply kept_agentStart | apply kept_bdcRequest | apply kept_takeUnit | exact kept_mk (by assumption) .. | split

theorem kept_execUnitImageTake {s0 : State} (bdc : Bool) (i : Fin 64) (s : State) (ht0 : Kept s0 s) : ∀ t9, (execUnitImageTake bdc i s) = .next t9 → Kept s0 t9 := by
  intro t9 ht; unfold execUnitImageTake at ht; injection ht with ht; subst ht; try dsimp only
  repeat' with_reducible first | assumption | intro _ _ _ | intro _ _ | apply kept_cond | apply kept_takeUnit | exact kept_mk (by assumption) .. | split

theorem kept_execCccMcastWrite {s0 : State} (ag : Agent) (i : Fin 32768) (v : W64) (s : State) (ht0 : Kept s0 s) : ∀ t9, (execCccMcastWrite ag i v s) = .next t9 → Kept s0 t9 := by
  intro t9 ht; unfold execCccMcastWrite at ht; injection ht with ht; subst ht; try dsimp only
  repeat' with_reducible first | assumption | intro _ _ _ | intro _ _ | apply kept_each | apply kept_refuseWrite | apply kept_wr | exact kept_mk (by assumption) .. | split

/-! ### Parts -/

theorem kept_syncPmcPart {s0 : State} (s : State) (p : Nat) (ht0 : Kept s0 s) : Kept s0 (State.syncPmcPart s p) := by
  unfold State.syncPmcPart; try dsimp only
  repeat' with_reducible first | assumption | intro _ _ _ | intro _ _ | apply kept_wr | exact kept_mk (by assumption) .. | split

theorem kept_writeMap {s0 : State} (s : State) (v : W64) (ht0 : Kept s0 s) : Kept s0 (State.writeMap s v) := by
  unfold State.writeMap at *
  grind only [kept_cpCommit, kept_mk]

theorem kept_formGang {s0 : State} (s : State) (p : Nat) (dies : List Nat) (ht0 : Kept s0 s) : Kept s0 (State.formGang s p dies) := by
  unfold State.formGang; try dsimp only
  repeat' with_reducible first | assumption | intro _ _ _ | intro _ _ | apply kept_each | apply kept_foldl | apply kept_foldl_fst | apply kept_wrF | exact kept_mk (by assumption) .. | split

theorem kept_dropGang {s0 : State} (s : State) (dies : List Nat) (ht0 : Kept s0 s) : Kept s0 (State.dropGang s dies) := by
  unfold State.dropGang; try dsimp only
  repeat' with_reducible first | assumption | intro _ _ _ | intro _ _ | apply kept_each | apply kept_wrF | exact kept_mk (by assumption) .. | split

theorem kept_ownSystem {s0 : State} (s : State) (p : Nat) (dies : List Nat) (ht0 : Kept s0 s) : Kept s0 (State.ownSystem s p dies) := by
  unfold State.ownSystem; try dsimp only
  repeat' with_reducible first | assumption | intro _ _ _ | intro _ _ | apply kept_cond | apply kept_cpCommit | apply kept_each | exact kept_mk (by assumption) .. | split

theorem kept_activatePart {s0 : State} (s : State) (p : Nat) (ht0 : Kept s0 s) : Kept s0 (s.activatePart p) := by
  unfold State.activatePart
  refine kept_event _ _ _ _ _ (kept_syncParts _ (kept_syncPmcPart _ _ (kept_wrF _ _ _ _ (kept_publishAll _ (kept_set_sec _ (kept_ownSystem _ _ _ (kept_formGang _ _ _ ?_)))))))
  refine kept_each _ _ (kept_each _ _ (kept_wrF _ _ _ _ ht0) ?_) (fun _ _ h => kept_turnOn _ _ h)
  exact fun _ _ h => kept_cond _ _ h (fun _ h => kept_readyStack _ _ (kept_turnOn _ _ h))

theorem kept_formPart {s0 : State} (s : State) (p mask port : Nat) (ht0 : Kept s0 s) : Kept s0 (State.formPart s p mask port) := by
  unfold State.formPart; try dsimp only
  repeat' with_reducible first | assumption | intro _ _ _ | intro _ _ | apply kept_activatePart | apply kept_writeMap | exact kept_mk (by assumption) .. | split

theorem kept_formDefaults {s0 : State} (s : State) (ht0 : Kept s0 s) : Kept s0 (State.formDefaults s) := by
  unfold State.formDefaults; try dsimp only
  repeat' with_reducible first | assumption | intro _ _ _ | intro _ _ | apply kept_activatePart | apply kept_cond | apply kept_each | apply kept_writeMap | exact kept_mk (by assumption) .. | split

theorem kept_abandon {s0 : State} (s : State) (p : Nat) (ht0 : Kept s0 s) : Kept s0 (State.abandon s p) := by
  unfold State.abandon; try dsimp only
  repeat' with_reducible first | assumption | intro _ _ _ | intro _ _ | apply kept_updRouter | apply kept_updSeq | exact kept_mk (by assumption) .. | split

theorem kept_stopPart {s0 : State} (s : State) (p : Nat) (reset : Bool) (ht0 : Kept s0 s) : Kept s0 (s.stopPart p reset) := by
  unfold State.stopPart
  dsimp only
  refine kept_each _ _ (kept_each _ _ (kept_each _ _ (kept_updFn _ _ _ _ (kept_abortRecipe _ _ (kept_updRouter _ _ (kept_setFstate _ _ _ _ (kept_wrF _ _ _ _ ?_))))) (fun _ _ h => kept_postOne _ _ _ h)) ?_) ?_
  · have h : Kept s0 { s.settleCmds with sec := { s.settleCmds.sec with stopping := s.settleCmds.sec.stopping.set p (some { reset := reset, fstate := s.settleCmds.fstate (s.partPort p) (p + 1) }) } } :=
      kept_set_sec _ (kept_settleCmds _ ht0)
    split
    · exact kept_event _ _ _ _ _ h
    · exact kept_event _ _ _ _ _ h
  · exact fun s d h => kept_wrF _ _ _ _ (kept_wrF _ _ _ _ (kept_updClx _ _ _ h))
  · exact fun s d h => kept_wrF _ _ _ _ (kept_set_bases _ h)

theorem kept_dropFlows {s0 : State} (s : State) (p : Nat) (ht0 : Kept s0 s) : Kept s0 (State.dropFlows s p) := by
  unfold State.dropFlows; try dsimp only
  repeat' with_reducible first | assumption | intro _ _ _ | intro _ _ | apply kept_abandon | apply kept_updRouter | exact kept_mk (by assumption) .. | split

theorem kept_clearDomain {s0 : State} (s : State) (p : Nat) (ht0 : Kept s0 s) : Kept s0 (State.clearDomain s p) := by
  unfold State.clearDomain; try dsimp only
  repeat' with_reducible first | assumption | intro _ _ _ | intro _ _ | apply kept_cpCommit | apply kept_event | apply kept_report | apply kept_wrF | exact kept_mk (by assumption) .. | split

theorem kept_forgetHandle {s0 : State} (s : State) (x : Nat) (ht0 : Kept s0 s) : Kept s0 (State.forgetHandle s x) := by
  unfold State.forgetHandle; try dsimp only
  repeat' with_reducible first | assumption | intro _ _ _ | intro _ _ | apply kept_cpCommit | apply kept_each | exact kept_mk (by assumption) .. | split

theorem kept_forget {s0 : State} (s : State) (p : Nat) (ht0 : Kept s0 s) : Kept s0 (s.forget p) := by
  unfold State.forget
  have h1 : Kept s0 ((s.each ((List.range 4).map (· + 4 * p)) State.emptySlot).dropEph p) := kept_dropEph _ _ (kept_each _ _ ht0 (fun _ _ h => kept_emptySlot _ _ h))
  generalize (s.each ((List.range 4).map (· + 4 * p)) State.emptySlot).dropEph p = u at h1
  dsimp only
  generalize List.filter _ (u.validDescs ++ _) = xs
  have h2 := kept_abortMigrations u (fun g => g.moves.any (fun m => u.ownsStack p (m.src / 32768))) h1
  generalize u.abortMigrations _ = w at h2
  have h3 : Kept s0 (w.each xs State.forgetHandle) := kept_each _ _ h2 (fun _ _ h => kept_forgetHandle _ _ h)
  generalize w.each xs _ = v at h3
  have h4 := kept_releaseHeld _ (kept_updStacks v (fun k => { k with
    dying := k.dying.filter (fun x => !xs.contains x)
    sealed := k.sealed.filter (fun x => !xs.contains x)
    held := k.held.filter (fun r => !xs.contains (handleIndex r.handle.toNat)) }) h3)
  generalize State.releaseHeld _ = o at h4
  exact kept_mk h4 ..

theorem kept_resetLead {s0 : State} (s : State) (d : Nat) (ht0 : Kept s0 s) : Kept s0 (s.resetLead d) := by
  unfold State.resetLead
  exact kept_wrF _ _ _ _ (kept_wrF _ _ _ _ (keptx_resetRange _ _ _ (by omega) ht0))

theorem kept_cycleDies {s0 : State} (s : State) (p : Nat) (dies : List Nat) (tests : List (Nat × Nat)) (ht0 : Kept s0 s) : Kept s0 (s.cycleDies p dies tests) := by
  unfold State.cycleDies
  refine kept_publishAll _ (kept_restoreClusters _ _ _ (kept_each _ _ (kept_set_seqs _ (kept_each _ _ (kept_each _ _ (kept_each _ _ ht0 ?_) ?_) ?_)) ?_))
  · exact fun _ _ h => kept_turnOff _ _ h
  · exact fun _ _ h => kept_readyStack _ _ (kept_turnOn _ _ h)
  · exact fun _ _ h => kept_resetLead _ _ h
  · exact fun _ _ h => kept_turnOn _ _ h

theorem kept_finishAction {s0 : State} (s : State) (act p status : Nat) (ht0 : Kept s0 s) : Kept s0 (State.finishAction s act p status) := by
  unfold State.finishAction; try dsimp only
  repeat' with_reducible first | assumption | intro _ _ _ | intro _ _ | apply kept_each | apply kept_updFn | exact kept_mk (by assumption) .. | split

theorem kept_endReset {s0 : State} (s : State) (p h f fstate : Nat) (ht0 : Kept s0 s) : Kept s0 (State.endReset s p h f fstate) := by
  unfold State.endReset; try dsimp only
  repeat' with_reducible first | assumption | intro _ _ _ | intro _ _ | apply kept_applyWrite | apply kept_consumed | apply kept_each | apply kept_finishAction | apply kept_releaseBells | apply kept_setFstate | apply kept_updFn | apply kept_wrF | exact kept_mk (by assumption) .. | split

theorem kept_blankFn {s0 : State} (s : State) (h f : Nat) (ht0 : Kept s0 s) : Kept s0 (s.blankFn h f) := by
  unfold State.blankFn
  have h1 := kept_updFn _ h f (fun _ => {}) (kept_voidWrites s h f ht0)
  have h2 := keptx_resetRange _ (shadow h f 0) (shadow h f 0x10000) (by unfold shadow; omega) h1
  generalize State.resetRange _ _ _ = u at h2
  exact kept_wr _ _ h2

theorem kept_endRelease {s0 : State} (s : State) (p h f : Nat) (dies : List Nat) (ht0 : Kept s0 s) : Kept s0 (s.endRelease p h f dies) := by
  unfold State.endRelease
  refine kept_finishAction _ _ _ _ (kept_event _ _ _ _ _ (kept_syncParts _ (kept_syncPmcPart _ _ (kept_set_pwr _ (kept_blankFn _ _ _ (kept_set_sec _ ?_))))))
  exact kept_countF _ _ _ _ (kept_wrF _ _ _ _ (kept_writeMap _ _ (kept_dropGang _ _ ht0)))

theorem kept_endStop {s0 : State} (s : State) (p : Nat) (tests : List (Nat × Nat)) (ht0 : Kept s0 s) : Kept s0 (s.endStop p tests) := by
  unfold State.endStop
  split
  · exact ht0
  · rename_i k _
    have h1 : Kept s0 (((s.abandon p).cond (!k.reset) (fun s => s.clearDomain p)).dropFlows p) :=
      kept_dropFlows _ _ (kept_cond _ _ (kept_abandon _ _ ht0) (fun _ h => kept_clearDomain _ _ h))
    have h2 := kept_updRouter _ (fun r => { r with resetting := r.resetting.filter (· ≠ p) }) (kept_set_sec { (((((s.abandon p).cond (!k.reset) (fun s => s.clearDomain p)).dropFlows p).forget p).cycleDies p (s.partDies p) tests).sec with stopping := (((((s.abandon p).cond (!k.reset) (fun s => s.clearDomain p)).dropFlows p).forget p).cycleDies p (s.partDies p) tests).sec.stopping.set p none } (kept_cycleDies _ p (s.partDies p) tests (kept_forget _ p h1)))
    dsimp only
    split
    · exact kept_endReset _ _ _ _ _ h2
    · exact kept_endRelease _ _ _ _ _ h2

theorem kept_beginStop {s0 : State} (s : State) (p : Nat) (reset : Bool) (tests : List (Nat × Nat)) (ht0 : Kept s0 s) : Kept s0 (State.beginStop s p reset tests) := by
  unfold State.beginStop; try dsimp only
  repeat' with_reducible first | assumption | intro _ _ _ | intro _ _ | apply kept_endStop | apply kept_stopPart | exact kept_mk (by assumption) .. | split

/-! ### PartCmds -/

theorem kept_execPartitionCreate {s0 : State} (h : Fin 2) (s : State) (ht0 : Kept s0 s) : ∀ t9, (execPartitionCreate h s) = .next t9 → Kept s0 t9 := by
  intro t9 ht; unfold execPartitionCreate at ht; injection ht with ht; subst ht
  grind only [kept_finish, kept_formPart, kept_withCmd]

theorem kept_continueStops {s0 : State} (s : State) (reset : Bool) (tests : List (Nat × Nat)) (ht0 : Kept s0 s) : Kept s0 (State.continueStops s reset tests) := by
  unfold State.continueStops; try dsimp only
  repeat' with_reducible first | assumption | intro _ _ _ | intro _ _ | apply kept_cond | apply kept_each | apply kept_endStop | exact kept_mk (by assumption) .. | split

theorem kept_execPartitionRelease {s0 : State} (h : Fin 2) (tests : List (Nat × Nat)) (s : State) (ht0 : Kept s0 s) : ∀ t9, (execPartitionRelease h tests s) = .next t9 → Kept s0 t9 := by
  intro t9 ht; unfold execPartitionRelease at ht; injection ht with ht; subst ht
  grind only [kept_beginStop, kept_continueStops, kept_finish, kept_mk, kept_setStage, kept_withCmd]

theorem kept_execReleaseStopBound {s0 : State} (p : Fin 4) (tests : List (Nat × Nat)) (s : State) (ht0 : Kept s0 s) : ∀ t9, (execReleaseStopBound p tests s) = .next t9 → Kept s0 t9 := by
  intro t9 ht; unfold execReleaseStopBound at ht; injection ht with ht; subst ht; try dsimp only
  repeat' with_reducible first | assumption | intro _ _ _ | intro _ _ | apply kept_endStop | exact kept_mk (by assumption) .. | split

theorem kept_execPartitionStoreMap {s0 : State} (h : Fin 2) (s : State) (ht0 : Kept s0 s) : ∀ t9, (execPartitionStoreMap h s) = .next t9 → Kept s0 t9 := by
  intro t9 ht; unfold execPartitionStoreMap at ht; injection ht with ht; subst ht
  grind only [keptm_BaseM_store, kept_finish, kept_mk, kept_withCmd]

theorem kept_execPartitionReset {s0 : State} (h : Fin 2) (tests : List (Nat × Nat)) (s : State) (ht0 : Kept s0 s) : ∀ t9, (execPartitionReset h tests s) = .next t9 → Kept s0 t9 := by
  intro t9 ht; unfold execPartitionReset at ht; injection ht with ht; subst ht
  grind only [kept_beginStop, kept_continueStops, kept_finish, kept_mk, kept_setStage, kept_withCmd]

theorem kept_execPolicy {s0 : State} (h : Fin 2) (s : State) (ht0 : Kept s0 s) : ∀ t9, (execPolicy h s) = .next t9 → Kept s0 t9 := by
  intro t9 ht; unfold execPolicy at ht; injection ht with ht; subst ht
  grind only [kept_finish, kept_mk, kept_withCmd]

/-! ### Router -/

theorem kept_leaveSource {s0 : State} (s : State) (src : Nat) (x : QPkt) (ht0 : Kept s0 s) : Kept s0 (State.leaveSource s src x) := by
  unfold State.leaveSource; try dsimp only
  repeat' with_reducible first | assumption | intro _ _ _ | intro _ _ | apply kept_inject | apply kept_takeInput | apply kept_updRouter | exact kept_mk (by assumption) .. | split

theorem kept_queueOut {s0 : State} (s : State) (p : Nat) (x : QPkt) (ht0 : Kept s0 s) : Kept s0 (State.queueOut s p x) := by
  unfold State.queueOut; try dsimp only
  repeat' with_reducible first | assumption | intro _ _ _ | intro _ _ | apply kept_cond | apply kept_count | apply kept_updPort | apply kept_wr | exact kept_mk (by assumption) .. | split

theorem kept_toRing {s0 : State} (s : State) (src : Nat) (p : Packet) (ht0 : Kept s0 s) : Kept s0 (State.toRing s src p) := by
  unfold State.toRing; try dsimp only
  repeat' with_reducible first | assumption | intro _ _ _ | intro _ _ | apply kept_count | apply kept_foldl | apply kept_foldl_fst | apply kept_updRouter | exact kept_mk (by assumption) .. | split

theorem kept_toEndpoint {s0 : State} (s : State) (p : Packet) (ht0 : Kept s0 s) : Kept s0 (State.toEndpoint s p) := by
  unfold State.toEndpoint; try dsimp only
  repeat' with_reducible first | assumption | intro _ _ _ | intro _ _ | apply kept_count | apply kept_updRouter | exact kept_mk (by assumption) .. | split

theorem kept_routeOne {s0 : State} (s : State) (src : Nat) (x : QPkt) (ht0 : Kept s0 s) : Kept s0 (State.routeOne s src x) := by
  unfold State.routeOne; try dsimp only
  repeat' with_reducible first | assumption | intro _ _ _ | intro _ _ | apply kept_cond | apply kept_count | apply kept_leaveSource | apply kept_lossNotice | apply kept_queueOut | apply kept_toEndpoint | apply kept_toRing | exact kept_mk (by assumption) .. | split

theorem kept_routeCircuit {s0 : State} (s : State) (src : Nat) (x : QPkt) (ht0 : Kept s0 s) : Kept s0 (State.routeCircuit s src x) := by
  unfold State.routeCircuit; try dsimp only
  repeat' with_reducible first | assumption | intro _ _ _ | intro _ _ | apply kept_clxFrame | apply kept_count | apply kept_leaveSource | apply kept_queueOut | exact kept_mk (by assumption) .. | split

/-! ### RouteCmds -/

theorem kept_execPacketRoute {s0 : State} (src : Fin 17) (i : Nat) (bad : Bool) (s : State) (ht0 : Kept s0 s) : ∀ t9, (execPacketRoute src i bad s) = .next t9 → Kept s0 t9 := by
  intro t9 ht; unfold execPacketRoute at ht; injection ht with ht; subst ht; try dsimp only
  repeat' with_reducible first | assumption | intro _ _ _ | intro _ _ | apply kept_cond | apply kept_mismatchAt | apply kept_report | apply kept_routeOne | exact kept_mk (by assumption) .. | split

theorem kept_execPacketWaitRetry {s0 : State} (src : Fin 17) (i : Nat) (s : State) (ht0 : Kept s0 s) : ∀ t9, (execPacketWaitRetry src i s) = .next t9 → Kept s0 t9 := by
  intro t9 ht; unfold execPacketWaitRetry at ht; injection ht with ht; subst ht; try dsimp only
  repeat' with_reducible first | assumption | intro _ _ _ | intro _ _ | apply kept_routeOne | exact kept_mk (by assumption) .. | split

theorem kept_execCdata {s0 : State} (src : Fin 17) (i : Nat) (s : State) (ht0 : Kept s0 s) : ∀ t9, (execCdata src i s) = .next t9 → Kept s0 t9 := by
  intro t9 ht; unfold execCdata at ht; injection ht with ht; subst ht; try dsimp only
  repeat' with_reducible first | assumption | intro _ _ _ | intro _ _ | apply kept_routeCircuit | exact kept_mk (by assumption) .. | split

theorem kept_execRouteEntryWrite {s0 : State} (ag : Agent) (b : Fin 2) (n : Fin 131072) (v : W64) (s : State) (ht0 : Kept s0 s) : ∀ t9, (execRouteEntryWrite ag b n v s) = .next t9 → Kept s0 t9 := by
  intro t9 ht; unfold execRouteEntryWrite at ht; injection ht with ht; subst ht; try dsimp only
  repeat' with_reducible first | assumption | intro _ _ _ | intro _ _ | apply kept_cpCommit | apply kept_csrAccess | apply kept_event | apply kept_refuseWrite | exact kept_mk (by assumption) .. | split

theorem kept_execRtrBankFlip {s0 : State} (ag : Agent) (b : Fin 2) (s : State) (ht0 : Kept s0 s) : ∀ t9, (execRtrBankFlip ag b s) = .next t9 → Kept s0 t9 := by
  intro t9 ht; unfold execRtrBankFlip at ht; injection ht with ht; subst ht; try dsimp only
  repeat' with_reducible first | assumption | intro _ _ _ | intro _ _ | apply kept_csrAccess | apply kept_refuseWrite | apply kept_setBank | exact kept_mk (by assumption) .. | split

theorem kept_setNode {s0 : State} (s : State) (node : Nat) (valid : Bool) (ht0 : Kept s0 s) : Kept s0 (State.setNode s node valid) := by
  unfold State.setNode; try dsimp only
  repeat' with_reducible first | assumption | intro _ _ _ | intro _ _ | apply kept_setMacs | apply kept_wr | exact kept_mk (by assumption) .. | split

theorem kept_execRtrNodeWrite {s0 : State} (ag : Agent) (node : BitVec 20) (valid : Bool) (s : State) (ht0 : Kept s0 s) : ∀ t9, (execRtrNodeWrite ag node valid s) = .next t9 → Kept s0 t9 := by
  intro t9 ht; unfold execRtrNodeWrite at ht; injection ht with ht; subst ht; try dsimp only
  repeat' with_reducible first | assumption | intro _ _ _ | intro _ _ | apply kept_csrAccess | apply kept_refuseWrite | apply kept_setNode | exact kept_mk (by assumption) .. | split

theorem kept_setShare {s0 : State} (s : State) (p g : Nat) (v : W64) (ht0 : Kept s0 s) : Kept s0 (State.setShare s p g v) := by
  unfold State.setShare; try dsimp only
  repeat' with_reducible first | assumption | intro _ _ _ | intro _ _ | apply kept_event | apply kept_foldl | apply kept_foldl_fst | apply kept_wr | exact kept_mk (by assumption) .. | split

theorem kept_execShareGroupWrite {s0 : State} (ag : Agent) (p : Fin 16) (g : Fin 64) (v : W64) (s : State) (ht0 : Kept s0 s) : ∀ t9, (execShareGroupWrite ag p g v s) = .next t9 → Kept s0 t9 := by
  intro t9 ht; unfold execShareGroupWrite at ht; injection ht with ht; subst ht; try dsimp only
  repeat' with_reducible first | assumption | intro _ _ _ | intro _ _ | apply kept_csrAccess | apply kept_refuseWrite | apply kept_setShare | exact kept_mk (by assumption) .. | split

theorem kept_setCircuit {s0 : State} (s : State) (t id : Nat) (v : W64) (ht0 : Kept s0 s) : Kept s0 (State.setCircuit s t id v) := by
  unfold State.setCircuit; try dsimp only
  repeat' with_reducible first | assumption | intro _ _ _ | intro _ _ | apply kept_cond | apply kept_tearEntry | apply kept_wr | exact kept_mk (by assumption) .. | split

theorem kept_execCircuitEntryWrite {s0 : State} (ag : Agent) (t : Fin 17) (id : BitVec 12) (v : W64) (s : State) (ht0 : Kept s0 s) : ∀ t9, (execCircuitEntryWrite ag t id v s) = .next t9 → Kept s0 t9 := by
  intro t9 ht; unfold execCircuitEntryWrite at ht; injection ht with ht; subst ht; try dsimp only
  repeat' with_reducible first | assumption | intro _ _ _ | intro _ _ | apply kept_csrAccess | apply kept_refuseWrite | apply kept_setCircuit | exact kept_mk (by assumption) .. | split

theorem kept_execTelemetryWindowEnd {s0 : State} (s : State) (ht0 : Kept s0 s) : ∀ t9, (execTelemetryWindowEnd s) = .next t9 → Kept s0 t9 := by
  intro t9 ht; unfold execTelemetryWindowEnd at ht; injection ht with ht; subst ht; try dsimp only
  repeat' with_reducible first | assumption | intro _ _ _ | intro _ _ | apply kept_each | apply kept_wr | exact kept_mk (by assumption) .. | split

/-! ### LinkCmds -/

theorem kept_onResync {s0 : State} (s : State) (p lsn : Nat) (ht0 : Kept s0 s) : Kept s0 (State.onResync s p lsn) := by
  unfold State.onResync; try dsimp only
  repeat' with_reducible first | assumption | intro _ _ _ | intro _ _ | apply kept_updPort | exact kept_mk (by assumption) .. | split

theorem kept_onWidth {s0 : State} (s : State) (p mask : Nat) (ht0 : Kept s0 s) : Kept s0 (State.onWidth s p mask) := by
  unfold State.onWidth; try dsimp only
  repeat' with_reducible first | assumption | intro _ _ _ | intro _ _ | apply kept_chooseWidth | apply kept_updPort | exact kept_mk (by assumption) .. | split

theorem kept_onRetiring {s0 : State} (s : State) (p : Nat) (ht0 : Kept s0 s) : Kept s0 (State.onRetiring s p) := by
  unfold State.onRetiring; try dsimp only
  repeat' with_reducible first | assumption | intro _ _ _ | intro _ _ | apply kept_updPort | exact kept_mk (by assumption) .. | split

theorem kept_onControl {s0 : State} (s : State) (p n1 n2 : Nat) (ht0 : Kept s0 s) : Kept s0 (State.onControl s p n1 n2) := by
  unfold State.onControl; try dsimp only
  repeat' with_reducible first | assumption | intro _ _ _ | intro _ _ | apply kept_onQuietAck | apply kept_onQuietReq | apply kept_onResync | apply kept_onRetiring | apply kept_onWakeAck | apply kept_onWakeReq | apply kept_onWidth | exact kept_mk (by assumption) .. | split

theorem kept_acceptControl {s0 : State} (s : State) (p now : Nat) (l : LinkWord) (n1 n2 : Nat) (ht0 : Kept s0 s) : Kept s0 (State.acceptControl s p now l n1 n2) := by
  unfold State.acceptControl; try dsimp only
  repeat' with_reducible first | assumption | intro _ _ _ | intro _ _ | apply kept_count | apply kept_onControl | apply kept_takeLink | exact kept_mk (by assumption) .. | split

theorem kept_controlCommand {s0 : State} (s : State) (p now : Nat) (l : LinkWord) (n1 n2 : Nat) (ht0 : Kept s0 s) : Kept s0 (State.controlCommand s p now l n1 n2) := by
  unfold State.controlCommand; try dsimp only
  repeat' with_reducible first | assumption | intro _ _ _ | intro _ _ | apply kept_acceptControl | exact kept_mk (by assumption) .. | split

theorem kept_acceptData {s0 : State} (s : State) (p now : Nat) (f : Frame) (ht0 : Kept s0 s) : Kept s0 (State.acceptData s p now f) := by
  unfold State.acceptData; try dsimp only
  repeat' with_reducible first | assumption | intro _ _ _ | intro _ _ | apply kept_count | apply kept_dropFrame | apply kept_event | apply kept_sendNak | apply kept_updPort | exact kept_mk (by assumption) .. | split

theorem kept_receiveFrame {s0 : State} (s : State) (p now : Nat) (a : Arrival) (ht0 : Kept s0 s) : Kept s0 (State.receiveFrame s p now a) := by
  unfold State.receiveFrame; try dsimp only
  repeat' with_reducible first | assumption | intro _ _ _ | intro _ _ | apply kept_acceptControl | apply kept_acceptData | apply kept_cond | apply kept_dropFrame | apply kept_sendNak | apply kept_takeLink | exact kept_mk (by assumption) .. | split

theorem kept_countCodewords {s0 : State} (s : State) (p ucw : Nat) (cbits : List Nat) (ht0 : Kept s0 s) : Kept s0 (State.countCodewords s p ucw cbits) := by
  unfold State.countCodewords; try dsimp only
  repeat' with_reducible first | assumption | intro _ _ _ | intro _ _ | apply kept_count | apply kept_each | exact kept_mk (by assumption) .. | split

theorem kept_execFrameReceive {s0 : State} (p : Fin 16) (now : Nat) (a : Arrival) (s : State) (ht0 : Kept s0 s) : ∀ t9, (execFrameReceive p now a s) = .next t9 → Kept s0 t9 := by
  intro t9 ht; unfold execFrameReceive at ht; injection ht with ht; subst ht; try dsimp only
  repeat' with_reducible first | assumption | intro _ _ _ | intro _ _ | apply kept_countCodewords | apply kept_receiveFrame | exact kept_mk (by assumption) .. | split

theorem kept_sendHn {s0 : State} (s : State) (p : Nat) (x : QPkt) (ht0 : Kept s0 s) : Kept s0 (State.sendHn s p x) := by
  unfold State.sendHn; try dsimp only
  repeat' with_reducible first | assumption | intro _ _ _ | intro _ _ | apply kept_count | apply kept_updPort | apply kept_wire | exact kept_mk (by assumption) .. | split

theorem kept_execDataFrameSend {s0 : State} (p : Fin 16) (below : List Nat) (s : State) (ht0 : Kept s0 s) : ∀ t9, (execDataFrameSend p below s) = .next t9 → Kept s0 t9 := by
  intro t9 ht; unfold execDataFrameSend at ht; injection ht with ht; subst ht; try dsimp only
  repeat' with_reducible first | assumption | intro _ _ _ | intro _ _ | apply kept_cond | apply kept_count | apply kept_sendFrame | apply kept_sendHn | apply kept_updPort | exact kept_mk (by assumption) .. | split

theorem kept_execNakReceive {s0 : State} (p : Fin 16) (now : Nat) (l : LinkWord) (s : State) (ht0 : Kept s0 s) : ∀ t9, (execNakReceive p now l s) = .next t9 → Kept s0 t9 := by
  intro t9 ht; unfold execNakReceive at ht; injection ht with ht; subst ht; try dsimp only
  repeat' with_reducible first | assumption | intro _ _ _ | intro _ _ | apply kept_takeLink | exact kept_mk (by assumption) .. | split

theorem kept_execReplayTimeout {s0 : State} (p : Fin 16) (now : Nat) (s : State) (ht0 : Kept s0 s) : ∀ t9, (execReplayTimeout p now s) = .next t9 → Kept s0 t9 := by
  intro t9 ht; unfold execReplayTimeout at ht; injection ht with ht; subst ht; try dsimp only
  repeat' with_reducible first | assumption | intro _ _ _ | intro _ _ | apply kept_replayAll | exact kept_mk (by assumption) .. | split

theorem kept_execHoldDiscard {s0 : State} (p : Fin 16) (s : State) (ht0 : Kept s0 s) : ∀ t9, (execHoldDiscard p s) = .next t9 → Kept s0 t9 := by
  intro t9 ht; unfold execHoldDiscard at ht; injection ht with ht; subst ht; try dsimp only
  repeat' with_reducible first | assumption | intro _ _ _ | intro _ _ | apply kept_discardReplay | apply kept_event | apply kept_sendResync | apply kept_updPort | exact kept_mk (by assumption) .. | split

theorem kept_execIdleSend {s0 : State} (p : Fin 16) (s : State) (ht0 : Kept s0 s) : ∀ t9, (execIdleSend p s) = .next t9 → Kept s0 t9 := by
  intro t9 ht; unfold execIdleSend at ht; injection ht with ht; subst ht; try dsimp only
  repeat' with_reducible first | assumption | intro _ _ _ | intro _ _ | apply kept_cond | apply kept_sendControl | exact kept_mk (by assumption) .. | split

theorem kept_execIdle {s0 : State} (p : Fin 16) (now : Nat) (l : LinkWord) (s : State) (ht0 : Kept s0 s) : ∀ t9, (execIdle p now l s) = .next t9 → Kept s0 t9 := by
  intro t9 ht; unfold execIdle at ht; injection ht with ht; subst ht; try dsimp only
  repeat' with_reducible first | assumption | intro _ _ _ | intro _ _ | apply kept_controlCommand | exact kept_mk (by assumption) .. | split

theorem kept_execQuietReq {s0 : State} (p : Fin 16) (now : Nat) (l : LinkWord) (s : State) (ht0 : Kept s0 s) : ∀ t9, (execQuietReq p now l s) = .next t9 → Kept s0 t9 := by
  intro t9 ht; unfold execQuietReq at ht; injection ht with ht; subst ht; try dsimp only
  repeat' with_reducible first | assumption | intro _ _ _ | intro _ _ | apply kept_controlCommand | exact kept_mk (by assumption) .. | split

theorem kept_execQuietAck {s0 : State} (p : Fin 16) (now : Nat) (l : LinkWord) (accept : Bool) (s : State) (ht0 : Kept s0 s) : ∀ t9, (execQuietAck p now l accept s) = .next t9 → Kept s0 t9 := by
  intro t9 ht; unfold execQuietAck at ht; injection ht with ht; subst ht; try dsimp only
  repeat' with_reducible first | assumption | intro _ _ _ | intro _ _ | apply kept_controlCommand | exact kept_mk (by assumption) .. | split

theorem kept_execWakeReq {s0 : State} (p : Fin 16) (now : Nat) (l : LinkWord) (s : State) (ht0 : Kept s0 s) : ∀ t9, (execWakeReq p now l s) = .next t9 → Kept s0 t9 := by
  intro t9 ht; unfold execWakeReq at ht; injection ht with ht; subst ht; try dsimp only
  repeat' with_reducible first | assumption | intro _ _ _ | intro _ _ | apply kept_controlCommand | exact kept_mk (by assumption) .. | split

theorem kept_execWakeAck {s0 : State} (p : Fin 16) (now : Nat) (l : LinkWord) (s : State) (ht0 : Kept s0 s) : ∀ t9, (execWakeAck p now l s) = .next t9 → Kept s0 t9 := by
  intro t9 ht; unfold execWakeAck at ht; injection ht with ht; subst ht; try dsimp only
  repeat' with_reducible first | assumption | intro _ _ _ | intro _ _ | apply kept_controlCommand | exact kept_mk (by assumption) .. | split

theorem kept_execResync {s0 : State} (p : Fin 16) (now : Nat) (l : LinkWord) (lsn : BitVec 16) (s : State) (ht0 : Kept s0 s) : ∀ t9, (execResync p now l lsn s) = .next t9 → Kept s0 t9 := by
  intro t9 ht; unfold execResync at ht; injection ht with ht; subst ht; try dsimp only
  repeat' with_reducible first | assumption | intro _ _ _ | intro _ _ | apply kept_controlCommand | exact kept_mk (by assumption) .. | split

theorem kept_execWidth {s0 : State} (p : Fin 16) (now : Nat) (l : LinkWord) (mask : BitVec 8) (s : State) (ht0 : Kept s0 s) : ∀ t9, (execWidth p now l mask s) = .next t9 → Kept s0 t9 := by
  intro t9 ht; unfold execWidth at ht; injection ht with ht; subst ht; try dsimp only
  repeat' with_reducible first | assumption | intro _ _ _ | intro _ _ | apply kept_controlCommand | exact kept_mk (by assumption) .. | split

theorem kept_execRetiring {s0 : State} (p : Fin 16) (now : Nat) (l : LinkWord) (s : State) (ht0 : Kept s0 s) : ∀ t9, (execRetiring p now l s) = .next t9 → Kept s0 t9 := by
  intro t9 ht; unfold execRetiring at ht; injection ht with ht; subst ht; try dsimp only
  repeat' with_reducible first | assumption | intro _ _ _ | intro _ _ | apply kept_controlCommand | exact kept_mk (by assumption) .. | split

theorem kept_execPresentDeassert {s0 : State} (p : Fin 16) (s : State) (ht0 : Kept s0 s) : ∀ t9, (execPresentDeassert p s) = .next t9 → Kept s0 t9 := by
  intro t9 ht; unfold execPresentDeassert at ht; injection ht with ht; subst ht; try dsimp only
  repeat' with_reducible first | assumption | intro _ _ _ | intro _ _ | apply kept_cond | apply kept_event | apply kept_portLeaves | apply kept_updPort | exact kept_mk (by assumption) .. | split

theorem kept_execPresentSettled {s0 : State} (p : Fin 16) (s : State) (ht0 : Kept s0 s) : ∀ t9, (execPresentSettled p s) = .next t9 → Kept s0 t9 := by
  intro t9 ht; unfold execPresentSettled at ht; injection ht with ht; subst ht; try dsimp only
  repeat' with_reducible first | assumption | intro _ _ _ | intro _ _ | apply kept_startTrain | apply kept_updPort | exact kept_mk (by assumption) .. | split

theorem kept_execModuleInterrupt {s0 : State} (p : Fin 16) (s : State) (ht0 : Kept s0 s) : ∀ t9, (execModuleInterrupt p s) = .next t9 → Kept s0 t9 := by
  intro t9 ht; unfold execModuleInterrupt at ht; injection ht with ht; subst ht; try dsimp only
  repeat' with_reducible first | assumption | intro _ _ _ | intro _ _ | apply kept_event | exact kept_mk (by assumption) .. | split

theorem kept_trainStep {s0 : State} (s : State) (p : Nat) (o : TrainStep) (ht0 : Kept s0 s) : Kept s0 (State.trainStep s p o) := by
  unfold State.trainStep; try dsimp only
  repeat' with_reducible first | assumption | intro _ _ _ | intro _ _ | apply kept_linkChecked | apply kept_portUpNow | apply kept_startTrain | apply kept_trainAligned | apply kept_updPort | exact kept_mk (by assumption) .. | split

theorem kept_execPortTrain {s0 : State} (p : Fin 16) (o : TrainStep) (s : State) (ht0 : Kept s0 s) : ∀ t9, (execPortTrain p o s) = .next t9 → Kept s0 t9 := by
  intro t9 ht; unfold execPortTrain at ht; injection ht with ht; subst ht; try dsimp only
  repeat' with_reducible first | assumption | intro _ _ _ | intro _ _ | apply kept_trainStep | exact kept_mk (by assumption) .. | split

theorem kept_execTrainPhaseTimeout {s0 : State} (p : Fin 16) (s : State) (ht0 : Kept s0 s) : ∀ t9, (execTrainPhaseTimeout p s) = .next t9 → Kept s0 t9 := by
  intro t9 ht; unfold execTrainPhaseTimeout at ht; injection ht with ht; subst ht; try dsimp only
  repeat' with_reducible first | assumption | intro _ _ _ | intro _ _ | apply kept_event | apply kept_portLeaves | exact kept_mk (by assumption) .. | split

theorem kept_execAlignmentLoss {s0 : State} (p : Fin 16) (s : State) (ht0 : Kept s0 s) : ∀ t9, (execAlignmentLoss p s) = .next t9 → Kept s0 t9 := by
  intro t9 ht; unfold execAlignmentLoss at ht; injection ht with ht; subst ht; try dsimp only
  repeat' with_reducible first | assumption | intro _ _ _ | intro _ _ | apply kept_startRetrain | apply kept_updPort | exact kept_mk (by assumption) .. | split

theorem kept_execRxSilence {s0 : State} (p : Fin 16) (s : State) (ht0 : Kept s0 s) : ∀ t9, (execRxSilence p s) = .next t9 → Kept s0 t9 := by
  intro t9 ht; unfold execRxSilence at ht; injection ht with ht; subst ht; try dsimp only
  repeat' with_reducible first | assumption | intro _ _ _ | intro _ _ | apply kept_startRetrain | apply kept_updPort | exact kept_mk (by assumption) .. | split

theorem kept_execRetrainTimeout {s0 : State} (p : Fin 16) (s : State) (ht0 : Kept s0 s) : ∀ t9, (execRetrainTimeout p s) = .next t9 → Kept s0 t9 := by
  intro t9 ht; unfold execRetrainTimeout at ht; injection ht with ht; subst ht; try dsimp only
  repeat' with_reducible first | assumption | intro _ _ _ | intro _ _ | apply kept_countF | apply kept_event | apply kept_retirePort | apply kept_startRetrain | apply kept_wrF | exact kept_mk (by assumption) .. | split

theorem kept_execPortDownTimeout {s0 : State} (p : Fin 16) (s : State) (ht0 : Kept s0 s) : ∀ t9, (execPortDownTimeout p s) = .next t9 → Kept s0 t9 := by
  intro t9 ht; unfold execPortDownTimeout at ht; injection ht with ht; subst ht; try dsimp only
  repeat' with_reducible first | assumption | intro _ _ _ | intro _ _ | apply kept_retirePort | exact kept_mk (by assumption) .. | split

theorem kept_prtCtrlWrite {s0 : State} (s : State) (ag : Agent) (p : Nat) (pmc : Bool) (f : State → State) (ht0 : Kept s0 s) (hf1 : ∀ s1, Kept s0 s1 → Kept s0 (f s1)) : Kept s0 (State.prtCtrlWrite s ag p pmc f) := by
  unfold State.prtCtrlWrite at *
  grind only [kept_csrAccess, kept_refuseWrite]

theorem kept_retrainNow {s0 : State} (s : State) (p : Nat) (ht0 : Kept s0 s) : Kept s0 (State.retrainNow s p) := by
  unfold State.retrainNow; try dsimp only
  repeat' with_reducible first | assumption | intro _ _ _ | intro _ _ | apply kept_startRetrain | apply kept_updPort | apply kept_wrB | exact kept_mk (by assumption) .. | split

theorem kept_execPrtRetrain {s0 : State} (ag : Agent) (p : Fin 16) (s : State) (ht0 : Kept s0 s) : ∀ t9, (execPrtRetrain ag p s) = .next t9 → Kept s0 t9 := by
  intro t9 ht; unfold execPrtRetrain at ht; injection ht with ht; subst ht; try dsimp only
  repeat' with_reducible first | assumption | intro _ _ _ | intro _ _ | apply kept_prtCtrlWrite | apply kept_retrainNow | exact kept_mk (by assumption) .. | split

theorem kept_portReset {s0 : State} (s : State) (p : Nat) (unretire : Bool) (ht0 : Kept s0 s) : Kept s0 (State.portReset s p unretire) := by
  unfold State.portReset; try dsimp only
  repeat' with_reducible first | assumption | intro _ _ _ | intro _ _ | apply kept_startRetrain | apply kept_startTrain | apply kept_updPort | apply kept_wrF | exact kept_mk (by assumption) .. | split

theorem kept_execPrtPortReset {s0 : State} (ag : Agent) (p : Fin 16) (unretire : Bool) (s : State) (ht0 : Kept s0 s) : ∀ t9, (execPrtPortReset ag p unretire s) = .next t9 → Kept s0 t9 := by
  intro t9 ht; unfold execPrtPortReset at ht; injection ht with ht; subst ht; try dsimp only
  repeat' with_reducible first | assumption | intro _ _ _ | intro _ _ | apply kept_portReset | apply kept_prtCtrlWrite | exact kept_mk (by assumption) .. | split

theorem kept_execPrtCtrlQuietReq {s0 : State} (ag : Agent) (p : Fin 16) (v : Bool) (s : State) (ht0 : Kept s0 s) : ∀ t9, (execPrtCtrlQuietReq ag p v s) = .next t9 → Kept s0 t9 := by
  intro t9 ht; unfold execPrtCtrlQuietReq at ht; injection ht with ht; subst ht; try dsimp only
  repeat' with_reducible first | assumption | intro _ _ _ | intro _ _ | apply kept_askQuiet | apply kept_askWake | apply kept_prtCtrlWrite | apply kept_wrB | exact kept_mk (by assumption) .. | split

theorem kept_execQuietAuto {s0 : State} (p : Fin 16) (s : State) (ht0 : Kept s0 s) : ∀ t9, (execQuietAuto p s) = .next t9 → Kept s0 t9 := by
  intro t9 ht; unfold execQuietAuto at ht; injection ht with ht; subst ht; try dsimp only
  repeat' with_reducible first | assumption | intro _ _ _ | intro _ _ | apply kept_askQuiet | apply kept_cond | exact kept_mk (by assumption) .. | split

theorem kept_execQuietAutoWake {s0 : State} (p : Fin 16) (s : State) (ht0 : Kept s0 s) : ∀ t9, (execQuietAutoWake p s) = .next t9 → Kept s0 t9 := by
  intro t9 ht; unfold execQuietAutoWake at ht; injection ht with ht; subst ht; try dsimp only
  repeat' with_reducible first | assumption | intro _ _ _ | intro _ _ | apply kept_askWake | apply kept_cond | exact kept_mk (by assumption) .. | split

theorem kept_execLldpSend {s0 : State} (p : Fin 16) (s : State) (ht0 : Kept s0 s) : ∀ t9, (execLldpSend p s) = .next t9 → Kept s0 t9 := by
  intro t9 ht; unfold execLldpSend at ht; injection ht with ht; subst ht; try dsimp only
  repeat' with_reducible first | assumption | intro _ _ _ | intro _ _ | apply kept_count | apply kept_wire | exact kept_mk (by assumption) .. | split

theorem kept_enableAtBringup {s0 : State} (s : State) (p : Nat) (f : Lldp) (fits : Bool) (ht0 : Kept s0 s) : Kept s0 (State.enableAtBringup s p f fits) := by
  unfold State.enableAtBringup; try dsimp only
  repeat' with_reducible first | assumption | intro _ _ _ | intro _ _ | apply kept_cond | apply kept_event | apply kept_wrB | exact kept_mk (by assumption) .. | split

theorem kept_takeLldp {s0 : State} (s : State) (p : Nat) (f : Lldp) (ht0 : Kept s0 s) : Kept s0 (State.takeLldp s p f) := by
  unfold State.takeLldp; try dsimp only
  repeat' with_reducible first | assumption | intro _ _ _ | intro _ _ | apply kept_cond | apply kept_enableAtBringup | apply kept_event | apply kept_judgeDirection | apply kept_report | apply kept_updPort | apply kept_wr | apply kept_wrB | apply kept_wrF | exact kept_mk (by assumption) .. | split

theorem kept_hnPeer {s0 : State} (s : State) (p : Nat) (f : Lldp) (ht0 : Kept s0 s) : Kept s0 (State.hnPeer s p f) := by
  unfold State.hnPeer; try dsimp only
  repeat' with_reducible first | assumption | intro _ _ _ | intro _ _ | apply kept_wr | apply kept_wrB | apply kept_wrF | exact kept_mk (by assumption) .. | split

theorem kept_execLldpReceive {s0 : State} (p : Fin 16) (f : Lldp) (s : State) (ht0 : Kept s0 s) : ∀ t9, (execLldpReceive p f s) = .next t9 → Kept s0 t9 := by
  intro t9 ht; unfold execLldpReceive at ht; injection ht with ht; subst ht; try dsimp only
  repeat' with_reducible first | assumption | intro _ _ _ | intro _ _ | apply kept_count | apply kept_hnPeer | apply kept_takeLldp | exact kept_mk (by assumption) .. | split

theorem kept_execLldpTtlExpire {s0 : State} (p : Fin 16) (s : State) (ht0 : Kept s0 s) : ∀ t9, (execLldpTtlExpire p s) = .next t9 → Kept s0 t9 := by
  intro t9 ht; unfold execLldpTtlExpire at ht; injection ht with ht; subst ht; try dsimp only
  repeat' with_reducible first | assumption | intro _ _ _ | intro _ _ | apply kept_wrB | exact kept_mk (by assumption) .. | split

theorem kept_takeHn {s0 : State} (s : State) (p : Nat) (a : HnArrival) (ht0 : Kept s0 s) : Kept s0 (State.takeHn s p a) := by
  unfold State.takeHn; try dsimp only
  repeat' with_reducible first | assumption | intro _ _ _ | intro _ _ | apply kept_cond | apply kept_count | apply kept_dropFrame | apply kept_hnPeer | apply kept_pfc | apply kept_updPort | apply kept_wire | apply kept_wr | exact kept_mk (by assumption) .. | split

theorem kept_execHnFrameReceive {s0 : State} (p : Fin 16) (a : HnArrival) (s : State) (ht0 : Kept s0 s) : ∀ t9, (execHnFrameReceive p a s) = .next t9 → Kept s0 t9 := by
  intro t9 ht; unfold execHnFrameReceive at ht; injection ht with ht; subst ht; try dsimp only
  repeat' with_reducible first | assumption | intro _ _ _ | intro _ _ | apply kept_takeHn | exact kept_mk (by assumption) .. | split

theorem kept_execPfcFrame {s0 : State} (p : Fin 16) (prio : Fin 8) (pause : Bool) (s : State) (ht0 : Kept s0 s) : ∀ t9, (execPfcFrame p prio pause s) = .next t9 → Kept s0 t9 := by
  intro t9 ht; unfold execPfcFrame at ht; injection ht with ht; subst ht; try dsimp only
  repeat' with_reducible first | assumption | intro _ _ _ | intro _ _ | apply kept_count | apply kept_dropFrame | apply kept_updPort | exact kept_mk (by assumption) .. | split

theorem kept_execPortPlanNextWrite {s0 : State} (ag : Agent) (v : W64) (s : State) (ht0 : Kept s0 s) : ∀ t9, (execPortPlanNextWrite ag v s) = .next t9 → Kept s0 t9 := by
  intro t9 ht; unfold execPortPlanNextWrite at ht; injection ht with ht; subst ht
  grind only [keptm_BaseM_store, kept_csrAccess, kept_mk, kept_refuseWrite, kept_wr]

end Sys2Proof.Machine
end

