-- ==== Sys2Proof/Laws/KeptBoot.lean ====
section
/-!
SUPPORT. One lemma for each operation and command of reset, bring-up, the collective commands and the sequencer commands:
what it makes of a state that a start state keeps, that start keeps.
-/
set_option linter.all false
namespace Sys2Proof.Machine

/-! ### Reset -/

theorem kept_syncPhase {s0 : State} (s : State) (ht0 : Kept s0 s) : Kept s0 (State.syncPhase s) := by
  unfold State.syncPhase; try dsimp only
  repeat' with_reducible first | assumption | intro _ _ _ | intro _ _ | apply kept_cond | apply kept_wrF | exact kept_mk (by assumption) .. | split

theorem kept_updPwr {s0 : State} (s : State) (f : Power → Power) (ht0 : Kept s0 s) : Kept s0 (State.updPwr s f) := by
  unfold State.updPwr; try dsimp only
  repeat' with_reducible first | assumption | intro _ _ _ | intro _ _ | exact kept_mk (by assumption) .. | split

theorem kept_finishStep {s0 : State} (s : State) (k : Nat) (ht0 : Kept s0 s) : Kept s0 (State.finishStep s k) := by
  unfold State.finishStep; try dsimp only
  repeat' with_reducible first | assumption | intro _ _ _ | intro _ _ | apply kept_syncPhase | apply kept_updPwr | exact kept_mk (by assumption) .. | split

theorem kept_alert {s0 : State} (s : State) (b : Nat) (ht0 : Kept s0 s) : Kept s0 (State.alert s b) := by
  unfold State.alert; try dsimp only
  repeat' with_reducible first | assumption | intro _ _ _ | intro _ _ | apply kept_wrB | exact kept_mk (by assumption) .. | split

theorem kept_bootFails {s0 : State} (s : State) (ht0 : Kept s0 s) : Kept s0 (State.bootFails s) := by
  unfold State.bootFails; try dsimp only
  repeat' with_reducible first | assumption | intro _ _ _ | intro _ _ | apply kept_alert | apply kept_event | apply kept_updPwr | apply kept_wrB | apply kept_wrF | exact kept_mk (by assumption) .. | split

theorem kept_bare {s0 : State} (s : State) (ht0 : Kept s0 s) : Kept s0 s.bare := by
  unfold State.bare
  exact ⟨ht0.pending, ht0.fuses, fun _ => ⟨Tbl.canonical_nil, Tbl.canonical_nil, Tbl.canonical_nil, Tbl.canonical_nil, Tbl.canonical_nil, Tbl.canonical_nil, Tbl.canonical_nil⟩⟩

theorem kept_coldReset {s0 : State} (s : State) (ht0 : Kept s0 s) : Kept s0 s.coldReset := by
  unfold State.coldReset
  have h := kept_bare s ht0
  have h : ∀ rcd fm sec, Kept s0 { s.bare with csr := resetCsr, rcd := rcd, fm := fm, sec := sec } := fun rcd fm sec =>
    ⟨h.pending, h.fuses, fun c => { h.canon c with csr := canonical_resetCsr }⟩
  dsimp only
  refine kept_cond _ _ (kept_event _ _ _ _ _ (kept_wrF _ _ _ _ (kept_setUpd _ _ (kept_wr _ _ (kept_wr _ _ (kept_wrF _ _ _ _ (kept_wrB _ _ _ (kept_wr _ _ (kept_newNonce _ (kept_setMacs _ (h _ _ _))))))))))) ?_
  exact fun _ h => kept_event _ _ _ _ _ h

theorem kept_loadPlan {s0 : State} (s : State) (ht0 : Kept s0 s) : Kept s0 (State.loadPlan s) := by
  unfold State.loadPlan; try dsimp only
  repeat' with_reducible first | assumption | intro _ _ _ | intro _ _ | apply kept_event | apply kept_wr | exact kept_mk (by assumption) .. | split

theorem kept_trialRule {s0 : State} (s : State) (ht0 : Kept s0 s) : Kept s0 (State.trialRule s) := by
  unfold State.trialRule; try dsimp only
  repeat' with_reducible first | assumption | intro _ _ _ | intro _ _ | apply kept_event | exact kept_mk (by assumption) .. | split

theorem kept_chooseSlot {s0 : State} (s : State) (first : Bool) (ht0 : Kept s0 s) : Kept s0 (State.chooseSlot s first).1 := by
  unfold State.chooseSlot at *
  grind only [keptm_BaseM_store, kept_checkSlot, kept_event, kept_mk]

theorem kept_beginPower {s0 : State} (s : State) (ht0 : Kept s0 s) : Kept s0 (State.beginPower s) := by
  unfold State.beginPower; try dsimp only
  repeat' with_reducible first | assumption | intro _ _ _ | intro _ _ | apply kept_event | apply kept_syncPhase | apply kept_updPwr | apply kept_wrB | apply kept_wrF | exact kept_mk (by assumption) .. | split

theorem kept_startSec {s0 : State} (s : State) (x : Nat) (ht0 : Kept s0 s) : Kept s0 (s.startSec x) := by
  unfold State.startSec
  have h := kept_agentStart _ 1 (kept_startComponent _ 1 x (kept_wrDigest s (Reg.secMeas 0 0) Config.starterDigest ht0))
  generalize State.agentStart _ 1 = u at h
  exact kept_beginPower _ (kept_wrF _ _ _ _ (kept_updPwr _ _ (kept_set_sec _ h)))

theorem kept_starter {s0 : State} (s : State) (first : Bool) (ht0 : Kept s0 s) : Kept s0 (State.starter s first) := by
  unfold State.starter at *
  grind only [kept_chooseSlot, kept_loadPlan, kept_mk, kept_startSec]

theorem kept_bringOn {s0 : State} (s : State) (dead : Nat) (l : List Nat) (ht0 : Kept s0 s) : Kept s0 (State.bringOn s dead l) := by
  unfold State.bringOn; try dsimp only
  repeat' with_reducible first | assumption | intro _ _ _ | intro _ _ | apply kept_each | apply kept_turnOn | exact kept_mk (by assumption) .. | split

theorem kept_fuseFacts {s0 : State} (s : State) (ht0 : Kept s0 s) : Kept s0 (State.fuseFacts s) := by
  unfold State.fuseFacts; try dsimp only
  repeat' with_reducible first | assumption | intro _ _ _ | intro _ _ | apply kept_foldl | apply kept_foldl_fst | exact kept_mk (by assumption) .. | split

theorem kept_startCores {s0 : State} (s : State) (ht0 : Kept s0 s) : Kept s0 (State.startCores s).1 := by
  unfold State.startCores; try dsimp only
  repeat' with_reducible first | assumption | intro _ _ _ | intro _ _ | apply kept_checkSlot | apply kept_coreRuns | apply kept_startCore | exact kept_mk (by assumption) .. | split

theorem kept_stackTested {s0 : State} (s : State) (n cover fails : Nat) (on : Bool) (ht0 : Kept s0 s) : Kept s0 (s.stackTested n cover fails on) := by
  unfold State.stackTested
  have h := kept_each (bitsSet (cover &&& fails) 64) (fun s p =>
    let s := s.event 0xA05 (.stack n)
    if natBit (s.pcFused n) p then s
    else ({ s with rcd := { s.rcd with fusePcs := s.rcd.fusePcs.upd n (· ||| 2 ^ p) } } : State).event 0x305 (.stack n) p) ht0
    (fun _ _ h => kept_ite _ (kept_event _ _ _ _ _ h) (kept_event _ _ _ _ _ (kept_set_rcd _ (kept_event _ _ _ _ _ h))))
  dsimp only at h ⊢
  generalize s.each _ _ = u at h
  have h1 := kept_updPwr u (fun w => { w with
    passed := w.passed.set n (((bitsSet (cover &&& u.fuses.pcOff.get n) 64).filter (fun p => !(bitsSet (cover &&& fails) 64).contains p)).foldl (fun m p => m + 2 ^ p) 0)
    tested := w.tested ||| 2 ^ n }) h
  generalize u.updPwr _ = w at h1
  have h2 : Kept s0 (if on = true then w.readyStack n else w) := kept_ite _ (kept_readyStack _ n h1) h1
  generalize (if on = true then w.readyStack n else w) = v at h2
  exact kept_syncPhase _ (kept_wrB _ _ _ (kept_ite _ (kept_set_sec _ h2) h2))

theorem kept_reconcile {s0 : State} (s : State) (ht0 : Kept s0 s) : Kept s0 (State.reconcile s) := by
  unfold State.reconcile; try dsimp only
  repeat' with_reducible first | assumption | intro _ _ _ | intro _ _ | apply kept_clusterDiscrepancy | apply kept_each | apply kept_event | apply kept_finishStep | apply kept_publishAll | exact kept_mk (by assumption) .. | split

theorem kept_createSystem {s0 : State} (s : State) (x : Nat) (ht0 : Kept s0 s) : Kept s0 (s.createSystem x) := by
  unfold State.createSystem
  dsimp only
  split
  · rename_i b _
    split
    · rename_i v hc
      exact keptx_createAt _ _ _ _ _ _ _ hc ht0
    · exact ht0
  · exact ht0

theorem kept_reportReady {s0 : State} (s : State) (elapsed : Nat) (ht0 : Kept s0 s) : Kept s0 (State.reportReady s elapsed) := by
  unfold State.reportReady; try dsimp only
  repeat' with_reducible first | assumption | intro _ _ _ | intro _ _ | apply kept_alert | apply kept_event | apply kept_updPwr | apply kept_wrF | exact kept_mk (by assumption) .. | split

theorem kept_bootReady {s0 : State} (s : State) (elapsed : Nat) (ht0 : Kept s0 s) : Kept s0 (s.bootReady elapsed) := by
  unfold State.bootReady
  have h := kept_formDefaults _ (kept_each (List.range 12) State.createSystem ht0 (fun _ _ h => kept_createSystem _ _ h))
  dsimp only
  generalize State.formDefaults _ = u at h ⊢
  exact kept_reportReady _ _ (kept_finishStep _ _ (kept_alert _ _ (kept_wrB _ _ _ (kept_wrF _ _ _ _ (kept_cond _ _ (kept_ite _ (kept_set_config _ h) h) (fun _ h => kept_setUpd _ _ h))))))

theorem kept_emergencyOver {s0 : State} (s : State) (thermal : Bool) (ht0 : Kept s0 s) : Kept s0 (State.emergencyOver s thermal) := by
  unfold State.emergencyOver; try dsimp only
  repeat' with_reducible first | assumption | intro _ _ _ | intro _ _ | apply kept_alert | apply kept_event | apply kept_tryActivate | apply kept_wrB | apply kept_wrF | exact kept_mk (by assumption) .. | split

theorem kept_dropPartitions {s0 : State} (s : State) (ht0 : Kept s0 s) : Kept s0 (State.dropPartitions s) := by
  unfold State.dropPartitions at *
  grind only [kept_dropEph, kept_each, kept_emptySlot, kept_mk, kept_syncPmcPart, kept_updPwr, kept_wrF]

theorem kept_enterCrust {s0 : State} (s : State) (cause vin : Nat) (ht0 : Kept s0 s) : Kept s0 (s.enterCrust cause vin) := by
  unfold State.enterCrust
  have h := kept_event 0x108 .none (cause + vin % 1024 * 2 ^ 32) none 0 ht0
  generalize State.event s _ _ _ _ _ = u at h
  have h := kept_emergencyOver _ true (kept_emergencyOver u false h)
  dsimp only
  generalize (u.emergencyOver false).emergencyOver true = u at h
  have h := kept_each ((List.range 10).filter (fun i => u.fnPresent (i / 5) (i % 5))) (fun s i => s.agentStart (0x60 + 8 * (i / 5) + i % 5)) h (fun _ _ h => kept_agentStart _ _ h)
  generalize u.each _ _ = u at h
  have h := kept_dropPartitions _ (kept_each crustOrder State.turnOff h (fun _ _ h => kept_turnOff _ _ h))
  generalize State.dropPartitions _ = u at h
  refine kept_cond _ _ (kept_alert _ _ (kept_wrB _ _ _ (kept_wrF _ _ _ _ (kept_mk h ..)))) (fun _ h => kept_wrF _ _ _ _ h)

theorem kept_beginWarm {s0 : State} (s : State) (ht0 : Kept s0 s) : Kept s0 (State.beginWarm s) := by
  unfold State.beginWarm; try dsimp only
  repeat' with_reducible first | assumption | intro _ _ _ | intro _ _ | apply kept_abortRecipe | apply kept_cond | apply kept_each | apply kept_event | apply kept_fnReset | apply kept_orphanFn | apply kept_settleCmds | apply kept_stopPart | apply kept_updHport | apply kept_updPwr | apply kept_wrF | exact kept_mk (by assumption) .. | split

theorem kept_dropAllFlows {s0 : State} (s : State) (ht0 : Kept s0 s) : Kept s0 s.dropAllFlows := by
  unfold State.dropAllFlows
  have h := kept_updRouter s (fun r => { r with sends := [], recvs := [], replies := [], cache := [], resetting := [] }) ht0
  generalize s.updRouter _ = u at h
  exact ⟨h.pending, h.fuses, fun c => { h.canon c with cpBad := (h.canon c).cpBad.filter _ }⟩

theorem kept_endWarm {s0 : State} (s : State) (elapsed : Nat) (ht0 : Kept s0 s) : Kept s0 (s.endWarm elapsed) := by
  unfold State.endWarm
  have h := kept_startCores _ (kept_loseDomain _ 24 (kept_loseDomain s 25 ht0))
  generalize (State.startCores _).1 = u at h
  dsimp only
  exact kept_reportReady _ _ (kept_updPwr _ _ (kept_set_host _ (kept_formDefaults _ (kept_publishAll _ (kept_dropAllFlows _ (kept_each _ _ h (fun _ _ h => kept_wrF _ _ _ _ h)))))))

theorem kept_continueWarm {s0 : State} (s : State) (elapsed : Nat) (tests : List (Nat × Nat)) (ht0 : Kept s0 s) : Kept s0 (State.continueWarm s elapsed tests) := by
  unfold State.continueWarm; try dsimp only
  repeat' with_reducible first | assumption | intro _ _ _ | intro _ _ | apply kept_continueStops | apply kept_endWarm | exact kept_mk (by assumption) .. | split

/-! ### BootCmds -/

theorem kept_execColdReset {s0 : State} (cause : ColdCause) (boot : Fin 4) (addr : Fin 8) (s : State) (ht0 : Kept s0 s) : ∀ t9, (execColdReset cause boot addr s) = .next t9 → Kept s0 t9 := by
  intro t9 ht; unfold execColdReset at ht; injection ht with ht; subst ht; try dsimp only
  repeat' with_reducible first | assumption | intro _ _ _ | intro _ _ | apply kept_coldReset | apply kept_event | apply kept_updPwr | exact kept_mk (by assumption) .. | split

theorem kept_execVauxLoss {s0 : State} (s : State) (ht0 : Kept s0 s) : ∀ t9, (execVauxLoss s) = .next t9 → Kept s0 t9 := by
  intro t9 ht; unfold execVauxLoss at ht; injection ht with ht; subst ht
  grind only [kept_bare, kept_mk, kept_updPwr]

theorem kept_execStarter {s0 : State} (held : Bool) (s : State) (ht0 : Kept s0 s) : ∀ t9, (execStarter held s) = .next t9 → Kept s0 t9 := by
  intro t9 ht; unfold execStarter at ht; injection ht with ht; subst ht; try dsimp only
  repeat' with_reducible first | assumption | intro _ _ _ | intro _ _ | apply kept_cond | apply kept_event | apply kept_starter | apply kept_trialRule | exact kept_mk (by assumption) .. | split

theorem kept_execPowerOn {s0 : State} (s : State) (ht0 : Kept s0 s) : ∀ t9, (execPowerOn s) = .next t9 → Kept s0 t9 := by
  intro t9 ht; unfold execPowerOn at ht; injection ht with ht; subst ht; try dsimp only
  repeat' with_reducible first | assumption | intro _ _ _ | intro _ _ | apply kept_beginPower | apply kept_updPwr | exact kept_mk (by assumption) .. | split

theorem kept_execPmcBringup {s0 : State} (dead : BitVec 38) (s : State) (ht0 : Kept s0 s) : ∀ t9, (execPmcBringup dead s) = .next t9 → Kept s0 t9 := by
  intro t9 ht; unfold execPmcBringup at ht; injection ht with ht; subst ht; try dsimp only
  repeat' with_reducible first | assumption | intro _ _ _ | intro _ _ | apply kept_agentStart | apply kept_bringOn | apply kept_cond | apply kept_coreRuns | apply kept_finishStep | apply kept_startCore | exact kept_mk (by assumption) .. | split

theorem kept_execCoreStart {s0 : State} (s : State) (ht0 : Kept s0 s) : ∀ t9, (execCoreStart s) = .next t9 → Kept s0 t9 := by
  intro t9 ht; unfold execCoreStart at ht; injection ht with ht; subst ht; try dsimp only
  repeat' with_reducible first | assumption | intro _ _ _ | intro _ _ | apply kept_finishStep | apply kept_fuseFacts | apply kept_startComponent | apply kept_startCores | exact kept_mk (by assumption) .. | split

theorem kept_execStackTrain {s0 : State} (n : Fin 12) (s : State) (ht0 : Kept s0 s) : ∀ t9, (execStackTrain n s) = .next t9 → Kept s0 t9 := by
  intro t9 ht; unfold execStackTrain at ht; injection ht with ht; subst ht; try dsimp only
  repeat' with_reducible first | assumption | intro _ _ _ | intro _ _ | apply kept_readyStack | apply kept_syncPhase | apply kept_updPwr | apply kept_wrF | exact kept_mk (by assumption) .. | split

theorem kept_execSelfTest {s0 : State} (tests : List (Nat × Nat)) (s : State) (ht0 : Kept s0 s) : ∀ t9, (execSelfTest tests s) = .next t9 → Kept s0 t9 := by
  intro t9 ht; unfold execSelfTest at ht; injection ht with ht; subst ht; try dsimp only
  repeat' with_reducible first | assumption | intro _ _ _ | intro _ _ | apply kept_each | apply kept_finishStep | apply kept_loadCcc | apply kept_testCluster | exact kept_mk (by assumption) .. | split

theorem kept_execMemoryTest {s0 : State} (n : Fin 12) (fails : W64) (s : State) (ht0 : Kept s0 s) : ∀ t9, (execMemoryTest n fails s) = .next t9 → Kept s0 t9 := by
  intro t9 ht; unfold execMemoryTest at ht; injection ht with ht; subst ht; try dsimp only
  repeat' with_reducible first | assumption | intro _ _ _ | intro _ _ | apply kept_stackTested | exact kept_mk (by assumption) .. | split

theorem kept_execLinkGate {s0 : State} (s : State) (ht0 : Kept s0 s) : ∀ t9, (execLinkGate s) = .next t9 → Kept s0 t9 := by
  intro t9 ht; unfold execLinkGate at ht; injection ht with ht; subst ht; try dsimp only
  repeat' with_reducible first | assumption | intro _ _ _ | intro _ _ | apply kept_finishStep | exact kept_mk (by assumption) .. | split

theorem kept_execFuseTestReconcile {s0 : State} (s : State) (ht0 : Kept s0 s) : ∀ t9, (execFuseTestReconcile s) = .next t9 → Kept s0 t9 := by
  intro t9 ht; unfold execFuseTestReconcile at ht; injection ht with ht; subst ht; try dsimp only
  repeat' with_reducible first | assumption | intro _ _ _ | intro _ _ | apply kept_reconcile | exact kept_mk (by assumption) .. | split

theorem kept_execBootReady {s0 : State} (elapsed : W32) (s : State) (ht0 : Kept s0 s) : ∀ t9, (execBootReady elapsed s) = .next t9 → Kept s0 t9 := by
  intro t9 ht; unfold execBootReady at ht; injection ht with ht; subst ht; try dsimp only
  repeat' with_reducible first | assumption | intro _ _ _ | intro _ _ | apply kept_bootReady | exact kept_mk (by assumption) .. | split

theorem kept_execBootStepOverrun {s0 : State} (k : Fin 11) (unit : Fin 12) (silent : W64) (elapsed : W32) (s : State) (ht0 : Kept s0 s) :
    ∀ t, execBootStepOverrun k unit silent elapsed s = .next t → Kept s0 t := by
  intro t ht
  unfold execBootStepOverrun at ht
  injection ht with ht
  subst ht
  have h := kept_set_answer .none ht0
  have he : ∀ u : EvUnit, ∀ s : State, Kept s0 s → Kept s0 (s.event 0xA06 u) := fun u s h => kept_event _ _ _ _ _ h
  refine kept_ite _ (kept_cond _ _ h (fun s h => he _ s h)) (kept_ite _ (kept_ite _ h (kept_starter _ _ (he _ _ h))) (kept_ite _ h (kept_ite _ ?_ (kept_ite _ ?_
    (kept_ite _ ?_ (kept_ite _ ?_ (kept_ite _ ?_ (kept_ite _ (kept_finishStep _ _ (he _ _ h)) (kept_ite _ (kept_reconcile _ (he _ _ h))
      (kept_ite _ (kept_bootReady _ _ (he _ _ h)) h))))))))))
  · have hx : ∀ off : List Nat, Kept s0 (if off.isEmpty = true then State.event { s with answer := .none } 0xA06
        else State.each { s with answer := .none } off (fun s i => s.event 0xA06 (.domain i))) := fun off =>
      kept_ite _ (he _ _ h) (kept_each _ _ h (fun s i h => he _ s h))
    exact kept_ite _ (kept_bootFails _ (hx _)) (kept_finishStep _ _ (hx _))
  · exact kept_ite _ (kept_bootFails _ (he _ _ h)) (kept_updPwr _ _ (he _ _ h))
  · exact kept_ite _ h (kept_turnOff _ _ (kept_stackTested _ _ _ _ _ (kept_updPwr _ _ (he _ _ h))))
  · refine kept_finishStep _ _ (kept_each _ _ (kept_each _ _ h (fun s i h => he _ s h)) ?_)
    exact fun _ _ h => kept_ite _ (kept_testCluster _ _ _ h) (kept_ite _ (kept_testCluster _ _ _ (kept_loadCcc _ _ h)) h)
  · exact kept_ite _ h (kept_stackTested _ _ _ _ _ (he _ _ h))

theorem kept_execCrustEntry {s0 : State} (good : Bool) (vin : BitVec 10) (s : State) (ht0 : Kept s0 s) : ∀ t9, (execCrustEntry good vin s) = .next t9 → Kept s0 t9 := by
  intro t9 ht; unfold execCrustEntry at ht; injection ht with ht; subst ht; try dsimp only
  repeat' with_reducible first | assumption | intro _ _ _ | intro _ _ | apply kept_enterCrust | apply kept_updPwr | exact kept_mk (by assumption) .. | split

theorem kept_readTherm {s0 : State} (s : State) (j t : Nat) (ht0 : Kept s0 s) : Kept s0 (State.readTherm s j t) := by
  unfold State.readTherm; try dsimp only
  repeat' with_reducible first | assumption | intro _ _ _ | intro _ _ | apply kept_wrF | exact kept_mk (by assumption) .. | split

theorem kept_syncWarn {s0 : State} (s : State) (ht0 : Kept s0 s) : Kept s0 (State.syncWarn s) := by
  unfold State.syncWarn; try dsimp only
  repeat' with_reducible first | assumption | intro _ _ _ | intro _ _ | apply kept_alert | apply kept_cond | apply kept_updPwr | exact kept_mk (by assumption) .. | split

theorem kept_execThermalTrip {s0 : State} (j : Fin 17) (temp : BitVec 8) (vin : BitVec 10) (s : State) (ht0 : Kept s0 s) : ∀ t9, (execThermalTrip j temp vin s) = .next t9 → Kept s0 t9 := by
  intro t9 ht; unfold execThermalTrip at ht; injection ht with ht; subst ht; try dsimp only
  repeat' with_reducible first | assumption | intro _ _ _ | intro _ _ | apply kept_enterCrust | apply kept_event | apply kept_readTherm | apply kept_syncWarn | apply kept_updPwr | exact kept_mk (by assumption) .. | split

theorem kept_execVin48Removed {s0 : State} (s : State) (ht0 : Kept s0 s) : ∀ t9, (execVin48Removed s) = .next t9 → Kept s0 t9 := by
  intro t9 ht; unfold execVin48Removed at ht; injection ht with ht; subst ht; try dsimp only
  repeat' with_reducible first | assumption | intro _ _ _ | intro _ _ | apply kept_enterCrust | apply kept_updPwr | apply kept_wrF | exact kept_mk (by assumption) .. | split

/-! ### ClxCmds -/

theorem kept_execInstanceStart {s0 : State} (q : Fin 4) (s : State) (ht0 : Kept s0 s) : ∀ t, execInstanceStart q s = .next t → Kept s0 t := by
  intro t ht
  unfold execInstanceStart at ht
  dsimp only at ht
  split at ht
  · split at ht
    · injection ht with ht; subst ht; exact ht0
    · split at ht
      · injection ht with ht; subst ht
        exact kept_updSeq _ _ _ (kept_clxEnded _ _ _ _ _ _ _ (kept_wrF _ _ _ _ (kept_updClx _ _ _ ht0)))
      · injection ht with ht; subst ht
        exact keptx_clxSettle _ _ _ (kept_clxStartPhase _ _ _ _ _ (kept_each _ _ (kept_updClx _ _ _ (kept_wrF _ _ _ _ (kept_updClx _ _ _ ht0))) (fun _ _ h => kept_wrF _ _ _ _ h)))
  · injection ht with ht; subst ht; exact ht0

theorem keptx_clxSendTiles {s0 : State} (q m peer : Nat) (down : Bool) (chunk : Option Nat) (n : Nat) :
    ∀ s : State, Kept s0 s → Kept s0 (s.clxSendTiles q m peer down chunk n) := by
  induction n with
  | zero => exact fun _ h => h
  | succ n ih =>
    intro s h
    unfold State.clxSendTiles
    have h1 := kept_clxSendTile s q m peer down h
    exact kept_ite _ h (kept_ite _ (ih _ h1) h1)

theorem kept_execChunkSend {s0 : State} (m : Fin 4) (peer : Fin 64) (down : Bool) (s : State) (ht0 : Kept s0 s) :
    ∀ t, execChunkSend m peer down s = .next t → Kept s0 t := by
  intro t ht
  unfold execChunkSend at ht
  injection ht with ht
  subst ht
  exact keptx_clxSettle _ _ _ (keptx_clxSendTiles _ _ _ _ _ _ _ ht0)

theorem kept_execTileReadbackSend {s0 : State} (m : Fin 4) (peer : Fin 64) (down : Bool) (s : State) (ht0 : Kept s0 s) :
    ∀ t, execTileReadbackSend m peer down s = .next t → Kept s0 t := by
  intro t ht
  unfold execTileReadbackSend at ht
  injection ht with ht
  subst ht
  exact keptx_clxSettle _ _ _ (kept_clxSendTile _ _ _ _ _ ht0)

theorem kept_execClxInstanceDone {s0 : State} (q : Fin 4) (s : State) (ht0 : Kept s0 s) : ∀ t9, (execClxInstanceDone q s) = .next t9 → Kept s0 t9 := by
  intro t9 ht; unfold execClxInstanceDone at ht
  grind only [keptm_BaseM_groups, kept_clxEnded, kept_clxIdle, kept_mk, kept_tokenPart, kept_updClx]

theorem kept_execClxProgressTimeout {s0 : State} (q : Fin 4) (s : State) (ht0 : Kept s0 s) : ∀ t9, (execClxProgressTimeout q s) = .next t9 → Kept s0 t9 := by
  intro t9 ht; unfold execClxProgressTimeout at ht
  grind only [kept_clxFail]

theorem kept_setGroup {s0 : State} (s : State) (m g a : Nat) (v : W64) (ht0 : Kept s0 s) : Kept s0 (State.setGroup s m g a v) := by
  unfold State.setGroup; try dsimp only
  repeat' with_reducible first | assumption | intro _ _ _ | intro _ _ | apply kept_event | apply kept_foldl | apply kept_foldl_fst | apply kept_updClx | apply kept_wr | apply kept_wrF | exact kept_mk (by assumption) .. | split

theorem kept_fabGroupWrite {s0 : State} (s : State) (m g a : Nat) (v : W64) (ht0 : Kept s0 s) : Kept s0 (State.fabGroupWrite s m g a v) := by
  unfold State.fabGroupWrite; try dsimp only
  repeat' with_reducible first | assumption | intro _ _ _ | intro _ _ | apply kept_setGroup | apply kept_updClx | exact kept_mk (by assumption) .. | split

theorem kept_execGroupEntryWrite {s0 : State} (ag : Agent) (m : Fin 4) (g : Fin 8) (i : Fin 72) (v : W64) (s : State) (ht0 : Kept s0 s) : ∀ t9, (execGroupEntryWrite ag m g i v s) = .next t9 → Kept s0 t9 := by
  intro t9 ht; unfold execGroupEntryWrite at ht
  grind only [kept_csrAccess, kept_fabGroupWrite, kept_refuseWrite]

theorem kept_execGroupWriteApply {s0 : State} (m : Fin 4) (g : Fin 8) (s : State) (ht0 : Kept s0 s) : ∀ t9, (execGroupWriteApply m g s) = .next t9 → Kept s0 t9 := by
  intro t9 ht; unfold execGroupWriteApply at ht
  grind only [kept_each, kept_mk, kept_setGroup, kept_updClx]

theorem kept_execClxProgramWrite {s0 : State} (ag : Agent) (m : Fin 4) (x : Fin 1024) (i : Fin 8) (v : W64) (s : State) (ht0 : Kept s0 s) : ∀ t9, (execClxProgramWrite ag m x i v s) = .next t9 → Kept s0 t9 := by
  intro t9 ht; unfold execClxProgramWrite at ht; injection ht with ht; subst ht; try dsimp only
  repeat' with_reducible first | assumption | intro _ _ _ | intro _ _ | apply kept_csrAccess | apply kept_refuseWrite | apply kept_wr | exact kept_mk (by assumption) .. | split

/-! ### Dmx -/

theorem kept_dmxLoadPiece {s0 : State} (s : State) (part h : Nat) (x : Nat × Nat × Nat) (ht0 : Kept s0 s) : Kept s0 (State.dmxLoadPiece s part h x).1 := by
  unfold State.dmxLoadPiece; try dsimp only
  repeat' with_reducible first | assumption | intro _ _ _ | intro _ _ | apply kept_checkFailedHandle | apply kept_readLines | apply kept_tilePasses | apply kept_writeBytes | apply kept_writeCarried | exact kept_mk (by assumption) .. | split

theorem kept_dmxStorePiece {s0 : State} (s : State) (part h : Nat) (old : Tbl (List Byte)) (x : Nat × Nat × Nat) (ht0 : Kept s0 s) : Kept s0 (State.dmxStorePiece s part h old x).1 := by
  unfold State.dmxStorePiece; try dsimp only
  repeat' with_reducible first | assumption | intro _ _ _ | intro _ _ | apply kept_checkFailedStore | apply kept_raceBytes | apply kept_scrubStore | apply kept_tilePasses | apply kept_writeBytes | exact kept_mk (by assumption) .. | split

theorem kept_dmxAll {s0 : State} {α : Type} (s : State) (l : List α) (f : State → α → State × Bool) (ht0 : Kept s0 s) (hf1 : ∀ s1 x1, Kept s0 s1 → Kept s0 (f s1 x1).1) : Kept s0 (State.dmxAll s l f).1 := by
  unfold State.dmxAll at *
  grind only [kept_foldl, kept_foldl_fst]

theorem kept_dmxHostFailed {s0 : State} (s : State) (part : Nat) (p : DmxPart) (h : HostData) (ht0 : Kept s0 s) : Kept s0 (State.dmxHostFailed s part p h) := by
  unfold State.dmxHostFailed; try dsimp only
  repeat' with_reducible first | assumption | intro _ _ _ | intro _ _ | apply kept_hostEvent | exact kept_mk (by assumption) .. | split

theorem kept_dmxFromHost {s0 : State} (s : State) (part : Nat) (p : DmxPart) (h : HostData) (ht0 : Kept s0 s) : Kept s0 (State.dmxFromHost s part p h).1 := by
  unfold State.dmxFromHost; try dsimp only
  repeat' with_reducible first | assumption | intro _ _ _ | intro _ _ | apply kept_dmxHostFailed | apply kept_writeBytes | exact kept_mk (by assumption) .. | split

theorem kept_raceExtent {s0 : State} (s : State) (old : Tbl (List Byte)) (a n : Nat) (ht0 : Kept s0 s) : Kept s0 (State.raceExtent s old a n).1 := by
  unfold State.raceExtent; try dsimp only
  repeat' with_reducible first | assumption | intro _ _ _ | intro _ _ | apply kept_foldl | apply kept_foldl_fst | apply kept_raceBytes | exact kept_mk (by assumption) .. | split

theorem kept_dmxToHost {s0 : State} (s : State) (part : Nat) (old : Tbl (List Byte)) (p : DmxPart) (h : HostData) (ht0 : Kept s0 s) : Kept s0 (State.dmxToHost s part old p h).1 := by
  unfold State.dmxToHost; try dsimp only
  repeat' with_reducible first | assumption | intro _ _ _ | intro _ _ | apply kept_checkFailedStore | apply kept_dmxHostFailed | apply kept_hostOut | apply kept_raceExtent | apply kept_scrubStore | exact kept_mk (by assumption) .. | split

theorem kept_dmxRun {s0 : State} (s : State) (part : Nat) (t : DmxTransfer) (host : List HostData) (ht0 : Kept s0 s) : Kept s0 (State.dmxRun s part t host).1 := by
  unfold State.dmxRun; try dsimp only
  repeat' with_reducible first | assumption | intro _ _ _ | intro _ _ | apply kept_dmxAll | apply kept_dmxFromHost | apply kept_dmxLoadPiece | apply kept_dmxStorePiece | apply kept_dmxToHost | exact kept_mk (by assumption) .. | split

theorem kept_execDmxTransferDone {s0 : State} (q : Fin 4) (tok : BitVec 8) (host : List HostData) (ecc : List MemUpset) (s : State) (ht0 : Kept s0 s) : ∀ t9, (execDmxTransferDone q tok host ecc s) = .next t9 → Kept s0 t9 := by
  intro t9 ht; unfold execDmxTransferDone at ht; injection ht with ht; subst ht; try dsimp only
  repeat' with_reducible first | assumption | intro _ _ _ | intro _ _ | apply kept_dmxRun | apply kept_tokenPart | apply kept_updSeq | apply kept_upset | exact kept_mk (by assumption) .. | split

/-! ### ScalarOps -/

theorem kept_execLi {s0 : State} (q : Fin 4) (rd : Fin 32) (imm : W32) (s : State) (ht0 : Kept s0 s) : ∀ t9, (execLi q rd imm s) = .next t9 → Kept s0 t9 := by
  intro t9 ht; unfold execLi at ht; injection ht with ht; subst ht; try dsimp only
  repeat' with_reducible first | assumption | intro _ _ _ | intro _ _ | apply kept_slotCommand | exact kept_mk (by assumption) .. | split

theorem kept_execLih {s0 : State} (q : Fin 4) (rd : Fin 32) (imm : W32) (s : State) (ht0 : Kept s0 s) : ∀ t9, (execLih q rd imm s) = .next t9 → Kept s0 t9 := by
  intro t9 ht; unfold execLih at ht; injection ht with ht; subst ht; try dsimp only
  repeat' with_reducible first | assumption | intro _ _ _ | intro _ _ | apply kept_slotCommand | exact kept_mk (by assumption) .. | split

theorem kept_execLi64 {s0 : State} (q : Fin 4) (rd : Fin 32) (imm : W64) (s : State) (ht0 : Kept s0 s) : ∀ t9, (execLi64 q rd imm s) = .next t9 → Kept s0 t9 := by
  intro t9 ht; unfold execLi64 at ht; injection ht with ht; subst ht; try dsimp only
  repeat' with_reducible first | assumption | intro _ _ _ | intro _ _ | apply kept_slotCommand | exact kept_mk (by assumption) .. | split

theorem kept_execAdd {s0 : State} (q : Fin 4) (rd : Fin 32) (rs1 : Fin 32) (rs2 : Fin 32) (s : State) (ht0 : Kept s0 s) : ∀ t9, (execAdd q rd rs1 rs2 s) = .next t9 → Kept s0 t9 := by
  intro t9 ht; unfold execAdd at ht; injection ht with ht; subst ht; try dsimp only
  repeat' with_reducible first | assumption | intro _ _ _ | intro _ _ | apply kept_slotCommand | exact kept_mk (by assumption) .. | split

theorem kept_execSub {s0 : State} (q : Fin 4) (rd : Fin 32) (rs1 : Fin 32) (rs2 : Fin 32) (s : State) (ht0 : Kept s0 s) : ∀ t9, (execSub q rd rs1 rs2 s) = .next t9 → Kept s0 t9 := by
  intro t9 ht; unfold execSub at ht; injection ht with ht; subst ht; try dsimp only
  repeat' with_reducible first | assumption | intro _ _ _ | intro _ _ | apply kept_slotCommand | exact kept_mk (by assumption) .. | split

theorem kept_execMul {s0 : State} (q : Fin 4) (rd : Fin 32) (rs1 : Fin 32) (rs2 : Fin 32) (s : State) (ht0 : Kept s0 s) : ∀ t9, (execMul q rd rs1 rs2 s) = .next t9 → Kept s0 t9 := by
  intro t9 ht; unfold execMul at ht; injection ht with ht; subst ht; try dsimp only
  repeat' with_reducible first | assumption | intro _ _ _ | intro _ _ | apply kept_slotCommand | exact kept_mk (by assumption) .. | split

theorem kept_execAnd {s0 : State} (q : Fin 4) (rd : Fin 32) (rs1 : Fin 32) (rs2 : Fin 32) (s : State) (ht0 : Kept s0 s) : ∀ t9, (execAnd q rd rs1 rs2 s) = .next t9 → Kept s0 t9 := by
  intro t9 ht; unfold execAnd at ht; injection ht with ht; subst ht; try dsimp only
  repeat' with_reducible first | assumption | intro _ _ _ | intro _ _ | apply kept_slotCommand | exact kept_mk (by assumption) .. | split

theorem kept_execOr {s0 : State} (q : Fin 4) (rd : Fin 32) (rs1 : Fin 32) (rs2 : Fin 32) (s : State) (ht0 : Kept s0 s) : ∀ t9, (execOr q rd rs1 rs2 s) = .next t9 → Kept s0 t9 := by
  intro t9 ht; unfold execOr at ht; injection ht with ht; subst ht; try dsimp only
  repeat' with_reducible first | assumption | intro _ _ _ | intro _ _ | apply kept_slotCommand | exact kept_mk (by assumption) .. | split

theorem kept_execXor {s0 : State} (q : Fin 4) (rd : Fin 32) (rs1 : Fin 32) (rs2 : Fin 32) (s : State) (ht0 : Kept s0 s) : ∀ t9, (execXor q rd rs1 rs2 s) = .next t9 → Kept s0 t9 := by
  intro t9 ht; unfold execXor at ht; injection ht with ht; subst ht; try dsimp only
  repeat' with_reducible first | assumption | intro _ _ _ | intro _ _ | apply kept_slotCommand | exact kept_mk (by assumption) .. | split

theorem kept_execShl {s0 : State} (q : Fin 4) (rd : Fin 32) (rs1 : Fin 32) (rs2 : Fin 32) (s : State) (ht0 : Kept s0 s) : ∀ t9, (execShl q rd rs1 rs2 s) = .next t9 → Kept s0 t9 := by
  intro t9 ht; unfold execShl at ht; injection ht with ht; subst ht; try dsimp only
  repeat' with_reducible first | assumption | intro _ _ _ | intro _ _ | apply kept_slotCommand | exact kept_mk (by assumption) .. | split

theorem kept_execShr {s0 : State} (q : Fin 4) (rd : Fin 32) (rs1 : Fin 32) (rs2 : Fin 32) (s : State) (ht0 : Kept s0 s) : ∀ t9, (execShr q rd rs1 rs2 s) = .next t9 → Kept s0 t9 := by
  intro t9 ht; unfold execShr at ht; injection ht with ht; subst ht; try dsimp only
  repeat' with_reducible first | assumption | intro _ _ _ | intro _ _ | apply kept_slotCommand | exact kept_mk (by assumption) .. | split

theorem kept_execSar {s0 : State} (q : Fin 4) (rd : Fin 32) (rs1 : Fin 32) (rs2 : Fin 32) (s : State) (ht0 : Kept s0 s) : ∀ t9, (execSar q rd rs1 rs2 s) = .next t9 → Kept s0 t9 := by
  intro t9 ht; unfold execSar at ht; injection ht with ht; subst ht; try dsimp only
  repeat' with_reducible first | assumption | intro _ _ _ | intro _ _ | apply kept_slotCommand | exact kept_mk (by assumption) .. | split

theorem kept_execSlt {s0 : State} (q : Fin 4) (rd : Fin 32) (rs1 : Fin 32) (rs2 : Fin 32) (s : State) (ht0 : Kept s0 s) : ∀ t9, (execSlt q rd rs1 rs2 s) = .next t9 → Kept s0 t9 := by
  intro t9 ht; unfold execSlt at ht; injection ht with ht; subst ht; try dsimp only
  repeat' with_reducible first | assumption | intro _ _ _ | intro _ _ | apply kept_slotCommand | exact kept_mk (by assumption) .. | split

theorem kept_execSltu {s0 : State} (q : Fin 4) (rd : Fin 32) (rs1 : Fin 32) (rs2 : Fin 32) (s : State) (ht0 : Kept s0 s) : ∀ t9, (execSltu q rd rs1 rs2 s) = .next t9 → Kept s0 t9 := by
  intro t9 ht; unfold execSltu at ht; injection ht with ht; subst ht; try dsimp only
  repeat' with_reducible first | assumption | intro _ _ _ | intro _ _ | apply kept_slotCommand | exact kept_mk (by assumption) .. | split

theorem kept_execAddi {s0 : State} (q : Fin 4) (rd : Fin 32) (rs1 : Fin 32) (imm : W32) (s : State) (ht0 : Kept s0 s) : ∀ t9, (execAddi q rd rs1 imm s) = .next t9 → Kept s0 t9 := by
  intro t9 ht; unfold execAddi at ht; injection ht with ht; subst ht; try dsimp only
  repeat' with_reducible first | assumption | intro _ _ _ | intro _ _ | apply kept_slotCommand | exact kept_mk (by assumption) .. | split

theorem kept_execAndi {s0 : State} (q : Fin 4) (rd : Fin 32) (rs1 : Fin 32) (imm : W32) (s : State) (ht0 : Kept s0 s) : ∀ t9, (execAndi q rd rs1 imm s) = .next t9 → Kept s0 t9 := by
  intro t9 ht; unfold execAndi at ht; injection ht with ht; subst ht; try dsimp only
  repeat' with_reducible first | assumption | intro _ _ _ | intro _ _ | apply kept_slotCommand | exact kept_mk (by assumption) .. | split

theorem kept_execOri {s0 : State} (q : Fin 4) (rd : Fin 32) (rs1 : Fin 32) (imm : W32) (s : State) (ht0 : Kept s0 s) : ∀ t9, (execOri q rd rs1 imm s) = .next t9 → Kept s0 t9 := by
  intro t9 ht; unfold execOri at ht; injection ht with ht; subst ht; try dsimp only
  repeat' with_reducible first | assumption | intro _ _ _ | intro _ _ | apply kept_slotCommand | exact kept_mk (by assumption) .. | split

theorem kept_execShli {s0 : State} (q : Fin 4) (rd : Fin 32) (rs1 : Fin 32) (sh : Fin 64) (s : State) (ht0 : Kept s0 s) : ∀ t9, (execShli q rd rs1 sh s) = .next t9 → Kept s0 t9 := by
  intro t9 ht; unfold execShli at ht; injection ht with ht; subst ht; try dsimp only
  repeat' with_reducible first | assumption | intro _ _ _ | intro _ _ | apply kept_slotCommand | exact kept_mk (by assumption) .. | split

theorem kept_execShri {s0 : State} (q : Fin 4) (rd : Fin 32) (rs1 : Fin 32) (sh : Fin 64) (s : State) (ht0 : Kept s0 s) : ∀ t9, (execShri q rd rs1 sh s) = .next t9 → Kept s0 t9 := by
  intro t9 ht; unfold execShri at ht; injection ht with ht; subst ht; try dsimp only
  repeat' with_reducible first | assumption | intro _ _ _ | intro _ _ | apply kept_slotCommand | exact kept_mk (by assumption) .. | split

theorem kept_execSari {s0 : State} (q : Fin 4) (rd : Fin 32) (rs1 : Fin 32) (sh : Fin 64) (s : State) (ht0 : Kept s0 s) : ∀ t9, (execSari q rd rs1 sh s) = .next t9 → Kept s0 t9 := by
  intro t9 ht; unfold execSari at ht; injection ht with ht; subst ht; try dsimp only
  repeat' with_reducible first | assumption | intro _ _ _ | intro _ _ | apply kept_slotCommand | exact kept_mk (by assumption) .. | split

theorem kept_execGrpi {s0 : State} (q : Fin 4) (gr : Fin 32) (mask : W64) (s : State) (ht0 : Kept s0 s) : ∀ t9, (execGrpi q gr mask s) = .next t9 → Kept s0 t9 := by
  intro t9 ht; unfold execGrpi at ht; injection ht with ht; subst ht; try dsimp only
  repeat' with_reducible first | assumption | intro _ _ _ | intro _ _ | apply kept_slotCommand | exact kept_mk (by assumption) .. | split

theorem kept_execGrp {s0 : State} (q : Fin 4) (gr : Fin 32) (rs1 : Fin 32) (s : State) (ht0 : Kept s0 s) : ∀ t9, (execGrp q gr rs1 s) = .next t9 → Kept s0 t9 := by
  intro t9 ht; unfold execGrp at ht; injection ht with ht; subst ht; try dsimp only
  repeat' with_reducible first | assumption | intro _ _ _ | intro _ _ | apply kept_slotCommand | exact kept_mk (by assumption) .. | split

/-! ### FlowOps -/

theorem kept_execJmp {s0 : State} (q : Fin 4) (off : W32) (s : State) (ht0 : Kept s0 s) : ∀ t9, (execJmp q off s) = .next t9 → Kept s0 t9 := by
  intro t9 ht; unfold execJmp at ht; injection ht with ht; subst ht; try dsimp only
  repeat' with_reducible first | assumption | intro _ _ _ | intro _ _ | apply kept_slotCommand | exact kept_mk (by assumption) .. | split

theorem kept_execBeq {s0 : State} (q : Fin 4) (rs1 : Fin 32) (rs2 : Fin 32) (off : W32) (s : State) (ht0 : Kept s0 s) : ∀ t9, (execBeq q rs1 rs2 off s) = .next t9 → Kept s0 t9 := by
  intro t9 ht; unfold execBeq at ht; injection ht with ht; subst ht; try dsimp only
  repeat' with_reducible first | assumption | intro _ _ _ | intro _ _ | apply kept_slotCommand | exact kept_mk (by assumption) .. | split

theorem kept_execBne {s0 : State} (q : Fin 4) (rs1 : Fin 32) (rs2 : Fin 32) (off : W32) (s : State) (ht0 : Kept s0 s) : ∀ t9, (execBne q rs1 rs2 off s) = .next t9 → Kept s0 t9 := by
  intro t9 ht; unfold execBne at ht; injection ht with ht; subst ht; try dsimp only
  repeat' with_reducible first | assumption | intro _ _ _ | intro _ _ | apply kept_slotCommand | exact kept_mk (by assumption) .. | split

theorem kept_execBlt {s0 : State} (q : Fin 4) (rs1 : Fin 32) (rs2 : Fin 32) (off : W32) (s : State) (ht0 : Kept s0 s) : ∀ t9, (execBlt q rs1 rs2 off s) = .next t9 → Kept s0 t9 := by
  intro t9 ht; unfold execBlt at ht; injection ht with ht; subst ht; try dsimp only
  repeat' with_reducible first | assumption | intro _ _ _ | intro _ _ | apply kept_slotCommand | exact kept_mk (by assumption) .. | split

theorem kept_execBge {s0 : State} (q : Fin 4) (rs1 : Fin 32) (rs2 : Fin 32) (off : W32) (s : State) (ht0 : Kept s0 s) : ∀ t9, (execBge q rs1 rs2 off s) = .next t9 → Kept s0 t9 := by
  intro t9 ht; unfold execBge at ht; injection ht with ht; subst ht; try dsimp only
  repeat' with_reducible first | assumption | intro _ _ _ | intro _ _ | apply kept_slotCommand | exact kept_mk (by assumption) .. | split

theorem kept_execBltu {s0 : State} (q : Fin 4) (rs1 : Fin 32) (rs2 : Fin 32) (off : W32) (s : State) (ht0 : Kept s0 s) : ∀ t9, (execBltu q rs1 rs2 off s) = .next t9 → Kept s0 t9 := by
  intro t9 ht; unfold execBltu at ht; injection ht with ht; subst ht; try dsimp only
  repeat' with_reducible first | assumption | intro _ _ _ | intro _ _ | apply kept_slotCommand | exact kept_mk (by assumption) .. | split

theorem kept_execBgeu {s0 : State} (q : Fin 4) (rs1 : Fin 32) (rs2 : Fin 32) (off : W32) (s : State) (ht0 : Kept s0 s) : ∀ t9, (execBgeu q rs1 rs2 off s) = .next t9 → Kept s0 t9 := by
  intro t9 ht; unfold execBgeu at ht; injection ht with ht; subst ht; try dsimp only
  repeat' with_reducible first | assumption | intro _ _ _ | intro _ _ | apply kept_slotCommand | exact kept_mk (by assumption) .. | split

theorem kept_execLoop {s0 : State} (q : Fin 4) (rs1 : Fin 32) (off : W32) (s : State) (ht0 : Kept s0 s) : ∀ t9, (execLoop q rs1 off s) = .next t9 → Kept s0 t9 := by
  intro t9 ht; unfold execLoop at ht; injection ht with ht; subst ht; try dsimp only
  repeat' with_reducible first | assumption | intro _ _ _ | intro _ _ | apply kept_slotCommand | exact kept_mk (by assumption) .. | split

theorem kept_execCommit {s0 : State} (q : Fin 4) (s : State) (ht0 : Kept s0 s) : ∀ t9, (execCommit q s) = .next t9 → Kept s0 t9 := by
  intro t9 ht; unfold execCommit at ht; injection ht with ht; subst ht; try dsimp only
  repeat' with_reducible first | assumption | intro _ _ _ | intro _ _ | apply kept_slotCommand | exact kept_mk (by assumption) .. | split

theorem kept_execRecipeEnd {s0 : State} (q : Fin 4) (s : State) (ht0 : Kept s0 s) : ∀ t9, (execRecipeEnd q s) = .next t9 → Kept s0 t9 := by
  intro t9 ht; unfold execRecipeEnd at ht; injection ht with ht; subst ht; try dsimp only
  repeat' with_reducible first | assumption | intro _ _ _ | intro _ _ | apply kept_slotCommand | exact kept_mk (by assumption) .. | split

theorem kept_execWaitm {s0 : State} (q : Fin 4) (tg : Fin 4) (mask : W64) (s : State) (ht0 : Kept s0 s) : ∀ t9, (execWaitm q tg mask s) = .next t9 → Kept s0 t9 := by
  intro t9 ht; unfold execWaitm at ht; injection ht with ht; subst ht; try dsimp only
  repeat' with_reducible first | assumption | intro _ _ _ | intro _ _ | apply kept_slotCommand | exact kept_mk (by assumption) .. | split

theorem kept_execWaitr {s0 : State} (q : Fin 4) (first : BitVec 8) (last : BitVec 8) (s : State) (ht0 : Kept s0 s) : ∀ t9, (execWaitr q first last s) = .next t9 → Kept s0 t9 := by
  intro t9 ht; unfold execWaitr at ht; injection ht with ht; subst ht; try dsimp only
  repeat' with_reducible first | assumption | intro _ _ _ | intro _ _ | apply kept_slotCommand | exact kept_mk (by assumption) .. | split

theorem kept_execPref {s0 : State} (q : Fin 4) (page : BitVec 16) (tok : BitVec 8) (s : State) (ht0 : Kept s0 s) : ∀ t9, (execPref q page tok s) = .next t9 → Kept s0 t9 := by
  intro t9 ht; unfold execPref at ht; injection ht with ht; subst ht; try dsimp only
  repeat' with_reducible first | assumption | intro _ _ _ | intro _ _ | apply kept_slotCommand | exact kept_mk (by assumption) .. | split

theorem kept_execPrefr {s0 : State} (q : Fin 4) (rs1 : Fin 32) (tok : BitVec 8) (s : State) (ht0 : Kept s0 s) : ∀ t9, (execPrefr q rs1 tok s) = .next t9 → Kept s0 t9 := by
  intro t9 ht; unfold execPrefr at ht; injection ht with ht; subst ht; try dsimp only
  repeat' with_reducible first | assumption | intro _ _ _ | intro _ _ | apply kept_slotCommand | exact kept_mk (by assumption) .. | split

/-! ### EngineOps -/

theorem kept_orderCommand {s0 : State} (s : State) (q : Nat) (sl : Slot) (ht0 : Kept s0 s) : Kept s0 (State.orderCommand s q sl) := by
  unfold State.orderCommand; try dsimp only
  repeat' with_reducible first | assumption | intro _ _ _ | intro _ _ | apply kept_freezeOn | apply kept_slotCommand | exact kept_mk (by assumption) .. | split

theorem kept_execSold {s0 : State} (q : Fin 4) (cls : Fin 16) (sel : Sel) (start : Bool) (rec : W32) (s : State) (ht0 : Kept s0 s) : ∀ t9, (execSold q cls sel start rec s) = .next t9 → Kept s0 t9 := by
  intro t9 ht; unfold execSold at ht; injection ht with ht; subst ht; try dsimp only
  repeat' with_reducible first | assumption | intro _ _ _ | intro _ _ | apply kept_orderCommand | exact kept_mk (by assumption) .. | split

theorem kept_execSostart {s0 : State} (q : Fin 4) (cls : Fin 16) (sel : Sel) (s : State) (ht0 : Kept s0 s) : ∀ t9, (execSostart q cls sel s) = .next t9 → Kept s0 t9 := by
  intro t9 ht; unfold execSostart at ht; injection ht with ht; subst ht; try dsimp only
  repeat' with_reducible first | assumption | intro _ _ _ | intro _ _ | apply kept_orderCommand | exact kept_mk (by assumption) .. | split

theorem kept_execSostop {s0 : State} (q : Fin 4) (cls : Fin 16) (sel : Sel) (s : State) (ht0 : Kept s0 s) : ∀ t9, (execSostop q cls sel s) = .next t9 → Kept s0 t9 := by
  intro t9 ht; unfold execSostop at ht; injection ht with ht; subst ht; try dsimp only
  repeat' with_reducible first | assumption | intro _ _ _ | intro _ _ | apply kept_orderCommand | exact kept_mk (by assumption) .. | split

theorem kept_execSogen {s0 : State} (q : Fin 4) (cls : Fin 16) (sel : Sel) (g : Fin 4) (rs : Fin 32) (s : State) (ht0 : Kept s0 s) : ∀ t9, (execSogen q cls sel g rs s) = .next t9 → Kept s0 t9 := by
  intro t9 ht; unfold execSogen at ht; injection ht with ht; subst ht; try dsimp only
  repeat' with_reducible first | assumption | intro _ _ _ | intro _ _ | apply kept_orderCommand | exact kept_mk (by assumption) .. | split

theorem kept_execSoloop {s0 : State} (q : Fin 4) (cls : Fin 16) (sel : Sel) (l : Fin 4) (rs : Fin 32) (s : State) (ht0 : Kept s0 s) : ∀ t9, (execSoloop q cls sel l rs s) = .next t9 → Kept s0 t9 := by
  intro t9 ht; unfold execSoloop at ht; injection ht with ht; subst ht; try dsimp only
  repeat' with_reducible first | assumption | intro _ _ _ | intro _ _ | apply kept_orderCommand | exact kept_mk (by assumption) .. | split

theorem kept_execMcfg {s0 : State} (q : Fin 4) (sel : Sel) (w1 : W32) (w2 : W32) (ecc : List MemUpset) (s : State) (ht0 : Kept s0 s) : ∀ t9, (execMcfg q sel w1 w2 ecc s) = .next t9 → Kept s0 t9 := by
  intro t9 ht; unfold execMcfg at ht; injection ht with ht; subst ht; try dsimp only
  repeat' with_reducible first | assumption | intro _ _ _ | intro _ _ | apply kept_slotCommand | apply kept_upset | exact kept_mk (by assumption) .. | split

theorem kept_execMms {s0 : State} (q : Fin 4) (sel : Sel) (a : BitVec 16) (b : BitVec 16) (ecc : List MemUpset) (s : State) (ht0 : Kept s0 s) : ∀ t9, (execMms q sel a b ecc s) = .next t9 → Kept s0 t9 := by
  intro t9 ht; unfold execMms at ht; injection ht with ht; subst ht; try dsimp only
  repeat' with_reducible first | assumption | intro _ _ _ | intro _ _ | apply kept_slotCommand | apply kept_upset | exact kept_mk (by assumption) .. | split

theorem kept_execMmc {s0 : State} (q : Fin 4) (sel : Sel) (a : BitVec 16) (b : BitVec 16) (ecc : List MemUpset) (s : State) (ht0 : Kept s0 s) : ∀ t9, (execMmc q sel a b ecc s) = .next t9 → Kept s0 t9 := by
  intro t9 ht; unfold execMmc at ht; injection ht with ht; subst ht; try dsimp only
  repeat' with_reducible first | assumption | intro _ _ _ | intro _ _ | apply kept_slotCommand | apply kept_upset | exact kept_mk (by assumption) .. | split

theorem kept_execMme {s0 : State} (q : Fin 4) (sel : Sel) (a : BitVec 16) (b : BitVec 16) (c : BitVec 16) (ecc : List MemUpset) (s : State) (ht0 : Kept s0 s) : ∀ t9, (execMme q sel a b c ecc s) = .next t9 → Kept s0 t9 := by
  intro t9 ht; unfold execMme at ht; injection ht with ht; subst ht; try dsimp only
  repeat' with_reducible first | assumption | intro _ _ _ | intro _ _ | apply kept_slotCommand | apply kept_upset | exact kept_mk (by assumption) .. | split

theorem kept_execMmse {s0 : State} (q : Fin 4) (sel : Sel) (a : BitVec 16) (b : BitVec 16) (c : BitVec 16) (ecc : List MemUpset) (s : State) (ht0 : Kept s0 s) : ∀ t9, (execMmse q sel a b c ecc s) = .next t9 → Kept s0 t9 := by
  intro t9 ht; unfold execMmse at ht; injection ht with ht; subst ht; try dsimp only
  repeat' with_reducible first | assumption | intro _ _ _ | intro _ _ | apply kept_slotCommand | apply kept_upset | exact kept_mk (by assumption) .. | split

theorem kept_execMmss {s0 : State} (q : Fin 4) (sel : Sel) (a : BitVec 16) (b : BitVec 16) (c : BitVec 16) (ecc : List MemUpset) (s : State) (ht0 : Kept s0 s) : ∀ t9, (execMmss q sel a b c ecc s) = .next t9 → Kept s0 t9 := by
  intro t9 ht; unfold execMmss at ht; injection ht with ht; subst ht; try dsimp only
  repeat' with_reducible first | assumption | intro _ _ _ | intro _ _ | apply kept_slotCommand | apply kept_upset | exact kept_mk (by assumption) .. | split

theorem kept_execVcfg {s0 : State} (q : Fin 4) (sel : Sel) (w1 : W32) (ecc : List MemUpset) (s : State) (ht0 : Kept s0 s) : ∀ t9, (execVcfg q sel w1 ecc s) = .next t9 → Kept s0 t9 := by
  intro t9 ht; unfold execVcfg at ht; injection ht with ht; subst ht; try dsimp only
  repeat' with_reducible first | assumption | intro _ _ _ | intro _ _ | apply kept_slotCommand | apply kept_upset | exact kept_mk (by assumption) .. | split

theorem kept_execVadd {s0 : State} (q : Fin 4) (sel : Sel) (mod : Fin 128) (a : BitVec 16) (b : BitVec 16) (d : BitVec 16) (ecc : List MemUpset) (s : State) (ht0 : Kept s0 s) : ∀ t9, (execVadd q sel mod a b d ecc s) = .next t9 → Kept s0 t9 := by
  intro t9 ht; unfold execVadd at ht; injection ht with ht; subst ht; try dsimp only
  repeat' with_reducible first | assumption | intro _ _ _ | intro _ _ | apply kept_slotCommand | apply kept_upset | exact kept_mk (by assumption) .. | split

theorem kept_execVmul {s0 : State} (q : Fin 4) (sel : Sel) (mod : Fin 128) (a : BitVec 16) (b : BitVec 16) (d : BitVec 16) (ecc : List MemUpset) (s : State) (ht0 : Kept s0 s) : ∀ t9, (execVmul q sel mod a b d ecc s) = .next t9 → Kept s0 t9 := by
  intro t9 ht; unfold execVmul at ht; injection ht with ht; subst ht; try dsimp only
  repeat' with_reducible first | assumption | intro _ _ _ | intro _ _ | apply kept_slotCommand | apply kept_upset | exact kept_mk (by assumption) .. | split

theorem kept_execVmax {s0 : State} (q : Fin 4) (sel : Sel) (mod : Fin 128) (a : BitVec 16) (b : BitVec 16) (d : BitVec 16) (ecc : List MemUpset) (s : State) (ht0 : Kept s0 s) : ∀ t9, (execVmax q sel mod a b d ecc s) = .next t9 → Kept s0 t9 := by
  intro t9 ht; unfold execVmax at ht; injection ht with ht; subst ht; try dsimp only
  repeat' with_reducible first | assumption | intro _ _ _ | intro _ _ | apply kept_slotCommand | apply kept_upset | exact kept_mk (by assumption) .. | split

theorem kept_execVmin {s0 : State} (q : Fin 4) (sel : Sel) (mod : Fin 128) (a : BitVec 16) (b : BitVec 16) (d : BitVec 16) (ecc : List MemUpset) (s : State) (ht0 : Kept s0 s) : ∀ t9, (execVmin q sel mod a b d ecc s) = .next t9 → Kept s0 t9 := by
  intro t9 ht; unfold execVmin at ht; injection ht with ht; subst ht; try dsimp only
  repeat' with_reducible first | assumption | intro _ _ _ | intro _ _ | apply kept_slotCommand | apply kept_upset | exact kept_mk (by assumption) .. | split

theorem kept_execVfma {s0 : State} (q : Fin 4) (sel : Sel) (mod : Fin 128) (a : BitVec 16) (b : BitVec 16) (d : BitVec 16) (e : BitVec 16) (ecc : List MemUpset) (s : State) (ht0 : Kept s0 s) : ∀ t9, (execVfma q sel mod a b d e ecc s) = .next t9 → Kept s0 t9 := by
  intro t9 ht; unfold execVfma at ht; injection ht with ht; subst ht; try dsimp only
  repeat' with_reducible first | assumption | intro _ _ _ | intro _ _ | apply kept_slotCommand | apply kept_upset | exact kept_mk (by assumption) .. | split

theorem kept_execVscl {s0 : State} (q : Fin 4) (sel : Sel) (mod : Fin 128) (a : BitVec 16) (d : BitVec 16) (rs : Fin 32) (ecc : List MemUpset) (s : State) (ht0 : Kept s0 s) : ∀ t9, (execVscl q sel mod a d rs ecc s) = .next t9 → Kept s0 t9 := by
  intro t9 ht; unfold execVscl at ht; injection ht with ht; subst ht; try dsimp only
  repeat' with_reducible first | assumption | intro _ _ _ | intro _ _ | apply kept_slotCommand | apply kept_upset | exact kept_mk (by assumption) .. | split

theorem kept_execVred {s0 : State} (q : Fin 4) (sel : Sel) (mod : Fin 128) (a : BitVec 16) (d : BitVec 16) (ecc : List MemUpset) (s : State) (ht0 : Kept s0 s) : ∀ t9, (execVred q sel mod a d ecc s) = .next t9 → Kept s0 t9 := by
  intro t9 ht; unfold execVred at ht; injection ht with ht; subst ht; try dsimp only
  repeat' with_reducible first | assumption | intro _ _ _ | intro _ _ | apply kept_slotCommand | apply kept_upset | exact kept_mk (by assumption) .. | split

theorem kept_execVcvt {s0 : State} (q : Fin 4) (sel : Sel) (mod : Fin 128) (a : BitVec 16) (d : BitVec 16) (ecc : List MemUpset) (s : State) (ht0 : Kept s0 s) : ∀ t9, (execVcvt q sel mod a d ecc s) = .next t9 → Kept s0 t9 := by
  intro t9 ht; unfold execVcvt at ht; injection ht with ht; subst ht; try dsimp only
  repeat' with_reducible first | assumption | intro _ _ _ | intro _ _ | apply kept_slotCommand | apply kept_upset | exact kept_mk (by assumption) .. | split

theorem kept_execKcopy {s0 : State} (q : Fin 4) (sel : Sel) (mod : Fin 128) (a : BitVec 16) (d : BitVec 16) (ecc : List MemUpset) (s : State) (ht0 : Kept s0 s) : ∀ t9, (execKcopy q sel mod a d ecc s) = .next t9 → Kept s0 t9 := by
  intro t9 ht; unfold execKcopy at ht; injection ht with ht; subst ht; try dsimp only
  repeat' with_reducible first | assumption | intro _ _ _ | intro _ _ | apply kept_slotCommand | apply kept_upset | exact kept_mk (by assumption) .. | split

theorem kept_execKtrans {s0 : State} (q : Fin 4) (sel : Sel) (mod : Fin 128) (a : BitVec 16) (d : BitVec 16) (param : BitVec 16) (ecc : List MemUpset) (s : State) (ht0 : Kept s0 s) : ∀ t9, (execKtrans q sel mod a d param ecc s) = .next t9 → Kept s0 t9 := by
  intro t9 ht; unfold execKtrans at ht; injection ht with ht; subst ht; try dsimp only
  repeat' with_reducible first | assumption | intro _ _ _ | intro _ _ | apply kept_slotCommand | apply kept_upset | exact kept_mk (by assumption) .. | split

theorem kept_execKperm {s0 : State} (q : Fin 4) (sel : Sel) (mod : Fin 128) (a : BitVec 16) (b : BitVec 16) (d : BitVec 16) (param : BitVec 16) (ecc : List MemUpset) (s : State) (ht0 : Kept s0 s) : ∀ t9, (execKperm q sel mod a b d param ecc s) = .next t9 → Kept s0 t9 := by
  intro t9 ht; unfold execKperm at ht; injection ht with ht; subst ht; try dsimp only
  repeat' with_reducible first | assumption | intro _ _ _ | intro _ _ | apply kept_slotCommand | apply kept_upset | exact kept_mk (by assumption) .. | split

theorem kept_execKgath {s0 : State} (q : Fin 4) (sel : Sel) (mod : Fin 128) (a : BitVec 16) (b : BitVec 16) (d : BitVec 16) (param : BitVec 16) (ecc : List MemUpset) (s : State) (ht0 : Kept s0 s) : ∀ t9, (execKgath q sel mod a b d param ecc s) = .next t9 → Kept s0 t9 := by
  intro t9 ht; unfold execKgath at ht; injection ht with ht; subst ht; try dsimp only
  repeat' with_reducible first | assumption | intro _ _ _ | intro _ _ | apply kept_slotCommand | apply kept_upset | exact kept_mk (by assumption) .. | split

theorem kept_execKscat {s0 : State} (q : Fin 4) (sel : Sel) (mod : Fin 128) (a : BitVec 16) (b : BitVec 16) (d : BitVec 16) (param : BitVec 16) (ecc : List MemUpset) (s : State) (ht0 : Kept s0 s) : ∀ t9, (execKscat q sel mod a b d param ecc s) = .next t9 → Kept s0 t9 := by
  intro t9 ht; unfold execKscat at ht; injection ht with ht; subst ht; try dsimp only
  repeat' with_reducible first | assumption | intro _ _ _ | intro _ _ | apply kept_slotCommand | apply kept_upset | exact kept_mk (by assumption) .. | split

theorem kept_execFcfg {s0 : State} (q : Fin 4) (sel : Sel) (w1 : W32) (w2 : W32) (ecc : List MemUpset) (s : State) (ht0 : Kept s0 s) : ∀ t9, (execFcfg q sel w1 w2 ecc s) = .next t9 → Kept s0 t9 := by
  intro t9 ht; unfold execFcfg at ht; injection ht with ht; subst ht; try dsimp only
  repeat' with_reducible first | assumption | intro _ _ _ | intro _ _ | apply kept_slotCommand | apply kept_upset | exact kept_mk (by assumption) .. | split

theorem kept_execFcvt {s0 : State} (q : Fin 4) (sel : Sel) (mod : Fin 128) (a : BitVec 16) (b : BitVec 16) (d : BitVec 16) (e : BitVec 16) (ecc : List MemUpset) (s : State) (ht0 : Kept s0 s) : ∀ t9, (execFcvt q sel mod a b d e ecc s) = .next t9 → Kept s0 t9 := by
  intro t9 ht; unfold execFcvt at ht; injection ht with ht; subst ht; try dsimp only
  repeat' with_reducible first | assumption | intro _ _ _ | intro _ _ | apply kept_slotCommand | apply kept_upset | exact kept_mk (by assumption) .. | split

theorem kept_execFscale {s0 : State} (q : Fin 4) (sel : Sel) (mod : Fin 128) (a : BitVec 16) (b : BitVec 16) (e : BitVec 16) (ecc : List MemUpset) (s : State) (ht0 : Kept s0 s) : ∀ t9, (execFscale q sel mod a b e ecc s) = .next t9 → Kept s0 t9 := by
  intro t9 ht; unfold execFscale at ht; injection ht with ht; subst ht; try dsimp only
  repeat' with_reducible first | assumption | intro _ _ _ | intro _ _ | apply kept_slotCommand | apply kept_upset | exact kept_mk (by assumption) .. | split

theorem kept_execTcfg {s0 : State} (q : Fin 4) (sel : Sel) (w1 : W32) (ecc : List MemUpset) (s : State) (ht0 : Kept s0 s) : ∀ t9, (execTcfg q sel w1 ecc s) = .next t9 → Kept s0 t9 := by
  intro t9 ht; unfold execTcfg at ht; injection ht with ht; subst ht; try dsimp only
  repeat' with_reducible first | assumption | intro _ _ _ | intro _ _ | apply kept_slotCommand | apply kept_upset | exact kept_mk (by assumption) .. | split

theorem kept_execTexp {s0 : State} (q : Fin 4) (sel : Sel) (mod : Fin 128) (a : BitVec 16) (d : BitVec 16) (ecc : List MemUpset) (s : State) (ht0 : Kept s0 s) : ∀ t9, (execTexp q sel mod a d ecc s) = .next t9 → Kept s0 t9 := by
  intro t9 ht; unfold execTexp at ht; injection ht with ht; subst ht; try dsimp only
  repeat' with_reducible first | assumption | intro _ _ _ | intro _ _ | apply kept_slotCommand | apply kept_upset | exact kept_mk (by assumption) .. | split

theorem kept_execTlog {s0 : State} (q : Fin 4) (sel : Sel) (mod : Fin 128) (a : BitVec 16) (d : BitVec 16) (ecc : List MemUpset) (s : State) (ht0 : Kept s0 s) : ∀ t9, (execTlog q sel mod a d ecc s) = .next t9 → Kept s0 t9 := by
  intro t9 ht; unfold execTlog at ht; injection ht with ht; subst ht; try dsimp only
  repeat' with_reducible first | assumption | intro _ _ _ | intro _ _ | apply kept_slotCommand | apply kept_upset | exact kept_mk (by assumption) .. | split

theorem kept_execTrcp {s0 : State} (q : Fin 4) (sel : Sel) (mod : Fin 128) (a : BitVec 16) (d : BitVec 16) (ecc : List MemUpset) (s : State) (ht0 : Kept s0 s) : ∀ t9, (execTrcp q sel mod a d ecc s) = .next t9 → Kept s0 t9 := by
  intro t9 ht; unfold execTrcp at ht; injection ht with ht; subst ht; try dsimp only
  repeat' with_reducible first | assumption | intro _ _ _ | intro _ _ | apply kept_slotCommand | apply kept_upset | exact kept_mk (by assumption) .. | split

theorem kept_execTrsq {s0 : State} (q : Fin 4) (sel : Sel) (mod : Fin 128) (a : BitVec 16) (d : BitVec 16) (ecc : List MemUpset) (s : State) (ht0 : Kept s0 s) : ∀ t9, (execTrsq q sel mod a d ecc s) = .next t9 → Kept s0 t9 := by
  intro t9 ht; unfold execTrsq at ht; injection ht with ht; subst ht; try dsimp only
  repeat' with_reducible first | assumption | intro _ _ _ | intro _ _ | apply kept_slotCommand | apply kept_upset | exact kept_mk (by assumption) .. | split

theorem kept_execTtanh {s0 : State} (q : Fin 4) (sel : Sel) (mod : Fin 128) (a : BitVec 16) (d : BitVec 16) (ecc : List MemUpset) (s : State) (ht0 : Kept s0 s) : ∀ t9, (execTtanh q sel mod a d ecc s) = .next t9 → Kept s0 t9 := by
  intro t9 ht; unfold execTtanh at ht; injection ht with ht; subst ht; try dsimp only
  repeat' with_reducible first | assumption | intro _ _ _ | intro _ _ | apply kept_slotCommand | apply kept_upset | exact kept_mk (by assumption) .. | split

theorem kept_execTsigm {s0 : State} (q : Fin 4) (sel : Sel) (mod : Fin 128) (a : BitVec 16) (d : BitVec 16) (ecc : List MemUpset) (s : State) (ht0 : Kept s0 s) : ∀ t9, (execTsigm q sel mod a d ecc s) = .next t9 → Kept s0 t9 := by
  intro t9 ht; unfold execTsigm at ht; injection ht with ht; subst ht; try dsimp only
  repeat' with_reducible first | assumption | intro _ _ _ | intro _ _ | apply kept_slotCommand | apply kept_upset | exact kept_mk (by assumption) .. | split

theorem kept_execTsin {s0 : State} (q : Fin 4) (sel : Sel) (mod : Fin 128) (a : BitVec 16) (d : BitVec 16) (ecc : List MemUpset) (s : State) (ht0 : Kept s0 s) : ∀ t9, (execTsin q sel mod a d ecc s) = .next t9 → Kept s0 t9 := by
  intro t9 ht; unfold execTsin at ht; injection ht with ht; subst ht; try dsimp only
  repeat' with_reducible first | assumption | intro _ _ _ | intro _ _ | apply kept_slotCommand | apply kept_upset | exact kept_mk (by assumption) .. | split

theorem kept_execTcos {s0 : State} (q : Fin 4) (sel : Sel) (mod : Fin 128) (a : BitVec 16) (d : BitVec 16) (ecc : List MemUpset) (s : State) (ht0 : Kept s0 s) : ∀ t9, (execTcos q sel mod a d ecc s) = .next t9 → Kept s0 t9 := by
  intro t9 ht; unfold execTcos at ht; injection ht with ht; subst ht; try dsimp only
  repeat' with_reducible first | assumption | intro _ _ _ | intro _ _ | apply kept_slotCommand | apply kept_upset | exact kept_mk (by assumption) .. | split

theorem kept_execScfg {s0 : State} (q : Fin 4) (sel : Sel) (w1 : W32) (ecc : List MemUpset) (s : State) (ht0 : Kept s0 s) : ∀ t9, (execScfg q sel w1 ecc s) = .next t9 → Kept s0 t9 := by
  intro t9 ht; unfold execScfg at ht; injection ht with ht; subst ht; try dsimp only
  repeat' with_reducible first | assumption | intro _ _ _ | intro _ _ | apply kept_slotCommand | apply kept_upset | exact kept_mk (by assumption) .. | split

theorem kept_execSsort {s0 : State} (q : Fin 4) (sel : Sel) (mod : Fin 128) (a : BitVec 16) (b : BitVec 16) (d : BitVec 16) (e : BitVec 16) (ecc : List MemUpset) (s : State) (ht0 : Kept s0 s) : ∀ t9, (execSsort q sel mod a b d e ecc s) = .next t9 → Kept s0 t9 := by
  intro t9 ht; unfold execSsort at ht; injection ht with ht; subst ht; try dsimp only
  repeat' with_reducible first | assumption | intro _ _ _ | intro _ _ | apply kept_slotCommand | apply kept_upset | exact kept_mk (by assumption) .. | split

theorem kept_execStopk {s0 : State} (q : Fin 4) (sel : Sel) (mod : Fin 128) (a : BitVec 16) (b : BitVec 16) (d : BitVec 16) (e : BitVec 16) (ecc : List MemUpset) (s : State) (ht0 : Kept s0 s) : ∀ t9, (execStopk q sel mod a b d e ecc s) = .next t9 → Kept s0 t9 := by
  intro t9 ht; unfold execStopk at ht; injection ht with ht; subst ht; try dsimp only
  repeat' with_reducible first | assumption | intro _ _ _ | intro _ _ | apply kept_slotCommand | apply kept_upset | exact kept_mk (by assumption) .. | split

theorem kept_execIcfg {s0 : State} (q : Fin 4) (sel : Sel) (w1 : W32) (ecc : List MemUpset) (s : State) (ht0 : Kept s0 s) : ∀ t9, (execIcfg q sel w1 ecc s) = .next t9 → Kept s0 t9 := by
  intro t9 ht; unfold execIcfg at ht; injection ht with ht; subst ht; try dsimp only
  repeat' with_reducible first | assumption | intro _ _ _ | intro _ _ | apply kept_slotCommand | apply kept_upset | exact kept_mk (by assumption) .. | split

theorem kept_execIhist {s0 : State} (q : Fin 4) (sel : Sel) (mod : Fin 128) (a : BitVec 16) (d : BitVec 16) (ecc : List MemUpset) (s : State) (ht0 : Kept s0 s) : ∀ t9, (execIhist q sel mod a d ecc s) = .next t9 → Kept s0 t9 := by
  intro t9 ht; unfold execIhist at ht; injection ht with ht; subst ht; try dsimp only
  repeat' with_reducible first | assumption | intro _ _ _ | intro _ _ | apply kept_slotCommand | apply kept_upset | exact kept_mk (by assumption) .. | split

theorem kept_execIpsum {s0 : State} (q : Fin 4) (sel : Sel) (mod : Fin 128) (a : BitVec 16) (d : BitVec 16) (ecc : List MemUpset) (s : State) (ht0 : Kept s0 s) : ∀ t9, (execIpsum q sel mod a d ecc s) = .next t9 → Kept s0 t9 := by
  intro t9 ht; unfold execIpsum at ht; injection ht with ht; subst ht; try dsimp only
  repeat' with_reducible first | assumption | intro _ _ _ | intro _ _ | apply kept_slotCommand | apply kept_upset | exact kept_mk (by assumption) .. | split

theorem kept_execIcomp {s0 : State} (q : Fin 4) (sel : Sel) (mod : Fin 128) (a : BitVec 16) (b : BitVec 16) (d : BitVec 16) (e : BitVec 16) (ecc : List MemUpset) (s : State) (ht0 : Kept s0 s) : ∀ t9, (execIcomp q sel mod a b d e ecc s) = .next t9 → Kept s0 t9 := by
  intro t9 ht; unfold execIcomp at ht; injection ht with ht; subst ht; try dsimp only
  repeat' with_reducible first | assumption | intro _ _ _ | intro _ _ | apply kept_slotCommand | apply kept_upset | exact kept_mk (by assumption) .. | split

theorem kept_execIroute {s0 : State} (q : Fin 4) (sel : Sel) (mod : Fin 128) (a : BitVec 16) (d : BitVec 16) (e : BitVec 16) (ecc : List MemUpset) (s : State) (ht0 : Kept s0 s) : ∀ t9, (execIroute q sel mod a d e ecc s) = .next t9 → Kept s0 t9 := by
  intro t9 ht; unfold execIroute at ht; injection ht with ht; subst ht; try dsimp only
  repeat' with_reducible first | assumption | intro _ _ _ | intro _ _ | apply kept_slotCommand | apply kept_upset | exact kept_mk (by assumption) .. | split

theorem kept_execCcomp {s0 : State} (q : Fin 4) (sel : Sel) (mod : Fin 128) (a : BitVec 16) (d : BitVec 16) (ecc : List MemUpset) (s : State) (ht0 : Kept s0 s) : ∀ t9, (execCcomp q sel mod a d ecc s) = .next t9 → Kept s0 t9 := by
  intro t9 ht; unfold execCcomp at ht; injection ht with ht; subst ht; try dsimp only
  repeat' with_reducible first | assumption | intro _ _ _ | intro _ _ | apply kept_slotCommand | apply kept_upset | exact kept_mk (by assumption) .. | split

theorem kept_execCdec {s0 : State} (q : Fin 4) (sel : Sel) (mod : Fin 128) (a : BitVec 16) (d : BitVec 16) (ecc : List MemUpset) (s : State) (ht0 : Kept s0 s) : ∀ t9, (execCdec q sel mod a d ecc s) = .next t9 → Kept s0 t9 := by
  intro t9 ht; unfold execCdec at ht; injection ht with ht; subst ht; try dsimp only
  repeat' with_reducible first | assumption | intro _ _ _ | intro _ _ | apply kept_slotCommand | apply kept_upset | exact kept_mk (by assumption) .. | split

theorem kept_execRgen {s0 : State} (q : Fin 4) (sel : Sel) (mod : Fin 128) (d : BitVec 16) (rsKey : Fin 32) (rsCtr : Fin 32) (dist : Fin 4) (rsHi : Fin 32) (ecc : List MemUpset) (s : State) (ht0 : Kept s0 s) : ∀ t9, (execRgen q sel mod d rsKey rsCtr dist rsHi ecc s) = .next t9 → Kept s0 t9 := by
  intro t9 ht; unfold execRgen at ht; injection ht with ht; subst ht; try dsimp only
  repeat' with_reducible first | assumption | intro _ _ _ | intro _ _ | apply kept_slotCommand | apply kept_upset | exact kept_mk (by assumption) .. | split

theorem kept_execRcfg {s0 : State} (q : Fin 4) (sel : Sel) (w1 : W32) (ecc : List MemUpset) (s : State) (ht0 : Kept s0 s) : ∀ t9, (execRcfg q sel w1 ecc s) = .next t9 → Kept s0 t9 := by
  intro t9 ht; unfold execRcfg at ht; injection ht with ht; subst ht; try dsimp only
  repeat' with_reducible first | assumption | intro _ _ _ | intro _ _ | apply kept_slotCommand | apply kept_upset | exact kept_mk (by assumption) .. | split

theorem kept_execRred {s0 : State} (q : Fin 4) (sel : Sel) (mod : Fin 128) (a : BitVec 16) (d : BitVec 16) (ecc : List MemUpset) (s : State) (ht0 : Kept s0 s) : ∀ t9, (execRred q sel mod a d ecc s) = .next t9 → Kept s0 t9 := by
  intro t9 ht; unfold execRred at ht; injection ht with ht; subst ht; try dsimp only
  repeat' with_reducible first | assumption | intro _ _ _ | intro _ _ | apply kept_slotCommand | apply kept_upset | exact kept_mk (by assumption) .. | split

theorem kept_execRbcast {s0 : State} (q : Fin 4) (sel : Sel) (mod : Fin 128) (a : BitVec 16) (d : BitVec 16) (ecc : List MemUpset) (s : State) (ht0 : Kept s0 s) : ∀ t9, (execRbcast q sel mod a d ecc s) = .next t9 → Kept s0 t9 := by
  intro t9 ht; unfold execRbcast at ht; injection ht with ht; subst ht; try dsimp only
  repeat' with_reducible first | assumption | intro _ _ _ | intro _ _ | apply kept_slotCommand | apply kept_upset | exact kept_mk (by assumption) .. | split

theorem kept_execRcat {s0 : State} (q : Fin 4) (sel : Sel) (mod : Fin 128) (a : BitVec 16) (d : BitVec 16) (ecc : List MemUpset) (s : State) (ht0 : Kept s0 s) : ∀ t9, (execRcat q sel mod a d ecc s) = .next t9 → Kept s0 t9 := by
  intro t9 ht; unfold execRcat at ht; injection ht with ht; subst ht; try dsimp only
  repeat' with_reducible first | assumption | intro _ _ _ | intro _ _ | apply kept_slotCommand | apply kept_upset | exact kept_mk (by assumption) .. | split

theorem kept_execDld {s0 : State} (q : Fin 4) (sel : Sel) (f : DmxFields) (s : State) (ht0 : Kept s0 s) : ∀ t9, (execDld q sel f s) = .next t9 → Kept s0 t9 := by
  intro t9 ht; unfold execDld at ht; injection ht with ht; subst ht; try dsimp only
  repeat' with_reducible first | assumption | intro _ _ _ | intro _ _ | apply kept_slotCommand | exact kept_mk (by assumption) .. | split

theorem kept_execDst {s0 : State} (q : Fin 4) (sel : Sel) (f : DmxFields) (s : State) (ht0 : Kept s0 s) : ∀ t9, (execDst q sel f s) = .next t9 → Kept s0 t9 := by
  intro t9 ht; unfold execDst at ht; injection ht with ht; subst ht; try dsimp only
  repeat' with_reducible first | assumption | intro _ _ _ | intro _ _ | apply kept_slotCommand | exact kept_mk (by assumption) .. | split

theorem kept_execDrget {s0 : State} (q : Fin 4) (sel : Sel) (f : DmxFields) (s : State) (ht0 : Kept s0 s) : ∀ t9, (execDrget q sel f s) = .next t9 → Kept s0 t9 := by
  intro t9 ht; unfold execDrget at ht; injection ht with ht; subst ht; try dsimp only
  repeat' with_reducible first | assumption | intro _ _ _ | intro _ _ | apply kept_slotCommand | exact kept_mk (by assumption) .. | split

theorem kept_execDrput {s0 : State} (q : Fin 4) (sel : Sel) (f : DmxFields) (s : State) (ht0 : Kept s0 s) : ∀ t9, (execDrput q sel f s) = .next t9 → Kept s0 t9 := by
  intro t9 ht; unfold execDrput at ht; injection ht with ht; subst ht; try dsimp only
  repeat' with_reducible first | assumption | intro _ _ _ | intro _ _ | apply kept_slotCommand | exact kept_mk (by assumption) .. | split

theorem kept_execDrputh {s0 : State} (q : Fin 4) (sel : Sel) (f : DmxFields) (s : State) (ht0 : Kept s0 s) : ∀ t9, (execDrputh q sel f s) = .next t9 → Kept s0 t9 := by
  intro t9 ht; unfold execDrputh at ht; injection ht with ht; subst ht; try dsimp only
  repeat' with_reducible first | assumption | intro _ _ _ | intro _ _ | apply kept_slotCommand | exact kept_mk (by assumption) .. | split

theorem kept_execDhrd {s0 : State} (q : Fin 4) (sel : Sel) (f : DmxFields) (s : State) (ht0 : Kept s0 s) : ∀ t9, (execDhrd q sel f s) = .next t9 → Kept s0 t9 := by
  intro t9 ht; unfold execDhrd at ht; injection ht with ht; subst ht; try dsimp only
  repeat' with_reducible first | assumption | intro _ _ _ | intro _ _ | apply kept_slotCommand | exact kept_mk (by assumption) .. | split

theorem kept_execDhwr {s0 : State} (q : Fin 4) (sel : Sel) (f : DmxFields) (s : State) (ht0 : Kept s0 s) : ∀ t9, (execDhwr q sel f s) = .next t9 → Kept s0 t9 := by
  intro t9 ht; unfold execDhwr at ht; injection ht with ht; subst ht; try dsimp only
  repeat' with_reducible first | assumption | intro _ _ _ | intro _ _ | apply kept_slotCommand | exact kept_mk (by assumption) .. | split

theorem kept_execCtrig {s0 : State} (q : Fin 4) (t : Trigger) (s : State) (ht0 : Kept s0 s) : ∀ t9, (execCtrig q t s) = .next t9 → Kept s0 t9 := by
  intro t9 ht; unfold execCtrig at ht; injection ht with ht; subst ht; try dsimp only
  repeat' with_reducible first | assumption | intro _ _ _ | intro _ _ | apply kept_slotCommand | exact kept_mk (by assumption) .. | split

theorem kept_execBtrig {s0 : State} (q : Fin 4) (mask : BitVec 12) (t : Trigger) (s : State) (ht0 : Kept s0 s) : ∀ t9, (execBtrig q mask t s) = .next t9 → Kept s0 t9 := by
  intro t9 ht; unfold execBtrig at ht; injection ht with ht; subst ht; try dsimp only
  repeat' with_reducible first | assumption | intro _ _ _ | intro _ _ | apply kept_slotCommand | exact kept_mk (by assumption) .. | split

theorem kept_execBsig {s0 : State} (q : Fin 4) (sig : Fin 64) (s : State) (ht0 : Kept s0 s) : ∀ t9, (execBsig q sig s) = .next t9 → Kept s0 t9 := by
  intro t9 ht; unfold execBsig at ht; injection ht with ht; subst ht; try dsimp only
  repeat' with_reducible first | assumption | intro _ _ _ | intro _ _ | apply kept_slotCommand | exact kept_mk (by assumption) .. | split

/-! ### FlowCmds -/

theorem kept_openTxn {s0 : State} (s : State) (key : Nat) (j : NetJob) (ht0 : Kept s0 s) : Kept s0 (State.openTxn s key j) := by
  unfold State.openTxn; try dsimp only
  repeat' with_reducible first | assumption | intro _ _ _ | intro _ _ | apply kept_checkFailedStore | apply kept_cond | apply kept_gauges | apply kept_jobDone | apply kept_scrubStore | apply kept_updRouter | apply kept_updSend | exact kept_mk (by assumption) .. | split

theorem kept_sendPacket {s0 : State} (s : State) (key : Nat) (ht0 : Kept s0 s) : Kept s0 (State.sendPacket s key) := by
  unfold State.sendPacket; try dsimp only
  repeat' with_reducible first | assumption | intro _ _ _ | intro _ _ | apply kept_foldl | apply kept_foldl_fst | apply kept_putPacket | apply kept_updSend | exact kept_mk (by assumption) .. | split

theorem kept_sendNext {s0 : State} (s : State) (key : Nat) (ht0 : Kept s0 s) : Kept s0 (State.sendNext s key) := by
  unfold State.sendNext at *; dsimp only at *
  (repeat' split) <;> first | exact kept_mk ht0 .. | grind [kept_draw, kept_mk, kept_openFlow, kept_openTxn, kept_sendPacket, kept_touch, kept_updSend]

theorem kept_execPacketSend {s0 : State} (dst : BitVec 20) (cls : Fin 8) (ask : List NetJob) (s : State) (ht0 : Kept s0 s) : ∀ t9, (execPacketSend dst cls ask s) = .next t9 → Kept s0 t9 := by
  intro t9 ht; unfold execPacketSend at ht; injection ht with ht; subst ht; try dsimp only
  repeat' with_reducible first | assumption | intro _ _ _ | intro _ _ | apply kept_each | apply kept_enqueueJob | apply kept_sendNext | exact kept_mk (by assumption) .. | split

theorem kept_resetFlow {s0 : State} (s : State) (key : Nat) (ht0 : Kept s0 s) : Kept s0 (State.resetFlow s key) := by
  unfold State.resetFlow; try dsimp only
  repeat' with_reducible first | assumption | intro _ _ _ | intro _ _ | apply kept_failTxns | apply kept_openFlow | apply kept_updSend | exact kept_mk (by assumption) .. | split

theorem kept_openFails {s0 : State} (s : State) (key : Nat) (ht0 : Kept s0 s) : Kept s0 (State.openFails s key) := by
  unfold State.openFails; try dsimp only
  repeat' with_reducible first | assumption | intro _ _ _ | intro _ _ | apply kept_each | apply kept_failTxns | apply kept_jobDone | apply kept_updSend | exact kept_mk (by assumption) .. | split

theorem kept_reopen {s0 : State} (s : State) (key : Nat) (ht0 : Kept s0 s) : Kept s0 (State.reopen s key) := by
  unfold State.reopen; try dsimp only
  repeat' with_reducible first | assumption | intro _ _ _ | intro _ _ | apply kept_count | apply kept_putPacket | apply kept_updSend | exact kept_mk (by assumption) .. | split

theorem kept_execE2eTimeout {s0 : State} (dst : BitVec 20) (cls : Fin 8) (s : State) (ht0 : Kept s0 s) : ∀ t9, (execE2eTimeout dst cls s) = .next t9 → Kept s0 t9 := by
  intro t9 ht; unfold execE2eTimeout at ht; injection ht with ht; subst ht; try dsimp only
  repeat' with_reducible first | assumption | intro _ _ _ | intro _ _ | apply kept_each | apply kept_event | apply kept_openFails | apply kept_reopen | apply kept_resend | apply kept_resetFlow | exact kept_mk (by assumption) .. | split

theorem kept_execNackBusyRetry {s0 : State} (dst : BitVec 20) (cls : Fin 8) (late : Bool) (s : State) (ht0 : Kept s0 s) : ∀ t9, (execNackBusyRetry dst cls late s) = .next t9 → Kept s0 t9 := by
  intro t9 ht; unfold execNackBusyRetry at ht; injection ht with ht; subst ht; try dsimp only
  repeat' with_reducible first | assumption | intro _ _ _ | intro _ _ | apply kept_failTxns | apply kept_openFails | apply kept_reopen | apply kept_resend | apply kept_updSend | exact kept_mk (by assumption) .. | split

theorem kept_execResetRetry {s0 : State} (dst : BitVec 20) (cls : Fin 8) (s : State) (ht0 : Kept s0 s) : ∀ t9, (execResetRetry dst cls s) = .next t9 → Kept s0 t9 := by
  intro t9 ht; unfold execResetRetry at ht; injection ht with ht; subst ht; try dsimp only
  repeat' with_reducible first | assumption | intro _ _ _ | intro _ _ | apply kept_reopen | apply kept_resend | exact kept_mk (by assumption) .. | split

theorem kept_execResetWaitExpire {s0 : State} (dst : BitVec 20) (cls : Fin 8) (s : State) (ht0 : Kept s0 s) : ∀ t9, (execResetWaitExpire dst cls s) = .next t9 → Kept s0 t9 := by
  intro t9 ht; unfold execResetWaitExpire at ht; injection ht with ht; subst ht; try dsimp only
  repeat' with_reducible first | assumption | intro _ _ _ | intro _ _ | apply kept_failTxns | apply kept_openFails | apply kept_updSend | exact kept_mk (by assumption) .. | split

theorem kept_execCcTick {s0 : State} (dst : BitVec 20) (cls : Fin 8) (s : State) (ht0 : Kept s0 s) : ∀ t9, (execCcTick dst cls s) = .next t9 → Kept s0 t9 := by
  intro t9 ht; unfold execCcTick at ht; injection ht with ht; subst ht; try dsimp only
  repeat' with_reducible first | assumption | intro _ _ _ | intro _ _ | apply kept_updSend | exact kept_mk (by assumption) .. | split

theorem kept_execMulticastTimeout {s0 : State} (dst : BitVec 20) (s : State) (ht0 : Kept s0 s) : ∀ t9, (execMulticastTimeout dst s) = .next t9 → Kept s0 t9 := by
  intro t9 ht; unfold execMulticastTimeout at ht; injection ht with ht; subst ht; try dsimp only
  repeat' with_reducible first | assumption | intro _ _ _ | intro _ _ | apply kept_each | apply kept_reopen | apply kept_resend | exact kept_mk (by assumption) .. | split

theorem keptx_takeArrived {s0 : State} (s : State) (op : Nat) (r : Packet × State) (hr : s.takeArrived op = some r) (h : Kept s0 s) : Kept s0 r.2 := by
  unfold State.takeArrived at hr
  split at hr
  · injection hr with hr
    subst hr
    dsimp only
    exact kept_updRouter _ _ h
  · cases hr

theorem kept_onTaken {s0 : State} (s : State) (op : Nat) (g : Packet → State → State) (ht0 : Kept s0 s)
    (hf1 : ∀ p s, Kept s0 s → Kept s0 (g p s)) : Kept s0 (s.onTaken op g) := by
  unfold State.onTaken
  have h := kept_set_answer .none ht0
  dsimp only
  split
  · exact h
  · rename_i p u hr
    exact hf1 p u (keptx_takeArrived _ _ _ hr h)

theorem kept_onArrived {s0 : State} (s : State) (op : Nat) (g : Packet → State → State) (ht0 : Kept s0 s)
    (hf1 : ∀ p s, Kept s0 s → Kept s0 (g p s)) : Kept s0 (s.onArrived op g) :=
  kept_onTaken _ _ _ ht0 (fun _ _ h => kept_ite _ h (hf1 _ _ h))

theorem kept_refuseAccess {s0 : State} (s : State) (p : Packet) (P : Nat) (ht0 : Kept s0 s) : Kept s0 (State.refuseAccess s p P) := by
  unfold State.refuseAccess; try dsimp only
  repeat' with_reducible first | assumption | intro _ _ _ | intro _ _ | apply kept_event | apply kept_sendNack | exact kept_mk (by assumption) .. | split

theorem kept_cacheReply {s0 : State} (s : State) (key : Nat) (p rsp : Packet) (ht0 : Kept s0 s) : Kept s0 (State.cacheReply s key p rsp) := by
  unfold State.cacheReply; try dsimp only
  repeat' with_reducible first | assumption | intro _ _ _ | intro _ _ | apply kept_gauges | apply kept_inject | apply kept_updRouter | exact kept_mk (by assumption) .. | split

theorem kept_holdEarly {s0 : State} (s : State) (key : Nat) (p : Packet) (ht0 : Kept s0 s) : Kept s0 (State.holdEarly s key p) := by
  unfold State.holdEarly; try dsimp only
  repeat' with_reducible first | assumption | intro _ _ _ | intro _ _ | apply kept_sendAck | apply kept_sendNack | apply kept_updRecv | exact kept_mk (by assumption) .. | split

theorem kept_serveRead {s0 : State} (s : State) (P : Nat) (p : Packet) (ht0 : Kept s0 s) : Kept s0 (State.serveRead s P p).1 := by
  unfold State.serveRead; try dsimp only
  repeat' with_reducible first | assumption | intro _ _ _ | intro _ _ | apply kept_each | apply kept_inject | apply kept_refuseAccess | apply kept_remoteRead | apply kept_sendNack | exact kept_mk (by assumption) .. | split

theorem kept_applyWrdesc {s0 : State} (s : State) (key P : Nat) (p : Packet) (ht0 : Kept s0 s) : Kept s0 (State.applyWrdesc s key P p) := by
  unfold State.applyWrdesc; try dsimp only
  repeat' with_reducible first | assumption | intro _ _ _ | intro _ _ | apply kept_delivered | apply kept_refuseAccess | apply kept_updRecv | exact kept_mk (by assumption) .. | split

theorem kept_applyWrdata {s0 : State} (s : State) (key P : Nat) (p : Packet) (w : WriteOpen) (k : Nat) (ht0 : Kept s0 s) : Kept s0 (State.applyWrdata s key P p w k) := by
  unfold State.applyWrdata; try dsimp only
  repeat' with_reducible first | assumption | intro _ _ _ | intro _ _ | apply kept_cond | apply kept_delivered | apply kept_landPiece | apply kept_refuseAccess | apply kept_sendMack | apply kept_signalRemote | apply kept_tilePasses | apply kept_updRecv | exact kept_mk (by assumption) .. | split

theorem kept_applyAtomic {s0 : State} (s : State) (key P : Nat) (p : Packet) (ht0 : Kept s0 s) : Kept s0 (State.applyAtomic s key P p) := by
  unfold State.applyAtomic; try dsimp only
  repeat' with_reducible first | assumption | intro _ _ _ | intro _ _ | apply kept_cacheReply | apply kept_delivered | apply kept_refuseAccess | apply kept_sendNack | apply kept_tilePasses | apply kept_writeBytes | exact kept_mk (by assumption) .. | split

theorem kept_applyDbell {s0 : State} (s : State) (key P : Nat) (p : Packet) (ht0 : Kept s0 s) : Kept s0 (State.applyDbell s key P p) := by
  unfold State.applyDbell; try dsimp only
  repeat' with_reducible first | assumption | intro _ _ _ | intro _ _ | apply kept_cacheReply | apply kept_delivered | apply kept_sendNack | apply kept_signalRemote | exact kept_mk (by assumption) .. | split

theorem kept_applyContrib {s0 : State} (s : State) (P : Nat) (p : Packet) (ht0 : Kept s0 s) : Kept s0 (s.applyContrib P p) := by
  unfold State.applyContrib
  dsimp only
  refine kept_ite _ (kept_sendNack _ _ _ ht0) ?_
  generalize s.leadOf _ = q
  generalize Option.getD _ q = m
  generalize ({ member := m, group := _, peer := _, down := _, number := _, phase := _, chunk := _, tile := _, bytes := _, check := _, reply := _ } : ClxTile) = tl
  have h := kept_clxTakeTile (s.count (Reg.clxRxBytes m) (frameBytes p)) q tl (kept_count _ _ ht0)
  split
  · exact kept_sendNack _ _ _ h
  · exact kept_sendNack _ _ _ h
  · exact kept_sendNack _ _ _ h
  · exact h
  · exact keptx_clxSettle _ _ _ h

theorem kept_applyRequest {s0 : State} (s : State) (key P : Nat) (p : Packet) (ht0 : Kept s0 s) : Kept s0 (State.applyRequest s key P p) := by
  unfold State.applyRequest; try dsimp only
  repeat' with_reducible first | assumption | intro _ _ _ | intro _ _ | apply kept_applyAtomic | apply kept_applyContrib | apply kept_applyDbell | apply kept_applyWrdata | apply kept_applyWrdesc | apply kept_delivered | apply kept_holdEarly | apply kept_refuseAccess | apply kept_sendNack | apply kept_serveRead | exact kept_mk (by assumption) .. | split

theorem kept_duplicate {s0 : State} (s : State) (key P : Nat) (p : Packet) (ht0 : Kept s0 s) : Kept s0 (State.duplicate s key P p) := by
  unfold State.duplicate; try dsimp only
  repeat' with_reducible first | assumption | intro _ _ _ | intro _ _ | apply kept_inject | apply kept_sendAck | apply kept_sendMack | apply kept_serveRead | exact kept_mk (by assumption) .. | split

theorem kept_checkDomain {s0 : State} (s : State) (p : Packet) (bad : Bool) (ht0 : Kept s0 s) : Kept s0 (State.checkDomain s p bad) := by
  unfold State.checkDomain; try dsimp only
  repeat' with_reducible first | assumption | intro _ _ _ | intro _ _ | apply kept_cond | apply kept_mismatchAt | exact kept_mk (by assumption) .. | split

theorem kept_arrivedRequest {s0 : State} (s : State) (op : Nat) (bad : Bool) (ht0 : Kept s0 s) : Kept s0 (s.arrivedRequest op bad) := by
  unfold State.arrivedRequest
  cases hr : s.takeArrived op with
  | none => exact ht0
  | some e =>
    obtain ⟨p, u⟩ := e
    have hu := keptx_takeArrived s op _ hr ht0
    dsimp only at hu ⊢
    have ha := kept_acceptPacket _ p (kept_checkDomain u p bad hu)
    split
    · exact ha
    · split
      · exact ha
      · exact kept_ite _ (kept_duplicate _ _ _ _ ha) (kept_applyRequest _ _ _ _ ha)

theorem kept_execWrdesc {s0 : State} (bad : Bool) (s : State) (ht0 : Kept s0 s) : ∀ t9, (execWrdesc bad s) = .next t9 → Kept s0 t9 := by
  intro t9 ht; unfold execWrdesc at ht; injection ht with ht; subst ht; try dsimp only
  repeat' with_reducible first | assumption | intro _ _ _ | intro _ _ | apply kept_arrivedRequest | exact kept_mk (by assumption) .. | split

theorem kept_execWrdata {s0 : State} (bad : Bool) (s : State) (ht0 : Kept s0 s) : ∀ t9, (execWrdata bad s) = .next t9 → Kept s0 t9 := by
  intro t9 ht; unfold execWrdata at ht; injection ht with ht; subst ht; try dsimp only
  repeat' with_reducible first | assumption | intro _ _ _ | intro _ _ | apply kept_arrivedRequest | exact kept_mk (by assumption) .. | split

theorem kept_execRdreq {s0 : State} (bad : Bool) (s : State) (ht0 : Kept s0 s) : ∀ t9, (execRdreq bad s) = .next t9 → Kept s0 t9 := by
  intro t9 ht; unfold execRdreq at ht; injection ht with ht; subst ht; try dsimp only
  repeat' with_reducible first | assumption | intro _ _ _ | intro _ _ | apply kept_arrivedRequest | exact kept_mk (by assumption) .. | split

theorem kept_execAtomic {s0 : State} (bad : Bool) (s : State) (ht0 : Kept s0 s) : ∀ t9, (execAtomic bad s) = .next t9 → Kept s0 t9 := by
  intro t9 ht; unfold execAtomic at ht; injection ht with ht; subst ht; try dsimp only
  repeat' with_reducible first | assumption | intro _ _ _ | intro _ _ | apply kept_arrivedRequest | exact kept_mk (by assumption) .. | split

theorem kept_execDbell {s0 : State} (bad : Bool) (s : State) (ht0 : Kept s0 s) : ∀ t9, (execDbell bad s) = .next t9 → Kept s0 t9 := by
  intro t9 ht; unfold execDbell at ht; injection ht with ht; subst ht; try dsimp only
  repeat' with_reducible first | assumption | intro _ _ _ | intro _ _ | apply kept_arrivedRequest | exact kept_mk (by assumption) .. | split

theorem kept_execContrib {s0 : State} (bad : Bool) (s : State) (ht0 : Kept s0 s) : ∀ t9, (execContrib bad s) = .next t9 → Kept s0 t9 := by
  intro t9 ht; unfold execContrib at ht; injection ht with ht; subst ht; try dsimp only
  repeat' with_reducible first | assumption | intro _ _ _ | intro _ _ | apply kept_arrivedRequest | exact kept_mk (by assumption) .. | split

theorem kept_execHeelApply {s0 : State} (src : BitVec 20) (cls : Fin 8) (final : Option (BitVec 20)) (s : State) (ht0 : Kept s0 s) : ∀ t9, (execHeelApply src cls final s) = .next t9 → Kept s0 t9 := by
  intro t9 ht; unfold execHeelApply at ht; injection ht with ht; subst ht; try dsimp only
  repeat' with_reducible first | assumption | intro _ _ _ | intro _ _ | apply kept_applyRequest | apply kept_updRecv | exact kept_mk (by assumption) .. | split

theorem kept_execAckTimer {s0 : State} (src : BitVec 20) (cls : Fin 8) (s : State) (ht0 : Kept s0 s) : ∀ t9, (execAckTimer src cls s) = .next t9 → Kept s0 t9 := by
  intro t9 ht; unfold execAckTimer at ht; injection ht with ht; subst ht; try dsimp only
  repeat' with_reducible first | assumption | intro _ _ _ | intro _ _ | apply kept_sendAck | exact kept_mk (by assumption) .. | split

theorem kept_execContextReclaim {s0 : State} (src : BitVec 20) (cls : Fin 8) (s : State) (ht0 : Kept s0 s) : ∀ t9, (execContextReclaim src cls s) = .next t9 → Kept s0 t9 := by
  intro t9 ht; unfold execContextReclaim at ht; injection ht with ht; subst ht; try dsimp only
  repeat' with_reducible first | assumption | intro _ _ _ | intro _ _ | apply kept_gauges | apply kept_updRouter | exact kept_mk (by assumption) .. | split

theorem kept_execFlowreset {s0 : State} (s : State) (ht0 : Kept s0 s) : ∀ t, execFlowreset s = .next t → Kept s0 t := by
  intro t ht
  unfold execFlowreset at ht
  injection ht with ht
  subst ht
  refine kept_onTaken _ _ _ ht0 (fun p s h => ?_)
  dsimp only
  split
  · exact kept_sendNack _ _ _ h
  · split
    · exact kept_sendNack _ _ _ h
    · split
      · exact kept_sendNack _ _ _ h
      · rename_i P _ _ _ u hu
        have hu' : Kept s0 u := by
          split at hu
          · exact kept_touch _ _ _ h _ hu
          · cases hu
        have h1 := kept_gauges _ (kept_updRouter _ (fun r => { r with
              recvs := r.recvs.set (recvKey p) (some ({ cum := sub32 p.seq 1, part := P } : RecvCtx)), replies := r.replies.filter (fun e => e.1 ≠ recvKey p) }) hu')
        exact kept_ite _ (kept_sendMack _ _ _ h1) (kept_sendAck _ _ _ h1)

theorem kept_execRack {s0 : State} (s : State) (ht0 : Kept s0 s) : ∀ t9, (execRack s) = .next t9 → Kept s0 t9 := by
  intro t9 ht; unfold execRack at ht; injection ht with ht; subst ht; try dsimp only
  repeat' with_reducible first | assumption | intro _ _ _ | intro _ _ | apply kept_gauges | apply kept_onArrived | apply kept_updRouter | exact kept_mk (by assumption) .. | split

theorem kept_execAck {s0 : State} (s : State) (ht0 : Kept s0 s) : ∀ t9, (execAck s) = .next t9 → Kept s0 t9 := by
  intro t9 ht; unfold execAck at ht; injection ht with ht; subst ht; try dsimp only
  repeat' with_reducible first | assumption | intro _ _ _ | intro _ _ | apply kept_cond | apply kept_echoRate | apply kept_finishWrites | apply kept_onArrived | apply kept_updSend | exact kept_mk (by assumption) .. | split

theorem kept_noContext {s0 : State} (s : State) (key : Nat) (ht0 : Kept s0 s) : Kept s0 (State.noContext s key) := by
  unfold State.noContext; try dsimp only
  repeat' with_reducible first | assumption | intro _ _ _ | intro _ _ | apply kept_failTxns | apply kept_openFlow | apply kept_updSend | exact kept_mk (by assumption) .. | split

theorem kept_execNack {s0 : State} (s : State) (ht0 : Kept s0 s) : ∀ t9, (execNack s) = .next t9 → Kept s0 t9 := by
  intro t9 ht; unfold execNack at ht; injection ht with ht; subst ht; try dsimp only
  repeat' with_reducible first | assumption | intro _ _ _ | intro _ _ | apply kept_failTxns | apply kept_noContext | apply kept_onArrived | apply kept_openFails | apply kept_updSend | exact kept_mk (by assumption) .. | split

theorem kept_execLoss {s0 : State} (s : State) (ht0 : Kept s0 s) : ∀ t9, (execLoss s) = .next t9 → Kept s0 t9 := by
  intro t9 ht; unfold execLoss at ht; injection ht with ht; subst ht; try dsimp only
  repeat' with_reducible first | assumption | intro _ _ _ | intro _ _ | apply kept_onArrived | apply kept_resend | exact kept_mk (by assumption) .. | split

theorem kept_execMack {s0 : State} (s : State) (ht0 : Kept s0 s) : ∀ t9, (execMack s) = .next t9 → Kept s0 t9 := by
  intro t9 ht; unfold execMack at ht; injection ht with ht; subst ht; try dsimp only
  repeat' with_reducible first | assumption | intro _ _ _ | intro _ _ | apply kept_gauges | apply kept_jobDone | apply kept_onArrived | apply kept_updSend | exact kept_mk (by assumption) .. | split

theorem kept_replyEcho {s0 : State} (s : State) (p : Packet) (ht0 : Kept s0 s) : Kept s0 (State.replyEcho s p) := by
  unfold State.replyEcho; try dsimp only
  repeat' with_reducible first | assumption | intro _ _ _ | intro _ _ | apply kept_cond | apply kept_echoRate | exact kept_mk (by assumption) .. | split

theorem kept_execRddata {s0 : State} (s : State) (ht0 : Kept s0 s) : ∀ t9, (execRddata s) = .next t9 → Kept s0 t9 := by
  intro t9 ht; unfold execRddata at ht; injection ht with ht; subst ht; try dsimp only
  repeat' with_reducible first | assumption | intro _ _ _ | intro _ _ | apply kept_landPiece | apply kept_onArrived | apply kept_replyDone | apply kept_replyEcho | apply kept_seal | apply kept_updRouter | apply kept_updSend | exact kept_mk (by assumption) .. | split

theorem kept_execAtomrsp {s0 : State} (s : State) (ht0 : Kept s0 s) : ∀ t9, (execAtomrsp s) = .next t9 → Kept s0 t9 := by
  intro t9 ht; unfold execAtomrsp at ht; injection ht with ht; subst ht; try dsimp only
  repeat' with_reducible first | assumption | intro _ _ _ | intro _ _ | apply kept_onArrived | apply kept_replyDone | apply kept_replyEcho | exact kept_mk (by assumption) .. | split

theorem kept_execDback {s0 : State} (s : State) (ht0 : Kept s0 s) : ∀ t9, (execDback s) = .next t9 → Kept s0 t9 := by
  intro t9 ht; unfold execDback at ht; injection ht with ht; subst ht; try dsimp only
  repeat' with_reducible first | assumption | intro _ _ _ | intro _ _ | apply kept_onArrived | apply kept_replyDone | apply kept_replyEcho | exact kept_mk (by assumption) .. | split

theorem kept_execContribrsp {s0 : State} (s : State) (ht0 : Kept s0 s) : ∀ t9, (execContribrsp s) = .next t9 → Kept s0 t9 := by
  intro t9 ht; unfold execContribrsp at ht; injection ht with ht; subst ht; try dsimp only
  repeat' with_reducible first | assumption | intro _ _ _ | intro _ _ | apply kept_clxOnAck | apply kept_onArrived | apply kept_replyDone | apply kept_replyEcho | exact kept_mk (by assumption) .. | split

theorem kept_execCdown {s0 : State} (s : State) (ht0 : Kept s0 s) : ∀ t9, (execCdown s) = .next t9 → Kept s0 t9 := by
  intro t9 ht; unfold execCdown at ht; injection ht with ht; subst ht; try dsimp only
  repeat' with_reducible first | assumption | intro _ _ _ | intro _ _ | apply kept_clxDown | apply kept_onArrived | exact kept_mk (by assumption) .. | split

/-! ### Views -/

theorem kept_bar0Read {s0 : State} (s : State) (h f off : Nat) (wide : Bool) (ht0 : Kept s0 s) : Kept s0 (State.bar0Read s h f off wide) := by
  unfold State.bar0Read at *
  grind only [kept_hostError, kept_mk]

/-! ### Registers -/

theorem kept_regRead {s0 : State} (s : State) (ag : Agent) (d : RegDef) (a off width : Nat) (ht0 : Kept s0 s) : Kept s0 (State.regRead s ag d a off width).1 := by
  unfold State.regRead; try dsimp only
  repeat' with_reducible first | assumption | intro _ _ _ | intro _ _ | apply kept_wr | exact kept_mk (by assumption) .. | split

theorem kept_csrRead {s0 : State} (s : State) (ag : Agent) (a width : Nat) (ht0 : Kept s0 s) : Kept s0 (s.csrRead ag a width) := by
  unfold State.csrRead
  split
  · exact kept_set_answer _ ht0
  · exact kept_set_answer _ ht0
  · dsimp only
    generalize (_ - Reg.bbxLock 0) / 0x100 = b
    refine kept_ite _ (kept_ite _ (kept_set_answer _ ht0) ?_) (kept_set_answer _ (kept_regRead _ _ _ _ _ _ (kept_cond _ _ ht0 (fun _ h => kept_hdrRead _ _ _ h))))
    exact kept_set_answer _ (kept_cond _ _ ht0 (fun _ h => kept_wrF _ _ _ _ h))

theorem kept_memServe {s0 : State} (s : State) (a width : Nat) (data : Option W64) (ht0 : Kept s0 s) : Kept s0 (State.memServe s a width data) := by
  unfold State.memServe at *
  grind only [kept_mk, kept_readLine, kept_scrubStore, kept_writeBytes]

theorem kept_hostWindow {s0 : State} (s : State) (data : Option W64) (ht0 : Kept s0 s) : Kept s0 (State.hostWindow s data) := by
  unfold State.hostWindow at *
  grind only [kept_draw, kept_mk]

theorem kept_dpaAccess {s0 : State} (s : State) (ag : Agent) (a width : Nat) (data : Option W64) (f : State → State) (ht0 : Kept s0 s) (hf1 : ∀ s1, Kept s0 s1 → Kept s0 (f s1)) : Kept s0 (State.dpaAccess s ag a width data f) := by
  unfold State.dpaAccess; try dsimp only
  repeat' with_reducible first | assumption | intro _ _ _ | intro _ _ | apply kept_addressError | apply kept_csrAccess | apply kept_hostWindow | apply kept_memServe | exact kept_mk (by assumption) .. | split

theorem kept_execRcRead {s0 : State} (ag : Agent) (a : BitVec 48) (wide : Bool) (s : State) (ht0 : Kept s0 s) : ∀ t9, (execRcRead ag a wide s) = .next t9 → Kept s0 t9 := by
  intro t9 ht; unfold execRcRead at ht; injection ht with ht; subst ht; try dsimp only
  repeat' with_reducible first | assumption | intro _ _ _ | intro _ _ | apply kept_bar0Read | apply kept_csrAccess | apply kept_csrRead | apply kept_dpaAccess | exact kept_mk (by assumption) .. | split

theorem kept_writeSeqCtrl {s0 : State} (s : State) (q : Nat) (w : W64) (ht0 : Kept s0 s) : Kept s0 (State.writeSeqCtrl s q w) := by
  unfold State.writeSeqCtrl; try dsimp only
  repeat' with_reducible first | assumption | intro _ _ _ | intro _ _ | apply kept_abortRecipe | apply kept_cond | apply kept_setHold | apply kept_startRecipe | exact kept_mk (by assumption) .. | split

theorem kept_writePrtCtrl {s0 : State} (s : State) (ag : Agent) (p : Nat) (w : W64) (ht0 : Kept s0 s) : Kept s0 (State.writePrtCtrl s ag p w) := by
  unfold State.writePrtCtrl; try dsimp only
  repeat' with_reducible first | assumption | intro _ _ _ | intro _ _ | apply kept_askQuiet | apply kept_askWake | apply kept_cond | apply kept_portReset | apply kept_startRetrain | apply kept_updPort | apply kept_wrB | apply kept_wrF | exact kept_mk (by assumption) .. | split

theorem kept_writeBbx {s0 : State} (s : State) (ag : Agent) (a : Nat) (w : W64) (ht0 : Kept s0 s) : Kept s0 (State.writeBbx s ag a w) := by
  unfold State.writeBbx; try dsimp only
  repeat' with_reducible first | assumption | intro _ _ _ | intro _ _ | apply kept_boxEmpty | apply kept_boxFill | apply kept_cond | apply kept_event | apply kept_wr | apply kept_wrF | exact kept_mk (by assumption) .. | split

theorem kept_writeClu {s0 : State} (s : State) (ag : Agent) (a : Nat) (w : W64) (ht0 : Kept s0 s) : Kept s0 (State.writeClu s ag a w) := by
  unfold State.writeClu; try dsimp only
  repeat' with_reducible first | assumption | intro _ _ _ | intro _ _ | apply kept_clearClusterCounters | apply kept_cond | apply kept_refuseWrite | apply kept_wr | exact kept_mk (by assumption) .. | split

theorem kept_writeClx {s0 : State} (s : State) (ag : Agent) (a : Nat) (w : W64) (ht0 : Kept s0 s) : Kept s0 (State.writeClx s ag a w) := by
  unfold State.writeClx; try dsimp only
  repeat' with_reducible first | assumption | intro _ _ _ | intro _ _ | apply kept_fabGroupWrite | apply kept_refuseWrite | apply kept_wr | exact kept_mk (by assumption) .. | split

theorem kept_regWrite {s0 : State} (s : State) (ag : Agent) (d : RegDef) (a off width : Nat) (v : W64) (ht0 : Kept s0 s) : Kept s0 (s.regWrite ag d a off width v) := by
  unfold State.regWrite
  dsimp only
  generalize d.write _ _ _ = w
  have hr := kept_refuseWrite s ag ht0
  have hw := kept_wr a w ht0
  refine kept_ite _ hr (kept_ite _ (kept_set_config _ hw) (kept_ite _ (kept_writeBbx _ _ _ _ ht0) (kept_ite _ (kept_cond _ _ ht0 (fun _ h => kept_wr _ _ h)) ?_)))
  refine kept_ite _ (kept_ite _ (kept_wrB _ _ _ (kept_wrB _ _ _ hw)) hw) (kept_ite _ (kept_ite _ (kept_wrB _ _ _ (kept_wrB _ _ _ (kept_wrB _ _ _ hw))) hw) ?_)
  refine kept_ite _ (kept_wr _ _ (kept_setBank _ _ ht0)) (kept_ite _ (kept_setNode _ _ _ ht0) (kept_ite _ (kept_setCircuit _ _ _ _ ht0) (kept_ite _ (kept_setShare _ _ _ _ ht0) ?_)))
  refine kept_ite _ (kept_writePrtCtrl _ _ _ _ ht0) (kept_ite _ (kept_ite _ hr (kept_passTo _ _ _ ht0)) ?_)
  refine kept_ite _ (kept_ite _ (kept_writeSeqCtrl _ _ _ ht0) (kept_ite _ (kept_ite _ hr (kept_wr _ _ ht0)) (kept_writeClx _ _ _ _ ht0))) ?_
  exact kept_ite _ (kept_writeClu _ _ _ _ ht0) (kept_ite _ (kept_ite _ (kept_ite _ hw hr) hw) hw)

theorem kept_setDomain {s0 : State} (s : State) (p : Nat) (v : W64) (ht0 : Kept s0 s) : Kept s0 (State.setDomain s p v) := by
  unfold State.setDomain; try dsimp only
  repeat' with_reducible first | assumption | intro _ _ _ | intro _ _ | apply kept_cpCommit | apply kept_wrB | apply kept_wrF | exact kept_mk (by assumption) .. | split

theorem kept_limitDone {s0 : State} (s : State) (v : W64) (ht0 : Kept s0 s) : Kept s0 (State.limitDone s v) := by
  unfold State.limitDone at *
  grind only [kept_event, kept_mk]

theorem kept_cpDone {s0 : State} (s : State) (ag : Agent) (d : RegDef) (a : Nat) (v : W64) (ht0 : Kept s0 s) : Kept s0 (State.cpDone s ag d a v) := by
  unfold State.cpDone at *
  grind only [kept_cpCommit, kept_event, kept_limitDone, kept_mk, kept_refuseWrite, kept_setDomain, kept_setSlot]

theorem kept_csrWrite {s0 : State} (s : State) (ag : Agent) (a width : Nat) (v : W64) (ht0 : Kept s0 s) : Kept s0 (State.csrWrite s ag a width v) := by
  unfold State.csrWrite; try dsimp only
  repeat' with_reducible first | assumption | intro _ _ _ | intro _ _ | apply kept_cpCompanion | apply kept_cpDone | apply kept_cpWrite | apply kept_event | apply kept_refuseWrite | apply kept_regWrite | exact kept_mk (by assumption) .. | split

theorem kept_execRegisterWrite {s0 : State} (ag : Agent) (a : BitVec 48) (wide : Bool) (v : W64) (s : State) (ht0 : Kept s0 s) : ∀ t9, (execRegisterWrite ag a wide v s) = .next t9 → Kept s0 t9 := by
  intro t9 ht; unfold execRegisterWrite at ht; injection ht with ht; subst ht; try dsimp only
  repeat' with_reducible first | assumption | intro _ _ _ | intro _ _ | apply kept_csrWrite | apply kept_dpaAccess | exact kept_mk (by assumption) .. | split

theorem kept_execCpRegisterWrite {s0 : State} (ag : Agent) (a : BitVec 48) (wide : Bool) (v : W64) (s : State) (ht0 : Kept s0 s) : ∀ t9, (execCpRegisterWrite ag a wide v s) = .next t9 → Kept s0 t9 := by
  intro t9 ht; unfold execCpRegisterWrite at ht; injection ht with ht; subst ht; try dsimp only
  repeat' with_reducible first | assumption | intro _ _ _ | intro _ _ | apply kept_csrAccess | apply kept_csrWrite | exact kept_mk (by assumption) .. | split

theorem kept_execCpCompanionWrite {s0 : State} (ag : Agent) (a : BitVec 48) (wide : Bool) (v : W64) (s : State) (ht0 : Kept s0 s) : ∀ t9, (execCpCompanionWrite ag a wide v s) = .next t9 → Kept s0 t9 := by
  intro t9 ht; unfold execCpCompanionWrite at ht; injection ht with ht; subst ht; try dsimp only
  repeat' with_reducible first | assumption | intro _ _ _ | intro _ _ | apply kept_csrAccess | apply kept_csrWrite | exact kept_mk (by assumption) .. | split

theorem kept_execComplementRewrite {s0 : State} (a : BitVec 48) (own : Bool) (s : State) (ht0 : Kept s0 s) : ∀ t9, (execComplementRewrite a own s) = .next t9 → Kept s0 t9 := by
  intro t9 ht; unfold execComplementRewrite at ht; injection ht with ht; subst ht; try dsimp only
  repeat' with_reducible first | assumption | intro _ _ _ | intro _ _ | apply kept_cpCommit | exact kept_mk (by assumption) .. | split

theorem kept_bar4Fail {s0 : State} (s : State) (h f : Nat) (write : Bool) (off : Nat) (ht0 : Kept s0 s) : Kept s0 (State.bar4Fail s h f write off) := by
  unfold State.bar4Fail at *
  grind only [keptm_Eng_write, kept_hostError, kept_mk]

theorem kept_bar4Handle {s0 : State} (s : State) (h f off hd b n : Nat) (data : Option (List Byte)) (ht0 : Kept s0 s) : Kept s0 (State.bar4Handle s h f off hd b n data) := by
  unfold State.bar4Handle at *
  grind only [keptm_BaseM_bytes, kept_bar4Fail, kept_checkFailedHandle, kept_hubRead, kept_hubWrite, kept_mk]

theorem kept_bar4Csr {s0 : State} (s : State) (h : Fin 2) (off a n : Nat) (data : Option (List Byte)) (ht0 : Kept s0 s) : Kept s0 (State.bar4Csr s h off a n data) := by
  unfold State.bar4Csr; try dsimp only
  repeat' with_reducible first | assumption | intro _ _ _ | intro _ _ | apply kept_bar4Fail | apply kept_csrRead | apply kept_csrWrite | exact kept_mk (by assumption) .. | split

theorem kept_execBar4Access {s0 : State} (h : Fin 2) (f : Fin 5) (off : BitVec 36) (n : Nat) (data : Option (List Byte)) (ecc : List MemUpset) (s : State) (ht0 : Kept s0 s) : ∀ t9, (execBar4Access h f off n data ecc s) = .next t9 → Kept s0 t9 := by
  intro t9 ht; unfold execBar4Access at ht; injection ht with ht; subst ht
  grind only [kept_bar4Csr, kept_bar4Fail, kept_bar4Handle, kept_mk, kept_upset]

end Sys2Proof.Machine
end

