-- ==== Sys2Proof/Laws/KeptFabric.lean ====
section
/-!
SUPPORT. One lemma for each operation and command of fabric management and the power commands:
what it makes of a state that a start state keeps, that start keeps.
-/
set_option linter.all false
namespace Sys2Proof.Machine

/-! ### Fabric -/

theorem kept_setRole {s0 : State} (s : State) (r : Nat) (ht0 : Kept s0 s) : Kept s0 (State.setRole s r) := by
  unfold State.setRole; try dsimp only
  repeat' with_reducible first | assumption | intro _ _ _ | intro _ _ | apply kept_wrF | exact kept_mk (by assumption) .. | split

theorem kept_setPrimary {s0 : State} (s : State) (n : Nat) (ht0 : Kept s0 s) : Kept s0 (State.setPrimary s n) := by
  unfold State.setPrimary; try dsimp only
  repeat' with_reducible first | assumption | intro _ _ _ | intro _ _ | apply kept_wrB | apply kept_wrF | exact kept_mk (by assumption) .. | split

theorem kept_setStandby {s0 : State} (s : State) (n : Option Nat) (ht0 : Kept s0 s) : Kept s0 (State.setStandby s n) := by
  unfold State.setStandby; try dsimp only
  repeat' with_reducible first | assumption | intro _ _ _ | intro _ _ | apply kept_wrB | apply kept_wrF | exact kept_mk (by assumption) .. | split

theorem kept_sendLink {s0 : State} (s : State) (port : Nat) (m : Mgmt) (ht0 : Kept s0 s) : Kept s0 (State.sendLink s port m) := by
  unfold State.sendLink; try dsimp only
  repeat' with_reducible first | assumption | intro _ _ _ | intro _ _ | apply kept_queueOut | apply kept_toRing | exact kept_mk (by assumption) .. | split

theorem kept_sendMgmt {s0 : State} (s : State) (path : MgmtPath) (m : Mgmt) (ht0 : Kept s0 s) : Kept s0 (State.sendMgmt s path m) := by
  unfold State.sendMgmt; try dsimp only
  repeat' with_reducible first | assumption | intro _ _ _ | intro _ _ | apply kept_inject | apply kept_sendLink | apply kept_toRing | exact kept_mk (by assumption) .. | split

theorem kept_nextMseq {s0 : State} (s : State) (ht0 : Kept s0 s) : Kept s0 (State.nextMseq s).2 := by
  unfold State.nextMseq; try dsimp only
  repeat' with_reducible first | assumption | intro _ _ _ | intro _ _ | apply kept_updFm | exact kept_mk (by assumption) .. | split

theorem kept_sendRequest {s0 : State} (s : State) (r : MgmtReq) (ht0 : Kept s0 s) : Kept s0 (State.sendRequest s r) := by
  unfold State.sendRequest; try dsimp only
  repeat' with_reducible first | assumption | intro _ _ _ | intro _ _ | apply kept_nextMseq | apply kept_sendMgmt | apply kept_updFm | exact kept_mk (by assumption) .. | split

theorem kept_flushQueue {s0 : State} (s : State) (ht0 : Kept s0 s) : Kept s0 (State.flushQueue s) := by
  unfold State.flushQueue; try dsimp only
  repeat' with_reducible first | assumption | intro _ _ _ | intro _ _ | apply kept_foldl | apply kept_foldl_fst | apply kept_sendRequest | apply kept_updFm | exact kept_mk (by assumption) .. | split

theorem kept_respond {s0 : State} (s : State) (arrival src : Nat) (m : Mgmt) (status : Nat) (body : List Byte) (ht0 : Kept s0 s) : Kept s0 (State.respond s arrival src m status body) := by
  unfold State.respond; try dsimp only
  repeat' with_reducible first | assumption | intro _ _ _ | intro _ _ | apply kept_sendLink | apply kept_sendMgmt | apply kept_updFm | exact kept_mk (by assumption) .. | split

theorem kept_stepDown {s0 : State} (s : State) (ht0 : Kept s0 s) : Kept s0 (State.stepDown s) := by
  unfold State.stepDown; try dsimp only
  repeat' with_reducible first | assumption | intro _ _ _ | intro _ _ | apply kept_event | apply kept_finishOp | apply kept_setRole | apply kept_updFm | exact kept_mk (by assumption) .. | split

theorem kept_seeTerm {s0 : State} (s : State) (t : Nat) (ht0 : Kept s0 s) : Kept s0 (State.seeTerm s t) := by
  unfold State.seeTerm; try dsimp only
  repeat' with_reducible first | assumption | intro _ _ _ | intro _ _ | apply kept_stepDown | apply kept_wr | exact kept_mk (by assumption) .. | split

theorem kept_agentTakes {s0 : State} (s : State) (type : Nat) (whole : Mgmt → Bool) (f : State → Nat → Nat → Mgmt → State × Nat × List Byte) (ht0 : Kept s0 s) (hf1 : ∀ s1 x1 x2 x3, Kept s0 s1 → Kept s0 (f s1 x1 x2 x3).1) : Kept s0 (State.agentTakes s type whole f) := by
  unfold State.agentTakes at *
  grind only [kept_cond, kept_mk, kept_respond, kept_seeTerm, kept_sendLink, kept_sendMgmt, kept_setPrimary, kept_updFm]

theorem kept_agentAssign {s0 : State} (s : State) (m : Mgmt) (ht0 : Kept s0 s) : Kept s0 (State.agentAssign s m).1 := by
  unfold State.agentAssign; try dsimp only
  repeat' with_reducible first | assumption | intro _ _ _ | intro _ _ | apply kept_adopt | apply kept_cond | apply kept_setNode | apply kept_updFm | apply kept_wr | exact kept_mk (by assumption) .. | split

theorem kept_agentPorts {s0 : State} (s : State) (m : Mgmt) (ht0 : Kept s0 s) : Kept s0 (State.agentPorts s m) := by
  unfold State.agentPorts; try dsimp only
  repeat' with_reducible first | assumption | intro _ _ _ | intro _ _ | apply kept_cond | apply kept_each | apply kept_wrB | exact kept_mk (by assumption) .. | split

theorem kept_agentPlan {s0 : State} (s : State) (m : Mgmt) (ht0 : Kept s0 s) : Kept s0 (State.agentPlan s m) := by
  unfold State.agentPlan; try dsimp only
  repeat' with_reducible first | assumption | intro _ _ _ | intro _ _ | apply kept_cond | apply kept_updFm | exact kept_mk (by assumption) .. | split

theorem kept_agentExpand {s0 : State} (s : State) (m : Mgmt) (ht0 : Kept s0 s) : Kept s0 (State.agentExpand s m).1 := by
  unfold State.agentExpand; try dsimp only
  repeat' with_reducible first | assumption | intro _ _ _ | intro _ _ | apply kept_expandPlan | exact kept_mk (by assumption) .. | split

theorem kept_agentEntries {s0 : State} (s : State) (m : Mgmt) (ht0 : Kept s0 s) : Kept s0 (State.agentEntries s m) := by
  unfold State.agentEntries; try dsimp only
  repeat' with_reducible first | assumption | intro _ _ _ | intro _ _ | apply kept_cpCommit | apply kept_each | exact kept_mk (by assumption) .. | split

theorem kept_agentHold {s0 : State} (s : State) (m : Mgmt) (ht0 : Kept s0 s) : Kept s0 (State.agentHold s m) := by
  unfold State.agentHold; try dsimp only
  repeat' with_reducible first | assumption | intro _ _ _ | intro _ _ | apply kept_each | apply kept_wrB | exact kept_mk (by assumption) .. | split

theorem kept_agentDrain {s0 : State} (s : State) (ht0 : Kept s0 s) : Kept s0 (State.agentDrain s).1 := by
  unfold State.agentDrain; try dsimp only
  repeat' with_reducible first | assumption | intro _ _ _ | intro _ _ | apply kept_wr | exact kept_mk (by assumption) .. | split

theorem kept_agentResume {s0 : State} (s : State) (ht0 : Kept s0 s) : Kept s0 s.agentResume := by
  unfold State.agentResume
  have h := kept_wrF Reg.hubFmHoldCtrl 1 0 0 ht0
  generalize s.wrF _ _ _ _ = u at h
  have hle : Reg.hubFmHoldMap 0 ≤ Reg.hubFmHoldMap 2048 := by simp only [Reg.hubFmHoldMap]; omega
  exact ⟨h.pending, h.fuses, fun c => { h.canon c with csr := (h.canon c).csr.clear hle }⟩

theorem kept_agentDomain {s0 : State} (s : State) (m : Mgmt) (ht0 : Kept s0 s) : Kept s0 (State.agentDomain s m).1 := by
  unfold State.agentDomain; try dsimp only
  repeat' with_reducible first | assumption | intro _ _ _ | intro _ _ | apply kept_cond | apply kept_event | apply kept_setDomain | exact kept_mk (by assumption) .. | split

theorem kept_agentGroup {s0 : State} (s : State) (m : Mgmt) (ht0 : Kept s0 s) : Kept s0 (State.agentGroup s m).1 := by
  unfold State.agentGroup; try dsimp only
  repeat' with_reducible first | assumption | intro _ _ _ | intro _ _ | apply kept_each | apply kept_fabGroupWrite | exact kept_mk (by assumption) .. | split

theorem kept_agentCircuits {s0 : State} (s : State) (m : Mgmt) (ht0 : Kept s0 s) : Kept s0 (State.agentCircuits s m) := by
  unfold State.agentCircuits; try dsimp only
  repeat' with_reducible first | assumption | intro _ _ _ | intro _ _ | apply kept_each | apply kept_setCircuit | apply kept_setShare | exact kept_mk (by assumption) .. | split

theorem kept_agentTables {s0 : State} (s : State) (m : Mgmt) (ht0 : Kept s0 s) : Kept s0 (State.agentTables s m) := by
  unfold State.agentTables; try dsimp only
  repeat' with_reducible first | assumption | intro _ _ _ | intro _ _ | apply kept_each | apply kept_wr | exact kept_mk (by assumption) .. | split

theorem kept_agentReplica {s0 : State} (s : State) (m : Mgmt) (ht0 : Kept s0 s) : Kept s0 (State.agentReplica s m) := by
  unfold State.agentReplica; try dsimp only
  repeat' with_reducible first | assumption | intro _ _ _ | intro _ _ | apply kept_cond | apply kept_setRole | apply kept_updFm | exact kept_mk (by assumption) .. | split

theorem kept_sendElect {s0 : State} (s : State) (ht0 : Kept s0 s) : Kept s0 (State.sendElect s) := by
  unfold State.sendElect; try dsimp only
  repeat' with_reducible first | assumption | intro _ _ _ | intro _ _ | apply kept_each | apply kept_nextMseq | apply kept_sendLink | exact kept_mk (by assumption) .. | split

theorem kept_electNow {s0 : State} (s : State) (ht0 : Kept s0 s) : Kept s0 (State.electNow s) := by
  unfold State.electNow; try dsimp only
  repeat' with_reducible first | assumption | intro _ _ _ | intro _ _ | apply kept_cond | apply kept_sendElect | apply kept_setRole | apply kept_updFm | apply kept_wrB | exact kept_mk (by assumption) .. | split

/-! ### Manager -/

theorem kept_tellAlone {s0 : State} (s : State) (ht0 : Kept s0 s) : Kept s0 (State.tellAlone s) := by
  unfold State.tellAlone; try dsimp only
  repeat' with_reducible first | assumption | intro _ _ _ | intro _ _ | apply kept_event | apply kept_updFm | exact kept_mk (by assumption) .. | split

theorem kept_replicateNext {s0 : State} (s : State) (ht0 : Kept s0 s) : Kept s0 (State.replicateNext s) := by
  unfold State.replicateNext; try dsimp only
  repeat' with_reducible first | assumption | intro _ _ _ | intro _ _ | apply kept_updFm | exact kept_mk (by assumption) .. | split

theorem kept_issue {s0 : State} (s : State) (l : List MgmtReq) (ht0 : Kept s0 s) : Kept s0 (State.issue s l) := by
  unfold State.issue; try dsimp only
  repeat' with_reducible first | assumption | intro _ _ _ | intro _ _ | apply kept_cond | apply kept_flushQueue | apply kept_replicateNext | apply kept_tellAlone | apply kept_updFm | exact kept_mk (by assumption) .. | split

theorem kept_replicated {s0 : State} (s : State) (ok : Bool) (k : Nat) (ht0 : Kept s0 s) : Kept s0 (State.replicated s ok k) := by
  unfold State.replicated; try dsimp only
  repeat' with_reducible first | assumption | intro _ _ _ | intro _ _ | apply kept_cond | apply kept_replicateNext | apply kept_setStandby | apply kept_tellAlone | apply kept_updFm | exact kept_mk (by assumption) .. | split

theorem kept_changeOver {s0 : State} (s : State) (r : MgmtReq) (ht0 : Kept s0 s) : Kept s0 (State.changeOver s r) := by
  unfold State.changeOver; try dsimp only
  repeat' with_reducible first | assumption | intro _ _ _ | intro _ _ | apply kept_updFm | exact kept_mk (by assumption) .. | split

theorem kept_askFrom {s0 : State} (s : State) (d : FmDevice) (ht0 : Kept s0 s) : Kept s0 (State.askFrom s d) := by
  unfold State.askFrom; try dsimp only
  repeat' with_reducible first | assumption | intro _ _ _ | intro _ _ | apply kept_each | apply kept_updFm | exact kept_mk (by assumption) .. | split

theorem kept_startDiscovery {s0 : State} (s : State) (ht0 : Kept s0 s) : Kept s0 (State.startDiscovery s) := by
  unfold State.startDiscovery; try dsimp only
  repeat' with_reducible first | assumption | intro _ _ _ | intro _ _ | apply kept_askFrom | apply kept_flushQueue | apply kept_updFm | exact kept_mk (by assumption) .. | split

theorem kept_updSwap {s0 : State} (s : State) (f : FmSwap → FmSwap) (ht0 : Kept s0 s) : Kept s0 (State.updSwap s f) := by
  unfold State.updSwap; try dsimp only
  repeat' with_reducible first | assumption | intro _ _ _ | intro _ _ | apply kept_updFm | exact kept_mk (by assumption) .. | split

theorem kept_beginSwap {s0 : State} (s : State) (pl : RoutePlan) (ht0 : Kept s0 s) : Kept s0 (State.beginSwap s pl) := by
  unfold State.beginSwap; try dsimp only
  repeat' with_reducible first | assumption | intro _ _ _ | intro _ _ | apply kept_updFm | exact kept_mk (by assumption) .. | split

theorem kept_advanceSwap {s0 : State} (s : State) (w : FmSwap) (ht0 : Kept s0 s) : Kept s0 (State.advanceSwap s w) := by
  unfold State.advanceSwap; try dsimp only
  repeat' with_reducible first | assumption | intro _ _ _ | intro _ _ | apply kept_event | apply kept_issue | apply kept_updFm | apply kept_updSwap | exact kept_mk (by assumption) .. | split

theorem kept_abortSwap {s0 : State} (s : State) (ht0 : Kept s0 s) : Kept s0 (State.abortSwap s) := by
  unfold State.abortSwap; try dsimp only
  repeat' with_reducible first | assumption | intro _ _ _ | intro _ _ | apply kept_event | apply kept_updFm | apply kept_updSwap | exact kept_mk (by assumption) .. | split

theorem kept_updJob {s0 : State} (s : State) (tag : Nat) (f : FmJob → FmJob) (ht0 : Kept s0 s) : Kept s0 (State.updJob s tag f) := by
  unfold State.updJob; try dsimp only
  repeat' with_reducible first | assumption | intro _ _ _ | intro _ _ | apply kept_updFm | exact kept_mk (by assumption) .. | split

theorem kept_finishEntry {s0 : State} (s : State) (h : Nat) (entry : List Byte) (status : Nat) (result : W64) (ht0 : Kept s0 s) : Kept s0 (State.finishEntry s h entry status result) := by
  unfold State.finishEntry; try dsimp only
  repeat' with_reducible first | assumption | intro _ _ _ | intro _ _ | apply kept_updFn | exact kept_mk (by assumption) .. | split

theorem kept_runStage {s0 : State} (s : State) (st : FmStage) (ht0 : Kept s0 s) : Kept s0 (State.runStage s st) := by
  unfold State.runStage; try dsimp only
  repeat' with_reducible first | assumption | intro _ _ _ | intro _ _ | apply kept_beginSwap | apply kept_event | apply kept_finishEntry | apply kept_issue | apply kept_updFm | exact kept_mk (by assumption) .. | split

theorem kept_finishDiscovery {s0 : State} (s : State) (ht0 : Kept s0 s) : Kept s0 (State.finishDiscovery s) := by
  unfold State.finishDiscovery; try dsimp only
  repeat' with_reducible first | assumption | intro _ _ _ | intro _ _ | apply kept_cond | apply kept_each | apply kept_event | apply kept_updFm | exact kept_mk (by assumption) .. | split

theorem keptx_pump {s0 : State} (n : Nat) : ∀ s : State, Kept s0 s → Kept s0 (State.pump n s) := by
  induction n with
  | zero => exact fun _ h => h
  | succ n ih =>
    intro s h
    unfold State.pump
    refine kept_ite _ h (kept_ite _ (ih _ (kept_finishDiscovery _ h)) ?_)
    split
    · exact kept_ite _ h (ih _ (kept_advanceSwap _ _ h))
    · split
      · exact h
      · exact ih _ (kept_runStage _ _ (kept_updFm _ _ h))

theorem kept_goOn {s0 : State} (s : State) (ht0 : Kept s0 s) : Kept s0 s.goOn := keptx_pump _ _ ht0

theorem kept_requestFailed {s0 : State} (s : State) (r : MgmtReq) (ht0 : Kept s0 s) : Kept s0 (State.requestFailed s r) := by
  unfold State.requestFailed; try dsimp only
  repeat' with_reducible first | assumption | intro _ _ _ | intro _ _ | apply kept_abortSwap | apply kept_changeOver | apply kept_replicated | apply kept_updFm | exact kept_mk (by assumption) .. | split

theorem kept_requestDone {s0 : State} (s : State) (r : MgmtReq) (m : Mgmt) (net : Bool) (ht0 : Kept s0 s) : Kept s0 (State.requestDone s r m net) := by
  unfold State.requestDone; try dsimp only
  repeat' with_reducible first | assumption | intro _ _ _ | intro _ _ | apply kept_askFrom | apply kept_changeOver | apply kept_each | apply kept_replicated | apply kept_requestFailed | apply kept_seeTerm | apply kept_setStandby | apply kept_updFm | apply kept_updSwap | exact kept_mk (by assumption) .. | split

theorem kept_takeResponse {s0 : State} (s : State) (type : Nat) (net : Bool) (ht0 : Kept s0 s) : Kept s0 (State.takeResponse s type net) := by
  unfold State.takeResponse; try dsimp only
  repeat' with_reducible first | assumption | intro _ _ _ | intro _ _ | apply kept_flushQueue | apply kept_goOn | apply kept_requestDone | apply kept_updFm | exact kept_mk (by assumption) .. | split

theorem kept_markPort {s0 : State} (s : State) (n p : Nat) (up : Bool) (ht0 : Kept s0 s) : Kept s0 (State.markPort s n p up) := by
  unfold State.markPort; try dsimp only
  repeat' with_reducible first | assumption | intro _ _ _ | intro _ _ | apply kept_updFm | exact kept_mk (by assumption) .. | split

theorem kept_replaceCircuits {s0 : State} (s : State) (pl : RoutePlan) (n p : Nat) (ht0 : Kept s0 s) : Kept s0 (State.replaceCircuits s pl n p) := by
  unfold State.replaceCircuits; try dsimp only
  repeat' with_reducible first | assumption | intro _ _ _ | intro _ _ | apply kept_each | apply kept_foldl | apply kept_foldl_fst | apply kept_updFm | apply kept_updJob | exact kept_mk (by assumption) .. | split

theorem kept_regroup {s0 : State} (s : State) (pl : RoutePlan) (ht0 : Kept s0 s) : Kept s0 (State.regroup s pl) := by
  unfold State.regroup; try dsimp only
  repeat' with_reducible first | assumption | intro _ _ _ | intro _ _ | apply kept_cond | apply kept_each | apply kept_updFm | apply kept_updJob | exact kept_mk (by assumption) .. | split

theorem kept_onReport {s0 : State} (s : State) (n : Nat) (b : List Byte) (ht0 : Kept s0 s) : Kept s0 (State.onReport s n b) := by
  unfold State.onReport; try dsimp only
  repeat' with_reducible first | assumption | intro _ _ _ | intro _ _ | apply kept_each | apply kept_event | apply kept_markPort | apply kept_regroup | apply kept_replaceCircuits | apply kept_startDiscovery | apply kept_updFm | exact kept_mk (by assumption) .. | split

/-! ### FabricCmds -/

theorem kept_execMgmt {s0 : State} (s : State) (ht0 : Kept s0 s) : ∀ t9, (execMgmt s) = .next t9 → Kept s0 t9 := by
  intro t9 ht; unfold execMgmt at ht; injection ht with ht; subst ht; try dsimp only
  repeat' with_reducible first | assumption | intro _ _ _ | intro _ _ | apply kept_count | apply kept_sendLink | apply kept_updFm | apply kept_updRouter | exact kept_mk (by assumption) .. | split

theorem kept_execMgmtRetransmit {s0 : State} (mseq : BitVec 32) (s : State) (ht0 : Kept s0 s) : ∀ t9, (execMgmtRetransmit mseq s) = .next t9 → Kept s0 t9 := by
  intro t9 ht; unfold execMgmtRetransmit at ht; injection ht with ht; subst ht; try dsimp only
  repeat' with_reducible first | assumption | intro _ _ _ | intro _ _ | apply kept_event | apply kept_flushQueue | apply kept_goOn | apply kept_requestFailed | apply kept_sendMgmt | apply kept_updFm | exact kept_mk (by assumption) .. | split

theorem kept_execElectTimer {s0 : State} (s : State) (ht0 : Kept s0 s) : ∀ t9, (execElectTimer s) = .next t9 → Kept s0 t9 := by
  intro t9 ht; unfold execElectTimer at ht; injection ht with ht; subst ht; try dsimp only
  repeat' with_reducible first | assumption | intro _ _ _ | intro _ _ | apply kept_electNow | apply kept_sendElect | exact kept_mk (by assumption) .. | split

theorem kept_execCandidateExpire {s0 : State} (serial : W64) (p : Fin 16) (s : State) (ht0 : Kept s0 s) : ∀ t9, (execCandidateExpire serial p s) = .next t9 → Kept s0 t9 := by
  intro t9 ht; unfold execCandidateExpire at ht; injection ht with ht; subst ht; try dsimp only
  repeat' with_reducible first | assumption | intro _ _ _ | intro _ _ | apply kept_electNow | apply kept_updFm | exact kept_mk (by assumption) .. | split

theorem kept_becomePrimary {s0 : State} (s : State) (code : Nat) (ht0 : Kept s0 s) : Kept s0 (s.becomePrimary code) := by
  unfold State.becomePrimary
  refine kept_goOn _ (kept_startDiscovery _ (kept_sendElect _ (kept_updFm _ _ (kept_setStandby _ _ (kept_cond _ _ (kept_event _ _ _ _ _ (kept_setRole _ _ (kept_wr _ _ ht0))) ?_)))))
  exact fun _ h => kept_setPrimary _ _ h

theorem kept_execElectionStable {s0 : State} (s : State) (ht0 : Kept s0 s) : ∀ t, execElectionStable s = .next t → Kept s0 t := by
  intro t ht
  unfold execElectionStable at ht
  injection ht with ht
  subst ht
  have h := kept_set_answer .none ht0
  exact kept_ite _ h (kept_ite _ (kept_becomePrimary _ _ (kept_wrB _ _ _ h)) (kept_wrB _ _ _ h))

theorem kept_execBeatTimer {s0 : State} (s : State) (ht0 : Kept s0 s) : ∀ t9, (execBeatTimer s) = .next t9 → Kept s0 t9 := by
  intro t9 ht; unfold execBeatTimer at ht; injection ht with ht; subst ht; try dsimp only
  repeat' with_reducible first | assumption | intro _ _ _ | intro _ _ | apply kept_nextMseq | apply kept_sendMgmt | exact kept_mk (by assumption) .. | split

theorem kept_execStandbyTakeover {s0 : State} (s : State) (ht0 : Kept s0 s) : ∀ t, execStandbyTakeover s = .next t → Kept s0 t := by
  intro t ht
  unfold execStandbyTakeover at ht
  injection ht with ht
  subst ht
  have h := kept_set_answer .none ht0
  exact kept_ite _ (kept_becomePrimary _ _ h) h

theorem kept_takeNotice {s0 : State} (s : State) (type : Nat) (ht0 : Kept s0 s) : Kept s0 (State.takeNotice s type).1 := by
  unfold State.takeNotice; try dsimp only
  repeat' with_reducible first | assumption | intro _ _ _ | intro _ _ | apply kept_updFm | exact kept_mk (by assumption) .. | split

theorem kept_execElect {s0 : State} (s : State) (ht0 : Kept s0 s) : ∀ t9, (execElect s) = .next t9 → Kept s0 t9 := by
  intro t9 ht; unfold execElect at ht; injection ht with ht; subst ht; dsimp only
  (repeat' split) <;> grind only [kept_electNow, kept_mk, kept_seeTerm, kept_takeNotice, kept_updFm]

theorem kept_execBeat {s0 : State} (s : State) (ht0 : Kept s0 s) : ∀ t9, (execBeat s) = .next t9 → Kept s0 t9 := by
  intro t9 ht; unfold execBeat at ht; injection ht with ht; subst ht; dsimp only
  (repeat' split) <;> grind only [kept_cond, kept_mk, kept_seeTerm, kept_setPrimary, kept_setRole, kept_takeNotice, kept_updFm]

theorem kept_message {s0 : State} (s : State) (type : Nat) (whole : Mgmt → Bool) (f : State → Nat → Nat → Mgmt → State × Nat × List Byte) (net : Bool) (ht0 : Kept s0 s) (hf1 : ∀ s1 x1 x2 x3, Kept s0 s1 → Kept s0 (f s1 x1 x2 x3).1) : ∀ t9, (State.message s type whole f net) = .next t9 → Kept s0 t9 := by
  intro t9 ht; unfold State.message at ht; injection ht with ht; subst ht; try dsimp only
  repeat' with_reducible first | assumption | intro _ _ _ | intro _ _ | apply kept_agentTakes | apply kept_takeResponse | exact kept_mk (by assumption) .. | split

theorem kept_execReplicate {s0 : State} (s : State) (ht0 : Kept s0 s) : ∀ t, execReplicate s = .next t → Kept s0 t := by
  intro t ht
  unfold execReplicate at ht
  exact kept_message _ _ _ _ _ ht0 (fun s _ _ m h => kept_agentReplica _ _ h) t ht

theorem kept_execQuery {s0 : State} (net : Bool) (s : State) (ht0 : Kept s0 s) : ∀ t, execQuery net s = .next t → Kept s0 t := by
  intro t ht
  unfold execQuery at ht
  exact kept_message _ _ _ _ _ ht0 (fun s _ _ m h => h) t ht

theorem kept_execAssign {s0 : State} (s : State) (ht0 : Kept s0 s) : ∀ t, execAssign s = .next t → Kept s0 t := by
  intro t ht
  unfold execAssign at ht
  exact kept_message _ _ _ _ _ ht0 (fun s _ _ m h => kept_cond _ _ (kept_agentAssign _ _ h) (fun _ h => kept_setPrimary _ _ h)) t ht

theorem kept_execPortEn {s0 : State} (s : State) (ht0 : Kept s0 s) : ∀ t, execPortEn s = .next t → Kept s0 t := by
  intro t ht
  unfold execPortEn at ht
  exact kept_message _ _ _ _ _ ht0 (fun s _ _ m h => kept_agentPorts _ _ h) t ht

theorem kept_execPlan {s0 : State} (s : State) (ht0 : Kept s0 s) : ∀ t, execPlan s = .next t → Kept s0 t := by
  intro t ht
  unfold execPlan at ht
  exact kept_message _ _ _ _ _ ht0 (fun s _ _ m h => kept_agentPlan _ _ h) t ht

theorem kept_execExpand {s0 : State} (s : State) (ht0 : Kept s0 s) : ∀ t, execExpand s = .next t → Kept s0 t := by
  intro t ht
  unfold execExpand at ht
  exact kept_message _ _ _ _ _ ht0 (fun s _ _ m h => kept_agentExpand _ _ h) t ht

theorem kept_execEntry {s0 : State} (s : State) (ht0 : Kept s0 s) : ∀ t, execEntry s = .next t → Kept s0 t := by
  intro t ht
  unfold execEntry at ht
  exact kept_message _ _ _ _ _ ht0 (fun s _ _ m h => kept_agentEntries _ _ h) t ht

theorem kept_execFmHold {s0 : State} (s : State) (ht0 : Kept s0 s) : ∀ t, execFmHold s = .next t → Kept s0 t := by
  intro t ht
  unfold execFmHold at ht
  exact kept_message _ _ _ _ _ ht0 (fun s _ _ m h => kept_agentHold _ _ h) t ht

theorem kept_execDrain {s0 : State} (s : State) (ht0 : Kept s0 s) : ∀ t, execDrain s = .next t → Kept s0 t := by
  intro t ht
  unfold execDrain at ht
  exact kept_message _ _ _ _ _ ht0 (fun s _ _ m h => kept_agentDrain _ h) t ht

theorem kept_execFlip {s0 : State} (s : State) (ht0 : Kept s0 s) : ∀ t, execFlip s = .next t → Kept s0 t := by
  intro t ht
  unfold execFlip at ht
  exact kept_message _ _ _ _ _ ht0 (fun s _ _ m h => kept_setBank _ _ h) t ht

theorem kept_execResume {s0 : State} (s : State) (ht0 : Kept s0 s) : ∀ t, execResume s = .next t → Kept s0 t := by
  intro t ht
  unfold execResume at ht
  exact kept_message _ _ _ _ _ ht0 (fun s _ _ m h => kept_agentResume _ h) t ht

theorem kept_execDomain {s0 : State} (s : State) (ht0 : Kept s0 s) : ∀ t, execDomain s = .next t → Kept s0 t := by
  intro t ht
  unfold execDomain at ht
  exact kept_message _ _ _ _ _ ht0 (fun s _ _ m h => kept_agentDomain _ _ h) t ht

theorem kept_execGroup {s0 : State} (s : State) (ht0 : Kept s0 s) : ∀ t, execGroup s = .next t → Kept s0 t := by
  intro t ht
  unfold execGroup at ht
  exact kept_message _ _ _ _ _ ht0 (fun s _ _ m h => kept_agentGroup _ _ h) t ht

theorem kept_execCircuit {s0 : State} (s : State) (ht0 : Kept s0 s) : ∀ t, execCircuit s = .next t → Kept s0 t := by
  intro t ht
  unfold execCircuit at ht
  exact kept_message _ _ _ _ _ ht0 (fun s _ _ m h => kept_agentCircuits _ _ h) t ht

theorem kept_execTables {s0 : State} (s : State) (ht0 : Kept s0 s) : ∀ t, execTables s = .next t → Kept s0 t := by
  intro t ht
  unfold execTables at ht
  exact kept_message _ _ _ _ _ ht0 (fun s _ _ m h => kept_agentTables _ _ h) t ht

theorem kept_execReport {s0 : State} (s : State) (ht0 : Kept s0 s) : ∀ t9, (execReport s) = .next t9 → Kept s0 t9 := by
  intro t9 ht; unfold execReport at ht; injection ht with ht; subst ht
  grind only [kept_goOn, kept_mk, kept_onReport, kept_respond, kept_sendMgmt, kept_takeNotice, kept_takeResponse]

theorem kept_execReportRepeat {s0 : State} (s : State) (ht0 : Kept s0 s) : ∀ t9, (execReportRepeat s) = .next t9 → Kept s0 t9 := by
  intro t9 ht; unfold execReportRepeat at ht; injection ht with ht; subst ht; try dsimp only
  repeat' with_reducible first | assumption | intro _ _ _ | intro _ _ | apply kept_each | apply kept_sendMgmt | exact kept_mk (by assumption) .. | split

theorem kept_execDrainSettle {s0 : State} (s : State) (ht0 : Kept s0 s) : ∀ t9, (execDrainSettle s) = .next t9 → Kept s0 t9 := by
  intro t9 ht; unfold execDrainSettle at ht; injection ht with ht; subst ht; try dsimp only
  repeat' with_reducible first | assumption | intro _ _ _ | intro _ _ | apply kept_goOn | apply kept_updSwap | exact kept_mk (by assumption) .. | split

theorem kept_execDrainOverrun {s0 : State} (s : State) (ht0 : Kept s0 s) : ∀ t9, (execDrainOverrun s) = .next t9 → Kept s0 t9 := by
  intro t9 ht; unfold execDrainOverrun at ht; injection ht with ht; subst ht; try dsimp only
  repeat' with_reducible first | assumption | intro _ _ _ | intro _ _ | apply kept_abortSwap | apply kept_goOn | exact kept_mk (by assumption) .. | split

theorem kept_execSwapRetry {s0 : State} (s : State) (ht0 : Kept s0 s) : ∀ t9, (execSwapRetry s) = .next t9 → Kept s0 t9 := by
  intro t9 ht; unfold execSwapRetry at ht; injection ht with ht; subst ht; try dsimp only
  repeat' with_reducible first | assumption | intro _ _ _ | intro _ _ | apply kept_goOn | apply kept_updSwap | exact kept_mk (by assumption) .. | split

theorem kept_execTagReuseTimer {s0 : State} (tag : BitVec 12) (s : State) (ht0 : Kept s0 s) : ∀ t9, (execTagReuseTimer tag s) = .next t9 → Kept s0 t9 := by
  intro t9 ht; unfold execTagReuseTimer at ht; injection ht with ht; subst ht; try dsimp only
  repeat' with_reducible first | assumption | intro _ _ _ | intro _ _ | apply kept_updFm | exact kept_mk (by assumption) .. | split

theorem kept_forward {s0 : State} (s : State) (arrival : Nat) (m : Mgmt) (ht0 : Kept s0 s) : Kept s0 (State.forward s arrival m) := by
  unfold State.forward; try dsimp only
  repeat' with_reducible first | assumption | intro _ _ _ | intro _ _ | apply kept_flushQueue | apply kept_updFm | exact kept_mk (by assumption) .. | split

theorem kept_execImgOffer {s0 : State} (s : State) (ht0 : Kept s0 s) : ∀ t, execImgOffer s = .next t → Kept s0 t := by
  intro t ht
  unfold execImgOffer at ht
  exact kept_message _ _ _ _ _ ht0 (fun s _ _ m h => kept_forward _ _ _ (kept_cond _ _ h (fun _ h => kept_set_fw _ h))) t ht

theorem kept_execImgData {s0 : State} (s : State) (ht0 : Kept s0 s) : ∀ t, execImgData s = .next t → Kept s0 t := by
  intro t ht
  unfold execImgData at ht
  exact kept_message _ _ _ _ _ ht0 (fun s _ _ m h => kept_forward _ _ _ (kept_cond _ _ h (fun _ h => kept_set_fw _ h))) t ht

theorem kept_netDone {s0 : State} (s : State) (ht0 : Kept s0 s) : Kept s0 s.netDone := by
  unfold State.netDone
  dsimp only
  have h := kept_checkSlot _ (if s.pwr.bootSel = 1 then 0 else s.activeSlot) (kept_writeSlot s (if s.pwr.bootSel = 1 then 0 else s.activeSlot) (s.fw.netBytes.getRun 0 s.fw.netLength) ht0)
  refine kept_ite _ (kept_startSec _ _ (kept_event _ _ _ _ _ (kept_wrB _ _ _ ?_))) (kept_event _ _ _ _ _ h)
  exact kept_mk h ..

theorem kept_execImgDone {s0 : State} (s : State) (ht0 : Kept s0 s) : ∀ t, execImgDone s = .next t → Kept s0 t := by
  intro t ht
  unfold execImgDone at ht
  exact kept_message _ _ _ _ _ ht0 (fun s _ _ m h => kept_cond _ _ (kept_forward _ _ _ h) (fun _ h => kept_netDone _ h)) t ht

theorem kept_execJobCarve {s0 : State} (h : Fin 2) (host : HostData) (s : State) (ht0 : Kept s0 s) : ∀ t9, (execJobCarve h host s) = .next t9 → Kept s0 t9 := by
  intro t9 ht; unfold execJobCarve at ht; injection ht with ht; subst ht
  grind only [kept_event, kept_finish, kept_goOn, kept_hostFailed, kept_mk, kept_setStage, kept_updFm, kept_withCmd]

theorem kept_execJobRelease {s0 : State} (h : Fin 2) (s : State) (ht0 : Kept s0 s) : ∀ t9, (execJobRelease h s) = .next t9 → Kept s0 t9 := by
  intro t9 ht; unfold execJobRelease at ht; injection ht with ht; subst ht
  grind only [kept_event, kept_finish, kept_goOn, kept_mk, kept_setStage, kept_updFm, kept_withCmd]

/-! ### PowerCmds -/

theorem kept_updDemand {s0 : State} (s : State) (p : Nat) (f : Demand → Demand) (ht0 : Kept s0 s) : Kept s0 (State.updDemand s p f) := by
  unfold State.updDemand; try dsimp only
  repeat' with_reducible first | assumption | intro _ _ _ | intro _ _ | apply kept_syncPmcPart | apply kept_updPwr | exact kept_mk (by assumption) .. | split

theorem kept_execJunctionThrottle {s0 : State} (temps : List (BitVec 8)) (cool : BitVec 4) (s : State) (ht0 : Kept s0 s) : ∀ t9, (execJunctionThrottle temps cool s) = .next t9 → Kept s0 t9 := by
  intro t9 ht; unfold execJunctionThrottle at ht; injection ht with ht; subst ht; try dsimp only
  repeat' with_reducible first | assumption | intro _ _ _ | intro _ _ | apply kept_cond | apply kept_each | apply kept_event | apply kept_readTherm | apply kept_syncWarn | apply kept_updDemand | exact kept_mk (by assumption) .. | split

theorem kept_execDroopDetect {s0 : State} (d : Fin 4) (s : State) (ht0 : Kept s0 s) : ∀ t9, (execDroopDetect d s) = .next t9 → Kept s0 t9 := by
  intro t9 ht; unfold execDroopDetect at ht; injection ht with ht; subst ht; try dsimp only
  repeat' with_reducible first | assumption | intro _ _ _ | intro _ _ | apply kept_count | apply kept_updDemand | exact kept_mk (by assumption) .. | split

theorem kept_budgetMove {s0 : State} (s : State) (b : BudgetMove) (ht0 : Kept s0 s) : Kept s0 (State.budgetMove s b) := by
  unfold State.budgetMove; try dsimp only
  repeat' with_reducible first | assumption | intro _ _ _ | intro _ _ | apply kept_raise | apply kept_updDemand | apply kept_wrF | exact kept_mk (by assumption) .. | split

theorem kept_execBudgetTick {s0 : State} (avg peak : Fin 2048) (vin : BitVec 10) (moves : List BudgetMove) (bad : Bool) (s : State) (ht0 : Kept s0 s) : ∀ t9, (execBudgetTick avg peak vin moves bad s) = .next t9 → Kept s0 t9 := by
  intro t9 ht; unfold execBudgetTick at ht; injection ht with ht; subst ht; try dsimp only
  repeat' with_reducible first | assumption | intro _ _ _ | intro _ _ | apply kept_budgetMove | apply kept_cond | apply kept_cpCommit | apply kept_each | apply kept_mismatchAt | apply kept_syncPmcPart | apply kept_updPwr | apply kept_wrF | exact kept_mk (by assumption) .. | split

theorem kept_execEmergencyBegin {s0 : State} (thermal : Bool) (cause : BitVec 4) (s : State) (ht0 : Kept s0 s) : ∀ t9, (execEmergencyBegin thermal cause s) = .next t9 → Kept s0 t9 := by
  intro t9 ht; unfold execEmergencyBegin at ht; injection ht with ht; subst ht; try dsimp only
  repeat' with_reducible first | assumption | intro _ _ _ | intro _ _ | apply kept_alert | apply kept_countF | apply kept_each | apply kept_event | apply kept_rollBack | apply kept_syncPmcPart | apply kept_tryActivate | apply kept_updPwr | apply kept_wrB | apply kept_wrF | exact kept_mk (by assumption) .. | split

theorem kept_execEmergencyEscalate {s0 : State} (s : State) (ht0 : Kept s0 s) : ∀ t9, (execEmergencyEscalate s) = .next t9 → Kept s0 t9 := by
  intro t9 ht; unfold execEmergencyEscalate at ht; injection ht with ht; subst ht; try dsimp only
  repeat' with_reducible first | assumption | intro _ _ _ | intro _ _ | apply kept_each | apply kept_syncPmcPart | apply kept_updPwr | exact kept_mk (by assumption) .. | split

theorem kept_execEmergencyEnd {s0 : State} (thermal : Bool) (s : State) (ht0 : Kept s0 s) : ∀ t9, (execEmergencyEnd thermal s) = .next t9 → Kept s0 t9 := by
  intro t9 ht; unfold execEmergencyEnd at ht; injection ht with ht; subst ht; try dsimp only
  repeat' with_reducible first | assumption | intro _ _ _ | intro _ _ | apply kept_emergencyOver | exact kept_mk (by assumption) .. | split

theorem kept_execDomainSwitchOn {s0 : State} (i : Fin 38) (s : State) (ht0 : Kept s0 s) : ∀ t9, (execDomainSwitchOn i s) = .next t9 → Kept s0 t9 := by
  intro t9 ht; unfold execDomainSwitchOn at ht; injection ht with ht; subst ht; try dsimp only
  repeat' with_reducible first | assumption | intro _ _ _ | intro _ _ | apply kept_event | apply kept_turnOn | exact kept_mk (by assumption) .. | split

theorem kept_execDomainSwitchOff {s0 : State} (i : Fin 38) (empty : Bool) (s : State) (ht0 : Kept s0 s) : ∀ t9, (execDomainSwitchOff i empty s) = .next t9 → Kept s0 t9 := by
  intro t9 ht; unfold execDomainSwitchOff at ht; injection ht with ht; subst ht; try dsimp only
  repeat' with_reducible first | assumption | intro _ _ _ | intro _ _ | apply kept_event | apply kept_turnOff | exact kept_mk (by assumption) .. | split

theorem kept_stateReqDone {s0 : State} (s : State) (ht0 : Kept s0 s) : Kept s0 (State.stateReqDone s) := by
  unfold State.stateReqDone; try dsimp only
  repeat' with_reducible first | assumption | intro _ _ _ | intro _ _ | apply kept_wrB | exact kept_mk (by assumption) .. | split

theorem kept_stateRefused {s0 : State} (s : State) (ht0 : Kept s0 s) : Kept s0 (State.stateRefused s) := by
  unfold State.stateRefused; try dsimp only
  repeat' with_reducible first | assumption | intro _ _ _ | intro _ _ | apply kept_alert | apply kept_stateReqDone | apply kept_wrB | exact kept_mk (by assumption) .. | split

theorem kept_beginTransition {s0 : State} (s : State) (target : Nat) (ht0 : Kept s0 s) : Kept s0 (State.beginTransition s target) := by
  unfold State.beginTransition; try dsimp only
  repeat' with_reducible first | assumption | intro _ _ _ | intro _ _ | apply kept_wrB | apply kept_wrF | exact kept_mk (by assumption) .. | split

theorem kept_endTransition {s0 : State} (s : State) (st : Nat) (ht0 : Kept s0 s) : Kept s0 (State.endTransition s st) := by
  unfold State.endTransition; try dsimp only
  repeat' with_reducible first | assumption | intro _ _ _ | intro _ _ | apply kept_alert | apply kept_stateReqDone | apply kept_wrB | apply kept_wrF | exact kept_mk (by assumption) .. | split

theorem kept_wakePart {s0 : State} (s : State) (p cycles : Nat) (binds : List (Nat × List (List Nat))) (ht0 : Kept s0 s) : Kept s0 (State.wakePart s p cycles binds) := by
  unfold State.wakePart; try dsimp only
  repeat' with_reducible first | assumption | intro _ _ _ | intro _ _ | apply kept_cond | apply kept_formGang | apply kept_restoreContext | apply kept_setHold | exact kept_mk (by assumption) .. | split

theorem kept_leaveDoze {s0 : State} (s : State) (cycles : Nat) (binds : List (Nat × List (List Nat))) (ht0 : Kept s0 s) : Kept s0 (s.leaveDoze cycles binds) := by
  unfold State.leaveDoze
  refine kept_each _ _ ?_ (fun _ _ h => kept_retryWaiting _ _ h)
  refine kept_publishAll _ (kept_event _ _ _ _ _ (kept_endTransition _ _ (kept_set_host _ (kept_updPwr _ _ (kept_each _ _ (kept_each _ _ (kept_each _ _ (kept_each _ _ (kept_turnOn _ _ (kept_each _ _ ht0 ?_)) ?_) ?_) ?_) ?_)))))
  · exact fun _ _ h => kept_cond _ _ h (fun _ h => kept_wrF _ _ _ _ h)
  · exact fun _ _ h => kept_ite _ (kept_turnOn _ _ h) h
  · exact fun _ _ h => kept_loadCcc _ _ h
  · exact fun _ _ h => kept_askWake _ _ (kept_wrB _ _ _ h)
  · exact fun _ _ h => kept_wakePart _ _ _ _ h

theorem kept_execActiveRequest {s0 : State} (cycles : Nat) (binds : List (Nat × List (List Nat))) (s : State) (ht0 : Kept s0 s) : ∀ t9, (execActiveRequest cycles binds s) = .next t9 → Kept s0 t9 := by
  intro t9 ht; unfold execActiveRequest at ht; injection ht with ht; subst ht; try dsimp only
  repeat' with_reducible first | assumption | intro _ _ _ | intro _ _ | apply kept_beginTransition | apply kept_leaveDoze | apply kept_stateRefused | apply kept_stateReqDone | exact kept_mk (by assumption) .. | split

theorem kept_execDozeRequest {s0 : State} (s : State) (ht0 : Kept s0 s) : ∀ t9, (execDozeRequest s) = .next t9 → Kept s0 t9 := by
  intro t9 ht; unfold execDozeRequest at ht; injection ht with ht; subst ht
  grind only [kept_abortMigrations, kept_beginTransition, kept_each, kept_foldl, kept_foldl_fst, kept_mk, kept_releaseHeld, kept_setHold, kept_settleCmds, kept_stateRefused, kept_stateReqDone, kept_updPwr]

theorem kept_execDozeEnter {s0 : State} (s : State) (ht0 : Kept s0 s) : ∀ t9, (execDozeEnter s) = .next t9 → Kept s0 t9 := by
  intro t9 ht; unfold execDozeEnter at ht; injection ht with ht; subst ht; try dsimp only
  repeat' with_reducible first | assumption | intro _ _ _ | intro _ _ | apply kept_askQuiet | apply kept_cond | apply kept_each | apply kept_endTransition | apply kept_event | apply kept_foldl | apply kept_foldl_fst | apply kept_turnOff | apply kept_updPwr | apply kept_wrF | exact kept_mk (by assumption) .. | split

theorem kept_resumePart {s0 : State} (s : State) (p : Nat) (held : Bool) (ht0 : Kept s0 s) : Kept s0 (State.resumePart s p held) := by
  unfold State.resumePart; try dsimp only
  repeat' with_reducible first | assumption | intro _ _ _ | intro _ _ | apply kept_cond | apply kept_restoreContext | apply kept_setHold | exact kept_mk (by assumption) .. | split

theorem kept_execDozeQuiesceTimeout {s0 : State} (s : State) (ht0 : Kept s0 s) : ∀ t, execDozeQuiesceTimeout s = .next t → Kept s0 t := by
  intro t ht
  unfold execDozeQuiesceTimeout at ht
  injection ht with ht
  subst ht
  have h := kept_set_answer .none ht0
  refine kept_ite _ h (kept_event _ _ _ _ _ (kept_stateRefused _ (kept_wrB _ _ _ (kept_set_host _ (kept_updPwr _ _ (kept_each _ _ h ?_))))))
  exact fun _ _ h => kept_resumePart _ _ _ h

theorem kept_execDozeWake {s0 : State} (w : WakeSource) (cycles : Nat) (binds : List (Nat × List (List Nat))) (s : State) (ht0 : Kept s0 s) : ∀ t9, (execDozeWake w cycles binds s) = .next t9 → Kept s0 t9 := by
  intro t9 ht; unfold execDozeWake at ht; injection ht with ht; subst ht; try dsimp only
  repeat' with_reducible first | assumption | intro _ _ _ | intro _ _ | apply kept_beginTransition | apply kept_leaveDoze | exact kept_mk (by assumption) .. | split

theorem kept_resetStarted {s0 : State} (s : State) (ht0 : Kept s0 s) : Kept s0 (State.resetStarted s) := by
  unfold State.resetStarted; try dsimp only
  repeat' with_reducible first | assumption | intro _ _ _ | intro _ _ | apply kept_wrB | exact kept_mk (by assumption) .. | split

theorem kept_resetRefused {s0 : State} (s : State) (ht0 : Kept s0 s) : Kept s0 (State.resetRefused s) := by
  unfold State.resetRefused; try dsimp only
  repeat' with_reducible first | assumption | intro _ _ _ | intro _ _ | apply kept_resetStarted | apply kept_wrB | exact kept_mk (by assumption) .. | split

theorem kept_awake {s0 : State} (s : State) (lost : List Nat) (ht0 : Kept s0 s) : Kept s0 (State.awake s lost) := by
  unfold State.awake; try dsimp only
  repeat' with_reducible first | assumption | intro _ _ _ | intro _ _ | apply kept_beginTransition | apply kept_foldl | apply kept_foldl_fst | apply kept_leaveDoze | exact kept_mk (by assumption) .. | split

theorem kept_execPmcResetCold {s0 : State} (s : State) (ht0 : Kept s0 s) : ∀ t9, (execPmcResetCold s) = .next t9 → Kept s0 t9 := by
  intro t9 ht; unfold execPmcResetCold at ht; injection ht with ht; subst ht; try dsimp only
  repeat' with_reducible first | assumption | intro _ _ _ | intro _ _ | apply kept_coldReset | apply kept_event | exact kept_mk (by assumption) .. | split

theorem kept_execPmcResetWarm {s0 : State} (elapsed : W32) (tests : List (Nat × Nat)) (s : State) (ht0 : Kept s0 s) : ∀ t9, (execPmcResetWarm elapsed tests s) = .next t9 → Kept s0 t9 := by
  intro t9 ht; unfold execPmcResetWarm at ht; injection ht with ht; subst ht; try dsimp only
  repeat' with_reducible first | assumption | intro _ _ _ | intro _ _ | apply kept_awake | apply kept_beginWarm | apply kept_continueWarm | apply kept_resetRefused | apply kept_resetStarted | exact kept_mk (by assumption) .. | split

theorem kept_execPmcResetPartition {s0 : State} (tests : List (Nat × Nat)) (s : State) (ht0 : Kept s0 s) : ∀ t9, (execPmcResetPartition tests s) = .next t9 → Kept s0 t9 := by
  intro t9 ht; unfold execPmcResetPartition at ht; injection ht with ht; subst ht; try dsimp only
  repeat' with_reducible first | assumption | intro _ _ _ | intro _ _ | apply kept_awake | apply kept_beginStop | apply kept_resetRefused | apply kept_resetStarted | exact kept_mk (by assumption) .. | split

theorem kept_clearEngines {s0 : State} (s : State) (q u : Nat) (ht0 : Kept s0 s) : Kept s0 (State.clearEngines s q u) := by
  unfold State.clearEngines; try dsimp only
  repeat' with_reducible first | assumption | intro _ _ _ | intro _ _ | apply kept_updSeq | exact kept_mk (by assumption) .. | split

theorem kept_execPmcResetCluster {s0 : State} (low : BitVec 27) (s : State) (ht0 : Kept s0 s) : ∀ t9, (execPmcResetCluster low s) = .next t9 → Kept s0 t9 := by
  intro t9 ht; unfold execPmcResetCluster at ht; injection ht with ht; subst ht; try dsimp only
  repeat' with_reducible first | assumption | intro _ _ _ | intro _ _ | apply kept_awake | apply kept_clearEngines | apply kept_cond | apply kept_event | apply kept_loadCcc | apply kept_publishAll | apply kept_resetRefused | apply kept_resetStarted | apply kept_selfTested | exact kept_mk (by assumption) .. | split

theorem kept_execPmcResetPort {s0 : State} (s : State) (ht0 : Kept s0 s) : ∀ t9, (execPmcResetPort s) = .next t9 → Kept s0 t9 := by
  intro t9 ht; unfold execPmcResetPort at ht; injection ht with ht; subst ht; try dsimp only
  repeat' with_reducible first | assumption | intro _ _ _ | intro _ _ | apply kept_portReset | apply kept_resetRefused | apply kept_resetStarted | exact kept_mk (by assumption) .. | split

theorem kept_execMgmtBusTransfer {s0 : State} (t : BusTransfer) (s : State) (ht0 : Kept s0 s) : ∀ t9, (execMgmtBusTransfer t s) = .next t9 → Kept s0 t9 := by
  intro t9 ht; unfold execMgmtBusTransfer at ht; injection ht with ht; subst ht; try dsimp only
  repeat' with_reducible first | assumption | intro _ _ _ | intro _ _ | apply kept_csrRead | apply kept_csrWrite | exact kept_mk (by assumption) .. | split

theorem kept_execFloorPlanUpdate {s0 : State} (s : State) (ht0 : Kept s0 s) : ∀ t9, (execFloorPlanUpdate s) = .next t9 → Kept s0 t9 := by
  intro t9 ht; unfold execFloorPlanUpdate at ht; injection ht with ht; subst ht; try dsimp only
  repeat' with_reducible first | assumption | intro _ _ _ | intro _ _ | apply kept_publishAll | exact kept_mk (by assumption) .. | split

/-! ### Step -/

theorem kept_idle {s0 : State} (s : State) (ht0 : Kept s0 s) : Kept s0 (State.idle s) := by
  unfold State.idle; try dsimp only
  repeat' with_reducible first | assumption | intro _ _ _ | intro _ _ | exact kept_mk (by assumption) .. | split

theorem kept_withFetchWord {s0 : State} (s : State) (nbits w : Nat) (ht0 : Kept s0 s) : Kept s0 (State.withFetchWord s nbits w) := by
  unfold State.withFetchWord
  first | exact kept_mk ht0 .. | exact ht0

end Sys2Proof.Machine
end

