-- ==== Sys2Proof/Laws/Word.lean ====
section
/-!
SUPPORT. The laws of the bit fields of a 64-bit word: what a field reads as after it, or another field of the word, is written.
-/
namespace Sys2Proof

theorem natFld_testBit (x lo len i : Nat) : (natFld x lo len).testBit i = (decide (i < len) && x.testBit (lo + i)) := by
  simp [natFld, Nat.testBit_mod_two_pow, Nat.testBit_shiftRight]

theorem fldMask_getLsbD (hi lo i : Nat) (h : lo ≤ hi + 1) :
    (fldMask hi lo).getLsbD i = (decide (i < 64) && decide (lo ≤ i) && decide (i ≤ hi)) := by
  simp only [fldMask, BitVec.getLsbD_ofNat, Nat.testBit_shiftLeft, Nat.testBit_two_pow_sub_one]
  rw [Bool.eq_iff_iff]
  simp only [Bool.and_eq_true, decide_eq_true_eq, ge_iff_le]
  omega

/-- The bits of a word after one of its fields is written. -/
theorem setFld_getLsbD (w : W64) (hi lo x i : Nat) (h : lo ≤ hi + 1) :
    (setFld w hi lo x).getLsbD i =
      if i < 64 ∧ lo ≤ i ∧ i ≤ hi then x.testBit (i - lo) else w.getLsbD i := by
  simp only [setFld, BitVec.getLsbD_or, BitVec.getLsbD_and, BitVec.getLsbD_not, fldMask_getLsbD _ _ _ h,
    BitVec.getLsbD_ofNat, Nat.testBit_shiftLeft]
  by_cases h1 : i < 64
  · by_cases h2 : lo ≤ i <;> by_cases h3 : i ≤ hi <;> simp [h1, h2, h3]
  · simp [h1, BitVec.getLsbD_of_ge w i (by omega)]

theorem fld_testBit (w : W64) (hi lo i : Nat) : (fld w hi lo).testBit i = (decide (i < hi + 1 - lo) && w.getLsbD (lo + i)) := by
  simp [fld, natFld_testBit, BitVec.getLsbD]

/-- A field reads as the low bits of what was written into it. -/
theorem fld_setFld_same (w : W64) (hi lo x : Nat) (h : lo ≤ hi) (h64 : hi < 64) :
    fld (setFld w hi lo x) hi lo = x % 2 ^ (hi + 1 - lo) := by
  apply Nat.eq_of_testBit_eq
  intro i
  rw [fld_testBit, setFld_getLsbD _ _ _ _ _ (by omega), Nat.testBit_mod_two_pow]
  by_cases hi' : i < hi + 1 - lo
  · rw [if_pos (by omega)]; simp [hi']
  · simp [hi']

/-- A field that shares no bit with the one written reads as before. -/
theorem fld_setFld_ne (w : W64) (hi lo x hi' lo' : Nat) (h : lo ≤ hi + 1) (hd : hi < lo' ∨ hi' < lo) :
    fld (setFld w hi lo x) hi' lo' = fld w hi' lo' := by
  apply Nat.eq_of_testBit_eq
  intro i
  rw [fld_testBit, fld_testBit, setFld_getLsbD _ _ _ _ _ h]
  by_cases hi' : i < hi' + 1 - lo'
  · rw [if_neg (by omega)]
  · simp [hi']

theorem bitOf_setFld_ne (w : W64) (hi lo x i : Nat) (h : lo ≤ hi + 1) (hd : hi < i ∨ i < lo) :
    bitOf (setFld w hi lo x) i = bitOf w i := by
  unfold bitOf
  rw [setFld_getLsbD _ _ _ _ _ h, if_neg (by omega)]

theorem bitOf_setFld_bit (w : W64) (i : Nat) (b : Bool) (h : i < 64) : bitOf (setFld w i i b.toNat) i = b := by
  unfold bitOf
  rw [setFld_getLsbD _ _ _ _ _ (by omega), if_pos (by omega)]
  cases b <;> simp

end Sys2Proof
end

