-- ==== Sys2Proof/Laws/State.lean ====
section
/-!
SUPPORT. The laws of the state's updates: for every update of a part of the state, what each field of State reads as after it, and what a
register reads as after another register, or a field of one, is written.
-/
namespace Sys2Proof.Machine

variable (s : State)

/-! ### `wr` -/

@[simp] theorem State.wr_cpPend (a : Nat) (v : W64) : (s.wr a v).cpPend = s.cpPend := rfl
@[simp] theorem State.wr_cpBad (a : Nat) (v : W64) : (s.wr a v).cpBad = s.cpBad := rfl
@[simp] theorem State.wr_mem (a : Nat) (v : W64) : (s.wr a v).mem = s.mem := rfl
@[simp] theorem State.wr_syn (a : Nat) (v : W64) : (s.wr a v).syn = s.syn := rfl
@[simp] theorem State.wr_wordErr (a : Nat) (v : W64) : (s.wr a v).wordErr = s.wordErr := rfl
@[simp] theorem State.wr_lineErr (a : Nat) (v : W64) : (s.wr a v).lineErr = s.lineErr := rfl
@[simp] theorem State.wr_seqs (a : Nat) (v : W64) : (s.wr a v).seqs = s.seqs := rfl
@[simp] theorem State.wr_saved (a : Nat) (v : W64) : (s.wr a v).saved = s.saved := rfl
@[simp] theorem State.wr_bases (a : Nat) (v : W64) : (s.wr a v).bases = s.bases := rfl
@[simp] theorem State.wr_stackSide (a : Nat) (v : W64) : (s.wr a v).stackSide = s.stackSide := rfl
@[simp] theorem State.wr_clxs (a : Nat) (v : W64) : (s.wr a v).clxs = s.clxs := rfl
@[simp] theorem State.wr_ports (a : Nat) (v : W64) : (s.wr a v).ports = s.ports := rfl
@[simp] theorem State.wr_router (a : Nat) (v : W64) : (s.wr a v).router = s.router := rfl
@[simp] theorem State.wr_fm (a : Nat) (v : W64) : (s.wr a v).fm = s.fm := rfl
@[simp] theorem State.wr_clusters (a : Nat) (v : W64) : (s.wr a v).clusters = s.clusters := rfl
@[simp] theorem State.wr_config (a : Nat) (v : W64) : (s.wr a v).config = s.config := rfl
@[simp] theorem State.wr_fuses (a : Nat) (v : W64) : (s.wr a v).fuses = s.fuses := rfl
@[simp] theorem State.wr_host (a : Nat) (v : W64) : (s.wr a v).host = s.host := rfl
@[simp] theorem State.wr_fw (a : Nat) (v : W64) : (s.wr a v).fw = s.fw := rfl
@[simp] theorem State.wr_sec (a : Nat) (v : W64) : (s.wr a v).sec = s.sec := rfl
@[simp] theorem State.wr_pwr (a : Nat) (v : W64) : (s.wr a v).pwr = s.pwr := rfl
@[simp] theorem State.wr_rcd (a : Nat) (v : W64) : (s.wr a v).rcd = s.rcd := rfl
@[simp] theorem State.wr_answer (a : Nat) (v : W64) : (s.wr a v).answer = s.answer := rfl
@[simp] theorem State.wr_fresh (a : Nat) (v : W64) : (s.wr a v).fresh = s.fresh := rfl
@[simp] theorem State.wr_pending (a : Nat) (v : W64) : (s.wr a v).pending = s.pending := rfl

/-! ### `wrF` -/

@[simp] theorem State.wrF_cpPend (a hi lo x : Nat) : (s.wrF a hi lo x).cpPend = s.cpPend := rfl
@[simp] theorem State.wrF_cpBad (a hi lo x : Nat) : (s.wrF a hi lo x).cpBad = s.cpBad := rfl
@[simp] theorem State.wrF_mem (a hi lo x : Nat) : (s.wrF a hi lo x).mem = s.mem := rfl
@[simp] theorem State.wrF_syn (a hi lo x : Nat) : (s.wrF a hi lo x).syn = s.syn := rfl
@[simp] theorem State.wrF_wordErr (a hi lo x : Nat) : (s.wrF a hi lo x).wordErr = s.wordErr := rfl
@[simp] theorem State.wrF_lineErr (a hi lo x : Nat) : (s.wrF a hi lo x).lineErr = s.lineErr := rfl
@[simp] theorem State.wrF_seqs (a hi lo x : Nat) : (s.wrF a hi lo x).seqs = s.seqs := rfl
@[simp] theorem State.wrF_saved (a hi lo x : Nat) : (s.wrF a hi lo x).saved = s.saved := rfl
@[simp] theorem State.wrF_bases (a hi lo x : Nat) : (s.wrF a hi lo x).bases = s.bases := rfl
@[simp] theorem State.wrF_stackSide (a hi lo x : Nat) : (s.wrF a hi lo x).stackSide = s.stackSide := rfl
@[simp] theorem State.wrF_clxs (a hi lo x : Nat) : (s.wrF a hi lo x).clxs = s.clxs := rfl
@[simp] theorem State.wrF_ports (a hi lo x : Nat) : (s.wrF a hi lo x).ports = s.ports := rfl
@[simp] theorem State.wrF_router (a hi lo x : Nat) : (s.wrF a hi lo x).router = s.router := rfl
@[simp] theorem State.wrF_fm (a hi lo x : Nat) : (s.wrF a hi lo x).fm = s.fm := rfl
@[simp] theorem State.wrF_clusters (a hi lo x : Nat) : (s.wrF a hi lo x).clusters = s.clusters := rfl
@[simp] theorem State.wrF_config (a hi lo x : Nat) : (s.wrF a hi lo x).config = s.config := rfl
@[simp] theorem State.wrF_fuses (a hi lo x : Nat) : (s.wrF a hi lo x).fuses = s.fuses := rfl
@[simp] theorem State.wrF_host (a hi lo x : Nat) : (s.wrF a hi lo x).host = s.host := rfl
@[simp] theorem State.wrF_fw (a hi lo x : Nat) : (s.wrF a hi lo x).fw = s.fw := rfl
@[simp] theorem State.wrF_sec (a hi lo x : Nat) : (s.wrF a hi lo x).sec = s.sec := rfl
@[simp] theorem State.wrF_pwr (a hi lo x : Nat) : (s.wrF a hi lo x).pwr = s.pwr := rfl
@[simp] theorem State.wrF_rcd (a hi lo x : Nat) : (s.wrF a hi lo x).rcd = s.rcd := rfl
@[simp] theorem State.wrF_answer (a hi lo x : Nat) : (s.wrF a hi lo x).answer = s.answer := rfl
@[simp] theorem State.wrF_fresh (a hi lo x : Nat) : (s.wrF a hi lo x).fresh = s.fresh := rfl
@[simp] theorem State.wrF_pending (a hi lo x : Nat) : (s.wrF a hi lo x).pending = s.pending := rfl

/-! ### `wrB` -/

@[simp] theorem State.wrB_cpPend (a i : Nat) (b : Bool) : (s.wrB a i b).cpPend = s.cpPend := rfl
@[simp] theorem State.wrB_cpBad (a i : Nat) (b : Bool) : (s.wrB a i b).cpBad = s.cpBad := rfl
@[simp] theorem State.wrB_mem (a i : Nat) (b : Bool) : (s.wrB a i b).mem = s.mem := rfl
@[simp] theorem State.wrB_syn (a i : Nat) (b : Bool) : (s.wrB a i b).syn = s.syn := rfl
@[simp] theorem State.wrB_wordErr (a i : Nat) (b : Bool) : (s.wrB a i b).wordErr = s.wordErr := rfl
@[simp] theorem State.wrB_lineErr (a i : Nat) (b : Bool) : (s.wrB a i b).lineErr = s.lineErr := rfl
@[simp] theorem State.wrB_seqs (a i : Nat) (b : Bool) : (s.wrB a i b).seqs = s.seqs := rfl
@[simp] theorem State.wrB_saved (a i : Nat) (b : Bool) : (s.wrB a i b).saved = s.saved := rfl
@[simp] theorem State.wrB_bases (a i : Nat) (b : Bool) : (s.wrB a i b).bases = s.bases := rfl
@[simp] theorem State.wrB_stackSide (a i : Nat) (b : Bool) : (s.wrB a i b).stackSide = s.stackSide := rfl
@[simp] theorem State.wrB_clxs (a i : Nat) (b : Bool) : (s.wrB a i b).clxs = s.clxs := rfl
@[simp] theorem State.wrB_ports (a i : Nat) (b : Bool) : (s.wrB a i b).ports = s.ports := rfl
@[simp] theorem State.wrB_router (a i : Nat) (b : Bool) : (s.wrB a i b).router = s.router := rfl
@[simp] theorem State.wrB_fm (a i : Nat) (b : Bool) : (s.wrB a i b).fm = s.fm := rfl
@[simp] theorem State.wrB_clusters (a i : Nat) (b : Bool) : (s.wrB a i b).clusters = s.clusters := rfl
@[simp] theorem State.wrB_config (a i : Nat) (b : Bool) : (s.wrB a i b).config = s.config := rfl
@[simp] theorem State.wrB_fuses (a i : Nat) (b : Bool) : (s.wrB a i b).fuses = s.fuses := rfl
@[simp] theorem State.wrB_host (a i : Nat) (b : Bool) : (s.wrB a i b).host = s.host := rfl
@[simp] theorem State.wrB_fw (a i : Nat) (b : Bool) : (s.wrB a i b).fw = s.fw := rfl
@[simp] theorem State.wrB_sec (a i : Nat) (b : Bool) : (s.wrB a i b).sec = s.sec := rfl
@[simp] theorem State.wrB_pwr (a i : Nat) (b : Bool) : (s.wrB a i b).pwr = s.pwr := rfl
@[simp] theorem State.wrB_rcd (a i : Nat) (b : Bool) : (s.wrB a i b).rcd = s.rcd := rfl
@[simp] theorem State.wrB_answer (a i : Nat) (b : Bool) : (s.wrB a i b).answer = s.answer := rfl
@[simp] theorem State.wrB_fresh (a i : Nat) (b : Bool) : (s.wrB a i b).fresh = s.fresh := rfl
@[simp] theorem State.wrB_pending (a i : Nat) (b : Bool) : (s.wrB a i b).pending = s.pending := rfl

/-! ### `count` -/

@[simp] theorem State.count_cpPend (a n : Nat) : (s.count a n).cpPend = s.cpPend := rfl
@[simp] theorem State.count_cpBad (a n : Nat) : (s.count a n).cpBad = s.cpBad := rfl
@[simp] theorem State.count_mem (a n : Nat) : (s.count a n).mem = s.mem := rfl
@[simp] theorem State.count_syn (a n : Nat) : (s.count a n).syn = s.syn := rfl
@[simp] theorem State.count_wordErr (a n : Nat) : (s.count a n).wordErr = s.wordErr := rfl
@[simp] theorem State.count_lineErr (a n : Nat) : (s.count a n).lineErr = s.lineErr := rfl
@[simp] theorem State.count_seqs (a n : Nat) : (s.count a n).seqs = s.seqs := rfl
@[simp] theorem State.count_saved (a n : Nat) : (s.count a n).saved = s.saved := rfl
@[simp] theorem State.count_bases (a n : Nat) : (s.count a n).bases = s.bases := rfl
@[simp] theorem State.count_stackSide (a n : Nat) : (s.count a n).stackSide = s.stackSide := rfl
@[simp] theorem State.count_clxs (a n : Nat) : (s.count a n).clxs = s.clxs := rfl
@[simp] theorem State.count_ports (a n : Nat) : (s.count a n).ports = s.ports := rfl
@[simp] theorem State.count_router (a n : Nat) : (s.count a n).router = s.router := rfl
@[simp] theorem State.count_fm (a n : Nat) : (s.count a n).fm = s.fm := rfl
@[simp] theorem State.count_clusters (a n : Nat) : (s.count a n).clusters = s.clusters := rfl
@[simp] theorem State.count_config (a n : Nat) : (s.count a n).config = s.config := rfl
@[simp] theorem State.count_fuses (a n : Nat) : (s.count a n).fuses = s.fuses := rfl
@[simp] theorem State.count_host (a n : Nat) : (s.count a n).host = s.host := rfl
@[simp] theorem State.count_fw (a n : Nat) : (s.count a n).fw = s.fw := rfl
@[simp] theorem State.count_sec (a n : Nat) : (s.count a n).sec = s.sec := rfl
@[simp] theorem State.count_pwr (a n : Nat) : (s.count a n).pwr = s.pwr := rfl
@[simp] theorem State.count_rcd (a n : Nat) : (s.count a n).rcd = s.rcd := rfl
@[simp] theorem State.count_answer (a n : Nat) : (s.count a n).answer = s.answer := rfl
@[simp] theorem State.count_fresh (a n : Nat) : (s.count a n).fresh = s.fresh := rfl
@[simp] theorem State.count_pending (a n : Nat) : (s.count a n).pending = s.pending := rfl

/-! ### `countF` -/

@[simp] theorem State.countF_cpPend (a hi lo n : Nat) : (s.countF a hi lo n).cpPend = s.cpPend := rfl
@[simp] theorem State.countF_cpBad (a hi lo n : Nat) : (s.countF a hi lo n).cpBad = s.cpBad := rfl
@[simp] theorem State.countF_mem (a hi lo n : Nat) : (s.countF a hi lo n).mem = s.mem := rfl
@[simp] theorem State.countF_syn (a hi lo n : Nat) : (s.countF a hi lo n).syn = s.syn := rfl
@[simp] theorem State.countF_wordErr (a hi lo n : Nat) : (s.countF a hi lo n).wordErr = s.wordErr := rfl
@[simp] theorem State.countF_lineErr (a hi lo n : Nat) : (s.countF a hi lo n).lineErr = s.lineErr := rfl
@[simp] theorem State.countF_seqs (a hi lo n : Nat) : (s.countF a hi lo n).seqs = s.seqs := rfl
@[simp] theorem State.countF_saved (a hi lo n : Nat) : (s.countF a hi lo n).saved = s.saved := rfl
@[simp] theorem State.countF_bases (a hi lo n : Nat) : (s.countF a hi lo n).bases = s.bases := rfl
@[simp] theorem State.countF_stackSide (a hi lo n : Nat) : (s.countF a hi lo n).stackSide = s.stackSide := rfl
@[simp] theorem State.countF_clxs (a hi lo n : Nat) : (s.countF a hi lo n).clxs = s.clxs := rfl
@[simp] theorem State.countF_ports (a hi lo n : Nat) : (s.countF a hi lo n).ports = s.ports := rfl
@[simp] theorem State.countF_router (a hi lo n : Nat) : (s.countF a hi lo n).router = s.router := rfl
@[simp] theorem State.countF_fm (a hi lo n : Nat) : (s.countF a hi lo n).fm = s.fm := rfl
@[simp] theorem State.countF_clusters (a hi lo n : Nat) : (s.countF a hi lo n).clusters = s.clusters := rfl
@[simp] theorem State.countF_config (a hi lo n : Nat) : (s.countF a hi lo n).config = s.config := rfl
@[simp] theorem State.countF_fuses (a hi lo n : Nat) : (s.countF a hi lo n).fuses = s.fuses := rfl
@[simp] theorem State.countF_host (a hi lo n : Nat) : (s.countF a hi lo n).host = s.host := rfl
@[simp] theorem State.countF_fw (a hi lo n : Nat) : (s.countF a hi lo n).fw = s.fw := rfl
@[simp] theorem State.countF_sec (a hi lo n : Nat) : (s.countF a hi lo n).sec = s.sec := rfl
@[simp] theorem State.countF_pwr (a hi lo n : Nat) : (s.countF a hi lo n).pwr = s.pwr := rfl
@[simp] theorem State.countF_rcd (a hi lo n : Nat) : (s.countF a hi lo n).rcd = s.rcd := rfl
@[simp] theorem State.countF_answer (a hi lo n : Nat) : (s.countF a hi lo n).answer = s.answer := rfl
@[simp] theorem State.countF_fresh (a hi lo n : Nat) : (s.countF a hi lo n).fresh = s.fresh := rfl
@[simp] theorem State.countF_pending (a hi lo n : Nat) : (s.countF a hi lo n).pending = s.pending := rfl

/-! ### `updBase` -/

@[simp] theorem State.updBase_csr (n : Nat) (f : BaseStack → BaseStack) : (s.updBase n f).csr = s.csr := rfl
@[simp] theorem State.updBase_cpPend (n : Nat) (f : BaseStack → BaseStack) : (s.updBase n f).cpPend = s.cpPend := rfl
@[simp] theorem State.updBase_cpBad (n : Nat) (f : BaseStack → BaseStack) : (s.updBase n f).cpBad = s.cpBad := rfl
@[simp] theorem State.updBase_mem (n : Nat) (f : BaseStack → BaseStack) : (s.updBase n f).mem = s.mem := rfl
@[simp] theorem State.updBase_syn (n : Nat) (f : BaseStack → BaseStack) : (s.updBase n f).syn = s.syn := rfl
@[simp] theorem State.updBase_wordErr (n : Nat) (f : BaseStack → BaseStack) : (s.updBase n f).wordErr = s.wordErr := rfl
@[simp] theorem State.updBase_lineErr (n : Nat) (f : BaseStack → BaseStack) : (s.updBase n f).lineErr = s.lineErr := rfl
@[simp] theorem State.updBase_seqs (n : Nat) (f : BaseStack → BaseStack) : (s.updBase n f).seqs = s.seqs := rfl
@[simp] theorem State.updBase_saved (n : Nat) (f : BaseStack → BaseStack) : (s.updBase n f).saved = s.saved := rfl
@[simp] theorem State.updBase_stackSide (n : Nat) (f : BaseStack → BaseStack) : (s.updBase n f).stackSide = s.stackSide := rfl
@[simp] theorem State.updBase_clxs (n : Nat) (f : BaseStack → BaseStack) : (s.updBase n f).clxs = s.clxs := rfl
@[simp] theorem State.updBase_ports (n : Nat) (f : BaseStack → BaseStack) : (s.updBase n f).ports = s.ports := rfl
@[simp] theorem State.updBase_router (n : Nat) (f : BaseStack → BaseStack) : (s.updBase n f).router = s.router := rfl
@[simp] theorem State.updBase_fm (n : Nat) (f : BaseStack → BaseStack) : (s.updBase n f).fm = s.fm := rfl
@[simp] theorem State.updBase_clusters (n : Nat) (f : BaseStack → BaseStack) : (s.updBase n f).clusters = s.clusters := rfl
@[simp] theorem State.updBase_config (n : Nat) (f : BaseStack → BaseStack) : (s.updBase n f).config = s.config := rfl
@[simp] theorem State.updBase_fuses (n : Nat) (f : BaseStack → BaseStack) : (s.updBase n f).fuses = s.fuses := rfl
@[simp] theorem State.updBase_host (n : Nat) (f : BaseStack → BaseStack) : (s.updBase n f).host = s.host := rfl
@[simp] theorem State.updBase_fw (n : Nat) (f : BaseStack → BaseStack) : (s.updBase n f).fw = s.fw := rfl
@[simp] theorem State.updBase_sec (n : Nat) (f : BaseStack → BaseStack) : (s.updBase n f).sec = s.sec := rfl
@[simp] theorem State.updBase_pwr (n : Nat) (f : BaseStack → BaseStack) : (s.updBase n f).pwr = s.pwr := rfl
@[simp] theorem State.updBase_rcd (n : Nat) (f : BaseStack → BaseStack) : (s.updBase n f).rcd = s.rcd := rfl
@[simp] theorem State.updBase_answer (n : Nat) (f : BaseStack → BaseStack) : (s.updBase n f).answer = s.answer := rfl
@[simp] theorem State.updBase_fresh (n : Nat) (f : BaseStack → BaseStack) : (s.updBase n f).fresh = s.fresh := rfl
@[simp] theorem State.updBase_pending (n : Nat) (f : BaseStack → BaseStack) : (s.updBase n f).pending = s.pending := rfl

/-! ### `updClx` -/

@[simp] theorem State.updClx_csr (q : Nat) (f : Clx → Clx) : (s.updClx q f).csr = s.csr := rfl
@[simp] theorem State.updClx_cpPend (q : Nat) (f : Clx → Clx) : (s.updClx q f).cpPend = s.cpPend := rfl
@[simp] theorem State.updClx_cpBad (q : Nat) (f : Clx → Clx) : (s.updClx q f).cpBad = s.cpBad := rfl
@[simp] theorem State.updClx_mem (q : Nat) (f : Clx → Clx) : (s.updClx q f).mem = s.mem := rfl
@[simp] theorem State.updClx_syn (q : Nat) (f : Clx → Clx) : (s.updClx q f).syn = s.syn := rfl
@[simp] theorem State.updClx_wordErr (q : Nat) (f : Clx → Clx) : (s.updClx q f).wordErr = s.wordErr := rfl
@[simp] theorem State.updClx_lineErr (q : Nat) (f : Clx → Clx) : (s.updClx q f).lineErr = s.lineErr := rfl
@[simp] theorem State.updClx_seqs (q : Nat) (f : Clx → Clx) : (s.updClx q f).seqs = s.seqs := rfl
@[simp] theorem State.updClx_saved (q : Nat) (f : Clx → Clx) : (s.updClx q f).saved = s.saved := rfl
@[simp] theorem State.updClx_bases (q : Nat) (f : Clx → Clx) : (s.updClx q f).bases = s.bases := rfl
@[simp] theorem State.updClx_stackSide (q : Nat) (f : Clx → Clx) : (s.updClx q f).stackSide = s.stackSide := rfl
@[simp] theorem State.updClx_ports (q : Nat) (f : Clx → Clx) : (s.updClx q f).ports = s.ports := rfl
@[simp] theorem State.updClx_router (q : Nat) (f : Clx → Clx) : (s.updClx q f).router = s.router := rfl
@[simp] theorem State.updClx_fm (q : Nat) (f : Clx → Clx) : (s.updClx q f).fm = s.fm := rfl
@[simp] theorem State.updClx_clusters (q : Nat) (f : Clx → Clx) : (s.updClx q f).clusters = s.clusters := rfl
@[simp] theorem State.updClx_config (q : Nat) (f : Clx → Clx) : (s.updClx q f).config = s.config := rfl
@[simp] theorem State.updClx_fuses (q : Nat) (f : Clx → Clx) : (s.updClx q f).fuses = s.fuses := rfl
@[simp] theorem State.updClx_host (q : Nat) (f : Clx → Clx) : (s.updClx q f).host = s.host := rfl
@[simp] theorem State.updClx_fw (q : Nat) (f : Clx → Clx) : (s.updClx q f).fw = s.fw := rfl
@[simp] theorem State.updClx_sec (q : Nat) (f : Clx → Clx) : (s.updClx q f).sec = s.sec := rfl
@[simp] theorem State.updClx_pwr (q : Nat) (f : Clx → Clx) : (s.updClx q f).pwr = s.pwr := rfl
@[simp] theorem State.updClx_rcd (q : Nat) (f : Clx → Clx) : (s.updClx q f).rcd = s.rcd := rfl
@[simp] theorem State.updClx_answer (q : Nat) (f : Clx → Clx) : (s.updClx q f).answer = s.answer := rfl
@[simp] theorem State.updClx_fresh (q : Nat) (f : Clx → Clx) : (s.updClx q f).fresh = s.fresh := rfl
@[simp] theorem State.updClx_pending (q : Nat) (f : Clx → Clx) : (s.updClx q f).pending = s.pending := rfl

/-! ### `updPort` -/

@[simp] theorem State.updPort_csr (p : Nat) (f : Port → Port) : (s.updPort p f).csr = s.csr := rfl
@[simp] theorem State.updPort_cpPend (p : Nat) (f : Port → Port) : (s.updPort p f).cpPend = s.cpPend := rfl
@[simp] theorem State.updPort_cpBad (p : Nat) (f : Port → Port) : (s.updPort p f).cpBad = s.cpBad := rfl
@[simp] theorem State.updPort_mem (p : Nat) (f : Port → Port) : (s.updPort p f).mem = s.mem := rfl
@[simp] theorem State.updPort_syn (p : Nat) (f : Port → Port) : (s.updPort p f).syn = s.syn := rfl
@[simp] theorem State.updPort_wordErr (p : Nat) (f : Port → Port) : (s.updPort p f).wordErr = s.wordErr := rfl
@[simp] theorem State.updPort_lineErr (p : Nat) (f : Port → Port) : (s.updPort p f).lineErr = s.lineErr := rfl
@[simp] theorem State.updPort_seqs (p : Nat) (f : Port → Port) : (s.updPort p f).seqs = s.seqs := rfl
@[simp] theorem State.updPort_saved (p : Nat) (f : Port → Port) : (s.updPort p f).saved = s.saved := rfl
@[simp] theorem State.updPort_bases (p : Nat) (f : Port → Port) : (s.updPort p f).bases = s.bases := rfl
@[simp] theorem State.updPort_stackSide (p : Nat) (f : Port → Port) : (s.updPort p f).stackSide = s.stackSide := rfl
@[simp] theorem State.updPort_clxs (p : Nat) (f : Port → Port) : (s.updPort p f).clxs = s.clxs := rfl
@[simp] theorem State.updPort_router (p : Nat) (f : Port → Port) : (s.updPort p f).router = s.router := rfl
@[simp] theorem State.updPort_fm (p : Nat) (f : Port → Port) : (s.updPort p f).fm = s.fm := rfl
@[simp] theorem State.updPort_clusters (p : Nat) (f : Port → Port) : (s.updPort p f).clusters = s.clusters := rfl
@[simp] theorem State.updPort_config (p : Nat) (f : Port → Port) : (s.updPort p f).config = s.config := rfl
@[simp] theorem State.updPort_fuses (p : Nat) (f : Port → Port) : (s.updPort p f).fuses = s.fuses := rfl
@[simp] theorem State.updPort_host (p : Nat) (f : Port → Port) : (s.updPort p f).host = s.host := rfl
@[simp] theorem State.updPort_fw (p : Nat) (f : Port → Port) : (s.updPort p f).fw = s.fw := rfl
@[simp] theorem State.updPort_sec (p : Nat) (f : Port → Port) : (s.updPort p f).sec = s.sec := rfl
@[simp] theorem State.updPort_pwr (p : Nat) (f : Port → Port) : (s.updPort p f).pwr = s.pwr := rfl
@[simp] theorem State.updPort_rcd (p : Nat) (f : Port → Port) : (s.updPort p f).rcd = s.rcd := rfl
@[simp] theorem State.updPort_answer (p : Nat) (f : Port → Port) : (s.updPort p f).answer = s.answer := rfl
@[simp] theorem State.updPort_fresh (p : Nat) (f : Port → Port) : (s.updPort p f).fresh = s.fresh := rfl
@[simp] theorem State.updPort_pending (p : Nat) (f : Port → Port) : (s.updPort p f).pending = s.pending := rfl

/-! ### `updRouter` -/

@[simp] theorem State.updRouter_csr (f : Router → Router) : (s.updRouter f).csr = s.csr := rfl
@[simp] theorem State.updRouter_cpPend (f : Router → Router) : (s.updRouter f).cpPend = s.cpPend := rfl
@[simp] theorem State.updRouter_cpBad (f : Router → Router) : (s.updRouter f).cpBad = s.cpBad := rfl
@[simp] theorem State.updRouter_mem (f : Router → Router) : (s.updRouter f).mem = s.mem := rfl
@[simp] theorem State.updRouter_syn (f : Router → Router) : (s.updRouter f).syn = s.syn := rfl
@[simp] theorem State.updRouter_wordErr (f : Router → Router) : (s.updRouter f).wordErr = s.wordErr := rfl
@[simp] theorem State.updRouter_lineErr (f : Router → Router) : (s.updRouter f).lineErr = s.lineErr := rfl
@[simp] theorem State.updRouter_seqs (f : Router → Router) : (s.updRouter f).seqs = s.seqs := rfl
@[simp] theorem State.updRouter_saved (f : Router → Router) : (s.updRouter f).saved = s.saved := rfl
@[simp] theorem State.updRouter_bases (f : Router → Router) : (s.updRouter f).bases = s.bases := rfl
@[simp] theorem State.updRouter_stackSide (f : Router → Router) : (s.updRouter f).stackSide = s.stackSide := rfl
@[simp] theorem State.updRouter_clxs (f : Router → Router) : (s.updRouter f).clxs = s.clxs := rfl
@[simp] theorem State.updRouter_ports (f : Router → Router) : (s.updRouter f).ports = s.ports := rfl
@[simp] theorem State.updRouter_fm (f : Router → Router) : (s.updRouter f).fm = s.fm := rfl
@[simp] theorem State.updRouter_clusters (f : Router → Router) : (s.updRouter f).clusters = s.clusters := rfl
@[simp] theorem State.updRouter_config (f : Router → Router) : (s.updRouter f).config = s.config := rfl
@[simp] theorem State.updRouter_fuses (f : Router → Router) : (s.updRouter f).fuses = s.fuses := rfl
@[simp] theorem State.updRouter_host (f : Router → Router) : (s.updRouter f).host = s.host := rfl
@[simp] theorem State.updRouter_fw (f : Router → Router) : (s.updRouter f).fw = s.fw := rfl
@[simp] theorem State.updRouter_sec (f : Router → Router) : (s.updRouter f).sec = s.sec := rfl
@[simp] theorem State.updRouter_pwr (f : Router → Router) : (s.updRouter f).pwr = s.pwr := rfl
@[simp] theorem State.updRouter_rcd (f : Router → Router) : (s.updRouter f).rcd = s.rcd := rfl
@[simp] theorem State.updRouter_answer (f : Router → Router) : (s.updRouter f).answer = s.answer := rfl
@[simp] theorem State.updRouter_fresh (f : Router → Router) : (s.updRouter f).fresh = s.fresh := rfl
@[simp] theorem State.updRouter_pending (f : Router → Router) : (s.updRouter f).pending = s.pending := rfl

/-! ### `updFm` -/

@[simp] theorem State.updFm_csr (f : Fm → Fm) : (s.updFm f).csr = s.csr := rfl
@[simp] theorem State.updFm_cpPend (f : Fm → Fm) : (s.updFm f).cpPend = s.cpPend := rfl
@[simp] theorem State.updFm_cpBad (f : Fm → Fm) : (s.updFm f).cpBad = s.cpBad := rfl
@[simp] theorem State.updFm_mem (f : Fm → Fm) : (s.updFm f).mem = s.mem := rfl
@[simp] theorem State.updFm_syn (f : Fm → Fm) : (s.updFm f).syn = s.syn := rfl
@[simp] theorem State.updFm_wordErr (f : Fm → Fm) : (s.updFm f).wordErr = s.wordErr := rfl
@[simp] theorem State.updFm_lineErr (f : Fm → Fm) : (s.updFm f).lineErr = s.lineErr := rfl
@[simp] theorem State.updFm_seqs (f : Fm → Fm) : (s.updFm f).seqs = s.seqs := rfl
@[simp] theorem State.updFm_saved (f : Fm → Fm) : (s.updFm f).saved = s.saved := rfl
@[simp] theorem State.updFm_bases (f : Fm → Fm) : (s.updFm f).bases = s.bases := rfl
@[simp] theorem State.updFm_stackSide (f : Fm → Fm) : (s.updFm f).stackSide = s.stackSide := rfl
@[simp] theorem State.updFm_clxs (f : Fm → Fm) : (s.updFm f).clxs = s.clxs := rfl
@[simp] theorem State.updFm_ports (f : Fm → Fm) : (s.updFm f).ports = s.ports := rfl
@[simp] theorem State.updFm_router (f : Fm → Fm) : (s.updFm f).router = s.router := rfl
@[simp] theorem State.updFm_clusters (f : Fm → Fm) : (s.updFm f).clusters = s.clusters := rfl
@[simp] theorem State.updFm_config (f : Fm → Fm) : (s.updFm f).config = s.config := rfl
@[simp] theorem State.updFm_fuses (f : Fm → Fm) : (s.updFm f).fuses = s.fuses := rfl
@[simp] theorem State.updFm_host (f : Fm → Fm) : (s.updFm f).host = s.host := rfl
@[simp] theorem State.updFm_fw (f : Fm → Fm) : (s.updFm f).fw = s.fw := rfl
@[simp] theorem State.updFm_sec (f : Fm → Fm) : (s.updFm f).sec = s.sec := rfl
@[simp] theorem State.updFm_pwr (f : Fm → Fm) : (s.updFm f).pwr = s.pwr := rfl
@[simp] theorem State.updFm_rcd (f : Fm → Fm) : (s.updFm f).rcd = s.rcd := rfl
@[simp] theorem State.updFm_answer (f : Fm → Fm) : (s.updFm f).answer = s.answer := rfl
@[simp] theorem State.updFm_fresh (f : Fm → Fm) : (s.updFm f).fresh = s.fresh := rfl
@[simp] theorem State.updFm_pending (f : Fm → Fm) : (s.updFm f).pending = s.pending := rfl

/-! ### `updSeq` -/

@[simp] theorem State.updSeq_csr (q : Nat) (f : Seq → Seq) : (s.updSeq q f).csr = s.csr := rfl
@[simp] theorem State.updSeq_cpPend (q : Nat) (f : Seq → Seq) : (s.updSeq q f).cpPend = s.cpPend := rfl
@[simp] theorem State.updSeq_cpBad (q : Nat) (f : Seq → Seq) : (s.updSeq q f).cpBad = s.cpBad := rfl
@[simp] theorem State.updSeq_mem (q : Nat) (f : Seq → Seq) : (s.updSeq q f).mem = s.mem := rfl
@[simp] theorem State.updSeq_syn (q : Nat) (f : Seq → Seq) : (s.updSeq q f).syn = s.syn := rfl
@[simp] theorem State.updSeq_wordErr (q : Nat) (f : Seq → Seq) : (s.updSeq q f).wordErr = s.wordErr := rfl
@[simp] theorem State.updSeq_lineErr (q : Nat) (f : Seq → Seq) : (s.updSeq q f).lineErr = s.lineErr := rfl
@[simp] theorem State.updSeq_saved (q : Nat) (f : Seq → Seq) : (s.updSeq q f).saved = s.saved := rfl
@[simp] theorem State.updSeq_bases (q : Nat) (f : Seq → Seq) : (s.updSeq q f).bases = s.bases := rfl
@[simp] theorem State.updSeq_stackSide (q : Nat) (f : Seq → Seq) : (s.updSeq q f).stackSide = s.stackSide := rfl
@[simp] theorem State.updSeq_clxs (q : Nat) (f : Seq → Seq) : (s.updSeq q f).clxs = s.clxs := rfl
@[simp] theorem State.updSeq_ports (q : Nat) (f : Seq → Seq) : (s.updSeq q f).ports = s.ports := rfl
@[simp] theorem State.updSeq_router (q : Nat) (f : Seq → Seq) : (s.updSeq q f).router = s.router := rfl
@[simp] theorem State.updSeq_fm (q : Nat) (f : Seq → Seq) : (s.updSeq q f).fm = s.fm := rfl
@[simp] theorem State.updSeq_clusters (q : Nat) (f : Seq → Seq) : (s.updSeq q f).clusters = s.clusters := rfl
@[simp] theorem State.updSeq_config (q : Nat) (f : Seq → Seq) : (s.updSeq q f).config = s.config := rfl
@[simp] theorem State.updSeq_fuses (q : Nat) (f : Seq → Seq) : (s.updSeq q f).fuses = s.fuses := rfl
@[simp] theorem State.updSeq_host (q : Nat) (f : Seq → Seq) : (s.updSeq q f).host = s.host := rfl
@[simp] theorem State.updSeq_fw (q : Nat) (f : Seq → Seq) : (s.updSeq q f).fw = s.fw := rfl
@[simp] theorem State.updSeq_sec (q : Nat) (f : Seq → Seq) : (s.updSeq q f).sec = s.sec := rfl
@[simp] theorem State.updSeq_pwr (q : Nat) (f : Seq → Seq) : (s.updSeq q f).pwr = s.pwr := rfl
@[simp] theorem State.updSeq_rcd (q : Nat) (f : Seq → Seq) : (s.updSeq q f).rcd = s.rcd := rfl
@[simp] theorem State.updSeq_answer (q : Nat) (f : Seq → Seq) : (s.updSeq q f).answer = s.answer := rfl
@[simp] theorem State.updSeq_fresh (q : Nat) (f : Seq → Seq) : (s.updSeq q f).fresh = s.fresh := rfl
@[simp] theorem State.updSeq_pending (q : Nat) (f : Seq → Seq) : (s.updSeq q f).pending = s.pending := rfl

/-! ### `updCluster` -/

@[simp] theorem State.updCluster_csr (c : Nat) (f : ClusterFact → ClusterFact) : (s.updCluster c f).csr = s.csr := rfl
@[simp] theorem State.updCluster_cpPend (c : Nat) (f : ClusterFact → ClusterFact) : (s.updCluster c f).cpPend = s.cpPend := rfl
@[simp] theorem State.updCluster_cpBad (c : Nat) (f : ClusterFact → ClusterFact) : (s.updCluster c f).cpBad = s.cpBad := rfl
@[simp] theorem State.updCluster_mem (c : Nat) (f : ClusterFact → ClusterFact) : (s.updCluster c f).mem = s.mem := rfl
@[simp] theorem State.updCluster_syn (c : Nat) (f : ClusterFact → ClusterFact) : (s.updCluster c f).syn = s.syn := rfl
@[simp] theorem State.updCluster_wordErr (c : Nat) (f : ClusterFact → ClusterFact) : (s.updCluster c f).wordErr = s.wordErr := rfl
@[simp] theorem State.updCluster_lineErr (c : Nat) (f : ClusterFact → ClusterFact) : (s.updCluster c f).lineErr = s.lineErr := rfl
@[simp] theorem State.updCluster_seqs (c : Nat) (f : ClusterFact → ClusterFact) : (s.updCluster c f).seqs = s.seqs := rfl
@[simp] theorem State.updCluster_saved (c : Nat) (f : ClusterFact → ClusterFact) : (s.updCluster c f).saved = s.saved := rfl
@[simp] theorem State.updCluster_bases (c : Nat) (f : ClusterFact → ClusterFact) : (s.updCluster c f).bases = s.bases := rfl
@[simp] theorem State.updCluster_stackSide (c : Nat) (f : ClusterFact → ClusterFact) : (s.updCluster c f).stackSide = s.stackSide := rfl
@[simp] theorem State.updCluster_clxs (c : Nat) (f : ClusterFact → ClusterFact) : (s.updCluster c f).clxs = s.clxs := rfl
@[simp] theorem State.updCluster_ports (c : Nat) (f : ClusterFact → ClusterFact) : (s.updCluster c f).ports = s.ports := rfl
@[simp] theorem State.updCluster_router (c : Nat) (f : ClusterFact → ClusterFact) : (s.updCluster c f).router = s.router := rfl
@[simp] theorem State.updCluster_fm (c : Nat) (f : ClusterFact → ClusterFact) : (s.updCluster c f).fm = s.fm := rfl
@[simp] theorem State.updCluster_config (c : Nat) (f : ClusterFact → ClusterFact) : (s.updCluster c f).config = s.config := rfl
@[simp] theorem State.updCluster_fuses (c : Nat) (f : ClusterFact → ClusterFact) : (s.updCluster c f).fuses = s.fuses := rfl
@[simp] theorem State.updCluster_host (c : Nat) (f : ClusterFact → ClusterFact) : (s.updCluster c f).host = s.host := rfl
@[simp] theorem State.updCluster_fw (c : Nat) (f : ClusterFact → ClusterFact) : (s.updCluster c f).fw = s.fw := rfl
@[simp] theorem State.updCluster_sec (c : Nat) (f : ClusterFact → ClusterFact) : (s.updCluster c f).sec = s.sec := rfl
@[simp] theorem State.updCluster_pwr (c : Nat) (f : ClusterFact → ClusterFact) : (s.updCluster c f).pwr = s.pwr := rfl
@[simp] theorem State.updCluster_rcd (c : Nat) (f : ClusterFact → ClusterFact) : (s.updCluster c f).rcd = s.rcd := rfl
@[simp] theorem State.updCluster_answer (c : Nat) (f : ClusterFact → ClusterFact) : (s.updCluster c f).answer = s.answer := rfl
@[simp] theorem State.updCluster_fresh (c : Nat) (f : ClusterFact → ClusterFact) : (s.updCluster c f).fresh = s.fresh := rfl
@[simp] theorem State.updCluster_pending (c : Nat) (f : ClusterFact → ClusterFact) : (s.updCluster c f).pending = s.pending := rfl

/-! ### `updPwr` -/

@[simp] theorem State.updPwr_csr (f : Power → Power) : (s.updPwr f).csr = s.csr := rfl
@[simp] theorem State.updPwr_cpPend (f : Power → Power) : (s.updPwr f).cpPend = s.cpPend := rfl
@[simp] theorem State.updPwr_cpBad (f : Power → Power) : (s.updPwr f).cpBad = s.cpBad := rfl
@[simp] theorem State.updPwr_mem (f : Power → Power) : (s.updPwr f).mem = s.mem := rfl
@[simp] theorem State.updPwr_syn (f : Power → Power) : (s.updPwr f).syn = s.syn := rfl
@[simp] theorem State.updPwr_wordErr (f : Power → Power) : (s.updPwr f).wordErr = s.wordErr := rfl
@[simp] theorem State.updPwr_lineErr (f : Power → Power) : (s.updPwr f).lineErr = s.lineErr := rfl
@[simp] theorem State.updPwr_seqs (f : Power → Power) : (s.updPwr f).seqs = s.seqs := rfl
@[simp] theorem State.updPwr_saved (f : Power → Power) : (s.updPwr f).saved = s.saved := rfl
@[simp] theorem State.updPwr_bases (f : Power → Power) : (s.updPwr f).bases = s.bases := rfl
@[simp] theorem State.updPwr_stackSide (f : Power → Power) : (s.updPwr f).stackSide = s.stackSide := rfl
@[simp] theorem State.updPwr_clxs (f : Power → Power) : (s.updPwr f).clxs = s.clxs := rfl
@[simp] theorem State.updPwr_ports (f : Power → Power) : (s.updPwr f).ports = s.ports := rfl
@[simp] theorem State.updPwr_router (f : Power → Power) : (s.updPwr f).router = s.router := rfl
@[simp] theorem State.updPwr_fm (f : Power → Power) : (s.updPwr f).fm = s.fm := rfl
@[simp] theorem State.updPwr_clusters (f : Power → Power) : (s.updPwr f).clusters = s.clusters := rfl
@[simp] theorem State.updPwr_config (f : Power → Power) : (s.updPwr f).config = s.config := rfl
@[simp] theorem State.updPwr_fuses (f : Power → Power) : (s.updPwr f).fuses = s.fuses := rfl
@[simp] theorem State.updPwr_host (f : Power → Power) : (s.updPwr f).host = s.host := rfl
@[simp] theorem State.updPwr_fw (f : Power → Power) : (s.updPwr f).fw = s.fw := rfl
@[simp] theorem State.updPwr_sec (f : Power → Power) : (s.updPwr f).sec = s.sec := rfl
@[simp] theorem State.updPwr_rcd (f : Power → Power) : (s.updPwr f).rcd = s.rcd := rfl
@[simp] theorem State.updPwr_answer (f : Power → Power) : (s.updPwr f).answer = s.answer := rfl
@[simp] theorem State.updPwr_fresh (f : Power → Power) : (s.updPwr f).fresh = s.fresh := rfl
@[simp] theorem State.updPwr_pending (f : Power → Power) : (s.updPwr f).pending = s.pending := rfl

/-! ### `updStacks` -/

@[simp] theorem State.updStacks_csr (f : Stacks → Stacks) : (s.updStacks f).csr = s.csr := rfl
@[simp] theorem State.updStacks_cpPend (f : Stacks → Stacks) : (s.updStacks f).cpPend = s.cpPend := rfl
@[simp] theorem State.updStacks_cpBad (f : Stacks → Stacks) : (s.updStacks f).cpBad = s.cpBad := rfl
@[simp] theorem State.updStacks_mem (f : Stacks → Stacks) : (s.updStacks f).mem = s.mem := rfl
@[simp] theorem State.updStacks_syn (f : Stacks → Stacks) : (s.updStacks f).syn = s.syn := rfl
@[simp] theorem State.updStacks_wordErr (f : Stacks → Stacks) : (s.updStacks f).wordErr = s.wordErr := rfl
@[simp] theorem State.updStacks_lineErr (f : Stacks → Stacks) : (s.updStacks f).lineErr = s.lineErr := rfl
@[simp] theorem State.updStacks_seqs (f : Stacks → Stacks) : (s.updStacks f).seqs = s.seqs := rfl
@[simp] theorem State.updStacks_saved (f : Stacks → Stacks) : (s.updStacks f).saved = s.saved := rfl
@[simp] theorem State.updStacks_bases (f : Stacks → Stacks) : (s.updStacks f).bases = s.bases := rfl
@[simp] theorem State.updStacks_clxs (f : Stacks → Stacks) : (s.updStacks f).clxs = s.clxs := rfl
@[simp] theorem State.updStacks_ports (f : Stacks → Stacks) : (s.updStacks f).ports = s.ports := rfl
@[simp] theorem State.updStacks_router (f : Stacks → Stacks) : (s.updStacks f).router = s.router := rfl
@[simp] theorem State.updStacks_fm (f : Stacks → Stacks) : (s.updStacks f).fm = s.fm := rfl
@[simp] theorem State.updStacks_clusters (f : Stacks → Stacks) : (s.updStacks f).clusters = s.clusters := rfl
@[simp] theorem State.updStacks_config (f : Stacks → Stacks) : (s.updStacks f).config = s.config := rfl
@[simp] theorem State.updStacks_fuses (f : Stacks → Stacks) : (s.updStacks f).fuses = s.fuses := rfl
@[simp] theorem State.updStacks_host (f : Stacks → Stacks) : (s.updStacks f).host = s.host := rfl
@[simp] theorem State.updStacks_fw (f : Stacks → Stacks) : (s.updStacks f).fw = s.fw := rfl
@[simp] theorem State.updStacks_sec (f : Stacks → Stacks) : (s.updStacks f).sec = s.sec := rfl
@[simp] theorem State.updStacks_pwr (f : Stacks → Stacks) : (s.updStacks f).pwr = s.pwr := rfl
@[simp] theorem State.updStacks_rcd (f : Stacks → Stacks) : (s.updStacks f).rcd = s.rcd := rfl
@[simp] theorem State.updStacks_answer (f : Stacks → Stacks) : (s.updStacks f).answer = s.answer := rfl
@[simp] theorem State.updStacks_fresh (f : Stacks → Stacks) : (s.updStacks f).fresh = s.fresh := rfl
@[simp] theorem State.updStacks_pending (f : Stacks → Stacks) : (s.updStacks f).pending = s.pending := rfl

/-! ### `updFn` -/

@[simp] theorem State.updFn_csr (h n : Nat) (f : HostFn → HostFn) : (s.updFn h n f).csr = s.csr := rfl
@[simp] theorem State.updFn_cpPend (h n : Nat) (f : HostFn → HostFn) : (s.updFn h n f).cpPend = s.cpPend := rfl
@[simp] theorem State.updFn_cpBad (h n : Nat) (f : HostFn → HostFn) : (s.updFn h n f).cpBad = s.cpBad := rfl
@[simp] theorem State.updFn_mem (h n : Nat) (f : HostFn → HostFn) : (s.updFn h n f).mem = s.mem := rfl
@[simp] theorem State.updFn_syn (h n : Nat) (f : HostFn → HostFn) : (s.updFn h n f).syn = s.syn := rfl
@[simp] theorem State.updFn_wordErr (h n : Nat) (f : HostFn → HostFn) : (s.updFn h n f).wordErr = s.wordErr := rfl
@[simp] theorem State.updFn_lineErr (h n : Nat) (f : HostFn → HostFn) : (s.updFn h n f).lineErr = s.lineErr := rfl
@[simp] theorem State.updFn_seqs (h n : Nat) (f : HostFn → HostFn) : (s.updFn h n f).seqs = s.seqs := rfl
@[simp] theorem State.updFn_saved (h n : Nat) (f : HostFn → HostFn) : (s.updFn h n f).saved = s.saved := rfl
@[simp] theorem State.updFn_bases (h n : Nat) (f : HostFn → HostFn) : (s.updFn h n f).bases = s.bases := rfl
@[simp] theorem State.updFn_stackSide (h n : Nat) (f : HostFn → HostFn) : (s.updFn h n f).stackSide = s.stackSide := rfl
@[simp] theorem State.updFn_clxs (h n : Nat) (f : HostFn → HostFn) : (s.updFn h n f).clxs = s.clxs := rfl
@[simp] theorem State.updFn_ports (h n : Nat) (f : HostFn → HostFn) : (s.updFn h n f).ports = s.ports := rfl
@[simp] theorem State.updFn_router (h n : Nat) (f : HostFn → HostFn) : (s.updFn h n f).router = s.router := rfl
@[simp] theorem State.updFn_fm (h n : Nat) (f : HostFn → HostFn) : (s.updFn h n f).fm = s.fm := rfl
@[simp] theorem State.updFn_clusters (h n : Nat) (f : HostFn → HostFn) : (s.updFn h n f).clusters = s.clusters := rfl
@[simp] theorem State.updFn_config (h n : Nat) (f : HostFn → HostFn) : (s.updFn h n f).config = s.config := rfl
@[simp] theorem State.updFn_fuses (h n : Nat) (f : HostFn → HostFn) : (s.updFn h n f).fuses = s.fuses := rfl
@[simp] theorem State.updFn_fw (h n : Nat) (f : HostFn → HostFn) : (s.updFn h n f).fw = s.fw := rfl
@[simp] theorem State.updFn_sec (h n : Nat) (f : HostFn → HostFn) : (s.updFn h n f).sec = s.sec := rfl
@[simp] theorem State.updFn_pwr (h n : Nat) (f : HostFn → HostFn) : (s.updFn h n f).pwr = s.pwr := rfl
@[simp] theorem State.updFn_rcd (h n : Nat) (f : HostFn → HostFn) : (s.updFn h n f).rcd = s.rcd := rfl
@[simp] theorem State.updFn_answer (h n : Nat) (f : HostFn → HostFn) : (s.updFn h n f).answer = s.answer := rfl
@[simp] theorem State.updFn_fresh (h n : Nat) (f : HostFn → HostFn) : (s.updFn h n f).fresh = s.fresh := rfl
@[simp] theorem State.updFn_pending (h n : Nat) (f : HostFn → HostFn) : (s.updFn h n f).pending = s.pending := rfl

/-! ### `updHport` -/

@[simp] theorem State.updHport_csr (h : Nat) (f : HostPort → HostPort) : (s.updHport h f).csr = s.csr := rfl
@[simp] theorem State.updHport_cpPend (h : Nat) (f : HostPort → HostPort) : (s.updHport h f).cpPend = s.cpPend := rfl
@[simp] theorem State.updHport_cpBad (h : Nat) (f : HostPort → HostPort) : (s.updHport h f).cpBad = s.cpBad := rfl
@[simp] theorem State.updHport_mem (h : Nat) (f : HostPort → HostPort) : (s.updHport h f).mem = s.mem := rfl
@[simp] theorem State.updHport_syn (h : Nat) (f : HostPort → HostPort) : (s.updHport h f).syn = s.syn := rfl
@[simp] theorem State.updHport_wordErr (h : Nat) (f : HostPort → HostPort) : (s.updHport h f).wordErr = s.wordErr := rfl
@[simp] theorem State.updHport_lineErr (h : Nat) (f : HostPort → HostPort) : (s.updHport h f).lineErr = s.lineErr := rfl
@[simp] theorem State.updHport_seqs (h : Nat) (f : HostPort → HostPort) : (s.updHport h f).seqs = s.seqs := rfl
@[simp] theorem State.updHport_saved (h : Nat) (f : HostPort → HostPort) : (s.updHport h f).saved = s.saved := rfl
@[simp] theorem State.updHport_bases (h : Nat) (f : HostPort → HostPort) : (s.updHport h f).bases = s.bases := rfl
@[simp] theorem State.updHport_stackSide (h : Nat) (f : HostPort → HostPort) : (s.updHport h f).stackSide = s.stackSide := rfl
@[simp] theorem State.updHport_clxs (h : Nat) (f : HostPort → HostPort) : (s.updHport h f).clxs = s.clxs := rfl
@[simp] theorem State.updHport_ports (h : Nat) (f : HostPort → HostPort) : (s.updHport h f).ports = s.ports := rfl
@[simp] theorem State.updHport_router (h : Nat) (f : HostPort → HostPort) : (s.updHport h f).router = s.router := rfl
@[simp] theorem State.updHport_fm (h : Nat) (f : HostPort → HostPort) : (s.updHport h f).fm = s.fm := rfl
@[simp] theorem State.updHport_clusters (h : Nat) (f : HostPort → HostPort) : (s.updHport h f).clusters = s.clusters := rfl
@[simp] theorem State.updHport_config (h : Nat) (f : HostPort → HostPort) : (s.updHport h f).config = s.config := rfl
@[simp] theorem State.updHport_fuses (h : Nat) (f : HostPort → HostPort) : (s.updHport h f).fuses = s.fuses := rfl
@[simp] theorem State.updHport_fw (h : Nat) (f : HostPort → HostPort) : (s.updHport h f).fw = s.fw := rfl
@[simp] theorem State.updHport_sec (h : Nat) (f : HostPort → HostPort) : (s.updHport h f).sec = s.sec := rfl
@[simp] theorem State.updHport_pwr (h : Nat) (f : HostPort → HostPort) : (s.updHport h f).pwr = s.pwr := rfl
@[simp] theorem State.updHport_rcd (h : Nat) (f : HostPort → HostPort) : (s.updHport h f).rcd = s.rcd := rfl
@[simp] theorem State.updHport_answer (h : Nat) (f : HostPort → HostPort) : (s.updHport h f).answer = s.answer := rfl
@[simp] theorem State.updHport_fresh (h : Nat) (f : HostPort → HostPort) : (s.updHport h f).fresh = s.fresh := rfl
@[simp] theorem State.updHport_pending (h : Nat) (f : HostPort → HostPort) : (s.updHport h f).pending = s.pending := rfl

/-! ### `cpCommit` -/

@[simp] theorem State.cpCommit_mem (a : Nat) (v : W64) : (s.cpCommit a v).mem = s.mem := rfl
@[simp] theorem State.cpCommit_syn (a : Nat) (v : W64) : (s.cpCommit a v).syn = s.syn := rfl
@[simp] theorem State.cpCommit_wordErr (a : Nat) (v : W64) : (s.cpCommit a v).wordErr = s.wordErr := rfl
@[simp] theorem State.cpCommit_lineErr (a : Nat) (v : W64) : (s.cpCommit a v).lineErr = s.lineErr := rfl
@[simp] theorem State.cpCommit_seqs (a : Nat) (v : W64) : (s.cpCommit a v).seqs = s.seqs := rfl
@[simp] theorem State.cpCommit_saved (a : Nat) (v : W64) : (s.cpCommit a v).saved = s.saved := rfl
@[simp] theorem State.cpCommit_bases (a : Nat) (v : W64) : (s.cpCommit a v).bases = s.bases := rfl
@[simp] theorem State.cpCommit_stackSide (a : Nat) (v : W64) : (s.cpCommit a v).stackSide = s.stackSide := rfl
@[simp] theorem State.cpCommit_clxs (a : Nat) (v : W64) : (s.cpCommit a v).clxs = s.clxs := rfl
@[simp] theorem State.cpCommit_ports (a : Nat) (v : W64) : (s.cpCommit a v).ports = s.ports := rfl
@[simp] theorem State.cpCommit_router (a : Nat) (v : W64) : (s.cpCommit a v).router = s.router := rfl
@[simp] theorem State.cpCommit_fm (a : Nat) (v : W64) : (s.cpCommit a v).fm = s.fm := rfl
@[simp] theorem State.cpCommit_clusters (a : Nat) (v : W64) : (s.cpCommit a v).clusters = s.clusters := rfl
@[simp] theorem State.cpCommit_config (a : Nat) (v : W64) : (s.cpCommit a v).config = s.config := rfl
@[simp] theorem State.cpCommit_fuses (a : Nat) (v : W64) : (s.cpCommit a v).fuses = s.fuses := rfl
@[simp] theorem State.cpCommit_host (a : Nat) (v : W64) : (s.cpCommit a v).host = s.host := rfl
@[simp] theorem State.cpCommit_fw (a : Nat) (v : W64) : (s.cpCommit a v).fw = s.fw := rfl
@[simp] theorem State.cpCommit_sec (a : Nat) (v : W64) : (s.cpCommit a v).sec = s.sec := rfl
@[simp] theorem State.cpCommit_pwr (a : Nat) (v : W64) : (s.cpCommit a v).pwr = s.pwr := rfl
@[simp] theorem State.cpCommit_rcd (a : Nat) (v : W64) : (s.cpCommit a v).rcd = s.rcd := rfl
@[simp] theorem State.cpCommit_answer (a : Nat) (v : W64) : (s.cpCommit a v).answer = s.answer := rfl
@[simp] theorem State.cpCommit_fresh (a : Nat) (v : W64) : (s.cpCommit a v).fresh = s.fresh := rfl
@[simp] theorem State.cpCommit_pending (a : Nat) (v : W64) : (s.cpCommit a v).pending = s.pending := rfl

/-! ### `raise` and `event` -/

@[simp] theorem State.raise_csr (e : Event) : (s.raise e).csr = s.csr := by unfold State.raise; split <;> rfl
@[simp] theorem State.raise_cpPend (e : Event) : (s.raise e).cpPend = s.cpPend := by unfold State.raise; split <;> rfl
@[simp] theorem State.raise_cpBad (e : Event) : (s.raise e).cpBad = s.cpBad := by unfold State.raise; split <;> rfl
@[simp] theorem State.raise_mem (e : Event) : (s.raise e).mem = s.mem := by unfold State.raise; split <;> rfl
@[simp] theorem State.raise_syn (e : Event) : (s.raise e).syn = s.syn := by unfold State.raise; split <;> rfl
@[simp] theorem State.raise_wordErr (e : Event) : (s.raise e).wordErr = s.wordErr := by unfold State.raise; split <;> rfl
@[simp] theorem State.raise_lineErr (e : Event) : (s.raise e).lineErr = s.lineErr := by unfold State.raise; split <;> rfl
@[simp] theorem State.raise_seqs (e : Event) : (s.raise e).seqs = s.seqs := by unfold State.raise; split <;> rfl
@[simp] theorem State.raise_saved (e : Event) : (s.raise e).saved = s.saved := by unfold State.raise; split <;> rfl
@[simp] theorem State.raise_bases (e : Event) : (s.raise e).bases = s.bases := by unfold State.raise; split <;> rfl
@[simp] theorem State.raise_stackSide (e : Event) : (s.raise e).stackSide = s.stackSide := by unfold State.raise; split <;> rfl
@[simp] theorem State.raise_clxs (e : Event) : (s.raise e).clxs = s.clxs := by unfold State.raise; split <;> rfl
@[simp] theorem State.raise_ports (e : Event) : (s.raise e).ports = s.ports := by unfold State.raise; split <;> rfl
@[simp] theorem State.raise_router (e : Event) : (s.raise e).router = s.router := by unfold State.raise; split <;> rfl
@[simp] theorem State.raise_fm (e : Event) : (s.raise e).fm = s.fm := by unfold State.raise; split <;> rfl
@[simp] theorem State.raise_clusters (e : Event) : (s.raise e).clusters = s.clusters := by unfold State.raise; split <;> rfl
@[simp] theorem State.raise_config (e : Event) : (s.raise e).config = s.config := by unfold State.raise; split <;> rfl
@[simp] theorem State.raise_fuses (e : Event) : (s.raise e).fuses = s.fuses := by unfold State.raise; split <;> rfl
@[simp] theorem State.raise_host (e : Event) : (s.raise e).host = s.host := by unfold State.raise; split <;> rfl
@[simp] theorem State.raise_fw (e : Event) : (s.raise e).fw = s.fw := by unfold State.raise; split <;> rfl
@[simp] theorem State.raise_sec (e : Event) : (s.raise e).sec = s.sec := by unfold State.raise; split <;> rfl
@[simp] theorem State.raise_pwr (e : Event) : (s.raise e).pwr = s.pwr := by unfold State.raise; split <;> rfl
@[simp] theorem State.raise_answer (e : Event) : (s.raise e).answer = s.answer := by unfold State.raise; split <;> rfl
@[simp] theorem State.raise_fresh (e : Event) : (s.raise e).fresh = s.fresh := by unfold State.raise; split <;> rfl
@[simp] theorem State.raise_pending (e : Event) : (s.raise e).pending = s.pending := by unfold State.raise; split <;> rfl
@[simp] theorem State.event_csr (n : Nat) (u : EvUnit) (d : Nat) (p : Option Nat) (g : Nat) : (s.event n u d p g).csr = s.csr := State.raise_csr s _
@[simp] theorem State.event_cpPend (n : Nat) (u : EvUnit) (d : Nat) (p : Option Nat) (g : Nat) : (s.event n u d p g).cpPend = s.cpPend := State.raise_cpPend s _
@[simp] theorem State.event_cpBad (n : Nat) (u : EvUnit) (d : Nat) (p : Option Nat) (g : Nat) : (s.event n u d p g).cpBad = s.cpBad := State.raise_cpBad s _
@[simp] theorem State.event_mem (n : Nat) (u : EvUnit) (d : Nat) (p : Option Nat) (g : Nat) : (s.event n u d p g).mem = s.mem := State.raise_mem s _
@[simp] theorem State.event_syn (n : Nat) (u : EvUnit) (d : Nat) (p : Option Nat) (g : Nat) : (s.event n u d p g).syn = s.syn := State.raise_syn s _
@[simp] theorem State.event_wordErr (n : Nat) (u : EvUnit) (d : Nat) (p : Option Nat) (g : Nat) : (s.event n u d p g).wordErr = s.wordErr := State.raise_wordErr s _
@[simp] theorem State.event_lineErr (n : Nat) (u : EvUnit) (d : Nat) (p : Option Nat) (g : Nat) : (s.event n u d p g).lineErr = s.lineErr := State.raise_lineErr s _
@[simp] theorem State.event_seqs (n : Nat) (u : EvUnit) (d : Nat) (p : Option Nat) (g : Nat) : (s.event n u d p g).seqs = s.seqs := State.raise_seqs s _
@[simp] theorem State.event_saved (n : Nat) (u : EvUnit) (d : Nat) (p : Option Nat) (g : Nat) : (s.event n u d p g).saved = s.saved := State.raise_saved s _
@[simp] theorem State.event_bases (n : Nat) (u : EvUnit) (d : Nat) (p : Option Nat) (g : Nat) : (s.event n u d p g).bases = s.bases := State.raise_bases s _
@[simp] theorem State.event_stackSide (n : Nat) (u : EvUnit) (d : Nat) (p : Option Nat) (g : Nat) : (s.event n u d p g).stackSide = s.stackSide := State.raise_stackSide s _
@[simp] theorem State.event_clxs (n : Nat) (u : EvUnit) (d : Nat) (p : Option Nat) (g : Nat) : (s.event n u d p g).clxs = s.clxs := State.raise_clxs s _
@[simp] theorem State.event_ports (n : Nat) (u : EvUnit) (d : Nat) (p : Option Nat) (g : Nat) : (s.event n u d p g).ports = s.ports := State.raise_ports s _
@[simp] theorem State.event_router (n : Nat) (u : EvUnit) (d : Nat) (p : Option Nat) (g : Nat) : (s.event n u d p g).router = s.router := State.raise_router s _
@[simp] theorem State.event_fm (n : Nat) (u : EvUnit) (d : Nat) (p : Option Nat) (g : Nat) : (s.event n u d p g).fm = s.fm := State.raise_fm s _
@[simp] theorem State.event_clusters (n : Nat) (u : EvUnit) (d : Nat) (p : Option Nat) (g : Nat) : (s.event n u d p g).clusters = s.clusters := State.raise_clusters s _
@[simp] theorem State.event_config (n : Nat) (u : EvUnit) (d : Nat) (p : Option Nat) (g : Nat) : (s.event n u d p g).config = s.config := State.raise_config s _
@[simp] theorem State.event_fuses (n : Nat) (u : EvUnit) (d : Nat) (p : Option Nat) (g : Nat) : (s.event n u d p g).fuses = s.fuses := State.raise_fuses s _
@[simp] theorem State.event_host (n : Nat) (u : EvUnit) (d : Nat) (p : Option Nat) (g : Nat) : (s.event n u d p g).host = s.host := State.raise_host s _
@[simp] theorem State.event_fw (n : Nat) (u : EvUnit) (d : Nat) (p : Option Nat) (g : Nat) : (s.event n u d p g).fw = s.fw := State.raise_fw s _
@[simp] theorem State.event_sec (n : Nat) (u : EvUnit) (d : Nat) (p : Option Nat) (g : Nat) : (s.event n u d p g).sec = s.sec := State.raise_sec s _
@[simp] theorem State.event_pwr (n : Nat) (u : EvUnit) (d : Nat) (p : Option Nat) (g : Nat) : (s.event n u d p g).pwr = s.pwr := State.raise_pwr s _
@[simp] theorem State.event_answer (n : Nat) (u : EvUnit) (d : Nat) (p : Option Nat) (g : Nat) : (s.event n u d p g).answer = s.answer := State.raise_answer s _
@[simp] theorem State.event_fresh (n : Nat) (u : EvUnit) (d : Nat) (p : Option Nat) (g : Nat) : (s.event n u d p g).fresh = s.fresh := State.raise_fresh s _
@[simp] theorem State.event_pending (n : Nat) (u : EvUnit) (d : Nat) (p : Option Nat) (g : Nat) : (s.event n u d p g).pending = s.pending := State.raise_pending s _

/-! ### Registers and their fields -/

@[simp] theorem State.rd_wr_same (a : Nat) (v : W64) : (s.wr a v).rd a = v := Tbl.get_set_same _ _ _

theorem State.rd_wr (a b : Nat) (v : W64) : (s.wr a v).rd b = if b = a then v else s.rd b := Tbl.get_set _ _ _ _

theorem State.rd_wr_ne {a b : Nat} (v : W64) (h : b ≠ a) : (s.wr a v).rd b = s.rd b := Tbl.get_set_ne _ _ h

theorem State.rd_wrF (a hi lo x b : Nat) : (s.wrF a hi lo x).rd b = if b = a then setFld (s.rd a) hi lo x else s.rd b := State.rd_wr s a b _

theorem State.rd_wrF_ne {a b : Nat} (hi lo x : Nat) (h : b ≠ a) : (s.wrF a hi lo x).rd b = s.rd b := State.rd_wr_ne s _ h

/-- A field reads as what was written into it. -/
theorem State.rdF_wrF_same (a hi lo x : Nat) (h : lo ≤ hi) (h64 : hi < 64) : (s.wrF a hi lo x).rdF a hi lo = x % 2 ^ (hi + 1 - lo) := by
  unfold State.rdF
  rw [State.rd_wrF, if_pos rfl, fld_setFld_same _ _ _ _ h h64]

/-- Another field of the register reads as before. -/
theorem State.rdF_wrF_field (a hi lo x hi' lo' : Nat) (h : lo ≤ hi + 1) (hd : hi < lo' ∨ hi' < lo) :
    (s.wrF a hi lo x).rdF a hi' lo' = s.rdF a hi' lo' := by
  unfold State.rdF
  rw [State.rd_wrF, if_pos rfl, fld_setFld_ne _ _ _ _ _ _ h hd]

theorem State.rdF_wrF_ne {a b : Nat} (hi lo x hi' lo' : Nat) (h : b ≠ a) : (s.wrF a hi lo x).rdF b hi' lo' = s.rdF b hi' lo' := by
  unfold State.rdF
  rw [State.rd_wrF_ne _ _ _ _ h]

/-- An event changes no register. -/
@[simp] theorem State.rd_event (n : Nat) (u : EvUnit) (d : Nat) (p : Option Nat) (g a : Nat) : (s.event n u d p g).rd a = s.rd a := by
  unfold State.rd; rw [State.event_csr]

@[simp] theorem State.rdF_event (n : Nat) (u : EvUnit) (d : Nat) (p : Option Nat) (g a hi lo : Nat) :
    (s.event n u d p g).rdF a hi lo = s.rdF a hi lo := by
  unfold State.rdF; rw [State.rd_event]

/-- Any event is either the newest entry of the recorder's queue or one more lost event. -/
theorem State.event_rcd (n : Nat) (u : EvUnit) (d : Nat) (p : Option Nat) (g : Nat) (h : s.rcd.queue.length < 256) :
    (s.event n u d p g).rcd.queue = s.rcd.queue ++ [⟨⟨n, g, p, u, BitVec.ofNat 64 d⟩, s.rcd.opTime⟩] := by
  unfold State.event State.raise
  rw [if_pos h]

end Sys2Proof.Machine
end

