-- ==== Sys2Proof/Laws/Slots.lean ====
section
/-!
SUPPORT. What one slot does (R195, R197): the stages of a slot that waits for nothing, ends nothing and names no token, and its effect.
-/
namespace Sys2Proof.Machine

/-- A table written twice at one key is the table written once. -/
theorem Tbl.set_set {α : Type} [Inhabited α] [DecidableEq α] (m : Tbl α) (i : Nat) (v w : α) : (m.set i v).set i w = m.set i w := by
  have h1 : ∀ (x : Tbl α), (∀ e ∈ x, e.1 = i) → x.filter (fun e => decide (e.1 < i)) = [] ∧ x.filter (fun e => decide (i + 1 ≤ e.1)) = [] := by
    intro x hx
    constructor <;> rw [List.filter_eq_nil_iff] <;> intro e he <;> have := hx e he <;> simp <;> omega
  have h2 : ∀ e ∈ (if v = default then ([] : Tbl α) else [(i, v)]), e.1 = i := by
    intro e he; split at he <;> simp at he; rw [he]
  unfold Tbl.set
  generalize (if v = default then ([] : Tbl α) else [(i, v)]) = mv at h2 ⊢
  unfold Tbl.splice
  simp only [List.filter_append, List.filter_filter, (h1 mv h2).1, (h1 mv h2).2, List.append_nil]
  have e1 : m.filter (fun a => decide (a.1 < i) && decide (i + 1 ≤ a.1)) = [] := by
    rw [List.filter_eq_nil_iff]; intro e _; simp; omega
  have e2 : m.filter (fun a => decide (i + 1 ≤ a.1) && decide (a.1 < i)) = [] := by
    rw [List.filter_eq_nil_iff]; intro e _; simp; omega
  rw [e1, e2]
  simp

@[simp] theorem Tbl.upd_upd {α : Type} [Inhabited α] [DecidableEq α] (m : Tbl α) (i : Nat) (f g : α → α) :
    (m.upd i f).upd i g = m.upd i (fun x => g (f x)) := by
  unfold Tbl.upd
  rw [Tbl.get_set_same, Tbl.set_set]

/-- Two changes of a sequencer are one. -/
@[simp] theorem State.updSeq_updSeq (s : State) (q : Nat) (f g : Seq → Seq) :
    (s.updSeq q f).updSeq q g = s.updSeq q (fun z => g (f z)) := by
  unfold State.updSeq
  rw [Tbl.upd_upd]

@[simp] theorem State.seq_updSeq (s : State) (q : Nat) (f : Seq → Seq) : (s.updSeq q f).seq q = f (s.seq q) := Tbl.get_upd_same _ _ _

/-- A slot that breaks no rule of its own, alone in its bundle, offends against none (R195). -/
theorem State.firstOffender_single (s : State) (q pc next : Nat) (sl : Slot) (h : s.slotOk q pc next sl = true) :
    s.firstOffender q pc next [sl] = none := by
  have : s.offenders q pc next [sl] = [] := by
    unfold State.offenders
    simp [h]
    intro a b c
    exact absurd b (by rcases c with c | c <;> simp_all)
  unfold State.firstOffender
  rw [this]

/-- A wait on no token passes (R115). -/
theorem State.waitStage_none (s : State) (q : Nat) (sl : Slot) (h : sl.waitSet = []) : s.waitStage q [sl] = .go s := by
  unfold State.waitStage
  have : (s.seq q).lowestFailed [] = none := by
    unfold Seq.lowestFailed
    simp
  simp [h, this]

/-- A slot that is neither COMMIT nor END passes the fourth stage (R119, R126). -/
theorem State.endStage_none (s : State) (q : Nat) (sl : Slot) (h : ¬ (sl.cls = 0 ∧ (sl.op = 0x2C ∨ sl.op = 0x2D))) : s.endStage q [sl] = .go s := by
  unfold State.endStage
  have h1 : (sl.cls == 0 && sl.op == 0x2C) = false := by simp; intro a b; exact h ⟨a, .inl b⟩
  have h2 : (sl.cls == 0 && sl.op == 0x2D) = false := by simp; intro a b; exact h ⟨a, .inr b⟩
  simp only [List.any_cons, List.any_nil, h1, h2, Bool.or_false, Bool.false_and, Bool.false_eq_true, if_false]

/-- A slot whose token, if any, is not pending passes the reuse stage (R113). -/
theorem State.reuseStage_none (s : State) (q : Nat) (sl : Slot) (h : ∀ t, sl.token = some t → (s.seq q).isPending t = false) :
    s.reuseStage q [sl] = .go s := by
  unfold State.reuseStage
  have h1 : ([sl].filterMap Slot.token).filter (s.seq q).isPending = [] := by
    rw [List.filter_eq_nil_iff]
    intro t ht
    simp at ht
    simp [h t ht]
  dsimp only
  rw [h1]
  simp [Seq.blockedTokens, State.cond]

/-- A slot that breaks no rule, waits for nothing, ends nothing and takes no pending token goes through every stage. -/
theorem State.checkStages_go (s : State) (q pc next : Nat) (sl : Slot) (h : s.slotOk q pc next sl = true) (hw : sl.waitSet = [])
    (he : ¬ (sl.cls = 0 ∧ (sl.op = 0x2C ∨ sl.op = 0x2D))) (ht : ∀ t, sl.token = some t → (s.seq q).isPending t = false) :
    s.checkStages q pc next [sl] = .go s := by
  unfold State.checkStages
  rw [s.firstOffender_single q pc next sl h]
  simp only [s.waitStage_none q sl hw, Stage.andThen, s.endStage_none q sl he, s.reuseStage_none q sl ht]

/-- The effect of one slot that is no control slot. -/
theorem State.issueSlots_single (s : State) (q : Nat) (sl : Slot) (h : sl.isControl = false) :
    s.issueSlots q [sl] = State.stopIf (s.slotEffect q sl) q := by
  unfold State.issueSlots
  simp [h, State.each, firstFault]

/-- The effect of one control slot (R109, R176). -/
theorem State.issueSlots_control (s : State) (q : Nat) (sl : Slot) (h : sl.isControl = true) :
    s.issueSlots q [sl] = s.slotControl q sl ((s.instances q sl).getD []) := by
  unfold State.issueSlots
  simp [h, State.each, State.stopIf]

/-- A slot command of a running sequencer whose slot goes through every stage, and is no COMMIT, has the slot's effect. -/
theorem State.slotCommand_go (s : State) (q : Nat) (sl : Slot) (hr : s.running q = true)
    (hg : s.checkStages q (s.pcOf q) (s.seq q).after [sl] = .go s) (hc : (sl.cls == 0 && sl.op == 0x2C) = false) :
    s.slotCommand q sl = s.issueSlots q [sl] := by
  unfold State.slotCommand
  rw [if_pos hr, hg]
  simp only [hc, State.cond, Bool.false_eq_true, if_false]

/-- A slot command of a sequencer that does not run changes nothing. -/
theorem State.slotCommand_idle (s : State) (q : Nat) (sl : Slot) (hr : s.running q = false) : s.slotCommand q sl = s := by
  unfold State.slotCommand
  rw [if_neg (by simp [hr])]

end Sys2Proof.Machine
end

