-- ==== Sys2Proof/WellFormed.lean ====
section
/-!
DEFINITION. Which commands are well formed: what the operands' types do not say of them. Everything that an operand's type bounds
(a unit number, a register field) is not repeated here. Every command has its meaning whether or not it is well formed; a command
that is not is no command of the device.
-/
namespace Sys2Proof

/-- An upset stands at an address of the device (R13). -/
def MemUpset.wf (e : MemUpset) : Bool := decide (e.dpa < 2 ^ 48)

/-- A host transfer that failed has no bytes, and only a failed one is poisoned (R514, R671). -/
def HostData.wf (d : HostData) : Bool := (d.ok || d.data.isEmpty) && !(d.ok && d.poisoned)

/-- The fields of a link word fit their places (R342). -/
def LinkWord.wf (l : LinkWord) : Bool := decide (LinkWord.ofBits l.bits = l)

/-- The fields of a packet fit their places (R342), and its payload is a multiple of 8 bytes of at most 8,192 (R341). -/
def Packet.wf (p : Packet) : Bool :=
  decide (p.dst < 2 ^ 20 ∧ p.domain < 2 ^ 12 ∧ p.src < 2 ^ 20 ∧ p.cls < 8 ∧ p.hops < 2 ^ 6 ∧ p.seq < 2 ^ 32 ∧ p.op < 2 ^ 6 ∧ p.xid < 2 ^ 12 ∧
    p.plen % 8 = 0 ∧ p.plen ≤ 8192)

/-- The fields of the device's LLDP frame fit their places (R360). -/
def Lldp.wf (f : Lldp) : Bool :=
  decide (f.chassis < 2 ^ 48 ∧ f.portId < 2 ^ 48 ∧ f.ttl < 2 ^ 16 ∧ f.node < 2 ^ 20 ∧ f.hubId < 2 ^ 32 ∧ f.port < 16 ∧ f.entry < 16 ∧
    f.lanePass < 2 ^ 8 ∧ f.fmNode < 2 ^ 20 ∧ f.echoMac < 2 ^ 48 ∧ f.echoPort < 2 ^ 16)

/-- The fields of a host-network frame fit their headers (R362). -/
def HnFrame.wf (f : HnFrame) : Bool :=
  decide (f.mac < 2 ^ 48 ∧ f.vid < 2 ^ 12 ∧ f.pcp < 8 ∧ f.dscp < 64 ∧ f.ecn < 4 ∧ f.label < 2 ^ 20 ∧ f.hopLimit < 256 ∧ f.srcPort < 2 ^ 16 ∧
    f.dstPort < 2 ^ 16 ∧ f.vc < 8) && f.pkt.wf

/-- What arrives on a host-network port is well formed. -/
def HnArrival.wf : HnArrival → Bool
  | .udp f _ => f.wf
  | .lldp f => f.wf
  | .advert mac => decide (mac < 2 ^ 48)
  | .solicit _ | .other => true

/-- The fields of a transaction fit its packets (R342, R398, R399). -/
def NetJob.wf (j : NetJob) : Bool :=
  decide (j.op < 64 ∧ j.domain < 2 ^ 12 ∧ j.handle < 2 ^ 24 ∧ j.store < 2 ^ 48 ∧ j.sub < 256)

/-- A stack request is for a whole 64-byte line, by a user of one of the four partitions or by firmware (R246). -/
def LineAccess.wf (r : LineAccess) : Bool :=
  decide (r.off % 64 = 0) && (match r.data with | some bs => decide (bs.length = 64) | none => true)
    && (match r.user.part with | some p => decide (p < 4) | none => true)

/-- A transfer on the management bus carries a 16-bit index and, where it writes, 4 bytes (R633). -/
def BusTransfer.wf : BusTransfer → Bool
  | .read i => decide (i < 2 ^ 16)
  | .write i bs => decide (i < 2 ^ 16 ∧ bs.length = 4)

/-- The number of virtual functions is a 16-bit field (R488). -/
def CfgReq.wf : CfgReq → Bool
  | .sriov _ n => decide (n < 2 ^ 16)
  | .identity | .busMaster _ => true

/-- A command is well formed: a 32-bit access carries 32 bits, a tested cluster exists and reports 27 units, there are 17
groups of junctions (R629, R641), the budget moves each partition once (R628), slabs exist (R254), a handover's payload fits its record (R567). -/
def Instr.wf : Instr → Bool
  | .registerWrite _ _ wide v => (wide || decide (v.toNat < 2 ^ 32))
  | .cpRegisterWrite _ _ wide v => (wide || decide (v.toNat < 2 ^ 32))
  | .cpCompanionWrite _ _ wide v => (wide || decide (v.toNat < 2 ^ 32))
  | .selfTest tests => tests.all (fun t => decide (t.1 < 64 ∧ t.2 < 2 ^ 27))
  | .junctionThrottle temps _ => decide (temps.length = 17)
  | .budgetTick _ _ _ moves _ => decide (moves.map BudgetMove.part).Nodup
  | .activeRequest _ binds => binds.all (fun b => decide (b.1 < 4))
  | .dozeWake _ _ binds => binds.all (fun b => decide (b.1 < 4))
  | .pmcResetWarm _ tests => tests.all (fun t => decide (t.1 < 64 ∧ t.2 < 2 ^ 27))
  | .pmcResetPartition tests => tests.all (fun t => decide (t.1 < 64 ∧ t.2 < 2 ^ 27))
  | .mgmtBusTransfer t => t.wf
  | .step (ecc := e) .. | .bundleIssue (ecc := e) .. | .pageLoaded (ecc := e) .. => e.all MemUpset.wf
  | .waitingSlotIssue _ cls _ _ ecc => decide (cls < 16) && ecc.all MemUpset.wf
  | .waitRelease (ecc := e) .. | .tokenReuseRelease (ecc := e) .. | .commitQuiesce (ecc := e) .. | .endDrain (ecc := e) .. | .prefetchDone (ecc := e) .. => e.all MemUpset.wf
  | .mcfg (ecc := e) .. | .mms (ecc := e) .. | .mmc (ecc := e) .. | .mme (ecc := e) .. | .mmse (ecc := e) .. => e.all MemUpset.wf
  | .mmss (ecc := e) .. | .vcfg (ecc := e) .. | .vadd (ecc := e) .. | .vmul (ecc := e) .. | .vfma (ecc := e) .. => e.all MemUpset.wf
  | .vmax (ecc := e) .. | .vmin (ecc := e) .. | .vscl (ecc := e) .. | .vred (ecc := e) .. | .vcvt (ecc := e) .. => e.all MemUpset.wf
  | .kcopy (ecc := e) .. | .ktrans (ecc := e) .. | .kperm (ecc := e) .. | .kgath (ecc := e) .. | .kscat (ecc := e) .. => e.all MemUpset.wf
  | .fcfg (ecc := e) .. | .fcvt (ecc := e) .. | .fscale (ecc := e) .. | .tcfg (ecc := e) .. | .texp (ecc := e) .. => e.all MemUpset.wf
  | .tlog (ecc := e) .. | .trcp (ecc := e) .. | .trsq (ecc := e) .. | .ttanh (ecc := e) .. | .tsigm (ecc := e) .. => e.all MemUpset.wf
  | .tsin (ecc := e) .. | .tcos (ecc := e) .. | .scfg (ecc := e) .. | .ssort (ecc := e) .. | .stopk (ecc := e) .. => e.all MemUpset.wf
  | .icfg (ecc := e) .. | .ihist (ecc := e) .. | .ipsum (ecc := e) .. | .icomp (ecc := e) .. | .iroute (ecc := e) .. => e.all MemUpset.wf
  | .ccomp (ecc := e) .. | .cdec (ecc := e) .. | .rgen (ecc := e) .. | .rcfg (ecc := e) .. | .rred (ecc := e) .. => e.all MemUpset.wf
  | .rbcast (ecc := e) .. | .rcat (ecc := e) .. => e.all MemUpset.wf
  | .dmxTransferDone _ _ host ecc => host.all HostData.wf && ecc.all MemUpset.wf
  | .stackRequest r ecc _ => r.wf && ecc.all MemUpset.wf
  | .patrol (ecc := e) .. => e.all MemUpset.wf
  | .migrationStart _ picks => picks.all (fun p => decide (p < 393216))
  | .migrationPassEnd (ecc := e) .. | .migrationSwitch (ecc := e) .. | .workItemStart (ecc := e) .. | .baseVadd (ecc := e) .. | .baseVsub (ecc := e) .. => e.all MemUpset.wf
  | .baseVmul (ecc := e) .. | .baseVfma (ecc := e) .. | .baseVmax (ecc := e) .. | .baseVmin (ecc := e) .. | .vdiv (ecc := e) .. => e.all MemUpset.wf
  | .vsqrt (ecc := e) .. | .vabs (ecc := e) .. | .vsel (ecc := e) .. | .vcmplt (ecc := e) .. | .vcmple (ecc := e) .. => e.all MemUpset.wf
  | .vcmpeq (ecc := e) .. | .vsum (ecc := e) .. | .viadd (ecc := e) .. | .visub (ecc := e) .. | .vimul (ecc := e) .. => e.all MemUpset.wf
  | .viand (ecc := e) .. | .vior (ecc := e) .. | .vixor (ecc := e) .. | .vishl (ecc := e) .. | .vishr (ecc := e) .. => e.all MemUpset.wf
  | .vcvtfi (ecc := e) .. | .vcvtif (ecc := e) .. | .vidx (ecc := e) .. | .vbcx (ecc := e) .. | .vbci (ecc := e) .. => e.all MemUpset.wf
  | .vbcc (ecc := e) .. | .vld (ecc := e) .. | .vst (ecc := e) .. | .xadd (ecc := e) .. | .xsub (ecc := e) .. => e.all MemUpset.wf
  | .xmul (ecc := e) .. | .xand (ecc := e) .. | .baseXor (ecc := e) .. | .xshl (ecc := e) .. | .xshr (ecc := e) .. => e.all MemUpset.wf
  | .xaddi (ecc := e) .. | .xli (ecc := e) .. | .baseJmp (ecc := e) .. | .baseBeq (ecc := e) .. | .baseBne (ecc := e) .. => e.all MemUpset.wf
  | .baseBlt (ecc := e) .. | .baseBge (ecc := e) .. | .baseEnd (ecc := e) .. | .badamw (ecc := e) .. | .bcvt (ecc := e) .. => e.all MemUpset.wf
  | .bgath (ecc := e) .. | .bscat (ecc := e) .. | .bred (ecc := e) .. | .bsqn (ecc := e) .. | .bchk (ecc := e) .. => e.all MemUpset.wf
  | .nakReceive _ _ l => l.wf
  | .idle _ _ l => l.wf
  | .quietReq _ _ l => l.wf
  | .quietAck _ _ l _ => l.wf
  | .wakeReq _ _ l => l.wf
  | .wakeAck _ _ l => l.wf
  | .resync _ _ l _ => l.wf
  | .width _ _ l _ => l.wf
  | .retiring _ _ l => l.wf
  | .lldpReceive _ f => f.wf
  | .hnFrameReceive _ a => a.wf
  | .packetSend _ _ ask => ask.all NetJob.wf
  | .bar0Write _ _ _ wide v => (wide || decide (v.toNat < 2 ^ 32))
  | .submissionFetch _ _ _ host _ => host.wf
  | .bar4Access _ _ _ n data ecc => decide (1 ≤ n) && (match data with | some bs => decide (bs ≠ []) | none => true) && ecc.all MemUpset.wf
  | .pcieConfigRequest _ _ r => r.wf
  | .hcreate _ _ _ _ picks => picks.all (fun p => decide (p < 393216))
  | .hcopy _ _ host ecc => host.wf && ecc.all MemUpset.wf
  | .load (ecc := e) .. => e.all MemUpset.wf
  | .run _ _ host => host.wf
  | .orphanRead _ _ host => host.wf
  | .partitionRelease _ tests => tests.all (fun t => decide (t.1 < 64 ∧ t.2 < 2 ^ 27))
  | .releaseStopBound _ tests => tests.all (fun t => decide (t.1 < 64 ∧ t.2 < 2 ^ 27))
  | .partitionReset _ tests => tests.all (fun t => decide (t.1 < 64 ∧ t.2 < 2 ^ 27))
  | .jobCarve _ host => host.wf
  | .fwStage _ host => host.wf
  | .handover _ payload _ => decide (payload.length ≤ 130944)
  | .attest _ _ host => host.wf
  | .keyImport _ _ host _ => host.wf
  | .sealChunkDone _ _ host => host.wf
  | .ownerEnroll _ host => host.wf
  | .recorderClearRequest _ host => host.wf
  | .rcRead .. | .complementRewrite .. | .coldReset .. | .vauxLoss | .starter .. | .pmcBringup .. => true
  | .coreStart | .stackTrain .. | .memoryTest .. | .linkGate | .fuseTestReconcile | .bootReady .. => true
  | .bootStepOverrun .. | .powerOn | .crustEntry .. | .thermalTrip .. | .droopDetect .. | .emergencyBegin .. => true
  | .emergencyEscalate | .emergencyEnd .. | .domainSwitchOn .. | .domainSwitchOff .. | .dozeRequest | .dozeEnter => true
  | .dozeQuiesceTimeout | .pmcResetCold | .pmcResetCluster .. | .pmcResetPort | .floorPlanUpdate | .recipeStart .. => true
  | .seqHoldReq .. | .seqAbort .. | .seqVbindWrite .. | .contextSave .. | .contextRestore .. | .li .. => true
  | .lih .. | .li64 .. | .add .. | .sub .. | .mul .. | .and .. => true
  | .or .. | .xor .. | .shl .. | .shr .. | .sar .. | .slt .. => true
  | .sltu .. | .addi .. | .andi .. | .ori .. | .shli .. | .shri .. => true
  | .sari .. | .grpi .. | .grp .. | .jmp .. | .beq .. | .bne .. => true
  | .blt .. | .bge .. | .bltu .. | .bgeu .. | .loop .. | .commit .. => true
  | .recipeEnd .. | .waitm .. | .waitr .. | .pref .. | .prefr .. | .sold .. => true
  | .sostart .. | .sostop .. | .sogen .. | .soloop .. | .dld .. | .dst .. => true
  | .drget .. | .drput .. | .drputh .. | .dhrd .. | .dhwr .. | .ctrig .. => true
  | .btrig .. | .bsig .. | .cluCounterClear .. | .cccSelfTest .. | .cccStartImage .. | .cccStop .. => true
  | .trackerEntryFree .. | .descriptorWrite .. | .handleDrained .. | .frameClearDone .. | .heatWindowEnd .. | .pcRetired .. => true
  | .drainRetry .. | .callStart .. | .baseCallDone .. | .instructionLimit .. | .baseCodeWrite .. | .bdcClearFrames .. => true
  | .bdcScrub .. | .bdcTestNative .. | .bdcTestCompat .. | .bdcStartImage .. | .frameReceive .. | .dataFrameSend .. => true
  | .replayTimeout .. | .holdDiscard .. | .idleSend .. | .presentDeassert .. | .presentSettled .. | .moduleInterrupt .. => true
  | .portTrain .. | .trainPhaseTimeout .. | .alignmentLoss .. | .rxSilence .. | .retrainTimeout .. | .portDownTimeout .. => true
  | .prtRetrain .. | .prtPortReset .. | .prtCtrlQuietReq .. | .quietAuto .. | .quietAutoWake .. | .lldpSend .. => true
  | .lldpTtlExpire .. | .pfcFrame .. | .portPlanNextWrite .. | .packetRoute .. | .packetWaitRetry .. | .routeEntryWrite .. => true
  | .rtrBankFlip .. | .rtrNodeWrite .. | .ackTimer .. | .e2eTimeout .. | .nackBusyRetry .. | .resetRetry .. => true
  | .resetWaitExpire .. | .contextReclaim .. | .ccTick .. | .wrdesc .. | .wrdata .. | .rdreq .. => true
  | .rddata | .atomic .. | .atomrsp | .dbell .. | .dback | .contrib .. => true
  | .contribrsp | .ack | .nack | .loss | .rack | .flowreset => true
  | .mack | .cdata .. | .cdown | .mgmt | .heelApply .. | .multicastTimeout .. => true
  | .shareGroupWrite .. | .circuitEntryWrite .. | .telemetryWindowEnd | .instanceStart .. | .chunkSend .. | .tileReadbackSend .. => true
  | .clxInstanceDone .. | .clxProgressTimeout .. | .groupEntryWrite .. | .groupWriteApply .. | .clxProgramWrite .. | .mgmtRetransmit .. => true
  | .electTimer | .candidateExpire .. | .electionStable | .beatTimer | .standbyTakeover | .elect => true
  | .beat | .replicate | .query .. | .assign | .portEn | .plan => true
  | .expand | .entry | .fmHold | .drain | .flip | .resume => true
  | .domain | .group | .circuit | .tables | .report | .reportRepeat => true
  | .drainSettle | .drainOverrun | .swapRetry | .tagReuseTimer .. | .imgOffer | .imgData => true
  | .imgDone | .captureConsume .. | .hifCapConsWrite .. | .doorbell .. | .heartbeat .. | .heartbeatWindowEnd .. => true
  | .orphanKeepExpire .. | .queueCreate .. | .queueDelete .. | .windowSet .. | .fencedCommandStart .. | .completionPost .. => true
  | .hostCompletionTimeout .. | .negotiate .. | .flr .. | .flrQuiesce .. | .pf0Flr .. | .portLinkReset .. => true
  | .identify .. | .hdestroy .. | .hseed .. | .hold .. | .release .. | .abort .. => true
  | .adopt .. | .discard .. | .partitionCreate .. | .partitionStoreMap .. | .jobRelease .. | .policy .. => true
  | .stagingVerified | .fwActivate .. | .adoptTimeout .. | .pmcHandoverStart | .unitImageTake .. | .fwStatus .. => true
  | .config .. | .cccMcastWrite .. | .sealLoad .. | .keyClear .. | .svnCommit .. | .ideKeyProgram .. => true
  | .agentStart .. | .bbxDataWrite .. | .bbxSend .. | .bbxReceiveClear .. | .bbxLockRead .. | .bbxLockRelease .. => true
  | .bbxHdrRead .. | .signalPost .. | .signalDeliver .. | .saveTimeout .. | .eventRecord | .lostEventsReport => true
  | .recordFlashSync | .faultHistoryWrite | .operatingHourMark | .recCursorWrite .. | .vin48Removed => true

end Sys2Proof
end

