-- ==== Sys2Proof/Tests/Slice0.lean ====
section
/-!
SUPPORT. The model's own tests: terms that are not well formed, and are refused; small results computed by hand from the spec; and for
every statement with hypotheses a state and operands that meet them together, at a boundary value of each range.
-/
namespace Sys2Proof.Tests
open Sys2Proof Sys2Proof.Machine
set_option Elab.async false
set_option maxRecDepth 100000
set_option linter.unusedVariables false

/-! ### What is not well formed is refused -/

/-- An upset outside the address space. -/
theorem test_wf_upset : (MemUpset.wf { dpa := 2 ^ 48, fatal := true } || Instr.wf (.patrol 3 0 [{ dpa := 2 ^ 48, fatal := true }])) = false := by decide
/-- A failed transfer with bytes, and a good one that is poisoned. -/
theorem test_wf_host_data : (HostData.wf { ok := false, data := [1] } || HostData.wf { ok := true, poisoned := true, data := [] }) = false := by decide
theorem test_wf_host_command : Instr.wf (.jobCarve 1 { ok := false, data := [1] }) = false := by decide
theorem test_wf_transfer : Instr.wf (.dmxTransferDone 3 255 [{ ok := false, data := [1] }] []) = false := by decide
/-- A virtual channel that N0 has no place for. -/
theorem test_wf_link_word : (LinkWord.wf { vc := 8 } || Instr.wf (.nakReceive 15 0 { ackLsn := 65536 })) = false := by decide
/-- A payload that is no multiple of 8 bytes, and a class that N1 has no place for. -/
theorem test_wf_packet : (Packet.wf { payload := [1] } || Packet.wf { cls := 8 }) = false := by decide
/-- A node of 21 bits. -/
theorem test_wf_lldp : Instr.wf (.lldpReceive 15
    { chassis := 0, portId := 0, node := 2 ^ 20, hubId := 0, serial := 0, port := 0, entry := 0,
      lanePass := 255, width := 3, quiet := false, quietAllow := false }) = false := by decide
/-- A VLAN of 13 bits, and a gateway's address of 49. -/
theorem test_wf_hn_frame : HnFrame.wf { mac := 0, vid := 4096, pcp := 0, srcAddr := 0, dstAddr := 0, srcPort := 0, dstPort := 0, vc := 0, pkt := {} } = false := by decide
theorem test_wf_hn_arrival : Instr.wf (.hnFrameReceive 15 (.advert (2 ^ 48))) = false := by decide
/-- A transaction of an operation that N2 has no place for. -/
theorem test_wf_net_job : Instr.wf (.packetSend 0 0 [{ owner := .firmware, op := 64, domain := 0 }]) = false := by decide
/-- A line request within a line, one of 63 bytes, and one of a fifth partition. -/
theorem test_wf_line : (LineAccess.wf { user := .system, handle := 0, off := 32, die := none, data := none } ||
    LineAccess.wf { user := .system, handle := 0, off := 0, die := none, data := some (leBytes 63 0) } ||
    Instr.wf (.stackRequest { user := .remote 4, handle := 0, off := 0, die := none, data := none } [] [])) = false := by decide
/-- A write of three bytes on the management bus, and an index of 17 bits. -/
theorem test_wf_bus : (Instr.wf (.mgmtBusTransfer (.write 0 [1, 2, 3])) || Instr.wf (.mgmtBusTransfer (.read 65536))) = false := by decide
theorem test_wf_config_request : Instr.wf (.pcieConfigRequest 1 0 (.sriov true 65536)) = false := by decide
/-- A 32-bit access with 33 bits. -/
theorem test_wf_narrow_write : Instr.wf (.registerWrite .pmc 0 false (1 <<< 32)) = false := by decide
theorem test_wf_tests : (Instr.wf (.selfTest [(64, 0)]) || Instr.wf (.selfTest [(63, 2 ^ 27)])) = false := by decide
theorem test_wf_temps : Instr.wf (.junctionThrottle [0] 0) = false := by decide
theorem test_wf_moves : Instr.wf (.budgetTick 0 0 0 [⟨3, 0, true, 1⟩, ⟨3, 0, false, 1⟩] false) = false := by decide
theorem test_wf_slabs : Instr.wf (.migrationStart 0 [393216]) = false := by decide
theorem test_wf_class : Instr.wf (.waitingSlotIssue 3 16 0 0 []) = false := by decide
theorem test_wf_no_bytes : (Instr.wf (.bar4Access 1 4 0 0 none []) || Instr.wf (.bar4Access 1 4 0 1 (some []) [])) = false := by decide
theorem test_wf_binds : Instr.wf (.activeRequest 0 [(4, [])]) = false := by decide
theorem test_wf_handover : Instr.wf (.handover 4 (List.replicate 130945 0) true) = false := by
  show (decide ((List.replicate 130945 (0 : Byte)).length ≤ 130944)) = false
  rw [List.length_replicate]; decide
theorem test_wf_good : Instr.wf (.registerWrite .pmc 0 true (1 <<< 32)) = true ∧ Instr.wf .vauxLoss = true := by decide
/-- The table gives its rows no bits. -/
theorem test_no_word_spells_a_command : decodeTableWord 32 5 = none ∧ (State.reset.withFetchWord 32 5) = State.reset := ⟨rfl, rfl⟩


/-! ### States that the witnesses are made of -/

/-- A device with every domain on. -/
def allOn : State := ({} : State).wr Reg.pmcDomState (2 ^ 38 - 1)
/-- The description of the register at an address. -/
def regAt (a : Nat) : RegDef := match findReg a with | some (d, _, _) => d | none => ⟨"", 0, 0, [], false, [], []⟩
/-- A boot under way with some steps done. -/
def boots (steps : Nat) : State := { allOn with pwr := { vaux := true, booting := true, steps } }
/-- The sequencer of a die alone in its gang, in a state of SEQ_STATUS. -/
def seqIn (q state : Nat) : State := allOn.wr (Reg.seqStatus q) (BitVec.ofNat 64 (state + q * 2 ^ 12 + 2 ^ (16 + q)))
/-- Every cluster of a die passes its tests. -/
def fitDie (d : Nat) (s : State) : State := { s with clusters := (List.range 16).map (fun i => (16 * d + i, { low := 2 ^ 27 - 1 })) }
/-- A running sequencer. -/
def runs (q : Nat) (f : Seq → Seq := id) : State := (seqIn q 2).updSeq q f
/-- No token has failed where none is listed. -/
theorem noneFailed (z : Seq) (ts : List Nat) (h : z.tokens.isEmpty = true) : z.lowestFailed ts = none := by
  have h : z.tokens = [] := by simpa using h
  simp [Seq.lowestFailed, h, Tbl.get]
  intros; decide
/-- Handle 0x10005 of partition 0: one slab, 7, in the last frame of stack 11, every right granted. -/
def handled (s : State := allOn) : State :=
  ((s.wr (Reg.hubDescW0 5) (0x1F010 ||| (1 <<< 32) ||| 1)).wr (Reg.hubDescW2 5) 7).wr (Reg.hubSlab 7) (1 ||| (11 <<< 1) ||| (32767 <<< 5))
/-- Stack 11 runs a work item on its last vector unit, with two words at the start of its code. -/
def baseOn (w0 w1 : Nat) (i : WorkItem := { tile := 0, executed := 1048575, vregs := [(32, 7)] }) (prog : Nat := 0) : State :=
  ({ allOn with bases := [(11, { run := some { call := { lead := 3, entry := 0, token := 255, mask := 1, args := [] }, items := [] }, units := [(127, some i)] })] }.wr
    (Reg.stkBeCode 11 0) (BitVec.ofNat 64 (w0 + w1 * 2 ^ 32))).wr (Reg.stkBeCall 11 0 0) (BitVec.ofNat 64 prog)
/-- The last link port in a state of PRT_STATUS, with what PRT_CTRL holds. -/
def portIn (lst : Nat) (ctrl : W64 := 0) (f : Port → Port := id) : State :=
  ((allOn.wr (Reg.prtStatus 15) (BitVec.ofNat 64 lst)).wr (Reg.prtCtrl 15) ctrl).updPort 15 f
/-- The last link port, up on the host network. -/
def hnUp (ctrl : W64 := 2) (f : Port → Port := id) : State := (portIn 3 ctrl f).wr Reg.hubPortPlan 0xD000000000000000
/-- The bytes of a frame, without its check sequence. -/
def frameOf (dst etype : Nat) (l : LinkWord := {}) (plen : Nat := 0) (short : Nat := 0) : List Byte :=
  leBytes 6 dst ++ leBytes 6 0 ++ [BitVec.ofNat 8 (etype / 256), BitVec.ofNat 8 (etype % 256)] ++ leBytes 8 l.bits ++ leBytes 8 0 ++
    leBytes 8 (plen * 2 ^ 38) ++ List.replicate (frameLen plen - 38 - short) 0
/-- Node 5 of the fabric, with what the router holds. -/
def netOn (r : Router := {}) (s : State := allOn) : State := { s.wr Reg.rtrNode (1 <<< 63 ||| 5) with router := r }
/-- A value read where there is one. -/
theorem pairSome {α β : Type} (p : α × Option β) (h : p.2.isSome = true) : p = (p.1, some (p.2.get h)) := by
  obtain ⟨a, b⟩ := p
  cases b with
  | none => cases h
  | some b => rfl
/-- The collective engine of die 3, idle, with a BROADCAST over line in program 1023 for group 7 of two ranks, of which this is rank 0. -/
def clxOn (f : Clx → Clx := id) : State :=
  (((((handled (seqIn 3 2)).wr (Reg.clxStatus 3) 1).wr (Reg.clxGroupW0 3 7) 3).wr (Reg.clxProgram 3 1023 0) ((1 <<< 63) ||| 1)).wr
    (Reg.clxProgram 3 1023 1) (5 ||| (1 <<< 4) ||| (7 <<< 6) ||| (1 <<< 11))).updClx 3 f
/-- An instance of that program over one chunk. -/
def clxJob : ClxInst := { lead := 3, program := 1023, token := 255, args := [0x10005, 0x10005, 0, 16384] }
/-- FAB is on, with what it holds, and with the role of HUB_FM_STATUS. -/
def fmOn (f : Fm := {}) (role : Nat := 0) : State := { (allOn.wr Reg.hubFmStatus (BitVec.ofNat 64 role)).wr Reg.hubFmPeers (3 <<< 62) with fm := f }
/-- PF0 of host port 1, and a virtual function, with a command under way. -/
def cmdOf (f op : Nat) (rest : List Byte := []) (stage : CmdStage := .started) (s : State := allOn) : State :=
  s.updFn 1 f (fun x => { x with cmds := [{ q := 7, entry := BitVec.ofNat 8 op :: 0 :: rest, stage }] })
/-- Host port 1, up with its virtual functions, the last of them of partition 3; one of its functions in a state, with what it holds. -/
def hostUp (f st : Nat) (g : HostFn → HostFn := id) (s : State := allOn) : State :=
  (((({ s with host := { s.host with ports := [(1, { up := true, vfEnable := true, numVfs := 4, master := [(0, true), (4, true)] })] } }.wr
    Reg.secPartMap 0x88FFF).wr (Reg.secPartState 3) 2).wr (Reg.hifEmuStatus 1 f) (BitVec.ofNat 64 st)).wr Reg.pmcBoot 11).updFn 1 f g

/-- A fabric node whose one die, die 0 of partition 3, has a full home region. -/
def crowded (r : Router) : State :=
  netOn { r with sends := r.sends ++ List.replicate 262144 (7, some { part := some 3 }) } ((allOn.wr (Reg.rtrDomain 3) (2 ^ 31 + 7)).wr Reg.secPartMap (2 ^ 19 + 2 ^ 8 + 3))
/-- Which dies a partition has does not depend on the router. -/
theorem partDies_router (s : State) (r : Router) (p : Nat) : ({ s with router := r } : State).partDies p = s.partDies p := rfl
/-- The home of a context of a partition with die 0 alone. -/
theorem sendHome_one (s : State) (P key : Nat) (h : s.partDies P = [0]) : s.sendHome P key = 0 := by simp [State.sendHome, State.homeDie, h, Nat.mod_one]
/-- No further context has its home there. -/
theorem crowded_full (r : Router) (cls d : Nat) (hc : cls ≠ 3) (hd : d = 0) : (crowded r).homeOpen cls d = false := by
  subst hd
  have p : (crowded r).partDies 3 = [0] := (partDies_router _ _ 3).trans (by decide +kernel)
  have g : (crowded r).sendHome 3 7 = 0 := sendHome_one _ _ _ p
  have e : (crowded r).router.sends = r.sends ++ List.replicate 262144 (7, some { part := some 3 }) := rfl
  generalize hn : 262144 = n at e
  have h : n ≤ (crowded r).homeUsed 0 := by
    unfold State.homeUsed
    refine Nat.le_trans ?_ (Nat.le_add_right _ _)
    rw [e, List.filter_append, List.length_append]
    refine Nat.le_trans (Nat.le_of_eq ?_) (Nat.le_add_left _ _)
    rw [List.filter_replicate, if_pos (by simp [g]), List.length_replicate]
  simp only [State.homeOpen]
  simp [hc]
  omega
/-- Partition 3 alone uses more than there is. -/
theorem sharesFit_over (s : State) (total reserve : Nat) (use : Nat → Nat) (h : total < use 3) : s.sharesFit total reserve use = false := by
  simp only [State.sharesFit, show List.range 4 = [0, 1, 2, 3] from rfl, List.map, List.foldl]
  refine decide_eq_false ?_
  have g : use 3 ≤ if s.partExists 3 then max reserve (use 3) else use 3 := by split <;> omega
  omega
/-- A fabric node with a full reply cache, all of partition 3. -/
def crammed : State := netOn { recvs := [(23, some { cum := 4, part := 3 })], replies := List.replicate 65536 (23, 0, {}) } allOn
/-- Such a cache has no room for a further reply. -/
theorem cache_full (s : State) (n : Nat) (e : s.router.replies = List.replicate n (23, 0, {})) (g : s.router.recvs.get 23 = some { cum := 4, part := 3 })
    (hn : 65536 ≤ n) : s.replyOpen 3 = false := by
  have h : n ≤ s.repliesOf 3 := by
    unfold State.repliesOf
    refine Nat.le_trans (Nat.le_of_eq ?_) (Nat.le_add_right _ _)
    rw [e, List.filter_replicate, if_pos (by simp [g]), List.length_replicate]
  unfold State.replyOpen
  refine sharesFit_over _ _ _ _ ?_
  simp [b2n]
  omega
@[inherit_doc cache_full]
theorem crammed_full : crammed.replyOpen 3 = false := cache_full _ 65536 rfl rfl (Nat.le_refl _)

/-! ### Hypotheses of the statements are met -/

theorem witness_StepRunsTheFrontCommand : State.reset.pending = [] := by decide

theorem witness_FusesOnlyRaiseTheFloor : ∃ t, step { State.reset with pending := [.beatTimer] } = .next t := ⟨_, rfl⟩

theorem witness_TablesStayCanonical : ({} : State).wf = true ∧ step { ({} : State) with pending := [.beatTimer] } = .next {} := ⟨by decide, rfl⟩

theorem witness_QueuesDrainInOrder : ∀ n, step ({ State.reset with rcd := { State.reset.rcd with opTime := n % 2 ^ 40 } }) = .next { State.reset with rcd := { State.reset.rcd with opTime := (n + 1) % 2 ^ 40 } } := by
  intro n
  unfold step State.idle
  simp [State.reset]

theorem witness_MemoryReadsWhatWasWritten : ({ mem := [(5, 7)] } : State).wf = true ∧ (({ mem := [(5, 7)] } : State).writeBytes 4 [1, 0, 3]).mem = [(4, 1), (6, 3)] := by decide

theorem witness_ComplementsCompleteValues : (({} : State).cpPend.get 0x100) = none ∧ Agent.pmc.num ≠ Agent.sec.num ∧ (5 : W64) ≠ ~~~ 5 := by decide

theorem witness_FieldWriteFollowsAccessCode :
    (∃ (f : Fld) (i : Nat), f.lo ≤ f.hi ∧ i < 64) :=
  ⟨⟨7, 4, .w1c, 0⟩, 63, by decide +kernel⟩
theorem witness_RegisterAccessTakesEffect :
    (∃ (s : State) (ag : Agent) (a : BitVec 48) (d : RegDef) (r : Nat) (off : Nat), s.csrPath ag a.toNat 8 = .served ∧ findReg a.toNat = some (d, r, off) ∧ d.cp = false ∧ d.mayWrite ag = true ∧ plainReg r = true) ∧
    (∃ (s : State) (ag : Agent) (a : BitVec 48) (wide : Bool), s.csrPath ag a.toNat (if wide then 8 else 4) = .silent ∧ shadowPlace a.toNat = none) ∧
    (∃ (s : State) (h : Fin 2) (f : Fin 5) (a : BitVec 48) (wide : Bool) (off : Nat), shadowPlace a.toNat = some (h.val, f.val, off) ∧ s.fnPresent h f = true ∧ bar0Ok f off wide = true) ∧
    (∃ (s : State) (ag : Agent) (a : BitVec 48) (wide : Bool), ag.isFirmware = true ∧ a.toNat < 0xC000000000 ∧ s.stackPath ag a.toNat (if wide then 8 else 4) = .served ∧ (s.silent.readLine false (a.toNat / 64)).tileDead (a.toNat / 4096) = false) ∧
    (∃ (a : BitVec 48), csrBlockOf a.toNat = none ∧ 0xC000000000 ≤ a.toNat ∧ ¬ (clusterStore 0 ≤ a.toNat ∧ a.toNat < clusterStore 64) ∧ ¬ (0x030000000000 ≤ a.toNat ∧ a.toNat < 0x040000000000)) ∧
    (∃ (s : State) (ag : Agent) (a : BitVec 48) (d : RegDef) (r : Nat) (off : Nat), s.csrPath ag a.toNat 8 = .served ∧ findReg a.toNat = some (d, r, off) ∧ shadowPlace a.toNat = none ∧ plainReg r = true ∧ off < d.width / 8) ∧
    (∃ (s : State) (ag : Agent) (a : BitVec 48) (d : RegDef) (r : Nat) (off : Nat), s.csrPath ag a.toNat 8 = .served ∧ findReg a.toNat = some (d, r, off) ∧ d.cp = true ∧ d.mayWrite ag = true ∧ off < d.width / 8 ∧ s.activeRoute r = true) ∧
    (∃ (s : State) (ag : Agent) (a : BitVec 48) (d : RegDef) (r : Nat) (off : Nat), s.csrPath ag a.toNat 8 = .served ∧ findReg a.toNat = some (d, r, off) ∧ d.cp = true ∧ d.mayWrite ag = true ∧ off < d.width / 8 ∧ s.activeRoute r = false ∧ d.flds.all (fun f => f.acc == .ro) = false) ∧
    (∃ (s : State) (ag : Agent) (a : BitVec 48) (v : W64) (d : RegDef) (r : Nat) (off : Nat) (p : CpPending), s.csrPath ag a.toNat 8 = .served ∧ findReg a.toNat = some (d, r, off) ∧ d.cp = true ∧ d.width = 64 ∧ off = 8 ∧ s.cpPend.get r = some p ∧ p.owner = ag.num ∧ v = ~~~ p.value) ∧
    (∃ (s : State) (ag : Agent) (a : BitVec 48) (v : W64) (d : RegDef) (r : Nat) (off : Nat) (p : CpPending), s.csrPath ag a.toNat 8 = .served ∧ findReg a.toNat = some (d, r, off) ∧ d.cp = true ∧ d.width = 64 ∧ off = 8 ∧ s.cpPend.get r = some p ∧ (p.owner ≠ ag.num ∨ v ≠ ~~~ p.value)) ∧
    (∃ (s : State) (a : BitVec 48), s.cpOk a.toNat = false ∧ a.toNat ≠ Reg.secPartMap ∧ ¬ (Reg.secKslot 0 ≤ a.toNat ∧ a.toNat ≤ Reg.secKslot 15) ∧ ¬ (Blk.bbx ≤ a.toNat ∧ a.toNat < Blk.bbx + 0x10000)) :=
  ⟨⟨allOn, .fab, BitVec.ofNat 48 Reg.hubFmMachine, regAt Reg.hubFmMachine, Reg.hubFmMachine, 0, by decide +kernel⟩,
   ⟨({} : State), .pmc, BitVec.ofNat 48 Reg.hubId, true, by decide +kernel⟩,
   ⟨hostUp 4 1, 1, 4, BitVec.ofNat 48 (shadow 1 4 0), true, 0, by decide +kernel⟩,
   ⟨allOn, .sch, 0xBFFFFFFFF8#48, true, by decide +kernel⟩,
   ⟨0xFFFFFFFFFFFF#48, by decide +kernel⟩,
   ⟨allOn, .sch, BitVec.ofNat 48 Reg.hubFmMachine, regAt Reg.hubFmMachine, Reg.hubFmMachine, 0, by decide +kernel⟩,
   ⟨allOn.wrB Reg.rtrRtEpoch 0 true, .fab, BitVec.ofNat 48 (Reg.rtrRoute 1 131071), regAt (Reg.rtrRoute 1 131071), Reg.rtrRoute 1 131071, 0, by decide +kernel⟩,
   ⟨allOn, .sch, BitVec.ofNat 48 (Reg.hubSlab 5), regAt (Reg.hubSlab 5), Reg.hubSlab 5, 0, by decide +kernel⟩,
   ⟨{ allOn with cpPend := [(Reg.hubSlab 5, some ⟨5, 3, false, false⟩)] }, .sch, BitVec.ofNat 48 (Reg.hubSlab 5 + 8), ~~~ 5, regAt (Reg.hubSlab 5), Reg.hubSlab 5, 8, ⟨5, 3, false, false⟩, by decide +kernel⟩,
   ⟨{ allOn with cpPend := [(Reg.hubSlab 5, some ⟨5, 4, false, false⟩)] }, .sch, BitVec.ofNat 48 (Reg.hubSlab 5 + 8), 0, regAt (Reg.hubSlab 5), Reg.hubSlab 5, 8, ⟨5, 4, false, false⟩, by decide +kernel⟩,
   ⟨{ allOn with cpBad := [(Reg.hubSlab 5, true)] }, BitVec.ofNat 48 (Reg.hubSlab 5), by decide +kernel⟩⟩

theorem witness_ColdResetForgetsAllButFlashAndFuses :
    (∃ (s : State) (cause : ColdCause), (cause = .auxPower ∨ s.pwr.vaux = true)) ∧
    (∃ (s : State), s.resetAsked 1 = true) :=
  ⟨⟨({} : State), .resetPin, by decide +kernel⟩,
   ⟨({} : State).wr Reg.pmcReset (2 ^ 31 + 1), by decide +kernel⟩⟩

theorem witness_BootCommandsRunTheSteps :
    (∃ (s : State), s.pwr.vaux = true ∧ s.pwr.booting = false ∧ s.stepDone 2 = true ∧ s.bootPhase ≠ 12 ∧ s.rdF Reg.pmcState 1 0 = 2) ∧
    (∃ (s : State), s.pwr.vaux = true ∧ s.bootPhase = 1 ∧ s.fw.netBoot = false ∧ s.pwr.bootSel = 1 ∧ s.config.inUse ≠ none ∧ s.config.record.trial = false) ∧
    (∃ (s : State), s.pwr.booting = true ∧ s.fw.netBoot = false ∧ s.stepDone 3 = false ∧ s.compState 2 = 2) ∧
    (∃ (s : State), s.pwr.booting = true ∧ s.stepDone 4 = false ∧ s.domOn 24 = true) ∧
    (∃ (s : State) (n : Fin 12), s.pwr.booting = true ∧ s.domOn (stackDomain n) = true ∧ s.rdF (Reg.stkStatus n) 2 0 = 1) ∧
    (∃ (s : State), s.pwr.booting = true ∧ s.stepDone 4 = true ∧ s.stepDone 6 = false) ∧
    (∃ (s : State) (n : Fin 12), s.pwr.booting = true ∧ s.stepDone 6 = true ∧ natBit s.pwr.trained n = true ∧ natBit s.pwr.tested n = false) ∧
    (∃ (s : State), s.pwr.booting = true ∧ s.stepDone 3 = true ∧ s.stepDone 8 = false ∧ s.linksSettled = true) ∧
    (∃ (s : State), s.pwr.booting = true ∧ s.stepDone 7 = true ∧ s.stepDone 8 = true ∧ s.stepDone 9 = false) ∧
    (∃ (s : State), s.pwr.booting = true ∧ s.stepDone 9 = true) ∧
    (∃ (s : State), s.pwr.booting = true ∧ s.stepDone 8 = false) ∧
    (∃ (s : State) (n : Fin 12), s.pwr.booting = true ∧ s.stepDone 4 = false ∧ natBit s.pwr.retried n = true) :=
  ⟨⟨({ pwr := { vaux := true, steps := 4 } } : State).wr Reg.pmcState 2, by decide +kernel⟩,
   ⟨({ pwr := { vaux := true, bootSel := 1 }, config := { copy0 := some {} } } : State).wr Reg.pmcBoot 1, by decide +kernel⟩,
   ⟨(boots 4).wr (Reg.hubFwComp 1) (2 <<< 33), by decide +kernel⟩,
   ⟨{ allOn with pwr := { booting := true } }, by decide +kernel⟩,
   ⟨(boots 4).wr (Reg.stkStatus 11) 1, 11, by decide +kernel⟩,
   ⟨boots 16, by decide +kernel⟩,
   ⟨{ allOn with pwr := { booting := true, steps := 64, trained := 2 ^ 11 } }, 11, by decide +kernel⟩,
   ⟨boots 8, by decide +kernel⟩,
   ⟨{ allOn with pwr := { booting := true, steps := 256, tested := 2 ^ 12 - 1 } }, by decide +kernel⟩,
   ⟨boots 512, by decide +kernel⟩,
   ⟨boots 4, by decide +kernel⟩,
   ⟨{ allOn with pwr := { booting := true, retried := 2 ^ 11 } }, 11, by decide +kernel⟩⟩

theorem witness_PowerEventsTakeEffect :
    (∃ (s : State), s.pwr.vaux = true ∧ s.mainOn = true) ∧
    (∃ (s : State) (temp : BitVec 8), s.pwr.vaux = true ∧ 110 ≤ temp.toNat) ∧
    (∃ (s : State), s.pwr.vaux = true ∧ s.mainOn = false) ∧
    (∃ (s : State), s.pwr.vaux = true ∧ s.mainOn = true) ∧
    (∃ (s : State) (u : State) (temps : List (BitVec 8)) (p : Nat) (j : Nat), s.pwr.vaux = true ∧ (List.range 4).filter s.partExists = [p] ∧ u = (s.silent.each (temps.take 17).zipIdx (fun v t => v.readTherm t.2 t.1.toNat)).syncWarn ∧ (u.partSensors p).find? (fun i => decide (95 ≤ u.rdF (Reg.pmcTherm i) 7 0)) = some j) ∧
    (∃ (s : State) (d : Fin 4), s.rdB Reg.secPartMap (8 + d) = true ∧ s.partExists (s.partOfDie d) = true ∧ s.powered = true) ∧
    (∃ (s : State), s.pwr.vaux = true ∧ s.pwr.limitNext = none ∧ s.emergencyNow = true) ∧
    (∃ (s : State) (thermal : Bool), s.powered = true ∧ s.rdB Reg.pmcEmerg (b2n thermal) = false) ∧
    (∃ (s : State), s.emergencyNow = true) ∧
    (∃ (s : State) (thermal : Bool), s.rdB Reg.pmcEmerg (b2n thermal) = true) :=
  ⟨⟨({} : State), by decide +kernel⟩,
   ⟨({} : State), 110, by decide +kernel⟩,
   ⟨({} : State).wr Reg.pmcState 2, by decide +kernel⟩,
   ⟨({} : State), by decide +kernel⟩,
   ⟨({} : State).wr Reg.secPartMap 0x10F00, ((({} : State).wr Reg.secPartMap 0x10F00).silent.readTherm 0 95).syncWarn, [95#8], 0, 0, by decide +kernel⟩,
   ⟨({} : State).wr Reg.secPartMap 0x10F00, 3, by decide +kernel⟩,
   ⟨({} : State).wr Reg.pmcEmerg 1, by decide +kernel⟩,
   ⟨({} : State), true, by decide +kernel⟩,
   ⟨({} : State).wr Reg.pmcEmerg 1, by decide +kernel⟩,
   ⟨({} : State).wr Reg.pmcEmerg 2, true, by decide +kernel⟩⟩

theorem witness_DomainsAndPowerStatesSwitch :
    (∃ (s : State) (i : Fin 38), s.pwr.vaux = true ∧ (domainNeeds i).all s.domOn = true ∧ ¬ (i.val < 16 ∧ s.mapOk = false)) ∧
    (∃ (s : State) (i : Fin 38), s.pwr.vaux = true ∧ (domainNeeds i).all s.domOn = false) ∧
    (∃ (s : State) (i : Fin 38), s.pwr.vaux = true ∧ i.val ≠ 16 ∧ (domainUsers i).any s.domOn = false ∧ s.domOn i = true ∧ ¬ (i.val < 16 ∧ s.mapOk = false)) ∧
    (∃ (s : State) (i : Fin 38), s.pwr.vaux = true ∧ (i.val = 16 ∨ (domainUsers i).any s.domOn = true)) ∧
    (∃ (s : State), s.domOn 17 = true ∧ s.domOn 24 = true) ∧
    (∃ (s : State), s.stateAsked 0 = true ∧ s.rdF Reg.pmcState 1 0 = 0 ∧ s.rdB Reg.pmcState 2 = false) ∧
    (∃ (s : State), s.stateAsked 0 = true ∧ s.stateBlocked 1 = false) ∧
    (∃ (s : State), s.stateAsked 0 = true ∧ s.stateBlocked 1 = true ∧ ¬ (s.rdF Reg.pmcState 1 0 = 0 ∧ s.rdB Reg.pmcState 2 = false)) ∧
    (∃ (s : State), s.stateAsked 1 = true ∧ s.stateBlocked 0 = false) ∧
    (∃ (s : State), s.rdB Reg.pmcState 2 = true ∧ s.rdF Reg.pmcState 4 3 = 1 ∧ s.rdF Reg.pmcState 1 0 = 0 ∧ s.unsaved = [] ∧ s.pwr.notQuiet = 0 ∧ s.mapOk = true) ∧
    (∃ (s : State), s.rdB Reg.pmcState 2 = true ∧ s.rdF Reg.pmcState 4 3 = 1 ∧ s.unsaved ++ bitsSet s.pwr.notQuiet 4 ≠ []) ∧
    (∃ (s : State) (w : WakeSource), s.rdF Reg.pmcState 1 0 = 1 ∧ s.rdB Reg.pmcState 2 = false ∧ s.wakeEnabled w = true) ∧
    (∃ (s : State) (w : WakeSource), s.rdF Reg.pmcState 1 0 = 1 ∧ s.rdB Reg.pmcState 2 = false ∧ s.wakeEnabled w = false) :=
  ⟨⟨allOn, 37, by decide +kernel⟩,
   ⟨({} : State), 0, by decide +kernel⟩,
   ⟨({} : State).wr Reg.pmcDomState (2 ^ 38 - 1 - (2 ^ 16 - 1)), 37, by decide +kernel⟩,
   ⟨allOn, 16, by decide +kernel⟩,
   ⟨allOn, by decide +kernel⟩,
   ⟨(({} : State).wr Reg.pmcStateReq 4), by decide +kernel⟩,
   ⟨(({} : State).wr Reg.pmcStateReq 4).wr Reg.pmcState 1, by decide +kernel⟩,
   ⟨(({} : State).wr Reg.pmcStateReq 4).wr Reg.pmcState 2, by decide +kernel⟩,
   ⟨({} : State).wr Reg.pmcStateReq 5, by decide +kernel⟩,
   ⟨({} : State).wr Reg.pmcState 0xC, by decide +kernel⟩,
   ⟨{ (({} : State).wr Reg.pmcState 0xC) with pwr := { notQuiet := 8 } }, by decide +kernel⟩,
   ⟨({} : State).wr Reg.pmcState 1, .busWrite, by decide +kernel⟩,
   ⟨({} : State).wr Reg.pmcState 1, .vcM, by decide +kernel⟩⟩

theorem witness_ResetRequestsAndBusTransfersTakeEffect :
    (∃ (s : State), s.pwr.warm = false ∧ s.resetAsked 2 = true ∧ s.powered = true) ∧
    (∃ (s : State) (p : Nat), s.resetAsked 3 = true ∧ s.pwr.warm = false ∧ s.resetTarget = p ∧ p < 4 ∧ s.sec.stopping.get p = none ∧ s.partExists p = true ∧ s.partState p = 2 ∧ s.powered = true) ∧
    (∃ (s : State), s.resetAsked 3 = true ∧ s.pwr.warm = false ∧ 3 < s.resetTarget ∧ s.sec.stopping.get s.resetTarget = none) ∧
    (∃ (s : State) (c : Nat), s.resetAsked 4 = true ∧ s.resetTarget = c ∧ s.pwr.warm = false ∧ s.sec.stopping.get (s.partOfDie (c / 16)) = none ∧ s.rdF Reg.pmcState 1 0 ≠ 1 ∧ s.clusterResetOk c = true) ∧
    (∃ (s : State), s.resetAsked 5 = true ∧ s.resetTarget ≤ 15) ∧
    (∃ (s : State), s.resetAsked 5 = true ∧ 15 < s.resetTarget) ∧
    (∃ (s : State) (i : _), s.pwr.vaux = true ∧ i < 0x100) ∧
    (∃ (s : State) (i : _), s.pwr.vaux = true ∧ 0x100 ≤ i ∧ i ≠ 0x8000) ∧
    (∃ (s : State) (i : _) (b : _), s.pwr.vaux = true ∧ b.length = 4 ∧ busWritable i (leNat b) = true) ∧
    (∃ (s : State) (i : _) (b : _), s.pwr.vaux = true ∧ b.length = 4 ∧ busWritable i (leNat b) = false) :=
  ⟨⟨({} : State).wr Reg.pmcReset (2 ^ 31 + 2), by decide +kernel⟩,
   ⟨((({} : State).wr Reg.pmcReset (2 ^ 31 + 3 + 3 * 2 ^ 8)).wr Reg.secPartMap 0xF0000).wr (Reg.secPartState 3) 2, 3, by decide +kernel⟩,
   ⟨({} : State).wr Reg.pmcReset (2 ^ 31 + 3 + 4 * 2 ^ 8), by decide +kernel⟩,
   ⟨allOn.wr Reg.pmcReset (2 ^ 31 + 4 + 63 * 2 ^ 8), 63, by decide +kernel⟩,
   ⟨({} : State).wr Reg.pmcReset (2 ^ 31 + 5 + 15 * 2 ^ 8), by decide +kernel⟩,
   ⟨({} : State).wr Reg.pmcReset (2 ^ 31 + 5 + 16 * 2 ^ 8), by decide +kernel⟩,
   ⟨({} : State), 0xFF, by decide +kernel⟩,
   ⟨({} : State), 0x100, by decide +kernel⟩,
   ⟨({} : State), 6, [1, 0, 0, 0], by decide +kernel⟩,
   ⟨({} : State), 6, [0, 0, 0, 0], by decide +kernel⟩⟩

theorem witness_ScalarOperationsWriteTheirResult :
    (∃ (s : State) (q : Fin 4), s.running q = true) ∧
    (∃ (s : State) (q : Fin 4), s.running q = true) ∧
    (∃ (s : State) (q : Fin 4) (rs1 : Fin 32) (rs2 : Fin 32) (x : W64) (y : W64), s.running q = true ∧ s.sreg q rs1 = x ∧ s.sreg q rs2 = y) ∧
    (∃ (s : State) (q : Fin 4) (rs1 : Fin 32) (x : W64), s.running q = true ∧ s.sreg q rs1 = x) ∧
    (∃ (s : State) (q : Fin 4) (rs1 : Fin 32) (x : W64), s.running q = true ∧ s.sreg q rs1 = x) ∧
    (∃ (s : State) (q : Fin 4) (gr : Fin 32) (mask : W64), s.running q = true ∧ gr.val < 16 ∧ mask.toNat < 2 ^ (15 * (s.gang q).length)) ∧
    (∃ (s : State) (q : Fin 4) (gr : Fin 32) (mask : W64), s.running q = true ∧ ¬ (gr.val < 16 ∧ mask.toNat < 2 ^ (15 * (s.gang q).length))) ∧
    (∃ (s : State) (q : Fin 4) (gr : Fin 32) (rs1 : Fin 32) (x : W64), s.running q = true ∧ s.sreg q rs1 = x ∧ gr.val < 16 ∧ x.toNat < 2 ^ (15 * (s.gang q).length)) ∧
    (∃ (s : State) (q : Fin 4) (gr : Fin 32) (rs1 : Fin 32) (x : W64), s.running q = true ∧ s.sreg q rs1 = x ∧ ¬ (gr.val < 16 ∧ x.toNat < 2 ^ (15 * (s.gang q).length))) :=
  ⟨⟨runs 3, 3, by decide +kernel⟩,
   ⟨runs 3, 3, by decide +kernel⟩,
   ⟨runs 3 (fun z => { z with before := [(31, 7)] }), 3, 31, 0, 7, 0, by decide +kernel⟩,
   ⟨runs 3 (fun z => { z with before := [(31, 7)] }), 3, 31, 7, by decide +kernel⟩,
   ⟨runs 3 (fun z => { z with before := [(31, 7)] }), 3, 31, 7, by decide +kernel⟩,
   ⟨runs 3, 3, 15, 2 ^ 15 - 1, by decide +kernel⟩,
   ⟨runs 3, 3, 15, 2 ^ 15, by decide +kernel⟩,
   ⟨runs 3 (fun z => { z with before := [(31, 7)] }), 3, 15, 31, 7, by decide +kernel⟩,
   ⟨runs 3 (fun z => { z with before := [(31, 7)] }), 3, 16, 31, 7, by decide +kernel⟩⟩

theorem witness_FlowSyncAndPageOperationsTakeEffect :
    (∃ (s : State) (q : Fin 4) (off : W32) (t : Nat) (rs1 : Fin 32) (rs2 : Fin 32) (x : W64) (y : W64) (taken : State) (kept : State), s.running q = true ∧ off.toInt % 4 = 0 ∧ (s.pcOf q : Int) + off.toInt = t ∧ t + 4 ≤ (s.seq q).imageLen ∧ s.sreg q rs1 = x ∧ s.sreg q rs2 = y ∧ kept = s.updSeq q (fun z => { z with bundleAt := z.bundleAt + 1 }) ∧ taken = s.updSeq q (fun z => { z with bundleAt := z.bundleAt + 1, nextPc := t, loops := loopsAfterJump t z.loops })) ∧
    (∃ (s : State) (q : Fin 4) (rs1 : Fin 32) (off : W32) (t : Nat) (n : Nat), s.running q = true ∧ off.toInt % 4 = 0 ∧ (s.pcOf q : Int) + off.toInt = t ∧ (s.seq q).after ≤ t ∧ t ≤ (s.seq q).imageLen ∧ fld (s.sreg q rs1) 31 0 = n ∧ (n = 0 ∨ t = (s.seq q).after)) ∧
    (∃ (s : State) (q : Fin 4) (rs1 : Fin 32) (off : W32) (t : Nat) (n : Nat), s.running q = true ∧ off.toInt % 4 = 0 ∧ (s.pcOf q : Int) + off.toInt = t ∧ (s.seq q).after ≤ t ∧ t ≤ (s.seq q).imageLen ∧ fld (s.sreg q rs1) 31 0 = n ∧ n ≠ 0 ∧ t ≠ (s.seq q).after ∧ (s.seq q).loops.length < 4 ∧ (∀ l ∈ (s.seq q).loops, t ≤ l.exit)) ∧
    (∃ (s : State) (q : Fin 4), s.running q = true ∧ (s.seq q).passed = false ∧ (s.seq q).blockedTokens (s.seq q).pendingTokens = []) ∧
    (∃ (s : State) (q : Fin 4), s.running q = true ∧ (s.seq q).pendingTokens = [] ∧ (s.seq q).lowestFailed (List.range 256) = none) ∧
    (∃ (s : State) (q : Fin 4) (c : Instr) (set : List Nat) (pend : _), s.running q = true ∧ ((∃ (tg : Fin 4) (mask : W64), c = .waitm q tg mask ∧ set = (bitsSet mask.toNat 64).map (fun i => 64 * tg.val + i)) ∨ (∃ a b : BitVec 8, a.toNat ≤ b.toNat ∧ c = .waitr q a b ∧ set = (List.range (b.toNat + 1 - a.toNat)).map (fun i => a.toNat + i))) ∧ (s.seq q).pendingTokens.filter set.contains = pend ∧ pend = [] ∧ (s.seq q).lowestFailed set = none) ∧
    (∃ (s : State) (q : Fin 4) (c : Instr) (set : List Nat) (pend : _) (t : _), s.running q = true ∧ ((∃ (tg : Fin 4) (mask : W64), c = .waitm q tg mask ∧ set = (bitsSet mask.toNat 64).map (fun i => 64 * tg.val + i)) ∨ (∃ a b : BitVec 8, a.toNat ≤ b.toNat ∧ c = .waitr q a b ∧ set = (List.range (b.toNat + 1 - a.toNat)).map (fun i => a.toNat + i))) ∧ (s.seq q).pendingTokens.filter set.contains = pend ∧ pend = [] ∧ (s.seq q).lowestFailed set = some t) ∧
    (∃ (s : State) (q : Fin 4) (c : Instr) (set : List Nat) (pend : _), s.running q = true ∧ ((∃ (tg : Fin 4) (mask : W64), c = .waitm q tg mask ∧ set = (bitsSet mask.toNat 64).map (fun i => 64 * tg.val + i)) ∨ (∃ a b : BitVec 8, a.toNat ≤ b.toNat ∧ c = .waitr q a b ∧ set = (List.range (b.toNat + 1 - a.toNat)).map (fun i => a.toNat + i))) ∧ (s.seq q).pendingTokens.filter set.contains = pend ∧ pend ≠ [] ∧ (s.seq q).blockedTokens pend = []) ∧
    (∃ (s : State) (q : Fin 4) (tok : BitVec 8), s.running q = true ∧ (s.seq q).isPending tok.toNat = false) ∧
    (∃ (s : State) (q : Fin 4) (tok : BitVec 8), s.running q = true ∧ (s.seq q).isPending tok.toNat = false) :=
  ⟨⟨(runs 3 (fun z => { z with imageLen := 68, before := [(1, 5)] })), 3, 64, 64, 1, 2, 5, 0, _, _, by refine ⟨?_, ?_, ?_, ?_, ?_, ?_, rfl, rfl⟩ <;> decide +kernel⟩,
   ⟨runs 3 (fun z => { z with after := 8, imageLen := 64, before := [(1, 5)] }), 3, 1, 8, 8, 5, by decide +kernel⟩,
   ⟨runs 3 (fun z => { z with after := 8, imageLen := 64, before := [(1, 5)], loops := [⟨0, 64, 3⟩, ⟨0, 64, 3⟩, ⟨0, 64, 3⟩] }), 3, 1, 64, 64, 5, by decide +kernel⟩,
   ⟨runs 3, 3, by decide +kernel⟩,
   ⟨runs 3, 3, ⟨by decide +kernel, by decide +kernel, noneFailed _ _ (by decide +kernel)⟩⟩,
   ⟨runs 3, 3, .waitr 3 255 255, [255], [], ⟨by decide +kernel, .inr ⟨255, 255, by decide, rfl, by decide⟩, by decide +kernel, rfl, noneFailed _ _ (by decide +kernel)⟩⟩,
   ⟨runs 3 (fun z => { z with tokens := [(255, { state := .failed })] }), 3, .waitm 3 3 (1 <<< 63), [255], [], 255, ⟨by decide +kernel, .inl ⟨3, 1 <<< 63, rfl, by decide⟩, by decide +kernel, rfl, by decide +kernel⟩⟩,
   ⟨runs 3 (fun z => { z with tokens := [(255, { state := .pending })] }), 3, .waitm 3 3 (1 <<< 63), [255], [255], ⟨by decide +kernel, .inl ⟨3, 1 <<< 63, rfl, by decide⟩, by decide +kernel, by decide, by decide +kernel⟩⟩,
   ⟨runs 3, 3, 255, by decide +kernel⟩,
   ⟨runs 3 (fun z => { z with tokens := [(255, { state := .failed })] }), 3, 255, by decide +kernel⟩⟩

theorem witness_SequencerCommandsTakeEffect :
    (∃ (s : State) (q : Fin 4), s.leadOf q = q ∧ s.seqState q = 1 ∧ s.gangFit q = true) ∧
    (∃ (s : State) (q : Fin 4), s.gangFit q = false) ∧
    (∃ (s : State) (q : Fin 4), s.leadOf q = q ∧ (s.seq q).freeze ≠ .hold) ∧
    (∃ (s : State) (q : Fin 4), s.leadOf q = q ∧ (s.seq q).freeze = .hold) ∧
    (∃ (s : State) (q : Fin 4), s.leadOf q = q ∧ s.canStop q = true) ∧
    (∃ (s : State) (d : Fin 4), s.csrPath .sch (Reg.seqVbind d) 8 = .served ∧ s.bindingLocked d = false) ∧
    (∃ (s : State) (d : Fin 4) (ag : Agent), s.csrPath ag (Reg.seqVbind d) 8 = .served ∧ (ag ≠ .sch ∨ s.bindingLocked d = true)) ∧
    (∃ (s : State) (d : Fin 4) (ag : Agent), s.csrPath ag (Reg.seqVbind d) 8 = .silent) ∧
    (∃ (s : State) (q : Fin 4), (s.seq q).freeze = .hold) ∧
    (∃ (s : State) (u : State) (q : Fin 4) (binds : List (List Nat)) (ctx : Context Seq), s.saved.get q = some ctx ∧ (s.each ((s.gang q).zip binds) (fun s b => s.wr (Reg.seqVbind b.1) (vbindWord b.2))).readRegions q = u ∧ (s.seqState q = 0 ∨ s.seqState q = 1 ∨ s.seqState q = 6 ∨ s.seqState q = 7 ∨ s.seqState q = 8) ∧ binds.length = (s.gang q).length ∧ ((s.gang q).zip binds).all (fun b => s.bindingOk b.1 b.2) = true) ∧
    (∃ (s : State) (ag : Agent) (c : Fin 64), s.csrPath ag (Reg.cluCntCtrl c) 4 = .served) :=
  ⟨⟨fitDie 3 ((seqIn 3 1).wr (Reg.seqVbind 3) (vbindWord (List.range 15))), 3, by decide +kernel⟩,
   ⟨seqIn 3 1, 3, by decide +kernel⟩,
   ⟨seqIn 3 1, 3, by decide +kernel⟩,
   ⟨runs 3 (fun z => { z with freeze := .hold }), 3, by decide +kernel⟩,
   ⟨seqIn 3 4, 3, by decide +kernel⟩,
   ⟨seqIn 3 1, 3, by decide +kernel⟩,
   ⟨seqIn 3 2, 3, .sch, by decide +kernel⟩,
   ⟨({} : State).wr Reg.pmcDomState 0, 3, .sch, by decide +kernel⟩,
   ⟨runs 3 (fun z => { z with freeze := .hold }), 3, by decide +kernel⟩,
   ⟨fitDie 3 { seqIn 3 6 with saved := [(3, some { seq := {} })] }, _, 3, [List.range 15], { seq := {} }, ⟨by decide +kernel, rfl, by decide +kernel⟩⟩,
   ⟨allOn, .sch, 63, by decide +kernel⟩⟩

theorem witness_StepsAndReleasesTakeEffect :
    (∃ (s : State) (u : State) (q : Fin 4) (ecc : List MemUpset) (v : State), s.upset ecc = u ∧ u.running q = true ∧ u.bundleDue q = false ∧ u.stepEngines q = (v, none) ∧ v.stepOf q + 1 < 2 ^ 64 ∧ (∀ f ∈ (v.seq q).inFlight, v.stepOf q + 1 < f.visibleAt) ∧ (v.seq q).soon = [] ∧ (v.seq q).endAt ≠ some (v.stepOf q + 1)) ∧
    (∃ (s : State) (u : State) (q : Fin 4) (ecc : List MemUpset) (c : _), s.upset ecc = u ∧ u.seqState q = 3 ∧ u.stallCause q = some c) ∧
    (∃ (s : State) (u : State) (q : Fin 4) (ecc : List MemUpset), s.upset ecc = u ∧ u.bundleDue q = true) ∧
    (∃ (s : State) (u : State) (q : Fin 4) (ecc : List MemUpset) (cls : Nat) (k : Nat) (n : Nat) (sl : Slot) (rest : List Slot) (v : State), s.upset ecc = u ∧ u.running q = true ∧ u.bundleDue q = false ∧ (u.engine q cls n k).waiting = sl :: rest ∧ (u.engine q cls n k).readyAt ≤ u.stepOf q ∧ (u.updEngine q cls n k (fun e => { e with waiting := rest })).issueOp q cls n k sl = (v, none)) ∧
    (∃ (s : State) (u : State) (q : Fin 4) (ecc : List MemUpset) (p : _) (cells : _), s.upset ecc = u ∧ (u.seq q).freeze = .page p ∧ (u.readPage q p).loadPage q p = .loaded cells) ∧
    (∃ (s : State) (u : State) (q : Fin 4) (ecc : List MemUpset) (p : _), s.upset ecc = u ∧ (u.seq q).freeze = .page p ∧ (u.readPage q p).loadPage q p = .noHandle) ∧
    (∃ (s : State) (u : State) (q : Fin 4) (ecc : List MemUpset) (p : _) (off : _), s.upset ecc = u ∧ (u.seq q).freeze = .page p ∧ (u.readPage q p).loadPage q p = .badTile off) ∧
    (∃ (s : State) (u : State) (q : Fin 4) (ecc : List MemUpset) (ts : _), s.upset ecc = u ∧ (u.seq q).freeze = .wait ts ∧ ts.any (u.seq q).isPending = false ∧ (u.seq q).lowestFailed ts = none) ∧
    (∃ (s : State) (u : State) (q : Fin 4) (ecc : List MemUpset) (ts : _) (t : _), s.upset ecc = u ∧ (u.seq q).freeze = .wait ts ∧ ts.any (u.seq q).isPending = false ∧ (u.seq q).lowestFailed ts = some t) ∧
    (∃ (s : State) (u : State) (q : Fin 4) (ecc : List MemUpset) (ts : _), s.upset ecc = u ∧ (u.seq q).freeze = .reuse ts ∧ ts.any (u.seq q).isPending = false) ∧
    (∃ (s : State) (u : State) (q : Fin 4) (ecc : List MemUpset) (ts : _), s.upset ecc = u ∧ (u.seq q).freeze = .drain ts ∧ (u.seq q).pendingTokens = [] ∧ (u.seq q).lowestFailed (List.range 256) = none) ∧
    (∃ (s : State) (u : State) (q : Fin 4) (ecc : List MemUpset) (ts : _) (t : _), s.upset ecc = u ∧ (u.seq q).freeze = .drain ts ∧ (u.seq q).pendingTokens = [] ∧ (u.seq q).lowestFailed (List.range 256) = some t) ∧
    (∃ (s : State) (u : State) (q : Fin 4) (ecc : List MemUpset) (t : _), s.upset ecc = u ∧ (u.seq q).freeze = .commit ∧ (u.seq q).pendingTokens = [] ∧ (u.seq q).lowestFailed (List.range 256) = some t) ∧
    (∃ (s : State) (u : State) (q : Fin 4) (ecc : List MemUpset), s.upset ecc = u ∧ (u.seq q).freeze = .commit ∧ (u.seq q).pendingTokens = [] ∧ (u.seq q).lowestFailed (List.range 256) = none ∧ u.quiescent q = false) ∧
    (∃ (s : State) (u : State) (q : Fin 4) (ecc : List MemUpset), s.upset ecc = u ∧ (u.seq q).freeze = .commit ∧ (u.seq q).pendingTokens = [] ∧ (u.seq q).lowestFailed (List.range 256) = none ∧ u.quiescent q = true ∧ u.rdB (Reg.seqCtrl q) 1 = true) ∧
    (∃ (s : State) (u : State) (q : Fin 4) (ecc : List MemUpset), s.upset ecc = u ∧ (u.seq q).freeze = .commit ∧ (u.seq q).pendingTokens = [] ∧ (u.seq q).lowestFailed (List.range 256) = none ∧ u.quiescent q = true ∧ u.rdB (Reg.seqCtrl q) 1 = false) ∧
    (∃ (s : State) (u : State) (q : Fin 4) (ecc : List MemUpset) (tok : BitVec 8) (p : Prefetch) (v : State) (w : State) (cells : _), s.upset ecc = u ∧ (u.seq q).prefetches.find? (fun p => p.token = tok.toNat ∧ !p.waits) = some p ∧ v = u.updSeq q (fun z => { z with prefetches := z.prefetches.filter (fun x => x.token ≠ p.token) }) ∧ v.readPage q p.page = w ∧ w.loadPage q p.page = .loaded cells) ∧
    (∃ (s : State) (u : State) (q : Fin 4) (ecc : List MemUpset) (tok : BitVec 8) (p : Prefetch) (v : State) (w : State), s.upset ecc = u ∧ (u.seq q).prefetches.find? (fun p => p.token = tok.toNat ∧ !p.waits) = some p ∧ v = u.updSeq q (fun z => { z with prefetches := z.prefetches.filter (fun x => x.token ≠ p.token) }) ∧ v.readPage q p.page = w ∧ w.loadPage q p.page = .noHandle) ∧
    (∃ (s : State) (u : State) (q : Fin 4) (ecc : List MemUpset) (tok : BitVec 8) (p : Prefetch) (v : State) (w : State) (off : _), s.upset ecc = u ∧ (u.seq q).prefetches.find? (fun p => p.token = tok.toNat ∧ !p.waits) = some p ∧ v = u.updSeq q (fun z => { z with prefetches := z.prefetches.filter (fun x => x.token ≠ p.token) }) ∧ v.readPage q p.page = w ∧ w.loadPage q p.page = .badTile off) :=
  ⟨⟨runs 3 (fun z => { z with bundleAt := 2 }), _, 3, [], runs 3 (fun z => { z with bundleAt := 2 }), by refine ⟨rfl, ?_, ?_, ?_, ?_, ?_, ?_, ?_⟩ <;> decide +kernel⟩,
   ⟨(seqIn 3 3).updSeq 3 (fun z => { z with freeze := .hold }), _, 3, [], 0, by refine ⟨rfl, ?_, ?_⟩ <;> decide +kernel⟩,
   ⟨runs 3, _, 3, [], ⟨rfl, by decide +kernel⟩⟩,
   ⟨runs 3 (fun z => { z with bundleAt := 2, engines := [(engKey 2 0 0, { waiting := [{ cls := 2, op := 0, nw := 2, w1 := 1 }] })] }), _, 3, [], 2, 0, 0, { cls := 2, op := 0, nw := 2, w1 := 1 }, [], _, ⟨rfl, by decide +kernel, by decide +kernel, by decide +kernel, by decide +kernel, rfl⟩⟩,
   ⟨handled (runs 3 (fun z => { z with freeze := .page 0, image := 0x10005 })), _, 3, [], 0, [], ⟨rfl, by decide +kernel⟩⟩,
   ⟨runs 3 (fun z => { z with freeze := .page 5 }), _, 3, [], 5, ⟨rfl, by decide +kernel⟩⟩,
   ⟨{ handled (runs 3 (fun z => { z with freeze := .page 0, image := 0x10005 })) with syn := [(dpaOfFrame (frameNo 11 32767) / 4096 + 15, 1)] }, _, 3, [], 0, 15 * 4096, ⟨rfl, by decide +kernel⟩⟩,
   ⟨runs 3 (fun z => { z with freeze := .wait [255] }), _, 3, [], [255], ⟨rfl, by decide +kernel, by decide +kernel, noneFailed _ _ (by decide +kernel)⟩⟩,
   ⟨runs 3 (fun z => { z with freeze := .wait [255], tokens := [(255, { state := .failed })] }), _, 3, [], [255], 255, ⟨rfl, by decide +kernel⟩⟩,
   ⟨runs 3 (fun z => { z with freeze := .reuse [255] }), _, 3, [], [255], ⟨rfl, by decide +kernel⟩⟩,
   ⟨runs 3 (fun z => { z with freeze := .drain [255] }), _, 3, [], [255], ⟨rfl, by decide +kernel, by decide +kernel, noneFailed _ _ (by decide +kernel)⟩⟩,
   ⟨runs 3 (fun z => { z with freeze := .drain [255], tokens := [(255, { state := .failed })] }), _, 3, [], [255], 255, ⟨rfl, by decide +kernel⟩⟩,
   ⟨runs 3 (fun z => { z with freeze := .commit, tokens := [(255, { state := .failed })] }), _, 3, [], 255, ⟨rfl, by decide +kernel⟩⟩,
   ⟨runs 3 (fun z => { z with freeze := .commit, inFlight := [{ visibleAt := 4 }] }), _, 3, [], ⟨rfl, by decide +kernel, by decide +kernel, noneFailed _ _ (by decide +kernel), by decide +kernel⟩⟩,
   ⟨(runs 3 (fun z => { z with freeze := .commit })).wrB (Reg.seqCtrl 3) 1 true, _, 3, [], ⟨rfl, by decide +kernel, by decide +kernel, noneFailed _ _ (by decide +kernel), by decide +kernel⟩⟩,
   ⟨runs 3 (fun z => { z with freeze := .commit }), _, 3, [], ⟨rfl, by decide +kernel, by decide +kernel, noneFailed _ _ (by decide +kernel), by decide +kernel⟩⟩,
   ⟨handled (runs 3 (fun z => { z with prefetches := [⟨0, 255, false⟩], image := 0x10005 })), _, 3, [], 255, ⟨0, 255, false⟩, _, _, [], ⟨rfl, by decide +kernel, rfl, rfl, by decide +kernel⟩⟩,
   ⟨runs 3 (fun z => { z with prefetches := [⟨0, 255, false⟩] }), _, 3, [], 255, ⟨0, 255, false⟩, _, _, ⟨rfl, by decide +kernel, rfl, rfl, by decide +kernel⟩⟩,
   ⟨{ handled (runs 3 (fun z => { z with prefetches := [⟨0, 255, false⟩], image := 0x10005 })) with syn := [(dpaOfFrame (frameNo 11 32767) / 4096, 1)] }, _, 3, [], 255, ⟨0, 255, false⟩, _, _, 0, ⟨rfl, by decide +kernel, rfl, rfl, by decide +kernel⟩⟩⟩

theorem witness_ControlSlotsChangeTheirOrders :
    (∃ (s : State) (q : Fin 4) (cls : Fin 16) (sel : Sel) (us : List Nat) (ks : List Nat) (changed : (Order → Order) → State) (rec : W32), s.running q = true ∧ orderClass cls = true ∧ s.selClusters q sel.gmode sel.gsel = some us ∧ selCells cls sel.csel = some ks ∧ (∀ f, changed f = (us.flatMap (fun u => ks.map (fun k => (u, k)))).foldl (fun t i => t.updEngine q cls i.1 i.2 (fun e => { e with order := f e.order })) s) ∧ s.recordOk q cls rec.toNat = true ∧ s.pageReady q (rec.toNat / 65536) = true) ∧
    (∃ (s : State) (q : Fin 4) (cls : Fin 16) (sel : Sel) (us : List Nat) (ks : List Nat) (changed : (Order → Order) → State) (rec : W32), s.running q = true ∧ orderClass cls = true ∧ s.selClusters q sel.gmode sel.gsel = some us ∧ selCells cls sel.csel = some ks ∧ (∀ f, changed f = (us.flatMap (fun u => ks.map (fun k => (u, k)))).foldl (fun t i => t.updEngine q cls i.1 i.2 (fun e => { e with order := f e.order })) s) ∧ s.recordOk q cls rec.toNat = true ∧ s.pageReady q (rec.toNat / 65536) = false) ∧
    (∃ (s : State) (q : Fin 4) (cls : Fin 16) (sel : Sel) (us : List Nat) (ks : List Nat) (changed : (Order → Order) → State), s.running q = true ∧ orderClass cls = true ∧ s.selClusters q sel.gmode sel.gsel = some us ∧ selCells cls sel.csel = some ks ∧ (∀ f, changed f = (us.flatMap (fun u => ks.map (fun k => (u, k)))).foldl (fun t i => t.updEngine q cls i.1 i.2 (fun e => { e with order := f e.order })) s)) ∧
    (∃ (s : State) (q : Fin 4) (cls : Fin 16) (sel : Sel) (us : List Nat) (ks : List Nat) (changed : (Order → Order) → State) (l : Fin 4) (rs : Fin 32), s.running q = true ∧ orderClass cls = true ∧ s.selClusters q sel.gmode sel.gsel = some us ∧ selCells cls sel.csel = some ks ∧ (∀ f, changed f = (us.flatMap (fun u => ks.map (fun k => (u, k)))).foldl (fun t i => t.updEngine q cls i.1 i.2 (fun e => { e with order := f e.order })) s) ∧ l.val ≤ 2 ∧ 1 ≤ (s.sreg q rs).toNat ∧ (s.sreg q rs).toNat ≤ 65536) :=
  ⟨⟨runs 3 (fun z => { z with imageLen := 384, frames := [(0, some 0)], buffer := [(3, 0x78)] }), 3, 7, ⟨0, 14, 0⟩, [14], [0], _, 0, ⟨by decide +kernel, by decide, by decide +kernel, by decide, fun _ => rfl, by decide +kernel⟩⟩,
   ⟨{ (runs 3 (fun z => { z with imageLen := 384, image := 0x10000 })).wr (Reg.hubSlab 0) 1 with mem := [(3, 0x78)] }, 3, 7, ⟨0, 14, 0⟩, [14], [0], _, 0, ⟨by decide +kernel, by decide, by decide +kernel, by decide, fun _ => rfl, by decide +kernel⟩⟩,
   ⟨runs 3, 3, 11, ⟨1, 0, 0⟩, List.range 15, [0], _, ⟨by decide +kernel, by decide, by decide +kernel, by decide, fun _ => rfl⟩⟩,
   ⟨runs 3 (fun z => { z with before := [(31, 65536)] }), 3, 1, ⟨0, 14, 16⟩, [14], List.range 16, _, 2, 31, ⟨by decide +kernel, by decide, by decide +kernel, by decide, fun _ => rfl, by decide, by decide +kernel⟩⟩⟩

theorem witness_AsynchronousOperationsTakeEffect :
    (∃ (s : State) (q : Fin 4) (c : Instr) (op : Nat) (sel : Sel) (f : DmxFields) (us : List Nat) (is : List (Nat × Nat)) (i : _), s.running q = true ∧ (op, c) ∈ [(1, .dld q sel f), (2, .dst q sel f), (3, .drget q sel f), (4, .drput q sel f), (5, .drputh q sel f), (6, .dhrd q sel f), (7, .dhwr q sel f)] ∧ s.selClusters q sel.gmode sel.gsel = some us ∧ sel.csel.val < 2 ∧ (f.fan = true → f.cell = 0) ∧ f.store.toNat / 2 ^ 14 ≤ 1 ∧ (s.seq q).isPending f.token.toNat = false ∧ is = us.flatMap (fun u => (if f.fan then List.range 16 else [f.cell.val]).map (fun k => (u, k))) ∧ is.zipIdx.find? (fun i => (s.dmxPart q (dmxOp op sel f) i.2 i.1).isNone) = some i) ∧
    (∃ (s : State) (q : Fin 4) (c : Instr) (op : Nat) (sel : Sel) (f : DmxFields) (us : List Nat) (is : List (Nat × Nat)) (ps : List DmxPart), s.running q = true ∧ (op, c) ∈ [(1, .dld q sel f), (2, .dst q sel f), (3, .drget q sel f), (4, .drput q sel f), (5, .drputh q sel f), (6, .dhrd q sel f), (7, .dhwr q sel f)] ∧ s.selClusters q sel.gmode sel.gsel = some us ∧ sel.csel.val < 2 ∧ (f.fan = true → f.cell = 0) ∧ f.store.toNat / 2 ^ 14 ≤ 1 ∧ (s.seq q).isPending f.token.toNat = false ∧ is = us.flatMap (fun u => (if f.fan then List.range 16 else [f.cell.val]).map (fun k => (u, k))) ∧ is.zipIdx.map (fun i => s.dmxPart q (dmxOp op sel f) i.2 i.1) = ps.map some ∧ (op = 6 ∨ op = 7) ∧ s.fnPresent (s.partPort (s.partOfDie q)) (s.partOfDie q + 1) = false) ∧
    (∃ (s : State) (q : Fin 4) (c : Instr) (op : Nat) (sel : Sel) (f : DmxFields) (us : List Nat) (is : List (Nat × Nat)) (ps : List DmxPart) (jobs : List (Nat × NetJob)), s.running q = true ∧ (op, c) ∈ [(1, .dld q sel f), (2, .dst q sel f), (3, .drget q sel f), (4, .drput q sel f), (5, .drputh q sel f), (6, .dhrd q sel f), (7, .dhwr q sel f)] ∧ s.selClusters q sel.gmode sel.gsel = some us ∧ sel.csel.val < 2 ∧ (f.fan = true → f.cell = 0) ∧ f.store.toNat / 2 ^ 14 ≤ 1 ∧ (s.seq q).isPending f.token.toNat = false ∧ is = us.flatMap (fun u => (if f.fan then List.range 16 else [f.cell.val]).map (fun k => (u, k))) ∧ is.zipIdx.map (fun i => s.dmxPart q (dmxOp op sel f) i.2 i.1) = ps.map some ∧ ((op = 6 ∨ op = 7) → s.fnPresent (s.partPort (s.partOfDie q)) (s.partOfDie q + 1) = true) ∧ jobs = (if 3 ≤ op ∧ op ≤ 5 then ps.flatMap (fun p => (s.dmxJobs q op f.token.toNat p).map (fun j => (p.far, j))) else [])) ∧
    (∃ (s : State) (q : Fin 4) (t : Trigger) (args : List W64) (mask : BitVec 12) (code : Nat), s.running q = true ∧ (s.seq q).isPending t.token.toNat = false ∧ args = (List.range 4).map (fun i => s.sreg q ((t.rsArg + i) % 32)) ∧ s.dispatchCode q mask.toNat t.index.toNat args = code ∧ code ≠ 0) ∧
    (∃ (s : State) (q : Fin 4) (t : Trigger) (args : List W64) (mask : BitVec 12) (code : Nat), s.running q = true ∧ (s.seq q).isPending t.token.toNat = false ∧ args = (List.range 4).map (fun i => s.sreg q ((t.rsArg + i) % 32)) ∧ s.dispatchCode q mask.toNat t.index.toNat args = code ∧ code = 0 ∧ mask = 0) ∧
    (∃ (s : State) (q : Fin 4) (t : Trigger) (args : List W64) (mask : BitVec 12) (code : Nat) (n : _) (ns : _), s.running q = true ∧ (s.seq q).isPending t.token.toNat = false ∧ args = (List.range 4).map (fun i => s.sreg q ((t.rsArg + i) % 32)) ∧ s.dispatchCode q mask.toNat t.index.toNat args = code ∧ code = 0 ∧ s.maskStacks q mask.toNat = some (n :: ns)) ∧
    (∃ (s : State) (q : Fin 4), s.running q = true) ∧
    (∃ (s : State) (u : State) (v : State) (q : Fin 4) (tok : BitVec 8) (host : List HostData) (ecc : List MemUpset) (t : DmxTransfer) (ok : Bool), s.silent.upset ecc = u ∧ (u.seq q).transfers.find? (fun t => t.token = tok.toNat) = some t ∧ t.left = 0 ∧ (t.op = 6 ∨ t.op = 7 → u.vfHeld (u.partOfDie q) = false) ∧ (u.updSeq q (fun z => { z with transfers := z.transfers.filter (fun x => x.token ≠ t.token) })).dmxRun (u.partOfDie q) t host = (v, ok)) :=
  ⟨⟨runs 3, 3, .dld 3 ⟨0, 14, 0⟩ ⟨15, false, false, 255, 0, 0, 0, 0, 0⟩, 1, ⟨0, 14, 0⟩, ⟨15, false, false, 255, 0, 0, 0, 0, 0⟩, [14], [(14, 15)], ((14, 15), 0), by decide +kernel⟩,
   ⟨runs 3, 3, .dhrd 3 ⟨0, 14, 1⟩ ⟨15, false, false, 255, 0, 0, 0, 0, 0⟩, 6, ⟨0, 14, 1⟩, ⟨15, false, false, 255, 0, 0, 0, 0, 0⟩, [14], [(14, 15)], [{ store := ((runs 3).place 3 {} 14 15 0).dpa }], by decide +kernel⟩,
   ⟨runs 3, 3, .drput 3 ⟨0, 14, 1⟩ ⟨0, false, true, 255, 0, 0, 0, 0, 0⟩, 4, ⟨0, 14, 1⟩, ⟨0, false, true, 255, 0, 0, 0, 0, 0⟩, [14], (List.range 16).map (fun k => (14, k)), (List.range 16).map (fun k => { store := ((runs 3).place 3 {} 14 k 0).dpa }), _, ⟨by decide +kernel, by decide, by decide +kernel, by decide, by decide, by decide, by decide +kernel, by decide, by decide +kernel, by decide, rfl⟩⟩,
   ⟨runs 3, 3, ⟨255, 0, 0⟩, _, 0xFFF, 7, ⟨by decide +kernel, by decide +kernel, rfl, by decide +kernel⟩⟩,
   ⟨runs 3, 3, ⟨255, 0, 0⟩, _, 0, 0, ⟨by decide +kernel, by decide +kernel, rfl, by decide +kernel⟩⟩,
   ⟨{ runs 3 with bases := [(11, { entries := 1 })] }, 3, ⟨255, 0, 0⟩, _, 4, 0, 11, [], ⟨by decide +kernel, by decide +kernel, rfl, by decide +kernel⟩⟩,
   ⟨runs 3, 3, by decide +kernel⟩,
   ⟨runs 3 (fun z => { z with transfers := [{ op := 3, token := 255, parts := [] }] }), _, _, 3, 255, [], [], { op := 3, token := 255, parts := [] }, true, ⟨rfl, by decide +kernel, rfl, by decide +kernel, rfl⟩⟩⟩

/-- Every operation of classes 0x1 to 0x9 and 0xB has operands that its slot accepts. -/
theorem every_operation_has_operands : ([(1, 0, 3, 0, 0x33, 0), (1, 1, 2, 0, 0, 0), (1, 2, 2, 0, 0, 0), (1, 3, 3, 0, 0, 0), (1, 4, 3, 0, 0, 0), (1, 5, 3, 0, 0, 0),
    (2, 0, 2, 0, 0, 0), (2, 1, 3, 127, 0, 0), (2, 2, 3, 0, 0, 0), (2, 3, 3, 0, 0, 0), (2, 4, 3, 0, 0, 0), (2, 5, 3, 0, 0, 0), (2, 6, 3, 0, 0, 31 * 65536), (2, 7, 3, 0, 0, 0), (2, 8, 3, 0, 0, 0),
    (3, 1, 3, 127, 0x4000, 0x4000), (3, 2, 3, 0, 0x4000, 0x4000), (3, 3, 3, 0, 0x40004000, 0x4000), (3, 4, 3, 0, 0x40004000, 0x4000), (3, 5, 3, 0, 0x40004000, 0x4000),
    (4, 0, 3, 0, 0x11, 0), (4, 1, 3, 0, 0x4000, 0x4000), (4, 2, 3, 0, 0x4000, 0x40000000), (5, 0, 2, 0, 1, 0)] ++ (List.range 8).map (fun i => (5, i + 1, 2, 0, 0x40004000, 0)) ++
    [(6, 0, 2, 0, 0, 0), (6, 1, 3, 12, 0x40004000, 0x40004000), (6, 2, 3, 6, 0x40004000, 0x40004000), (7, 0, 2, 0, 0, 0), (7, 1, 3, 0, 0x4000, 0x4000), (7, 2, 3, 0, 0x4000, 0x4000),
    (7, 3, 3, 0, 0x40004000, 0x40004000), (7, 4, 3, 0, 0x4000, 0x40004000), (8, 1, 3, 0, 0x4000, 0x4000), (8, 2, 3, 0, 0x4000, 0x4000), (9, 1, 3, 0, 0x4000, 0),
    (11, 0, 2, 0, 0, 0), (11, 1, 2, 0, 0x40000000, 0), (11, 2, 2, 0, 0x00004000, 0), (11, 3, 2, 0, 0x40000000, 0)]).all (fun t =>
    (runs 3).slotOk 3 0 0 { cls := t.1, op := t.2.1, nw := t.2.2.1, gsel := 14, mod := t.2.2.2.1, w1 := t.2.2.2.2.1, w2 := t.2.2.2.2.2 }) = true := by decide +kernel


theorem witness_EngineOperationsIssue :
    (∃ (s : State) (v : State) (q : Fin 4) (ecc : List MemUpset) (sel : Sel) (m : Fin 128) (a : BitVec 16) (b : BitVec 16) (d : BitVec 16) (e : BitVec 16) (x : W32) (y : W32) (r1 : Fin 32) (r2 : Fin 32) (r3 : Fin 32) (dist : Fin 4) (c : Instr) (cls : Nat) (op : Nat) (nw : Nat) (mod : Nat) (w1 : Nat) (w2 : Nat) (sl : Slot) (is : List (Nat × Nat)), s.upset ecc = v ∧ v.running q = true ∧ (c, cls, op, nw, mod, w1, w2) ∈ [(Instr.mcfg q sel x y ecc, 1, 0, 3, 0, x.toNat, y.toNat), (.mms q sel a b ecc, 1, 1, 2, 0, a.toNat + b.toNat * 65536, 0), (.mmc q sel a b ecc, 1, 2, 2, 0, a.toNat + b.toNat * 65536, 0), (.mme q sel a b d ecc, 1, 3, 3, 0, a.toNat + b.toNat * 65536, d.toNat), (.mmse q sel a b d ecc, 1, 4, 3, 0, a.toNat + b.toNat * 65536, d.toNat), (.mmss q sel a b d ecc, 1, 5, 3, 0, a.toNat + b.toNat * 65536, d.toNat), (.vcfg q sel x ecc, 2, 0, 2, 0, x.toNat, 0), (.vadd q sel m a b d ecc, 2, 1, 3, m.val, a.toNat + b.toNat * 65536, d.toNat), (.vmul q sel m a b d ecc, 2, 2, 3, m.val, a.toNat + b.toNat * 65536, d.toNat), (.vfma q sel m a b d e ecc, 2, 3, 3, m.val, a.toNat + b.toNat * 65536, d.toNat + e.toNat * 65536), (.vmax q sel m a b d ecc, 2, 4, 3, m.val, a.toNat + b.toNat * 65536, d.toNat), (.vmin q sel m a b d ecc, 2, 5, 3, m.val, a.toNat + b.toNat * 65536, d.toNat), (.vscl q sel m a d r1 ecc, 2, 6, 3, m.val, a.toNat, d.toNat + r1.val * 65536), (.vred q sel m a d ecc, 2, 7, 3, m.val, a.toNat, d.toNat), (.vcvt q sel m a d ecc, 2, 8, 3, m.val, a.toNat, d.toNat), (.kcopy q sel m a d ecc, 3, 1, 3, m.val, a.toNat, d.toNat), (.ktrans q sel m a d e ecc, 3, 2, 3, m.val, a.toNat, d.toNat + e.toNat * 65536), (.kperm q sel m a b d e ecc, 3, 3, 3, m.val, a.toNat + b.toNat * 65536, d.toNat + e.toNat * 65536), (.kgath q sel m a b d e ecc, 3, 4, 3, m.val, a.toNat + b.toNat * 65536, d.toNat + e.toNat * 65536), (.kscat q sel m a b d e ecc, 3, 5, 3, m.val, a.toNat + b.toNat * 65536, d.toNat + e.toNat * 65536), (.fcfg q sel x y ecc, 4, 0, 3, 0, x.toNat, y.toNat), (.fcvt q sel m a b d e ecc, 4, 1, 3, m.val, a.toNat + b.toNat * 65536, d.toNat + e.toNat * 65536), (.fscale q sel m a b e ecc, 4, 2, 3, m.val, a.toNat + b.toNat * 65536, e.toNat * 65536), (.tcfg q sel x ecc, 5, 0, 2, 0, x.toNat, 0), (.texp q sel m a d ecc, 5, 1, 2, m.val, a.toNat + d.toNat * 65536, 0), (.tlog q sel m a d ecc, 5, 2, 2, m.val, a.toNat + d.toNat * 65536, 0), (.trcp q sel m a d ecc, 5, 3, 2, m.val, a.toNat + d.toNat * 65536, 0), (.trsq q sel m a d ecc, 5, 4, 2, m.val, a.toNat + d.toNat * 65536, 0), (.ttanh q sel m a d ecc, 5, 5, 2, m.val, a.toNat + d.toNat * 65536, 0), (.tsigm q sel m a d ecc, 5, 6, 2, m.val, a.toNat + d.toNat * 65536, 0), (.tsin q sel m a d ecc, 5, 7, 2, m.val, a.toNat + d.toNat * 65536, 0), (.tcos q sel m a d ecc, 5, 8, 2, m.val, a.toNat + d.toNat * 65536, 0), (.scfg q sel x ecc, 6, 0, 2, 0, x.toNat, 0), (.ssort q sel m a b d e ecc, 6, 1, 3, m.val, a.toNat + b.toNat * 65536, d.toNat + e.toNat * 65536), (.stopk q sel m a b d e ecc, 6, 2, 3, m.val, a.toNat + b.toNat * 65536, d.toNat + e.toNat * 65536), (.icfg q sel x ecc, 7, 0, 2, 0, x.toNat, 0), (.ihist q sel m a d ecc, 7, 1, 3, m.val, a.toNat, d.toNat), (.ipsum q sel m a d ecc, 7, 2, 3, m.val, a.toNat, d.toNat), (.icomp q sel m a b d e ecc, 7, 3, 3, m.val, a.toNat + b.toNat * 65536, d.toNat + e.toNat * 65536), (.iroute q sel m a d e ecc, 7, 4, 3, m.val, a.toNat, d.toNat + e.toNat * 65536), (.ccomp q sel m a d ecc, 8, 1, 3, m.val, a.toNat, d.toNat), (.cdec q sel m a d ecc, 8, 2, 3, m.val, a.toNat, d.toNat), (.rgen q sel m a r1 r2 dist r3 ecc, 9, 1, 3, m.val, a.toNat + r1.val * 65536 + r2.val * 2 ^ 21 + dist.val * 2 ^ 26, r3.val), (.rcfg q sel x ecc, 11, 0, 2, 0, x.toNat, 0), (.rred q sel m a d ecc, 11, 1, 2, m.val, a.toNat + d.toNat * 65536, 0), (.rbcast q sel m a d ecc, 11, 2, 2, m.val, a.toNat + d.toNat * 65536, 0), (.rcat q sel m a d ecc, 11, 3, 2, m.val, a.toNat + d.toNat * 65536, 0)] ∧ sl = { cls := cls, op := op, nw := nw, gmode := sel.gmode, gsel := sel.gsel, csel := sel.csel, mod := mod, w1 := w1, w2 := w2 } ∧ v.slotOk q (v.pcOf q) (v.seq q).after sl = true ∧ v.instances q sl = some is) ∧
    (∃ (s : State) (v : State) (q : Fin 4) (ecc : List MemUpset) (sel : Sel) (m : Fin 128) (a : BitVec 16) (b : BitVec 16) (d : BitVec 16) (e : BitVec 16) (x : W32) (y : W32) (r1 : Fin 32) (r2 : Fin 32) (r3 : Fin 32) (dist : Fin 4) (c : Instr) (cls : Nat) (op : Nat) (nw : Nat) (mod : Nat) (w1 : Nat) (w2 : Nat) (u : Nat) (k : Nat) (sl : Slot), s.upset ecc = v ∧ v.running q = true ∧ (c, cls, op, nw, mod, w1, w2) ∈ [(Instr.mcfg q sel x y ecc, 1, 0, 3, 0, x.toNat, y.toNat), (.mms q sel a b ecc, 1, 1, 2, 0, a.toNat + b.toNat * 65536, 0), (.mmc q sel a b ecc, 1, 2, 2, 0, a.toNat + b.toNat * 65536, 0), (.mme q sel a b d ecc, 1, 3, 3, 0, a.toNat + b.toNat * 65536, d.toNat), (.mmse q sel a b d ecc, 1, 4, 3, 0, a.toNat + b.toNat * 65536, d.toNat), (.mmss q sel a b d ecc, 1, 5, 3, 0, a.toNat + b.toNat * 65536, d.toNat), (.vcfg q sel x ecc, 2, 0, 2, 0, x.toNat, 0), (.vadd q sel m a b d ecc, 2, 1, 3, m.val, a.toNat + b.toNat * 65536, d.toNat), (.vmul q sel m a b d ecc, 2, 2, 3, m.val, a.toNat + b.toNat * 65536, d.toNat), (.vfma q sel m a b d e ecc, 2, 3, 3, m.val, a.toNat + b.toNat * 65536, d.toNat + e.toNat * 65536), (.vmax q sel m a b d ecc, 2, 4, 3, m.val, a.toNat + b.toNat * 65536, d.toNat), (.vmin q sel m a b d ecc, 2, 5, 3, m.val, a.toNat + b.toNat * 65536, d.toNat), (.vscl q sel m a d r1 ecc, 2, 6, 3, m.val, a.toNat, d.toNat + r1.val * 65536), (.vred q sel m a d ecc, 2, 7, 3, m.val, a.toNat, d.toNat), (.vcvt q sel m a d ecc, 2, 8, 3, m.val, a.toNat, d.toNat), (.kcopy q sel m a d ecc, 3, 1, 3, m.val, a.toNat, d.toNat), (.ktrans q sel m a d e ecc, 3, 2, 3, m.val, a.toNat, d.toNat + e.toNat * 65536), (.kperm q sel m a b d e ecc, 3, 3, 3, m.val, a.toNat + b.toNat * 65536, d.toNat + e.toNat * 65536), (.kgath q sel m a b d e ecc, 3, 4, 3, m.val, a.toNat + b.toNat * 65536, d.toNat + e.toNat * 65536), (.kscat q sel m a b d e ecc, 3, 5, 3, m.val, a.toNat + b.toNat * 65536, d.toNat + e.toNat * 65536), (.fcfg q sel x y ecc, 4, 0, 3, 0, x.toNat, y.toNat), (.fcvt q sel m a b d e ecc, 4, 1, 3, m.val, a.toNat + b.toNat * 65536, d.toNat + e.toNat * 65536), (.fscale q sel m a b e ecc, 4, 2, 3, m.val, a.toNat + b.toNat * 65536, e.toNat * 65536), (.tcfg q sel x ecc, 5, 0, 2, 0, x.toNat, 0), (.texp q sel m a d ecc, 5, 1, 2, m.val, a.toNat + d.toNat * 65536, 0), (.tlog q sel m a d ecc, 5, 2, 2, m.val, a.toNat + d.toNat * 65536, 0), (.trcp q sel m a d ecc, 5, 3, 2, m.val, a.toNat + d.toNat * 65536, 0), (.trsq q sel m a d ecc, 5, 4, 2, m.val, a.toNat + d.toNat * 65536, 0), (.ttanh q sel m a d ecc, 5, 5, 2, m.val, a.toNat + d.toNat * 65536, 0), (.tsigm q sel m a d ecc, 5, 6, 2, m.val, a.toNat + d.toNat * 65536, 0), (.tsin q sel m a d ecc, 5, 7, 2, m.val, a.toNat + d.toNat * 65536, 0), (.tcos q sel m a d ecc, 5, 8, 2, m.val, a.toNat + d.toNat * 65536, 0), (.scfg q sel x ecc, 6, 0, 2, 0, x.toNat, 0), (.ssort q sel m a b d e ecc, 6, 1, 3, m.val, a.toNat + b.toNat * 65536, d.toNat + e.toNat * 65536), (.stopk q sel m a b d e ecc, 6, 2, 3, m.val, a.toNat + b.toNat * 65536, d.toNat + e.toNat * 65536), (.icfg q sel x ecc, 7, 0, 2, 0, x.toNat, 0), (.ihist q sel m a d ecc, 7, 1, 3, m.val, a.toNat, d.toNat), (.ipsum q sel m a d ecc, 7, 2, 3, m.val, a.toNat, d.toNat), (.icomp q sel m a b d e ecc, 7, 3, 3, m.val, a.toNat + b.toNat * 65536, d.toNat + e.toNat * 65536), (.iroute q sel m a d e ecc, 7, 4, 3, m.val, a.toNat, d.toNat + e.toNat * 65536), (.ccomp q sel m a d ecc, 8, 1, 3, m.val, a.toNat, d.toNat), (.cdec q sel m a d ecc, 8, 2, 3, m.val, a.toNat, d.toNat), (.rgen q sel m a r1 r2 dist r3 ecc, 9, 1, 3, m.val, a.toNat + r1.val * 65536 + r2.val * 2 ^ 21 + dist.val * 2 ^ 26, r3.val), (.rcfg q sel x ecc, 11, 0, 2, 0, x.toNat, 0), (.rred q sel m a d ecc, 11, 1, 2, m.val, a.toNat + d.toNat * 65536, 0), (.rbcast q sel m a d ecc, 11, 2, 2, m.val, a.toNat + d.toNat * 65536, 0), (.rcat q sel m a d ecc, 11, 3, 2, m.val, a.toNat + d.toNat * 65536, 0)] ∧ sl = { cls := cls, op := op, nw := nw, gmode := sel.gmode, gsel := sel.gsel, csel := sel.csel, mod := mod, w1 := w1, w2 := w2 } ∧ v.slotOk q (v.pcOf q) (v.seq q).after sl = true ∧ v.instances q sl = some [(u, k)] ∧ (v.stepOf q < (v.engine q cls u k).readyAt ∨ (v.engine q cls u k).waiting ≠ [])) ∧
    (∃ (s : State) (v : State) (q : Fin 4) (ecc : List MemUpset) (sel : Sel) (m : Fin 128) (a : BitVec 16) (b : BitVec 16) (d : BitVec 16) (e : BitVec 16) (x : W32) (y : W32) (r1 : Fin 32) (r2 : Fin 32) (r3 : Fin 32) (dist : Fin 4) (c : Instr) (cls : Nat) (op : Nat) (nw : Nat) (mod : Nat) (w1 : Nat) (w2 : Nat) (u : Nat) (k : Nat) (sl : Slot) (lat : Nat) (ii : Nat) (st : EngSt) (out : _), s.upset ecc = v ∧ v.running q = true ∧ (c, cls, op, nw, mod, w1, w2) ∈ [(Instr.mcfg q sel x y ecc, 1, 0, 3, 0, x.toNat, y.toNat), (.mms q sel a b ecc, 1, 1, 2, 0, a.toNat + b.toNat * 65536, 0), (.mmc q sel a b ecc, 1, 2, 2, 0, a.toNat + b.toNat * 65536, 0), (.mme q sel a b d ecc, 1, 3, 3, 0, a.toNat + b.toNat * 65536, d.toNat), (.mmse q sel a b d ecc, 1, 4, 3, 0, a.toNat + b.toNat * 65536, d.toNat), (.mmss q sel a b d ecc, 1, 5, 3, 0, a.toNat + b.toNat * 65536, d.toNat), (.vcfg q sel x ecc, 2, 0, 2, 0, x.toNat, 0), (.vadd q sel m a b d ecc, 2, 1, 3, m.val, a.toNat + b.toNat * 65536, d.toNat), (.vmul q sel m a b d ecc, 2, 2, 3, m.val, a.toNat + b.toNat * 65536, d.toNat), (.vfma q sel m a b d e ecc, 2, 3, 3, m.val, a.toNat + b.toNat * 65536, d.toNat + e.toNat * 65536), (.vmax q sel m a b d ecc, 2, 4, 3, m.val, a.toNat + b.toNat * 65536, d.toNat), (.vmin q sel m a b d ecc, 2, 5, 3, m.val, a.toNat + b.toNat * 65536, d.toNat), (.vscl q sel m a d r1 ecc, 2, 6, 3, m.val, a.toNat, d.toNat + r1.val * 65536), (.vred q sel m a d ecc, 2, 7, 3, m.val, a.toNat, d.toNat), (.vcvt q sel m a d ecc, 2, 8, 3, m.val, a.toNat, d.toNat), (.kcopy q sel m a d ecc, 3, 1, 3, m.val, a.toNat, d.toNat), (.ktrans q sel m a d e ecc, 3, 2, 3, m.val, a.toNat, d.toNat + e.toNat * 65536), (.kperm q sel m a b d e ecc, 3, 3, 3, m.val, a.toNat + b.toNat * 65536, d.toNat + e.toNat * 65536), (.kgath q sel m a b d e ecc, 3, 4, 3, m.val, a.toNat + b.toNat * 65536, d.toNat + e.toNat * 65536), (.kscat q sel m a b d e ecc, 3, 5, 3, m.val, a.toNat + b.toNat * 65536, d.toNat + e.toNat * 65536), (.fcfg q sel x y ecc, 4, 0, 3, 0, x.toNat, y.toNat), (.fcvt q sel m a b d e ecc, 4, 1, 3, m.val, a.toNat + b.toNat * 65536, d.toNat + e.toNat * 65536), (.fscale q sel m a b e ecc, 4, 2, 3, m.val, a.toNat + b.toNat * 65536, e.toNat * 65536), (.tcfg q sel x ecc, 5, 0, 2, 0, x.toNat, 0), (.texp q sel m a d ecc, 5, 1, 2, m.val, a.toNat + d.toNat * 65536, 0), (.tlog q sel m a d ecc, 5, 2, 2, m.val, a.toNat + d.toNat * 65536, 0), (.trcp q sel m a d ecc, 5, 3, 2, m.val, a.toNat + d.toNat * 65536, 0), (.trsq q sel m a d ecc, 5, 4, 2, m.val, a.toNat + d.toNat * 65536, 0), (.ttanh q sel m a d ecc, 5, 5, 2, m.val, a.toNat + d.toNat * 65536, 0), (.tsigm q sel m a d ecc, 5, 6, 2, m.val, a.toNat + d.toNat * 65536, 0), (.tsin q sel m a d ecc, 5, 7, 2, m.val, a.toNat + d.toNat * 65536, 0), (.tcos q sel m a d ecc, 5, 8, 2, m.val, a.toNat + d.toNat * 65536, 0), (.scfg q sel x ecc, 6, 0, 2, 0, x.toNat, 0), (.ssort q sel m a b d e ecc, 6, 1, 3, m.val, a.toNat + b.toNat * 65536, d.toNat + e.toNat * 65536), (.stopk q sel m a b d e ecc, 6, 2, 3, m.val, a.toNat + b.toNat * 65536, d.toNat + e.toNat * 65536), (.icfg q sel x ecc, 7, 0, 2, 0, x.toNat, 0), (.ihist q sel m a d ecc, 7, 1, 3, m.val, a.toNat, d.toNat), (.ipsum q sel m a d ecc, 7, 2, 3, m.val, a.toNat, d.toNat), (.icomp q sel m a b d e ecc, 7, 3, 3, m.val, a.toNat + b.toNat * 65536, d.toNat + e.toNat * 65536), (.iroute q sel m a d e ecc, 7, 4, 3, m.val, a.toNat, d.toNat + e.toNat * 65536), (.ccomp q sel m a d ecc, 8, 1, 3, m.val, a.toNat, d.toNat), (.cdec q sel m a d ecc, 8, 2, 3, m.val, a.toNat, d.toNat), (.rgen q sel m a r1 r2 dist r3 ecc, 9, 1, 3, m.val, a.toNat + r1.val * 65536 + r2.val * 2 ^ 21 + dist.val * 2 ^ 26, r3.val), (.rcfg q sel x ecc, 11, 0, 2, 0, x.toNat, 0), (.rred q sel m a d ecc, 11, 1, 2, m.val, a.toNat + d.toNat * 65536, 0), (.rbcast q sel m a d ecc, 11, 2, 2, m.val, a.toNat + d.toNat * 65536, 0), (.rcat q sel m a d ecc, 11, 3, 2, m.val, a.toNat + d.toNat * 65536, 0)] ∧ sl = { cls := cls, op := op, nw := nw, gmode := sel.gmode, gsel := sel.gsel, csel := sel.csel, mod := mod, w1 := w1, w2 := w2 } ∧ v.slotOk q (v.pcOf q) (v.seq q).after sl = true ∧ v.instances q sl = some [(u, k)] ∧ (v.engine q cls u k).readyAt ≤ v.stepOf q ∧ (v.engine q cls u k).waiting = [] ∧ engineTiming (v.engine q cls u k) sl = (lat, ii) ∧ (engineRun q cls u k (v.engine q cls u k) sl).run ({ st := v, ii := ii } : EngSt) = (.ok out, st)) ∧
    (∃ (s : State) (v : State) (q : Fin 4) (ecc : List MemUpset) (sel : Sel) (m : Fin 128) (a : BitVec 16) (b : BitVec 16) (d : BitVec 16) (e : BitVec 16) (x : W32) (y : W32) (r1 : Fin 32) (r2 : Fin 32) (r3 : Fin 32) (dist : Fin 4) (c : Instr) (cls : Nat) (op : Nat) (nw : Nat) (mod : Nat) (w1 : Nat) (w2 : Nat) (u : Nat) (k : Nat) (sl : Slot) (lat : Nat) (ii : Nat) (st : EngSt) (f : _), s.upset ecc = v ∧ v.running q = true ∧ (c, cls, op, nw, mod, w1, w2) ∈ [(Instr.mcfg q sel x y ecc, 1, 0, 3, 0, x.toNat, y.toNat), (.mms q sel a b ecc, 1, 1, 2, 0, a.toNat + b.toNat * 65536, 0), (.mmc q sel a b ecc, 1, 2, 2, 0, a.toNat + b.toNat * 65536, 0), (.mme q sel a b d ecc, 1, 3, 3, 0, a.toNat + b.toNat * 65536, d.toNat), (.mmse q sel a b d ecc, 1, 4, 3, 0, a.toNat + b.toNat * 65536, d.toNat), (.mmss q sel a b d ecc, 1, 5, 3, 0, a.toNat + b.toNat * 65536, d.toNat), (.vcfg q sel x ecc, 2, 0, 2, 0, x.toNat, 0), (.vadd q sel m a b d ecc, 2, 1, 3, m.val, a.toNat + b.toNat * 65536, d.toNat), (.vmul q sel m a b d ecc, 2, 2, 3, m.val, a.toNat + b.toNat * 65536, d.toNat), (.vfma q sel m a b d e ecc, 2, 3, 3, m.val, a.toNat + b.toNat * 65536, d.toNat + e.toNat * 65536), (.vmax q sel m a b d ecc, 2, 4, 3, m.val, a.toNat + b.toNat * 65536, d.toNat), (.vmin q sel m a b d ecc, 2, 5, 3, m.val, a.toNat + b.toNat * 65536, d.toNat), (.vscl q sel m a d r1 ecc, 2, 6, 3, m.val, a.toNat, d.toNat + r1.val * 65536), (.vred q sel m a d ecc, 2, 7, 3, m.val, a.toNat, d.toNat), (.vcvt q sel m a d ecc, 2, 8, 3, m.val, a.toNat, d.toNat), (.kcopy q sel m a d ecc, 3, 1, 3, m.val, a.toNat, d.toNat), (.ktrans q sel m a d e ecc, 3, 2, 3, m.val, a.toNat, d.toNat + e.toNat * 65536), (.kperm q sel m a b d e ecc, 3, 3, 3, m.val, a.toNat + b.toNat * 65536, d.toNat + e.toNat * 65536), (.kgath q sel m a b d e ecc, 3, 4, 3, m.val, a.toNat + b.toNat * 65536, d.toNat + e.toNat * 65536), (.kscat q sel m a b d e ecc, 3, 5, 3, m.val, a.toNat + b.toNat * 65536, d.toNat + e.toNat * 65536), (.fcfg q sel x y ecc, 4, 0, 3, 0, x.toNat, y.toNat), (.fcvt q sel m a b d e ecc, 4, 1, 3, m.val, a.toNat + b.toNat * 65536, d.toNat + e.toNat * 65536), (.fscale q sel m a b e ecc, 4, 2, 3, m.val, a.toNat + b.toNat * 65536, e.toNat * 65536), (.tcfg q sel x ecc, 5, 0, 2, 0, x.toNat, 0), (.texp q sel m a d ecc, 5, 1, 2, m.val, a.toNat + d.toNat * 65536, 0), (.tlog q sel m a d ecc, 5, 2, 2, m.val, a.toNat + d.toNat * 65536, 0), (.trcp q sel m a d ecc, 5, 3, 2, m.val, a.toNat + d.toNat * 65536, 0), (.trsq q sel m a d ecc, 5, 4, 2, m.val, a.toNat + d.toNat * 65536, 0), (.ttanh q sel m a d ecc, 5, 5, 2, m.val, a.toNat + d.toNat * 65536, 0), (.tsigm q sel m a d ecc, 5, 6, 2, m.val, a.toNat + d.toNat * 65536, 0), (.tsin q sel m a d ecc, 5, 7, 2, m.val, a.toNat + d.toNat * 65536, 0), (.tcos q sel m a d ecc, 5, 8, 2, m.val, a.toNat + d.toNat * 65536, 0), (.scfg q sel x ecc, 6, 0, 2, 0, x.toNat, 0), (.ssort q sel m a b d e ecc, 6, 1, 3, m.val, a.toNat + b.toNat * 65536, d.toNat + e.toNat * 65536), (.stopk q sel m a b d e ecc, 6, 2, 3, m.val, a.toNat + b.toNat * 65536, d.toNat + e.toNat * 65536), (.icfg q sel x ecc, 7, 0, 2, 0, x.toNat, 0), (.ihist q sel m a d ecc, 7, 1, 3, m.val, a.toNat, d.toNat), (.ipsum q sel m a d ecc, 7, 2, 3, m.val, a.toNat, d.toNat), (.icomp q sel m a b d e ecc, 7, 3, 3, m.val, a.toNat + b.toNat * 65536, d.toNat + e.toNat * 65536), (.iroute q sel m a d e ecc, 7, 4, 3, m.val, a.toNat, d.toNat + e.toNat * 65536), (.ccomp q sel m a d ecc, 8, 1, 3, m.val, a.toNat, d.toNat), (.cdec q sel m a d ecc, 8, 2, 3, m.val, a.toNat, d.toNat), (.rgen q sel m a r1 r2 dist r3 ecc, 9, 1, 3, m.val, a.toNat + r1.val * 65536 + r2.val * 2 ^ 21 + dist.val * 2 ^ 26, r3.val), (.rcfg q sel x ecc, 11, 0, 2, 0, x.toNat, 0), (.rred q sel m a d ecc, 11, 1, 2, m.val, a.toNat + d.toNat * 65536, 0), (.rbcast q sel m a d ecc, 11, 2, 2, m.val, a.toNat + d.toNat * 65536, 0), (.rcat q sel m a d ecc, 11, 3, 2, m.val, a.toNat + d.toNat * 65536, 0)] ∧ sl = { cls := cls, op := op, nw := nw, gmode := sel.gmode, gsel := sel.gsel, csel := sel.csel, mod := mod, w1 := w1, w2 := w2 } ∧ v.slotOk q (v.pcOf q) (v.seq q).after sl = true ∧ v.instances q sl = some [(u, k)] ∧ (v.engine q cls u k).readyAt ≤ v.stepOf q ∧ (v.engine q cls u k).waiting = [] ∧ engineTiming (v.engine q cls u k) sl = (lat, ii) ∧ (engineRun q cls u k (v.engine q cls u k) sl).run ({ st := v, ii := ii } : EngSt) = (.error f, st)) :=
  ⟨⟨runs 3, _, 3, [], ⟨0, 14, 15⟩, 127, 0, 0, 0, 0, 0, 0, 0, 0, 0, 0, .vadd 3 ⟨0, 14, 15⟩ 127 0 0 0 [], 2, 1, 3, 127, 0, 0, _, [(14, 15)], ⟨rfl, by decide +kernel, by decide, rfl, by decide +kernel⟩⟩,
   ⟨runs 3 (fun z => { z with engines := [(engKey 2 14 15, { readyAt := 1 })] }), _, 3, [], ⟨0, 14, 15⟩, 127, 0, 0, 0, 0, 0, 0, 0, 0, 0, 0, .vadd 3 ⟨0, 14, 15⟩ 127 0 0 0 [], 2, 1, 3, 127, 0, 0, 14, 15, _, ⟨rfl, by decide +kernel, by decide, rfl, by decide +kernel⟩⟩,
   ⟨runs 3, _, 3, [], ⟨0, 14, 0⟩, 0, 0, 0, 0, 0, 0xFFF, 0, 0, 0, 0, 0, .icfg 3 ⟨0, 14, 0⟩ 0xFFF [], 7, 0, 2, 0, 0xFFF, 0, 14, 0, _, 1, 1, _, _, ⟨rfl, by decide +kernel, by decide, rfl, by decide +kernel, by decide +kernel, by decide +kernel, by decide +kernel, by decide +kernel, rfl⟩⟩,
   ⟨runs 3, _, 3, [], ⟨0, 14, 0⟩, 0, 0x7FFF, 0, 0x4000, 0, 0, 0, 0, 0, 0, 0, .kcopy 3 ⟨0, 14, 0⟩ 0 0x7FFF 0x4000 [], 3, 1, 3, 0, 0x7FFF, 0x4000, 14, 0, _, 20, 8, _, _, ⟨rfl, by decide +kernel, by decide, rfl, by decide +kernel, by decide +kernel, by decide +kernel, by decide +kernel, by decide +kernel, rfl⟩⟩⟩

theorem witness_RoundingFollowsItsMode :
    (∃ (u : Nat) (N : Nat) (D : Nat), u < 2 ^ 16 ∧ 0 < D ∧ N % D = 0) ∧
    (∃ (u : Nat) (N : Nat) (D : Nat), u < 2 ^ 16 ∧ 0 < D ∧ 2 * (N % D) = D) :=
  ⟨⟨2 ^ 16 - 1, 6, 3, by decide +kernel⟩,
   ⟨2 ^ 16 - 1, 3, 2, by decide +kernel⟩⟩
theorem witness_ElementsRoundToThemselves :
    (∃ (f : Nat) (x : Nat) (u : Nat), f < 16 ∧ fmtReserved f = false ∧ x < 2 ^ elemBits f ∧ u < 2 ^ 16 ∧ (decodeElem f x).special = false ∧ (f = 0xD → x ≠ 0x80)) :=
  ⟨0xD, 0x81, 0, by decide +kernel⟩
theorem witness_CompressionIsInvertible :
    (∃ (t : Nat) (bs : List Byte) (t' : _), 1 ≤ t ∧ t ≤ 128 ∧ bs.length = 4096 * t ∧ 1 ≤ t' ∧ t' ≤ 128 ∧ t' ≠ t) :=
  ⟨128, List.replicate 524288 0, 127, ⟨by decide, by decide, by rw [List.length_replicate], by decide, by decide, by decide⟩⟩

theorem witness_StackCommandsTakeEffect :
    (∃ (v : State) (t : State) (r : LineAccess) (a : Nat) (bs : _), v.serveLine r a = t ∧ r.data = some bs) ∧
    (∃ (v : State) (t : State) (r : LineAccess) (a : Nat), v.serveLine r a = t ∧ r.data = none) ∧
    (∃ (s : State) (u : State) (v : State) (r : LineAccess) (ecc : List MemUpset) (bad : List Nat) (h : Nat) (o : Nat) (a : Nat) (n : Nat) (own : Bool), ((s.upset ecc).mismatches bad).releaseHeld = u ∧ v = { u with answer := .none } ∧ h = r.handle.toNat ∧ o = r.off / 64 * 64 ∧ v.slabDpa h o = some a ∧ v.handleOk r.user h o 64 r.data.isSome = true ∧ v.pcRetired a = false ∧ n = a / 0x1000000000 ∧ own = r.die.any (fun d => decide (n / 3 = d.val)) ∧ v.domOn (stackDomain n) = false) ∧
    (∃ (s : State) (u : State) (v : State) (r : LineAccess) (ecc : List MemUpset) (bad : List Nat) (h : Nat) (o : Nat) (a : Nat) (n : Nat) (own : Bool), ((s.upset ecc).mismatches bad).releaseHeld = u ∧ v = { u with answer := .none } ∧ h = r.handle.toNat ∧ o = r.off / 64 * 64 ∧ v.slabDpa h o = some a ∧ v.handleOk r.user h o 64 r.data.isSome = true ∧ v.pcRetired a = false ∧ n = a / 0x1000000000 ∧ own = r.die.any (fun d => decide (n / 3 = d.val)) ∧ v.domOn (stackDomain n) = true ∧ v.rdF (Reg.hubSlab (v.slabOf h r.off).1) 21 20 = 2) ∧
    (∃ (s : State) (u : State) (v : State) (r : LineAccess) (ecc : List MemUpset) (bad : List Nat) (h : Nat) (o : Nat) (a : Nat) (n : Nat) (own : Bool), ((s.upset ecc).mismatches bad).releaseHeld = u ∧ v = { u with answer := .none } ∧ h = r.handle.toNat ∧ o = r.off / 64 * 64 ∧ v.slabDpa h o = some a ∧ v.handleOk r.user h o 64 r.data.isSome = true ∧ v.pcRetired a = false ∧ n = a / 0x1000000000 ∧ own = r.die.any (fun d => decide (n / 3 = d.val)) ∧ v.domOn (stackDomain n) = true ∧ v.rdF (Reg.hubSlab (v.slabOf h r.off).1) 21 20 ≠ 2 ∧ (v.stackServes n = false ∨ trackerEntry (v.stackSide.tracked.get n) own = none)) ∧
    (∃ (s : State) (u : State) (v : State) (r : LineAccess) (ecc : List MemUpset) (bad : List Nat) (h : Nat) (o : Nat) (a : Nat) (n : Nat) (own : Bool) (sh : Bool) (e : Tracked), ((s.upset ecc).mismatches bad).releaseHeld = u ∧ v = { u with answer := .none } ∧ h = r.handle.toNat ∧ o = r.off / 64 * 64 ∧ v.slabDpa h o = some a ∧ v.handleOk r.user h o 64 r.data.isSome = true ∧ v.pcRetired a = false ∧ n = a / 0x1000000000 ∧ own = r.die.any (fun d => decide (n / 3 = d.val)) ∧ v.domOn (stackDomain n) = true ∧ v.rdF (Reg.hubSlab (v.slabOf h r.off).1) 21 20 ≠ 2 ∧ v.stackServes n = true ∧ trackerEntry (v.stackSide.tracked.get n) own = some sh ∧ e = { own := own, shared := sh, handle := h, frame := frameOfDpa a }) ∧
    (∃ (s : State) (u : State) (v : State) (r : LineAccess) (ecc : List MemUpset) (bad : List Nat) (h : Nat) (o : Nat), ((s.upset ecc).mismatches bad).releaseHeld = u ∧ v = { u with answer := .none } ∧ h = r.handle.toNat ∧ o = r.off / 64 * 64 ∧ (v.slabDpa h o = none ∨ v.handleOk r.user h o 64 r.data.isSome = false ∨ (∃ a, v.slabDpa h o = some a ∧ v.pcRetired a = true))) ∧
    (∃ (s : State) (n : Fin 12) (i : Nat), i < (s.stackSide.tracked.get n).length) ∧
    (∃ (s : State) (x : BitVec 16) (j : Fin 4) (v : W64), s.csrPath .sch (descWord x.toNat j.val) 8 = .served ∧ s.descWriteOk x.toNat j.val (v &&& descMask j.val) = true) ∧
    (∃ (s : State) (x : BitVec 16) (j : Fin 4) (v : W64) (ag : Agent), s.csrPath ag (descWord x.toNat j.val) 8 = .served ∧ (ag ≠ .sch ∨ s.descWriteOk x.toNat j.val (v &&& descMask j.val) = false)) ∧
    (∃ (s : State) (x : BitVec 16) (j : Fin 4) (ag : Agent), s.csrPath ag (descWord x.toNat j.val) 8 = .silent) ∧
    (∃ (s : State) (u : State) (x : BitVec 16), s.stackSide.dying.contains x.toNat = true ∧ (∀ n, n < 12 → ∀ t ∈ s.stackSide.tracked.get n, handleIndex t.handle ≠ x.toNat) ∧ u = s.abortMigrations (fun g => g.moves.any (fun m => (s.slabsOf x.toNat).contains m.slab))) ∧
    (∃ (s : State) (n : Fin 12) (f : BitVec 15), s.stackSide.frames.get (frameNo n.val f.toNat) = .clearing) ∧
    (∃ (s : State) (n : Fin 12) (p : Fin 64), s.rdF (Reg.stkPcState n p) 1 0 = 1 ∧ (s.heldFrames (frameNo n.val (512 * p.val)) (frameNo n.val (512 * p.val) + 512) (fun x => decide (x = .resident ∨ x = .system ∨ x = .copyingTo)) = 0)) ∧
    (∃ (s : State) (n : Fin 12) (p : Fin 64) (left : List Stranded), left = (s.stackSide.stranded.get (64 * n.val + p.val)).filter (fun t => s.rdB (Reg.hubDescW0 (handleIndex t.handle)) 0 && s.rdF (Reg.hubDescW0 (handleIndex t.handle)) 11 4 == handleGen t.handle && !t.rewritten)) :=
  ⟨⟨handled, _, ⟨.engine 0, 0x10005, 0, some 3, some []⟩, 0, [], ⟨rfl, rfl⟩⟩,
   ⟨handled, _, ⟨.engine 0, 0x10005, 0, some 3, none⟩, 0, ⟨rfl, rfl⟩⟩,
   ⟨handled.wr Reg.pmcDomState 0, _, _, ⟨.engine 0, 0x10005, 0x1FFFC0, some 3, none⟩, [], [], _, _, 11 * 0x1000000000 + 32767 * 0x200000 + 0x1FFFC0, 11, true, ⟨rfl, rfl, rfl, rfl, by decide +kernel⟩⟩,
   ⟨handled.wrF (Reg.hubSlab 7) 21 20 2, _, _, ⟨.engine 0, 0x10005, 0x1FFFC0, some 3, none⟩, [], [], _, _, 11 * 0x1000000000 + 32767 * 0x200000 + 0x1FFFC0, 11, true, ⟨rfl, rfl, rfl, rfl, by decide +kernel⟩⟩,
   ⟨handled.wr (Reg.stkStatus 11) 4, _, _, ⟨.engine 0, 0x10005, 0x1FFFC0, some 3, none⟩, [], [], _, _, 11 * 0x1000000000 + 32767 * 0x200000 + 0x1FFFC0, 11, true, ⟨rfl, rfl, rfl, rfl, by decide +kernel⟩⟩,
   ⟨handled, _, _, ⟨.engine 0, 0x10005, 0x1FFFC0, some 3, none⟩, [], [], _, _, 11 * 0x1000000000 + 32767 * 0x200000 + 0x1FFFC0, 11, true, false, _, ⟨rfl, rfl, rfl, rfl, by decide +kernel, by decide +kernel, by decide +kernel, by decide, by decide, by decide +kernel, by decide +kernel, by decide +kernel, by decide +kernel, rfl⟩⟩,
   ⟨handled, _, _, ⟨.host 1, 0x10005, 0, none, none⟩, [], [], _, _, ⟨rfl, rfl, rfl, rfl, .inr (.inl (by decide +kernel))⟩⟩,
   ⟨{ allOn with stackSide := { tracked := [(11, [⟨true, false, 0x10005, 0⟩])] } }, 11, 0, by decide +kernel⟩,
   ⟨handled, 5, 3, 5, by decide +kernel⟩,
   ⟨handled, 5, 2, 5, .sch, by decide +kernel⟩,
   ⟨({} : State).wr Reg.pmcDomState 0, 5, 2, .sch, by decide +kernel⟩,
   ⟨{ allOn with stackSide := { dying := [65535] } }, _, 65535, ⟨by decide +kernel, by decide +kernel, rfl⟩⟩,
   ⟨{ allOn with stackSide := { frames := [(11 * 32768 + 32767, .clearing)] } }, 11, 32767, by decide +kernel⟩,
   ⟨{ allOn.wr (Reg.stkPcState 11 63) 1 with stackSide := { frames := [(11 * 32768 + 32767, .clearing)] } }, 11, 63, by decide +kernel⟩,
   ⟨allOn, 11, 63, _, rfl⟩⟩
theorem witness_HeatAndMigrationsTakeEffect :
    (∃ (s : State) (u : State) (y : BitVec 19) (picks : List Nat) (x : Nat) (k : Nat) (n : Nat) (m : Nat) (mv : List SlabMove) (drain : Bool) (cand : Option Candidate), s.slabOwner y.toNat = some (x, k) ∧ n = s.slabFrame y.toNat / 32768 ∧ s.drains y.toNat = drain ∧ s.stackSide.candidates.find? (fun c => c.slab = y.toNat) = cand ∧ (s.groupSlabs x k).all (fun z => s.rdB (Reg.hubSlab z) 0 && s.rdF (Reg.hubSlab z) 21 20 == 0) = true ∧ (drain || (cand.isSome && s.rdB Reg.hubPlaceCtrl 0 && !(s.groupOf x).any (fun z => s.rdB (Reg.hubDescW0 z) 17) && !s.drainFirst n (s.groupOf x).length)) = true ∧ s.slotsOpen n (s.groupOf x).length = true ∧ ((s.groupOf x).any (fun z => s.rdB (Reg.hubDescW3 z) 32) && s.baseRuns n (s.descPart x)) = false ∧ s.migStack x k n drain cand = some m ∧ s.planMoves k m (!drain && decide (cand = some { slab := y.toNat, die := none })) (s.groupOf x) picks [] = some (u, mv)) ∧
    (∃ (s : State) (u : State) (v : State) (y : BitVec 19) (late : List Nat) (ecc : List MemUpset) (g : Migration) (mv : List SlabMove) (sw : Bool) (w : State), s.upset ecc = u ∧ u.stackSide.migs.find? (fun g => !g.switching && g.moves.any (fun m => m.slab == y.toNat)) = some g ∧ mv = g.moves.map (fun m => { m with todo := m.written.filter (fun t => !m.todo.contains t || late.contains (m.slab * 512 + t)), written := [] }) ∧ sw = (mv.all (fun m => decide (m.todo.length ≤ 16)) || decide (4 ≤ g.pass)) ∧ u.copyTiles g SlabMove.todo = (v, none) ∧ w = v.updStacks (fun k => { k with migs := k.migs.map (fun m => if m = g then { g with moves := mv, pass := g.pass + 1, switching := sw } else m) })) ∧
    (∃ (s : State) (u : State) (v : State) (y : BitVec 19) (ecc : List MemUpset) (g : Migration), s.upset ecc = u ∧ u.stackSide.migs.find? (fun g => g.switching && g.moves.any (fun m => m.slab == y.toNat)) = some g ∧ (List.range 12).any (fun n => (u.stackSide.tracked.get n).any (fun t => g.moves.any (fun m => m.src == t.frame))) = false ∧ u.copyTiles g (fun m => m.todo ++ m.written.filter (fun t => !m.todo.contains t)) = (v, none)) :=
  ⟨⟨{ handled.wr Reg.hubPlaceCtrl 1 with stackSide := { frames := [(11 * 32768 + 32767, .resident)], candidates := [⟨7, some 3⟩] } }, _, 7, [5], 5, 0, 11, 9, _, false, _, by refine ⟨?_, ?_, ?_, rfl, ?_, ?_, ?_, ?_, ?_, rfl⟩ <;> decide +kernel⟩,
   ⟨{ allOn with stackSide := { migs := [{ moves := [{ slab := 7, handle := 0x10005, src := 0, dst := 1, written := [511], todo := [] }], drain := false, pass := 3 }] } }, _, _, 7, [4095], [], _, _, _, _, ⟨rfl, rfl, rfl, rfl, rfl, rfl⟩⟩,
   ⟨{ allOn with stackSide := { migs := [{ moves := [{ slab := 7, handle := 0x10005, src := 0, dst := 1, todo := [] }], drain := false, switching := true }] } }, _, _, 7, [], _, ⟨rfl, rfl, by decide +kernel, rfl⟩⟩⟩

theorem witness_BaseInstructionsRunTheirWorkItem :
    (∃ (s : State) (v : State) (n : Fin 12) (u : Fin 128) (ecc : List MemUpset) (w : WorkItem) (r : BaseRun) (w0 : Nat) (w1 : Nat) (c : Instr) (op : Nat), s.upset ecc = v ∧ v.unitItem n u = some w ∧ (v.bases.get n).run = some r ∧ v.callProgram n r.call.entry < 0x4000 ∧ v.codeWord n w.pc = w0 ∧ v.codeWord n (w.pc + 1) = w1 ∧ (op, c) ∈ [(0x1, Instr.baseVadd n u ecc), (0x2, .baseVsub n u ecc), (0x3, .baseVmul n u ecc), (0x4, .baseVfma n u ecc), (0x5, .baseVmax n u ecc), (0x6, .baseVmin n u ecc), (0x7, .vdiv n u ecc), (0x8, .vsqrt n u ecc), (0x9, .vabs n u ecc), (0xa, .vsel n u ecc), (0xb, .vcmplt n u ecc), (0xc, .vcmple n u ecc), (0xd, .vcmpeq n u ecc), (0xe, .vsum n u ecc), (0x10, .viadd n u ecc), (0x11, .visub n u ecc), (0x12, .vimul n u ecc), (0x13, .viand n u ecc), (0x14, .vior n u ecc), (0x15, .vixor n u ecc), (0x16, .vishl n u ecc), (0x17, .vishr n u ecc), (0x18, .vcvtfi n u ecc), (0x19, .vcvtif n u ecc), (0x1a, .vidx n u ecc), (0x20, .vbcx n u ecc), (0x21, .vbci n u ecc), (0x22, .vbcc n u ecc), (0x30, .vld n u ecc), (0x31, .vst n u ecc), (0x40, .xadd n u ecc), (0x41, .xsub n u ecc), (0x42, .xmul n u ecc), (0x43, .xand n u ecc), (0x44, .baseXor n u ecc), (0x45, .xshl n u ecc), (0x46, .xshr n u ecc), (0x47, .xaddi n u ecc), (0x48, .xli n u ecc), (0x50, .baseJmp n u ecc), (0x51, .baseBeq n u ecc), (0x52, .baseBne n u ecc), (0x53, .baseBlt n u ecc), (0x54, .baseBge n u ecc)] ∧ baseLegal w0 = false) ∧
    (∃ (s : State) (v : State) (n : Fin 12) (u : Fin 128) (ecc : List MemUpset) (w : WorkItem) (r : BaseRun) (w0 : Nat) (w1 : Nat) (c : Instr) (op : Nat), s.upset ecc = v ∧ v.unitItem n u = some w ∧ (v.bases.get n).run = some r ∧ v.callProgram n r.call.entry < 0x4000 ∧ v.codeWord n w.pc = w0 ∧ v.codeWord n (w.pc + 1) = w1 ∧ (op, c) ∈ [(0x1, Instr.baseVadd n u ecc), (0x2, .baseVsub n u ecc), (0x3, .baseVmul n u ecc), (0x4, .baseVfma n u ecc), (0x5, .baseVmax n u ecc), (0x6, .baseVmin n u ecc), (0x7, .vdiv n u ecc), (0x8, .vsqrt n u ecc), (0x9, .vabs n u ecc), (0xa, .vsel n u ecc), (0xb, .vcmplt n u ecc), (0xc, .vcmple n u ecc), (0xd, .vcmpeq n u ecc), (0xe, .vsum n u ecc), (0x10, .viadd n u ecc), (0x11, .visub n u ecc), (0x12, .vimul n u ecc), (0x13, .viand n u ecc), (0x14, .vior n u ecc), (0x15, .vixor n u ecc), (0x16, .vishl n u ecc), (0x17, .vishr n u ecc), (0x18, .vcvtfi n u ecc), (0x19, .vcvtif n u ecc), (0x1a, .vidx n u ecc), (0x20, .vbcx n u ecc), (0x21, .vbci n u ecc), (0x22, .vbcc n u ecc), (0x30, .vld n u ecc), (0x31, .vst n u ecc), (0x40, .xadd n u ecc), (0x41, .xsub n u ecc), (0x42, .xmul n u ecc), (0x43, .xand n u ecc), (0x44, .baseXor n u ecc), (0x45, .xshl n u ecc), (0x46, .xshr n u ecc), (0x47, .xaddi n u ecc), (0x48, .xli n u ecc), (0x50, .baseJmp n u ecc), (0x51, .baseBeq n u ecc), (0x52, .baseBne n u ecc), (0x53, .baseBlt n u ecc), (0x54, .baseBge n u ecc)] ∧ baseLegal w0 = true ∧ bwOp w0 ≠ op) ∧
    (∃ (s : State) (v : State) (n : Fin 12) (u : Fin 128) (ecc : List MemUpset) (w : WorkItem) (r : BaseRun) (w0 : Nat) (w1 : Nat) (c : Instr) (op : Nat), s.upset ecc = v ∧ v.unitItem n u = some w ∧ (v.bases.get n).run = some r ∧ v.callProgram n r.call.entry < 0x4000 ∧ v.codeWord n w.pc = w0 ∧ v.codeWord n (w.pc + 1) = w1 ∧ (op, c) ∈ [(0x1, Instr.baseVadd n u ecc), (0x2, .baseVsub n u ecc), (0x3, .baseVmul n u ecc), (0x4, .baseVfma n u ecc), (0x5, .baseVmax n u ecc), (0x6, .baseVmin n u ecc), (0x7, .vdiv n u ecc), (0x8, .vsqrt n u ecc), (0x9, .vabs n u ecc), (0xa, .vsel n u ecc), (0xb, .vcmplt n u ecc), (0xc, .vcmple n u ecc), (0xd, .vcmpeq n u ecc), (0xe, .vsum n u ecc), (0x10, .viadd n u ecc), (0x11, .visub n u ecc), (0x12, .vimul n u ecc), (0x13, .viand n u ecc), (0x14, .vior n u ecc), (0x15, .vixor n u ecc), (0x16, .vishl n u ecc), (0x17, .vishr n u ecc), (0x18, .vcvtfi n u ecc), (0x19, .vcvtif n u ecc), (0x1a, .vidx n u ecc), (0x20, .vbcx n u ecc), (0x21, .vbci n u ecc), (0x22, .vbcc n u ecc), (0x30, .vld n u ecc), (0x31, .vst n u ecc), (0x40, .xadd n u ecc), (0x41, .xsub n u ecc), (0x42, .xmul n u ecc), (0x43, .xand n u ecc), (0x44, .baseXor n u ecc), (0x45, .xshl n u ecc), (0x46, .xshr n u ecc), (0x47, .xaddi n u ecc), (0x48, .xli n u ecc), (0x50, .baseJmp n u ecc), (0x51, .baseBeq n u ecc), (0x52, .baseBne n u ecc), (0x53, .baseBlt n u ecc), (0x54, .baseBge n u ecc)] ∧ baseLegal w0 = true ∧ bwOp w0 = op ∧ 1048576 ≤ w.executed) ∧
    (∃ (s : State) (v : State) (n : Fin 12) (u : Fin 128) (ecc : List MemUpset) (w : WorkItem) (r : BaseRun) (w0 : Nat) (w1 : Nat) (c : Instr) (op : Nat) (b : BaseSt), s.upset ecc = v ∧ v.unitItem n u = some w ∧ (v.bases.get n).run = some r ∧ v.callProgram n r.call.entry < 0x4000 ∧ v.codeWord n w.pc = w0 ∧ v.codeWord n (w.pc + 1) = w1 ∧ (op, c) ∈ [(0x1, Instr.baseVadd n u ecc), (0x2, .baseVsub n u ecc), (0x3, .baseVmul n u ecc), (0x4, .baseVfma n u ecc), (0x5, .baseVmax n u ecc), (0x6, .baseVmin n u ecc), (0x7, .vdiv n u ecc), (0x8, .vsqrt n u ecc), (0x9, .vabs n u ecc), (0xa, .vsel n u ecc), (0xb, .vcmplt n u ecc), (0xc, .vcmple n u ecc), (0xd, .vcmpeq n u ecc), (0xe, .vsum n u ecc), (0x10, .viadd n u ecc), (0x11, .visub n u ecc), (0x12, .vimul n u ecc), (0x13, .viand n u ecc), (0x14, .vior n u ecc), (0x15, .vixor n u ecc), (0x16, .vishl n u ecc), (0x17, .vishr n u ecc), (0x18, .vcvtfi n u ecc), (0x19, .vcvtif n u ecc), (0x1a, .vidx n u ecc), (0x20, .vbcx n u ecc), (0x21, .vbci n u ecc), (0x22, .vbcc n u ecc), (0x30, .vld n u ecc), (0x31, .vst n u ecc), (0x40, .xadd n u ecc), (0x41, .xsub n u ecc), (0x42, .xmul n u ecc), (0x43, .xand n u ecc), (0x44, .baseXor n u ecc), (0x45, .xshl n u ecc), (0x46, .xshr n u ecc), (0x47, .xaddi n u ecc), (0x48, .xli n u ecc), (0x50, .baseJmp n u ecc), (0x51, .baseBeq n u ecc), (0x52, .baseBne n u ecc), (0x53, .baseBlt n u ecc), (0x54, .baseBge n u ecc)] ∧ baseLegal w0 = true ∧ bwOp w0 = op ∧ w.executed < 1048576 ∧ (BaseM.instr w0 w1).run.run { st := v, n := n, call := r.call, item := w } = (.ok (), b)) ∧
    (∃ (s : State) (v : State) (n : Fin 12) (u : Fin 128) (ecc : List MemUpset) (w : WorkItem) (r : BaseRun) (w0 : Nat) (w1 : Nat) (c : Instr) (op : Nat) (b : BaseSt) (f : BaseFault), s.upset ecc = v ∧ v.unitItem n u = some w ∧ (v.bases.get n).run = some r ∧ v.callProgram n r.call.entry < 0x4000 ∧ v.codeWord n w.pc = w0 ∧ v.codeWord n (w.pc + 1) = w1 ∧ (op, c) ∈ [(0x1, Instr.baseVadd n u ecc), (0x2, .baseVsub n u ecc), (0x3, .baseVmul n u ecc), (0x4, .baseVfma n u ecc), (0x5, .baseVmax n u ecc), (0x6, .baseVmin n u ecc), (0x7, .vdiv n u ecc), (0x8, .vsqrt n u ecc), (0x9, .vabs n u ecc), (0xa, .vsel n u ecc), (0xb, .vcmplt n u ecc), (0xc, .vcmple n u ecc), (0xd, .vcmpeq n u ecc), (0xe, .vsum n u ecc), (0x10, .viadd n u ecc), (0x11, .visub n u ecc), (0x12, .vimul n u ecc), (0x13, .viand n u ecc), (0x14, .vior n u ecc), (0x15, .vixor n u ecc), (0x16, .vishl n u ecc), (0x17, .vishr n u ecc), (0x18, .vcvtfi n u ecc), (0x19, .vcvtif n u ecc), (0x1a, .vidx n u ecc), (0x20, .vbcx n u ecc), (0x21, .vbci n u ecc), (0x22, .vbcc n u ecc), (0x30, .vld n u ecc), (0x31, .vst n u ecc), (0x40, .xadd n u ecc), (0x41, .xsub n u ecc), (0x42, .xmul n u ecc), (0x43, .xand n u ecc), (0x44, .baseXor n u ecc), (0x45, .xshl n u ecc), (0x46, .xshr n u ecc), (0x47, .xaddi n u ecc), (0x48, .xli n u ecc), (0x50, .baseJmp n u ecc), (0x51, .baseBeq n u ecc), (0x52, .baseBne n u ecc), (0x53, .baseBlt n u ecc), (0x54, .baseBge n u ecc)] ∧ baseLegal w0 = true ∧ bwOp w0 = op ∧ w.executed < 1048576 ∧ (BaseM.instr w0 w1).run.run { st := v, n := n, call := r.call, item := w } = (.error f, b)) ∧
    (∃ (s : State) (v : State) (n : Fin 12) (u : Fin 128) (ecc : List MemUpset) (w : WorkItem) (r : BaseRun), s.upset ecc = v ∧ v.unitItem n u = some w ∧ (v.bases.get n).run = some r ∧ v.callProgram n r.call.entry < 0x4000 ∧ baseLegal (v.codeWord n w.pc) = true ∧ bwOp (v.codeWord n w.pc) = 0x5F ∧ w.executed < 1048576) ∧
    (∃ (s : State) (v : State) (n : Fin 12) (u : Fin 128) (ecc : List MemUpset) (w : WorkItem) (r : BaseRun) (prog : Nat) (c : Instr) (m : BaseM Unit) (b : BaseSt), s.upset ecc = v ∧ v.unitItem n u = some w ∧ (v.bases.get n).run = some r ∧ (prog, c, m) ∈ [(0x8000, Instr.badamw n u ecc, BaseM.groups BaseM.adamw), (0x8001, .bcvt n u ecc, BaseM.groups BaseM.bcvt), (0x8002, .bgath n u ecc, BaseM.rows false), (0x8003, .bscat n u ecc, BaseM.rows true), (0x8004, .bred n u ecc, BaseM.groups BaseM.bred), (0x8005, .bsqn n u ecc, BaseM.bsqn), (0x8006, .bchk n u ecc, BaseM.bchk)] ∧ v.callProgram n r.call.entry = prog ∧ (prog = 0x8003 → ∀ x, x < 128 → ∀ o, v.unitItem n x = some o → w.tile ≤ o.tile) ∧ m.run.run { st := v, n := n, call := r.call, item := w } = (.ok (), b)) ∧
    (∃ (s : State) (v : State) (n : Fin 12) (u : Fin 128) (ecc : List MemUpset) (w : WorkItem) (r : BaseRun) (prog : Nat) (c : Instr) (m : BaseM Unit) (b : BaseSt) (f : BaseFault), s.upset ecc = v ∧ v.unitItem n u = some w ∧ (v.bases.get n).run = some r ∧ (prog, c, m) ∈ [(0x8000, Instr.badamw n u ecc, BaseM.groups BaseM.adamw), (0x8001, .bcvt n u ecc, BaseM.groups BaseM.bcvt), (0x8002, .bgath n u ecc, BaseM.rows false), (0x8003, .bscat n u ecc, BaseM.rows true), (0x8004, .bred n u ecc, BaseM.groups BaseM.bred), (0x8005, .bsqn n u ecc, BaseM.bsqn), (0x8006, .bchk n u ecc, BaseM.bchk)] ∧ v.callProgram n r.call.entry = prog ∧ (prog = 0x8003 → ∀ x, x < 128 → ∀ o, v.unitItem n x = some o → w.tile ≤ o.tile) ∧ m.run.run { st := v, n := n, call := r.call, item := w } = (.error f, b)) ∧
    (∃ (s : State) (v : State) (n : Fin 12) (u : Fin 128) (ecc : List MemUpset) (w : WorkItem) (r : BaseRun) (t : State), s.upset ecc = v ∧ v.unitItem n u = some w ∧ (v.bases.get n).run = some r ∧ t.unitItem n u = some w ∧ 1048576 ≤ w.executed) :=
  ⟨⟨baseOn 0xFF000000 0, _, 11, 127, [], _, _, _, _, .xli 11 127 [], 0x48, ⟨rfl, rfl, rfl, by decide +kernel, rfl, rfl, by simp, by decide +kernel⟩⟩,
   ⟨baseOn 0x48080000 7, _, 11, 127, [], _, _, _, _, .baseVadd 11 127 [], 1, ⟨rfl, rfl, rfl, by decide +kernel, rfl, rfl, by simp, by decide +kernel⟩⟩,
   ⟨baseOn 0x48080000 7 { tile := 0, executed := 1048576 }, _, 11, 127, [], _, _, _, _, .xli 11 127 [], 0x48, ⟨rfl, rfl, rfl, by decide +kernel, rfl, rfl, by simp, by decide +kernel⟩⟩,
   ⟨baseOn 0x48080000 7, _, 11, 127, [], _, _, _, _, .xli 11 127 [], 0x48, _, ⟨rfl, rfl, rfl, by decide +kernel, rfl, rfl, by simp, by decide +kernel, by decide +kernel, by decide +kernel, rfl⟩⟩,
   ⟨baseOn 0x30000000 0, _, 11, 127, [], _, _, _, _, .vld 11 127 [], 0x30, _, _, ⟨rfl, rfl, rfl, by decide +kernel, rfl, rfl, by simp, by decide +kernel, by decide +kernel, by decide +kernel, rfl⟩⟩,
   ⟨baseOn 0x5F000000 0, _, 11, 127, [], _, _, ⟨rfl, rfl, rfl, by decide +kernel⟩⟩,
   ⟨baseOn 0 0 { tile := 0 } 0x8006, _, 11, 127, [], _, _, 0x8006, .bchk 11 127 [], BaseM.bchk, _, ⟨rfl, rfl, rfl, by simp, by decide +kernel, by simp, rfl⟩⟩,
   ⟨baseOn 0 0 { tile := 0 } 0x8001, _, 11, 127, [], _, _, 0x8001, .bcvt 11 127 [], BaseM.groups BaseM.bcvt, _, _, ⟨rfl, rfl, rfl, by simp, by decide +kernel, by simp, rfl⟩⟩,
   ⟨baseOn 0 0 { tile := 0, executed := 1048576 }, _, 11, 127, [], _, _, baseOn 0 0 { tile := 0, executed := 1048576 }, ⟨rfl, rfl, rfl, rfl, by decide +kernel⟩⟩⟩

theorem witness_BaseValuesAreWritten :
    (∃ (s : State) (v : State) (n : Fin 12) (u : Fin 128) (ecc : List MemUpset) (w : WorkItem) (r : BaseRun) (w0 : Nat) (w1 : Nat) (d : Nat) (ra : Nat) (rb : Nat) (a : W64) (b : W64) (imm : W64) (fa : Nat → Nat) (fb : Nat → Nat) (done : WorkItem → Nat → State) (op : Nat) (k : Nat) (c : Instr) (x : W64), s.upset ecc = v ∧ v.unitItem n u = some w ∧ (v.bases.get n).run = some r ∧ v.callProgram n r.call.entry < 0x4000 ∧ v.codeWord n w.pc = w0 ∧ v.codeWord n (w.pc + 1) = w1 ∧ baseLegal w0 = true ∧ w.executed < 1048576 ∧ d = natFld w0 19 5 ∧ ra = natFld w0 14 5 ∧ rb = natFld w0 9 5 ∧ a = w.x ra ∧ b = w.x rb ∧ imm = BitVec.ofInt 64 (toSigned 32 w1) ∧ (∀ l, fa l = (w.vregs.get (32 * ra + l)).toNat) ∧ (∀ l, fb l = (w.vregs.get (32 * rb + l)).toNat) ∧ (∀ i pc, done i pc = v.updBase n (fun z => { z with units := z.units.set u (some { i with pc := pc, executed := w.executed + 1 }) })) ∧ (op, k, c, x) ∈ [(0x40, 1, Instr.xadd n u ecc, a + b), (0x41, 1, .xsub n u ecc, a - b), (0x42, 1, .xmul n u ecc, a * b), (0x43, 1, .xand n u ecc, a &&& b), (0x44, 1, .baseXor n u ecc, a ||| b), (0x45, 1, .xshl n u ecc, a <<< (b.toNat % 64)), (0x46, 1, .xshr n u ecc, a >>> (b.toNat % 64)), (0x47, 2, .xaddi n u ecc, a + imm), (0x48, 2, .xli n u ecc, imm)] ∧ natFld w0 24 8 = op) ∧
    (∃ (s : State) (v : State) (n : Fin 12) (u : Fin 128) (ecc : List MemUpset) (w : WorkItem) (r : BaseRun) (w0 : Nat) (w1 : Nat) (d : Nat) (ra : Nat) (rb : Nat) (a : W64) (b : W64) (imm : W64) (fa : Nat → Nat) (fb : Nat → Nat) (done : WorkItem → Nat → State) (op : Nat) (c : Instr) (taken : Bool) (t : Nat), s.upset ecc = v ∧ v.unitItem n u = some w ∧ (v.bases.get n).run = some r ∧ v.callProgram n r.call.entry < 0x4000 ∧ v.codeWord n w.pc = w0 ∧ v.codeWord n (w.pc + 1) = w1 ∧ baseLegal w0 = true ∧ w.executed < 1048576 ∧ d = natFld w0 19 5 ∧ ra = natFld w0 14 5 ∧ rb = natFld w0 9 5 ∧ a = w.x ra ∧ b = w.x rb ∧ imm = BitVec.ofInt 64 (toSigned 32 w1) ∧ (∀ l, fa l = (w.vregs.get (32 * ra + l)).toNat) ∧ (∀ l, fb l = (w.vregs.get (32 * rb + l)).toNat) ∧ (∀ i pc, done i pc = v.updBase n (fun z => { z with units := z.units.set u (some { i with pc := pc, executed := w.executed + 1 }) })) ∧ (op, c, taken) ∈ [(0x50, Instr.baseJmp n u ecc, true), (0x51, .baseBeq n u ecc, decide (a = b)), (0x52, .baseBne n u ecc, decide (a ≠ b)), (0x53, .baseBlt n u ecc, decide (a.toInt < b.toInt)), (0x54, .baseBge n u ecc, decide (b.toInt ≤ a.toInt))] ∧ natFld w0 24 8 = op ∧ (t : Int) = (w.pc : Int) + toSigned 32 w1) ∧
    (∃ (s : State) (v : State) (n : Fin 12) (u : Fin 128) (ecc : List MemUpset) (w : WorkItem) (r : BaseRun) (w0 : Nat) (w1 : Nat) (d : Nat) (ra : Nat) (rb : Nat) (a : W64) (b : W64) (imm : W64) (fa : Nat → Nat) (fb : Nat → Nat) (done : WorkItem → Nat → State) (op : Nat) (k : Nat) (c : Instr) (f : Nat → Nat), s.upset ecc = v ∧ v.unitItem n u = some w ∧ (v.bases.get n).run = some r ∧ v.callProgram n r.call.entry < 0x4000 ∧ v.codeWord n w.pc = w0 ∧ v.codeWord n (w.pc + 1) = w1 ∧ baseLegal w0 = true ∧ w.executed < 1048576 ∧ d = natFld w0 19 5 ∧ ra = natFld w0 14 5 ∧ rb = natFld w0 9 5 ∧ a = w.x ra ∧ b = w.x rb ∧ imm = BitVec.ofInt 64 (toSigned 32 w1) ∧ (∀ l, fa l = (w.vregs.get (32 * ra + l)).toNat) ∧ (∀ l, fb l = (w.vregs.get (32 * rb + l)).toNat) ∧ (∀ i pc, done i pc = v.updBase n (fun z => { z with units := z.units.set u (some { i with pc := pc, executed := w.executed + 1 }) })) ∧ (op, k, c, f) ∈ [(0x09, 1, Instr.vabs n u ecc, fun l => fa l % 2 ^ 31), (0x10, 1, .viadd n u ecc, fun l => fa l + fb l), (0x11, 1, .visub n u ecc, fun l => fa l + (2 ^ 32 - fb l)), (0x12, 1, .vimul n u ecc, fun l => fa l * fb l), (0x13, 1, .viand n u ecc, fun l => fa l &&& fb l), (0x14, 1, .vior n u ecc, fun l => fa l ||| fb l), (0x15, 1, .vixor n u ecc, fun l => fa l ^^^ fb l), (0x16, 1, .vishl n u ecc, fun l => fa l <<< (fb l % 32)), (0x17, 1, .vishr n u ecc, fun l => fa l >>> (fb l % 32)), (0x19, 1, .vcvtif n u ecc, fun l => (toF32 .rne (decodeElem 6 (fa l))).1), (0x1A, 1, .vidx n u ecc, fun l => a.toNat + l), (0x20, 1, .vbcx n u ecc, fun _ => a.toNat), (0x21, 2, .vbci n u ecc, fun _ => w1), (0x22, 1, .vbcc n u ecc, fun _ => v.callConst n r.call.entry ra)] ∧ natFld w0 24 8 = op) ∧
    (∃ (s : State) (v : State) (n : Fin 12) (u : Fin 128) (ecc : List MemUpset) (w : WorkItem) (r : BaseRun) (w0 : Nat) (w1 : Nat) (d : Nat) (ra : Nat) (rb : Nat) (a : W64) (b : W64) (imm : W64) (fa : Nat → Nat) (fb : Nat → Nat) (done : WorkItem → Nat → State), s.upset ecc = v ∧ v.unitItem n u = some w ∧ (v.bases.get n).run = some r ∧ v.callProgram n r.call.entry < 0x4000 ∧ v.codeWord n w.pc = w0 ∧ v.codeWord n (w.pc + 1) = w1 ∧ baseLegal w0 = true ∧ w.executed < 1048576 ∧ d = natFld w0 19 5 ∧ ra = natFld w0 14 5 ∧ rb = natFld w0 9 5 ∧ a = w.x ra ∧ b = w.x rb ∧ imm = BitVec.ofInt 64 (toSigned 32 w1) ∧ (∀ l, fa l = (w.vregs.get (32 * ra + l)).toNat) ∧ (∀ l, fb l = (w.vregs.get (32 * rb + l)).toNat) ∧ (∀ i pc, done i pc = v.updBase n (fun z => { z with units := z.units.set u (some { i with pc := pc, executed := w.executed + 1 }) })) ∧ natFld w0 24 8 = 0x0A) ∧
    (∃ (s : State) (v : State) (n : Fin 12) (u : Fin 128) (ecc : List MemUpset) (w : WorkItem) (r : BaseRun) (w0 : Nat) (w1 : Nat) (d : Nat) (ra : Nat) (rb : Nat) (a : W64) (b : W64) (imm : W64) (fa : Nat → Nat) (fb : Nat → Nat) (done : WorkItem → Nat → State) (op : Nat) (c : Instr) (f : Val → Val → Bool), s.upset ecc = v ∧ v.unitItem n u = some w ∧ (v.bases.get n).run = some r ∧ v.callProgram n r.call.entry < 0x4000 ∧ v.codeWord n w.pc = w0 ∧ v.codeWord n (w.pc + 1) = w1 ∧ baseLegal w0 = true ∧ w.executed < 1048576 ∧ d = natFld w0 19 5 ∧ ra = natFld w0 14 5 ∧ rb = natFld w0 9 5 ∧ a = w.x ra ∧ b = w.x rb ∧ imm = BitVec.ofInt 64 (toSigned 32 w1) ∧ (∀ l, fa l = (w.vregs.get (32 * ra + l)).toNat) ∧ (∀ l, fb l = (w.vregs.get (32 * rb + l)).toNat) ∧ (∀ i pc, done i pc = v.updBase n (fun z => { z with units := z.units.set u (some { i with pc := pc, executed := w.executed + 1 }) })) ∧ (op, c, f) ∈ [(0x0B, Instr.vcmplt n u ecc, fun x y => x.lt y), (0x0C, .vcmple n u ecc, fun x y => x.lt y || x.eqv y), (0x0D, .vcmpeq n u ecc, fun x y => x.eqv y)] ∧ natFld w0 24 8 = op) :=
  ⟨⟨baseOn 0x48080000 0x80000000, _, 11, 127, [], _, _, _, _, _, _, _, _, _, _, _, _, _, 0x48, 2, .xli 11 127 [], _, ⟨rfl, rfl, rfl, by decide +kernel, rfl, rfl, by decide +kernel, by decide +kernel, rfl, rfl, rfl, rfl, rfl, rfl, fun _ => rfl, fun _ => rfl, fun _ _ => rfl, .tail _ (.tail _ (.tail _ (.tail _ (.tail _ (.tail _ (.tail _ (.tail _ (.head _)))))))), by decide +kernel⟩⟩,
   ⟨baseOn 0x51080000 0x3FFF, _, 11, 127, [], _, _, _, _, _, _, _, _, _, _, _, _, _, 0x51, .baseBeq 11 127 [], _, 0x3FFF, ⟨rfl, rfl, rfl, by decide +kernel, rfl, rfl, by decide +kernel, by decide +kernel, rfl, rfl, rfl, rfl, rfl, rfl, fun _ => rfl, fun _ => rfl, fun _ _ => rfl, .tail _ (.head _), by decide +kernel⟩⟩,
   ⟨baseOn 0x10FFC600 0, _, 11, 127, [], _, _, _, _, _, _, _, _, _, _, _, _, _, 0x10, 1, .viadd 11 127 [], _, ⟨rfl, rfl, rfl, by decide +kernel, rfl, rfl, by decide +kernel, by decide +kernel, rfl, rfl, rfl, rfl, rfl, rfl, fun _ => rfl, fun _ => rfl, fun _ _ => rfl, .tail _ (.head _), by decide +kernel⟩⟩,
   ⟨baseOn 0x0A084000 0, _, 11, 127, [], _, _, _, _, _, _, _, _, _, _, _, _, _, ⟨rfl, rfl, rfl, by decide +kernel, rfl, rfl, by decide +kernel, by decide +kernel, rfl, rfl, rfl, rfl, rfl, rfl, fun _ => rfl, fun _ => rfl, fun _ _ => rfl, by decide +kernel⟩⟩,
   ⟨baseOn 0x0D184000 0, _, 11, 127, [], _, _, _, _, _, _, _, _, _, _, _, _, _, 0x0D, .vcmpeq 11 127 [], _, ⟨rfl, rfl, rfl, by decide +kernel, rfl, rfl, by decide +kernel, by decide +kernel, rfl, rfl, rfl, rfl, rfl, rfl, fun _ => rfl, fun _ => rfl, fun _ _ => rfl, .tail _ (.tail _ (.head _)), by decide +kernel⟩⟩⟩

theorem witness_BaseCallsStartAndEnd :
    (∃ (s : State) (n : Fin 12) (c : BaseCall) (rest : List BaseCall) (items : List Nat), (s.bases.get n).run = none ∧ (s.bases.get n).queue = c :: rest ∧ s.rdF (Reg.stkBeStatus n) 2 0 = 1 ∧ s.baseMigrates n = false ∧ s.callItems n c = items) ∧
    (∃ (s : State) (n : Fin 12) (u : Fin 128) (ecc : List MemUpset) (v : State) (r : BaseRun) (j : Nat) (rest : List Nat) (z : State) (w : WorkItem) (b : BaseSt), s.upset ecc = v ∧ (v.bases.get n).run = some r ∧ v.unitItem n u = none ∧ r.failed = false ∧ r.items = j :: rest ∧ (v.updBase n (fun b => { b with run := some { r with items := rest } })).wrF (Reg.stkBeCur n) 63 32 rest.length = z ∧ newItem (z.callProgram n r.call.entry) r.call { st := z, n := n, call := r.call, item := { tile := j } } j = w ∧ BaseM.stage.run.run { st := z, n := n, call := r.call, item := w } = (.ok (), b)) ∧
    (∃ (s : State) (n : Fin 12) (u : Fin 128) (ecc : List MemUpset) (v : State) (r : BaseRun) (j : Nat) (rest : List Nat) (z : State) (w : WorkItem) (b : BaseSt) (f : BaseFault), s.upset ecc = v ∧ (v.bases.get n).run = some r ∧ v.unitItem n u = none ∧ r.failed = false ∧ r.items = j :: rest ∧ (v.updBase n (fun b => { b with run := some { r with items := rest } })).wrF (Reg.stkBeCur n) 63 32 rest.length = z ∧ newItem (z.callProgram n r.call.entry) r.call { st := z, n := n, call := r.call, item := { tile := j } } j = w ∧ BaseM.stage.run.run { st := z, n := n, call := r.call, item := w } = (.error f, b)) ∧
    (∃ (c : BaseCall) (a0 : W64) (a1 : W64) (a2 : W64) (a3 : W64), c.args = [a0, a1, a2, a3]) ∧
    (∃ (s : State) (n : Fin 12) (r : BaseRun), (s.bases.get n).run = some r ∧ (r.items = [] ∨ r.failed = true) ∧ (s.bases.get n).units = []) ∧
    (∃ (s : State) (n : Fin 12) (ag : Agent) (i : BitVec 14) (z : State) (call : Bool) (a : Nat), ({ s with answer := .none } : State) = z ∧ (if call then Reg.stkBeCall n (i.toNat / 16) (i.toNat % 16) else Reg.stkBeCode n (i.toNat % 8192)) = a ∧ s.csrPath ag a 8 = .silent) ∧
    (∃ (s : State) (n : Fin 12) (ag : Agent) (i : BitVec 14) (z : State) (call : Bool) (a : Nat), ({ s with answer := .none } : State) = z ∧ (if call then Reg.stkBeCall n (i.toNat / 16) (i.toNat % 16) else Reg.stkBeCode n (i.toNat % 8192)) = a ∧ s.csrPath ag a 8 = .served ∧ ag = .sch ∧ s.rdF (Reg.stkBeStatus n) 2 0 = 1 ∧ s.rdF (Reg.stkBeStatus n) 16 8 = 0) ∧
    (∃ (s : State) (n : Fin 12) (ag : Agent) (i : BitVec 14) (z : State) (call : Bool) (a : Nat), ({ s with answer := .none } : State) = z ∧ (if call then Reg.stkBeCall n (i.toNat / 16) (i.toNat % 16) else Reg.stkBeCode n (i.toNat % 8192)) = a ∧ s.csrPath ag a 8 = .served ∧ ¬ (ag = .sch ∧ s.rdF (Reg.stkBeStatus n) 2 0 = 1 ∧ s.rdF (Reg.stkBeStatus n) 16 8 = 0)) :=
  ⟨⟨({ allOn with bases := [(11, { queue := [⟨3, 0, 255, 1, [0]⟩] })] } : State).wr (Reg.stkBeStatus 11) 1, 11, _, [], [], ⟨rfl, rfl, by decide +kernel⟩⟩,
   ⟨{ allOn with bases := [(11, { run := some ⟨⟨3, 0, 255, 1, []⟩, [5], false⟩ })] }, 11, 127, [], _, _, 5, [], _, _, _, ⟨rfl, rfl, rfl, rfl, rfl, rfl, rfl, rfl⟩⟩,
   ⟨({ allOn with bases := [(11, { run := some ⟨⟨3, 0, 255, 1, []⟩, [5], false⟩ })] } : State).wr (Reg.stkBeCall 11 0 0) 0x10000 |>.wr (Reg.stkBeCall 11 0 1) 0x20000000, 11, 127, [], _, _, 5, [], _, _, _, _, ⟨rfl, rfl, rfl, rfl, rfl, rfl, rfl, rfl⟩⟩,
   ⟨⟨3, 0, 255, 1, [1, 2, 3, 4]⟩, 1, 2, 3, 4, by decide +kernel⟩,
   ⟨{ allOn with bases := [(11, { run := some ⟨⟨3, 0, 255, 1, []⟩, [], false⟩ })] }, 11, ⟨⟨3, 0, 255, 1, []⟩, [], false⟩, by decide +kernel⟩,
   ⟨({} : State).wr Reg.pmcDomState 0, 11, .sch, 16383, _, true, _, ⟨rfl, rfl, by decide +kernel⟩⟩,
   ⟨allOn.wr (Reg.stkBeStatus 11) 1, 11, .sch, 16383, _, true, _, ⟨rfl, rfl, by decide +kernel⟩⟩,
   ⟨allOn.wr (Reg.stkBeStatus 11) 1, 11, .pmc, 16383, _, false, _, ⟨rfl, rfl, by decide +kernel⟩⟩⟩

theorem witness_LinkControlFramesAct :
    (∃ (s : State) (p : Fin 16) (now : Nat) (l : LinkWord) (c : _), (s.portAlive p && !s.isHn p) = false ∧ c ∈ [Instr.idle p now l, .quietReq p now l, .quietAck p now l true, .quietAck p now l false, .wakeReq p now l, .wakeAck p now l, .resync p now l 0, .width p now l 0, .retiring p now l]) ∧
    (∃ (s : State) (p : Fin 16) (now : Nat) (l : LinkWord) (v : State) (able : Bool), s.portAlive p = true ∧ s.isHn p = false ∧ (({ s with answer := .none } : State).count (Reg.prtRxFrames p) 1).takeLink p now l = v ∧ (v.quietAble p && v.rdB (Reg.prtCtrl p) 2) = able ∧ (v.port p).quietAsked = true) ∧
    (∃ (s : State) (p : Fin 16) (now : Nat) (l : LinkWord) (v : State) (able : Bool), s.portAlive p = true ∧ s.isHn p = false ∧ (({ s with answer := .none } : State).count (Reg.prtRxFrames p) 1).takeLink p now l = v ∧ (v.quietAble p && v.rdB (Reg.prtCtrl p) 2) = able ∧ (v.port p).quietAsked = false ∧ able = false) ∧
    (∃ (s : State) (p : Fin 16) (now : Nat) (l : LinkWord) (v : State) (able : Bool), s.portAlive p = true ∧ s.isHn p = false ∧ (({ s with answer := .none } : State).count (Reg.prtRxFrames p) 1).takeLink p now l = v ∧ (v.quietAble p && v.rdB (Reg.prtCtrl p) 2) = able ∧ (v.port p).quietAsked = false ∧ able = true) ∧
    (∃ (s : State) (p : Fin 16) (now : Nat) (l : LinkWord) (v : State), s.portAlive p = true ∧ s.isHn p = false ∧ (({ s with answer := .none } : State).count (Reg.prtRxFrames p) 1).takeLink p now l = v ∧ (v.port p).quietAsked = true) ∧
    (∃ (s : State) (p : Fin 16) (now : Nat) (l : LinkWord) (v : State), s.portAlive p = true ∧ s.isHn p = false ∧ (({ s with answer := .none } : State).count (Reg.prtRxFrames p) 1).takeLink p now l = v ∧ (v.port p).quietAsked = false) ∧
    (∃ (s : State) (p : Fin 16) (now : Nat) (l : LinkWord) (v : State), s.portAlive p = true ∧ s.isHn p = false ∧ (({ s with answer := .none } : State).count (Reg.prtRxFrames p) 1).takeLink p now l = v ∧ (v.port p).switchDue = 1) ∧
    (∃ (s : State) (p : Fin 16) (now : Nat) (l : LinkWord) (v : State), s.portAlive p = true ∧ s.isHn p = false ∧ (({ s with answer := .none } : State).count (Reg.prtRxFrames p) 1).takeLink p now l = v ∧ (v.port p).switchDue ≠ 1 ∧ v.rdB (Reg.prtStatus p) 5 = false) ∧
    (∃ (s : State) (p : Fin 16) (now : Nat) (l : LinkWord) (v : State) (k : Port), s.portAlive p = true ∧ s.isHn p = false ∧ (({ s with answer := .none } : State).count (Reg.prtRxFrames p) 1).takeLink p now l = v ∧ (((v.wrB (Reg.prtStatus p) 7 true).sendControl p 5 0 0).port p) = k ∧ (v.port p).switchDue ≠ 1 ∧ v.rdB (Reg.prtStatus p) 5 = true) ∧
    (∃ (s : State) (p : Fin 16) (now : Nat) (l : LinkWord) (v : State), s.portAlive p = true ∧ s.isHn p = false ∧ (({ s with answer := .none } : State).count (Reg.prtRxFrames p) 1).takeLink p now l = v ∧ (v.port p).waking = false) ∧
    (∃ (s : State) (p : Fin 16) (now : Nat) (l : LinkWord) (v : State), s.portAlive p = true ∧ s.isHn p = false ∧ (({ s with answer := .none } : State).count (Reg.prtRxFrames p) 1).takeLink p now l = v ∧ (v.port p).waking = true ∧ (v.port p).wakeSent = true) ∧
    (∃ (s : State) (p : Fin 16) (now : Nat) (l : LinkWord) (v : State), s.portAlive p = true ∧ s.isHn p = false ∧ (({ s with answer := .none } : State).count (Reg.prtRxFrames p) 1).takeLink p now l = v) ∧
    (∃ (s : State) (p : Fin 16) (now : Nat) (l : LinkWord) (v : State), s.portAlive p = true ∧ s.isHn p = false ∧ (({ s with answer := .none } : State).count (Reg.prtRxFrames p) 1).takeLink p now l = v ∧ (v.port p).phase ≠ 4) ∧
    (∃ (s : State) (p : Fin 16) (now : Nat) (l : LinkWord) (v : State), s.portAlive p = true ∧ s.isHn p = false ∧ (({ s with answer := .none } : State).count (Reg.prtRxFrames p) 1).takeLink p now l = v ∧ (v.port p).phase = 4) :=
  ⟨⟨portIn 5, 15, 0, {}, .idle 15 0 {}, ⟨by decide +kernel, by simp⟩⟩,
   ⟨portIn 3 4 (fun k => { k with quietAsked := true }), 15, 0, {}, _, _, ⟨by decide +kernel, by decide +kernel, rfl, rfl, by decide +kernel⟩⟩,
   ⟨portIn 3, 15, 0, {}, _, _, ⟨by decide +kernel, by decide +kernel, rfl, rfl, by decide +kernel⟩⟩,
   ⟨portIn 3 4, 15, 0, {}, _, _, ⟨by decide +kernel, by decide +kernel, rfl, rfl, by decide +kernel⟩⟩,
   ⟨portIn 3 4 (fun k => { k with quietAsked := true }), 15, 0, {}, _, ⟨by decide +kernel, by decide +kernel, rfl, by decide +kernel⟩⟩,
   ⟨portIn 3, 15, 0, {}, _, ⟨by decide +kernel, by decide +kernel, rfl, by decide +kernel⟩⟩,
   ⟨portIn 3 4 (fun k => { k with switchDue := 1 }), 15, 0, {}, _, ⟨by decide +kernel, by decide +kernel, rfl, by decide +kernel⟩⟩,
   ⟨portIn 3, 15, 0, {}, _, ⟨by decide +kernel, by decide +kernel, rfl, by decide +kernel⟩⟩,
   ⟨portIn 35, 15, 0, {}, _, _, ⟨by decide +kernel, by decide +kernel, rfl, rfl, by decide +kernel⟩⟩,
   ⟨portIn 3, 15, 0, {}, _, ⟨by decide +kernel, by decide +kernel, rfl, by decide +kernel⟩⟩,
   ⟨portIn 3 0 (fun k => { k with waking := true, wakeSent := true }), 15, 0, {}, _, ⟨by decide +kernel, by decide +kernel, rfl, by decide +kernel⟩⟩,
   ⟨portIn 4, 15, 0, {}, _, ⟨by decide +kernel, by decide +kernel, rfl⟩⟩,
   ⟨portIn 2, 15, 0, {}, _, ⟨by decide +kernel, by decide +kernel, rfl, by decide +kernel⟩⟩,
   ⟨portIn 2 0 (fun k => { k with phase := 4 }), 15, 0, {}, _, ⟨by decide +kernel, by decide +kernel, rfl, by decide +kernel⟩⟩⟩

theorem witness_FramesFollowTheLinkRules :
    (∃ (s : State) (z : State) (p : Fin 16) (a : Arrival) (f : Frame) (dst : Nat) (etype : Nat) (y : State), ({ s with answer := .none } : State) = z ∧ s.portAlive p = true ∧ s.isHn p = false ∧ z.countCodewords p a.ucw a.cbits = y ∧ Frame.ofBytes a.bytes = f ∧ leNat (a.bytes.take 6) = dst ∧ ((a.bytes[12]?).getD 0).toNat * 256 + ((a.bytes[13]?).getD 0).toNat = etype ∧ a.good = false ∧ f.link.ftype ≠ 1) ∧
    (∃ (s : State) (z : State) (p : Fin 16) (a : Arrival) (f : Frame) (dst : Nat) (etype : Nat) (y : State), ({ s with answer := .none } : State) = z ∧ s.portAlive p = true ∧ s.isHn p = false ∧ z.countCodewords p a.ucw a.cbits = y ∧ Frame.ofBytes a.bytes = f ∧ leNat (a.bytes.take 6) = dst ∧ ((a.bytes[12]?).getD 0).toNat * 256 + ((a.bytes[13]?).getD 0).toNat = etype ∧ a.good = false ∧ f.link.ftype = 1) ∧
    (∃ (s : State) (z : State) (p : Fin 16) (a : Arrival) (f : Frame) (dst : Nat) (etype : Nat) (y : State), ({ s with answer := .none } : State) = z ∧ s.portAlive p = true ∧ s.isHn p = false ∧ z.countCodewords p a.ucw a.cbits = y ∧ Frame.ofBytes a.bytes = f ∧ leNat (a.bytes.take 6) = dst ∧ ((a.bytes[12]?).getD 0).toNat * 256 + ((a.bytes[13]?).getD 0).toNat = etype ∧ a.good = true ∧ dst ≠ y.rdF (Reg.prtMac p) 47 0 ∧ dst ≠ lldpMac) ∧
    (∃ (s : State) (z : State) (p : Fin 16) (a : Arrival) (f : Frame) (dst : Nat) (etype : Nat) (y : State), ({ s with answer := .none } : State) = z ∧ s.portAlive p = true ∧ s.isHn p = false ∧ z.countCodewords p a.ucw a.cbits = y ∧ Frame.ofBytes a.bytes = f ∧ leNat (a.bytes.take 6) = dst ∧ ((a.bytes[12]?).getD 0).toNat * 256 + ((a.bytes[13]?).getD 0).toNat = etype ∧ a.good = true ∧ (dst = y.rdF (Reg.prtMac p) 47 0 ∨ dst = lldpMac) ∧ etype = 0x88CC) ∧
    (∃ (s : State) (z : State) (p : Fin 16) (a : Arrival) (f : Frame) (dst : Nat) (etype : Nat) (y : State), ({ s with answer := .none } : State) = z ∧ s.portAlive p = true ∧ s.isHn p = false ∧ z.countCodewords p a.ucw a.cbits = y ∧ Frame.ofBytes a.bytes = f ∧ leNat (a.bytes.take 6) = dst ∧ ((a.bytes[12]?).getD 0).toNat * 256 + ((a.bytes[13]?).getD 0).toNat = etype ∧ a.good = true ∧ (dst = y.rdF (Reg.prtMac p) 47 0 ∨ dst = lldpMac) ∧ etype ≠ 0x88CC ∧ etype ≠ y.rdF (Reg.prtEtype p) 15 0) ∧
    (∃ (s : State) (z : State) (p : Fin 16) (a : Arrival) (f : Frame) (dst : Nat) (etype : Nat) (y : State), ({ s with answer := .none } : State) = z ∧ s.portAlive p = true ∧ s.isHn p = false ∧ z.countCodewords p a.ucw a.cbits = y ∧ Frame.ofBytes a.bytes = f ∧ leNat (a.bytes.take 6) = dst ∧ ((a.bytes[12]?).getD 0).toNat * 256 + ((a.bytes[13]?).getD 0).toNat = etype ∧ a.good = true ∧ (dst = y.rdF (Reg.prtMac p) 47 0 ∨ dst = lldpMac) ∧ etype ≠ 0x88CC ∧ etype = y.rdF (Reg.prtEtype p) 15 0 ∧ (1 < f.link.ftype ∨ f.link.mbz ≠ 0 ∨ f.plen % 8 ≠ 0 ∨ 8192 < f.plen ∨ a.bytes.length ≠ frameLen f.plen)) ∧
    (∃ (s : State) (z : State) (p : Fin 16) (a : Arrival) (f : Frame) (dst : Nat) (etype : Nat) (y : State), ({ s with answer := .none } : State) = z ∧ s.portAlive p = true ∧ s.isHn p = false ∧ z.countCodewords p a.ucw a.cbits = y ∧ Frame.ofBytes a.bytes = f ∧ leNat (a.bytes.take 6) = dst ∧ ((a.bytes[12]?).getD 0).toNat * 256 + ((a.bytes[13]?).getD 0).toNat = etype ∧ a.good = true ∧ (dst = y.rdF (Reg.prtMac p) 47 0 ∨ dst = lldpMac) ∧ etype ≠ 0x88CC ∧ etype = y.rdF (Reg.prtEtype p) 15 0 ∧ f.link.ftype ≤ 1 ∧ f.link.mbz = 0 ∧ f.plen % 8 = 0 ∧ f.plen ≤ 8192 ∧ a.bytes.length = frameLen f.plen ∧ f.link.ftype = 1) ∧
    (∃ (s : State) (z : State) (p : Fin 16) (now : Nat) (a : Arrival) (f : Frame) (dst : Nat) (etype : Nat) (y : State) (v : State), ({ s with answer := .none } : State) = z ∧ s.portAlive p = true ∧ s.isHn p = false ∧ z.countCodewords p a.ucw a.cbits = y ∧ Frame.ofBytes a.bytes = f ∧ leNat (a.bytes.take 6) = dst ∧ ((a.bytes[12]?).getD 0).toNat * 256 + ((a.bytes[13]?).getD 0).toNat = etype ∧ a.good = true ∧ (dst = y.rdF (Reg.prtMac p) 47 0 ∨ dst = lldpMac) ∧ etype ≠ 0x88CC ∧ etype = y.rdF (Reg.prtEtype p) 15 0 ∧ f.link.ftype ≤ 1 ∧ f.link.mbz = 0 ∧ f.plen % 8 = 0 ∧ f.plen ≤ 8192 ∧ a.bytes.length = frameLen f.plen ∧ f.link.ftype = 0 ∧ y.takeLink p now f.link = v ∧ (v.rdB (Reg.prtCtrl p) 0 = false ∨ 8 ≤ v.planEntry p)) ∧
    (∃ (s : State) (z : State) (p : Fin 16) (now : Nat) (a : Arrival) (f : Frame) (dst : Nat) (etype : Nat) (y : State) (v : State), ({ s with answer := .none } : State) = z ∧ s.portAlive p = true ∧ s.isHn p = false ∧ z.countCodewords p a.ucw a.cbits = y ∧ Frame.ofBytes a.bytes = f ∧ leNat (a.bytes.take 6) = dst ∧ ((a.bytes[12]?).getD 0).toNat * 256 + ((a.bytes[13]?).getD 0).toNat = etype ∧ a.good = true ∧ (dst = y.rdF (Reg.prtMac p) 47 0 ∨ dst = lldpMac) ∧ etype ≠ 0x88CC ∧ etype = y.rdF (Reg.prtEtype p) 15 0 ∧ f.link.ftype ≤ 1 ∧ f.link.mbz = 0 ∧ f.plen % 8 = 0 ∧ f.plen ≤ 8192 ∧ a.bytes.length = frameLen f.plen ∧ f.link.ftype = 0 ∧ y.takeLink p now f.link = v ∧ v.rdB (Reg.prtCtrl p) 0 = true ∧ v.planEntry p < 8 ∧ f.link.lsn ≠ (v.port p).rxLsn) ∧
    (∃ (s : State) (z : State) (p : Fin 16) (now : Nat) (a : Arrival) (f : Frame) (dst : Nat) (etype : Nat) (y : State) (v : State) (x : QPkt), ({ s with answer := .none } : State) = z ∧ s.portAlive p = true ∧ s.isHn p = false ∧ z.countCodewords p a.ucw a.cbits = y ∧ Frame.ofBytes a.bytes = f ∧ leNat (a.bytes.take 6) = dst ∧ ((a.bytes[12]?).getD 0).toNat * 256 + ((a.bytes[13]?).getD 0).toNat = etype ∧ a.good = true ∧ (dst = y.rdF (Reg.prtMac p) 47 0 ∨ dst = lldpMac) ∧ etype ≠ 0x88CC ∧ etype = y.rdF (Reg.prtEtype p) 15 0 ∧ f.link.ftype ≤ 1 ∧ f.link.mbz = 0 ∧ f.plen % 8 = 0 ∧ f.plen ≤ 8192 ∧ a.bytes.length = frameLen f.plen ∧ f.link.ftype = 0 ∧ y.takeLink p now f.link = v ∧ v.rdB (Reg.prtCtrl p) 0 = true ∧ v.planEntry p < 8 ∧ f.link.lsn = (v.port p).rxLsn ∧ x = { vc := f.link.vc, grp := if f.link.vc = 7 then (v.inGroup p f.packet).1 else 0, dl := if f.link.vc = 7 then (v.inGroup p f.packet).2 else 0, pkt := f.packet } ∧ v.hasRoom p x = false) ∧
    (∃ (s : State) (z : State) (p : Fin 16) (now : Nat) (a : Arrival) (f : Frame) (dst : Nat) (etype : Nat) (y : State) (v : State) (x : QPkt), ({ s with answer := .none } : State) = z ∧ s.portAlive p = true ∧ s.isHn p = false ∧ z.countCodewords p a.ucw a.cbits = y ∧ Frame.ofBytes a.bytes = f ∧ leNat (a.bytes.take 6) = dst ∧ ((a.bytes[12]?).getD 0).toNat * 256 + ((a.bytes[13]?).getD 0).toNat = etype ∧ a.good = true ∧ (dst = y.rdF (Reg.prtMac p) 47 0 ∨ dst = lldpMac) ∧ etype ≠ 0x88CC ∧ etype = y.rdF (Reg.prtEtype p) 15 0 ∧ f.link.ftype ≤ 1 ∧ f.link.mbz = 0 ∧ f.plen % 8 = 0 ∧ f.plen ≤ 8192 ∧ a.bytes.length = frameLen f.plen ∧ f.link.ftype = 0 ∧ y.takeLink p now f.link = v ∧ v.rdB (Reg.prtCtrl p) 0 = true ∧ v.planEntry p < 8 ∧ f.link.lsn = (v.port p).rxLsn ∧ x = { vc := f.link.vc, grp := if f.link.vc = 7 then (v.inGroup p f.packet).1 else 0, dl := if f.link.vc = 7 then (v.inGroup p f.packet).2 else 0, pkt := f.packet } ∧ v.hasRoom p x = true) ∧
    (∃ (s : State) (z : State) (p : Fin 16) (l : LinkWord), ({ s with answer := .none } : State) = z ∧ s.portAlive p = true ∧ s.isHn p = false ∧ l.nak = true) ∧
    (∃ (s : State) (z : State) (l : LinkWord), ({ s with answer := .none } : State) = z ∧ l.nak = false) ∧
    (∃ (s : State) (z : State) (p : Fin 16) (below : List Nat) (x : QPkt) (xs : List QPkt), ({ s with answer := .none } : State) = z ∧ z.sendOrder p below = x :: xs ∧ s.isHn p = false ∧ s.fabricUp p = true ∧ (s.port p).replayBytes + frameBytes x.pkt ≤ 524288) ∧
    (∃ (s : State) (z : State) (p : Fin 16) (below : List Nat), ({ s with answer := .none } : State) = z ∧ z.sendOrder p below = []) ∧
    (∃ (s : State) (z : State) (p : Fin 16), ({ s with answer := .none } : State) = z ∧ s.portUp p = true ∧ (s.port p).replay ≠ []) ∧
    (∃ (s : State) (z : State) (p : Fin 16), ({ s with answer := .none } : State) = z ∧ (s.port p).replay = []) ∧
    (∃ (s : State) (z : State) (p : Fin 16) (v : State), ({ s with answer := .none } : State) = z ∧ (s.port p).replay ≠ [] ∧ z.discardReplay p = v ∧ v.portUp p = true) ∧
    (∃ (s : State) (z : State) (p : Fin 16) (v : State), ({ s with answer := .none } : State) = z ∧ (s.port p).replay ≠ [] ∧ z.discardReplay p = v ∧ v.portUp p = false) ∧
    (∃ (s : State) (z : State) (p : Fin 16), ({ s with answer := .none } : State) = z ∧ s.portUp p = false) ∧
    (∃ (s : State) (z : State) (p : Fin 16), ({ s with answer := .none } : State) = z ∧ s.isHn p = false ∧ (s.port p).switchDue = 0 ∧ (s.port p).wakeLate = false ∧ (s.port p).wakeWanted = false) :=
  ⟨⟨(portIn 3 1).wr (Reg.prtEtype 15) 0x88B5, _, 15, { good := false, bytes := frameOf 0 0x88B5 }, _, 0, 0x88B5, _, ⟨rfl, by decide +kernel, by decide +kernel, rfl, rfl, by decide +kernel⟩⟩,
   ⟨(portIn 3 1).wr (Reg.prtEtype 15) 0x88B5, _, 15, { good := false, bytes := frameOf 0 0x88B5 { ftype := 1 } }, _, 0, 0x88B5, _, ⟨rfl, by decide +kernel, by decide +kernel, rfl, rfl, by decide +kernel⟩⟩,
   ⟨(portIn 3 1).wr (Reg.prtEtype 15) 0x88B5, _, 15, { good := true, bytes := frameOf 5 0x88B5 }, _, 5, 0x88B5, _, ⟨rfl, by decide +kernel, by decide +kernel, rfl, rfl, by decide +kernel⟩⟩,
   ⟨(portIn 3 1).wr (Reg.prtEtype 15) 0x88B5, _, 15, { good := true, bytes := frameOf lldpMac 0x88CC }, _, lldpMac, 0x88CC, _, ⟨rfl, by decide +kernel, by decide +kernel, rfl, rfl, by decide +kernel⟩⟩,
   ⟨(portIn 3 1).wr (Reg.prtEtype 15) 0x88B5, _, 15, { good := true, bytes := frameOf 0 0x88B6 }, _, 0, 0x88B6, _, ⟨rfl, by decide +kernel, by decide +kernel, rfl, rfl, by decide +kernel⟩⟩,
   ⟨(portIn 3 1).wr (Reg.prtEtype 15) 0x88B5, _, 15, { good := true, bytes := frameOf 0 0x88B5 {} 0 1 }, _, 0, 0x88B5, _, ⟨rfl, by decide +kernel, by decide +kernel, rfl, rfl, by decide +kernel⟩⟩,
   ⟨(portIn 3 1).wr (Reg.prtEtype 15) 0x88B5, _, 15, { good := true, bytes := frameOf 0 0x88B5 { ftype := 1 } }, _, 0, 0x88B5, _, ⟨rfl, by decide +kernel, by decide +kernel, rfl, rfl, by decide +kernel⟩⟩,
   ⟨(portIn 3 0).wr (Reg.prtEtype 15) 0x88B5, _, 15, 0, { good := true, bytes := frameOf 0 0x88B5 }, _, 0, 0x88B5, _, _, ⟨rfl, by decide +kernel, by decide +kernel, rfl, rfl, by decide +kernel, by decide +kernel, by decide +kernel, by decide +kernel, by decide +kernel, by decide +kernel, by decide +kernel, by decide +kernel, by decide +kernel, by decide +kernel, by decide +kernel, by decide +kernel, rfl, by decide +kernel⟩⟩,
   ⟨(portIn 3 1).wr (Reg.prtEtype 15) 0x88B5, _, 15, 0, { good := true, bytes := frameOf 0 0x88B5 { lsn := 65535 } }, _, 0, 0x88B5, _, _, ⟨rfl, by decide +kernel, by decide +kernel, rfl, rfl, by decide +kernel, by decide +kernel, by decide +kernel, by decide +kernel, by decide +kernel, by decide +kernel, by decide +kernel, by decide +kernel, by decide +kernel, by decide +kernel, by decide +kernel, by decide +kernel, rfl, by decide +kernel⟩⟩,
   ⟨(portIn 3 1 (fun k => { k with used := (List.range 30).map (fun i => (i, 2 ^ 20)) })).wr (Reg.prtEtype 15) 0x88B5, _, 15, 0, { good := true, bytes := frameOf 0 0x88B5 { vc := 6 } }, _, 0, 0x88B5, _, _, _, ⟨rfl, by decide +kernel, by decide +kernel, rfl, rfl, by decide +kernel, by decide +kernel, by decide +kernel, by decide +kernel, by decide +kernel, by decide +kernel, by decide +kernel, by decide +kernel, by decide +kernel, by decide +kernel, by decide +kernel, by decide +kernel, rfl, by decide +kernel, by decide +kernel, by decide +kernel, rfl, by decide +kernel⟩⟩,
   ⟨(portIn 3 1).wr (Reg.prtEtype 15) 0x88B5, _, 15, 0, { good := true, bytes := frameOf 0 0x88B5 { vc := 7 } 8192 }, _, 0, 0x88B5, _, _, _, ⟨rfl, by decide +kernel, by decide +kernel, rfl, rfl, by decide +kernel, by decide +kernel, by decide +kernel, by decide +kernel, by decide +kernel, by decide +kernel, by decide +kernel, by decide +kernel, by decide +kernel, by decide +kernel, by decide +kernel, by decide +kernel, rfl, by decide +kernel, by decide +kernel, by decide +kernel, rfl, by decide +kernel⟩⟩,
   ⟨portIn 3 1, _, 15, { nak := true }, ⟨rfl, by decide +kernel, by decide +kernel, rfl⟩⟩,
   ⟨portIn 3 1, _, {}, ⟨rfl, rfl⟩⟩,
   ⟨netOn {} (portIn 3 1 (fun k => { k with out := [{ vc := 6, pkt := {} }] })), _, 15, [], { vc := 6, pkt := {} }, [], ⟨rfl, by decide +kernel⟩⟩,
   ⟨portIn 3 1, _, 15, [], ⟨rfl, by decide +kernel⟩⟩,
   ⟨portIn 3 1 (fun k => { k with replay := [{ lsn := 0, q := { vc := 6, pkt := {} } }] }), _, 15, ⟨rfl, by decide +kernel⟩⟩,
   ⟨portIn 3 1, _, 15, ⟨rfl, by decide +kernel⟩⟩,
   ⟨portIn 3 1 (fun k => { k with replay := [{ lsn := 0, q := { vc := 6, pkt := {} } }] }), _, 15, _, ⟨rfl, by decide +kernel, rfl, by decide +kernel⟩⟩,
   ⟨portIn 4 1 (fun k => { k with replay := [{ lsn := 0, q := { vc := 6, pkt := {} } }] }), _, 15, _, ⟨rfl, by decide +kernel, rfl, by decide +kernel⟩⟩,
   ⟨portIn 4 1, _, 15, ⟨rfl, by decide +kernel⟩⟩,
   ⟨portIn 4 1, _, 15, ⟨rfl, by decide +kernel⟩⟩⟩

theorem witness_PortsTrainAndRest :
    (∃ (s : State) (z : State) (p : Fin 16) (v : State), ({ s with answer := .none } : State) = z ∧ z.updPort p (fun k => { k with present := false, settled := false, downRuns := false }) = v ∧ s.lstate p = 6) ∧
    (∃ (s : State) (z : State) (p : Fin 16) (v : State), ({ s with answer := .none } : State) = z ∧ z.updPort p (fun k => { k with present := false, settled := false, downRuns := false }) = v ∧ s.lstate p ≠ 6) ∧
    (∃ (s : State) (z : State) (p : Fin 16) (v : State), ({ s with answer := .none } : State) = z ∧ z.updPort p (fun k => { k with present := true, settled := true }) = v ∧ s.domOn (portDomain p) = true ∧ (s.lstate p = 0 ∨ s.lstate p = 5)) ∧
    (∃ (s : State) (z : State) (p : Fin 16) (v : State), ({ s with answer := .none } : State) = z ∧ z.updPort p (fun k => { k with present := true, settled := true }) = v ∧ (s.domOn (portDomain p) = false ∨ (s.lstate p ≠ 0 ∧ s.lstate p ≠ 5))) ∧
    (∃ (s : State) (z : State) (p : Fin 16), ({ s with answer := .none } : State) = z ∧ s.mayTrain p = false) ∧
    (∃ (s : State) (z : State) (p : Fin 16), ({ s with answer := .none } : State) = z ∧ s.mayTrain p = true ∧ (s.lstate p = 0 ∨ s.lstate p = 5)) ∧
    (∃ (s : State) (z : State) (p : Fin 16), ({ s with answer := .none } : State) = z ∧ s.mayTrain p = true ∧ (s.port p).phase = 1) ∧
    (∃ (s : State) (z : State) (p : Fin 16) (c : Bool), ({ s with answer := .none } : State) = z ∧ s.mayTrain p = true ∧ (s.port p).phase = 2 ∧ ((s.port p).checkDue = true ∨ c = true)) ∧
    (∃ (s : State) (z : State) (p : Fin 16) (c : Bool), ({ s with answer := .none } : State) = z ∧ s.mayTrain p = true ∧ (s.port p).phase = 2 ∧ (s.port p).checkDue = false ∧ c = false ∧ s.lstate p = 4) ∧
    (∃ (s : State) (z : State) (p : Fin 16) (c : Bool), ({ s with answer := .none } : State) = z ∧ s.mayTrain p = true ∧ (s.port p).phase = 2 ∧ (s.port p).checkDue = false ∧ c = false ∧ s.lstate p ≠ 4) ∧
    (∃ (s : State) (z : State) (p : Fin 16), ({ s with answer := .none } : State) = z ∧ s.mayTrain p = true ∧ (s.port p).phase = 3) ∧
    (∃ (s : State) (z : State) (p : Fin 16), ({ s with answer := .none } : State) = z ∧ s.mayTrain p = true ∧ (s.port p).phase = 5 ∧ (s.rdB (Reg.prtPeer p) 63 = true ∨ s.isHn p = true)) ∧
    (∃ (s : State) (z : State) (p : Fin 16), ({ s with answer := .none } : State) = z ∧ (s.port p).phase = 0) ∧
    (∃ (s : State) (z : State) (p : Fin 16), ({ s with answer := .none } : State) = z ∧ (s.port p).phase ≠ 0) ∧
    (∃ (s : State) (z : State) (p : Fin 16) (v : State), ({ s with answer := .none } : State) = z ∧ z.updPort p (fun k => { k with downRuns := true }) = v ∧ s.portUp p = true) ∧
    (∃ (s : State) (z : State) (p : Fin 16), ({ s with answer := .none } : State) = z ∧ s.portUp p = false) ∧
    (∃ (s : State) (z : State), ({ s with answer := .none } : State) = z) ∧
    (∃ (s : State) (z : State) (p : Fin 16), ({ s with answer := .none } : State) = z ∧ s.lstate p ≠ 4) ∧
    (∃ (s : State) (z : State) (p : Fin 16) (v : State), ({ s with answer := .none } : State) = z ∧ s.lstate p = 4 ∧ (z.event 0x404 (.port p)).countF (Reg.prtStatus p) 19 16 1 = v ∧ 3 ≤ v.rdF (Reg.prtStatus p) 19 16) ∧
    (∃ (s : State) (z : State) (p : Fin 16) (v : State), ({ s with answer := .none } : State) = z ∧ s.lstate p = 4 ∧ (z.event 0x404 (.port p)).countF (Reg.prtStatus p) 19 16 1 = v ∧ v.rdF (Reg.prtStatus p) 19 16 < 3) ∧
    (∃ (s : State) (z : State) (p : Fin 16), ({ s with answer := .none } : State) = z ∧ (s.port p).downRuns = true ∧ s.portUp p = false) ∧
    (∃ (s : State) (z : State) (p : Fin 16), ({ s with answer := .none } : State) = z ∧ ((s.port p).downRuns = false ∨ s.portUp p = true)) ∧
    (∃ (s : State) (z : State) (p : Fin 16) (ag : Agent), ({ s with answer := .none } : State) = z ∧ s.csrPath ag (Reg.prtCtrl p) 4 = .served ∧ ag ≠ .fab ∧ ag.isPf0 = false ∧ ag ≠ .none) ∧
    (∃ (s : State) (z : State) (p : Fin 16) (ag : Agent), ({ s with answer := .none } : State) = z ∧ s.csrPath ag (Reg.prtCtrl p) 4 = .served ∧ ag ≠ .fab ∧ ag.isPf0 = false) ∧
    (∃ (s : State) (z : State) (p : Fin 16) (ag : Agent), ({ s with answer := .none } : State) = z ∧ s.csrPath ag (Reg.prtCtrl p) 4 = .served ∧ ag ≠ .fab ∧ ag.isPf0 = false ∧ ag ≠ .pmc) ∧
    (∃ (s : State) (z : State) (p : Fin 16) (ag : Agent), ({ s with answer := .none } : State) = z ∧ s.csrPath ag (Reg.prtCtrl p) 4 = .served ∧ (ag = .fab ∨ ag.isPf0 = true ∨ ag = .none) ∧ s.portUp p = true) ∧
    (∃ (s : State) (z : State) (p : Fin 16) (ag : Agent), ({ s with answer := .none } : State) = z ∧ s.csrPath ag (Reg.prtCtrl p) 4 = .served ∧ (ag = .fab ∨ ag.isPf0 = true ∨ ag = .none) ∧ s.portUp p = false) ∧
    (∃ (s : State) (z : State) (p : Fin 16) (ag : Agent) (u : Bool) (v : State) (w : State), ({ s with answer := .none } : State) = z ∧ s.csrPath ag (Reg.prtCtrl p) 4 = .served ∧ (ag = .fab ∨ ag.isPf0 = true) ∧ (z.wrF (Reg.prtCtrl p) 6 5 (1 + 2 * b2n u)).updPort p (fun k => { k with checkDue := true, resyncDue := true, downRuns := false }) = v ∧ s.lstate p = 6 ∧ u = true ∧ v.updPort p (fun k => { k with unretire := true }) = w ∧ w.portReady p = true) ∧
    (∃ (s : State) (z : State) (p : Fin 16) (ag : Agent) (u : Bool) (v : State) (w : State), ({ s with answer := .none } : State) = z ∧ s.csrPath ag (Reg.prtCtrl p) 4 = .served ∧ (ag = .fab ∨ ag.isPf0 = true) ∧ (z.wrF (Reg.prtCtrl p) 6 5 (1 + 2 * b2n u)).updPort p (fun k => { k with checkDue := true, resyncDue := true, downRuns := false }) = v ∧ s.lstate p = 6 ∧ u = true ∧ v.updPort p (fun k => { k with unretire := true }) = w ∧ w.portReady p = false) ∧
    (∃ (s : State) (z : State) (p : Fin 16) (ag : Agent) (u : Bool) (v : State), ({ s with answer := .none } : State) = z ∧ s.csrPath ag (Reg.prtCtrl p) 4 = .served ∧ (ag = .fab ∨ ag.isPf0 = true) ∧ (z.wrF (Reg.prtCtrl p) 6 5 (1 + 2 * b2n u)).updPort p (fun k => { k with checkDue := true, resyncDue := true, downRuns := false }) = v ∧ (s.lstate p = 3 ∨ s.lstate p = 4)) ∧
    (∃ (s : State) (z : State) (p : Fin 16) (ag : Agent) (u : Bool) (v : State), ({ s with answer := .none } : State) = z ∧ s.csrPath ag (Reg.prtCtrl p) 4 = .served ∧ (ag = .fab ∨ ag.isPf0 = true) ∧ (z.wrF (Reg.prtCtrl p) 6 5 (1 + 2 * b2n u)).updPort p (fun k => { k with checkDue := true, resyncDue := true, downRuns := false }) = v ∧ (s.lstate p = 0 ∨ (s.lstate p = 6 ∧ u = false) ∨ (s.mayTrain p = false ∧ s.lstate p ≠ 3 ∧ s.lstate p ≠ 4 ∧ s.lstate p ≠ 6))) ∧
    (∃ (s : State) (z : State) (p : Fin 16) (ag : Agent) (u : Bool) (v : State), ({ s with answer := .none } : State) = z ∧ s.csrPath ag (Reg.prtCtrl p) 4 = .served ∧ (ag = .fab ∨ ag.isPf0 = true) ∧ (z.wrF (Reg.prtCtrl p) 6 5 (1 + 2 * b2n u)).updPort p (fun k => { k with checkDue := true, resyncDue := true, downRuns := false }) = v ∧ s.mayTrain p = true ∧ s.lstate p ≠ 0 ∧ s.lstate p ≠ 3 ∧ s.lstate p ≠ 4) ∧
    (∃ (s : State) (z : State) (p : Fin 16) (ag : Agent), ({ s with answer := .none } : State) = z ∧ s.csrPath ag (Reg.prtCtrl p) 4 = .served ∧ (ag = .fab ∨ ag.isPf0 = true ∨ ag = .pmc)) ∧
    (∃ (s : State) (z : State) (p : Fin 16), ({ s with answer := .none } : State) = z ∧ s.rdB (Reg.prtQuiet p) 0 = false) ∧
    (∃ (s : State) (z : State) (p : Fin 16), ({ s with answer := .none } : State) = z ∧ s.rdB (Reg.prtQuiet p) 0 = true ∧ 65536 < queuedBytes (s.port p).out) ∧
    (∃ (s : State) (z : State) (p : Fin 16), ({ s with answer := .none } : State) = z ∧ s.rdB (Reg.prtQuiet p) 0 = true ∧ queuedBytes (s.port p).out ≤ 65536) ∧
    (∃ (s : State) (z : State) (p : Fin 16), ({ s with answer := .none } : State) = z ∧ (s.quietAble p && !s.rdB (Reg.prtStatus p) 5 && !(s.port p).quietAsked) = true) ∧
    (∃ (s : State) (z : State) (p : Fin 16), ({ s with answer := .none } : State) = z ∧ (s.quietAble p && !s.rdB (Reg.prtStatus p) 5 && !(s.port p).quietAsked) = false) ∧
    (∃ (s : State) (z : State) (p : Fin 16), ({ s with answer := .none } : State) = z ∧ s.portUp p = true ∧ s.rdB (Reg.prtStatus p) 5 = true ∧ (s.port p).waking = false) ∧
    (∃ (s : State) (z : State) (p : Fin 16), ({ s with answer := .none } : State) = z ∧ s.portUp p = true ∧ s.rdB (Reg.prtStatus p) 5 = false ∧ ((s.port p).quietAsked = true ∨ (s.port p).switchDue = 1)) :=
  ⟨⟨portIn 6, _, 15, _, ⟨rfl, rfl, by decide +kernel⟩⟩,
   ⟨portIn 3, _, 15, _, ⟨rfl, rfl, by decide +kernel⟩⟩,
   ⟨portIn 5, _, 15, _, ⟨rfl, rfl, by decide +kernel⟩⟩,
   ⟨portIn 3, _, 15, _, ⟨rfl, rfl, by decide +kernel⟩⟩,
   ⟨portIn 6, _, 15, ⟨rfl, by decide +kernel⟩⟩,
   ⟨portIn 0 0 (fun k => { k with present := true, settled := true }), _, 15, ⟨rfl, by decide +kernel⟩⟩,
   ⟨portIn 1 0 (fun k => { k with present := true, settled := true, phase := 1 }), _, 15, ⟨rfl, by decide +kernel⟩⟩,
   ⟨portIn 4 0 (fun k => { k with present := true, settled := true, phase := 2 }), _, 15, false, ⟨rfl, by decide +kernel⟩⟩,
   ⟨portIn 4 0 (fun k => { k with present := true, settled := true, phase := 2, checkDue := false }), _, 15, false, ⟨rfl, by decide +kernel⟩⟩,
   ⟨portIn 2 0 (fun k => { k with present := true, settled := true, phase := 2, checkDue := false }), _, 15, false, ⟨rfl, by decide +kernel⟩⟩,
   ⟨portIn 2 0 (fun k => { k with present := true, settled := true, phase := 3 }), _, 15, ⟨rfl, by decide +kernel⟩⟩,
   ⟨(portIn 2 0 (fun k => { k with present := true, settled := true, phase := 5 })).wr (Reg.prtPeer 15) (1 <<< 63), _, 15, ⟨rfl, by decide +kernel⟩⟩,
   ⟨portIn 0, _, 15, ⟨rfl, by decide +kernel⟩⟩,
   ⟨portIn 2 0 (fun k => { k with phase := 5 }), _, 15, ⟨rfl, by decide +kernel⟩⟩,
   ⟨portIn 3, _, 15, _, ⟨rfl, rfl, by decide +kernel⟩⟩,
   ⟨portIn 2, _, 15, ⟨rfl, by decide +kernel⟩⟩,
   ⟨portIn 3, _, rfl⟩,
   ⟨portIn 3, _, 15, ⟨rfl, by decide +kernel⟩⟩,
   ⟨portIn (4 + 2 * 2 ^ 16), _, 15, _, ⟨rfl, by decide +kernel, rfl, by decide +kernel⟩⟩,
   ⟨portIn (4 + 1 * 2 ^ 16), _, 15, _, ⟨rfl, by decide +kernel, rfl, by decide +kernel⟩⟩,
   ⟨portIn 5 0 (fun k => { k with downRuns := true }), _, 15, ⟨rfl, by decide +kernel⟩⟩,
   ⟨portIn 3 0 (fun k => { k with downRuns := true }), _, 15, ⟨rfl, by decide +kernel⟩⟩,
   ⟨portIn 3, _, 15, .pmc, ⟨rfl, by decide +kernel⟩⟩,
   ⟨portIn 3, _, 15, .pmc, ⟨rfl, by decide +kernel⟩⟩,
   ⟨portIn 3, _, 15, .sch, ⟨rfl, by decide +kernel⟩⟩,
   ⟨portIn 3, _, 15, .none, ⟨rfl, by decide +kernel⟩⟩,
   ⟨portIn 4, _, 15, .host 1 0, ⟨rfl, by decide +kernel⟩⟩,
   ⟨portIn 6 0 (fun k => { k with present := true, settled := true }), _, 15, .fab, true, _, _, ⟨rfl, by decide +kernel, by decide +kernel, rfl, by decide +kernel, by decide +kernel, rfl, by decide +kernel⟩⟩,
   ⟨portIn 6, _, 15, .fab, true, _, _, ⟨rfl, by decide +kernel, by decide +kernel, rfl, by decide +kernel, by decide +kernel, rfl, by decide +kernel⟩⟩,
   ⟨portIn 4, _, 15, .fab, true, _, ⟨rfl, by decide +kernel, by decide +kernel, rfl, by decide +kernel⟩⟩,
   ⟨portIn 6, _, 15, .fab, false, _, ⟨rfl, by decide +kernel, by decide +kernel, rfl, by decide +kernel⟩⟩,
   ⟨portIn 5 0 (fun k => { k with present := true, settled := true }), _, 15, .host 1 0, true, _, ⟨rfl, by decide +kernel, by decide +kernel, rfl, by decide +kernel⟩⟩,
   ⟨portIn 3, _, 15, .pmc, ⟨rfl, by decide +kernel⟩⟩,
   ⟨portIn 3, _, 15, ⟨rfl, by decide +kernel⟩⟩,
   ⟨(portIn 3 0 (fun k => { k with out := List.replicate 8 { vc := 2, pkt := { payload := List.replicate 8192 0 } } })).wr (Reg.prtQuiet 15) 1, _, 15, ⟨rfl, by decide +kernel⟩⟩,
   ⟨(portIn 3).wr (Reg.prtQuiet 15) 1, _, 15, ⟨rfl, by decide +kernel⟩⟩,
   ⟨portIn 3, _, 15, ⟨rfl, by decide +kernel⟩⟩,
   ⟨portIn 35, _, 15, ⟨rfl, by decide +kernel⟩⟩,
   ⟨portIn 35, _, 15, ⟨rfl, by decide +kernel⟩⟩,
   ⟨portIn 3 0 (fun k => { k with quietAsked := true }), _, 15, ⟨rfl, by decide +kernel⟩⟩⟩

theorem witness_DiscoveryAndHostNetworkFrames :
    (∃ (s : State) (z : State) (p : Fin 16), ({ s with answer := .none } : State) = z ∧ (s.portUp p = true ∨ (s.port p).phase = 5)) ∧
    (∃ (s : State) (z : State) (p : Fin 16), ({ s with answer := .none } : State) = z ∧ s.portUp p = false ∧ (s.port p).phase ≠ 5) ∧
    (∃ (s : State) (z : State) (p : Fin 16) (v : State), ({ s with answer := .none } : State) = z ∧ z.count (Reg.prtRxFrames p) 1 = v ∧ (s.portUp p = true ∨ (s.port p).phase = 5) ∧ v.isHn p = true) ∧
    (∃ (s : State) (z : State) (p : Fin 16) (f : Lldp) (v : State) (changed : Bool) (fits : Bool) (first : Bool) (twoWay : Bool), ({ s with answer := .none } : State) = z ∧ z.count (Reg.prtRxFrames p) 1 = v ∧ (s.portUp p = true ∨ (s.port p).phase = 5) ∧ v.isHn p = false ∧ (changed = (v.port p).neighbour.any (fun n => decide (n.chassis ≠ f.chassis ∨ n.portId ≠ f.portId))) ∧ fits = v.neighbourFits p f ∧ (first = (v.port p).neighbour.all (fun n => decide (n.entry ≠ f.entry ∨ n.chassis ≠ f.chassis))) ∧ twoWay = decide (f.echoMac = v.rdF (Reg.prtMac p) 47 0 ∧ f.echoPort = p)) ∧
    (∃ (s : State) (z : State) (p : Fin 16), ({ s with answer := .none } : State) = z ∧ (s.isHn p = false ∨ s.rdB (Reg.prtCtrl p) 1 = false ∨ s.portUp p = false)) ∧
    (∃ (s : State) (z : State) (p : Fin 16) (f : HnFrame) (good : Bool) (x : QPkt), ({ s with answer := .none } : State) = z ∧ s.isHn p = true ∧ s.rdB (Reg.prtCtrl p) 1 = true ∧ s.portUp p = true ∧ z.hnAccepts p f good = true ∧ x = { vc := if replyOp f.pkt.op then 4 else 1, pkt := { f.pkt with cmark := f.pkt.cmark || decide (f.ecn = 3) } }) ∧
    (∃ (s : State) (z : State) (p : Fin 16) (f : HnFrame) (good : Bool), ({ s with answer := .none } : State) = z ∧ s.isHn p = true ∧ s.rdB (Reg.prtCtrl p) 1 = true ∧ s.portUp p = true ∧ z.hnAccepts p f good = false) ∧
    (∃ (s : State) (z : State) (p : Fin 16), ({ s with answer := .none } : State) = z ∧ s.isHn p = true ∧ s.rdB (Reg.prtCtrl p) 1 = true ∧ s.portUp p = true) ∧
    (∃ (s : State) (z : State) (p : Fin 16), ({ s with answer := .none } : State) = z ∧ s.isHn p = true ∧ s.rdB (Reg.prtCtrl p) 1 = true ∧ s.portUp p = true) ∧
    (∃ (s : State) (z : State) (p : Fin 16) (t : BitVec 128), ({ s with answer := .none } : State) = z ∧ s.isHn p = true ∧ s.rdB (Reg.prtCtrl p) 1 = true ∧ s.portUp p = true ∧ z.hnMaySend p = true ∧ t = z.rd (Reg.prtHnAddr p 1) ++ z.rd (Reg.prtHnAddr p 0)) ∧
    (∃ (s : State) (z : State) (p : Fin 16) (t : BitVec 128), ({ s with answer := .none } : State) = z ∧ s.isHn p = true ∧ s.rdB (Reg.prtCtrl p) 1 = true ∧ s.portUp p = true ∧ (z.hnMaySend p = false ∨ t ≠ z.rd (Reg.prtHnAddr p 1) ++ z.rd (Reg.prtHnAddr p 0))) ∧
    (∃ (s : State) (z : State) (p : Fin 16), ({ s with answer := .none } : State) = z ∧ (s.isHn p && s.portUp p) = false) ∧
    (∃ (s : State) (z : State) (p : Fin 16), ({ s with answer := .none } : State) = z ∧ (s.isHn p && s.portUp p) = true ∧ s.rdB (Reg.prtHnCtrl p) 22 = false) ∧
    (∃ (s : State) (z : State) (p : Fin 16) (v : State), ({ s with answer := .none } : State) = z ∧ z.count (Reg.prtRxFrames p) 1 = v ∧ (s.isHn p && s.portUp p) = true ∧ s.rdB (Reg.prtHnCtrl p) 22 = true) ∧
    (∃ (s : State) (z : State) (ag : Agent), ({ s with answer := .none } : State) = z ∧ s.csrPath ag Reg.hubPortPlanNext 8 = .served ∧ (ag = .fab ∨ ag.isPf0 = true)) ∧
    (∃ (s : State) (z : State) (ag : Agent), ({ s with answer := .none } : State) = z ∧ s.csrPath ag Reg.hubPortPlanNext 8 = .served ∧ ag ≠ .fab ∧ ag.isPf0 = false) :=
  ⟨⟨portIn 2 0 (fun k => { k with phase := 5 }), _, 15, ⟨rfl, by decide +kernel⟩⟩,
   ⟨portIn 2, _, 15, ⟨rfl, by decide +kernel⟩⟩,
   ⟨hnUp, _, 15, _, ⟨rfl, rfl, by decide +kernel⟩⟩,
   ⟨(portIn 3).wr Reg.hubPortPlan 0x7766554433221100, _, 15, { chassis := 1, portId := 2, node := 3, hubId := 0x4810, serial := 5, port := 15, entry := 6, lanePass := 255, width := 8, quiet := true, quietAllow := true }, _, _, _, _, _, ⟨rfl, rfl, by decide +kernel, by decide +kernel, rfl, rfl, rfl, rfl⟩⟩,
   ⟨hnUp 0, _, 15, ⟨rfl, by decide +kernel⟩⟩,
   ⟨hnUp.wr (Reg.prtHnCtrl 15) 4791, _, 15, { mac := 0, vid := 1, pcp := 0, srcAddr := 0, dstAddr := 0, srcPort := 4791, dstPort := 4791, vc := 1, pkt := { op := 1 } }, true, _, ⟨rfl, by decide +kernel, by decide +kernel, by decide +kernel, by decide +kernel, rfl⟩⟩,
   ⟨hnUp.wr (Reg.prtHnCtrl 15) 4791, _, 15, { mac := 0, vid := 1, pcp := 0, srcAddr := 0, dstAddr := 0, srcPort := 4791, dstPort := 4791, vc := 1, pkt := { op := 64 } }, false, ⟨rfl, by decide +kernel⟩⟩,
   ⟨hnUp, _, 15, ⟨rfl, by decide +kernel⟩⟩,
   ⟨hnUp, _, 15, ⟨rfl, by decide +kernel⟩⟩,
   ⟨(hnUp.wr (Reg.prtHnCtrl 15) 4791).wr (Reg.prtHnGw 15) (1 <<< 63), _, 15, _, ⟨rfl, by decide +kernel, by decide +kernel, by decide +kernel, by decide +kernel, rfl⟩⟩,
   ⟨hnUp, _, 15, 1, ⟨rfl, by decide +kernel⟩⟩,
   ⟨portIn 3, _, 15, ⟨rfl, by decide +kernel⟩⟩,
   ⟨hnUp, _, 15, ⟨rfl, by decide +kernel⟩⟩,
   ⟨hnUp.wr (Reg.prtHnCtrl 15) (1 <<< 22), _, 15, _, ⟨rfl, rfl, by decide +kernel⟩⟩,
   ⟨allOn, _, .fab, ⟨rfl, by decide +kernel⟩⟩,
   ⟨allOn, _, .sch, ⟨rfl, by decide +kernel⟩⟩⟩

theorem witness_RouterForwardsByItsTables :
    (∃ (s : State) (z : State) (src : Fin 17) (i : Nat), ({ s with answer := .none } : State) = z ∧ z.headPacket src i = none) ∧
    (∃ (s : State) (z : State) (src : Fin 17) (i : Nat) (x : QPkt) (bad : Bool) (v : State) (c : Instr) (w : State), ({ s with answer := .none } : State) = z ∧ z.headPacket src i = some x ∧ x.vc ≠ 7 ∧ (if bad = true ∧ z.nodeValid = true ∧ x.pkt.dst < 0x20000 then (z.mismatchAt (Reg.rtrRoute (z.rdF Reg.rtrRtEpoch 0 0) x.pkt.dst)).report 0x502 0 x.pkt.dst else z) = v ∧ (c = .packetRoute src i bad ∨ (bad = false ∧ c = .packetWaitRetry src i)) ∧ v.leaveSource src x = w ∧ v.routeOf src x = .wait) ∧
    (∃ (s : State) (z : State) (src : Fin 17) (i : Nat) (x : QPkt) (bad : Bool) (v : State) (c : Instr) (w : State), ({ s with answer := .none } : State) = z ∧ z.headPacket src i = some x ∧ x.vc ≠ 7 ∧ (if bad = true ∧ z.nodeValid = true ∧ x.pkt.dst < 0x20000 then (z.mismatchAt (Reg.rtrRoute (z.rdF Reg.rtrRtEpoch 0 0) x.pkt.dst)).report 0x502 0 x.pkt.dst else z) = v ∧ (c = .packetRoute src i bad ∨ (bad = false ∧ c = .packetWaitRetry src i)) ∧ v.leaveSource src x = w ∧ v.routeOf src x = .local') ∧
    (∃ (s : State) (z : State) (src : Fin 17) (i : Nat) (x : QPkt) (bad : Bool) (v : State) (c : Instr) (w : State), ({ s with answer := .none } : State) = z ∧ z.headPacket src i = some x ∧ x.vc ≠ 7 ∧ (if bad = true ∧ z.nodeValid = true ∧ x.pkt.dst < 0x20000 then (z.mismatchAt (Reg.rtrRoute (z.rdF Reg.rtrRtEpoch 0 0) x.pkt.dst)).report 0x502 0 x.pkt.dst else z) = v ∧ (c = .packetRoute src i bad ∨ (bad = false ∧ c = .packetWaitRetry src i)) ∧ v.leaveSource src x = w ∧ v.routeOf src x = .ring) ∧
    (∃ (s : State) (z : State) (src : Fin 17) (i : Nat) (x : QPkt) (bad : Bool) (v : State) (c : Instr) (w : State) (y : State) (r : _), ({ s with answer := .none } : State) = z ∧ z.headPacket src i = some x ∧ x.vc ≠ 7 ∧ (if bad = true ∧ z.nodeValid = true ∧ x.pkt.dst < 0x20000 then (z.mismatchAt (Reg.rtrRoute (z.rdF Reg.rtrRtEpoch 0 0) x.pkt.dst)).report 0x502 0 x.pkt.dst else z) = v ∧ (c = .packetRoute src i bad ∨ (bad = false ∧ c = .packetWaitRetry src i)) ∧ v.leaveSource src x = w ∧ y = (if src.val < 16 ∧ x.pkt.mcast = true ∧ x.pkt.cls = 6 ∧ w.nodeValid = true ∧ w.mcastConsumes x.pkt = true then w.toEndpoint x.pkt else w) ∧ v.routeOf src x = .drop r false) ∧
    (∃ (s : State) (z : State) (src : Fin 17) (i : Nat) (x : QPkt) (bad : Bool) (v : State) (c : Instr) (w : State) (y : State) (r : _), ({ s with answer := .none } : State) = z ∧ z.headPacket src i = some x ∧ x.vc ≠ 7 ∧ (if bad = true ∧ z.nodeValid = true ∧ x.pkt.dst < 0x20000 then (z.mismatchAt (Reg.rtrRoute (z.rdF Reg.rtrRtEpoch 0 0) x.pkt.dst)).report 0x502 0 x.pkt.dst else z) = v ∧ (c = .packetRoute src i bad ∨ (bad = false ∧ c = .packetWaitRetry src i)) ∧ v.leaveSource src x = w ∧ y = (if src.val < 16 ∧ x.pkt.mcast = true ∧ x.pkt.cls = 6 ∧ w.nodeValid = true ∧ w.mcastConsumes x.pkt = true then w.toEndpoint x.pkt else w) ∧ v.routeOf src x = .drop r true) ∧
    (∃ (s : State) (z : State) (src : Fin 17) (i : Nat) (x : QPkt) (bad : Bool) (v : State) (c : Instr) (w : State) (y : State), ({ s with answer := .none } : State) = z ∧ z.headPacket src i = some x ∧ x.vc ≠ 7 ∧ (if bad = true ∧ z.nodeValid = true ∧ x.pkt.dst < 0x20000 then (z.mismatchAt (Reg.rtrRoute (z.rdF Reg.rtrRtEpoch 0 0) x.pkt.dst)).report 0x502 0 x.pkt.dst else z) = v ∧ (c = .packetRoute src i bad ∨ (bad = false ∧ c = .packetWaitRetry src i)) ∧ v.leaveSource src x = w ∧ y = (if src.val < 16 ∧ x.pkt.mcast = true ∧ x.pkt.cls = 6 ∧ w.nodeValid = true ∧ w.mcastConsumes x.pkt = true then w.toEndpoint x.pkt else w) ∧ v.routeOf src x = .gone) ∧
    (∃ (s : State) (z : State) (src : Fin 17) (i : Nat) (x : QPkt) (bad : Bool) (v : State) (c : Instr) (w : State) (y : State) (p : _) (q : _), ({ s with answer := .none } : State) = z ∧ z.headPacket src i = some x ∧ x.vc ≠ 7 ∧ (if bad = true ∧ z.nodeValid = true ∧ x.pkt.dst < 0x20000 then (z.mismatchAt (Reg.rtrRoute (z.rdF Reg.rtrRtEpoch 0 0) x.pkt.dst)).report 0x502 0 x.pkt.dst else z) = v ∧ (c = .packetRoute src i bad ∨ (bad = false ∧ c = .packetWaitRetry src i)) ∧ v.leaveSource src x = w ∧ y = (if src.val < 16 ∧ x.pkt.mcast = true ∧ x.pkt.cls = 6 ∧ w.nodeValid = true ∧ w.mcastConsumes x.pkt = true then w.toEndpoint x.pkt else w) ∧ v.routeOf src x = .out p q) ∧
    (∃ (s : State) (z : State) (src : Fin 17) (i : Nat) (x : QPkt) (bad : Bool) (v : State) (c : Instr) (w : State), ({ s with answer := .none } : State) = z ∧ z.headPacket src i = some x ∧ x.vc ≠ 7 ∧ (if bad = true ∧ z.nodeValid = true ∧ x.pkt.dst < 0x20000 then (z.mismatchAt (Reg.rtrRoute (z.rdF Reg.rtrRtEpoch 0 0) x.pkt.dst)).report 0x502 0 x.pkt.dst else z) = v ∧ (c = .packetRoute src i bad ∨ (bad = false ∧ c = .packetWaitRetry src i)) ∧ v.leaveSource src x = w ∧ v.routeOf src x = .refuse ∧ requestOp x.pkt.op = false ∧ x.pkt.op ≠ 0x14) ∧
    (∃ (s : State) (z : State) (src : Fin 17) (x : QPkt) (e : W64), ({ s with answer := .none } : State) = z ∧ src.val < 16 ∧ s.isHn src = false ∧ s.nodeValid = true ∧ 1 ≤ x.vc ∧ x.pkt.domain ≠ 0 ∧ x.pkt.dst < 0x20000 ∧ (x.pkt.mcast && x.pkt.cls == 6) = false ∧ s.routeEntry x.pkt.dst = e ∧ (fld e 22 21 = 0 ∨ fld e 22 21 = 3)) ∧
    (∃ (s : State) (z : State) (src : Fin 17) (x : QPkt) (e : W64), ({ s with answer := .none } : State) = z ∧ src.val < 16 ∧ s.isHn src = false ∧ s.nodeValid = true ∧ 1 ≤ x.vc ∧ x.pkt.domain ≠ 0 ∧ x.pkt.dst < 0x20000 ∧ (x.pkt.mcast && x.pkt.cls == 6) = false ∧ s.routeEntry x.pkt.dst = e ∧ (fld e 22 21 = 1 ∨ fld e 22 21 = 2) ∧ x.pkt.hops ≠ min (fld e 31 24) 63) ∧
    (∃ (s : State) (z : State) (src : Fin 17) (x : QPkt) (e : W64), ({ s with answer := .none } : State) = z ∧ src.val < 16 ∧ s.isHn src = false ∧ s.nodeValid = true ∧ 1 ≤ x.vc ∧ x.pkt.domain ≠ 0 ∧ x.pkt.dst < 0x20000 ∧ (x.pkt.mcast && x.pkt.cls == 6) = false ∧ s.routeEntry x.pkt.dst = e ∧ fld e 22 21 = 2 ∧ x.pkt.hops = min (fld e 31 24) 63) ∧
    (∃ (s : State) (z : State) (src : Fin 17) (x : QPkt) (e : W64), ({ s with answer := .none } : State) = z ∧ src.val < 16 ∧ s.isHn src = false ∧ s.nodeValid = true ∧ 1 ≤ x.vc ∧ x.pkt.domain ≠ 0 ∧ x.pkt.dst < 0x20000 ∧ (x.pkt.mcast && x.pkt.cls == 6) = false ∧ s.routeEntry x.pkt.dst = e ∧ fld e 22 21 = 1 ∧ x.pkt.hops = min (fld e 31 24) 63) ∧
    (∃ (s : State) (z : State) (src : Fin 17), ({ s with answer := .none } : State) = z ∧ s.nodeValid = false ∧ src.val < 16) ∧
    (∃ (s : State) (z : State) (src : Fin 17) (i : Nat) (x : QPkt) (e : W64) (w : State), ({ s with answer := .none } : State) = z ∧ z.headPacket src i = some x ∧ x.vc = 7 ∧ s.nodeValid = true ∧ z.rd (Reg.rtrCircuit src x.pkt.xid) = e ∧ z.leaveSource src x = w ∧ x.pkt.domain = 0) ∧
    (∃ (s : State) (z : State) (src : Fin 17) (i : Nat) (x : QPkt) (e : W64) (w : State), ({ s with answer := .none } : State) = z ∧ z.headPacket src i = some x ∧ x.vc = 7 ∧ s.nodeValid = true ∧ z.rd (Reg.rtrCircuit src x.pkt.xid) = e ∧ z.leaveSource src x = w ∧ x.pkt.domain ≠ 0 ∧ (bitOf e 0 = false ∨ 16 < fld e 5 1 ∨ (fld e 5 1 < 16 ∧ s.isHn (fld e 5 1) = true))) ∧
    (∃ (s : State) (z : State) (src : Fin 17) (i : Nat) (x : QPkt) (e : W64) (w : State), ({ s with answer := .none } : State) = z ∧ z.headPacket src i = some x ∧ x.vc = 7 ∧ s.nodeValid = true ∧ z.rd (Reg.rtrCircuit src x.pkt.xid) = e ∧ z.leaveSource src x = w ∧ x.pkt.domain ≠ 0 ∧ bitOf e 0 = true ∧ fld e 5 1 = 16 ∧ x.pkt.op ≠ 0x17) ∧
    (∃ (s : State) (z : State) (src : Fin 17) (i : Nat) (x : QPkt) (e : W64) (w : State), ({ s with answer := .none } : State) = z ∧ z.headPacket src i = some x ∧ x.vc = 7 ∧ s.nodeValid = true ∧ z.rd (Reg.rtrCircuit src x.pkt.xid) = e ∧ z.leaveSource src x = w ∧ x.pkt.domain ≠ 0 ∧ bitOf e 0 = true ∧ fld e 5 1 = 16 ∧ x.pkt.op = 0x17 ∧ x.pkt.hops ≠ 0) ∧
    (∃ (s : State) (z : State) (src : Fin 17) (i : Nat) (x : QPkt) (e : W64) (w : State), ({ s with answer := .none } : State) = z ∧ z.headPacket src i = some x ∧ x.vc = 7 ∧ s.nodeValid = true ∧ z.rd (Reg.rtrCircuit src x.pkt.xid) = e ∧ z.leaveSource src x = w ∧ x.pkt.domain ≠ 0 ∧ bitOf e 0 = true ∧ fld e 5 1 = 16 ∧ x.pkt.op = 0x17 ∧ x.pkt.hops = 0) ∧
    (∃ (s : State) (z : State) (src : Fin 17) (i : Nat) (x : QPkt) (e : W64) (w : State), ({ s with answer := .none } : State) = z ∧ z.headPacket src i = some x ∧ x.vc = 7 ∧ s.nodeValid = true ∧ z.rd (Reg.rtrCircuit src x.pkt.xid) = e ∧ z.leaveSource src x = w ∧ x.pkt.domain ≠ 0 ∧ bitOf e 0 = true ∧ fld e 5 1 < 16 ∧ s.isHn (fld e 5 1) = false ∧ x.pkt.hops = 0) ∧
    (∃ (s : State) (z : State) (src : Fin 17) (i : Nat) (x : QPkt) (e : W64) (w : State) (y : QPkt), ({ s with answer := .none } : State) = z ∧ z.headPacket src i = some x ∧ x.vc = 7 ∧ s.nodeValid = true ∧ z.rd (Reg.rtrCircuit src x.pkt.xid) = e ∧ z.leaveSource src x = w ∧ x.pkt.domain ≠ 0 ∧ bitOf e 0 = true ∧ fld e 5 1 < 16 ∧ s.isHn (fld e 5 1) = false ∧ x.pkt.hops ≠ 0 ∧ y = { vc := 7, grp := fld e 11 6, dl := fld e 12 12, pkt := { x.pkt with hops := x.pkt.hops - 1 } }) ∧
    (∃ (s : State) (z : State) (ag : Agent) (b : Fin 2) (n : Fin 131072), ({ s with answer := .none } : State) = z ∧ s.csrPath ag (Reg.rtrRoute b n) 8 = .served ∧ ag ≠ .fab) ∧
    (∃ (s : State) (z : State) (ag : Agent) (b : Fin 2) (n : Fin 131072), ({ s with answer := .none } : State) = z ∧ s.csrPath ag (Reg.rtrRoute b n) 8 = .served ∧ ag = .fab ∧ s.rdF Reg.rtrRtEpoch 0 0 = b) ∧
    (∃ (s : State) (z : State) (ag : Agent) (b : Fin 2) (n : Fin 131072), ({ s with answer := .none } : State) = z ∧ s.csrPath ag (Reg.rtrRoute b n) 8 = .served ∧ ag = .fab ∧ s.rdF Reg.rtrRtEpoch 0 0 ≠ b) ∧
    (∃ (s : State) (z : State) (ag : Agent), ({ s with answer := .none } : State) = z ∧ s.csrPath ag Reg.rtrRtEpoch 4 = .served ∧ ag ≠ .fab) ∧
    (∃ (s : State) (z : State) (ag : Agent), ({ s with answer := .none } : State) = z ∧ s.csrPath ag Reg.rtrRtEpoch 4 = .served ∧ ag = .fab) ∧
    (∃ (s : State) (z : State) (ag : Agent), ({ s with answer := .none } : State) = z ∧ s.csrPath ag Reg.rtrNode 8 = .served ∧ ag ≠ .fab) ∧
    (∃ (s : State) (z : State) (ag : Agent), ({ s with answer := .none } : State) = z ∧ s.csrPath ag Reg.rtrNode 8 = .served ∧ ag = .fab) ∧
    (∃ (s : State) (z : State) (ag : Agent) (p : Fin 16) (g : Fin 64) (others : Nat), ({ s with answer := .none } : State) = z ∧ s.csrPath ag (Reg.rtrShare p g) 8 = .served ∧ others = (((List.range 64).filter (fun x => decide (x ≠ g.val))).map (fun x => s.rdF (Reg.rtrShare p x) 6 0)).foldl (· + ·) 0 ∧ ag ≠ .fab) ∧
    (∃ (s : State) (z : State) (ag : Agent) (p : Fin 16) (g : Fin 64) (v : W64) (others : Nat), ({ s with answer := .none } : State) = z ∧ s.csrPath ag (Reg.rtrShare p g) 8 = .served ∧ others = (((List.range 64).filter (fun x => decide (x ≠ g.val))).map (fun x => s.rdF (Reg.rtrShare p x) 6 0)).foldl (· + ·) 0 ∧ ag = .fab ∧ 64 < others + fld v 6 0) ∧
    (∃ (s : State) (z : State) (ag : Agent) (p : Fin 16) (g : Fin 64) (v : W64) (others : Nat), ({ s with answer := .none } : State) = z ∧ s.csrPath ag (Reg.rtrShare p g) 8 = .served ∧ others = (((List.range 64).filter (fun x => decide (x ≠ g.val))).map (fun x => s.rdF (Reg.rtrShare p x) 6 0)).foldl (· + ·) 0 ∧ ag = .fab ∧ others + fld v 6 0 ≤ 64) ∧
    (∃ (s : State) (z : State) (ag : Agent) (t : Fin 17) (id : BitVec 12), ({ s with answer := .none } : State) = z ∧ s.csrPath ag (Reg.rtrCircuit t id.toNat) 8 = .served ∧ ag ≠ .fab) ∧
    (∃ (s : State) (z : State) (ag : Agent) (t : Fin 17) (id : BitVec 12) (v : W64) (m : W64), ({ s with answer := .none } : State) = z ∧ s.csrPath ag (Reg.rtrCircuit t id.toNat) 8 = .served ∧ ag = .fab ∧ v &&& ~~~ fldMask 23 22 = m ∧ s.rdB (Reg.rtrCircuit t id.toNat) 0 = true ∧ bitOf v 0 = false) ∧
    (∃ (s : State) (z : State) (ag : Agent) (t : Fin 17) (id : BitVec 12) (v : W64) (m : W64), ({ s with answer := .none } : State) = z ∧ s.csrPath ag (Reg.rtrCircuit t id.toNat) 8 = .served ∧ ag = .fab ∧ v &&& ~~~ fldMask 23 22 = m ∧ s.rdB (Reg.rtrCircuit t id.toNat) 0 = false ∧ bitOf v 0 = false) ∧
    (∃ (s : State) (z : State) (ag : Agent) (t : Fin 17) (id : BitVec 12) (v : W64) (m : W64), ({ s with answer := .none } : State) = z ∧ s.csrPath ag (Reg.rtrCircuit t id.toNat) 8 = .served ∧ ag = .fab ∧ v &&& ~~~ fldMask 23 22 = m ∧ s.rdB (Reg.rtrCircuit t id.toNat) 0 = true ∧ bitOf v 0 = true ∧ s.rdF (Reg.rtrCircuit t id.toNat) 5 1 = fld m 5 1) ∧
    (∃ (s : State) (z : State) (ag : Agent) (t : Fin 17) (id : BitVec 12) (v : W64) (m : W64), ({ s with answer := .none } : State) = z ∧ s.csrPath ag (Reg.rtrCircuit t id.toNat) 8 = .served ∧ ag = .fab ∧ v &&& ~~~ fldMask 23 22 = m ∧ bitOf v 0 = true ∧ (s.rdB (Reg.rtrCircuit t id.toNat) 0 = false ∨ s.rdF (Reg.rtrCircuit t id.toNat) 5 1 ≠ fld m 5 1) ∧ fld m 5 1 < 16 ∧ s.rdB (Reg.prtStatus (fld m 5 1)) 5 = true) ∧
    (∃ (s : State) (z : State) (ag : Agent) (t : Fin 17) (id : BitVec 12) (v : W64) (m : W64), ({ s with answer := .none } : State) = z ∧ s.csrPath ag (Reg.rtrCircuit t id.toNat) 8 = .served ∧ ag = .fab ∧ v &&& ~~~ fldMask 23 22 = m ∧ bitOf v 0 = true ∧ (∀ p, p < 16 → s.rdB (Reg.prtStatus p) 5 = false)) ∧
    (∃ (s : State) (z : State) (ag : Agent) (t : Fin 17) (id : BitVec 12) (v : W64) (m : W64), ({ s with answer := .none } : State) = z ∧ s.csrPath ag (Reg.rtrCircuit t id.toNat) 8 = .served ∧ ag = .fab ∧ v &&& ~~~ fldMask 23 22 = m ∧ s.rdB (Reg.rtrCircuit t id.toNat) 0 = false ∧ bitOf v 0 = true ∧ t.val < 16 ∧ s.rdB (Reg.prtStatus t) 5 = true) :=
  ⟨⟨allOn, _, 16, 0, ⟨rfl, by decide +kernel⟩⟩,
   ⟨{ allOn with router := { inject := [{ vc := 1, pkt := { domain := 1, dst := 7, hops := 9 } }] } }, _, 16, 0, { vc := 1, pkt := { domain := 1, dst := 7, hops := 9 } }, false, _, .packetWaitRetry 16 0, _, ⟨rfl, by decide +kernel, by decide +kernel, rfl, .inr ⟨rfl, rfl⟩, rfl, by decide +kernel⟩⟩,
   ⟨netOn { inject := [{ vc := 1, pkt := { domain := 1, dst := 7, hops := 9 } }] } (allOn.wr (Reg.rtrRoute 0 7) (2 <<< 21)), _, 16, 0, { vc := 1, pkt := { domain := 1, dst := 7, hops := 9 } }, false, _, .packetRoute 16 0 false, _, ⟨rfl, by decide +kernel, by decide +kernel, rfl, .inl rfl, rfl, by decide +kernel⟩⟩,
   ⟨netOn { inject := [{ vc := 0, pkt := { dst := 0xFFFFF } }] }, _, 16, 0, { vc := 0, pkt := { dst := 0xFFFFF } }, false, _, .packetRoute 16 0 false, _, ⟨rfl, by decide +kernel, by decide +kernel, rfl, .inl rfl, rfl, by decide +kernel⟩⟩,
   ⟨netOn { inject := [{ vc := 1, pkt := { dst := 7 } }] }, _, 16, 0, { vc := 1, pkt := { dst := 7 } }, false, _, .packetRoute 16 0 false, _, _, 6, ⟨rfl, by decide +kernel, by decide +kernel, rfl, .inl rfl, rfl, rfl, by decide +kernel⟩⟩,
   ⟨netOn { inject := [{ vc := 1, pkt := { domain := 1, dst := 7, hops := 9 } }] }, _, 16, 0, { vc := 1, pkt := { domain := 1, dst := 7, hops := 9 } }, false, _, .packetRoute 16 0 false, _, _, 0, ⟨rfl, by decide +kernel, by decide +kernel, rfl, .inl rfl, rfl, rfl, by decide +kernel⟩⟩,
   ⟨portIn 3 1 (fun k => { k with input := [{ vc := 1, pkt := { domain := 1, dst := 7, hops := 9 } }] }), _, 15, 0, { vc := 1, pkt := { domain := 1, dst := 7, hops := 9 } }, false, _, .packetRoute 15 0 false, _, _, ⟨rfl, by decide +kernel, by decide +kernel, rfl, .inl rfl, rfl, rfl, by decide +kernel⟩⟩,
   ⟨netOn { inject := [{ vc := 1, pkt := { domain := 1, dst := 7, hops := 9 } }] } ((portIn 3 1).wr (Reg.rtrRoute 0 7) ((1 <<< 21) ||| 0x8000 ||| (1 <<< 24))), _, 16, 0, { vc := 1, pkt := { domain := 1, dst := 7, hops := 9 } }, false, _, .packetRoute 16 0 false, _, _, 15, { vc := 1, pkt := { domain := 1, dst := 7, hops := 0 } }, ⟨rfl, by decide +kernel, by decide +kernel, rfl, .inl rfl, rfl, rfl, by decide +kernel⟩⟩,
   ⟨netOn { inject := [{ vc := 4, pkt := { domain := 1, dst := 0x20000, op := 0x10 } }] }, _, 16, 0, { vc := 4, pkt := { domain := 1, dst := 0x20000, op := 0x10 } }, false, _, .packetRoute 16 0 false, _, ⟨rfl, by decide +kernel, by decide +kernel, rfl, .inl rfl, rfl, by decide +kernel⟩⟩,
   ⟨netOn {} (allOn.wr (Reg.rtrRoute 0 7) (3 <<< 21)), _, 15, { vc := 1, pkt := { domain := 1, dst := 7, hops := 9 } }, 3 <<< 21, ⟨rfl, by decide +kernel⟩⟩,
   ⟨netOn {} (allOn.wr (Reg.rtrRoute 0 7) (2 <<< 21)), _, 15, { vc := 1, pkt := { domain := 1, dst := 7, hops := 9 } }, 2 <<< 21, ⟨rfl, by decide +kernel⟩⟩,
   ⟨netOn {} (allOn.wr (Reg.rtrRoute 0 7) ((2 <<< 21) ||| (9 <<< 24))), _, 15, { vc := 1, pkt := { domain := 1, dst := 7, hops := 9 } }, (2 <<< 21) ||| (9 <<< 24), ⟨rfl, by decide +kernel⟩⟩,
   ⟨netOn {} (allOn.wr (Reg.rtrRoute 0 7) ((1 <<< 21) ||| (9 <<< 24))), _, 15, { vc := 1, pkt := { domain := 1, dst := 7, hops := 9 } }, (1 <<< 21) ||| (9 <<< 24), ⟨rfl, by decide +kernel⟩⟩,
   ⟨allOn, _, 15, ⟨rfl, by decide +kernel⟩⟩,
   ⟨netOn { inject := [{ vc := 7, pkt := { domain := 0, op := 0, xid := 4095, hops := 1 } }] } (allOn.wr (Reg.rtrCircuit 16 4095) (33)), _, 16, 0, { vc := 7, pkt := { domain := 0, op := 0, xid := 4095, hops := 1 } }, 33, _, ⟨rfl, by decide +kernel, by decide +kernel, by decide +kernel, by decide +kernel, rfl, by decide +kernel⟩⟩,
   ⟨netOn { inject := [{ vc := 7, pkt := { domain := 1, op := 0, xid := 4095, hops := 1 } }] } (allOn.wr (Reg.rtrCircuit 16 4095) (0)), _, 16, 0, { vc := 7, pkt := { domain := 1, op := 0, xid := 4095, hops := 1 } }, 0, _, ⟨rfl, by decide +kernel, by decide +kernel, by decide +kernel, by decide +kernel, rfl, by decide +kernel⟩⟩,
   ⟨netOn { inject := [{ vc := 7, pkt := { domain := 1, op := 0, xid := 4095, hops := 1 } }] } (allOn.wr (Reg.rtrCircuit 16 4095) (33)), _, 16, 0, { vc := 7, pkt := { domain := 1, op := 0, xid := 4095, hops := 1 } }, 33, _, ⟨rfl, by decide +kernel, by decide +kernel, by decide +kernel, by decide +kernel, rfl, by decide +kernel⟩⟩,
   ⟨netOn { inject := [{ vc := 7, pkt := { domain := 1, op := 23, xid := 4095, hops := 1 } }] } (allOn.wr (Reg.rtrCircuit 16 4095) (33)), _, 16, 0, { vc := 7, pkt := { domain := 1, op := 23, xid := 4095, hops := 1 } }, 33, _, ⟨rfl, by decide +kernel, by decide +kernel, by decide +kernel, by decide +kernel, rfl, by decide +kernel⟩⟩,
   ⟨netOn { inject := [{ vc := 7, pkt := { domain := 1, op := 23, xid := 4095, hops := 0 } }] } (allOn.wr (Reg.rtrCircuit 16 4095) (33)), _, 16, 0, { vc := 7, pkt := { domain := 1, op := 23, xid := 4095, hops := 0 } }, 33, _, ⟨rfl, by decide +kernel, by decide +kernel, by decide +kernel, by decide +kernel, rfl, by decide +kernel⟩⟩,
   ⟨netOn { inject := [{ vc := 7, pkt := { domain := 1, op := 0, xid := 4095, hops := 0 } }] } (allOn.wr (Reg.rtrCircuit 16 4095) (31)), _, 16, 0, { vc := 7, pkt := { domain := 1, op := 0, xid := 4095, hops := 0 } }, 31, _, ⟨rfl, by decide +kernel, by decide +kernel, by decide +kernel, by decide +kernel, rfl, by decide +kernel⟩⟩,
   ⟨netOn { inject := [{ vc := 7, pkt := { domain := 1, op := 0, xid := 4095, hops := 1 } }] } (allOn.wr (Reg.rtrCircuit 16 4095) (31)), _, 16, 0, { vc := 7, pkt := { domain := 1, op := 0, xid := 4095, hops := 1 } }, 31, _, _, ⟨rfl, by decide +kernel, by decide +kernel, by decide +kernel, by decide +kernel, rfl, by decide +kernel, by decide +kernel, by decide +kernel, by decide +kernel, by decide +kernel, rfl⟩⟩,
   ⟨allOn, _, .pmc, 1, 131071, ⟨rfl, by decide +kernel⟩⟩,
   ⟨allOn, _, .fab, 0, 131071, ⟨rfl, by decide +kernel⟩⟩,
   ⟨allOn, _, .fab, 1, 131071, ⟨rfl, by decide +kernel⟩⟩,
   ⟨allOn, _, .pmc, ⟨rfl, by decide +kernel⟩⟩,
   ⟨allOn, _, .fab, ⟨rfl, by decide +kernel⟩⟩,
   ⟨allOn, _, .host 0 0, ⟨rfl, by decide +kernel⟩⟩,
   ⟨allOn, _, .fab, ⟨rfl, by decide +kernel⟩⟩,
   ⟨allOn, _, .pmc, 15, 63, 0, ⟨rfl, by decide +kernel⟩⟩,
   ⟨allOn.wr (Reg.rtrShare 15 0) 64, _, .fab, 15, 63, 1, 64, ⟨rfl, by decide +kernel⟩⟩,
   ⟨allOn.wr (Reg.rtrShare 15 0) 63, _, .fab, 15, 63, 1, 63, ⟨rfl, by decide +kernel⟩⟩,
   ⟨allOn, _, .pmc, 16, 4095, ⟨rfl, by decide +kernel⟩⟩,
   ⟨allOn.wr (Reg.rtrCircuit 16 4095) 1, _, .fab, 16, 4095, 0, _, ⟨rfl, by decide +kernel, by decide +kernel, rfl, by decide +kernel⟩⟩,
   ⟨allOn, _, .fab, 16, 4095, 0, _, ⟨rfl, by decide +kernel, by decide +kernel, rfl, by decide +kernel⟩⟩,
   ⟨allOn.wr (Reg.rtrCircuit 16 4095) 1, _, .fab, 16, 4095, 1, _, ⟨rfl, by decide +kernel, by decide +kernel, rfl, by decide +kernel⟩⟩,
   ⟨allOn.wr (Reg.prtStatus 15) 32, _, .fab, 16, 4095, 31, _, ⟨rfl, by decide +kernel, by decide +kernel, rfl, by decide +kernel⟩⟩,
   ⟨allOn, _, .fab, 16, 4095, 31, _, ⟨rfl, by decide +kernel, by decide +kernel, rfl, by decide +kernel, by decide +kernel⟩⟩,
   ⟨allOn.wr (Reg.prtStatus 15) 32, _, .fab, 15, 4095, 33, _, ⟨rfl, by decide +kernel, by decide +kernel, rfl, by decide +kernel⟩⟩⟩

theorem witness_SourcesSendAndRetry :
    (∃ (s : State) (z : State) (dst : BitVec 20) (cls : Fin 8) (key : Nat) (c : SendCtx), ({ s with answer := .none } : State) = z ∧ sendKey dst.toNat cls = key ∧ z.send key = c ∧ (s.nodeValid = false ∨ flowClass cls = false)) ∧
    (∃ (s : State) (z : State) (dst : BitVec 20) (cls : Fin 8) (key : Nat) (c : SendCtx), ({ s with answer := .none } : State) = z ∧ sendKey dst.toNat cls = key ∧ z.send key = c ∧ s.nodeValid = true ∧ flowClass cls = true) ∧
    (∃ (s : State) (z : State) (dst : BitVec 20) (cls : Fin 8) (key : Nat) (c : SendCtx) (v : State) (d : SendCtx), ({ s with answer := .none } : State) = z ∧ sendKey dst.toNat cls = key ∧ z.send key = c ∧ v.send key = d ∧ d.phase = .closed ∧ d.queue = []) ∧
    (∃ (s : State) (z : State) (dst : BitVec 20) (cls : Fin 8) (key : Nat) (c : SendCtx) (v : State) (d : SendCtx) (j : NetJob) (js : List NetJob) (P : Nat), ({ s with answer := .none } : State) = z ∧ sendKey dst.toNat cls = key ∧ z.send key = c ∧ v.send key = d ∧ d.phase = .closed ∧ d.queue = j :: js ∧ P = (v.domainPart j.domain).getD 4 ∧ d.part = none ∧ v.homeOpen (key % 8) (v.sendHome P key) = false) ∧
    (∃ (s : State) (z : State) (dst : BitVec 20) (cls : Fin 8) (key : Nat) (c : SendCtx) (v : State) (d : SendCtx) (j : NetJob) (js : List NetJob) (P : Nat), ({ s with answer := .none } : State) = z ∧ sendKey dst.toNat cls = key ∧ z.send key = c ∧ v.send key = d ∧ d.phase = .closed ∧ d.queue = j :: js ∧ P = (v.domainPart j.domain).getD 4 ∧ v.touch P (2 * key) = none) ∧
    (∃ (s : State) (z : State) (dst : BitVec 20) (cls : Fin 8) (key : Nat) (c : SendCtx) (v : State) (d : SendCtx) (j : NetJob) (js : List NetJob) (P : Nat) (w : State), ({ s with answer := .none } : State) = z ∧ sendKey dst.toNat cls = key ∧ z.send key = c ∧ v.send key = d ∧ d.phase = .closed ∧ d.queue = j :: js ∧ P = (v.domainPart j.domain).getD 4 ∧ (d.part ≠ none ∨ v.homeOpen (key % 8) (v.sendHome P key) = true) ∧ v.touch P (2 * key) = some w) ∧
    (∃ (s : State) (z : State) (dst : BitVec 20) (cls : Fin 8) (key : Nat) (c : SendCtx) (v : State) (d : SendCtx), ({ s with answer := .none } : State) = z ∧ sendKey dst.toNat cls = key ∧ z.send key = c ∧ v.send key = d ∧ (d.phase = .opening ∨ d.phase = .held)) ∧
    (∃ (s : State) (z : State) (dst : BitVec 20) (cls : Fin 8) (key : Nat) (c : SendCtx) (v : State) (d : SendCtx) (j : NetJob) (js : List NetJob), ({ s with answer := .none } : State) = z ∧ sendKey dst.toNat cls = key ∧ z.send key = c ∧ v.send key = d ∧ d.phase = .opened ∧ d.queue = j :: js ∧ d.txns.all (fun t => t.pkts.isEmpty) = true ∧ d.txns.length < 4096 ∧ (v.rd Reg.rtrTxnUsed).toNat < 65536 ∧ (j.mcast = none ∨ d.txns = []) ∧ v.replyRoom j = true) ∧
    (∃ (s : State) (z : State) (dst : BitVec 20) (cls : Fin 8) (key : Nat) (c : SendCtx) (v : State) (d : SendCtx), ({ s with answer := .none } : State) = z ∧ sendKey dst.toNat cls = key ∧ z.send key = c ∧ v.send key = d ∧ d.phase = .opened ∧ d.queue = [] ∧ d.txns.all (fun t => t.pkts.isEmpty) = true) ∧
    (∃ (s : State) (z : State) (dst : BitVec 20) (cls : Fin 8) (key : Nat) (c : SendCtx) (v : State) (d : SendCtx) (t : Txn) (p : Packet) (ps : List Packet), ({ s with answer := .none } : State) = z ∧ sendKey dst.toNat cls = key ∧ z.send key = c ∧ v.send key = d ∧ d.phase = .opened ∧ d.txns.find? (fun t => !t.pkts.isEmpty) = some t ∧ t.pkts = p :: ps ∧ (v.flowHeld key = true ∨ v.rdF Reg.rtrE2e 8 0 * 65536 < (d.unacked.map SentPkt.charge).foldl (· + ·) 0 + packetCharge p ∨ 2048 ≤ d.unacked.length)) ∧
    (∃ (s : State) (z : State) (dst : BitVec 20) (cls : Fin 8) (key : Nat) (c : SendCtx) (v : State) (d : SendCtx) (t : Txn) (p : Packet) (ps : List Packet), ({ s with answer := .none } : State) = z ∧ sendKey dst.toNat cls = key ∧ z.send key = c ∧ v.send key = d ∧ d.phase = .opened ∧ d.txns.find? (fun t => !t.pkts.isEmpty) = some t ∧ t.pkts = p :: ps ∧ v.flowHeld key = false ∧ (d.unacked.map SentPkt.charge).foldl (· + ·) 0 + packetCharge p ≤ v.rdF Reg.rtrE2e 8 0 * 65536 ∧ d.unacked.length < 2048) ∧
    (∃ (s : State) (z : State) (dst : BitVec 20) (cls : Fin 8) (key : Nat) (c : SendCtx), ({ s with answer := .none } : State) = z ∧ sendKey dst.toNat cls = key ∧ z.send key = c ∧ c.phase ≠ .opening ∧ c.unacked.any (fun u => decide (1 + z.rdF Reg.rtrE2e 27 24 ≤ u.sends)) = true) ∧
    (∃ (s : State) (z : State) (dst : BitVec 20) (cls : Fin 8) (key : Nat) (c : SendCtx), ({ s with answer := .none } : State) = z ∧ sendKey dst.toNat cls = key ∧ z.send key = c ∧ c.phase ≠ .opening ∧ c.unacked.any (fun u => decide (1 + z.rdF Reg.rtrE2e 27 24 ≤ u.sends)) = false) ∧
    (∃ (s : State) (z : State) (dst : BitVec 20) (cls : Fin 8) (key : Nat) (c : SendCtx) (u : SentPkt), ({ s with answer := .none } : State) = z ∧ sendKey dst.toNat cls = key ∧ z.send key = c ∧ c.phase = .opening ∧ c.opener = some u ∧ 1 + z.rdF Reg.rtrE2e 27 24 ≤ u.sends) ∧
    (∃ (s : State) (z : State) (dst : BitVec 20) (cls : Fin 8) (key : Nat) (c : SendCtx) (u : SentPkt), ({ s with answer := .none } : State) = z ∧ sendKey dst.toNat cls = key ∧ z.send key = c ∧ c.phase = .opening ∧ c.opener = some u ∧ u.sends < 1 + z.rdF Reg.rtrE2e 27 24) ∧
    (∃ (s : State) (z : State) (dst : BitVec 20) (cls : Fin 8) (key : Nat) (c : SendCtx) (u : SentPkt), ({ s with answer := .none } : State) = z ∧ sendKey dst.toNat cls = key ∧ z.send key = c ∧ c.phase = .opening ∧ c.opener = some u ∧ u.nack = 3) ∧
    (∃ (s : State) (z : State) (dst : BitVec 20) (cls : Fin 8) (key : Nat) (c : SendCtx) (u : SentPkt), ({ s with answer := .none } : State) = z ∧ sendKey dst.toNat cls = key ∧ z.send key = c ∧ c.phase = .opening ∧ c.opener = some u ∧ u.nack = 1) ∧
    (∃ (s : State) (z : State) (dst : BitVec 20) (cls : Fin 8) (key : Nat) (c : SendCtx), ({ s with answer := .none } : State) = z ∧ sendKey dst.toNat cls = key ∧ z.send key = c ∧ c.phase ≠ .opening ∧ c.unacked.find? (fun u => decide (u.nack = 3)) = none) ∧
    (∃ (s : State) (z : State) (dst : BitVec 20) (cls : Fin 8) (key : Nat) (c : SendCtx) (u : SentPkt), ({ s with answer := .none } : State) = z ∧ sendKey dst.toNat cls = key ∧ z.send key = c ∧ c.phase ≠ .opening ∧ c.unacked.find? (fun u => decide (u.nack = 3)) = some u) ∧
    (∃ (s : State) (z : State) (dst : BitVec 20) (cls : Fin 8) (key : Nat) (c : SendCtx) (u : SentPkt), ({ s with answer := .none } : State) = z ∧ sendKey dst.toNat cls = key ∧ z.send key = c ∧ c.phase = .held ∧ c.unacked.find? (fun u => decide (u.nack = 1)) = some u) ∧
    (∃ (s : State) (z : State) (dst : BitVec 20) (cls : Fin 8) (key : Nat) (c : SendCtx), ({ s with answer := .none } : State) = z ∧ sendKey dst.toNat cls = key ∧ z.send key = c ∧ c.phase = .held) ∧
    (∃ (s : State) (z : State) (dst : BitVec 20) (cls : Fin 8) (key : Nat) (c : SendCtx), ({ s with answer := .none } : State) = z ∧ sendKey dst.toNat cls = key ∧ z.send key = c ∧ (c.phase = .opened ∨ c.phase = .closed)) ∧
    (∃ (s : State) (z : State) (dst : BitVec 20) (cls : Fin 8) (key : Nat) (c : SendCtx), ({ s with answer := .none } : State) = z ∧ sendKey dst.toNat cls = key ∧ z.send key = c ∧ z.router.sends.get key = none) ∧
    (∃ (s : State) (z : State) (dst : BitVec 20) (cls : Fin 8) (key : Nat) (c : SendCtx), ({ s with answer := .none } : State) = z ∧ sendKey dst.toNat cls = key ∧ z.send key = c ∧ z.router.sends.get key ≠ none) ∧
    (∃ (s : State) (z : State) (dst : BitVec 20) (cls : Fin 8) (key : Nat) (c : SendCtx), ({ s with answer := .none } : State) = z ∧ sendKey dst.toNat cls = key ∧ z.send key = c ∧ cls = 6 ∧ c.phase = .opening) ∧
    (∃ (s : State) (z : State) (dst : BitVec 20) (cls : Fin 8) (key : Nat) (c : SendCtx), ({ s with answer := .none } : State) = z ∧ sendKey dst.toNat cls = key ∧ z.send key = c ∧ cls = 6 ∧ c.phase ≠ .opening) :=
  ⟨⟨allOn, _, 7, 7, 63, _, ⟨rfl, by decide +kernel, rfl, by decide +kernel⟩⟩,
   ⟨netOn, _, 7, 2, 58, _, ⟨rfl, by decide +kernel, rfl, by decide +kernel⟩⟩,
   ⟨netOn { sends := [(63, some {})] }, _, 7, 7, 63, _, netOn { sends := [(63, some {})] }, _, ⟨rfl, by decide +kernel, rfl, rfl, by decide +kernel⟩⟩,
   ⟨crowded { sends := [(63, some { queue := [{ owner := .firmware, op := 1, domain := 7 }] })] }, _, 7, 7, 63, _, crowded { sends := [(63, some { queue := [{ owner := .firmware, op := 1, domain := 7 }] })] }, { queue := [{ owner := .firmware, op := 1, domain := 7 }] }, { owner := .firmware, op := 1, domain := 7 }, [], 3, ⟨rfl, by decide +kernel, rfl, by decide +kernel, by decide +kernel, by decide +kernel, by decide +kernel, by decide +kernel, crowded_full _ _ _ (by decide) (by decide +kernel)⟩⟩,
   ⟨netOn { sends := [(59, some { queue := [{ owner := .firmware, op := 1, domain := 7 }] })], cache := (List.range 4096).map (fun i => 16 * i + 1606) } ((allOn.wr (Reg.rtrDomain 3) (2 ^ 31 + 7)).wr Reg.secPartMap (2 ^ 19 + 2 ^ 8 + 3)), _, 7, 3, 59, _, netOn { sends := [(59, some { queue := [{ owner := .firmware, op := 1, domain := 7 }] })], cache := (List.range 4096).map (fun i => 16 * i + 1606) } ((allOn.wr (Reg.rtrDomain 3) (2 ^ 31 + 7)).wr Reg.secPartMap (2 ^ 19 + 2 ^ 8 + 3)), _, { owner := .firmware, op := 1, domain := 7 }, [], _, ⟨rfl, by decide +kernel, rfl, rfl, by decide +kernel, by decide +kernel, rfl, by decide +kernel⟩⟩,
   ⟨netOn { sends := [(63, some { queue := [{ owner := .firmware, op := 1, domain := 7 }] })] } ((allOn.wr (Reg.rtrDomain 3) (2 ^ 31 + 7)).wr Reg.secPartMap (2 ^ 19 + 2 ^ 8 + 3)), _, 7, 7, 63, _, netOn { sends := [(63, some { queue := [{ owner := .firmware, op := 1, domain := 7 }] })] } ((allOn.wr (Reg.rtrDomain 3) (2 ^ 31 + 7)).wr Reg.secPartMap (2 ^ 19 + 2 ^ 8 + 3)), _, { owner := .firmware, op := 1, domain := 7 }, [], _, _, ⟨rfl, by decide +kernel, rfl, rfl, by decide +kernel, by decide +kernel, rfl, by decide +kernel, rfl⟩⟩,
   ⟨netOn { sends := [(63, some { phase := .held })] }, _, 7, 7, 63, _, netOn { sends := [(63, some { phase := .held })] }, _, ⟨rfl, by decide +kernel, rfl, rfl, by decide +kernel⟩⟩,
   ⟨netOn { sends := [(63, some { phase := .opened, queue := [{ owner := .firmware, op := 1, domain := 7 }] })] }, _, 7, 7, 63, _, netOn { sends := [(63, some { phase := .opened, queue := [{ owner := .firmware, op := 1, domain := 7 }] })] }, _, { owner := .firmware, op := 1, domain := 7 }, [], ⟨rfl, by decide +kernel, rfl, rfl, by decide +kernel⟩⟩,
   ⟨netOn { sends := [(63, some { phase := .opened })] }, _, 7, 7, 63, _, netOn { sends := [(63, some { phase := .opened })] }, _, ⟨rfl, by decide +kernel, rfl, rfl, by decide +kernel⟩⟩,
   ⟨netOn { sends := [(63, some { phase := .opened, txns := [{ job := { owner := .firmware, op := 1, domain := 1 }, xid := 3, all := [], pkts := [{ op := 2, seq := 9 }] }] })] }, _, 7, 7, 63, _, netOn { sends := [(63, some { phase := .opened, txns := [{ job := { owner := .firmware, op := 1, domain := 1 }, xid := 3, all := [], pkts := [{ op := 2, seq := 9 }] }] })] }, _, { job := { owner := .firmware, op := 1, domain := 1 }, xid := 3, all := [], pkts := [{ op := 2, seq := 9 }] }, { op := 2, seq := 9 }, [], ⟨rfl, by decide +kernel, rfl, rfl, by decide +kernel⟩⟩,
   ⟨(netOn { sends := [(63, some { phase := .opened, txns := [{ job := { owner := .firmware, op := 1, domain := 1 }, xid := 3, all := [], pkts := [{ op := 2, seq := 9 }] }] })] }).wr Reg.rtrE2e 1, _, 7, 7, 63, _, (netOn { sends := [(63, some { phase := .opened, txns := [{ job := { owner := .firmware, op := 1, domain := 1 }, xid := 3, all := [], pkts := [{ op := 2, seq := 9 }] }] })] }).wr Reg.rtrE2e 1, _, { job := { owner := .firmware, op := 1, domain := 1 }, xid := 3, all := [], pkts := [{ op := 2, seq := 9 }] }, { op := 2, seq := 9 }, [], ⟨rfl, by decide +kernel, rfl, rfl, by decide +kernel⟩⟩,
   ⟨netOn { sends := [(63, some { phase := .opened, unacked := [{ pkt := { op := 2, seq := 9 }, charge := 256, sends := 1, nack := 0 }] })] }, _, 7, 7, 63, _, ⟨rfl, by decide +kernel, rfl, by decide +kernel⟩⟩,
   ⟨netOn { sends := [(63, some { phase := .opened, unacked := [{ pkt := { op := 2, seq := 9 }, charge := 256, sends := 0, nack := 0 }] })] }, _, 7, 7, 63, _, ⟨rfl, by decide +kernel, rfl, by decide +kernel⟩⟩,
   ⟨netOn { sends := [(63, some { phase := .opening, opener := some { pkt := { op := 2, seq := 9 }, charge := 256, sends := 1, nack := 0 } })] }, _, 7, 7, 63, _, { pkt := { op := 2, seq := 9 }, charge := 256, sends := 1, nack := 0 }, ⟨rfl, by decide +kernel, rfl, by decide +kernel⟩⟩,
   ⟨netOn { sends := [(63, some { phase := .opening, opener := some { pkt := { op := 2, seq := 9 }, charge := 256, sends := 0, nack := 0 } })] }, _, 7, 7, 63, _, { pkt := { op := 2, seq := 9 }, charge := 256, sends := 0, nack := 0 }, ⟨rfl, by decide +kernel, rfl, by decide +kernel⟩⟩,
   ⟨netOn { sends := [(63, some { phase := .opening, opener := some { pkt := { op := 2, seq := 9 }, charge := 256, sends := 1, nack := 3 } })] }, _, 7, 7, 63, _, { pkt := { op := 2, seq := 9 }, charge := 256, sends := 1, nack := 3 }, ⟨rfl, by decide +kernel, rfl, by decide +kernel⟩⟩,
   ⟨netOn { sends := [(63, some { phase := .opening, opener := some { pkt := { op := 2, seq := 9 }, charge := 256, sends := 1, nack := 1 } })] }, _, 7, 7, 63, _, { pkt := { op := 2, seq := 9 }, charge := 256, sends := 1, nack := 1 }, ⟨rfl, by decide +kernel, rfl, by decide +kernel⟩⟩,
   ⟨netOn { sends := [(63, some { phase := .opened })] }, _, 7, 7, 63, _, ⟨rfl, by decide +kernel, rfl, by decide +kernel⟩⟩,
   ⟨netOn { sends := [(63, some { phase := .opened, unacked := [{ pkt := { op := 2, seq := 9 }, charge := 256, sends := 1, nack := 3 }] })] }, _, 7, 7, 63, _, { pkt := { op := 2, seq := 9 }, charge := 256, sends := 1, nack := 3 }, ⟨rfl, by decide +kernel, rfl, by decide +kernel⟩⟩,
   ⟨netOn { sends := [(63, some { phase := .held, unacked := [{ pkt := { op := 2, seq := 9 }, charge := 256, sends := 1, nack := 1 }] })] }, _, 7, 7, 63, _, { pkt := { op := 2, seq := 9 }, charge := 256, sends := 1, nack := 1 }, ⟨rfl, by decide +kernel, rfl, by decide +kernel⟩⟩,
   ⟨netOn { sends := [(63, some { phase := .held })] }, _, 7, 7, 63, _, ⟨rfl, by decide +kernel, rfl, by decide +kernel⟩⟩,
   ⟨netOn { sends := [(63, some { phase := .opened })] }, _, 7, 7, 63, _, ⟨rfl, by decide +kernel, rfl, by decide +kernel⟩⟩,
   ⟨netOn, _, 7, 7, 63, _, ⟨rfl, by decide +kernel, rfl, by decide +kernel⟩⟩,
   ⟨netOn { sends := [(63, some {})] }, _, 7, 7, 63, _, ⟨rfl, by decide +kernel, rfl, by decide +kernel⟩⟩,
   ⟨netOn { sends := [(62, some { phase := .opening })] }, _, 7, 6, 62, _, ⟨rfl, by decide +kernel, rfl, by decide +kernel⟩⟩,
   ⟨netOn { sends := [(62, some { phase := .opened })] }, _, 7, 6, 62, _, ⟨rfl, by decide +kernel, rfl, by decide +kernel⟩⟩⟩

theorem witness_DestinationsServeRequests :
    (∃ (s : State) (z : State) (op : Nat) (c : Instr) (bad : Bool), ({ s with answer := .none } : State) = z ∧ (op, c) ∈ [(1, Instr.wrdesc bad), (2, .wrdata bad), (3, .rdreq bad), (5, .atomic bad), (7, .dbell bad), (9, .contrib bad)] ∧ s.router.arrived.find? (fun p => decide (p.op = op)) = none) ∧
    (∃ (s : State) (z : State) (op : Nat) (c : Instr) (bad : Bool) (p : Packet) (v : State), ({ s with answer := .none } : State) = z ∧ (op, c) ∈ [(1, Instr.wrdesc bad), (2, .wrdata bad), (3, .rdreq bad), (5, .atomic bad), (7, .dbell bad), (9, .contrib bad)] ∧ s.router.arrived.find? (fun p => decide (p.op = op)) = some p ∧ (z.updRouter (fun r => { r with arrived := r.arrived.erase p })).checkDomain p bad = v ∧ v.pwr.warm = true) ∧
    (∃ (s : State) (z : State) (op : Nat) (c : Instr) (bad : Bool) (p : Packet) (v : State), ({ s with answer := .none } : State) = z ∧ (op, c) ∈ [(1, Instr.wrdesc bad), (2, .wrdata bad), (3, .rdreq bad), (5, .atomic bad), (7, .dbell bad), (9, .contrib bad)] ∧ s.router.arrived.find? (fun p => decide (p.op = op)) = some p ∧ (z.updRouter (fun r => { r with arrived := r.arrived.erase p })).checkDomain p bad = v ∧ v.pwr.warm = false ∧ v.domainPart p.domain = none) ∧
    (∃ (s : State) (z : State) (op : Nat) (c : Instr) (bad : Bool) (p : Packet) (v : State) (P : _), ({ s with answer := .none } : State) = z ∧ (op, c) ∈ [(1, Instr.wrdesc bad), (2, .wrdata bad), (3, .rdreq bad), (5, .atomic bad), (7, .dbell bad), (9, .contrib bad)] ∧ s.router.arrived.find? (fun p => decide (p.op = op)) = some p ∧ (z.updRouter (fun r => { r with arrived := r.arrived.erase p })).checkDomain p bad = v ∧ v.pwr.warm = false ∧ v.domainPart p.domain = some P ∧ (v.router.resetting.contains P || v.rdF Reg.pmcState 1 0 == 1) = true) ∧
    (∃ (s : State) (z : State) (op : Nat) (c : Instr) (bad : Bool) (p : Packet) (v : State) (P : _), ({ s with answer := .none } : State) = z ∧ (op, c) ∈ [(1, Instr.wrdesc bad), (2, .wrdata bad), (3, .rdreq bad), (5, .atomic bad), (7, .dbell bad), (9, .contrib bad)] ∧ s.router.arrived.find? (fun p => decide (p.op = op)) = some p ∧ (z.updRouter (fun r => { r with arrived := r.arrived.erase p })).checkDomain p bad = v ∧ v.pwr.warm = false ∧ v.domainPart p.domain = some P ∧ (v.router.resetting.contains P || v.rdF Reg.pmcState 1 0 == 1) = false ∧ v.recv (recvKey p) = none) ∧
    (∃ (s : State) (z : State) (op : Nat) (c : Instr) (bad : Bool) (p : Packet) (v : State) (P : _) (cx : _), ({ s with answer := .none } : State) = z ∧ (op, c) ∈ [(1, Instr.wrdesc bad), (2, .wrdata bad), (3, .rdreq bad), (5, .atomic bad), (7, .dbell bad), (9, .contrib bad)] ∧ s.router.arrived.find? (fun p => decide (p.op = op)) = some p ∧ (z.updRouter (fun r => { r with arrived := r.arrived.erase p })).checkDomain p bad = v ∧ v.pwr.warm = false ∧ v.domainPart p.domain = some P ∧ (v.router.resetting.contains P || v.rdF Reg.pmcState 1 0 == 1) = false ∧ v.recv (recvKey p) = some cx ∧ v.touch P (2 * recvKey p + 1) = none) ∧
    (∃ (s : State) (z : State) (op : Nat) (c : Instr) (bad : Bool) (p : Packet) (v : State) (P : _) (cx : _) (w : State) (cy : RecvCtx), ({ s with answer := .none } : State) = z ∧ (op, c) ∈ [(1, Instr.wrdesc bad), (2, .wrdata bad), (3, .rdreq bad), (5, .atomic bad), (7, .dbell bad), (9, .contrib bad)] ∧ s.router.arrived.find? (fun p => decide (p.op = op)) = some p ∧ (z.updRouter (fun r => { r with arrived := r.arrived.erase p })).checkDomain p bad = v ∧ v.pwr.warm = false ∧ v.domainPart p.domain = some P ∧ (v.router.resetting.contains P || v.rdF Reg.pmcState 1 0 == 1) = false ∧ v.recv (recvKey p) = some cx ∧ v.touch P (2 * recvKey p + 1) = some w ∧ w.recv (recvKey p) = some cy ∧ cy.recorded p.seq = true) ∧
    (∃ (s : State) (z : State) (op : Nat) (c : Instr) (bad : Bool) (p : Packet) (v : State) (P : _) (cx : _) (w : State) (cy : RecvCtx), ({ s with answer := .none } : State) = z ∧ (op, c) ∈ [(1, Instr.wrdesc bad), (2, .wrdata bad), (3, .rdreq bad), (5, .atomic bad), (7, .dbell bad), (9, .contrib bad)] ∧ s.router.arrived.find? (fun p => decide (p.op = op)) = some p ∧ (z.updRouter (fun r => { r with arrived := r.arrived.erase p })).checkDomain p bad = v ∧ v.pwr.warm = false ∧ v.domainPart p.domain = some P ∧ (v.router.resetting.contains P || v.rdF Reg.pmcState 1 0 == 1) = false ∧ v.recv (recvKey p) = some cx ∧ v.touch P (2 * recvKey p + 1) = some w ∧ w.recv (recvKey p) = some cy ∧ cy.recorded p.seq = false) ∧
    (∃ (s : State) (z : State) (v : State) (key : Nat) (p : Packet) (cx : RecvCtx), ({ s with answer := .none } : State) = z ∧ v.recv key = some cx ∧ p.mcast = true ∧ p.op ≠ 1 ∧ p.op ≠ 2) ∧
    (∃ (s : State) (z : State) (v : State) (key : Nat) (P : Nat) (p : Packet) (cx : RecvCtx), ({ s with answer := .none } : State) = z ∧ v.recv key = some cx ∧ (p.mcast = true → p.op = 1 ∨ p.op = 2) ∧ p.fence = true ∧ (cx.cum + 1) % 2 ^ 32 ≠ p.seq ∧ v.heelAccess cx P p = false) ∧
    (∃ (s : State) (z : State) (v : State) (key : Nat) (P : Nat) (p : Packet) (cx : RecvCtx), ({ s with answer := .none } : State) = z ∧ v.recv key = some cx ∧ (p.mcast = true → p.op = 1 ∨ p.op = 2) ∧ p.fence = true ∧ (cx.cum + 1) % 2 ^ 32 ≠ p.seq ∧ v.heelAccess cx P p = true) ∧
    (∃ (s : State) (z : State) (v : State) (key : Nat) (P : Nat) (p : Packet) (cx : RecvCtx) (h : Nat) (off : Nat) (len : Nat), ({ s with answer := .none } : State) = z ∧ v.recv key = some cx ∧ (p.mcast = true → p.op = 1 ∨ p.op = 2) ∧ (p.fence = true → (cx.cum + 1) % 2 ^ 32 = p.seq) ∧ p.op = 1 ∧ h = bodyNat p.payload 0 3 ∧ off = bodyNat p.payload 8 8 ∧ len = bodyNat p.payload 16 4 ∧ v.handleOk (.remote P) h off len true = false) ∧
    (∃ (s : State) (z : State) (v : State) (key : Nat) (P : Nat) (p : Packet) (cx : RecvCtx) (h : Nat) (off : Nat) (len : Nat), ({ s with answer := .none } : State) = z ∧ v.recv key = some cx ∧ (p.mcast = true → p.op = 1 ∨ p.op = 2) ∧ (p.fence = true → (cx.cum + 1) % 2 ^ 32 = p.seq) ∧ p.op = 1 ∧ h = bodyNat p.payload 0 3 ∧ off = bodyNat p.payload 8 8 ∧ len = bodyNat p.payload 16 4 ∧ v.handleOk (.remote P) h off len true = true) ∧
    (∃ (s : State) (z : State) (v : State) (key : Nat) (p : Packet) (cx : RecvCtx), ({ s with answer := .none } : State) = z ∧ v.recv key = some cx ∧ (p.mcast = true → p.op = 1 ∨ p.op = 2) ∧ (p.fence = true → (cx.cum + 1) % 2 ^ 32 = p.seq) ∧ p.op = 2 ∧ cx.writeOf p.seq = none) ∧
    (∃ (s : State) (z : State) (v : State) (key : Nat) (p : Packet) (cx : RecvCtx) (w : _) (k : _), ({ s with answer := .none } : State) = z ∧ v.recv key = some cx ∧ (p.mcast = true → p.op = 1 ∨ p.op = 2) ∧ (p.fence = true → (cx.cum + 1) % 2 ^ 32 = p.seq) ∧ p.op = 2 ∧ cx.writeOf p.seq = some (w, k)) ∧
    (∃ (s : State) (z : State) (v : State) (key : Nat) (P : Nat) (p : Packet) (cx : RecvCtx), ({ s with answer := .none } : State) = z ∧ v.recv key = some cx ∧ (p.mcast = true → p.op = 1 ∨ p.op = 2) ∧ (p.fence = true → (cx.cum + 1) % 2 ^ 32 = p.seq) ∧ p.op = 3 ∧ (v.serveRead P p).2 = true) ∧
    (∃ (s : State) (z : State) (v : State) (key : Nat) (P : Nat) (p : Packet) (cx : RecvCtx), ({ s with answer := .none } : State) = z ∧ v.recv key = some cx ∧ (p.mcast = true → p.op = 1 ∨ p.op = 2) ∧ (p.fence = true → (cx.cum + 1) % 2 ^ 32 = p.seq) ∧ p.op = 3 ∧ (v.serveRead P p).2 = false) ∧
    (∃ (s : State) (z : State) (v : State) (key : Nat) (P : Nat) (p : Packet) (cx : RecvCtx) (a : Nat) (b : Nat) (h : Nat) (off : Nat) (aop : Nat) (x : Nat) (y : Nat) (old : Nat) (new : Nat), ({ s with answer := .none } : State) = z ∧ v.recv key = some cx ∧ (p.mcast = true → p.op = 1 ∨ p.op = 2) ∧ (p.fence = true → (cx.cum + 1) % 2 ^ 32 = p.seq) ∧ p.op = 5 ∧ h = bodyNat p.payload 0 3 ∧ aop = bodyNat p.payload 3 1 ∧ off = bodyNat p.payload 8 8 ∧ x = bodyNat p.payload 16 8 ∧ y = bodyNat p.payload 24 8 ∧ v.resolve (.remote P) h off 8 true = some a ∧ v.resolve (.remote P) h off 8 false = some b ∧ 1 ≤ aop ∧ aop ≤ 3 ∧ off % 8 = 0 ∧ v.replyOpen P = true ∧ old = v.readNat a 8 ∧ new = (if aop = 1 then old + x else if aop = 2 then x else if old = x then y else old) ∧ aop = 3 ∧ old ≠ x) ∧
    (∃ (s : State) (z : State) (v : State) (key : Nat) (P : Nat) (p : Packet) (cx : RecvCtx) (a : Nat) (b : Nat) (h : Nat) (off : Nat) (aop : Nat) (x : Nat) (y : Nat) (old : Nat) (new : Nat), ({ s with answer := .none } : State) = z ∧ v.recv key = some cx ∧ (p.mcast = true → p.op = 1 ∨ p.op = 2) ∧ (p.fence = true → (cx.cum + 1) % 2 ^ 32 = p.seq) ∧ p.op = 5 ∧ h = bodyNat p.payload 0 3 ∧ aop = bodyNat p.payload 3 1 ∧ off = bodyNat p.payload 8 8 ∧ x = bodyNat p.payload 16 8 ∧ y = bodyNat p.payload 24 8 ∧ v.resolve (.remote P) h off 8 true = some a ∧ v.resolve (.remote P) h off 8 false = some b ∧ 1 ≤ aop ∧ aop ≤ 3 ∧ off % 8 = 0 ∧ v.replyOpen P = true ∧ old = v.readNat a 8 ∧ new = (if aop = 1 then old + x else if aop = 2 then x else if old = x then y else old) ∧ (aop ≠ 3 ∨ old = x)) ∧
    (∃ (s : State) (z : State) (v : State) (key : Nat) (P : Nat) (p : Packet) (cx : RecvCtx), ({ s with answer := .none } : State) = z ∧ v.recv key = some cx ∧ (p.mcast = true → p.op = 1 ∨ p.op = 2) ∧ (p.fence = true → (cx.cum + 1) % 2 ^ 32 = p.seq) ∧ p.op = 7 ∧ v.replyOpen P = true) ∧
    (∃ (s : State) (z : State) (v : State) (key : Nat) (P : Nat) (p : Packet) (cx : RecvCtx), ({ s with answer := .none } : State) = z ∧ v.recv key = some cx ∧ (p.mcast = true → p.op = 1 ∨ p.op = 2) ∧ (p.fence = true → (cx.cum + 1) % 2 ^ 32 = p.seq) ∧ p.op = 7 ∧ v.replyOpen P = false) ∧
    (∃ (s : State) (z : State) (v : State) (key : Nat) (p : Packet) (cx : RecvCtx), ({ s with answer := .none } : State) = z ∧ v.recv key = some cx ∧ (p.mcast = true → p.op = 1 ∨ p.op = 2) ∧ (p.fence = true → (cx.cum + 1) % 2 ^ 32 = p.seq) ∧ p.op = 9) ∧
    (∃ (s : State) (z : State) (src : BitVec 20) (cls : Fin 8) (final : Option (BitVec 20)) (key : Nat) (own : Nat), ({ s with answer := .none } : State) = z ∧ flowKey src cls final = key ∧ src.toNat * 8 + cls.val = own ∧ z.recv own = none) ∧
    (∃ (s : State) (z : State) (src : BitVec 20) (cls : Fin 8) (final : Option (BitVec 20)) (key : Nat) (own : Nat) (c : RecvCtx), ({ s with answer := .none } : State) = z ∧ flowKey src cls final = key ∧ src.toNat * 8 + cls.val = own ∧ z.recv own = some c ∧ c.unacked = 0) ∧
    (∃ (s : State) (z : State) (src : BitVec 20) (cls : Fin 8) (final : Option (BitVec 20)) (key : Nat) (own : Nat) (c : RecvCtx), ({ s with answer := .none } : State) = z ∧ flowKey src cls final = key ∧ src.toNat * 8 + cls.val = own ∧ z.recv own = some c ∧ 0 < c.unacked) ∧
    (∃ (s : State) (z : State) (src : BitVec 20) (cls : Fin 8) (final : Option (BitVec 20)) (key : Nat) (own : Nat), ({ s with answer := .none } : State) = z ∧ flowKey src cls final = key ∧ src.toNat * 8 + cls.val = own ∧ z.recv key = none) ∧
    (∃ (s : State) (z : State) (src : BitVec 20) (cls : Fin 8) (final : Option (BitVec 20)) (key : Nat) (own : Nat) (c : RecvCtx) (p : _), ({ s with answer := .none } : State) = z ∧ flowKey src cls final = key ∧ src.toNat * 8 + cls.val = own ∧ z.recv key = some c ∧ c.held.find? (fun p => (!p.fence || (c.cum + 1) % 2 ^ 32 == p.seq) && (p.op ≠ 2 || (c.writeOf p.seq).isSome)) = some p) ∧
    (∃ (s : State) (z : State) (src : BitVec 20) (cls : Fin 8) (final : Option (BitVec 20)) (key : Nat) (own : Nat), ({ s with answer := .none } : State) = z ∧ flowKey src cls final = key ∧ src.toNat * 8 + cls.val = own ∧ z.router.recvs.find? (fun e => e.1 % 2 ^ 23 == own && z.recvRests e.1) = none) ∧
    (∃ (s : State) (z : State) (src : BitVec 20) (cls : Fin 8) (final : Option (BitVec 20)) (key : Nat) (own : Nat) (e : _), ({ s with answer := .none } : State) = z ∧ flowKey src cls final = key ∧ src.toNat * 8 + cls.val = own ∧ z.router.recvs.find? (fun e => e.1 % 2 ^ 23 == own && z.recvRests e.1) = some e) ∧
    (∃ (s : State) (z : State), ({ s with answer := .none } : State) = z ∧ s.router.arrived.find? (fun p => decide (p.op = 0x14)) = none) ∧
    (∃ (s : State) (z : State) (p : Packet) (v : State), ({ s with answer := .none } : State) = z ∧ s.router.arrived.find? (fun p => decide (p.op = 0x14)) = some p ∧ z.updRouter (fun r => { r with arrived := r.arrived.erase p }) = v ∧ v.domainPart p.domain = none) ∧
    (∃ (s : State) (z : State) (p : Packet) (v : State) (P : _), ({ s with answer := .none } : State) = z ∧ s.router.arrived.find? (fun p => decide (p.op = 0x14)) = some p ∧ z.updRouter (fun r => { r with arrived := r.arrived.erase p }) = v ∧ v.domainPart p.domain = some P ∧ v.router.resetting.contains P = true) ∧
    (∃ (s : State) (z : State) (p : Packet) (v : State) (P : _), ({ s with answer := .none } : State) = z ∧ s.router.arrived.find? (fun p => decide (p.op = 0x14)) = some p ∧ z.updRouter (fun r => { r with arrived := r.arrived.erase p }) = v ∧ v.domainPart p.domain = some P ∧ v.router.resetting.contains P = false ∧ v.recv (recvKey p) = none ∧ v.homeOpen p.cls (v.recvHome P (recvKey p)) = false) ∧
    (∃ (s : State) (z : State) (p : Packet) (v : State) (P : _), ({ s with answer := .none } : State) = z ∧ s.router.arrived.find? (fun p => decide (p.op = 0x14)) = some p ∧ z.updRouter (fun r => { r with arrived := r.arrived.erase p }) = v ∧ v.domainPart p.domain = some P ∧ v.router.resetting.contains P = false ∧ v.touch P (2 * recvKey p + 1) = none) ∧
    (∃ (s : State) (z : State) (p : Packet) (v : State) (P : _) (w : State) (t : State), ({ s with answer := .none } : State) = z ∧ s.router.arrived.find? (fun p => decide (p.op = 0x14)) = some p ∧ z.updRouter (fun r => { r with arrived := r.arrived.erase p }) = v ∧ v.domainPart p.domain = some P ∧ v.router.resetting.contains P = false ∧ (v.recv (recvKey p) ≠ none ∨ v.homeOpen p.cls (v.recvHome P (recvKey p)) = true) ∧ v.touch P (2 * recvKey p + 1) = some w ∧ (w.updRouter (fun r => { r with recvs := r.recvs.set (recvKey p) (some { cum := sub32 p.seq 1, part := P }), replies := r.replies.filter (fun e => e.1 ≠ recvKey p) })).gauges = t ∧ p.mcast = false) ∧
    (∃ (s : State) (z : State) (p : Packet) (v : State) (P : _) (w : State) (t : State), ({ s with answer := .none } : State) = z ∧ s.router.arrived.find? (fun p => decide (p.op = 0x14)) = some p ∧ z.updRouter (fun r => { r with arrived := r.arrived.erase p }) = v ∧ v.domainPart p.domain = some P ∧ v.router.resetting.contains P = false ∧ (v.recv (recvKey p) ≠ none ∨ v.homeOpen p.cls (v.recvHome P (recvKey p)) = true) ∧ v.touch P (2 * recvKey p + 1) = some w ∧ (w.updRouter (fun r => { r with recvs := r.recvs.set (recvKey p) (some { cum := sub32 p.seq 1, part := P }), replies := r.replies.filter (fun e => e.1 ≠ recvKey p) })).gauges = t ∧ p.mcast = true) ∧
    (∃ (s : State) (z : State), ({ s with answer := .none } : State) = z ∧ s.router.arrived.find? (fun p => decide (p.op = 0x13)) = none) ∧
    (∃ (s : State) (z : State) (p : Packet) (v : State), ({ s with answer := .none } : State) = z ∧ s.router.arrived.find? (fun p => decide (p.op = 0x13)) = some p ∧ z.updRouter (fun r => { r with arrived := r.arrived.erase p }) = v ∧ v.domainPart p.domain = none) ∧
    (∃ (s : State) (z : State) (p : Packet) (v : State), ({ s with answer := .none } : State) = z ∧ s.router.arrived.find? (fun p => decide (p.op = 0x13)) = some p ∧ z.updRouter (fun r => { r with arrived := r.arrived.erase p }) = v ∧ v.domainPart p.domain ≠ none) :=
  ⟨⟨netOn, _, 1, .wrdesc true, true, ⟨rfl, by simp, by decide +kernel⟩⟩,
   ⟨(netOn { arrived := [{ src := 2, cls := 7, domain := 7, op := 2 }] } (allOn.wr (Reg.rtrDomain 3) (2 ^ 31 + 7))).updPwr (fun w => { w with warm := true }), _, 2, .wrdata false, false, { src := 2, cls := 7, domain := 7, op := 2 }, _, ⟨rfl, by decide +kernel, by decide +kernel, rfl, by decide +kernel⟩⟩,
   ⟨netOn { arrived := [{ src := 2, cls := 7, domain := 7, op := 2 }] }, _, 2, .wrdata false, false, { src := 2, cls := 7, domain := 7, op := 2 }, _, ⟨rfl, by decide +kernel, by decide +kernel, rfl, by decide +kernel⟩⟩,
   ⟨netOn { arrived := [{ src := 2, cls := 7, domain := 7, op := 2 }], resetting := [3] } (allOn.wr (Reg.rtrDomain 3) (2 ^ 31 + 7)), _, 2, .wrdata false, false, { src := 2, cls := 7, domain := 7, op := 2 }, _, 3, ⟨rfl, by decide +kernel, by decide +kernel, rfl, by decide +kernel⟩⟩,
   ⟨netOn { arrived := [{ src := 2, cls := 7, domain := 7, op := 2 }] } (allOn.wr (Reg.rtrDomain 3) (2 ^ 31 + 7)), _, 2, .wrdata false, false, { src := 2, cls := 7, domain := 7, op := 2 }, _, 3, ⟨rfl, by decide +kernel, by decide +kernel, rfl, by decide +kernel⟩⟩,
   ⟨netOn { arrived := [{ src := 2, cls := 3, domain := 7, op := 2 }], cache := (List.range 4096).map (fun i => 16 * i + 1607), recvs := [(19, some { cum := 4 })] } (allOn.wr (Reg.rtrDomain 3) (2 ^ 31 + 7)), _, 2, .wrdata false, false, { src := 2, cls := 3, domain := 7, op := 2 }, _, 3, { cum := 4 }, ⟨rfl, by decide +kernel, by decide +kernel, rfl, by decide +kernel⟩⟩,
   ⟨netOn { arrived := [{ src := 2, cls := 7, domain := 7, op := 2, seq := 4 }], recvs := [(23, some { cum := 4 })] } (allOn.wr (Reg.rtrDomain 3) (2 ^ 31 + 7)), _, 2, .wrdata false, false, { src := 2, cls := 7, domain := 7, op := 2, seq := 4 }, _, 3, { cum := 4 }, _, { cum := 4 }, ⟨rfl, by decide +kernel, by decide +kernel, rfl, by decide +kernel, by decide +kernel, by decide +kernel, by decide +kernel, rfl, by decide +kernel⟩⟩,
   ⟨netOn { arrived := [{ src := 2, cls := 7, domain := 7, op := 2, seq := 5 }], recvs := [(23, some { cum := 4 })] } (allOn.wr (Reg.rtrDomain 3) (2 ^ 31 + 7)), _, 2, .wrdata false, false, { src := 2, cls := 7, domain := 7, op := 2, seq := 5 }, _, 3, { cum := 4 }, _, { cum := 4 }, ⟨rfl, by decide +kernel, by decide +kernel, rfl, by decide +kernel, by decide +kernel, by decide +kernel, by decide +kernel, rfl, by decide +kernel⟩⟩,
   ⟨netOn { recvs := [(23, some { cum := 4 })] } allOn, _, netOn { recvs := [(23, some { cum := 4 })] } allOn, 23, { mcast := true, seq := 5, op := 3 }, { cum := 4 }, ⟨rfl, by decide +kernel⟩⟩,
   ⟨netOn { recvs := [(23, some { cum := 4 })] } handled, _, netOn { recvs := [(23, some { cum := 4 })] } handled, 23, 3, { fence := true, seq := 9, op := 1, payload := leBytes 3 0x10005 ++ leBytes 5 0 ++ leBytes 8 0 ++ leBytes 4 64 }, { cum := 4 }, ⟨rfl, by decide +kernel⟩⟩,
   ⟨netOn { recvs := [(23, some { cum := 4 })] } handled, _, netOn { recvs := [(23, some { cum := 4 })] } handled, 23, 0, { fence := true, seq := 9, op := 1, payload := leBytes 3 0x10005 ++ leBytes 5 0 ++ leBytes 8 0 ++ leBytes 4 64 }, { cum := 4 }, ⟨rfl, by decide +kernel⟩⟩,
   ⟨netOn { recvs := [(23, some { cum := 4 })] } handled, _, netOn { recvs := [(23, some { cum := 4 })] } handled, 23, 3, { fence := true, seq := 5, op := 1, payload := leBytes 3 0x10005 ++ leBytes 5 0 ++ leBytes 8 0 ++ leBytes 4 64 }, { cum := 4 }, 0x10005, 0, 64, ⟨rfl, by decide +kernel⟩⟩,
   ⟨netOn { recvs := [(23, some { cum := 4 })] } handled, _, netOn { recvs := [(23, some { cum := 4 })] } handled, 23, 0, { fence := true, seq := 5, op := 1, payload := leBytes 3 0x10005 ++ leBytes 5 0 ++ leBytes 8 0 ++ leBytes 4 64 }, { cum := 4 }, 0x10005, 0, 64, ⟨rfl, by decide +kernel⟩⟩,
   ⟨netOn { recvs := [(23, some { cum := 4 })] } allOn, _, netOn { recvs := [(23, some { cum := 4 })] } allOn, 23, { seq := 5, op := 2 }, { cum := 4 }, ⟨rfl, by decide +kernel⟩⟩,
   ⟨netOn { recvs := [(23, some { cum := 4, writes := [{ seq := 5, handle := 0x10005, offset := 0, len := 64, packets := 1, notify := none, part := 0, left := 1 }] })] } allOn, _, netOn { recvs := [(23, some { cum := 4, writes := [{ seq := 5, handle := 0x10005, offset := 0, len := 64, packets := 1, notify := none, part := 0, left := 1 }] })] } allOn, 23, { seq := 6, op := 2 }, { cum := 4, writes := [{ seq := 5, handle := 0x10005, offset := 0, len := 64, packets := 1, notify := none, part := 0, left := 1 }] }, { seq := 5, handle := 0x10005, offset := 0, len := 64, packets := 1, notify := none, part := 0, left := 1 }, 0, ⟨rfl, by decide +kernel⟩⟩,
   ⟨netOn { recvs := [(23, some { cum := 4 })] } handled, _, netOn { recvs := [(23, some { cum := 4 })] } handled, 23, 0, { seq := 5, op := 3, payload := leBytes 3 0x10005 ++ leBytes 1 0 ++ leBytes 4 64 ++ leBytes 8 0x1FFFC0 }, { cum := 4 }, ⟨rfl, by decide +kernel⟩⟩,
   ⟨netOn { recvs := [(23, some { cum := 4 })] } handled, _, netOn { recvs := [(23, some { cum := 4 })] } handled, 23, 3, { seq := 5, op := 3, payload := leBytes 3 0x10005 ++ leBytes 1 0 ++ leBytes 4 64 ++ leBytes 8 0x1FFFC0 }, { cum := 4 }, ⟨rfl, by decide +kernel⟩⟩,
   ⟨netOn { recvs := [(23, some { cum := 4 })] } handled, _, netOn { recvs := [(23, some { cum := 4 })] } handled, 23, 0, { seq := 5, op := 5, payload := leBytes 3 0x10005 ++ leBytes 1 3 ++ leBytes 4 0 ++ leBytes 8 0x1FFFF8 ++ leBytes 8 5 ++ leBytes 8 6 }, { cum := 4 }, 11 * 0x1000000000 + 32767 * 0x200000 + 0x1FFFF8, 11 * 0x1000000000 + 32767 * 0x200000 + 0x1FFFF8, 0x10005, 0x1FFFF8, 3, 5, 6, 0, 0, ⟨rfl, by decide +kernel⟩⟩,
   ⟨netOn { recvs := [(23, some { cum := 4 })] } handled, _, netOn { recvs := [(23, some { cum := 4 })] } handled, 23, 0, { seq := 5, op := 5, payload := leBytes 3 0x10005 ++ leBytes 1 3 ++ leBytes 4 0 ++ leBytes 8 0x1FFFF8 ++ leBytes 8 0 ++ leBytes 8 6 }, { cum := 4 }, 11 * 0x1000000000 + 32767 * 0x200000 + 0x1FFFF8, 11 * 0x1000000000 + 32767 * 0x200000 + 0x1FFFF8, 0x10005, 0x1FFFF8, 3, 0, 6, 0, 6, ⟨rfl, by decide +kernel⟩⟩,
   ⟨netOn { recvs := [(23, some { cum := 4 })] } allOn, _, netOn { recvs := [(23, some { cum := 4 })] } allOn, 23, 0, { seq := 5, op := 7 }, { cum := 4 }, ⟨rfl, by decide +kernel⟩⟩,
   ⟨crammed, _, crammed, 23, 3, { seq := 5, op := 7 }, { cum := 4, part := 3 }, ⟨rfl, by decide +kernel, by decide +kernel, by decide +kernel, by decide +kernel, crammed_full⟩⟩,
   ⟨netOn { recvs := [(23, some { cum := 4 })] } allOn, _, netOn { recvs := [(23, some { cum := 4 })] } allOn, 23, { seq := 5, op := 9 }, { cum := 4 }, ⟨rfl, by decide +kernel⟩⟩,
   ⟨netOn, _, 2, 7, none, 23, 23, ⟨rfl, by decide +kernel⟩⟩,
   ⟨netOn { recvs := [(23, some { cum := 4 })] }, _, 2, 7, none, 23, 23, { cum := 4 }, ⟨rfl, by decide +kernel⟩⟩,
   ⟨netOn { recvs := [(23, some { unacked := 1 })] }, _, 2, 7, none, 23, 23, { unacked := 1 }, ⟨rfl, by decide +kernel⟩⟩,
   ⟨netOn, _, 2, 6, some 9, 83886102, 22, ⟨rfl, by decide +kernel⟩⟩,
   ⟨netOn { recvs := [(23, some { cum := 4, held := [{ op := 3, fence := true, seq := 5 }] })] }, _, 2, 7, none, 23, 23, { cum := 4, held := [{ op := 3, fence := true, seq := 5 }] }, { op := 3, fence := true, seq := 5 }, ⟨rfl, by decide +kernel⟩⟩,
   ⟨netOn { recvs := [(23, some { above := [9] })] }, _, 2, 7, none, 23, 23, ⟨rfl, by decide +kernel⟩⟩,
   ⟨netOn { recvs := [(23, some { cum := 4 })] }, _, 2, 7, none, 23, 23, (23, some { cum := 4 }), ⟨rfl, by decide +kernel⟩⟩,
   ⟨netOn, _, ⟨rfl, by decide +kernel⟩⟩,
   ⟨netOn { arrived := [{ src := 2, cls := 7, domain := 7, op := 0x14 }] }, _, { src := 2, cls := 7, domain := 7, op := 0x14 }, _, ⟨rfl, by decide +kernel, rfl, by decide +kernel⟩⟩,
   ⟨netOn { arrived := [{ src := 2, cls := 7, domain := 7, op := 0x14 }], resetting := [3] } (allOn.wr (Reg.rtrDomain 3) (2 ^ 31 + 7)), _, { src := 2, cls := 7, domain := 7, op := 0x14 }, _, 3, ⟨rfl, by decide +kernel, rfl, by decide +kernel⟩⟩,
   ⟨crowded { arrived := [{ src := 0, cls := 7, domain := 7, op := 0x14 }] }, _, { src := 0, cls := 7, domain := 7, op := 0x14 }, crowded {}, 3, ⟨rfl, by decide +kernel, rfl, by decide +kernel, by decide +kernel, by decide +kernel, crowded_full _ _ _ (by decide) (by decide +kernel)⟩⟩,
   ⟨netOn { arrived := [{ src := 2, cls := 3, domain := 7, op := 0x14 }], cache := (List.range 4096).map (fun i => 16 * i + 1607) } (allOn.wr (Reg.rtrDomain 3) (2 ^ 31 + 7)), _, { src := 2, cls := 3, domain := 7, op := 0x14 }, _, 3, ⟨rfl, by decide +kernel, rfl, by decide +kernel⟩⟩,
   ⟨netOn { arrived := [{ src := 2, cls := 7, domain := 7, op := 0x14 }] } (allOn.wr (Reg.rtrDomain 3) (2 ^ 31 + 7)), _, { src := 2, cls := 7, domain := 7, op := 0x14 }, _, 3, _, _, ⟨rfl, by decide +kernel, rfl, by decide +kernel, by decide +kernel, by decide +kernel, rfl, rfl, by decide +kernel⟩⟩,
   ⟨netOn { arrived := [{ src := 2, cls := 7, domain := 7, op := 0x14, mcast := true }] } (allOn.wr (Reg.rtrDomain 3) (2 ^ 31 + 7)), _, { src := 2, cls := 7, domain := 7, op := 0x14, mcast := true }, _, 3, _, _, ⟨rfl, by decide +kernel, rfl, by decide +kernel, by decide +kernel, by decide +kernel, rfl, rfl, by decide +kernel⟩⟩,
   ⟨netOn, _, ⟨rfl, by decide +kernel⟩⟩,
   ⟨netOn { arrived := [{ op := 0x13 }] }, _, { op := 0x13 }, _, ⟨rfl, by decide +kernel, rfl, by decide +kernel⟩⟩,
   ⟨netOn { arrived := [{ domain := 7, op := 0x13 }] } (allOn.wr (Reg.rtrDomain 3) (2 ^ 31 + 7)), _, { domain := 7, op := 0x13 }, _, ⟨rfl, by decide +kernel, rfl, by decide +kernel⟩⟩⟩

theorem witness_AnswersCompleteTransactions :
    (∃ (s : State) (z : State) (op : Nat) (i : Instr), ({ s with answer := .none } : State) = z ∧ (op, i) ∈ [(0x10, Instr.ack), (0x11, .nack), (0x12, .loss), (0x15, .mack), (4, .rddata), (6, .atomrsp), (8, .dback), (0xA, .contribrsp), (0x18, .cdown)] ∧ s.router.arrived.find? (fun p => decide (p.op = op)) = none) ∧
    (∃ (s : State) (z : State) (p : Packet) (v : State) (op : Nat) (i : Instr), ({ s with answer := .none } : State) = z ∧ z.updRouter (fun r => { r with arrived := r.arrived.erase p }) = v ∧ v.domainPart p.domain = none ∧ (op, i) ∈ [(0x10, Instr.ack), (0x11, .nack), (0x12, .loss), (0x15, .mack), (4, .rddata), (6, .atomrsp), (8, .dback), (0xA, .contribrsp), (0x18, .cdown)] ∧ s.router.arrived.find? (fun p => decide (p.op = op)) = some p) ∧
    (∃ (s : State) (z : State) (p : Packet) (v : State) (key : Nat) (c : SendCtx), ({ s with answer := .none } : State) = z ∧ z.updRouter (fun r => { r with arrived := r.arrived.erase p }) = v ∧ v.domainPart p.domain ≠ none ∧ sendKey p.src p.cls = key ∧ v.send key = c ∧ s.router.arrived.find? (fun p => decide (p.op = 0x10)) = some p ∧ v.router.sends.get key = none) ∧
    (∃ (s : State) (z : State) (p : Packet) (v : State) (key : Nat) (c : SendCtx), ({ s with answer := .none } : State) = z ∧ z.updRouter (fun r => { r with arrived := r.arrived.erase p }) = v ∧ v.domainPart p.domain ≠ none ∧ sendKey p.src p.cls = key ∧ v.send key = c ∧ s.router.arrived.find? (fun p => decide (p.op = 0x10)) = some p ∧ v.router.sends.get key ≠ none ∧ c.phase = .opening ∧ (p.seq + 1) % 2 ^ 32 = c.resetSeq) ∧
    (∃ (s : State) (z : State) (p : Packet) (v : State) (key : Nat) (c : SendCtx), ({ s with answer := .none } : State) = z ∧ z.updRouter (fun r => { r with arrived := r.arrived.erase p }) = v ∧ v.domainPart p.domain ≠ none ∧ sendKey p.src p.cls = key ∧ v.send key = c ∧ s.router.arrived.find? (fun p => decide (p.op = 0x10)) = some p ∧ v.router.sends.get key ≠ none ∧ c.phase = .opening ∧ (p.seq + 1) % 2 ^ 32 ≠ c.resetSeq) ∧
    (∃ (s : State) (z : State) (p : Packet) (v : State) (key : Nat) (c : SendCtx) (w : State), ({ s with answer := .none } : State) = z ∧ z.updRouter (fun r => { r with arrived := r.arrived.erase p }) = v ∧ v.domainPart p.domain ≠ none ∧ sendKey p.src p.cls = key ∧ v.send key = c ∧ s.router.arrived.find? (fun p => decide (p.op = 0x10)) = some p ∧ v.router.sends.get key ≠ none ∧ c.phase ≠ .opening ∧ (if 0 < p.xid then v.echoRate key else v) = w) ∧
    (∃ (s : State) (z : State) (p : Packet) (v : State) (key : Nat) (c : SendCtx) (reason : _) (u : _), ({ s with answer := .none } : State) = z ∧ z.updRouter (fun r => { r with arrived := r.arrived.erase p }) = v ∧ v.domainPart p.domain ≠ none ∧ sendKey p.src p.cls = key ∧ v.send key = c ∧ s.router.arrived.find? (fun p => decide (p.op = 0x11)) = some p ∧ reason = bodyNat p.payload 0 1 ∧ c.phase = .opening ∧ c.opener = some u ∧ u.pkt.seq = p.seq ∧ (reason = 4 ∨ reason = 5)) ∧
    (∃ (s : State) (z : State) (p : Packet) (v : State) (key : Nat) (c : SendCtx) (reason : _) (u : _), ({ s with answer := .none } : State) = z ∧ z.updRouter (fun r => { r with arrived := r.arrived.erase p }) = v ∧ v.domainPart p.domain ≠ none ∧ sendKey p.src p.cls = key ∧ v.send key = c ∧ s.router.arrived.find? (fun p => decide (p.op = 0x11)) = some p ∧ reason = bodyNat p.payload 0 1 ∧ c.phase = .opening ∧ c.opener = some u ∧ u.pkt.seq = p.seq ∧ reason ≠ 4 ∧ reason ≠ 5) ∧
    (∃ (s : State) (z : State) (p : Packet) (v : State) (key : Nat) (c : SendCtx) (reason : _), ({ s with answer := .none } : State) = z ∧ z.updRouter (fun r => { r with arrived := r.arrived.erase p }) = v ∧ v.domainPart p.domain ≠ none ∧ sendKey p.src p.cls = key ∧ v.send key = c ∧ s.router.arrived.find? (fun p => decide (p.op = 0x11)) = some p ∧ reason = bodyNat p.payload 0 1 ∧ c.phase ≠ .opening ∧ c.unacked.any (fun x => decide (x.pkt.seq = p.seq)) = false) ∧
    (∃ (s : State) (z : State) (p : Packet) (v : State) (key : Nat) (c : SendCtx) (reason : _) (w : State), ({ s with answer := .none } : State) = z ∧ z.updRouter (fun r => { r with arrived := r.arrived.erase p }) = v ∧ v.domainPart p.domain ≠ none ∧ sendKey p.src p.cls = key ∧ v.send key = c ∧ s.router.arrived.find? (fun p => decide (p.op = 0x11)) = some p ∧ reason = bodyNat p.payload 0 1 ∧ c.phase ≠ .opening ∧ c.unacked.any (fun x => decide (x.pkt.seq = p.seq)) = true ∧ v.updSend key (fun c => { c with unacked := c.unacked.map (fun x => if x.pkt.seq = p.seq then { x with nack := reason } else x) }) = w ∧ reason = 1) ∧
    (∃ (s : State) (z : State) (p : Packet) (v : State) (key : Nat) (c : SendCtx) (reason : _) (w : State), ({ s with answer := .none } : State) = z ∧ z.updRouter (fun r => { r with arrived := r.arrived.erase p }) = v ∧ v.domainPart p.domain ≠ none ∧ sendKey p.src p.cls = key ∧ v.send key = c ∧ s.router.arrived.find? (fun p => decide (p.op = 0x11)) = some p ∧ reason = bodyNat p.payload 0 1 ∧ c.phase ≠ .opening ∧ c.unacked.any (fun x => decide (x.pkt.seq = p.seq)) = true ∧ v.updSend key (fun c => { c with unacked := c.unacked.map (fun x => if x.pkt.seq = p.seq then { x with nack := reason } else x) }) = w ∧ reason = 2) ∧
    (∃ (s : State) (z : State) (p : Packet) (v : State) (key : Nat) (c : SendCtx) (reason : _) (w : State), ({ s with answer := .none } : State) = z ∧ z.updRouter (fun r => { r with arrived := r.arrived.erase p }) = v ∧ v.domainPart p.domain ≠ none ∧ sendKey p.src p.cls = key ∧ v.send key = c ∧ s.router.arrived.find? (fun p => decide (p.op = 0x11)) = some p ∧ reason = bodyNat p.payload 0 1 ∧ c.phase ≠ .opening ∧ c.unacked.any (fun x => decide (x.pkt.seq = p.seq)) = true ∧ v.updSend key (fun c => { c with unacked := c.unacked.map (fun x => if x.pkt.seq = p.seq then { x with nack := reason } else x) }) = w ∧ reason = 3) ∧
    (∃ (s : State) (z : State) (p : Packet) (v : State) (key : Nat) (c : SendCtx) (reason : _) (w : State), ({ s with answer := .none } : State) = z ∧ z.updRouter (fun r => { r with arrived := r.arrived.erase p }) = v ∧ v.domainPart p.domain ≠ none ∧ sendKey p.src p.cls = key ∧ v.send key = c ∧ s.router.arrived.find? (fun p => decide (p.op = 0x11)) = some p ∧ reason = bodyNat p.payload 0 1 ∧ c.phase ≠ .opening ∧ c.unacked.any (fun x => decide (x.pkt.seq = p.seq)) = true ∧ v.updSend key (fun c => { c with unacked := c.unacked.map (fun x => if x.pkt.seq = p.seq then { x with nack := reason } else x) }) = w ∧ 4 ≤ reason) ∧
    (∃ (s : State) (z : State) (p : Packet) (v : State) (key : Nat) (c : SendCtx) (u : _), ({ s with answer := .none } : State) = z ∧ z.updRouter (fun r => { r with arrived := r.arrived.erase p }) = v ∧ v.domainPart p.domain ≠ none ∧ sendKey p.src p.cls = key ∧ v.send key = c ∧ s.router.arrived.find? (fun p => decide (p.op = 0x12)) = some p ∧ c.unacked.find? (fun u => decide (u.pkt.seq = p.seq)) = some u) ∧
    (∃ (s : State) (z : State) (p : Packet) (v : State) (key : Nat) (c : SendCtx), ({ s with answer := .none } : State) = z ∧ z.updRouter (fun r => { r with arrived := r.arrived.erase p }) = v ∧ v.domainPart p.domain ≠ none ∧ sendKey p.src p.cls = key ∧ v.send key = c ∧ s.router.arrived.find? (fun p => decide (p.op = 0x12)) = some p ∧ c.unacked.find? (fun u => decide (u.pkt.seq = p.seq)) = none) ∧
    (∃ (s : State) (z : State) (p : Packet) (v : State) (key : Nat) (c : SendCtx) (j : NetJob) (d : Nat) (sel : Nat) (hops : Nat) (expect : Nat) (m : Nat), ({ s with answer := .none } : State) = z ∧ z.updRouter (fun r => { r with arrived := r.arrived.erase p }) = v ∧ v.domainPart p.domain ≠ none ∧ sendKey p.src p.cls = key ∧ v.send key = c ∧ s.router.arrived.find? (fun p => decide (p.op = 0x15)) = some p ∧ c.phase = .opening ∧ ((c.txns.map Txn.job) ++ c.queue).head? = some j ∧ j.mcast = some (d, sel, hops, expect) ∧ m = c.openMacks ||| 2 ^ (p.xid % 64) ∧ m &&& expect = expect) ∧
    (∃ (s : State) (z : State) (p : Packet) (v : State) (key : Nat) (c : SendCtx) (j : NetJob) (d : Nat) (sel : Nat) (hops : Nat) (expect : Nat) (m : Nat), ({ s with answer := .none } : State) = z ∧ z.updRouter (fun r => { r with arrived := r.arrived.erase p }) = v ∧ v.domainPart p.domain ≠ none ∧ sendKey p.src p.cls = key ∧ v.send key = c ∧ s.router.arrived.find? (fun p => decide (p.op = 0x15)) = some p ∧ c.phase = .opening ∧ ((c.txns.map Txn.job) ++ c.queue).head? = some j ∧ j.mcast = some (d, sel, hops, expect) ∧ m = c.openMacks ||| 2 ^ (p.xid % 64) ∧ m &&& expect ≠ expect) ∧
    (∃ (s : State) (z : State) (p : Packet) (v : State) (key : Nat) (c : SendCtx) (t : Txn) (d : Nat) (sel : Nat) (hops : Nat) (expect : Nat) (m : Nat), ({ s with answer := .none } : State) = z ∧ z.updRouter (fun r => { r with arrived := r.arrived.erase p }) = v ∧ v.domainPart p.domain ≠ none ∧ sendKey p.src p.cls = key ∧ v.send key = c ∧ s.router.arrived.find? (fun p => decide (p.op = 0x15)) = some p ∧ c.phase ≠ .opening ∧ c.txns.head? = some t ∧ t.job.mcast = some (d, sel, hops, expect) ∧ t.pkts = [] ∧ m = (if seqLe (sub32 (t.firstSeq + t.all.length) 1) p.seq then t.macks ||| 2 ^ (p.xid % 64) else t.macks) ∧ m &&& expect = expect) ∧
    (∃ (s : State) (z : State) (p : Packet) (v : State) (key : Nat) (c : SendCtx) (t : Txn) (d : Nat) (sel : Nat) (hops : Nat) (expect : Nat) (m : Nat), ({ s with answer := .none } : State) = z ∧ z.updRouter (fun r => { r with arrived := r.arrived.erase p }) = v ∧ v.domainPart p.domain ≠ none ∧ sendKey p.src p.cls = key ∧ v.send key = c ∧ s.router.arrived.find? (fun p => decide (p.op = 0x15)) = some p ∧ c.phase ≠ .opening ∧ c.txns.head? = some t ∧ t.job.mcast = some (d, sel, hops, expect) ∧ t.pkts = [] ∧ m = (if seqLe (sub32 (t.firstSeq + t.all.length) 1) p.seq then t.macks ||| 2 ^ (p.xid % 64) else t.macks) ∧ m &&& expect ≠ expect) ∧
    (∃ (s : State) (z : State) (p : Packet) (v : State) (key : Nat) (c : SendCtx) (e : State) (t : Txn), ({ s with answer := .none } : State) = z ∧ z.updRouter (fun r => { r with arrived := r.arrived.erase p }) = v ∧ v.domainPart p.domain ≠ none ∧ sendKey p.src p.cls = key ∧ v.send key = c ∧ v.replyEcho p = e ∧ e.txnOf p = some t ∧ s.router.arrived.find? (fun p => decide (p.op = 6)) = some p ∧ t.job.op = 5) ∧
    (∃ (s : State) (z : State) (p : Packet) (v : State) (key : Nat) (c : SendCtx) (e : State) (t : Txn), ({ s with answer := .none } : State) = z ∧ z.updRouter (fun r => { r with arrived := r.arrived.erase p }) = v ∧ v.domainPart p.domain ≠ none ∧ sendKey p.src p.cls = key ∧ v.send key = c ∧ v.replyEcho p = e ∧ e.txnOf p = some t ∧ s.router.arrived.find? (fun p => decide (p.op = 8)) = some p ∧ t.job.op = 7) ∧
    (∃ (s : State) (z : State) (p : Packet) (v : State) (key : Nat) (c : SendCtx) (e : State) (t : Txn) (m : _) (d : _) (g : _) (peer : _), ({ s with answer := .none } : State) = z ∧ z.updRouter (fun r => { r with arrived := r.arrived.erase p }) = v ∧ v.domainPart p.domain ≠ none ∧ sendKey p.src p.cls = key ∧ v.send key = c ∧ v.replyEcho p = e ∧ e.txnOf p = some t ∧ s.router.arrived.find? (fun p => decide (p.op = 0xA)) = some p ∧ t.job.op = 9 ∧ t.job.owner = .clx m ∧ d = t.job.payload.drop (t.job.payload.length - 64) ∧ g = bodyNat d 0 1 % 8 ∧ peer = ((List.range (e.grpK m g)).find? (fun j => decide (e.grpPeer m g j = p.src))).getD 64) ∧
    (∃ (s : State) (z : State) (p : Packet) (v : State) (key : Nat) (c : SendCtx) (e : State) (t : Txn) (ps : _), ({ s with answer := .none } : State) = z ∧ z.updRouter (fun r => { r with arrived := r.arrived.erase p }) = v ∧ v.domainPart p.domain ≠ none ∧ sendKey p.src p.cls = key ∧ v.send key = c ∧ v.replyEcho p = e ∧ e.txnOf p = some t ∧ s.router.arrived.find? (fun p => decide (p.op = 4)) = some p ∧ ps = piecesFrom t.job.store t.job.len ∧ (t.job.op ≠ 3 ∨ t.got.contains p.seq = true ∨ packetsFor ps.length ≤ p.seq)) ∧
    (∃ (s : State) (z : State) (p : Packet) (v : State) (key : Nat) (c : SendCtx) (e : State) (t : Txn) (ps : _) (x0 : Nat × Nat) (x1 : Nat × Nat) (w : State) (got : List Nat) (y : State), ({ s with answer := .none } : State) = z ∧ z.updRouter (fun r => { r with arrived := r.arrived.erase p }) = v ∧ v.domainPart p.domain ≠ none ∧ sendKey p.src p.cls = key ∧ v.send key = c ∧ v.replyEcho p = e ∧ e.txnOf p = some t ∧ s.router.arrived.find? (fun p => decide (p.op = 4)) = some p ∧ ps = piecesFrom t.job.store t.job.len ∧ t.job.op = 3 ∧ t.got.contains p.seq = false ∧ p.seq < packetsFor ps.length ∧ x0 = (ps[2 * p.seq]?).getD (0, 0) ∧ x1 = (ps[2 * p.seq + 1]?).getD (0, 0) ∧ (∀ q tok, t.job.owner = .dmx q tok → w = (e.landPiece (t.job.store + x0.1) (p.payload.take x0.2) p.check0).landPiece (t.job.store + x1.1) (p.payload.drop x0.2) p.check1) ∧ (∀ slot, t.job.owner = .seal slot → w = e.updRouter (fun r => { r with sealData := r.sealData ++ [(slot, t.job.store + x0.1, p.payload)] })) ∧ (∀ m, t.job.owner = .clx m → w = e) ∧ (t.job.owner = .firmware → w = e.updRouter (fun r => { r with replyArea := r.replyArea ++ [(key, t.xid, x0.1, p.payload)] })) ∧ got = t.got ++ [p.seq] ∧ w.updSend key (fun c => { c with txns := c.txns.map (fun x => if x.xid = t.xid then { x with got := got } else x) }) = y ∧ got.length = packetsFor ps.length) ∧
    (∃ (s : State) (z : State) (p : Packet) (v : State) (key : Nat) (c : SendCtx) (e : State) (t : Txn) (ps : _) (x0 : Nat × Nat) (x1 : Nat × Nat) (w : State) (got : List Nat) (y : State), ({ s with answer := .none } : State) = z ∧ z.updRouter (fun r => { r with arrived := r.arrived.erase p }) = v ∧ v.domainPart p.domain ≠ none ∧ sendKey p.src p.cls = key ∧ v.send key = c ∧ v.replyEcho p = e ∧ e.txnOf p = some t ∧ s.router.arrived.find? (fun p => decide (p.op = 4)) = some p ∧ ps = piecesFrom t.job.store t.job.len ∧ t.job.op = 3 ∧ t.got.contains p.seq = false ∧ p.seq < packetsFor ps.length ∧ x0 = (ps[2 * p.seq]?).getD (0, 0) ∧ x1 = (ps[2 * p.seq + 1]?).getD (0, 0) ∧ (∀ q tok, t.job.owner = .dmx q tok → w = (e.landPiece (t.job.store + x0.1) (p.payload.take x0.2) p.check0).landPiece (t.job.store + x1.1) (p.payload.drop x0.2) p.check1) ∧ (∀ slot, t.job.owner = .seal slot → w = e.updRouter (fun r => { r with sealData := r.sealData ++ [(slot, t.job.store + x0.1, p.payload)] })) ∧ (∀ m, t.job.owner = .clx m → w = e) ∧ (t.job.owner = .firmware → w = e.updRouter (fun r => { r with replyArea := r.replyArea ++ [(key, t.xid, x0.1, p.payload)] })) ∧ got = t.got ++ [p.seq] ∧ w.updSend key (fun c => { c with txns := c.txns.map (fun x => if x.xid = t.xid then { x with got := got } else x) }) = y ∧ got.length ≠ packetsFor ps.length) ∧
    (∃ (s : State) (z : State) (p : Packet) (v : State) (key : Nat) (c : SendCtx) (e : State) (op : Nat) (i : Instr), ({ s with answer := .none } : State) = z ∧ z.updRouter (fun r => { r with arrived := r.arrived.erase p }) = v ∧ v.domainPart p.domain ≠ none ∧ sendKey p.src p.cls = key ∧ v.send key = c ∧ v.replyEcho p = e ∧ e.txnOf p = none ∧ (op, i) ∈ [(4, .rddata), (6, .atomrsp), (8, .dback), (0xA, .contribrsp)] ∧ s.router.arrived.find? (fun p => decide (p.op = op)) = some p) ∧
    (∃ (s : State) (z : State) (p : Packet) (v : State) (key : Nat) (c : SendCtx), ({ s with answer := .none } : State) = z ∧ z.updRouter (fun r => { r with arrived := r.arrived.erase p }) = v ∧ v.domainPart p.domain ≠ none ∧ sendKey p.src p.cls = key ∧ v.send key = c ∧ s.router.arrived.find? (fun p => decide (p.op = 0x18)) = some p) :=
  ⟨⟨netOn, _, 0x18, .cdown, ⟨rfl, by simp, by decide +kernel⟩⟩,
   ⟨netOn { arrived := [{ src := 7, cls := 7, op := 16 }] }, _, { src := 7, cls := 7, op := 16 }, _, 16, .ack, ⟨rfl, rfl, by decide +kernel, by simp, by decide +kernel⟩⟩,
   ⟨netOn { arrived := [{ src := 7, cls := 7, domain := 7, op := 16 }] } (allOn.wr (Reg.rtrDomain 3) (2 ^ 31 + 7)), _, { src := 7, cls := 7, domain := 7, op := 16 }, _, 63, _, ⟨rfl, rfl, by decide +kernel, by decide +kernel, rfl, by decide +kernel⟩⟩,
   ⟨netOn { arrived := [{ src := 7, cls := 7, domain := 7, op := 16, seq := 9 }], sends := [(63, some { phase := .opening, resetSeq := 10 })] } (allOn.wr (Reg.rtrDomain 3) (2 ^ 31 + 7)), _, { src := 7, cls := 7, domain := 7, op := 16, seq := 9 }, _, 63, _, ⟨rfl, rfl, by decide +kernel, by decide +kernel, rfl, by decide +kernel⟩⟩,
   ⟨netOn { arrived := [{ src := 7, cls := 7, domain := 7, op := 16, seq := 10 }], sends := [(63, some { phase := .opening, resetSeq := 10 })] } (allOn.wr (Reg.rtrDomain 3) (2 ^ 31 + 7)), _, { src := 7, cls := 7, domain := 7, op := 16, seq := 10 }, _, 63, _, ⟨rfl, rfl, by decide +kernel, by decide +kernel, rfl, by decide +kernel⟩⟩,
   ⟨netOn { arrived := [{ src := 7, cls := 7, domain := 7, op := 16, seq := 9, xid := 1 }], sends := [(63, some { phase := .opened, unacked := [{ pkt := { op := 2, seq := 9 }, charge := 256 }] })] } (allOn.wr (Reg.rtrDomain 3) (2 ^ 31 + 7)), _, { src := 7, cls := 7, domain := 7, op := 16, seq := 9, xid := 1 }, _, 63, _, _, ⟨rfl, rfl, by decide +kernel, by decide +kernel, rfl, by decide +kernel, by decide +kernel, by decide +kernel, rfl⟩⟩,
   ⟨netOn { arrived := [{ src := 7, cls := 7, domain := 7, op := 17, seq := 9, payload := [5] }], sends := [(63, some { phase := .opening, opener := some { pkt := { op := 2, seq := 9 }, charge := 256 } })] } (allOn.wr (Reg.rtrDomain 3) (2 ^ 31 + 7)), _, { src := 7, cls := 7, domain := 7, op := 17, seq := 9, payload := [5] }, _, 63, _, 5, { pkt := { op := 2, seq := 9 }, charge := 256 }, ⟨rfl, rfl, by decide +kernel, by decide +kernel, rfl, by decide +kernel⟩⟩,
   ⟨netOn { arrived := [{ src := 7, cls := 7, domain := 7, op := 17, seq := 9, payload := [3] }], sends := [(63, some { phase := .opening, opener := some { pkt := { op := 2, seq := 9 }, charge := 256 } })] } (allOn.wr (Reg.rtrDomain 3) (2 ^ 31 + 7)), _, { src := 7, cls := 7, domain := 7, op := 17, seq := 9, payload := [3] }, _, 63, _, 3, { pkt := { op := 2, seq := 9 }, charge := 256 }, ⟨rfl, rfl, by decide +kernel, by decide +kernel, rfl, by decide +kernel⟩⟩,
   ⟨netOn { arrived := [{ src := 7, cls := 7, domain := 7, op := 17, seq := 9, payload := [3] }], sends := [(63, some { phase := .opened })] } (allOn.wr (Reg.rtrDomain 3) (2 ^ 31 + 7)), _, { src := 7, cls := 7, domain := 7, op := 17, seq := 9, payload := [3] }, _, 63, _, 3, ⟨rfl, rfl, by decide +kernel, by decide +kernel, rfl, by decide +kernel⟩⟩,
   ⟨netOn { arrived := [{ src := 7, cls := 7, domain := 7, op := 17, seq := 9, payload := [1] }], sends := [(63, some { phase := .opened, unacked := [{ pkt := { op := 2, seq := 9 }, charge := 256 }] })] } (allOn.wr (Reg.rtrDomain 3) (2 ^ 31 + 7)), _, { src := 7, cls := 7, domain := 7, op := 17, seq := 9, payload := [1] }, _, 63, _, 1, _, ⟨rfl, rfl, by decide +kernel, by decide +kernel, rfl, by decide +kernel, by decide +kernel, by decide +kernel, by decide +kernel, rfl, by decide +kernel⟩⟩,
   ⟨netOn { arrived := [{ src := 7, cls := 7, domain := 7, op := 17, seq := 9, payload := [2] }], sends := [(63, some { phase := .opened, unacked := [{ pkt := { op := 2, seq := 9 }, charge := 256 }] })] } (allOn.wr (Reg.rtrDomain 3) (2 ^ 31 + 7)), _, { src := 7, cls := 7, domain := 7, op := 17, seq := 9, payload := [2] }, _, 63, _, 2, _, ⟨rfl, rfl, by decide +kernel, by decide +kernel, rfl, by decide +kernel, by decide +kernel, by decide +kernel, by decide +kernel, rfl, by decide +kernel⟩⟩,
   ⟨netOn { arrived := [{ src := 7, cls := 7, domain := 7, op := 17, seq := 9, payload := [3] }], sends := [(63, some { phase := .opened, unacked := [{ pkt := { op := 2, seq := 9 }, charge := 256 }] })] } (allOn.wr (Reg.rtrDomain 3) (2 ^ 31 + 7)), _, { src := 7, cls := 7, domain := 7, op := 17, seq := 9, payload := [3] }, _, 63, _, 3, _, ⟨rfl, rfl, by decide +kernel, by decide +kernel, rfl, by decide +kernel, by decide +kernel, by decide +kernel, by decide +kernel, rfl, by decide +kernel⟩⟩,
   ⟨netOn { arrived := [{ src := 7, cls := 7, domain := 7, op := 17, seq := 9, payload := [4] }], sends := [(63, some { phase := .opened, unacked := [{ pkt := { op := 2, seq := 9 }, charge := 256 }] })] } (allOn.wr (Reg.rtrDomain 3) (2 ^ 31 + 7)), _, { src := 7, cls := 7, domain := 7, op := 17, seq := 9, payload := [4] }, _, 63, _, 4, _, ⟨rfl, rfl, by decide +kernel, by decide +kernel, rfl, by decide +kernel, by decide +kernel, by decide +kernel, by decide +kernel, rfl, by decide +kernel⟩⟩,
   ⟨netOn { arrived := [{ src := 7, cls := 7, domain := 7, op := 18, seq := 9 }], sends := [(63, some { phase := .opened, unacked := [{ pkt := { op := 2, seq := 9 }, charge := 256 }] })] } (allOn.wr (Reg.rtrDomain 3) (2 ^ 31 + 7)), _, { src := 7, cls := 7, domain := 7, op := 18, seq := 9 }, _, 63, _, { pkt := { op := 2, seq := 9 }, charge := 256 }, ⟨rfl, rfl, by decide +kernel, by decide +kernel, rfl, by decide +kernel⟩⟩,
   ⟨netOn { arrived := [{ src := 7, cls := 7, domain := 7, op := 18, seq := 10 }], sends := [(63, some { phase := .opened, unacked := [{ pkt := { op := 2, seq := 9 }, charge := 256 }] })] } (allOn.wr (Reg.rtrDomain 3) (2 ^ 31 + 7)), _, { src := 7, cls := 7, domain := 7, op := 18, seq := 10 }, _, 63, _, ⟨rfl, rfl, by decide +kernel, by decide +kernel, rfl, by decide +kernel⟩⟩,
   ⟨netOn { arrived := [{ src := 7, cls := 7, domain := 7, op := 21, xid := 2 }], sends := [(63, some { phase := .opening, openMacks := 2, queue := [{ owner := .dmx 3 255, op := 1, domain := 1, mcast := some (0, 0, 2, 6) }] })] } (allOn.wr (Reg.rtrDomain 3) (2 ^ 31 + 7)), _, { src := 7, cls := 7, domain := 7, op := 21, xid := 2 }, _, 63, _, { owner := .dmx 3 255, op := 1, domain := 1, mcast := some (0, 0, 2, 6) }, 0, 0, 2, 6, 6, ⟨rfl, rfl, by decide +kernel, by decide +kernel, rfl, by decide +kernel, by decide +kernel, by decide +kernel, rfl, by decide +kernel⟩⟩,
   ⟨netOn { arrived := [{ src := 7, cls := 7, domain := 7, op := 21, xid := 2 }], sends := [(63, some { phase := .opening, queue := [{ owner := .dmx 3 255, op := 1, domain := 1, mcast := some (0, 0, 2, 6) }] })] } (allOn.wr (Reg.rtrDomain 3) (2 ^ 31 + 7)), _, { src := 7, cls := 7, domain := 7, op := 21, xid := 2 }, _, 63, _, { owner := .dmx 3 255, op := 1, domain := 1, mcast := some (0, 0, 2, 6) }, 0, 0, 2, 6, 4, ⟨rfl, rfl, by decide +kernel, by decide +kernel, rfl, by decide +kernel, by decide +kernel, by decide +kernel, rfl, by decide +kernel⟩⟩,
   ⟨netOn { arrived := [{ src := 7, cls := 7, domain := 7, op := 21, xid := 2, seq := 9 }], sends := [(63, some { phase := .opened, txns := [{ job := { owner := .dmx 3 255, op := 1, domain := 1, mcast := some (0, 0, 2, 6) }, xid := 3, firstSeq := 9, all := [{}], pkts := [], macks := 2 }] })] } (allOn.wr (Reg.rtrDomain 3) (2 ^ 31 + 7)), _, { src := 7, cls := 7, domain := 7, op := 21, xid := 2, seq := 9 }, _, 63, _, { job := { owner := .dmx 3 255, op := 1, domain := 1, mcast := some (0, 0, 2, 6) }, xid := 3, firstSeq := 9, all := [{}], pkts := [], macks := 2 }, 0, 0, 2, 6, 6, ⟨rfl, rfl, by decide +kernel, by decide +kernel, rfl, by decide +kernel, by decide +kernel, by decide +kernel, rfl, by decide +kernel⟩⟩,
   ⟨netOn { arrived := [{ src := 7, cls := 7, domain := 7, op := 21, xid := 2, seq := 8 }], sends := [(63, some { phase := .opened, txns := [{ job := { owner := .dmx 3 255, op := 1, domain := 1, mcast := some (0, 0, 2, 6) }, xid := 3, firstSeq := 9, all := [{}], pkts := [], macks := 2 }] })] } (allOn.wr (Reg.rtrDomain 3) (2 ^ 31 + 7)), _, { src := 7, cls := 7, domain := 7, op := 21, xid := 2, seq := 8 }, _, 63, _, { job := { owner := .dmx 3 255, op := 1, domain := 1, mcast := some (0, 0, 2, 6) }, xid := 3, firstSeq := 9, all := [{}], pkts := [], macks := 2 }, 0, 0, 2, 6, 2, ⟨rfl, rfl, by decide +kernel, by decide +kernel, rfl, by decide +kernel, by decide +kernel, by decide +kernel, rfl, by decide +kernel⟩⟩,
   ⟨netOn { arrived := [{ src := 7, cls := 7, domain := 7, op := 6, xid := 3 }], sends := [(63, some { phase := .opened, txns := [{ job := { owner := .firmware, op := 5, domain := 1 }, xid := 3, all := [{}], pkts := [] }] })] } (allOn.wr (Reg.rtrDomain 3) (2 ^ 31 + 7)), _, { src := 7, cls := 7, domain := 7, op := 6, xid := 3 }, _, 63, _, _, { job := { owner := .firmware, op := 5, domain := 1 }, xid := 3, all := [{}], pkts := [] }, ⟨rfl, rfl, by decide +kernel, by decide +kernel, rfl, rfl, by decide +kernel⟩⟩,
   ⟨netOn { arrived := [{ src := 7, cls := 7, domain := 7, op := 8, xid := 3 }], sends := [(63, some { phase := .opened, txns := [{ job := { owner := .firmware, op := 7, domain := 1 }, xid := 3, all := [{}], pkts := [] }] })] } (allOn.wr (Reg.rtrDomain 3) (2 ^ 31 + 7)), _, { src := 7, cls := 7, domain := 7, op := 8, xid := 3 }, _, 63, _, _, { job := { owner := .firmware, op := 7, domain := 1 }, xid := 3, all := [{}], pkts := [] }, ⟨rfl, rfl, by decide +kernel, by decide +kernel, rfl, rfl, by decide +kernel⟩⟩,
   ⟨netOn { arrived := [{ src := 7, cls := 7, domain := 7, op := 10, xid := 3 }], sends := [(63, some { phase := .opened, txns := [{ job := { owner := .clx 3, op := 9, domain := 1, payload := List.replicate 64 1 }, xid := 3, all := [{}], pkts := [] }] })] } (allOn.wr (Reg.rtrDomain 3) (2 ^ 31 + 7)), _, { src := 7, cls := 7, domain := 7, op := 10, xid := 3 }, _, 63, _, _, { job := { owner := .clx 3, op := 9, domain := 1, payload := List.replicate 64 1 }, xid := 3, all := [{}], pkts := [] }, 3, List.replicate 64 1, 1, 64, ⟨rfl, rfl, by decide +kernel, by decide +kernel, rfl, rfl, by decide +kernel⟩⟩,
   ⟨netOn { arrived := [{ src := 7, cls := 7, domain := 7, op := 4, xid := 3, seq := 1 }], sends := [(63, some { phase := .opened, txns := [{ job := { owner := .firmware, op := 3, domain := 1, len := 4096 }, xid := 3, all := [{}], pkts := [] }] })] } (allOn.wr (Reg.rtrDomain 3) (2 ^ 31 + 7)), _, { src := 7, cls := 7, domain := 7, op := 4, xid := 3, seq := 1 }, _, 63, _, _, { job := { owner := .firmware, op := 3, domain := 1, len := 4096 }, xid := 3, all := [{}], pkts := [] }, [(0, 4096)], ⟨rfl, rfl, by decide +kernel, by decide +kernel, rfl, rfl, by decide +kernel, by decide +kernel, by decide +kernel, .inr (.inr (by decide +kernel))⟩⟩,
   ⟨netOn { arrived := [{ src := 7, cls := 7, domain := 7, op := 4, xid := 3 }], sends := [(63, some { phase := .opened, txns := [{ job := { owner := .dmx 3 255, op := 3, domain := 1, len := 4096, store := 0 }, xid := 3, all := [{}], pkts := [] }] })] } (allOn.wr (Reg.rtrDomain 3) (2 ^ 31 + 7)), _, { src := 7, cls := 7, domain := 7, op := 4, xid := 3 }, _, 63, _, _, { job := { owner := .dmx 3 255, op := 3, domain := 1, len := 4096, store := 0 }, xid := 3, all := [{}], pkts := [] }, _, _, _, _, _, _, ⟨rfl, rfl, by decide +kernel, by decide +kernel, rfl, rfl, by decide +kernel, by decide +kernel, rfl, by decide +kernel, by decide +kernel, by decide +kernel, rfl, rfl, fun _ _ _ => rfl, by simp, by simp, by simp, rfl, rfl, by decide +kernel⟩⟩,
   ⟨netOn { arrived := [{ src := 7, cls := 7, domain := 7, op := 4, xid := 3 }], sends := [(63, some { phase := .opened, txns := [{ job := { owner := .dmx 3 255, op := 3, domain := 1, len := 12288, store := 0 }, xid := 3, all := [{}], pkts := [] }] })] } (allOn.wr (Reg.rtrDomain 3) (2 ^ 31 + 7)), _, { src := 7, cls := 7, domain := 7, op := 4, xid := 3 }, _, 63, _, _, { job := { owner := .dmx 3 255, op := 3, domain := 1, len := 12288, store := 0 }, xid := 3, all := [{}], pkts := [] }, _, _, _, _, _, _, ⟨rfl, rfl, by decide +kernel, by decide +kernel, rfl, rfl, by decide +kernel, by decide +kernel, rfl, by decide +kernel, by decide +kernel, by decide +kernel, rfl, rfl, fun _ _ _ => rfl, by simp, by simp, by simp, rfl, rfl, by decide +kernel⟩⟩,
   ⟨netOn { arrived := [{ src := 7, cls := 7, domain := 7, op := 4, xid := 3 }] } (allOn.wr (Reg.rtrDomain 3) (2 ^ 31 + 7)), _, { src := 7, cls := 7, domain := 7, op := 4, xid := 3 }, _, 63, _, _, 4, .rddata, ⟨rfl, rfl, by decide +kernel, by decide +kernel, rfl, rfl, by decide +kernel⟩⟩,
   ⟨netOn { arrived := [{ src := 7, cls := 7, domain := 7, op := 24 }] } (allOn.wr (Reg.rtrDomain 3) (2 ^ 31 + 7)), _, { src := 7, cls := 7, domain := 7, op := 24 }, _, 63, _, ⟨rfl, rfl, by decide +kernel, by decide +kernel, rfl, by decide +kernel⟩⟩⟩

theorem witness_CollectiveEnginesRunInstances :
    (∃ (s : State) (q : Fin 4), ((s.clx q).queue = [] ∨ (s.clx q).run ≠ none ∨ s.rdF (Reg.clxStatus q) 1 0 ≠ 1)) ∧
    (∃ (s : State) (q : Fin 4) (i : ClxInst) (rest : List ClxInst) (v : State) (p : ClxProg), (s.clx q).queue = i :: rest ∧ (s.clx q).run = none ∧ s.rdF (Reg.clxStatus q) 1 0 = 1 ∧ (s.updClx q (fun c => { c with queue := rest })).wrF (Reg.clxStatus q) 16 8 rest.length = v ∧ v.clxProg q i.program = p ∧ s.clxCheck q i ≠ 0) ∧
    (∃ (s : State) (q : Fin 4) (i : ClxInst) (rest : List ClxInst) (v : State) (p : ClxProg) (w : State) (y : State), (s.clx q).queue = i :: rest ∧ (s.clx q).run = none ∧ s.rdF (Reg.clxStatus q) 1 0 = 1 ∧ (s.updClx q (fun c => { c with queue := rest })).wrF (Reg.clxStatus q) 16 8 rest.length = v ∧ v.clxProg q i.program = p ∧ s.clxCheck q i = 0 ∧ v.updClx q (fun c => { c with counters := p.groups.foldl (fun (t : Tbl Nat) g => t.upd g (fun n => (n + 1) % 256)) c.counters, failedNo := p.groups.foldl (fun (t : Tbl Nat) g => t.set g 0) c.failedNo }) = w ∧ w.each (w.gang q) (fun s m => s.wrF (Reg.clxStatus m) 1 0 2) = y) ∧
    (∃ (s : State) (m : Fin 4) (peer : Fin 64) (down : Bool) (q : Nat) (r : ClxRun) (x : ClxNow) (l : ClxLane) (o : ClxOut) (g : ClxSeg) (c : Nat) (b : State) (bs : List Byte) (o2 : ClxOut), s.leadOf m = q ∧ (s.clx q).run = some r ∧ s.clxNow q r = x ∧ x.outs.find? (fun l => decide (l.peer = peer.val ∧ l.down = down)) = some l ∧ r.outs.get (laneKey m peer down) = o ∧ x.chunkAt l.segs o.chunk = some (g, c) ∧ r.finished = false ∧ x.member o.chunk = m.val ∧ x.ready g c o.tile = true ∧ (o.chunk - o.acked + x.members - 1) / x.members < (if x.scaleFrames g = 2 then 14 else 15) ∧ s.clxTileBytes x g c o.tile = (b, some bs) ∧ o2 = (if o.tile + 1 = 16 + x.scaleFrames g then { o with chunk := o.chunk + x.members, tile := 0 } else { o with tile := o.tile + 1 }) ∧ x.inPacket m down = false) ∧
    (∃ (s : State) (m : Fin 4) (peer : Fin 64) (down : Bool) (q : Nat) (r : ClxRun) (x : ClxNow) (l : ClxLane) (o : ClxOut) (g : ClxSeg) (c : Nat) (b : State) (bs : List Byte) (o2 : ClxOut) (pl : _), s.leadOf m = q ∧ (s.clx q).run = some r ∧ s.clxNow q r = x ∧ x.outs.find? (fun l => decide (l.peer = peer.val ∧ l.down = down)) = some l ∧ r.outs.get (laneKey m peer down) = o ∧ x.chunkAt l.segs o.chunk = some (g, c) ∧ r.finished = false ∧ x.member o.chunk = m.val ∧ x.ready g c o.tile = true ∧ (o.chunk - o.acked + x.members - 1) / x.members < (if x.scaleFrames g = 2 then 14 else 15) ∧ s.clxTileBytes x g c o.tile = (b, some bs) ∧ o2 = (if o.tile + 1 = 16 + x.scaleFrames g then { o with chunk := o.chunk + x.members, tile := 0 } else { o with tile := o.tile + 1 }) ∧ x.inPacket m down = true ∧ pl = bs ++ clxDescriptor x.ph.group down r.phase x.number o.chunk o.tile) ∧
    (∃ (s : State) (q : Fin 4) (r : ClxRun), (s.clx q).run = some r ∧ r.finished = false) ∧
    (∃ (s : State) (q : Fin 4) (r : ClxRun) (v : State), (s.clx q).run = some r ∧ r.finished = true ∧ (s.updClx q (fun c => { c with run := none })).clxIdle q = v) ∧
    (∃ (s : State) (q : Fin 4), (s.clx q).run = none) ∧
    (∃ (s : State) (m : Fin 4) (g : Fin 8) (i : Fin 72) (z : State), ({ s with answer := .none } : State) = z ∧ groupReg m g i = none) ∧
    (∃ (s : State) (ag : Agent) (m : Fin 4) (g : Fin 8) (i : Fin 72) (z : State) (a : _), ({ s with answer := .none } : State) = z ∧ groupReg m g i = some a ∧ s.csrPath ag a (if 8 ≤ i.val then 4 else 8) = .served ∧ ag ≠ .fab) ∧
    (∃ (s : State) (ag : Agent) (m : Fin 4) (g : Fin 8) (i : Fin 72) (z : State) (a : _), ({ s with answer := .none } : State) = z ∧ groupReg m g i = some a ∧ s.csrPath ag a (if 8 ≤ i.val then 4 else 8) = .served ∧ ag = .fab ∧ (s.clxNamed m g || (s.clx m).deferred.any (fun d => d.1 = a)) = true) ∧
    (∃ (s : State) (ag : Agent) (m : Fin 4) (g : Fin 8) (i : Fin 72) (z : State) (a : _), ({ s with answer := .none } : State) = z ∧ groupReg m g i = some a ∧ s.csrPath ag a (if 8 ≤ i.val then 4 else 8) = .served ∧ ag = .fab ∧ (s.clxNamed m g || (s.clx m).deferred.any (fun d => d.1 = a)) = false) ∧
    (∃ (s : State) (m : Fin 4) (g : Fin 8), s.clxNamed m g = true) ∧
    (∃ (s : State) (m : Fin 4) (g : Fin 8) (due : _), s.clxNamed m g = false ∧ due = (s.clx m).deferred.filter (fun d => decide (Reg.clxGroupW0 m g ≤ d.1) && decide (d.1 < Reg.clxGroupW0 m g + 0x200))) ∧
    (∃ (s : State) (ag : Agent) (m : Fin 4) (x : Fin 1024) (i : Fin 8) (z : State), ({ s with answer := .none } : State) = z ∧ s.csrPath ag (Reg.clxProgram m x i) 8 = .served ∧ ag = .sch ∧ s.rdF (Reg.clxStatus m) 1 0 = 1 ∧ s.rdF (Reg.clxStatus m) 16 8 = 0) ∧
    (∃ (s : State) (ag : Agent) (m : Fin 4) (x : Fin 1024) (i : Fin 8) (z : State), ({ s with answer := .none } : State) = z ∧ s.csrPath ag (Reg.clxProgram m x i) 8 = .served ∧ ¬ (ag = .sch ∧ s.rdF (Reg.clxStatus m) 1 0 = 1 ∧ s.rdF (Reg.clxStatus m) 16 8 = 0)) :=
  ⟨⟨clxOn, 3, by decide +kernel⟩,
   ⟨clxOn (fun c => { c with queue := [{ clxJob with program := 1022 }] }), 3, { clxJob with program := 1022 }, [], _, _, ⟨by decide +kernel, by decide +kernel, by decide +kernel, rfl, rfl, by decide +kernel⟩⟩,
   ⟨clxOn (fun c => { c with queue := [clxJob] }), 3, clxJob, [], _, _, _, _, ⟨by decide +kernel, by decide +kernel, by decide +kernel, rfl, rfl, by decide +kernel, rfl, rfl⟩⟩,
   ⟨clxOn (fun c => { c with run := some { inst := clxJob, len := 16384 } }), 3, 1, false, 3, { inst := clxJob, len := 16384 }, _, ⟨1, false, [⟨0, 16384, true⟩]⟩, {}, ⟨0, 16384, true⟩, 0, _, _, _, ⟨by decide +kernel, by decide +kernel, rfl, by decide +kernel, by decide +kernel, by decide +kernel, by decide +kernel, by decide +kernel, by decide +kernel, by decide +kernel, pairSome _ (by decide +kernel), rfl, by decide +kernel⟩⟩,
   ⟨clxOn (fun c => { c with run := some { inst := clxJob, len := 16384, packet := [dirKey 3 7 false] } }), 3, 1, false, 3, { inst := clxJob, len := 16384, packet := [dirKey 3 7 false] }, _, ⟨1, false, [⟨0, 16384, true⟩]⟩, {}, ⟨0, 16384, true⟩, 0, _, _, _, _, ⟨by decide +kernel, by decide +kernel, rfl, by decide +kernel, by decide +kernel, by decide +kernel, by decide +kernel, by decide +kernel, by decide +kernel, by decide +kernel, pairSome _ (by decide +kernel), rfl, by decide +kernel, rfl⟩⟩,
   ⟨clxOn (fun c => { c with run := some { inst := clxJob, len := 16384 } }), 3, { inst := clxJob, len := 16384 }, by decide +kernel⟩,
   ⟨clxOn (fun c => { c with run := some { inst := clxJob, len := 16384, finished := true } }), 3, { inst := clxJob, len := 16384, finished := true }, _, ⟨by decide +kernel, by decide +kernel, rfl⟩⟩,
   ⟨clxOn, 3, by decide +kernel⟩,
   ⟨clxOn, 3, 7, 7, _, ⟨rfl, by decide +kernel⟩⟩,
   ⟨clxOn, .pmc, 3, 7, 71, _, Reg.clxGroupPeer 3 7 63, ⟨rfl, by decide +kernel⟩⟩,
   ⟨clxOn (fun c => { c with queue := [clxJob] }), .fab, 3, 7, 71, _, Reg.clxGroupPeer 3 7 63, ⟨rfl, by decide +kernel⟩⟩,
   ⟨clxOn, .fab, 3, 7, 0, _, Reg.clxGroupW0 3 7, ⟨rfl, by decide +kernel⟩⟩,
   ⟨clxOn (fun c => { c with queue := [clxJob] }), 3, 7, by decide +kernel⟩,
   ⟨clxOn (fun c => { c with deferred := [(Reg.clxGroupW0 3 7, 5)] }), 3, 7, _, ⟨by decide +kernel, rfl⟩⟩,
   ⟨clxOn, .sch, 3, 1023, 7, _, ⟨rfl, by decide +kernel⟩⟩,
   ⟨clxOn, .pmc, 3, 1023, 7, _, ⟨rfl, by decide +kernel⟩⟩⟩

theorem witness_ManagementMessagesAreServed :
    (∃ (s : State) (z : State), ({ s with answer := .none } : State) = z ∧ s.fm.inbox.find? (fun e => e.2.2.type = 0x25) = none) ∧
    (∃ (s : State) (z : State) (a : Nat) (src : Nat) (m : Mgmt) (v : State) (k : _), ({ s with answer := .none } : State) = z ∧ s.fm.inbox.find? (fun e => e.2.2.type = 0x25) = some (a, src, m) ∧ z.updFm (fun f => { f with inbox := f.inbox.erase (a, src, m) }) = v ∧ natBit m.flags 0 = false ∧ s.fm.kept.find? (fun k => k.1 = senderKey a src m && k.2.1 = m.mseq) = some k) ∧
    (∃ (s : State) (z : State) (a : Nat) (src : Nat) (m : Mgmt) (v : State), ({ s with answer := .none } : State) = z ∧ s.fm.inbox.find? (fun e => e.2.2.type = 0x25) = some (a, src, m) ∧ z.updFm (fun f => { f with inbox := f.inbox.erase (a, src, m) }) = v ∧ natBit m.flags 0 = false ∧ s.fm.kept.find? (fun k => k.1 = senderKey a src m && k.2.1 = m.mseq) = none ∧ m.term < s.fmTerm % 2 ^ 32) ∧
    (∃ (s : State) (z : State) (a : Nat) (src : Nat) (m : Mgmt) (v : State), ({ s with answer := .none } : State) = z ∧ s.fm.inbox.find? (fun e => e.2.2.type = 0x25) = some (a, src, m) ∧ z.updFm (fun f => { f with inbox := f.inbox.erase (a, src, m) }) = v ∧ natBit m.flags 0 = false ∧ s.fm.kept.find? (fun k => k.1 = senderKey a src m && k.2.1 = m.mseq) = none ∧ s.fmTerm % 2 ^ 32 ≤ m.term ∧ (m.body.length == 5) = false) ∧
    (∃ (s : State) (z : State) (a : Nat) (src : Nat) (m : Mgmt) (v : State) (w : State), ({ s with answer := .none } : State) = z ∧ s.fm.inbox.find? (fun e => e.2.2.type = 0x25) = some (a, src, m) ∧ z.updFm (fun f => { f with inbox := f.inbox.erase (a, src, m) }) = v ∧ natBit m.flags 0 = false ∧ s.fm.kept.find? (fun k => k.1 = senderKey a src m && k.2.1 = m.mseq) = none ∧ s.fmTerm % 2 ^ 32 ≤ m.term ∧ (m.body.length == 5) = true ∧ (v.seeTerm m.term).cond (!natBit m.flags 1 && decide (src < 0x20000)) (fun s => s.setPrimary src) = w) ∧
    (∃ (s : State) (z : State) (a : Nat) (src : Nat) (m : Mgmt) (v : State), ({ s with answer := .none } : State) = z ∧ s.fm.inbox.find? (fun e => e.2.2.type = 0x25) = some (a, src, m) ∧ z.updFm (fun f => { f with inbox := f.inbox.erase (a, src, m) }) = v ∧ natBit m.flags 0 = true ∧ s.fm.reqs.find? (fun q => q.msg.mseq = m.mseq ∧ q.msg.type = 0x25) = none) ∧
    (∃ (s : State) (z : State) (a : Nat) (src : Nat) (m : Mgmt) (v : State) (q : _), ({ s with answer := .none } : State) = z ∧ s.fm.inbox.find? (fun e => e.2.2.type = 0x25) = some (a, src, m) ∧ z.updFm (fun f => { f with inbox := f.inbox.erase (a, src, m) }) = v ∧ natBit m.flags 0 = true ∧ s.fm.reqs.find? (fun q => q.msg.mseq = m.mseq ∧ q.msg.type = 0x25) = some q) ∧
    (∃ (i : _), i < 2048) ∧
    (∃ (s : State) (m : Mgmt), (131072 ≤ bodyNat m.body 0 4 ∨ (s.nodeValid = true ∧ s.node ≠ bodyNat m.body 0 4))) ∧
    (∃ (b : _), b < 2) ∧
    (∃ (s : State) (z : State), ({ s with answer := .none } : State) = z ∧ s.router.ring = []) ∧
    (∃ (s : State) (z : State), ({ s with answer := .none } : State) = z ∧ s.domOn 24 = false) ∧
    (∃ (s : State) (z : State) (e : _) (rest : _) (v : _), ({ s with answer := .none } : State) = z ∧ s.router.ring = e :: rest ∧ s.domOn 24 = true ∧ z.updRouter (fun r => { r with ring := rest }) = v ∧ e.2.op ≠ 0x20) ∧
    (∃ (s : State) (z : State) (e : _) (rest : _) (v : _), ({ s with answer := .none } : State) = z ∧ s.router.ring = e :: rest ∧ s.domOn 24 = true ∧ z.updRouter (fun r => { r with ring := rest }) = v ∧ e.2.op = 0x20 ∧ mgmtWhole e.2.payload = false) ∧
    (∃ (s : State) (z : State) (e : _) (rest : _) (v : _), ({ s with answer := .none } : State) = z ∧ s.router.ring = e :: rest ∧ s.domOn 24 = true ∧ z.updRouter (fun r => { r with ring := rest }) = v ∧ e.2.op = 0x20 ∧ mgmtWhole e.2.payload = true ∧ (Mgmt.ofBytes e.2.payload).relay e.1 = none) ∧
    (∃ (s : State) (z : State) (e : _) (rest : _) (v : _) (p : _) (m : _), ({ s with answer := .none } : State) = z ∧ s.router.ring = e :: rest ∧ s.domOn 24 = true ∧ z.updRouter (fun r => { r with ring := rest }) = v ∧ e.2.op = 0x20 ∧ mgmtWhole e.2.payload = true ∧ (Mgmt.ofBytes e.2.payload).relay e.1 = some (p, m)) ∧
    (∃ (s : State) (z : State) (q : BitVec 32), ({ s with answer := .none } : State) = z ∧ s.fm.reqs.find? (fun r => r.msg.mseq = q.toNat) = none) ∧
    (∃ (s : State) (z : State) (q : BitVec 32) (r : _), ({ s with answer := .none } : State) = z ∧ s.fm.reqs.find? (fun r => r.msg.mseq = q.toNat) = some r ∧ r.sends < 8) ∧
    (∃ (s : State) (z : State) (q : BitVec 32) (r : _), ({ s with answer := .none } : State) = z ∧ s.fm.reqs.find? (fun r => r.msg.mseq = q.toNat) = some r ∧ 8 ≤ r.sends) ∧
    (∃ (s : State) (z : State), ({ s with answer := .none } : State) = z ∧ s.fm.inbox.find? (fun e => e.2.2.type = 0x40) = none) ∧
    (∃ (s : State) (z : State) (a : Nat) (src : Nat) (m : Mgmt) (v : State), ({ s with answer := .none } : State) = z ∧ s.fm.inbox.find? (fun e => e.2.2.type = 0x40) = some (a, src, m) ∧ z.updFm (fun f => { f with inbox := f.inbox.erase (a, src, m) }) = v ∧ natBit m.flags 0 = true) ∧
    (∃ (s : State) (z : State) (a : Nat) (src : Nat) (m : Mgmt) (v : State), ({ s with answer := .none } : State) = z ∧ s.fm.inbox.find? (fun e => e.2.2.type = 0x40) = some (a, src, m) ∧ z.updFm (fun f => { f with inbox := f.inbox.erase (a, src, m) }) = v ∧ natBit m.flags 0 = false ∧ s.role ≠ 3) ∧
    (∃ (s : State) (z : State) (a : Nat) (src : Nat) (m : Mgmt) (v : State) (k : _), ({ s with answer := .none } : State) = z ∧ s.fm.inbox.find? (fun e => e.2.2.type = 0x40) = some (a, src, m) ∧ z.updFm (fun f => { f with inbox := f.inbox.erase (a, src, m) }) = v ∧ natBit m.flags 0 = false ∧ s.role = 3 ∧ s.fm.kept.find? (fun k => k.1 = senderKey a src m && k.2.1 = m.mseq) = some k) ∧
    (∃ (s : State) (z : State) (a : Nat) (src : Nat) (m : Mgmt) (v : State), ({ s with answer := .none } : State) = z ∧ s.fm.inbox.find? (fun e => e.2.2.type = 0x40) = some (a, src, m) ∧ z.updFm (fun f => { f with inbox := f.inbox.erase (a, src, m) }) = v ∧ natBit m.flags 0 = false ∧ s.role = 3 ∧ s.fm.kept.find? (fun k => k.1 = senderKey a src m && k.2.1 = m.mseq) = none ∧ m.body.length = 12) ∧
    (∃ (s : State) (z : State) (a : Nat) (src : Nat) (m : Mgmt) (v : State), ({ s with answer := .none } : State) = z ∧ s.fm.inbox.find? (fun e => e.2.2.type = 0x40) = some (a, src, m) ∧ z.updFm (fun f => { f with inbox := f.inbox.erase (a, src, m) }) = v ∧ natBit m.flags 0 = false ∧ s.role = 3 ∧ s.fm.kept.find? (fun k => k.1 = senderKey a src m && k.2.1 = m.mseq) = none ∧ m.body.length ≠ 12) :=
  ⟨⟨fmOn, _, ⟨rfl, by decide +kernel⟩⟩,
   ⟨fmOn { inbox := [(15, 7, { type := 0x25, mseq := 9, body := leBytes 5 1 })], kept := [(7, 9, { type := 0x25, flags := 1 })] }, _, 15, 7, { type := 0x25, mseq := 9, body := leBytes 5 1 }, _, (7, 9, { type := 0x25, flags := 1 }), ⟨rfl, by decide +kernel, rfl, by decide +kernel⟩⟩,
   ⟨(fmOn { inbox := [(15, 7, { type := 0x25, mseq := 9, term := 4, body := leBytes 5 1 })] }).wr Reg.hubFmTerm 5, _, 15, 7, { type := 0x25, mseq := 9, term := 4, body := leBytes 5 1 }, _, ⟨rfl, by decide +kernel, rfl, by decide +kernel⟩⟩,
   ⟨fmOn { inbox := [(15, 7, { type := 0x25, mseq := 9, body := leBytes 4 1 })] }, _, 15, 7, { type := 0x25, mseq := 9, body := leBytes 4 1 }, _, ⟨rfl, by decide +kernel, rfl, by decide +kernel⟩⟩,
   ⟨fmOn { inbox := [(15, 7, { type := 0x25, mseq := 9, body := leBytes 5 1 })] }, _, 15, 7, { type := 0x25, mseq := 9, body := leBytes 5 1 }, _, _, ⟨rfl, by decide +kernel, rfl, by decide +kernel, by decide +kernel, by decide +kernel, by decide +kernel, rfl⟩⟩,
   ⟨fmOn { inbox := [(15, 7, { type := 0x25, mseq := 9, flags := 1 })] }, _, 15, 7, { type := 0x25, mseq := 9, flags := 1 }, _, ⟨rfl, by decide +kernel, rfl, by decide +kernel⟩⟩,
   ⟨fmOn { inbox := [(15, 7, { type := 0x25, mseq := 9, flags := 1 })], reqs := [{ path := .node 7, msg := { type := 0x25, mseq := 9, body := leBytes 5 1 } }] }, _, 15, 7, { type := 0x25, mseq := 9, flags := 1 }, _, { path := .node 7, msg := { type := 0x25, mseq := 9, body := leBytes 5 1 } }, ⟨rfl, by decide +kernel, rfl, by decide +kernel⟩⟩,
   ⟨2047, by decide +kernel⟩,
   ⟨allOn, { body := leBytes 12 131072 }, by decide +kernel⟩,
   ⟨1, by decide +kernel⟩,
   ⟨allOn, _, ⟨rfl, by decide +kernel⟩⟩,
   ⟨{}, _, ⟨rfl, by decide +kernel⟩⟩,
   ⟨{ allOn with router := { ring := [(15, { dst := 0xFFFFF, src := 7, op := 0x21 })] } }, _, (15, { dst := 0xFFFFF, src := 7, op := 0x21 }), [], _, ⟨rfl, by decide +kernel, by decide +kernel, rfl, by decide +kernel⟩⟩,
   ⟨{ allOn with router := { ring := [(15, { dst := 0xFFFFF, src := 7, op := 0x20, payload := [7] })] } }, _, (15, { dst := 0xFFFFF, src := 7, op := 0x20, payload := [7] }), [], _, ⟨rfl, by decide +kernel, by decide +kernel, rfl, by decide +kernel⟩⟩,
   ⟨{ allOn with router := { ring := [(15, { dst := 0xFFFFF, src := 7, op := 0x20, payload := Mgmt.toBytes { type := 0x25, mseq := 9, body := leBytes 5 1 } })] } }, _, (15, { dst := 0xFFFFF, src := 7, op := 0x20, payload := Mgmt.toBytes { type := 0x25, mseq := 9, body := leBytes 5 1 } }), [], _, ⟨rfl, by decide +kernel, by decide +kernel, rfl, by decide +kernel⟩⟩,
   ⟨{ allOn with router := { ring := [(15, { dst := 0xFFFFF, src := 7, op := 0x20, payload := Mgmt.toBytes { type := 0x25, flags := 2, hops := [12], mseq := 9, body := leBytes 5 1 } })] } }, _, (15, { dst := 0xFFFFF, src := 7, op := 0x20, payload := Mgmt.toBytes { type := 0x25, flags := 2, hops := [12], mseq := 9, body := leBytes 5 1 } }), [], _, 12, { type := 0x25, flags := 2, hops := [15], hptr := 1, mseq := 9, body := leBytes 5 1 }, ⟨rfl, by decide +kernel, by decide +kernel, rfl, by decide +kernel⟩⟩,
   ⟨fmOn, _, 9, ⟨rfl, by decide +kernel⟩⟩,
   ⟨fmOn { reqs := [{ path := .node 7, msg := { type := 0x25, mseq := 9 }, sends := 7 }] }, _, 9, { path := .node 7, msg := { type := 0x25, mseq := 9 }, sends := 7 }, ⟨rfl, by decide +kernel⟩⟩,
   ⟨fmOn { reqs := [{ path := .node 7, msg := { type := 0x25, mseq := 9 }, sends := 8 }] }, _, 9, { path := .node 7, msg := { type := 0x25, mseq := 9 }, sends := 8 }, ⟨rfl, by decide +kernel⟩⟩,
   ⟨fmOn, _, ⟨rfl, by decide +kernel⟩⟩,
   ⟨fmOn { inbox := [(15, 7, { type := 0x40, mseq := 9, flags := 1 })] }, _, 15, 7, { type := 0x40, mseq := 9, flags := 1 }, _, ⟨rfl, by decide +kernel, rfl, by decide +kernel⟩⟩,
   ⟨fmOn { inbox := [(15, 7, { type := 0x40, mseq := 9, body := leBytes 12 1 })] }, _, 15, 7, { type := 0x40, mseq := 9, body := leBytes 12 1 }, _, ⟨rfl, by decide +kernel, rfl, by decide +kernel⟩⟩,
   ⟨fmOn { inbox := [(15, 7, { type := 0x40, mseq := 9, body := leBytes 12 1 })], kept := [(7, 9, { type := 0x40, flags := 1 })] } 3, _, 15, 7, { type := 0x40, mseq := 9, body := leBytes 12 1 }, _, (7, 9, { type := 0x40, flags := 1 }), ⟨rfl, by decide +kernel, rfl, by decide +kernel⟩⟩,
   ⟨fmOn { inbox := [(15, 7, { type := 0x40, mseq := 9, body := leBytes 12 1 })] } 3, _, 15, 7, { type := 0x40, mseq := 9, body := leBytes 12 1 }, _, ⟨rfl, by decide +kernel, rfl, by decide +kernel⟩⟩,
   ⟨fmOn { inbox := [(15, 7, { type := 0x40, mseq := 9, body := leBytes 11 1 })] } 3, _, 15, 7, { type := 0x40, mseq := 9, body := leBytes 11 1 }, _, ⟨rfl, by decide +kernel, rfl, by decide +kernel⟩⟩⟩

/-- One device of two dies, in a machine of its own. -/
def soleDevice : FmDevice := { route := [], serial := 9, hubId := 0, plan := 0, dies := 3, ports := [], coords := some [0, 0, 0, 0] }
/-- A job of both its dies. -/
def soleBlock : List Byte := leBytes 4 2 ++ leBytes 12 0 ++ leBytes 4 0 ++ leBytes 4 (2 ^ 20)

theorem witness_ManagersElectSwapAndCarve :
    (∃ (s : State) (z : State), ({ s with answer := .none } : State) = z) ∧
    (∃ (s : State) (z : State), ({ s with answer := .none } : State) = z ∧ s.domOn 24 = false) ∧
    (∃ (s : State) (z : State) (v : State) (c : _), ({ s with answer := .none } : State) = z ∧ s.domOn 24 = true ∧ z.wrB Reg.hubFmStatus 2 true = v ∧ s.fm.best = some c ∧ c.port = 16 ∧ s.role ≠ 3) ∧
    (∃ (s : State) (z : State) (v : State), ({ s with answer := .none } : State) = z ∧ s.domOn 24 = true ∧ z.wrB Reg.hubFmStatus 2 true = v ∧ (s.fm.best = none ∨ (∃ c, s.fm.best = some c ∧ c.port ≠ 16) ∨ s.role = 3)) ∧
    (∃ (s : State) (z : State), ({ s with answer := .none } : State) = z ∧ s.role = 2) ∧
    (∃ (s : State) (z : State), ({ s with answer := .none } : State) = z ∧ s.role ≠ 2) ∧
    (∃ (s : State) (z : State), ({ s with answer := .none } : State) = z ∧ (s.role ≠ 3 ∨ s.standbyKnown = false)) ∧
    (∃ (s : State) (z : State), ({ s with answer := .none } : State) = z ∧ s.role = 3 ∧ s.standbyKnown = true) ∧
    (∃ (s : State) (z : State), ({ s with answer := .none } : State) = z ∧ s.fm.inbox.find? (fun e => e.2.2.type = 1 && !natBit e.2.2.flags 0) = none) ∧
    (∃ (s : State) (z : State), ({ s with answer := .none } : State) = z ∧ s.fm.inbox.find? (fun e => e.2.2.type = 2 && !natBit e.2.2.flags 0) = none) ∧
    (∃ (s : State) (z : State) (e : _) (l : _) (v : State), ({ s with answer := .none } : State) = z ∧ s.fm.inbox.find? (fun e => e.2.2.type = 1 && !natBit e.2.2.flags 0) = some e ∧ (z.updFm (fun f => { f with inbox := f.inbox.erase e })).seeTerm (bodyNat e.2.2.body 29 8) = v ∧ electCands e.1 e.2.2.body v.fuses.serial = l) ∧
    (∃ (s : State) (z : State) (e : _) (v : State), ({ s with answer := .none } : State) = z ∧ s.fm.inbox.find? (fun e => e.2.2.type = 2 && !natBit e.2.2.flags 0) = some e ∧ z.updFm (fun f => { f with inbox := f.inbox.erase e }) = v ∧ bodyNat e.2.2.body 0 8 < s.fmTerm) ∧
    (∃ (s : State) (z : State) (e : _) (v : State) (w : State), ({ s with answer := .none } : State) = z ∧ s.fm.inbox.find? (fun e => e.2.2.type = 2 && !natBit e.2.2.flags 0) = some e ∧ z.updFm (fun f => { f with inbox := f.inbox.erase e }) = v ∧ s.fmTerm ≤ bodyNat e.2.2.body 0 8 ∧ (v.seeTerm (bodyNat e.2.2.body 0 8)).setPrimary e.2.1 = w) ∧
    (∃ (s : State) (z : State), ({ s with answer := .none } : State) = z ∧ (s.fm.swap = none ∨ s.role ≠ 3)) ∧
    (∃ (s : State) (z : State) (w : _), ({ s with answer := .none } : State) = z ∧ s.fm.swap = some w ∧ s.role = 3 ∧ w.step = 4) ∧
    (∃ (s : State) (z : State) (w : _), ({ s with answer := .none } : State) = z ∧ s.fm.swap = some w ∧ s.role = 3 ∧ w.step ≠ 4) ∧
    (∃ (s : State) (z : State) (w : _), ({ s with answer := .none } : State) = z ∧ s.fm.swap = some w ∧ s.role = 3 ∧ w.step = 3) ∧
    (∃ (s : State) (z : State) (w : _), ({ s with answer := .none } : State) = z ∧ s.fm.swap = some w ∧ s.role = 3 ∧ w.step ≠ 3) ∧
    (∃ (s : State) (z : State) (w : _), ({ s with answer := .none } : State) = z ∧ s.fm.swap = some w ∧ s.role = 3 ∧ w.step = 7) ∧
    (∃ (s : State) (z : State) (w : _), ({ s with answer := .none } : State) = z ∧ s.fm.swap = some w ∧ s.role = 3 ∧ w.step ≠ 7) ∧
    (∃ (s : State) (z : State), ({ s with answer := .none } : State) = z) ∧
    (∃ (s : State) (z : State), ({ s with answer := .none } : State) = z ∧ s.fm.inbox.find? (fun e => e.2.2.type = 0x52) = none) ∧
    (∃ (s : State) (z : State) (a : Nat) (src : Nat) (m : Mgmt) (v : State), ({ s with answer := .none } : State) = z ∧ s.fm.inbox.find? (fun e => e.2.2.type = 0x52) = some (a, src, m) ∧ natBit m.flags 0 = false ∧ s.fm.kept.find? (fun k => k.1 = senderKey a src m && k.2.1 = m.mseq) = none ∧ s.fmTerm % 2 ^ 32 ≤ m.term ∧ z.updFm (fun f => { f with inbox := f.inbox.erase (a, src, m) }) = v ∧ (m.body.length == 4) = false) ∧
    (∃ (s : State) (z : State) (a : Nat) (src : Nat) (m : Mgmt) (v : State) (w : State), ({ s with answer := .none } : State) = z ∧ s.fm.inbox.find? (fun e => e.2.2.type = 0x52) = some (a, src, m) ∧ natBit m.flags 0 = false ∧ s.fm.kept.find? (fun k => k.1 = senderKey a src m && k.2.1 = m.mseq) = none ∧ s.fmTerm % 2 ^ 32 ≤ m.term ∧ z.updFm (fun f => { f with inbox := f.inbox.erase (a, src, m) }) = v ∧ (m.body.length == 4) = true ∧ (v.seeTerm m.term).cond (!natBit m.flags 1 && decide (src < 0x20000)) (fun s => s.setPrimary src) = w) ∧
    (∃ (s : State) (z : State) (h : Fin 2), ({ s with answer := .none } : State) = z ∧ z.startedCmd h 0 0x41 (fun _ => true) = none) ∧
    (∃ (s : State) (z : State) (h : Fin 2), ({ s with answer := .none } : State) = z ∧ z.startedCmd h 0 0x42 (fun _ => true) = none) ∧
    (∃ (s : State) (z : State) (h : Fin 2) (host : HostData) (c : _), ({ s with answer := .none } : State) = z ∧ z.startedCmd h 0 0x41 (fun _ => true) = some c ∧ (host.ok && host.data.length == c.par 16 4) = false) ∧
    (∃ (s : State) (z : State) (h : Fin 2) (host : HostData) (c : _), ({ s with answer := .none } : State) = z ∧ z.startedCmd h 0 0x41 (fun _ => true) = some c ∧ (host.ok && host.data.length == c.par 16 4) = true ∧ jobBlockGood host.data = false) ∧
    (∃ (s : State) (z : State) (h : Fin 2) (host : HostData) (c : _), ({ s with answer := .none } : State) = z ∧ z.startedCmd h 0 0x41 (fun _ => true) = some c ∧ (host.ok && host.data.length == c.par 16 4) = true ∧ jobBlockGood host.data = true ∧ (s.role ≠ 3 ∨ s.fm.master = none ∨ z.planCarve host.data = none)) ∧
    (∃ (s : State) (z : State) (h : Fin 2) (host : HostData) (c : _) (pl : _) (j : _) (v : State), ({ s with answer := .none } : State) = z ∧ z.startedCmd h 0 0x41 (fun _ => true) = some c ∧ (host.ok && host.data.length == c.par 16 4) = true ∧ jobBlockGood host.data = true ∧ s.role = 3 ∧ s.fm.master = some pl ∧ z.planCarve host.data = some j ∧ z.updFm (fun f => { f with jobs := f.jobs ++ [j] }) = v) ∧
    (∃ (s : State) (z : State) (h : Fin 2) (c : _), ({ s with answer := .none } : State) = z ∧ z.startedCmd h 0 0x42 (fun _ => true) = some c ∧ (s.role ≠ 3 ∨ s.fm.master = none ∨ s.fm.jobs.find? (fun j => j.tag = c.par 8 2) = none)) ∧
    (∃ (s : State) (z : State) (h : Fin 2) (c : _) (pl : _) (j : _), ({ s with answer := .none } : State) = z ∧ z.startedCmd h 0 0x42 (fun _ => true) = some c ∧ s.role = 3 ∧ s.fm.master = some pl ∧ s.fm.jobs.find? (fun j => j.tag = c.par 8 2) = some j) :=
  ⟨⟨fmOn, _, rfl⟩,
   ⟨{}, _, ⟨rfl, by decide +kernel⟩⟩,
   ⟨fmOn { best := some { prio := 3, serial := 9, dist := 0, port := 16 } }, _, _, { prio := 3, serial := 9, dist := 0, port := 16 }, ⟨rfl, by decide +kernel, rfl, by decide +kernel⟩⟩,
   ⟨fmOn, _, _, ⟨rfl, by decide +kernel, rfl, .inl rfl⟩⟩,
   ⟨fmOn {} 2, _, ⟨rfl, by decide +kernel⟩⟩,
   ⟨fmOn, _, ⟨rfl, by decide +kernel⟩⟩,
   ⟨fmOn, _, ⟨rfl, by decide +kernel⟩⟩,
   ⟨fmOn {} 3, _, ⟨rfl, by decide +kernel⟩⟩,
   ⟨fmOn, _, ⟨rfl, by decide +kernel⟩⟩,
   ⟨fmOn, _, ⟨rfl, by decide +kernel⟩⟩,
   ⟨fmOn { inbox := [(15, 7, { type := 1, body := leBytes 37 0x0301 })] }, _, (15, 7, { type := 1, body := leBytes 37 0x0301 }), _, _, ⟨rfl, by decide +kernel, rfl, rfl⟩⟩,
   ⟨(fmOn { inbox := [(15, 7, { type := 2, body := leBytes 12 4 })] }).wr Reg.hubFmTerm 5, _, (15, 7, { type := 2, body := leBytes 12 4 }), _, ⟨rfl, by decide +kernel, rfl, by decide +kernel⟩⟩,
   ⟨(fmOn { inbox := [(15, 7, { type := 2, body := leBytes 12 4 })] }).wr Reg.hubFmTerm 4, _, (15, 7, { type := 2, body := leBytes 12 4 }), _, _, ⟨rfl, by decide +kernel, rfl, by decide +kernel, rfl⟩⟩,
   ⟨fmOn, _, ⟨rfl, by decide +kernel⟩⟩,
   ⟨fmOn { swap := some { number := 1, step := 4, plan := {}, affected := [], bank := 1 } } 3, _, { number := 1, step := 4, plan := {}, affected := [], bank := 1 }, ⟨rfl, by decide +kernel⟩⟩,
   ⟨fmOn { swap := some { number := 1, step := 5, plan := {}, affected := [], bank := 1 } } 3, _, { number := 1, step := 5, plan := {}, affected := [], bank := 1 }, ⟨rfl, by decide +kernel⟩⟩,
   ⟨fmOn { swap := some { number := 1, step := 3, plan := {}, affected := [], bank := 1 } } 3, _, { number := 1, step := 3, plan := {}, affected := [], bank := 1 }, ⟨rfl, by decide +kernel⟩⟩,
   ⟨fmOn { swap := some { number := 1, step := 2, plan := {}, affected := [], bank := 1 } } 3, _, { number := 1, step := 2, plan := {}, affected := [], bank := 1 }, ⟨rfl, by decide +kernel⟩⟩,
   ⟨fmOn { swap := some { number := 1, step := 7, plan := {}, affected := [], bank := 1 } } 3, _, { number := 1, step := 7, plan := {}, affected := [], bank := 1 }, ⟨rfl, by decide +kernel⟩⟩,
   ⟨fmOn { swap := some { number := 1, step := 6, plan := {}, affected := [], bank := 1 } } 3, _, { number := 1, step := 6, plan := {}, affected := [], bank := 1 }, ⟨rfl, by decide +kernel⟩⟩,
   ⟨fmOn, _, rfl⟩,
   ⟨fmOn, _, ⟨rfl, by decide +kernel⟩⟩,
   ⟨fmOn { inbox := [(15, 7, { type := 0x52, mseq := 9, term := 0, body := leBytes 3 1 })] }, _, 15, 7, { type := 0x52, mseq := 9, term := 0, body := leBytes 3 1 }, _, ⟨rfl, by decide +kernel, by decide +kernel, by decide +kernel, by decide +kernel, rfl, by decide +kernel⟩⟩,
   ⟨fmOn { inbox := [(15, 7, { type := 0x52, mseq := 9, term := 0, body := leBytes 4 1 })] }, _, 15, 7, { type := 0x52, mseq := 9, term := 0, body := leBytes 4 1 }, _, _, ⟨rfl, by decide +kernel, by decide +kernel, by decide +kernel, by decide +kernel, rfl, by decide +kernel, rfl⟩⟩,
   ⟨allOn, _, 1, ⟨rfl, by decide +kernel⟩⟩,
   ⟨allOn, _, 1, ⟨rfl, by decide +kernel⟩⟩,
   ⟨cmdOf 0 0x41 (leBytes 14 0 ++ leBytes 4 24), _, 1, { ok := true, data := [] }, { q := 7, entry := BitVec.ofNat 8 0x41 :: 0 :: (leBytes 14 0 ++ leBytes 4 24), stage := .started }, ⟨rfl, by decide +kernel⟩⟩,
   ⟨cmdOf 0 0x41 (leBytes 14 0 ++ leBytes 4 24), _, 1, { ok := true, data := leBytes 24 0 }, { q := 7, entry := BitVec.ofNat 8 0x41 :: 0 :: (leBytes 14 0 ++ leBytes 4 24), stage := .started }, ⟨rfl, by decide +kernel⟩⟩,
   ⟨cmdOf 0 0x41 (leBytes 14 0 ++ leBytes 4 24), _, 1, { ok := true, data := soleBlock }, { q := 7, entry := BitVec.ofNat 8 0x41 :: 0 :: (leBytes 14 0 ++ leBytes 4 24), stage := .started }, ⟨rfl, by decide +kernel, by decide +kernel, by decide +kernel, .inl (by decide +kernel)⟩⟩,
   ⟨cmdOf 0 0x41 (leBytes 14 0 ++ leBytes 4 24) .started (fmOn { master := some {}, devices := [soleDevice] } 3), _, 1, { ok := true, data := soleBlock }, { q := 7, entry := BitVec.ofNat 8 0x41 :: 0 :: (leBytes 14 0 ++ leBytes 4 24), stage := .started }, {}, _, _, ⟨rfl, by decide +kernel, by decide +kernel, by decide +kernel, by decide +kernel, by decide +kernel, (Option.some_get (by decide +kernel)).symm, rfl⟩⟩,
   ⟨cmdOf 0 0x42 (leBytes 14 0 ++ leBytes 4 0), _, 1, { q := 7, entry := BitVec.ofNat 8 0x42 :: 0 :: (leBytes 14 0 ++ leBytes 4 0), stage := .started }, ⟨rfl, by decide +kernel, .inl (by decide +kernel)⟩⟩,
   ⟨cmdOf 0 0x42 (leBytes 14 (3 * 2 ^ 48) ++ leBytes 4 0) .started (fmOn { master := some {}, devices := [soleDevice], jobs := [{ tag := 3, members := [], axes := 0, units := [] }] } 3), _, 1, { q := 7, entry := BitVec.ofNat 8 0x42 :: 0 :: (leBytes 14 (3 * 2 ^ 48) ++ leBytes 4 0), stage := .started }, {}, { tag := 3, members := [], axes := 0, units := [] }, ⟨rfl, by decide +kernel⟩⟩⟩

/-- One captured write that has not been consumed, of the last virtual function. -/
def oneWrite : State := ((hostUp 4 1).wr (Reg.hifCapProd 1) 1).wr (Reg.hifCapEntry 1 0 0) ((0x40 <<< 32) ||| (4 <<< 48))

theorem witness_HostAccessesTakeEffect :
    (∃ (s : State) (z : State) (h : Fin 2) (f : Fin 5), ({ s with answer := .none } : State) = z ∧ s.fnPresent h f = false) ∧
    (∃ (s : State) (z : State) (h : Fin 2) (f : Fin 5) (off : BitVec 16) (wide : Bool), ({ s with answer := .none } : State) = z ∧ s.fnPresent h f = true ∧ bar0Ok f off.toNat wide = false) ∧
    (∃ (s : State) (z : State) (h : Fin 2) (f : Fin 5) (off : BitVec 16) (wide : Bool), ({ s with answer := .none } : State) = z ∧ s.fnPresent h f = true ∧ bar0Ok f off.toNat wide = true ∧ 768 ≤ s.rdF (Reg.hifCapPend h f) 9 0) ∧
    (∃ (s : State) (z : State) (h : Fin 2) (f : Fin 5) (off : BitVec 16) (wide : Bool) (i : _), ({ s with answer := .none } : State) = z ∧ s.fnPresent h f = true ∧ bar0Ok f off.toNat wide = true ∧ s.rdF (Reg.hifCapPend h f) 9 0 < 768 ∧ s.rdF (Reg.hifCapProd h) 31 0 = i) ∧
    (∃ (s : State) (z : State) (h : Fin 2), ({ s with answer := .none } : State) = z ∧ s.unconsumed h = []) ∧
    (∃ (s : State) (z : State) (h : Fin 2) (i : _) (rest : _) (off : _) (g : Nat) (wide : _) (void : _) (v : _) (u : State), ({ s with answer := .none } : State) = z ∧ s.unconsumed h = i :: rest ∧ s.capEntry h i = (off, g, wide, void, v) ∧ (void = true → u = z) ∧ (void = false → (s.fstate h g = 3 ∨ s.fstate h g = 4) → u = z.updFn h g (fun x => { x with parked := x.parked ++ [(i, off, wide, v)] })) ∧ (void = false → ¬ (s.fstate h g = 3 ∨ s.fstate h g = 4) → u = (z.applyWrite h g off wide v).consumed h g i)) ∧
    (∃ (s : State) (z : State) (h : Fin 2) (ag : Agent), ({ s with answer := .none } : State) = z ∧ s.csrPath ag (Reg.hifCapCons h) 4 = .silent) ∧
    (∃ (s : State) (z : State) (h : Fin 2) (ag : Agent) (v : W32), ({ s with answer := .none } : State) = z ∧ s.csrPath ag (Reg.hifCapCons h) 4 = .served ∧ (ag ≠ .sch ∨ sub32 (s.rdF (Reg.hifCapProd h) 31 0) (s.rdF (Reg.hifCapCons h) 31 0) < sub32 v.toNat (s.rdF (Reg.hifCapCons h) 31 0))) ∧
    (∃ (s : State) (z : State) (h : Fin 2) (ag : Agent) (v : W32), ({ s with answer := .none } : State) = z ∧ s.csrPath ag (Reg.hifCapCons h) 4 = .served ∧ ag = .sch ∧ sub32 v.toNat (s.rdF (Reg.hifCapCons h) 31 0) ≤ sub32 (s.rdF (Reg.hifCapProd h) 31 0) (s.rdF (Reg.hifCapCons h) 31 0)) ∧
    (∃ (s : State) (z : State) (h : Fin 2) (f : Fin 5) (q : Fin 16) (head : Bool) (v : W32) (b : HeldBell), ({ s with answer := .none } : State) = z ∧ b = { q := q.val, head := head, value := v.toNat, tag := s.rdF (Reg.hifFnLast h f) 31 0 } ∧ (s.fnPresent h f = false ∨ (s.fstate h f = 2 ∧ s.rdF (Reg.hifCapPend h f) 9 0 = 0))) ∧
    (∃ (s : State) (z : State) (h : Fin 2) (f : Fin 5) (q : Fin 16) (head : Bool) (v : W32) (b : HeldBell), ({ s with answer := .none } : State) = z ∧ b = { q := q.val, head := head, value := v.toNat, tag := s.rdF (Reg.hifFnLast h f) 31 0 } ∧ s.fnPresent h f = true ∧ ¬ (s.fstate h f = 2 ∧ s.rdF (Reg.hifCapPend h f) 9 0 = 0) ∧ s.rdF (Reg.hifCapPend h f) 9 0 = 0 ∧ (s.fn h f).bells = []) ∧
    (∃ (s : State) (z : State) (h : Fin 2) (f : Fin 5) (q : Fin 16) (head : Bool) (v : W32) (b : HeldBell), ({ s with answer := .none } : State) = z ∧ b = { q := q.val, head := head, value := v.toNat, tag := s.rdF (Reg.hifFnLast h f) 31 0 } ∧ s.fnPresent h f = true ∧ ¬ (s.fstate h f = 2 ∧ s.rdF (Reg.hifCapPend h f) 9 0 = 0) ∧ ¬ (s.rdF (Reg.hifCapPend h f) 9 0 = 0 ∧ (s.fn h f).bells = [])) ∧
    (∃ (s : State) (z : State) (h : Fin 2) (f : Fin 5), ({ s with answer := .none } : State) = z ∧ s.fnPresent h f = false) ∧
    (∃ (s : State) (z : State) (h : Fin 2) (f : Fin 5) (n : _) (u : _), ({ s with answer := .none } : State) = z ∧ s.fnPresent h f = true ∧ (s.rdF (Reg.hifHbCount h f) 31 0 + 1) % 2 ^ 32 = n ∧ z.wr (Reg.hifHbCount h f) (BitVec.ofNat 64 n) = u ∧ s.fstate h f ≠ 1) ∧
    (∃ (s : State) (z : State) (h : Fin 2) (f : Fin 5) (n : _) (u : _), ({ s with answer := .none } : State) = z ∧ s.fnPresent h f = true ∧ (s.rdF (Reg.hifHbCount h f) 31 0 + 1) % 2 ^ 32 = n ∧ z.wr (Reg.hifHbCount h f) (BitVec.ofNat 64 n) = u ∧ s.fstate h f = 1) ∧
    (∃ (s : State) (z : State) (h : Fin 2) (f : Fin 5), ({ s with answer := .none } : State) = z ∧ ((s.fn h f).beating = false ∨ s.domOn (hostDomain h) = false ∨ s.host.stopped = true)) ∧
    (∃ (s : State) (z : State) (h : Fin 2) (f : Fin 5) (n : _) (m : _) (u : _), ({ s with answer := .none } : State) = z ∧ (s.fn h f).beating = true ∧ s.domOn (hostDomain h) = true ∧ s.host.stopped = false ∧ s.rdF (Reg.hifHbCount h f) 31 0 = n ∧ m = (if n = (s.fn h f).beats then min 7 (s.rdF (Reg.hifEmuHb h f) 18 16 + 1) else 0) ∧ (z.wrF (Reg.hifEmuHb h f) 18 16 m).updFn h f (fun x => { x with beats := n }) = u ∧ m < 3) ∧
    (∃ (s : State) (z : State) (h : Fin 2) (f : Fin 5) (n : _) (m : _) (u : _), ({ s with answer := .none } : State) = z ∧ (s.fn h f).beating = true ∧ s.domOn (hostDomain h) = true ∧ s.host.stopped = false ∧ s.rdF (Reg.hifHbCount h f) 31 0 = n ∧ m = (if n = (s.fn h f).beats then min 7 (s.rdF (Reg.hifEmuHb h f) 18 16 + 1) else 0) ∧ (z.wrF (Reg.hifEmuHb h f) 18 16 m).updFn h f (fun x => { x with beats := n }) = u ∧ 3 ≤ m) ∧
    (∃ (s : State) (z : State) (h : Fin 2) (f : Fin 5) (keep : Nat), ({ s with answer := .none } : State) = z ∧ keep = (match s.fnPart h f with | some p => (s.host.policies.get p).orphanKeep | none => 600) ∧ ((s.fn h f).orphan = true ∧ keep ≠ 0)) ∧
    (∃ (s : State) (z : State) (h : Fin 2) (f : Fin 5) (keep : Nat), ({ s with answer := .none } : State) = z ∧ keep = (match s.fnPart h f with | some p => (s.host.policies.get p).orphanKeep | none => 600) ∧ ¬ ((s.fn h f).orphan = true ∧ keep ≠ 0)) ∧
    (∃ (s : State) (z : State) (h : Fin 2) (f : Fin 5), ({ s with answer := .none } : State) = z ∧ (s.fnPresent h f = false ∨ s.fstate h f = 2 ∨ s.fstate h f = 5)) ∧
    (∃ (s : State) (z : State) (h : Fin 2) (f : Fin 5), ({ s with answer := .none } : State) = z ∧ (s.fnPresent h f = false ∨ s.fstate h f = 2 ∨ s.fstate h f = 5)) ∧
    (∃ (s : State) (z : State) (h : Fin 2) (f : Fin 5) (v : BitVec 32), ({ s with answer := .none } : State) = z ∧ s.fnPresent h f = true ∧ s.fstate h f ≠ 2 ∧ s.fstate h f ≠ 5 ∧ v.getLsbD 15 = true) ∧
    (∃ (s : State) (z : State) (h : Fin 2) (f : Fin 5) (v : BitVec 32), ({ s with answer := .none } : State) = z ∧ s.fnPresent h f = true ∧ s.fstate h f ≠ 2 ∧ s.fstate h f ≠ 5 ∧ v.getLsbD 15 = false) ∧
    (∃ (s : State) (z : State) (h : Fin 2) (f : Fin 5), ({ s with answer := .none } : State) = z ∧ s.fnPresent h f = true ∧ s.fstate h f ≠ 2 ∧ s.fstate h f ≠ 5) ∧
    (∃ (s : State) (z : State) (h : Fin 2) (f : Fin 5) (off : BitVec 36) (n : Nat) (data : Option (List Byte)) (ecc : List MemUpset) (u : State) (w : Nat) (k : Nat) (b : Nat) (win : W64), ({ s with answer := .none } : State) = z ∧ ({ s.upset ecc with answer := .none } : State) = u ∧ off.toNat / 2 ^ 31 = w ∧ u.rd (Reg.hifEmuWin h f w) = win ∧ (match data with | some bs => bs.length | none => n) = k ∧ fld win 63 32 * 0x200000 + off.toNat % 2 ^ 31 = b ∧ u.fnPresent h f = false) ∧
    (∃ (s : State) (z : State) (h : Fin 2) (f : Fin 5) (off : BitVec 36) (n : Nat) (data : Option (List Byte)) (ecc : List MemUpset) (u : State) (w : Nat) (k : Nat) (b : Nat) (win : W64), ({ s with answer := .none } : State) = z ∧ ({ s.upset ecc with answer := .none } : State) = u ∧ off.toNat / 2 ^ 31 = w ∧ u.rd (Reg.hifEmuWin h f w) = win ∧ (match data with | some bs => bs.length | none => n) = k ∧ fld win 63 32 * 0x200000 + off.toNat % 2 ^ 31 = b ∧ u.fnPresent h f = true ∧ (u.rdF (Reg.hifEmuWinStat h f w) 1 0 ≠ 1 ∨ (if data.isSome then bitOf win 27 else bitOf win 26) = false)) ∧
    (∃ (s : State) (z : State) (h : Fin 2) (f : Fin 5) (off : BitVec 36) (n : Nat) (data : Option (List Byte)) (ecc : List MemUpset) (u : State) (w : Nat) (k : Nat) (b : Nat) (win : W64), ({ s with answer := .none } : State) = z ∧ ({ s.upset ecc with answer := .none } : State) = u ∧ off.toNat / 2 ^ 31 = w ∧ u.rd (Reg.hifEmuWin h f w) = win ∧ (match data with | some bs => bs.length | none => n) = k ∧ fld win 63 32 * 0x200000 + off.toNat % 2 ^ 31 = b ∧ u.fnPresent h f = true ∧ u.rdF (Reg.hifEmuWinStat h f w) 1 0 = 1 ∧ (if data.isSome then bitOf win 27 else bitOf win 26) = true ∧ fld win 25 24 = 1) ∧
    (∃ (s : State) (z : State) (h : Fin 2) (f : Fin 5) (off : BitVec 36) (n : Nat) (data : Option (List Byte)) (ecc : List MemUpset) (u : State) (w : Nat) (k : Nat) (b : Nat) (win : W64), ({ s with answer := .none } : State) = z ∧ ({ s.upset ecc with answer := .none } : State) = u ∧ off.toNat / 2 ^ 31 = w ∧ u.rd (Reg.hifEmuWin h f w) = win ∧ (match data with | some bs => bs.length | none => n) = k ∧ fld win 63 32 * 0x200000 + off.toNat % 2 ^ 31 = b ∧ u.fnPresent h f = true ∧ u.rdF (Reg.hifEmuWinStat h f w) 1 0 = 1 ∧ (if data.isSome then bitOf win 27 else bitOf win 26) = true ∧ fld win 25 24 ≠ 1) :=
  ⟨⟨allOn, _, 1, 4, ⟨rfl, by decide +kernel⟩⟩,
   ⟨hostUp 4 1, _, 1, 4, 0xFFFF, true, ⟨rfl, by decide +kernel⟩⟩,
   ⟨(hostUp 4 1).wr (Reg.hifCapPend 1 4) 768, _, 1, 4, 0x4008, false, ⟨rfl, by decide +kernel⟩⟩,
   ⟨(hostUp 4 1).wr (Reg.hifCapPend 1 4) 767, _, 1, 4, 0x4008, false, _, ⟨rfl, by decide +kernel, by decide +kernel, by decide +kernel, rfl⟩⟩,
   ⟨allOn, _, 1, ⟨rfl, by decide +kernel⟩⟩,
   ⟨oneWrite, oneWrite, 1, 0, [], 0x40, 4, false, false, 0, ((oneWrite.applyWrite 1 4 0x40 false 0).consumed 1 4 0), ⟨rfl, by decide +kernel, by decide +kernel, fun h => Bool.noConfusion h, fun _ h => absurd h (by decide +kernel), fun _ _ => rfl⟩⟩,
   ⟨{}, _, 1, .sch, ⟨rfl, by decide +kernel⟩⟩,
   ⟨allOn, _, 1, .pmc, 0, ⟨rfl, by decide +kernel, .inl (by decide)⟩⟩,
   ⟨oneWrite, _, 1, .sch, 1, ⟨rfl, by decide +kernel⟩⟩,
   ⟨allOn, _, 1, 4, 15, true, (2 ^ 32 - 1), { q := 15, head := true, value := 2 ^ 32 - 1, tag := 0 }, ⟨rfl, by decide +kernel, .inl (by decide +kernel)⟩⟩,
   ⟨hostUp 4 1, _, 1, 4, 15, true, (2 ^ 32 - 1), { q := 15, head := true, value := 2 ^ 32 - 1, tag := 0 }, ⟨rfl, by decide +kernel⟩⟩,
   ⟨(hostUp 4 1).wr (Reg.hifCapPend 1 4) 3, _, 1, 4, 15, true, (2 ^ 32 - 1), { q := 15, head := true, value := 2 ^ 32 - 1, tag := 0 }, ⟨rfl, by decide +kernel⟩⟩,
   ⟨allOn, _, 1, 4, ⟨rfl, by decide +kernel⟩⟩,
   ⟨(hostUp 4 5).wr (Reg.hifHbCount 1 4) (2 ^ 32 - 1), _, 1, 4, 0, _, ⟨rfl, by decide +kernel, by decide +kernel, rfl, by decide +kernel⟩⟩,
   ⟨(hostUp 4 1).wr (Reg.hifHbCount 1 4) (2 ^ 32 - 1), _, 1, 4, 0, _, ⟨rfl, by decide +kernel, by decide +kernel, rfl, by decide +kernel⟩⟩,
   ⟨allOn, _, 1, 4, ⟨rfl, by decide +kernel⟩⟩,
   ⟨(hostUp 4 1 (fun x => { x with beating := true })).wr (Reg.hifEmuHb 1 4) (1 <<< 16), _, 1, 4, 0, 2, _, ⟨rfl, by decide +kernel, by decide +kernel, by decide +kernel, by decide +kernel, by decide +kernel, rfl, by decide +kernel⟩⟩,
   ⟨(hostUp 4 1 (fun x => { x with beating := true })).wr (Reg.hifEmuHb 1 4) (2 <<< 16), _, 1, 4, 0, 3, _, ⟨rfl, by decide +kernel, by decide +kernel, by decide +kernel, by decide +kernel, by decide +kernel, rfl, by decide +kernel⟩⟩,
   ⟨hostUp 4 1 (fun x => { x with orphan := true }), _, 1, 4, 600, ⟨rfl, by decide +kernel⟩⟩,
   ⟨hostUp 4 1, _, 1, 4, 600, ⟨rfl, by decide +kernel⟩⟩,
   ⟨hostUp 4 2, _, 1, 4, ⟨rfl, by decide +kernel⟩⟩,
   ⟨hostUp 4 5, _, 1, 4, ⟨rfl, by decide +kernel⟩⟩,
   ⟨hostUp 4 1, _, 1, 4, 0x8000, ⟨rfl, by decide +kernel⟩⟩,
   ⟨hostUp 4 1, _, 1, 4, 0x4000, ⟨rfl, by decide +kernel⟩⟩,
   ⟨hostUp 4 1, _, 1, 4, ⟨rfl, by decide +kernel⟩⟩,
   ⟨allOn, _, 1, 4, (2 ^ 36 - 64), 64, none, [], _, 31, 64, 2147483584, 0, ⟨rfl, rfl, by decide +kernel⟩⟩,
   ⟨hostUp 4 1, _, 1, 4, (2 ^ 36 - 64), 64, none, [], _, 31, 64, 2147483584, 0, ⟨rfl, rfl, by decide +kernel⟩⟩,
   ⟨((hostUp 4 1).wr (Reg.hifEmuWin 1 4 31) (5 <<< 24)).wr (Reg.hifEmuWinStat 1 4 31) 1, _, 1, 4, (2 ^ 36 - 64), 64, none, [], _, 31, 64, 2147483584, (5 <<< 24), ⟨rfl, rfl, by decide +kernel⟩⟩,
   ⟨((hostUp 4 1).wr (Reg.hifEmuWin 1 4 31) (8 <<< 24)).wr (Reg.hifEmuWinStat 1 4 31) 1, _, 1, 4, (2 ^ 36 - 64), 64, (some (leBytes 4 9)), [], _, 31, 4, 2147483584, (8 <<< 24), ⟨rfl, rfl, by decide +kernel⟩⟩⟩

/-- Queue 15 of the last virtual function, live, with one entry to fetch. -/
def oneEntry (k : HostQueue → HostQueue := id) : State := hostUp 4 1 (fun x => { x with queues := [(15, k { live := true, tail := 1 })] })

theorem witness_QueuesNegotiationAndResetsTakeEffect :
    (∃ (s : State) (z : State) (h : Fin 2) (f : Fin 5) (q : Fin 16) (bad : Bool) (u : State) (k : HostQueue) (i : Nat), ({ s with answer := .none } : State) = z ∧ (if bad then z.mismatchAt Reg.secPartMap else z) = u ∧ u.queue h f q = k ∧ u.rdF (Reg.hifEmuQstat h f q) 31 16 = i ∧ (u.mayFetch h f = false ∨ k.live = false ∨ k.error = true ∨ i % (16 * 2 ^ k.sqLog) = k.tail % (16 * 2 ^ k.sqLog))) ∧
    (∃ (s : State) (z : State) (h : Fin 2) (f : Fin 5) (q : Fin 16) (host : HostData) (bad : Bool) (u : State) (k : HostQueue) (i : Nat), ({ s with answer := .none } : State) = z ∧ (if bad then z.mismatchAt Reg.secPartMap else z) = u ∧ u.queue h f q = k ∧ u.rdF (Reg.hifEmuQstat h f q) 31 16 = i ∧ u.mayFetch h f = true ∧ k.live = true ∧ k.error = false ∧ i % (16 * 2 ^ k.sqLog) ≠ k.tail % (16 * 2 ^ k.sqLog) ∧ host.ok = true ∧ host.data.length = 64) ∧
    (∃ (s : State) (z : State) (h : Fin 2) (f : Fin 5) (q : Fin 16) (host : HostData) (bad : Bool) (u : State) (k : HostQueue) (i : Nat), ({ s with answer := .none } : State) = z ∧ (if bad then z.mismatchAt Reg.secPartMap else z) = u ∧ u.queue h f q = k ∧ u.rdF (Reg.hifEmuQstat h f q) 31 16 = i ∧ u.mayFetch h f = true ∧ k.live = true ∧ k.error = false ∧ i % (16 * 2 ^ k.sqLog) ≠ k.tail % (16 * 2 ^ k.sqLog) ∧ (host.ok = false ∨ host.data.length ≠ 64)) ∧
    (∃ (s : State) (z : State), ({ s with answer := .none } : State) = z) ∧
    (∃ (s : State) (z : State) (u : State), ({ s with answer := .none } : State) = z ∧ z.settleCmds = u) ∧
    (∃ (s : State) (z : State) (h : Fin 2) (f : Fin 5), ({ s with answer := .none } : State) = z ∧ s.fnPart h f = none) ∧
    (∃ (s : State) (z : State) (h : Fin 2) (f : Fin 5) (p : Nat) (t : BitVec 8), ({ s with answer := .none } : State) = z ∧ s.fnPart h f = some p ∧ (s.seq p).transfers.find? (fun x => decide (x.token = t.toNat) && (x.op == 6 || x.op == 7)) = none) ∧
    (∃ (s : State) (z : State) (h : Fin 2) (f : Fin 5) (p : Nat) (t : BitVec 8) (x : _) (far : Nat), ({ s with answer := .none } : State) = z ∧ s.fnPart h f = some p ∧ (s.seq p).transfers.find? (fun x => decide (x.token = t.toNat) && (x.op == 6 || x.op == 7)) = some x ∧ far = (match x.parts with | y :: _ => y.far | [] => 0)) ∧
    (∃ (s : State) (z : State) (h : Fin 2) (f : Fin 5), ({ s with answer := .none } : State) = z ∧ (s.fn h f).cmds.find? (fun c => c.stage = .started ∧ hostOps.any (fun o => o.1 = c.op)) = none) ∧
    (∃ (s : State) (z : State) (h : Fin 2) (f : Fin 5) (c : _), ({ s with answer := .none } : State) = z ∧ (s.fn h f).cmds.find? (fun c => c.stage = .started ∧ hostOps.any (fun o => o.1 = c.op)) = some c) ∧
    (∃ (s : State) (z : State) (h : Fin 2), ({ s with answer := .none } : State) = z ∧ (s.domOn (hostDomain h) = false ∨ (s.hport h).up = false)) ∧
    (∃ (s : State) (z : State) (h : Fin 2), ({ s with answer := .none } : State) = z ∧ s.domOn (hostDomain h) = true ∧ (s.hport h).up = true ∧ s.ready = false) ∧
    (∃ (s : State) (z : State) (h : Fin 2) (f : Fin 5), ({ s with answer := .none } : State) = z ∧ s.domOn (hostDomain h) = true ∧ (s.hport h).up = true ∧ s.ready = true ∧ f ≠ 0 ∧ s.fnPresent h f = false) ∧
    (∃ (s : State) (z : State) (h : Fin 2) (f : Fin 5), ({ s with answer := .none } : State) = z ∧ s.domOn (hostDomain h) = true ∧ (s.hport h).up = true ∧ s.ready = true ∧ (f = 0 ∨ s.fnPresent h f = true)) ∧
    (∃ (s : State) (z : State) (h : Fin 2) (f : Fin 5) (n : Nat), ({ s with answer := .none } : State) = z ∧ s.domOn (hostDomain h) = true ∧ (s.hport h).up = true ∧ s.ready = true ∧ (f = 0 ∨ s.fnPresent h f = true) ∧ (f ≠ 0 ∨ 4 < n)) ∧
    (∃ (s : State) (z : State) (h : Fin 2) (f : Fin 5) (en : Bool) (n : Nat) (u : State), ({ s with answer := .none } : State) = z ∧ s.domOn (hostDomain h) = true ∧ (s.hport h).up = true ∧ s.ready = true ∧ (f = 0 ∨ s.fnPresent h f = true) ∧ f = 0 ∧ n ≤ 4 ∧ z.updHport h (fun p => { p with vfEnable := en, numVfs := n }) = u) ∧
    (∃ (s : State) (z : State) (h : Fin 2) (f : Fin 5) (u : State), ({ s with answer := .none } : State) = z ∧ z.settleCmds = u ∧ ¬ ((u.fn h f).asked = true ∧ u.ready = true ∧ u.fnPresent h f = true ∧ u.fstate h f ≠ 3 ∧ u.fstate h f ≠ 4)) ∧
    (∃ (s : State) (z : State) (h : Fin 2) (f : Fin 5) (u : State), ({ s with answer := .none } : State) = z ∧ z.settleCmds = u ∧ (u.fn h f).asked = true ∧ u.ready = true ∧ u.fnPresent h f = true ∧ u.fstate h f ≠ 3 ∧ u.fstate h f ≠ 4) ∧
    (∃ (s : State) (z : State) (h : Fin 2) (f : Fin 5) (u : State), ({ s with answer := .none } : State) = z ∧ z.settleCmds = u ∧ (¬ ((u.fstate h f = 3 ∨ u.fstate h f = 4) ∧ u.fnQuiet h f = true ∧ (f.val = 0 ∨ (u.sec.stopping.get (f.val - 1)).isNone = true)))) ∧
    (∃ (s : State) (z : State) (h : Fin 2) (f : Fin 5) (u : State), ({ s with answer := .none } : State) = z ∧ z.settleCmds = u ∧ ((u.fstate h f = 3 ∨ u.fstate h f = 4) ∧ u.fnQuiet h f = true ∧ (f.val = 0 ∨ (u.sec.stopping.get (f.val - 1)).isNone = true))) ∧
    (∃ (s : State) (z : State), ({ s with answer := .none } : State) = z) ∧
    (∃ (s : State) (z : State) (h : Fin 2) (u : State), ({ s with answer := .none } : State) = z ∧ z.settleCmds = u ∧ u.fnPresent h 0 = false) ∧
    (∃ (s : State) (z : State) (h : Fin 2) (u : State) (v : State), ({ s with answer := .none } : State) = z ∧ z.settleCmds = u ∧ u.fnPresent h 0 = true ∧ u.each (((List.range 5).filter (fun f => u.fnPresent h f)).filter (· ≠ 0)) (fun s f => (s.orphanFn h f 2).updFn h f (fun x => { x with flrDue := true })) = v) ∧
    (∃ (s : State) (z : State) (u : State) (k : Fin 4), ({ s with answer := .none } : State) = z ∧ z.settleCmds = u ∧ k ≠ 0) ∧
    (∃ (s : State) (z : State) (h : Fin 2) (f : Nat) (major : Nat), ({ s with answer := .none } : State) = z ∧ f < 5 ∧ s.ready = true ∧ fld (s.rd (Reg.hifEmuDrvver h f)) 7 0 = major ∧ (major < fld (s.rd (Reg.hifEmuFwver h f)) 7 0 ∨ fld (s.rd (Reg.hifEmuFwver h f)) 15 8 < major) ∧ s.fstate h f ≠ 2) :=
  ⟨⟨hostUp 4 1, _, 1, 4, 15, false, _, {}, 0, ⟨rfl, rfl, by decide +kernel, by decide +kernel, .inr (.inl (by decide +kernel))⟩⟩,
   ⟨oneEntry, _, 1, 4, 15, { ok := true, data := leBytes 64 0 }, false, _, { live := true, tail := 1 }, 0, ⟨rfl, rfl, by decide +kernel⟩⟩,
   ⟨oneEntry, _, 1, 4, 15, { ok := false, data := [] }, false, _, { live := true, tail := 1 }, 0, ⟨rfl, rfl, by decide +kernel⟩⟩,
   ⟨allOn, _, rfl⟩,
   ⟨allOn, _, _, ⟨rfl, rfl⟩⟩,
   ⟨hostUp 4 1, _, 1, 0, ⟨rfl, by decide +kernel⟩⟩,
   ⟨hostUp 4 1, _, 1, 4, 3, 255, ⟨rfl, by decide +kernel⟩⟩,
   ⟨(hostUp 4 1).updSeq 3 (fun z => { z with transfers := [{ op := 6, token := 255, parts := [], left := 1 }] }), _, 1, 4, 3, 255, { op := 6, token := 255, parts := [], left := 1 }, 0, ⟨rfl, by decide +kernel⟩⟩,
   ⟨hostUp 4 1, _, 1, 4, ⟨rfl, by decide +kernel⟩⟩,
   ⟨cmdOf 4 0x4D, _, 1, 4, { q := 7, entry := [0x4D, 0], stage := .started }, ⟨rfl, by decide +kernel⟩⟩,
   ⟨allOn, _, 1, ⟨rfl, by decide +kernel⟩⟩,
   ⟨(hostUp 4 1).wr Reg.pmcBoot 10, _, 1, ⟨rfl, by decide +kernel⟩⟩,
   ⟨(hostUp 4 1).wr (Reg.secPartState 3) 1, _, 1, 4, ⟨rfl, by decide +kernel⟩⟩,
   ⟨hostUp 4 1, _, 1, 4, ⟨rfl, by decide +kernel⟩⟩,
   ⟨hostUp 4 1, _, 1, 4, 4, ⟨rfl, by decide +kernel⟩⟩,
   ⟨hostUp 0 1, _, 1, 0, true, 4, _, ⟨rfl, by decide +kernel, by decide +kernel, by decide +kernel, by decide +kernel, by decide +kernel, by decide +kernel, rfl⟩⟩,
   ⟨hostUp 4 1, _, 1, 4, _, ⟨rfl, rfl, by decide +kernel⟩⟩,
   ⟨hostUp 4 1 (fun x => { x with asked := true }), _, 1, 4, _, ⟨rfl, rfl, by decide +kernel⟩⟩,
   ⟨hostUp 4 1, _, 1, 4, _, ⟨rfl, rfl, by decide +kernel⟩⟩,
   ⟨hostUp 4 3, _, 1, 4, _, ⟨rfl, rfl, by decide +kernel⟩⟩,
   ⟨allOn, _, rfl⟩,
   ⟨allOn, _, 1, _, ⟨rfl, rfl, by decide +kernel⟩⟩,
   ⟨hostUp 0 1, _, 1, _, _, ⟨rfl, rfl, by decide +kernel, rfl⟩⟩,
   ⟨allOn, _, _, 3, ⟨rfl, rfl, by decide +kernel⟩⟩,
   ⟨(hostUp 4 1).wr (Reg.hifEmuDrvver 1 4) 255, _, 1, 4, 255, ⟨rfl, by decide +kernel⟩⟩⟩

theorem witness_FunctionCommandsComplete :
    (∃ (h : Fin 2) (f : Fin 5) (s : State) (z : State), ({ s with answer := .none } : State) = z ∧ z.startedCmd h f 0x01 (fun _ => true) = none) ∧
    (∃ (h : Fin 2) (f : Fin 5) (s : State) (z : State) (c : _) (p : Nat), ({ s with answer := .none } : State) = z ∧ z.startedCmd h f 0x01 (fun _ => true) = some c ∧ f.val ≠ 0 ∧ z.fnPart h f = some p ∧ z.mapOk = true) ∧
    (∃ (h : Fin 2) (f : Fin 5) (s : State) (z : State) (c : _), ({ s with answer := .none } : State) = z ∧ z.startedCmd h f 0x01 (fun _ => true) = some c ∧ f.val ≠ 0 ∧ (z.fnPart h f = none ∨ z.mapOk = false)) ∧
    (∃ (h : Fin 2) (f : Fin 5) (s : State) (z : State) (c : _), ({ s with answer := .none } : State) = z ∧ z.startedCmd h f 0x01 (fun _ => true) = some c ∧ f.val = 0) ∧
    (∃ (s : State) (h : Nat) (f : Nat) (c : HostCmd) (pre : List HostCmd) (post : List HostCmd) (g : Nat), (s.fn h f).cmds = pre ++ c :: post ∧ c ∉ pre ∧ fnKey h g ≠ fnKey h f) :=
  ⟨⟨1, 4, hostUp 4 1, _, ⟨rfl, by decide +kernel⟩⟩,
   ⟨1, 4, cmdOf 4 0x01 [] .started (hostUp 4 1), _, { q := 7, entry := [0x01, 0], stage := .started }, 3, ⟨rfl, by decide +kernel⟩⟩,
   ⟨1, 4, cmdOf 4 0x01 [] .started allOn, _, { q := 7, entry := [0x01, 0], stage := .started }, ⟨rfl, by decide +kernel, by decide +kernel, .inl (by decide +kernel)⟩⟩,
   ⟨1, 0, cmdOf 0 0x01, _, { q := 7, entry := [0x01, 0], stage := .started }, ⟨rfl, by decide +kernel⟩⟩,
   ⟨cmdOf 4 0x01, 1, 4, { q := 7, entry := [0x01, 0], stage := .started }, [], [], 3, by decide +kernel⟩⟩

theorem witness_OwnerCommandsTakeEffect :
    (∃ (h : Fin 2) (s : State) (z : State), ({ s with answer := .none } : State) = z ∧ z.startedCmd h 0 0x40 (fun c => c.par 8 1 == 3) = none) ∧
    (∃ (h : Fin 2) (s : State) (z : State) (c : _), ({ s with answer := .none } : State) = z ∧ z.startedCmd h 0 0x40 (fun c => c.par 8 1 == 3) = some c) ∧
    (∃ (h : Fin 2) (s : State) (z : State), ({ s with answer := .none } : State) = z ∧ z.startedCmd h 0 0x40 (fun c => c.par 8 1 == 2) = none) ∧
    (∃ (h : Fin 2) (s : State) (z : State) (c : _) (p : _), ({ s with answer := .none } : State) = z ∧ z.startedCmd h 0 0x40 (fun c => c.par 8 1 == 2) = some c ∧ c.par 11 1 = p ∧ (3 < p ∨ s.partExists p = false ∨ (s.sec.stopping.get p).isSome = true)) ∧
    (∃ (h : Fin 2) (s : State) (z : State) (c : _) (p : _), ({ s with answer := .none } : State) = z ∧ z.startedCmd h 0 0x40 (fun c => c.par 8 1 == 2) = some c ∧ c.par 11 1 = p ∧ p ≤ 3 ∧ s.partExists p = true ∧ (s.sec.stopping.get p).isSome = false) ∧
    (∃ (h : Fin 2) (s : State) (z : State), ({ s with answer := .none } : State) = z ∧ z.startedCmd h 0 0x40 (fun c => c.par 8 1 == 4) = none) ∧
    (∃ (h : Fin 2) (s : State) (z : State) (c : _) (p : _), ({ s with answer := .none } : State) = z ∧ z.startedCmd h 0 0x40 (fun c => c.par 8 1 == 4) = some c ∧ c.par 11 1 = p ∧ (3 < p ∨ s.partExists p = false ∨ s.partState p ≠ 2)) ∧
    (∃ (h : Fin 2) (s : State) (z : State) (c : _) (p : _), ({ s with answer := .none } : State) = z ∧ z.startedCmd h 0 0x40 (fun c => c.par 8 1 == 4) = some c ∧ c.par 11 1 = p ∧ p ≤ 3 ∧ s.partExists p = true ∧ s.partState p = 2) ∧
    (∃ (s : State) (z : State), ({ s with answer := .none } : State) = z) ∧
    (∃ (s : State) (z : State) (p : _), ({ s with answer := .none } : State) = z ∧ p ≤ 3 ∧ s.sec.stopping.get p = none) ∧
    (∃ (s : State) (z : State), ({ s with answer := .none } : State) = z ∧ s.updState ≠ 1) ∧
    (∃ (s : State) (z : State) (u : _) (ok : _) (v : _), ({ s with answer := .none } : State) = z ∧ s.updState = 1 ∧ z.checkSlot (1 - s.activeSlot) = (u, ok) ∧ bundleVersion (u.slotBytes (1 - s.activeSlot)) = v) ∧
    (∃ (s : State) (z : State) (k : Fin 7) (payload : List Byte), ({ s with answer := .none } : State) = z ∧ (s.mayHandOver k = false ∨ 130944 < payload.length)) ∧
    (∃ (s : State) (z : State) (k : Fin 7) (payload : List Byte) (new : Nat) (e : BundleEntry) (r : List Byte) (u : State) (v : State) (w : State) (ok : Bool), ({ s with answer := .none } : State) = z ∧ s.mayHandOver k = true ∧ payload.length ≤ 130944 ∧ new = (if k.val = 2 then s.activeSlot else 1 - s.activeSlot) ∧ bundleOf (s.slotBytes new) k = e ∧ r = levainRecord (levainHead (bundleOf (s.slotBytes (1 - new)) k).fmt k (s.rdF (Reg.hubFwComp (k - 1)) 31 0) e.version payload.length s.fw.levainSeq (s.rdF (Reg.bbxInc k) 15 0)) payload ∧ z.setCompState k 3 = u ∧ ({ u with fw := { u.fw with levain := r, levainBack := u.fw.levain, levainSeq := (u.fw.levainSeq + 1) % 2 ^ 32 } } : State).checkSlot new = (v, ok) ∧ v.startCore k new = w) ∧
    (∃ (s : State) (z : State), ({ s with answer := .none } : State) = z ∧ s.fw.starting = none) ∧
    (∃ (s : State) (z : State) (k : _), ({ s with answer := .none } : State) = z ∧ s.fw.starting = some k) ∧
    (∃ (s : State) (z : State), ({ s with answer := .none } : State) = z ∧ s.updState = 5 ∧ s.emergencyNow = false ∧ s.compState 2 ≠ 3 ∧ s.compState 2 ≠ 4) ∧
    (∃ (s : State) (z : State), ({ s with answer := .none } : State) = z ∧ (s.updState ≠ 5 ∨ s.emergencyNow = true ∨ s.compState 2 = 3 ∨ s.compState 2 = 4)) :=
  ⟨⟨1, allOn, _, ⟨rfl, by decide +kernel⟩⟩,
   ⟨1, cmdOf 0 64 (leBytes 6 0 ++ leBytes 4 3), _, { q := 7, entry := BitVec.ofNat 8 64 :: 0 :: (leBytes 6 0 ++ leBytes 4 3), stage := .started }, ⟨rfl, by decide +kernel⟩⟩,
   ⟨1, allOn, _, ⟨rfl, by decide +kernel⟩⟩,
   ⟨1, cmdOf 0 64 (leBytes 6 0 ++ leBytes 4 50331650), _, { q := 7, entry := BitVec.ofNat 8 64 :: 0 :: (leBytes 6 0 ++ leBytes 4 50331650), stage := .started }, 3, ⟨rfl, by decide +kernel, by decide +kernel, .inr (.inl (by decide +kernel))⟩⟩,
   ⟨1, cmdOf 0 64 (leBytes 6 0 ++ leBytes 4 50331650) .started (hostUp 4 1), _, { q := 7, entry := BitVec.ofNat 8 64 :: 0 :: (leBytes 6 0 ++ leBytes 4 50331650), stage := .started }, 3, ⟨rfl, by decide +kernel⟩⟩,
   ⟨1, allOn, _, ⟨rfl, by decide +kernel⟩⟩,
   ⟨1, cmdOf 0 64 (leBytes 6 0 ++ leBytes 4 50331652), _, { q := 7, entry := BitVec.ofNat 8 64 :: 0 :: (leBytes 6 0 ++ leBytes 4 50331652), stage := .started }, 3, ⟨rfl, by decide +kernel, by decide +kernel, .inr (.inl (by decide +kernel))⟩⟩,
   ⟨1, cmdOf 0 64 (leBytes 6 0 ++ leBytes 4 50331652) .started (hostUp 4 1), _, { q := 7, entry := BitVec.ofNat 8 64 :: 0 :: (leBytes 6 0 ++ leBytes 4 50331652), stage := .started }, 3, ⟨rfl, by decide +kernel⟩⟩,
   ⟨allOn, _, rfl⟩,
   ⟨allOn, _, 3, ⟨rfl, by decide +kernel⟩⟩,
   ⟨allOn, _, ⟨rfl, by decide +kernel⟩⟩,
   ⟨allOn.wr Reg.hubFwUpd 1, _, _, _, _, ⟨rfl, by decide +kernel, rfl, rfl⟩⟩,
   ⟨allOn, _, 6, [], ⟨rfl, .inl (by decide +kernel)⟩⟩,
   ⟨allOn.wr Reg.hubFwUpd (4 ||| (1 <<< 7)), _, 4, [], _, _, _, _, _, _, _, ⟨rfl, by decide +kernel, by decide +kernel, rfl, rfl, rfl, rfl, rfl, rfl⟩⟩,
   ⟨allOn, _, ⟨rfl, by decide +kernel⟩⟩,
   ⟨{ allOn with fw := { starting := some 4 } }, _, 4, ⟨rfl, by decide +kernel⟩⟩,
   ⟨allOn.wr Reg.hubFwUpd 5, _, ⟨rfl, by decide +kernel⟩⟩,
   ⟨allOn, _, ⟨rfl, .inl (by decide +kernel)⟩⟩⟩

/-- A request of type 0x0A01 stands in the peel of host port 1, with its first data word; the owner may be enrolled. -/
def clearAsked (addr : W64 := 0) (owner : Bool := false) (s : State := allOn) : State :=
  ({ s with config := s.config.store (fun r => { r with ownerEnrolled := owner }) }.wr (Reg.bbxStatus 50) 1 |>.wr (Reg.bbxHdr 50) (0x0A01 <<< 32)).wr
    (Reg.bbxData 50 0) addr

theorem witness_BreadboxesAndCoresTakeEffect :
    (∃ (s : State) (z : State) (ag : Agent) (on : Bool), ({ s with answer := .none } : State) = z ∧ on = (match ag with | .none => false | .sec | .pmc => true | .sch | .fab => s.domOn 24 | .ccc c => s.domOn (clusterDomain c) | .bdc n => s.domOn (stackDomain n) | .host h f => s.fnPresent h f)) ∧
    (∃ (s : State) (z : State) (ag : Agent) (b : Fin 64) (i : Fin 16), ({ s with answer := .none } : State) = z ∧ s.csrPath ag (Reg.bbxData b i) 4 = .served ∧ s.boxOpenTo b ag.num = true) ∧
    (∃ (s : State) (z : State) (ag : Agent) (b : Fin 64) (i : Fin 16), ({ s with answer := .none } : State) = z ∧ s.csrPath ag (Reg.bbxData b i) 4 = .served ∧ s.boxOpenTo b ag.num = false) ∧
    (∃ (s : State) (z : State) (ag : Agent) (b : Fin 64) (v : W32) (w : W64), ({ s with answer := .none } : State) = z ∧ v.setWidth 64 = w ∧ s.csrPath ag (Reg.bbxSend b) 4 = .served ∧ bitOf w 0 = false) ∧
    (∃ (s : State) (z : State) (ag : Agent) (b : Fin 64) (v : W32) (w : W64), ({ s with answer := .none } : State) = z ∧ v.setWidth 64 = w ∧ s.csrPath ag (Reg.bbxSend b) 4 = .served ∧ bitOf w 0 = true ∧ s.boxOpenTo b ag.num = true ∧ fld w 5 1 ≤ 16) ∧
    (∃ (s : State) (z : State) (ag : Agent) (b : Fin 64) (v : W32) (w : W64), ({ s with answer := .none } : State) = z ∧ v.setWidth 64 = w ∧ s.csrPath ag (Reg.bbxSend b) 4 = .served ∧ bitOf w 0 = true ∧ (s.boxOpenTo b ag.num = false ∨ 16 < fld w 5 1)) ∧
    (∃ (s : State) (z : State) (ag : Agent) (b : Fin 64) (v : W32), ({ s with answer := .none } : State) = z ∧ s.csrPath ag (Reg.bbxStatus b) 4 = .served ∧ (ag.num ≠ boxReceiver b ∨ v.getLsbD 0 = false)) ∧
    (∃ (s : State) (z : State) (ag : Agent) (b : Fin 64) (v : W32), ({ s with answer := .none } : State) = z ∧ s.csrPath ag (Reg.bbxStatus b) 4 = .served ∧ ag.num = boxReceiver b ∧ v.getLsbD 0 = true ∧ s.boxGo b = true) ∧
    (∃ (s : State) (z : State) (ag : Agent) (b : Fin 64) (v : W32), ({ s with answer := .none } : State) = z ∧ s.csrPath ag (Reg.bbxStatus b) 4 = .served ∧ ag.num = boxReceiver b ∧ v.getLsbD 0 = true ∧ s.boxGo b = false) ∧
    (∃ (s : State) (z : State) (ag : Agent) (b : Fin 64), ({ s with answer := .none } : State) = z ∧ s.csrPath ag (Reg.bbxLock b) 4 = .served ∧ boxShared b = false) ∧
    (∃ (s : State) (z : State) (ag : Agent) (b : Fin 64), ({ s with answer := .none } : State) = z ∧ s.csrPath ag (Reg.bbxLock b) 4 = .served ∧ boxShared b = true ∧ s.boxOwner b = 0 ∧ ag.num < 256) ∧
    (∃ (s : State) (z : State) (ag : Agent) (b : Fin 64), ({ s with answer := .none } : State) = z ∧ s.csrPath ag (Reg.bbxLock b) 4 = .served ∧ boxShared b = true ∧ s.boxOwner b ≠ 0) ∧
    (∃ (s : State) (z : State) (ag : Agent) (b : Fin 64) (v : W32), ({ s with answer := .none } : State) = z ∧ s.csrPath ag (Reg.bbxLock b) 4 = .served ∧ boxShared b = true ∧ s.boxOwner b = ag.num ∧ v.toNat % 256 = 0) ∧
    (∃ (s : State) (z : State) (ag : Agent) (b : Fin 64) (v : W32), ({ s with answer := .none } : State) = z ∧ s.csrPath ag (Reg.bbxLock b) 4 = .served ∧ ¬ (boxShared b = true ∧ s.boxOwner b = ag.num ∧ v.toNat % 256 = 0)) ∧
    (∃ (s : State) (z : State) (ag : Agent) (b : Fin 64) (bad : Bool) (u : State), ({ s with answer := .none } : State) = z ∧ s.csrPath ag (Reg.bbxHdr b) 8 = .served ∧ (if bad then { z with cpBad := z.cpBad.set (Reg.bbxHdr b) true } else z) = u ∧ u.cpOk (Reg.bbxHdr b) = true) ∧
    (∃ (s : State) (z : State) (ag : Agent) (b : Fin 64) (bad : Bool) (u : State) (w : State), ({ s with answer := .none } : State) = z ∧ s.csrPath ag (Reg.bbxHdr b) 8 = .served ∧ (if bad then { z with cpBad := z.cpBad.set (Reg.bbxHdr b) true } else z) = u ∧ u.cpOk (Reg.bbxHdr b) = false ∧ (u.wrB (Reg.bbxStatus b) 2 true).event 0x809 .none b (agent := ag.num) = w) ∧
    (∃ (s : State) (z : State) (p : Fin 4), ({ s with answer := .none } : State) = z ∧ (s.boxGo (16 + p) = true ∨ (s.rd (Reg.bbxSigAccLocal p) = 0 ∧ s.rd (Reg.bbxSigAccRemote p) = 0))) ∧
    (∃ (s : State) (z : State) (p : Fin 4) (l : _) (r : _), ({ s with answer := .none } : State) = z ∧ s.boxGo (16 + p) = false ∧ (s.rd (Reg.bbxSigAccLocal p) ≠ 0 ∨ s.rd (Reg.bbxSigAccRemote p) ≠ 0) ∧ s.rd (Reg.bbxSigAccLocal p) = l ∧ s.rd (Reg.bbxSigAccRemote p) = r) ∧
    (∃ (s : State) (z : State) (p : Fin 4), ({ s with answer := .none } : State) = z ∧ s.boxGo (16 + p) = true ∧ (s.partExists p = false ∨ s.rdB (Reg.hifEmuAccfeat (s.partPort p) (p + 1)) 0 = false)) ∧
    (∃ (s : State) (z : State) (p : Fin 4) (l : W64) (r : W64) (u : State) (v : State), ({ s with answer := .none } : State) = z ∧ s.boxGo (16 + p) = true ∧ s.partExists p = true ∧ s.rdB (Reg.hifEmuAccfeat (s.partPort p) (p + 1)) 0 = true ∧ BitVec.ofNat 64 (s.boxData (16 + p) 0 + s.boxData (16 + p) 1 * 2 ^ 32) = l ∧ BitVec.ofNat 64 (s.boxData (16 + p) 2 + s.boxData (16 + p) 3 * 2 ^ 32) = r ∧ (if l = 0 then z else z.complete (s.partPort p) (p + 1) false { q := 0, id := 0, kind := 1, status := 0, result := l }) = u ∧ (if r = 0 then u else u.complete (s.partPort p) (p + 1) false { q := 0, id := 0, kind := 1, status := 1, result := r }) = v) ∧
    (∃ (s : State) (z : State) (p : Fin 4), ({ s with answer := .none } : State) = z ∧ (natBit s.pwr.saving p = false ∨ s.seqState p = 6)) ∧
    (∃ (s : State) (z : State) (p : Fin 4) (u : State), ({ s with answer := .none } : State) = z ∧ natBit s.pwr.saving p = true ∧ s.seqState p ≠ 6 ∧ { z with pwr := { z.pwr with saving := z.pwr.saving - 2 ^ p.val, notQuiet := z.pwr.notQuiet ||| 2 ^ p.val } } = u) ∧
    (∃ (s : State) (z : State) (h : Fin 2), ({ s with answer := .none } : State) = z ∧ (s.boxHolds (48 + 2 * h) 0x0A01 = false ∨ s.boxGo (48 + 2 * h + 1) = true)) ∧
    (∃ (s : State) (z : State) (h : Fin 2), ({ s with answer := .none } : State) = z ∧ s.boxHolds (48 + 2 * h) 0x0A01 = true ∧ s.boxGo (48 + 2 * h + 1) = false ∧ s.rcd.clearing.isSome = true) ∧
    (∃ (s : State) (z : State) (h : Fin 2), ({ s with answer := .none } : State) = z ∧ s.boxHolds (48 + 2 * h) 0x0A01 = true ∧ s.boxGo (48 + 2 * h + 1) = false ∧ s.rcd.clearing.isSome = false ∧ s.config.record.ownerEnrolled = false) ∧
    (∃ (s : State) (z : State) (h : Fin 2) (host : HostData) (addr : Nat), ({ s with answer := .none } : State) = z ∧ s.boxHolds (48 + 2 * h) 0x0A01 = true ∧ s.boxGo (48 + 2 * h + 1) = false ∧ s.rcd.clearing.isSome = false ∧ s.config.record.ownerEnrolled = true ∧ s.boxData (48 + 2 * h) 0 + s.boxData (48 + 2 * h) 1 * 2 ^ 32 = addr ∧ addr ≠ 0 ∧ host.ok = true) ∧
    (∃ (s : State) (z : State) (h : Fin 2) (addr : Nat), ({ s with answer := .none } : State) = z ∧ s.boxHolds (48 + 2 * h) 0x0A01 = true ∧ s.boxGo (48 + 2 * h + 1) = false ∧ s.rcd.clearing.isSome = false ∧ s.config.record.ownerEnrolled = true ∧ s.boxData (48 + 2 * h) 0 + s.boxData (48 + 2 * h) 1 * 2 ^ 32 = addr ∧ addr = 0) ∧
    (∃ (s : State) (z : State) (h : Fin 2) (host : HostData) (addr : Nat), ({ s with answer := .none } : State) = z ∧ s.boxHolds (48 + 2 * h) 0x0A01 = true ∧ s.boxGo (48 + 2 * h + 1) = false ∧ s.rcd.clearing.isSome = false ∧ s.config.record.ownerEnrolled = true ∧ s.boxData (48 + 2 * h) 0 + s.boxData (48 + 2 * h) 1 * 2 ^ 32 = addr ∧ addr ≠ 0 ∧ host.ok = false) ∧
    (∃ (s : State) (z : State) (c : Fin 64), ({ s with answer := .none } : State) = z ∧ (s.domOn (clusterDomain c) = false ∨ s.rdB (Reg.cluCccCmd c) 0 = false ∨ s.rdF (Reg.cluCccCmd c) 15 8 ≠ 2 ∨ s.boxFree (32 + c / 4) = false)) ∧
    (∃ (s : State) (z : State) (c : Fin 64) (u : _) (l : List Nat), ({ s with answer := .none } : State) = z ∧ s.domOn (clusterDomain c) = true ∧ s.rdB (Reg.cluCccCmd c) 0 = true ∧ s.rdF (Reg.cluCccCmd c) 15 8 = 2 ∧ s.boxFree (32 + c / 4) = true ∧ (fun s => (s, [1])) (z.wrB (Reg.cluCccCmd c) 0 false) = (u, l)) ∧
    (∃ (s : State) (z : State) (n : Fin 12) (back : _), ({ s with answer := .none } : State) = z ∧ bdcAnswerBox n (s.boxSender (52 + n)) = back ∧ (s.domOn (stackDomain n) = false ∨ s.boxHolds (52 + n) 0x0101 = false ∨ s.boxFree back = false)) ∧
    (∃ (s : State) (z : State) (n : Fin 12) (back : _), ({ s with answer := .none } : State) = z ∧ bdcAnswerBox n (s.boxSender (52 + n)) = back ∧ s.domOn (stackDomain n) = true ∧ s.boxHolds (52 + n) 0x0101 = true ∧ s.boxFree back = true ∧ s.rdF (Reg.stkStatus n) 2 0 ≤ 1) ∧
    (∃ (s : State) (z : State) (n : Fin 12) (back : _), ({ s with answer := .none } : State) = z ∧ bdcAnswerBox n (s.boxSender (52 + n)) = back ∧ s.domOn (stackDomain n) = true ∧ s.boxHolds (52 + n) 0x0101 = true ∧ s.boxFree back = true ∧ 2 ≤ s.rdF (Reg.stkStatus n) 2 0 ∧ true = true ∧ s.baseBusy n = true) ∧
    (∃ (s : State) (z : State) (n : Fin 12) (back : _) (u : _) (l : List Nat), ({ s with answer := .none } : State) = z ∧ bdcAnswerBox n (s.boxSender (52 + n)) = back ∧ s.domOn (stackDomain n) = true ∧ s.boxHolds (52 + n) 0x0101 = true ∧ s.boxFree back = true ∧ 2 ≤ s.rdF (Reg.stkStatus n) 2 0 ∧ (true = false ∨ s.baseBusy n = false) ∧ (fun s => (s, [1])) (z.boxEmpty (52 + n)) = (u, l)) ∧
    (∃ (s : State) (z : State) (i : Fin 64), ({ s with answer := .none } : State) = z ∧ s.domOn (clusterDomain i) = true ∧ s.cccMayTake i = true) ∧
    (∃ (s : State) (z : State) (i : Fin 64), ({ s with answer := .none } : State) = z ∧ ¬ (s.domOn (clusterDomain i) = true ∧ s.cccMayTake i = true)) ∧
    (∃ (s : State) (z : State) (i : Fin 64), ({ s with answer := .none } : State) = z ∧ (s.domOn (stackDomain i) = true ∧ s.baseBusy i = false ∧ s.stackSide.migs.any (fun g => g.moves.any (fun m => decide (m.src / 32768 = i.val ∨ m.dst / 32768 = i.val))) = false)) ∧
    (∃ (s : State) (z : State) (i : Fin 64), ({ s with answer := .none } : State) = z ∧ (¬ (s.domOn (stackDomain i) = true ∧ s.baseBusy i = false ∧ s.stackSide.migs.any (fun g => g.moves.any (fun m => decide (m.src / 32768 = i.val ∨ m.dst / 32768 = i.val))) = false))) ∧
    (∃ (s : State) (z : State) (ag : Agent), ({ s with answer := .none } : State) = z ∧ ag ≠ .sch) ∧
    (∃ (s : State) (z : State) (ag : Agent), ({ s with answer := .none } : State) = z ∧ ag = .sch) :=
  ⟨⟨allOn, _, Agent.sec, true, ⟨rfl, by decide +kernel⟩⟩,
   ⟨allOn, _, .sec, 51, 15, ⟨rfl, by decide +kernel⟩⟩,
   ⟨allOn, _, .pmc, 51, 15, ⟨rfl, by decide +kernel⟩⟩,
   ⟨allOn, _, .sec, 51, 0, 0, ⟨rfl, rfl, by decide +kernel⟩⟩,
   ⟨allOn, _, .sec, 51, 0x21, 0x21, ⟨rfl, by decide +kernel⟩⟩,
   ⟨allOn, _, .sec, 51, 0x23, 0x23, ⟨rfl, by decide +kernel, by decide +kernel, by decide +kernel, .inr (by decide +kernel)⟩⟩,
   ⟨allOn, _, .sec, 51, 1, ⟨rfl, by decide +kernel, .inl (by decide +kernel)⟩⟩,
   ⟨allOn.wr (Reg.bbxStatus 51) 1, _, .host 1 0, 51, 1, ⟨rfl, by decide +kernel⟩⟩,
   ⟨allOn, _, .host 1 0, 51, 1, ⟨rfl, by decide +kernel⟩⟩,
   ⟨allOn, _, .sec, 51, ⟨rfl, by decide +kernel⟩⟩,
   ⟨allOn, _, .sch, 63, ⟨rfl, by decide +kernel⟩⟩,
   ⟨allOn.wr (Reg.bbxStatus 63) 0x300, _, .pmc, 63, ⟨rfl, by decide +kernel⟩⟩,
   ⟨allOn.wr (Reg.bbxStatus 63) 0x300, _, .sch, 63, 0, ⟨rfl, by decide +kernel⟩⟩,
   ⟨allOn.wr (Reg.bbxStatus 63) 0x300, _, .pmc, 63, 0, ⟨rfl, by decide +kernel⟩⟩,
   ⟨allOn, _, .sch, 63, false, _, ⟨rfl, by decide +kernel, rfl, by decide +kernel⟩⟩,
   ⟨allOn, _, .sch, 63, true, _, _, ⟨rfl, by decide +kernel, rfl, by decide +kernel, rfl⟩⟩,
   ⟨allOn, _, 3, ⟨rfl, by decide +kernel⟩⟩,
   ⟨allOn.wr (Reg.bbxSigAccLocal 3) 1, _, 3, _, _, ⟨rfl, by decide +kernel, by decide +kernel, rfl, rfl⟩⟩,
   ⟨allOn.wr (Reg.bbxStatus 19) 1, _, 3, ⟨rfl, by decide +kernel⟩⟩,
   ⟨((hostUp 4 1).wr (Reg.bbxStatus 19) 1).wr (Reg.hifEmuAccfeat 1 4) 1, _, 3, _, _, _, _, ⟨rfl, by decide +kernel, by decide +kernel, by decide +kernel, rfl, rfl, rfl, rfl⟩⟩,
   ⟨allOn, _, 3, ⟨rfl, by decide +kernel⟩⟩,
   ⟨{ allOn with pwr := { saving := 8 } }, _, 3, _, ⟨rfl, by decide +kernel, by decide +kernel, rfl⟩⟩,
   ⟨allOn, _, 1, ⟨rfl, by decide +kernel⟩⟩,
   ⟨clearAsked 0 false { allOn with rcd := { clearing := some 0 } }, _, 1, ⟨rfl, by decide +kernel⟩⟩,
   ⟨clearAsked, _, 1, ⟨rfl, by decide +kernel⟩⟩,
   ⟨clearAsked 4096 true, _, 1, { ok := true, data := [] }, 4096, ⟨rfl, by decide +kernel⟩⟩,
   ⟨clearAsked 0 true, _, 1, 0, ⟨rfl, by decide +kernel⟩⟩,
   ⟨clearAsked 4096 true, _, 1, { ok := false, data := [] }, 4096, ⟨rfl, by decide +kernel⟩⟩,
   ⟨allOn, _, 63, ⟨rfl, .inr (.inl (by decide +kernel))⟩⟩,
   ⟨allOn.wr (Reg.cluCccCmd 63) 0x201, _, 63, _, _, ⟨rfl, by decide +kernel, by decide +kernel, by decide +kernel, by decide +kernel, rfl⟩⟩,
   ⟨allOn, _, 11, _, ⟨rfl, rfl, .inr (.inl (by decide +kernel))⟩⟩,
   ⟨(allOn.wr (Reg.bbxStatus 63) 1).wr (Reg.bbxHdr 63) ((0x0101 <<< 32) ||| 3), _, 11, 31, ⟨rfl, by decide +kernel⟩⟩,
   ⟨(((allOn.wr (Reg.bbxStatus 63) 1).wr (Reg.bbxHdr 63) ((0x0101 <<< 32) ||| 3)).wr (Reg.stkStatus 11) 2).updBase 11 (fun b => { b with run := some default }), _, 11, 31, ⟨rfl, by decide +kernel⟩⟩,
   ⟨((allOn.wr (Reg.bbxStatus 63) 1).wr (Reg.bbxHdr 63) ((0x0101 <<< 32) ||| 3)).wr (Reg.stkStatus 11) 2, _, 11, 31, _, _, ⟨rfl, by decide +kernel, by decide +kernel, by decide +kernel, by decide +kernel, by decide +kernel, by decide +kernel, rfl⟩⟩,
   ⟨allOn, _, 63, ⟨rfl, by decide +kernel⟩⟩,
   ⟨{}, _, 63, ⟨rfl, by decide +kernel⟩⟩,
   ⟨allOn, _, 11, ⟨rfl, by decide +kernel⟩⟩,
   ⟨{}, _, 11, ⟨rfl, by decide +kernel⟩⟩,
   ⟨allOn, _, .pmc, ⟨rfl, by decide +kernel⟩⟩,
   ⟨allOn, _, .sch, ⟨rfl, by decide +kernel⟩⟩⟩

/-- A SEAL_LOAD of key slot 15 runs on the last virtual function, from host memory or from a device, with what the load and the link hold. -/
def sealEntry (far : Nat) : List Byte := 0x4A :: 0 :: (leBytes 6 0 ++ leBytes 2 (3 + 256 * far) ++ leBytes 54 0)
@[inherit_doc sealEntry]
def sealing (far : Nat) (load : Option SealLoad) (r : Router := {}) : State :=
  cmdOf 4 0x4A (leBytes 6 0 ++ leBytes 2 (3 + 256 * far) ++ leBytes 54 0) .running
    { hostUp 4 1 with sec := { loads := [(15, load)] }, router := r }
/-- That load. -/
def sealLoading (far : Nat) : SealLoad := { fn := 12, entry := sealEntry far, next := 0 }
/-- The header of a record of 4,096 bytes of ciphertext, or of none. -/
def sealHead (n : Nat) : List Byte := leBytes 4096 (0x4B5A5345 + n * 2 ^ 64)

theorem witness_KeysAndSealedWeightsTakeEffect :
    (∃ (h : Fin 2) (f : Fin 5) (s : State) (z : State), ({ s with answer := .none } : State) = z ∧ z.startedCmd h f 0x4B (fun _ => true) = none) ∧
    (∃ (h : Fin 2) (f : Fin 5) (s : State) (z : State) (c : _) (p : Nat), ({ s with answer := .none } : State) = z ∧ z.startedCmd h f 0x4B (fun _ => true) = some c ∧ f.val ≠ 0 ∧ z.fnPart h f = some p ∧ z.mapOk = true) ∧
    (∃ (h : Fin 2) (f : Fin 5) (s : State) (z : State) (c : _), ({ s with answer := .none } : State) = z ∧ z.startedCmd h f 0x4B (fun _ => true) = some c ∧ f.val ≠ 0 ∧ (z.fnPart h f = none ∨ z.mapOk = false)) ∧
    (∃ (h : Fin 2) (f : Fin 5) (s : State) (z : State), ({ s with answer := .none } : State) = z ∧ ((s.fn h f).cmds.find? (fun c => c.stage = .running ∧ c.op = 0x4A) = none ∨ s.fnPart h f = none)) ∧
    (∃ (h : Fin 2) (f : Fin 5) (s : State) (z : State) (c : _) (p : _) (k : _), ({ s with answer := .none } : State) = z ∧ (s.fn h f).cmds.find? (fun c => c.stage = .running ∧ c.op = 0x4A) = some c ∧ s.fnPart h f = some p ∧ 4 * p + c.par 8 1 = k ∧ s.sec.loads.get k = none) ∧
    (∃ (h : Fin 2) (f : Fin 5) (s : State) (z : State) (c : _) (p : _) (k : _) (l : _), ({ s with answer := .none } : State) = z ∧ (s.fn h f).cmds.find? (fun c => c.stage = .running ∧ c.op = 0x4A) = some c ∧ s.fnPart h f = some p ∧ 4 * p + c.par 8 1 = k ∧ s.sec.loads.get k = some l ∧ (l.fn ≠ fnKey h f ∨ l.entry ≠ c.entry)) ∧
    (∃ (h : Fin 2) (f : Fin 5) (host : HostData) (s : State) (z : State) (c : _) (p : _) (k : _) (l : _), ({ s with answer := .none } : State) = z ∧ (s.fn h f).cmds.find? (fun c => c.stage = .running ∧ c.op = 0x4A) = some c ∧ s.fnPart h f = some p ∧ 4 * p + c.par 8 1 = k ∧ s.sec.loads.get k = some l ∧ l.fn = fnKey h f ∧ l.entry = c.entry ∧ c.par 9 1 = 0 ∧ host.ok = true) ∧
    (∃ (h : Fin 2) (f : Fin 5) (host : HostData) (s : State) (z : State) (c : _) (p : _) (k : _) (l : _), ({ s with answer := .none } : State) = z ∧ (s.fn h f).cmds.find? (fun c => c.stage = .running ∧ c.op = 0x4A) = some c ∧ s.fnPart h f = some p ∧ 4 * p + c.par 8 1 = k ∧ s.sec.loads.get k = some l ∧ l.fn = fnKey h f ∧ l.entry = c.entry ∧ c.par 9 1 = 0 ∧ host.ok = false) ∧
    (∃ (h : Fin 2) (f : Fin 5) (s : State) (z : State) (c : _) (p : _) (k : _) (l : _), ({ s with answer := .none } : State) = z ∧ (s.fn h f).cmds.find? (fun c => c.stage = .running ∧ c.op = 0x4A) = some c ∧ s.fnPart h f = some p ∧ 4 * p + c.par 8 1 = k ∧ s.sec.loads.get k = some l ∧ l.fn = fnKey h f ∧ l.entry = c.entry ∧ c.par 9 1 ≠ 0 ∧ s.router.sealFailed.contains k = true) ∧
    (∃ (h : Fin 2) (f : Fin 5) (s : State) (z : State) (c : _) (p : _) (k : _) (l : _), ({ s with answer := .none } : State) = z ∧ (s.fn h f).cmds.find? (fun c => c.stage = .running ∧ c.op = 0x4A) = some c ∧ s.fnPart h f = some p ∧ 4 * p + c.par 8 1 = k ∧ s.sec.loads.get k = some l ∧ l.fn = fnKey h f ∧ l.entry = c.entry ∧ c.par 9 1 ≠ 0 ∧ s.router.sealFailed.contains k = false ∧ s.sealBytes k 4096 = none) ∧
    (∃ (h : Fin 2) (f : Fin 5) (s : State) (z : State) (c : _) (p : _) (k : _) (l : _) (hd : List Byte), ({ s with answer := .none } : State) = z ∧ (s.fn h f).cmds.find? (fun c => c.stage = .running ∧ c.op = 0x4A) = some c ∧ s.fnPart h f = some p ∧ 4 * p + c.par 8 1 = k ∧ s.sec.loads.get k = some l ∧ l.fn = fnKey h f ∧ l.entry = c.entry ∧ c.par 9 1 ≠ 0 ∧ s.router.sealFailed.contains k = false ∧ s.sealBytes k 4096 = some hd ∧ (bodyNat hd 0 4 ≠ 0x4B5A5345 ∨ bodyNat hd 8 4 % 4096 ≠ 0 ∨ 0x400000 < bodyNat hd 8 4)) ∧
    (∃ (h : Fin 2) (f : Fin 5) (s : State) (z : State) (c : _) (p : _) (k : _) (l : _) (hd : List Byte) (b : List Byte), ({ s with answer := .none } : State) = z ∧ (s.fn h f).cmds.find? (fun c => c.stage = .running ∧ c.op = 0x4A) = some c ∧ s.fnPart h f = some p ∧ 4 * p + c.par 8 1 = k ∧ s.sec.loads.get k = some l ∧ l.fn = fnKey h f ∧ l.entry = c.entry ∧ c.par 9 1 ≠ 0 ∧ s.router.sealFailed.contains k = false ∧ s.sealBytes k 4096 = some hd ∧ bodyNat hd 0 4 = 0x4B5A5345 ∧ bodyNat hd 8 4 % 4096 = 0 ∧ bodyNat hd 8 4 ≤ 0x400000 ∧ s.sealBytes k (4096 + bodyNat hd 8 4) = some b) ∧
    (∃ (h : Fin 2) (f : Fin 5) (s : State) (z : State) (c : _) (p : _) (k : _) (l : _) (hd : List Byte) (asked : _) (busy : _), ({ s with answer := .none } : State) = z ∧ (s.fn h f).cmds.find? (fun c => c.stage = .running ∧ c.op = 0x4A) = some c ∧ s.fnPart h f = some p ∧ 4 * p + c.par 8 1 = k ∧ s.sec.loads.get k = some l ∧ l.fn = fnKey h f ∧ l.entry = c.entry ∧ c.par 9 1 ≠ 0 ∧ s.router.sealFailed.contains k = false ∧ s.sealBytes k 4096 = some hd ∧ bodyNat hd 0 4 = 0x4B5A5345 ∧ bodyNat hd 8 4 % 4096 = 0 ∧ bodyNat hd 8 4 ≤ 0x400000 ∧ s.sealBytes k (4096 + bodyNat hd 8 4) = none ∧ s.send (sendKey (c.par 20 3 % 2 ^ 20) 1) = asked ∧ (asked.queue.any (fun j => decide (j.owner = .seal k)) || asked.txns.any (fun t => decide (t.job.owner = .seal k))) = busy) ∧
    (∃ (h : Fin 2) (s : State) (z : State), ({ s with answer := .none } : State) = z ∧ s.fnPresent h 0 = false) ∧
    (∃ (h : Fin 2) (s : State) (z : State), ({ s with answer := .none } : State) = z ∧ s.fnPresent h 0 = true) :=
  ⟨⟨1, 4, hostUp 4 1, _, ⟨rfl, by decide +kernel⟩⟩,
   ⟨1, 4, cmdOf 4 0x4B [] .started (hostUp 4 1), _, { q := 7, entry := [0x4B, 0], stage := .started }, 3, ⟨rfl, by decide +kernel⟩⟩,
   ⟨1, 4, cmdOf 4 0x4B [] .started allOn, _, { q := 7, entry := [0x4B, 0], stage := .started }, ⟨rfl, by decide +kernel, by decide +kernel, .inl (by decide +kernel)⟩⟩,
   ⟨1, 4, allOn, _, ⟨rfl, .inl (by decide +kernel)⟩⟩,
   ⟨1, 4, sealing 0 none, _, { q := 7, entry := sealEntry 0, stage := .running }, 3, 15, ⟨rfl, by decide +kernel⟩⟩,
   ⟨1, 4, sealing 0 (some { sealLoading 0 with fn := 11 }), _, { q := 7, entry := sealEntry 0, stage := .running }, 3, 15, { sealLoading 0 with fn := 11 }, ⟨rfl, by decide +kernel, by decide +kernel, by decide +kernel, by decide +kernel, .inl (by decide +kernel)⟩⟩,
   ⟨1, 4, { ok := true, data := [] }, sealing 0 (some (sealLoading 0)), _, { q := 7, entry := sealEntry 0, stage := .running }, 3, 15, sealLoading 0, ⟨rfl, by decide +kernel⟩⟩,
   ⟨1, 4, { ok := false, data := [] }, sealing 0 (some (sealLoading 0)), _, { q := 7, entry := sealEntry 0, stage := .running }, 3, 15, sealLoading 0, ⟨rfl, by decide +kernel⟩⟩,
   ⟨1, 4, sealing 1 (some (sealLoading 1)) { sealFailed := [15] }, _, { q := 7, entry := sealEntry 1, stage := .running }, 3, 15, sealLoading 1, ⟨rfl, by decide +kernel⟩⟩,
   ⟨1, 4, sealing 1 (some (sealLoading 1)), _, { q := 7, entry := sealEntry 1, stage := .running }, 3, 15, sealLoading 1, ⟨rfl, by decide +kernel⟩⟩,
   ⟨1, 4, sealing 1 (some (sealLoading 1)) { sealData := [(15, 0, leBytes 4096 1)] }, _, { q := 7, entry := sealEntry 1, stage := .running }, 3, 15, sealLoading 1, leBytes 4096 1, ⟨rfl, by decide +kernel, by decide +kernel, by decide +kernel, by decide +kernel, by decide +kernel, by decide +kernel, by decide +kernel, by decide +kernel, by decide +kernel, .inl (by decide +kernel)⟩⟩,
   ⟨1, 4, sealing 1 (some (sealLoading 1)) { sealData := [(15, 0, sealHead 0)] }, _, { q := 7, entry := sealEntry 1, stage := .running }, 3, 15, sealLoading 1, sealHead 0, sealHead 0, ⟨rfl, by decide +kernel⟩⟩,
   ⟨1, 4, sealing 1 (some (sealLoading 1)) { sealData := [(15, 0, sealHead 4096)] }, _, { q := 7, entry := sealEntry 1, stage := .running }, 3, 15, sealLoading 1, sealHead 4096, _, _, ⟨rfl, by decide +kernel, by decide +kernel, by decide +kernel, by decide +kernel, by decide +kernel, by decide +kernel, by decide +kernel, by decide +kernel, by decide +kernel, by decide +kernel, by decide +kernel, by decide +kernel, by decide +kernel, rfl, rfl⟩⟩,
   ⟨1, allOn, _, ⟨rfl, by decide +kernel⟩⟩,
   ⟨1, hostUp 0 1, _, ⟨rfl, by decide +kernel⟩⟩⟩

/-- A record of event 0xA0D. -/
def hourRecord (seq : Nat) : Record := { ev := { name := 0xA0D }, seq }

theorem witness_RecorderKeepsItsRing :
    (∃ (s : State), s.rcd.queue = []) ∧
    (∃ (s : State) (q : QueuedEvent) (rest : List QueuedEvent), s.rcd.queue = q :: rest) ∧
    (∃ (s : State), (s.rcd.lostSince = 0 ∨ 256 ≤ s.rcd.queue.length)) ∧
    (∃ (s : State), s.rcd.lostSince ≠ 0 ∧ s.rcd.queue.length < 256) ∧
    (∃ (s : State), s.pwr.vaux = false) ∧
    (∃ (s : State), s.pwr.vaux = true) :=
  ⟨⟨allOn, by decide +kernel⟩,
   ⟨{ allOn with rcd := { queue := [⟨{ name := 0xA0D }, 5⟩] } }, ⟨{ name := 0xA0D }, 5⟩, [], by decide +kernel⟩,
   ⟨allOn, by decide +kernel⟩,
   ⟨{ allOn with rcd := { lostSince := 3 } }, by decide +kernel⟩,
   ⟨{ allOn with pwr := { vaux := false } }, by decide +kernel⟩,
   ⟨allOn, by decide +kernel⟩⟩

end Sys2Proof.Tests
end

/-!
The entries of a table in canonical form, and what it reads as after ranges of keys are written or forgotten.
-/
namespace Sys2Proof.Machine

variable {α : Type}

/-! ### The entries of a table in canonical form -/

/-- The first key of a table in canonical form stands nowhere else in it. -/
theorem Tbl.Canonical.get_head_tail [Inhabited α] {e : Nat × α} {m : Tbl α} (h : Tbl.Canonical (e :: m)) : Tbl.get m e.1 = default := by
  refine Tbl.get_of_not_mem (fun hk => ?_)
  obtain ⟨e', he', hk⟩ := List.mem_map.1 hk
  have hlt := (List.pairwise_cons.1 h.1).1 e' he'
  omega

theorem Tbl.Canonical.tail [Inhabited α] {e : Nat × α} {m : Tbl α} (h : Tbl.Canonical (e :: m)) : Tbl.Canonical m :=
  ⟨(List.pairwise_cons.1 h.1).2, fun x hx => h.2 x (List.mem_cons_of_mem _ hx)⟩

/-- An entry of a table in canonical form is what its key reads as. -/
theorem Tbl.Canonical.get_of_mem [Inhabited α] {m : Tbl α} (hm : m.Canonical) {k : Nat} {v : α} (h : (k, v) ∈ m) : Tbl.get m k = v := by
  induction m with
  | nil => cases h
  | cons e m ih =>
    rw [Tbl.get_cons]
    rcases List.mem_cons.1 h with rfl | h
    · rw [if_pos rfl]
    · have hlt : e.1 < k := (List.pairwise_cons.1 hm.1).1 _ h
      rw [if_neg (by omega), ih hm.tail h]

/-- A value other than the default stands in an entry of its own. -/
theorem Tbl.mem_of_get_ne_default [Inhabited α] {m : Tbl α} {i : Nat} (h : Tbl.get m i ≠ default) : (i, Tbl.get m i) ∈ m := by
  induction m with
  | nil => exact absurd rfl h
  | cons e m ih =>
    obtain ⟨k, v⟩ := e
    rw [Tbl.get_cons] at h ⊢
    by_cases hk : k = i
    · rw [if_pos hk, ← hk]
      exact List.mem_cons_self
    · rw [if_neg hk] at h ⊢
      exact List.mem_cons_of_mem _ (ih h)

/-! ### Reads after ranges, entries and runs are written -/

/-- What a table reads as after a range of keys, empty or not, is forgotten. -/
theorem Tbl.get_clearRange [Inhabited α] (m : Tbl α) (r : Nat × Nat) (i : Nat) :
    Tbl.get (m.clearRange r) i = if r.1 ≤ i ∧ i < r.2 then default else Tbl.get m i := by
  unfold Tbl.clearRange
  split
  · exact Tbl.get_clear _ _ _ _ (by omega)
  · rw [if_neg (by omega)]

/-- What a table reads as after entries of one and the same value are written. -/
theorem Tbl.get_addAll_const [Inhabited α] [DecidableEq α] (ks : List Nat) (v : α) (m : Tbl α) (i : Nat) :
    Tbl.get (m.addAll (ks.map (fun k => (k, v)))) i = if i ∈ ks then v else Tbl.get m i := by
  unfold Tbl.addAll
  induction ks generalizing m with
  | nil => simp
  | cons k ks ih =>
    rw [List.map_cons, List.foldl_cons, ih, Tbl.get_set]
    by_cases hk : i ∈ ks
    · rw [if_pos hk, if_pos (List.mem_cons_of_mem _ hk)]
    · simp only [List.mem_cons, hk, or_false, if_false]

/-- A run of keys reads as what has been written to it. -/
theorem Tbl.getRun_setRun_same [Inhabited α] [DecidableEq α] (m : Tbl α) (i : Nat) (l : List α) : (m.setRun i l).getRun i l.length = l := by
  refine List.ext_getElem (by simp [Tbl.getRun]) (fun j h _ => ?_)
  have hj : j < l.length := by simpa [Tbl.getRun] using h
  have hsub : i + j - i = j := by omega
  simp only [Tbl.getRun, List.getElem_map, List.getElem_range]
  rw [Tbl.get_setRun, if_pos (by omega), hsub, List.getD_eq_getElem?_getD, List.getElem?_eq_getElem hj, Option.getD_some]

/-- A run of keys apart from the one written reads as before. -/
theorem Tbl.getRun_setRun_disjoint [Inhabited α] [DecidableEq α] (m : Tbl α) (i : Nat) (l : List α) {j n : Nat}
    (h : j + n ≤ i ∨ i + l.length ≤ j) : (m.setRun i l).getRun j n = m.getRun j n := by
  refine List.map_congr_left (fun k hk => ?_)
  have := List.mem_range.1 hk
  rw [Tbl.get_setRun, if_neg (by omega)]

/-! ### Units written whole -/

/-- The units between the ends of `wholeUnits` are those that the extent covers whole. -/
theorem mem_wholeUnits {size : Nat} (hs : 0 < size) (a n u : Nat) :
    ((wholeUnits size a n).1 ≤ u ∧ u < (wholeUnits size a n).2) ↔ a ≤ size * u ∧ size * (u + 1) ≤ a + n := by
  unfold wholeUnits
  have h1 : (a + size - 1) / size ≤ u ↔ a ≤ size * u := by
    rw [← Nat.lt_succ_iff, Nat.div_lt_iff_lt_mul hs, Nat.succ_mul, Nat.mul_comm u]
    omega
  have h2 : u < (a + n) / size ↔ size * (u + 1) ≤ a + n := by
    rw [← Nat.succ_le_iff, Nat.le_div_iff_mul_le hs, Nat.mul_comm]
  exact and_congr h1 h2

/-- What a table by units reads as after those that an extent covers whole are forgotten. -/
theorem Tbl.get_clearRange_wholeUnits [Inhabited α] {size : Nat} (hs : 0 < size) (m : Tbl α) (a n u : Nat) :
    Tbl.get (m.clearRange (wholeUnits size a n)) u = if a ≤ size * u ∧ size * (u + 1) ≤ a + n then default else Tbl.get m u := by
  rw [Tbl.get_clearRange]
  simp only [mem_wholeUnits hs]

end Sys2Proof.Machine

/-!
Every command keeps the tables in their canonical form, and so does every step.
-/
namespace Sys2Proof.Machine

/-! ### Every step keeps the canonical form -/

/-- Every command keeps the queue, the fuses but for a floor that rises, and the canonical form of the tables. -/
theorem kept_exec (c : Instr) (s : State) : ∀ t, exec c s = .next t → Kept s t := by
  cases c with
  | registerWrite ag a wide v => exact kept_execRegisterWrite ag a wide v s .rfl
  | rcRead ag a wide => exact kept_execRcRead ag a wide s .rfl
  | cpRegisterWrite ag a wide v => exact kept_execCpRegisterWrite ag a wide v s .rfl
  | cpCompanionWrite ag a wide v => exact kept_execCpCompanionWrite ag a wide v s .rfl
  | complementRewrite a own => exact kept_execComplementRewrite a own s .rfl
  | coldReset cause boot addr => exact kept_execColdReset cause boot addr s .rfl
  | vauxLoss => exact kept_execVauxLoss s .rfl
  | starter held => exact kept_execStarter held s .rfl
  | pmcBringup dead => exact kept_execPmcBringup dead s .rfl
  | coreStart => exact kept_execCoreStart s .rfl
  | stackTrain n => exact kept_execStackTrain n s .rfl
  | selfTest tests => exact kept_execSelfTest tests s .rfl
  | memoryTest n fails => exact kept_execMemoryTest n fails s .rfl
  | linkGate => exact kept_execLinkGate s .rfl
  | fuseTestReconcile => exact kept_execFuseTestReconcile s .rfl
  | bootReady elapsed => exact kept_execBootReady elapsed s .rfl
  | bootStepOverrun k unit silent elapsed => exact kept_execBootStepOverrun k unit silent elapsed s .rfl
  | powerOn => exact kept_execPowerOn s .rfl
  | crustEntry good vin => exact kept_execCrustEntry good vin s .rfl
  | thermalTrip j temp vin => exact kept_execThermalTrip j temp vin s .rfl
  | junctionThrottle temps cool => exact kept_execJunctionThrottle temps cool s .rfl
  | droopDetect d => exact kept_execDroopDetect d s .rfl
  | budgetTick avg peak vin moves bad => exact kept_execBudgetTick avg peak vin moves bad s .rfl
  | emergencyBegin thermal cause => exact kept_execEmergencyBegin thermal cause s .rfl
  | emergencyEscalate => exact kept_execEmergencyEscalate s .rfl
  | emergencyEnd thermal => exact kept_execEmergencyEnd thermal s .rfl
  | domainSwitchOn ix => exact kept_execDomainSwitchOn ix s .rfl
  | domainSwitchOff ix empty => exact kept_execDomainSwitchOff ix empty s .rfl
  | activeRequest cycles binds => exact kept_execActiveRequest cycles binds s .rfl
  | dozeRequest => exact kept_execDozeRequest s .rfl
  | dozeEnter => exact kept_execDozeEnter s .rfl
  | dozeQuiesceTimeout => exact kept_execDozeQuiesceTimeout s .rfl
  | dozeWake w cycles binds => exact kept_execDozeWake w cycles binds s .rfl
  | pmcResetCold => exact kept_execPmcResetCold s .rfl
  | pmcResetWarm elapsed tests => exact kept_execPmcResetWarm elapsed tests s .rfl
  | pmcResetPartition tests => exact kept_execPmcResetPartition tests s .rfl
  | pmcResetCluster low => exact kept_execPmcResetCluster low s .rfl
  | pmcResetPort => exact kept_execPmcResetPort s .rfl
  | mgmtBusTransfer t => exact kept_execMgmtBusTransfer t s .rfl
  | floorPlanUpdate => exact kept_execFloorPlanUpdate s .rfl
  | recipeStart q => exact kept_execRecipeStart q s .rfl
  | seqHoldReq q on => exact kept_execSeqHoldReq q on s .rfl
  | seqAbort q => exact kept_execSeqAbort q s .rfl
  | seqVbindWrite ag d v => exact kept_execSeqVbindWrite ag d v s .rfl
  | step q ecc => exact kept_execStep q ecc s .rfl
  | bundleIssue q ecc => exact kept_execBundleIssue q ecc s .rfl
  | pageLoaded q ecc => exact kept_execPageLoaded q ecc s .rfl
  | waitingSlotIssue q cls u k ecc => exact kept_execWaitingSlotIssue q cls u k ecc s .rfl
  | waitRelease q ecc => exact kept_execWaitRelease q ecc s .rfl
  | tokenReuseRelease q ecc => exact kept_execTokenReuseRelease q ecc s .rfl
  | commitQuiesce q ecc => exact kept_execCommitQuiesce q ecc s .rfl
  | contextSave q cycles => exact kept_execContextSave q cycles s .rfl
  | contextRestore q cycles binds => exact kept_execContextRestore q cycles binds s .rfl
  | endDrain q ecc => exact kept_execEndDrain q ecc s .rfl
  | li q rd imm => exact kept_execLi q rd imm s .rfl
  | lih q rd imm => exact kept_execLih q rd imm s .rfl
  | li64 q rd imm => exact kept_execLi64 q rd imm s .rfl
  | add q rd rs1 rs2 => exact kept_execAdd q rd rs1 rs2 s .rfl
  | sub q rd rs1 rs2 => exact kept_execSub q rd rs1 rs2 s .rfl
  | mul q rd rs1 rs2 => exact kept_execMul q rd rs1 rs2 s .rfl
  | and q rd rs1 rs2 => exact kept_execAnd q rd rs1 rs2 s .rfl
  | or q rd rs1 rs2 => exact kept_execOr q rd rs1 rs2 s .rfl
  | xor q rd rs1 rs2 => exact kept_execXor q rd rs1 rs2 s .rfl
  | shl q rd rs1 rs2 => exact kept_execShl q rd rs1 rs2 s .rfl
  | shr q rd rs1 rs2 => exact kept_execShr q rd rs1 rs2 s .rfl
  | sar q rd rs1 rs2 => exact kept_execSar q rd rs1 rs2 s .rfl
  | slt q rd rs1 rs2 => exact kept_execSlt q rd rs1 rs2 s .rfl
  | sltu q rd rs1 rs2 => exact kept_execSltu q rd rs1 rs2 s .rfl
  | addi q rd rs1 imm => exact kept_execAddi q rd rs1 imm s .rfl
  | andi q rd rs1 imm => exact kept_execAndi q rd rs1 imm s .rfl
  | ori q rd rs1 imm => exact kept_execOri q rd rs1 imm s .rfl
  | shli q rd rs1 sh => exact kept_execShli q rd rs1 sh s .rfl
  | shri q rd rs1 sh => exact kept_execShri q rd rs1 sh s .rfl
  | sari q rd rs1 sh => exact kept_execSari q rd rs1 sh s .rfl
  | grpi q gr mask => exact kept_execGrpi q gr mask s .rfl
  | grp q gr rs1 => exact kept_execGrp q gr rs1 s .rfl
  | jmp q off => exact kept_execJmp q off s .rfl
  | beq q rs1 rs2 off => exact kept_execBeq q rs1 rs2 off s .rfl
  | bne q rs1 rs2 off => exact kept_execBne q rs1 rs2 off s .rfl
  | blt q rs1 rs2 off => exact kept_execBlt q rs1 rs2 off s .rfl
  | bge q rs1 rs2 off => exact kept_execBge q rs1 rs2 off s .rfl
  | bltu q rs1 rs2 off => exact kept_execBltu q rs1 rs2 off s .rfl
  | bgeu q rs1 rs2 off => exact kept_execBgeu q rs1 rs2 off s .rfl
  | loop q rs1 off => exact kept_execLoop q rs1 off s .rfl
  | commit q => exact kept_execCommit q s .rfl
  | recipeEnd q => exact kept_execRecipeEnd q s .rfl
  | waitm q tg mask => exact kept_execWaitm q tg mask s .rfl
  | waitr q first last => exact kept_execWaitr q first last s .rfl
  | pref q page tok => exact kept_execPref q page tok s .rfl
  | prefr q rs1 tok => exact kept_execPrefr q rs1 tok s .rfl
  | prefetchDone q tok ecc => exact kept_execPrefetchDone q tok ecc s .rfl
  | sold q cls sel start rec => exact kept_execSold q cls sel start rec s .rfl
  | sostart q cls sel => exact kept_execSostart q cls sel s .rfl
  | sostop q cls sel => exact kept_execSostop q cls sel s .rfl
  | sogen q cls sel g rs => exact kept_execSogen q cls sel g rs s .rfl
  | soloop q cls sel l rs => exact kept_execSoloop q cls sel l rs s .rfl
  | mcfg q sel w1 w2 ecc => exact kept_execMcfg q sel w1 w2 ecc s .rfl
  | mms q sel a b ecc => exact kept_execMms q sel a b ecc s .rfl
  | mmc q sel a b ecc => exact kept_execMmc q sel a b ecc s .rfl
  | mme q sel a b c ecc => exact kept_execMme q sel a b c ecc s .rfl
  | mmse q sel a b c ecc => exact kept_execMmse q sel a b c ecc s .rfl
  | mmss q sel a b c ecc => exact kept_execMmss q sel a b c ecc s .rfl
  | vcfg q sel w1 ecc => exact kept_execVcfg q sel w1 ecc s .rfl
  | vadd q sel mod a b d ecc => exact kept_execVadd q sel mod a b d ecc s .rfl
  | vmul q sel mod a b d ecc => exact kept_execVmul q sel mod a b d ecc s .rfl
  | vfma q sel mod a b d e ecc => exact kept_execVfma q sel mod a b d e ecc s .rfl
  | vmax q sel mod a b d ecc => exact kept_execVmax q sel mod a b d ecc s .rfl
  | vmin q sel mod a b d ecc => exact kept_execVmin q sel mod a b d ecc s .rfl
  | vscl q sel mod a d rs ecc => exact kept_execVscl q sel mod a d rs ecc s .rfl
  | vred q sel mod a d ecc => exact kept_execVred q sel mod a d ecc s .rfl
  | vcvt q sel mod a d ecc => exact kept_execVcvt q sel mod a d ecc s .rfl
  | kcopy q sel mod a d ecc => exact kept_execKcopy q sel mod a d ecc s .rfl
  | ktrans q sel mod a d param ecc => exact kept_execKtrans q sel mod a d param ecc s .rfl
  | kperm q sel mod a b d param ecc => exact kept_execKperm q sel mod a b d param ecc s .rfl
  | kgath q sel mod a b d param ecc => exact kept_execKgath q sel mod a b d param ecc s .rfl
  | kscat q sel mod a b d param ecc => exact kept_execKscat q sel mod a b d param ecc s .rfl
  | fcfg q sel w1 w2 ecc => exact kept_execFcfg q sel w1 w2 ecc s .rfl
  | fcvt q sel mod a b d e ecc => exact kept_execFcvt q sel mod a b d e ecc s .rfl
  | fscale q sel mod a b e ecc => exact kept_execFscale q sel mod a b e ecc s .rfl
  | tcfg q sel w1 ecc => exact kept_execTcfg q sel w1 ecc s .rfl
  | texp q sel mod a d ecc => exact kept_execTexp q sel mod a d ecc s .rfl
  | tlog q sel mod a d ecc => exact kept_execTlog q sel mod a d ecc s .rfl
  | trcp q sel mod a d ecc => exact kept_execTrcp q sel mod a d ecc s .rfl
  | trsq q sel mod a d ecc => exact kept_execTrsq q sel mod a d ecc s .rfl
  | ttanh q sel mod a d ecc => exact kept_execTtanh q sel mod a d ecc s .rfl
  | tsigm q sel mod a d ecc => exact kept_execTsigm q sel mod a d ecc s .rfl
  | tsin q sel mod a d ecc => exact kept_execTsin q sel mod a d ecc s .rfl
  | tcos q sel mod a d ecc => exact kept_execTcos q sel mod a d ecc s .rfl
  | scfg q sel w1 ecc => exact kept_execScfg q sel w1 ecc s .rfl
  | ssort q sel mod a b d e ecc => exact kept_execSsort q sel mod a b d e ecc s .rfl
  | stopk q sel mod a b d e ecc => exact kept_execStopk q sel mod a b d e ecc s .rfl
  | icfg q sel w1 ecc => exact kept_execIcfg q sel w1 ecc s .rfl
  | ihist q sel mod a d ecc => exact kept_execIhist q sel mod a d ecc s .rfl
  | ipsum q sel mod a d ecc => exact kept_execIpsum q sel mod a d ecc s .rfl
  | icomp q sel mod a b d e ecc => exact kept_execIcomp q sel mod a b d e ecc s .rfl
  | iroute q sel mod a d e ecc => exact kept_execIroute q sel mod a d e ecc s .rfl
  | ccomp q sel mod a d ecc => exact kept_execCcomp q sel mod a d ecc s .rfl
  | cdec q sel mod a d ecc => exact kept_execCdec q sel mod a d ecc s .rfl
  | rgen q sel mod d rsKey rsCtr dist rsHi ecc => exact kept_execRgen q sel mod d rsKey rsCtr dist rsHi ecc s .rfl
  | rcfg q sel w1 ecc => exact kept_execRcfg q sel w1 ecc s .rfl
  | rred q sel mod a d ecc => exact kept_execRred q sel mod a d ecc s .rfl
  | rbcast q sel mod a d ecc => exact kept_execRbcast q sel mod a d ecc s .rfl
  | rcat q sel mod a d ecc => exact kept_execRcat q sel mod a d ecc s .rfl
  | dld q sel f => exact kept_execDld q sel f s .rfl
  | dst q sel f => exact kept_execDst q sel f s .rfl
  | drget q sel f => exact kept_execDrget q sel f s .rfl
  | drput q sel f => exact kept_execDrput q sel f s .rfl
  | drputh q sel f => exact kept_execDrputh q sel f s .rfl
  | dhrd q sel f => exact kept_execDhrd q sel f s .rfl
  | dhwr q sel f => exact kept_execDhwr q sel f s .rfl
  | dmxTransferDone q tok host ecc => exact kept_execDmxTransferDone q tok host ecc s .rfl
  | ctrig q t => exact kept_execCtrig q t s .rfl
  | btrig q mask t => exact kept_execBtrig q mask t s .rfl
  | bsig q sig => exact kept_execBsig q sig s .rfl
  | cluCounterClear ag c => exact kept_execCluCounterClear ag c s .rfl
  | cccSelfTest c low => exact kept_execCccSelfTest c low s .rfl
  | cccStartImage c => exact kept_execCccStartImage c s .rfl
  | cccStop c => exact kept_execCccStop c s .rfl
  | stackRequest r ecc bad => exact kept_execStackRequest r ecc bad s .rfl
  | trackerEntryFree n ix => exact kept_execTrackerEntryFree n ix s .rfl
  | patrol n line ecc => exact kept_execPatrol n line ecc s .rfl
  | descriptorWrite ag x j v => exact kept_execDescriptorWrite ag x j v s .rfl
  | handleDrained x => exact kept_execHandleDrained x s .rfl
  | frameClearDone n f => exact kept_execFrameClearDone n f s .rfl
  | heatWindowEnd n => exact kept_execHeatWindowEnd n s .rfl
  | migrationStart y picks => exact kept_execMigrationStart y picks s .rfl
  | migrationPassEnd y late dstFail ecc => exact kept_execMigrationPassEnd y late dstFail ecc s .rfl
  | migrationSwitch y ecc => exact kept_execMigrationSwitch y ecc s .rfl
  | pcRetired n p => exact kept_execPcRetired n p s .rfl
  | drainRetry n p => exact kept_execDrainRetry n p s .rfl
  | callStart n => exact kept_execCallStart n s .rfl
  | workItemStart n v ecc => exact kept_execWorkItemStart n v ecc s .rfl
  | baseCallDone n => exact kept_execBaseCallDone n s .rfl
  | instructionLimit n v => exact kept_execInstructionLimit n v s .rfl
  | baseVadd n v ecc => exact kept_execBaseVadd n v ecc s .rfl
  | baseVsub n v ecc => exact kept_execBaseVsub n v ecc s .rfl
  | baseVmul n v ecc => exact kept_execBaseVmul n v ecc s .rfl
  | baseVfma n v ecc => exact kept_execBaseVfma n v ecc s .rfl
  | baseVmax n v ecc => exact kept_execBaseVmax n v ecc s .rfl
  | baseVmin n v ecc => exact kept_execBaseVmin n v ecc s .rfl
  | vdiv n v ecc => exact kept_execVdiv n v ecc s .rfl
  | vsqrt n v ecc => exact kept_execVsqrt n v ecc s .rfl
  | vabs n v ecc => exact kept_execVabs n v ecc s .rfl
  | vsel n v ecc => exact kept_execVsel n v ecc s .rfl
  | vcmplt n v ecc => exact kept_execVcmplt n v ecc s .rfl
  | vcmple n v ecc => exact kept_execVcmple n v ecc s .rfl
  | vcmpeq n v ecc => exact kept_execVcmpeq n v ecc s .rfl
  | vsum n v ecc => exact kept_execVsum n v ecc s .rfl
  | viadd n v ecc => exact kept_execViadd n v ecc s .rfl
  | visub n v ecc => exact kept_execVisub n v ecc s .rfl
  | vimul n v ecc => exact kept_execVimul n v ecc s .rfl
  | viand n v ecc => exact kept_execViand n v ecc s .rfl
  | vior n v ecc => exact kept_execVior n v ecc s .rfl
  | vixor n v ecc => exact kept_execVixor n v ecc s .rfl
  | vishl n v ecc => exact kept_execVishl n v ecc s .rfl
  | vishr n v ecc => exact kept_execVishr n v ecc s .rfl
  | vcvtfi n v ecc => exact kept_execVcvtfi n v ecc s .rfl
  | vcvtif n v ecc => exact kept_execVcvtif n v ecc s .rfl
  | vidx n v ecc => exact kept_execVidx n v ecc s .rfl
  | vbcx n v ecc => exact kept_execVbcx n v ecc s .rfl
  | vbci n v ecc => exact kept_execVbci n v ecc s .rfl
  | vbcc n v ecc => exact kept_execVbcc n v ecc s .rfl
  | vld n v ecc => exact kept_execVld n v ecc s .rfl
  | vst n v ecc => exact kept_execVst n v ecc s .rfl
  | xadd n v ecc => exact kept_execXadd n v ecc s .rfl
  | xsub n v ecc => exact kept_execXsub n v ecc s .rfl
  | xmul n v ecc => exact kept_execXmul n v ecc s .rfl
  | xand n v ecc => exact kept_execXand n v ecc s .rfl
  | baseXor n v ecc => exact kept_execBaseXor n v ecc s .rfl
  | xshl n v ecc => exact kept_execXshl n v ecc s .rfl
  | xshr n v ecc => exact kept_execXshr n v ecc s .rfl
  | xaddi n v ecc => exact kept_execXaddi n v ecc s .rfl
  | xli n v ecc => exact kept_execXli n v ecc s .rfl
  | baseJmp n v ecc => exact kept_execBaseJmp n v ecc s .rfl
  | baseBeq n v ecc => exact kept_execBaseBeq n v ecc s .rfl
  | baseBne n v ecc => exact kept_execBaseBne n v ecc s .rfl
  | baseBlt n v ecc => exact kept_execBaseBlt n v ecc s .rfl
  | baseBge n v ecc => exact kept_execBaseBge n v ecc s .rfl
  | baseEnd n v ecc => exact kept_execBaseEnd n v ecc s .rfl
  | badamw n v ecc => exact kept_execBadamw n v ecc s .rfl
  | bcvt n v ecc => exact kept_execBcvt n v ecc s .rfl
  | bgath n v ecc => exact kept_execBgath n v ecc s .rfl
  | bscat n v ecc => exact kept_execBscat n v ecc s .rfl
  | bred n v ecc => exact kept_execBred n v ecc s .rfl
  | bsqn n v ecc => exact kept_execBsqn n v ecc s .rfl
  | bchk n v ecc => exact kept_execBchk n v ecc s .rfl
  | baseCodeWrite ag n call ix v => exact kept_execBaseCodeWrite ag n call ix v s .rfl
  | bdcClearFrames n => exact kept_execBdcClearFrames n s .rfl
  | bdcScrub n => exact kept_execBdcScrub n s .rfl
  | bdcTestNative n fails => exact kept_execBdcTestNative n fails s .rfl
  | bdcTestCompat n fails => exact kept_execBdcTestCompat n fails s .rfl
  | bdcStartImage n => exact kept_execBdcStartImage n s .rfl
  | frameReceive p now a => exact kept_execFrameReceive p now a s .rfl
  | dataFrameSend p below => exact kept_execDataFrameSend p below s .rfl
  | nakReceive p now l => exact kept_execNakReceive p now l s .rfl
  | replayTimeout p now => exact kept_execReplayTimeout p now s .rfl
  | holdDiscard p => exact kept_execHoldDiscard p s .rfl
  | idleSend p => exact kept_execIdleSend p s .rfl
  | idle p now l => exact kept_execIdle p now l s .rfl
  | quietReq p now l => exact kept_execQuietReq p now l s .rfl
  | quietAck p now l accept => exact kept_execQuietAck p now l accept s .rfl
  | wakeReq p now l => exact kept_execWakeReq p now l s .rfl
  | wakeAck p now l => exact kept_execWakeAck p now l s .rfl
  | resync p now l lsn => exact kept_execResync p now l lsn s .rfl
  | width p now l mask => exact kept_execWidth p now l mask s .rfl
  | retiring p now l => exact kept_execRetiring p now l s .rfl
  | presentDeassert p => exact kept_execPresentDeassert p s .rfl
  | presentSettled p => exact kept_execPresentSettled p s .rfl
  | moduleInterrupt p => exact kept_execModuleInterrupt p s .rfl
  | portTrain p o => exact kept_execPortTrain p o s .rfl
  | trainPhaseTimeout p => exact kept_execTrainPhaseTimeout p s .rfl
  | alignmentLoss p => exact kept_execAlignmentLoss p s .rfl
  | rxSilence p => exact kept_execRxSilence p s .rfl
  | retrainTimeout p => exact kept_execRetrainTimeout p s .rfl
  | portDownTimeout p => exact kept_execPortDownTimeout p s .rfl
  | prtRetrain ag p => exact kept_execPrtRetrain ag p s .rfl
  | prtPortReset ag p unretire => exact kept_execPrtPortReset ag p unretire s .rfl
  | prtCtrlQuietReq ag p v => exact kept_execPrtCtrlQuietReq ag p v s .rfl
  | quietAuto p => exact kept_execQuietAuto p s .rfl
  | quietAutoWake p => exact kept_execQuietAutoWake p s .rfl
  | lldpSend p => exact kept_execLldpSend p s .rfl
  | lldpReceive p f => exact kept_execLldpReceive p f s .rfl
  | lldpTtlExpire p => exact kept_execLldpTtlExpire p s .rfl
  | hnFrameReceive p a => exact kept_execHnFrameReceive p a s .rfl
  | pfcFrame p prio pause => exact kept_execPfcFrame p prio pause s .rfl
  | portPlanNextWrite ag v => exact kept_execPortPlanNextWrite ag v s .rfl
  | packetRoute src ix bad => exact kept_execPacketRoute src ix bad s .rfl
  | packetWaitRetry src ix => exact kept_execPacketWaitRetry src ix s .rfl
  | routeEntryWrite ag b n v => exact kept_execRouteEntryWrite ag b n v s .rfl
  | rtrBankFlip ag b => exact kept_execRtrBankFlip ag b s .rfl
  | rtrNodeWrite ag node valid => exact kept_execRtrNodeWrite ag node valid s .rfl
  | packetSend dst cls ask => exact kept_execPacketSend dst cls ask s .rfl
  | ackTimer src cls => exact kept_execAckTimer src cls s .rfl
  | e2eTimeout dst cls => exact kept_execE2eTimeout dst cls s .rfl
  | nackBusyRetry dst cls late => exact kept_execNackBusyRetry dst cls late s .rfl
  | resetRetry dst cls => exact kept_execResetRetry dst cls s .rfl
  | resetWaitExpire dst cls => exact kept_execResetWaitExpire dst cls s .rfl
  | contextReclaim src cls => exact kept_execContextReclaim src cls s .rfl
  | ccTick dst cls => exact kept_execCcTick dst cls s .rfl
  | wrdesc bad => exact kept_execWrdesc bad s .rfl
  | wrdata bad => exact kept_execWrdata bad s .rfl
  | rdreq bad => exact kept_execRdreq bad s .rfl
  | rddata => exact kept_execRddata s .rfl
  | atomic bad => exact kept_execAtomic bad s .rfl
  | atomrsp => exact kept_execAtomrsp s .rfl
  | dbell bad => exact kept_execDbell bad s .rfl
  | dback => exact kept_execDback s .rfl
  | contrib bad => exact kept_execContrib bad s .rfl
  | contribrsp => exact kept_execContribrsp s .rfl
  | ack => exact kept_execAck s .rfl
  | nack => exact kept_execNack s .rfl
  | loss => exact kept_execLoss s .rfl
  | rack => exact kept_execRack s .rfl
  | flowreset => exact kept_execFlowreset s .rfl
  | mack => exact kept_execMack s .rfl
  | cdata src ix => exact kept_execCdata src ix s .rfl
  | cdown => exact kept_execCdown s .rfl
  | mgmt => exact kept_execMgmt s .rfl
  | heelApply src cls final => exact kept_execHeelApply src cls final s .rfl
  | multicastTimeout dst => exact kept_execMulticastTimeout dst s .rfl
  | shareGroupWrite ag p g v => exact kept_execShareGroupWrite ag p g v s .rfl
  | circuitEntryWrite ag t id v => exact kept_execCircuitEntryWrite ag t id v s .rfl
  | telemetryWindowEnd => exact kept_execTelemetryWindowEnd s .rfl
  | instanceStart q => exact kept_execInstanceStart q s .rfl
  | chunkSend m peer down => exact kept_execChunkSend m peer down s .rfl
  | tileReadbackSend m peer down => exact kept_execTileReadbackSend m peer down s .rfl
  | clxInstanceDone q => exact kept_execClxInstanceDone q s .rfl
  | clxProgressTimeout q => exact kept_execClxProgressTimeout q s .rfl
  | groupEntryWrite ag m g ix v => exact kept_execGroupEntryWrite ag m g ix v s .rfl
  | groupWriteApply m g => exact kept_execGroupWriteApply m g s .rfl
  | clxProgramWrite ag m x ix v => exact kept_execClxProgramWrite ag m x ix v s .rfl
  | mgmtRetransmit mseq => exact kept_execMgmtRetransmit mseq s .rfl
  | electTimer => exact kept_execElectTimer s .rfl
  | candidateExpire serial p => exact kept_execCandidateExpire serial p s .rfl
  | electionStable => exact kept_execElectionStable s .rfl
  | beatTimer => exact kept_execBeatTimer s .rfl
  | standbyTakeover => exact kept_execStandbyTakeover s .rfl
  | elect => exact kept_execElect s .rfl
  | beat => exact kept_execBeat s .rfl
  | replicate => exact kept_execReplicate s .rfl
  | query net => exact kept_execQuery net s .rfl
  | assign => exact kept_execAssign s .rfl
  | portEn => exact kept_execPortEn s .rfl
  | plan => exact kept_execPlan s .rfl
  | expand => exact kept_execExpand s .rfl
  | entry => exact kept_execEntry s .rfl
  | fmHold => exact kept_execFmHold s .rfl
  | drain => exact kept_execDrain s .rfl
  | flip => exact kept_execFlip s .rfl
  | resume => exact kept_execResume s .rfl
  | domain => exact kept_execDomain s .rfl
  | group => exact kept_execGroup s .rfl
  | circuit => exact kept_execCircuit s .rfl
  | tables => exact kept_execTables s .rfl
  | report => exact kept_execReport s .rfl
  | reportRepeat => exact kept_execReportRepeat s .rfl
  | drainSettle => exact kept_execDrainSettle s .rfl
  | drainOverrun => exact kept_execDrainOverrun s .rfl
  | swapRetry => exact kept_execSwapRetry s .rfl
  | tagReuseTimer tag => exact kept_execTagReuseTimer tag s .rfl
  | imgOffer => exact kept_execImgOffer s .rfl
  | imgData => exact kept_execImgData s .rfl
  | imgDone => exact kept_execImgDone s .rfl
  | bar0Write h f off wide v => exact kept_execBar0Write h f off wide v s .rfl
  | captureConsume h => exact kept_execCaptureConsume h s .rfl
  | hifCapConsWrite ag h v => exact kept_execHifCapConsWrite ag h v s .rfl
  | doorbell h f q head v => exact kept_execDoorbell h f q head v s .rfl
  | heartbeat h f => exact kept_execHeartbeat h f s .rfl
  | heartbeatWindowEnd h f => exact kept_execHeartbeatWindowEnd h f s .rfl
  | orphanKeepExpire h f => exact kept_execOrphanKeepExpire h f s .rfl
  | queueCreate h f q v => exact kept_execQueueCreate h f q v s .rfl
  | queueDelete h f q v => exact kept_execQueueDelete h f q v s .rfl
  | windowSet h f w v => exact kept_execWindowSet h f w v s .rfl
  | submissionFetch h f q host bad => exact kept_execSubmissionFetch h f q host bad s .rfl
  | fencedCommandStart h f q => exact kept_execFencedCommandStart h f q s .rfl
  | completionPost h f => exact kept_execCompletionPost h f s .rfl
  | bar4Access h f off n data ecc => exact kept_execBar4Access h f off n data ecc s .rfl
  | hostCompletionTimeout h f tok => exact kept_execHostCompletionTimeout h f tok s .rfl
  | pcieConfigRequest h f r => exact kept_execPcieConfigRequest h f r s .rfl
  | negotiate h f => exact kept_execNegotiate h f s .rfl
  | flr h m => exact kept_execFlr h m s .rfl
  | flrQuiesce h f => exact kept_execFlrQuiesce h f s .rfl
  | pf0Flr h => exact kept_execPf0Flr h s .rfl
  | portLinkReset h kind => exact kept_execPortLinkReset h kind s .rfl
  | identify h f => exact kept_execIdentify h f s .rfl
  | hcreate h f x base picks => exact kept_execHcreate h f x base picks s .rfl
  | hdestroy h f => exact kept_execHdestroy h f s .rfl
  | hseed h f => exact kept_execHseed h f s .rfl
  | hcopy h f host ecc => exact kept_execHcopy h f host ecc s .rfl
  | load h f ecc => exact kept_execLoad h f ecc s .rfl
  | run h f host => exact kept_execRun h f host s .rfl
  | hold h f => exact kept_execHold h f s .rfl
  | release h f => exact kept_execRelease h f s .rfl
  | abort h f => exact kept_execAbort h f s .rfl
  | orphanRead h f host => exact kept_execOrphanRead h f host s .rfl
  | adopt h f => exact kept_execAdopt h f s .rfl
  | discard h f => exact kept_execDiscard h f s .rfl
  | partitionCreate h => exact kept_execPartitionCreate h s .rfl
  | partitionRelease h tests => exact kept_execPartitionRelease h tests s .rfl
  | releaseStopBound p tests => exact kept_execReleaseStopBound p tests s .rfl
  | partitionStoreMap h => exact kept_execPartitionStoreMap h s .rfl
  | partitionReset h tests => exact kept_execPartitionReset h tests s .rfl
  | jobCarve h host => exact kept_execJobCarve h host s .rfl
  | jobRelease h => exact kept_execJobRelease h s .rfl
  | policy h => exact kept_execPolicy h s .rfl
  | fwStage h host => exact kept_execFwStage h host s .rfl
  | stagingVerified => exact kept_execStagingVerified s .rfl
  | fwActivate h => exact kept_execFwActivate h s .rfl
  | handover k payload comes => exact kept_execHandover k payload comes s .rfl
  | adoptTimeout starts => exact kept_execAdoptTimeout starts s .rfl
  | pmcHandoverStart => exact kept_execPmcHandoverStart s .rfl
  | unitImageTake bdc ix => exact kept_execUnitImageTake bdc ix s .rfl
  | fwStatus h => exact kept_execFwStatus h s .rfl
  | config h => exact kept_execConfig h s .rfl
  | cccMcastWrite ag ix v => exact kept_execCccMcastWrite ag ix v s .rfl
  | attest h f host => exact kept_execAttest h f host s .rfl
  | keyImport h f host bad => exact kept_execKeyImport h f host bad s .rfl
  | sealLoad h f bad => exact kept_execSealLoad h f bad s .rfl
  | sealChunkDone h f host => exact kept_execSealChunkDone h f host s .rfl
  | keyClear h f => exact kept_execKeyClear h f s .rfl
  | svnCommit h => exact kept_execSvnCommit h s .rfl
  | ownerEnroll h host => exact kept_execOwnerEnroll h host s .rfl
  | ideKeyProgram h stream => exact kept_execIdeKeyProgram h stream s .rfl
  | agentStart ag => exact kept_execAgentStart ag s .rfl
  | bbxDataWrite ag b ix v => exact kept_execBbxDataWrite ag b ix v s .rfl
  | bbxSend ag b v => exact kept_execBbxSend ag b v s .rfl
  | bbxReceiveClear ag b v => exact kept_execBbxReceiveClear ag b v s .rfl
  | bbxLockRead ag b => exact kept_execBbxLockRead ag b s .rfl
  | bbxLockRelease ag b v => exact kept_execBbxLockRelease ag b v s .rfl
  | bbxHdrRead ag b bad => exact kept_execBbxHdrRead ag b bad s .rfl
  | signalPost p => exact kept_execSignalPost p s .rfl
  | signalDeliver p => exact kept_execSignalDeliver p s .rfl
  | saveTimeout p => exact kept_execSaveTimeout p s .rfl
  | eventRecord => exact kept_execEventRecord s .rfl
  | lostEventsReport => exact kept_execLostEventsReport s .rfl
  | recordFlashSync => exact kept_execRecordFlashSync s .rfl
  | faultHistoryWrite => exact kept_execFaultHistoryWrite s .rfl
  | operatingHourMark => exact kept_execOperatingHourMark s .rfl
  | recCursorWrite ag w v => exact kept_execRecCursorWrite ag w v s .rfl
  | recorderClearRequest h host => exact kept_execRecorderClearRequest h host s .rfl
  | vin48Removed => exact kept_execVin48Removed s .rfl

/-- The canonical form does not speak of the queue. -/
theorem Canon.setPending {s : State} (h : Canon s) (q : List Instr) : Canon { s with pending := q } := by
  obtain ⟨hcsr, hcpPend, hcpBad, hmem, hsyn, hwordErr, hlineErr⟩ := h
  exact ⟨hcsr, hcpPend, hcpBad, hmem, hsyn, hwordErr, hlineErr⟩

/-- A step keeps the canonical form: idling writes no table, and the front command keeps it. -/
theorem Canon.step {s t : State} (h : Canon s) (ht : step s = .next t) : Canon t := by
  unfold Sys2Proof.Machine.step at ht
  split at ht
  · obtain rfl := Host.Outcome.next.inj ht
    exact (kept_idle s .rfl).canon h
  · rename_i c rest _
    exact (kept_exec c _ t ht).canon (h.setPending rest)

/-- Settles O4: the canonical form is the Boolean check of the tables, and a step keeps it. -/
theorem tablesStayCanonical : Obligations.TablesStayCanonical := by
  intro s t hs ht
  exact t.wf_iff_canon.2 (((s.wf_iff_canon).1 hs).step ht)

end Sys2Proof.Machine

/-!
What a write makes of each bit of a field.
-/
namespace Sys2Proof.Machine

/-! ### Fields follow their access codes -/

/-- The bits that an access reaches of a field: those of the field that its mask covers. -/
theorem fldMask_and_getLsbD (hi lo i : Nat) (mask : W64) (h : lo ≤ hi) (h64 : i < 64) :
    (fldMask hi lo &&& mask).getLsbD i = decide (lo ≤ i ∧ i ≤ hi ∧ mask.getLsbD i = true) := by
  rw [BitVec.getLsbD_and, fldMask_getLsbD _ _ _ (by omega)]
  simp only [h64, Bool.decide_and, decide_true, Bool.true_and, Bool.decide_eq_true, Bool.and_assoc]

/-- A bit that a write reaches, by its access code, from the old bit and the written one (R14). -/
def writtenBit (acc : Acc) (old w : Bool) : Bool :=
  match acc with
  | .rw => w
  | .w1c => old && !w
  | .w1s => old || w
  | .ro => old
  | .rc => old
  | .wo => old

/-- A write of a field under a mask, bit by bit: what is reached follows the access code, and the rest stays. -/
theorem Fld.write_getLsbD (f : Fld) (old w mask : W64) (i : Nat) (h64 : i < 64) :
    (f.write old w mask).getLsbD i =
      bif (fldMask f.hi f.lo &&& mask).getLsbD i then writtenBit f.acc (old.getLsbD i) (w.getLsbD i) else old.getLsbD i := by
  unfold Fld.write writtenBit
  generalize fldMask f.hi f.lo &&& mask = m
  cases f.acc <;> cases hm : m.getLsbD i <;>
    simp only [BitVec.getLsbD_or, BitVec.getLsbD_and, BitVec.getLsbD_not, h64, hm, decide_true, Bool.true_and, Bool.not_true, Bool.not_false,
      Bool.and_true, Bool.and_false, Bool.or_false, Bool.false_or, cond_true, cond_false]

/-- Settles O9: the mask decides whether the bit is reached, the access code what becomes of it. -/
theorem fieldWriteFollowsAccessCode : Obligations.FieldWriteFollowsAccessCode := by
  intro f old w mask i hle h64
  rw [f.write_getLsbD old w mask i h64, fldMask_and_getLsbD _ _ _ _ hle h64]
  by_cases reached : f.lo ≤ i ∧ i ≤ f.hi ∧ mask.getLsbD i = true
  · rw [if_pos reached, decide_eq_true reached]
    cases f.acc <;> rfl
  · rw [if_neg reached, decide_eq_false reached, cond_false]

end Sys2Proof.Machine

/-!
What the registers read as after reset.
-/
namespace Sys2Proof.Machine

/-! ### The reset values -/

/-- A register listed with a reset value other than 0 holds it after reset. -/
theorem reset_rd {a : Nat} {v : W64} (h : (a, v) ∈ resetHub ++ resetCrust ++ (resetFabric ++ resetEngines)) (hv : v ≠ 0) :
    State.reset.rd a = v :=
  canonical_resetCsr.get_of_mem (List.mem_filter.2 ⟨h, by simpa using hv⟩)

theorem reset_rd_hub {a : Nat} {v : W64} (h : (a, v) ∈ resetHub) (hv : v ≠ 0) : State.reset.rd a = v :=
  reset_rd (List.mem_append_left _ (List.mem_append_left _ h)) hv

theorem reset_rd_crust {a : Nat} {v : W64} (h : (a, v) ∈ resetCrust) (hv : v ≠ 0) : State.reset.rd a = v :=
  reset_rd (List.mem_append_left _ (List.mem_append_right _ h)) hv

theorem reset_rd_fabric {a : Nat} {v : W64} (h : (a, v) ∈ resetFabric) (hv : v ≠ 0) : State.reset.rd a = v :=
  reset_rd (List.mem_append_right _ (List.mem_append_left _ h)) hv

theorem reset_rd_engines {a : Nat} {v : W64} (h : (a, v) ∈ resetEngines) (hv : v ≠ 0) : State.reset.rd a = v :=
  reset_rd (List.mem_append_right _ (List.mem_append_right _ h)) hv

theorem reset_hubFmPeers : State.reset.rd Reg.hubFmPeers = 0xFFFFF000FFFFF :=
  reset_rd_hub (by simp [resetHub]) (by decide)

theorem reset_recCursor (w : Fin 6) : State.reset.rd (Reg.recCursor w) = 0xFFFFFFFF :=
  reset_rd_crust (List.mem_append_right _ (List.mem_map.2 ⟨w, List.mem_range.2 w.isLt, rfl⟩)) (by decide)

/-- The reset table lists the same registers for every port. -/
theorem reset_prt (p : Fin 16) :
    State.reset.rd (Reg.prtStatus p) = 0x18 ∧ State.reset.rd (Reg.prtPeer p) = 0xF0FFFFF := by
  have hp : p.val ∈ List.range 16 := List.mem_range.2 p.isLt
  constructor <;>
    exact reset_rd_fabric (List.mem_append_right _ (List.mem_flatMap.2 ⟨p, hp, by simp⟩)) (by decide)

/-- A sequencer is idle, alone in its gang, whose lead die is its own. -/
theorem reset_seqStatus (q : Fin 4) : State.reset.rd (Reg.seqStatus q) = BitVec.ofNat 64 (q * 2 ^ 12 + 2 ^ (16 + q.val)) :=
  reset_rd_engines (List.mem_append_left _ (List.mem_append_right _ (List.mem_flatMap.2 ⟨q, List.mem_range.2 q.isLt, List.mem_cons_self⟩)))
    (by revert q; decide)

theorem reset_hifEmuHb (h : Fin 2) (f : Fin 5) : State.reset.rd (Reg.hifEmuHb h f) = 0x3E8 :=
  reset_rd_engines (List.mem_append_left _ (List.mem_append_left _ (List.mem_flatMap.2 ⟨h, List.mem_range.2 h.isLt,
    List.mem_cons_of_mem _ (List.mem_flatMap.2 ⟨f, List.mem_range.2 f.isLt, List.mem_cons_self⟩)⟩))) (by decide)

/-- The fields of SEQ_STATUS after reset: lead die, gang and state. -/
theorem reset_seqStatus_fields (q : Fin 4) : State.reset.rdF (Reg.seqStatus q) 13 12 = q ∧
    State.reset.rdF (Reg.seqStatus q) 19 16 = 2 ^ q.val ∧ State.reset.rdF (Reg.seqStatus q) 3 0 = 0 := by
  simp only [State.rdF, reset_seqStatus]
  revert q; decide

/-- The state after reset holds nothing but the registers of the reset table, which is in canonical form. -/
theorem canon_reset : Canon State.reset :=
  ⟨canonical_resetCsr, Tbl.canonical_nil, Tbl.canonical_nil, Tbl.canonical_nil, Tbl.canonical_nil, Tbl.canonical_nil, Tbl.canonical_nil⟩

/-- Settles O5: each register's value stands in the reset table. -/
theorem resetHoldsTheResetValues : Obligations.ResetHoldsTheResetValues := by
  refine ⟨(State.wf_iff_canon _).2 canon_reset, rfl, rfl, ?hubId, ?partMap, ?limit, ?boot, reset_seqStatus_fields, reset_prt, ?heartbeat,
    ?peers, ?second, reset_recCursor⟩
  case hubId => exact reset_rd_hub (by simp [resetHub]) (by decide)
  case partMap => exact reset_rd_crust (by simp [resetCrust]) (by decide)
  case limit => exact reset_rd_crust (by simp [resetCrust]) (by decide)
  case boot => exact reset_rd_crust (by simp [resetCrust]) (by decide)
  case heartbeat =>
    intro h f
    rw [State.rdF, reset_hifEmuHb]
    decide
  case peers =>
    rw [State.rdF, reset_hubFmPeers]
    decide
  case second =>
    rw [State.rdB, reset_hubFmPeers]
    decide

end Sys2Proof.Machine

/-!
The protocol of pending value and companion.
-/
namespace Sys2Proof.Machine

/-! ### The masks of accesses to a 64-bit register -/

theorem accessMask_whole : accessMask 0 8 = BitVec.allOnes 64 := by decide
theorem accessMask_low : accessMask 0 4 = fldMask 31 0 := by decide
theorem accessMask_high : accessMask 4 4 = fldMask 63 32 := by decide

/-- The upper half of a word, carried in the low bits of a 32-bit write, lands in its place. -/
theorem shiftUp_shiftDown_high (w : W64) : ((w >>> 32) <<< (8 * 4)) &&& fldMask 63 32 = w &&& fldMask 63 32 := by
  refine BitVec.eq_of_getLsbD_eq (fun i hi => ?_)
  rw [BitVec.getLsbD_and, BitVec.getLsbD_and, fldMask_getLsbD _ _ _ (by omega), BitVec.getLsbD_shiftLeft, BitVec.getLsbD_ushiftRight]
  by_cases h : 32 ≤ i
  · have hlow : ¬ i < 8 * 4 := by omega
    have hback : 32 + (i - 8 * 4) = i := by omega
    simp only [hi, hlow, hback, decide_true, decide_false, Bool.not_false, Bool.true_and]
  · simp only [h, decide_false, Bool.and_false, Bool.false_and]

/-! ### Writes to the register -/

/-- What a write leaves pending over the word that it is merged into. -/
def cpMerged (base : W64) (ag : Agent) (off width : Nat) (v : W64) : CpPending :=
  { value := (base &&& ~~~ accessMask off width) ||| ((v <<< (8 * off)) &&& accessMask off width), owner := ag.num }

@[simp] theorem State.cpWrite_csr (s : State) (ag : Agent) (a off width : Nat) (v : W64) : (s.cpWrite ag a off width v).csr = s.csr := rfl

/-- With nothing pending, a write is merged into the value in force. -/
theorem State.cpWrite_fresh {s : State} {a : Nat} (h : s.cpPend.get a = none) (ag : Agent) (off width : Nat) (v : W64) :
    (s.cpWrite ag a off width v).cpPend.get a = some (cpMerged (s.rd a) ag off width v) := by
  unfold State.cpWrite
  rw [h]
  exact Tbl.get_set_same _ _ _

/-- A write is merged into the value pending. -/
theorem State.cpWrite_over {s : State} {a : Nat} {p : CpPending} (h : s.cpPend.get a = some p) (ag : Agent) (off width : Nat) (v : W64) :
    (s.cpWrite ag a off width v).cpPend.get a = some (cpMerged p.value ag off width v) := by
  unfold State.cpWrite
  rw [h]
  exact Tbl.get_set_same _ _ _

/-- A 64-bit write leaves nothing of what it is merged into. -/
theorem cpMerged_whole (base : W64) (ag : Agent) (v : W64) : cpMerged base ag 0 8 v = { value := v, owner := ag.num } := by
  unfold cpMerged
  rw [accessMask_whole, BitVec.not_allOnes, BitVec.and_zero, BitVec.zero_or, BitVec.and_allOnes, Nat.mul_zero, BitVec.shiftLeft_zero]

theorem State.cpWrite_whole (s : State) (ag : Agent) (a : Nat) (v : W64) :
    (s.cpWrite ag a 0 8 v).cpPend.get a = some { value := v, owner := ag.num } := by
  cases h : s.cpPend.get a with
  | none => rw [State.cpWrite_fresh h, cpMerged_whole]
  | some p => rw [State.cpWrite_over h, cpMerged_whole]

/-- A 32-bit write sets its half as a field. -/
theorem cpMerged_low (base : W64) (ag : Agent) (v : W64) : (cpMerged base ag 0 4 v).value = setFld base 31 0 v.toNat := by
  unfold cpMerged setFld
  rw [accessMask_low, Nat.mul_zero, BitVec.shiftLeft_zero, Nat.shiftLeft_zero, BitVec.ofNat_toNat, BitVec.setWidth_eq]

@[inherit_doc cpMerged_low]
theorem cpMerged_high (base : W64) (ag : Agent) (v : W64) : (cpMerged base ag 4 4 v).value = setFld base 63 32 v.toNat := by
  unfold cpMerged setFld
  rw [accessMask_high]
  rfl

/-- The halves after a write of the lower one, and after a write of the upper one. -/
theorem cpMerged_low_halves (base : W64) (ag : Agent) (v : W64) :
    fld (cpMerged base ag 0 4 v).value 31 0 = fld v 31 0 ∧ fld (cpMerged base ag 0 4 v).value 63 32 = fld base 63 32 := by
  rw [cpMerged_low]
  exact ⟨fld_setFld_same _ _ _ _ (by omega) (by omega), fld_setFld_ne _ _ _ _ _ _ (by omega) (by omega)⟩

@[inherit_doc cpMerged_low_halves]
theorem cpMerged_high_halves (base : W64) (ag : Agent) (v : W64) :
    fld (cpMerged base ag 4 4 v).value 31 0 = fld base 31 0 ∧ fld (cpMerged base ag 4 4 v).value 63 32 = fld v 31 0 := by
  rw [cpMerged_high]
  exact ⟨fld_setFld_ne _ _ _ _ _ _ (by omega) (by omega), fld_setFld_same _ _ _ _ (by omega) (by omega)⟩

/-! ### Writes to the companion -/

/-- A companion write of the complement of the bits that it reaches of a pending value, by the agent that owns it. -/
structure CpMatches (p : CpPending) (ag : Agent) (off width : Nat) (v : W64) : Prop where
  owner : p.owner = ag.num
  complement : (v <<< (8 * off)) &&& accessMask off width = ~~~ p.value &&& accessMask off width

@[simp] theorem State.cpMismatch_csr (s : State) (ag : Agent) (a : Nat) : (s.cpMismatch ag a).csr = s.csr := State.event_csr _ _ _ _ _ _

@[simp] theorem State.cpMismatch_cpPend (s : State) (ag : Agent) (a : Nat) : (s.cpMismatch ag a).cpPend.get a = none := by
  unfold State.cpMismatch
  rw [State.event_cpPend]
  exact Tbl.get_set_same _ _ _

section Companion
variable {s : State} {ag : Agent} {a off width : Nat} {v : W64} {p : CpPending} (done : State → W64 → State)

/-- With nothing pending, a companion write is a mismatch. -/
theorem State.cpCompanion_none (n : Nat) (h : s.cpPend.get a = none) : s.cpCompanion ag a n off width v done = s.cpMismatch ag a := by
  unfold State.cpCompanion
  rw [h]
  rfl

/-- A companion write that does not match is a mismatch. -/
theorem State.cpCompanion_mismatch (n : Nat) (h : s.cpPend.get a = some p) (hm : ¬ CpMatches p ag off width v) :
    s.cpCompanion ag a n off width v done = s.cpMismatch ag a := by
  have hn : p.owner ≠ ag.num ∨ (v <<< (8 * off)) &&& accessMask off width ≠ ~~~ p.value &&& accessMask off width := by
    by_cases ho : p.owner = ag.num
    · exact .inr (fun hx => hm ⟨ho, hx⟩)
    · exact .inl ho
  unfold State.cpCompanion
  simp only [h, cpJudge, if_pos hn]

/-- Whether both halves of a 64-bit register have matched after a matching write at an offset of a width. -/
def cpLow (p : CpPending) (off : Nat) : Bool := p.loMatched || decide (off = 0)
@[inherit_doc cpLow]
def cpHigh (p : CpPending) (off width : Nat) : Bool := p.hiMatched || decide (off = 4) || decide (width = 8)

theorem cpJudge_matching (hm : CpMatches p ag off width v) :
    cpJudge (some p) ag 8 off width v = if cpLow p off && cpHigh p off width then (.complete p.value, none)
      else (.half, some { p with loMatched := cpLow p off, hiMatched := cpHigh p off width }) := by
  obtain ⟨ho, hx⟩ := hm
  unfold cpJudge
  have hn : ¬ (p.owner ≠ ag.num ∨ (v <<< (8 * off)) &&& accessMask off width ≠ ~~~ p.value &&& accessMask off width) := by
    simp only [ho, hx, ne_eq, not_true, or_self, not_false_eq_true]
  have hhigh : (p.hiMatched || decide (off = 4) || decide (width = 8) || decide (8 = 4)) = cpHigh p off width := Bool.or_false _
  refine (if_neg hn).trans ?_
  dsimp only
  rw [hhigh]
  rfl

/-- A match that leaves a half open keeps the register and notes the half. -/
theorem State.cpCompanion_half (h : s.cpPend.get a = some p) (hm : CpMatches p ag off width v) (hc : (cpLow p off && cpHigh p off width) = false) :
    (s.cpCompanion ag a 8 off width v done).csr = s.csr ∧
    (s.cpCompanion ag a 8 off width v done).cpPend.get a = some { p with loMatched := cpLow p off, hiMatched := cpHigh p off width } := by
  unfold State.cpCompanion
  rw [h, cpJudge_matching hm, hc]
  exact ⟨rfl, Tbl.get_set_same _ _ _⟩

/-- The match that closes both halves completes the pending value. -/
theorem State.cpCompanion_complete (h : s.cpPend.get a = some p) (hm : CpMatches p ag off width v) (hc : (cpLow p off && cpHigh p off width) = true) :
    s.cpCompanion ag a 8 off width v done = done { s with cpPend := s.cpPend.set a none } p.value := by
  unfold State.cpCompanion
  rw [h, cpJudge_matching hm, hc]
  rfl

end Companion

/-- The 64-bit companion write matches when it is the owner's and of the complement. -/
theorem cpMatches_whole {p : CpPending} {ag : Agent} {x : W64} : CpMatches p ag 0 8 x ↔ p.owner = ag.num ∧ x = ~~~ p.value := by
  have e : (x <<< (8 * 0)) &&& accessMask 0 8 = x ∧ ~~~ p.value &&& accessMask 0 8 = ~~~ p.value := by
    rw [accessMask_whole, BitVec.and_allOnes, BitVec.and_allOnes, Nat.mul_zero, BitVec.shiftLeft_zero]
    exact ⟨rfl, rfl⟩
  exact ⟨fun ⟨ho, hx⟩ => ⟨ho, by rw [← e.1, hx, e.2]⟩, fun ⟨ho, hx⟩ => ⟨ho, by rw [e.1, e.2, hx]⟩⟩

/-- The owner's companion writes of the complement of each half match. -/
theorem cpMatches_low {p : CpPending} {ag : Agent} (ho : p.owner = ag.num) : CpMatches p ag 0 4 (fldMask 31 0 &&& ~~~ p.value) := by
  refine ⟨ho, ?_⟩
  rw [accessMask_low, Nat.mul_zero, BitVec.shiftLeft_zero, BitVec.and_comm, ← BitVec.and_assoc, BitVec.and_self, BitVec.and_comm]

@[inherit_doc cpMatches_low]
theorem cpMatches_high {p : CpPending} {ag : Agent} (ho : p.owner = ag.num) : CpMatches p ag 4 4 (~~~ p.value >>> 32) :=
  ⟨ho, by rw [accessMask_high, shiftUp_shiftDown_high]⟩

/-! ### The protocol -/

/-- A write of the upper half cancels the match of the lower one, so that the upper half alone does not complete it. -/
theorem State.cpWrite_cancels_match {u : State} {a : Nat} {p : CpPending} (h : u.cpPend.get a = some p) (ag : Agent) (x : W64)
    (done : State → W64 → State) :
    ∃ q, (u.cpWrite ag a 4 4 x).cpPend.get a = some q ∧ q.loMatched = false ∧ q.hiMatched = false ∧ fld q.value 31 0 = fld p.value 31 0 ∧
      fld q.value 63 32 = fld x 31 0 ∧
      ∀ y, (u.cpWrite ag a 4 4 x).cpCompanion ag a 8 4 4 (~~~ q.value >>> 32) done = y → y.csr = u.csr ∧ y.cpPend.get a = some { q with hiMatched := true } := by
  obtain ⟨hlow, hhigh⟩ := cpMerged_high_halves p.value ag x
  have hq := State.cpWrite_over h ag 4 4 x
  refine ⟨cpMerged p.value ag 4 4 x, hq, rfl, rfl, hlow, hhigh, ?_⟩
  rintro y rfl
  exact State.cpCompanion_half done hq (cpMatches_high rfl) rfl

/-- The owner completes a pending value, none of which has matched, by its halves in either order, and at the second only. -/
theorem State.cpCompanion_halves {t : State} {a : Nat} {v : W64} {ag : Agent} (h : t.cpPend.get a = some { value := v, owner := ag.num })
    (done : State → W64 → State) :
    (∀ u : State, t.cpCompanion ag a 8 0 4 (fldMask 31 0 &&& ~~~ v) done = u → u.csr = t.csr ∧
      u.cpPend.get a = some { value := v, owner := ag.num, loMatched := true } ∧
      u.cpCompanion ag a 8 4 4 (~~~ v >>> 32) done = done { u with cpPend := u.cpPend.set a none } v) ∧
    (∀ u : State, t.cpCompanion ag a 8 4 4 (~~~ v >>> 32) done = u → u.csr = t.csr ∧
      u.cpCompanion ag a 8 0 4 (fldMask 31 0 &&& ~~~ v) done = done { u with cpPend := u.cpPend.set a none } v) := by
  constructor
  · rintro u rfl
    obtain ⟨hcsr, hpend⟩ := State.cpCompanion_half done h (cpMatches_low rfl) rfl
    exact ⟨hcsr, hpend, State.cpCompanion_complete done hpend (cpMatches_high rfl) rfl⟩
  · rintro u rfl
    obtain ⟨hcsr, hpend⟩ := State.cpCompanion_half done h (cpMatches_high rfl) rfl
    exact ⟨hcsr, State.cpCompanion_complete done hpend (cpMatches_low rfl) rfl⟩

/-- Settles O8, clause by clause from what a write leaves pending and what a companion write makes of it. -/
theorem complementsCompleteValues : Obligations.ComplementsCompleteValues := by
  rintro s ag other a v x done t rfl
  have hp := s.cpWrite_whole ag a v
  obtain ⟨lowFirst, highFirst⟩ := State.cpCompanion_halves hp done
  refine ⟨⟨rfl, hp⟩, ?whole, ?low, highFirst, ?wrong, ?nothing⟩
  case whole => exact State.cpCompanion_complete done hp (cpMatches_whole.2 ⟨rfl, rfl⟩) rfl
  case low =>
    intro u hu
    obtain ⟨hcsr, hpend, hdone⟩ := lowFirst u hu
    refine ⟨hcsr, hpend, hdone, ?_⟩
    rintro w rfl
    obtain ⟨q, hq, hlo, hhi, hlow, hhigh, hy⟩ := State.cpWrite_cancels_match hpend ag x done
    exact ⟨q, hq, hlo, hhi, hlow, hhigh, fun y e => ⟨(hy y e).1.trans hcsr, (hy y e).2⟩⟩
  case wrong =>
    intro hwrong
    have hm : ¬ CpMatches { value := v, owner := ag.num } other 0 8 x := by
      rw [cpMatches_whole]
      exact fun ⟨ho, hx⟩ => hwrong.elim (· ho.symm) (· hx)
    exact ⟨State.cpCompanion_mismatch done 8 hp hm, State.cpMismatch_csr _ _ _, State.cpMismatch_cpPend _ _ _⟩
  case nothing =>
    intro hnone
    obtain ⟨hlow, hhigh⟩ := cpMerged_low_halves (s.rd a) ag x
    exact ⟨State.cpCompanion_none done 8 hnone, _, State.cpWrite_fresh hnone ag 0 4 x, hlow, hhigh, rfl⟩

end Sys2Proof.Machine

/-!
What memory, tile checks and errors read as after a write of bytes.
-/
namespace Sys2Proof.Machine

/-! ### Bytes and numbers -/

/-- A number of base 256 gives its digits back. -/
theorem leBytes_leNat (bs : List Byte) : leBytes bs.length (leNat bs) = bs := by
  induction bs with
  | nil => rfl
  | cons b bs ih =>
    have hb := b.isLt
    have hdiv : (b.toNat + 256 * leNat bs) / 256 = leNat bs := by omega
    have hmod : BitVec.ofNat 8 (b.toNat + 256 * leNat bs) = b := by
      refine BitVec.eq_of_toNat_eq ?_
      rw [BitVec.toNat_ofNat]
      omega
    rw [List.length_cons, leNat, leBytes, hdiv, hmod, ih]

theorem zero_byte_toNat : (0 : Byte).toNat = 0 := rfl

theorem leNat_replicate_zero (n : Nat) : leNat (List.replicate n 0) = 0 := by
  induction n with
  | zero => rfl
  | succ n ih => rw [List.replicate_succ, leNat, ih, zero_byte_toNat]

/-- A digit that is 0 in one number and not in another that agrees with it elsewhere adds its weight. -/
theorem leNat_map_range_add {f g : Nat → Byte} {n j : Nat} (hj : j < n) (hzero : g j = 0) (hsame : ∀ i, i ≠ j → f i = g i) :
    leNat ((List.range n).map f) = (f j).toNat * 256 ^ j + leNat ((List.range n).map g) := by
  induction n generalizing f g j with
  | zero => omega
  | succ n ih =>
    rw [List.range_succ_eq_map, List.map_cons, List.map_cons, List.map_map, List.map_map, leNat, leNat]
    cases j with
    | zero =>
      have htail : (List.range n).map (f ∘ Nat.succ) = (List.range n).map (g ∘ Nat.succ) :=
        List.map_congr_left (fun i _ => hsame (i + 1) (Nat.succ_ne_zero i))
      rw [htail, hzero, zero_byte_toNat, Nat.pow_zero, Nat.mul_one, Nat.zero_add]
    | succ j =>
      have htail := ih (f := f ∘ Nat.succ) (g := g ∘ Nat.succ) (j := j) (by omega) hzero
        (fun i hi => hsame (i + 1) (fun h => hi (Nat.succ.inj h)))
      have hweight : (f (j + 1)).toNat * 256 ^ (j + 1) = 256 * ((f (j + 1)).toNat * 256 ^ j) := by
        rw [Nat.pow_succ, Nat.mul_comm 256, Nat.mul_assoc]
      rw [htail, hsame 0 (by omega), Nat.mul_add, hweight]
      exact Nat.add_left_comm _ _ _

/-- The weight of an entry in the number of `n` bytes from `a` on. -/
def cellWeight (a n : Nat) (e : Host.Cell) : Nat := if a ≤ e.1 ∧ e.1 < a + n then e.2.toNat * 2 ^ (8 * (e.1 - a)) else 0

theorem memNat_eq_sum (m : List Host.Cell) (a n : Nat) : memNat m a n = (m.map (cellWeight a n)).sum := by
  have hstep : (fun x (e : Host.Cell) => if a ≤ e.1 ∧ e.1 < a + n then x + e.2.toNat * 2 ^ (8 * (e.1 - a)) else x) =
      fun x e => x + cellWeight a n e := by
    funext x e
    unfold cellWeight
    split <;> rfl
  rw [memNat, hstep, List.sum_eq_foldl, List.foldl_map]

theorem memNat_cons (e : Host.Cell) (m : List Host.Cell) (a n : Nat) : memNat (e :: m) a n = cellWeight a n e + memNat m a n := by
  rw [memNat_eq_sum, memNat_eq_sum, List.map_cons, List.sum_cons]

/-- The bytes of memory as a number are the digits that the table holds. -/
theorem memNat_eq_leNat {m : Tbl Byte} (h : m.Canonical) (a n : Nat) : memNat m a n = leNat (m.getRun a n) := by
  induction m with
  | nil =>
    have hzeros : Tbl.getRun ([] : Tbl Byte) a n = List.replicate n 0 :=
      List.map_const'.trans (congrArg (List.replicate · (0 : Byte)) List.length_range)
    rw [hzeros, leNat_replicate_zero, memNat, List.foldl_nil]
  | cons e m ih =>
    rw [memNat_cons, ih h.tail]
    unfold cellWeight Tbl.getRun
    by_cases hin : a ≤ e.1 ∧ e.1 < a + n
    · have hkey : a + (e.1 - a) = e.1 := by omega
      rw [if_pos hin, Nat.pow_mul, leNat_map_range_add (f := fun j => Tbl.get (e :: m) (a + j)) (g := fun j => Tbl.get m (a + j)) (j := e.1 - a)
        (by omega) (by rw [hkey]; exact h.get_head_tail) (fun i hi => by rw [Tbl.get_cons, if_neg (by omega)])]
      simp only [hkey, Tbl.get_cons, if_true]
    · have hsame : (List.range n).map (fun j => Tbl.get (e :: m) (a + j)) = (List.range n).map (fun j => Tbl.get m (a + j)) :=
        List.map_congr_left (fun j hj => by
          have := List.mem_range.1 hj
          rw [Tbl.get_cons, if_neg (by omega)])
      rw [if_neg hin, hsame, Nat.zero_add]

/-- Reading bytes reads the table of memory. -/
theorem State.readBytes_eq_getRun {s : State} (h : Canon s) (a n : Nat) : s.readBytes a n = Tbl.getRun s.mem a n := by
  unfold State.readBytes State.readNat
  rw [memNat_eq_leNat h.mem']
  have hlen : (Tbl.getRun s.mem a n).length = n := by simp [Tbl.getRun]
  have := leBytes_leNat (Tbl.getRun s.mem a n)
  rwa [hlen] at this

/-! ### Errors of words and of stored checks -/

/-- The stored checks that a write leaves without a good basis: those of tiles of which it replaces an uncorrectable word, and the
uncorrectable checks of tiles that it reaches (R207). -/
def spoiltChecks (m : Tbl Nat) (a n : Nat) : List Nat :=
  (m.filter (fun e => decide (2 ≤ e.2) &&
    (decide ((wholeUnits 8 a n).1 ≤ e.1 ∧ e.1 < (wholeUnits 8 a n).2) ||
      (decide (checkKey 0 ≤ e.1) && (tilesOf a n).contains (errTile e.1))))).map (fun e => checkKey (errTile e.1))

theorem wordsWritten_eq (m : Tbl Nat) (a n : Nat) :
    wordsWritten m a n = ((m.clearRange (wholeUnits 8 a n)).addAll ((spoiltChecks m a n).map (fun k => (k, 4)))).clearRange
      (checkKey (wholeUnits 4096 a n).1, checkKey (wholeUnits 4096 a n).2) := by
  unfold spoiltChecks
  rw [List.map_map]
  rfl

/-- The error of a key after a write, by whether its check is written whole, is spoilt, or its word is written whole. -/
theorem wordsWritten_get (m : Tbl Nat) (a n k : Nat) :
    Tbl.get (wordsWritten m a n) k =
      if checkKey (wholeUnits 4096 a n).1 ≤ k ∧ k < checkKey (wholeUnits 4096 a n).2 then 0
      else if k ∈ spoiltChecks m a n then 4
      else if a ≤ 8 * k ∧ 8 * (k + 1) ≤ a + n then 0 else Tbl.get m k := by
  rw [wordsWritten_eq, Tbl.get_clearRange, Tbl.get_addAll_const, Tbl.get_clearRange_wholeUnits (by omega)]
  rfl

/-- A spoilt check is that of a tile that the write reaches. -/
theorem tile_of_mem_spoiltChecks {m : Tbl Nat} {a n k : Nat} (h : k ∈ spoiltChecks m a n) (hlow : a + n ≤ 2 ^ 51) :
    ∃ t, k = checkKey t ∧ a < 4096 * (t + 1) ∧ 4096 * t < a + n := by
  obtain ⟨e, he, rfl⟩ := List.mem_map.1 h
  refine ⟨errTile e.1, rfl, ?_⟩
  have he := (List.mem_filter.1 he).2
  simp only [Bool.and_eq_true, Bool.or_eq_true, decide_eq_true_eq, List.contains_iff_mem] at he
  obtain ⟨_, hword | ⟨_, htile⟩⟩ := he
  · rw [mem_wholeUnits (by omega)] at hword
    have hk : ¬ checkKey 0 ≤ e.1 := by unfold checkKey; omega
    rw [errTile, if_neg hk]
    omega
  · unfold tilesOf at htile
    split at htile
    · cases htile
    · obtain ⟨j, hj, ht⟩ := List.mem_map.1 htile
      have hj := List.mem_range.1 hj
      omega

/-- No word stands under the key of a check. -/
theorem not_mem_spoiltChecks_of_word {m : Tbl Nat} {a n w : Nat} (hw : w < checkKey 0) : w ∉ spoiltChecks m a n := by
  intro h
  obtain ⟨e, _, rfl⟩ := List.mem_map.1 h
  unfold checkKey at hw
  omega

/-- An uncorrectable word that is written whole spoils the check of its tile. -/
theorem mem_spoiltChecks_of_word {m : Tbl Nat} {a n w : Nat} (hw : w < checkKey 0) (hin : a ≤ 8 * w ∧ 8 * (w + 1) ≤ a + n)
    (hbad : 2 ≤ Tbl.get m w) : checkKey (w / 512) ∈ spoiltChecks m a n := by
  have hentry : (w, Tbl.get m w) ∈ m := Tbl.mem_of_get_ne_default (fun h0 => by rw [h0] at hbad; exact absurd hbad (by decide))
  have htile : errTile w = w / 512 := if_neg (by omega)
  refine List.mem_map.2 ⟨(w, Tbl.get m w), List.mem_filter.2 ⟨hentry, ?_⟩, by rw [htile]⟩
  rw [decide_eq_true hbad, decide_eq_true ((mem_wholeUnits (by omega) a n w).2 hin)]
  rfl

/-- The keys between those of two checks are the checks between. -/
theorem checkKey_between (t lo hi : Nat) : (checkKey lo ≤ checkKey t ∧ checkKey t < checkKey hi) ↔ lo ≤ t ∧ t < hi := by
  unfold checkKey
  omega

/-- A word written whole is no longer in error, and every other word keeps its error. -/
theorem wordsWritten_word (m : Tbl Nat) (a n : Nat) {w : Nat} (hw : w < checkKey 0) :
    Tbl.get (wordsWritten m a n) w = if a ≤ 8 * w ∧ 8 * (w + 1) ≤ a + n then 0 else Tbl.get m w := by
  rw [wordsWritten_get, if_neg, if_neg (not_mem_spoiltChecks_of_word hw)]
  unfold checkKey at *
  omega

/-- A tile written whole has a good stored check. -/
theorem wordsWritten_whole (m : Tbl Nat) {a n t : Nat} (h : a ≤ 4096 * t ∧ 4096 * (t + 1) ≤ a + n) :
    Tbl.get (wordsWritten m a n) (checkKey t) = 0 := by
  rw [wordsWritten_get, if_pos]
  rw [checkKey_between, mem_wholeUnits (by omega)]
  exact h

/-- A tile that loses an uncorrectable word to a write of part of it has no good stored check. -/
theorem wordsWritten_spoilt {m : Tbl Nat} {a n w : Nat} (hw : w < checkKey 0) (hin : a ≤ 8 * w ∧ 8 * (w + 1) ≤ a + n)
    (hbad : 2 ≤ Tbl.get m w) (hpart : ¬ (a ≤ 4096 * (w / 512) ∧ 4096 * (w / 512 + 1) ≤ a + n)) :
    Tbl.get (wordsWritten m a n) (checkKey (w / 512)) = 4 := by
  rw [wordsWritten_get, if_neg, if_pos (mem_spoiltChecks_of_word hw hin hbad)]
  rw [checkKey_between, mem_wholeUnits (by omega)]
  exact hpart

/-- A tile that the write does not reach keeps what its check was. -/
theorem wordsWritten_apart (m : Tbl Nat) {a n t : Nat} (hlow : a + n ≤ 2 ^ 51) (h : 4096 * (t + 1) ≤ a ∨ a + n ≤ 4096 * t) :
    Tbl.get (wordsWritten m a n) (checkKey t) = Tbl.get m (checkKey t) := by
  rw [wordsWritten_get, if_neg, if_neg, if_neg]
  · unfold checkKey
    omega
  · intro hs
    obtain ⟨t', hk, hreach⟩ := tile_of_mem_spoiltChecks hs hlow
    unfold checkKey at hk
    omega
  · rw [checkKey_between, mem_wholeUnits (by omega)]
    omega

/-! ### Writes of bytes -/

/-- Settles O7, table by table. -/
theorem memoryReadsWhatWasWritten : Obligations.MemoryReadsWhatWasWritten := by
  intro s a bs hwf
  have canon : Canon s := s.wf_iff_canon.1 hwf
  have canon' : Canon (s.writeBytes a bs) := (kept_writeBytes s a bs .rfl).canon canon
  refine ⟨?same, ?other, fun t => Tbl.get_clearRange_wholeUnits (by omega) _ _ _ _, fun w hw => wordsWritten_word _ _ _ hw,
    fun t hlo hhi => wordsWritten_whole _ ⟨hlo, hhi⟩, fun w hw hlo hhi hbad hpart => wordsWritten_spoilt hw ⟨hlo, hhi⟩ hbad hpart,
    fun t hlow h => wordsWritten_apart _ hlow h, fun l => Tbl.get_clearRange_wholeUnits (by omega) _ _ _ _,
    (State.wf_iff_canon _).2 canon', rfl⟩
  case same =>
    rw [State.readBytes_eq_getRun canon']
    exact Tbl.getRun_setRun_same s.mem a bs
  case other =>
    intro b n h
    rw [State.readBytes_eq_getRun canon', State.readBytes_eq_getRun canon]
    exact Tbl.getRun_setRun_disjoint s.mem a bs h

end Sys2Proof.Machine

/-!
What the fields of a register read as after another field, a bit or another register is written.
-/
namespace Sys2Proof.Machine

/-! ### Bits of registers -/

section Bits
variable (s : State)

/-- A bit reads as what was written into it. -/
theorem State.rdB_wrB_same (a i : Nat) (b : Bool) (h : i < 64) : (s.wrB a i b).rdB a i = b := by
  unfold State.rdB State.wrB
  rw [State.rd_wrF, if_pos rfl, bitOf_setFld_bit _ _ _ h]

/-- A bit outside the field written reads as before. -/
theorem State.rdB_wrF_field (a hi lo x i : Nat) (h : lo ≤ hi + 1) (hd : hi < i ∨ i < lo) : (s.wrF a hi lo x).rdB a i = s.rdB a i := by
  unfold State.rdB
  rw [State.rd_wrF, if_pos rfl, bitOf_setFld_ne _ _ _ _ _ h hd]

/-- Another bit of the register reads as before. -/
theorem State.rdB_wrB_bit (a i j : Nat) (b : Bool) (h : i ≠ j) : (s.wrB a i b).rdB a j = s.rdB a j :=
  s.rdB_wrF_field a i i _ j (by omega) (by omega)

/-- A field that does not hold the bit written reads as before. -/
theorem State.rdF_wrB_field (a i hi lo : Nat) (b : Bool) (h : i < lo ∨ hi < i) : (s.wrB a i b).rdF a hi lo = s.rdF a hi lo :=
  s.rdF_wrF_field a i i _ hi lo (by omega) h

theorem State.rd_wrB_ne {a b : Nat} (i : Nat) (x : Bool) (h : b ≠ a) : (s.wrB a i x).rd b = s.rd b := s.rd_wrF_ne i i _ h

end Bits

/-- A register that reads the same has the same fields, and the same bits. -/
theorem State.rdF_congr {s t : State} {a : Nat} (h : t.rd a = s.rd a) (hi lo : Nat) : t.rdF a hi lo = s.rdF a hi lo :=
  congrArg (fld · hi lo) h

@[inherit_doc State.rdF_congr]
theorem State.rdB_congr {s t : State} {a : Nat} (h : t.rd a = s.rd a) (i : Nat) : t.rdB a i = s.rdB a i :=
  congrArg (bitOf · i) h

/-- An event does not touch the count of power cycles. -/
@[simp] theorem State.event_cycles (s : State) (n : Nat) (u : EvUnit) (d : Nat) (p : Option Nat) (g : Nat) :
    (s.event n u d p g).rcd.cycles = s.rcd.cycles := by
  unfold State.event State.raise
  split <;> rfl

end Sys2Proof.Machine

/-!
The steps of a boot, from power-on to ready: what each command of R611 does when its step is due.
-/
namespace Sys2Proof.Machine

/-! ### Phase and alert -/

@[simp] theorem State.syncPhase_pwr (s : State) : s.syncPhase.pwr = s.pwr := by
  unfold State.syncPhase State.cond
  split <;> rfl

@[simp] theorem State.syncPhase_rcd (s : State) : s.syncPhase.rcd = s.rcd := by
  unfold State.syncPhase State.cond
  split <;> rfl

/-- The phase is the only register that follows the steps. -/
theorem State.rd_syncPhase_ne (s : State) {a : Nat} (h : a ≠ Reg.pmcBoot) : s.syncPhase.rd a = s.rd a := by
  unfold State.syncPhase State.cond
  split
  · exact State.rd_wrF_ne _ _ _ _ h
  · rfl

theorem State.rd_finishStep_ne (s : State) (k : Nat) {a : Nat} (h : a ≠ Reg.pmcBoot) : (s.finishStep k).rd a = s.rd a :=
  State.rd_syncPhase_ne _ h

@[simp] theorem State.alert_pwr (s : State) (b : Nat) : (s.alert b).pwr = s.pwr := rfl
@[simp] theorem State.alert_host (s : State) (b : Nat) : (s.alert b).host = s.host := rfl

theorem State.rd_alert_ne (s : State) (b : Nat) {a : Nat} (h : a ≠ Reg.pmcAlert) : (s.alert b).rd a = s.rd a := s.rd_wrB_ne b true h

/-! ### Power-on (R38, R610 to R612) -/

/-- What a bring-up that is due begins from: a power-on has counted its cycle and taken the boot mode anew, a cold boot nothing. -/
def State.cycleCounted (s : State) : State :=
  if s.pwr.again then
    let s : State := { s with rcd := { s.rcd with cycles := (s.rcd.cycles + 1) % 2 ^ 24 } }
    (s.wrF Reg.pmcBoot 5 4 s.bootMode).event 0xA01 .none s.bootMode
  else s

@[simp] theorem State.cycleCounted_pwr (s : State) : s.cycleCounted.pwr = s.pwr := by
  unfold State.cycleCounted
  split
  · exact State.event_pwr _ _ _ _ _ _
  · rfl

theorem State.cycleCounted_cycles (s : State) :
    s.cycleCounted.rcd.cycles = if s.pwr.again then (s.rcd.cycles + 1) % 2 ^ 24 else s.rcd.cycles := by
  unfold State.cycleCounted
  split
  · exact State.event_cycles _ _ _ _ _ _
  · rfl

/-- The conditions under which bring-up begins (R610). -/
structure State.PowerDue (s : State) : Prop where
  idle : s.pwr.booting = false
  good : s.pwr.pgood = true
  enabled : s.pwr.pwrEn = true
  started : s.stepDone 2 = true
  sound : s.bootPhase ≠ 12
  crust : s.rdF Reg.pmcState 1 0 = 2

/-- Bring-up that is due begins from step 3, in transition to Active. -/
theorem State.beginPower_due {s : State} (h : s.PowerDue) :
    s.beginPower = (((s.cycleCounted.updPwr
      (fun w => { w with booting := true, steps := 4, trained := 0, tested := 0, retried := 0, passed := [] })).wrB
        Reg.pmcState 2 true).wrF Reg.pmcState 4 3 0).syncPhase := by
  obtain ⟨idle, good, enabled, started, sound, crust⟩ := h
  exact if_neg (by simp [idle, good, enabled, started, sound, crust])

/-- The registers of a bring-up that begins, and the count of power cycles. -/
theorem State.PowerDue.begun {s : State} (h : s.PowerDue) :
    s.beginPower.pwr = { s.pwr with booting := true, steps := 4, trained := 0, tested := 0, retried := 0, passed := [] } ∧
    s.beginPower.rdB Reg.pmcState 2 = true ∧ s.beginPower.rdF Reg.pmcState 4 3 = 0 ∧
    s.beginPower.rcd.cycles = if s.pwr.again then (s.rcd.cycles + 1) % 2 ^ 24 else s.rcd.cycles := by
  rw [State.beginPower_due h]
  refine ⟨?pwr, ?transition, ?target, ?cycles⟩
  case pwr =>
    rw [State.syncPhase_pwr, State.wrF_pwr, State.wrB_pwr]
    unfold State.updPwr
    rw [State.cycleCounted_pwr]
  case transition =>
    rw [State.rdB_congr (State.rd_syncPhase_ne _ (by decide)), State.rdB_wrF_field _ _ _ _ _ _ (by decide) (by decide),
      State.rdB_wrB_same _ _ _ _ (by decide)]
  case target => rw [State.rdF_congr (State.rd_syncPhase_ne _ (by decide)), State.rdF_wrF_same _ _ _ _ _ (by decide) (by decide),
    Nat.zero_mod]
  case cycles => rw [State.syncPhase_rcd, State.wrF_rcd, State.wrB_rcd, State.updPwr_rcd, State.cycleCounted_cycles]

/-! ### The starter (R339, R533, R570) -/

@[simp] theorem State.loadPlan_pwr (s : State) : s.loadPlan.pwr = s.pwr := by
  unfold State.loadPlan
  dsimp only
  split
  · rfl
  · exact State.event_pwr _ _ _ _ _ _

@[simp] theorem State.loadPlan_fw (s : State) : s.loadPlan.fw = s.fw := by
  unfold State.loadPlan
  dsimp only
  split
  · rfl
  · exact State.event_fw _ _ _ _ _ _

/-- With the strap for it, the starter tries no slot and boots from the network. -/
theorem State.starter_network {s : State} (h : s.pwr.bootSel = 1) (first : Bool) :
    s.starter first = { s.loadPlan with fw := { s.fw with netBoot := true } } := by
  unfold State.starter
  rw [← State.loadPlan_fw s]
  exact if_pos (by rw [State.loadPlan_pwr, h])

/-- The rules of a trial leave alone a slot that is not in trial. -/
theorem State.trialRule_settled {s : State} (h : s.config.record.trial = false) : s.trialRule = s :=
  if_pos (by simp [h])

theorem State.cond_false (s : State) {c : Bool} (h : c = false) (f : State → State) : s.cond c f = s :=
  if_neg (by simp [h])

/-! ### Ready (R611 step 10, R638) -/

@[simp] theorem State.reportReady_booting (s : State) (elapsed : Nat) : (s.reportReady elapsed).pwr.booting = false := by
  unfold State.reportReady
  rw [State.alert_pwr, State.event_pwr]
  rfl

/-- The phase and the time that a device that is ready reports. -/
theorem State.reportReady_boot (s : State) (elapsed : Nat) :
    (s.reportReady elapsed).bootPhase = 11 ∧ (s.reportReady elapsed).rdF Reg.pmcBoot 63 32 = elapsed % 2 ^ 32 := by
  have kept : (s.reportReady elapsed).rd Reg.pmcBoot = (((s.updPwr (fun w => { w with booting := false, again := true })).wrF
      Reg.pmcBoot 3 0 11).wrF Reg.pmcBoot 63 32 elapsed).rd Reg.pmcBoot :=
    (State.rd_alert_ne _ _ (by decide)).trans (State.rd_event _ _ _ _ _ _ _)
  constructor
  · exact (State.rdF_congr kept _ _).trans ((State.rdF_wrF_field _ _ _ _ _ _ _ (by decide) (by decide)).trans
      (State.rdF_wrF_same _ _ _ _ _ (by decide) (by decide)))
  · exact (State.rdF_congr kept _ _).trans (State.rdF_wrF_same _ _ _ _ _ (by decide) (by decide))

theorem State.rd_reportReady_ne (s : State) (elapsed : Nat) {a : Nat} (hb : a ≠ Reg.pmcBoot) (ha : a ≠ Reg.pmcAlert) :
    (s.reportReady elapsed).rd a = s.rd a := by
  unfold State.reportReady
  rw [State.rd_alert_ne _ _ ha, State.rd_event, State.rd_wrF_ne _ _ _ _ hb, State.rd_wrF_ne _ _ _ _ hb]
  rfl

/-- The last step makes the device Active and reports it ready. -/
theorem State.bootReady_ends (s : State) (elapsed : Nat) : ∃ u : State,
    s.bootReady elapsed = ((((u.wrF Reg.pmcState 1 0 0).wrB Reg.pmcState 2 false).alert 1).finishStep 10).reportReady elapsed := ⟨_, rfl⟩

/-- A device that becomes ready has ended its boot, with the phase and the time that it reports. -/
theorem State.bootReady_reports (s : State) (elapsed : Nat) :
    (s.bootReady elapsed).pwr.booting = false ∧ (s.bootReady elapsed).bootPhase = 11 ∧
    (s.bootReady elapsed).rdF Reg.pmcBoot 63 32 = elapsed % 2 ^ 32 := by
  obtain ⟨u, hu⟩ := s.bootReady_ends elapsed
  rw [hu]
  exact ⟨State.reportReady_booting _ _, State.reportReady_boot _ _⟩

/-- A ready device is Active, in no transition. -/
theorem State.bootReady_active (s : State) (elapsed : Nat) :
    (s.bootReady elapsed).rdF Reg.pmcState 1 0 = 0 ∧ (s.bootReady elapsed).rdB Reg.pmcState 2 = false := by
  obtain ⟨u, hu⟩ := s.bootReady_ends elapsed
  have kept : (s.bootReady elapsed).rd Reg.pmcState = ((u.wrF Reg.pmcState 1 0 0).wrB Reg.pmcState 2 false).rd Reg.pmcState := by
    rw [hu, State.rd_reportReady_ne _ _ (by decide) (by decide), State.rd_finishStep_ne _ _ (by decide), State.rd_alert_ne _ _ (by decide)]
  constructor
  · rw [State.rdF_congr kept, State.rdF_wrB_field _ _ _ _ _ _ (by decide), State.rdF_wrF_same _ _ _ _ _ (by decide) (by decide), Nat.zero_mod]
  · rw [State.rdB_congr kept, State.rdB_wrB_same _ _ _ _ (by decide)]

/-! ### The commands, when their step is due -/

/-- CORE_START ends step 4 only with a slot that verifies. -/
theorem execCoreStart_due {s : State} (booting : s.pwr.booting = true) (due : s.stepDone 4 = false) (hub : s.domOn 24 = true) :
    execCoreStart s = .next (if s.silent.startCores.2 = true then
      ((((s.silent.startCores.1).startComponent 5 s.activeSlot).startComponent 6 s.activeSlot).fuseFacts).finishStep 4
      else s.silent.startCores.1) := by
  refine congrArg Host.Outcome.next ((if_neg (by simp [booting, due, hub])).trans ?_)
  cases verifies : s.silent.startCores.2 with
  | true => exact if_neg (Bool.eq_false_iff.1 (congrArg (!·) verifies))
  | false => exact if_pos (congrArg (!·) verifies)

/-- The guard of an overrun: the step belongs to the boot under way, and is not done. -/
theorem State.overrun_due {s : State} {k : Nat} (booting : s.pwr.booting = true) (due : s.stepDone k = false) :
    ¬ (!s.silent.pwr.booting || s.silent.stepDone k) = true :=
  Bool.eq_false_iff.1 (Bool.or_eq_false_iff.2 ⟨congrArg (!·) booting, due⟩)

/-- Step 8 ends when it overruns (R613). -/
theorem execBootStepOverrun_links {s : State} (booting : s.pwr.booting = true) (due : s.stepDone 8 = false) (n : Fin 12) (mute : W64) (ms : W32) :
    execBootStepOverrun 8 n mute ms s = .next ((s.silent.event 0xA06).finishStep 8) := by
  refine congrArg Host.Outcome.next ((if_neg (by decide)).trans ((if_neg (by decide)).trans ((if_neg (State.overrun_due booting due)).trans ?_)))
  exact (if_neg (by decide)).trans ((if_neg (by decide)).trans ((if_neg (by decide)).trans ((if_neg (by decide)).trans
    ((if_neg (by decide)).trans (if_pos rfl)))))

/-- The second overrun of a component in step 4 fails the boot (R613). -/
theorem execBootStepOverrun_again {s : State} {n : Fin 12} (booting : s.pwr.booting = true) (due : s.stepDone 4 = false)
    (retried : natBit s.pwr.retried n = true) (mute : W64) (ms : W32) :
    execBootStepOverrun 4 n mute ms s = .next (s.silent.event 0xA06 (.component n)).bootFails := by
  have again : natBit (s.silent.event 0xA06 (.component n)).pwr.retried n = true := by rw [State.event_pwr]; exact retried
  refine congrArg Host.Outcome.next ((if_neg (by decide)).trans ((if_neg (by decide)).trans ((if_neg (State.overrun_due booting due)).trans ?_)))
  exact (if_neg (by decide)).trans ((if_pos rfl).trans (if_pos again))

/-- Settles O12, command by command. -/
theorem bootCommandsRunTheSteps : Obligations.BootCommandsRunTheSteps := by
  refine ⟨?powerOn, ?starter, ?bringup, fun s => execCoreStart_due, ?train, ?selfTest, ?memoryTest, ?linkGate, ?reconcile, ?ready, ?overrun⟩
  case powerOn =>
    intro s aux idle started sound crust
    have due : (s.silent.updPwr (fun w => { w with pwrEn := true, pgood := true })).PowerDue := ⟨idle, rfl, rfl, started, sound, crust⟩
    obtain ⟨hpwr, transition, target, cycles⟩ := due.begun
    exact ⟨_, congrArg Host.Outcome.next (if_pos aux), congrArg Power.pwrEn hpwr, congrArg Power.pgood hpwr, congrArg Power.booting hpwr,
      congrArg Power.steps hpwr, transition, target, cycles⟩
  case starter =>
    intro s aux phase still strap stored settled
    have begun : (s.silent.cond s.silent.config.inUse.isNone (fun t => t.event 0x80B)).trialRule = s.silent := by
      have copy : s.silent.config.inUse.isNone = false := Option.isNone_eq_false_iff.2 (Option.isSome_iff_ne_none.2 stored)
      rw [State.cond_false _ copy, State.trialRule_settled (s := s.silent) settled]
    constructor
    · refine congrArg Host.Outcome.next ((if_neg (by simp [aux, phase, still])).trans ?_)
      exact (congrArg (State.starter · true) begun).trans (State.starter_network (s := s.silent) strap true)
    · exact congrArg Host.Outcome.next (if_pos (Bool.true_or _))
  case bringup =>
    intro s dead booting here due running
    refine congrArg Host.Outcome.next ((if_neg (by simp [here])).trans ((if_neg (by simp [booting, due])).trans ?_))
    exact congrArg (fun t : State => (t.bringOn dead.toNat bringupOrder).cond (dead == 0) (·.finishStep 3)) (if_pos running)
  case train =>
    intro s n booting on training
    exact congrArg Host.Outcome.next ((if_neg (by simp [on, training])).trans (if_pos booting))
  case selfTest =>
    intro s tests booting cores due
    refine congrArg Host.Outcome.next ((if_neg (by simp [booting, cores, due])).trans ?_)
    refine congrArg (fun f : State → Nat → State => (s.silent.each _ f).finishStep 6) (funext fun t => funext fun c => ?_)
    cases tests.find? (fun r => r.1 = c) <;> rfl
  case memoryTest =>
    intro s n fails booting tested trained due
    exact congrArg Host.Outcome.next (if_neg (by simp [booting, tested, trained, due]))
  case linkGate =>
    intro s booting powered due settled
    exact congrArg Host.Outcome.next (if_pos (by simp [booting, powered, due, settled]))
  case reconcile =>
    intro s booting tested links due
    exact congrArg Host.Outcome.next (if_pos (by simp [booting, tested, links, due]))
  case ready =>
    intro s ms booting planned
    obtain ⟨ended, phase, elapsed⟩ := s.silent.bootReady_reports ms.toNat
    obtain ⟨active, still⟩ := s.silent.bootReady_active ms.toNat
    exact ⟨_, congrArg Host.Outcome.next (if_pos (by simp [booting, planned])), ended, phase, elapsed.trans (Nat.mod_eq_of_lt ms.isLt),
      active, still⟩
  case overrun =>
    intro s n mute ms booting
    exact ⟨fun due => execBootStepOverrun_links booting due n mute ms, fun due retried => execBootStepOverrun_again booting due retried mute ms⟩

end Sys2Proof.Machine

/-!
Power domains, the floor-plan update and the power states: what a transition leaves in PMC_STATE and PMC_STATE_REQ, and the commands.
-/
namespace Sys2Proof.Machine

/-! ### Requests and transitions (R622 to R627) -/

/-- The end of a transition: the state entered, no transition, no request. -/
theorem State.endTransition_regs (s : State) (st : Nat) :
    (s.endTransition st).rdF Reg.pmcState 1 0 = st % 4 ∧ (s.endTransition st).rdB Reg.pmcState 2 = false ∧
    (s.endTransition st).rdB Reg.pmcStateReq 2 = false := by
  have state : (s.endTransition st).rd Reg.pmcState = ((s.wrF Reg.pmcState 1 0 st).wrB Reg.pmcState 2 false).rd Reg.pmcState :=
    (State.rd_alert_ne _ _ (by decide)).trans (State.rd_wrB_ne _ _ _ (by decide))
  have request : (s.endTransition st).rd Reg.pmcStateReq =
      (((s.wrF Reg.pmcState 1 0 st).wrB Reg.pmcState 2 false).wrB Reg.pmcStateReq 2 false).rd Reg.pmcStateReq :=
    State.rd_alert_ne _ _ (by decide)
  refine ⟨?_, ?_, ?_⟩
  · rw [State.rdF_congr state, State.rdF_wrB_field _ _ _ _ _ _ (by decide)]
    exact State.rdF_wrF_same _ _ _ _ _ (by decide) (by decide)
  · rw [State.rdB_congr state, State.rdB_wrB_same _ _ _ _ (by decide)]
  · rw [State.rdB_congr request, State.rdB_wrB_same _ _ _ _ (by decide)]

/-- A refusal: PMC_STATE.refused, no request, and whether a transition is under way as it was. -/
theorem State.stateRefused_regs (s : State) :
    s.stateRefused.rdB Reg.pmcState 5 = true ∧ s.stateRefused.rdB Reg.pmcState 2 = s.rdB Reg.pmcState 2 ∧
    s.stateRefused.rdB Reg.pmcStateReq 2 = false := by
  have state : s.stateRefused.rd Reg.pmcState = (s.stateReqDone.wrB Reg.pmcState 5 true).rd Reg.pmcState := State.rd_alert_ne _ _ (by decide)
  have request : s.stateRefused.rd Reg.pmcStateReq = s.stateReqDone.rd Reg.pmcStateReq :=
    (State.rd_alert_ne _ _ (by decide)).trans (State.rd_wrB_ne _ _ _ (by decide))
  refine ⟨?_, ?_, ?_⟩
  · rw [State.rdB_congr state, State.rdB_wrB_same _ _ _ _ (by decide)]
  · rw [State.rdB_congr state, State.rdB_wrB_bit _ _ _ _ _ (by decide)]
    exact State.rdB_congr (State.rd_wrB_ne _ _ _ (by decide)) _
  · rw [State.rdB_congr request]
    exact State.rdB_wrB_same _ _ _ _ (by decide)

/-- A request that is not refused finds the device in the state that it needs, in no transition. -/
theorem State.rests_of_unblocked {s : State} {needs : Nat} (h : s.stateBlocked needs = false) :
    s.rdF Reg.pmcState 1 0 = needs ∧ s.rdB Reg.pmcState 2 = false := by
  unfold State.stateBlocked at h
  simp only [Bool.or_eq_false_iff, bne_eq_false_iff_eq] at h
  obtain ⟨⟨⟨state, still⟩, -⟩, -⟩ := h
  exact ⟨state, still⟩

/-! ### The commands -/

/-- DOMAIN_SWITCH_OFF is refused for H.A, and while a domain that is on requires the one named. -/
theorem execDomainSwitchOff_refused {s : State} {i : Fin 38} (aux : s.pwr.vaux = true) (h : i.val = 16 ∨ (domainUsers i).any s.domOn = true)
    (empty : Bool) : execDomainSwitchOff i empty s = .next (s.silent.event 0x101 (.domain i)) :=
  congrArg Host.Outcome.next ((if_neg (by simp [aux])).trans (if_pos h))

/-- ACTIVE_REQUEST of a device in Doze begins the return to Active. -/
theorem execActiveRequest_doze {s : State} (asked : s.stateAsked 0 = true) (free : s.stateBlocked 1 = false) (cycles : Nat)
    (binds : List (Nat × List (List Nat))) : execActiveRequest cycles binds s = .next ((s.silent.beginTransition 0).leaveDoze cycles binds) := by
  obtain ⟨doze, -⟩ := State.rests_of_unblocked free
  exact congrArg Host.Outcome.next ((if_neg (by simp [asked])).trans ((if_neg (by simp [doze])).trans (if_neg (by simp [free]))))

/-- Settles O14, command by command. -/
theorem domainsAndPowerStatesSwitch : Obligations.DomainsAndPowerStatesSwitch := by
  refine ⟨?switchOn, ?switchOff, ?floorPlan, ?active, ?doze, ?enter, ?bound, ?wake⟩
  case switchOn =>
    intro s i aux
    constructor
    · intro needs usable
      have mapped : ¬ (i.val < 16 ∧ (!s.mapOk) = true) := by simpa using usable
      exact congrArg Host.Outcome.next ((if_neg (by simp [aux])).trans ((if_neg (by rw [Bool.not_eq_true', Bool.not_eq_false]; exact needs)).trans
        (if_neg mapped)))
    · intro needs
      exact congrArg Host.Outcome.next ((if_neg (by simp [aux])).trans (if_pos (congrArg (!·) needs)))
  case switchOff =>
    intro s i aux
    constructor
    · intro other unused on usable
      have kept : ¬ (i.val = 16 ∨ (domainUsers i).any s.domOn = true) := by simp [other, unused]
      exact congrArg Host.Outcome.next ((if_neg (by simp [aux])).trans ((if_neg kept).trans (if_neg (by simpa [on] using usable))))
    · exact execDomainSwitchOff_refused aux
  case floorPlan =>
    intro s hub fabric
    exact congrArg Host.Outcome.next (if_pos (by simp [hub, fabric]))
  case active =>
    intro s cycles binds asked
    refine ⟨fun here still => ?_, fun free => execActiveRequest_doze asked free cycles binds, fun blocked away => ?_⟩
    · exact congrArg Host.Outcome.next ((if_neg (by simp [asked])).trans (if_pos (by simp [here, still])))
    · exact congrArg Host.Outcome.next ((if_neg (by simp [asked])).trans ((if_neg (by simpa using away)).trans (if_pos blocked)))
  case doze =>
    intro s asked free
    obtain ⟨here, still⟩ := State.rests_of_unblocked free
    refine ⟨_, _, ?_, rfl, rfl⟩
    exact congrArg Host.Outcome.next ((if_neg (by simp [asked])).trans ((if_neg (by simp [here])).trans ((if_neg (by simp [still])).trans
      (if_neg (by simp [free])))))
  case enter =>
    intro s moving toDoze here saved quiet usable
    obtain ⟨state, still, done⟩ := State.endTransition_regs _ 1
    exact ⟨_, _, congrArg Host.Outcome.next (if_neg (by simp [moving, toDoze, here, saved, quiet, usable])), rfl, state, still, done⟩
  case bound =>
    intro s moving toDoze late
    have waits : (s.unsaved ++ bitsSet s.pwr.notQuiet 4).isEmpty = false := by simpa using late
    obtain ⟨refused, transition, done⟩ := State.stateRefused_regs _
    refine ⟨_, congrArg Host.Outcome.next (if_neg (by simp [moving, toDoze, waits])), ?_, refused, done, rfl, rfl, rfl⟩
    exact transition.trans (State.rdB_wrB_same _ _ _ _ (by decide))
  case wake =>
    intro s w cycles binds doze still
    exact ⟨fun enabled => congrArg Host.Outcome.next (if_pos (by simp [doze, still, enabled])),
      fun disabled => congrArg Host.Outcome.next (if_neg (by simp [disabled]))⟩

end Sys2Proof.Machine

/-!
Rounding of magnitudes (R79, R80), and elements that are the rounding of their own value (R68 to R71, R83, R84).
-/
namespace Sys2Proof.Machine

/-! ### Magnitudes in units of the target's spacing (R79, R80) -/

section Magnitude
variable {m : RMode} {neg : Bool} {u N D : Nat}

/-- The 16 bits below the last retained bit are those of the remainder. -/
theorem sixteenBits_eq_remainder (hD : 0 < D) : N * 2 ^ 16 / D % 2 ^ 16 = N % D * 2 ^ 16 / D := by
  have below : N % D * 2 ^ 16 / D < 2 ^ 16 :=
    Nat.div_lt_of_lt_mul (Nat.mul_lt_mul_of_pos_right (Nat.mod_lt N hD) (by decide))
  have split : N * 2 ^ 16 = N % D * 2 ^ 16 + D * (N / D * 2 ^ 16) := by
    rw [← Nat.mul_assoc, ← Nat.add_mul, Nat.mod_add_div]
  rw [split, Nat.add_mul_div_left _ _ hD, Nat.add_mul_mod_self_right, Nat.mod_eq_of_lt below]

/-- A whole number of units has a remainder of 0, which no mode and no draw rounds up. -/
theorem roundMag_whole (m : RMode) (neg : Bool) (hu : u < 2 ^ 16) (hD : 0 < D) (whole : N % D = 0) :
    roundMag m neg u N D = N / D := by
  cases m with
  | rtz => rfl
  | rdn | rup => exact if_neg (by simp [whole])
  | rne => exact if_neg (by omega)
  | sr => exact if_neg (by simpa [whole] using hu)

theorem roundMag_eq_or_succ (m : RMode) (neg : Bool) (u N D : Nat) :
    roundMag m neg u N D = N / D ∨ roundMag m neg u N D = N / D + 1 := by
  cases m with
  | rtz => exact .inl rfl
  | rdn | rup | rne | sr =>
    simp only [roundMag]
    split
    · exact .inr rfl
    · exact .inl rfl

/-- To nearest: up exactly past the half, or at the half of an odd whole part. -/
theorem roundMag_rne_cases (neg : Bool) (u N D : Nat) :
    (roundMag .rne neg u N D = N / D + 1 ∧ D ≤ 2 * (N % D) ∧ (2 * (N % D) = D → N / D % 2 = 1)) ∨
    (roundMag .rne neg u N D = N / D ∧ 2 * (N % D) ≤ D ∧ (2 * (N % D) = D → N / D % 2 = 0)) := by
  by_cases up : D < 2 * (N % D) ∨ (2 * (N % D) = D ∧ N / D % 2 = 1)
  · exact .inl ⟨if_pos up, by omega, by omega⟩
  · exact .inr ⟨if_neg up, by omega, by omega⟩

/-- To nearest is within half a unit, a tie going to the even number of units. -/
theorem roundMag_rne_nearest (neg : Bool) (u : Nat) (hD : 0 < D) :
    2 * (roundMag .rne neg u N D * D - N) ≤ D ∧ 2 * (N - roundMag .rne neg u N D * D) ≤ D ∧
    (2 * (N % D) = D → roundMag .rne neg u N D % 2 = 0) := by
  have whole := Nat.div_add_mod' N D
  have rest := Nat.mod_lt N hD
  rcases roundMag_rne_cases neg u N D with ⟨eq, far, tie⟩ | ⟨eq, near, tie⟩
  · rw [eq, Nat.add_one_mul (N / D)]
    omega
  · rw [eq]
    omega

/-- Away from zero unless whole: the rule of a directed mode on the side it points to. -/
theorem le_roundedAway_mul (hD : 0 < D) : N ≤ (if N % D ≠ 0 then N / D + 1 else N / D) * D := by
  have whole := Nat.div_add_mod' N D
  have rest := Nat.mod_lt N hD
  split
  · rw [Nat.add_one_mul]
    omega
  · omega

theorem roundMag_rdn_bound (neg : Bool) (u : Nat) (hD : 0 < D) :
    if neg then N ≤ roundMag .rdn neg u N D * D else roundMag .rdn neg u N D * D ≤ N := by
  cases neg with
  | false => simpa [roundMag] using Nat.div_mul_le_self N D
  | true => simpa [roundMag] using le_roundedAway_mul hD

theorem roundMag_rup_bound (neg : Bool) (u : Nat) (hD : 0 < D) :
    if neg then roundMag .rup neg u N D * D ≤ N else N ≤ roundMag .rup neg u N D * D := by
  cases neg with
  | false => simpa [roundMag] using le_roundedAway_mul hD
  | true => simpa [roundMag] using Nat.div_mul_le_self N D

end Magnitude

/-- Settles O23, mode by mode. -/
theorem roundingFollowsItsMode : Obligations.RoundingFollowsItsMode := by
  intro neg u N D hu hD
  refine ⟨?_, fun m => roundMag_whole m neg hu hD, fun m => roundMag_eq_or_succ m neg u N D, roundMag_rne_nearest neg u hD, rfl,
    roundMag_rdn_bound neg u hD, roundMag_rup_bound neg u hD⟩
  rw [sixteenBits_eq_remainder hD]
  rfl

/-! ### Whole units of a power of two -/

@[simp] theorem inUnits_same (n d : Nat) (q : Int) : inUnits n d q q = (n, d) := by
  simp [inUnits]

/-- A whole number of units rounds to itself. -/
theorem roundMag_units (m : RMode) (neg : Bool) {u : Nat} (hu : u < 2 ^ 16) (k : Nat) : roundMag m neg u k 1 = k := by
  rw [roundMag_whole m neg hu Nat.one_pos (Nat.mod_one k), Nat.div_one]

theorem floorLog2_units {k : Nat} (hk : k ≠ 0) (q : Int) : floorLog2 k 1 q = Nat.log2 k + q := by
  have le : 2 ^ k.log2 ≤ k := Nat.log2_self_le hk
  have one : Nat.log2 1 = 0 := by decide
  unfold floorLog2 inUnits
  by_cases zero : k.log2 = 0
  · simp [one, zero, Nat.one_le_iff_ne_zero, hk]
  · simp [one, zero, le]

/-! ### Floating-point elements (R68, R69) -/

/-- `k` units of 2^q are a finite magnitude of the format at its own spacing: below the normal numbers only at the smallest
subnormal's, and in the top binade at most the largest finite value (R68). -/
structure FltFmt.Finite (f : FltFmt) (k : Nat) (q : Int) : Prop where
  lt : k < 2 ^ (f.mbits + 1)
  subnormal : k < 2 ^ f.mbits → q = f.qmin
  normal : 2 ^ f.mbits ≤ k → f.qmin ≤ q ∧ q ≤ f.top.2
  top : q = f.top.2 → k ≤ f.top.1

section Float
variable {f : FltFmt} {k : Nat} {q : Int}

/-- No subnormal magnitude is past the largest finite value. -/
theorem FltFmt.subnormal_le_top (h : k < 2 ^ f.mbits) : k ≤ f.top.1 := by
  have two : 2 ^ (f.mbits + 1) = 2 * 2 ^ f.mbits := Nat.pow_succ'
  unfold FltFmt.top
  split
  · show k ≤ 2 ^ (f.mbits + 1) - 1
    omega
  · split
    · show k ≤ 2 ^ (f.mbits + 1) - 2
      omega
    · show k ≤ 2 ^ (f.mbits + 1) - 1
      omega

/-- The spacing that a conversion picks at such a magnitude is its own. -/
theorem FltFmt.Finite.spacing (h : f.Finite k q) (hk : k ≠ 0) : max f.qmin (min f.top.2 (floorLog2 k 1 q - f.mbits)) = q := by
  rw [floorLog2_units hk]
  by_cases low : k < 2 ^ f.mbits
  · have log : k.log2 < f.mbits := (Nat.log2_lt hk).2 low
    have eq := h.subnormal low
    omega
  · have log : k.log2 = f.mbits := (Nat.log2_eq_iff hk).2 ⟨Nat.le_of_not_lt low, h.lt⟩
    have range := h.normal (Nat.le_of_not_lt low)
    omega

/-- Such a magnitude converts to its own bits in every mode, with no exception (R83, R84). -/
theorem FltFmt.Finite.roundFlt_eq (h : f.Finite k q) (fmt : Nat) (m : RMode) (sat : Bool) {u : Nat} (hu : u < 2 ^ 16) (neg : Bool) :
    roundFlt fmt f m sat u (.fin neg k 1 q) = (f.encode neg k q, {}) := by
  by_cases zero : k = 0
  · subst zero
    rw [h.subnormal (Nat.two_pow_pos _)]
    rfl
  · have inRange : ¬ (q = f.top.2 ∧ f.top.1 < k) := fun ⟨top, past⟩ => absurd (h.top top) (Nat.not_le_of_lt past)
    simp only [roundFlt, if_neg zero, h.spacing zero, inUnits_same, roundMag_units m neg hu, if_neg inRange, decide_eq_false zero]

/-- The fields of a floating-point element's bits, put together again. -/
theorem FltFmt.fields_eq (f : FltFmt) {x : Nat} (hx : x < 2 ^ (f.ebits + f.mbits + 1)) :
    b2n (natBit x (f.ebits + f.mbits)) * 2 ^ (f.ebits + f.mbits) + x / 2 ^ f.mbits % 2 ^ f.ebits * 2 ^ f.mbits + x % 2 ^ f.mbits = x := by
  have sign : b2n (natBit x (f.ebits + f.mbits)) = x / 2 ^ (f.ebits + f.mbits) := by
    have lt : x / 2 ^ (f.ebits + f.mbits) < 2 := Nat.div_lt_of_lt_mul (by rwa [← Nat.pow_succ])
    rw [b2n, natBit, Nat.testBit_eq_decide_div_mod_eq]
    generalize x / 2 ^ (f.ebits + f.mbits) = s at lt
    match s, lt with
    | 0, _ => rfl
    | 1, _ => rfl
  have upper : x / 2 ^ f.mbits / 2 ^ f.ebits = x / 2 ^ (f.ebits + f.mbits) := by
    rw [Nat.div_div_eq_div_mul, ← Nat.pow_add, Nat.add_comm]
  calc _ = (x / 2 ^ f.mbits / 2 ^ f.ebits * 2 ^ f.ebits + x / 2 ^ f.mbits % 2 ^ f.ebits) * 2 ^ f.mbits + x % 2 ^ f.mbits := by
        rw [sign, upper, Nat.add_mul, Nat.mul_assoc, ← Nat.pow_add]
    _ = x := by rw [Nat.div_add_mod', Nat.div_add_mod']

/-- An element that is no NaN and no infinity: its fields are not theirs (R68), and its value is that of R69. -/
theorem FltFmt.decode_plain (f : FltFmt) {x m e : Nat} (hm : m = x % 2 ^ f.mbits) (he : e = x / 2 ^ f.mbits % 2 ^ f.ebits)
    (plain : (f.decode x).special = false) :
    ¬ (f.hasInf ∧ e = 2 ^ f.ebits - 1) ∧ ¬ (f.hasNan ∧ f.hasInf = false ∧ e = 2 ^ f.ebits - 1 ∧ m = 2 ^ f.mbits - 1) ∧
    f.decode x = if e = 0 then .fin (natBit x (f.ebits + f.mbits)) m 1 f.qmin
      else .fin (natBit x (f.ebits + f.mbits)) (2 ^ f.mbits + m) 1 (f.qmin + (e - 1 : Nat)) := by
  subst hm he
  unfold FltFmt.decode at plain ⊢
  simp only at plain ⊢
  split at plain
  · split at plain <;> cases plain
  · next notInf =>
    split at plain
    · cases plain
    · next notNan => exact ⟨notInf, notNan, (if_neg notInf).trans (if_neg notNan)⟩

theorem FltFmt.finite_subnormal (h : k < 2 ^ f.mbits) : f.Finite k f.qmin where
  lt := Nat.lt_trans h (Nat.pow_lt_pow_right Nat.one_lt_two (Nat.lt_succ_self _))
  subnormal _ := rfl
  normal ge := absurd ge (Nat.not_le_of_lt h)
  top _ := FltFmt.subnormal_le_top h

/-- A nonzero exponent field that is not that of infinities is at most the top spacing's. -/
theorem FltFmt.normal_le_top {e : Nat} (pos : e ≠ 0) (lt : e < 2 ^ f.ebits) (notInf : ¬ (f.hasInf ∧ e = 2 ^ f.ebits - 1)) :
    f.qmin + (e - 1 : Nat) ≤ f.top.2 := by
  unfold FltFmt.qmin FltFmt.top
  split
  · next inf =>
    have below : e ≠ 2 ^ f.ebits - 1 := fun eq => notInf ⟨inf, eq⟩
    simp only
    omega
  · split <;> simp only <;> omega

theorem FltFmt.finite_normal {m e : Nat} (hm : m < 2 ^ f.mbits) (pos : e ≠ 0) (lt : e < 2 ^ f.ebits)
    (notInf : ¬ (f.hasInf ∧ e = 2 ^ f.ebits - 1))
    (notNan : ¬ (f.hasNan ∧ f.hasInf = false ∧ e = 2 ^ f.ebits - 1 ∧ m = 2 ^ f.mbits - 1)) :
    f.Finite (2 ^ f.mbits + m) (f.qmin + (e - 1 : Nat)) where
  lt := by
    rw [Nat.pow_succ]
    omega
  subnormal low := absurd low (by omega)
  normal _ := ⟨by omega, FltFmt.normal_le_top pos lt notInf⟩
  top eq := by
    have two : 2 ^ (f.mbits + 1) = 2 * 2 ^ f.mbits := Nat.pow_succ'
    unfold FltFmt.qmin FltFmt.top at eq
    unfold FltFmt.top
    split
    · simp only
      omega
    · next noInf =>
      rw [if_neg noInf] at eq
      split
      · next nan =>
        rw [if_pos nan] at eq
        have last : m ≠ 2 ^ f.mbits - 1 := fun full => notNan ⟨nan, by simpa using noInf, by simp only at eq; omega, full⟩
        simp only
        omega
      · simp only
        omega

theorem FltFmt.encode_subnormal (neg : Bool) (q : Int) (h : k < 2 ^ f.mbits) :
    f.encode neg k q = b2n neg * 2 ^ (f.ebits + f.mbits) + k :=
  if_pos h

theorem FltFmt.encode_normal (neg : Bool) {m e : Nat} (hm : m < 2 ^ f.mbits) (pos : e ≠ 0) :
    f.encode neg (2 ^ f.mbits + m) (f.qmin + (e - 1 : Nat)) = b2n neg * 2 ^ (f.ebits + f.mbits) + e * 2 ^ f.mbits + m := by
  have two : 2 ^ (f.mbits + 1) = 2 * 2 ^ f.mbits := Nat.pow_succ'
  have field : (f.qmin + (e - 1 : Nat) - f.qmin).toNat + 1 = e := by omega
  unfold FltFmt.encode
  rw [if_neg (by omega), if_neg (by omega), field, Nat.add_sub_cancel_left]

/-- An element that is no NaN and no infinity reads as whole units at its own spacing, and its bits are those of that magnitude. -/
theorem FltFmt.decode_finite (f : FltFmt) {x : Nat} (hx : x < 2 ^ (f.ebits + f.mbits + 1)) (plain : (f.decode x).special = false) :
    ∃ neg k q, f.decode x = .fin neg k 1 q ∧ f.Finite k q ∧ f.encode neg k q = x := by
  have bits := f.fields_eq hx
  have man : x % 2 ^ f.mbits < 2 ^ f.mbits := Nat.mod_lt _ (Nat.two_pow_pos _)
  have exp : x / 2 ^ f.mbits % 2 ^ f.ebits < 2 ^ f.ebits := Nat.mod_lt _ (Nat.two_pow_pos _)
  obtain ⟨notInf, notNan, value⟩ := f.decode_plain rfl rfl plain
  by_cases zero : x / 2 ^ f.mbits % 2 ^ f.ebits = 0
  · refine ⟨_, _, _, value.trans (if_pos zero), FltFmt.finite_subnormal man, ?_⟩
    rw [FltFmt.encode_subnormal _ _ man]
    simpa [zero] using bits
  · refine ⟨_, _, _, value.trans (if_neg zero), FltFmt.finite_normal man zero exp notInf notNan, ?_⟩
    rw [FltFmt.encode_normal _ man zero, bits]

/-- A floating-point element rounds to itself. -/
theorem FltFmt.roundFlt_decode (f : FltFmt) (fmt : Nat) (m : RMode) (sat : Bool) {x u : Nat} (hx : x < 2 ^ (f.ebits + f.mbits + 1))
    (hu : u < 2 ^ 16) (plain : (f.decode x).special = false) : roundFlt fmt f m sat u (f.decode x) = (x, {}) := by
  obtain ⟨neg, k, q, value, finite, bits⟩ := f.decode_finite hx plain
  rw [value, finite.roundFlt_eq fmt m sat hu, bits]

end Float

/-! ### Integer elements (R71) -/

/-- The range of two's complement in w + 1 bits. -/
theorem toSigned_range (w x : Nat) : -(2 ^ w : Nat) ≤ toSigned (w + 1) x ∧ toSigned (w + 1) x < (2 ^ w : Nat) := by
  have digits : x % 2 ^ (w + 1) = x % 2 ^ w + 2 ^ w * (x / 2 ^ w % 2) := Nat.mod_pow_succ
  have low : x % 2 ^ w < 2 ^ w := Nat.mod_lt _ (Nat.two_pow_pos _)
  have two : 2 ^ (w + 1) = 2 * 2 ^ w := Nat.pow_succ'
  simp only [toSigned, natBit, Nat.add_sub_cancel, Nat.testBit_eq_decide_div_mod_eq, decide_eq_true_eq]
  rcases Nat.mod_two_eq_zero_or_one (x / 2 ^ w) with bit | bit
  · rw [bit] at digits ⊢
    simp only [Nat.zero_ne_one, if_false]
    omega
  · rw [bit] at digits ⊢
    simp only [if_true]
    omega

/-- A number of `w` bits is the two's complement of its value. -/
theorem ofSigned_toSigned {w x : Nat} (hx : x < 2 ^ w) : ofSigned w (toSigned w x) = x := by
  unfold ofSigned toSigned
  have small : (x % 2 ^ w : Nat) % (2 ^ w : Nat) = (x : Int) := by
    exact_mod_cast (Nat.mod_mod x _).trans (Nat.mod_eq_of_lt hx)
  split
  · rw [Int.sub_emod_right, small, Int.toNat_natCast]
  · rw [small, Int.toNat_natCast]

/-- An integer in range, in units of 2^q, converts to its own bits in every mode, with no exception (R83, R84). -/
theorem roundInt_intVal (w : Nat) (q : Int) {lo hi z : Int} (range : lo ≤ z ∧ z ≤ hi) (m : RMode) {u : Nat} (hu : u < 2 ^ 16) :
    roundInt w q lo hi m u (intVal z q) = (ofSigned w z, {}) := by
  have value : (if decide (z < 0) then -(z.natAbs : Int) else z.natAbs) = z := by
    simp only [decide_eq_true_eq]
    split <;> omega
  simp only [roundInt, intVal, inUnits_same, roundMag_units m _ hu, value, if_neg (Int.not_lt.2 range.1), if_neg (Int.not_lt.2 range.2),
    Int.natCast_eq_zero, ne_eq, and_not_self_iff, decide_false]

/-- An integer element rounds to itself. -/
theorem roundInt_toSigned (w : Nat) (q : Int) {lo hi : Int} {x u : Nat} (hx : x < 2 ^ w) (range : lo ≤ toSigned w x ∧ toSigned w x ≤ hi)
    (m : RMode) (hu : u < 2 ^ 16) : roundInt w q lo hi m u (intVal (toSigned w x) q) = (x, {}) := by
  rw [roundInt_intVal w q range m hu, ofSigned_toSigned hx]

/-! ### Elements of a format code (R66) -/

theorem elemBits_flt {fmt : Nat} {f : FltFmt} (h : fltOf fmt = some f) : elemBits fmt = f.ebits + f.mbits + 1 := by
  unfold fltOf at h
  split at h <;> cases h <;> rfl

/-- The codes of no floating-point format are those of INT8, INT32 and MXINT8, and the reserved ones. -/
theorem integer_of_not_flt : ∀ fmt < 16, fltOf fmt = none → fmtReserved fmt = false → fmt = 0x5 ∨ fmt = 0x6 ∨ fmt = 0xD := by
  decide

/-- Every code but 0x80 lies in the range of MXINT8 conversions. -/
theorem toSigned_mxint8 {x : Nat} (hx : x < 2 ^ 8) (lowest : x ≠ 0x80) : -127 ≤ toSigned 8 x ∧ toSigned 8 x ≤ 127 := by
  have range : -128 ≤ toSigned 8 x ∧ toSigned 8 x < 128 := toSigned_range 7 x
  have other : toSigned 8 x ≠ -128 := fun eq => lowest <| (ofSigned_toSigned hx).symm.trans (congrArg (ofSigned 8) eq)
  omega

/-- Settles O24: a floating-point element by its fields, an integer element by its two's complement. -/
theorem elementsRoundToThemselves : Obligations.ElementsRoundToThemselves := by
  intro fmt x u m sat code used hx hu plain lowest
  cases flt : fltOf fmt with
  | some f =>
    rw [elemBits_flt flt] at hx
    simp only [decodeElem, roundElem, flt] at plain ⊢
    exact f.roundFlt_decode fmt m _ hx hu plain
  | none =>
    rcases integer_of_not_flt fmt code flt used with rfl | rfl | rfl
    · have range : -128 ≤ toSigned 8 x ∧ toSigned 8 x < 128 := toSigned_range 7 x
      exact roundInt_toSigned 8 0 hx ⟨range.1, Int.le_of_lt_add_one range.2⟩ m hu
    · have range : -2147483648 ≤ toSigned 32 x ∧ toSigned 32 x < 2147483648 := toSigned_range 31 x
      exact roundInt_toSigned 32 0 hx ⟨range.1, Int.le_of_lt_add_one range.2⟩ m hu
    · show roundInt 8 (-6) (-127) 127 m u (intVal (toSigned 8 x) (-6)) = (x, {})
      exact roundInt_toSigned 8 (-6) hx (toSigned_mxint8 hx (lowest rfl)) m hu

end Sys2Proof.Machine

/-!
The scalar-unit operations (R168 to R170): the fields of their slots, the values they write, and a slot's two outcomes, its result or
the stop with fault 0x02.
-/
namespace Sys2Proof.Machine

/-! ### Fields of a scalar-unit slot (R168) -/

theorem natFld_eq_div_mod (x lo len : Nat) : natFld x lo len = x / 2 ^ lo % 2 ^ len := by
  rw [natFld, Nat.shiftRight_eq_div_pow]

section Fields
variable (op nw w1 w2 : Nat) (rd rs1 rs2 : Fin 32) (sh : Fin 64)

@[simp] theorem scalarOp_op (rd rs1 rs2 : Nat) : (scalarOp op nw rd rs1 rs2 w1 w2).op = op := rfl

@[simp] theorem scalarOp_rd : (scalarOp op nw rd rs1 rs2 w1 w2).rd = rd := by
  simp only [Slot.rd, scalarOp, natFld_eq_div_mod]
  omega

@[simp] theorem scalarOp_rs1 : (scalarOp op nw rd rs1 rs2 w1 w2).rs1 = rs1 := by
  simp only [Slot.rs1, scalarOp, natFld_eq_div_mod]
  omega

@[simp] theorem scalarOp_rs2 : (scalarOp op nw rd rs1 rs2 w1 w2).rs2 = rs2 := by
  simp only [Slot.rs2, scalarOp, natFld_eq_div_mod]
  omega

/-- The bits below rs2 are zero. -/
theorem scalarOp_unused : natFld (scalarOp op nw rd rs1 rs2 w1 w2).low 0 5 = 0 := by
  simp only [scalarOp, natFld_eq_div_mod]
  omega

@[simp] theorem shiftOp_op (rd rs1 sh : Nat) : (shiftOp op rd rs1 sh).op = op := rfl

@[simp] theorem shiftOp_rd : (shiftOp op rd rs1 sh).rd = rd := by
  simp only [Slot.rd, shiftOp, natFld_eq_div_mod]
  omega

@[simp] theorem shiftOp_rs1 : (shiftOp op rd rs1 sh).rs1 = rs1 := by
  simp only [Slot.rs1, shiftOp, natFld_eq_div_mod]
  omega

@[simp] theorem shiftOp_sh : (shiftOp op rd rs1 sh).sh = sh := by
  simp only [Slot.sh, shiftOp, natFld_eq_div_mod]
  omega

/-- The bits below the shift amount are zero. -/
theorem shiftOp_unused : natFld (shiftOp op rd rs1 sh).low 0 4 = 0 := by
  simp only [shiftOp, natFld_eq_div_mod]
  omega

/-- A word is the two's complement of its signed value. -/
theorem toSigned_toNat {w : Nat} (x : BitVec w) : toSigned w x.toNat = x.toInt := by
  rw [BitVec.toInt_eq_msb_cond, BitVec.msb_eq_getLsbD_last, toSigned, Nat.mod_eq_of_lt x.isLt]
  rfl

/-- An immediate is word 1, sign-extended (R170). -/
@[simp] theorem scalarOp_imm (rd rs1 rs2 : Nat) (imm : W32) : (scalarOp op nw rd rs1 rs2 imm.toNat w2).imm = imm.signExtend 64 :=
  congrArg (BitVec.ofInt 64) (toSigned_toNat imm)

/-- A 64-bit immediate is word 1 below word 2. -/
@[simp] theorem scalarOp_imm64 (rd rs1 rs2 : Nat) (imm : W64) :
    (scalarOp op nw rd rs1 rs2 (fld imm 31 0) (fld imm 63 32)).imm64 = imm := by
  apply BitVec.eq_of_toNat_eq
  simp only [Slot.imm64, scalarOp, fld, natFld_eq_div_mod, BitVec.toNat_ofNat]
  omega

end Fields

/-! ### Values (R170) -/

/-- LIH replaces the high half: the low half of a sign-extended immediate is the immediate. -/
theorem setFld_high_signExtend (old : W64) (imm : W32) :
    setFld old 63 32 (fld (imm.signExtend 64) 31 0) = imm ++ old.extractLsb' 0 32 := by
  apply BitVec.eq_of_getLsbD_eq
  intro i inWord
  rw [setFld_getLsbD _ _ _ _ _ (by decide), BitVec.getLsbD_append, BitVec.getLsbD_extractLsb']
  by_cases low : i < 32
  · rw [if_neg (by omega)]
    simp [low]
  · rw [if_pos (by omega), fld_testBit, BitVec.getLsbD_signExtend]
    simp [low, show i - 32 < 32 by omega, show i - 32 < 64 by omega]

/-- SLT compares the signed values. -/
theorem ite_slt_eq {α : Type} (x y : W64) (a b : α) : (if x.slt y then a else b) = if x.toInt < y.toInt then a else b := by
  simp only [BitVec.slt, decide_eq_true_eq]

/-- SLTU compares the unsigned values. -/
theorem ite_ult_eq {α : Type} (x y : W64) (a b : α) : (if x.ult y then a else b) = if x.toNat < y.toNat then a else b := by
  simp only [BitVec.ult, decide_eq_true_eq]

/-! ### An illegal slot (R127, R195) -/

/-- A slot that breaks a rule of its own, alone in its bundle, is the one that offends (R195). -/
theorem State.firstOffender_illegal {s : State} {q pc next : Nat} {sl : Slot} (illegal : s.slotOk q pc next sl = false) :
    s.firstOffender q pc next [sl] = some sl := by
  have only : s.offenders q pc next [sl] = [0] := by
    unfold State.offenders
    simp only [List.zipIdx_singleton, List.any_cons, List.any_nil, List.filterMap_cons, List.filterMap_nil, illegal, Nat.lt_irrefl,
      decide_false, Bool.false_and, Bool.and_false, Bool.or_false, Bool.false_eq_true, if_false]
    cases (sl.cls == 0 && sl.op == 0x2D) <;> rfl
  rw [State.firstOffender, only]
  rfl

/-- The tokens that leave pending with a stop leave the freeze as it is. -/
theorem State.settleAfter_freeze (s : State) (q : Nat) : ((s.settleAfter q).seq q).freeze = (s.seq q).freeze := by
  have settled : ∀ (soon : List (Nat × Bool)) (z : Seq),
      (soon.foldl (fun z t => if z.isPending t.1 then z.setToken t.1 (if t.2 then .done else .failed) else z) z).freeze = z.freeze := by
    intro soon
    induction soon with
    | nil => intro z; rfl
    | cons t soon ih =>
      intro z
      rw [List.foldl_cons, ih]
      split <;> rfl
  rw [State.settleAfter, State.seq_updSeq]
  exact settled _ _

@[simp] theorem State.seq_wrB (s : State) (q a i : Nat) (b : Bool) : (s.wrB a i b).seq q = s.seq q := rfl

@[simp] theorem State.seq_setSeqState (s : State) (q p st cause : Nat) : (s.setSeqState p st cause).seq q = s.seq q := rfl

/-- A stop that settles leaves no freeze. -/
theorem State.settleStop_freeze {s : State} {q : Nat} (stopping : (s.seq q).freeze = .stopping) :
    ((s.settleStop q).seq q).freeze = .no ∨ ((s.settleStop q).seq q).freeze = .stopping := by
  unfold State.settleStop
  split
  · rw [State.seq_wrB, State.seq_setSeqState, State.seq_updSeq]
    exact .inl rfl
  · exact .inr stopping

/-- A running recipe can stop. -/
theorem State.canStop_of_running {s : State} {q : Nat} (run : s.running q = true) : s.canStop q = true := by
  simp only [State.running, Bool.and_eq_true, beq_iff_eq, decide_eq_true_eq] at run
  obtain ⟨state, still⟩ := run
  simp [State.canStop, state, still]

/-- The last stages of a stop: the sequencer is stopping, and then settles. -/
theorem State.stopRecipe_settles {s : State} {q : Nat} (run : s.running q = true) (f : StopInfo) :
    ∃ t : State, (t.seq q).freeze = .stopping ∧ s.stopRecipe q f = ((t.setSeqState q 3 0).settleAfter q).settleStop q := by
  refine ⟨_, ?_, if_neg (by simp [State.canStop_of_running run])⟩
  rw [State.seq_updSeq, State.seq_updSeq]

/-- A stop leaves the sequencer stopped or stopping. -/
theorem State.stopRecipe_freeze {s : State} {q : Nat} (run : s.running q = true) (f : StopInfo) :
    ((s.stopRecipe q f).seq q).freeze = .no ∨ ((s.stopRecipe q f).seq q).freeze = .stopping := by
  obtain ⟨t, stopping, stop⟩ := State.stopRecipe_settles run f
  rw [stop]
  refine State.settleStop_freeze ?_
  rw [State.settleAfter_freeze, State.seq_setSeqState, stopping]

/-- A class 0x0 slot that breaks a rule of its own stops a running recipe with fault 0x02 (R127). -/
theorem State.slotCommand_illegal {s : State} {q : Nat} {sl : Slot} (run : s.running q = true) (cls : sl.cls = 0)
    (illegal : s.slotOk q (s.pcOf q) (s.seq q).after sl = false) : s.slotCommand q sl = s.stopRecipe q { code := 0x02 } := by
  have report : s.illegalAt q sl = { code := 0x02 } := by
    simp [State.illegalAt, cls, faultAt]
  have halts : s.checkStages q (s.pcOf q) (s.seq q).after [sl] = .halt (s.stopRecipe q { code := 0x02 }) := by
    rw [State.checkStages, State.firstOffender_illegal illegal]
    exact congrArg (fun f => Stage.halt (s.stopRecipe q f)) report
  rw [State.slotCommand, if_pos run, halts]
  exact if_pos (State.stopRecipe_freeze run _)

/-! ### A scalar-unit slot -/

/-- A legal scalar-unit slot waits for nothing, names no token and is no control slot: it has its effect. -/
theorem State.slotCommand_scalar {s : State} {q : Nat} {sl : Slot} (run : s.running q = true) (cls : sl.cls = 0) (unit : sl.op < 0x20)
    (legal : s.slotOk q (s.pcOf q) (s.seq q).after sl = true) : s.slotCommand q sl = s.scalarSlot q sl := by
  have waits : sl.waitSet = [] := by
    rw [Slot.waitSet, if_neg (by omega), if_neg (by omega)]
  have token : sl.token = none := by
    rw [Slot.token, if_neg (by omega), if_neg (by omega)]
  have passes := s.checkStages_go q (s.pcOf q) (s.seq q).after sl legal waits (by omega) (by simp [token])
  have effect : s.slotEffect q sl = (s.scalarSlot q sl, none) := by
    simp only [State.slotEffect, cls]
    exact if_pos unit
  rw [s.slotCommand_go q sl run passes (by simp; omega), s.issueSlots_single q sl (by simp [Slot.isControl, cls, orderClass]), effect]
  rfl

/-- A scalar-unit slot is legal when its length is its operation's and its fields are legal. -/
theorem State.slotOk_class0 (s : State) (q pc next : Nat) {sl : Slot} (cls : sl.cls = 0) (words : opWords 0 sl.op = some sl.nw) :
    s.slotOk q pc next sl = s.seqSlotOk q pc next sl := by
  simp [State.slotOk, cls, words]

/-- A slot of an operation that writes rd: rd takes the value of R170, and nothing else changes. The bits of word 0 below its last field
are zero. -/
theorem State.slotCommand_writesRd {s : State} {q : Nat} {sl : Slot} (run : s.running q = true) (cls : sl.cls = 0) (writes : sl.op < 0x18)
    (words : opWords 0 sl.op = some sl.nw)
    (unused : if sl.op = 0x13 ∨ sl.op = 0x14 ∨ sl.op = 0x15 then natFld sl.low 0 4 = 0 else natFld sl.low 0 5 = 0) :
    s.slotCommand q sl = s.setSreg q sl.rd
      (scalarValue sl.op (s.sreg q sl.rs1) (s.sreg q sl.rs2) (s.sreg q sl.rd) sl.imm sl.imm64 sl.sh) := by
  have legal : s.seqSlotOk q (s.pcOf q) (s.seq q).after sl = true := by
    rw [State.seqSlotOk, if_pos (by omega)]
    simpa [show sl.op ≠ 0x18 by omega, show sl.op ≠ 0x19 by omega] using unused
  rw [State.slotCommand_scalar run cls (by omega) ((s.slotOk_class0 q _ _ cls words).trans legal), State.scalarSlot, if_neg (by omega),
    if_neg (by omega)]

/-- The operations on registers and on an immediate word or two. -/
theorem next_scalarOp {s : State} {q op nw w1 w2 : Nat} {rd rs1 rs2 : Fin 32} {v : W64} (run : s.running q = true) (code : op < 0x13)
    (words : opWords 0 op = some nw)
    (value : scalarValue op (s.sreg q rs1) (s.sreg q rs2) (s.sreg q rd) (scalarOp op nw rd rs1 rs2 w1 w2).imm
      (scalarOp op nw rd rs1 rs2 w1 w2).imm64 (scalarOp op nw rd rs1 rs2 w1 w2).sh = v) :
    (.next (s.slotCommand q (scalarOp op nw rd rs1 rs2 w1 w2)) : Result) = .next (s.setSreg q rd v) := by
  rw [State.slotCommand_writesRd run rfl (by rw [scalarOp_op]; omega) words, scalarOp_op, scalarOp_rd, scalarOp_rs1, scalarOp_rs2, value]
  rw [scalarOp_op, if_neg (by omega), scalarOp_unused]

/-- The shifts by an immediate. -/
theorem next_shiftOp {s : State} {q op : Nat} {rd rs1 : Fin 32} {sh : Fin 64} {v : W64} (run : s.running q = true)
    (code : op = 0x13 ∨ op = 0x14 ∨ op = 0x15) (words : opWords 0 op = some 1)
    (value : ∀ b old imm imm64, scalarValue op (s.sreg q rs1) b old imm imm64 sh = v) :
    (.next (s.slotCommand q (shiftOp op rd rs1 sh)) : Result) = .next (s.setSreg q rd v) := by
  rw [State.slotCommand_writesRd run rfl (by rw [shiftOp_op]; omega) words, shiftOp_op, shiftOp_rd, shiftOp_rs1, shiftOp_sh, value]
  rw [shiftOp_op, if_pos code, shiftOp_unused]

/-! ### Group registers -/

/-- The rule of a GRPI or GRP: a group register of sixteen, a mask within the clusters of the gang (R170). -/
def State.groupLegal (s : State) (q gr : Nat) (mask : W64) : Prop := gr < 16 ∧ mask.toNat < 2 ^ (15 * (s.gang q).length)

theorem slotOk_grpi_iff (s : State) (q pc next : Nat) (gr rs1 rs2 : Fin 32) (mask : W64) :
    s.slotOk q pc next (scalarOp 0x18 3 gr rs1 rs2 (fld mask 31 0) (fld mask 63 32)) = true ↔ s.groupLegal q gr mask := by
  rw [s.slotOk_class0 q pc next rfl rfl, State.seqSlotOk, scalarOp_rd, scalarOp_imm64, scalarOp_unused]
  simp [scalarOp, State.groupLegal]

theorem slotOk_grp_iff (s : State) (q pc next : Nat) (gr rs1 rs2 : Fin 32) :
    s.slotOk q pc next (scalarOp 0x19 1 gr rs1 rs2 0 0) = true ↔ s.groupLegal q gr (s.sreg q rs1) := by
  rw [s.slotOk_class0 q pc next rfl rfl, State.seqSlotOk, scalarOp_rd, scalarOp_rs1, scalarOp_unused]
  simp [scalarOp, State.groupLegal]

/-- A slot that is legal exactly by that rule has its effect, or stops the recipe with fault 0x02. -/
theorem next_groupOp {s t : State} {q gr : Nat} {mask : W64} {sl : Slot} (run : s.running q = true) (cls : sl.cls = 0) (unit : sl.op < 0x20)
    (rule : s.slotOk q (s.pcOf q) (s.seq q).after sl = true ↔ s.groupLegal q gr mask) (effect : s.scalarSlot q sl = t) :
    (s.groupLegal q gr mask → (.next (s.slotCommand q sl) : Result) = .next t) ∧
    (¬ s.groupLegal q gr mask → (.next (s.slotCommand q sl) : Result) = .next (s.stopRecipe q { code := 0x02 })) := by
  constructor
  · intro legal
    rw [State.slotCommand_scalar run cls unit (rule.2 legal), effect]
  · intro illegal
    rw [State.slotCommand_illegal run cls (Bool.eq_false_iff.2 (mt rule.1 illegal))]

theorem scalarSlot_grpi (s : State) (q : Nat) (gr rs1 rs2 : Fin 32) (mask : W64) :
    s.scalarSlot q (scalarOp 0x18 3 gr rs1 rs2 (fld mask 31 0) (fld mask 63 32)) =
      s.updSeq q (fun z => { z with gregs := z.gregs.set gr mask }) := by
  rw [State.scalarSlot, scalarOp_op, if_pos rfl, scalarOp_rd, scalarOp_imm64]

theorem scalarSlot_grp (s : State) (q : Nat) (gr rs1 rs2 : Fin 32) :
    s.scalarSlot q (scalarOp 0x19 1 gr rs1 rs2 0 0) = s.updSeq q (fun z => { z with gregs := z.gregs.set gr (s.sreg q rs1) }) := by
  rw [State.scalarSlot, scalarOp_op, if_neg (by decide), if_pos rfl, scalarOp_rd, scalarOp_rs1]

/-- Settles O16, form by form of the operation's slot. -/
theorem scalarOperationsWriteTheirResult : Obligations.ScalarOperationsWriteTheirResult := by
  intro s q run
  refine ⟨?word, ?wide, ?registers, ?immediate, ?shift, ?grpi, ?grp⟩
  case word =>
    intro rd imm
    constructor
    · exact next_scalarOp (rs1 := 0) (rs2 := 0) run (by decide) rfl (scalarOp_imm ..)
    · refine next_scalarOp (rs1 := 0) (rs2 := 0) run (by decide) rfl ?_
      rw [scalarOp_imm]
      exact setFld_high_signExtend _ imm
  case wide =>
    intro rd imm
    exact next_scalarOp (rs1 := 0) (rs2 := 0) run (by decide) rfl (scalarOp_imm64 ..)
  case registers =>
    rintro rd rs1 rs2 x y rfl rfl
    have writes {op : Nat} {v : W64} (code : op < 0x13) (words : opWords 0 op = some 1)
        (value : ∀ old imm imm64 sh, scalarValue op (s.sreg q rs1) (s.sreg q rs2) old imm imm64 sh = v) :
        (.next (s.slotCommand q (scalarOp op 1 rd rs1 rs2 0 0)) : Result) = .next (s.setSreg q rd v) :=
      next_scalarOp run code words (value ..)
    refine ⟨?add, ?sub, ?mul, ?and, ?or, ?xor, ?shl, ?shr, ?sar, ?slt, ?sltu⟩
    case slt => exact writes (by decide) rfl fun _ _ _ _ => ite_slt_eq ..
    case sltu => exact writes (by decide) rfl fun _ _ _ _ => ite_ult_eq ..
    all_goals exact writes (by decide) rfl fun _ _ _ _ => rfl
  case immediate =>
    rintro rd rs1 imm x rfl
    refine ⟨?addi, ?andi, ?ori⟩
    case addi => exact next_scalarOp (rs2 := 0) run (by decide) rfl (congrArg (s.sreg q rs1 + ·) (scalarOp_imm ..))
    case andi => exact next_scalarOp (rs2 := 0) run (by decide) rfl (congrArg (s.sreg q rs1 &&& ·) (scalarOp_imm ..))
    case ori => exact next_scalarOp (rs2 := 0) run (by decide) rfl (congrArg (s.sreg q rs1 ||| ·) (scalarOp_imm ..))
  case shift =>
    rintro rd rs1 sh x rfl
    refine ⟨?shli, ?shri, ?sari⟩
    all_goals exact next_shiftOp run (by decide) rfl fun _ _ _ _ => rfl
  case grpi =>
    intro gr mask
    exact next_groupOp run rfl (show 0x18 < 0x20 by decide) (slotOk_grpi_iff s q _ _ gr 0 0 mask) (scalarSlot_grpi s q gr 0 0 mask)
  case grp =>
    rintro gr rs1 x rfl
    exact next_groupOp run rfl (show 0x19 < 0x20 by decide) (slotOk_grp_iff s q _ _ gr rs1 0) (scalarSlot_grp s q gr rs1 0)

end Sys2Proof.Machine

/-!
The compression engine's region (R225 to R227): numbers read back from their bytes, classes and masks from their digits, lines from
their payloads, and the fields of the header.
-/
namespace Sys2Proof.Machine

/-! ### Numbers as bytes and as digits -/

@[simp] theorem length_leBytes (n x : Nat) : (leBytes n x).length = n := by
  induction n generalizing x with
  | zero => rfl
  | succ n ih => rw [leBytes, List.length_cons, ih]

/-- A number that its bytes have room for reads back from them. -/
theorem leNat_leBytes {n x : Nat} (room : x < 256 ^ n) : leNat (leBytes n x) = x := by
  induction n generalizing x with
  | zero => exact (Nat.lt_one_iff.1 room).symm
  | succ n ih =>
    rw [leBytes, leNat, ih (Nat.div_lt_of_lt_mul (Nat.pow_succ' ▸ room)), BitVec.toNat_ofNat]
    omega

/-- The number with the given digits, the lowest first. -/
def ofDigits (base : Nat) : List Nat → Nat
  | [] => 0
  | d :: ds => d + base * ofDigits base ds

theorem ofDigits_cons (base d : Nat) (ds : List Nat) : ofDigits base (d :: ds) = d + base * ofDigits base ds := rfl

theorem ofDigits_lt_pow {base : Nat} {ds : List Nat} (digits : ∀ d ∈ ds, d < base) : ofDigits base ds < base ^ ds.length := by
  induction ds with
  | nil => exact Nat.one_pos
  | cons d ds ih =>
    obtain ⟨hd, hds⟩ := List.forall_mem_cons.1 digits
    calc d + base * ofDigits base ds < base + base * ofDigits base ds := Nat.add_lt_add_right hd _
      _ = base * (ofDigits base ds + 1) := by rw [Nat.mul_succ, Nat.add_comm]
      _ ≤ base * base ^ ds.length := Nat.mul_le_mul_left base (ih hds)
      _ = base ^ (d :: ds).length := Nat.pow_succ'.symm

/-- The model's sum over positions is the number with those digits. -/
theorem foldl_zipIdx_eq_ofDigits {α : Type} (base : Nat) (digit : α → Nat) (l : List α) (k acc : Nat) :
    (l.zipIdx k).foldl (fun m p => m + digit p.1 * base ^ p.2) acc = acc + base ^ k * ofDigits base (l.map digit) := by
  induction l generalizing k acc with
  | nil => rfl
  | cons x l ih =>
    rw [List.zipIdx_cons, List.foldl_cons, ih, List.map_cons, ofDigits_cons, Nat.pow_succ, Nat.mul_add, Nat.mul_assoc, Nat.add_assoc,
      Nat.mul_comm (digit x)]

theorem natFld_two_head {c : Nat} (m : Nat) (hc : c < 4) : natFld (c + 4 * m) 0 2 = c := by
  rw [natFld_eq_div_mod]
  omega

theorem natFld_two_tail {c : Nat} (m i : Nat) (hc : c < 4) : natFld (c + 4 * m) (2 * (i + 1)) 2 = natFld m (2 * i) 2 := by
  have rest : (c + 4 * m) / 2 ^ 2 = m := by omega
  rw [natFld_eq_div_mod, natFld_eq_div_mod, Nat.mul_succ, Nat.add_comm (2 * i), Nat.pow_add, ← Nat.div_div_eq_div_mul, rest]

/-- The digits of a number of base 4 are its fields of two bits. -/
theorem map_natFld_ofDigits {cs : List Nat} (classes : ∀ c ∈ cs, c < 4) :
    (List.range cs.length).map (fun i => natFld (ofDigits 4 cs) (2 * i) 2) = cs := by
  induction cs with
  | nil => rfl
  | cons c cs ih =>
    obtain ⟨hc, hcs⟩ := List.forall_mem_cons.1 classes
    rw [List.length_cons, List.range_succ_eq_map, List.map_cons, List.map_map, ofDigits_cons]
    refine List.cons_eq_cons.2 ⟨natFld_two_head _ hc, Eq.trans ?_ (ih hcs)⟩
    exact List.map_congr_left fun i _ => natFld_two_tail _ i hc

/-! ### Lines -/

/-- The lines hold the bytes in order. -/
theorem flatten_chunksOf {α : Type} {n k : Nat} {l : List α} (h : l.length = n * k) : (chunksOf n k l).flatten = l := by
  induction k generalizing l with
  | zero => exact (List.eq_nil_of_length_eq_zero h).symm
  | succ k ih =>
    cases l with
    | nil => rfl
    | cons x l =>
      have rest : ((x :: l).drop n).length = n * k := by rw [List.length_drop, h, Nat.mul_succ, Nat.add_sub_cancel]
      change (x :: l).take n ++ (chunksOf n k ((x :: l).drop n)).flatten = x :: l
      rw [ih rest, List.take_append_drop]

/-- A list of `k` pieces of `n` elements is cut into them. -/
theorem chunksOf_pieces {α : Type} {n k : Nat} {l : List α} (hn : 0 < n) (h : l.length = n * k) :
    (chunksOf n k l).length = k ∧ ∀ p ∈ chunksOf n k l, p.length = n := by
  induction k generalizing l with
  | zero => exact ⟨rfl, fun p hp => absurd hp List.not_mem_nil⟩
  | succ k ih =>
    rw [Nat.mul_succ] at h
    obtain ⟨count, size⟩ := ih (l := l.drop n) (by rw [List.length_drop, h, Nat.add_sub_cancel])
    cases l with
    | nil => exact absurd h (by rw [List.length_nil]; omega)
    | cons x l =>
      refine ⟨congrArg (· + 1) count, List.forall_mem_cons.2 ⟨?_, size⟩⟩
      rw [List.length_take, h]
      omega

/-- What the class of a line says of it (R226). -/
theorem lineClass_cases (prev : Option (List Byte)) (l : List Byte) :
    (lineClass prev l = 0 ∧ l = List.replicate l.length 0) ∨ (lineClass prev l = 1 ∧ prev = some l) ∨
    lineClass prev l = 2 ∨ lineClass prev l = 3 := by
  unfold lineClass
  split
  next zero => exact .inl ⟨rfl, List.eq_replicate_of_mem fun b hb => of_decide_eq_true (List.all_eq_true.1 zero b hb)⟩
  next =>
    split
    next same => exact .inr (.inl ⟨rfl, same⟩)
    next => split <;> simp

@[simp] theorem length_lineClasses (prev : Option (List Byte)) (ls : List (List Byte)) : (lineClasses prev ls).length = ls.length := by
  induction ls generalizing prev with
  | nil => rfl
  | cons l ls ih => rw [lineClasses, List.length_cons, ih, List.length_cons]

theorem lineClasses_lt_four (prev : Option (List Byte)) (ls : List (List Byte)) : ∀ c ∈ lineClasses prev ls, c < 4 := by
  induction ls generalizing prev with
  | nil => exact fun c hc => absurd hc List.not_mem_nil
  | cons l ls ih =>
    refine List.forall_mem_cons.2 ⟨?_, ih (some l)⟩
    rcases lineClass_cases prev l with ⟨h, _⟩ | ⟨h, _⟩ | h | h <;> omega

theorem classMap_eq (n : Nat) (cs : List Nat) : classMap n cs = leBytes n (ofDigits 4 cs) := by
  rw [classMap, foldl_zipIdx_eq_ofDigits 4 (fun c => c), Nat.pow_zero, Nat.one_mul, Nat.zero_add, List.map_id']

/-- The classes of four lines to a byte read back from the class map. -/
theorem leNat_classMap {n : Nat} {cs : List Nat} (four : cs.length = 4 * n) (classes : ∀ c ∈ cs, c < 4) :
    leNat (classMap n cs) = ofDigits 4 cs := by
  have room := ofDigits_lt_pow classes
  rw [four, Nat.pow_mul] at room
  rw [classMap_eq, leNat_leBytes room]

/-! ### Payloads -/

/-- The mask's bit of a byte of a sparse line. -/
def maskBit (b : Byte) : Nat := if b = 0 then 0 else 1

theorem maskBit_lt_two (b : Byte) : maskBit b < 2 := by
  unfold maskBit
  split <;> decide

theorem linePayload_sparse (l : List Byte) :
    linePayload 2 l = leBytes 8 (ofDigits 2 (l.map maskBit)) ++ l.filter (· ≠ 0) := by
  have addend : (fun (m : Nat) (p : Byte × Nat) => if p.1 = 0 then m else m + 2 ^ p.2) = fun m p => m + maskBit p.1 * 2 ^ p.2 := by
    funext m p
    unfold maskBit
    split <;> simp
  rw [linePayload, addend, foldl_zipIdx_eq_ofDigits 2 maskBit, Nat.pow_zero, Nat.one_mul, Nat.zero_add]

theorem sparseLine_absent (n m : Nat) (rest : List Byte) :
    sparseLine (n + 1) (0 + 2 * m) rest = (sparseLine n m rest).map (fun r => (0 :: r.1, r.2)) := by
  have half : (0 + 2 * m) / 2 = m := by omega
  rw [sparseLine.eq_def]
  simp only [half]
  rw [if_neg (by omega)]

theorem sparseLine_present (n m : Nat) (b : Byte) (rest : List Byte) :
    sparseLine (n + 1) (1 + 2 * m) (b :: rest) = (sparseLine n m rest).map (fun r => (b :: r.1, r.2)) := by
  have half : (1 + 2 * m) / 2 = m := by omega
  rw [sparseLine.eq_def]
  simp only [half]
  rw [if_pos (by omega)]

/-- A line reads back from its mask and its non-zero bytes, and leaves what follows them. -/
theorem sparseLine_ofDigits (l rest : List Byte) :
    sparseLine l.length (ofDigits 2 (l.map maskBit)) (l.filter (· ≠ 0) ++ rest) = some (l, rest) := by
  induction l with
  | nil => rfl
  | cons b l ih =>
    rw [List.map_cons, ofDigits_cons, List.length_cons]
    by_cases hb : b = 0
    · rw [show maskBit b = 0 from if_pos hb, sparseLine_absent, List.filter_cons_of_neg (by simpa using hb), ih, hb]
      rfl
    · rw [show maskBit b = 1 from if_neg hb, List.filter_cons_of_pos (by simpa using hb), List.cons_append, sparseLine_present, ih]
      rfl

section Line
variable (prev : Option (List Byte)) (cs : List Nat) (rest : List Byte)

theorem cpxLines_zero : cpxLines prev (0 :: cs) rest =
    (cpxLines (some (List.replicate 64 0)) cs rest).map (fun ls => List.replicate 64 0 :: ls) := rfl

theorem cpxLines_same (l : List Byte) : cpxLines (some l) (1 :: cs) rest = (cpxLines (some l) cs rest).map (fun ls => l :: ls) := rfl

theorem cpxLines_sparse {mask bytes l : List Byte} (eight : mask.length = 8) (line : sparseLine 64 (leNat mask) bytes = some (l, rest)) :
    cpxLines prev (2 :: cs) (mask ++ bytes) = (cpxLines (some l) cs rest).map (fun ls => l :: ls) := by
  have room : ¬ (mask ++ bytes).length < 8 := by rw [List.length_append]; omega
  simp only [cpxLines, if_neg room, List.take_left' eight, List.drop_left' eight, line]

theorem cpxLines_literal {l : List Byte} (size : l.length = 64) :
    cpxLines prev (3 :: cs) (l ++ rest) = (cpxLines (some l) cs rest).map (fun ls => l :: ls) := by
  have room : ¬ (l ++ rest).length < 64 := by rw [List.length_append]; omega
  simp only [cpxLines, if_neg room, List.take_left' size, List.drop_left' size]

/-- One line decodes from its class and payload, whatever lines follow (R227). -/
theorem cpxLines_line {l : List Byte} (size : l.length = 64) :
    cpxLines prev (lineClass prev l :: cs) (linePayload (lineClass prev l) l ++ rest) =
      (cpxLines (some l) cs rest).map (fun ls => l :: ls) := by
  rcases lineClass_cases prev l with ⟨cls, zero⟩ | ⟨cls, same⟩ | cls | cls <;> rw [cls]
  case inl =>
    rw [size] at zero
    rw [zero]
    exact cpxLines_zero prev cs rest
  case inr.inl =>
    rw [same]
    exact cpxLines_same cs rest l
  case inr.inr.inl =>
    have room : ofDigits 2 (l.map maskBit) < 256 ^ 8 := by
      have digits : ∀ d ∈ l.map maskBit, d < 2 := List.forall_mem_map.2 fun b _ => maskBit_lt_two b
      simpa [size] using ofDigits_lt_pow digits
    have line := sparseLine_ofDigits l rest
    rw [size, ← leNat_leBytes room] at line
    rw [linePayload_sparse, List.append_assoc, cpxLines_sparse prev cs rest (length_leBytes ..) line]
  case inr.inr.inr => exact cpxLines_literal prev cs rest size

end Line

/-- The payloads of lines after a predecessor, in line order. -/
def linePayloads (prev : Option (List Byte)) (ls : List (List Byte)) : List Byte :=
  ((lineClasses prev ls).zip ls).flatMap (fun p => linePayload p.1 p.2)

theorem linePayloads_cons (prev : Option (List Byte)) (l : List Byte) (ls : List (List Byte)) :
    linePayloads prev (l :: ls) = linePayload (lineClass prev l) l ++ linePayloads (some l) ls := rfl

/-- The lines decode from their classes and payloads. -/
theorem cpxLines_lineClasses (prev : Option (List Byte)) {ls : List (List Byte)} (size : ∀ l ∈ ls, l.length = 64) :
    cpxLines prev (lineClasses prev ls) (linePayloads prev ls) = some ls := by
  induction ls generalizing prev with
  | nil => rfl
  | cons l ls ih =>
    obtain ⟨hl, hls⟩ := List.forall_mem_cons.1 size
    rw [lineClasses, linePayloads_cons, cpxLines_line prev _ _ hl, ih (some l) hls, Option.map_some]

/-! ### The header (R225) -/

section Header
variable (t : Nat) (stored : Bool) (len : Nat) (body : List Byte)

/-- The header's info word. -/
def cpxInfo : Nat := t - 1 + b2n stored * 2 ^ 31

@[simp] theorem length_cpxHeader : (cpxHeader t stored len).length = 64 := by simp [cpxHeader]

theorem cpxHeader_magic : (cpxHeader t stored len ++ body).take 4 = leBytes 4 0x4B5A4350 := rfl

theorem cpxHeader_info : ((cpxHeader t stored len ++ body).drop 4).take 4 = leBytes 4 (cpxInfo t stored) := rfl

theorem cpxHeader_len : ((cpxHeader t stored len ++ body).drop 8).take 4 = leBytes 4 len := rfl

theorem cpxHeader_zeros : ((cpxHeader t stored len ++ body).take 64).drop 12 = List.replicate 52 0 := rfl

theorem cpxHeader_body : (cpxHeader t stored len ++ body).drop 64 = body := List.drop_left' (length_cpxHeader ..)

theorem b2n_le_one (b : Bool) : b2n b ≤ 1 := by cases b <;> decide

variable {t} {len} (first : 1 ≤ t) (last : t ≤ 128)
include last

theorem cpxInfo_lt : cpxInfo t stored < 256 ^ 4 := by
  have := b2n_le_one stored
  rw [cpxInfo]
  omega

theorem cpxInfo_reserved : natFld (cpxInfo t stored) 7 24 = 0 := by
  have := b2n_le_one stored
  rw [natFld_eq_div_mod, cpxInfo]
  omega

theorem cpxInfo_stored : natBit (cpxInfo t stored) 31 = stored := by
  rw [natBit, Nat.testBit_eq_decide_div_mod_eq, cpxInfo]
  cases stored <;> simp [b2n] <;> omega

include first

theorem cpxInfo_tiles : cpxInfo t stored % 128 + 1 = t := by
  rw [cpxInfo]
  omega

/-- The header passes the checks of R227, but for the number of tiles the operation names. -/
theorem cpxDecompress_cpxHeader (t' : Nat) (room : len < 256 ^ 4) :
    cpxDecompress t' (cpxHeader t stored len ++ body) =
      if t ≠ t' then none
      else if stored then (if len ≠ 0 then none else some (body.take (4096 * t')))
      else if len < 16 * t' ∨ 4096 * t' < len then none
      else (cpxLines none ((List.range (64 * t')).map (fun l => natFld (leNat (body.take (16 * t'))) (2 * l) 2))
        ((body.take len).drop (16 * t'))).map List.flatten := by
  have magic : leNat (leBytes 4 0x4B5A4350) = 0x4B5A4350 := leNat_leBytes (by decide)
  simp only [cpxDecompress, cpxHeader_magic, cpxHeader_info, cpxHeader_len, cpxHeader_zeros, cpxHeader_body, magic, leNat_leBytes room,
    leNat_leBytes (cpxInfo_lt stored last), cpxInfo_reserved stored last, cpxInfo_tiles stored first last,
    cpxInfo_stored stored last]
  simp

end Header

/-! ### The region -/

/-- The stream of a region of `t` tiles: the class map and the payloads. -/
def cpxStream (t : Nat) (ls : List (List Byte)) : List Byte := classMap (16 * t) (lineClasses none ls) ++ linePayloads none ls

theorem length_cpxStream (t : Nat) (ls : List (List Byte)) : (cpxStream t ls).length = 16 * t + (linePayloads none ls).length := by
  rw [cpxStream, List.length_append, classMap, length_leBytes]

/-- A stream decodes to the tiles it was made from, whatever bytes follow it. -/
theorem cpxDecompress_stream {t : Nat} {ls : List (List Byte)} (fill : List Byte) (first : 1 ≤ t) (last : t ≤ 128)
    (count : ls.length = 64 * t) (size : ∀ l ∈ ls, l.length = 64) (shorter : (cpxStream t ls).length < 4096 * t) :
    cpxDecompress t (cpxHeader t false (cpxStream t ls).length ++ (cpxStream t ls ++ fill)) = some ls.flatten := by
  have classes := lineClasses_lt_four none ls
  have lines : (lineClasses none ls).length = 64 * t := (length_lineClasses none ls).trans count
  have mapLength : (classMap (16 * t) (lineClasses none ls)).length = 16 * t := length_leBytes _ _
  have covers := length_cpxStream t ls
  have map : leNat ((cpxStream t ls ++ fill).take (16 * t)) = ofDigits 4 (lineClasses none ls) := by
    rw [cpxStream, List.append_assoc, List.take_left' mapLength, leNat_classMap (by omega) classes]
  have payloads : (cpxStream t ls).drop (16 * t) = linePayloads none ls := List.drop_left' mapLength
  rw [cpxDecompress_cpxHeader _ _ first last _ (by omega), if_neg (not_not_intro rfl), if_neg Bool.false_ne_true, if_neg (by omega), map,
    ← lines, map_natFld_ofDigits classes, List.take_left' rfl, payloads, cpxLines_lineClasses none size, Option.map_some]

/-- The two forms of the region: a stream shorter than the tiles with zeros after it, or the tiles unchanged (R226). -/
theorem cpxCompress_cases {t : Nat} {bs : List Byte} {ls : List (List Byte)} (lines : linesOf (64 * t) bs = ls) :
    ((cpxStream t ls).length < 4096 * t ∧ (cpxCompress t bs).1 =
      cpxHeader t false (cpxStream t ls).length ++ (cpxStream t ls ++ List.replicate (4096 * t - (cpxStream t ls).length) 0)) ∨
    (cpxCompress t bs).1 = cpxHeader t true 0 ++ bs := by
  subst lines
  rw [length_cpxStream]
  simp only [cpxCompress]
  split
  next shorter => exact .inl ⟨shorter, by simp only [cpxStream, linePayloads, List.append_assoc]⟩
  next => exact .inr rfl

/-- Settles O25, form by form of the region. -/
theorem compressionIsInvertible : Obligations.CompressionIsInvertible := by
  intro t bs first last tiles
  have bytes : bs.length = 64 * (64 * t) := by omega
  obtain ⟨count, size⟩ : (linesOf (64 * t) bs).length = 64 * t ∧ ∀ l ∈ linesOf (64 * t) bs, l.length = 64 :=
    chunksOf_pieces (by decide) bytes
  have other {stored : Bool} {len : Nat} (body : List Byte) (room : len < 256 ^ 4) :
      ∀ t', 1 ≤ t' → t' ≤ 128 → t' ≠ t → cpxDecompress t' (cpxHeader t stored len ++ body) = none := by
    intro t' _ _ differs
    rw [cpxDecompress_cpxHeader _ _ first last _ room, if_pos differs.symm]
  rcases cpxCompress_cases (t := t) (bs := bs) rfl with ⟨shorter, region⟩ | region <;> rw [region]
  case inl =>
    refine ⟨?_, ?_, other _ (by omega)⟩
    · rw [List.length_append, List.length_append, length_cpxHeader, List.length_replicate]
      omega
    · rw [cpxDecompress_stream _ first last count size shorter, linesOf, flatten_chunksOf bytes]
  case inr =>
    refine ⟨?_, ?_, other _ (by decide)⟩
    · rw [List.length_append, length_cpxHeader, tiles, Nat.add_comm]
    · rw [cpxDecompress_cpxHeader _ _ first last _ (by decide), if_neg (not_not_intro rfl), if_pos rfl, if_neg (not_not_intro rfl),
        List.take_of_length_le (Nat.le_of_eq tiles)]

end Sys2Proof.Machine

/-!
What the operations on the stacks leave as it was, and how a line of a stack is served.
-/
namespace Sys2Proof.Machine

/-! ### Operations repeated or made on a condition -/

/-- An operation that keeps a part of the state keeps it through all its repetitions. -/
theorem State.each_keeps {α β : Type} (part : State → β) (f : State → α → State) (keeps : ∀ s x, part (f s x) = part s) (s : State)
    (l : List α) : part (s.each l f) = part s := by
  unfold State.each
  induction l generalizing s with
  | nil => rfl
  | cons x l ih => exact (ih (f s x)).trans (keeps s x)

/-- An operation that keeps a part of the state keeps it when a condition decides whether it is made. -/
theorem State.cond_keeps {β : Type} (part : State → β) (f : State → State) (keeps : ∀ s, part (f s) = part s) (s : State) (c : Bool) :
    part (s.cond c f) = part s := by
  cases c
  · rfl
  · exact keeps s

section Rules
variable (s : State)

section Each
variable {α : Type} (l : List α) (reg : α → Nat) (word : α → W64)

/-- Protected values that take effect one after another change no byte and no state of the stacks. -/
@[simp] theorem State.each_cpCommit_mem : (s.each l (fun t x => t.cpCommit (reg x) (word x))).mem = s.mem :=
  State.each_keeps State.mem _ (fun t _ => t.cpCommit_mem _ _) s l

@[inherit_doc State.each_cpCommit_mem]
theorem State.each_cpCommit_stackSide : (s.each l (fun t x => t.cpCommit (reg x) (word x))).stackSide = s.stackSide :=
  State.each_keeps State.stackSide _ (fun t _ => t.cpCommit_stackSide _ _) s l

end Each

/-! ### Reading a line changes no byte (R243, R277, R652) -/

@[simp] theorem State.syncParts_mem : s.syncParts.mem = s.mem := by
  unfold State.syncParts
  exact State.each_keeps State.mem _ (fun t _ => (State.wrF_mem _ _ _ _ _).trans (t.wrF_mem _ _ _ _)) s _

@[simp] theorem State.syncPc_mem (n p : Nat) : (s.syncPc n p).mem = s.mem := by
  unfold State.syncPc
  split <;> rfl

@[simp] theorem State.setFrames_mem (gs : List Nat) (st : FrameState) : (s.setFrames gs st).mem = s.mem := by
  unfold State.setFrames
  exact (State.syncParts_mem _).trans (State.each_keeps State.mem _ (fun t _ => t.syncPc_mem _ _) _ _)

@[simp] theorem State.abortMigration_mem (g : Migration) : (s.abortMigration g).mem = s.mem := by
  unfold State.abortMigration
  rw [State.count_mem, State.setFrames_mem, State.each_cpCommit_mem, State.updStacks_mem]

@[simp] theorem State.abortMigrations_mem (f : Migration → Bool) : (s.abortMigrations f).mem = s.mem :=
  State.each_keeps State.mem _ State.abortMigration_mem s _

@[simp] theorem State.drainPc_mem (n p : Nat) (ev : Bool) : (s.drainPc n p ev).mem = s.mem := by
  unfold State.drainPc
  split
  · rfl
  · exact (State.abortMigrations_mem _ _).trans (State.cond_keeps State.mem _ (fun t => t.event_mem _ _ _ _ _) _ _)

@[simp] theorem State.lineThresholds_mem (n p : Nat) : (s.lineThresholds n p).mem = s.mem := by
  unfold State.lineThresholds
  refine (State.cond_keeps State.mem _ (fun t => ?_) _ _).trans (State.cond_keeps State.mem _ (fun t => t.drainPc_mem _ _ _) _ _)
  rw [State.drainPc_mem, State.drainPc_mem, State.event_mem]

@[simp] theorem State.readLine_mem (patrol : Bool) (l : Nat) : (s.readLine patrol l).mem = s.mem := by
  simp only [State.readLine]
  split
  · rfl
  · split
    · rfl
    · split
      · rw [State.lineThresholds_mem, State.event_mem, State.wr_mem, State.count_mem]
      · rw [State.event_mem, State.wr_mem, State.count_mem]

/-! ### A line is served (R243, R267) -/

@[simp] theorem State.heatOne_mem (g origin : Nat) : (s.heatOne g origin).mem = s.mem := rfl
@[simp] theorem State.heatOne_syn (g origin : Nat) : (s.heatOne g origin).syn = s.syn := rfl
@[simp] theorem State.heatOne_answer (g origin : Nat) : (s.heatOne g origin).answer = s.answer := rfl

/-- A write stores its bytes; the tile access has counted before. -/
theorem State.serveLine_write {r : LineAccess} {bs : List Byte} (write : r.data = some bs) (a : Nat) :
    ∃ origin, s.serveLine r a = (s.heatOne (frameOfDpa a) origin).writeBytes a (bs.take 64) := by
  unfold State.serveLine
  rw [write]
  exact ⟨_, rfl⟩

/-- A read answers the line as its tile stands once the line has been read. -/
theorem State.serveLine_read {r : LineAccess} (read : r.data = none) (a : Nat) :
    ∃ w : State, w.mem = s.mem ∧ s.serveLine r a = { w with answer := w.lineAnswer a 64 } := by
  unfold State.serveLine
  rw [read]
  refine ⟨_, ?mem, rfl⟩
  rw [State.readLine_mem, State.heatOne_mem]

/-- Bytes are read from memory alone. -/
theorem State.readBytes_congr {s t : State} (same : t.mem = s.mem) (a n : Nat) : t.readBytes a n = s.readBytes a n :=
  congrArg (fun m => leBytes n (memNat m a n)) same

/-! ### Accesses to registers (R17, R22) -/

section Access
variable {s} {ag : Agent} {a width : Nat} (write : Bool) (f : State → State)

/-- What an access that is served does. -/
theorem State.csrAccess_served (path : s.csrPath ag a width = .served) : s.csrAccess ag a width write f = f { s with answer := .none } := by
  unfold State.csrAccess
  rw [path]

/-- What an access does in a block whose domain is off. -/
theorem State.csrAccess_silent (path : s.csrPath ag a width = .silent) :
    s.csrAccess ag a width write f = { s with answer := .addressError } := by
  unfold State.csrAccess
  rw [path]

end Access

/-- A protected value that takes effect is the value in force and can be used; no other register changes. -/
theorem State.cpCommit_commits (a : Nat) (v : W64) :
    (s.cpCommit a v).rd a = v ∧ (s.cpCommit a v).cpOk a = true ∧ s.regsKeptBut (s.cpCommit a v) [a] :=
  ⟨Tbl.get_set_same _ _ _, congrArg (!·) (Tbl.get_set_same _ _ _), fun _ other => Tbl.get_set_ne _ _ (List.ne_of_not_mem_cons other)⟩

end Rules

end Sys2Proof.Machine

/-!
Requests of the stacks, descriptors, frames and pseudo-channels: which way a request goes, and what the commands do.
-/
namespace Sys2Proof.Machine

section Requests
variable (s : State)

/-! ### The way of a request (R246, R256, R273) -/

/-- A request translates: its line lies at DPA `a`, every check of R256 holds, and the frame's pseudo-channel is not retired. -/
structure State.Translates (s : State) (r : LineAccess) (a : Nat) : Prop where
  mapped : s.slabDpa r.handle.toNat (r.off / 64 * 64) = some a
  allowed : s.handleOk r.user r.handle.toNat (r.off / 64 * 64) 64 r.data.isSome = true
  live : s.pcRetired a = false

/-- A stack that does not serve, or whose tracker is full, has no entry for a request. -/
theorem noEntry {l : List Tracked} {own serves : Bool} (busy : serves = false ∨ trackerEntry l own = none) :
    (trackerEntry l own).filter (fun _ => serves) = none := by
  rcases busy with asleep | full
  · rw [asleep]
    cases trackerEntry l own <;> rfl
  · rw [full]
    rfl

/-- The state once a request has a tracker entry. -/
def State.entryTaken (s : State) (n : Nat) (e : Tracked) : State :=
  (s.updStacks (fun k => { k with tracked := k.tracked.upd n (· ++ [e]) })).trackCount n

section Way
variable {s} {r : LineAccess} {a : Nat} (ok : s.Translates r a)
include ok

/-- What the checks leave of a request that translates is its DPA. -/
theorem State.Translates.checked :
    (s.slabDpa r.handle.toNat (r.off / 64 * 64)).filter (fun a => s.handleOk r.user r.handle.toNat (r.off / 64 * 64) 64 r.data.isSome &&
      !s.pcRetired a) = some a := by
  rw [ok.mapped, Option.filter_some, ok.allowed, ok.live]
  rfl

/-- A stack whose domain is off answers an address error without an event. -/
theorem State.Translates.domain_off (off : s.domOn (stackDomain (a / 0x1000000000)) = false) :
    s.stackAccess r = { s with answer := .addressError } := by
  simp only [State.stackAccess, ok.checked, off, Bool.not_false, if_true]

variable (on : s.domOn (stackDomain (a / 0x1000000000)) = true)
include on

/-- At its slab's switch, a request is held. -/
theorem State.Translates.held (switching : s.rdF (Reg.hubSlab (s.slabOf r.handle.toNat r.off).1) 21 20 = 2) :
    s.stackAccess r = s.updStacks (fun k => { k with held := k.held ++ [r] }) := by
  simp only [State.stackAccess, ok.checked, on, switching, Bool.not_true, Bool.false_eq_true, if_false, if_true]

/-- At no switch, a request takes the tracker entry that is open to it at a stack that serves, or waits. -/
theorem State.Translates.tracked (free : s.rdF (Reg.hubSlab (s.slabOf r.handle.toNat r.off).1) 21 20 ≠ 2) {n : Nat} (stack : n = a / 0x1000000000)
    {own : Bool} (same : own = r.die.any (fun d => decide (n / 3 = d.val))) :
    s.stackAccess r = ((trackerEntry (s.stackSide.tracked.get n) own).filter (fun _ => s.stackServes n)).elim
      (s.updStacks (fun k => { k with waiting := k.waiting.upd n (· ++ [r]) }))
      (fun shared => (s.entryTaken n ⟨own, shared, r.handle.toNat, frameOfDpa a⟩).serveLine r a) := by
  subst stack
  have die : own = (match r.die with | some d => decide (a / 0x1000000000 / 3 = d.val) | none => false) := by
    rw [same]
    cases r.die <;> rfl
  simp only [State.stackAccess, ok.checked, on, free, Bool.not_true, Bool.false_eq_true, if_false, die]
  cases Option.filter _ (trackerEntry _ _) <;> rfl

end Way

/-- A request that does not translate, fails a check of R256 or reaches a retired pseudo-channel is an address error. -/
theorem State.stackAccess_refused {r : LineAccess} (bad : s.slabDpa r.handle.toNat (r.off / 64 * 64) = none ∨
    s.handleOk r.user r.handle.toNat (r.off / 64 * 64) 64 r.data.isSome = false ∨
    ∃ a, s.slabDpa r.handle.toNat (r.off / 64 * 64) = some a ∧ s.pcRetired a = true) :
    s.stackAccess r = s.requestError r ((s.slabDpa r.handle.toNat (r.off / 64 * 64)).getD 0) := by
  have refused : (s.slabDpa r.handle.toNat (r.off / 64 * 64)).filter (fun a =>
      s.handleOk r.user r.handle.toNat (r.off / 64 * 64) 64 r.data.isSome && !s.pcRetired a) = none := by
    rw [Option.filter_eq_none_iff]
    intro a mapped
    rcases bad with unmapped | denied | ⟨b, lies, retired⟩
    · rw [unmapped] at mapped
      cases mapped
    · rw [denied, Bool.false_and]
      exact Bool.false_ne_true
    · rw [lies] at mapped
      cases mapped
      rw [retired, Bool.not_true, Bool.and_false]
      exact Bool.false_ne_true
  simp only [State.stackAccess, refused]

/-! ### Address errors (R20, R256) -/

/-- `t` answers an address error, and holds every byte and the stacks as `s` does. -/
structure State.Refused (s t : State) : Prop where
  answer : t.answer = .addressError
  mem : t.mem = s.mem
  side : t.stackSide = s.stackSide

theorem State.Refused.event {s t : State} (h : s.Refused t) (name : Nat) (unit : EvUnit) (detail : Nat) (part : Option Nat) (agent : Nat) :
    s.Refused (t.event name unit detail part agent) where
  answer := (State.event_answer ..).trans h.answer
  mem := (State.event_mem ..).trans h.mem
  side := (State.event_stackSide ..).trans h.side

/-- Whoever made the access, the event is all that an address error leaves. -/
theorem State.refused_addressError (ag : Agent) (a : Nat) (write : Bool) : s.Refused (s.addressError ag a write) := by
  have answered : s.Refused { s with answer := .addressError } := ⟨rfl, rfl, rfl⟩
  cases ag <;> exact answered.event _ _ _ _ _

/-- A request's error is an address error of its kind of requester. -/
theorem State.refused_requestError (r : LineAccess) (a : Nat) : s.Refused (s.requestError r a) := by
  have answered : s.Refused { s with answer := .addressError } := ⟨rfl, rfl, rfl⟩
  unfold State.requestError
  cases r.user with
  | host p => exact answered.event _ _ _ _ _
  | system | engine | remote => exact s.refused_addressError _ a _

/-! ### The commands -/

/-- What DESCRIPTOR_WRITE does with an access that is served. -/
theorem execDescriptorWrite_served {ag : Agent} {x : BitVec 16} {j : Fin 4} (path : s.csrPath ag (descWord x.toNat j.val) 8 = .served) (v : W64) :
    execDescriptorWrite ag x j v s = .next (if ag = .sch ∧ s.descWriteOk x.toNat j.val (v &&& descMask j.val) = true then
      ({ s with answer := .none } : State).cpCommit (descWord x.toNat j.val) (v &&& descMask j.val)
      else ({ s with answer := .none } : State).refuseWrite ag) :=
  congrArg Host.Outcome.next (State.csrAccess_served _ _ path)

end Requests

/-- Settles O26, command by command. -/
theorem stackCommandsTakeEffect : Obligations.StackCommandsTakeEffect := by
  refine ⟨?line, ?request, ?freed, ?patrol, ?descriptor, ?drained, ?cleared, ?retired, ?retry⟩
  case line =>
    rintro v _ r a rfl
    constructor
    · intro bs write
      obtain ⟨origin, served⟩ := v.serveLine_write write a
      rw [served]
      exact ⟨rfl, v.heatOne (frameOfDpa a) origin, rfl, rfl, rfl⟩
    · intro read
      obtain ⟨w, mem, served⟩ := v.serveLine_read read a
      rw [served, ← State.readBytes_congr mem]
      exact ⟨mem, rfl⟩
  case request =>
    rintro s _ v r ecc bad h o rfl rfl rfl rfl
    constructor
    · rintro a _ own mapped allowed live rfl same
      have ok : State.Translates _ r a := ⟨mapped, allowed, live⟩
      refine ⟨fun off => congrArg Host.Outcome.next (ok.domain_off off), fun on switching => congrArg Host.Outcome.next (ok.held on switching),
        fun on free => ⟨fun busy => congrArg Host.Outcome.next ((ok.tracked on free rfl same).trans ?_), ?_⟩⟩
      · exact congrArg (Option.elim · _ _) (noEntry busy)
      · rintro shared _ serves entry rfl
        refine congrArg Host.Outcome.next ((ok.tracked on free rfl same).trans ?_)
        rw [entry, Option.filter_some, serves]
        rfl
    · intro bad
      obtain ⟨answer, mem, side⟩ := State.refused_requestError _ r _
      exact ⟨_, congrArg Host.Outcome.next (State.stackAccess_refused _ bad), rfl, answer, mem, side⟩
  case freed =>
    intro s n i entry
    exact congrArg Host.Outcome.next (if_pos entry)
  case patrol => exact fun _ _ _ _ => rfl
  case descriptor =>
    intro s x j v
    refine ⟨fun path may => ?_, fun ag path refused => ?_, fun ag path => congrArg Host.Outcome.next (State.csrAccess_silent _ _ path)⟩
    · exact ⟨_, (execDescriptorWrite_served s path v).trans (congrArg Host.Outcome.next (if_pos ⟨rfl, may⟩)), State.cpCommit_commits _ _ _⟩
    · refine (execDescriptorWrite_served s path v).trans (congrArg Host.Outcome.next (if_neg ?_))
      rintro ⟨sch, may⟩
      rcases refused with other | forbidden
      · exact other sch
      · exact Bool.false_ne_true (forbidden.symm.trans may)
  case drained =>
    rintro s _ x dying quiet rfl
    have idle := List.all_eq_true.2 (fun n stack => List.all_eq_true.2 (fun t entry =>
      decide_eq_true (quiet n (List.mem_range.1 stack) t entry)))
    exact congrArg Host.Outcome.next (if_pos ⟨dying, idle⟩)
  case cleared =>
    intro s n f clearing
    exact congrArg Host.Outcome.next (if_pos clearing)
  case retired =>
    intro s n p draining empty
    exact congrArg Host.Outcome.next (if_pos ⟨draining, empty⟩)
  case retry =>
    rintro s n p _ rfl
    refine ⟨_, rfl, Tbl.get_set_same _ _ _, ?_, fun a other => State.rd_wrF_ne _ _ _ _ (List.ne_of_not_mem_cons other)⟩
    refine (State.rdF_wrF_same _ _ _ _ _ (by decide) (by decide)).trans ?_
    cases List.filter _ (s.stackSide.stranded.get _) <;> rfl

end Sys2Proof.Machine

/-!
Heat windows and migrations: what STK_HEAT shows after a window, and what the commands of a migration do when nothing stops them.
-/
namespace Sys2Proof.Machine

/-! ### Entries written one after another -/

/-- Of the entries written one after another, those of the key decide, the last one before the others. -/
theorem Tbl.get_addAll {α : Type} [Inhabited α] [DecidableEq α] (l : List (Nat × α)) (m : Tbl α) (i : Nat) :
    Tbl.get (m.addAll l) i = (l.filter (fun e => decide (e.1 = i))).foldl (fun _ e => e.2) (Tbl.get m i) := by
  unfold Tbl.addAll
  induction l generalizing m with
  | nil => rfl
  | cons e l ih =>
    rw [List.foldl_cons, ih, Tbl.get_set]
    by_cases same : e.1 = i
    · rw [if_pos same.symm, List.filter_cons, if_pos (decide_eq_true same), List.foldl_cons]
    · rw [if_neg (Ne.symm same), List.filter_cons, if_neg (mt of_decide_eq_true same)]

/-! ### Heat windows (R268, R290, R294) -/

/-- The live counters of a stack as its STK_HEAT registers. -/
def State.liveHeat (s : State) (n : Nat) : Tbl W64 :=
  (s.stackSide.heat.filter (fun e => frameNo n 0 ≤ e.1 ∧ e.1 < frameNo n 32768)).map
    (fun e => (Reg.stkHeat n 0 + 8 * (e.1 - frameNo n 0), e.2))

/-- The registers with a stack's STK_HEAT made its live counters. -/
def State.heatShown (s : State) (n : Nat) : Tbl W64 :=
  (s.csr.clear (Reg.stkHeat n 0) (Reg.stkHeat n 0 + 0x40000)).addAll (s.liveHeat n)

/-- The live counters that become the STK_HEAT register of a frame are those of the frame. -/
theorem State.liveHeat_frame (s : State) (n : Nat) {f : Nat} (frame : f < 32768) :
    (s.liveHeat n).filter (fun e => decide (e.1 = Reg.stkHeat n f)) =
      (s.stackSide.heat.filter (fun e => e.1 = frameNo n f)).map (fun e => (Reg.stkHeat n 0 + 8 * (e.1 - frameNo n 0), e.2)) := by
  unfold State.liveHeat
  rw [List.filter_map, List.filter_filter]
  refine congrArg (List.map _) (List.filter_congr (fun e _ => ?_))
  rw [Function.comp_apply, Bool.eq_iff_iff, Bool.and_eq_true, decide_eq_true_eq, decide_eq_true_eq, decide_eq_true_eq]
  unfold Reg.stkHeat frameNo
  omega

/-- After a window the STK_HEAT register of a frame reads as the frame's live counters. -/
theorem State.heatShown_frame (s : State) (n : Nat) {f : Nat} (frame : f < 32768) :
    Tbl.get (s.heatShown n) (Reg.stkHeat n f) = (s.stackSide.heat.filter (fun e => e.1 = frameNo n f)).foldl (fun _ e => e.2) 0 := by
  unfold State.heatShown
  rw [Tbl.get_addAll, State.liveHeat_frame s n frame, Tbl.get_clear _ _ _ _ (by omega), if_pos (by unfold Reg.stkHeat; omega), List.foldl_map]
  rfl

/-- A register outside the stack's STK_HEAT reads as before. -/
theorem State.heatShown_outside (s : State) (n : Nat) {a : Nat} (outside : a < Reg.stkHeat n 0 ∨ Reg.stkHeat n 0 + 0x40000 ≤ a) :
    Tbl.get (s.heatShown n) a = s.rd a := by
  have none : (s.liveHeat n).filter (fun e => decide (e.1 = a)) = [] := by
    refine List.filter_eq_nil_iff.2 (fun e live => ?_)
    obtain ⟨c, counter, rfl⟩ := List.mem_map.1 live
    obtain ⟨first, past⟩ := of_decide_eq_true (List.mem_filter.1 counter).2
    rw [decide_eq_true_eq]
    unfold frameNo at first past ⊢
    omega
  unfold State.heatShown
  rw [Tbl.get_addAll, none, Tbl.get_clear _ _ _ _ (by omega), if_neg (by omega)]
  rfl

/-- The state after the window's counters have moved, before the placer marks its candidates. -/
def State.heatMoved (s : State) (n : Nat) : State :=
  (({ s with csr := s.heatShown n } : State).updStacks (fun k => { k with
    heat := k.heat.clear (frameNo n 0) (frameNo n 32768)
    heatBefore := k.heatBefore.splice (frameNo n 0) (frameNo n 32768)
      ((s.csr.filter (fun e => Reg.stkHeat n 0 ≤ e.1 ∧ e.1 < Reg.stkHeat n 0 + 0x40000)).map
        (fun e => (frameNo n 0 + (e.1 - Reg.stkHeat n 0) / 8, e.2))) })).wr (Reg.stkHeatGen n)
    (Tbl.get (s.heatShown n) (Reg.stkHeatGen n) + 2)

/-- HEAT_WINDOW_END moves the counters, then marks the candidates. -/
theorem execHeatWindowEnd_marks (s : State) (n : Fin 12) :
    execHeatWindowEnd n s = .next ((s.heatMoved n).updStacks (fun k => { k with
      candidates := k.candidates.filter (fun c => (s.heatMoved n).slabFrame c.slab / 32768 ≠ n) ++ (s.heatMoved n).evaluate n })) := rfl

theorem State.heatMoved_stkHeat (s : State) (n : Nat) {f : Nat} (frame : f < 32768) :
    (s.heatMoved n).rd (Reg.stkHeat n f) = (s.stackSide.heat.filter (fun e => e.1 = frameNo n f)).foldl (fun _ e => e.2) 0 :=
  (State.rd_wr_ne _ _ (by unfold Reg.stkHeat Reg.stkHeatGen; omega)).trans (s.heatShown_frame n frame)

theorem State.heatMoved_stkHeatGen (s : State) (n : Nat) : (s.heatMoved n).rd (Reg.stkHeatGen n) = s.rd (Reg.stkHeatGen n) + 2 :=
  (State.rd_wr_same _ _ _).trans (congrArg (· + 2) (s.heatShown_outside n (.inl (by unfold Reg.stkHeat Reg.stkHeatGen; omega))))

/-- The live counters of the stack's frames start again from 0. -/
theorem State.heatMoved_live (s : State) (n : Nat) {f : Nat} (frame : f < 32768) :
    (s.heatMoved n).stackSide.heat.get (frameNo n f) = 0 :=
  (Tbl.get_clear _ _ _ _ (by unfold frameNo; omega)).trans (if_pos (by unfold frameNo; omega))

/-! ### Migrations (R272 to R275) -/

/-- Settles O27, command by command: each hypothesis decides one branch on the command's way. -/
theorem heatAndMigrationsTakeEffect : Obligations.HeatAndMigrationsTakeEffect := by
  refine ⟨?window, ?start, ?passEnd, ?switch⟩
  case window =>
    intro s n
    refine ⟨_, execHeatWindowEnd_marks s n, fun f frame => ⟨s.heatMoved_live n frame, fun none => ?_, fun v one => ?_⟩,
      s.heatMoved_stkHeatGen n, rfl, rfl, rfl⟩
    · exact (s.heatMoved_stkHeat n frame).trans (by rw [none]; rfl)
    · exact (s.heatMoved_stkHeat n frame).trans (by rw [one]; rfl)
  case start =>
    rintro s u y picks x k n m mv drain cand owner rfl rfl rfl ready may slots base stack plan
    refine ⟨_, congrArg Host.Outcome.next ?started, ?mem, ?migs, ?frames, rfl⟩
    case started =>
      simp only [owner, ready, may, slots, base, stack, plan]
      rfl
    case mem => exact State.each_cpCommit_mem ..
    case migs => exact congrArg (·.migs ++ _) (State.each_cpCommit_stackSide ..)
    case frames => exact (congrArg Stacks.frames (u.each_cpCommit_stackSide mv _ _) :)
  case passEnd =>
    rintro s _ v y late ecc g mv sw rfl found rfl rfl
    constructor
    · refine congrArg Host.Outcome.next ?_
      simp only [found]
      rfl
    · rintro copied _ rfl
      refine congrArg Host.Outcome.next ?_
      simp only [found, copied]
      rfl
  case switch =>
    rintro s _ v y ecc g rfl found idle copied
    refine congrArg Host.Outcome.next ?_
    simp only [found, idle, copied]
    rfl

end Sys2Proof.Machine

/-!
Vector units: which way the command of an instruction or of a built-in program goes with a unit's work item.
-/
namespace Sys2Proof.Machine

/-- Where two functions give the same lists, they agree at each member. -/
theorem eq_of_mem_of_map_eq {α β : Type} {l : List α} {x : α} (mem : x ∈ l) (f g : α → β) (same : l.map f = l.map g) : f x = g x :=
  List.map_inj_left.1 same x mem

/-- Vector unit `u` of stack `n` holds the work item `w` of the running call of `r`. -/
structure State.Runs (s : State) (n u : Nat) (w : WorkItem) (r : BaseRun) : Prop where
  item : s.unitItem n u = some w
  run : (s.bases.get n).run = some r

/-! ### A computation of a work item (R309, R315) -/

section Computation
variable {s : State} {n u : Nat} {w : WorkItem} {r : BaseRun} (run : (s.bases.get n).run = some r) {m : BaseM Unit} {b : BaseSt}
include run

/-- What a computation without a failure changed stays. -/
theorem State.runUnit_ok (runs : m.run.run { st := s, n := n, call := r.call, item := w } = (.ok (), b))
    (after : State → BaseCall → WorkItem → State) : s.runUnit n u w m after = after b.st r.call b.item := by
  simp only [State.runUnit, run, runs]

/-- A failure of the computation is the work item's. -/
theorem State.runUnit_error {f : BaseFault} (fails : m.run.run { st := s, n := n, call := r.call, item := w } = (.error f, b))
    (after : State → BaseCall → WorkItem → State) : s.runUnit n u w m after = b.st.failItem n u b.item f := by
  simp only [State.runUnit, run, fails]

end Computation

section Unit
variable {s : State} {n u : Nat} {w : WorkItem} {r : BaseRun} (on : s.Runs n u w r)
include on

/-! ### The command of an instruction (R309, R313) -/

/-- A unit's step, once its work item and its call are known to run a program in code memory. -/
theorem State.Runs.unitStep_eq (coded : s.callProgram n r.call.entry < 0x4000) (op : Nat) : s.unitStep n u op =
    if (!baseLegal (s.codeWord n w.pc)) = true then s.failItem n u w { code := 0x2 }
    else if bwOp (s.codeWord n w.pc) ≠ op then s
    else if 1048576 ≤ w.executed then s.failItem n u w { code := 0x4 }
    else if op = 0x5F then s.endItem n u r.call w
    else s.runUnit n u w (BaseM.instr (s.codeWord n w.pc) (s.codeWord n (w.pc + 1)))
      (fun s _ w => s.updBase n (fun b => { b with units := b.units.set u (some w) })) := by
  simp only [State.unitStep, on.item, on.run]
  exact if_neg (Nat.not_le.2 coded)

variable (coded : s.callProgram n r.call.entry < 0x4000)
include coded

theorem State.Runs.unitStep_illegal (illegal : baseLegal (s.codeWord n w.pc) = false) (op : Nat) :
    s.unitStep n u op = s.failItem n u w { code := 0x2 } :=
  (on.unitStep_eq coded op).trans (if_pos (congrArg (!·) illegal))

variable (legal : baseLegal (s.codeWord n w.pc) = true)
include legal

theorem State.Runs.unitStep_legal (op : Nat) : s.unitStep n u op =
    if bwOp (s.codeWord n w.pc) ≠ op then s
    else if 1048576 ≤ w.executed then s.failItem n u w { code := 0x4 }
    else if op = 0x5F then s.endItem n u r.call w
    else s.runUnit n u w (BaseM.instr (s.codeWord n w.pc) (s.codeWord n (w.pc + 1)))
      (fun s _ w => s.updBase n (fun b => { b with units := b.units.set u (some w) })) :=
  (on.unitStep_eq coded op).trans (if_neg (Bool.eq_false_iff.1 (congrArg (!·) legal)))

theorem State.Runs.unitStep_other {op : Nat} (other : bwOp (s.codeWord n w.pc) ≠ op) : s.unitStep n u op = s :=
  (on.unitStep_legal coded legal op).trans (if_pos other)

variable {op : Nat} (here : bwOp (s.codeWord n w.pc) = op)
include here

theorem State.Runs.unitStep_spent (spent : 1048576 ≤ w.executed) : s.unitStep n u op = s.failItem n u w { code := 0x4 } :=
  (on.unitStep_legal coded legal op).trans ((if_neg (not_not_intro here)).trans (if_pos spent))

variable (left : w.executed < 1048576)
include left

/-- BASE_END ends its work item. -/
theorem State.Runs.unitStep_end (ends : op = 0x5F) : s.unitStep n u op = s.endItem n u r.call w :=
  (on.unitStep_legal coded legal op).trans ((if_neg (not_not_intro here)).trans ((if_neg (Nat.not_le.2 left)).trans (if_pos ends)))

/-- Any other instruction runs on its work item. -/
theorem State.Runs.unitStep_runs (goesOn : op ≠ 0x5F) : s.unitStep n u op =
    s.runUnit n u w (BaseM.instr (s.codeWord n w.pc) (s.codeWord n (w.pc + 1)))
      (fun s _ w => s.updBase n (fun b => { b with units := b.units.set u (some w) })) :=
  (on.unitStep_legal coded legal op).trans ((if_neg (not_not_intro here)).trans ((if_neg (Nat.not_le.2 left)).trans (if_neg goesOn)))

end Unit

/-! ### The command of a built-in program (R318, R319) -/

/-- Whether a work item of a lower tile runs on a unit of the stack, which BSCAT waits for (R319). -/
theorem State.Runs.unitBuiltin_runs {s : State} {n u : Nat} {w : WorkItem} {r : BaseRun} (on : s.Runs n u w r) {prog : Nat}
    (named : s.callProgram n r.call.entry = prog)
    (lowest : prog = 0x8003 → ∀ x, x < 128 → ∀ o, s.unitItem n x = some o → w.tile ≤ o.tile) (m : BaseM Unit) :
    s.unitBuiltin n u prog m = s.runUnit n u w m (fun s call w => s.endItem n u call w) := by
  simp only [State.unitBuiltin, on.item, on.run]
  rw [if_neg (not_not_intro named), if_neg]
  rintro ⟨scatter, lower⟩
  obtain ⟨x, unit, before⟩ := List.any_eq_true.1 lower
  split at before
  · rename_i o runs
    exact absurd (lowest scatter x (List.mem_range.1 unit) o runs) (Nat.not_le.2 (of_decide_eq_true before))
  · cases before

/-- Settles O28: the command of each instruction and program is its unit's step or run, whose branches the hypotheses decide. -/
theorem baseInstructionsRunTheirWorkItem : Obligations.BaseInstructionsRunTheirWorkItem := by
  rintro s _ n u ecc w r rfl item run
  have on : (s.upset ecc).Runs n u w r := ⟨item, run⟩
  refine ⟨?instruction, ?ends, ?builtin, ?limit⟩
  case instruction =>
    rintro _ _ c op coded rfl rfl mem
    have step : exec c s = .next ((s.upset ecc).unitStep n u op) :=
      eq_of_mem_of_map_eq mem (fun e => exec e.2 s) (fun e => .next ((s.upset ecc).unitStep n u e.1)) rfl
    have goesOn : op ≠ 0x5F :=
      of_decide_eq_true (eq_of_mem_of_map_eq mem (fun e => decide (e.1 ≠ 0x5F)) (fun _ => true) rfl)
    rw [step]
    refine ⟨fun illegal => ?_, fun legal other => ?_, fun legal here spent => ?_,
      fun legal here left b => ⟨fun runs => ?_, fun f fails => ?_⟩⟩
    · rw [on.unitStep_illegal coded illegal]
    · rw [on.unitStep_other coded legal other]
    · rw [on.unitStep_spent coded legal here spent]
    · rw [on.unitStep_runs coded legal here left goesOn, State.runUnit_ok run runs]
    · rw [on.unitStep_runs coded legal here left goesOn, State.runUnit_error run fails]
  case ends =>
    intro coded legal here left
    exact congrArg Host.Outcome.next (on.unitStep_end coded legal here left rfl)
  case builtin =>
    intro prog c m mem named lowest b
    have starts : exec c s = .next ((s.upset ecc).unitBuiltin n u prog m) :=
      eq_of_mem_of_map_eq mem (fun e => exec e.2.1 s) (fun e => .next ((s.upset ecc).unitBuiltin n u e.1 e.2.2)) rfl
    rw [starts, on.unitBuiltin_runs named lowest]
    exact ⟨fun runs => by rw [State.runUnit_ok run runs], fun f fails => by rw [State.runUnit_error run fails]⟩
  case limit =>
    intro t item spent
    refine congrArg Host.Outcome.next ?_
    simp only [item]
    exact if_pos spent

end Sys2Proof.Machine

/-!
What base instructions make of their work item: lanes, masks, scalar registers and the PC.
-/
namespace Sys2Proof.Machine

theorem ite_congr_of_iff {α : Type} {P Q : Prop} [Decidable P] [Decidable Q] {x y u v : α} (conditions : P ↔ Q) (yes : x = u) (no : y = v) :
    (if P then x else y) = if Q then u else v :=
  ite_congr (propext conditions) (fun _ => yes) (fun _ => no)

/-! ### Lanes written one after another -/

/-- Of the writes to the places of a list, one after another, the one to place `l` decides what is read of it. -/
theorem read_foldl_zipIdx {σ α β : Type} {write : σ → α × Nat → σ} {read : σ → β} {g : α → β} {on : Prop} [Decidable on]
    {l top : Nat} (here : ∀ t x, read (write t (x, l)) = if on then g x else read t)
    (elsewhere : ∀ t x i, i < top → i ≠ l → read (write t (x, i)) = read t) :
    ∀ (xs : List α) (t : σ) (k : Nat), k + xs.length ≤ top →
      read ((xs.zipIdx k).foldl write t) = if on ∧ k ≤ l then ((xs.map g)[l - k]?).getD (read t) else read t
  | [], t, k, _ => (ite_self _).symm
  | x :: xs, t, k, fits => by
    rw [List.length_cons] at fits
    rw [List.zipIdx_cons, List.foldl_cons, read_foldl_zipIdx here elsewhere xs _ _ (by omega), List.map_cons]
    rcases Nat.lt_trichotomy k l with before | rfl | after
    · rw [elsewhere _ _ _ (by omega) (by omega), show l - k = l - (k + 1) + 1 by omega, List.getElem?_cons_succ]
      exact ite_congr_of_iff (and_congr_right (fun _ => by omega)) rfl rfl
    · rw [if_neg (by omega), here, Nat.sub_self, List.getElem?_cons_zero, Option.getD_some]
      exact ite_congr_of_iff (and_iff_left (Nat.le_refl k)).symm rfl rfl
    · rw [if_neg (by omega), if_neg (by omega), elsewhere _ _ _ (by omega) (by omega)]

/-! ### Registers of a work item (R296, R310) -/

section Item
variable (w : WorkItem)

@[simp] theorem WorkItem.setX_executed (r : Nat) (v : W64) : (w.setX r v).executed = w.executed := by
  unfold WorkItem.setX
  split <;> rfl

/-- The lanes of a vector register after some of a register's lanes are written (R309). -/
theorem WorkItem.setV_lane (d mask j : Nat) {ls : List Nat} (full : ls.length ≤ 32) {l : Nat} (lane : l < 32) :
    (w.setV d mask ls).vregs.get (32 * j + l) =
      if j = d ∧ natBit mask l then ((ls.map (BitVec.ofNat 32))[l]?).getD (w.vregs.get (32 * j + l)) else w.vregs.get (32 * j + l) := by
  have read := read_foldl_zipIdx (l := l) (top := 32) (on := j = d ∧ natBit mask l) (g := BitVec.ofNat 32)
    (read := fun t : Tbl W32 => t.get (32 * j + l))
    (write := fun t x => if natBit mask x.2 then Tbl.set t (32 * d + x.2) (BitVec.ofNat 32 x.1) else t)
    ?here ?elsewhere ls w.vregs 0 (by omega)
  · exact read.trans (ite_congr_of_iff (and_iff_left (Nat.zero_le l)) rfl rfl)
  case here =>
    intro t x
    by_cases on : natBit mask l = true
    · refine (congrArg (Tbl.get · _) (if_pos on)).trans ((Tbl.get_set ..).trans (ite_congr_of_iff ?_ rfl rfl))
      rw [and_iff_left on]
      omega
    · exact (congrArg (Tbl.get · _) (if_neg on)).trans (if_neg (fun both => on both.2)).symm
  case elsewhere =>
    intro t x i inside other
    split
    · exact Tbl.get_set_ne _ _ (by omega)
    · rfl

end Item

/-- A mask register's bits after a compare, lane by lane (R309). -/
theorem testBit_foldl_hits (mask old : Nat) {hits : List Bool} (l : Nat) :
    (hits.zipIdx.foldl (fun a x => if natBit mask x.2 then (a ||| 2 ^ x.2) ^^^ (if x.1 then 0 else 2 ^ x.2) else a) old).testBit l =
      if natBit mask l then (hits[l]?).getD (old.testBit l) else old.testBit l := by
  have read := read_foldl_zipIdx (l := l) (top := hits.length) (on := natBit mask l) (g := id) (read := fun a : Nat => a.testBit l)
    (write := fun a (x : Bool × Nat) => if natBit mask x.2 then (a ||| 2 ^ x.2) ^^^ (if x.1 then 0 else 2 ^ x.2) else a)
    ?here ?elsewhere hits old 0 (by omega)
  · rw [List.map_id] at read
    exact read.trans (ite_congr_of_iff (and_iff_left (Nat.zero_le l)) rfl rfl)
  case here =>
    intro a hit
    split
    · cases hit <;> simp
    · rfl
  case elsewhere =>
    intro a hit i _ other
    split
    · cases hit <;> simp [other]
    · rfl

/-! ### What an instruction makes of its work item (R309, R313) -/

/-- A computation goes on from the answer and the state of its first part. -/
theorem BaseM.run_bind_ok {α β : Type} {m : BaseM α} {b c : BaseSt} {x : α} (first : m.run.run b = (.ok x, c)) (f : α → BaseM β) :
    (m >>= f).run.run b = (f x).run.run c := by
  rw [ExceptT.run_bind, StateT.run_bind, first]
  rfl

section Instr
variable {b : BaseSt} {w0 w1 : Nat}

/-- Where a work item goes on after an instruction. -/
def BaseSt.nextPc (b : BaseSt) (w0 w1 : Nat) : Nat :=
  if 0x50 ≤ bwOp w0 ∧ bwOp w0 ≤ 0x54 ∧ baseTaken (bwOp w0) (b.item.x (bwA w0)) (b.item.x (bwB w0)) then baseTarget b.item.pc w1
  else b.item.pc + baseWords (bwOp w0)

/-- The work item after an instruction that has made `i` of it: its PC moves and the instruction counts (R313). -/
def BaseSt.stepped (b : BaseSt) (w0 w1 : Nat) (i : WorkItem) : BaseSt :=
  { b with item := { i with pc := b.nextPc w0 w1, executed := i.executed + 1 } }

/-- The mask that a compare makes of a mask register (R309). -/
def WorkItem.compared (w : WorkItem) (w0 : Nat) : W32 :=
  BitVec.ofNat 32 ((((w.v (bwA w0)).zip (w.v (bwB w0))).map (fun x => baseCompare (bwOp w0) x.1 x.2)).zipIdx.foldl
    (fun a x => if natBit (w.k (bwK w0)) x.2 then (a ||| 2 ^ x.2) ^^^ (if x.1 then 0 else 2 ^ x.2) else a) (w.k (bwD w0)))

theorem BaseM.instr_scalar (from40 : 0x40 ≤ bwOp w0) (to48 : bwOp w0 ≤ 0x48) : (BaseM.instr w0 w1).run.run b =
    (.ok (), b.stepped w0 w1 (b.item.setX (bwD w0) (baseScalar (bwOp w0) (b.item.x (bwA w0)) (b.item.x (bwB w0)) w1))) := by
  have noLoad : ¬ bwOp w0 = 0x30 := by omega
  have noStore : ¬ bwOp w0 = 0x31 := by omega
  have noCompare : ¬ (0x0B ≤ bwOp w0 ∧ bwOp w0 ≤ 0x0D) := by omega
  have noVector : ¬ bwOp w0 < 0x30 := by omega
  simp only [BaseM.instr, noLoad, noStore, noCompare, noVector, to48, if_false, if_true]
  rfl

theorem BaseM.instr_flow (after48 : 0x48 < bwOp w0) : (BaseM.instr w0 w1).run.run b =
    (.ok (), b.stepped w0 w1 b.item) := by
  have noLoad : ¬ bwOp w0 = 0x30 := by omega
  have noStore : ¬ bwOp w0 = 0x31 := by omega
  have noCompare : ¬ (0x0B ≤ bwOp w0 ∧ bwOp w0 ≤ 0x0D) := by omega
  have noVector : ¬ bwOp w0 < 0x30 := by omega
  have noScalar : ¬ bwOp w0 ≤ 0x48 := by omega
  simp only [BaseM.instr, noLoad, noStore, noCompare, noVector, noScalar, if_false]
  rfl

theorem BaseM.instr_compare (from0B : 0x0B ≤ bwOp w0) (to0D : bwOp w0 ≤ 0x0D) : (BaseM.instr w0 w1).run.run b =
    (.ok (), b.stepped w0 w1 { b.item with masks := b.item.masks.set (bwD w0) (b.item.compared w0) }) := by
  have noLoad : ¬ bwOp w0 = 0x30 := by omega
  have noStore : ¬ bwOp w0 = 0x31 := by omega
  simp only [BaseM.instr, noLoad, noStore, from0B, to0D, and_self, if_false, if_true]
  rfl

theorem BaseM.instr_vector {ls : List Nat} (low : bwOp w0 < 0x30) (noCompare : ¬ (0x0B ≤ bwOp w0 ∧ bwOp w0 ≤ 0x0D))
    (lanes : (BaseM.vector w0 w1).run.run b = (.ok ls, b)) : (BaseM.instr w0 w1).run.run b =
    (.ok (), b.stepped w0 w1 (b.item.setV (bwD w0) (if bwOp w0 = 0x0A then 2 ^ 32 - 1 else b.item.k (bwK w0)) ls)) := by
  have noLoad : ¬ bwOp w0 = 0x30 := by omega
  have noStore : ¬ bwOp w0 = 0x31 := by omega
  simp only [BaseM.instr, noLoad, noStore, noCompare, low, if_false, if_true]
  rw [BaseM.run_bind_ok (m := get) rfl, BaseM.run_bind_ok lanes]
  rfl

/-! ### Lanes of the vector operations without a rounding (R309) -/

/-- Lane `l` of vector register `r`, as a number. -/
def WorkItem.lane (w : WorkItem) (r l : Nat) : Nat := (w.vregs.get (32 * r + l)).toNat

theorem WorkItem.v_eq (w : WorkItem) (r : Nat) : w.v r = (List.range 32).map (w.lane r) := rfl

theorem WorkItem.lane_mod (w : WorkItem) (r l : Nat) : w.lane r l % 2 ^ 32 = w.lane r l := Nat.mod_eq_of_lt (BitVec.isLt _)

theorem ofNat_mod_two_pow (w x : Nat) : BitVec.ofNat w (x % 2 ^ w) = BitVec.ofNat w x :=
  BitVec.eq_of_toNat_eq (by rw [BitVec.toNat_ofNat, BitVec.toNat_ofNat, Nat.mod_mod])

/-- What a vector operation makes of lane `l`, modulo 2^32. -/
def BaseSt.laneValue (b : BaseSt) (op w0 w1 l : Nat) : Nat :=
  let x := b.item.lane (bwA w0) l
  let y := b.item.lane (bwB w0) l
  match op with
  | 0x09 => x % 2 ^ 31
  | 0x0A => if natBit (b.item.k (bwK w0)) l then x else y
  | 0x10 => x + y
  | 0x11 => x + (2 ^ 32 - y)
  | 0x12 => x * y
  | 0x13 => x &&& y
  | 0x14 => x ||| y
  | 0x15 => x ^^^ y
  | 0x16 => x <<< (y % 32)
  | 0x17 => x >>> (y % 32)
  | 0x19 => (toF32 .rne (decodeElem 6 x)).1
  | 0x1A => (b.item.x (bwA w0)).toNat + l
  | 0x20 => (b.item.x (bwA w0)).toNat
  | 0x21 => w1
  | _ => b.st.callConst b.n b.call.entry (bwA w0)

/-- The opcodes of those operations. -/
def laneOps : List Nat := [0x0A, 0x09, 0x10, 0x11, 0x12, 0x13, 0x14, 0x15, 0x16, 0x17, 0x19, 0x1A, 0x20, 0x21, 0x22]

theorem BaseM.vector_lanes (mem : bwOp w0 ∈ laneOps) :
    ∃ ls, (BaseM.vector w0 w1).run.run b = (.ok ls, b) ∧
      ls.map (BitVec.ofNat 32) = (List.range 32).map (fun l => BitVec.ofNat 32 (b.laneValue (bwOp w0) w0 w1 l)) := by
  unfold BaseM.vector
  generalize bwOp w0 = op at mem ⊢
  simp only [laneOps, List.mem_cons, List.not_mem_nil, or_false] at mem
  rcases mem with rfl | others
  · refine ⟨_, rfl, List.map_map.trans (List.map_congr_left (fun l lane => congrArg (BitVec.ofNat 32) ?_))⟩
    simp only [WorkItem.v_eq, List.getElem?_map, List.getElem?_range (List.mem_range.1 lane), Option.map_some, Option.getD_some, BaseSt.laneValue]
  · rcases others with rfl | rfl | rfl | rfl | rfl | rfl | rfl | rfl | rfl | rfl | rfl | rfl | rfl | rfl
    all_goals
      refine ⟨_, rfl, ?_⟩
      simp only [WorkItem.v_eq, List.zip_map', List.map_map, List.map_replicate, Function.comp_def, BaseSt.laneValue, baseInt, WorkItem.lane_mod,
        ofNat_mod_two_pow, List.map_const', List.length_range]

/-! ### Where a work item goes on (R309) -/

theorem BaseSt.nextPc_next (low : bwOp w0 < 0x50) : b.nextPc w0 w1 = b.item.pc + baseWords (bwOp w0) :=
  if_neg (fun flow => Nat.not_le.2 low flow.1)

/-- A target in the code is the PC with word 1, signed, added. -/
theorem baseTarget_eq {pc w1 t : Nat} (target : (t : Int) = (pc : Int) + toSigned 32 w1) : baseTarget pc w1 = t := by
  unfold baseTarget
  rw [← target]
  exact if_neg (by omega)

theorem BaseSt.nextPc_flow {t : Nat} (from50 : 0x50 ≤ bwOp w0) (to54 : bwOp w0 ≤ 0x54) (target : (t : Int) = (b.item.pc : Int) + toSigned 32 w1) :
    b.nextPc w0 w1 = if baseTaken (bwOp w0) (b.item.x (bwA w0)) (b.item.x (bwB w0)) then t else b.item.pc + 2 := by
  unfold BaseSt.nextPc
  rw [baseTarget_eq target]
  refine ite_congr_of_iff (by simp only [from50, to54, true_and]) rfl (congrArg _ (if_pos (Or.inr (Or.inr (Or.inr ⟨from50, to54⟩)))))

/-- When the jump and each branch are taken. -/
theorem map_baseTaken (x y : W64) : [true, decide (x = y), decide (x ≠ y), decide (x.toInt < y.toInt), decide (y.toInt ≤ x.toInt)] =
    [0x50, 0x51, 0x52, 0x53, 0x54].map (baseTaken · x y) := by
  have unequal : decide (x ≠ y) = (x != y) := decide_not
  have atLeast : decide (y.toInt ≤ x.toInt) = !x.slt y := by
    rw [BitVec.slt, ← decide_not]
    exact decide_eq_decide.2 Int.not_lt.symm
  rw [unequal, atLeast]
  rfl

end Instr

/-! ### Compares (R309) -/

/-- The bits of the mask that a compare makes: of the lanes its mask names what their values give, of the others as before. -/
theorem WorkItem.compared_lane (w : WorkItem) (w0 : Nat) {l : Nat} (lane : l < 32) : (w.compared w0).getLsbD l =
    if natBit (w.k (bwK w0)) l then baseCompare (bwOp w0) (w.lane (bwA w0) l) (w.lane (bwB w0) l) else natBit (w.k (bwD w0)) l := by
  unfold WorkItem.compared
  rw [BitVec.getLsbD_ofNat, decide_eq_true lane, Bool.true_and, testBit_foldl_hits, WorkItem.v_eq, WorkItem.v_eq, List.zip_map', List.map_map,
    List.getElem?_map, List.getElem?_range lane]
  rfl

/-! ### The command of an instruction that does not fail -/

/-- The instruction at the PC of a unit's work item is legal and may run (R309, R313). -/
structure State.MayRun (s : State) (n u : Nat) (w : WorkItem) (r : BaseRun) : Prop extends s.Runs n u w r where
  coded : s.callProgram n r.call.entry < 0x4000
  legal : baseLegal (s.codeWord n w.pc) = true
  left : w.executed < 1048576

/-- The state with a work item on a vector unit. -/
def State.onUnit (s : State) (n u : Nat) (w : WorkItem) : State := s.updBase n (fun z => { z with units := z.units.set u (some w) })

section Command
variable {s : State} {n u : Nat} {w : WorkItem} {r : BaseRun} (may : s.MayRun n u w r) {w0 w1 : Nat} (word0 : s.codeWord n w.pc = w0)
  (word1 : s.codeWord n (w.pc + 1) = w1)
include may word0 word1

/-- What an instruction makes of its work item stands on the unit; the state outside it is as before. -/
theorem State.MayRun.unitStep_stepped {i : WorkItem} {pc : Nat} {b : BaseSt} (start : b = { st := s, n := n, call := r.call, item := w })
    (goesOn : bwOp w0 ≠ 0x5F) (counted : i.executed = w.executed) (next : b.nextPc w0 w1 = pc)
    (runs : (BaseM.instr w0 w1).run.run b = (.ok (), b.stepped w0 w1 i)) :
    s.unitStep n u (bwOp w0) = s.onUnit n u { i with pc := pc, executed := w.executed + 1 } := by
  subst word0 word1 start
  rw [may.unitStep_runs may.coded may.legal rfl may.left goesOn, State.runUnit_ok may.run runs, BaseSt.stepped, counted, next, State.onUnit]

theorem State.MayRun.scalar (from40 : 0x40 ≤ bwOp w0) (to48 : bwOp w0 ≤ 0x48) : s.unitStep n u (bwOp w0) =
    s.onUnit n u { w.setX (bwD w0) (baseScalar (bwOp w0) (w.x (bwA w0)) (w.x (bwB w0)) w1) with
      pc := w.pc + baseWords (bwOp w0), executed := w.executed + 1 } :=
  may.unitStep_stepped word0 word1 rfl (by omega) (w.setX_executed _ _) (BaseSt.nextPc_next (by omega)) (BaseM.instr_scalar from40 to48)

theorem State.MayRun.flow (from50 : 0x50 ≤ bwOp w0) (to54 : bwOp w0 ≤ 0x54) {t : Nat} (target : (t : Int) = (w.pc : Int) + toSigned 32 w1) :
    s.unitStep n u (bwOp w0) = s.onUnit n u { w with
      pc := if baseTaken (bwOp w0) (w.x (bwA w0)) (w.x (bwB w0)) then t else w.pc + 2, executed := w.executed + 1 } :=
  may.unitStep_stepped word0 word1 rfl (by omega) rfl (BaseSt.nextPc_flow from50 to54 target) (BaseM.instr_flow (by omega))

theorem State.MayRun.compare (from0B : 0x0B ≤ bwOp w0) (to0D : bwOp w0 ≤ 0x0D) : s.unitStep n u (bwOp w0) =
    s.onUnit n u { w with masks := w.masks.set (bwD w0) (w.compared w0), pc := w.pc + 1, executed := w.executed + 1 } := by
  have one : baseWords (bwOp w0) = 1 := by
    rcases (by omega : bwOp w0 = 0x0B ∨ bwOp w0 = 0x0C ∨ bwOp w0 = 0x0D) with op | op | op <;> rw [op] <;> rfl
  exact may.unitStep_stepped (i := { w with masks := w.masks.set (bwD w0) (w.compared w0) }) word0 word1 rfl (by omega) rfl
    ((BaseSt.nextPc_next (by omega)).trans (congrArg _ one)) (BaseM.instr_compare from0B to0D)

/-- A vector operation writes the lanes of its register that its mask names, VSEL all of them. -/
theorem State.MayRun.vector (mem : bwOp w0 ∈ laneOps) : ∃ i : WorkItem,
    s.unitStep n u (bwOp w0) = s.onUnit n u { i with pc := w.pc + baseWords (bwOp w0), executed := w.executed + 1 } ∧
      i.sregs = w.sregs ∧ i.masks = w.masks ∧ i.stores = w.stores ∧ ∀ j l, l < 32 → i.vregs.get (32 * j + l) =
        if j = bwD w0 ∧ natBit (if bwOp w0 = 0x0A then 2 ^ 32 - 1 else w.k (bwK w0)) l then
          BitVec.ofNat 32 (BaseSt.laneValue { st := s, n := n, call := r.call, item := w } (bwOp w0) w0 w1 l)
        else w.vregs.get (32 * j + l) := by
  obtain ⟨low, noCompare⟩ := (by decide : ∀ op ∈ laneOps, op < 0x30 ∧ ¬ (0x0B ≤ op ∧ op ≤ 0x0D)) _ mem
  obtain ⟨ls, runs, lanes⟩ := BaseM.vector_lanes (b := { st := s, n := n, call := r.call, item := w }) (w1 := w1) mem
  have full : ls.length = 32 := by simpa using congrArg List.length lanes
  refine ⟨_, may.unitStep_stepped word0 word1 rfl (by omega) (i := w.setV (bwD w0) _ ls) rfl (BaseSt.nextPc_next (by omega))
    (BaseM.instr_vector low noCompare runs), rfl, rfl, rfl, fun j l lane => ?_⟩
  rw [w.setV_lane _ _ _ (Nat.le_of_eq full) lane, lanes, List.getElem?_map, List.getElem?_range lane]
  rfl

end Command

/-- Settles O29, kind by kind of instruction: each row of a list names an opcode's command, words and value. -/
theorem baseValuesAreWritten : Obligations.BaseValuesAreWritten := by
  rintro s v n u ecc w r w0 w1 d ra rb a b imm fa fb rfl item run coded word0 word1 legal left rfl rfl rfl rfl rfl rfl va vb done result
  obtain rfl : fa = w.lane (bwA w0) := funext va
  obtain rfl : fb = w.lane (bwB w0) := funext vb
  have may : (s.upset ecc).MayRun n u w r := ⟨⟨item, run⟩, coded, by rw [word0]; exact legal, left⟩
  refine ⟨?scalar, ?flow, ?vector, ?select, ?compare⟩
  case scalar =>
    rintro op k c x mem rfl
    obtain ⟨step, rfl, rfl, from40, to48⟩ : _ ∧ k = _ ∧ x = _ ∧ _ ∧ _ := by
      simpa using eq_of_mem_of_map_eq mem (fun e => (exec e.2.2.1 s, e.2.1, e.2.2.2, decide (0x40 ≤ e.1 ∧ e.1 ≤ 0x48)))
        (fun e => (.next ((s.upset ecc).unitStep n u e.1), baseWords e.1, baseScalar e.1 (w.x (bwA w0)) (w.x (bwB w0)) w1, true)) rfl
    exact step.trans (congrArg Host.Outcome.next ((may.scalar word0 word1 from40 to48).trans (result _ _).symm))
  case flow =>
    rintro op c taken t mem rfl target
    obtain ⟨step, from50, to54⟩ : _ ∧ _ ∧ _ := by
      simpa using eq_of_mem_of_map_eq mem (fun e => (exec e.2.1 s, decide (0x50 ≤ e.1 ∧ e.1 ≤ 0x54)))
        (fun e => (.next ((s.upset ecc).unitStep n u e.1), true)) rfl
    obtain rfl : taken = baseTaken (bwOp w0) _ _ :=
      eq_of_mem_of_map_eq mem (fun e => e.2.2) (fun e => baseTaken e.1 (w.x (bwA w0)) (w.x (bwB w0))) (map_baseTaken _ _)
    exact step.trans (congrArg Host.Outcome.next ((may.flow word0 word1 from50 to54 target).trans (result _ _).symm))
  case vector =>
    rintro op k c f mem rfl
    obtain ⟨step, rfl, ⟨listed, masked⟩, value⟩ : _ ∧ k = _ ∧ (_ ∧ _) ∧ _ := by
      simpa using eq_of_mem_of_map_eq mem
        (fun e => (exec e.2.2.1 s, e.2.1, decide (e.1 ∈ laneOps ∧ e.1 ≠ 0x0A), fun l => BitVec.ofNat 32 (e.2.2.2 l)))
        (fun e => (.next ((s.upset ecc).unitStep n u e.1), baseWords e.1, true,
          fun l => BitVec.ofNat 32 (BaseSt.laneValue { st := s.upset ecc, n := n, call := r.call, item := w } e.1 w0 w1 l))) rfl
    obtain ⟨i, next, sregs, masks, stores, lanes⟩ := may.vector word0 word1 listed
    refine ⟨i, step.trans (congrArg Host.Outcome.next (next.trans (result _ _).symm)), sregs, masks, stores,
      fun j l lane => (lanes j l lane).trans ?_⟩
    exact ite_congr_of_iff (by rw [if_neg (show bwOp w0 ≠ 0x0A from masked)]; rfl) (congrFun value l).symm rfl
  case select =>
    intro here
    have op : bwOp w0 = 0x0A := here
    obtain ⟨i, next, sregs, masks, stores, lanes⟩ := may.vector word0 word1 (by rw [op]; decide)
    rw [op] at next lanes
    refine ⟨i, congrArg Host.Outcome.next (next.trans (result _ _).symm), sregs, masks, stores, fun j l lane => (lanes j l lane).trans ?_⟩
    refine ite_congr_of_iff (and_iff_left ?_) rfl rfl
    rw [if_pos rfl, natBit, Nat.testBit_two_pow_sub_one, decide_eq_true lane]
  case compare =>
    rintro op c f mem rfl
    obtain ⟨step, value, from0B, to0D⟩ : _ ∧ _ ∧ _ ∧ _ := by
      simpa using eq_of_mem_of_map_eq mem (fun e => (exec e.2.1 s, fun x y => e.2.2 (f32 x) (f32 y), decide (0x0B ≤ e.1 ∧ e.1 ≤ 0x0D)))
        (fun e => (.next ((s.upset ecc).unitStep n u e.1), baseCompare e.1, true)) rfl
    refine ⟨w.compared w0, step.trans (congrArg Host.Outcome.next ((may.compare word0 word1 from0B to0D).trans
      (result { w with masks := w.masks.set (bwD w0) (w.compared w0) } _).symm)), fun l lane => ?_⟩
    exact (w.compared_lane w0 lane).trans (ite_congr_of_iff Iff.rfl (congrFun (congrFun value _) _).symm rfl)

end Sys2Proof.Machine

/-!
Calls and work items of the base engines: how they start, and what a new work item's registers hold.
-/
namespace Sys2Proof.Machine

/-! ### Registers of a new work item (R310) -/

section Item
variable (w : WorkItem)

@[simp] theorem WorkItem.setX_tile (r : Nat) (v : W64) : (w.setX r v).tile = w.tile := by unfold WorkItem.setX; split <;> rfl
@[simp] theorem WorkItem.setX_pc (r : Nat) (v : W64) : (w.setX r v).pc = w.pc := by unfold WorkItem.setX; split <;> rfl
@[simp] theorem WorkItem.setX_stores (r : Nat) (v : W64) : (w.setX r v).stores = w.stores := by unfold WorkItem.setX; split <;> rfl

/-- What scalar registers read as after one is written: x0 discards it. -/
theorem WorkItem.x_setX (r i : Nat) (v : W64) : (w.setX r v).x i = if i = r ∧ r ≠ 0 then v else w.x i := by
  unfold WorkItem.setX WorkItem.x
  by_cases zero : r = 0
  · simp [zero]
  · by_cases same : i = r <;> simp [zero, same, Tbl.get_set]

end Item

/-- A new work item is one whose x1 to x7 are written in turn. -/
theorem newItem_eq (prog j : Nat) {c : BaseCall} (b : BaseSt) {a0 a1 a2 a3 : W64} (args : c.args = [a0, a1, a2, a3]) :
    newItem prog c b j = (((((((({ tile := j, pc := prog } : WorkItem).setX 1 (BitVec.ofNat 64 j)).setX 2 (BitVec.ofNat 64 (j * b.spanN))).setX 3
      (BitVec.ofNat 64 b.spanN)).setX 4 a0).setX 5 a1).setX 6 a2).setX 7 a3) := by
  unfold newItem
  rw [args]
  rfl

/-- The scalar registers of a new work item: its number, its elements and the arguments of the call (R310). -/
theorem newItem_x (prog j : Nat) {c : BaseCall} (b : BaseSt) {a0 a1 a2 a3 : W64} (args : c.args = [a0, a1, a2, a3]) (i : Nat) :
    (newItem prog c b j).x i = ([0, BitVec.ofNat 64 j, BitVec.ofNat 64 (j * b.spanN), BitVec.ofNat 64 b.spanN, a0, a1, a2, a3][i]?).getD 0 := by
  rw [newItem_eq prog j b args]
  match i with
  | 0 => rfl
  | 1 | 2 | 3 | 4 | 5 | 6 | 7 => simp [WorkItem.x_setX]
  | i + 8 =>
    simp only [WorkItem.x_setX, Nat.reduceEqDiff, false_and, if_false]
    rfl

/-! ### Calls and work items start (R301, R306) -/

/-- The base engine of a stack after it is changed. -/
theorem State.bases_updBase (s : State) (n : Nat) (f : BaseStack → BaseStack) : (s.updBase n f).bases.get n = f (s.bases.get n) :=
  Tbl.get_upd_same _ _ _

section Calls
variable {s : State} {n : Fin 12}

/-- The fields of STK_BE_CUR for a call: its entry, its token and the work items not started. -/
theorem shownCall_fields (entry token items : Nat) : fld (setFld (setFld (setFld 0 9 0 entry) 23 16 token) 63 32 items) 9 0 = entry % 2 ^ 10 ∧
    fld (setFld (setFld (setFld 0 9 0 entry) 23 16 token) 63 32 items) 23 16 = token % 2 ^ 8 ∧
    fld (setFld (setFld (setFld 0 9 0 entry) 23 16 token) 63 32 items) 63 32 = items % 2 ^ 32 := by
  refine ⟨?entry, ?token, fld_setFld_same _ 63 32 _ (by decide) (by decide)⟩
  case entry =>
    rw [fld_setFld_ne _ 63 32 _ _ _ (by decide) (by decide), fld_setFld_ne _ 23 16 _ _ _ (by decide) (by decide),
      fld_setFld_same _ 9 0 _ (by decide) (by decide)]
  case token => rw [fld_setFld_ne _ 63 32 _ _ _ (by decide) (by decide), fld_setFld_same _ 23 16 _ (by decide) (by decide)]

/-- The fields of STK_BE_STATUS that a start writes: the engine's state and the length of the queue. -/
theorem startedStatus_fields (old : W64) (queued : Nat) : fld (setFld (setFld old 2 0 2) 16 8 queued) 2 0 = 2 ∧
    fld (setFld (setFld old 2 0 2) 16 8 queued) 16 8 = queued % 2 ^ 9 :=
  ⟨(fld_setFld_ne _ 16 8 _ _ _ (by decide) (by decide)).trans (fld_setFld_same _ 2 0 _ (by decide) (by decide)),
    fld_setFld_same _ 16 8 _ (by decide) (by decide)⟩

/-- CALL_START (R301): an idle stack takes the first call of its queue and shows it. -/
theorem execCallStart_starts {c : BaseCall} {rest : List BaseCall} (free : (s.bases.get n).run = none) (first : (s.bases.get n).queue = c :: rest)
    (idle : s.rdF (Reg.stkBeStatus n) 2 0 = 1) (still : s.baseMigrates n = false) : execCallStart n s = .next (((s.updBase n (fun b => { b with
      queue := rest, run := some { call := c, items := s.callItems n c } })).wr (Reg.stkBeCur n)
      (setFld (setFld (setFld 0 9 0 c.entry) 23 16 c.token) 63 32 (s.callItems n c).length)).wr (Reg.stkBeStatus n)
      (setFld (setFld (s.rd (Reg.stkBeStatus n)) 2 0 2) 16 8 rest.length)) := by
  refine congrArg Host.Outcome.next ?_
  simp only [free, first]
  exact if_neg (by simp [idle, still])

/-- WORK_ITEM_START (R306, R310): a free unit takes the next work item of a call that goes on, and stages it. -/
theorem execWorkItemStart_stages {u : Fin 128} {ecc : List MemUpset} {r : BaseRun} {j : Nat} {rest : List Nat} {z : State}
    (run : ((s.upset ecc).bases.get n).run = some r) (free : (s.upset ecc).unitItem n u = none) (goesOn : r.failed = false)
    (next : r.items = j :: rest) (taken : ((s.upset ecc).updBase n (fun b => { b with run := some { r with items := rest } })).wrF
      (Reg.stkBeCur n) 63 32 rest.length = z) : execWorkItemStart n u ecc s = .next (z.runUnit n u
        (newItem (z.callProgram n r.call.entry) r.call { st := z, n := n, call := r.call, item := { tile := j } } j) BaseM.stage
        (fun s _ w => s.updBase n (fun b => { b with units := b.units.set u (some w) }))) := by
  obtain ⟨call, _, _⟩ := r
  subst goesOn next taken
  refine congrArg Host.Outcome.next ?_
  simp only [run, free]

end Calls

/-- Settles O30, command by command. -/
theorem baseCallsStartAndEnd : Obligations.BaseCallsStartAndEnd := by
  intro s n
  refine ⟨?start, ?item, ?registers, ?ended, ?code⟩
  case start =>
    rintro c rest _ free first idle still rfl
    have apart : Reg.stkBeCur n ≠ Reg.stkBeStatus n := by unfold Reg.stkBeCur Reg.stkBeStatus; omega
    refine ⟨_, execCallStart_starts free first idle still, ?_⟩
    simp only [State.rdF, State.rd_wr_same, State.rd_wr_ne _ _ apart, shownCall_fields, startedStatus_fields, true_and]
    exact ⟨rfl, fun a notCur notStatus => (State.rd_wr_ne _ _ notStatus).trans (State.rd_wr_ne _ _ notCur), rfl⟩
  case item =>
    rintro u ecc _ r j rest rfl run free goesOn next z taken _ b rfl
    have call : (z.bases.get n).run = some { r with items := rest } := by
      rw [← taken, State.wrF_bases, State.bases_updBase]
    have stages := execWorkItemStart_stages run free goesOn next taken
    exact ⟨fun staged => stages.trans (congrArg Host.Outcome.next (State.runUnit_ok call staged _)),
      fun f fails => stages.trans (congrArg Host.Outcome.next (State.runUnit_error call fails _))⟩
  case registers =>
    rintro prog j c b a0 a1 a2 a3 args
    refine ⟨_, rfl, ?_⟩
    have reads := newItem_x prog j b args
    refine ⟨?tile, ?pc, ?executed, ?stores, reads 1, reads 2, reads 3, reads 4, reads 5, reads 6, reads 7, fun i high => (reads i).trans ?_⟩
    case tile | pc | executed | stores => rw [newItem_eq prog j b args]; simp
    rw [List.getElem?_eq_none high]
    rfl
  case ended =>
    intro r run none idle
    refine congrArg Host.Outcome.next ?_
    simp only [run]
    exact if_pos ⟨none, idle⟩
  case code =>
    rintro ag i x _ call _ rfl rfl
    refine ⟨fun silent => ?_, fun served may => ?_, fun served mayNot => ?_⟩
    · exact congrArg Host.Outcome.next (State.csrAccess_silent _ _ silent)
    · exact congrArg Host.Outcome.next ((State.csrAccess_served _ _ served).trans (if_pos may))
    · exact congrArg Host.Outcome.next ((State.csrAccess_served _ _ served).trans (if_neg mayNot))
end Sys2Proof.Machine

/-!
Breadboxes, signals, the recorder clear, the cluster cores and the base-die controllers: what their commands do.
-/
namespace Sys2Proof.Machine

/-! ### Conditions on the way of a command -/

theorem bnot_ne_true_of_eq_true {b : Bool} (h : b = true) : ¬ (!b) = true := by simp [h]

theorem and_not_not_eq_true (a b c : Bool) : (a && !b && !c) = true ↔ a = true ∧ b = false ∧ c = false := by
  rw [Bool.and_eq_true, Bool.and_eq_true, Bool.not_eq_true', Bool.not_eq_true', and_assoc]

theorem State.cond_true (s : State) {c : Bool} (h : c = true) (f : State → State) : s.cond c f = f s := if_pos h

/-! ### Breadboxes (R536 to R543) -/

section Boxes
variable {s : State} {ag : Agent} {b : Fin 64}

/-- The owner of a peel that has just been taken. -/
theorem State.boxOwner_taken (s : State) (b : Nat) {a : Nat} (number : a < 256) : (s.wrF (Reg.bbxStatus b) 15 8 a).boxOwner b = a :=
  (s.rdF_wrF_same _ _ _ _ (by decide) (by decide)).trans (Nat.mod_eq_of_lt number)

/-- The answer to a read of a peel: 0 to its owner, else the owner's number (R540). -/
def State.peelAnswer (s : State) (b a : Nat) : State :=
  { s with answer := .data (if s.boxOwner b = a then 0 else BitVec.ofNat 64 (s.boxOwner b)) }

/-- A read of the peel of a shared breadbox takes it when it is free (R540). -/
theorem execBbxLockRead_shared (served : s.csrPath ag (Reg.bbxLock b) 4 = .served) (shared : boxShared b = true) : execBbxLockRead ag b s =
    .next ((s.silent.cond (s.boxOwner b == 0) (fun s => s.wrF (Reg.bbxStatus b) 15 8 ag.num)).peelAnswer b ag.num) :=
  congrArg Host.Outcome.next ((State.csrAccess_served _ _ served).trans (if_neg (bnot_ne_true_of_eq_true shared)))

/-- The answer to a read of a header. -/
def State.headerAnswer (s : State) (b : Nat) : State := { s with answer := .data (s.rd (Reg.bbxHdr b)) }

/-- A read of a header checks it first (R543); `u` has the mismatch, if there is one. -/
theorem execBbxHdrRead_served {bad : Bool} {u : State} (served : s.csrPath ag (Reg.bbxHdr b) 8 = .served)
    (flagged : (if bad then { s.silent with cpBad := s.cpBad.set (Reg.bbxHdr b) true } else s.silent) = u) :
    execBbxHdrRead ag b bad s = .next ((u.hdrRead b ag.num).headerAnswer b) := by
  subst flagged
  exact congrArg Host.Outcome.next (State.csrAccess_served _ _ served)

end Boxes

/-! ### The recorder clear (R666) -/

/-- RECORDER_CLEAR_REQUEST answers a request that has room for it: busy, done or refused. -/
theorem execRecorderClearRequest_answers {s : State} {h : Fin 2} (host : HostData) {busy ok : Bool} {addr : Nat}
    (asks : s.boxHolds (48 + 2 * h) 0x0A01 = true) (room : s.boxGo (48 + 2 * h + 1) = false) (clearing : s.rcd.clearing.isSome = busy)
    (given : s.boxData (48 + 2 * h) 0 + s.boxData (48 + 2 * h) 1 * 2 ^ 32 = addr)
    (judged : (!s.config.record.ownerEnrolled || (decide (addr ≠ 0) && host.ok && s.ownerSigned host.data
      (asciiBytes "KZN4810-RECCLR" ++ s.nonceBytes ++ leBytes 8 s.fuses.serial.toNat))) = ok) {t : State}
    (read : s.silent.cond (!busy && s.config.record.ownerEnrolled && decide (addr ≠ 0) && !host.ok)
      (fun s => s.hostEvent 0x90A h 0 host.reason addr none) = t) :
    execRecorderClearRequest h host s =
      .next (((if busy then t else if ok then t.clearRecorder h else t.event 0x710 (.hostPort h) h).boxEmpty (48 + 2 * h)).boxPost
        (48 + 2 * h + 1) 1 0x8A01 [if busy then 2 else if ok then 0 else 1]) := by
  subst clearing given judged read
  refine congrArg Host.Outcome.next (if_neg ?_)
  simp only [State.answer_boxHolds, State.answer_boxGo, asks, room]
  decide

/-! ### Cluster cores and base-die controllers (R321, R555, R556) -/

section Cores
variable {s u : State} {f : State → State × List Nat} {l : List Nat}

theorem State.cccCommand_waits {c cmd : Nat} (waits : s.domOn (clusterDomain c) = false ∨ s.rdB (Reg.cluCccCmd c) 0 = false ∨
    s.rdF (Reg.cluCccCmd c) 15 8 ≠ cmd ∨ s.boxFree (32 + c / 4) = false) : s.cccCommand c cmd f = s.silent := by
  refine if_pos ?_
  simp only [State.answer_domOn, State.answer_rdB, State.answer_rdF, State.answer_boxFree, Bool.or_eq_true, Bool.not_eq_true', bne_iff_ne]
  simpa only [or_assoc] using waits

theorem State.cccCommand_takes {c cmd : Nat} (on : s.domOn (clusterDomain c) = true) (asked : s.rdB (Reg.cluCccCmd c) 0 = true)
    (this : s.rdF (Reg.cluCccCmd c) 15 8 = cmd) (room : s.boxFree (32 + c / 4) = true)
    (done : f (s.silent.wrB (Reg.cluCccCmd c) 0 false) = (u, l)) :
    s.cccCommand c cmd f = u.boxPost (32 + c / 4) (0x10 + c) (0x8000 + cmd) l := by
  have answered : s.cccCommand c cmd f = (f (s.silent.wrB (Reg.cluCccCmd c) 0 false)).1.boxPost (32 + c / 4) (0x10 + c) (0x8000 + cmd)
      (f (s.silent.wrB (Reg.cluCccCmd c) 0 false)).2 := by
    refine if_neg ?_
    simp only [State.answer_domOn, State.answer_rdB, State.answer_rdF, State.answer_boxFree, on, asked, this, room, bne_self_eq_false]
    decide
  rw [answered, done]

section Request
variable {n type back : Nat} {idle : Bool} (answers : bdcAnswerBox n (s.boxSender (52 + n)) = back)
include answers

theorem State.bdcRequest_waits (waits : s.domOn (stackDomain n) = false ∨ s.boxHolds (52 + n) type = false ∨ s.boxFree back = false) :
    s.bdcRequest n type idle f = s.silent := by
  subst answers
  refine if_pos ?_
  simp only [State.answer_domOn, State.answer_boxHolds, State.answer_boxSender, State.answer_boxFree, Bool.or_eq_true, Bool.not_eq_true']
  simpa only [or_assoc] using waits

variable (on : s.domOn (stackDomain n) = true) (asked : s.boxHolds (52 + n) type = true) (room : s.boxFree back = true)
include on asked room

/-- The way of a request that the BDC may take: it waits for the calls of its stack, or it is answered. -/
theorem State.bdcRequest_eq : s.bdcRequest n type idle f =
    if (idle && !decide (s.rdF (Reg.stkStatus n) 2 0 ≤ 1) && s.baseBusy n) = true then s.silent
    else (if decide (s.rdF (Reg.stkStatus n) 2 0 ≤ 1) = true then (s.silent.boxEmpty (52 + n), [1]) else f (s.silent.boxEmpty (52 + n))).1.boxPost
      back (0x50 + n) (0x8000 + type)
      (if decide (s.rdF (Reg.stkStatus n) 2 0 ≤ 1) = true then (s.silent.boxEmpty (52 + n), [1]) else f (s.silent.boxEmpty (52 + n))).2 := by
  subst answers
  refine if_neg ?_
  simp only [State.answer_domOn, State.answer_boxHolds, State.answer_boxSender, State.answer_boxFree, on, asked, room]
  decide

theorem State.bdcRequest_refused (off : s.rdF (Reg.stkStatus n) 2 0 ≤ 1) :
    s.bdcRequest n type idle f = (s.silent.boxEmpty (52 + n)).boxPost back (0x50 + n) (0x8000 + type) [1] := by
  rw [State.bdcRequest_eq answers on asked room, decide_eq_true off, if_neg (by simp), if_pos rfl]

variable (serves : 2 ≤ s.rdF (Reg.stkStatus n) 2 0)
include serves

theorem State.bdcRequest_busy (waitsForCalls : idle = true) (busy : s.baseBusy n = true) : s.bdcRequest n type idle f = s.silent := by
  rw [State.bdcRequest_eq answers on asked room, decide_eq_false (Nat.not_le.2 serves), waitsForCalls, busy]
  exact if_pos rfl

theorem State.bdcRequest_takes (free : idle = false ∨ s.baseBusy n = false) (done : f (s.silent.boxEmpty (52 + n)) = (u, l)) :
    s.bdcRequest n type idle f = u.boxPost back (0x50 + n) (0x8000 + type) l := by
  rw [State.bdcRequest_eq answers on asked room, decide_eq_false (Nat.not_le.2 serves), if_neg (by rcases free with h | h <;> simp [h]),
    if_neg Bool.false_ne_true, done]

end Request

end Cores

/-- Settles O46, command by command: an access goes by `State.csrAccess_served`, a CCC command by `State.cccCommand_takes`, a BDC request by
`State.bdcRequest_eq`; every other clause is the branch of the command that its premise picks. -/
theorem breadboxesAndCoresTakeEffect : Obligations.BreadboxesAndCoresTakeEffect := by
  refine ⟨?boxes, ?ccc, ?bdc, ?images⟩
  case boxes =>
    rintro s _ rfl
    refine ⟨?agent, ?data, ?send, ?clear, ?lock, ?header, ?signals, ?recorder⟩
    case agent =>
      rintro ag _ rfl
      rfl
    case data =>
      intro ag b i v served
      constructor
      · exact fun may => congrArg Host.Outcome.next ((State.csrAccess_served _ _ served).trans (if_pos may))
      · exact fun no => congrArg Host.Outcome.next ((State.csrAccess_served _ _ served).trans (if_neg (Bool.eq_false_iff.1 no)))
    case send =>
      rintro ag b v _ rfl served
      refine ⟨fun idle => ?_, fun asked may fits => ?_, fun asked refused => ?_⟩
      · exact congrArg Host.Outcome.next ((State.csrAccess_served _ _ served).trans (if_pos (congrArg (!·) idle)))
      · exact congrArg Host.Outcome.next ((State.csrAccess_served _ _ served).trans ((if_neg (bnot_ne_true_of_eq_true asked)).trans
          (if_pos (Bool.and_eq_true_iff.2 ⟨may, decide_eq_true fits⟩))))
      · refine congrArg Host.Outcome.next ((State.csrAccess_served _ _ served).trans ((if_neg (bnot_ne_true_of_eq_true asked)).trans
          (if_neg (fun both => ?_))))
        obtain ⟨may, fits⟩ := Bool.and_eq_true_iff.1 both
        exact refused.elim (fun no => Bool.eq_false_iff.1 no may) (fun long => Nat.not_lt.2 (of_decide_eq_true fits) long)
    case clear =>
      rintro ag b v served
      refine ⟨fun ignored => ?_, fun receiver asked => ?_⟩
      · exact congrArg Host.Outcome.next ((State.csrAccess_served _ _ served).trans (if_pos (ignored.imp_right (congrArg (!·)))))
      · have taken : ¬ (ag.num ≠ boxReceiver b ∨ (!v.getLsbD 0) = true) := by simp [receiver, asked]
        constructor
        · exact fun full => congrArg Host.Outcome.next ((State.csrAccess_served _ _ served).trans ((if_neg taken).trans (if_pos full)))
        · exact fun empty => congrArg Host.Outcome.next ((State.csrAccess_served _ _ served).trans ((if_neg taken).trans
            (if_neg (Bool.eq_false_iff.1 empty))))
    case lock =>
      rintro ag b served
      refine ⟨fun plain => ?_, fun shared free number => ?_, fun shared owned => ?_, fun v => ⟨fun owner => ?_, fun other => ?_⟩⟩
      · exact congrArg Host.Outcome.next ((State.csrAccess_served _ _ served).trans (if_pos (congrArg (!·) plain)))
      · refine ⟨_, (execBbxLockRead_shared served shared).trans (congrArg Host.Outcome.next (congrArg (State.peelAnswer · b ag.num)
          (State.cond_true s.silent (beq_iff_eq.2 free) _))), ?_, s.silent.boxOwner_taken b number, fun a other => State.rd_wrF_ne _ _ _ _ other, rfl⟩
        exact congrArg Answer.data (if_pos (s.silent.boxOwner_taken b number))
      · refine (execBbxLockRead_shared served shared).trans ?_
        rw [State.cond_false s.silent (beq_eq_false_iff_ne.2 owned)]
        rfl
      · refine congrArg Host.Outcome.next ((State.csrAccess_served _ _ served).trans (State.cond_true _ ?_ _))
        simpa [and_assoc] using owner
      · refine congrArg Host.Outcome.next ((State.csrAccess_served _ _ served).trans (State.cond_false _ ?_ _))
        simpa [and_assoc] using other
    case header =>
      rintro ag b bad u served flagged
      have reads := execBbxHdrRead_served served flagged
      constructor
      · intro good
        have same : u.rd (Reg.bbxHdr b) = s.rd (Reg.bbxHdr b) := by
          rw [← flagged]
          cases bad <;> rfl
        refine reads.trans (congrArg Host.Outcome.next ((congrArg (State.headerAnswer · b) (State.cond_false u (congrArg (!·) good) _)).trans ?_))
        rw [State.headerAnswer, same]
      · rintro wrong _ rfl
        exact reads.trans (congrArg Host.Outcome.next (congrArg (State.headerAnswer · b) (State.cond_true u (congrArg (!·) wrong) _)))
    case signals =>
      intro p
      refine ⟨fun nothing => ?_, fun empty some => ?_, fun empty => ?_, fun full refused => ?_, fun full present accepts => ?_, fun idle => ?_,
        fun asked running => ?_⟩
      · refine congrArg Host.Outcome.next (if_pos ?_)
        simpa using nothing
      · rintro _ _ rfl rfl
        refine congrArg Host.Outcome.next (if_neg ?_)
        simpa [empty, Decidable.imp_iff_not_or] using some
      · exact congrArg Host.Outcome.next (if_pos (congrArg (!·) empty))
      · refine congrArg Host.Outcome.next ((if_neg (bnot_ne_true_of_eq_true full)).trans (congrArg (State.boxEmpty · _) (State.cond_false _ ?_ _)))
        exact Bool.and_eq_false_iff.2 refused
      · rintro _ _ _ _ rfl rfl rfl rfl
        exact congrArg Host.Outcome.next ((if_neg (bnot_ne_true_of_eq_true full)).trans (congrArg (State.boxEmpty · _)
          (State.cond_true _ (Bool.and_eq_true_iff.2 ⟨present, accepts⟩) _)))
      · refine congrArg Host.Outcome.next (if_neg ?_)
        rintro ⟨asked, running⟩
        exact idle.elim (fun no => Bool.eq_false_iff.1 no asked) running
      · rintro _ rfl
        refine congrArg Host.Outcome.next ((if_pos ⟨asked, running⟩).trans ?_)
        cases held : natBit s.pwr.heldBefore p
        · exact State.cond_true _ (congrArg (!·) held) _
        · exact State.cond_false _ (congrArg (!·) held) _
    case recorder =>
      intro h host
      refine ⟨fun none => ?_, fun asks room => ⟨fun busy => ?_, fun free plain => ?_, ?_⟩⟩
      · refine congrArg Host.Outcome.next (if_pos ?_)
        simpa using none
      · refine (execRecorderClearRequest_answers host asks room busy rfl rfl (State.cond_false s.silent rfl _)).trans ?_
        simp only [if_true]
        rfl
      · refine (execRecorderClearRequest_answers (ok := true) host asks room free rfl (by rw [plain]; rfl)
          (State.cond_false s.silent (by rw [plain]; rfl) _)).trans ?_
        simp only [Bool.false_eq_true, if_false, if_true]
        rfl
      · rintro free enrolled addr given
        refine ⟨fun named read => ?_, fun unnamed => ?_, fun named unread => ?_⟩
        · refine (execRecorderClearRequest_answers host asks room free given rfl
            (State.cond_false s.silent (by simp [read]) _)).trans ?_
          rw [enrolled, decide_eq_true named, read]
          simp only [Bool.false_eq_true, if_false, Bool.not_true, Bool.false_or, Bool.true_and]
          split <;> rfl
        · refine (execRecorderClearRequest_answers (ok := false) host asks room free given (by simp [enrolled, unnamed])
            (State.cond_false s.silent (by simp [unnamed]) _)).trans ?_
          simp only [Bool.false_eq_true, if_false]
          rfl
        · refine (execRecorderClearRequest_answers (ok := false) host asks room free given (by simp [enrolled, unread])
            (State.cond_true s.silent (by simp [enrolled, named, unread]) _)).trans ?_
          simp only [Bool.false_eq_true, if_false]
          rfl
  case ccc =>
    rintro s _ c low rfl r mem
    have command : exec r.1 s = .next (s.cccCommand c r.2.1 r.2.2) :=
      eq_of_mem_of_map_eq mem (fun r => exec r.1 s) (fun r => .next (s.cccCommand c r.2.1 r.2.2)) rfl
    rw [command]
    exact ⟨fun waits => congrArg Host.Outcome.next (State.cccCommand_waits waits),
      fun on asked this room u l done => congrArg Host.Outcome.next (State.cccCommand_takes on asked this room done)⟩
  case bdc =>
    rintro s _ n fails rfl r mem back answers
    have request : exec r.1 s = .next (s.bdcRequest n r.2.1 r.2.2.1 r.2.2.2) :=
      eq_of_mem_of_map_eq mem (fun r => exec r.1 s) (fun r => .next (s.bdcRequest n r.2.1 r.2.2.1 r.2.2.2)) rfl
    rw [request]
    refine ⟨fun waits => congrArg Host.Outcome.next (State.bdcRequest_waits answers waits), fun on asked room => ⟨fun off => ?_,
      fun serves calls busy => ?_, fun serves free u l done => ?_⟩⟩
    · exact congrArg Host.Outcome.next (State.bdcRequest_refused answers on asked room off)
    · exact congrArg Host.Outcome.next (State.bdcRequest_busy answers on asked room serves calls busy)
    · exact congrArg Host.Outcome.next (State.bdcRequest_takes answers on asked room serves free done)
  case images =>
    rintro s _ rfl
    refine ⟨fun i may => ?_, fun i mayNot => ?_, fun i may => ?_, fun i mayNot => ?_, fun ag i v => ⟨fun other => ?_, ?_⟩⟩
    · exact congrArg Host.Outcome.next ((if_neg Bool.false_ne_true).trans (State.cond_true _ (Bool.and_eq_true_iff.2 may) _))
    · exact congrArg Host.Outcome.next ((if_neg Bool.false_ne_true).trans
        (State.cond_false _ (Bool.eq_false_iff.2 (mt Bool.and_eq_true_iff.1 mayNot)) _))
    · exact congrArg Host.Outcome.next ((if_pos rfl).trans (State.cond_true _ ((and_not_not_eq_true ..).2 may) _))
    · exact congrArg Host.Outcome.next ((if_pos rfl).trans (State.cond_false _ (Bool.eq_false_iff.2 (mt (and_not_not_eq_true ..).1 mayNot)) _))
    · exact congrArg Host.Outcome.next (if_pos other)
    · rintro rfl
      refine congrArg Host.Outcome.next ((if_neg (not_not_intro rfl)).trans ?_)
      refine congrArg (State.each _ _) (funext fun t => funext fun c => ?_)
      exact ite_congr_of_iff (by rw [Bool.not_eq_true']) rfl rfl

end Sys2Proof.Machine

/-!
The resets that PMC_RESET asks for, and the transfers on the management bus.
-/
namespace Sys2Proof.Machine

/-- A write of four bytes is not one of the index alone. -/
theorem not_isEmpty_of_length_four {b : List Byte} (whole : b.length = 4) : ¬ b.isEmpty = true := by
  rw [List.isEmpty_iff_length_eq_zero, whole]
  decide

/-! ### Resets that are asked for (R617 to R621) -/

section Resets
variable {s : State}

/-- A partition that does not exist is not reset. -/
theorem execPmcResetPartition_refused {tests : List (Nat × Nat)} (asked : s.resetAsked 3 = true) (cold : s.pwr.warm = false)
    (idle : s.sec.stopping.get s.resetTarget = none) (far : 3 < s.resetTarget) :
    execPmcResetPartition tests s = .next s.silent.resetRefused := by
  refine congrArg Host.Outcome.next ((if_neg (bnot_ne_true_of_eq_true asked)).trans ((if_neg ?_).trans (if_pos (.inl far))))
  simp only [State.answer_resetTarget, cold, idle]
  decide

/-- The reset of a partition that is active begins. -/
theorem execPmcResetPartition_begins {tests : List (Nat × Nat)} (asked : s.resetAsked 3 = true) (cold : s.pwr.warm = false)
    (idle : s.sec.stopping.get s.resetTarget = none) (near : s.resetTarget < 4) (existing : s.partExists s.resetTarget = true)
    (active : s.partState s.resetTarget = 2) (powered : s.powered = true) :
    execPmcResetPartition tests s = .next ((s.silent.resetStarted.awake [s.resetTarget]).beginStop s.resetTarget true tests) := by
  refine congrArg Host.Outcome.next ((if_neg (bnot_ne_true_of_eq_true asked)).trans ((if_neg ?_).trans (if_neg ?_)))
  · simp only [State.answer_resetTarget, cold, idle]
    decide
  · simp only [State.answer_resetTarget, State.answer_partExists, State.answer_partState, State.answer_powered, existing, active, powered,
      Bool.not_true, Bool.false_eq_true, ne_eq, not_true_eq_false, or_false]
    exact Nat.not_lt.2 (Nat.le_of_lt_succ near)

/-- A device that is not in Doze has no contexts to lose. -/
theorem State.awake_active (active : s.rdF Reg.pmcState 1 0 ≠ 1) (lost : List Nat) : s.awake lost = s := if_neg active

/-- The reset of a cluster that is accepted (R620). -/
def State.resetCluster (s : State) (c low : Nat) : State :=
  let v := s.resetStarted.event 0xA0A (.cluster c)
  let u := match v.boundIndex c with
    | some j => v.clearEngines (v.leadOf (c / 16)) (15 * ((v.gang (v.leadOf (c / 16))).filter (· < c / 16)).length + j)
    | none => v
  ((u.loadCcc c).selfTested c low).publishAll

/-- The reset of a cluster is judged on the device that is awake. -/
theorem execPmcResetCluster_judged {low : BitVec 27} (asked : s.resetAsked 4 = true) (cold : s.pwr.warm = false)
    (idle : s.sec.stopping.get (s.partOfDie (s.resetTarget / 16)) = none) {t : State}
    (awake : s.silent.cond s.powered (fun s => s.awake []) = t) :
    execPmcResetCluster low s =
      .next (if !t.clusterResetOk s.resetTarget then t.resetRefused else t.resetCluster s.resetTarget low.toNat) := by
  subst awake
  refine congrArg Host.Outcome.next ((if_neg (bnot_ne_true_of_eq_true asked)).trans (if_neg ?_))
  simp only [State.answer_resetTarget, State.answer_partOfDie, cold, idle]
  decide

/-- The reset of a cluster, on a device that is not in Doze. -/
theorem execPmcResetCluster_accepted {low : BitVec 27} (asked : s.resetAsked 4 = true) (cold : s.pwr.warm = false)
    (idle : s.sec.stopping.get (s.partOfDie (s.resetTarget / 16)) = none) (active : s.rdF Reg.pmcState 1 0 ≠ 1)
    (ok : s.clusterResetOk s.resetTarget = true) :
    execPmcResetCluster low s = .next (s.silent.resetCluster s.resetTarget low.toNat) := by
  have awake : s.silent.cond s.powered (fun s => s.awake []) = s.silent := by
    cases s.powered
    · rfl
    · exact State.awake_active (s := s.silent) active []
  exact (execPmcResetCluster_judged asked cold idle awake).trans (congrArg Host.Outcome.next (if_neg (bnot_ne_true_of_eq_true ok)))

end Resets

/-- Settles O15, command by command: a request that is asked for takes the branch that its premises pick, and a cluster is judged on a
device that is awake. -/
theorem resetRequestsAndBusTransfersTakeEffect : Obligations.ResetRequestsAndBusTransfersTakeEffect := by
  refine ⟨?warm, ?partition, ?cluster, ?port, ?bus⟩
  case warm =>
    intro s ms tests cold asked powered
    exact congrArg Host.Outcome.next ((if_neg (Bool.eq_false_iff.1 cold)).trans ((if_neg (bnot_ne_true_of_eq_true asked)).trans
      (if_neg (bnot_ne_true_of_eq_true powered))))
  case partition =>
    intro s tests asked cold
    refine ⟨?_, fun far idle => execPmcResetPartition_refused asked cold idle far⟩
    rintro _ rfl near idle existing active powered
    exact execPmcResetPartition_begins asked cold idle near existing active powered
  case cluster =>
    rintro s low _ asked rfl cold idle active ok
    exact ⟨_, _, execPmcResetCluster_accepted asked cold idle active ok, rfl, rfl⟩
  case port =>
    intro s asked
    constructor
    · exact fun near => congrArg Host.Outcome.next ((if_neg (bnot_ne_true_of_eq_true asked)).trans (if_neg (Nat.not_lt.2 near)))
    · exact fun far => congrArg Host.Outcome.next ((if_neg (bnot_ne_true_of_eq_true asked)).trans (if_pos far))
  case bus =>
    intro s aux
    have on : ¬ (!s.silent.pwr.vaux) = true := bnot_ne_true_of_eq_true aux
    refine ⟨fun i pmc => ?_, congrArg Host.Outcome.next ((if_neg on).trans (if_pos rfl)), fun i high other => ?_, fun i b whole allowed => ?_,
      fun i b whole barred => ?_⟩
    · exact congrArg Host.Outcome.next ((if_neg on).trans ((if_neg (by omega)).trans (if_pos pmc)))
    · exact congrArg Host.Outcome.next ((if_neg on).trans ((if_neg other).trans (if_neg (Nat.not_lt.2 high))))
    · exact congrArg Host.Outcome.next ((if_neg on).trans ((if_neg (not_isEmpty_of_length_four whole)).trans (if_pos ⟨whole, allowed⟩)))
    · refine congrArg Host.Outcome.next ((if_neg on).trans ((if_neg (not_isEmpty_of_length_four whole)).trans (if_neg (fun both => ?_))))
      exact Bool.eq_false_iff.1 barred both.2

end Sys2Proof.Machine

/-!
Link ports: what an operation leaves of the port it names, and what link control frames do.
-/
namespace Sys2Proof.Machine

/-! ### The port that an operation names -/

section Ports
variable (s : State) (p : Nat)

@[simp] theorem State.port_updPort (f : Port → Port) : (s.updPort p f).port p = f (s.port p) := Tbl.get_upd_same _ _ _

/-- Two changes of a port are one. -/
@[simp] theorem State.updPort_updPort (f g : Port → Port) : (s.updPort p f).updPort p g = s.updPort p (fun k => g (f k)) := by
  unfold State.updPort
  rw [Tbl.upd_upd]

/-- A change of a port is known by what it makes of that port. -/
theorem State.updPort_congr {f g : Port → Port} (same : f (s.port p) = g (s.port p)) : s.updPort p f = s.updPort p g :=
  congrArg (fun k => ({ s with ports := s.ports.set p k } : State)) same

/-- A port that has answered a wake returns when the peer has answered too (R358). -/
theorem State.wakeBoth_answered (f : Port → Port) (woken : (f (s.port p)).waking = true) (answered : (f (s.port p)).wakeSent = true) :
    (s.updPort p f).wakeBoth p = s.updPort p (fun k => { f k with switchDue := if (f k).wakeGot then 2 else (f k).switchDue }) := by
  unfold State.wakeBoth
  simp only [State.port_updPort, woken, answered, Bool.true_and]
  cases got : (f (s.port p)).wakeGot
  · exact State.updPort_congr s p (by rw [if_neg (Bool.eq_false_iff.1 got)])
  · refine (State.updPort_updPort s p _ _).trans (State.updPort_congr s p ?_)
    rw [if_pos got]

end Ports

/-! ### Link control frames (R344 to R348, R352, R357, R358) -/

section Control
variable {s : State} {p now : Nat} {l : LinkWord}

/-- A control frame at a port that takes none in. -/
theorem State.controlCommand_deaf (deaf : (s.portAlive p && !s.isHn p) = false) (n1 n2 : Nat) :
    s.controlCommand p now l n1 n2 = { s with answer := .none } := if_neg (Bool.eq_false_iff.1 deaf)

/-- A control frame at a fabric port that trains or is up acts by its code, once its link word is taken. -/
theorem State.controlCommand_alive (alive : s.portAlive p = true) (fabric : s.isHn p = false) {v : State}
    (taken : (({ s with answer := .none } : State).count (Reg.prtRxFrames p) 1).takeLink p now l = v) (n1 n2 : Nat) :
    s.controlCommand p now l n1 n2 = v.onControl p n1 n2 := by
  subst taken
  exact if_pos (Bool.and_eq_true_iff.2 ⟨alive, congrArg (!·) fabric⟩)

/-- QUIET_ACK carries its answer above its code. -/
theorem State.onControl_quietAck (v : State) (accept : Bool) : v.onControl p (3 + 256 * b2n accept) 0 = v.onQuietAck p accept := by
  cases accept <;> rfl

/-- WIDTH carries the mask above its code. -/
theorem State.onControl_width (v : State) (mask : BitVec 8) : v.onControl p (7 + 256 * mask.toNat) 0 = v.onWidth p mask.toNat := by
  have code : (7 + 256 * mask.toNat) % 256 = 7 := by omega
  have carried : (7 + 256 * mask.toNat) / 256 % 256 = mask.toNat := by omega
  unfold State.onControl
  rw [code]
  exact congrArg (v.onWidth p) carried

/-- RESYNC carries the lsn in N2. -/
theorem State.onControl_resync (v : State) (lsn : BitVec 16) :
    v.onControl p 6 lsn.toNat = v.updPort p (fun k => { k with rxLsn := lsn.toNat, nakAt := none }) := by
  have whole : lsn.toNat % 65536 % 65536 = lsn.toNat := by omega
  show v.updPort p (fun k => { k with rxLsn := lsn.toNat % 65536 % 65536, nakAt := none }) = _
  rw [whole]

end Control

/-- Settles O31, code by code: what the frame brings is `State.controlCommand_alive`, and what its code does is the branch that the premise
picks. -/
theorem linkControlFramesAct : Obligations.LinkControlFramesAct := by
  intro s p now l
  constructor
  · intro deaf c mem
    simp only [List.mem_cons, List.not_mem_nil, or_false] at mem
    rcases mem with rfl | rfl | rfl | rfl | rfl | rfl | rfl | rfl | rfl
    all_goals exact congrArg Host.Outcome.next (State.controlCommand_deaf deaf _ _)
  · intro alive fabric v taken
    have acts : ∀ n1 n2, s.controlCommand p now l n1 n2 = v.onControl p n1 n2 := State.controlCommand_alive alive fabric taken
    refine ⟨congrArg Host.Outcome.next (acts 1 0), fun able judged => ⟨fun asked => ?crossed, fun free no => ?refused, fun free yes => ?agreed⟩,
      fun asked => ?accepted, fun asked => ?declined, fun free accept => ?unasked, fun entering => ?late, fun awake wide => ?answered,
      ?woken, fun still => ?quiet, fun woken sent => ?returns,
      fun lsn => ?resync, fun mask => ⟨fun other => ?noted, fun due => ?chosen⟩, congrArg Host.Outcome.next (acts 8 0)⟩
    case crossed =>
      subst judged
      exact congrArg Host.Outcome.next ((acts 2 0).trans (if_pos asked))
    case refused =>
      subst no
      refine congrArg Host.Outcome.next ((acts 2 0).trans ((if_neg (Bool.eq_false_iff.1 free)).trans ?_))
      rw [judged]
      rfl
    case agreed =>
      subst yes
      refine congrArg Host.Outcome.next ((acts 2 0).trans ((if_neg (Bool.eq_false_iff.1 free)).trans ?_))
      rw [judged]
      rfl
    case accepted =>
      exact congrArg Host.Outcome.next ((acts _ 0).trans ((v.onControl_quietAck true).trans (if_pos asked)))
    case declined =>
      exact congrArg Host.Outcome.next ((acts _ 0).trans ((v.onControl_quietAck false).trans (if_pos asked)))
    case unasked =>
      exact congrArg Host.Outcome.next ((acts _ 0).trans ((v.onControl_quietAck accept).trans (if_neg (Bool.eq_false_iff.1 free))))
    case late => exact congrArg Host.Outcome.next ((acts 4 0).trans (if_pos entering))
    case answered =>
      exact congrArg Host.Outcome.next ((acts 4 0).trans ((if_neg awake).trans (if_neg (Bool.eq_false_iff.1 wide))))
    case woken =>
      intro _ _ settled narrow
      refine ⟨_, congrArg Host.Outcome.next ((acts 4 0).trans ((if_neg settled).trans ((if_pos narrow).trans ?_))), rfl⟩
      exact State.wakeBoth_answered _ p _ rfl rfl
    case quiet => exact congrArg Host.Outcome.next ((acts 5 0).trans (if_neg (Bool.eq_false_iff.1 still)))
    case returns =>
      refine congrArg Host.Outcome.next ((acts 5 0).trans ((if_pos woken).trans ?_))
      rw [sent]
      exact State.wakeBoth_answered v p _ woken rfl
    case resync => exact congrArg Host.Outcome.next ((acts 6 _).trans (v.onControl_resync lsn))
    case noted =>
      refine congrArg Host.Outcome.next ((acts _ 0).trans ((v.onControl_width mask).trans (if_neg ?_)))
      rwa [State.port_updPort]
    case chosen =>
      refine congrArg Host.Outcome.next ((acts _ 0).trans ((v.onControl_width mask).trans (if_pos ?_)))
      rwa [State.port_updPort]

end Sys2Proof.Machine

/-!
Frames of the fabric ports: how an arriving one is judged, and what is sent, replayed and discarded.
-/
namespace Sys2Proof.Machine

/-! ### Frames that arrive (R343, R345, R346, R349) -/

section Arrivals
variable {y : State} {p now : Nat} {a : Arrival} {f : Frame}

/-- FRAME_RECEIVE at a fabric port that trains or is up counts codewords, then judges the frame. -/
theorem execFrameReceive_alive {s : State} {p : Fin 16} (alive : s.portAlive p = true) (fabric : s.isHn p = false)
    (counted : ({ s with answer := .none } : State).countCodewords p a.ucw a.cbits = y) :
    execFrameReceive p now a s = .next (y.receiveFrame p now a) := by
  subst counted
  exact congrArg Host.Outcome.next (if_pos (Bool.and_eq_true_iff.2 ⟨alive, congrArg (!·) fabric⟩))

/-- A frame whose FCS is bad is dropped; but for a control frame, a NAK asks for it again. -/
theorem State.receiveFrame_bad (bad : a.good = false) (read : Frame.ofBytes a.bytes = f) :
    y.receiveFrame p now a = (y.dropFrame p).cond (!(f.link.ftype == 1)) (fun s => s.sendNak p now) := by
  subst read
  exact if_pos (congrArg (!·) bad)

/-- The second check fails for a frame to another port. -/
theorem State.receiveFrame_elsewhere (good : a.good = true) (other : leNat (a.bytes.take 6) ≠ y.rdF (Reg.prtMac p) 47 0)
    (direct : leNat (a.bytes.take 6) ≠ lldpMac) : y.receiveFrame p now a = y.dropFrame p :=
  (if_neg (bnot_ne_true_of_eq_true good)).trans (if_pos ⟨other, direct⟩)

/-- The EtherType that arriving bytes carry. -/
def arrivalType (a : Arrival) : Nat := ((a.bytes[12]?).getD 0).toNat * 256 + ((a.bytes[13]?).getD 0).toNat

/-- A frame that passes the first two checks of R343. -/
structure State.Admits (y : State) (p : Nat) (a : Arrival) : Prop where
  good : a.good = true
  here : leNat (a.bytes.take 6) = y.rdF (Reg.prtMac p) 47 0 ∨ leNat (a.bytes.take 6) = lldpMac

/-- The checks of the frame's own words, and what follows for one that passes them. -/
def State.judgeFabric (s : State) (p now length : Nat) (f : Frame) : State :=
  if 1 < f.link.ftype ∨ f.link.mbz ≠ 0 then s.dropFrame p
  else if f.plen % 8 ≠ 0 ∨ 8192 < f.plen ∨ length ≠ frameLen f.plen then s.dropFrame p
  else if f.link.ftype == 1 then s.acceptControl p now f.link f.n1 f.n2
  else (s.takeLink p now f.link).acceptData p now f

section Admitted
variable (admits : y.Admits p a)
include admits

/-- A frame that is admitted is judged by its EtherType first. -/
theorem State.Admits.judged (read : Frame.ofBytes a.bytes = f) : y.receiveFrame p now a =
    if arrivalType a = 0x88CC then y else if arrivalType a ≠ y.rdF (Reg.prtEtype p) 15 0 then y.dropFrame p
      else y.judgeFabric p now a.bytes.length f := by
  subst read
  exact (if_neg (bnot_ne_true_of_eq_true admits.good)).trans (if_neg (fun other => admits.here.elim other.1 other.2))

theorem State.Admits.lldp (discovery : arrivalType a = 0x88CC) : y.receiveFrame p now a = y := (admits.judged rfl).trans (if_pos discovery)

variable (data : arrivalType a ≠ 0x88CC)
include data

theorem State.Admits.foreign (other : arrivalType a ≠ y.rdF (Reg.prtEtype p) 15 0) : y.receiveFrame p now a = y.dropFrame p :=
  (admits.judged rfl).trans ((if_neg data).trans (if_pos other))

theorem State.Admits.fabric (read : Frame.ofBytes a.bytes = f) (own : arrivalType a = y.rdF (Reg.prtEtype p) 15 0) :
    y.receiveFrame p now a = y.judgeFabric p now a.bytes.length f :=
  (admits.judged read).trans ((if_neg data).trans (if_neg (not_not_intro own)))

end Admitted

/-- A frame whose words break a rule of R342 is dropped. -/
theorem State.judgeFabric_malformed {length : Nat}
    (wrong : 1 < f.link.ftype ∨ f.link.mbz ≠ 0 ∨ f.plen % 8 ≠ 0 ∨ 8192 < f.plen ∨ length ≠ frameLen f.plen) :
    y.judgeFabric p now length f = y.dropFrame p := by
  by_cases link : 1 < f.link.ftype ∨ f.link.mbz ≠ 0
  · exact if_pos link
  · obtain ⟨type, mbz⟩ := not_or.1 link
    exact (if_neg link).trans (if_pos ((wrong.resolve_left type).resolve_left mbz))

/-- A frame whose words are in order acts by its type. -/
theorem State.judgeFabric_wellformed (type : f.link.ftype ≤ 1) (mbz : f.link.mbz = 0) (words : f.plen % 8 = 0) (short : f.plen ≤ 8192) :
    y.judgeFabric p now (frameLen f.plen) f =
      if (f.link.ftype == 1) = true then y.acceptControl p now f.link f.n1 f.n2 else (y.takeLink p now f.link).acceptData p now f :=
  (if_neg (by omega)).trans (if_neg (by omega))

/-! ### Data frames (R346, R349, R381) -/

/-- Fabric data is dropped unless the port takes it in. -/
theorem State.acceptData_closed (closed : y.rdB (Reg.prtCtrl p) 0 = false ∨ 8 ≤ y.planEntry p) : y.acceptData p now f = y.dropFrame p :=
  if_pos (by simpa using closed)

variable (enabled : y.rdB (Reg.prtCtrl p) 0 = true) (direction : y.planEntry p < 8)
include enabled direction

/-- A frame out of order is dropped, and asked for again. -/
theorem State.acceptData_outOfOrder (other : f.link.lsn ≠ (y.port p).rxLsn) : y.acceptData p now f = (y.dropFrame p).sendNak p now :=
  (if_neg (by simpa [enabled] using direction)).trans (if_pos other)

/-- The packet that a data frame brings, with the share group and dateline class of its circuit (R411). -/
def State.brought (y : State) (p : Nat) (f : Frame) : QPkt :=
  { vc := f.link.vc, grp := if f.link.vc = 7 then (y.inGroup p f.packet).1 else 0
    dl := if f.link.vc = 7 then (y.inGroup p f.packet).2 else 0, pkt := f.packet }

/-- A frame in order is accepted when its channel has room. -/
theorem State.acceptData_inOrder (next : f.link.lsn = (y.port p).rxLsn) {x : QPkt} (brings : x = y.brought p f) : y.acceptData p now f =
    if !y.hasRoom p x then ((y.dropFrame p).event 0x40B (.port p)).sendNak p now
    else (y.count (Reg.prtRxFrames p) 1).updPort p (fun k => { k with
      rxLsn := (k.rxLsn + 1) % 65536, rxAny := true, nakAt := none, used := k.used.upd x.account (· + frameUnits x.pkt)
      input := k.input ++ [x] }) := by
  subst brings
  refine (if_neg (by simpa [enabled] using direction)).trans ((if_neg (not_not_intro next)).trans ?_)
  unfold State.brought
  by_cases circuit : f.link.vc = 7
  · simp only [if_pos circuit]
  · simp only [if_neg circuit]

end Arrivals

/-! ### Frames that are sent (R342, R345, R382) -/

section Sending
variable (s : State) (p : Nat)

/-- The first credit return goes out with a frame. -/
def Port.returnSent (k : Port) : Port := { k with returns := k.returns.drop 1 }

/-- The bytes of a frame between a port and its peer. -/
def State.frameBytesOf (s : State) (p : Nat) (f : Frame) : List Byte :=
  f.bytes (s.rdF (Reg.prtPeerMac p) 47 0) (s.rdF (Reg.prtMac p) 47 0) (s.rdF (Reg.prtEtype p) 15 0)

/-- A frame is on the wire, and counted. -/
def State.frameSent (s : State) (p : Nat) (f : Frame) : State :=
  ((s.updPort p Port.returnSent).wire (.frame p (s.frameBytesOf p f))).count (Reg.prtTxFrames p) 1

theorem State.port_frameSent (f : Frame) : (s.frameSent p f).port p = (s.port p).returnSent := s.port_updPort p _

theorem State.rd_frameSent_ne (f : Frame) {a : Nat} (other : a ≠ Reg.prtTxFrames p) : (s.frameSent p f).rd a = s.rd a :=
  State.rd_wr_ne _ _ other

theorem State.answer_frameSent (f : Frame) : ∃ outs, (s.frameSent p f).answer = .wire (outs ++ [.frame p (s.frameBytesOf p f)]) := ⟨_, rfl⟩

/-- A frame leaves, and no more happens, when no switch of lanes is due. -/
theorem State.putFrame_steady (f : Frame) (steady : (s.port p).switchDue = 0) : s.putFrame p f = s.frameSent p f :=
  if_pos ((congrArg Port.switchDue (s.port_frameSent p f)).trans steady)

/-- A control frame of a port at rest is all that the port sends. -/
theorem State.sendControl_steady (code n1 n2 : Nat) (nak : Bool) (fabric : s.isHn p = false) (steady : (s.port p).switchDue = 0)
    (late : (s.port p).wakeLate = false) (early : (s.port p).wakeWanted = false) :
    s.sendControl p code n1 n2 nak = s.frameSent p ((s.port p).control code n1 n2 nak) := by
  refine (if_neg (Bool.eq_false_iff.1 fabric)).trans ?_
  unfold State.sendFrame
  dsimp only
  rw [s.putFrame_steady p _ steady, State.port_frameSent]
  exact (if_neg (by simp [Port.returnSent, early])).trans (if_neg (by simp [Port.returnSent, late]))

/-- The link word of a frame: the acknowledgement, and the first credit return that is due. -/
theorem Port.linkWord_eq (k : Port) (ftype vc lsn : Nat) (nak : Bool) : ∃ c u, k.linkWord ftype vc lsn nak =
    { lsn := lsn, ackLsn := (k.rxLsn + 65535) % 65536, ackV := k.rxAny, nak := nak, vc := vc, ftype := ftype
      crV := !k.returns.isEmpty, crVc := c, crUnits := u } ∧
    ∀ a n rest, k.returns = (a, n) :: rest → a < 7 → c = a ∧ u = n := by
  unfold Port.linkWord
  dsimp only
  cases k.returns with
  | nil => exact ⟨0, 0, rfl, fun a n rest first => by simp at first⟩
  | cons e rest =>
    by_cases channel : e.1 < 7
    · refine ⟨e.1, e.2, if_pos channel, ?_⟩
      rintro _ _ _ ⟨⟩ -
      exact ⟨rfl, rfl⟩
    · refine ⟨7, (e.1 - 8) / 2 * 64 + (e.1 - 8) % 2 * 32 + e.2, if_neg channel, ?_⟩
      rintro _ _ _ ⟨⟩ near
      exact absurd near channel

end Sending

/-- Settles O32: an arriving frame goes through the checks in order, `State.Admits.judged`, `State.judgeFabric_wellformed` and
`State.acceptData_inOrder`; what a control frame carries is `State.sendControl_steady` with `Port.linkWord_eq`. -/
theorem framesFollowTheLinkRules : Obligations.FramesFollowTheLinkRules := by
  rintro s _ p now rfl
  refine ⟨?arrives, fun l => ⟨?nak, ?noNak⟩, ?send, fun below empty => ?nothing, fun up kept => ?replay,
    fun empty => ⟨?noReplay, ?noDiscard⟩, ?discard, fun down => ?silent, fun up => ?idle, ?control⟩
  case arrives =>
    rintro alive fabric a f _ _ y counted read rfl rfl
    have received := execFrameReceive_alive (now := now) alive fabric counted
    refine ⟨fun bad data => ?_, fun bad control => ?_, fun good other direct => ?_, fun good here => ?_⟩
    · exact received.trans (congrArg Host.Outcome.next ((State.receiveFrame_bad bad read).trans (State.cond_true _ (by simpa using data) _)))
    · exact received.trans (congrArg Host.Outcome.next ((State.receiveFrame_bad bad read).trans (State.cond_false _ (by simpa using control) _)))
    · exact received.trans (congrArg Host.Outcome.next (State.receiveFrame_elsewhere good other direct))
    · have admits : y.Admits p a := ⟨good, here⟩
      refine ⟨fun lldp => received.trans (congrArg Host.Outcome.next (admits.lldp lldp)),
        fun data foreign => received.trans (congrArg Host.Outcome.next (admits.foreign data foreign)), fun data own => ?_⟩
      have judged := received.trans (congrArg Host.Outcome.next (admits.fabric data read own))
      refine ⟨fun wrong => judged.trans (congrArg Host.Outcome.next (State.judgeFabric_malformed wrong)), fun type mbz words short whole => ?_⟩
      rw [whole, State.judgeFabric_wellformed type mbz words short] at judged
      refine ⟨fun control => judged.trans (congrArg Host.Outcome.next (if_pos (beq_iff_eq.2 control))), ?_⟩
      rintro isData _ rfl
      have accepted := judged.trans (congrArg Host.Outcome.next (if_neg (by simp [isData])))
      refine ⟨fun closed => accepted.trans (congrArg Host.Outcome.next (State.acceptData_closed closed)), fun enabled direction =>
        ⟨fun other => accepted.trans (congrArg Host.Outcome.next (State.acceptData_outOfOrder enabled direction other)), ?_⟩⟩
      intro next x brings
      have inOrder := accepted.trans (congrArg Host.Outcome.next (State.acceptData_inOrder enabled direction next brings))
      exact ⟨fun full => inOrder.trans (congrArg Host.Outcome.next (if_pos (congrArg (!·) full))),
        fun room => inOrder.trans (congrArg Host.Outcome.next (if_neg (bnot_ne_true_of_eq_true room)))⟩
  case nak =>
    intro alive fabric asks
    refine congrArg Host.Outcome.next ((if_pos ?_).trans (if_pos asks))
    exact Bool.and_eq_true_iff.2 ⟨Bool.and_eq_true_iff.2 ⟨alive, congrArg (!·) fabric⟩, asks⟩
  case noNak => exact fun no => congrArg Host.Outcome.next (if_neg (by simp [no]))
  case send =>
    intro below x xs first fabric up room
    unfold exec execDataFrameSend
    dsimp only
    rw [first]
    refine congrArg Host.Outcome.next ((if_neg (Bool.eq_false_iff.1 fabric)).trans (if_pos ?_))
    exact Bool.and_eq_true_iff.2 ⟨up, decide_eq_true room⟩
  case nothing =>
    unfold exec execDataFrameSend
    dsimp only
    rw [empty]
  case replay => exact congrArg Host.Outcome.next (if_pos (by simpa [up] using kept))
  case noReplay => exact congrArg Host.Outcome.next (if_neg (by simp [empty]))
  case noDiscard => exact congrArg Host.Outcome.next (if_pos (by simp [empty]))
  case discard =>
    rintro unacknowledged _ rfl
    have kept : ¬ (({ s with answer := .none } : State).port p).replay.isEmpty = true := by simpa using unacknowledged
    exact ⟨fun up => congrArg Host.Outcome.next ((if_neg kept).trans (congrArg (State.event · 0x409 (.port p)) (if_pos up))),
      fun down => congrArg Host.Outcome.next ((if_neg kept).trans
        (congrArg (State.event · 0x409 (.port p)) (if_neg (Bool.eq_false_iff.1 down))))⟩
  case silent => exact congrArg Host.Outcome.next (State.cond_false _ down _)
  case idle => exact congrArg Host.Outcome.next (State.cond_true _ up _)
  case control =>
    intro code n1 n2 nak fabric steady late early
    rw [s.sendControl_steady p code n1 n2 nak fabric steady late early]
    obtain ⟨outs, answered⟩ := s.answer_frameSent p ((s.port p).control code n1 n2 nak)
    refine ⟨_, rfl, s.port_frameSent p _, fun a other => s.rd_frameSent_ne p _ other, (s.port p).linkWord 1 0 0 nak, outs, answered, ?_⟩
    obtain ⟨c, u, word, first⟩ := (s.port p).linkWord_eq 1 0 0 nak
    rw [word]
    exact ⟨rfl, rfl, rfl, rfl, rfl, rfl, rfl, first⟩

end Sys2Proof.Machine

/-!
Ports: training, retraining, retirement and quiet mode.
-/
namespace Sys2Proof.Machine

/-! ### Training (R335, R350, R353) -/

section Training
variable {s : State} {p : Nat}

/-- The state of a port stands in its register. -/
@[simp] theorem State.lstate_updPort (f : Port → Port) (q : Nat) : (s.updPort p f).lstate q = s.lstate q := rfl

/-- A port may train when its domain is on, its module is there and it is not retired. -/
theorem State.mayTrain_eq_true : s.mayTrain p = true ↔
    s.domOn (portDomain p) = true ∧ (s.port p).present = true ∧ (s.port p).settled = true ∧ s.lstate p ≠ 6 := by
  simp [State.mayTrain, State.portReady, and_assoc]

/-- A port whose module has settled starts to train from a state of rest, its domain being on. -/
theorem State.settled_mayTrain (on : s.domOn (portDomain p) = true) (unretired : s.lstate p ≠ 6) :
    (s.updPort p (fun k => { k with present := true, settled := true })).mayTrain p = true := by
  refine State.mayTrain_eq_true.2 ⟨on, ?_, ?_, unretired⟩ <;> rw [State.port_updPort]

/-- What retraining leaves of the port, and what it resets (R353). -/
theorem State.startRetrain_leaves (s : State) (p r : Nat) :
    (s.startRetrain p r).lstate p = 4 ∧ ((s.startRetrain p r).port p).phase = 1 ∧ ((s.startRetrain p r).port p).resyncDue = true ∧
    ((s.startRetrain p r).port p).replay = (s.port p).replay ∧ ((s.startRetrain p r).port p).owed = (s.port p).owed ∧
    ((s.startRetrain p r).port p).txLsn = (s.port p).txLsn ∧ ((s.startRetrain p r).port p).rxLsn = (s.port p).rxLsn := by
  constructor
  · exact (State.rdF_wrF_field _ _ _ _ _ _ _ (by decide) (by decide)).trans (State.rdF_wrF_same _ _ _ _ _ (by decide) (by decide))
  · unfold State.startRetrain
    dsimp only
    rw [State.port_updPort]
    simp only [State.port, State.wrF_ports, State.event_ports, and_self]

end Training

/-! ### Writes to PRT_CTRL (R353, R355, R359, R367) -/

section Writes
variable {s : State} {p : Nat} {ag : Agent} (served : s.csrPath ag (Reg.prtCtrl p) 4 = .served) (pmc : Bool) (f : State → State)
include served

/-- An agent that may write PRT_CTRL has its effect. -/
theorem State.prtCtrlWrite_allowed (may : ag = .fab ∨ ag.isPf0 = true ∨ (pmc = true ∧ ag = .pmc)) :
    s.prtCtrlWrite ag p pmc f = f { s with answer := .none } :=
  (State.csrAccess_served _ _ served).trans (if_pos may)

/-- Every other agent is refused. -/
theorem State.prtCtrlWrite_refused (fab : ag ≠ .fab) (pf0 : ag.isPf0 = false) (other : pmc = true → ag ≠ .pmc) :
    s.prtCtrlWrite ag p pmc f = ({ s with answer := .none } : State).refuseWrite ag := by
  refine (State.csrAccess_served _ _ served).trans (if_neg ?_)
  rintro (same | function | ⟨may, same⟩)
  · exact fab same
  · exact Bool.eq_false_iff.1 pf0 function
  · exact other may same

end Writes

/-- PRT_RETRAIN by an agent that may ask for it, or by the peer. -/
theorem execPrtRetrain_allowed {s : State} {ag : Agent} {p : Fin 16} (served : s.csrPath ag (Reg.prtCtrl p) 4 = .served)
    (may : ag = .fab ∨ ag.isPf0 = true ∨ ag = .none) : execPrtRetrain ag p s = .next (({ s with answer := .none } : State).retrainNow p) := by
  by_cases peer : ag = .none
  · exact congrArg Host.Outcome.next (if_pos peer)
  · refine congrArg Host.Outcome.next ((if_neg peer).trans (State.prtCtrlWrite_allowed served _ _ ?_))
    exact may.imp_right (fun rest => .inl (rest.resolve_right peer))

/-! ### Resets of a port (R354, R355) -/

section Reset
variable {s : State} {p : Nat} {u : Bool}

/-- The port that is reset will repeat its link check and send RESYNC, and its down time does not run (R355, R653). -/
def State.resetMarked (s : State) (p : Nat) (u : Bool) : State :=
  (s.wrF (Reg.prtCtrl p) 6 5 (1 + 2 * b2n u)).updPort p (fun k => { k with checkDue := true, resyncDue := true, downRuns := false })

/-- A retired port returns to service with its module. -/
theorem State.portReset_unretires (retired : s.lstate p = 6) (asked : u = true) {w : State}
    (marked : (s.resetMarked p u).updPort p (fun k => { k with unretire := true }) = w) :
    s.portReset p u = if w.portReady p = true then w.startTrain p else w.wrF (Reg.prtStatus p) 2 0 0 := by
  subst marked
  exact if_pos ⟨retired, asked⟩

theorem State.portReset_retrains (up : s.lstate p = 3 ∨ s.lstate p = 4) : s.portReset p u = (s.resetMarked p u).startRetrain p 3 :=
  (if_neg (by omega)).trans (if_pos up)

/-- A port that is down and may not train is not reset. -/
theorem State.portReset_idle (idle : s.lstate p = 0 ∨ (s.lstate p = 6 ∧ u = false) ∨
    (s.mayTrain p = false ∧ s.lstate p ≠ 3 ∧ s.lstate p ≠ 4 ∧ s.lstate p ≠ 6)) : s.portReset p u = s := by
  refine (if_neg ?_).trans ((if_neg (by omega)).trans (if_pos ?_))
  · rintro ⟨retired, asked⟩
    simp [retired, asked] at idle
  · rcases idle with down | ⟨retired, -⟩ | ⟨blocked, -⟩
    · exact .inr (.inl down)
    · exact .inl retired
    · exact .inr (.inr (congrArg (!·) blocked))

theorem State.portReset_trains (may : s.mayTrain p = true) (present : s.lstate p ≠ 0) (notUp : s.lstate p ≠ 3) (settled : s.lstate p ≠ 4) :
    s.portReset p u = (s.resetMarked p u).startTrain p := by
  obtain ⟨-, -, -, unretired⟩ := State.mayTrain_eq_true.1 may
  refine (if_neg (fun both => unretired both.1)).trans ((if_neg (by omega)).trans (if_neg ?_))
  simp [unretired, present, may]

end Reset

/-! ### Requests for quiet mode and for wake (R357 to R359) -/

section Quiet
variable {s : State} {p : Nat}

/-- A wake goes out at once at a port that is quiet. -/
theorem State.askWake_quiet (up : s.portUp p = true) (quiet : s.rdB (Reg.prtStatus p) 5 = true) (idle : (s.port p).waking = false) :
    s.askWake p = ((s.updPort p (fun k => { k with waking := true })).wrB (Reg.prtStatus p) 7 true).sendControl p 4 0 0 :=
  (if_neg (by simp [quiet])).trans (if_pos (by simp [up, quiet, idle]))

/-- A wake waits for the port's own quiet request or entry. -/
theorem State.askWake_entering (up : s.portUp p = true) (wide : s.rdB (Reg.prtStatus p) 5 = false)
    (entering : (s.port p).quietAsked = true ∨ (s.port p).switchDue = 1) :
    s.askWake p = s.updPort p (fun k => { k with wakeWanted := true }) :=
  if_pos (by simpa [up, wide] using entering)

end Quiet

/-- Settles O33, command by command: writes to PRT_CTRL go by `State.prtCtrlWrite_allowed` and `State.prtCtrlWrite_refused`, the port reset
by the lemma of its link state, and every other clause is the branch that its premise picks. -/
theorem portsTrainAndRest : Obligations.PortsTrainAndRest := by
  rintro s _ p rfl
  refine ⟨?leaves, ?settles, rfl, fun blocked o => ?blocked, fun may => ?train, fun still => congrArg Host.Outcome.next (if_pos still),
    fun busy => congrArg Host.Outcome.next (if_neg busy), ?lost, fun down => ?notUp, fun r => ⟨_, rfl, s.startRetrain_leaves p r⟩,
    fun other => congrArg Host.Outcome.next (if_neg other), ?fails, fun runs down => ?late, fun idle => ?early, fun ag served => ?writes,
    fun off => ⟨?noQuiet, ?noWake⟩, fun on => ⟨?quiet, fun full => ?wake, fun low => ?calm⟩, fun able => if_pos able,
    fun no => if_neg (Bool.eq_false_iff.1 no), State.askWake_quiet, State.askWake_entering⟩
  case leaves =>
    rintro _ rfl
    constructor
    · exact fun retired => congrArg Host.Outcome.next (congrArg (State.event · 0x405 (.port p))
        (State.cond_false _ (decide_eq_false (not_not_intro retired)) _))
    · exact fun inUse => congrArg Host.Outcome.next (congrArg (State.event · 0x405 (.port p)) (State.cond_true _ (decide_eq_true inUse) _))
  case settles =>
    rintro _ rfl
    refine ⟨fun on rest => ?_, fun stays => congrArg Host.Outcome.next (if_neg (fun both => ?_))⟩
    · have may := State.settled_mayTrain (s := { s with answer := .none }) on (fun retired : s.lstate p = 6 => by omega)
      refine congrArg Host.Outcome.next (if_pos (Bool.and_eq_true_iff.2 ⟨may, ?_⟩))
      simpa using rest
    · obtain ⟨may, rest⟩ := Bool.and_eq_true_iff.1 both
      obtain ⟨on, -⟩ := State.mayTrain_eq_true.1 may
      rcases stays with off | ⟨present, unsettled⟩
      · exact Bool.eq_false_iff.1 off on
      · exact (Bool.or_eq_true_iff.1 rest).elim (fun down => present (beq_iff_eq.1 down)) (fun left => unsettled (beq_iff_eq.1 left))
  case blocked => exact congrArg Host.Outcome.next (if_neg (Bool.eq_false_iff.1 blocked))
  case train =>
    refine ⟨fun rest => ?_, fun pma => ?_, fun c aligned => ⟨fun check => ?_, fun done same retrains => ?_, fun done same trains => ?_⟩,
      fun cs u checked => ?_, fun discovery heard => ?_⟩
    · exact congrArg Host.Outcome.next ((if_pos may).trans (if_pos rest))
    · exact congrArg Host.Outcome.next ((if_pos may).trans (if_pos pma))
    · exact congrArg Host.Outcome.next ((if_pos may).trans ((if_pos aligned).trans (if_pos (Bool.or_eq_true_iff.2 check))))
    · exact congrArg Host.Outcome.next ((if_pos may).trans ((if_pos aligned).trans ((if_neg (by simp [done, same])).trans (if_pos retrains))))
    · exact congrArg Host.Outcome.next ((if_pos may).trans ((if_pos aligned).trans ((if_neg (by simp [done, same])).trans (if_neg trains))))
    · exact congrArg Host.Outcome.next ((if_pos may).trans (if_pos checked))
    · exact congrArg Host.Outcome.next ((if_pos may).trans (if_pos ⟨discovery, heard⟩))
  case lost =>
    rintro _ rfl up
    exact ⟨congrArg Host.Outcome.next (if_pos up), congrArg Host.Outcome.next (if_pos up)⟩
  case notUp =>
    exact ⟨congrArg Host.Outcome.next (if_neg (Bool.eq_false_iff.1 down)),
      congrArg Host.Outcome.next (if_neg (Bool.eq_false_iff.1 down))⟩
  case fails =>
    rintro retrains _ rfl
    exact ⟨fun third => congrArg Host.Outcome.next ((if_pos retrains).trans (if_pos third)),
      fun again => congrArg Host.Outcome.next ((if_pos retrains).trans (if_neg (Nat.not_le.2 again)))⟩
  case late => exact congrArg Host.Outcome.next (if_pos (Bool.and_eq_true_iff.2 ⟨runs, congrArg (!·) down⟩))
  case early => exact congrArg Host.Outcome.next (if_neg (by simpa [Decidable.imp_iff_not_or] using idle))
  case writes =>
    refine ⟨fun fab pf0 => ⟨fun device => ?_, fun u => ?_⟩, fun fab pf0 pmc v => ?_, fun may => ⟨fun up => ?_, fun down => ?_⟩,
      fun may => ?_, fun may => ⟨?_, ?_⟩⟩
    · exact congrArg Host.Outcome.next ((if_neg device).trans (State.prtCtrlWrite_refused served _ _ fab pf0 (by simp)))
    · exact congrArg Host.Outcome.next (State.prtCtrlWrite_refused served _ _ fab pf0 (by simp))
    · exact congrArg Host.Outcome.next (State.prtCtrlWrite_refused served _ _ fab pf0 (fun _ => pmc))
    · exact (execPrtRetrain_allowed served may).trans (congrArg Host.Outcome.next (if_pos up))
    · exact (execPrtRetrain_allowed served may).trans (congrArg Host.Outcome.next (if_neg (Bool.eq_false_iff.1 down)))
    · rintro u _ rfl
      have resets : execPrtPortReset ag p u s = .next (({ s with answer := .none } : State).portReset p u) :=
        congrArg Host.Outcome.next (State.prtCtrlWrite_allowed served _ _ (may.imp_right .inl))
      refine ⟨?_, fun up => ?_, fun idle => ?_, fun trains present notUp settled => ?_⟩
      · intro w retired asked marked
        have unretires := resets.trans (congrArg Host.Outcome.next
          (State.portReset_unretires (s := { s with answer := .none }) retired asked marked))
        exact ⟨fun ready => unretires.trans (congrArg Host.Outcome.next (if_pos ready)),
          fun absent => unretires.trans (congrArg Host.Outcome.next (if_neg (Bool.eq_false_iff.1 absent)))⟩
      · exact resets.trans (congrArg Host.Outcome.next (State.portReset_retrains up))
      · exact resets.trans (congrArg Host.Outcome.next (State.portReset_idle idle))
      · exact resets.trans (congrArg Host.Outcome.next (State.portReset_trains trains present notUp settled))
    all_goals exact congrArg Host.Outcome.next (State.prtCtrlWrite_allowed served _ _ (may.imp_right (·.imp_right (⟨rfl, ·⟩))))
  case noQuiet => exact congrArg Host.Outcome.next (State.cond_false _ off _)
  case noWake => exact congrArg Host.Outcome.next (State.cond_false _ (Bool.and_eq_false_iff.2 (.inl off)) _)
  case quiet => exact congrArg Host.Outcome.next (State.cond_true _ on _)
  case wake => exact congrArg Host.Outcome.next (State.cond_true _ (Bool.and_eq_true_iff.2 ⟨on, decide_eq_true full⟩) _)
  case calm => exact congrArg Host.Outcome.next (State.cond_false _ (Bool.and_eq_false_iff.2 (.inr (decide_eq_false (Nat.not_lt.2 low)))) _)

end Sys2Proof.Machine

/-!
Discovery, host-network frames and the port plan.
-/
namespace Sys2Proof.Machine

/-! ### The neighbour that an LLDP frame tells of (R338, R361, R462) -/

section Discovery
variable (v : State) (p : Nat) (f : Lldp)

/-- PRT_PEER as a frame sets it: node, port and entry of the neighbour, valid (R371). -/
def lldpPeerWord (f : Lldp) : W64 := setFld (setFld (setFld (setFld 0 19 0 f.node) 23 20 f.port) 27 24 f.entry) 63 63 1

theorem lldpPeerWord_fields : fld (lldpPeerWord f) 19 0 = f.node % 2 ^ 20 ∧ fld (lldpPeerWord f) 23 20 = f.port % 2 ^ 4 ∧
    fld (lldpPeerWord f) 27 24 = f.entry % 2 ^ 4 := by
  unfold lldpPeerWord
  refine ⟨?_, ?_, ?_⟩
  · rw [fld_setFld_ne _ _ _ _ _ _ (by decide) (by decide), fld_setFld_ne _ _ _ _ _ _ (by decide) (by decide),
      fld_setFld_ne _ _ _ _ _ _ (by decide) (by decide), fld_setFld_same _ _ _ _ (by decide) (by decide)]
  · rw [fld_setFld_ne _ _ _ _ _ _ (by decide) (by decide), fld_setFld_ne _ _ _ _ _ _ (by decide) (by decide),
      fld_setFld_same _ _ _ _ (by decide) (by decide)]
  · rw [fld_setFld_ne _ _ _ _ _ _ (by decide) (by decide), fld_setFld_same _ _ _ _ (by decide) (by decide)]

/-- The neighbour is recorded, with what has been judged of it. -/
def State.neighbourRecorded (fits twoWay : Bool) : State :=
  (((v.wr (Reg.prtPeer p) (lldpPeerWord f)).wrF (Reg.prtPeerMac p) 47 0 f.portId).wrB (Reg.prtStatus p) 6 twoWay).updPort p
    (fun k => { k with neighbour := some f, barred := !fits || !twoWay })

theorem State.neighbourRecorded_twoWay (fits twoWay : Bool) : (v.neighbourRecorded p f fits twoWay).rdB (Reg.prtStatus p) 6 = twoWay :=
  State.rdB_wrB_same _ _ _ _ (by decide)

theorem State.neighbourRecorded_peer (fits twoWay : Bool) : (v.neighbourRecorded p f fits twoWay).rd (Reg.prtPeer p) = lldpPeerWord f := by
  have status : Reg.prtPeer p ≠ Reg.prtStatus p := by
    unfold Reg.prtPeer Reg.prtStatus
    omega
  have mac : Reg.prtPeer p ≠ Reg.prtPeerMac p := by
    unfold Reg.prtPeer Reg.prtPeerMac
    omega
  exact (State.rd_wrB_ne _ _ _ status).trans ((State.rd_wrF_ne _ _ _ _ mac).trans (State.rd_wr_same _ _ _))

/-- What follows of a recorded neighbour: event 0x407 and the loss of fabric_en, the judgement of its direction, and bring-up. -/
def State.neighbourJudged (w : State) (changed fits first : Bool) : State :=
  let x := ((w.cond (changed || (!fits && first)) (fun s => s.event 0x407 (.port p))).cond (changed || !fits)
    (fun s => s.wrB (Reg.prtCtrl p) 0 false)).cond changed (fun s => s.report 0x407 p 0)
  (x.judgeDirection (x.planEntry p)).enableAtBringup p f (fits && !changed)

/-- A received LLDP frame records the neighbour and judges it. -/
theorem State.takeLldp_eq {changed fits first twoWay : Bool}
    (other : changed = (v.port p).neighbour.any (fun n => decide (n.chassis ≠ f.chassis ∨ n.portId ≠ f.portId)))
    (allowed : fits = v.neighbourFits p f)
    (met : first = (v.port p).neighbour.all (fun n => decide (n.entry ≠ f.entry ∨ n.chassis ≠ f.chassis)))
    (echoes : twoWay = decide (f.echoMac = v.rdF (Reg.prtMac p) 47 0 ∧ f.echoPort = p)) :
    v.takeLldp p f = (v.neighbourRecorded p f fits twoWay).neighbourJudged p f changed fits first := by
  subst other allowed met echoes
  unfold State.takeLldp
  dsimp only
  cases (v.port p).neighbour <;> rfl

end Discovery

/-- LLDP_RECEIVE at a port that hears its neighbour. -/
theorem execLldpReceive_heard {s v : State} {p : Fin 16} {f : Lldp} (hears : s.portUp p = true ∨ (s.port p).phase = 5)
    (counted : ({ s with answer := .none } : State).count (Reg.prtRxFrames p) 1 = v) :
    execLldpReceive p f s = .next (if v.isHn p = true then v.hnPeer p f else v.takeLldp p f) := by
  subst counted
  refine congrArg Host.Outcome.next (if_pos ?_)
  simpa using hears

/-! ### Host-network frames (R362 to R365) -/

/-- HN_FRAME_RECEIVE at a host-network port that is up. -/
theorem execHnFrameReceive_up {s : State} {p : Fin 16} (hn : s.isHn p = true) (active : s.rdB (Reg.prtCtrl p) 1 = true)
    (up : s.portUp p = true) (a : HnArrival) : execHnFrameReceive p a s = .next (({ s with answer := .none } : State).takeHn p a) :=
  congrArg Host.Outcome.next (if_pos (Bool.and_eq_true_iff.2 ⟨Bool.and_eq_true_iff.2 ⟨hn, active⟩, up⟩))

/-- Counting a received frame leaves the priorities of the port (R363). -/
theorem State.rdF_count_rxFrames (s : State) (p n hi lo : Nat) :
    (s.count (Reg.prtRxFrames p) n).rdF (Reg.prtHnCtrl p) hi lo = s.rdF (Reg.prtHnCtrl p) hi lo := by
  refine State.rdF_congr (State.rd_wr_ne _ _ ?_) _ _
  unfold Reg.prtHnCtrl Reg.prtRxFrames
  omega

/-- Settles O34, command by command; a received LLDP frame by `State.takeLldp_eq`. -/
theorem discoveryAndHostNetworkFrames : Obligations.DiscoveryAndHostNetworkFrames := by
  rintro s _ p rfl
  refine ⟨fun speaks => congrArg Host.Outcome.next (if_pos (by simpa using speaks)), fun down still => ?deaf, ?hears, rfl,
    fun a out => ?noHn, fun hn active up => ?hn,
    fun prio pause => ⟨fun out => ?noPause, fun on plain => ?ignored, ?pauses⟩,
    fun ag v served => ⟨fun may => ?plan, fun fab pf0 => ?refused⟩⟩
  case deaf =>
    have closed : ¬ (({ s with answer := .none } : State).portUp p || (({ s with answer := .none } : State).port p).phase == 5) = true := by
      simp [down, still]
    exact ⟨congrArg Host.Outcome.next (if_neg closed), fun f => congrArg Host.Outcome.next (if_neg closed)⟩
  case hears =>
    intro f v counted hears
    have heard := execLldpReceive_heard (f := f) hears counted
    refine ⟨fun hn => heard.trans (congrArg Host.Outcome.next (if_pos hn)), fun fabric changed fits first twoWay other allowed met echoes => ?_⟩
    have judged := heard.trans (congrArg Host.Outcome.next ((if_neg (Bool.eq_false_iff.1 fabric)).trans
      (v.takeLldp_eq p f other allowed met echoes)))
    have peer : (v.neighbourRecorded p f fits twoWay).rd (Reg.prtPeer p) = lldpPeerWord f := v.neighbourRecorded_peer p f fits twoWay
    obtain ⟨node, port, entry⟩ := lldpPeerWord_fields f
    refine ⟨v.neighbourRecorded p f fits twoWay, rfl, ⟨v.neighbourRecorded_twoWay p f fits twoWay, (congrArg (fld · 19 0) peer).trans node,
      (congrArg (fld · 23 20) peer).trans port, (congrArg (fld · 27 24) peer).trans entry⟩, ?same, ?newlyMet, ?stillUnfit, ?changed⟩
    case same =>
      rintro rfl rfl
      exact judged
    case newlyMet =>
      rintro _ rfl rfl rfl rfl
      exact judged
    case stillUnfit =>
      rintro _ rfl rfl rfl rfl
      exact judged
    case changed =>
      rintro _ rfl rfl
      rw [State.neighbourJudged, Bool.not_true, Bool.and_false] at judged
      exact judged
  case noHn =>
    refine congrArg Host.Outcome.next (if_neg ?_)
    simpa [and_assoc, Decidable.imp_iff_not_or] using out
  case hn =>
    have takes := execHnFrameReceive_up hn active up
    refine ⟨?accepts, fun f good no => ?drops, takes .other, fun m => takes (.advert m), fun f => takes (.lldp f),
      fun t => ⟨fun may own => ?solicited, fun unasked => ?unanswered⟩⟩
    case accepts =>
      rintro f good _ yes rfl
      exact (takes _).trans (congrArg Host.Outcome.next (if_pos yes))
    case drops => exact (takes _).trans (congrArg Host.Outcome.next (if_neg (Bool.eq_false_iff.1 no)))
    case solicited => exact (takes _).trans (congrArg Host.Outcome.next (if_pos (Bool.and_eq_true_iff.2 ⟨may, beq_iff_eq.2 own⟩)))
    case unanswered =>
      exact (takes _).trans (congrArg Host.Outcome.next (if_neg
        (Bool.eq_false_iff.1 (Bool.and_eq_false_iff.2 (unasked.imp_right beq_eq_false_iff_ne.2)))))
  case noPause => exact congrArg Host.Outcome.next (if_pos (congrArg (!·) out))
  case ignored => exact congrArg Host.Outcome.next ((if_neg (bnot_ne_true_of_eq_true on)).trans (if_neg (Bool.eq_false_iff.1 plain)))
  case pauses =>
    rintro _ rfl on honours
    rw [State.rdF_count_rxFrames, State.rdF_count_rxFrames]
    exact congrArg Host.Outcome.next ((if_neg (bnot_ne_true_of_eq_true on)).trans (if_pos honours))
  case plan =>
    exact ⟨_, congrArg Host.Outcome.next ((State.csrAccess_served _ _ served).trans (if_pos may)), State.rd_wr_same _ _ _,
      fun a other => State.rd_wr_ne _ _ other, rfl, rfl, rfl⟩
  case refused =>
    exact congrArg Host.Outcome.next ((State.csrAccess_served _ _ served).trans
      (if_neg (fun may => may.elim fab (Bool.eq_false_iff.1 pf0))))

end Sys2Proof.Machine

/-!
The router: what a routing decision does with a packet, and what its tables take.
-/
namespace Sys2Proof.Machine

/-! ### A packet at the head of its channel (R375 to R386, R416, R425) -/

section Route
variable {s : State} {src : Nat} {x : QPkt}

/-- A multicast packet from a port leaves a copy at a device that consumes it (R416). -/
def State.copied (w : State) (src : Nat) (x : QPkt) : State :=
  if src < 16 ∧ x.pkt.mcast = true ∧ x.pkt.cls = 6 ∧ w.nodeValid = true ∧ w.mcastConsumes x.pkt = true then w.toEndpoint x.pkt else w

theorem State.cond_copy (w : State) (src : Nat) (x : QPkt) : w.cond (src < 16 && x.pkt.mcast && x.pkt.cls == 6 && w.nodeValid &&
    w.mcastConsumes x.pkt) (fun s => s.toEndpoint x.pkt) = w.copied src x := by
  refine ite_congr_of_iff ?_ rfl rfl
  simp only [Bool.and_eq_true, decide_eq_true_eq, beq_iff_eq, and_assoc]

theorem State.routeOne_wait (route : s.routeOf src x = .wait) : s.routeOne src x = s := by
  unfold State.routeOne
  rw [route]

theorem State.routeOne_local (route : s.routeOf src x = .local') : s.routeOne src x = (s.leaveSource src x).toEndpoint x.pkt := by
  unfold State.routeOne
  rw [route]

theorem State.routeOne_ring (route : s.routeOf src x = .ring) : s.routeOne src x = (s.leaveSource src x).toRing src x.pkt := by
  unfold State.routeOne
  rw [route]

theorem State.routeOne_out {p : Nat} {q : QPkt} (route : s.routeOf src x = .out p q) :
    s.routeOne src x = ((s.leaveSource src x).copied src x).queueOut p q := by
  unfold State.routeOne
  rw [route, ← State.cond_copy]

theorem State.routeOne_drop {r : Nat} {loss : Bool} (route : s.routeOf src x = .drop r loss) : s.routeOne src x =
    (((s.leaveSource src x).copied src x).count (Reg.rtrDrop r) 1).cond loss (fun s => s.lossNotice x.pkt) := by
  unfold State.routeOne
  rw [route, ← State.cond_copy]

theorem State.routeOne_gone (route : s.routeOf src x = .gone) : s.routeOne src x = (s.leaveSource src x).copied src x := by
  unfold State.routeOne
  rw [route, ← State.cond_copy]

/-- A refused packet that is neither a request nor a FLOWRESET is counted alone (R419). -/
theorem State.routeOne_refuse (route : s.routeOf src x = .refuse) (noRequest : requestOp x.pkt.op = false) (noReset : x.pkt.op ≠ 0x14) :
    s.routeOne src x = (s.leaveSource src x).count (Reg.rtrNackTx 4) 1 := by
  unfold State.routeOne
  rw [route]
  exact State.cond_false _ (Bool.or_eq_false_iff.2 ⟨noRequest, beq_eq_false_iff_ne.2 noReset⟩) _

/-- A mismatch that the stored entry shows at this use (R376, R643). -/
def State.entryFound (s : State) (bad : Bool) (x : QPkt) : State :=
  if bad = true ∧ s.nodeValid = true ∧ x.pkt.dst < 0x20000 then
    (s.mismatchAt (Reg.rtrRoute (s.rdF Reg.rtrRtEpoch 0 0) x.pkt.dst)).report 0x502 0 x.pkt.dst
  else s

theorem execPacketRoute_headless {src : Fin 17} {i : Nat} (bad : Bool) (headless : s.headPacket src i = none) :
    execPacketRoute src i bad s = .next { s with answer := .none } := by
  have found : ({ s with answer := .none } : State).headPacket src i = none := headless
  unfold execPacketRoute
  simp only [found]

theorem execPacketWaitRetry_headless {src : Fin 17} {i : Nat} (headless : s.headPacket src i = none) :
    execPacketWaitRetry src i s = .next { s with answer := .none } := by
  have found : ({ s with answer := .none } : State).headPacket src i = none := headless
  unfold execPacketWaitRetry
  simp only [found]

theorem execPacketRoute_head {src : Fin 17} {i : Nat} (bad : Bool) (head : s.headPacket src i = some x) (packet : x.vc ≠ 7) :
    execPacketRoute src i bad s = .next ((({ s with answer := .none } : State).entryFound bad x).routeOne src x) := by
  have found : ({ s with answer := .none } : State).headPacket src i = some x := head
  unfold execPacketRoute
  simp only [found, if_neg packet]
  refine congrArg (fun v => Host.Outcome.next (State.routeOne v src x)) (ite_congr_of_iff ?_ rfl rfl)
  simp only [Bool.and_eq_true, decide_eq_true_eq, and_assoc]

theorem execPacketWaitRetry_head {src : Fin 17} {i : Nat} (head : s.headPacket src i = some x) (packet : x.vc ≠ 7) :
    execPacketWaitRetry src i s = .next (({ s with answer := .none } : State).routeOne src x) := by
  have found : ({ s with answer := .none } : State).headPacket src i = some x := head
  unfold execPacketWaitRetry
  simp only [found, if_neg packet]

/-- A retry uses the entry as it is. -/
theorem exec_route_or_retry {src : Fin 17} {i : Nat} {bad : Bool} {c : Instr}
    (command : c = .packetRoute src i bad ∨ (bad = false ∧ c = .packetWaitRetry src i)) (head : s.headPacket src i = some x)
    (packet : x.vc ≠ 7) : exec c s = .next ((({ s with answer := .none } : State).entryFound bad x).routeOne src x) := by
  rcases command with rfl | ⟨rfl, rfl⟩
  · exact execPacketRoute_head bad head packet
  · exact execPacketWaitRetry_head head packet

end Route

/-! ### The decision by the table (R375, R378, R379) -/

section Decision
variable {s : State} {src : Nat} {x : QPkt}

/-- A device without a node ID forwards nothing (R375). -/
theorem State.routeOf_unassigned (unassigned : s.nodeValid = false) (port : src < 16) : s.routeOf src x =
    if x.vc = 0 ∧ x.pkt.dst = 0xFFFFF ∧ x.pkt.domain = 0 then .ring
    else if (x.vc = 0) ≠ (x.pkt.domain = 0) then .drop 6 false else if s.isHn src then .drop 4 false else .gone := by
  have noInject : src ≠ 16 := by omega
  unfold State.routeOf
  simp only [unassigned, Bool.not_false, if_true, if_neg noInject, port, decide_true, Bool.true_and]
  by_cases management : x.vc = 0 <;> by_cases system : x.pkt.domain = 0 <;> simp [management, system]

/-- A unicast packet from a fabric port follows the entry of its destination (R378, R379). -/
theorem State.routeOf_unicast (port : src < 16) (fabric : s.isHn src = false) (assigned : s.nodeValid = true) (channel : 1 ≤ x.vc)
    (domain : x.pkt.domain ≠ 0) (inTable : x.pkt.dst < 0x20000) (unicast : (x.pkt.mcast && x.pkt.cls == 6) = false) {e : W64}
    (entry : s.routeEntry x.pkt.dst = e) : s.routeOf src x =
      if fld e 22 21 = 0 ∨ fld e 22 21 = 3 then .drop 0 true
      else if x.pkt.hops ≠ min (fld e 31 24) 63 then .drop 1 true
      else if fld e 22 21 = 2 then .local' else s.chooseOut e x := by
  have data : x.vc ≠ 0 := by omega
  have noGroup : ¬ (x.pkt.mcast = true ∧ x.pkt.cls = 6) := by simpa using unicast
  have named : x.pkt.dst ≠ 0xFFFFF := by omega
  have noHost : ¬ 0x20000 ≤ x.pkt.dst := by omega
  unfold State.routeOf
  simp [assigned, fabric, data, domain, named, noHost, noGroup, entry, port]

end Decision

/-! ### Circuit frames (R410, R413) -/

section Circuit
variable {s : State} {src : Nat} {x : QPkt}

theorem execCdata_headless {src : Fin 17} {i : Nat} (headless : s.headPacket src i = none) :
    execCdata src i s = .next { s with answer := .none } := by
  have found : ({ s with answer := .none } : State).headPacket src i = none := headless
  unfold execCdata
  simp only [found]

theorem execCdata_head {src : Fin 17} {i : Nat} (head : s.headPacket src i = some x) (circuit : x.vc = 7) :
    execCdata src i s = .next (({ s with answer := .none } : State).routeCircuit src x) := by
  have found : ({ s with answer := .none } : State).headPacket src i = some x := head
  unfold execCdata
  simp only [found, if_pos circuit]

/-- A circuit frame of domain 0 is dropped as broken (R418). -/
theorem State.routeCircuit_system (assigned : s.nodeValid = true) (system : x.pkt.domain = 0) :
    s.routeCircuit src x = (s.leaveSource src x).count (Reg.rtrDrop 6) 1 := by
  unfold State.routeCircuit
  rw [if_neg (bnot_ne_true_of_eq_true assigned), if_pos system]

/-- A circuit frame follows the entry of its circuit at its source (R410). -/
theorem State.routeCircuit_entry (assigned : s.nodeValid = true) (domain : x.pkt.domain ≠ 0) {e : W64}
    (entry : s.rd (Reg.rtrCircuit src x.pkt.xid) = e) : s.routeCircuit src x =
      if bitOf e 0 = false ∨ 16 < fld e 5 1 ∨ (fld e 5 1 < 16 ∧ s.isHn (fld e 5 1) = true) then (s.leaveSource src x).count (Reg.rtrDrop 5) 1
      else if fld e 5 1 = 16 then
        if x.pkt.op ≠ 0x17 then (s.leaveSource src x).count (Reg.rtrDrop 6) 1
        else if x.pkt.hops = 0 then (s.leaveSource src x).clxFrame (fld e 14 13) x.pkt
        else (s.leaveSource src x).count (Reg.rtrDrop 5) 1
      else if x.pkt.hops = 0 then (s.leaveSource src x).count (Reg.rtrDrop 5) 1
      else
        let y : QPkt := { vc := 7, grp := fld e 11 6, dl := fld e 12 12, pkt := { x.pkt with hops := x.pkt.hops - 1 } }
        if s.portUp (fld e 5 1) && s.creditFor (fld e 5 1) y then (s.leaveSource src x).queueOut (fld e 5 1) y else s := by
  subst entry
  unfold State.routeCircuit
  rw [if_neg (bnot_ne_true_of_eq_true assigned), if_neg domain]
  refine ite_congr_of_iff ?_ rfl rfl
  simp only [Bool.or_eq_true, Bool.not_eq_true', Bool.and_eq_true, decide_eq_true_eq, or_assoc]

end Circuit

/-! ### Writes that FAB alone may make (R377, R409, R421, R424) -/

section Writes
variable {s : State} {ag : Agent} {a width : Nat}

theorem State.csrAccess_fab (served : s.csrPath ag a width = .served) (fab : ag = .fab) (write : Bool) (f : State → State) :
    s.csrAccess ag a width write (fun s => if ag = .fab then f s else s.refuseWrite ag) = f { s with answer := .none } :=
  (State.csrAccess_served _ _ served).trans (if_pos fab)

theorem State.csrAccess_notFab (served : s.csrPath ag a width = .served) (other : ag ≠ .fab) (write : Bool) (f : State → State) :
    s.csrAccess ag a width write (fun s => if ag = .fab then f s else s.refuseWrite ag) =
      ({ s with answer := .none } : State).refuseWrite ag :=
  (State.csrAccess_served _ _ served).trans (if_neg other)

end Writes

/-- A field is below the power of two of its width. -/
theorem fld_lt (w : W64) (hi lo : Nat) : fld w hi lo < 2 ^ (hi + 1 - lo) := Nat.mod_lt _ (Nat.two_pow_pos _)

/-- A bank that becomes the active one counts in the flips (R377, R421). -/
theorem State.setBank_flips (s : State) (b : Fin 2) : (s.setBank b).rdF Reg.rtrRtEpoch 0 0 = b ∧
    (s.setBank b).rdF Reg.rtrRtEpoch 31 16 = (s.rdF Reg.rtrRtEpoch 31 16 + if s.rdF Reg.rtrRtEpoch 0 0 = b then 0 else 1) % 2 ^ 16 ∧
    ∀ a, a ≠ Reg.rtrRtEpoch → (s.setBank b).rd a = s.rd a := by
  unfold State.setBank
  by_cases same : s.rdF Reg.rtrRtEpoch 0 0 = b
  · have bound : s.rdF Reg.rtrRtEpoch 31 16 < 2 ^ 16 := fld_lt _ _ _
    rw [if_pos same, if_pos same]
    exact ⟨same, (Nat.mod_eq_of_lt bound).symm, fun _ _ => rfl⟩
  · have one : b.val % 2 ^ (0 + 1 - 0) = b := Nat.mod_eq_of_lt b.isLt
    rw [if_neg same, if_neg same]
    exact ⟨(State.rdF_wrF_field _ _ _ _ _ _ _ (by decide) (by decide)).trans ((State.rdF_wrF_same _ _ _ _ _ (by decide) (by decide)).trans one),
      State.rdF_wrF_same _ _ _ _ _ (by decide) (by decide),
      fun a other => (State.rd_wrF_ne _ _ _ _ other).trans (State.rd_wrF_ne _ _ _ _ other)⟩

/-! ### Circuit entries (R413, R424) -/

section Entry
variable {s : State} {t id : Nat} {v m : W64}

/-- The bits that an entry does not store leave its valid bit. -/
theorem bitOf_maskedEntry (masked : v &&& ~~~ fldMask 23 22 = m) : bitOf m 0 = bitOf v 0 := by
  subst masked
  have bit : (fldMask 23 22).getLsbD 0 = false := by decide
  rw [bitOf, BitVec.getLsbD_and, BitVec.getLsbD_not, bit]
  exact Bool.and_true _

/-- Whether a port rests with its lanes quiet (R357). -/
def State.portQuiet (s : State) (p : Nat) : Bool := decide (p < 16) && s.rdB (Reg.prtStatus p) 5

theorem State.portQuiet_eq_true {p : Nat} : s.portQuiet p = true ↔ p < 16 ∧ s.rdB (Reg.prtStatus p) 5 = true := by
  rw [State.portQuiet, Bool.and_eq_true, decide_eq_true_eq]

/-- A write that removes a hop tears it down first (R413). -/
theorem State.setCircuit_removes (masked : v &&& ~~~ fldMask 23 22 = m) (had : s.rdB (Reg.rtrCircuit t id) 0 = true)
    (removes : bitOf v 0 = false) : s.setCircuit t id v = (s.tearEntry (t, id)).wr (Reg.rtrCircuit t id) m := by
  have gone : bitOf m 0 = false := (bitOf_maskedEntry masked).trans removes
  unfold State.setCircuit
  simp only [masked, gone, had, Bool.not_false, Bool.and_true, Bool.false_and, Bool.false_eq_true, if_false,
    State.cond_true s (c := true) rfl]

/-- A write that removes no hop is stored, unless it makes a new circuit at a quiet port (R357). -/
theorem State.setCircuit_keeps (masked : v &&& ~~~ fldMask 23 22 = m) (keeps : s.rdB (Reg.rtrCircuit t id) 0 = false ∨ bitOf v 0 = true) :
    s.setCircuit t id v = if bitOf v 0 = true ∧
      ((s.portQuiet (fld m 5 1) = true ∧ ¬ (s.rdB (Reg.rtrCircuit t id) 0 = true ∧ s.rdF (Reg.rtrCircuit t id) 5 1 = fld m 5 1)) ∨
        (s.portQuiet t = true ∧ s.rdB (Reg.rtrCircuit t id) 0 = false)) then s else s.wr (Reg.rtrCircuit t id) m := by
  have kept : (s.rdB (Reg.rtrCircuit t id) 0 && !bitOf v 0) = false := by
    rcases keeps with had | valid
    · simp [had]
    · simp [valid]
  unfold State.setCircuit
  simp only [masked, bitOf_maskedEntry masked, State.cond_false s kept]
  refine ite_congr_of_iff ?_ rfl rfl
  simp only [State.portQuiet, Bool.and_eq_true, Bool.or_eq_true, Bool.not_eq_true', Bool.and_eq_false_imp, decide_eq_true_eq,
    beq_eq_false_iff_ne, not_and, ne_eq]

end Entry

/-! ### The telemetry window (R425) -/

/-- Registers copied one after another, the source of one that is none of the copies: that copy reads as its source did. -/
theorem State.rd_each_copy {dst src : Nat → Nat} (injective : Function.Injective dst) {k : Nat} {ks : List Nat}
    (apart : ∀ j ∈ ks, src k ≠ dst j) (s : State) :
    (s.each ks (fun s i => s.wr (dst i) (s.rd (src i)))).rd (dst k) = if k ∈ ks then s.rd (src k) else s.rd (dst k) := by
  unfold State.each
  induction ks generalizing s with
  | nil => simp
  | cons i ks ih =>
    rw [List.foldl_cons, ih (fun j mem => apart j (List.mem_cons_of_mem _ mem)), State.rd_wr_ne _ _ (apart i List.mem_cons_self), State.rd_wr]
    by_cases first : k = i
    · simp [first]
    · rw [if_neg (fun same => first (injective same))]
      simp [first]

/-- A register that is no copy reads as before. -/
theorem State.rd_each_wr_ne {dst : Nat → Nat} {word : State → Nat → W64} {a : Nat} {ks : List Nat} (other : ∀ k ∈ ks, a ≠ dst k)
    (s : State) :
    (s.each ks (fun s i => s.wr (dst i) (word s i))).rd a = s.rd a := by
  unfold State.each
  induction ks generalizing s with
  | nil => rfl
  | cons i ks ih =>
    rw [List.foldl_cons, ih (fun k mem => other k (List.mem_cons_of_mem _ mem)), State.rd_wr_ne _ _ (other i List.mem_cons_self)]

theorem rtrSnapshot_injective : Function.Injective Reg.rtrSnapshot := by
  intro i j same
  unfold Reg.rtrSnapshot at same
  omega

/-- The snapshot of every counter. -/
def State.snapshotTaken (s : State) : State :=
  s.each (List.range 71) (fun s i => s.wr (Reg.rtrSnapshot i) (s.rd (Reg.rtrOutBytes 0 + 8 * i)))

theorem State.rd_snapshotTaken (s : State) {k : Nat} (counter : k < 71) :
    s.snapshotTaken.rd (Reg.rtrSnapshot k) = s.rd (Reg.rtrOutBytes 0 + 8 * k) := by
  have apart : ∀ j ∈ List.range 71, Reg.rtrOutBytes 0 + 8 * k ≠ Reg.rtrSnapshot j := by
    intro j _
    unfold Reg.rtrOutBytes Reg.rtrSnapshot
    omega
  exact (State.rd_each_copy rtrSnapshot_injective (src := fun k => Reg.rtrOutBytes 0 + 8 * k) apart s).trans (if_pos (List.mem_range.2 counter))

theorem State.rd_snapshotTaken_ne (s : State) {a : Nat} (other : ∀ k, k < 71 → a ≠ Reg.rtrSnapshot k) : s.snapshotTaken.rd a = s.rd a :=
  State.rd_each_wr_ne (fun k mem => other k (List.mem_range.1 mem)) s

/-- A window's end: the snapshot, and the generation moved on. -/
def State.windowTaken (s : State) : State := s.snapshotTaken.wr Reg.rtrTelemGen (s.snapshotTaken.rd Reg.rtrTelemGen + 2)

/-- A window's end changes registers alone. -/
theorem State.windowTaken_keeps {β : Type} (part : State → β) (keeps : ∀ (s : State) (a : Nat) (v : W64), part (s.wr a v) = part s)
    (s : State) : part s.windowTaken = part s :=
  (keeps _ _ _).trans (State.each_keeps part _ (fun _ _ => keeps _ _ _) s _)

theorem execTelemetryWindowEnd_eq (s : State) : execTelemetryWindowEnd s = .next ({ s with answer := .none } : State).windowTaken := rfl

theorem rtrTelemGen_ne_rtrSnapshot (k : Nat) : Reg.rtrTelemGen ≠ Reg.rtrSnapshot k := by
  unfold Reg.rtrTelemGen Reg.rtrSnapshot
  omega

/-- A window's end moves the generation by 2 and copies every counter. -/
theorem State.rd_windowTaken (s : State) : s.windowTaken.rd Reg.rtrTelemGen = s.rd Reg.rtrTelemGen + 2 ∧
    (∀ k, k < 71 → s.windowTaken.rd (Reg.rtrSnapshot k) = s.rd (Reg.rtrOutBytes 0 + 8 * k)) ∧
    ∀ a, a ≠ Reg.rtrTelemGen → (∀ k, k < 71 → a ≠ Reg.rtrSnapshot k) → s.windowTaken.rd a = s.rd a := by
  unfold State.windowTaken
  refine ⟨?_, fun k counter => ?_, fun a other noCopy => ?_⟩
  · rw [State.rd_wr_same, s.rd_snapshotTaken_ne (fun k _ => rtrTelemGen_ne_rtrSnapshot k)]
  · exact (State.rd_wr_ne _ _ (rtrTelemGen_ne_rtrSnapshot k).symm).trans (s.rd_snapshotTaken counter)
  · exact (State.rd_wr_ne _ _ other).trans (s.rd_snapshotTaken_ne noCopy)

/-- Settles O35, command by command: a routing decision by the lemma of its outcome, a table's write by who makes it. -/
theorem routerForwardsByItsTables : Obligations.RouterForwardsByItsTables := by
  rintro s _ src i rfl
  refine ⟨fun headless => ⟨execPacketRoute_headless (s := s) false headless, execPacketWaitRetry_headless (s := s) headless,
      execCdata_headless (s := s) headless⟩, ?routed, ?table, fun unassigned x port => State.routeOf_unassigned unassigned port, ?circuit,
    fun ag b n v served => ⟨fun other => ?otherEntry, fun fab active => ?activeEntry, fun fab inactive => ?inactiveEntry⟩,
    fun ag b served => ⟨fun other => ?otherBank, fun fab => ?bank⟩,
    fun ag node valid served => ⟨fun other => ?otherNode, fun fab => ?node⟩,
    fun ag p g v others served sum => ⟨fun other => ?otherShare, fun fab above => ?shareAbove, fun fab within => ?share⟩,
    fun ag t id v served => ⟨fun other => ?otherCircuit, fun fab m masked => ?circuitEntry⟩, ?telemetry⟩
  case routed =>
    rintro x head packet bad v found c command w rfl
    have acts : exec c s = .next (v.routeOne src x) := found ▸ exec_route_or_retry command head packet
    refine ⟨fun route => acts.trans (congrArg _ (State.routeOne_wait route)), fun route => acts.trans (congrArg _ (State.routeOne_local route)),
      fun route => acts.trans (congrArg _ (State.routeOne_ring route)), ?_,
      fun route noRequest noReset => acts.trans (congrArg _ (State.routeOne_refuse route noRequest noReset))⟩
    rintro _ rfl
    exact ⟨fun r route => acts.trans (congrArg _ (State.routeOne_drop route)), fun r route => acts.trans (congrArg _ (State.routeOne_drop route)),
      fun route => acts.trans (congrArg _ (State.routeOne_gone route)), fun p q route => acts.trans (congrArg _ (State.routeOne_out route))⟩
  case table =>
    intro x port fabric assigned channel domain inTable unicast e entry
    have decision := State.routeOf_unicast port fabric assigned channel domain inTable unicast entry
    refine ⟨fun kind => decision.trans (if_pos kind), fun kind far => ?_, fun kind near => ?_, fun kind near => ?_⟩
    · exact decision.trans ((if_neg (by omega)).trans (if_pos far))
    · exact decision.trans ((if_neg (by omega)).trans ((if_neg (not_not_intro near)).trans (if_pos kind)))
    · exact decision.trans ((if_neg (by omega)).trans ((if_neg (not_not_intro near)).trans (if_neg (by omega))))
  case circuit =>
    rintro x head circuit assigned e _ entry rfl
    have acts := execCdata_head head circuit
    refine ⟨fun system => acts.trans (congrArg _ (State.routeCircuit_system (s := { s with answer := .none }) assigned system)),
      fun domain stray => ?stray, fun domain valid endpoint => ?endpoint, fun domain valid port fabric spent => ?spent,
      fun domain valid port fabric hops => ?forward⟩
    all_goals
      have follows := acts.trans (congrArg Host.Outcome.next (State.routeCircuit_entry (s := { s with answer := .none }) assigned domain entry))
    case stray => exact follows.trans (congrArg _ (if_pos stray))
    case endpoint =>
      have fits : ¬ (bitOf e 0 = false ∨ 16 < fld e 5 1 ∨ (fld e 5 1 < 16 ∧ s.isHn (fld e 5 1) = true)) := by simp [valid, endpoint]
      have ends := follows.trans (congrArg _ ((if_neg fits).trans (if_pos endpoint)))
      exact ⟨fun other => ends.trans (congrArg _ (if_pos other)),
        fun data far => ends.trans (congrArg _ ((if_neg (not_not_intro data)).trans (if_neg far))),
        fun data near => ends.trans (congrArg _ ((if_neg (not_not_intro data)).trans (if_pos near)))⟩
    all_goals
      have fits : ¬ (bitOf e 0 = false ∨ 16 < fld e 5 1 ∨ (fld e 5 1 < 16 ∧ s.isHn (fld e 5 1) = true)) := by
        simp [valid, fabric, Nat.le_of_lt port]
      have leaves := follows.trans (congrArg _ ((if_neg fits).trans (if_neg (Nat.ne_of_lt port))))
    case spent => exact leaves.trans (congrArg _ (if_pos spent))
    case forward =>
      rintro _ rfl
      exact leaves.trans (congrArg _ (if_neg hops))
  case otherEntry => exact congrArg Host.Outcome.next ((State.csrAccess_served _ _ served).trans (if_pos other))
  case activeEntry =>
    exact congrArg Host.Outcome.next ((State.csrAccess_served _ _ served).trans ((if_neg (not_not_intro fab)).trans (if_pos active)))
  case inactiveEntry =>
    exact congrArg Host.Outcome.next ((State.csrAccess_served _ _ served).trans ((if_neg (not_not_intro fab)).trans (if_neg inactive)))
  case otherBank => exact congrArg Host.Outcome.next (State.csrAccess_notFab served other _ _)
  case bank => exact ⟨_, congrArg Host.Outcome.next (State.csrAccess_fab served fab _ _), State.setBank_flips _ b⟩
  case otherNode => exact congrArg Host.Outcome.next (State.csrAccess_notFab served other _ _)
  case node => exact congrArg Host.Outcome.next (State.csrAccess_fab served fab _ _)
  case otherShare => exact congrArg Host.Outcome.next (State.csrAccess_notFab served other _ _)
  case shareAbove =>
    subst sum
    exact congrArg Host.Outcome.next ((State.csrAccess_fab served fab _ _).trans (if_pos above))
  case share =>
    subst sum
    exact congrArg Host.Outcome.next ((State.csrAccess_fab served fab _ _).trans (if_neg (Nat.not_lt.2 within)))
  case otherCircuit => exact congrArg Host.Outcome.next (State.csrAccess_notFab served other _ _)
  case circuitEntry =>
    have takes : exec (.circuitEntryWrite ag t id v) s = .next (({ s with answer := .none } : State).setCircuit t id.toNat v) :=
      congrArg Host.Outcome.next (State.csrAccess_fab served fab _ _)
    have quiet (p : Nat) : ({ s with answer := .none } : State).portQuiet p = s.portQuiet p := rfl
    refine ⟨fun had removes => takes.trans (congrArg _ (State.setCircuit_removes (s := { s with answer := .none }) masked had removes)),
      fun had invalid => ?absent,
      fun had valid same => ?same, fun valid new port rests => ?quietOut, fun valid awake => ?awake, fun had valid port rests => ?quietIn⟩
    case absent =>
      exact takes.trans (congrArg _ ((State.setCircuit_keeps (s := { s with answer := .none }) masked (.inl had)).trans (if_neg (by simp [invalid]))))
    all_goals
      have stores := takes.trans (congrArg Host.Outcome.next (State.setCircuit_keeps (s := { s with answer := .none }) masked (.inr valid)))
      simp only [quiet, State.answer_rdB, State.answer_rdF] at stores
    case same => exact stores.trans (congrArg _ (if_neg (by simp [had, same])))
    case quietOut =>
      have rests := State.portQuiet_eq_true.2 ⟨port, rests⟩
      exact stores.trans (congrArg _ (if_pos ⟨valid, .inl ⟨rests, fun kept => new.elim (by simp [kept.1]) (absurd kept.2)⟩⟩))
    case awake =>
      have awake (p : Nat) : ¬ s.portQuiet p = true := fun rests =>
        Bool.eq_false_iff.1 (awake p (State.portQuiet_eq_true.1 rests).1) (State.portQuiet_eq_true.1 rests).2
      exact stores.trans (congrArg _ (if_neg (by simp [awake])))
    case quietIn => exact stores.trans (congrArg _ (if_pos ⟨valid, .inr ⟨State.portQuiet_eq_true.2 ⟨port, rests⟩, had⟩⟩))
  case telemetry =>
    obtain ⟨moves, copies, rest⟩ := ({ s with answer := .none } : State).rd_windowTaken
    exact ⟨_, execTelemetryWindowEnd_eq s, moves, copies, rest, State.windowTaken_keeps State.mem State.wr_mem _,
      State.windowTaken_keeps State.router State.wr_router _, State.windowTaken_keeps State.ports State.wr_ports _⟩

end Sys2Proof.Machine

/-!
Sources: the contexts that they send from, the next packet of a flow, and what their timers do.
-/
namespace Sys2Proof.Machine

/-! ### Send contexts -/

section Contexts
variable (s : State) (key : Nat)

@[simp] theorem State.send_updSend (f : SendCtx → SendCtx) : (s.updSend key f).send key = f (s.send key) :=
  congrArg (fun c : Option SendCtx => c.getD {}) (Tbl.get_upd_same s.router.sends key (fun c => some (f (c.getD {}))))

theorem State.send_updSend_ne (f : SendCtx → SendCtx) {k : Nat} (other : k ≠ key) : (s.updSend key f).send k = s.send k :=
  congrArg (fun c : Option SendCtx => c.getD {}) (Tbl.get_upd_ne s.router.sends (fun c => some (f (c.getD {}))) other)

/-- A change of a send context is known by what it makes of that context. -/
theorem State.updSend_congr {f g : SendCtx → SendCtx} (same : f (s.send key) = g (s.send key)) : s.updSend key f = s.updSend key g :=
  congrArg (fun c => s.updRouter (fun r => { r with sends := r.sends.set key (some c) })) same

end Contexts

/-! ### The next packet of a flow (R390 to R392, R399) -/

section Next
variable {v : State} {key : Nat}

theorem State.sendNext_nothing (closed : (v.send key).phase = .closed) (empty : (v.send key).queue = []) : v.sendNext key = v := by
  unfold State.sendNext
  simp only [closed, empty]

section Opening
variable (closed : (v.send key).phase = .closed) {j : NetJob} {js : List NetJob} (queue : (v.send key).queue = j :: js) {P : Nat}
  (part : P = (v.domainPart j.domain).getD 4)
include closed queue part

/-- A flow stays closed while its context has no room in its home region (R390). -/
theorem State.sendNext_noHome (new : (v.send key).part = none) (full : v.homeOpen (key % 8) (v.sendHome P key) = false) :
    v.sendNext key = v := by
  subst part
  unfold State.sendNext
  simp [closed, queue, new, full]

/-- A flow stays closed while the hub cache has no entry for its context (R390, R603). -/
theorem State.sendNext_noEntry (full : v.touch P (2 * key) = none) : v.sendNext key = v := by
  subst part
  unfold State.sendNext
  simp [closed, queue, full]

/-- A flow with room for its context is opened for its first transaction, from a drawn seq on (R391, R392). -/
theorem State.sendNext_opens (room : (v.send key).part ≠ none ∨ v.homeOpen (key % 8) (v.sendHome P key) = true) {w : State}
    (cached : v.touch P (2 * key) = some w) :
    v.sendNext key = ((w.draw.2).updSend key (fun x => { x with nextSeq := fld w.draw.1 31 0 })).openFlow key j := by
  subst part
  have found : ((v.send key).part.isSome || v.homeOpen (key % 8) (v.sendHome ((v.domainPart j.domain).getD 4) key)) = true :=
    Bool.or_eq_true_iff.2 (room.imp_left Option.isSome_iff_ne_none.2)
  unfold State.sendNext
  simp only [closed, queue, if_pos found, cached]

end Opening

theorem State.sendNext_waits (waits : (v.send key).phase = .opening ∨ (v.send key).phase = .held) : v.sendNext key = v := by
  unfold State.sendNext
  rcases waits with opening | held
  · simp only [opening]
  · simp only [held]

/-- An open flow goes on with its transactions while none is asked for, or one of them has packets left. -/
theorem State.sendNext_goesOn (opened : (v.send key).phase = .opened)
    (same : (v.send key).queue = [] ∨ (v.send key).txns.any (fun t => !t.pkts.isEmpty) = true) : v.sendNext key = v.sendPacket key := by
  unfold State.sendNext
  rcases same with empty | unsent
  · simp only [opened, empty]
  · simp only [opened, unsent, Bool.true_or, if_true]
    split <;> rfl

/-- An open flow all of whose packets are sent opens the next transaction within the limits of R391, R393 and R399. -/
theorem State.sendNext_newTxn (opened : (v.send key).phase = .opened) {j : NetJob} {js : List NetJob} (queue : (v.send key).queue = j :: js)
    (sent : (v.send key).txns.all (fun t => t.pkts.isEmpty) = true) (few : (v.send key).txns.length < 4096)
    (room : (v.rd Reg.rtrTxnUsed).toNat < 65536) (alone : j.mcast = none ∨ (v.send key).txns = []) (reply : v.replyRoom j = true) :
    v.sendNext key = (v.openTxn key j).sendPacket key := by
  have noneLeft : (v.send key).txns.any (fun t => !t.pkts.isEmpty) = false := by simpa using sent
  have alone : (j.mcast.isSome && !(v.send key).txns.isEmpty) = false := by
    rcases alone with unicast | first
    · simp [unicast]
    · simp [first]
  unfold State.sendNext
  simp only [opened, queue, noneLeft, alone, reply, decide_eq_false (Nat.not_le.2 few), decide_eq_false (Nat.not_le.2 room), Bool.not_true,
    Bool.or_false, Bool.false_eq_true, if_false]

theorem State.sendPacket_idle (sent : (v.send key).txns.all (fun t => t.pkts.isEmpty) = true) : v.sendPacket key = v := by
  have noneLeft : (v.send key).txns.find? (fun t => !t.pkts.isEmpty) = none := by simpa using sent
  unfold State.sendPacket
  simp only [noneLeft]

section Sending
variable {t : Txn} {p : Packet} {ps : List Packet} (first : (v.send key).txns.find? (fun t => !t.pkts.isEmpty) = some t)
  (packets : t.pkts = p :: ps)
include first packets

/-- A packet is kept back by the hold of a drain-and-swap, by the window or by 2,048 packets unacknowledged (R391, R478). -/
theorem State.sendPacket_keptBack (full : v.flowHeld key = true ∨
      v.rdF Reg.rtrE2e 8 0 * 65536 < ((v.send key).unacked.map SentPkt.charge).foldl (· + ·) 0 + packetCharge p ∨
      2048 ≤ (v.send key).unacked.length) : v.sendPacket key = v := by
  unfold State.sendPacket
  simp only [first, packets, if_pos full]

/-- The next packet goes out with the next seq and is recorded as unacknowledged (R391). -/
theorem State.sendPacket_sends (free : v.flowHeld key = false)
    (window : ((v.send key).unacked.map SentPkt.charge).foldl (· + ·) 0 + packetCharge p ≤ v.rdF Reg.rtrE2e 8 0 * 65536)
    (few : (v.send key).unacked.length < 2048) : v.sendPacket key =
      (v.updSend key (fun x => { x with
        nextSeq := (x.nextSeq + 1) % 2 ^ 32
        unacked := x.unacked ++ [{ pkt := { p with seq := (v.send key).nextSeq }, charge := packetCharge p }]
        txns := x.txns.map (fun y => if y.xid = t.xid then { y with
          pkts := ps, firstSeq := if t.pkts.length = t.all.length then (v.send key).nextSeq else y.firstSeq } else y) })).putPacket
        { p with seq := (v.send key).nextSeq } t.job := by
  have fits : ¬ (v.flowHeld key = true ∨
      v.rdF Reg.rtrE2e 8 0 * 65536 < ((v.send key).unacked.map SentPkt.charge).foldl (· + ·) 0 + packetCharge p ∨
      2048 ≤ (v.send key).unacked.length) := by
    rw [free]
    exact fun full => by simp only [Bool.false_eq_true, false_or] at full; omega
  unfold State.sendPacket
  simp only [first, packets, if_neg fits, beq_iff_eq]

end Sending

end Next

/-! ### The timers of a flow (R395, R401, R407, R415) -/

section Timers
variable {s z : State} {dst : BitVec 20} {cls : Fin 8} {key : Nat} (silent : ({ s with answer := .none } : State) = z)
  (flow : sendKey dst.toNat cls = key)
include silent flow

section Opening
variable {u : SentPkt} (opening : (z.send key).phase = .opening) (opener : (z.send key).opener = some u)
include opening opener

theorem execE2eTimeout_opening : execE2eTimeout dst cls s =
    .next (if 1 + z.rdF Reg.rtrE2e 27 24 ≤ u.sends then (z.event 0x505).openFails key else z.reopen key) := by
  subst silent flow
  unfold execE2eTimeout
  simp only [opening, opener]

theorem execNackBusyRetry_opening (busy : u.nack = 3) (late : Bool) : execNackBusyRetry dst cls late s =
    .next (if late then z.openFails key else z.reopen key) := by
  subst silent flow
  unfold execNackBusyRetry
  simp only [opening, opener, busy, ne_eq, not_true_eq_false, if_false]

theorem execResetRetry_opening (resetting : u.nack = 1) : execResetRetry dst cls s = .next (z.reopen key) := by
  subst silent flow
  unfold execResetRetry
  simp only [opening, opener, resetting, if_true]

theorem execResetWaitExpire_opening (resetting : u.nack = 1) : execResetWaitExpire dst cls s = .next (z.openFails key) := by
  subst silent flow
  unfold execResetWaitExpire
  simp only [opening, opener, resetting, if_true]

end Opening

/-- A packet that has been sent as often as it may fails every transaction of the flow; otherwise each is sent again (R395). -/
theorem execE2eTimeout_flow (running : (z.send key).phase ≠ .opening) : execE2eTimeout dst cls s =
    .next (if (z.send key).unacked.any (fun u => decide (1 + z.rdF Reg.rtrE2e 27 24 ≤ u.sends)) = true then (z.event 0x505).resetFlow key
      else z.each (z.send key).unacked (fun s u => s.resend key u)) := by
  subst silent flow
  unfold execE2eTimeout
  dsimp only
  split
  · contradiction
  · rfl

theorem execNackBusyRetry_free (running : (z.send key).phase ≠ .opening)
    (free : (z.send key).unacked.find? (fun u => decide (u.nack = 3)) = none) (late : Bool) : execNackBusyRetry dst cls late s = .next z := by
  subst silent flow
  unfold execNackBusyRetry
  dsimp only
  split
  · contradiction
  · simp only [free]

theorem execNackBusyRetry_busy (running : (z.send key).phase ≠ .opening) {u : SentPkt}
    (busy : (z.send key).unacked.find? (fun u => decide (u.nack = 3)) = some u) (late : Bool) : execNackBusyRetry dst cls late s =
      .next (if late then z.failTxns key (fun t => t.xid = u.pkt.xid || t.job.mcast.isSome)
        else (z.updSend key (fun x => { x with
          unacked := x.unacked.map (fun y => if y.pkt.seq = u.pkt.seq then { y with nack := 0 } else y) })).resend key u) := by
  subst silent flow
  unfold execNackBusyRetry
  dsimp only
  split
  · contradiction
  · simp only [busy]

theorem execResetRetry_held (held : (z.send key).phase = .held) {u : SentPkt}
    (resetting : (z.send key).unacked.find? (fun u => decide (u.nack = 1)) = some u) : execResetRetry dst cls s = .next (z.resend key u) := by
  subst silent flow
  unfold execResetRetry
  simp only [held, resetting]

theorem execResetWaitExpire_held (held : (z.send key).phase = .held) : execResetWaitExpire dst cls s =
    .next ((z.failTxns key (fun _ => true)).updSend key (fun x => { x with phase := .closed, unacked := [] })) := by
  subst silent flow
  unfold execResetWaitExpire
  simp only [held]

theorem execResetRetry_idle (idle : (z.send key).phase = .opened ∨ (z.send key).phase = .closed) : execResetRetry dst cls s = .next z := by
  subst silent flow
  unfold execResetRetry
  rcases idle with opened | closed
  · simp only [opened]
  · simp only [closed]

theorem execResetWaitExpire_idle (idle : (z.send key).phase = .opened ∨ (z.send key).phase = .closed) :
    execResetWaitExpire dst cls s = .next z := by
  subst silent flow
  unfold execResetWaitExpire
  rcases idle with opened | closed
  · simp only [opened]
  · simp only [closed]

theorem execCcTick_unknown (unknown : z.router.sends.get key = none) : execCcTick dst cls s = .next z := by
  subst silent flow
  exact congrArg Host.Outcome.next (if_pos (Option.isNone_iff_eq_none.2 unknown))

end Timers

/-- A send context after a tick of the rate (R415): an echo since the last tick leaves the rate alone. -/
def SendCtx.ticked (c : SendCtx) (g step : Nat) (en : Bool) : SendCtx :=
  if c.echo then { c with echo := false }
  else { c with
    alphaNum := (2 ^ g - 1) * c.alphaNum, alphaExp := c.alphaExp + g, rate := if en then min 1024 (c.rate + step) else 1024 }

theorem execCcTick_known {s z : State} {dst : BitVec 20} {cls : Fin 8} {key : Nat} (silent : ({ s with answer := .none } : State) = z)
    (flow : sendKey dst.toNat cls = key) (known : z.router.sends.get key ≠ none) : execCcTick dst cls s =
      .next (z.updSend key (fun c => c.ticked (z.rdF Reg.rtrCc 11 8) (z.rdF Reg.rtrCc 19 12) (z.rdB Reg.rtrCc 20))) := by
  subst silent flow
  exact congrArg Host.Outcome.next (if_neg (fun unknown => known (Option.isNone_iff_eq_none.1 unknown)))

/-- Settles O36: what a flow sends next by its phase, and each timer by the phase and by what is unacknowledged. -/
theorem sourcesSendAndRetry : Obligations.SourcesSendAndRetry := by
  rintro s z dst cls key c silent flow rfl
  refine ⟨fun out ask => ?noFlow, fun assigned isFlow ask => ?sends, ?next, fun running worn => ?worn, fun running fresh => ?again, ?opener,
    fun running free late => execNackBusyRetry_free silent flow running free late, fun u running busy => ⟨?late, ?retried⟩,
    fun u held resetting => execResetRetry_held silent flow held resetting, fun held => execResetWaitExpire_held silent flow held,
    fun idle => ⟨execResetRetry_idle silent flow idle, execResetWaitExpire_idle silent flow idle⟩,
    fun unknown => execCcTick_unknown silent flow unknown, fun known => ?tick, ?multicastOpening, ?multicast⟩
  case noFlow =>
    subst silent
    exact congrArg Host.Outcome.next (if_pos (out.imp (congrArg (!·)) (congrArg (!·))))
  case sends =>
    subst silent flow
    exact congrArg Host.Outcome.next (if_neg (not_or.2 ⟨bnot_ne_true_of_eq_true assigned, bnot_ne_true_of_eq_true isFlow⟩))
  case next =>
    rintro v _ rfl
    refine ⟨State.sendNext_nothing, fun j js P closed queue part => ⟨State.sendNext_noHome closed queue part,
        State.sendNext_noEntry closed queue part, fun w room => State.sendNext_opens closed queue part room⟩, State.sendNext_waits,
      fun j js opened queue => State.sendNext_newTxn opened queue, fun opened empty sent => ?_, fun t p ps opened first packets => ?_⟩
    · exact (State.sendNext_goesOn opened (.inl empty)).trans (State.sendPacket_idle sent)
    · have unsent : (v.send key).txns.any (fun t => !t.pkts.isEmpty) = true :=
        List.any_eq_true.2 ⟨t, List.mem_of_find?_eq_some first, List.find?_some (p := fun t : Txn => !t.pkts.isEmpty) first⟩
      have goesOn := State.sendNext_goesOn opened (.inr unsent)
      exact ⟨fun full => goesOn.trans (State.sendPacket_keptBack first packets full),
        fun free window few => goesOn.trans (State.sendPacket_sends first packets free window few)⟩
  case worn => exact (execE2eTimeout_flow silent flow running).trans (congrArg _ (if_pos worn))
  case again => exact (execE2eTimeout_flow silent flow running).trans (congrArg _ (if_neg (Bool.eq_false_iff.1 fresh)))
  case opener =>
    intro u opening opener
    have timeout := execE2eTimeout_opening silent flow opening opener
    exact ⟨fun worn => timeout.trans (congrArg _ (if_pos worn)), fun fresh => timeout.trans (congrArg _ (if_neg (Nat.not_le.2 fresh))),
      fun busy => ⟨execNackBusyRetry_opening silent flow opening opener busy true,
        execNackBusyRetry_opening silent flow opening opener busy false⟩,
      fun resetting => ⟨execResetRetry_opening silent flow opening opener resetting,
        execResetWaitExpire_opening silent flow opening opener resetting⟩⟩
  case late => exact execNackBusyRetry_busy silent flow running busy true
  case retried => exact execNackBusyRetry_busy silent flow running busy false
  case tick =>
    refine ⟨_, execCcTick_known silent flow known, fun echo => ?_, fun quiet => ?_, fun k other => ?_, ?_, ?_⟩
    · rw [State.send_updSend, SendCtx.ticked, if_pos echo]
    · rw [State.send_updSend, SendCtx.ticked, if_neg (Bool.eq_false_iff.1 quiet), ← silent]
      rfl
    · rw [State.send_updSend_ne _ _ _ other, ← silent]
      rfl
    · exact silent ▸ rfl
    · exact silent ▸ rfl
  case multicastOpening =>
    rintro rfl opening
    subst silent flow
    exact congrArg Host.Outcome.next (if_pos opening)
  case multicast =>
    rintro rfl running
    subst silent flow
    exact congrArg Host.Outcome.next (if_neg running)

end Sys2Proof.Machine

/-!
Destinations: the packets that have arrived, the checks of a request, and what an admitted request does.
-/
namespace Sys2Proof.Machine

/-! ### The first packet of an operation that has arrived -/

section Arrived
variable {s z v : State} {op : Nat} {p : Packet} {g : Packet → State → State} (silent : ({ s with answer := .none } : State) = z)
include silent

theorem State.onTaken_none (nothing : s.router.arrived.find? (fun p => decide (p.op = op)) = none) : s.onTaken op g = z := by
  subst silent
  unfold State.onTaken State.takeArrived
  simp only [nothing]

theorem State.onArrived_none (nothing : s.router.arrived.find? (fun p => decide (p.op = op)) = none) : s.onArrived op g = z :=
  State.onTaken_none silent nothing

theorem State.arrivedRequest_none (nothing : s.router.arrived.find? (fun p => decide (p.op = op)) = none) (bad : Bool) :
    z.arrivedRequest op bad = z := by
  subst silent
  unfold State.arrivedRequest State.takeArrived
  simp only [nothing]

variable (arrived : s.router.arrived.find? (fun p => decide (p.op = op)) = some p)
include arrived

section Taken
variable (taken : z.updRouter (fun r => { r with arrived := r.arrived.erase p }) = v)
include taken

theorem State.onTaken_some : s.onTaken op g = g p v := by
  subst silent taken
  unfold State.onTaken State.takeArrived
  simp only [arrived]

/-- The endpoint accepts no answer whose domain maps to none of its partitions (R400, R418). -/
theorem State.onArrived_unmapped (unmapped : v.domainPart p.domain = none) : s.onArrived op g = v :=
  (State.onTaken_some silent arrived taken).trans (if_pos (Option.isNone_iff_eq_none.2 unmapped))

theorem State.onArrived_mapped (mapped : v.domainPart p.domain ≠ none) : s.onArrived op g = g p v :=
  (State.onTaken_some silent arrived taken).trans (if_neg (fun unmapped => mapped (Option.isNone_iff_eq_none.1 unmapped)))

end Taken

section Judged
variable {bad : Bool} (judged : (z.updRouter (fun r => { r with arrived := r.arrived.erase p })).checkDomain p bad = v)
include judged

/-- A request that the checks answer with a NACK is not applied (R400). -/
theorem State.arrivedRequest_refused {n : Nat} (refused : v.acceptPacket p = (v.sendNack p n, none)) :
    z.arrivedRequest op bad = v.sendNack p n := by
  subst silent judged
  unfold State.arrivedRequest State.takeArrived
  simp only [arrived, refused]

/-- A request that passes the checks is applied once (R397). -/
theorem State.arrivedRequest_admitted {w : State} {key P : Nat} {c : RecvCtx} (admitted : v.acceptPacket p = (w, some (key, P)))
    (context : w.recv key = some c) :
    z.arrivedRequest op bad = if c.recorded p.seq then w.duplicate key P p else w.applyRequest key P p := by
  subst silent judged
  unfold State.arrivedRequest State.takeArrived
  simp only [arrived, admitted, context]

end Judged
end Arrived

/-! ### The checks of R400 -/

section Accept
variable {v : State} {p : Packet}

theorem State.acceptPacket_warm (warm : v.pwr.warm = true) : v.acceptPacket p = (v.sendNack p 1, none) := if_pos warm

variable (cold : v.pwr.warm = false)
include cold

theorem State.acceptPacket_unmapped (unmapped : v.domainPart p.domain = none) : v.acceptPacket p = (v.sendNack p 4, none) := by
  unfold State.acceptPacket
  simp only [cold, unmapped, Bool.false_eq_true, if_false]

variable {P : Nat} (mapped : v.domainPart p.domain = some P)
include mapped

theorem State.acceptPacket_resetting (resetting : (v.router.resetting.contains P || v.rdF Reg.pmcState 1 0 == 1) = true) :
    v.acceptPacket p = (v.sendNack p 1, none) := by
  unfold State.acceptPacket
  simp only [cold, mapped, resetting, Bool.false_eq_true, if_false, if_true]

variable (serves : (v.router.resetting.contains P || v.rdF Reg.pmcState 1 0 == 1) = false)
include serves

theorem State.acceptPacket_noContext (unknown : v.recv (recvKey p) = none) : v.acceptPacket p = (v.sendNack p 2, none) := by
  unfold State.acceptPacket
  simp only [cold, mapped, serves, unknown, Bool.false_eq_true, if_false]

variable {c : RecvCtx} (context : v.recv (recvKey p) = some c)
include context

theorem State.acceptPacket_noEntry (full : v.touch P (2 * recvKey p + 1) = none) : v.acceptPacket p = (v.sendNack p 3, none) := by
  unfold State.acceptPacket
  simp only [cold, mapped, serves, context, full, Bool.false_eq_true, if_false]

theorem State.acceptPacket_admits {w : State} (cached : v.touch P (2 * recvKey p + 1) = some w) :
    v.acceptPacket p = (w, some (recvKey p, P)) := by
  unfold State.acceptPacket
  simp only [cold, mapped, serves, context, cached, Bool.false_eq_true, if_false]

end Accept

/-! ### An admitted request (R399 to R404, R417) -/

section Apply
variable {v : State} {key P : Nat} {p : Packet}

/-- What an admitted request whose turn has come does, by its operation (R399). -/
def State.applyInTurn (s : State) (c : RecvCtx) (key P : Nat) (p : Packet) : State :=
  match p.op with
  | 1 => s.applyWrdesc key P p
  | 2 => (match c.writeOf p.seq with
    | some (w, k) => s.applyWrdata key P p w k
    | none => s.holdEarly key p)
  | 3 => let r := s.serveRead P p; if r.2 then r.1.delivered key p else r.1
  | 5 => s.applyAtomic key P p
  | 7 => s.applyDbell key P p
  | _ => s.applyContrib P p

/-- Multicast carries writes alone (R417). -/
theorem multicast_fits (carried : p.mcast = true → p.op = 1 ∨ p.op = 2) : (p.mcast && decide (p.op ≠ 1 ∧ p.op ≠ 2)) = false := by
  refine Bool.and_eq_false_imp.2 (fun multicast => decide_eq_false ?_)
  have write := carried multicast
  omega

section Context
variable {c : RecvCtx} (context : v.recv key = some c)
include context

theorem State.applyRequest_multicast (multicast : p.mcast = true) (noDesc : p.op ≠ 1) (noData : p.op ≠ 2) :
    v.applyRequest key P p = v.sendNack p 4 := by
  unfold State.applyRequest
  simp only [context, multicast, noDesc, noData, ne_eq, not_false_eq_true, and_self, decide_true, Bool.and_self, if_true]

variable (carried : p.mcast = true → p.op = 1 ∨ p.op = 2)
include carried

/-- A heel whose predecessors are not all delivered is refused by its access or held (R400, R404). -/
theorem State.applyRequest_early (heel : p.fence = true) (early : (c.cum + 1) % 2 ^ 32 ≠ p.seq) :
    v.applyRequest key P p = if v.heelAccess c P p = false then v.refuseAccess p P else v.holdEarly key p := by
  have fits := multicast_fits carried
  unfold State.applyRequest
  simp only [context, fits, heel, early, ne_eq, not_false_eq_true, decide_true, Bool.true_and, Bool.false_eq_true, if_false, if_true,
    Bool.not_eq_true']

/-- A request whose turn has come is applied. -/
theorem State.applyRequest_inTurn (inOrder : p.fence = true → (c.cum + 1) % 2 ^ 32 = p.seq) :
    v.applyRequest key P p = v.applyInTurn c key P p := by
  have fits := multicast_fits carried
  have turn : (p.fence && decide ((c.cum + 1) % 2 ^ 32 ≠ p.seq)) = false :=
    Bool.and_eq_false_imp.2 (fun heel => decide_eq_false (not_not_intro (inOrder heel)))
  unfold State.applyRequest
  simp only [context, fits, turn, Bool.false_and, Bool.false_eq_true, if_false]
  rfl

end Context

section Operations
variable {c : RecvCtx}

theorem State.applyInTurn_wrdesc (desc : p.op = 1) : v.applyInTurn c key P p = v.applyWrdesc key P p := by
  simp only [State.applyInTurn, desc]

theorem State.applyInTurn_wrdata_early (data : p.op = 2) (early : c.writeOf p.seq = none) :
    v.applyInTurn c key P p = v.holdEarly key p := by
  simp only [State.applyInTurn, data, early]

theorem State.applyInTurn_wrdata (data : p.op = 2) {w : WriteOpen} {k : Nat} (ofWrite : c.writeOf p.seq = some (w, k)) :
    v.applyInTurn c key P p = v.applyWrdata key P p w k := by
  simp only [State.applyInTurn, data, ofWrite]

theorem State.applyInTurn_rdreq (read : p.op = 3) : v.applyInTurn c key P p =
    if (v.serveRead P p).2 then (v.serveRead P p).1.delivered key p else (v.serveRead P p).1 := by
  simp only [State.applyInTurn, read]

theorem State.applyInTurn_atomic (atomic : p.op = 5) : v.applyInTurn c key P p = v.applyAtomic key P p := by
  simp only [State.applyInTurn, atomic]

theorem State.applyInTurn_dbell (doorbell : p.op = 7) : v.applyInTurn c key P p = v.applyDbell key P p := by
  simp only [State.applyInTurn, doorbell]

theorem State.applyInTurn_contrib (contrib : p.op = 9) : v.applyInTurn c key P p = v.applyContrib P p := by
  simp only [State.applyInTurn, contrib]

end Operations

/-- The new value of the 8 bytes that an atomic operation names (R399): a sum, a swap, or a compare and swap. -/
def atomicValue (aop old x y : Nat) : Nat := if aop = 1 then old + x else if aop = 2 then x else if old = x then y else old

/-- The 8 bytes of an atomic operation after it: a compare that fails writes nothing. -/
def State.atomicDone (s : State) (a aop x y : Nat) : State :=
  if aop = 3 ∧ s.readNat a 8 ≠ x then s.tilePasses (frameOfDpa a) 4
  else (s.tilePasses (frameOfDpa a) 4).writeBytes a (leBytes 8 (atomicValue aop (s.readNat a 8) x y))

/-- An atomic operation that may write and read its 8 bytes is applied once, and its reply cached with the old value (R399, R402). -/
theorem State.applyAtomic_eq {a b h off aop x y : Nat} (handle : h = bodyNat p.payload 0 3) (operation : aop = bodyNat p.payload 3 1)
    (offset : off = bodyNat p.payload 8 8) (first : x = bodyNat p.payload 16 8) (second : y = bodyNat p.payload 24 8)
    (writes : v.resolve (.remote P) h off 8 true = some a) (reads : v.resolve (.remote P) h off 8 false = some b) (from1 : 1 ≤ aop)
    (to3 : aop ≤ 3) (aligned : off % 8 = 0) (room : v.replyOpen P = true) :
    v.applyAtomic key P p = ((v.atomicDone a aop x y).delivered key p).cacheReply key p
      (replyTo (v.atomicDone a aop x y) p 6 p.seq (leBytes 8 (v.readNat a 8) ++ leBytes 56 0)) := by
  subst handle offset first second
  have valid : ¬ (aop = 0 ∨ 3 < aop ∨ bodyNat p.payload 8 8 % 8 ≠ 0) := by omega
  unfold State.applyAtomic
  simp only [← operation, writes, reads, if_neg valid, room, Bool.not_true, Bool.false_eq_true, if_false]
  obtain rfl | rfl | rfl : aop = 1 ∨ aop = 2 ∨ aop = 3 := by omega
  · rfl
  · rfl
  · by_cases same : v.readNat a 8 = bodyNat p.payload 16 8
    · simp [State.atomicDone, atomicValue, same]
    · simp [State.atomicDone, same]

end Apply

/-! ### Receive contexts (R390, R392, R394, R403, R404) -/

section Contexts
variable {s z : State} {src : BitVec 20} {cls : Fin 8} (silent : ({ s with answer := .none } : State) = z)

theorem State.sendAck_known {v : State} {key : Nat} {c : RecvCtx} (context : v.recv key = some c) (p : Packet) : v.sendAck key p =
    (v.updRecv key (fun c => { c with unacked := 0, marks := c.marks.filter (fun x => !seqLe x c.cum) })).answerTo p 0x10 c.cum
      (min 4095 (c.marks.filter (fun x => seqLe x c.cum)).length) [] 0 0 := by
  unfold State.sendAck
  simp only [context]

section Own
variable {own : Nat} (flow : src.toNat * 8 + cls.val = own)
include silent flow

theorem execAckTimer_unknown (unknown : z.recv own = none) : execAckTimer src cls s = .next z := by
  subst silent flow
  unfold execAckTimer
  simp only [unknown]

theorem execAckTimer_known {c : RecvCtx} (context : z.recv own = some c) : execAckTimer src cls s =
    .next (if 0 < c.unacked then z.sendAck own { src := src.toNat, cls := cls, domain := z.domainOf c.part } else z) := by
  subst silent flow
  unfold execAckTimer
  simp only [context]

theorem execContextReclaim_none (nothing : z.router.recvs.find? (fun e => e.1 % 2 ^ 23 == own && z.recvRests e.1) = none) :
    execContextReclaim src cls s = .next z := by
  subst silent flow
  unfold execContextReclaim flowKey
  simp only [Nat.add_zero, nothing]

theorem execContextReclaim_some {e : Nat × Option RecvCtx}
    (rests : z.router.recvs.find? (fun e => e.1 % 2 ^ 23 == own && z.recvRests e.1) = some e) : execContextReclaim src cls s =
      .next ((z.updRouter (fun r => { r with recvs := r.recvs.set e.1 none, cache := r.cache.filter (· ≠ 2 * e.1 + 1) })).gauges) := by
  subst silent flow
  unfold execContextReclaim flowKey
  simp only [Nat.add_zero, rests]

end Own

section Heel
variable {final : Option (BitVec 20)} {key : Nat} (flow : flowKey src cls final = key)
include silent flow

theorem execHeelApply_unknown (unknown : z.recv key = none) : execHeelApply src cls final s = .next z := by
  subst silent flow
  unfold execHeelApply
  simp only [unknown]

theorem execHeelApply_due {c : RecvCtx} (context : z.recv key = some c) {p : Packet}
    (due : c.held.find? (fun p => (!p.fence || (c.cum + 1) % 2 ^ 32 == p.seq) && (p.op ≠ 2 || (c.writeOf p.seq).isSome)) = some p) :
    execHeelApply src cls final s = .next ((z.updRecv key (fun c => { c with held := c.held.erase p })).applyRequest key c.part p) := by
  subst silent flow
  unfold execHeelApply
  simp only [context, due]

end Heel

theorem State.recvRests_known {key : Nat} {c : RecvCtx} (context : z.recv key = some c) : z.recvRests key =
    (c.above.isEmpty && c.held.isEmpty && c.writes.isEmpty && c.unacked == 0 && !z.router.replies.any (fun e => e.1 == key)) := by
  unfold State.recvRests
  rw [context]

theorem State.recvRests_unknown {key : Nat} (unknown : z.recv key = none) : z.recvRests key = false := by
  unfold State.recvRests
  rw [unknown]

end Contexts

/-! ### FLOWRESET and RACK (R392, R403) -/

section Reset
variable {s z v : State} {p : Packet} (silent : ({ s with answer := .none } : State) = z)
  (arrived : s.router.arrived.find? (fun p => decide (p.op = 0x14)) = some p)
  (taken : z.updRouter (fun r => { r with arrived := r.arrived.erase p }) = v)
include silent arrived taken

theorem execFlowreset_unmapped (unmapped : v.domainPart p.domain = none) : execFlowreset s = .next (v.sendNack p 4) := by
  refine congrArg Host.Outcome.next ((State.onTaken_some silent arrived taken).trans ?_)
  simp only [unmapped]

variable {P : Nat} (mapped : v.domainPart p.domain = some P)
include mapped

theorem execFlowreset_resetting (resetting : v.router.resetting.contains P = true) : execFlowreset s = .next (v.sendNack p 1) := by
  refine congrArg Host.Outcome.next ((State.onTaken_some silent arrived taken).trans ?_)
  simp only [mapped, resetting, if_true]

variable (serves : v.router.resetting.contains P = false)
include serves

/-- A new flow finds no room in the home region of its context (R390). -/
theorem execFlowreset_noHome (new : v.recv (recvKey p) = none) (full : v.homeOpen p.cls (v.recvHome P (recvKey p)) = false) :
    execFlowreset s = .next (v.sendNack p 3) := by
  refine congrArg Host.Outcome.next ((State.onTaken_some silent arrived taken).trans ?_)
  simp only [mapped, serves, new, full, Option.isSome_none, Bool.or_self, Bool.false_eq_true, if_false]

theorem execFlowreset_noEntry (full : v.touch P (2 * recvKey p + 1) = none) : execFlowreset s = .next (v.sendNack p 3) := by
  refine congrArg Host.Outcome.next ((State.onTaken_some silent arrived taken).trans ?_)
  simp only [mapped, serves, full, ite_self, Bool.false_eq_true, if_false]

/-- The context is created or replaced, and the packet acknowledged (R392, R406). -/
theorem execFlowreset_opens (room : v.recv (recvKey p) ≠ none ∨ v.homeOpen p.cls (v.recvHome P (recvKey p)) = true) {w t : State}
    (cached : v.touch P (2 * recvKey p + 1) = some w)
    (made : (w.updRouter (fun r => { r with
      recvs := r.recvs.set (recvKey p) (some { cum := sub32 p.seq 1, part := P })
      replies := r.replies.filter (fun e => e.1 ≠ recvKey p) })).gauges = t) :
    execFlowreset s = .next (if p.mcast then t.sendMack p (sub32 p.seq 1) else t.sendAck (recvKey p) p) := by
  subst made
  have found : ((v.recv (recvKey p)).isSome || v.homeOpen p.cls (v.recvHome P (recvKey p))) = true :=
    Bool.or_eq_true_iff.2 (room.imp_left Option.isSome_iff_ne_none.2)
  refine congrArg Host.Outcome.next ((State.onTaken_some silent arrived taken).trans ?_)
  simp only [mapped, serves, if_pos found, cached, Bool.false_eq_true, if_false]

end Reset

/-- The command of each operation of the request class takes the first request of that operation. -/
theorem exec_request {op : Nat} {c : Instr} {bad : Bool}
    (request : (op, c) ∈ [(1, Instr.wrdesc bad), (2, .wrdata bad), (3, .rdreq bad), (5, .atomic bad), (7, .dbell bad), (9, .contrib bad)])
    (s : State) : exec c s = .next (({ s with answer := .none } : State).arrivedRequest op bad) := by
  simp only [List.mem_cons, List.not_mem_nil, or_false, Prod.mk.injEq] at request
  rcases request with ⟨rfl, rfl⟩ | ⟨rfl, rfl⟩ | ⟨rfl, rfl⟩ | ⟨rfl, rfl⟩ | ⟨rfl, rfl⟩ | ⟨rfl, rfl⟩
  all_goals rfl

/-- Settles O37: a request by the check that answers it, an admitted one by its turn and its operation, each other command by its
context. -/
theorem destinationsServeRequests : Obligations.DestinationsServeRequests := by
  intro s z silent
  refine ⟨fun op c bad request => ?request, fun v key P p cx context => ⟨State.applyRequest_multicast context,
      fun carried heel early => ?early, fun carried inOrder => ?inTurn⟩,
    fun src cls final key own flow unicast => ⟨execAckTimer_unknown silent unicast, fun c context => ?ack, execHeelApply_unknown silent flow,
      fun c context => ⟨fun p due => execHeelApply_due silent flow context due, State.recvRests_known context⟩, State.recvRests_unknown,
      execContextReclaim_none silent unicast, fun e rests => execContextReclaim_some silent unicast rests⟩,
    fun nothing => congrArg Host.Outcome.next (State.onTaken_none silent nothing), fun p v arrived taken => ?flowreset,
    fun nothing => congrArg Host.Outcome.next (State.onArrived_none silent nothing), fun p v arrived taken => ?rack⟩
  case request =>
    have serves : exec c s = .next (z.arrivedRequest op bad) := silent ▸ exec_request request s
    refine ⟨fun nothing => serves.trans (congrArg _ (State.arrivedRequest_none silent nothing bad)), fun p v arrived judged => ?_⟩
    have refused {n : Nat} (nack : v.acceptPacket p = (v.sendNack p n, none)) : exec c s = .next (v.sendNack p n) :=
      serves.trans (congrArg _ (State.arrivedRequest_refused silent arrived judged nack))
    refine ⟨fun warm => refused (State.acceptPacket_warm warm), fun cold unmapped => refused (State.acceptPacket_unmapped cold unmapped),
      fun P cold mapped => ⟨fun resetting => refused (State.acceptPacket_resetting cold mapped resetting),
        fun awake unknown => refused (State.acceptPacket_noContext cold mapped awake unknown),
        fun cx awake context => ⟨fun full => refused (State.acceptPacket_noEntry cold mapped awake context full),
          fun w cy cached current => ?_⟩⟩⟩
    have admitted := serves.trans (congrArg _ (State.arrivedRequest_admitted silent arrived judged
      (State.acceptPacket_admits cold mapped awake context cached) current))
    exact ⟨fun recorded => admitted.trans (congrArg _ (if_pos recorded)),
      fun new => admitted.trans (congrArg _ (if_neg (Bool.eq_false_iff.1 new)))⟩
  case early =>
    have held := State.applyRequest_early (key := key) (P := P) context carried heel early
    exact ⟨fun denied => held.trans (if_pos denied), fun allowed => held.trans (if_neg (Bool.not_eq_false _ ▸ allowed))⟩
  case inTurn =>
    have turn := State.applyRequest_inTurn (key := key) (P := P) context carried inOrder
    refine ⟨fun desc => ?wrdesc, fun data early => turn.trans (State.applyInTurn_wrdata_early data early),
      fun w k data ofWrite => turn.trans (State.applyInTurn_wrdata data ofWrite), fun read served => ?served, fun read refused => ?refused,
      fun a b h off aop x y old atomic handle operation offset first second writes reads from1 to3 aligned room was new value => ?atomic,
      fun doorbell room => ?rings, fun doorbell full => ?full, fun contrib => turn.trans (State.applyInTurn_contrib contrib)⟩
    case wrdesc =>
      rintro _ _ _ rfl rfl rfl
      have opens := turn.trans (State.applyInTurn_wrdesc desc)
      exact ⟨fun denied => opens.trans (if_pos (congrArg (!·) denied)), fun allowed => opens.trans (if_neg (bnot_ne_true_of_eq_true allowed))⟩
    case served => exact turn.trans ((State.applyInTurn_rdreq read).trans (if_pos served))
    case refused => exact turn.trans ((State.applyInTurn_rdreq read).trans (if_neg (Bool.eq_false_iff.1 refused)))
    case atomic =>
      subst was value
      have applies := turn.trans ((State.applyInTurn_atomic atomic).trans
        (State.applyAtomic_eq handle operation offset first second writes reads from1 to3 aligned room))
      refine ⟨fun compare differs => ?_, fun writes => ?_⟩
      · rwa [State.atomicDone, if_pos ⟨compare, differs⟩] at applies
      · have stores : ¬ (aop = 3 ∧ v.readNat a 8 ≠ x) := fun fails => writes.elim (absurd fails.1) fails.2
        rwa [State.atomicDone, if_neg stores] at applies
    case rings => exact turn.trans ((State.applyInTurn_dbell doorbell).trans (if_neg (bnot_ne_true_of_eq_true room)))
    case full => exact turn.trans ((State.applyInTurn_dbell doorbell).trans (if_pos (congrArg (!·) full)))
  case ack =>
    have timer := execAckTimer_known silent unicast context
    exact ⟨fun idle => timer.trans (congrArg _ (if_neg (Nat.not_lt.2 (Nat.le_of_eq idle)))),
      fun due => timer.trans (congrArg _ ((if_pos due).trans (State.sendAck_known context _)))⟩
  case flowreset =>
    refine ⟨execFlowreset_unmapped silent arrived taken, fun P mapped => ⟨execFlowreset_resetting silent arrived taken mapped,
      execFlowreset_noHome silent arrived taken mapped, execFlowreset_noEntry silent arrived taken mapped,
      fun w t serves room cached made => ?_⟩⟩
    have opens := execFlowreset_opens silent arrived taken mapped serves room cached made
    exact ⟨fun unicast => opens.trans (congrArg _ (if_neg (Bool.eq_false_iff.1 unicast))),
      fun multicast => opens.trans (congrArg _ (if_pos multicast))⟩
  case rack =>
    exact ⟨fun unmapped => congrArg Host.Outcome.next (State.onArrived_unmapped silent arrived taken unmapped),
      fun mapped => congrArg Host.Outcome.next (State.onArrived_mapped silent arrived taken mapped)⟩

end Sys2Proof.Machine

/-!
Answers: what acknowledgements, refusals and replies do at the source of a transaction.
-/
namespace Sys2Proof.Machine

/-- The command of each answer takes the first answer of its operation. -/
theorem exec_answer {op : Nat} {i : Instr} (answer : (op, i) ∈ [(0x10, Instr.ack), (0x11, .nack), (0x12, .loss), (0x15, .mack), (4, .rddata),
    (6, .atomrsp), (8, .dback), (0xA, .contribrsp), (0x18, .cdown)]) :
    ∃ g : Packet → State → State, ∀ s, exec i s = .next (s.onArrived op g) := by
  simp only [List.mem_cons, List.not_mem_nil, or_false, Prod.mk.injEq] at answer
  rcases answer with ⟨rfl, rfl⟩ | ⟨rfl, rfl⟩ | ⟨rfl, rfl⟩ | ⟨rfl, rfl⟩ |
    ⟨rfl, rfl⟩ | ⟨rfl, rfl⟩ | ⟨rfl, rfl⟩ | ⟨rfl, rfl⟩ | ⟨rfl, rfl⟩
  all_goals exact ⟨_, fun _ => rfl⟩

section Answers
variable {s z v : State} {p : Packet} {key : Nat} (silent : ({ s with answer := .none } : State) = z)
  (taken : z.updRouter (fun r => { r with arrived := r.arrived.erase p }) = v) (mapped : v.domainPart p.domain ≠ none)
  (flow : sendKey p.src p.cls = key)
include silent taken mapped flow

/-! ### ACK (R394, R407, R414) -/

/-- A send context when what is unacknowledged up to a seq is complete: a held flow is released with its last packet that met a partition in
reset (R394, R407). -/
def SendCtx.acknowledged (c : SendCtx) (seq : Nat) : SendCtx :=
  { c with
    unacked := c.unacked.filter (fun x => !seqLe x.pkt.seq seq)
    phase := if c.phase = .held ∧ (c.unacked.filter (fun x => !seqLe x.pkt.seq seq)).any (fun x => decide (x.nack = 1)) = false then .opened
      else c.phase }

section Ack
variable (arrived : s.router.arrived.find? (fun p => decide (p.op = 0x10)) = some p)
include arrived

theorem execAck_unknown (unknown : v.router.sends.get key = none) : execAck s = .next v := by
  subst flow
  refine congrArg Host.Outcome.next ((State.onArrived_mapped silent arrived taken mapped).trans ?_)
  exact if_pos (Option.isNone_iff_eq_none.2 unknown)

variable (known : v.router.sends.get key ≠ none)
include known

/-- In a flow that is being opened the ACK is that of its FLOWRESET, or stray (R392). -/
theorem execAck_opening (opening : (v.send key).phase = .opening) : execAck s =
    .next (if (p.seq + 1) % 2 ^ 32 = (v.send key).resetSeq then v.updSend key (fun c => { c with phase := .opened, opener := none })
      else v) := by
  subst flow
  refine congrArg Host.Outcome.next ((State.onArrived_mapped silent arrived taken mapped).trans ?_)
  exact (if_neg (fun unknown => known (Option.isNone_iff_eq_none.1 unknown))).trans (if_pos opening)

theorem execAck_acknowledges (running : (v.send key).phase ≠ .opening) {w : State} (echoed : (if 0 < p.xid then v.echoRate key else v) = w) :
    execAck s = .next ((w.updSend key (fun c => c.acknowledged p.seq)).finishWrites key) := by
  subst flow echoed
  refine congrArg Host.Outcome.next ((State.onArrived_mapped silent arrived taken mapped).trans ?_)
  refine (if_neg (fun unknown => known (Option.isNone_iff_eq_none.1 unknown))).trans ((if_neg running).trans ?_)
  simp only [State.cond, decide_eq_true_eq, SendCtx.acknowledged, Bool.not_eq_true']

end Ack

/-! ### NACK and LOSS (R396, R401, R408) -/

section Nack
variable (arrived : s.router.arrived.find? (fun p => decide (p.op = 0x11)) = some p)
include arrived

/-- A NACK of the FLOWRESET fails its flow when it is refused or may not access, and else is kept for the flow's timers (R401). -/
theorem execNack_opening {reason : Nat} (told : reason = bodyNat p.payload 0 1) {u : SentPkt}
    (opening : (v.send key).phase = .opening) (opener : (v.send key).opener = some u) (named : u.pkt.seq = p.seq) : execNack s =
      .next (if reason = 4 ∨ reason = 5 then v.openFails key
        else v.updSend key (fun c => { c with opener := some { u with nack := reason } })) := by
  subst flow told
  refine congrArg Host.Outcome.next ((State.onArrived_mapped silent arrived taken mapped).trans ?_)
  simp only [opening, opener, named, ne_eq, not_true_eq_false, if_false]

variable (running : (v.send key).phase ≠ .opening)
include running

theorem execNack_stray (stray : (v.send key).unacked.any (fun x => decide (x.pkt.seq = p.seq)) = false) : execNack s = .next v := by
  subst flow
  refine congrArg Host.Outcome.next ((State.onArrived_mapped silent arrived taken mapped).trans ?_)
  dsimp only
  split
  · contradiction
  · exact if_pos (congrArg (!·) stray)

/-- The flow with the reason of a NACK at the packet that it names. -/
def State.nackMarked (v : State) (key : Nat) (p : Packet) (reason : Nat) : State :=
  v.updSend key (fun c => { c with unacked := c.unacked.map (fun x => if x.pkt.seq = p.seq then { x with nack := reason } else x) })

/-- What a NACK of an unacknowledged packet does, by its reason (R401, R407, R408). -/
def State.nackTaken (v : State) (key : Nat) (p : Packet) (reason : Nat) : State :=
  if reason = 1 then (v.nackMarked key p reason).updSend key (fun c => { c with phase := .held })
  else if reason = 2 then (v.nackMarked key p reason).noContext key
  else if reason = 3 then v.nackMarked key p reason
  else v.failTxns key (fun t => t.xid = p.xid || t.job.mcast.isSome)

theorem execNack_named {reason : Nat} (told : reason = bodyNat p.payload 0 1)
    (named : (v.send key).unacked.any (fun x => decide (x.pkt.seq = p.seq)) = true) :
    execNack s = .next (v.nackTaken key p reason) := by
  subst flow told
  refine congrArg Host.Outcome.next ((State.onArrived_mapped silent arrived taken mapped).trans ?_)
  dsimp only
  split
  · contradiction
  · refine (if_neg (bnot_ne_true_of_eq_true named)).trans ?_
    unfold State.nackTaken
    split
    case _ one => exact (if_pos one).symm
    case _ two => exact ((if_neg (by omega)).trans (if_pos two)).symm
    case _ three => exact ((if_neg (by omega)).trans ((if_neg (by omega)).trans (if_pos three))).symm
    case _ one two three => exact ((if_neg one).trans ((if_neg two).trans (if_neg three))).symm

end Nack

section Loss
variable (arrived : s.router.arrived.find? (fun p => decide (p.op = 0x12)) = some p)
include arrived

theorem execLoss_named {u : SentPkt} (named : (v.send key).unacked.find? (fun u => decide (u.pkt.seq = p.seq)) = some u) :
    execLoss s = .next (v.resend key u) := by
  subst flow
  refine congrArg Host.Outcome.next ((State.onArrived_mapped silent arrived taken mapped).trans ?_)
  simp only [named]

theorem execLoss_stray (stray : (v.send key).unacked.find? (fun u => decide (u.pkt.seq = p.seq)) = none) : execLoss s = .next v := by
  subst flow
  refine congrArg Host.Outcome.next ((State.onArrived_mapped silent arrived taken mapped).trans ?_)
  simp only [stray]

end Loss

/-! ### MACK (R417) -/

section Mack
variable (arrived : s.router.arrived.find? (fun p => decide (p.op = 0x15)) = some p) {d sel hops expect m : Nat}
include arrived

/-- The opening of a multicast flow collects hop values until every expected one has answered. -/
theorem execMack_opening (opening : (v.send key).phase = .opening) {j : NetJob}
    (first : (((v.send key).txns.map Txn.job) ++ (v.send key).queue).head? = some j) (multicast : j.mcast = some (d, sel, hops, expect))
    (collected : m = (v.send key).openMacks ||| 2 ^ (p.xid % 64)) : execMack s =
      .next (if m &&& expect = expect then v.updSend key (fun c => { c with openMacks := m, phase := .opened, opener := none })
        else v.updSend key (fun c => { c with openMacks := m })) := by
  subst flow collected
  refine congrArg Host.Outcome.next ((State.onArrived_mapped silent arrived taken mapped).trans ?_)
  simp only [opening, first, Option.bind_some, multicast]
  split
  · next complete => exact State.updSend_congr _ _ (if_pos complete)
  · next waiting => exact State.updSend_congr _ _ (if_neg waiting)

/-- A multicast transaction sent in full collects hop values until every expected one has answered. -/
theorem execMack_running (running : (v.send key).phase ≠ .opening) {t : Txn} (first : (v.send key).txns.head? = some t)
    (multicast : t.job.mcast = some (d, sel, hops, expect)) (sent : t.pkts = [])
    (collected : m = (if seqLe (sub32 (t.firstSeq + t.all.length) 1) p.seq then t.macks ||| 2 ^ (p.xid % 64) else t.macks)) : execMack s =
      .next (if m &&& expect = expect then
          ((v.updSend key (fun c => { c with txns := c.txns.drop 1, unacked := [] })).jobDone key t.xid t.job true).gauges
        else v.updSend key (fun c => { c with txns := c.txns.map (fun x => if x.xid = t.xid then { x with macks := m } else x) })) := by
  subst flow collected
  refine congrArg Host.Outcome.next ((State.onArrived_mapped silent arrived taken mapped).trans ?_)
  dsimp only
  split
  · contradiction
  · simp only [first, multicast, sent, List.isEmpty_nil, Bool.true_and, beq_iff_eq]

end Mack

/-! ### Replies (R393, R398, R399, R414, R448) -/

section Replies
variable {e : State} (echoed : v.replyEcho p = e)
include echoed

omit flow in
/-- A reply to no transaction brings its echo alone. -/
theorem exec_reply_stray (stray : e.txnOf p = none) {op : Nat} {i : Instr}
    (reply : (op, i) ∈ [(4, Instr.rddata), (6, .atomrsp), (8, .dback), (0xA, .contribrsp)])
    (arrived : s.router.arrived.find? (fun p => decide (p.op = op)) = some p) : exec i s = .next e := by
  subst echoed
  simp only [List.mem_cons, List.not_mem_nil, or_false, Prod.mk.injEq] at reply
  rcases reply with ⟨rfl, rfl⟩ | ⟨rfl, rfl⟩ | ⟨rfl, rfl⟩ | ⟨rfl, rfl⟩
  all_goals
    refine congrArg Host.Outcome.next ((State.onArrived_mapped silent arrived taken mapped).trans ?_)
    simp only [stray]

variable {t : Txn} (answers : e.txnOf p = some t)
include answers

theorem execAtomrsp_answers (arrived : s.router.arrived.find? (fun p => decide (p.op = 6)) = some p) (atomic : t.job.op = 5) :
    execAtomrsp s = .next (e.replyDone key t (BitVec.ofNat 64 (bodyNat p.payload 0 8))) := by
  subst echoed flow
  refine congrArg Host.Outcome.next ((State.onArrived_mapped silent arrived taken mapped).trans ?_)
  simp only [answers, atomic, if_true]

theorem execDback_answers (arrived : s.router.arrived.find? (fun p => decide (p.op = 8)) = some p) (doorbell : t.job.op = 7) :
    execDback s = .next (e.replyDone key t 0) := by
  subst echoed flow
  refine congrArg Host.Outcome.next ((State.onArrived_mapped silent arrived taken mapped).trans ?_)
  simp only [answers, doorbell, if_true]

theorem execContribrsp_answers (arrived : s.router.arrived.find? (fun p => decide (p.op = 0xA)) = some p) (contrib : t.job.op = 9) {m : Nat}
    (owner : t.job.owner = .clx m) {d : List Byte} {g peer : Nat} (descriptor : d = t.job.payload.drop (t.job.payload.length - 64))
    (group : g = bodyNat d 0 1 % 8)
    (member : peer = ((List.range (e.grpK m g)).find? (fun j => decide (e.grpPeer m g j = p.src))).getD 64) : execContribrsp s =
      .next ((e.replyDone key t 0).clxOnAck ((e.replyDone key t 0).leadOf m) m peer (natBit (bodyNat d 1 1) 0) p.payload) := by
  subst echoed flow descriptor group member
  refine congrArg Host.Outcome.next ((State.onArrived_mapped silent arrived taken mapped).trans ?_)
  simp only [answers, contrib, owner]

section Rddata
variable (arrived : s.router.arrived.find? (fun p => decide (p.op = 4)) = some p) {ps : List (Nat × Nat)}
  (pieces : ps = piecesFrom t.job.store t.job.len)
include arrived pieces

omit flow in
/-- A packet that is none of the read's, or has come before, lands nowhere (R393). -/
theorem execRddata_unwanted (unwanted : t.job.op ≠ 3 ∨ t.got.contains p.seq = true ∨ packetsFor ps.length ≤ p.seq) :
    execRddata s = .next e := by
  subst echoed pieces
  refine congrArg Host.Outcome.next ((State.onArrived_mapped silent arrived taken mapped).trans ?_)
  simp only [answers, if_pos unwanted]

/-- Where the two pieces of a read's packet land, by the owner of the read (R393, R595). -/
def State.readLanded (e : State) (key : Nat) (t : Txn) (p : Packet) (x0 x1 : Nat × Nat) : State :=
  match t.job.owner with
  | .dmx _ _ => (e.landPiece (t.job.store + x0.1) (p.payload.take x0.2) p.check0).landPiece (t.job.store + x1.1) (p.payload.drop x0.2) p.check1
  | .seal slot => e.updRouter (fun r => { r with sealData := r.sealData ++ [(slot, t.job.store + x0.1, p.payload)] })
  | .firmware => e.updRouter (fun r => { r with replyArea := r.replyArea ++ [(key, t.xid, x0.1, p.payload)] })
  | .clx _ => e

/-- The bytes of a read's packet land, and the read is complete with its last one (R393). -/
theorem execRddata_lands (read : t.job.op = 3) (new : t.got.contains p.seq = false) (within : p.seq < packetsFor ps.length)
    {x0 x1 : Nat × Nat} (first : x0 = (ps[2 * p.seq]?).getD (0, 0)) (second : x1 = (ps[2 * p.seq + 1]?).getD (0, 0)) {got : List Nat}
    (brought : got = t.got ++ [p.seq]) {y : State}
    (noted : (e.readLanded key t p x0 x1).updSend key (fun c => { c with
      txns := c.txns.map (fun x => if x.xid = t.xid then { x with got := got } else x) }) = y) : execRddata s =
      .next (if got.length = packetsFor ps.length then y.replyDone key t (BitVec.ofNat 64 (bodyNat p.payload 0 8)) else y) := by
  subst echoed flow first second brought noted pieces
  have wanted : ¬ (t.job.op ≠ 3 ∨ t.got.contains p.seq = true ∨ packetsFor (piecesFrom t.job.store t.job.len).length ≤ p.seq) := by
    simp only [read, new, ne_eq, not_true_eq_false, Bool.false_eq_true, false_or, Nat.not_le, within]
  refine congrArg Host.Outcome.next ((State.onArrived_mapped silent arrived taken mapped).trans ?_)
  simp only [answers, if_neg wanted]
  rfl

end Rddata
end Replies
end Answers

/-- The owner of a read decides where its packet lands. -/
theorem State.readLanded_eq {e w : State} {key : Nat} {t : Txn} {p : Packet} {x0 x1 : Nat × Nat}
    (transfer : ∀ q tok, t.job.owner = .dmx q tok →
      w = (e.landPiece (t.job.store + x0.1) (p.payload.take x0.2) p.check0).landPiece (t.job.store + x1.1) (p.payload.drop x0.2) p.check1)
    (sealedLoad : ∀ slot, t.job.owner = .seal slot →
      w = e.updRouter (fun r => { r with sealData := r.sealData ++ [(slot, t.job.store + x0.1, p.payload)] }))
    (collective : ∀ m, t.job.owner = .clx m → w = e)
    (firmware : t.job.owner = .firmware → w = e.updRouter (fun r => { r with replyArea := r.replyArea ++ [(key, t.xid, x0.1, p.payload)] })) :
    e.readLanded key t p x0 x1 = w := by
  unfold State.readLanded
  split
  case _ q tok owner => exact (transfer q tok owner).symm
  case _ slot owner => exact (sealedLoad slot owner).symm
  case _ owner => exact (firmware owner).symm
  case _ m owner => exact (collective m owner).symm

/-- Settles O38, command by command: each answer by the phase of its flow, the reason it gives, or the transaction that it names. -/
theorem answersCompleteTransactions : Obligations.AnswersCompleteTransactions := by
  intro s z silent
  refine ⟨fun op i answer nothing => ?nothing, fun p v taken unmapped op i answer arrived => ?unmapped, ?mapped⟩
  case nothing =>
    obtain ⟨g, takes⟩ := exec_answer answer
    exact (takes s).trans (congrArg _ (State.onArrived_none silent nothing))
  case unmapped =>
    obtain ⟨g, takes⟩ := exec_answer answer
    exact (takes s).trans (congrArg _ (State.onArrived_unmapped silent arrived taken unmapped))
  case mapped =>
    rintro p v key c taken mapped flow rfl
    refine ⟨fun arrived => ?ack, fun arrived reason told => ?nack, fun arrived => ⟨fun u => execLoss_named silent taken mapped flow arrived,
        execLoss_stray silent taken mapped flow arrived⟩, fun arrived => ⟨?mackOpening, ?mack⟩,
      fun e t echoed answers => ⟨execAtomrsp_answers silent taken mapped flow echoed answers,
        execDback_answers silent taken mapped flow echoed answers, ?contribrsp, fun arrived ps pieces =>
        ⟨execRddata_unwanted silent taken mapped echoed answers arrived pieces, ?lands⟩⟩,
      fun e echoed stray op i reply arrived => exec_reply_stray silent taken mapped echoed stray reply arrived,
      fun arrived => congrArg Host.Outcome.next (State.onArrived_mapped silent arrived taken mapped)⟩
    case ack =>
      refine ⟨execAck_unknown silent taken mapped flow arrived, fun known opening named => ?_, fun known opening stray => ?_,
        fun known running w echoed => execAck_acknowledges silent taken mapped flow arrived known running echoed⟩
      · exact (execAck_opening silent taken mapped flow arrived known opening).trans (congrArg _ (if_pos named))
      · exact (execAck_opening silent taken mapped flow arrived known opening).trans (congrArg _ (if_neg stray))
    case nack =>
      refine ⟨fun u opening opener named fails => ?_, fun u opening opener named noRefusal noAccess => ?_,
        execNack_stray silent taken mapped flow arrived, fun running named => ?_⟩
      · exact (execNack_opening silent taken mapped flow arrived told opening opener named).trans (congrArg _ (if_pos fails))
      · exact (execNack_opening silent taken mapped flow arrived told opening opener named).trans
          (congrArg _ (if_neg (not_or.2 ⟨noRefusal, noAccess⟩)))
      · have acts := execNack_named silent taken mapped flow arrived running told named
        rintro _ rfl
        exact ⟨fun one => acts.trans (congrArg _ (if_pos one)),
          fun two => acts.trans (congrArg _ ((if_neg (by omega)).trans (if_pos two))),
          fun three => acts.trans (congrArg _ ((if_neg (by omega)).trans ((if_neg (by omega)).trans (if_pos three)))),
          fun fails => acts.trans (congrArg _ ((if_neg (by omega)).trans ((if_neg (by omega)).trans (if_neg (by omega)))))⟩
    case mackOpening =>
      intro j d sel hops expect m opening first multicast collected
      have collects := execMack_opening silent taken mapped flow arrived opening first multicast collected
      exact ⟨fun complete => collects.trans (congrArg _ (if_pos complete)), fun waiting => collects.trans (congrArg _ (if_neg waiting))⟩
    case mack =>
      intro t d sel hops expect m running first multicast sent collected
      have collects := execMack_running silent taken mapped flow arrived running first multicast sent collected
      exact ⟨fun complete => collects.trans (congrArg _ (if_pos complete)), fun waiting => collects.trans (congrArg _ (if_neg waiting))⟩
    case contribrsp =>
      intro arrived contrib m d g peer owner
      exact execContribrsp_answers silent taken mapped flow echoed answers arrived contrib owner
    case lands =>
      intro x0 x1 w got read new within first second transfer sealedLoad collective firmware brought y noted
      have landed := State.readLanded_eq transfer sealedLoad collective firmware
      have lands := execRddata_lands silent taken mapped flow echoed answers arrived pieces read new within first second brought (landed ▸ noted)
      exact ⟨fun whole => lands.trans (congrArg _ (if_pos whole)), fun part => lands.trans (congrArg _ (if_neg part))⟩

end Sys2Proof.Machine

/-!
The collective engines: how a collective starts, sends, ends and fails, and how groups and programs take their writes.
-/
namespace Sys2Proof.Machine

/-! ### Reads of the state -/

section Reads
variable (s : State) (q : Nat)

theorem State.rd_count_ne {a b : Nat} (n : Nat) (other : b ≠ a) : (s.count a n).rd b = s.rd b := s.rd_wr_ne _ other

theorem State.rd_updSeq (f : Seq → Seq) (a : Nat) : (s.updSeq q f).rd a = s.rd a := rfl

theorem State.clx_updClx (f : Clx → Clx) : (s.updClx q f).clx q = f (s.clx q) := Tbl.get_upd_same _ _ _

/-- The partition of a die is read from SEC_PART_MAP alone (R575). -/
theorem State.partOfDie_congr {s t : State} (same : t.rd Reg.secPartMap = s.rd Reg.secPartMap) (d : Nat) : t.partOfDie d = s.partOfDie d :=
  State.rdF_congr same _ _

end Reads

/-! ### A collective that fails a check (R429, R451) -/

/-- CLX_LAST of a collective that has failed (R451, R456). -/
def ClxInst.failedLast (i : ClxInst) (number code : Nat) : W64 :=
  setFld (setFld (setFld (setFld (setFld (setFld (setFld 0 9 0 i.program) 23 16 i.token) 31 24 number) 32 32 1) 33 33 0) 34 34 1) 39 36 code

section FailedLast
variable (i : ClxInst) (number code : Nat)

theorem ClxInst.failedLast_code : fld (i.failedLast number code) 39 36 = code % 16 := fld_setFld_same _ _ _ _ (by decide) (by decide)

theorem ClxInst.failedLast_program : fld (i.failedLast number code) 9 0 = i.program % 1024 := by
  simp [ClxInst.failedLast, fld_setFld_ne, fld_setFld_same]

theorem ClxInst.failedLast_token : fld (i.failedLast number code) 23 16 = i.token % 256 := by
  simp [ClxInst.failedLast, fld_setFld_ne, fld_setFld_same]

end FailedLast

section Failed
variable (s : State) (q : Nat) (i : ClxInst) (number code : Nat)

/-- A collective that fails is shown in CLX_LAST, counts in CLX_FAILED and records event 0x6C1. -/
theorem State.clxEnded_failed : s.clxEnded q i number code true false =
    ((s.wr (Reg.clxLast q) (i.failedLast number code)).count (Reg.clxFailed q) 1).event 0x6C1 .none code (some (s.partOfDie q)) := by
  have map : Reg.secPartMap ≠ Reg.clxLast q := by
    unfold Reg.secPartMap Reg.clxLast
    omega
  rw [← State.partOfDie_congr (s.rd_wr_ne (i.failedLast number code) map) q]
  rfl

theorem State.rd_clxEnded_failed_last : (s.clxEnded q i number code true false).rd (Reg.clxLast q) = i.failedLast number code := by
  have apart : Reg.clxLast q ≠ Reg.clxFailed q := by
    unfold Reg.clxLast Reg.clxFailed
    omega
  rw [State.clxEnded_failed, State.rd_event, State.rd_count_ne _ _ apart, State.rd_wr_same]

theorem State.rd_clxEnded_failed_ne {a : Nat} (last : a ≠ Reg.clxLast q) (failed : a ≠ Reg.clxFailed q) :
    (s.clxEnded q i number code true false).rd a = s.rd a := by
  rw [State.clxEnded_failed, State.rd_event, State.rd_count_ne _ _ failed, State.rd_wr_ne _ _ last]

theorem State.clxEnded_failed_mem : (s.clxEnded q i number code true false).mem = s.mem := by
  rw [State.clxEnded_failed, State.event_mem, State.count_mem, State.wr_mem]

theorem State.clxEnded_failed_seqs : (s.clxEnded q i number code true false).seqs = s.seqs := by
  rw [State.clxEnded_failed, State.event_seqs, State.count_seqs, State.wr_seqs]

theorem State.clxEnded_failed_clxs : (s.clxEnded q i number code true false).clxs = s.clxs := by
  rw [State.clxEnded_failed, State.event_clxs, State.count_clxs, State.wr_clxs]

theorem State.clxEnded_failed_rcd (room : s.rcd.queue.length < 256) : (s.clxEnded q i number code true false).rcd.queue =
    s.rcd.queue ++ [⟨{ name := 0x6C1, part := some (s.partOfDie q), detail := BitVec.ofNat 64 code }, s.rcd.opTime⟩] := by
  rw [State.clxEnded_failed]
  exact State.event_rcd _ _ _ _ _ _ room

end Failed

/-! ### INSTANCE_START (R428, R429, R433) -/

section Start
variable (s : State) (q : Nat)

/-- The oldest collective leaves the queue of an engine, which keeps `rest`. -/
def State.instanceTaken (rest : List ClxInst) : State :=
  (s.updClx q (fun c => { c with queue := rest })).wrF (Reg.clxStatus q) 16 8 rest.length

theorem State.clx_instanceTaken (rest : List ClxInst) : (s.instanceTaken q rest).clx q = { s.clx q with queue := rest } :=
  s.clx_updClx q (fun c => { c with queue := rest })

theorem State.rd_instanceTaken_ne (rest : List ClxInst) {a : Nat} (other : a ≠ Reg.clxStatus q) : (s.instanceTaken q rest).rd a = s.rd a :=
  State.rd_wrF_ne _ _ _ _ other

theorem State.partOfDie_instanceTaken (rest : List ClxInst) : (s.instanceTaken q rest).partOfDie q = s.partOfDie q := by
  have map : Reg.secPartMap ≠ Reg.clxStatus q := by
    unfold Reg.secPartMap Reg.clxStatus
    omega
  exact State.partOfDie_congr (s.rd_instanceTaken_ne q rest map) q

section Refused
variable (i : ClxInst) (rest : List ClxInst) (number : Nat)

/-- The collective that an engine has taken fails the check with a code, and its token fails at the next step. -/
def State.instanceRefused : State :=
  ((s.instanceTaken q rest).clxEnded q i number (s.clxCheck q i) true false).updSeq q (fun z => { z with soon := z.soon ++ [(i.token, false)] })

theorem State.rd_instanceRefused_last : (s.instanceRefused q i rest number).rd (Reg.clxLast q) = i.failedLast number (s.clxCheck q i) := by
  rw [State.instanceRefused, State.rd_updSeq, State.rd_clxEnded_failed_last]

theorem State.rdF_instanceRefused_last (hi lo : Nat) :
    (s.instanceRefused q i rest number).rdF (Reg.clxLast q) hi lo = fld (i.failedLast number (s.clxCheck q i)) hi lo := by
  rw [State.rdF, State.rd_instanceRefused_last]

theorem State.rd_instanceRefused_ne {a : Nat} (last : a ≠ Reg.clxLast q) (status : a ≠ Reg.clxStatus q) (failed : a ≠ Reg.clxFailed q) :
    (s.instanceRefused q i rest number).rd a = s.rd a := by
  rw [State.instanceRefused, State.rd_updSeq, State.rd_clxEnded_failed_ne _ _ _ _ _ last failed, State.rd_instanceTaken_ne _ _ _ status]

theorem State.seq_instanceRefused : ((s.instanceRefused q i rest number).seq q).soon = (s.seq q).soon ++ [(i.token, false)] := by
  rw [State.instanceRefused, State.seq_updSeq]
  unfold State.seq
  rw [State.clxEnded_failed_seqs, State.instanceTaken, State.wrF_seqs, State.updClx_seqs]

theorem State.clx_instanceRefused : (s.instanceRefused q i rest number).clx q = { s.clx q with queue := rest } := by
  rw [← State.clx_instanceTaken]
  unfold State.clx
  rw [State.instanceRefused, State.updSeq_clxs, State.clxEnded_failed_clxs]

theorem State.instanceRefused_mem : (s.instanceRefused q i rest number).mem = s.mem := by
  rw [State.instanceRefused, State.updSeq_mem, State.clxEnded_failed_mem, State.instanceTaken, State.wrF_mem, State.updClx_mem]

theorem State.instanceRefused_rcd (room : s.rcd.queue.length < 256) : (s.instanceRefused q i rest number).rcd.queue = s.rcd.queue ++
    [⟨{ name := 0x6C1, part := some (s.partOfDie q), detail := BitVec.ofNat 64 (s.clxCheck q i) }, s.rcd.opTime⟩] := by
  have same : (s.instanceTaken q rest).rcd = s.rcd := rfl
  rw [State.instanceRefused, State.updSeq_rcd, State.clxEnded_failed_rcd _ _ _ _ _ (same ▸ room), State.partOfDie_instanceTaken, same]

end Refused

end Start

section Command
variable {s : State} {q : Fin 4}

theorem execInstanceStart_none (nothing : (s.clx q).queue = [] ∨ (s.clx q).run ≠ none ∨ s.rdF (Reg.clxStatus q) 1 0 ≠ 1) :
    execInstanceStart q s = .next s := by
  simp only [execInstanceStart]
  split
  case h_1 i rest queued idle =>
    rcases nothing with empty | running | busy
    · exact absurd (queued.symm.trans empty) (List.cons_ne_nil _ _)
    · exact absurd idle running
    · exact if_pos busy
  case h_2 => rfl

variable {i : ClxInst} {rest : List ClxInst} (queued : (s.clx q).queue = i :: rest) (noRun : (s.clx q).run = none)
  (idle : s.rdF (Reg.clxStatus q) 1 0 = 1)
include queued noRun idle

theorem execInstanceStart_refused (refused : s.clxCheck q i ≠ 0) :
    ∃ number, execInstanceStart q s = .next (s.instanceRefused q i rest number) := by
  simp only [execInstanceStart, queued, noRun]
  exact ⟨_, (if_neg (not_not_intro idle)).trans (if_pos refused)⟩

theorem execInstanceStart_starts (passed : s.clxCheck q i = 0) {v w y : State} {p : ClxProg} (taken : s.instanceTaken q rest = v)
    (program : v.clxProg q i.program = p)
    (counted : v.updClx q (fun c => { c with
      counters := p.groups.foldl (fun (t : Tbl Nat) g => t.upd g (fun n => (n + 1) % 256)) c.counters,
      failedNo := p.groups.foldl (fun (t : Tbl Nat) g => t.set g 0) c.failedNo }) = w)
    (running : w.each (w.gang q) (fun s m => s.wrF (Reg.clxStatus m) 1 0 2) = y) : execInstanceStart q s =
    .next ((y.clxStartPhase q { inst := i, packet := (y.gang q).flatMap (fun m => p.groups.flatMap (y.clxPacketDirs m)) } 0
      (0, fld (i.args[3]?.getD 0) 31 0)).clxSettle q 8) := by
  subst taken program counted running
  simp only [execInstanceStart, queued, noRun]
  exact (if_neg (not_not_intro idle)).trans (if_neg (not_not_intro passed))

end Command

/-! ### Sending (R445, R447, R448) -/

section Send
variable {s : State} {q m peer : Nat} {down : Bool} {r : ClxRun} {x : ClxNow} {l : ClxLane} {o o2 : ClxOut} {g : ClxSeg} {c : Nat} {b : State}
  {bs : List Byte}

/-- A tile of a lane leaves as a CONTRIB in packet mode, and on the circuit of its direction else. -/
def State.tileSent (b : State) (x : ClxNow) (m : Nat) (down : Bool) (peer phase : Nat) (o : ClxOut) (bs : List Byte) : State :=
  if x.inPacket m down then
    let pl := bs ++ clxDescriptor x.ph.group down phase x.number o.chunk o.tile
    (b.enqueueJob (b.grpPeer m x.ph.group peer) 2 { owner := .clx m, op := 9, domain := b.domainOf x.part, payload := pl }).count
      (Reg.clxTxBytes m) (frameBytes { payload := pl })
  else b.clxCircuitSend x m down peer (clxSeq o.tile o.chunk phase x.number) bs

theorem State.tileSent_packet (packet : x.inPacket m down = true) {pl : List Byte} {phase : Nat}
    (payload : pl = bs ++ clxDescriptor x.ph.group down phase x.number o.chunk o.tile) : b.tileSent x m down peer phase o bs =
    (b.enqueueJob (b.grpPeer m x.ph.group peer) 2 { owner := .clx m, op := 9, domain := b.domainOf x.part, payload := pl }).count
      (Reg.clxTxBytes m) (frameBytes { payload := pl }) := by
  subst payload
  exact if_pos packet

theorem State.tileSent_circuit (circuit : x.inPacket m down = false) (phase : Nat) : b.tileSent x m down peer phase o bs =
    b.clxCircuitSend x m down peer (clxSeq o.tile o.chunk phase x.number) bs :=
  if_neg (ne_true_of_eq_false circuit)

/-- The tile that a lane sends next goes out when the member holds its chunk, it is ready and within the limit. -/
theorem State.clxSendTile_sends (running : (s.clx q).run = some r) (now : s.clxNow q r = x)
    (lane : x.outs.find? (fun l => decide (l.peer = peer ∧ l.down = down)) = some l) (out : r.outs.get (laneKey m peer down) = o)
    (chunk : x.chunkAt l.segs o.chunk = some (g, c)) (unfinished : r.finished = false) (member : x.member o.chunk = m)
    (ready : x.ready g c o.tile = true)
    (within : (o.chunk - o.acked + x.members - 1) / x.members < (if x.scaleFrames g = 2 then 14 else 15))
    (bytes : s.clxTileBytes x g c o.tile = (b, some bs))
    (next : o2 = if o.tile + 1 = 16 + x.scaleFrames g then { o with chunk := o.chunk + x.members, tile := 0 }
      else { o with tile := o.tile + 1 }) :
    s.clxSendTile q m peer down = ((b.tileSent x m down peer r.phase o bs).updClx q
      (fun c => { c with run := c.run.map (fun r => { r with outs := r.outs.set (laneKey m peer down) o2 }) }), true) := by
  subst now out next
  have limit := decide_eq_false (Nat.not_le.2 within)
  have mine := decide_eq_false (not_not_intro member)
  simp only [State.clxSendTile, running, lane, chunk, bytes, unfinished, mine, ready, limit, Bool.or_self, Bool.not_true, Bool.false_eq_true,
    if_false, decide_eq_true_eq, State.tileSent]

/-- TILE_READBACK_SEND settles the gang once its tile has gone out. -/
theorem execTileReadbackSend_sends {m : Fin 4} {peer : Fin 64} {w : State} (sends : s.clxSendTile (s.leadOf m) m peer down = (w, true)) :
    execTileReadbackSend m peer down s = .next (w.clxSettle (s.leadOf m) 8) :=
  congrArg (fun t : State × Bool => Host.Outcome.next (t.1.clxSettle (s.leadOf m) 8)) sends

end Send

/-! ### CLX_INSTANCE_DONE and CLX_PROGRESS_TIMEOUT (R428, R450, R451) -/

section Ends
variable {s : State} {q : Fin 4}

theorem execClxInstanceDone_none (noRun : (s.clx q).run = none) : execClxInstanceDone q s = .next s := by
  simp only [execClxInstanceDone, noRun]

theorem execClxProgressTimeout_none (noRun : (s.clx q).run = none) : execClxProgressTimeout q s = .next s := by
  simp only [execClxProgressTimeout, noRun]

variable {r : ClxRun} (running : (s.clx q).run = some r)
include running

theorem execClxProgressTimeout_some : execClxProgressTimeout q s = .next (if r.finished then s else s.clxFail q 7) := by
  simp only [execClxProgressTimeout, running]

theorem execClxInstanceDone_unfinished (unfinished : r.finished = false) : execClxInstanceDone q s = .next s := by
  simp only [execClxInstanceDone, running, unfinished, Bool.false_eq_true, if_false]

theorem execClxInstanceDone_finished (finished : r.finished = true) {v : State}
    (stopped : (s.updClx q (fun c => { c with run := none })).clxIdle q = v) : execClxInstanceDone q s =
    .next ((v.clxEnded q r.inst ((v.clx q).counters.get ((s.clxProg q r.inst.program).groups.head?.getD 0) % 256) 0 false
      r.degraded).tokenPart q r.inst.token true) := by
  subst stopped
  simp only [execClxInstanceDone, running, finished, if_true]

end Ends

/-! ### Group entries and programs (R430 to R432, R458) -/

section Writes
variable {s z : State} {ag : Agent} {m : Fin 4} (silent : ({ s with answer := .none } : State) = z)

theorem execGroupEntryWrite_none {g : Fin 8} {i : Fin 72} (v : W64) (absent : groupReg m g i = none) :
    execGroupEntryWrite ag m g i v s = .next s := by
  simp only [execGroupEntryWrite, absent]

theorem execGroupEntryWrite_some {g : Fin 8} {i : Fin 72} (v : W64) {a : Nat} (register : groupReg m g i = some a) :
    execGroupEntryWrite ag m g i v s = .next (s.csrAccess ag a (if 8 ≤ i.val then 4 else 8) true
      (fun s => if ag = .fab then s.fabGroupWrite m g a v else s.refuseWrite ag)) := by
  simp only [execGroupEntryWrite, register]

theorem execGroupWriteApply_named {g : Fin 8} (named : s.clxNamed m g = true) : execGroupWriteApply m g s = .next s := if_pos named

theorem execGroupWriteApply_due {g : Fin 8} (free : s.clxNamed m g = false) {due : List (Nat × W64)}
    (waiting : due = (s.clx m).deferred.filter (fun d => decide (Reg.clxGroupW0 m g ≤ d.1) && decide (d.1 < Reg.clxGroupW0 m g + 0x200))) :
    execGroupWriteApply m g s = .next ((s.updClx m (fun c => { c with
      deferred := c.deferred.filter (fun d => !(decide (Reg.clxGroupW0 m g ≤ d.1) && decide (d.1 < Reg.clxGroupW0 m g + 0x200))) })).each due
        (fun s d => s.setGroup m g d.1 d.2)) := by
  subst waiting
  exact if_neg (ne_true_of_eq_false free)

include silent

theorem execClxProgramWrite_served {x : Fin 1024} {i : Fin 8} (v : W64) (served : s.csrPath ag (Reg.clxProgram m x i) 8 = .served) :
    execClxProgramWrite ag m x i v s =
      .next (if ag = .sch ∧ s.rdF (Reg.clxStatus m) 1 0 = 1 ∧ s.rdF (Reg.clxStatus m) 16 8 = 0 then z.wr (Reg.clxProgram m x i) v
        else z.refuseWrite ag) := by
  subst silent
  exact congrArg Host.Outcome.next (State.csrAccess_served _ _ served)

end Writes

/-- Settles O39, command by command: each by the state of its engine, or by the agent that writes and what names the group. -/
theorem collectiveEnginesRunInstances : Obligations.CollectiveEnginesRunInstances := by
  intro s
  refine ⟨fun q => execInstanceStart_none, fun q i rest v p queued noRun idle taken program => ⟨fun fails => ?refused,
      fun passed w y => execInstanceStart_starts queued noRun idle passed taken program⟩, ?send, fun q r running => ⟨fun unfinished => ?runs,
      fun finished => ⟨?ends, fun v => execClxInstanceDone_finished running finished⟩⟩,
    fun q noRun => ⟨execClxInstanceDone_none noRun, execClxProgressTimeout_none noRun⟩, ?group,
    fun m g => ⟨execGroupWriteApply_named, fun free due => execGroupWriteApply_due free⟩, ?program⟩
  case refused =>
    obtain ⟨number, refuses⟩ := execInstanceStart_refused queued noRun idle fails
    have engine := s.clx_instanceRefused q i rest number
    exact ⟨_, refuses, (s.rdF_instanceRefused_last _ _ _ _ _ _).trans (i.failedLast_code _ _),
      (s.rdF_instanceRefused_last _ _ _ _ _ _).trans (i.failedLast_program _ _),
      (s.rdF_instanceRefused_last _ _ _ _ _ _).trans (i.failedLast_token _ _), s.seq_instanceRefused _ _ _ _, congrArg Clx.queue engine,
      (congrArg Clx.run engine).trans noRun, s.instanceRefused_mem _ _ _ _, s.instanceRefused_rcd _ _ _ _,
      fun _ => s.rd_instanceRefused_ne _ _ _ _⟩
  case send =>
    rintro m peer down _ rfl
    refine ⟨rfl, fun r x l o g c b bs running now lane out chunk unfinished member ready within bytes o2 next => ?_⟩
    have sends := State.clxSendTile_sends running now lane out chunk unfinished member ready within bytes next
    constructor
    · intro circuit
      rw [State.tileSent_circuit circuit] at sends
      exact execTileReadbackSend_sends sends
    · intro packet pl payload
      rw [State.tileSent_packet packet payload] at sends
      exact execTileReadbackSend_sends sends
  case runs =>
    exact ⟨execClxInstanceDone_unfinished running unfinished,
      (execClxProgressTimeout_some running).trans (congrArg _ (if_neg (ne_true_of_eq_false unfinished)))⟩
  case ends => exact (execClxProgressTimeout_some running).trans (congrArg _ (if_pos finished))
  case group =>
    rintro ag m g i v _ rfl
    refine ⟨execGroupEntryWrite_none v, fun a register served => ?_⟩
    have writes := execGroupEntryWrite_some (s := s) (ag := ag) v register
    refine ⟨fun other => writes.trans (congrArg _ (State.csrAccess_notFab served other _ _)), fun fab named => ?_, fun fab free => ?_⟩
    · exact writes.trans (congrArg _ ((State.csrAccess_fab served fab _ _).trans (if_pos named)))
    · exact writes.trans (congrArg _ ((State.csrAccess_fab served fab _ _).trans (if_neg (ne_true_of_eq_false free))))
  case program =>
    intro ag m x i v z silent served
    have writes := execClxProgramWrite_served silent v served
    exact ⟨fun may => writes.trans (congrArg _ (if_pos may)), fun may => writes.trans (congrArg _ (if_neg may))⟩

end Sys2Proof.Machine

/-!
One step of the block: what it runs, that it never stops, and what it leaves of the queue and of the fuses.
-/
namespace Sys2Proof.Machine

/-- A step of a state whose queue has a front command runs it with the queue's rest. -/
theorem step_cons (c : Instr) (rest : List Instr) (s : State) : step { s with pending := c :: rest } = exec c { s with pending := rest } := rfl

theorem step_nil {s : State} (empty : s.pending = []) : step s = .next s.idle := by
  unfold step
  rw [empty]

/-- What a step can be: the second of an empty queue, or its front command with the rest. -/
theorem step_cases {s t : State} (h : step s = .next t) :
    (s.pending = [] ∧ t = s.idle) ∨ ∃ c rest, s.pending = c :: rest ∧ exec c { s with pending := rest } = .next t := by
  unfold step at h
  split at h
  case h_1 empty => exact .inl ⟨empty, (Host.Outcome.next.inj h).symm⟩
  case h_2 c rest front => exact .inr ⟨c, rest, front, h⟩

/-- Settles O1: a step by the two forms of the queue. -/
theorem stepRunsTheFrontCommand : Obligations.StepRunsTheFrontCommand :=
  ⟨step_cons, fun _ => step_nil⟩

/-- Settles O3: idling keeps the fuses, and so does every command (`kept_exec`). -/
theorem fusesOnlyRaiseTheFloor : Obligations.FusesOnlyRaiseTheFloor := by
  intro s t stepped
  obtain ⟨-, rfl⟩ | ⟨c, rest, -, ran⟩ := step_cases stepped
  · exact (kept_idle s .rfl).fuses
  · exact (kept_exec c _ t ran).fuses

/-- A step takes the front command off the queue and adds none. -/
theorem step_pending {s t : State} (stepped : step s = .next t) : t.pending = s.pending.tail := by
  obtain ⟨empty, rfl⟩ | ⟨c, rest, front, ran⟩ := step_cases stepped
  · rw [empty]
    exact empty
  · rw [front]
    exact (kept_exec c _ t ran).pending

/-- Settles O6: each step drops the front of the queue, so `k` of them drop `k` commands. -/
theorem queuesDrainInOrder : Obligations.QueuesDrainInOrder := by
  intro f run
  have drained : ∀ k, (f k).pending = (f 0).pending.drop k := by
    intro k
    induction k with
    | zero => rfl
    | succ k ih => rw [step_pending (run k), ih, List.tail_drop]
  exact ⟨fun k _ => drained k, fun k short => (drained k).trans (List.drop_eq_nil_of_le short)⟩

/-- Every command answers a next state: the meanings of seven commands branch before they answer, and all others answer at once. -/
theorem exec_answers (c : Instr) (s : State) : ∃ t, exec c s = .next t := by
  cases c
  case instanceStart q =>
    change ∃ t, execInstanceStart q s = .next t
    unfold execInstanceStart
    dsimp only
    split
    · split
      · exact ⟨_, rfl⟩
      · split <;> exact ⟨_, rfl⟩
    · exact ⟨_, rfl⟩
  case clxInstanceDone q =>
    change ∃ t, execClxInstanceDone q s = .next t
    cases running : (s.clx q).run with
    | none => exact ⟨_, execClxInstanceDone_none running⟩
    | some r =>
      cases finished : r.finished
      · exact ⟨_, execClxInstanceDone_unfinished running finished⟩
      · exact ⟨_, execClxInstanceDone_finished running finished rfl⟩
  case clxProgressTimeout q =>
    change ∃ t, execClxProgressTimeout q s = .next t
    cases running : (s.clx q).run with
    | none => exact ⟨_, execClxProgressTimeout_none running⟩
    | some r => exact ⟨_, execClxProgressTimeout_some running⟩
  case groupEntryWrite ag m g i v =>
    change ∃ t, execGroupEntryWrite ag m g i v s = .next t
    cases register : groupReg m g i with
    | none => exact ⟨_, execGroupEntryWrite_none v register⟩
    | some a => exact ⟨_, execGroupEntryWrite_some v register⟩
  case groupWriteApply m g =>
    change ∃ t, execGroupWriteApply m g s = .next t
    cases named : s.clxNamed m g
    · exact ⟨_, execGroupWriteApply_due named rfl⟩
    · exact ⟨_, execGroupWriteApply_named named⟩
  case eventRecord =>
    change ∃ t, execEventRecord s = .next t
    unfold execEventRecord
    split <;> exact ⟨_, rfl⟩
  case lostEventsReport =>
    change ∃ t, execLostEventsReport s = .next t
    unfold execLostEventsReport
    split <;> exact ⟨_, rfl⟩
  all_goals exact ⟨_, rfl⟩

/-- Settles O2: the command answers (`exec_answers`), and what it answers has the queue as it was (`kept_exec`). -/
theorem everyCommandCompletes : Obligations.EveryCommandCompletes := by
  intro c s
  obtain ⟨t, ran⟩ := exec_answers c s
  exact ⟨t, ran, (kept_exec c s t ran).pending⟩

end Sys2Proof.Machine

/-!
The recorder: its ring, its records, its readers and the fault history.
-/
namespace Sys2Proof.Machine

/-! ### The ring (R660, R662, R663) -/

section Ring
variable {r : Recorder} {q : QueuedEvent} {l : Record} {old : List Record}

/-- The check word makes the words of a record sum to 0 modulo 2^32. -/
theorem Record.words_sum (r : Record) : (r.words.foldl (· + ·) 0) % 2 ^ 32 = 0 := by
  simp only [Record.words, List.foldl_cons, List.foldl_nil, Nat.zero_add]
  omega

theorem Recorder.ring_of_crust {c : Record} (crust : r.crust = some c) : r.ring = r.flash.filter (fun x => x.seq ≠ c.seq) ++ [c] := by
  unfold Recorder.ring
  rw [crust]

theorem Recorder.ring_of_flash (crust : r.crust = none) : r.ring = r.flash := by
  unfold Recorder.ring
  rw [crust]

/-- The number after a sequence number skips 0xFFFF_FFFF (R662). -/
theorem seqNext_eq (n : Nat) : seqNext n = (if n = 0xFFFFFFFE then 0 else (n + 1) % 0xFFFFFFFF) := by
  unfold seqNext seqMod
  split <;> omega

theorem seqNext_lt (n : Nat) : seqNext n < 0xFFFFFFFF := Nat.mod_lt _ (by decide)

/-- No record of a list has a sequence number: a filter by it drops none. -/
theorem filter_seq_ne {xs : List Record} {n : Nat} (fresh : ∀ x ∈ xs, x.seq ≠ n) : xs.filter (fun x => decide (x.seq ≠ n)) = xs :=
  List.filter_eq_self.2 fun x mem => decide_eq_true (fresh x mem)

/-- The records that stay when one more is written: the newest 16,383. -/
def newestKept (xs : List Record) : List Record := if xs.length < 16384 then xs else xs.drop (xs.length - 16383)

theorem newestKept_sublist (xs : List Record) : (newestKept xs).Sublist xs := by
  unfold newestKept
  split
  · exact List.Sublist.refl _
  · exact List.drop_sublist _ _

theorem newestKept_length (xs : List Record) : (newestKept xs).length < 16384 := by
  unfold newestKept
  split
  · assumption
  · rw [List.length_drop]
    omega

/-- A new record stands at the end of the ring, with the newest of the others before it (R662, R663). -/
theorem Recorder.ring_append (fresh : ∀ x ∈ r.ring, x.seq ≠ r.nextSeq) :
    (r.append q).ring = newestKept r.ring ++ [{ ev := q.ev, repeats := 0, time := q.time, cycle := r.cycles, seq := r.nextSeq }] := by
  have kept : ∀ x ∈ newestKept r.ring, x.seq ≠ r.nextSeq := fun x mem => fresh x ((newestKept_sublist _).subset mem)
  rw [Recorder.ring_of_crust (c := { ev := q.ev, repeats := 0, time := q.time, cycle := r.cycles, seq := r.nextSeq }) rfl]
  exact congrArg (· ++ _) (filter_seq_ne kept)

/-- The last record, held in the crust from now on, with one repeat more. -/
def Recorder.repeated (r : Recorder) (l : Record) : Recorder := { r with crust := some { l with repeats := satAdd 0xFFFF l.repeats 1 } }

/-- An event that the ring's last record has is one more repeat of it (R662). -/
theorem Recorder.take_repeat (last : r.ring = old ++ [l]) (same : l.ev = q.ev) : r.take q = r.repeated l := by
  unfold Recorder.take Recorder.repeated
  cases crust : r.crust with
  | some c =>
    rw [Recorder.ring_of_crust crust] at last
    obtain ⟨-, here⟩ := List.append_inj' last rfl
    obtain rfl := List.singleton_inj.1 here
    exact if_pos same
  | none =>
    rw [Recorder.ring_of_flash crust] at last
    rw [last, List.getLast?_concat]
    exact if_pos same

/-- A repeat changes the last record of the ring and no other. -/
theorem Recorder.ring_repeated (last : r.ring = old ++ [l]) (others : r.crust = none → ∀ x ∈ old, x.seq ≠ l.seq) :
    (r.repeated l).ring = old ++ [{ l with repeats := min 0xFFFF (l.repeats + 1) }] := by
  rw [Recorder.ring_of_crust (c := { l with repeats := satAdd 0xFFFF l.repeats 1 }) rfl]
  refine congrArg (· ++ _) ?_
  change r.flash.filter (fun x => decide (x.seq ≠ l.seq)) = old
  cases crust : r.crust with
  | some c =>
    rw [Recorder.ring_of_crust crust] at last
    obtain ⟨before, here⟩ := List.append_inj' last rfl
    obtain rfl := List.singleton_inj.1 here
    exact before
  | none =>
    rw [Recorder.ring_of_flash crust] at last
    rw [last, List.filter_append, filter_seq_ne (others crust)]
    simp

/-- An event that the ring's last record has not makes a new record. -/
theorem Recorder.take_new (other : ∀ l old, r.ring = old ++ [l] → l.ev ≠ q.ev) : r.take q = r.append q := by
  unfold Recorder.take
  cases crust : r.crust with
  | some c => exact if_neg (other _ _ (Recorder.ring_of_crust crust))
  | none =>
    cases last : r.flash.getLast? with
    | none => rfl
    | some l =>
      obtain ⟨old, flash⟩ := List.getLast?_eq_some_iff.1 last
      exact if_neg (other l old ((Recorder.ring_of_flash crust).trans flash))

/-- The flash copy of the last record changes nothing that is readable (R662). -/
theorem Recorder.ring_sync (r : Recorder) : r.sync.ring = r.ring := by
  cases crust : r.crust with
  | none => exact Recorder.ring_of_flash crust
  | some c =>
    rw [Recorder.ring_of_crust (r := r.sync) crust]
    change r.ring.filter _ ++ [c] = r.ring
    simp [Recorder.ring_of_crust crust, List.filter_filter]

/-- What `take` leaves of the recorder: the queue and a clear in progress. -/
theorem Recorder.take_queue (r : Recorder) (q : QueuedEvent) : (r.take q).queue = r.queue ∧ (r.take q).clearing = r.clearing := by
  unfold Recorder.take
  split
  · split <;> exact ⟨rfl, rfl⟩
  · split
    · split <;> exact ⟨rfl, rfl⟩
    · exact ⟨rfl, rfl⟩

end Ring

/-! ### The commands (R653, R658, R662 to R664) -/

section Commands
variable {s : State}

theorem execEventRecord_empty (empty : s.rcd.queue = []) : execEventRecord s = .next s := by
  unfold execEventRecord
  rw [empty]

/-- The recorder once its oldest event is taken: a clear ends with the record of 0x70F (R667). -/
def Recorder.taken (r : Recorder) (q : QueuedEvent) (rest : List QueuedEvent) : Recorder :=
  if q.ev.name = 0x70F then { ({ r with queue := rest } : Recorder).take q with clearing := none } else ({ r with queue := rest } : Recorder).take q

theorem execEventRecord_cons {q : QueuedEvent} {rest : List QueuedEvent} (front : s.rcd.queue = q :: rest) :
    execEventRecord s = .next { s with rcd := s.rcd.taken q rest } := by
  unfold execEventRecord
  rw [front]
  rfl

theorem Recorder.taken_ring (r : Recorder) (q : QueuedEvent) (rest : List QueuedEvent) :
    (r.taken q rest).ring = (({ r with queue := rest } : Recorder).take q).ring := by
  unfold Recorder.taken
  split <;> rfl

theorem Recorder.taken_nextSeq (r : Recorder) (q : QueuedEvent) (rest : List QueuedEvent) :
    (r.taken q rest).nextSeq = (({ r with queue := rest } : Recorder).take q).nextSeq := by
  unfold Recorder.taken
  split <;> rfl

theorem Recorder.taken_queue (r : Recorder) (q : QueuedEvent) (rest : List QueuedEvent) : (r.taken q rest).queue = rest := by
  unfold Recorder.taken
  split <;> exact (Recorder.take_queue _ q).1

theorem Recorder.taken_clearing (r : Recorder) (q : QueuedEvent) (rest : List QueuedEvent) :
    (r.taken q rest).clearing = if q.ev.name = 0x70F then none else r.clearing := by
  unfold Recorder.taken
  split
  · rfl
  · exact (Recorder.take_queue _ q).2

/-- Nothing is lost, or the queue has no room: nothing is reported (R663). -/
theorem execLostEventsReport_none (none : s.rcd.lostSince = 0 ∨ 256 ≤ s.rcd.queue.length) : execLostEventsReport s = .next s := if_pos none

theorem execLostEventsReport_some (lost : s.rcd.lostSince ≠ 0) (room : s.rcd.queue.length < 256) : execLostEventsReport s =
    .next (({ s with rcd := { s.rcd with lostSince := 0 } } : State).event 0xA0E .none (s.rcd.lostSince % 2 ^ 32 + s.rcd.lost * 2 ^ 32)) :=
  if_neg (not_or.2 ⟨lost, Nat.not_le.2 room⟩)

/-- With room in its queue an event adds itself there and changes nothing else of the recorder. -/
theorem State.event_rcd_eq (s : State) (n : Nat) (u : EvUnit) (d : Nat) (p : Option Nat) (g : Nat) (room : s.rcd.queue.length < 256) :
    (s.event n u d p g).rcd = { s.rcd with queue := s.rcd.queue ++ [⟨⟨n, g, p, u, BitVec.ofNat 64 d⟩, s.rcd.opTime⟩] } := by
  unfold State.event State.raise
  rw [if_pos room]

/-- An event does not touch the operating time. -/
theorem State.event_opTime (s : State) (n : Nat) (u : EvUnit) (d : Nat) (p : Option Nat) (g : Nat) : (s.event n u d p g).rcd.opTime = s.rcd.opTime := by
  unfold State.event State.raise
  split <;> rfl

/-- The device once operating time `t` is reached with no other record: the hours are reported (R658). -/
def State.hourMarked (s : State) (t : Nat) : State :=
  ({ s with rcd := { s.rcd with opTime := t, lastWrite := t } } : State).event 0xA0D .none (t / 3600 % 2 ^ 32)

theorem State.hourMarked_queue (s : State) (t : Nat) (room : s.rcd.queue.length < 256) : (s.hourMarked t).rcd.queue =
    s.rcd.queue ++ [⟨{ name := 0xA0D, detail := BitVec.ofNat 64 (t / 3600 % 2 ^ 32) }, t⟩] :=
  State.event_rcd _ _ _ _ _ _ room

theorem execOperatingHourMark_powered {t : Nat} (on : s.pwr.vaux = true) (hours : (s.rcd.lastWrite + 3600) % 2 ^ 40 = t) :
    execOperatingHourMark s = .next (s.hourMarked t) := by
  subst hours
  exact congrArg Host.Outcome.next (if_neg (by simp [on]))

/-- The older copy of the fault history is written with the next sequence number, and is the newer one from then on (R653). -/
theorem execFaultHistoryWrite_writes (s : State) : ∃ t : State, execFaultHistoryWrite s = .next t ∧ t.rcd.history = s.rcd.history ∧ t.csr = s.csr ∧
    t.mem = s.mem ∧
    (s.rcd.copyA.seq ≤ s.rcd.copyB.seq → t.rcd.copyA = { seq := s.rcd.copyB.seq + 1, times := s.rcd.history } ∧ t.rcd.copyB = s.rcd.copyB) ∧
    (s.rcd.copyB.seq < s.rcd.copyA.seq → t.rcd.copyB = { seq := s.rcd.copyA.seq + 1, times := s.rcd.history } ∧ t.rcd.copyA = s.rcd.copyA) ∧
    t.rcd.historyFromFlash = s.rcd.history := by
  refine ⟨_, rfl, ?_⟩
  by_cases older : s.rcd.copyA.seq ≤ s.rcd.copyB.seq
  · simp only [if_pos older, Nat.max_eq_right older]
    refine ⟨trivial, trivial, trivial, fun _ => ⟨trivial, trivial⟩, fun newer => absurd older (Nat.not_le.2 newer), ?_⟩
    simp [Recorder.historyFromFlash]
  · simp only [if_neg older, Nat.max_eq_left (Nat.le_of_not_le older)]
    refine ⟨trivial, trivial, trivial, fun le => absurd le older, fun _ => ⟨trivial, trivial⟩, ?_⟩
    simp only [Recorder.historyFromFlash]
    rw [if_neg (by omega), if_neg (by omega)]

end Commands

/-- Settles O48: the ring by `Recorder.take_repeat` and `Recorder.take_new`, the commands by their equations. -/
theorem recorderKeepsItsRing : Obligations.RecorderKeepsItsRing := by
  refine ⟨fun r => ⟨r.words_sum, rfl⟩, fun s => execEventRecord_empty, ?record, fun s => execLostEventsReport_none, ?lost,
    fun s => ⟨_, rfl, s.rcd.ring_sync, rfl, rfl, rfl, rfl⟩, execFaultHistoryWrite_writes, ?unpowered, ?hour, ?cursor⟩
  case record =>
    intro s q rest front
    refine ⟨_, execEventRecord_cons front, s.rcd.taken_queue q rest, rfl, rfl, rfl,
      fun clears => (s.rcd.taken_clearing q rest).trans (if_pos clears), fun not => (s.rcd.taken_clearing q rest).trans (if_neg not), ?_, ?_⟩
    · intro l old last same others
      have taken : ({ s.rcd with queue := rest } : Recorder).take q = _ := Recorder.take_repeat (old := old) last same
      change (s.rcd.taken q rest).ring = _ ∧ (s.rcd.taken q rest).nextSeq = _
      rw [Recorder.taken_ring, Recorder.taken_nextSeq, taken]
      exact ⟨Recorder.ring_repeated last others, rfl⟩
    · intro other fresh
      have taken : ({ s.rcd with queue := rest } : Recorder).take q = _ := Recorder.take_new other
      change (s.rcd.taken q rest).ring = _ ∧ (s.rcd.taken q rest).ring.length ≤ _ ∧ (s.rcd.taken q rest).nextSeq = _ ∧
        (s.rcd.taken q rest).nextSeq < _
      rw [Recorder.taken_ring, Recorder.taken_nextSeq, taken, Recorder.ring_append (r := { s.rcd with queue := rest }) fresh]
      refine ⟨rfl, ?_, seqNext_eq _, seqNext_lt _⟩
      rw [List.length_append]
      exact newestKept_length _
  case lost =>
    intro s lost room
    have recorder := State.event_rcd_eq ({ s with rcd := { s.rcd with lostSince := 0 } } : State) 0xA0E .none
      (s.rcd.lostSince % 2 ^ 32 + s.rcd.lost * 2 ^ 32) none 0 room
    exact ⟨_, execLostEventsReport_some lost room, (congrArg Recorder.lostSince recorder :), (congrArg Recorder.lost recorder :),
      congrArg Recorder.queue recorder, State.event_csr .., State.event_mem ..⟩
  case unpowered =>
    intro s off
    exact congrArg Host.Outcome.next (if_pos (by rw [off]; rfl))
  case hour =>
    intro s on
    generalize hours : (s.rcd.lastWrite + 3600) % 2 ^ 40 = t
    exact ⟨_, execOperatingHourMark_powered on hours, State.event_opTime .., State.event_csr .., State.event_mem ..,
      fun room => ⟨_, s.hourMarked_queue t room⟩⟩
  case cursor =>
    intro s ag w v
    by_cases own : readerWindow ag = some w.val
    · exact ⟨_, congrArg Host.Outcome.next (if_pos (decide_eq_true own)), fun a other => State.rd_wr_ne s _ other, rfl, rfl,
        fun _ => State.rd_wr_same s _ _, fun not => absurd own not⟩
    · exact ⟨s, congrArg Host.Outcome.next (if_neg (by simp [own])), fun _ _ => rfl, rfl, rfl, fun is => absurd is own, fun _ => rfl⟩

end Sys2Proof.Machine

/-!
Management messages: how a message of a type is served, and what the agent does of it.
-/
namespace Sys2Proof.Machine

/-- The first element that has one property, and has another too, is the first that has both. -/
theorem find?_and_of_find? {α : Type} {p q : α → Bool} {l : List α} {e : α} (first : l.find? p = some e) (also : q e = true) :
    l.find? (fun x => p x && q x) = some e := by
  obtain ⟨here, before, after, rfl, others⟩ := List.find?_eq_some_iff_append.1 first
  exact List.find?_eq_some_iff_append.2 ⟨Bool.and_eq_true_iff.2 ⟨here, also⟩, before, after, rfl,
    fun x mem => by simp [(Bool.not_eq_true' _).mp (others x mem)]⟩

theorem find?_and_of_none {α : Type} {p : α → Bool} (q : α → Bool) {l : List α} (nothing : l.find? p = none) : l.find? (fun x => p x && q x) = none :=
  List.find?_eq_none.2 fun x mem both => List.find?_eq_none.1 nothing x mem (Bool.and_eq_true_iff.1 both).1

/-! ### The first message of a type (R463 to R466) -/

section Messages
variable {s v : State} {type a src : Nat} {m : Mgmt} {whole : Mgmt → Bool} {f : State → Nat → Nat → Mgmt → State × Nat × List Byte} {net : Bool}

theorem State.message_none (nothing : s.fm.inbox.find? (fun e => e.2.2.type = type) = none) : s.message type whole f net = .next s.silent := by
  have notResponse : s.silent.responseFirst type = false := by
    unfold State.responseFirst
    rw [show s.silent.fm.inbox.find? _ = none from nothing]
  have notRequest : s.silent.fm.inbox.find? (fun e => e.2.2.type = type && !natBit e.2.2.flags 0) = none := find?_and_of_none _ nothing
  refine congrArg Host.Outcome.next ((if_neg (ne_true_of_eq_false notResponse)).trans ?_)
  change s.silent.agentTakes type whole f = s.silent
  unfold State.agentTakes
  rw [notRequest]

variable (first : s.fm.inbox.find? (fun e => e.2.2.type = type) = some (a, src, m))
include first

theorem State.responseFirst_eq : s.responseFirst type = natBit m.flags 0 := by
  unfold State.responseFirst
  rw [first]

/-- A response is taken by the request that it answers. -/
theorem State.message_response (response : natBit m.flags 0 = true) : s.message type whole f net = .next (s.silent.takeResponse type net) :=
  congrArg Host.Outcome.next (if_pos ((State.responseFirst_eq (s := s.silent) first).trans response))

/-- A request is taken by the agent. -/
theorem State.message_request (request : natBit m.flags 0 = false) : s.message type whole f net = .next (s.silent.agentTakes type whole f) :=
  congrArg Host.Outcome.next (if_neg (ne_true_of_eq_false ((State.responseFirst_eq (s := s.silent) first).trans request)))

section Request
variable (request : natBit m.flags 0 = false)
include request

theorem State.firstRequest : s.fm.inbox.find? (fun e => e.2.2.type = type && !natBit e.2.2.flags 0) = some (a, src, m) :=
  find?_and_of_find? first (by rw [request]; rfl)

variable (taken : s.updFm (fun f => { f with inbox := f.inbox.erase (a, src, m) }) = v)
include taken

/-- A repetition is answered as before (R465). -/
theorem State.agentTakes_kept {k : Nat × Nat × Mgmt} (kept : v.fm.kept.find? (fun k => k.1 = senderKey a src m && k.2.1 = m.mseq) = some k) :
    s.agentTakes type whole f = if natBit m.flags 1 then v.sendLink a k.2.2 else v.sendMgmt (.node src) k.2.2 := by
  simp only [State.agentTakes, State.firstRequest first request, taken, kept]

variable (new : v.fm.kept.find? (fun k => k.1 = senderKey a src m && k.2.1 = m.mseq) = none)
include new

/-- A request of a lower term is answered with status 3 (R466). -/
theorem State.agentTakes_stale (stale : m.term < v.fmTerm % 2 ^ 32) : s.agentTakes type whole f = v.respond a src m 3 [] := by
  simp only [State.agentTakes, State.firstRequest first request, taken, new, if_pos stale]

variable (current : v.fmTerm % 2 ^ 32 ≤ m.term)
include current

/-- A request that has not its type's form is answered with status 4. -/
theorem State.agentTakes_malformed (malformed : whole m = false) : s.agentTakes type whole f = v.respond a src m 4 [] := by
  simp only [State.agentTakes, State.firstRequest first request, taken, new, if_neg (Nat.not_lt.2 current), malformed, Bool.not_false,
    if_true]

/-- Any other request has its effect, and the response that goes with it. -/
theorem State.agentTakes_acts {w : State} (good : whole m = true)
    (heard : (v.seeTerm m.term).cond (!natBit m.flags 1 && decide (src < 0x20000)) (fun s => s.setPrimary src) = w) :
    s.agentTakes type whole f = (f w a src m).1.respond a src m (f w a src m).2.1 (f w a src m).2.2 := by
  simp only [State.agentTakes, State.firstRequest first request, taken, new, if_neg (Nat.not_lt.2 current), good, Bool.not_true,
    Bool.false_eq_true, if_false, heard]

end Request

section Response
variable (response : natBit m.flags 0 = true)
include response

theorem State.firstResponse : s.fm.inbox.find? (fun e => e.2.2.type = type && natBit e.2.2.flags 0) = some (a, src, m) :=
  find?_and_of_find? first response

variable (taken : s.updFm (fun f => { f with inbox := f.inbox.erase (a, src, m) }) = v)
include taken

/-- An acknowledgement ends the repetition of its report (R465). -/
theorem State.takeResponse_report (report : type = 0x40) : s.takeResponse type net =
    v.updFm (fun f => { f with reports := f.reports.filter (fun r => r.msg.mseq ≠ m.mseq) }) := by
  simp only [State.takeResponse, State.firstResponse first response, taken, if_pos report]

variable (other : type ≠ 0x40)
include other

/-- A response that answers no request is dropped. -/
theorem State.takeResponse_stray (stray : v.fm.reqs.find? (fun q => q.msg.mseq = m.mseq ∧ q.msg.type = type) = none) :
    s.takeResponse type net = v := by
  simp only [State.takeResponse, State.firstResponse first response, taken, if_neg other, stray]

/-- A response goes to the request that it answers. -/
theorem State.takeResponse_answers {q : MgmtReq} (asked : v.fm.reqs.find? (fun q => q.msg.mseq = m.mseq ∧ q.msg.type = type) = some q) :
    s.takeResponse type net = (((v.updFm (fun f => { f with reqs := f.reqs.erase q })).requestDone q m net).flushQueue).goOn := by
  simp only [State.takeResponse, State.firstResponse first response, taken, if_neg other, asked]

end Response
end Messages

section Notices
variable {s : State} {type : Nat}

theorem State.takeNotice_none (nothing : s.fm.inbox.find? (fun e => e.2.2.type = type && !natBit e.2.2.flags 0) = none) :
    s.takeNotice type = (s, none) := by
  unfold State.takeNotice
  rw [nothing]

theorem State.takeNotice_some {e : Nat × Nat × Mgmt} (first : s.fm.inbox.find? (fun e => e.2.2.type = type && !natBit e.2.2.flags 0) = some e) :
    s.takeNotice type = (s.updFm (fun f => { f with inbox := f.inbox.erase e }), some e) := by
  unfold State.takeNotice
  rw [first]

end Notices

/-! ### What the agent does (R462, R477) -/

section Agent
variable (s : State)

theorem State.readValue_holdOpen (ag : Agent) (d : RegDef) : s.readValue ag d Reg.hubFmHoldOpen = BitVec.ofNat 64 s.heldOpen := by
  unfold State.readValue
  rw [if_neg (by decide), if_neg (by decide), if_neg (by decide), if_pos rfl]

/-- HOLD sets hold_en, and says whether every destination is held. -/
theorem State.agentHold_ctrl (m : Mgmt) : (s.agentHold m).rdB Reg.hubFmHoldCtrl 0 = true ∧
    (s.agentHold m).rdB Reg.hubFmHoldCtrl 1 = decide (bodyNat m.body 4 1 ≠ 0) :=
  ⟨State.rdB_wrB_same _ _ _ _ (by decide), (State.rdB_wrB_bit _ _ _ _ _ (by decide)).trans (State.rdB_wrB_same _ _ _ _ (by decide))⟩

/-- RESUME clears hold_en, and every entry of the map. -/
theorem State.agentResume_rd (a : Nat) : s.agentResume.rd a =
    if Reg.hubFmHoldMap 0 ≤ a ∧ a < Reg.hubFmHoldMap 2048 then 0 else (s.wrF Reg.hubFmHoldCtrl 1 0 0).rd a :=
  Tbl.get_clear _ _ _ _ (by decide)

theorem State.agentResume_ctrl : s.agentResume.rdF Reg.hubFmHoldCtrl 1 0 = 0 :=
  (State.rdF_congr ((s.agentResume_rd _).trans (if_neg (by decide))) 1 0).trans (s.rdF_wrF_same _ _ _ _ (by decide) (by decide))

theorem State.agentResume_map {i : Nat} (entry : i < 2048) : s.agentResume.rd (Reg.hubFmHoldMap i) = 0 :=
  (s.agentResume_rd _).trans (if_pos (by unfold Reg.hubFmHoldMap; omega))

/-- A bank in force is the one that the epoch register names. -/
theorem State.setBank_bank {b : Nat} (bank : b < 2) : (s.setBank b).rdF Reg.rtrRtEpoch 0 0 = b := by
  unfold State.setBank
  split
  case isTrue same => exact same
  case isFalse =>
    exact (State.rdF_wrF_field _ _ _ _ _ _ _ (by decide) (by decide)).trans
      ((s.rdF_wrF_same _ _ _ _ (by decide) (by decide)).trans (Nat.mod_eq_of_lt bank))

end Agent

/-! ### FAB's ring, repetitions and reports (R463, R465) -/

section Ring
variable {s v : State}

theorem execMgmt_empty (empty : s.router.ring = []) : execMgmt s = .next s.silent := by
  unfold execMgmt
  simp only [empty]
  rfl

section Front
variable {e : Nat × Packet} {rest : List (Nat × Packet)} (front : s.router.ring = e :: rest)
include front

theorem execMgmt_off (off : s.domOn 24 = false) : execMgmt s = .next s.silent := by
  unfold execMgmt
  simp only [front, State.answer_domOn, off]
  rfl

variable (on : s.domOn 24 = true) (taken : s.silent.updRouter (fun r => { r with ring := rest }) = v)
include on taken

/-- What FAB makes of the first message of its ring. -/
theorem execMgmt_front : execMgmt s = .next (if e.2.op ≠ 0x20 then v.count (Reg.rtrDrop 6) 1 else if !mgmtWhole e.2.payload then v else
    match (Mgmt.ofBytes e.2.payload).relay e.1 with
    | some r => v.sendLink r.1 r.2
    | none => v.updFm (fun f => { f with inbox := f.inbox ++ [(e.1, e.2.src, Mgmt.ofBytes e.2.payload)] })) := by
  subst taken
  unfold execMgmt
  simp only [front, State.answer_domOn, on]
  rfl

end Front
end Ring

section Retransmit
variable {s : State} {q : BitVec 32}

theorem execMgmtRetransmit_none (answered : s.fm.reqs.find? (fun r => r.msg.mseq = q.toNat) = none) : execMgmtRetransmit q s = .next s.silent := by
  unfold execMgmtRetransmit
  simp only [answered]
  rfl

/-- A request without a response goes out again, and has failed after eight transmissions (R465). -/
theorem execMgmtRetransmit_some {r : MgmtReq} (waits : s.fm.reqs.find? (fun r => r.msg.mseq = q.toNat) = some r) : execMgmtRetransmit q s =
    .next (if r.sends < 8 then
      (s.silent.updFm (fun f => { f with reqs := f.reqs.map (fun x => if x = r then { x with sends := x.sends + 1 } else x) })).sendMgmt r.path r.msg
    else (((((s.silent.updFm (fun f => { f with reqs := f.reqs.erase r })).event 0xB09).requestFailed r).flushQueue).goOn)) := by
  unfold execMgmtRetransmit
  simp only [waits]
  rfl

end Retransmit

section Report
variable {s v : State} {a src : Nat} {m : Mgmt}

theorem execReport_none (nothing : s.fm.inbox.find? (fun e => e.2.2.type = 0x40) = none) : execReport s = .next s.silent := by
  have notResponse : s.silent.responseFirst 0x40 = false := by
    unfold State.responseFirst
    rw [show s.silent.fm.inbox.find? _ = none from nothing]
  refine congrArg Host.Outcome.next ((if_neg (ne_true_of_eq_false notResponse)).trans ?_)
  rw [State.takeNotice_none (s := ({ s with answer := .none } : State)) (find?_and_of_none _ nothing)]
  rfl

variable (first : s.fm.inbox.find? (fun e => e.2.2.type = 0x40) = some (a, src, m))
  (taken : s.silent.updFm (fun f => { f with inbox := f.inbox.erase (a, src, m) }) = v)
include first taken

theorem execReport_acknowledged (response : natBit m.flags 0 = true) : execReport s =
    .next (v.updFm (fun f => { f with reports := f.reports.filter (fun r => r.msg.mseq ≠ m.mseq) })) :=
  congrArg Host.Outcome.next ((if_pos ((State.responseFirst_eq (s := s.silent) first).trans response)).trans
    (State.takeResponse_report (s := s.silent) first response taken rfl))

variable (request : natBit m.flags 0 = false)
include request

/-- A report of another agent is for the primary, which acts on it once. -/
theorem execReport_request : execReport s = .next (if v.role ≠ 3 then v else
    match v.fm.kept.find? (fun k => k.1 = senderKey a src m && k.2.1 = m.mseq) with
    | some k => v.sendMgmt (.node src) k.2.2
    | none => if m.body.length ≠ 12 then v.respond a src m 4 [] else ((v.respond a src m 0 []).onReport src m.body).goOn) := by
  have noticed : s.silent.takeNotice 0x40 = (v, some (a, src, m)) := by
    rw [State.takeNotice_some (State.firstRequest (s := s.silent) first request), taken]
  refine congrArg Host.Outcome.next ((if_neg (ne_true_of_eq_false ((State.responseFirst_eq (s := s.silent) first).trans request))).trans ?_)
  rw [show ({ s with answer := .none } : State).takeNotice 0x40 = _ from noticed] <;> rfl

theorem execReport_notPrimary (notPrimary : v.role ≠ 3) : execReport s = .next v :=
  (execReport_request first taken request).trans (congrArg _ (if_pos notPrimary))

section Primary
variable (primary : v.role = 3)
include primary

/-- A report that the primary has acknowledged is acknowledged again, and not acted on (R465). -/
theorem execReport_repeated {k : Nat × Nat × Mgmt} (kept : v.fm.kept.find? (fun k => k.1 = senderKey a src m && k.2.1 = m.mseq) = some k) :
    execReport s = .next (v.sendMgmt (.node src) k.2.2) := by
  rw [execReport_request first taken request, if_neg (not_not_intro primary), kept]

variable (new : v.fm.kept.find? (fun k => k.1 = senderKey a src m && k.2.1 = m.mseq) = none)
include new

theorem execReport_acts (whole : m.body.length = 12) : execReport s = .next (((v.respond a src m 0 []).onReport src m.body).goOn) := by
  rw [execReport_request first taken request, if_neg (not_not_intro primary), new]
  exact congrArg _ (if_neg (not_not_intro whole))

theorem execReport_malformed (bad : m.body.length ≠ 12) : execReport s = .next (v.respond a src m 4 []) := by
  rw [execReport_request first taken request, if_neg (not_not_intro primary), new]
  exact congrArg _ (if_pos bad)

end Primary
end Report

/-- Settles O40: a message of a type is served by `State.message_request` and `State.message_response`, FAB's ring, repetitions and reports
by their commands' equations. -/
theorem managementMessagesAreServed : Obligations.ManagementMessagesAreServed := by
  refine ⟨fun r row => ?rows, fun s => ⟨rfl, rfl, s.readValue_holdOpen, s.agentHold_ctrl, s.agentResume_ctrl, fun i => s.agentResume_map,
    fun m not => if_pos not, fun b => s.setBank_bank⟩, ?commands⟩
  case rows =>
    have served : ∀ s, exec r.1 s = s.message r.2.1 r.2.2.1 r.2.2.2 (decide (r.1 = .query true)) ∧ r.2.1 ≠ 0x40 := by
      simp only [List.mem_cons, List.not_mem_nil, or_false] at row
      rcases row with rfl | rfl | rfl | rfl | rfl | rfl | rfl | rfl | rfl | rfl | rfl | rfl | rfl | rfl | rfl | rfl <;>
        exact fun s => ⟨rfl, by decide⟩
    rintro s _ rfl
    obtain ⟨runs, type⟩ := served s
    rw [runs]
    refine ⟨State.message_none, ?_⟩
    rintro a src m _ first rfl
    refine ⟨fun request => ?_, fun response => ?_⟩
    · rw [State.message_request first request]
      exact ⟨fun k kept => congrArg _ (State.agentTakes_kept (s := s.silent) first request rfl kept), fun new =>
        ⟨fun stale => congrArg _ (State.agentTakes_stale (s := s.silent) first request rfl new stale),
          fun current bad => congrArg _ (State.agentTakes_malformed (s := s.silent) first request rfl new current bad),
          fun current good w heard => congrArg _ (State.agentTakes_acts (s := s.silent) first request rfl new current good heard)⟩⟩
    · rw [State.message_response first response]
      exact ⟨fun stray => congrArg _ (State.takeResponse_stray (s := s.silent) first response rfl type stray),
        fun q asked => congrArg _ (State.takeResponse_answers (s := s.silent) first response rfl type asked)⟩
  case commands =>
    rintro s _ rfl
    refine ⟨execMgmt_empty, ?_, ?ring, fun q => ⟨execMgmtRetransmit_none, fun r waits => ?again⟩, execReport_none, ?report, rfl⟩
    · intro off
      cases front : s.router.ring with
      | nil => exact execMgmt_empty front
      | cons e rest => exact execMgmt_off front off
    case ring =>
      intro e rest v front on taken
      have takes := execMgmt_front front on taken
      refine ⟨fun other => takes.trans (congrArg _ (if_pos other)), fun mgmt part => ?_, fun mgmt whole => ?_⟩
      · exact takes.trans (congrArg _ ((if_neg (not_not_intro mgmt)).trans (if_pos (by rw [part]; rfl))))
      · have kept := takes.trans (congrArg _ ((if_neg (not_not_intro mgmt)).trans (if_neg (by simp [whole]))))
        refine ⟨fun own => ?_, fun p m on => ?_⟩
        · rw [own] at kept
          exact kept
        · rw [on] at kept
          exact kept
    case again =>
      have sends := execMgmtRetransmit_some waits
      exact ⟨fun few => sends.trans (congrArg _ (if_pos few)), fun eight => sends.trans (congrArg _ (if_neg (Nat.not_lt.2 eight)))⟩
    case report =>
      intro a src m v first taken
      subst taken
      exact ⟨execReport_acknowledged first rfl, fun request => execReport_notPrimary first rfl request, fun request primary =>
        ⟨fun k => execReport_repeated first rfl request primary, fun new =>
          ⟨execReport_acts first rfl request primary new, execReport_malformed first rfl request primary new⟩⟩⟩

end Sys2Proof.Machine

/-!
Commands of functions: how a started command of an opcode is found and carried out.
-/
namespace Sys2Proof.Machine

/-! ### The started command of an opcode (R503, R505, R576) -/

section Started
variable {s : State} {h f op : Nat} {g : State → HostCmd → Nat → State} {ok : HostCmd → Bool}

/-- With no started command of the opcode nothing is carried out. -/
theorem State.withCmd_none (nothing : s.silent.startedCmd h f op ok = none) : s.withCmd h f op g ok = s.silent := by
  unfold State.withCmd
  dsimp only
  rw [show ({ s with answer := .none } : State).startedCmd h f op ok = none from nothing]
  rfl

variable {c : HostCmd} (started : s.silent.startedCmd h f op ok = some c)
include started

/-- How a started command goes on: PF0's at once, a virtual function's with its partition while the map can be used. -/
theorem State.withCmd_some : s.withCmd h f op g ok = if f = 0 then g s.silent c 0 else
    match s.silent.fnPart h f with
    | some p => if s.silent.mapOk then g s.silent c p else s.silent
    | none => s.silent := by
  unfold State.withCmd
  dsimp only
  rw [show ({ s with answer := .none } : State).startedCmd h f op ok = some c from started]
  rfl

theorem State.withCmd_pf0 (pf0 : f = 0) : s.withCmd h f op g ok = g s.silent c 0 :=
  (State.withCmd_some started).trans (if_pos pf0)

theorem State.withCmd_vf {p : Nat} (vf : f ≠ 0) (part : s.silent.fnPart h f = some p) (map : s.silent.mapOk = true) :
    s.withCmd h f op g ok = g s.silent c p := by
  rw [State.withCmd_some started, if_neg vf, part]
  exact if_pos map

/-- A virtual function's command waits without a partition, or while the map cannot be used. -/
theorem State.withCmd_waits (vf : f ≠ 0) (waits : s.silent.fnPart h f = none ∨ s.silent.mapOk = false) : s.withCmd h f op g ok = s.silent := by
  rw [State.withCmd_some started, if_neg vf]
  cases part : s.silent.fnPart h f with
  | none => rfl
  | some p => exact if_neg (ne_true_of_eq_false (waits.resolve_left (by simp [part])))

end Started

end Sys2Proof.Machine

/-!
The manager: elections, takeovers, the timers of a swap, image messages and jobs.
-/
namespace Sys2Proof.Machine

/-! ### The election and the standby (R466, R467) -/

section Election
variable {s v : State}

theorem execElectionStable_off (off : s.domOn 24 = false) : execElectionStable s = .next s.silent :=
  congrArg Host.Outcome.next (if_pos (by rw [State.answer_domOn, off]; rfl))

section On
variable (on : s.domOn 24 = true) (stable : s.silent.wrB Reg.hubFmStatus 2 true = v)
include on stable

/-- What ELECTION_STABLE goes by: the best candidate of all, and the role. -/
theorem execElectionStable_on : execElectionStable s =
    .next (if (match s.fm.best with | some c => c.port == 16 | none => false) = true ∧ s.role ≠ 3 then v.becomePrimary 0xB01 else v) := by
  have role : v.role = s.role := by
    subst stable
    exact State.rdF_wrB_field _ _ _ _ _ _ (by decide)
  have best : v.fm.best = s.fm.best := by
    subst stable
    rfl
  rw [← role, ← best]
  subst stable
  exact congrArg Host.Outcome.next (if_neg (by rw [State.answer_domOn, on]; decide))

theorem execElectionStable_self {c : FmCand} (best : s.fm.best = some c) (own : c.port = 16) (role : s.role ≠ 3) :
    execElectionStable s = .next (v.becomePrimary 0xB01) := by
  rw [execElectionStable_on on stable, best]
  exact congrArg _ (if_pos ⟨beq_iff_eq.2 own, role⟩)

theorem execElectionStable_other (other : s.fm.best = none ∨ (∃ c, s.fm.best = some c ∧ c.port ≠ 16) ∨ s.role = 3) :
    execElectionStable s = .next v := by
  rw [execElectionStable_on on stable]
  refine congrArg _ (if_neg ?_)
  rintro ⟨own, role⟩
  obtain none | ⟨c, best, port⟩ | primary := other
  · rw [none] at own
    exact Bool.false_ne_true own
  · rw [best] at own
    exact port (beq_iff_eq.1 own)
  · exact role primary

end On

theorem execElect_none (nothing : s.fm.inbox.find? (fun e => e.2.2.type = 1 && !natBit e.2.2.flags 0) = none) :
    execElect s = .next s.silent := by
  unfold execElect
  dsimp only
  rw [State.takeNotice_none (s := ({ s with answer := .none } : State)) nothing]
  rfl

theorem execBeat_none (nothing : s.fm.inbox.find? (fun e => e.2.2.type = 2 && !natBit e.2.2.flags 0) = none) :
    execBeat s = .next s.silent := by
  unfold execBeat
  dsimp only
  rw [State.takeNotice_none (s := ({ s with answer := .none } : State)) nothing]
  rfl

/-- ELECT adds the candidates that it names in place of those of its port, and the term is seen. -/
theorem execElect_some {e : Nat × Nat × Mgmt} {l : List FmCand}
    (first : s.fm.inbox.find? (fun e => e.2.2.type = 1 && !natBit e.2.2.flags 0) = some e)
    (heard : (s.silent.updFm (fun f => { f with inbox := f.inbox.erase e })).seeTerm (bodyNat e.2.2.body 29 8) = v)
    (named : electCands e.1 e.2.2.body v.fuses.serial = l) : execElect s = .next ((v.updFm (fun f => { f with
      cands := f.cands.filter (fun c => !(c.port == e.1 && l.any (fun x => x.serial == c.serial))) ++ l })).electNow) := by
  subst heard named
  unfold execElect
  dsimp only
  rw [State.takeNotice_some (s := ({ s with answer := .none } : State)) first]
  rfl

/-- An operation made only when a number is another one. -/
theorem State.cond_bne (s : State) (n k : Nat) (f : State → State) : s.cond (n != k) f = if n = k then s else f s := by
  by_cases same : n = k <;> simp [State.cond, same]

section Beat
variable {e : Nat × Nat × Mgmt} (first : s.fm.inbox.find? (fun e => e.2.2.type = 2 && !natBit e.2.2.flags 0) = some e)
  (taken : s.silent.updFm (fun f => { f with inbox := f.inbox.erase e }) = v)
include first taken

/-- BEAT of a lower term is dropped. -/
theorem execBeat_stale (stale : bodyNat e.2.2.body 0 8 < v.fmTerm) : execBeat s = .next v := by
  subst taken
  unfold execBeat
  dsimp only
  rw [State.takeNotice_some (s := ({ s with answer := .none } : State)) first]
  exact congrArg Host.Outcome.next (if_pos stale)

/-- Any other BEAT tells the primary, and which changes have been answered. -/
theorem execBeat_current {w : State} (current : v.fmTerm ≤ bodyNat e.2.2.body 0 8)
    (heard : (v.seeTerm (bodyNat e.2.2.body 0 8)).setPrimary e.2.1 = w) : execBeat s =
    .next ((if w.role = 3 then w else w.setRole 2).updFm
      (fun f => { f with answered := bodyNat e.2.2.body 8 4, log := f.log.filter (fun x => bodyNat e.2.2.body 8 4 < x.1) })) := by
  rw [show (if w.role = 3 then w else w.setRole 2) = _ from (State.cond_bne w w.role 3 (·.setRole 2)).symm]
  subst heard taken
  unfold execBeat
  dsimp only
  rw [State.takeNotice_some (s := ({ s with answer := .none } : State)) first]
  exact congrArg Host.Outcome.next (if_neg (Nat.not_lt.2 current))

end Beat

end Election

/-! ### The timers of a swap (R477, R479) -/

section Swap
variable {s : State}

theorem swapTimers_none (none : s.fm.swap = none ∨ s.role ≠ 3) :
    execDrainSettle s = .next s.silent ∧ execDrainOverrun s = .next s.silent ∧ execSwapRetry s = .next s.silent := by
  cases swap : s.fm.swap with
  | none =>
    simp only [execDrainSettle, execDrainOverrun, execSwapRetry, swap]
    exact ⟨rfl, rfl, rfl⟩
  | some w =>
    have role : ¬ s.role = 3 := none.resolve_left (by simp [swap])
    simp only [execDrainSettle, execDrainOverrun, execSwapRetry, swap, State.answer_role, role, false_and, if_false]
    exact ⟨rfl, rfl, rfl⟩

section Some
variable {w : FmSwap} (swap : s.fm.swap = some w) (primary : s.role = 3)
include swap primary

theorem execDrainSettle_some : execDrainSettle s = .next (if w.step = 4 then (s.silent.updFm (fun f => { f with
    swap := some { w with step := 5, batches := [s.toAll none 0x25 (leBytes 4 w.number ++ leBytes 1 w.bank)] } })).goOn else s.silent) := by
  simp only [execDrainSettle, swap, State.answer_role, primary, true_and, State.updSwap, State.updFm, Option.map_some]
  rfl

theorem execDrainOverrun_some : execDrainOverrun s = .next (if w.step = 3 then s.silent.abortSwap.goOn else s.silent) := by
  simp only [execDrainOverrun, swap, State.answer_role, primary, true_and]
  rfl

theorem execSwapRetry_some : execSwapRetry s = .next (if w.step = 7 then (s.silent.updFm (fun f => { f with
    swap := some { w with step := 1, aborting := false, open_ := false, batches := w.plan.messages.map (fun m => s.toAll none m.1 m.2) } })).goOn
    else s.silent) := by
  simp only [execSwapRetry, swap, State.answer_role, primary, true_and, State.updSwap, State.updFm, Option.map_some]
  rfl

end Some
end Swap

/-! ### Jobs (R481, R482, R511) -/

section Jobs
variable {s : State} {h : Fin 2} {host : HostData} {c : HostCmd}

section Carve
variable (started : s.silent.startedCmd h 0 0x41 (fun _ => true) = some c)
include started

theorem execJobCarve_unread (unread : (host.ok && host.data.length == c.par 16 4) = false) :
    execJobCarve h host s = .next ((s.silent.hostFailed h 0 host.reason (c.par 8 8)).finish h 0 c 0xF) :=
  congrArg Host.Outcome.next ((State.withCmd_pf0 started rfl).trans (if_pos (by rw [unread]; rfl)))

variable (read : (host.ok && host.data.length == c.par 16 4) = true)
include read

theorem execJobCarve_malformed (malformed : jobBlockGood host.data = false) : execJobCarve h host s = .next (s.silent.finish h 0 c 1) :=
  congrArg Host.Outcome.next ((State.withCmd_pf0 started rfl).trans ((if_neg (by rw [read]; decide)).trans (if_pos (by rw [malformed]; rfl))))

variable (good : jobBlockGood host.data = true)
include good

/-- A block that has been read and is well formed is planned by the primary, or refused. -/
theorem execJobCarve_good : execJobCarve h host s = .next (if s.role ≠ 3 then (s.silent.event 0xB08).finish h 0 c 0x11 else
    match s.fm.master, s.silent.planCarve host.data with
    | some pl, some j =>
      let v := s.silent.updFm (fun f => { f with jobs := f.jobs ++ [j] })
      ((v.updFm (fun f => { f with todo := f.todo ++ (v.domainStage pl j true :: (v.circuitStages pl j.tag j.circuits j.circuits false ++
        [v.groupStage pl j false, .carved h c.entry j.tag])) })).setStage h 0 c .running).goOn
    | _, _ => (s.silent.event 0xB08).finish h 0 c 0x11) :=
  congrArg Host.Outcome.next ((State.withCmd_pf0 started rfl).trans ((if_neg (by rw [read]; decide)).trans (if_neg (by rw [good]; decide))))

theorem execJobCarve_refused (refuses : s.role ≠ 3 ∨ s.fm.master = none ∨ s.silent.planCarve host.data = none) :
    execJobCarve h host s = .next ((s.silent.event 0xB08).finish h 0 c 0x11) := by
  rw [execJobCarve_good started read good]
  by_cases role : s.role = 3
  · rw [if_neg (not_not_intro role)]
    obtain none | none := refuses.resolve_left (not_not_intro role)
    · rw [none]
    · rw [none]
      cases s.fm.master <;> rfl
  · rw [if_pos role]

theorem execJobCarve_begins (primary : s.role = 3) {pl : RoutePlan} {j : FmJob} {v : State} (master : s.fm.master = some pl)
    (plan : s.silent.planCarve host.data = some j) (added : s.silent.updFm (fun f => { f with jobs := f.jobs ++ [j] }) = v) :
    execJobCarve h host s = .next (((v.updFm (fun f => { f with todo := f.todo ++ (v.domainStage pl j true ::
      (v.circuitStages pl j.tag j.circuits j.circuits false ++ [v.groupStage pl j false, .carved h c.entry j.tag])) })).setStage h 0 c .running).goOn) := by
  subst added
  rw [execJobCarve_good started read good, if_neg (not_not_intro primary), master, plan]

end Carve

section Release
variable (started : s.silent.startedCmd h 0 0x42 (fun _ => true) = some c)
include started

/-- JOB_RELEASE of a job that the primary has takes it down. -/
theorem execJobRelease_started : execJobRelease h s = .next (match s.fm.master, s.fm.jobs.find? (fun j => j.tag = c.par 8 2) with
    | some pl, some j =>
      if s.role ≠ 3 then (s.silent.event 0xB08).finish h 0 c 0x11
      else ((s.silent.updFm (fun f => { f with todo := f.todo ++ (s.silent.teardown pl j ++ [.released h c.entry (c.par 8 2)]) })).setStage
        h 0 c .running).goOn
    | _, _ => (s.silent.event 0xB08).finish h 0 c 0x11) :=
  congrArg Host.Outcome.next (State.withCmd_pf0 started rfl)

theorem execJobRelease_refused (refuses : s.role ≠ 3 ∨ s.fm.master = none ∨ s.fm.jobs.find? (fun j => j.tag = c.par 8 2) = none) :
    execJobRelease h s = .next ((s.silent.event 0xB08).finish h 0 c 0x11) := by
  rw [execJobRelease_started started]
  cases master : s.fm.master with
  | none => rfl
  | some pl =>
    cases job : s.fm.jobs.find? (fun j => j.tag = c.par 8 2) with
    | none => rfl
    | some j => exact congrArg _ (if_pos (refuses.resolve_right (by simp [master, job])))

theorem execJobRelease_begins (primary : s.role = 3) {pl : RoutePlan} {j : FmJob} (master : s.fm.master = some pl)
    (job : s.fm.jobs.find? (fun j => j.tag = c.par 8 2) = some j) : execJobRelease h s =
    .next (((s.silent.updFm (fun f => { f with todo := f.todo ++ (s.silent.teardown pl j ++ [.released h c.entry (c.par 8 2)]) })).setStage
      h 0 c .running).goOn) := by
  rw [execJobRelease_started started, master, job]
  exact congrArg _ (if_neg (not_not_intro primary))

end Release
end Jobs

/-- Settles O41: each command by the equation for the case that its premise names; the image messages as any request (`State.message_request`). -/
theorem managersElectSwapAndCarve : Obligations.ManagersElectSwapAndCarve := by
  refine ⟨?manager, fun r row => ?images, ?jobs⟩
  case manager =>
    rintro s _ rfl
    refine ⟨rfl, fun x p => rfl, execElectionStable_off (s := s), fun on v stable =>
      ⟨fun c => execElectionStable_self on stable, execElectionStable_other on stable⟩,
      fun standby => congrArg Host.Outcome.next (if_pos standby), fun not => congrArg Host.Outcome.next (if_neg not), ?_,
      fun primary known => congrArg Host.Outcome.next (if_pos ⟨primary, known⟩),
      execElect_none, execBeat_none, fun e l v => execElect_some, ?beat, swapTimers_none, ?swap, fun t => rfl⟩
    · intro not
      refine congrArg Host.Outcome.next (if_neg ?_)
      rintro ⟨primary, known⟩
      exact not.elim (fun h => h primary) (fun h => Bool.false_ne_true (h.symm.trans known))
    case beat =>
      rintro e _ first rfl
      exact ⟨execBeat_stale first rfl, fun current w => execBeat_current first rfl current⟩
    case swap =>
      intro w swap primary
      rw [show exec .drainSettle s = _ from execDrainSettle_some swap primary, show exec .drainOverrun s = _ from execDrainOverrun_some swap primary,
        show exec .swapRetry s = _ from execSwapRetry_some swap primary]
      exact ⟨fun at4 => congrArg _ (if_pos at4), fun not => congrArg _ (if_neg not), fun at3 => congrArg _ (if_pos at3),
        fun not => congrArg _ (if_neg not), fun at7 => congrArg _ (if_pos at7), fun not => congrArg _ (if_neg not)⟩
  case images =>
    have served : ∀ s, exec r.1 s = s.message r.2.1 r.2.2.1 r.2.2.2 := by
      simp only [List.mem_cons, List.not_mem_nil, or_false] at row
      rcases row with rfl | rfl | rfl <;> exact fun s => rfl
    rintro s _ rfl
    rw [served s]
    refine ⟨State.message_none, ?_⟩
    rintro a src m _ w first request new current rfl
    rw [State.message_request first request]
    exact ⟨fun bad => congrArg _ (State.agentTakes_malformed (s := s.silent) first request rfl new current bad),
      fun good heard => congrArg _ (State.agentTakes_acts (s := s.silent) first request rfl new current good heard)⟩
  case jobs =>
    rintro s _ h host rfl
    exact ⟨fun nothing => congrArg _ (State.withCmd_none nothing), fun nothing => congrArg _ (State.withCmd_none nothing), fun c started =>
      ⟨execJobCarve_unread started, fun read => ⟨execJobCarve_malformed started read, execJobCarve_refused started read,
        fun good primary pl j v => execJobCarve_begins started read good primary⟩⟩, fun c started =>
      ⟨execJobRelease_refused started, fun primary pl j => execJobRelease_begins started primary⟩⟩

end Sys2Proof.Machine

/-!
What a host's writes, doorbells, beats and BAR4 accesses do.
-/
namespace Sys2Proof.Machine

/-! ### Registers written one after another -/

/-- The state with registers written, in order. -/
def State.wrAll (s : State) (l : List (Nat × W64)) : State := s.each l (fun s w => s.wr w.1 w.2)

/-- A register that a list does not name reads as before. -/
theorem State.rd_wrAll_of_not_mem {a : Nat} {l : List (Nat × W64)} (out : a ∉ l.map Prod.fst) (s : State) : (s.wrAll l).rd a = s.rd a := by
  unfold State.wrAll State.each
  induction l generalizing s with
  | nil => rfl
  | cons w l ih =>
    rw [List.map_cons, List.mem_cons, not_or] at out
    exact (ih out.2 _).trans (s.rd_wr_ne _ out.1)

/-- A register that a list names once reads as the list has it. -/
theorem State.rd_wrAll_of_mem {a : Nat} {v : W64} {l : List (Nat × W64)} (once : (l.map Prod.fst).Nodup) (mem : (a, v) ∈ l) (s : State) :
    (s.wrAll l).rd a = v := by
  induction l generalizing s with
  | nil => simp at mem
  | cons w l ih =>
    rw [List.map_cons, List.nodup_cons] at once
    obtain rfl | later := List.mem_cons.1 mem
    · exact (State.rd_wrAll_of_not_mem once.1 _).trans (s.rd_wr_same _ _)
    · exact ih once.2 later _

/-- What writing one register leaves, writing several leaves. -/
theorem State.wrAll_keeps {α : Type} (part : State → α) (keeps : ∀ s a v, part (s.wr a v) = part s) (s : State) (l : List (Nat × W64)) :
    part (s.wrAll l) = part s := State.each_keeps part (fun (s : State) (w : Nat × W64) => s.wr w.1 w.2) (fun s w => keeps s w.1 w.2) s l

/-! ### Captured writes (R491, R492, R494, R552) -/

section Capture
variable {s : State} {h : Fin 2} {f : Fin 5} {off : BitVec 16} {wide : Bool} {v : W64}

theorem execBar0Write_absent (absent : s.fnPresent h f = false) : execBar0Write h f off wide v s = .next s.silent :=
  congrArg Host.Outcome.next (if_pos (by rw [State.answer_fnPresent, absent]; rfl))

section Present
variable (present : s.fnPresent h f = true)
include present

theorem execBar0Write_malformed (malformed : bar0Ok f off.toNat wide = false) :
    execBar0Write h f off wide v s = .next (s.silent.hostError h f .bar0Write off.toNat) :=
  congrArg Host.Outcome.next ((if_neg (by rw [State.answer_fnPresent, present]; decide)).trans (if_pos (by rw [malformed]; rfl)))

variable (good : bar0Ok f off.toNat wide = true)
include good

theorem execBar0Write_overflow (full : 768 ≤ s.rdF (Reg.hifCapPend h f) 9 0) : execBar0Write h f off wide v s =
    .next (((s.silent.wrB (Reg.hifCapCtrl h) (8 + f) true).wrB (Reg.hifEmuStatus h f) 3 true).fnEvent 0x902 h f 0) :=
  congrArg Host.Outcome.next ((if_neg (by rw [State.answer_fnPresent, present]; decide)).trans
    ((if_neg (by rw [good]; decide)).trans (if_pos full)))

end Present

/-- The registers that take a captured write, and what they hold of it: the entry, the index as the function's last, the count of
unconsumed writes, and the next index. -/
def State.captureWords (s : State) (h f off : Nat) (wide : Bool) (v : W64) (i : Nat) : List (Nat × W64) :=
  [(capWord h i 0, BitVec.ofNat 64 (i + off * 2 ^ 32 + (f + 8 * b2n wide) * 2 ^ 48)), (capWord h i 1, if wide then v else v &&& fldMask 31 0),
    (Reg.hifFnLast h f, BitVec.ofNat 64 i), (Reg.hifEmuCapseq h f, BitVec.ofNat 64 i),
    (Reg.hifCapPend h f, setFld (s.rd (Reg.hifCapPend h f)) 9 0 (s.rdF (Reg.hifCapPend h f) 9 0 + 1)),
    (Reg.hifCapProd h, BitVec.ofNat 64 ((i + 1) % 2 ^ 32))]

/-- The registers of a captured write, and the function's status, are seven different ones. -/
theorem captureRegs_nodup (s : State) (h : Fin 2) (f : Fin 5) (off : Nat) (wide : Bool) (v : W64) (i : Nat) :
    (Reg.hifEmuStatus h f :: (s.captureWords h f off wide v i).map Prod.fst).Nodup := by
  have hf := f.isLt
  simp only [State.captureWords, List.map_cons, List.map_nil, List.nodup_cons, List.mem_cons, List.not_mem_nil, or_false, not_or, capWord,
    Reg.hifCapEntry, Reg.hifFnLast, Reg.hifEmuCapseq, Reg.hifCapPend, Reg.hifCapProd, Reg.hifEmuStatus, not_false_eq_true, List.nodup_nil, and_true]
  and_intros <;> omega

/-- A write whose go comes while the function is quiescing is noted (R521). -/
def goWritten (off : Nat) (wide : Bool) (v : W64) : Bool := (off == 0x44 && v.getLsbD 31) || (off == 0x40 && wide && v.getLsbD 63)

theorem goWritten_iff {off : BitVec 16} {wide : Bool} {v : W64} : goWritten off.toNat wide v = true ↔
    (off = 0x44 ∧ v.getLsbD 31 = true) ∨ (off = 0x40 ∧ wide = true ∧ v.getLsbD 63 = true) := by
  have offset : ∀ n : BitVec 16, off.toNat = n.toNat ↔ off = n := fun n => BitVec.toNat_inj
  simp only [goWritten, Bool.or_eq_true, Bool.and_eq_true, beq_iff_eq, and_assoc]
  rw [← offset 0x44, ← offset 0x40]
  rfl

/-- A well-formed write of a present function, with room, becomes the next capture entry. -/
theorem execBar0Write_captured (present : s.fnPresent h f = true) (good : bar0Ok f off.toNat wide = true)
    (room : s.rdF (Reg.hifCapPend h f) 9 0 < 768) : execBar0Write h f off wide v s =
    .next ((s.silent.wrAll (s.captureWords h f off.toNat wide v (s.rdF (Reg.hifCapProd h) 31 0))).cond
      (goWritten off.toNat wide v && s.fstate h f == 3) (fun s => s.setFstate h f 4)) := by
  generalize index : s.rdF (Reg.hifCapProd h) 31 0 = i
  have once := captureRegs_nodup s h f off.toNat wide v i
  have status : (s.silent.wrAll (s.captureWords h f off.toNat wide v i)).fstate h f = s.fstate h f :=
    State.rdF_congr (State.rd_wrAll_of_not_mem (List.nodup_cons.1 once).1 _) 2 0
  have pending : (s.silent.wrAll ((s.captureWords h f off.toNat wide v i).take 4)).rd (Reg.hifCapPend h f) = s.rd (Reg.hifCapPend h f) := by
    refine State.rd_wrAll_of_not_mem ?_ _
    simp only [State.captureWords, List.map_cons, List.nodup_cons, List.mem_cons, not_or] at once
    simp only [State.captureWords, List.take, List.map_cons, List.map_nil, List.mem_cons, List.not_mem_nil, or_false, not_or]
    obtain ⟨-, ⟨-, -, -, h0, -⟩, ⟨-, -, h1, -⟩, ⟨-, h2, -⟩, ⟨h3, -⟩, -⟩ := once
    exact ⟨Ne.symm h0, Ne.symm h1, Ne.symm h2, Ne.symm h3⟩
  rw [← status]
  have written : (s.silent.wrAll ((s.captureWords h f off.toNat wide v i).take 4)).wrF (Reg.hifCapPend h f) 9 0
      ((s.silent.wrAll ((s.captureWords h f off.toNat wide v i).take 4)).rdF (Reg.hifCapPend h f) 9 0 + 1) =
      s.silent.wrAll ((s.captureWords h f off.toNat wide v i).take 5) := by
    unfold State.wrF State.rdF
    rw [pending]
    rfl
  simp only [execBar0Write, State.answer_fnPresent, present, good, State.answer_rdF, Bool.not_true, Bool.false_eq_true, if_false,
    if_neg (Nat.not_le.2 room), index]
  exact congrArg (fun t : State => Host.Outcome.next ((t.wr (Reg.hifCapProd h) (BitVec.ofNat 64 ((i + 1) % 2 ^ 32))).cond
    (goWritten off.toNat wide v && (t.wr (Reg.hifCapProd h) (BitVec.ofNat 64 ((i + 1) % 2 ^ 32))).fstate h f == 3)
    (fun s => s.setFstate h f 4))) written

/-- A captured write: its entry, the books of its function, and the status of a function that a go finds quiescing; nothing else changes. -/
theorem execBar0Write_takes (present : s.fnPresent h f = true) (good : bar0Ok f off.toNat wide = true)
    (room : s.rdF (Reg.hifCapPend h f) 9 0 < 768) {i : Nat} (index : s.rdF (Reg.hifCapProd h) 31 0 = i) :
    ∃ t, execBar0Write h f off wide v s = .next t ∧
      t.rd (capWord h i 0) = BitVec.ofNat 64 (i + off.toNat * 2 ^ 32 + (f.val + 8 * (if wide then 1 else 0)) * 2 ^ 48) ∧
      t.rd (capWord h i 1) = (if wide then v else v &&& fldMask 31 0) ∧ t.rd (Reg.hifFnLast h f) = BitVec.ofNat 64 i ∧
      t.rd (Reg.hifEmuCapseq h f) = BitVec.ofNat 64 i ∧ t.rdF (Reg.hifCapPend h f) 9 0 = s.rdF (Reg.hifCapPend h f) 9 0 + 1 ∧
      t.rd (Reg.hifCapProd h) = BitVec.ofNat 64 ((i + 1) % 2 ^ 32) ∧
      (((off = 0x44 ∧ v.getLsbD 31 = true) ∨ (off = 0x40 ∧ wide = true ∧ v.getLsbD 63 = true)) → s.fstate h f = 3 → t.fstate h f = 4) ∧
      (¬ ((off = 0x44 ∧ v.getLsbD 31 = true) ∨ (off = 0x40 ∧ wide = true ∧ v.getLsbD 63 = true)) ∨ s.fstate h f ≠ 3 →
        t.rd (Reg.hifEmuStatus h f) = s.rd (Reg.hifEmuStatus h f)) ∧
      t.host = s.host ∧ t.mem = s.mem ∧ t.rcd = s.rcd ∧
      (∀ a, a ≠ capWord h i 0 → a ≠ capWord h i 1 → a ≠ Reg.hifFnLast h f → a ≠ Reg.hifEmuCapseq h f → a ≠ Reg.hifCapPend h f →
        a ≠ Reg.hifCapProd h → a ≠ Reg.hifEmuStatus h f → t.rd a = s.rd a) := by
  have once := captureRegs_nodup s h f off.toNat wide v i
  obtain ⟨status, once⟩ := List.nodup_cons.1 once
  have runs := execBar0Write_captured (v := v) present good room
  rw [index, ← goWritten_iff] at *
  generalize taken : s.silent.wrAll (s.captureWords h f off.toNat wide v i) = t at runs
  have kept : ∀ a, a ≠ Reg.hifEmuStatus h f →
      (t.cond (goWritten off.toNat wide v && s.fstate h f == 3) (fun s => s.setFstate h f 4)).rd a = t.rd a := by
    intro a other
    unfold State.cond
    split
    · exact State.rd_wrF_ne _ _ _ _ other
    · rfl
  have holds : ∀ w, w ∈ s.captureWords h f off.toNat wide v i →
      (t.cond (goWritten off.toNat wide v && s.fstate h f == 3) (fun s => s.setFstate h f 4)).rd w.1 = w.2 := by
    intro w mem
    have other : w.1 ≠ Reg.hifEmuStatus h f := fun same => status (same ▸ List.mem_map_of_mem mem)
    rw [kept _ other, ← taken]
    exact State.rd_wrAll_of_mem once mem _
  simp only [State.captureWords, List.forall_mem_cons, List.not_mem_nil, false_implies, implies_true, and_true] at holds
  obtain ⟨entry, value, last, seq, pend, prod⟩ := holds
  refine ⟨_, runs, ?_, value, last, seq, ?_, prod, ?_, ?_, ?_, ?_, ?_, ?_⟩
  · cases wide <;> exact entry
  · change fld _ 9 0 = _
    rw [pend, fld_setFld_same _ _ _ _ (by decide) (by decide)]
    generalize s.rdF (Reg.hifCapPend h f) 9 0 = n at room ⊢
    exact Nat.mod_eq_of_lt (by omega)
  · intro go quiescing
    rw [State.cond_true _ (by rw [go, quiescing]; rfl)]
    exact State.rdF_wrF_same _ _ _ _ _ (by decide) (by decide)
  · intro none
    have skip : (goWritten off.toNat wide v && s.fstate h f == 3) = false := by
      rw [Bool.and_eq_false_iff, beq_eq_false_iff_ne, ← Bool.not_eq_true]
      exact none
    unfold State.cond
    rw [skip, if_neg Bool.false_ne_true, ← taken]
    exact State.rd_wrAll_of_not_mem status _
  · subst taken
    exact (State.cond_keeps State.host (fun s => s.setFstate h f 4) (fun _ => rfl) _ _).trans (State.wrAll_keeps State.host (fun _ _ _ => rfl) s.silent _)
  · subst taken
    exact (State.cond_keeps State.mem (fun s => s.setFstate h f 4) (fun _ => rfl) _ _).trans (State.wrAll_keeps State.mem (fun _ _ _ => rfl) s.silent _)
  · subst taken
    exact (State.cond_keeps State.rcd (fun s => s.setFstate h f 4) (fun _ => rfl) _ _).trans (State.wrAll_keeps State.rcd (fun _ _ _ => rfl) s.silent _)
  · intro a ne0 ne1 neLast neSeq nePend neProd neStatus
    rw [kept a neStatus, ← taken]
    refine State.rd_wrAll_of_not_mem ?_ _
    simp only [State.captureWords, List.map_cons, List.map_nil, List.mem_cons, List.not_mem_nil, or_false, not_or]
    exact ⟨ne0, ne1, neLast, neSeq, nePend, neProd⟩

end Capture

/-! ### Captured writes consumed (R553, R554) -/

section Consume
variable {s : State} {h : Fin 2}

theorem execCaptureConsume_empty (empty : s.unconsumed h = []) : execCaptureConsume h s = .next s.silent := by
  unfold execCaptureConsume State.consumeOne
  rw [State.answer_unconsumed, empty]
  rfl

/-- What becomes of the oldest captured write, by its void flag and the state of its function. -/
def State.captureTaken (s : State) (h i off g : Nat) (wide void : Bool) (v : W64) : State :=
  if void then s
  else if s.fstate h g = 3 ∨ s.fstate h g = 4 then s.updFn h g (fun x => { x with parked := x.parked ++ [(i, off, wide, v)] })
  else (s.applyWrite h g off wide v).consumed h g i

theorem execCaptureConsume_oldest {i : Nat} {rest : List Nat} {off g : Nat} {wide void : Bool} {v : W64} (oldest : s.unconsumed h = i :: rest)
    (entry : s.capEntry h i = (off, g, wide, void, v)) : execCaptureConsume h s =
    .next (((s.silent.captureTaken h i off g wide void v).wr (Reg.hifCapCons h) (BitVec.ofNat 64 ((i + 1) % 2 ^ 32))).each (List.range 5)
      (fun s f => s.releaseBells h f)) := by
  unfold execCaptureConsume State.consumeOne
  rw [State.answer_unconsumed, oldest]
  dsimp only
  rw [State.answer_capEntry, entry]
  rfl

/-- HIF_CAP_CONS is the SCH's to write, and only up to the produced index. -/
theorem execHifCapConsWrite_served {ag : Agent} {v : W32} (served : s.csrPath ag (Reg.hifCapCons h) 4 = .served) :
    execHifCapConsWrite ag h v s = .next (if ag ≠ .sch ∨ sub32 (s.rdF (Reg.hifCapProd h) 31 0) (s.rdF (Reg.hifCapCons h) 31 0) <
      sub32 v.toNat (s.rdF (Reg.hifCapCons h) 31 0) then s.silent.refuseWrite ag else s.silent.passTo h v.toNat) := by
  unfold execHifCapConsWrite
  rw [State.csrAccess_served _ _ served]
  rfl

end Consume

/-! ### Doorbells and beats (R495, R515, R516) -/

section Bells
variable {s : State} {h : Fin 2} {f : Fin 5} {q : Fin 16} {head : Bool} {v : W32} {b : HeldBell}

theorem execDoorbell_discarded (discards : s.fnPresent h f = false ∨ (s.fstate h f = 2 ∧ s.rdF (Reg.hifCapPend h f) 9 0 = 0)) :
    execDoorbell h f q head v s = .next s.silent := by
  refine congrArg Host.Outcome.next (if_pos ?_)
  simpa [State.answer_fnPresent, State.answer_fstate, State.answer_rdF] using discards

variable (present : s.fnPresent h f = true) (takes : ¬ (s.fstate h f = 2 ∧ s.rdF (Reg.hifCapPend h f) 9 0 = 0))
  (named : b = { q := q.val, head := head, value := v.toNat, tag := s.rdF (Reg.hifFnLast h f) 31 0 })
include present takes named

/-- A doorbell takes effect at once when no captured write and no doorbell of its function waits, and is held otherwise. -/
theorem execDoorbell_taken : execDoorbell h f q head v s = .next (if s.rdF (Reg.hifCapPend h f) 9 0 = 0 ∧ (s.fn h f).bells = [] then
    s.silent.bell h f b else s.silent.updFn h f (fun x => { x with bells := x.bells ++ [b] })) := by
  subst named
  refine congrArg Host.Outcome.next (if_neg ?_)
  simpa [State.answer_fnPresent, State.answer_fstate, State.answer_rdF, present] using takes

end Bells

section Beats
variable {s u : State} {h : Fin 2} {f : Fin 5}

theorem execHeartbeat_absent (absent : s.fnPresent h f = false) : execHeartbeat h f s = .next s.silent :=
  congrArg Host.Outcome.next (if_pos (by rw [State.answer_fnPresent, absent]; rfl))

/-- A beat is counted, and starts the windows of a function that is ready (fstate 1). -/
theorem execHeartbeat_present (present : s.fnPresent h f = true) {n : Nat} (count : (s.rdF (Reg.hifHbCount h f) 31 0 + 1) % 2 ^ 32 = n)
    (counted : s.silent.wr (Reg.hifHbCount h f) (BitVec.ofNat 64 n) = u) : execHeartbeat h f s = .next (if s.fstate h f = 1 then
      (u.wrF (Reg.hifEmuHb h f) 18 16 0).updFn h f (fun x => if x.beating then x else { x with beating := true, beats := n }) else u) := by
  have status : u.fstate h f = s.fstate h f := by
    subst counted
    refine State.rdF_congr (s.silent.rd_wr_ne _ ?_) 2 0
    have hf := f.isLt
    unfold Reg.hifEmuStatus Reg.hifHbCount
    omega
  rw [← status]
  subst counted count
  exact congrArg Host.Outcome.next (if_neg (by rw [State.answer_fnPresent, present]; decide))

theorem execHeartbeatWindowEnd_idle (idle : (s.fn h f).beating = false ∨ s.domOn (hostDomain h) = false ∨ s.host.stopped = true) :
    execHeartbeatWindowEnd h f s = .next s.silent := by
  refine congrArg Host.Outcome.next (if_pos ?_)
  simpa [State.answer_fn, State.answer_domOn, or_assoc] using idle

/-- A window without a beat counts as missed, and the third orphans the function with cause 1 (R516). -/
theorem execHeartbeatWindowEnd_counts (beating : (s.fn h f).beating = true) (on : s.domOn (hostDomain h) = true)
    (runs : s.host.stopped = false) {n m : Nat} (count : s.rdF (Reg.hifHbCount h f) 31 0 = n)
    (missed : m = (if n = (s.fn h f).beats then min 7 (s.rdF (Reg.hifEmuHb h f) 18 16 + 1) else 0))
    (noted : (s.silent.wrF (Reg.hifEmuHb h f) 18 16 m).updFn h f (fun x => { x with beats := n }) = u) :
    execHeartbeatWindowEnd h f s = .next (u.cond (3 ≤ m) (fun s => s.orphanFn h f 1)) := by
  subst count missed noted
  refine congrArg Host.Outcome.next (if_neg ?_)
  simp [State.answer_fn, State.answer_domOn, beating, on, runs]

end Beats

/-- An operation that a condition keeps from being made. -/
theorem State.cond_of_not (s : State) {p : Prop} [Decidable p] (h : ¬ p) (f : State → State) : s.cond (decide p) f = s :=
  if_neg (by simpa using h)

/-! ### Queues and windows (R499, R500, R512) -/

section Queues
variable {s : State} {h : Fin 2} {f : Fin 5}

/-- A function that is absent, orphaned or limited takes no queue control and no window. -/
theorem queuesAndWindows_refused (refuses : s.fnPresent h f = false ∨ s.fstate h f = 2 ∨ s.fstate h f = 5) :
    (∀ q v, execQueueCreate h f q v s = .next s.silent ∧ execQueueDelete h f q v s = .next s.silent) ∧
      ∀ w v, execWindowSet h f w v s = .next s.silent := by
  have not : ¬ (s.fnPresent h f = true ∧ s.fstate h f ≠ 2 ∧ s.fstate h f ≠ 5) := by
    rintro ⟨present, orphaned, limited⟩
    obtain absent | two | five := refuses
    · exact Bool.false_ne_true (absent.symm.trans present)
    · exact orphaned two
    · exact limited five
  exact ⟨fun q v => ⟨congrArg Host.Outcome.next (if_neg fun all => not all.2), congrArg Host.Outcome.next (if_neg fun all => not all.2)⟩,
    fun w v => congrArg Host.Outcome.next (if_neg not)⟩

variable (takes : s.fnPresent h f = true ∧ s.fstate h f ≠ 2 ∧ s.fstate h f ≠ 5)
include takes

/-- Enable set creates a queue pair, enable clear deletes one. -/
theorem queueControl_taken (q : Fin 16) (v : W32) :
    (v.getLsbD 15 = true → execQueueCreate h f q v s = .next (s.silent.setQctrl h f q (v.setWidth 64)) ∧ execQueueDelete h f q v s = .next s.silent) ∧
    (v.getLsbD 15 = false → execQueueCreate h f q v s = .next s.silent ∧ execQueueDelete h f q v s = .next (s.silent.setQctrl h f q (v.setWidth 64))) := by
  refine ⟨fun enable => ⟨congrArg Host.Outcome.next (if_pos ⟨enable, takes⟩), congrArg Host.Outcome.next (if_neg ?_)⟩,
    fun enable => ⟨congrArg Host.Outcome.next (if_neg ?_), congrArg Host.Outcome.next (if_pos ⟨by rw [enable]; rfl, takes⟩)⟩⟩
  · rw [enable]
    exact fun all => Bool.false_ne_true all.1
  · rw [enable]
    exact fun all => Bool.false_ne_true all.1

theorem execWindowSet_taken (w : Fin 32) (v : W64) : execWindowSet h f w v s = .next (s.silent.setWindow h f w v) :=
  congrArg Host.Outcome.next (if_pos takes)

end Queues

section Bar4
variable {s u : State} {h : Fin 2} {f : Fin 5} {off : BitVec 36} {n : Nat} {data : Option (List Byte)} {ecc : List MemUpset}
  (shown : (s.upset ecc).silent = u)
include shown

theorem execBar4Access_absent (absent : u.fnPresent h f = false) : execBar4Access h f off n data ecc s = .next u := by
  subst shown
  refine congrArg Host.Outcome.next (if_pos ?_)
  change (!(s.upset ecc).silent.fnPresent h f) = true
  rw [absent]
  rfl

variable {w k b : Nat} {win : W64} (present : u.fnPresent h f = true) (window : off.toNat / 2 ^ 31 = w) (word : u.rd (Reg.hifEmuWin h f w) = win)
  (length : (match data with | some bs => bs.length | none => n) = k) (place : fld win 63 32 * 0x200000 + off.toNat % 2 ^ 31 = b)
include present window word length place

/-- An access of a present function goes through its window: it fails where the window is off or does not allow it. -/
theorem execBar4Access_present : execBar4Access h f off n data ecc s =
    .next (if u.rdF (Reg.hifEmuWinStat h f w) 1 0 ≠ 1 ∨ !(if data.isSome then bitOf win 27 else bitOf win 26) then u.bar4Fail h f data.isSome off.toNat
      else if fld win 25 24 = 1 then u.bar4Handle h f off.toNat (fld win 23 0) b k data else u.bar4Csr h off.toNat (Blk.hub + b) k data) := by
  subst shown window word length place
  refine congrArg Host.Outcome.next (if_neg ?_)
  change ¬ (!(s.upset ecc).silent.fnPresent h f) = true
  rw [present]
  decide

end Bar4

/-- Settles O42, command by command: a captured write by `execBar0Write_takes`, every other clause by the branch that its premise picks. -/
theorem hostAccessesTakeEffect : Obligations.HostAccessesTakeEffect := by
  rintro s _ h f rfl
  refine ⟨fun off wide v => ⟨execBar0Write_absent, execBar0Write_malformed, execBar0Write_overflow, fun present good room i =>
      execBar0Write_takes present good room⟩, execCaptureConsume_empty, ?consume, ?cons, ?doorbell, execHeartbeat_absent, ?heartbeat,
    execHeartbeatWindowEnd_idle, ?window, ?keep, queuesAndWindows_refused, ?queues, ?bar4⟩
  case consume =>
    intro i rest off g wide void v u oldest entry passed parked applied
    have taken : s.silent.captureTaken h i off g wide void v = u := by
      unfold State.captureTaken
      cases void
      · by_cases quiescing : s.fstate h g = 3 ∨ s.fstate h g = 4
        · exact (if_neg Bool.false_ne_true).trans ((if_pos quiescing).trans (parked rfl quiescing).symm)
        · exact (if_neg Bool.false_ne_true).trans ((if_neg quiescing).trans (applied rfl quiescing).symm)
      · exact (if_pos rfl).trans (passed rfl).symm
    rw [← taken]
    exact execCaptureConsume_oldest oldest entry
  case cons =>
    intro ag v
    refine ⟨fun silent => congrArg Host.Outcome.next (State.csrAccess_silent _ _ silent), fun served refuses => ?_, fun served sch upTo => ?_⟩
    · exact (execHifCapConsWrite_served served).trans (congrArg Host.Outcome.next (if_pos refuses))
    · refine (execHifCapConsWrite_served served).trans (congrArg Host.Outcome.next (if_neg ?_))
      exact not_or.2 ⟨not_not_intro sch, Nat.not_lt.2 upTo⟩
  case doorbell =>
    intro q head v b named
    refine ⟨execDoorbell_discarded, fun present takes => ⟨fun idle quiet => ?_, fun waits => ?_⟩⟩
    · exact (execDoorbell_taken present takes named).trans (congrArg Host.Outcome.next (if_pos ⟨idle, quiet⟩))
    · exact (execDoorbell_taken present takes named).trans (congrArg Host.Outcome.next (if_neg waits))
  case heartbeat =>
    intro present n u count counted
    have beats := execHeartbeat_present present count counted
    exact ⟨fun not => beats.trans (congrArg Host.Outcome.next (if_neg not)), fun ready => beats.trans (congrArg Host.Outcome.next (if_pos ready))⟩
  case window =>
    intro beating on runs n m u count missed noted
    have ends := execHeartbeatWindowEnd_counts beating on runs count missed noted
    exact ⟨fun few => ends.trans (congrArg Host.Outcome.next (State.cond_of_not _ (Nat.not_le.2 few) _)),
      fun third => ends.trans (congrArg Host.Outcome.next (State.cond_true _ (decide_eq_true third) _))⟩
  case keep =>
    rintro _ rfl
    refine ⟨fun ⟨orphan, keeps⟩ => congrArg Host.Outcome.next (if_pos ?_), fun not => congrArg Host.Outcome.next (if_neg ?_)⟩
    · exact Bool.and_eq_true_iff.2 ⟨orphan, bne_iff_ne.2 keeps⟩
    · exact fun both => not ⟨(Bool.and_eq_true_iff.1 both).1, bne_iff_ne.1 (Bool.and_eq_true_iff.1 both).2⟩
  case queues =>
    intro present orphaned limited
    exact ⟨queueControl_taken ⟨present, orphaned, limited⟩, execWindowSet_taken ⟨present, orphaned, limited⟩⟩
  case bar4 =>
    intro off n data ecc u w k b win shown window word length place
    refine ⟨execBar4Access_absent shown, fun present fails => ?_, fun present on allows => ?_⟩
    · refine (execBar4Access_present shown present window word length place).trans (congrArg Host.Outcome.next (if_pos ?_))
      exact fails.imp id (fun no => by rw [no]; rfl)
    · have goes := (execBar4Access_present shown present window word length place).trans (congrArg Host.Outcome.next (if_neg (by simp [on, allows])))
      exact ⟨fun handle => goes.trans (congrArg Host.Outcome.next (if_pos handle)), fun csr => goes.trans (congrArg Host.Outcome.next (if_neg csr))⟩

end Sys2Proof.Machine

/-!
The commands of virtual functions: what each row of the command table does, and what completing a command changes.
-/
namespace Sys2Proof.Machine

/-! ### Commands carried out by opcode -/

section Rows
variable {i : Instr} {shown : State → State} {h f op : Nat} {effect : State → HostCmd → Nat → State}
  (runs : ∀ s, exec i s = .next ((shown s).withCmd h f op effect))
include runs

/-- A command that is carried out through its opcode does nothing without a started command, waits without a partition or a usable map,
and has the effect of its row otherwise. -/
theorem exec_of_withCmd (s : State) :
    ((shown s).silent.startedCmd h f op (fun _ => true) = none → exec i s = .next (shown s).silent) ∧
    (∀ c, (shown s).silent.startedCmd h f op (fun _ => true) = some c → f ≠ 0 →
      (∀ p, (shown s).silent.fnPart h f = some p → (shown s).silent.mapOk = true → exec i s = .next (effect (shown s).silent c p)) ∧
      (((shown s).silent.fnPart h f = none ∨ (shown s).silent.mapOk = false) → exec i s = .next (shown s).silent)) ∧
    (∀ c, (shown s).silent.startedCmd h f op (fun _ => true) = some c → f = 0 → exec i s = .next (effect (shown s).silent c 0)) :=
  ⟨fun nothing => (runs s).trans (congrArg Host.Outcome.next (State.withCmd_none nothing)),
    fun _ started vf => ⟨fun _ part map => (runs s).trans (congrArg Host.Outcome.next (State.withCmd_vf started vf part map)),
      fun waits => (runs s).trans (congrArg Host.Outcome.next (State.withCmd_waits started vf waits))⟩,
    fun _ started pf0 => (runs s).trans (congrArg Host.Outcome.next (State.withCmd_pf0 started pf0))⟩

end Rows

/-! ### The stage of one command -/

/-- One command of a list passed over while a command is given a new stage: the list so far, and whether the command has been met. -/
def stageOne (c : HostCmd) (st : CmdStage) (acc : List HostCmd × Bool) (d : HostCmd) : List HostCmd × Bool :=
  if !acc.2 && d == c then (acc.1 ++ [{ d with stage := st }], true) else (acc.1 ++ [d], acc.2)

/-- Commands that are passed over unchanged: those before the command, and all once it has been met. -/
theorem foldl_stageOne_passes {c : HostCmd} {st : CmdStage} {met : Bool} {l : List HostCmd} (passes : met = true ∨ c ∉ l) (done : List HostCmd) :
    l.foldl (stageOne c st) (done, met) = (done ++ l, met) := by
  induction l generalizing done with
  | nil => rw [List.append_nil, List.foldl_nil]
  | cons d l ih =>
    have skip : ¬ (!met && d == c) = true := by
      rintro both
      obtain ⟨unmet, same⟩ := Bool.and_eq_true_iff.1 both
      obtain rfl | out := passes
      · exact Bool.false_ne_true unmet
      · exact out (beq_iff_eq.1 same ▸ List.mem_cons_self)
    rw [List.foldl_cons, stageOne, if_neg skip, ih (passes.imp_right fun out mem => out (List.mem_cons_of_mem d mem)), List.append_assoc,
      List.singleton_append]

/-- A new stage changes the first command that is equal to the one named, and no other. -/
theorem foldl_stageOne {c : HostCmd} {st : CmdStage} {pre post : List HostCmd} (first : c ∉ pre) :
    ((pre ++ c :: post).foldl (stageOne c st) ([], false)).1 = pre ++ { c with stage := st } :: post := by
  rw [List.foldl_append, foldl_stageOne_passes (.inr first), List.foldl_cons, stageOne, if_pos (by simp), foldl_stageOne_passes (.inl rfl)]
  simp

/-- A changed function reads as changed. -/
theorem State.fn_updFn_same (s : State) (h f : Nat) (g : HostFn → HostFn) : (s.updFn h f g).fn h f = g (s.fn h f) := by
  unfold State.updFn State.fn
  exact Tbl.get_upd_same _ _ _

/-- A function other than the changed one reads as before. -/
theorem State.fn_updFn_ne (s : State) {h f k n : Nat} (other : fnKey k n ≠ fnKey h f) (g : HostFn → HostFn) : (s.updFn h f g).fn k n = s.fn k n := by
  unfold State.updFn State.fn
  exact Tbl.get_upd_ne _ _ other

theorem State.finish_cmds {s : State} {h f st : Nat} {r : W64} {c : HostCmd} {pre post : List HostCmd} (cmds : (s.fn h f).cmds = pre ++ c :: post)
    (first : c ∉ pre) : ((s.finish h f c st r).fn h f).cmds = pre ++ { c with stage := .done st r } :: post := by
  rw [← foldl_stageOne first, ← cmds, State.finish, State.setStage, State.fn_updFn_same]
  rfl

/-- Settles O44: every row is a command carried out by its opcode, and completing a command is one change of the function's command list. -/
theorem functionCommandsComplete : Obligations.FunctionCommandsComplete := by
  refine ⟨?_, fun s h f st r c pre post cmds first => ⟨State.finish_cmds cmds first, rfl, rfl, fun g other => State.fn_updFn_ne s other _⟩⟩
  rintro h f x base picks host ecc r row s _ rfl
  have runs : ∀ s, exec r.1 s = .next ((r.2.1 s).withCmd h f r.2.2.1 r.2.2.2) := by
    simp only [List.mem_cons, List.not_mem_nil, or_false] at row
    obtain rfl | rfl | rfl | rfl | rfl | rfl | rfl | rfl | rfl | rfl | rfl | rfl | rfl := row
    all_goals exact fun s => rfl
  exact exec_of_withCmd runs s

end Sys2Proof.Machine

/-!
The commands of PF0, the stops of partitions and the steps of an update.
-/
namespace Sys2Proof.Machine

/-! ### Commands of PF0 (R507, R561, R578) -/

section Owner
variable {i : Instr} {h op : Nat} {ok : HostCmd → Bool} {effect : State → HostCmd → State}

/-- A command of PF0 that is carried out through its opcode does nothing without a started command, and has its effect otherwise. -/
theorem exec_of_withCmd_pf0 (runs : ∀ s, exec i s = .next (s.withCmd h 0 op (fun s c _ => effect s c) ok)) (s : State) :
    (s.silent.startedCmd h 0 op ok = none → exec i s = .next s.silent) ∧
    (∀ c, s.silent.startedCmd h 0 op ok = some c → exec i s = .next (effect s.silent c)) :=
  ⟨fun nothing => (runs s).trans (congrArg Host.Outcome.next (State.withCmd_none nothing)),
    fun _ started => (runs s).trans (congrArg Host.Outcome.next (State.withCmd_pf0 started rfl))⟩

end Owner

/-- What CONFIG does with its item (R561). -/
def State.configure (s : State) (h : Nat) (c : HostCmd) : State :=
  if c.par 8 1 = 1 then
    if 1 < c.par 9 1 then s.finish h 0 c 1
    else
      (((({ s with config := s.config.store (fun r => { r with roleEn := c.par 9 1 == 1, prio := c.par 10 1 }) } : State).wrB Reg.hubFmCtrl 0
        (c.par 9 1 == 1)).wrF Reg.hubFmCtrl 15 8 (c.par 10 1)).finish h 0 c 0)
  else if c.par 8 1 = 2 then (({ s with config := s.config.store (fun r => { r with machine := BitVec.ofNat 64 (c.par 16 8) }) } : State).wr
    Reg.hubFmMachine (BitVec.ofNat 64 (c.par 16 8))).finish h 0 c 0
  else if c.par 8 1 = 3 then
    ({ s with config := s.config.store (fun r => { r with origin := BitVec.ofNat 64 (c.par 16 8) }), fm := { s.fm with origin := BitVec.ofNat 64 (c.par 16 8) } } :
      State).finish h 0 c 0
  else s.finish h 0 c 1

theorem execConfig_runs (h : Fin 2) (s : State) : execConfig h s = .next (s.withCmd h 0 0x47 (fun s c _ => s.configure h c)) := by
  unfold execConfig
  congr 2
  funext s c p
  unfold State.configure
  dsimp only
  generalize c.par 8 1 = item
  match item with
  | 0 => rfl
  | 1 => rfl
  | 2 => rfl
  | 3 => rfl
  | n + 4 => rfl

/-! ### Stops of partitions (R580, R619) -/

section Stops
variable {s : State} {h : Fin 2} {tests : List (Nat × Nat)}

theorem execPartitionRelease_none (nothing : s.silent.startedCmd h 0 0x40 (fun c => c.par 8 1 == 2) = none) :
    execPartitionRelease h tests s = .next (s.silent.continueStops false tests) :=
  congrArg Host.Outcome.next (if_pos (Option.isNone_iff_eq_none.2 nothing))

theorem execPartitionReset_none (nothing : s.silent.startedCmd h 0 0x40 (fun c => c.par 8 1 == 4) = none) :
    execPartitionReset h tests s = .next (s.silent.continueStops true tests) :=
  congrArg Host.Outcome.next (if_pos (Option.isNone_iff_eq_none.2 nothing))

variable {c : HostCmd}

theorem execPartitionRelease_some (started : s.silent.startedCmd h 0 0x40 (fun c => c.par 8 1 == 2) = some c) {p : Nat} (part : c.par 11 1 = p) :
    execPartitionRelease h tests s = .next (if 3 < p ∨ (!s.partExists p) = true ∨ (s.sec.stopping.get p).isSome = true then s.silent.finish h 0 c 6
      else (s.silent.setStage h 0 c .running).beginStop p false tests) := by
  subst part
  have some : ¬ (s.silent.startedCmd h 0 0x40 (fun c => c.par 8 1 == 2)).isNone = true := by rw [started]; exact Bool.false_ne_true
  exact congrArg Host.Outcome.next ((if_neg some).trans (State.withCmd_pf0 started rfl))

theorem execPartitionReset_some (started : s.silent.startedCmd h 0 0x40 (fun c => c.par 8 1 == 4) = some c) {p : Nat} (part : c.par 11 1 = p) :
    execPartitionReset h tests s = .next (if 3 < p ∨ (!s.partExists p) = true ∨ s.partState p ≠ 2 then s.silent.finish h 0 c 6
      else (s.silent.setStage h 0 c .running).beginStop p true tests) := by
  subst part
  have some : ¬ (s.silent.startedCmd h 0 0x40 (fun c => c.par 8 1 == 4)).isNone = true := by rw [started]; exact Bool.false_ne_true
  exact congrArg Host.Outcome.next ((if_neg some).trans (State.withCmd_pf0 started rfl))

/-- A partition that is not being stopped has no stop to end. -/
theorem State.endStop_none {p : Nat} (none : s.sec.stopping.get p = none) : s.endStop p tests = s := by
  unfold State.endStop
  rw [none]

end Stops

/-! ### The steps of an update (R562 to R568) -/

section Update
variable {s : State}

theorem execStagingVerified_idle (idle : s.updState ≠ 1) : execStagingVerified s = .next s.silent :=
  congrArg Host.Outcome.next (if_pos idle)

theorem execStagingVerified_checks (staging : s.updState = 1) {u : State} {ok : Bool} {v : Nat} (checked : s.silent.checkSlot (1 - s.activeSlot) = (u, ok))
    (version : bundleVersion (u.slotBytes (1 - s.activeSlot)) = v) :
    execStagingVerified s = .next (if ok then ((u.setUpd 2).wrF Reg.hubFwUpd 63 32 v).finishOp 0x44 0 (BitVec.ofNat 64 v)
      else ((u.setUpd 8).event 0x801).finishOp 0x44 0xB 0) := by
  subst version
  have bundle : u = (s.silent.checkSlot (1 - s.activeSlot)).1 := by rw [checked]
  have result : ok = (s.silent.checkSlot (1 - s.activeSlot)).2 := by rw [checked]
  subst bundle result
  exact congrArg Host.Outcome.next (if_neg (not_not_intro staging))

section Handover
variable {k : Fin 7} {payload : List Byte} {comes : Bool}

theorem execHandover_waits (waits : s.mayHandOver k = false ∨ 130944 < payload.length) : execHandover k payload comes s = .next s.silent := by
  refine congrArg Host.Outcome.next (if_pos ?_)
  change (!s.mayHandOver k || decide (130944 < payload.length)) = true
  rw [Bool.or_eq_true, Bool.not_eq_true', decide_eq_true_iff]
  exact waits

/-- A handover whose turn has come: the old image's record is kept, and the new image adopts it, waits to, or is rolled back. -/
theorem execHandover_turn (turn : s.mayHandOver k = true) (fits : payload.length ≤ 130944) {new : Nat} {e : BundleEntry} {r : List Byte} {u v w : State} {ok : Bool}
    (slot : new = (if k.val = 2 then s.activeSlot else 1 - s.activeSlot)) (entry : bundleOf (s.slotBytes new) k = e)
    (record : r = levainRecord (levainHead (bundleOf (s.slotBytes (1 - new)) k).fmt k (s.rdF (Reg.hubFwComp (k - 1)) 31 0) e.version payload.length
      s.fw.levainSeq (s.rdF (Reg.bbxInc k) 15 0)) payload)
    (shut : s.silent.setCompState k 3 = u)
    (checked : ({ u with fw := { u.fw with levain := r, levainBack := u.fw.levain, levainSeq := (u.fw.levainSeq + 1) % 2 ^ 32 } } : State).checkSlot new = (v, ok))
    (started : v.startCore k new = w) :
    execHandover k payload comes s = .next (if !ok then (v.event 0x801 (.component k) k).rollBack k true
      else if !comes then { w with fw := { w.fw with starting := some k.val } }
      else if levainAdopts r k e.version e.fmtMin e.fmtMax then w.adopted k else w.rollBack k true) := by
  have bundle := congrArg Prod.fst checked
  have result := congrArg Prod.snd checked
  dsimp only at bundle result
  subst started bundle result shut record entry slot
  refine congrArg Host.Outcome.next (if_neg ?_)
  change ¬ (!s.mayHandOver k || decide (130944 < payload.length)) = true
  rw [turn, decide_eq_false (Nat.not_lt.2 fits)]
  exact Bool.false_ne_true

end Handover

theorem execAdoptTimeout_none {starts : Bool} (none : s.fw.starting = none) : execAdoptTimeout starts s = .next s.silent := by
  unfold execAdoptTimeout
  dsimp only
  rw [none]
  rfl

theorem execAdoptTimeout_some {starts : Bool} {k : Nat} (some : s.fw.starting = some k) :
    execAdoptTimeout starts s = .next (s.silent.rollBack k starts) := by
  unfold execAdoptTimeout
  dsimp only
  rw [some]
  rfl

theorem execPmcHandoverStart_eq : execPmcHandoverStart s = .next (if s.updState = 5 ∧ (!s.emergencyNow) = true ∧ s.compState 2 ≠ 3 ∧ s.compState 2 ≠ 4
    then s.silent.setCompState 2 3 else s.silent) := rfl

end Update

/-- Settles O45: the commands of PF0 are rows carried out by their opcodes; stops and the update's steps follow by the branch taken. -/
theorem ownerCommandsTakeEffect : Obligations.OwnerCommandsTakeEffect := by
  refine ⟨?rows, ?stops, ?update⟩
  case rows =>
    rintro h host r row s _ rfl
    have runs : ∀ s, exec r.1 s = .next (s.withCmd h 0 r.2.1 (fun s c _ => r.2.2.2 s c) r.2.2.1) := by
      simp only [List.mem_cons, List.not_mem_nil, or_false] at row
      obtain rfl | rfl | rfl | rfl | rfl | rfl | rfl | rfl | rfl := row
      case inr.inr.inr.inr.inr.inr.inl => exact execConfig_runs h
      all_goals exact fun s => rfl
    exact exec_of_withCmd_pf0 runs s
  case stops =>
    rintro h tests s _ rfl
    refine ⟨execPartitionRelease_none, fun c p started part => ⟨fun refuses => ?_, fun small is idle => ?_⟩, execPartitionReset_none,
      fun c p started part => ⟨fun refuses => ?_, fun small is active => ?_⟩, fun p => rfl, fun p _ none => State.endStop_none none⟩
    · refine (execPartitionRelease_some started part).trans (congrArg Host.Outcome.next (if_pos ?_))
      rwa [Bool.not_eq_true']
    · refine (execPartitionRelease_some started part).trans (congrArg Host.Outcome.next (if_neg ?_))
      rw [is, idle]
      simpa using small
    · refine (execPartitionReset_some started part).trans (congrArg Host.Outcome.next (if_pos ?_))
      rwa [Bool.not_eq_true']
    · refine (execPartitionReset_some started part).trans (congrArg Host.Outcome.next (if_neg ?_))
      rw [is, active]
      simpa using small
  case update =>
    rintro s _ rfl
    refine ⟨execStagingVerified_idle, fun staging u ok v => execStagingVerified_checks staging, fun k payload comes => ⟨execHandover_waits,
      fun turn fits new e r u v w ok => execHandover_turn turn fits⟩, fun starts => ⟨execAdoptTimeout_none, fun k => execAdoptTimeout_some⟩, ?_, ?_⟩
    · intro waits calm notBegun notFailed
      refine execPmcHandoverStart_eq.trans (congrArg Host.Outcome.next (if_pos ⟨waits, ?_, notBegun, notFailed⟩))
      rw [calm]
      rfl
    · intro not
      refine execPmcHandoverStart_eq.trans (congrArg Host.Outcome.next (if_neg ?_))
      rintro ⟨waits, calm, notBegun, notFailed⟩
      rw [Bool.not_eq_true'] at calm
      obtain other | emergency | begun | failed := not
      · exact other waits
      · exact Bool.false_ne_true (calm.symm.trans emergency)
      · exact notBegun begun
      · exact notFailed failed

end Sys2Proof.Machine

/-!
Attestation, key slots and sealed loads.
-/
namespace Sys2Proof.Machine

/-! ### A sealed load begins (R595) -/

/-- An operation made only when a number is a given one. -/
theorem State.cond_beq (s : State) (n k : Nat) (f : State → State) : s.cond (n == k) f = if n = k then f s else s := by
  by_cases same : n = k <;> simp [State.cond, same]

/-- What SEAL_LOAD does with its parameters. -/
def State.beginLoad (s : State) (h f : Nat) (c : HostCmd) (p : Nat) : State :=
  if 3 < c.par 8 1 ∨ 1 < c.par 9 1 ∨ c.par 16 4 = 0 ∨ c.par 32 8 % 4096 ≠ 0 ∨ 2 ^ 20 ≤ c.par 20 4 then s.finish h f c 1
  else if s.slotState (4 * p + c.par 8 1) ≠ 1 ∨ (s.sec.loads.get (4 * p + c.par 8 1)).isSome then s.finish h f c 6
  else
    let u := ({ s with sec := { s.sec with loads := s.sec.loads.set (4 * p + c.par 8 1) (some { fn := fnKey h f, entry := c.entry, next := c.par 12 4 }) } } :
      State).updRouter (fun r => { r with
        sealData := r.sealData.filter (fun x => x.1 ≠ 4 * p + c.par 8 1)
        sealFailed := r.sealFailed.filter (· ≠ 4 * p + c.par 8 1) })
    (if c.par 9 1 = 1 then u.sealAsk c p (4 * p + c.par 8 1) (c.par 12 4) 0 4096 else u).setStage h f c .running

theorem execSealLoad_runs (h : Fin 2) (f : Fin 5) (bad : List Nat) (s : State) :
    execSealLoad h f bad s = .next ((s.mismatches bad).withCmd h f 0x4A (fun s c p => s.beginLoad h f c p)) := by
  unfold execSealLoad State.beginLoad
  simp only [State.cond_beq]

/-! ### The next chunk of a sealed load (R595, R596) -/

section Chunk
variable {s : State} {h : Fin 2} {f : Fin 5} {host : HostData}

theorem execSealChunkDone_idle (idle : (s.fn h f).cmds.find? (fun c => c.stage = .running ∧ c.op = 0x4A) = none ∨ s.fnPart h f = none) :
    execSealChunkDone h f host s = .next s.silent := by
  unfold execSealChunkDone
  dsimp only
  rw [State.answer_fn, State.answer_fnPart]
  obtain none | none := idle
  · rw [none]
    rfl
  · rw [none]
    split <;> trivial

variable {c : HostCmd} {p k : Nat} (running : (s.fn h f).cmds.find? (fun c => c.stage = .running ∧ c.op = 0x4A) = some c)
  (part : s.fnPart h f = some p) (slot : 4 * p + c.par 8 1 = k)
include running part slot

theorem execSealChunkDone_noLoad (none : s.sec.loads.get k = none) : execSealChunkDone h f host s = .next (s.silent.finish h f c 6) := by
  subst slot
  unfold execSealChunkDone
  dsimp only
  rw [State.answer_fn, State.answer_fnPart, running, part]
  dsimp only
  rw [none]
  rfl

/-- The bytes of a remote record that have come: the record fails, waits for more, asks for its ciphertext, or is complete. -/
def State.remoteChunk (s : State) (h f p k : Nat) (c : HostCmd) (next : Nat) : State :=
  if s.router.sealFailed.contains k then s.sealFail h f p k next 0x400000 c 1
  else match s.sealBytes k 4096 with
    | none => s
    | some hd =>
      if bodyNat hd 0 4 ≠ 0x4B5A5345 ∨ bodyNat hd 8 4 % 4096 ≠ 0 ∨ 0x400000 < bodyNat hd 8 4 then s.sealChunk h f p k next c hd
      else match s.sealBytes k (4096 + bodyNat hd 8 4) with
        | some b => s.sealChunk h f p k next c b
        | none =>
          if (s.send (sendKey (c.par 20 3 % 2 ^ 20) 1)).queue.any (fun j => decide (j.owner = .seal k)) ||
            (s.send (sendKey (c.par 20 3 % 2 ^ 20) 1)).txns.any (fun t => decide (t.job.owner = .seal k)) then s
          else s.sealAsk c p k next 4096 (bodyNat hd 8 4)

variable {l : SealLoad} (load : s.sec.loads.get k = some l)
include load

theorem execSealChunkDone_load : execSealChunkDone h f host s = .next (if l.fn ≠ fnKey h f ∨ l.entry ≠ c.entry then s.silent.finish h f c 6
    else if c.par 9 1 = 0 then
      if host.ok then s.silent.sealChunk h f p k l.next c host.data
      else (s.silent.hostFailed h f host.reason (c.par 32 8 + (l.next - c.par 12 4) * recordStride)).sealFail h f p k l.next 0x400000 c 0xF
    else s.silent.remoteChunk h f p k c l.next) := by
  subst slot
  unfold execSealChunkDone
  dsimp only
  rw [State.answer_fn, State.answer_fnPart, running, part]
  dsimp only
  rw [load]
  rfl

variable (fn : l.fn = fnKey h f) (entry : l.entry = c.entry)
include fn entry

/-- A load of the command's own goes on by its next chunk. -/
theorem execSealChunkDone_own : execSealChunkDone h f host s = .next (if c.par 9 1 = 0 then
      if host.ok then s.silent.sealChunk h f p k l.next c host.data
      else (s.silent.hostFailed h f host.reason (c.par 32 8 + (l.next - c.par 12 4) * recordStride)).sealFail h f p k l.next 0x400000 c 0xF
    else s.silent.remoteChunk h f p k c l.next) :=
  (execSealChunkDone_load running part slot load).trans (congrArg Host.Outcome.next (if_neg (not_or.2 ⟨not_not_intro fn, not_not_intro entry⟩)))

theorem execSealChunkDone_local (fromHost : c.par 9 1 = 0) :
    (host.ok = true → execSealChunkDone h f host s = .next (s.silent.sealChunk h f p k l.next c host.data)) ∧
    (host.ok = false → execSealChunkDone h f host s = .next
      ((s.silent.hostFailed h f host.reason (c.par 32 8 + (l.next - c.par 12 4) * recordStride)).sealFail h f p k l.next 0x400000 c 0xF)) := by
  have goes := (execSealChunkDone_own (host := host) running part slot load fn entry).trans (congrArg Host.Outcome.next (if_pos fromHost))
  exact ⟨fun good => goes.trans (congrArg Host.Outcome.next (if_pos good)),
    fun bad => goes.trans (congrArg Host.Outcome.next (if_neg (ne_true_of_eq_false bad)))⟩

theorem execSealChunkDone_remote (remote : c.par 9 1 ≠ 0) : execSealChunkDone h f host s = .next (s.silent.remoteChunk h f p k c l.next) :=
  (execSealChunkDone_own running part slot load fn entry).trans (congrArg Host.Outcome.next (if_neg remote))

end Chunk

section Remote
variable {s : State} {h f p k : Nat} {c : HostCmd} {next : Nat}

theorem State.remoteChunk_failed (failed : s.router.sealFailed.contains k = true) :
    s.remoteChunk h f p k c next = s.sealFail h f p k next 0x400000 c 1 := if_pos failed

variable (good : s.router.sealFailed.contains k = false)
include good

theorem State.remoteChunk_waits (short : s.sealBytes k 4096 = none) : s.remoteChunk h f p k c next = s := by
  unfold State.remoteChunk
  rw [if_neg (ne_true_of_eq_false good), short]

variable {hd : List Byte} (header : s.sealBytes k 4096 = some hd)
include header

theorem State.remoteChunk_badHeader (bad : bodyNat hd 0 4 ≠ 0x4B5A5345 ∨ bodyNat hd 8 4 % 4096 ≠ 0 ∨ 0x400000 < bodyNat hd 8 4) :
    s.remoteChunk h f p k c next = s.sealChunk h f p k next c hd := by
  unfold State.remoteChunk
  rw [if_neg (ne_true_of_eq_false good), header]
  exact if_pos bad

variable (magic : bodyNat hd 0 4 = 0x4B5A5345) (aligned : bodyNat hd 8 4 % 4096 = 0) (fits : bodyNat hd 8 4 ≤ 0x400000)
include magic aligned fits

theorem State.remoteChunk_complete {b : List Byte} (record : s.sealBytes k (4096 + bodyNat hd 8 4) = some b) :
    s.remoteChunk h f p k c next = s.sealChunk h f p k next c b := by
  unfold State.remoteChunk
  rw [if_neg (ne_true_of_eq_false good), header]
  dsimp only
  rw [if_neg (by omega), record]

theorem State.remoteChunk_asks (short : s.sealBytes k (4096 + bodyNat hd 8 4) = none) {asked : SendCtx} {busy : Bool}
    (context : s.send (sendKey (c.par 20 3 % 2 ^ 20) 1) = asked)
    (waits : (asked.queue.any (fun j => decide (j.owner = .seal k)) || asked.txns.any (fun t => decide (t.job.owner = .seal k))) = busy) :
    s.remoteChunk h f p k c next = if busy = true then s else s.sealAsk c p k next 4096 (bodyNat hd 8 4) := by
  subst context waits
  unfold State.remoteChunk
  rw [if_neg (ne_true_of_eq_false good), header]
  dsimp only
  rw [if_neg (by omega), short]

end Remote

/-- IDE_KEY_PROGRAM counts a key of a present PF0 and records it (R598). -/
theorem execIdeKeyProgram_eq (h : Fin 2) (st : Fin 6) (s : State) : execIdeKeyProgram h st s = .next (if s.fnPresent h 0 = true then
    ({ s.silent with sec := { s.silent.sec with ideKeys := s.silent.sec.ideKeys.upd (8 * h.val + st.val) (· + 1) } } : State).event 0x70C (.hostPort h) st
    else s.silent) := rfl

/-- Settles O47: the rows by their opcodes; SEAL_CHUNK_DONE by what the load has and what has come of its record. -/
theorem keysAndSealedWeightsTakeEffect : Obligations.KeysAndSealedWeightsTakeEffect := by
  refine ⟨?rows, ?chunk, ?ide⟩
  case rows =>
    rintro h f host bad row mem s _ rfl
    have runs : ∀ s, exec row.1 s = .next ((row.2.1 s).withCmd h f row.2.2.1 row.2.2.2) := by
      simp only [List.mem_cons, List.not_mem_nil, or_false] at mem
      obtain rfl | rfl | rfl | rfl := mem
      case inr.inr.inl => exact execSealLoad_runs h f bad
      all_goals exact fun s => rfl
    obtain ⟨nothing, vf, -⟩ := exec_of_withCmd runs s
    exact ⟨nothing, vf⟩
  case chunk =>
    rintro h f host s _ rfl
    refine ⟨execSealChunkDone_idle, fun c p k running part slot => ⟨execSealChunkDone_noLoad running part slot, fun l load other => ?other,
      fun l load fn entry => ?own⟩⟩
    case other => exact (execSealChunkDone_load running part slot load).trans (congrArg Host.Outcome.next (if_pos other))
    case own =>
      have runs : ∀ {t}, c.par 9 1 ≠ 0 → s.silent.remoteChunk h f p k c l.next = t → exec (.sealChunkDone h f host) s = .next t :=
        fun remote same => (execSealChunkDone_remote running part slot load fn entry remote).trans (congrArg Host.Outcome.next same)
      exact ⟨fun fromHost => (execSealChunkDone_local running part slot load fn entry fromHost).1,
        fun fromHost => (execSealChunkDone_local running part slot load fn entry fromHost).2,
        fun remote failed => runs remote (State.remoteChunk_failed (s := s.silent) failed),
        fun remote good short => runs remote (State.remoteChunk_waits (s := s.silent) good short),
        fun remote good hd header => ⟨fun bad => runs remote (State.remoteChunk_badHeader (s := s.silent) good header bad),
          fun magic aligned fits => ⟨fun b record => runs remote (State.remoteChunk_complete (s := s.silent) good header magic aligned fits record),
            fun short asked busy context waits => runs remote (State.remoteChunk_asks (s := s.silent) good header magic aligned fits short context waits)⟩⟩⟩
  case ide =>
    rintro h st s _ rfl
    exact ⟨fun absent => (execIdeKeyProgram_eq h st s).trans (congrArg Host.Outcome.next (if_neg (ne_true_of_eq_false absent))),
      fun present => (execIdeKeyProgram_eq h st s).trans (congrArg Host.Outcome.next (if_pos present))⟩

end Sys2Proof.Machine

/-!
Queues of functions, configuration, negotiation and resets.
-/
namespace Sys2Proof.Machine

/-- A changed host port reads as changed. -/
theorem State.hport_updHport_same (s : State) (h : Nat) (g : HostPort → HostPort) : (s.updHport h g).hport h = g (s.hport h) := by
  unfold State.updHport State.hport
  exact Tbl.get_upd_same _ _ _

/-! ### Submission (R502, R503, R505) -/

section Submission
variable {s u : State} {h : Fin 2} {f : Fin 5} {q : Fin 16} {host : HostData} {bad : Bool} {k : HostQueue} {i : Nat}
  (shown : (if bad then s.silent.mismatchAt Reg.secPartMap else s.silent) = u) (pair : u.queue h f q = k)
  (place : u.rdF (Reg.hifEmuQstat h f q) 31 16 = i)
include shown pair place

theorem execSubmissionFetch_eq : execSubmissionFetch h f q host bad s = .next (
    if !u.mayFetch h f || !k.live || k.error || i % (16 * 2 ^ k.sqLog) == k.tail % (16 * 2 ^ k.sqLog) then u
    else if !(host.ok && host.data.length == 64) then
      ((u.updQueue h f q (fun k => { k with error := true })).fnEvent 0x909 h f q).hostFailed h f host.reason (k.sqBase.toNat + 64 * i)
    else ((u.wrF (Reg.hifEmuQstat h f q) 31 16 ((i + 1) % (16 * 2 ^ k.sqLog))).updFn h f
      (fun x => { x with cmds := x.cmds ++ [{ q := q.val, entry := host.data }] })).startQueue h f q) := by
  subst shown pair place
  rfl

theorem execSubmissionFetch_idle (idle : u.mayFetch h f = false ∨ k.live = false ∨ k.error = true ∨ i % (16 * 2 ^ k.sqLog) = k.tail % (16 * 2 ^ k.sqLog)) :
    execSubmissionFetch h f q host bad s = .next u := by
  refine (execSubmissionFetch_eq shown pair place).trans (congrArg Host.Outcome.next (if_pos ?_))
  simpa [or_assoc] using idle

variable (may : u.mayFetch h f = true) (live : k.live = true) (good : k.error = false) (more : i % (16 * 2 ^ k.sqLog) ≠ k.tail % (16 * 2 ^ k.sqLog))
include may live good more

/-- A live queue with an entry to fetch takes it as the host answers, or stops. -/
theorem execSubmissionFetch_fetches : execSubmissionFetch h f q host bad s = .next (
    if !(host.ok && host.data.length == 64) then
      ((u.updQueue h f q (fun k => { k with error := true })).fnEvent 0x909 h f q).hostFailed h f host.reason (k.sqBase.toNat + 64 * i)
    else ((u.wrF (Reg.hifEmuQstat h f q) 31 16 ((i + 1) % (16 * 2 ^ k.sqLog))).updFn h f
      (fun x => { x with cmds := x.cmds ++ [{ q := q.val, entry := host.data }] })).startQueue h f q) := by
  refine (execSubmissionFetch_eq shown pair place).trans (congrArg Host.Outcome.next (if_neg ?_))
  simp [may, live, good, more]

end Submission

/-! ### Accesses of the host that time out (R514) -/

section Timeout
variable {s : State} {h : Fin 2} {f : Fin 5}

theorem execHostCompletionTimeout_noPart (none : s.fnPart h f = none) (t : BitVec 8) :
    execHostCompletionTimeout h f (some t) s = .next s.silent := by
  unfold execHostCompletionTimeout
  dsimp only
  rw [State.answer_fnPart, none]
  rfl

section Part
variable {p : Nat} (part : s.fnPart h f = some p) {t : BitVec 8}
include part

theorem execHostCompletionTimeout_noTransfer
    (none : (s.seq p).transfers.find? (fun x => decide (x.token = t.toNat) && (x.op == 6 || x.op == 7)) = none) :
    execHostCompletionTimeout h f (some t) s = .next s.silent := by
  unfold execHostCompletionTimeout
  dsimp only
  rw [State.answer_fnPart, part]
  dsimp only
  rw [State.answer_seq, none]
  rfl

theorem execHostCompletionTimeout_transfer {x : DmxTransfer}
    (some : (s.seq p).transfers.find? (fun x => decide (x.token = t.toNat) && (x.op == 6 || x.op == 7)) = some x) {far : Nat}
    (address : far = (match x.parts with | y :: _ => y.far | [] => 0)) : execHostCompletionTimeout h f (.some t) s =
    .next (((s.silent.updSeq p (fun y => { y with transfers := y.transfers.filter (fun w => w.token ≠ x.token) })).hostFailed h f 3 far).tokenPart
      p x.token false) := by
  subst address
  unfold execHostCompletionTimeout
  dsimp only
  rw [State.answer_fnPart, part]
  dsimp only
  rw [State.answer_seq, some]
  rfl

end Part

theorem execHostCompletionTimeout_noCommand
    (none : (s.fn h f).cmds.find? (fun c => c.stage = .started ∧ hostOps.any (fun o => o.1 = c.op)) = .none) :
    execHostCompletionTimeout h f .none s = .next s.silent := by
  unfold execHostCompletionTimeout
  dsimp only
  rw [State.answer_fn, none]
  rfl

theorem execHostCompletionTimeout_command {c : HostCmd}
    (some : (s.fn h f).cmds.find? (fun c => c.stage = .started ∧ hostOps.any (fun o => o.1 = c.op)) = .some c) :
    execHostCompletionTimeout h f .none s = .next
      ((s.silent.hostFailed h f 3 (c.par (((hostOps.find? (fun o => o.1 = c.op)).map Prod.snd).getD 8) 8)).finish h f c 0xF) := by
  unfold execHostCompletionTimeout
  dsimp only
  rw [State.answer_fn, some]
  rfl

end Timeout

/-! ### Configuration requests (R487, R488, R611) -/

/-- What a configuration request does on a function that answers it. -/
def State.configured (s : State) (h f : Nat) : CfgReq → State
  | .identity => { s with answer := .data (setFld (setFld (setFld 0 15 0 Config.vendorId.toNat) 31 16 (if f = 0 then 0x4810 else 0x4811)) 63 40 0x120000) }
  | .busMaster on => s.updHport h (fun p => { p with master := p.master.set f on })
  | .sriov en n =>
    if f ≠ 0 ∨ 4 < n then s
    else
      let u := s.updHport h (fun p => { p with vfEnable := en, numVfs := n })
      u.each ((List.range 5).filter (fun f => (u.fn h f).flrDue && u.fnPresent h f)) (fun s f =>
        (s.flr h f).updFn h f (fun x => { x with flrDue := false }))

section Config
variable {s : State} {h : Fin 2} {f : Fin 5} {r : CfgReq}

theorem execPcieConfigRequest_eq : execPcieConfigRequest h f r s = .next (if !s.domOn (hostDomain h) || !(s.hport h).up then s.silent
    else if !s.ready then { s with answer := .retry } else if f.val ≠ 0 ∧ (!s.fnPresent h f) = true then s.silent else s.silent.configured h f r) := by
  cases r <;> rfl

theorem execPcieConfigRequest_down (down : s.domOn (hostDomain h) = false ∨ (s.hport h).up = false) :
    execPcieConfigRequest h f r s = .next s.silent :=
  execPcieConfigRequest_eq.trans (congrArg Host.Outcome.next (if_pos (by simpa using down)))

variable (on : s.domOn (hostDomain h) = true) (up : (s.hport h).up = true)
include on up

theorem execPcieConfigRequest_up : execPcieConfigRequest h f r s = .next (if !s.ready then { s with answer := .retry }
    else if f.val ≠ 0 ∧ (!s.fnPresent h f) = true then s.silent else s.silent.configured h f r) :=
  execPcieConfigRequest_eq.trans (congrArg Host.Outcome.next (if_neg (by rw [on, up]; decide)))

theorem execPcieConfigRequest_retry (starting : s.ready = false) : execPcieConfigRequest h f r s = .next { s with answer := .retry } :=
  (execPcieConfigRequest_up on up).trans (congrArg Host.Outcome.next (if_pos (by rw [starting]; rfl)))

variable (ready : s.ready = true)
include ready

theorem execPcieConfigRequest_ready : execPcieConfigRequest h f r s = .next (if f.val ≠ 0 ∧ (!s.fnPresent h f) = true then s.silent
    else s.silent.configured h f r) :=
  (execPcieConfigRequest_up on up).trans (congrArg Host.Outcome.next (if_neg (by rw [ready]; decide)))

theorem execPcieConfigRequest_absent (vf : f ≠ 0) (absent : s.fnPresent h f = false) : execPcieConfigRequest h f r s = .next s.silent :=
  (execPcieConfigRequest_ready on up ready).trans (congrArg Host.Outcome.next (if_pos ⟨Fin.val_ne_of_ne vf, by rw [absent]; rfl⟩))

theorem execPcieConfigRequest_served (served : f = 0 ∨ s.fnPresent h f = true) :
    execPcieConfigRequest h f r s = .next (s.silent.configured h f r) := by
  refine (execPcieConfigRequest_ready on up ready).trans (congrArg Host.Outcome.next (if_neg ?_))
  rintro ⟨vf, absent⟩
  obtain rfl | present := served
  · exact vf rfl
  · rw [present] at absent
    exact Bool.false_ne_true absent

end Config

/-- The identity that a function answers: vendor, device and class (R488). -/
theorem identity_fields (vendor : BitVec 16) {device : Nat} (small : device < 2 ^ 16) {v : W64}
    (word : setFld (setFld (setFld 0 15 0 vendor.toNat) 31 16 device) 63 40 0x120000 = v) :
    fld v 15 0 = vendor.toNat ∧ fld v 31 16 = device ∧ fld v 63 40 = 0x120000 := by
  subst word
  refine ⟨?_, ?_, ?_⟩
  · rw [fld_setFld_ne _ _ _ _ _ _ (by decide) (by decide), fld_setFld_ne _ _ _ _ _ _ (by decide) (by decide),
      fld_setFld_same _ _ _ _ (by decide) (by decide)]
    exact Nat.mod_eq_of_lt vendor.isLt
  · rw [fld_setFld_ne _ _ _ _ _ _ (by decide) (by decide), fld_setFld_same _ _ _ _ (by decide) (by decide)]
    exact Nat.mod_eq_of_lt small
  · exact fld_setFld_same _ _ _ _ (by decide) (by decide)

/-! ### Negotiation (R523 to R525) -/

/-- A go waits that can be answered. -/
theorem execNegotiate_eq {s u : State} {h : Fin 2} {f : Fin 5} (settled : s.silent.settleCmds = u) : execNegotiate h f s = .next (
    if (u.fn h f).asked = true ∧ u.ready = true ∧ u.fnPresent h f = true ∧ u.fstate h f ≠ 3 ∧ u.fstate h f ≠ 4 then u.negotiate h f else u) := by
  subst settled
  refine congrArg Host.Outcome.next ?_
  dsimp only
  congr 1
  simp only [Bool.and_eq_true, bne_iff_ne, and_assoc]
  rfl

section Unsupported
variable {s : State} {h f : Nat}

/-- The answer to a go whose major version is not supported: nego 3, fstate 0 but for an orphaned function, and event 0x908. -/
theorem State.negotiate_unsupported (ready : s.ready = true) {u : State}
    (taken : (s.updFn h f (fun x => { x with asked := false })).wrB (Reg.hifEmuDrvver h f) 31 false = u)
    (unsupported : fld (u.rd (Reg.hifEmuDrvver h f)) 7 0 < fld (u.rd (Reg.hifEmuFwver h f)) 7 0 ∨
      fld (u.rd (Reg.hifEmuFwver h f)) 15 8 < fld (u.rd (Reg.hifEmuDrvver h f)) 7 0) :
    s.negotiate h f = ((u.wr (Reg.hifEmuNegstat h f) 3).cond (u.fstate h f != 2) (fun s => s.setFstate h f 0)).fnEvent 0x908 h f 1 := by
  subst taken
  unfold State.negotiate
  rw [if_neg (by rw [ready]; decide)]
  exact if_pos unsupported

variable {major : Nat} (ready : s.ready = true) (asks : fld (s.rd (Reg.hifEmuDrvver h f)) 7 0 = major)
  (unsupported : major < fld (s.rd (Reg.hifEmuFwver h f)) 7 0 ∨ fld (s.rd (Reg.hifEmuFwver h f)) 15 8 < major) (ours : s.fstate h f ≠ 2)
include ready asks unsupported ours

/-- After an unsupported major version: nego 3, fstate 0, and the go taken. -/
theorem State.negotiate_unsupported_registers : (s.negotiate h f).rd (Reg.hifEmuNegstat h f) = 3 ∧ (s.negotiate h f).fstate h f = 0 ∧
    (s.negotiate h f).rdB (Reg.hifEmuDrvver h f) 31 = false := by
  have status : Reg.hifEmuStatus h f ≠ Reg.hifEmuDrvver h f := by unfold Reg.hifEmuStatus Reg.hifEmuDrvver; omega
  have firmware : Reg.hifEmuFwver h f ≠ Reg.hifEmuDrvver h f := by unfold Reg.hifEmuFwver Reg.hifEmuDrvver; omega
  have answered : Reg.hifEmuNegstat h f ≠ Reg.hifEmuStatus h f := by unfold Reg.hifEmuNegstat Reg.hifEmuStatus; omega
  have driver : Reg.hifEmuDrvver h f ≠ Reg.hifEmuStatus h f := by unfold Reg.hifEmuDrvver Reg.hifEmuStatus; omega
  have separate : Reg.hifEmuDrvver h f ≠ Reg.hifEmuNegstat h f := by unfold Reg.hifEmuDrvver Reg.hifEmuNegstat; omega
  generalize cleared : s.updFn h f (fun x => { x with asked := false }) = t
  generalize taken : t.wrB (Reg.hifEmuDrvver h f) 31 false = u
  have same : ∀ a, t.rd a = s.rd a := by
    rw [← cleared]
    exact fun a => rfl
  have version : fld (u.rd (Reg.hifEmuDrvver h f)) 7 0 = major := by
    rw [← asks, ← taken]
    exact (State.rdF_wrB_field t (Reg.hifEmuDrvver h f) 31 7 0 false (by decide)).trans (State.rdF_congr (same _) 7 0)
  have held : u.fstate h f ≠ 2 := by
    rw [← taken]
    exact fun two => ours ((State.rdF_congr ((t.rd_wrB_ne 31 false status).trans (same _)) 2 0).symm.trans two)
  have image : u.rd (Reg.hifEmuFwver h f) = s.rd (Reg.hifEmuFwver h f) := by
    rw [← taken]
    exact (t.rd_wrB_ne 31 false firmware).trans (same _)
  have answer := State.negotiate_unsupported ready (cleared.symm ▸ taken) (by rw [version, image]; exact unsupported)
  rw [State.cond_true _ (bne_iff_ne.2 held)] at answer
  rw [answer]
  unfold State.fnEvent State.hostEvent State.fstate State.setFstate
  rw [State.rd_event, State.rdF_event, State.rdB_congr (State.rd_event _ _ _ _ _ _ _), State.rd_wrF_ne _ _ _ _ answered, State.rdF_wrF_same _ _ _ _ _ (by decide) (by decide),
    State.rdB_congr (State.rd_wrF_ne _ _ _ _ driver), State.rdB_congr (State.rd_wr_ne _ _ separate), ← taken]
  exact ⟨State.rd_wr_same _ _ _, rfl, State.rdB_wrB_same _ _ _ _ (by decide)⟩

end Unsupported

/-! ### Resets (R516, R520 to R522) -/

section Reset
variable {s : State} {h f : Nat}

/-- How the reset of a function ends: its queues and its bus mastering are gone, and it is disabled. -/
theorem State.fnReset_ends (s : State) (h f : Nat) : ∃ u : State, s.fnReset h f =
    (((u.updFn h f (fun x => { x with queues := [], asked := false, resetHeld := true, beating := false })).updHport h
      (fun p => { p with master := p.master.set f false })).setFstate h f 3).syncQerr h f := ⟨_, rfl⟩

theorem State.fnReset_disables (s : State) (h f : Nat) : (s.fnReset h f).fstate h f = 3 ∧ ((s.fnReset h f).hport h).master.get f = false := by
  obtain ⟨u, ends⟩ := s.fnReset_ends h f
  rw [ends]
  constructor
  · refine (State.rdF_wrB_field _ _ 4 2 0 _ (by decide)).trans ?_
    exact State.rdF_wrF_same _ _ _ _ _ (by decide) (by decide)
  · refine Eq.trans (congrArg (fun p : HostPort => p.master.get f) (State.hport_updHport_same _ _ _)) ?_
    exact Tbl.get_set_same _ _ _

theorem State.fnReset_queue (s : State) (h f q : Nat) : (s.fnReset h f).queue h f q = default := by
  obtain ⟨u, ends⟩ := s.fnReset_ends h f
  rw [ends]
  change ((u.updFn h f (fun x => { x with queues := [], asked := false, resetHeld := true, beating := false })).fn h f).queues.get q = default
  rw [State.fn_updFn_same]
  rfl

/-- A port whose link goes down ends with its port down and its virtual functions off. -/
theorem State.portLinkReset_down {kind : Nat} (down : kind ≠ 0) (s : State) (h : Nat) : ∃ u : State, s.portLinkReset h kind =
    u.updHport h (fun p => { p with up := false, vfEnable := false, numVfs := 0 }) := ⟨_, if_neg down⟩

theorem execPf0Flr_absent {s u : State} {h : Fin 2} (settled : s.silent.settleCmds = u) (absent : u.fnPresent h 0 = false) :
    execPf0Flr h s = .next u := by
  subst settled
  refine congrArg Host.Outcome.next (if_pos ?_)
  change (!s.silent.settleCmds.fnPresent h 0) = true
  rw [absent]
  rfl

theorem execPf0Flr_present {s u v : State} {h : Fin 2} (settled : s.silent.settleCmds = u) (present : u.fnPresent h 0 = true)
    (orphaned : u.each (((List.range 5).filter (fun f => u.fnPresent h f)).filter (· ≠ 0))
      (fun s f => (s.orphanFn h f 2).updFn h f (fun x => { x with flrDue := true })) = v) :
    execPf0Flr h s = .next ((((v.orphanFn h 0 2).fnEvent 0x906 h 0 0).fnReset h 0).updHport h (fun p => { p with vfEnable := false, numVfs := 0 })) := by
  subst settled orphaned
  refine congrArg Host.Outcome.next (if_neg ?_)
  change ¬ (!s.silent.settleCmds.fnPresent h 0) = true
  rw [present]
  exact Bool.false_ne_true

end Reset

/-- Settles O43, command by command: the branch that each premise picks, and what a reset and an unsupported version leave in the registers. -/
theorem queuesNegotiationAndResetsTakeEffect : Obligations.QueuesNegotiationAndResetsTakeEffect := by
  rintro s _ h rfl
  refine ⟨?submission, ?completion, ?config, ?served, ?negotiation, fun m => rfl, ?links, ?reset, ?unsupported⟩
  case submission =>
    intro f q host bad u k i shown pair place
    refine ⟨execSubmissionFetch_idle shown pair place, fun may live good more => ?_⟩
    have fetches := execSubmissionFetch_fetches (host := host) shown pair place may live good more
    refine ⟨fun ok whole => fetches.trans (congrArg Host.Outcome.next (if_neg ?_)), fun fails => fetches.trans (congrArg Host.Outcome.next (if_pos ?_))⟩
    · simp [ok, whole]
    · simpa [imp_iff_not_or] using fails
  case completion =>
    intro f
    exact ⟨fun q => rfl, by rintro _ rfl; rfl, execHostCompletionTimeout_noPart, fun p t part => ⟨execHostCompletionTimeout_noTransfer part,
      fun x some far => execHostCompletionTimeout_transfer part some⟩, execHostCompletionTimeout_noCommand, fun c => execHostCompletionTimeout_command⟩
  case config =>
    exact fun f r => ⟨execPcieConfigRequest_down, fun on up => ⟨execPcieConfigRequest_retry on up, execPcieConfigRequest_absent on up⟩⟩
  case served =>
    intro f on up ready serves
    have runs : ∀ r, exec (.pcieConfigRequest h f r) s = .next (s.silent.configured h f r) := fun r => execPcieConfigRequest_served on up ready serves
    refine ⟨⟨_, runs .identity, ?_⟩, fun on => runs (.busMaster on), fun en n refuses => ?_, fun en n pf0 few u changed => ?_⟩
    · have device : (if f = 0 then 0x4810 else 0x4811) = if f.val = 0 then 0x4810 else 0x4811 := by simp only [Fin.ext_iff]; rfl
      rw [device]
      exact identity_fields _ (by split <;> decide) rfl
    · refine (runs (.sriov en n)).trans (congrArg Host.Outcome.next (if_pos ?_))
      exact refuses.imp_left Fin.val_ne_of_ne
    · subst changed pf0
      exact (runs (.sriov en n)).trans (congrArg Host.Outcome.next (if_neg (not_or.2 ⟨not_not_intro rfl, Nat.not_lt.2 few⟩)))
  case negotiation =>
    intro f u settled
    refine ⟨fun not => (execNegotiate_eq settled).trans (congrArg Host.Outcome.next (if_neg not)),
      fun goes => (execNegotiate_eq settled).trans (congrArg Host.Outcome.next (if_pos goes)), ?_, ?_⟩ <;> subst settled
    · exact fun not => congrArg Host.Outcome.next (if_neg not)
    · exact fun quiet => congrArg Host.Outcome.next (if_pos quiet)
  case links =>
    intro u settled
    refine ⟨execPf0Flr_absent settled, fun present v => execPf0Flr_present settled present, by subst settled; rfl, fun k down => ?_⟩
    obtain ⟨v, ends⟩ := State.portLinkReset_down (Fin.val_ne_of_ne down) s.silent h
    refine ⟨_, congrArg Host.Outcome.next ends, ?_⟩
    rw [State.hport_updHport_same]
    exact ⟨rfl, rfl, rfl⟩
  case reset =>
    intro f _
    obtain ⟨status, master⟩ := s.fnReset_disables h f
    exact ⟨status, master, funext (s.fnReset_queue h f)⟩
  case unsupported =>
    exact fun f _ ready major asks => State.negotiate_unsupported_registers ready asks

end Sys2Proof.Machine

/-!
The flow, sync and page operations (R171 to R175): what a legal slot does that passes the stages of R197, what those stages do with a
wait, a COMMIT and an END, and the effect of each slot.
-/
namespace Sys2Proof.Machine

/-! ### A slot that goes through every stage (R197) -/

/-- Two changes of a sequencer that agree on it as it stands are the same. -/
theorem State.updSeq_congr {s : State} {q : Nat} {f g : Seq → Seq} (agree : f (s.seq q) = g (s.seq q)) : s.updSeq q f = s.updSeq q g := by
  have same : s.seqs.upd q f = s.seqs.upd q g := congrArg (s.seqs.set q) agree
  rw [State.updSeq, State.updSeq, same]

/-- A legal slot that waits for nothing, ends nothing, takes no pending token and controls no order has its effect. -/
theorem State.slotCommand_effect {s : State} {q : Nat} {sl : Slot} (run : s.running q = true)
    (legal : s.slotOk q (s.pcOf q) (s.seq q).after sl = true) (waits : sl.waitSet = [])
    (ends : ¬ (sl.cls = 0 ∧ (sl.op = 0x2C ∨ sl.op = 0x2D))) (token : ∀ t, sl.token = some t → (s.seq q).isPending t = false)
    (plain : sl.isControl = false) : s.slotCommand q sl = State.stopIf (s.slotEffect q sl) q := by
  rw [s.slotCommand_go q sl run (s.checkStages_go q _ _ sl legal waits ends token) (by simp; tauto), s.issueSlots_single q sl plain]

theorem Slot.isControl_class0 {sl : Slot} (cls : sl.cls = 0) : sl.isControl = false := by
  simp [Slot.isControl, cls, orderClass]

theorem Slot.token_class0 {sl : Slot} (cls : sl.cls = 0) (page : ¬ (sl.op = 0x38 ∨ sl.op = 0x39)) : sl.token = none := by
  rw [Slot.token, if_neg (by omega), if_neg (by omega)]

theorem Slot.waitSet_none {sl : Slot} (sync : ¬ (sl.cls = 0 ∧ (sl.op = 0x30 ∨ sl.op = 0x31))) : sl.waitSet = [] := by
  rw [Slot.waitSet, if_neg (by omega), if_neg (by omega)]

/-! ### Flow slots (R171 to R173) -/

/-- The slot of a jump, a branch or a LOOP (R171, R173). -/
def flowOp (op : Nat) (rs1 rs2 : Fin 32) (off : W32) : Slot := scalarOp op 2 0 rs1 rs2 off.toNat 0

section FlowOp
variable (op pc : Nat) (rs1 rs2 : Fin 32) (off : W32)

@[simp] theorem flowOp_op : (flowOp op rs1 rs2 off).op = op := rfl
@[simp] theorem flowOp_rs1 : (flowOp op rs1 rs2 off).rs1 = rs1 := scalarOp_rs1 op 2 off.toNat 0 0 rs1 rs2
@[simp] theorem flowOp_rs2 : (flowOp op rs1 rs2 off).rs2 = rs2 := scalarOp_rs2 op 2 off.toNat 0 0 rs1 rs2
@[simp] theorem flowOp_unused : natFld (flowOp op rs1 rs2 off).low 0 5 = 0 := scalarOp_unused op 2 off.toNat 0 0 rs1 rs2
@[simp] theorem flowOp_offset : toSigned 32 (flowOp op rs1 rs2 off).w1 = off.toInt := toSigned_toNat off
@[simp] theorem flowOp_target : flowTarget pc (flowOp op rs1 rs2 off).w1 = pc + off.toInt := congrArg ((pc : Int) + ·) (toSigned_toNat off)

end FlowOp

/-- A legal flow slot has the effect of R171 and R173. -/
theorem State.slotCommand_flow {s : State} {q : Nat} {sl : Slot} (run : s.running q = true) (cls : sl.cls = 0)
    (unit : 0x20 ≤ sl.op ∧ sl.op ≤ 0x28) (words : opWords 0 sl.op = some sl.nw)
    (legal : s.seqSlotOk q (s.pcOf q) (s.seq q).after sl = true) : s.slotCommand q sl = s.flowSlot q sl := by
  have effect : s.slotEffect q sl = (s.flowSlot q sl, none) := by
    simp only [State.slotEffect, cls]
    rw [if_neg (by omega), if_neg (by omega), if_neg (by omega), if_pos (by omega)]
  rw [State.slotCommand_effect run ((s.slotOk_class0 q _ _ cls words).trans legal) (Slot.waitSet_none (by omega)) (by omega)
    (by simp [Slot.token_class0 cls (by omega)]) (Slot.isControl_class0 cls), effect]
  rfl

section Flow
variable {s : State} {q op t : Nat} {rs1 rs2 : Fin 32} {off : W32} (run : s.running q = true) (aligned : off.toInt % 4 = 0)
  (target : (s.pcOf q : Int) + off.toInt = t)
include run aligned target

/-- A taken jump or branch to a multiple of 4 inside the image makes its target the next PC and ends the loops that the target leaves; one
not taken only costs its step. -/
theorem next_jump (jump : 0x20 ≤ op ∧ op < 0x28) (words : opWords 0 op = some 2) (inside : t + 4 ≤ (s.seq q).imageLen)
    {taken : Prop} [Decidable taken] (test : branchTaken op (s.sreg q rs1) (s.sreg q rs2) = decide taken) :
    (.next (s.slotCommand q (flowOp op rs1 rs2 off)) : Result) =
      .next (if taken then s.updSeq q (fun z => { z with bundleAt := z.bundleAt + 1, nextPc := t, loops := loopsAfterJump t z.loops })
        else s.updSeq q (fun z => { z with bundleAt := z.bundleAt + 1 })) := by
  have legal : s.seqSlotOk q (s.pcOf q) (s.seq q).after (flowOp op rs1 rs2 off) = true := by
    simp only [State.seqSlotOk, flowOp_op, flowOp_unused, flowOp_offset, flowOp_target, target, aligned]
    rw [if_neg (by omega), if_pos (by omega), if_neg (by omega), if_neg (by omega)]
    simp
    omega
  rw [State.slotCommand_flow run rfl ⟨jump.1, Nat.le_of_lt jump.2⟩ words legal, State.flowSlot]
  simp only [flowStep, flowOp_op, flowOp_rs1, flowOp_rs2, flowOp_target, target, Int.toNat_natCast, test, if_neg (show ¬ op = 0x28 by omega)]
  by_cases goes : taken
  · simp only [decide_eq_true goes, if_pos goes, if_true]
  · simp only [decide_eq_false goes, if_neg goes, Bool.false_eq_true, if_false]

/-- A LOOP that the rules allow goes on at its exit, or becomes the innermost active loop, at the cost of one step (R172, R173). -/
theorem next_loop (behind : (s.seq q).after ≤ t) (inside : t ≤ (s.seq q).imageLen)
    (allowed : loopAllowed (s.seq q) (s.sreg q rs1) t (s.seq q).after = true) {next : Nat} {loops : List SeqLoop}
    (goes : (if fld (s.sreg q rs1) 31 0 = 0 ∨ t = (s.seq q).after then loopIterate t (s.seq q).loops
      else ((s.seq q).after, { start := (s.seq q).after, exit := t, remaining := fld (s.sreg q rs1) 31 0 } :: (s.seq q).loops)) = (next, loops)) :
    (.next (s.slotCommand q (flowOp 0x28 rs1 rs2 off)) : Result) =
      .next (s.updSeq q (fun z => { z with bundleAt := z.bundleAt + 1, nextPc := next, loops := loops })) := by
  have legal : s.seqSlotOk q (s.pcOf q) (s.seq q).after (flowOp 0x28 rs1 rs2 off) = true := by
    simp only [State.seqSlotOk, flowOp_op, flowOp_unused, flowOp_offset, flowOp_target, flowOp_rs1, target, aligned, Int.toNat_natCast, allowed]
    simp
    omega
  rw [State.slotCommand_flow run rfl (by rw [flowOp_op]; decide) rfl legal, State.flowSlot]
  refine congrArg Host.Outcome.next (State.updSeq_congr ?_)
  simp only [flowStep, flowOp_op, flowOp_rs1, flowOp_target, target, Int.toNat_natCast, if_true]
  rw [← apply_ite some, goes]

end Flow

/-! ### COMMIT, END and the waits (R115, R119, R126, R174) -/

/-- A freeze other than that of a stop keeps the slot that it holds. -/
theorem State.holdSlot_freezeOn (s : State) (q st cause : Nat) (sl : Slot) {f : Freeze} (frozen : f ≠ .no) (waits : f ≠ .stopping) :
    (s.freezeOn q f st cause).holdSlot q sl = (s.freezeOn q f st cause).updSeq q (fun z => { z with held := some sl }) := by
  have freeze : ((s.freezeOn q f st cause).seq q).freeze = f := by
    rw [State.freezeOn, State.seq_setSeqState, State.seq_updSeq]
  rw [State.holdSlot, if_neg (by rw [freeze]; tauto)]

/-- A stop keeps no slot. -/
theorem State.holdSlot_stopRecipe {s : State} {q : Nat} (run : s.running q = true) (f : StopInfo) (sl : Slot) :
    (s.stopRecipe q f).holdSlot q sl = s.stopRecipe q f := if_pos (State.stopRecipe_freeze run f)

/-- With no token among them that a prefetch keeps pending, the tokens awaited freeze the partition (R134). -/
theorem State.awaitTokens_freezes {s : State} {q : Nat} {pend : List Nat} (unblocked : (s.seq q).blockedTokens pend = []) (f : Freeze) (cause : Nat) :
    s.awaitTokens q pend f cause = s.freezeOn q f 3 cause := by
  rw [State.awaitTokens, unblocked]

section Stages
variable {s : State} {q : Nat} {sl : Slot}

/-- A legal slot that a stage before the last halts. -/
theorem State.slotCommand_halt (run : s.running q = true) (legal : s.slotOk q (s.pcOf q) (s.seq q).after sl = true) {t : State}
    (halts : (s.waitStage q [sl]).andThen (fun s => s.endStage q [sl]) = .halt t) : s.slotCommand q sl = t.holdSlot q sl := by
  rw [State.slotCommand, if_pos run, State.checkStages, s.firstOffender_single q _ _ sl legal, halts]
  rfl

section Wait
variable {set pend : List Nat} (waits : sl.waitSet = set) (pending : (s.seq q).pendingTokens.filter set.contains = pend)
include waits pending

/-- A wait freezes the partition while a token of its set is pending (R115). -/
theorem State.waitStage_freezes (waiting : pend ≠ []) (unblocked : (s.seq q).blockedTokens pend = []) :
    s.waitStage q [sl] = .halt (s.freezeOn q (.wait set) 3 ((s.seq q).waitCause pend)) := by
  subst waits pending
  simp only [State.waitStage, List.flatMap_singleton, if_pos waiting, State.awaitTokens_freezes unblocked]

/-- A wait stops the recipe on the lowest failed token of its set (R116). -/
theorem State.waitStage_stops (drained : pend = []) {t : Nat} (failed : (s.seq q).lowestFailed set = some t) :
    s.waitStage q [sl] = .halt (s.stopRecipe q { code := 0x03, token := t }) := by
  subst waits
  simp only [State.waitStage, List.flatMap_singleton, pending, drained, failed, ne_eq, not_true_eq_false, if_false]

/-- A wait passes with no token of its set pending or failed. -/
theorem State.waitStage_passes (drained : pend = []) (done : (s.seq q).lowestFailed set = none) : s.waitStage q [sl] = .go s := by
  subst waits
  simp only [State.waitStage, List.flatMap_singleton, pending, drained, done, ne_eq, not_true_eq_false, if_false]

end Wait

/-- A slot that passes its wait, ends nothing and names no token goes through every stage. -/
theorem State.checkStages_waited {pc next : Nat} (legal : s.slotOk q pc next sl = true) (passes : s.waitStage q [sl] = .go s)
    (ends : ¬ (sl.cls = 0 ∧ (sl.op = 0x2C ∨ sl.op = 0x2D))) (token : sl.token = none) : s.checkStages q pc next [sl] = .go s := by
  rw [State.checkStages, s.firstOffender_single q pc next sl legal]
  simp only [passes, Stage.andThen, s.endStage_none q sl ends, s.reuseStage_none q sl (by simp [token])]

end Stages

/-- A legal sync-unit slot waits for its set, and has no other effect (R115, R116). -/
theorem next_wait {s : State} {q : Nat} {sl : Slot} {set pend : List Nat} (run : s.running q = true) (cls : sl.cls = 0)
    (unit : sl.op = 0x30 ∨ sl.op = 0x31) (legal : s.slotOk q (s.pcOf q) (s.seq q).after sl = true) (waits : sl.waitSet = set)
    (pending : (s.seq q).pendingTokens.filter set.contains = pend) :
    (pend = [] → (s.seq q).lowestFailed set = none → (.next (s.slotCommand q sl) : Result) = .next s) ∧
    (pend = [] → ∀ t, (s.seq q).lowestFailed set = some t →
      (.next (s.slotCommand q sl) : Result) = .next (s.stopRecipe q { code := 0x03, token := t })) ∧
    (pend ≠ [] → (s.seq q).blockedTokens pend = [] → ∃ sl' : Slot, sl'.waitSet = set ∧ (.next (s.slotCommand q sl) : Result) =
      .next ((s.freezeOn q (.wait set) 3 ((s.seq q).waitCause pend)).updSeq q (fun z => { z with held := some sl' }))) := by
  refine ⟨fun drained done => ?_, fun drained t failed => ?_, fun waiting unblocked => ⟨sl, waits, ?_⟩⟩
  · have effect : s.slotEffect q sl = (s, none) := by
      simp only [State.slotEffect, cls]
      rcases unit with op | op <;> simp [op]
    rw [s.slotCommand_go q sl run (State.checkStages_waited legal (State.waitStage_passes waits pending drained done) (by omega)
      (Slot.token_class0 cls (by omega))) (by simp; omega), s.issueSlots_single q sl (Slot.isControl_class0 cls), effect]
    rfl
  · rw [State.slotCommand_halt run legal (by rw [State.waitStage_stops waits pending drained failed]; rfl), State.holdSlot_stopRecipe run]
  · rw [State.slotCommand_halt run legal (by rw [State.waitStage_freezes waits pending waiting unblocked]; rfl),
      State.holdSlot_freezeOn _ _ _ _ _ (by simp) (by simp)]

/-- A COMMIT whose commit point is not passed freezes the partition under cause 8, unless a pending token is of a prefetch that waits for
the executing page (R119, R134). -/
theorem State.slotCommand_commit {s : State} {q : Nat} (run : s.running q = true) (ahead : (s.seq q).passed = false)
    (unblocked : (s.seq q).blockedTokens (s.seq q).pendingTokens = []) : s.slotCommand q { cls := 0, op := 0x2C, nw := 1 } =
      (s.freezeOn q .commit 3 8).updSeq q (fun z => { z with held := some { cls := 0, op := 0x2C, nw := 1 } }) := by
  have legal : s.slotOk q (s.pcOf q) (s.seq q).after { cls := 0, op := 0x2C, nw := 1 } = true := by
    rw [s.slotOk_class0 q _ _ rfl rfl]; rfl
  have halts : s.endStage q [{ cls := 0, op := 0x2C, nw := 1 }] = .halt (s.freezeOn q .commit 3 8) := by
    rw [← State.awaitTokens_freezes unblocked .commit 8]
    simp [State.endStage, ahead]
  rw [State.slotCommand_halt run legal (by rw [s.waitStage_none q _ rfl]; exact halts), State.holdSlot_freezeOn _ _ _ _ _ (by simp) (by simp)]

/-- An END with no token pending or failed sets the step at which the recipe ends (R126). -/
theorem State.slotCommand_end {s : State} {q : Nat} (run : s.running q = true) (drained : (s.seq q).pendingTokens = [])
    (done : (s.seq q).lowestFailed (List.range 256) = none) : s.slotCommand q { cls := 0, op := 0x2D, nw := 1 } =
      s.updSeq q (fun z => { z with endAt := some (max z.bundleAt (s.stepOf q + 1)) }) := by
  have legal : s.slotOk q (s.pcOf q) (s.seq q).after { cls := 0, op := 0x2D, nw := 1 } = true := by
    rw [s.slotOk_class0 q _ _ rfl rfl]; rfl
  have ends : s.endStage q [{ cls := 0, op := 0x2D, nw := 1 }] = .go s := by
    simp [State.endStage, drained, done]
  have passes : s.checkStages q (s.pcOf q) (s.seq q).after [{ cls := 0, op := 0x2D, nw := 1 }] = .go s := by
    rw [State.checkStages, s.firstOffender_single q _ _ _ legal]
    simp only [s.waitStage_none q { cls := 0, op := 0x2D, nw := 1 } rfl, Stage.andThen, ends,
      s.reuseStage_none q { cls := 0, op := 0x2D, nw := 1 } (by simp [Slot.token])]
  rw [s.slotCommand_go q _ run passes rfl, s.issueSlots_single q _ rfl]
  rfl

/-- The two words of a mask are the mask. -/
theorem words_eq_mask (mask : W64) : fld mask 31 0 + 2 ^ 32 * fld mask 63 32 = mask.toNat := by
  simp only [fld, natFld_eq_div_mod]
  omega

/-! ### Prefetches (R175) -/

/-- A legal prefetch slot whose token is not pending begins the prefetch of its page (R133, R175). -/
theorem State.slotCommand_prefetch {s : State} {q tok : Nat} {sl : Slot} {page : Option Nat} (run : s.running q = true) (cls : sl.cls = 0)
    (unit : sl.op = 0x38 ∨ sl.op = 0x39) (words : opWords 0 sl.op = some sl.nw)
    (legal : s.seqSlotOk q (s.pcOf q) (s.seq q).after sl = true) (token : natFld sl.low 0 8 = tok) (free : (s.seq q).isPending tok = false)
    (names : page = if sl.op = 0x38 then some sl.w1 else if (s.sreg q sl.rs1).toNat < 2 ^ 16 then some (s.sreg q sl.rs1).toNat else none) :
    s.slotCommand q sl = s.prefetch q tok page := by
  have effect : s.slotEffect q sl = (s.prefetch q tok page, none) := by
    subst token names
    simp only [State.slotEffect, cls]
    rcases unit with op | op <;> simp [op]
  have takes : sl.token = some tok := by
    rw [Slot.token, if_neg (by omega), if_pos ⟨cls, unit⟩, token]
  rw [State.slotCommand_effect run ((s.slotOk_class0 q _ _ cls words).trans legal) (Slot.waitSet_none (by omega)) (by omega)
    (by simp [takes, free]) (Slot.isControl_class0 cls), effect]
  rfl

/-- Settles O17, operation by operation: the flow slots by `flowStep`, the others by the stage of R197 that holds them or by their effect. -/
theorem flowSyncAndPageOperationsTakeEffect : Obligations.FlowSyncAndPageOperationsTakeEffect := by
  intro s q run
  refine ⟨?jumps, ?loop, ?commit, ?recipeEnd, ?waits, ?prefetches⟩
  case jumps =>
    rintro off t aligned target inside rs1 rs2 x y taken kept rfl rfl rfl rfl
    refine ⟨?jmp, ?beq, ?bne, ?blt, ?bge, ?bltu, ?bgeu⟩
    case jmp => exact (next_jump (taken := True) (rs1 := 0) (rs2 := 0) run aligned target (by decide) rfl inside rfl).trans (by rw [if_pos trivial])
    case bge => exact next_jump run aligned target (by decide) rfl inside (decide_not.symm.trans (decide_eq_decide.2 not_lt))
    case bgeu => exact next_jump run aligned target (by decide) rfl inside (decide_not.symm.trans (decide_eq_decide.2 not_lt))
    all_goals exact next_jump run aligned target (by decide) rfl inside rfl
  case loop =>
    rintro rs1 off t n aligned target behind inside rfl
    refine ⟨fun leaves => ?_, fun count body few within => ?_⟩
    · refine next_loop (rs2 := 0) run aligned target behind inside ?_ (if_pos leaves)
      simp [loopAllowed]
      tauto
    · refine next_loop (rs2 := 0) run aligned target behind inside ?_ (if_neg (by tauto))
      simp only [loopAllowed]
      simp [few]
      tauto
  case commit =>
    intro ahead unblocked
    exact congrArg Host.Outcome.next (State.slotCommand_commit run ahead unblocked)
  case recipeEnd =>
    intro drained done
    exact congrArg Host.Outcome.next (State.slotCommand_end run drained done)
  case waits =>
    rintro c set waits pend pending
    rcases waits with ⟨tg, mask, rfl, rfl⟩ | ⟨a, b, order, rfl, rfl⟩
    · refine next_wait run rfl (.inl rfl) ?_ ?_ pending
      · rw [s.slotOk_class0 q _ _ rfl rfl]
        simp [State.seqSlotOk, natFld_eq_div_mod]
        omega
      · simp only [Slot.waitSet, words_eq_mask, true_and, if_true, show natFld tg.val 0 2 = tg from Nat.mod_eq_of_lt tg.isLt]
    · refine next_wait run rfl (.inr rfl) ?_ ?_ pending
      · rw [s.slotOk_class0 q _ _ rfl rfl]
        simp [State.seqSlotOk, natFld_eq_div_mod]
        omega
      · have first : natFld (a.toNat * 256 + b.toNat) 8 8 = a.toNat := by
          rw [natFld_eq_div_mod]; omega
        have last : natFld (a.toNat * 256 + b.toNat) 0 8 = b.toNat := by
          rw [natFld_eq_div_mod]; omega
        simp [Slot.waitSet, first, last]
  case prefetches =>
    refine fun tok free => ⟨fun page => congrArg Host.Outcome.next (State.slotCommand_prefetch run rfl (.inl rfl) rfl ?_ ?_ free rfl),
      fun rs1 => congrArg Host.Outcome.next (State.slotCommand_prefetch run rfl (.inr rfl) rfl ?_ ?_ free ?_)⟩
    · simp [State.seqSlotOk, natFld_eq_div_mod]
      omega
    · exact Nat.mod_eq_of_lt tok.isLt
    · simp [State.seqSlotOk, natFld_eq_div_mod]
      omega
    · simp only [natFld_eq_div_mod]
      omega
    · have register : ({ cls := 0, op := 0x39, nw := 1, low := rs1.val * 2 ^ 10 + tok.toNat } : Slot).rs1 = rs1 := by
        simp only [Slot.rs1, natFld_eq_div_mod]
        omega
      rw [register]
      rfl

end Sys2Proof.Machine


/-!
The control slots of standing orders (R176 to R178): a legal one has its effect at every engine that it addresses.
-/
namespace Sys2Proof.Machine

/-! ### A control slot -/

theorem opWords_control (cls : Fin 16) (orders : orderClass cls = true) :
    opWords cls 0x38 = some 2 ∧ opWords cls 0x39 = some 1 ∧ opWords cls 0x3A = some 1 ∧ opWords cls 0x3B = some 2 ∧
      opWords cls 0x3C = some 2 := by
  revert orders cls
  decide

theorem orderClass_bounds {cls : Nat} (orders : orderClass cls = true) : 1 ≤ cls ∧ cls < 0xC ∧ cls ≠ 0xA := by
  simp only [orderClass, Bool.or_eq_true, Bool.and_eq_true, decide_eq_true_eq, beq_iff_eq] at orders
  omega

/-- A slot of a class with standing orders names no token. -/
theorem Slot.token_orderClass {sl : Slot} (orders : orderClass sl.cls = true) : sl.token = none := by
  have bounds := orderClass_bounds orders
  rw [Slot.token, if_neg (by omega), if_neg (by omega)]

theorem State.instances_eq {s : State} {q : Nat} {sl : Slot} {us ks : List Nat} (clusters : s.selClusters q sl.gmode sl.gsel = some us)
    (cells : selCells sl.cls sl.csel = some ks) : s.instances q sl = some (us.flatMap (fun u => ks.map (fun k => (u, k)))) := by
  rw [State.instances, clusters, cells]

section Control
variable {s : State} {q : Nat} {sl : Slot} (run : s.running q = true) (orders : orderClass sl.cls = true)
include run orders

/-- A legal control slot changes the order of every engine that it addresses (R109, R176). -/
theorem State.slotCommand_control {is : List (Nat × Nat)} (control : 0x38 ≤ sl.op ∧ sl.op ≤ 0x3C) (words : opWords sl.cls sl.op = some sl.nw)
    (addressed : s.instances q sl = some is) (legal : s.controlOk q sl = true) : s.slotCommand q sl = s.slotControl q sl is := by
  have bounds := orderClass_bounds orders
  have isControl : sl.isControl = true := by
    simp [Slot.isControl, orders, control]
  have allowed : s.slotOk q (s.pcOf q) (s.seq q).after sl = true := by
    simp only [State.slotOk, words, addressed, isControl, legal, if_neg (show ¬ sl.cls = 0 by omega), if_neg (show ¬ 0xC ≤ sl.cls by omega),
      if_neg bounds.2.2]
    rfl
  have passes := s.checkStages_go q (s.pcOf q) (s.seq q).after sl allowed (Slot.waitSet_none (by omega)) (by omega)
    (by simp [Slot.token_orderClass orders])
  rw [s.slotCommand_go q sl run passes (by simp; omega), s.issueSlots_control q sl isControl, addressed]
  rfl

/-- The row of a control slot whose record, if it names one, is resident: every order addressed changes as the operation has it (R176). -/
theorem next_orderCommand {us ks : List Nat} {f : Order → Order} {changed : (Order → Order) → State}
    (control : 0x38 ≤ sl.op ∧ sl.op ≤ 0x3C) (words : opWords sl.cls sl.op = some sl.nw) (clusters : s.selClusters q sl.gmode sl.gsel = some us)
    (cells : selCells sl.cls sl.csel = some ks) (legal : s.controlOk q sl = true) (resident : sl.op = 0x38 → s.pageReady q (sl.w1 / 65536) = true)
    (changes : ∀ f, changed f = (us.flatMap (fun u => ks.map (fun k => (u, k)))).foldl (fun t i =>
      t.updEngine q sl.cls i.1 i.2 (fun e => { e with order := f e.order })) s)
    (makes : ∀ o, s.controlOrder q sl o = f o) : (.next (s.orderCommand q sl) : Result) = .next (changed f) := by
  rw [State.orderCommand, if_neg (by rintro ⟨-, -, sold, -, missing⟩; simp [resident sold] at missing),
    State.slotCommand_control run orders control words (State.instances_eq clusters cells) legal, changes]
  simp only [State.slotControl, makes]

/-- An SOLD whose record's page is not resident freezes the partition under cause 7 (R132, R176). -/
theorem State.orderCommand_missing (sold : sl.op = 0x38) (inside : sl.w1 < (s.seq q).imageLen)
    (missing : s.pageReady q (sl.w1 / 65536) = false) : s.orderCommand q sl = s.freezeOn q (.page (sl.w1 / 65536)) 3 7 := by
  rw [State.orderCommand, if_pos ⟨run, orders, sold, inside, by simp [missing]⟩]

end Control

/-- A record that meets R177 lies inside the image. -/
theorem State.recordOk_inside {s : State} {q cls off : Nat} (ok : s.recordOk q cls off = true) : off < (s.seq q).imageLen := by
  simp only [State.recordOk, Bool.and_eq_true, decide_eq_true_eq] at ok
  omega

@[simp] theorem natBit_b2n (b : Bool) : natBit (b2n b) 0 = b := by
  cases b <;> rfl

/-- Settles O20: each operation is a legal control slot, and its order is the one that `controlOrder` makes. -/
theorem controlSlotsChangeTheirOrders : Obligations.ControlSlotsChangeTheirOrders := by
  intro s q cls sel us ks run orders clusters cells changed changes
  obtain ⟨soldWords, startWords, stopWords, genWords, loopWords⟩ := opWords_control cls orders
  have acts {op nw mod w1 : Nat} {f : Order → Order} (control : 0x38 ≤ op ∧ op ≤ 0x3C) (words : opWords cls op = some nw)
      (resident : op = 0x38 → s.pageReady q (w1 / 65536) = true) (legal : s.controlOk q (engineOp cls op nw sel mod w1 0) = true)
      (makes : ∀ o, s.controlOrder q (engineOp cls op nw sel mod w1 0) o = f o) :
      (.next (s.orderCommand q (engineOp cls op nw sel mod w1 0)) : Result) = .next (changed f) :=
    next_orderCommand run orders control words clusters cells legal resident changes makes
  refine ⟨fun start rec ok => ⟨fun resident => ?sold, fun missing => ?missing⟩, ?sostart, ?sostop, fun g rs => ?sogen,
    fun l rs number least most => ?soloop⟩
  case missing =>
    exact congrArg Host.Outcome.next (State.orderCommand_missing (sl := engineOp cls 0x38 2 sel (b2n start) rec.toNat 0) run orders rfl
      (State.recordOk_inside ok) missing)
  case sold =>
    refine acts (by decide) soldWords (fun _ => resident) ?_ (fun o => ?_)
    · cases start <;> exact ok
    · show (orderOf (s.recordWord q rec.toNat)).sold (natBit (b2n start) 0) = _
      rw [natBit_b2n, Order.sold]
  case sostart => exact acts (by decide) startWords (by simp) rfl fun _ => rfl
  case sostop => exact acts (by decide) stopWords (by simp) rfl fun _ => rfl
  case sogen =>
    refine acts (by decide) genWords (by simp) ?_ (fun o => ?_)
    · show (decide (g.val ≤ 3) && decide (rs.val < 32)) = true
      simp
      omega
    · simp only [State.controlOrder, engineOp, Order.setBase, Nat.mod_eq_of_lt g.isLt, Nat.mod_eq_of_lt rs.isLt]
  case soloop =>
    have register : rs.val % 32 = rs := Nat.mod_eq_of_lt rs.isLt
    refine acts (by decide) loopWords (by simp) ?_ (fun o => ?_)
    · show (decide (l.val ≤ 2) && decide (rs.val < 32) && decide (1 ≤ (s.sreg q (rs % 32)).toNat) &&
        decide ((s.sreg q (rs % 32)).toNat ≤ 65536)) = true
      simp [register, number, least, most]
    · simp only [State.controlOrder, engineOp, Order.setLoop, Nat.mod_eq_of_lt l.isLt, register]

end Sys2Proof.Machine


/-!
Steps, bundles and the ends of freezes (R98 to R133): a step at which nothing is due, and what each release does by what it finds.
-/
namespace Sys2Proof.Machine

/-! ### A step (R98) -/

section Step
variable {s : State} {q : Nat}

/-- A step at which no result is due writes none (R104). -/
theorem State.landDue_none {t : Nat} (later : ∀ f ∈ (s.seq q).inFlight, t < f.visibleAt) :
    s.landDue q t = s.updSeq q (fun z => { z with inFlight := (s.seq q).inFlight }) := by
  have due : (s.seq q).inFlight.filter (fun f => decide (f.visibleAt ≤ t)) = [] :=
    List.filter_eq_nil_iff.2 fun f flying => by simpa using later f flying
  have rest : (s.seq q).inFlight.filter (not ∘ fun f => decide (f.visibleAt ≤ t)) = (s.seq q).inFlight :=
    List.filter_eq_self.2 fun f flying => by simpa using later f flying
  simp only [State.landDue, List.partition_eq_filter_filter, due, rest]
  rfl

/-- A step with no token due leaves every token. -/
theorem State.settleSoon_none (soon : (s.seq q).soon = []) : s.settleSoon q = s.updSeq q (fun z => { z with soon := [] }) := by
  rw [State.settleSoon, soon]
  rfl

/-- At a step at which nothing is due, neither results nor tokens change. -/
theorem State.settleSoon_landDue {t : Nat} (later : ∀ f ∈ (s.seq q).inFlight, t < f.visibleAt) (soon : (s.seq q).soon = []) :
    (s.landDue q t).settleSoon q = s.updSeq q (fun z => { z with inFlight := (s.seq q).inFlight, soon := [] }) := by
  rw [State.landDue_none later, State.settleSoon_none (by rw [State.seq_updSeq]; exact soon), State.updSeq_updSeq]

/-- At such a step the counter rises, and the values written before it come into force. -/
theorem State.advanceStep_quiet (later : ∀ f ∈ (s.seq q).inFlight, s.stepOf q + 1 < f.visibleAt) (soon : (s.seq q).soon = [])
    (goesOn : (s.seq q).endAt ≠ some (s.stepOf q + 1)) : s.advanceStep q =
      (s.wr (Reg.seqStep q) (BitVec.ofNat 64 (s.stepOf q + 1))).updSeq q (fun z =>
        { z with inFlight := (s.seq q).inFlight, soon := [], before := z.sregs, groupsBefore := z.gregs }) := by
  have settles := State.settleSoon_landDue (s := s.wr (Reg.seqStep q) (BitVec.ofNat 64 (s.stepOf q + 1))) later soon
  simp only [State.advanceStep, settles, State.updSeq_updSeq, State.seq_updSeq]
  exact if_neg goesOn

/-- A running partition with no bundle due takes a step once its engines have met no fault (R98). -/
theorem State.cycle_step {v : State} (run : s.running q = true) (issued : s.bundleDue q = false) (engines : s.stepEngines q = (v, none)) :
    s.cycle q = v.advanceStep q := by
  have state : s.seqState q = 2 := by
    simp only [State.running, Bool.and_eq_true, beq_iff_eq] at run
    exact run.1
  have idle : ¬ ((s.seq q).bundleAt ≤ s.stepOf q ∧ (s.seq q).endAt = none) := by
    simpa [State.bundleDue, run] using issued
  rw [State.cycle, if_neg (by omega), if_pos run, if_neg idle, engines]

/-- A frozen cycle counts under its cause and is no step (R98, R101). -/
theorem State.cycle_frozen {c : Nat} (frozen : s.seqState q = 3) (cause : s.stallCause q = some c) :
    s.cycle q = s.count (Reg.seqStall q c) 1 := by
  rw [State.cycle, if_pos (.inl frozen), State.frozenCycle, cause]

end Step

/-! ### The ends of freezes -/

/-- A wait or a drain ends: the recipe stops on the lowest failed token of the set, and goes on with none. -/
def State.release (s : State) (q : Nat) (ts : List Nat) : State :=
  match (s.seq q).lowestFailed ts with
  | some t => s.stopRecipe q { code := 0x03, token := t }
  | none => s.resume q

theorem State.release_done {s : State} {q : Nat} {ts : List Nat} (done : (s.seq q).lowestFailed ts = none) : s.release q ts = s.resume q := by
  rw [State.release, done]

theorem State.release_failed {s : State} {q t : Nat} {ts : List Nat} (failed : (s.seq q).lowestFailed ts = some t) :
    s.release q ts = s.stopRecipe q { code := 0x03, token := t } := by
  rw [State.release, failed]

section Releases
variable {s u : State} {q : Fin 4} {ecc : List MemUpset} (upset : s.upset ecc = u)
include upset

theorem execStep_eq : exec (.step q ecc) s = .next (u.cycle q) := upset ▸ rfl

theorem execBundleIssue_eq (due : u.bundleDue q = true) : exec (.bundleIssue q ecc) s = .next (u.handleBundle q) := by
  subst upset
  exact congrArg Host.Outcome.next (if_pos due)

/-- The first waiting slot of a ready engine issues (R109). -/
theorem execWaitingSlotIssue_eq {cls k n : Nat} {sl : Slot} {rest : List Slot} {v : State} (run : u.running q = true)
    (issued : u.bundleDue q = false) (waiting : (u.engine q cls n k).waiting = sl :: rest) (ready : (u.engine q cls n k).readyAt ≤ u.stepOf q)
    (issues : (u.updEngine q cls n k (fun e => { e with waiting := rest })).issueOp q cls n k sl = (v, none)) :
    exec (.waitingSlotIssue q cls n k ecc) s = .next v := by
  subst upset
  refine congrArg Host.Outcome.next ((if_pos ⟨run, by simp [issued]⟩).trans ?_)
  simp only [State.issueWaiting, waiting, if_pos ready, issues, State.stopIf]

section Page
variable {p : Nat} (frozen : (u.seq q).freeze = .page p)
include frozen

/-- A page that loads takes its frame, and the bundle is handled again (R132). -/
theorem execPageLoaded_loaded {cells : List (Nat × Byte)} (loads : (u.readPage q p).loadPage q p = .loaded cells) :
    exec (.pageLoaded q ecc) s =
      .next ((((u.readPage q p).placePage q p cells).updSeq q (fun z => { z with fetched := z.fetched ++ [p] })).resume q) := by
  subst upset
  show execPageLoaded q ecc s = _
  simp only [execPageLoaded, frozen, loads]

/-- A page that does not load faults (R127, R132). -/
theorem execPageLoaded_fails (fails : ∀ cells, (u.readPage q p).loadPage q p ≠ .loaded cells) :
    exec (.pageLoaded q ecc) s = .next ((u.readPage q p).pageFault q ((u.readPage q p).loadPage q p)) := by
  subst upset
  show execPageLoaded q ecc s = _
  simp only [execPageLoaded, frozen]

end Page

/-- A wait of which no token is pending ends (R115, R116). -/
theorem execWaitRelease_eq {ts : List Nat} (frozen : (u.seq q).freeze = .wait ts) (settled : ts.any (u.seq q).isPending = false) :
    exec (.waitRelease q ecc) s = .next (u.release q ts) := by
  subst upset
  show execWaitRelease q ecc s = _
  simp only [execWaitRelease, frozen, settled, Bool.false_eq_true, if_false]
  rfl

/-- A token-reuse freeze ends with its token (R113). -/
theorem execTokenReuseRelease_eq {ts : List Nat} (frozen : (u.seq q).freeze = .reuse ts) (settled : ts.any (u.seq q).isPending = false) :
    exec (.tokenReuseRelease q ecc) s = .next (u.resume q) := by
  subst upset
  show execTokenReuseRelease q ecc s = _
  simp only [execTokenReuseRelease, frozen, settled, Bool.false_eq_true, if_false]

/-- A drain with no token pending ends (R126). -/
theorem execEndDrain_eq {ts : List Nat} (frozen : (u.seq q).freeze = .drain ts) (drained : (u.seq q).pendingTokens = []) :
    exec (.endDrain q ecc) s = .next (u.release q (List.range 256)) := by
  subst upset
  show execEndDrain q ecc s = _
  simp only [execEndDrain, frozen, drained, ne_eq, not_true_eq_false, if_false]
  rfl

section Commit
variable (frozen : (u.seq q).freeze = .commit) (drained : (u.seq q).pendingTokens = [])
include frozen drained

/-- A COMMIT with no token pending stops on the lowest failed one (R119). -/
theorem execCommitQuiesce_fails {t : Nat} (failed : (u.seq q).lowestFailed (List.range 256) = some t) :
    exec (.commitQuiesce q ecc) s = .next (u.stopRecipe q { code := 0x03, token := t }) := by
  subst upset
  show Host.Outcome.next (commitQuiesce q (s.upset ecc)) = _
  rw [commitQuiesce, if_neg (by simp [frozen, drained]), failed]

section Settled
variable (done : (u.seq q).lowestFailed (List.range 256) = none)
include done

/-- With none failed, a COMMIT of a partition that is not quiescent stops (R119). -/
theorem execCommitQuiesce_restless (restless : u.quiescent q = false) :
    exec (.commitQuiesce q ecc) s = .next (u.stopRecipe q { code := 0x04 }) := by
  subst upset
  show Host.Outcome.next (commitQuiesce q (s.upset ecc)) = _
  simp only [commitQuiesce, frozen, drained, done, restless]
  rfl

/-- A quiescent partition has passed its commit point, and is held there or goes on (R119, R120). -/
theorem execCommitQuiesce_quiescent (quiet : u.quiescent q = true) : exec (.commitQuiesce q ecc) s =
    .next (if u.rdB (Reg.seqCtrl q) 1 = true then (u.count (Reg.seqCommits q) 1).freezeOn q .hold 4 9
      else ((u.count (Reg.seqCommits q) 1).updSeq q (fun z => { z with passed := true })).resume q) := by
  subst upset
  have kept : ((s.upset ecc).count (Reg.seqCommits q) 1).rdB (Reg.seqCtrl q) 1 = (s.upset ecc).rdB (Reg.seqCtrl q) 1 :=
    State.rdB_congr (State.rd_count_ne _ _ (by simp only [Reg.seqCtrl, Reg.seqCommits]; omega)) 1
  show Host.Outcome.next (commitQuiesce q (s.upset ecc)) = _
  simp only [commitQuiesce, frozen, drained, done, quiet, kept]
  rfl

end Settled
end Commit
end Releases

/-! ### Prefetches (R133) -/

/-- The load of a prefetch ends: its page is placed and its token done, or its token fails. -/
def State.prefetchEnds (s : State) (q page tok : Nat) : PageLoad → State
  | .loaded cells => (s.placePage q page cells).tokenPart q tok true
  | .badTile off => (s.checkFailedHandle 6 (s.seq q).image off (some (s.partOfDie q))).tokenPart q tok false
  | .noHandle => s.tokenPart q tok false

theorem execPrefetchDone_eq {s u w : State} {q : Fin 4} {ecc : List MemUpset} {tok : BitVec 8} {p : Prefetch} (upset : s.upset ecc = u)
    (found : (u.seq q).prefetches.find? (fun p => p.token = tok.toNat ∧ !p.waits) = some p)
    (reads : (u.updSeq q (fun z => { z with prefetches := z.prefetches.filter (fun x => x.token ≠ p.token) })).readPage q p.page = w) :
    exec (.prefetchDone q tok ecc) s = .next (w.prefetchEnds q p.page tok.toNat (w.loadPage q p.page)) := by
  subst upset reads
  show execPrefetchDone q tok ecc s = _
  simp only [execPrefetchDone, found]
  rfl

/-- Settles O19, command by command: each premise picks the branch of its command. -/
theorem stepsAndReleasesTakeEffect : Obligations.StepsAndReleasesTakeEffect := by
  intro s u q ecc upset
  refine ⟨?step, ?frozen, execBundleIssue_eq upset, ?waiting, ?page, ?wait, ?reuse, ?drain, ?commitFails, ?commit, ?prefetch⟩
  case step =>
    intro v run issued engines small later soon goesOn
    refine ⟨v.advanceStep q, (execStep_eq upset).trans (congrArg _ (State.cycle_step run issued engines)), ?_⟩
    rw [State.advanceStep_quiet later soon goesOn]
    refine ⟨?_, ?_, rfl, fun a other => State.rd_wr_ne v _ (by simpa using other)⟩
    · show BitVec.toNat (State.rd (State.wr v _ _) _) = _
      rw [State.rd_wr_same, BitVec.toNat_ofNat, Nat.mod_eq_of_lt small]
    · rw [State.seq_updSeq, ← soon]
      rfl
  case frozen =>
    intro c frozen cause
    exact (execStep_eq upset).trans (congrArg _ (State.cycle_frozen frozen cause))
  case waiting =>
    exact fun cls k n sl rest v => execWaitingSlotIssue_eq upset
  case page =>
    intro p frozen
    refine ⟨fun cells => execPageLoaded_loaded upset frozen, fun fails => ?_, fun off fails => ?_⟩
    · rw [execPageLoaded_fails upset frozen (by simp [fails]), fails]; rfl
    · rw [execPageLoaded_fails upset frozen (by simp [fails]), fails]; rfl
  case wait =>
    intro ts frozen settled
    have ends := execWaitRelease_eq upset frozen settled
    exact ⟨fun done => ends.trans (congrArg _ (State.release_done done)), fun t failed => ends.trans (congrArg _ (State.release_failed failed))⟩
  case reuse => exact fun ts => execTokenReuseRelease_eq upset
  case drain =>
    intro ts frozen drained
    have ends := execEndDrain_eq upset frozen drained
    exact ⟨fun done => ends.trans (congrArg _ (State.release_done done)), fun t failed => ends.trans (congrArg _ (State.release_failed failed))⟩
  case commitFails => exact fun t frozen drained => execCommitQuiesce_fails upset frozen drained
  case commit =>
    intro frozen drained done
    refine ⟨execCommitQuiesce_restless upset frozen drained done, fun quiet held => ?_, fun quiet free => ?_⟩
    · exact (execCommitQuiesce_quiescent upset frozen drained done quiet).trans (congrArg _ (if_pos held))
    · exact (execCommitQuiesce_quiescent upset frozen drained done quiet).trans (congrArg _ (if_neg (by simp [free])))
  case prefetch =>
    rintro tok p v w found rfl reads
    have ends := execPrefetchDone_eq upset found reads
    refine ⟨fun cells loads => ?_, fun fails => ?_, fun off fails => ?_⟩
    · rw [ends, loads]; rfl
    · rw [ends, fails]; rfl
    · rw [ends, fails]; rfl

end Sys2Proof.Machine


/-!
The asynchronous operations (R192, R193): the fields of their slots, what each opens with its token, and the end of a transfer.
-/
namespace Sys2Proof.Machine

/-! ### Fields of a DMX slot (R192) -/

theorem natBit_eq_decide (x i : Nat) : natBit x i = decide (x / 2 ^ i % 2 = 1) := Nat.testBit_eq_decide_div_mod_eq

section DmxOp
variable (op : Nat) (sel : Sel) (f : DmxFields)

@[simp] theorem dmxOp_token : natFld (dmxOp op sel f).w1 0 8 = f.token.toNat := by
  simp only [dmxOp, engineOp, natFld_eq_div_mod]
  omega

theorem dmxOp_low : (dmxOp op sel f).low = f.cell.val + b2n f.split * 16 + b2n f.fan * 32 := rfl

@[simp] theorem dmxOp_cell : natFld (dmxOp op sel f).low 0 4 = f.cell := by
  simp only [dmxOp_low, natFld_eq_div_mod]
  omega

@[simp] theorem dmxOp_fan : natBit (dmxOp op sel f).low 5 = f.fan := by
  rw [dmxOp_low, natBit_eq_decide]
  cases f.split <;> cases f.fan <;> simp [b2n] <;> omega

/-- The fields of a DMX slot are legal when its cell is 0 under fan and its store operand is well formed and no generator (R192). -/
theorem dmxFieldsOk_dmxOp (fan : f.fan = true → f.cell = 0) (store : f.store.toNat / 2 ^ 14 ≤ 1) : dmxFieldsOk (dmxOp op sel f) = true := by
  have unused : natBit (dmxOp op sel f).low 6 = false := by
    rw [dmxOp_low, natBit_eq_decide]
    cases f.split <;> cases f.fan <;> simp [b2n] <;> omega
  have first : natFld (dmxOp op sel f).w1 23 9 = 0 := by
    simp only [dmxOp, engineOp, natFld_eq_div_mod]
    omega
  have second : natFld (dmxOp op sel f).w2 28 4 = 0 := by
    simp only [dmxOp, engineOp, natFld_eq_div_mod]
    omega
  have operand : (dmxOp op sel f).fD = f.store.toNat := by
    simp only [Slot.fD, dmxOp, engineOp, natFld_eq_div_mod]
    omega
  have direct : orefIsGen f.store.toNat = false := decide_eq_false (by omega)
  have formed : orefWf f.store.toNat = true := by
    rw [orefWf, direct, decide_eq_true (by omega)]
    rfl
  simp only [dmxFieldsOk, unused, first, second, operand, direct, formed, dmxOp_fan, dmxOp_cell]
  cases flag : f.fan
  · rfl
  · rw [fan flag]
    rfl

/-- The instances of a DMX slot in their order (R164, R192). -/
theorem dmxInstances_dmxOp (us : List Nat) : dmxInstances (dmxOp op sel f) us =
    us.flatMap (fun u => (if f.fan then List.range 16 else [f.cell.val]).map (fun k => (u, k))) := by
  simp only [dmxInstances, dmxOp_fan, dmxOp_cell]

end DmxOp

/-! ### DMX operations (R192, R231) -/

section Dmx
variable {s : State} {q : Nat} {sl : Slot} {us : List Nat}

theorem opWords_dmx {op : Nat} (code : 1 ≤ op ∧ op ≤ 7) : opWords 0xA op = some 3 := if_pos code

/-- A legal DMX slot whose token is not pending issues its instances (R192). -/
theorem State.slotCommand_dmx (run : s.running q = true) (cls : sl.cls = 0xA) (words : opWords 0xA sl.op = some sl.nw)
    (clusters : s.selClusters q sl.gmode sl.gsel = some us) (cell : sl.csel < 2) (fields : dmxFieldsOk sl = true)
    (free : (s.seq q).isPending (natFld sl.w1 0 8) = false) : s.slotCommand q sl = State.stopIf (s.dmxIssue q sl us) q := by
  have addressed : s.instances q sl = some (us.flatMap (fun u => [sl.csel].map (fun k => (u, k)))) :=
    State.instances_eq clusters (by simp [selCells, cls, cell])
  have legal : s.slotOk q (s.pcOf q) (s.seq q).after sl = true := by
    simp [State.slotOk, cls, words, addressed, fields]
  have takes : sl.token = some (natFld sl.w1 0 8) := if_pos (.inl cls)
  have effect : s.slotEffect q sl = s.dmxIssue q sl us := by
    simp only [State.slotEffect, cls, clusters, Option.getD_some]
  rw [State.slotCommand_effect run legal (Slot.waitSet_none (by omega)) (by omega) (by simp [takes, free])
    (by simp [Slot.isControl, cls, orderClass]), effect]

/-- The first engine that fails its checks is the fault's (R231). -/
theorem State.dmxIssue_fails {i : (Nat × Nat) × Nat}
    (fails : (dmxInstances sl us).zipIdx.find? (fun i => (s.dmxPart q sl i.2 i.1).isNone) = some i) :
    s.dmxIssue q sl us = (s, some { code := 0x05, eclass := 0xA, u := i.1.1, k := 0 }) := by
  have found : ((dmxInstances sl us).zipIdx.map (fun i => (i.1, s.dmxPart q sl i.2 i.1))).find? (fun p => p.2.isNone) =
      some (i.1, s.dmxPart q sl i.2 i.1) := by
    rw [List.find?_map]
    exact congrArg (Option.map _) fails
  simp only [State.dmxIssue, found]
  rfl

section Passes
variable {ps : List DmxPart} (passes : (dmxInstances sl us).zipIdx.map (fun i => s.dmxPart q sl i.2 i.1) = ps.map some)
include passes

/-- When all instances pass their checks, none is found failing, and the parts are theirs. -/
theorem State.dmxParts_pass : ((dmxInstances sl us).zipIdx.map (fun i => (i.1, s.dmxPart q sl i.2 i.1))).find? (fun p => p.2.isNone) = none ∧
    ((dmxInstances sl us).zipIdx.map (fun i => (i.1, s.dmxPart q sl i.2 i.1))).filterMap Prod.snd = ps := by
  have parts : ((dmxInstances sl us).zipIdx.map (fun i => (i.1, s.dmxPart q sl i.2 i.1))).map Prod.snd = ps.map some := by
    rw [List.map_map]
    exact passes
  constructor
  · rw [List.find?_eq_none]
    intro p among
    have passed : p.2 ∈ ps.map some := parts ▸ List.mem_map_of_mem among
    obtain ⟨part, -, is⟩ := List.mem_map.1 passed
    simp [← is]
  · calc _ = (((dmxInstances sl us).zipIdx.map (fun i => (i.1, s.dmxPart q sl i.2 i.1))).map Prod.snd).filterMap id :=
        List.filterMap_map.symm
      _ = ps := by rw [parts, List.filterMap_map]; exact List.filterMap_some

/-- A transfer with host memory fails its token while the partition's function is not present (R514). -/
theorem State.dmxIssue_absent (host : sl.op = 6 ∨ sl.op = 7) (absent : s.fnPresent (s.partPort (s.partOfDie q)) (s.partOfDie q + 1) = false) :
    s.dmxIssue q sl us = (s.updSeq q (fun z => { z.openToken (natFld sl.w1 0 8) (dmxCause sl.op) 1 with
      soon := z.soon ++ [(natFld sl.w1 0 8, false)] }), none) := by
  simp only [State.dmxIssue, (State.dmxParts_pass passes).1]
  rw [if_pos ⟨host, by simp [absent]⟩]

/-- Any other transfer is under way, its remote transactions in the flows to their nodes (R192, R399). -/
theorem State.dmxIssue_begins (present : sl.op = 6 ∨ sl.op = 7 → s.fnPresent (s.partPort (s.partOfDie q)) (s.partOfDie q + 1) = true)
    {jobs : List (Nat × NetJob)} (cuts : jobs = if 3 ≤ sl.op ∧ sl.op ≤ 5 then
      ps.flatMap (fun p => (s.dmxJobs q sl.op (natFld sl.w1 0 8) p).map (fun j => (p.far, j))) else []) :
    s.dmxIssue q sl us = ((s.updSeq q (fun z => { z.openToken (natFld sl.w1 0 8) (dmxCause sl.op) 1 with
      transfers := z.transfers ++ [{ op := sl.op, token := natFld sl.w1 0 8, parts := ps, left := jobs.length }] })).each jobs
        (fun s j => s.enqueueJob j.1 (dmxClass j.1) j.2), none) := by
  obtain ⟨sound, parts⟩ := State.dmxParts_pass passes
  simp only [State.dmxIssue, sound, parts, cuts]
  rw [if_neg (by rintro ⟨host, absent⟩; simp [present host] at absent)]

end Passes
end Dmx

/-! ### Triggers and signals (R193) -/

section TriggerFields
variable (t : Trigger)

@[simp] theorem triggerWord_token : natFld (triggerWord t) 0 8 = t.token.toNat := by
  simp only [triggerWord, natFld_eq_div_mod]
  omega

@[simp] theorem triggerWord_index : natFld (triggerWord t) 8 16 = t.index.toNat := by
  simp only [triggerWord, natFld_eq_div_mod]
  omega

@[simp] theorem triggerWord_args : natFld (triggerWord t) 24 5 = t.rsArg := by
  simp only [triggerWord, natFld_eq_div_mod]
  omega

@[simp] theorem triggerWord_unused : natFld (triggerWord t) 29 3 = 0 := by
  simp only [triggerWord, natFld_eq_div_mod]
  omega

end TriggerFields

section Triggers
variable {s : State} {q : Nat} (run : s.running q = true)
include run

/-- A legal trigger or signal has its effect when its token, if it names one, is not pending (R193). -/
theorem State.slotCommand_trigger {sl : Slot} {t : State} (cls : 0xC ≤ sl.cls) (words : opWords sl.cls sl.op = some sl.nw)
    (fields : triggerFieldsOk sl = true) (free : ∀ tok, sl.token = some tok → (s.seq q).isPending tok = false)
    (effect : s.slotEffect q sl = (t, none)) : s.slotCommand q sl = t := by
  have legal : s.slotOk q (s.pcOf q) (s.seq q).after sl = true := by
    simp only [State.slotOk, words, if_neg (show ¬ sl.cls = 0 by omega), if_pos cls, fields]
    simp
  rw [State.slotCommand_effect run legal (Slot.waitSet_none (by omega)) (by omega) free, effect]
  · rfl
  · simp [Slot.isControl, orderClass]
    omega

theorem State.slotCommand_ctrig {t : Trigger} (free : (s.seq q).isPending t.token.toNat = false) :
    s.slotCommand q { cls := 0xC, op := 1, nw := 2, w1 := triggerWord t } = s.ctrigIssue q t.index.toNat t.token.toNat t.rsArg :=
  State.slotCommand_trigger run (by simp) rfl (by simp [triggerFieldsOk]) (by simp [Slot.token, free]) (by simp [State.slotEffect])

theorem State.slotCommand_btrig {mask : BitVec 12} {t : Trigger} (free : (s.seq q).isPending t.token.toNat = false) :
    s.slotCommand q { cls := 0xD, op := 1, nw := 2, low := mask.toNat * 2 ^ 8, w1 := triggerWord t } =
      s.btrigIssue q mask.toNat t.index.toNat t.token.toNat t.rsArg := by
  have names : natFld (mask.toNat * 2 ^ 8) 8 12 = mask.toNat := by
    rw [natFld_eq_div_mod]
    omega
  have unused : natFld (mask.toNat * 2 ^ 8) 0 8 = 0 := by
    rw [natFld_eq_div_mod]
    omega
  exact State.slotCommand_trigger run (by simp) rfl (by simp only [triggerFieldsOk, unused, triggerWord_unused]; rfl)
    (by simp [Slot.token, free]) (by simp only [State.slotEffect, names, triggerWord_index, triggerWord_token, triggerWord_args])

theorem State.slotCommand_bsig {sig : Fin 64} :
    s.slotCommand q { cls := 0xE, op := 1, nw := 1, low := sig.val * 2 ^ 14 } = s.signalLocal (s.partOfDie q) sig := by
  have signal : natFld (sig.val * 2 ^ 14) 14 6 = sig := by
    rw [natFld_eq_div_mod]
    omega
  have unused : natFld (sig.val * 2 ^ 14) 0 14 = 0 := by
    rw [natFld_eq_div_mod]
    omega
  exact State.slotCommand_trigger run (by simp) rfl (by simp only [triggerFieldsOk, unused]; rfl) (by simp [Slot.token])
    (by simp only [State.slotEffect, signal])

end Triggers

/-- A mask of 0 names no stack. -/
theorem State.maskStacks_zero (s : State) (q : Nat) : s.maskStacks q 0 = some [] := by
  rw [State.maskStacks, if_neg (by simp)]
  simp [bitsSet, natBit]

section Btrig
variable {s : State} {q mask index tok rs : Nat}

/-- A call that fails a check of R300 fails its token at the next step, with event 0x620. -/
theorem State.btrigIssue_fails {code : Nat} (checks : s.dispatchCode q mask index (s.triggerArgs q rs) = code) (fails : code ≠ 0) :
    s.btrigIssue q mask index tok rs = (s.callFailed (s.partOfDie q) index code tok mask).updSeq q (fun z =>
      { z.openToken tok 3 1 with soon := z.soon ++ [(tok, false)] }) := by
  subst checks
  exact if_pos fails

/-- A call that names no stack is done at the next step. -/
theorem State.btrigIssue_none (checks : s.dispatchCode q mask index (s.triggerArgs q rs) = 0) (names : s.maskStacks q mask = some []) :
    s.btrigIssue q mask index tok rs = s.updSeq q (fun z => { z.openToken tok 3 1 with soon := z.soon ++ [(tok, true)] }) := by
  simp only [State.btrigIssue, checks, names]
  rfl

/-- Any other call joins the queue of every stack that it names. -/
theorem State.btrigIssue_queued {n : Nat} {ns : List Nat} {args : List W64} (given : s.triggerArgs q rs = args)
    (checks : s.dispatchCode q mask index args = 0) (names : s.maskStacks q mask = some (n :: ns)) :
    s.btrigIssue q mask index tok rs = ((s.each (n :: ns) (fun s n =>
      ({ s with bases := s.bases.upd n (fun b => { b with queue := b.queue ++
        [{ lead := q, entry := index, token := tok, mask := mask, args := args }] }) } : State).countF (Reg.stkBeStatus n) 16 8 1)).updSeq q
          (fun z => z.openToken tok 3 (n :: ns).length)) := by
  subst given
  simp only [State.btrigIssue, checks, names]
  rfl

end Btrig

/-! ### The end of a transfer (R231) -/

/-- A transfer whose transactions are over, and whose host data are not held back, moves its data and completes a part of its token. -/
theorem execDmxTransferDone_ends {s u v : State} {q : Fin 4} {tok : BitVec 8} {host : List HostData} {ecc : List MemUpset} {t : DmxTransfer}
    {ok : Bool} (upset : s.silent.upset ecc = u) (found : (u.seq q).transfers.find? (fun t => t.token = tok.toNat) = some t)
    (drained : t.left = 0) (free : t.op = 6 ∨ t.op = 7 → u.vfHeld (u.partOfDie q) = false)
    (moves : (u.updSeq q (fun z => { z with transfers := z.transfers.filter (fun x => x.token ≠ t.token) })).dmxRun (u.partOfDie q) t host =
      (v, ok)) : exec (.dmxTransferDone q tok host ecc) s = .next (v.tokenPart q t.token (ok && !t.failed)) := by
  subst upset
  have goes : ¬ (t.left ≠ 0 ∨ ((t.op = 6 ∨ t.op = 7) ∧ (s.silent.upset ecc).vfHeld ((s.silent.upset ecc).partOfDie q) = true)) := by
    rintro (left | ⟨host, held⟩)
    · exact left drained
    · simp [free host] at held
  have part : ∀ (u : State) (f : Seq → Seq), (u.updSeq q f).partOfDie q = u.partOfDie q := fun _ _ => rfl
  show execDmxTransferDone q tok host ecc s = _
  rw [execDmxTransferDone, ← State.silent]
  simp only [found, if_neg goes, part, moves]

/-- Settles O21, operation by operation. -/
theorem asynchronousOperationsTakeEffect : Obligations.AsynchronousOperationsTakeEffect := by
  refine ⟨?dmx, ?triggers, ?signal, ?ends⟩
  case dmx =>
    rintro s q c op sel f us run among clusters cell fan store free is rfl
    have codes : 1 ≤ op ∧ op ≤ 7 ∧ exec c s = .next (s.slotCommand q (dmxOp op sel f)) := by
      simp only [List.mem_cons, Prod.mk.injEq, List.not_mem_nil, or_false] at among
      rcases among with ⟨rfl, rfl⟩ | ⟨rfl, rfl⟩ | ⟨rfl, rfl⟩ | ⟨rfl, rfl⟩ | ⟨rfl, rfl⟩ | ⟨rfl, rfl⟩ | ⟨rfl, rfl⟩
      all_goals exact ⟨by decide, by decide, rfl⟩
    obtain ⟨least, most, slot⟩ := codes
    have token := dmxOp_token op sel f
    have issues := slot.trans (congrArg Host.Outcome.next (State.slotCommand_dmx (us := us) run rfl (opWords_dmx ⟨least, most⟩) clusters cell
      (dmxFieldsOk_dmxOp op sel f fan store) (token.symm ▸ free)))
    rw [← dmxInstances_dmxOp op sel f us]
    refine ⟨fun i fails => ?_, fun ps passes => ⟨fun host absent => ?_, fun present jobs cuts => ?_⟩⟩
    · rw [issues, State.dmxIssue_fails fails]
      rfl
    · rw [issues, State.dmxIssue_absent passes host absent, token]
      rcases host with rfl | rfl <;> rfl
    · rw [issues, State.dmxIssue_begins passes present (token.symm ▸ cuts), token]
      rfl
  case triggers =>
    rintro s q t args run free rfl
    refine ⟨congrArg Host.Outcome.next (State.slotCommand_ctrig run free), fun mask code checks => ?_⟩
    have issues : exec (.btrig q mask t) s = .next (s.btrigIssue q mask.toNat t.index.toNat t.token.toNat t.rsArg) :=
      congrArg Host.Outcome.next (State.slotCommand_btrig run free)
    refine ⟨fun fails => ?_, fun sound empty => ?_, fun n ns sound names => ?_⟩
    · exact issues.trans (congrArg _ (State.btrigIssue_fails checks fails))
    · subst empty
      exact issues.trans (congrArg _ (State.btrigIssue_none (checks.trans sound) (s.maskStacks_zero q)))
    · exact issues.trans (congrArg _ (State.btrigIssue_queued rfl (checks.trans sound) names))
  case signal =>
    exact fun s q sig run => congrArg Host.Outcome.next (State.slotCommand_bsig run)
  case ends =>
    exact fun s u v q tok host ecc t ok => execDmxTransferDone_ends

end Sys2Proof.Machine


/-!
The engine operations (R180 to R191): a legal one acts at each engine that it addresses in turn, by issuing there or by waiting.
-/
namespace Sys2Proof.Machine

/-! ### An operation slot at the instances it addresses (R109) -/

section EngineSlot
variable {s : State} {q : Nat} {sl : Slot}

/-- A slot of an engine class that controls no order is an operation at the instances it addresses. -/
theorem State.slotEffect_engine (orders : orderClass sl.cls = true) : s.slotEffect q sl = s.slotOps q sl ((s.instances q sl).getD []) := by
  have bounds := orderClass_bounds orders
  unfold State.slotEffect
  split
  case h_6 => rfl
  all_goals omega

/-- A legal operation slot acts at each engine in turn; the first fault stops the recipe (R127). -/
theorem State.slotCommand_engine (run : s.running q = true) (orders : orderClass sl.cls = true) (operation : sl.op < 0x38)
    (legal : s.slotOk q (s.pcOf q) (s.seq q).after sl = true) {is : List (Nat × Nat)} (addressed : s.instances q sl = some is) :
    s.slotCommand q sl = State.stopIf (s.slotOps q sl is) q := by
  have bounds := orderClass_bounds orders
  have plain : sl.isControl = false := by
    simp [Slot.isControl, Nat.not_le.2 operation]
  rw [State.slotCommand_effect run legal (Slot.waitSet_none (by omega)) (by omega) (by simp [Slot.token_orderClass orders]) plain,
    State.slotEffect_engine orders, addressed, Option.getD_some]

variable {cls u k : Nat}

/-- At an engine that is not ready, or at which others wait, a slot waits behind them. -/
theorem State.slotAt_waits (busy : s.stepOf q < (s.engine q cls u k).readyAt ∨ (s.engine q cls u k).waiting ≠ []) :
    s.slotAt q cls u k sl = (s.updEngine q cls u k (fun e => { e with waiting := e.waiting ++ [sl] }), none) := by
  refine if_neg ?_
  rintro ⟨ready, empty⟩
  rcases busy with early | queued
  · exact absurd ready (Nat.not_le.2 early)
  · exact queued empty

/-- At a ready engine at which none waits it issues. -/
theorem State.slotAt_issues (ready : (s.engine q cls u k).readyAt ≤ s.stepOf q) (empty : (s.engine q cls u k).waiting = []) :
    s.slotAt q cls u k sl = s.issueOp q cls u k sl := if_pos ⟨ready, empty⟩

/-- The results of an operation that issues at a step, in flight until its latency has passed (R104). -/
def flightOf (now lat ii : Nat) (st : EngSt) (out : EngOut) : InFlight :=
  { visibleAt := now + lat, issuedAt := now, ii := ii, reads := st.reads, writes := out.writes }

theorem State.engine_updEngine (s : State) (q cls u k : Nat) (f : Engine → Engine) :
    (s.updEngine q cls u k f).engine q cls u k = f (s.engine q cls u k) := by
  rw [State.engine, State.updEngine, State.seq_updSeq]
  exact Tbl.get_upd_same _ _ _

/-- What an operation without a fault leaves: the engine, and its results in flight (R104, R107, R108). -/
def EngSt.issued (st : EngSt) (q cls u k : Nat) (sl : Slot) (now lat ii : Nat) (out : EngOut) : State :=
  (st.st.updEngine q cls u k (fun _ => { out.eng with readyAt := now + ii, order := out.eng.order.advance (orefGens sl.orefs) })).updSeq q
    (fun z => { z with inFlight := addInFlight z.inFlight (flightOf now lat ii st out) })

section Issued
variable (st : EngSt) (q cls u k : Nat) (sl : Slot) (now lat ii : Nat) (out : EngOut)

theorem EngSt.engine_issued : (st.issued q cls u k sl now lat ii out).engine q cls u k =
    { out.eng with readyAt := now + ii, order := out.eng.order.advance (orefGens sl.orefs) } := by
  rw [State.engine, EngSt.issued, State.seq_updSeq]
  exact State.engine_updEngine st.st q cls u k
    (fun _ => { out.eng with readyAt := now + ii, order := out.eng.order.advance (orefGens sl.orefs) })

theorem EngSt.inFlight_issued : ((st.issued q cls u k sl now lat ii out).seq q).inFlight =
    addInFlight (st.st.seq q).inFlight (flightOf now lat ii st out) := by
  rw [EngSt.issued, State.seq_updSeq, State.updEngine, State.seq_updSeq]

end Issued

section Issue
variable {lat ii : Nat} {st : EngSt} (timing : engineTiming (s.engine q cls u k) sl = (lat, ii))
include timing

/-- An operation without a fault has issued. -/
theorem State.issueOp_ok {out : EngOut}
    (runs : (engineRun q cls u k (s.engine q cls u k) sl).run ({ st := s, ii := ii } : EngSt) = (.ok out, st)) :
    s.issueOp q cls u k sl = (st.issued q cls u k sl (s.stepOf q) lat ii out, none) := by
  simp only [State.issueOp, timing, runs]
  rfl

/-- A fault is the recipe's, with the class, the virtual cluster and the cell (R127). -/
theorem State.issueOp_error {f : EngFault}
    (runs : (engineRun q cls u k (s.engine q cls u k) sl).run ({ st := s, ii := ii } : EngSt) = (.error f, st)) :
    s.issueOp q cls u k sl = (st.st, some { code := f.code, eclass := cls, u := u, k := f.cell.getD k }) := by
  simp only [State.issueOp, timing, runs]

end Issue

/-- A slot at one engine. -/
theorem State.slotOps_single (s : State) (q : Nat) (sl : Slot) (u k : Nat) : s.slotOps q sl [(u, k)] = s.slotAt q sl.cls u k sl := rfl

end EngineSlot

/-! ### The rows of the operations -/

/-- A row whose command carries out an operation slot of an engine class, over the memory as its upsets leave it. -/
structure EngineRow (s v : State) (q : Fin 4) (sel : Sel) (row : Instr × Nat × Nat × Nat × Nat × Nat × Nat) : Prop where
  command : exec row.1 s = .next (v.slotCommand q (engineOp row.2.1 row.2.2.1 row.2.2.2.1 sel row.2.2.2.2.1 row.2.2.2.2.2.1 row.2.2.2.2.2.2))
  orders : orderClass row.2.1 = true
  operation : row.2.2.1 < 0x38

theorem engineOp_congr {cls op nw mod w1 w2 v1 v2 : Nat} {sel : Sel} (first : w1 = v1) (second : w2 = v2) :
    engineOp cls op nw sel mod w1 w2 = engineOp cls op nw sel mod v1 v2 := by
  rw [first, second]

/-- What holds of every row of a table holds of a row that is in it. -/
theorem of_mem_table {α : Type} {P : α → Prop} {table : List α} {row : α} (all : ∀ x ∈ table, P x) (among : row ∈ table) : P row :=
  all row among

/-- Settles O22: each row is a slot of its class and operation, which acts at its instances in turn. -/
theorem engineOperationsIssue : Obligations.EngineOperationsIssue := by
  rintro s v q ecc sel m a b d e x y r1 r2 r3 dist c cls op nw mod w1 w2 u k rfl run among sl rfl legal
  have row : EngineRow s (s.upset ecc) q sel (c, cls, op, nw, mod, w1, w2) := by
    refine of_mem_table ?_ among
    simp only [List.forall_mem_cons, List.not_mem_nil, false_imp_iff, implies_true, and_true]
    and_intros
    all_goals exact ⟨congrArg (fun sl => Host.Outcome.next (State.slotCommand (s.upset ecc) q sl))
      (engineOp_congr (by simp [pair16]) (by simp [pair16])), rfl, by simp⟩
  have acts {is : List (Nat × Nat)} (addressed : State.instances (s.upset ecc) q (engineOp cls op nw sel mod w1 w2) = some is) :=
    row.command.trans (congrArg Host.Outcome.next (State.slotCommand_engine run row.orders row.operation legal addressed))
  refine ⟨fun is addressed => acts addressed, fun single => ?_⟩
  have once {r : State × Option StopInfo} 
      (at_one : State.slotAt (s.upset ecc) q cls u k (engineOp cls op nw sel mod w1 w2) = r) : exec c s = .next (State.stopIf r q) := by
    rw [acts single, State.slotOps_single]
    exact congrArg (fun r => Host.Outcome.next (State.stopIf r q)) at_one
  refine ⟨fun busy => once (State.slotAt_waits busy), fun ready empty lat ii st timing => ⟨fun out runs => ?issues, fun f runs => ?faults⟩⟩
  case issues =>
    exact ⟨_, once ((State.slotAt_issues ready empty).trans (State.issueOp_ok timing runs)), EngSt.engine_issued ..,
      EngSt.inFlight_issued .., rfl, rfl⟩
  case faults => exact once ((State.slotAt_issues ready empty).trans (State.issueOp_error timing runs))

end Sys2Proof.Machine


/-!
The commands that start, hold, abort, bind, save and restore a recipe (R105, R120 to R128, R141, R153, R234).
-/
namespace Sys2Proof.Machine

/-! ### Registers of the sequencer -/

section SeqRegs
variable (s : State) (q st cause : Nat)

/-- The state that SEQ_STATUS shows, and its freeze cause (R154). -/
theorem State.setSeqState_fields : (s.setSeqState q st cause).seqState q = st % 16 ∧
    (s.setSeqState q st cause).rdF (Reg.seqStatus q) 11 8 = cause % 16 := by
  constructor
  · rw [State.seqState, State.setSeqState, State.rdF_wrF_field _ _ _ _ _ _ _ (by decide) (by decide)]
    exact State.rdF_wrF_same _ _ _ _ _ (by decide) (by decide)
  · exact State.rdF_wrF_same _ _ _ _ _ (by decide) (by decide)

theorem State.rd_setSeqState_ne {a : Nat} (other : a ≠ Reg.seqStatus q) : (s.setSeqState q st cause).rd a = s.rd a := by
  rw [State.setSeqState, State.rd_wrF_ne _ _ _ _ other, State.rd_wrF_ne _ _ _ _ other]

theorem State.rd_updClx (f : Clx → Clx) (a : Nat) : (s.updClx q f).rd a = s.rd a := rfl

end SeqRegs

/-- Registers written with one value read as that value, whatever their addresses. -/
theorem State.rd_each_wr_const {α : Type} {dst : α → Nat} {v : W64} {k : α} {ks : List α} (mem : k ∈ ks) (s : State) :
    (s.each ks (fun s x => s.wr (dst x) v)).rd (dst k) = v := by
  unfold State.each
  induction ks using List.reverseRecOn with
  | nil => simp at mem
  | append_singleton ks x ih =>
    rw [List.foldl_append, List.foldl_cons, List.foldl_nil, State.rd_wr]
    split
    · rfl
    · rcases List.mem_append.1 mem with early | last
      · exact ih early
      · simp_all

/-! ### RECIPE_START (R153) -/

/-- The counters and the fault registers at the start of a recipe. -/
def State.countersCleared (s : State) (q : Nat) : State :=
  (((((((s.wr (Reg.seqStep q) 0).wr (Reg.seqPc q) 0).wr (Reg.seqCommits q) 0).wrF (Reg.seqFault q) 31 31 0).wr (Reg.seqFaultStep q) 0).wr
    (Reg.seqFaultPc q) 0).each (List.range 11) (fun s x => s.wr (Reg.seqStall q x) 0))

/-- A recipe started from a loaded one. -/
def State.recipeStarted (s : State) (q : Nat) : State :=
  ((((((s.updSeq q Seq.fresh).countersCleared q).updClx q (fun c => { c with counters := [], failedNo := [] })).wrF (Reg.clxLast q) 32 32
    0).setSeqState q 2 0).wrB (Reg.seqCtrl q) 0 false)

section Start
variable {s : State} {q : Nat}

theorem startRecipe_starts (lead : s.leadOf q = q) (loaded : s.seqState q = 1) (fit : s.gangFit q = true) : startRecipe q s = s.recipeStarted q :=
  if_pos ⟨lead, loaded, fit⟩

/-- The stall counters lie above the other registers of a sequencer. -/
theorem State.rd_each_seqStall_ne {a : Nat} (below : a < Reg.seqStall q 0) (ks : List Nat) (word : State → Nat → W64) :
    (s.each ks (fun s x => s.wr (Reg.seqStall q x) (word s x))).rd a = s.rd a :=
  State.rd_each_wr_ne (fun x _ => by simp only [Reg.seqStall] at below ⊢; omega) s

theorem State.countersCleared_counters : (s.countersCleared q).rd (Reg.seqStep q) = 0 ∧ (s.countersCleared q).rd (Reg.seqPc q) = 0 ∧
    (s.countersCleared q).rd (Reg.seqCommits q) = 0 ∧ (s.countersCleared q).rdF (Reg.seqFault q) 31 31 = 0 ∧
    ∀ x, x < 11 → (s.countersCleared q).rd (Reg.seqStall q x) = 0 := by
  refine ⟨?step, ?pc, ?commits, ?fault, fun x index => State.rd_each_wr_const (List.mem_range.2 index) _⟩
  case fault =>
    rw [State.rdF, State.countersCleared, State.rd_each_seqStall_ne, State.rd_wr_ne, State.rd_wr_ne]
    · exact State.rdF_wrF_same _ _ _ _ _ (by decide) (by decide)
    all_goals simp only [Reg.seqFault, Reg.seqFaultStep, Reg.seqFaultPc, Reg.seqStall]; omega
  case step =>
    rw [State.countersCleared, State.rd_each_seqStall_ne, State.rd_wr_ne, State.rd_wr_ne, State.rd_wrF_ne, State.rd_wr_ne, State.rd_wr_ne,
      State.rd_wr_same]
    all_goals simp only [Reg.seqStep, Reg.seqPc, Reg.seqCommits, Reg.seqFault, Reg.seqFaultStep, Reg.seqFaultPc, Reg.seqStall]; omega
  case pc =>
    rw [State.countersCleared, State.rd_each_seqStall_ne, State.rd_wr_ne, State.rd_wr_ne, State.rd_wrF_ne, State.rd_wr_ne, State.rd_wr_same]
    all_goals simp only [Reg.seqPc, Reg.seqCommits, Reg.seqFault, Reg.seqFaultStep, Reg.seqFaultPc, Reg.seqStall]; omega
  case commits =>
    rw [State.countersCleared, State.rd_each_seqStall_ne, State.rd_wr_ne, State.rd_wr_ne, State.rd_wrF_ne, State.rd_wr_same]
    all_goals simp only [Reg.seqCommits, Reg.seqFault, Reg.seqFaultStep, Reg.seqFaultPc, Reg.seqStall]; omega

theorem State.rd_countersCleared_ne {a : Nat} (fault : a ≠ Reg.seqFault q)
    (other : a ∉ [Reg.seqStep q, Reg.seqPc q, Reg.seqCommits q, Reg.seqFaultStep q, Reg.seqFaultPc q] ++ (List.range 11).map (Reg.seqStall q)) :
    (s.countersCleared q).rd a = s.rd a := by
  simp only [List.mem_append, List.mem_cons, List.not_mem_nil, List.mem_map, or_false, not_or, not_exists, not_and] at other
  obtain ⟨⟨step, pc, commits, faultStep, faultPc⟩, stalls⟩ := other
  rw [State.countersCleared, State.rd_each_wr_ne (fun x index same => stalls x index same.symm), State.rd_wr_ne _ _ faultPc,
    State.rd_wr_ne _ _ faultStep, State.rd_wrF_ne _ _ _ _ fault, State.rd_wr_ne _ _ commits, State.rd_wr_ne _ _ pc, State.rd_wr_ne _ _ step]

/-- A start sets SEQ_STATUS, SEQ_CTRL, CLX_LAST and the counters. -/
theorem State.rd_recipeStarted_ne {a : Nat} (status : a ≠ Reg.seqStatus q) (ctrl : a ≠ Reg.seqCtrl q) (last : a ≠ Reg.clxLast q) :
    (s.recipeStarted q).rd a = ((s.updSeq q Seq.fresh).countersCleared q).rd a := by
  rw [State.recipeStarted, State.rd_wrB_ne _ _ _ ctrl, State.rd_setSeqState_ne _ _ _ _ status, State.rd_wrF_ne _ _ _ _ last, State.rd_updClx]

theorem State.recipeStarted_counters : (s.recipeStarted q).rd (Reg.seqStep q) = 0 ∧ (s.recipeStarted q).rd (Reg.seqPc q) = 0 ∧
    (s.recipeStarted q).rd (Reg.seqCommits q) = 0 ∧ (s.recipeStarted q).rdF (Reg.seqFault q) 31 31 = 0 ∧
    ∀ x, x < 11 → (s.recipeStarted q).rd (Reg.seqStall q x) = 0 := by
  have kept {a : Nat} (status : a ≠ Reg.seqStatus q) (ctrl : a ≠ Reg.seqCtrl q) (last : a ≠ Reg.clxLast q) :=
    State.rd_recipeStarted_ne (s := s) status ctrl last
  obtain ⟨step, pc, commits, fault, stalls⟩ := State.countersCleared_counters (s := s.updSeq q Seq.fresh) (q := q)
  refine ⟨(kept ?_ ?_ ?_).trans step, (kept ?_ ?_ ?_).trans pc, (kept ?_ ?_ ?_).trans commits, (State.rdF_congr (kept ?_ ?_ ?_) 31 31).trans fault,
    fun x index => (kept ?_ ?_ ?_).trans (stalls x index)⟩
  all_goals
    simp only [Reg.seqStep, Reg.seqPc, Reg.seqCommits, Reg.seqFault, Reg.seqStall, Reg.seqStatus, Reg.seqCtrl, Reg.clxLast]
    omega

/-- SEQ_STATUS does not move with SEQ_CTRL. -/
theorem State.rdF_seqStatus_wrB (u : State) (i : Nat) (b : Bool) (hi lo : Nat) :
    (u.wrB (Reg.seqCtrl q) i b).rdF (Reg.seqStatus q) hi lo = u.rdF (Reg.seqStatus q) hi lo :=
  State.rdF_congr (State.rd_wrB_ne _ _ _ (by simp only [Reg.seqStatus, Reg.seqCtrl]; omega)) hi lo

theorem State.recipeStarted_status : (s.recipeStarted q).seqState q = 2 ∧ (s.recipeStarted q).rdF (Reg.seqStatus q) 11 8 = 0 ∧
    (s.recipeStarted q).rdB (Reg.seqCtrl q) 0 = false := by
  refine ⟨?_, ?_, State.rdB_wrB_same _ _ _ _ (by decide)⟩
  · rw [State.seqState, State.recipeStarted, State.rdF_seqStatus_wrB]
    exact (State.setSeqState_fields ..).1
  · rw [State.recipeStarted, State.rdF_seqStatus_wrB]
    exact (State.setSeqState_fields ..).2

theorem State.countersCleared_seqs : (s.countersCleared q).seqs = s.seqs := by
  rw [State.countersCleared, State.each_keeps State.seqs (fun s x => s.wr (Reg.seqStall q x) 0) (fun _ _ => rfl)]
  rfl

theorem State.countersCleared_mem : (s.countersCleared q).mem = s.mem := by
  rw [State.countersCleared, State.each_keeps State.mem (fun s x => s.wr (Reg.seqStall q x) 0) (fun _ _ => rfl)]
  rfl

theorem State.seq_recipeStarted : (s.recipeStarted q).seq q = (s.seq q).fresh := by
  rw [State.recipeStarted, State.seq_wrB, State.seq_setSeqState, State.seq, State.wrF_seqs, State.updClx_seqs, State.countersCleared_seqs]
  exact State.seq_updSeq ..

theorem State.mem_recipeStarted : (s.recipeStarted q).mem = s.mem := by
  rw [State.recipeStarted, State.wrB_mem, State.setSeqState, State.wrF_mem, State.wrF_mem, State.wrF_mem, State.updClx_mem,
    State.countersCleared_mem, State.updSeq_mem]

theorem State.recipeStarted_keeps : s.regsKeptBut (s.recipeStarted q) ([Reg.seqStep q, Reg.seqPc q, Reg.seqCommits q, Reg.seqFault q,
    Reg.seqFaultStep q, Reg.seqFaultPc q, Reg.clxLast q, Reg.seqStatus q, Reg.seqCtrl q] ++ (List.range 11).map (Reg.seqStall q)) := by
  intro a other
  simp only [List.mem_append, List.mem_cons, List.not_mem_nil, or_false, not_or] at other
  obtain ⟨⟨step, pc, commits, fault, faultStep, faultPc, last, status, ctrl⟩, stalls⟩ := other
  rw [State.rd_recipeStarted_ne status ctrl last, State.rd_countersCleared_ne fault, State.rd_updSeq]
  simp only [List.mem_append, List.mem_cons, List.not_mem_nil, or_false, not_or]
  exact ⟨⟨step, pc, commits, faultStep, faultPc⟩, stalls⟩

end Start

/-! ### CLU_COUNTER_CLEAR (R234) -/

section Clear
variable {s : State}

/-- A register that reads 0 does so after any register is set to 0. -/
theorem State.rd_wr_zero {a : Nat} (b : Nat) (zero : s.rd a = 0) : (s.wr b 0).rd a = 0 := by
  rw [State.rd_wr]
  split
  · rfl
  · exact zero

@[inherit_doc State.rd_wr_zero]
theorem State.rd_each_wr_zero {α : Type} {a : Nat} (dst : α → Nat) (ks : List α) (zero : s.rd a = 0) :
    (s.each ks (fun s x => s.wr (dst x) 0)).rd a = 0 := by
  unfold State.each
  induction ks generalizing s with
  | nil => exact zero
  | cons k ks ih => exact ih (State.rd_wr_zero _ zero)

theorem State.clearClusterCounters_zero (c : Nat) : (∀ x, x < 16 → (s.clearClusterCounters c).rd (Reg.cluExc c x) = 0) ∧
    (∀ k x, k < 16 → x < 12 → (s.clearClusterCounters c).rd (Reg.cluCellExc c k x) = 0) ∧
    (s.clearClusterCounters c).rd (Reg.cluEccCe c) = 0 ∧ (s.clearClusterCounters c).rd (Reg.cluEccUe c) = 0 ∧
    (s.clearClusterCounters c).rd (Reg.cluEccLast c) = 0 := by
  refine ⟨fun x index => ?_, fun k x cell index => ?_, ?_, ?_, State.rd_wr_same _ _ _⟩
  · refine State.rd_wr_zero _ (State.rd_wr_zero _ (State.rd_wr_zero _ (State.rd_each_wr_zero _ _ ?_)))
    exact State.rd_each_wr_const (List.mem_range.2 index) _
  · refine State.rd_wr_zero _ (State.rd_wr_zero _ (State.rd_wr_zero _ ?_))
    have cleared := State.rd_each_wr_const (dst := fun x => Reg.cluCellExc c (x / 12) (x % 12)) (v := 0)
      (List.mem_range.2 (show 12 * k + x < 192 by omega))
    simp only [show (12 * k + x) / 12 = k by omega, show (12 * k + x) % 12 = x by omega] at cleared
    exact cleared _
  · exact State.rd_wr_zero _ (State.rd_wr_zero _ (State.rd_wr_same _ _ _))
  · exact State.rd_wr_zero _ (State.rd_wr_same _ _ _)

end Clear

/-! ### SEQ_ABORT (R127, R128) -/

/-- What an event leaves in the recorder comes from the recorder alone. -/
theorem State.event_rcd_congr {s t : State} (same : t.rcd = s.rcd) (name : Nat) (unit : EvUnit) (detail : Nat) (part : Option Nat)
    (agent : Nat) : (t.event name unit detail part agent).rcd = (s.event name unit detail part agent).rcd := by
  rw [State.event, State.event, State.raise, State.raise, same]
  split <;> rfl

/-- What a step of a fold leaves as it is, the fold does. -/
theorem foldl_keeps {σ α β : Type} (part : σ → β) (f : σ → α → σ) (keeps : ∀ z x, part (f z x) = part z) (xs : List α) (z : σ) :
    part (xs.foldl f z) = part z := by
  induction xs generalizing z with
  | nil => rfl
  | cons x xs ih => exact (ih _).trans (keeps z x)

theorem Seq.cancelPrefetches_inFlight (z : Seq) (ts : List Nat) : (z.cancelPrefetches ts).inFlight = z.inFlight :=
  foldl_keeps Seq.inFlight (fun z (p : Prefetch) => z.setToken p.token .failed) (fun _ _ => rfl) _ z

section Abort
variable {s : State} {q : Nat} (f : StopInfo)

/-- The state with the event of a stop. -/
def State.stopRaised (s : State) (q : Nat) (f : StopInfo) : State :=
  if f.code = 0x08 then s.event 0x80D (part := some (s.partOfDie q)) (agent := Agent.sch.num)
  else s.event (0x600 + f.code) .none f.word.toNat (some (s.partOfDie q))

/-- The state with the fault registers of a stop. -/
def State.stopNoted (s : State) (q : Nat) (f : StopInfo) : State :=
  ((s.wr (Reg.seqFault q) f.word).wr (Reg.seqFaultStep q) (s.rd (Reg.seqStep q))).wr (Reg.seqFaultPc q) (s.rd (Reg.seqPc q))

/-- The state with the frozen cycles of the freeze in force counted under its cause (R101). -/
def State.frozenCounted (s : State) (q : Nat) : State :=
  (s.count (Reg.seqStall q (s.seq q).lastCause) (s.seq q).frozen).updSeq q (fun z => { z with frozen := 0 })

/-- The state with the results in flight of a stopped recipe written. -/
def State.stopLanded (s : State) (q : Nat) : State :=
  State.landAll (if (s.seq q).freeze = .no then s else s.frozenCounted q) q

/-- A sequencer that stops. -/
def Seq.stopping (z : Seq) : Seq :=
  { z.cancelPrefetches (List.range 256) with
    engines := z.engines.map (fun e => (e.1, e.2.halt)), endAt := none, freeze := .stopping, frozen := 0, passed := false, held := none }

/-- The state whose sequencer stops, its engines idle. -/
def State.stopIdle (s : State) (q : Nat) : State :=
  (s.updSeq q Seq.stopping).updSeq q (fun z => { z with engines := z.engines.filter (fun e => e.2 ≠ default) })

theorem State.stopRecipe_stages (can : s.canStop q = true) : s.stopRecipe q f =
    ((((((s.stopRaised q f).stopNoted q f).stopLanded q).stopIdle q).setSeqState q 3 0).settleAfter q).settleStop q :=
  if_neg (by simp [can])

theorem State.stopRaised_csr : (s.stopRaised q f).csr = s.csr := by
  unfold State.stopRaised
  split <;> exact State.event_csr ..

theorem State.rd_stopRaised (a : Nat) : (s.stopRaised q f).rd a = s.rd a := congrArg (Tbl.get · a) (State.stopRaised_csr f)

theorem State.stopNoted_words : (s.stopNoted q f).rd (Reg.seqFault q) = f.word ∧
    (s.stopNoted q f).rd (Reg.seqFaultStep q) = s.rd (Reg.seqStep q) ∧ (s.stopNoted q f).rd (Reg.seqFaultPc q) = s.rd (Reg.seqPc q) := by
  refine ⟨?_, ?_, ?_⟩
  · rw [State.stopNoted, State.rd_wr_ne, State.rd_wr_ne, State.rd_wr_same]
    all_goals simp only [Reg.seqFault, Reg.seqFaultStep, Reg.seqFaultPc]; omega
  · rw [State.stopNoted, State.rd_wr_ne, State.rd_wr_same]
    simp only [Reg.seqFaultStep, Reg.seqFaultPc]
    omega
  · exact State.rd_wr_same _ _ _

/-- A write that lands, racing or not, changes no register and records nothing. -/
theorem State.landOne_keeps (raced : Bool) (w : StoreWrite) :
    ((s.landOne q raced w).csr, (s.landOne q raced w).rcd) = (s.csr, s.rcd) := by
  cases raced with
  | false => rfl
  | true =>
    rw [State.landOne, if_pos rfl, State.landRacing]
    refine (State.each_keeps (fun s => (s.csr, s.rcd)) _ ?tile _ _).trans
      ((State.each_keeps (fun s => (s.csr, s.rcd)) _ ?piece _ _).trans rfl)
    case tile => exact fun _ _ => rfl
    case piece =>
      intro s p
      dsimp only
      split <;> rfl

theorem State.landAll_keeps : ((s.landAll q).csr, (s.landAll q).rcd) = (s.csr, s.rcd) :=
  State.each_keeps (fun s => (s.csr, s.rcd)) (fun s (f : InFlight) => s.each f.writes (fun s w => s.landOne q f.raced w))
    (fun _ f => State.each_keeps (fun s => (s.csr, s.rcd)) _ (fun _ w => State.landOne_keeps f.raced w) _ _) _ _

/-- A stop that lands its results counts the frozen cycles, and changes no other register. -/
theorem State.stopLanded_keeps : (∀ a, a < Reg.seqStall q 0 → (s.stopLanded q).rd a = s.rd a) ∧ (s.stopLanded q).rcd = s.rcd ∧
    ((s.stopLanded q).seq q).inFlight = [] := by
  refine ⟨fun a below => ?_, ?_, ?_⟩
  · refine (congrArg (Tbl.get · a) (Prod.ext_iff.1 State.landAll_keeps).1).trans ?_
    split
    · rfl
    · exact State.rd_count_ne _ _ (by simp only [Reg.seqStall] at below ⊢; omega)
  · refine (Prod.ext_iff.1 State.landAll_keeps).2.trans ?_
    split <;> rfl
  · rw [State.stopLanded, State.landAll, State.seq_updSeq]

/-- The last stages of a stop change SEQ_STATUS and SEQ_CTRL, whatever is pending. -/
theorem State.settled_keeps : (∀ a, a ≠ Reg.seqStatus q → a ≠ Reg.seqCtrl q → ((s.settleAfter q).settleStop q).rd a = s.rd a) ∧
    ((s.settleAfter q).settleStop q).rcd = s.rcd ∧ (((s.settleAfter q).settleStop q).seq q).inFlight = (s.seq q).inFlight ∧
    (((s.settleAfter q).settleStop q).seqState q = 8 ∨ ((s.settleAfter q).settleStop q).seqState q = s.seqState q) := by
  have landed : ((s.settleAfter q).seq q).inFlight = (s.seq q).inFlight := by
    rw [State.settleAfter, State.seq_updSeq]
    refine foldl_keeps Seq.inFlight _ (fun z t => ?_) _ _
    split <;> rfl
  unfold State.settleStop
  split
  · refine ⟨fun a status ctrl => ?_, rfl, ?_, .inl ?_⟩
    · rw [State.rd_wrB_ne _ _ _ ctrl, State.rd_setSeqState_ne _ _ _ _ status]
      rfl
    · rw [State.seq_wrB, State.seq_setSeqState, State.seq_updSeq]
      exact landed
    · rw [State.seqState, State.rdF_seqStatus_wrB]
      exact (State.setSeqState_fields ..).1
  · exact ⟨fun _ _ _ => rfl, rfl, landed, .inr rfl⟩

/-- The end of a stop, from the state with the results written. -/
theorem State.stopIdle_settled :
    (∀ a, a ≠ Reg.seqStatus q → a ≠ Reg.seqCtrl q → ((((s.stopIdle q).setSeqState q 3 0).settleAfter q).settleStop q).rd a = s.rd a) ∧
    ((((s.stopIdle q).setSeqState q 3 0).settleAfter q).settleStop q).rcd = s.rcd ∧
    (((((s.stopIdle q).setSeqState q 3 0).settleAfter q).settleStop q).seq q).inFlight = (s.seq q).inFlight ∧
    ((((s.stopIdle q).setSeqState q 3 0).settleAfter q).settleStop q).seqState q ≠ 2 := by
  obtain ⟨regs, recorded, inFlight, state⟩ := State.settled_keeps (s := (s.stopIdle q).setSeqState q 3 0) (q := q)
  refine ⟨fun a status ctrl => ?_, recorded, inFlight.trans ?_, ?_⟩
  · rw [regs a status ctrl, State.rd_setSeqState_ne _ _ _ _ status]
    rfl
  · rw [State.seq_setSeqState, State.stopIdle, State.seq_updSeq, State.seq_updSeq]
    exact Seq.cancelPrefetches_inFlight _ _
  · rw [(State.setSeqState_fields ..).1] at state
    omega

/-- What a stop reports, and what it leaves of the sequencer. -/
theorem State.stopRecipe_reports (can : s.canStop q = true) : (s.stopRecipe q f).seqState q ≠ 2 ∧
    (s.stopRecipe q f).rd (Reg.seqFault q) = f.word ∧ (s.stopRecipe q f).rd (Reg.seqFaultStep q) = s.rd (Reg.seqStep q) ∧
    (s.stopRecipe q f).rd (Reg.seqFaultPc q) = s.rd (Reg.seqPc q) ∧ ((s.stopRecipe q f).seq q).inFlight = [] ∧
    (s.stopRecipe q f).rcd = (s.stopRaised q f).rcd := by
  obtain ⟨fault, step, pc⟩ := State.stopNoted_words (s := s.stopRaised q f) (q := q) f
  obtain ⟨landedRegs, landedRcd, landed⟩ := State.stopLanded_keeps (s := (s.stopRaised q f).stopNoted q f) (q := q)
  obtain ⟨regs, recorded, inFlight, state⟩ := State.stopIdle_settled (s := ((s.stopRaised q f).stopNoted q f).stopLanded q) (q := q)
  have kept {a : Nat} (status : a ≠ Reg.seqStatus q) (ctrl : a ≠ Reg.seqCtrl q) (below : a < Reg.seqStall q 0) :=
    (regs a status ctrl).trans (landedRegs a below)
  rw [State.rd_stopRaised] at step pc
  rw [State.stopRecipe_stages f can]
  refine ⟨state, (kept ?_ ?_ ?_).trans fault, (kept ?_ ?_ ?_).trans step, (kept ?_ ?_ ?_).trans pc, inFlight.trans landed,
    recorded.trans landedRcd⟩
  all_goals
    simp only [Reg.seqFault, Reg.seqFaultStep, Reg.seqFaultPc, Reg.seqStatus, Reg.seqCtrl, Reg.seqStall]
    omega

end Abort

/-! ### CONTEXT_SAVE (R121 to R123, R250) -/

section Save
variable {s t : State} {q : Nat}

/-- Slabs set to zero. -/
def State.zeroSlabs (s : State) (ys : List Nat) : State := s.each ys (fun s y => s.zeroRange (dpaOfFrame (s.slabFrame y)) 0x200000)

/-- The context-save region of one die of a gang, written. -/
def State.saveRegion (cells : List (Nat × Byte)) (syn : Tbl W32) (s : State) (d : Nat × Nat) : State :=
  let x := 4 + d.1
  if !s.rdB (Reg.hubDescW0 x) 0 then s
  else
    let s := s.zeroSlabs (s.slabsOf x)
    let mine := fun (u : Nat) => decide (u / 15 = d.2)
    { s with
      mem := Tbl.addAll s.mem ((cells.filter (fun c => mine (c.1 / 0x2000000))).filterMap (fun c =>
        (s.slabDpa (s.descHandle x) (shareOffset c.1)).map (fun a => (a, c.2))))
      syn := s.syn.addAll ((syn.filter (fun c => mine (c.1 / 8192))).filterMap (fun c =>
        (s.slabDpa (s.descHandle x) (shareOffset (c.1 * 4096))).map (fun a => (a / 4096, c.2)))) }

theorem State.saveRegions_eq (cells : List (Nat × Byte)) (syn : Tbl W32) :
    s.saveRegions q cells syn = s.each (s.gang q).zipIdx (State.saveRegion cells syn) := rfl

/-- What the translation of a handle reads: the registers, and whether their protected values can be used. -/
def State.regsAndChecks (s : State) : Tbl W64 × Tbl Bool := (s.csr, s.cpBad)

theorem State.zeroSlabs_regsAndChecks (ys : List Nat) : (s.zeroSlabs ys).regsAndChecks = s.regsAndChecks :=
  State.each_keeps State.regsAndChecks (fun s y => s.zeroRange (dpaOfFrame (s.slabFrame y)) 0x200000) (fun _ _ => rfl) _ _

theorem State.saveRegion_regsAndChecks (cells : List (Nat × Byte)) (syn : Tbl W32) (s : State) (d : Nat × Nat) :
    (s.saveRegion cells syn d).regsAndChecks = s.regsAndChecks := by
  unfold State.saveRegion
  dsimp only
  split
  · rfl
  · exact State.zeroSlabs_regsAndChecks _

theorem State.saveRegions_regsAndChecks (cells : List (Nat × Byte)) (syn : Tbl W32) :
    (s.saveRegions q cells syn).regsAndChecks = s.regsAndChecks := by
  rw [State.saveRegions_eq]
  exact State.each_keeps State.regsAndChecks _ (State.saveRegion_regsAndChecks cells syn) _ _

/-- A byte outside slabs stays when they are set to zero. -/
theorem State.get_mem_zeroSlabs {a : Nat} {ys : List Nat}
    (apart : ∀ y ∈ ys, a < dpaOfFrame (s.slabFrame y) ∨ dpaOfFrame (s.slabFrame y) + 0x200000 ≤ a) :
    Tbl.get (s.zeroSlabs ys).mem a = Tbl.get s.mem a := by
  unfold State.zeroSlabs State.each
  induction ys generalizing s with
  | nil => rfl
  | cons y ys ih =>
    refine (ih (s := s.zeroRange _ _) fun z later => apart z (List.mem_cons_of_mem _ later)).trans ?_
    refine (Tbl.get_clear _ _ _ _ (by omega)).trans (if_neg ?_)
    have := apart y List.mem_cons_self
    omega

theorem shareOffset_lt (a : Nat) : shareOffset a < 0x40000000 := by
  simp only [shareOffset, shareBytes]
  omega

/-- Whether a byte lies outside a die's context-save region. -/
def State.outsideRegion (s : State) (a d : Nat) : Prop :=
  (∀ off, off < 0x40000000 → s.slabDpa (s.descHandle (4 + d)) off ≠ some a) ∧
    ∀ y, y ∈ s.slabsOf (4 + d) → a < dpaOfFrame (s.slabFrame y) ∨ dpaOfFrame (s.slabFrame y) + 0x200000 ≤ a

/-- A region is read from the registers and their checks alone. -/
theorem State.outsideRegion_congr (same : t.regsAndChecks = s.regsAndChecks) (a d : Nat) : t.outsideRegion a d ↔ s.outsideRegion a d := by
  obtain ⟨regs, checks⟩ := Prod.mk.inj same
  cases s
  cases t
  cases regs
  cases checks
  rfl

/-- A byte outside a region stays when the region is written. -/
theorem State.get_mem_saveRegion {a : Nat} {d : Nat × Nat} (apart : s.outsideRegion a d.1) (cells : List (Nat × Byte)) (syn : Tbl W32) :
    Tbl.get (s.saveRegion cells syn d).mem a = Tbl.get s.mem a := by
  unfold State.saveRegion
  dsimp only
  split
  · rfl
  · have same := State.zeroSlabs_regsAndChecks (s := s) (s.slabsOf (4 + d.1))
    obtain ⟨images, -⟩ := (State.outsideRegion_congr same a d.1).2 apart
    refine (Tbl.get_addAll _ _ _).trans ?_
    rw [List.filter_eq_nil_iff.2 fun e image => ?other]
    · exact State.get_mem_zeroSlabs apart.2
    case other =>
      simp only [List.mem_filterMap, Option.map_eq_some_iff] at image
      obtain ⟨c, -, b, maps, rfl⟩ := image
      simp only [decide_eq_true_eq]
      rintro rfl
      exact images _ (shareOffset_lt _) maps

/-- A byte outside every region of the gang stays when a context is saved. -/
theorem State.get_mem_saveRegions {a : Nat} (apart : ∀ d ∈ s.gang q, s.outsideRegion a d) (cells : List (Nat × Byte)) (syn : Tbl W32) :
    Tbl.get (s.saveRegions q cells syn).mem a = Tbl.get s.mem a := by
  have regions : ∀ (ds : List (Nat × Nat)) (t : State), (∀ d ∈ ds, t.outsideRegion a d.1) →
      Tbl.get (t.each ds (State.saveRegion cells syn)).mem a = Tbl.get t.mem a := by
    intro ds
    induction ds with
    | nil => exact fun _ _ => rfl
    | cons d ds ih =>
      intro t apart
      have same := State.saveRegion_regsAndChecks cells syn t d
      refine (ih _ fun e later => (State.outsideRegion_congr same a e.1).2 (apart e (List.mem_cons_of_mem _ later))).trans ?_
      exact State.get_mem_saveRegion (apart d List.mem_cons_self) cells syn
  rw [State.saveRegions_eq]
  exact regions _ _ fun d mem => apart d.1 (List.fst_mem_of_mem_zipIdx mem)

/-- The slab entries of a handle below 1 GiB have numbers below 2^20 (R252, R257). -/
theorem State.slabOf_lt {h off : Nat} (low : off < 0x40000000) : (s.slabOf h off).1 < 2 ^ 20 := by
  have base := fld_lt (s.rd (Reg.hubDescW2 (handleIndex h))) 18 0
  have width : 2 ^ s.rdF (Reg.hubDescW0 (handleIndex h)) 20 18 ≤ 2 ^ 7 :=
    Nat.pow_le_pow_right (by decide) (Nat.le_of_lt_succ (fld_lt (s.rd (Reg.hubDescW0 (handleIndex h))) 20 18))
  have positive : 0 < 2 ^ s.rdF (Reg.hubDescW0 (handleIndex h)) 20 18 := Nat.two_pow_pos _
  simp only [State.slabOf, State.rdF] at *
  generalize 2 ^ fld (s.rd (Reg.hubDescW0 (handleIndex h))) 20 18 = w at *
  have row : off / 4096 / (512 * w) * w ≤ off / 4096 / 512 := by
    rw [← Nat.div_div_eq_div_mul]
    exact Nat.div_mul_le_self _ _
  have column := Nat.mod_lt (off / 4096) positive
  omega

/-- The region of a die stays where it is when a register of a sequencer counts. -/
theorem State.outsideRegion_count {a d r : Nat} (die : d < 4) (seqReg : 0x20005000000 ≤ r) (n : Nat) :
    (s.count r n).outsideRegion a d ↔ s.outsideRegion a d := by
  have low {b : Nat} (below : b < 0x20005000000) : (s.count r n).rd b = s.rd b := State.rd_count_ne _ _ (by omega)
  have w0 (hi lo : Nat) : (s.count r n).rdF (Reg.hubDescW0 (4 + d)) hi lo = s.rdF (Reg.hubDescW0 (4 + d)) hi lo :=
    State.rdF_congr (low (by simp only [Reg.hubDescW0]; omega)) hi lo
  have w2 (hi lo : Nat) : (s.count r n).rdF (Reg.hubDescW2 (4 + d)) hi lo = s.rdF (Reg.hubDescW2 (4 + d)) hi lo :=
    State.rdF_congr (low (by simp only [Reg.hubDescW2]; omega)) hi lo
  have entry {y : Nat} (number : y < 2 ^ 20) : (s.count r n).rd (Reg.hubSlab y) = s.rd (Reg.hubSlab y) :=
    low (by simp only [Reg.hubSlab]; omega)
  have handle : (s.count r n).descHandle (4 + d) = s.descHandle (4 + d) := by rw [State.descHandle, w0, State.descHandle]
  have index : handleIndex (s.descHandle (4 + d)) = 4 + d := by
    simp only [handleIndex, State.descHandle]
    omega
  have slabs : (s.count r n).slabsOf (4 + d) = s.slabsOf (4 + d) := by
    rw [State.slabsOf, State.descSlabs, State.descBase, w0, w2, State.slabsOf, State.descSlabs, State.descBase]
  have place (off : Nat) : (s.count r n).slabOf (s.descHandle (4 + d)) off = s.slabOf (s.descHandle (4 + d)) off := by
    simp only [State.slabOf, index, w0, w2]
  rw [State.outsideRegion, State.outsideRegion, handle, slabs]
  refine and_congr (forall₂_congr fun off inside => ?_) (forall₂_congr fun y mem => ?_)
  · have number := State.slabOf_lt (s := s) (h := s.descHandle (4 + d)) inside
    simp only [State.slabDpa, place, entry number]
    rfl
  · have number : y < 2 ^ 20 := by
      obtain ⟨k, range, rfl⟩ := List.mem_map.1 mem
      have count := List.mem_range.1 range
      have base := fld_lt (s.rd (Reg.hubDescW2 (4 + d))) 18 0
      have slabs := fld_lt (s.rd (Reg.hubDescW0 (4 + d))) 50 32
      simp only [State.descSlabs, State.descBase, State.rdF] at *
      omega
    rw [State.slabFrame, State.rdF_congr (entry number), State.rdF_congr (entry number), State.slabFrame]

/-- The context of a recipe, as a save keeps it. -/
def State.contextOf (s : State) (q : Nat) : Context Seq :=
  { seq := { s.seq q with frames := [], buffer := [] }, store := (s.storeImage q).1, syn := (s.storeImage q).2, step := s.rd (Reg.seqStep q),
    pc := s.rd (Reg.seqPc q), commits := s.rd (Reg.seqCommits q),
    stalls := (List.range 11).map (fun x => s.rd (Reg.seqStall q x)), counters := (s.clxs.get q).counters }

/-- The state with the context of a recipe saved. -/
def State.contextSaved (s : State) (q : Nat) : State :=
  let u := s.saveRegions q (s.storeImage q).1 (s.storeImage q).2
  ((({ u with saved := u.saved.set q (some (s.contextOf q)) } : State).updSeq q (fun z => { z with freeze := .switch })).setSeqState q 6 0)

theorem saveContext_saves (hold : (s.seq q).freeze = .hold) (cycles : Nat) :
    saveContext q cycles s = (s.count (Reg.seqStall q 10) cycles).contextSaved q :=
  if_neg (not_not_intro hold)

theorem State.contextSaved_saved : (s.contextSaved q).saved.get q = some (s.contextOf q) := Tbl.get_set_same _ _ _

theorem State.contextSaved_mem : (s.contextSaved q).mem = (s.saveRegions q (s.storeImage q).1 (s.storeImage q).2).mem := rfl

/-- A save changes no register but SEQ_STATUS. -/
theorem State.rd_contextSaved_ne {a : Nat} (status : a ≠ Reg.seqStatus q) : (s.contextSaved q).rd a = s.rd a := by
  have same := State.saveRegions_regsAndChecks (s := s) (q := q) (s.storeImage q).1 (s.storeImage q).2
  rw [State.contextSaved, State.rd_setSeqState_ne _ _ _ _ status, State.rd_updSeq]
  exact congrArg (Tbl.get · a) (Prod.mk.inj same).1

/-- The dies of a gang are dies. -/
theorem State.gang_lt {d : Nat} (mem : d ∈ s.gang q) : d < 4 :=
  List.mem_range.1 (List.mem_filter.1 mem).1

end Save

/-! ### CONTEXT_RESTORE (R124, R155, R157) -/

section Restore
variable {s : State} {q : Nat} (cycles : Nat) (ctx : Context Seq)

/-- The registers of a sequencer with those of a context. -/
def State.registersRestored (s : State) (q cycles : Nat) (ctx : Context Seq) : State :=
  ((((((s.wr (Reg.seqStep q) ctx.step).wr (Reg.seqPc q) ctx.pc).wr (Reg.seqCommits q) ctx.commits).each ctx.stalls.zipIdx
    (fun s v => s.wr (Reg.seqStall q v.2) v.1)).count (Reg.seqStall q 10) cycles).wrF (Reg.seqFault q) 31 31 0)

/-- A sequencer with a context restored, over restored stores. -/
def State.contextRestored (s : State) (q cycles : Nat) (ctx : Context Seq) : State :=
  ((((s.registersRestored q cycles ctx).updClx q (fun c => { c with counters := ctx.counters })).updSeq q
    (fun _ => { ctx.seq with freeze := .no, frozen := 0, passed := true })).setSeqState q 2 0)

/-- Writes of stall counters, however many, leave the registers below them. -/
theorem State.rd_stallsRestored_ne {a : Nat} (below : a < Reg.seqStall q 0) (stalls : List (W64 × Nat)) :
    (s.each stalls (fun s v => s.wr (Reg.seqStall q v.2) v.1)).rd a = s.rd a :=
  State.each_keeps (State.rd · a) (fun s (v : W64 × Nat) => s.wr (Reg.seqStall q v.2) v.1)
    (fun s v => State.rd_wr_ne s _ (by simp only [Reg.seqStall] at below ⊢; omega)) s stalls

theorem State.registersRestored_words : (s.registersRestored q cycles ctx).rd (Reg.seqStep q) = ctx.step ∧
    (s.registersRestored q cycles ctx).rd (Reg.seqPc q) = ctx.pc ∧ (s.registersRestored q cycles ctx).rd (Reg.seqCommits q) = ctx.commits ∧
    (s.registersRestored q cycles ctx).rdF (Reg.seqFault q) 31 31 = 0 := by
  have kept {a : Nat} (fault : a ≠ Reg.seqFault q) (below : a < Reg.seqStall q 0) : (s.registersRestored q cycles ctx).rd a =
      (((s.wr (Reg.seqStep q) ctx.step).wr (Reg.seqPc q) ctx.pc).wr (Reg.seqCommits q) ctx.commits).rd a := by
    rw [State.registersRestored, State.rd_wrF_ne _ _ _ _ fault, State.rd_count_ne _ _ (by simp only [Reg.seqStall] at below ⊢; omega),
      State.rd_stallsRestored_ne below]
  refine ⟨(kept ?_ ?_).trans ?step, (kept ?_ ?_).trans ?pc, (kept ?_ ?_).trans (State.rd_wr_same ..),
    State.rdF_wrF_same _ _ _ _ _ (by decide) (by decide)⟩
  case step =>
    rw [State.rd_wr_ne, State.rd_wr_ne, State.rd_wr_same]
    all_goals simp only [Reg.seqStep, Reg.seqPc, Reg.seqCommits]; omega
  case pc =>
    rw [State.rd_wr_ne, State.rd_wr_same]
    simp only [Reg.seqPc, Reg.seqCommits]
    omega
  all_goals
    simp only [Reg.seqStep, Reg.seqPc, Reg.seqCommits, Reg.seqFault, Reg.seqStall]
    omega

/-- Registers restored leave memory and its checks. -/
theorem State.registersRestored_mem : (s.registersRestored q cycles ctx).mem = s.mem ∧ (s.registersRestored q cycles ctx).syn = s.syn := by
  have stalls (u : State) := State.each_keeps (fun s => (s.mem, s.syn)) (fun s (v : W64 × Nat) => s.wr (Reg.seqStall q v.2) v.1)
    (fun _ _ => rfl) u ctx.stalls.zipIdx
  simp only [Prod.mk.injEq] at stalls
  exact stalls _

theorem State.rd_contextRestored_ne {a : Nat} (status : a ≠ Reg.seqStatus q) :
    (s.contextRestored q cycles ctx).rd a = (s.registersRestored q cycles ctx).rd a := by
  rw [State.contextRestored, State.rd_setSeqState_ne _ _ _ _ status, State.rd_updSeq, State.rd_updClx]

theorem State.seq_contextRestored :
    (s.contextRestored q cycles ctx).seq q = { ctx.seq with freeze := .no, frozen := 0, passed := true } := by
  rw [State.contextRestored, State.seq_setSeqState, State.seq_updSeq]

theorem State.contextRestored_mem :
    (s.contextRestored q cycles ctx).mem = s.mem ∧ (s.contextRestored q cycles ctx).syn = s.syn := by
  rw [State.contextRestored, State.setSeqState, State.wrF_mem, State.wrF_mem, State.updSeq_mem, State.updClx_mem,
    State.wrF_syn, State.wrF_syn, State.updSeq_syn, State.updClx_syn]
  exact State.registersRestored_mem cycles ctx

variable {ctx} in
theorem restoreContext_restores {binds : List (List Nat)} (saved : s.saved.get q = some ctx)
    (ready : s.seqState q = 0 ∨ s.seqState q = 1 ∨ s.seqState q = 6 ∨ s.seqState q = 7 ∨ s.seqState q = 8)
    (length : binds.length = (s.gang q).length) (ok : ((s.gang q).zip binds).all (fun b => s.bindingOk b.1 b.2) = true) {u : State}
    (bound : (s.each ((s.gang q).zip binds) (fun s b => s.wr (Reg.seqVbind b.1) (vbindWord b.2))).readRegions q = u) :
    restoreContext q cycles binds s =
      ((u.loadStores q (u.savedStores q ctx).1 (u.savedStores q ctx).2).contextRestored q cycles ctx).seqGoOn q := by
  subst bound
  unfold restoreContext
  rw [saved]
  exact if_pos ⟨ready, length, ok⟩

end Restore

/-- Settles O18, a command at a time. A start, a save and a restore are named states whose registers and memory have lemmas of their own; an
abort is what every stop reports; the frame of a save is that a region is read from registers that the save's count leaves. -/
theorem sequencerCommandsTakeEffect : Obligations.SequencerCommandsTakeEffect := by
  refine ⟨?start, ?unfit, ?hold, ?abort, ?bind, ?save, ?restore, ?clear⟩
  case start =>
    intro s q lead loaded fit
    obtain ⟨step, pc, commits, fault, stalls⟩ := State.recipeStarted_counters (s := s) (q := q)
    obtain ⟨state, cause, ctrl⟩ := State.recipeStarted_status (s := s) (q := q)
    refine ⟨s.recipeStarted q, congrArg Host.Outcome.next (startRecipe_starts lead loaded fit), state, cause, ?_, ?_, commits, fault, stalls, ctrl,
      State.seq_recipeStarted, State.mem_recipeStarted, State.recipeStarted_keeps⟩
    · rw [State.stepOf, step]; rfl
    · rw [State.pcOf, State.rdF, pc]; rfl
  case unfit =>
    intro s q unfit
    exact congrArg Host.Outcome.next (if_neg (by simp [unfit]))
  case hold =>
    intro s q lead
    have held (on : Bool) : setHold q on s = if (!on) = true ∧ (s.seq q).freeze = .hold then
        ((s.wrB (Reg.seqCtrl q) 1 on).updSeq q (fun z => { z with passed := true })).resume q else s.wrB (Reg.seqCtrl q) 1 on :=
      if_neg (not_not_intro lead)
    refine ⟨congrArg Host.Outcome.next ((held true).trans (if_neg (by simp))), fun other => ?_, fun hold => ?_⟩
    · exact congrArg Host.Outcome.next ((held false).trans (if_neg (by simp [other])))
    · exact congrArg Host.Outcome.next ((held false).trans (if_pos ⟨rfl, hold⟩))
  case abort =>
    intro s q lead can
    have ready : (s.wrB (Reg.seqCtrl q) 2 true).canStop q = true := by
      rw [State.canStop, State.seqState, State.rdF_seqStatus_wrB]
      exact can
    have sameMap : (s.wrB (Reg.seqCtrl q) 2 true).partOfDie q = s.partOfDie q :=
      State.partOfDie_congr (State.rd_wrB_ne _ _ _ (by simp only [Reg.secPartMap, Reg.seqCtrl]; omega)) _
    obtain ⟨state, fault, step, pc, landed, recorded⟩ := State.stopRecipe_reports { code := 0x08 } ready
    rw [State.rd_wrB_ne _ _ _ (by simp only [Reg.seqStep, Reg.seqCtrl]; omega)] at step
    rw [State.rd_wrB_ne _ _ _ (by simp only [Reg.seqPc, Reg.seqCtrl]; omega)] at pc
    refine ⟨_, congrArg Host.Outcome.next (if_pos ⟨lead, can⟩), state, ?_, ?_, step, pc, landed, recorded.trans ?_⟩
    · rw [State.rdF, fault]
      decide
    · rw [State.rdB, fault]
      decide
    · rw [State.stopRaised, if_pos rfl, sameMap]
      exact State.event_rcd_congr (State.wrB_rcd ..) ..
  case bind =>
    intro s d v
    refine ⟨fun path free => ?_, fun ag path refused => ?_, fun ag path => congrArg Host.Outcome.next (State.csrAccess_silent _ _ path)⟩
    · exact congrArg Host.Outcome.next ((State.csrAccess_served _ _ path).trans (if_neg (by simpa using free)))
    · exact congrArg Host.Outcome.next ((State.csrAccess_served _ _ path).trans (if_pos refused))
  case save =>
    intro s q cycles hold
    have counted {a : Nat} (other : a ≠ Reg.seqStall q 10) : (s.count (Reg.seqStall q 10) cycles).rd a = s.rd a := State.rd_count_ne _ _ other
    have gang : (s.count (Reg.seqStall q 10) cycles).gang q = s.gang q :=
      congrArg (bitsSet · 4) (State.rdF_congr (counted (by simp only [Reg.seqStatus, Reg.seqStall]; omega)) 19 16)
    refine ⟨_, _, congrArg Host.Outcome.next (saveContext_saves hold cycles), (State.setSeqState_fields ..).1, State.contextSaved_saved,
      counted ?_, counted ?_, counted ?_, rfl, rfl, State.contextSaved_mem, fun a apart => ?memory, fun a other => ?registers⟩
    case memory =>
      refine (State.get_mem_saveRegions (fun d mem => ?_) _ _).trans rfl
      rw [gang] at mem
      exact (State.outsideRegion_count (State.gang_lt mem) (by simp only [Reg.seqStall]; omega) cycles).2 (apart d mem)
    case registers =>
      simp only [List.mem_cons, List.not_mem_nil, or_false, not_or] at other
      exact (State.rd_contextSaved_ne other.2).trans (counted other.1)
    all_goals
      simp only [Reg.seqStep, Reg.seqPc, Reg.seqCommits, Reg.seqStall]
      omega
  case restore =>
    intro s u q cycles binds ctx saved bound ready length ok
    obtain ⟨step, pc, commits, fault⟩ := State.registersRestored_words (q := q) cycles ctx
      (s := u.loadStores q (u.savedStores q ctx).1 (u.savedStores q ctx).2)
    have kept {a : Nat} (status : a ≠ Reg.seqStatus q) := State.rd_contextRestored_ne (q := q) cycles ctx status
      (s := u.loadStores q (u.savedStores q ctx).1 (u.savedStores q ctx).2)
    obtain ⟨mem, syn⟩ := State.contextRestored_mem (q := q) cycles ctx (s := u.loadStores q (u.savedStores q ctx).1 (u.savedStores q ctx).2)
    refine ⟨_, congrArg Host.Outcome.next (restoreContext_restores cycles saved ready length ok bound), (State.setSeqState_fields ..).1,
      State.seq_contextRestored _ _, (kept ?_).trans step, (kept ?_).trans pc, (kept ?_).trans commits,
      (State.rdF_congr (kept ?_) 31 31).trans fault, mem, syn⟩
    all_goals
      simp only [Reg.seqStep, Reg.seqPc, Reg.seqCommits, Reg.seqFault, Reg.seqStatus]
      omega
  case clear =>
    intro s ag c path
    exact ⟨_, congrArg Host.Outcome.next (State.csrAccess_served _ _ path), State.clearClusterCounters_zero _⟩

end Sys2Proof.Machine
